-- ==== Sys2Proof/Machine/Tab.lean ====
section
/-! DEFINITION. Sparse tables: the one form in which the model keeps what is indexed by a number (memory bytes, registers,
heads, windows, contexts). A table is a list of (key, value) pairs with strictly rising keys, in which no value equals the
default that an unlisted key reads as, so equal tables are equal data. -/

namespace Sys2Proof

/-- A sparse table; its canonical form is `Tab.wf`. -/
abbrev Tab (α : Type) := List (Nat × α)

/-- The value at key `k`, or the default `d`. -/
def Tab.get {α : Type} (d : α) : Tab α → Nat → α
  | [], _ => d
  | (j, v) :: t, k => if j = k then v else Tab.get d t k

/-- Take every entry of key `k` out. -/
def Tab.erase {α : Type} : Tab α → Nat → Tab α
  | [], _ => []
  | (j, w) :: t, k => if j = k then Tab.erase t k else (j, w) :: Tab.erase t k

/-- Set key `k` to `v`; setting the default removes the entry, so that the form stays canonical. -/
def Tab.set {α : Type} [DecidableEq α] (d : α) : Tab α → Nat → α → Tab α
  | [], k, v => if v = d then [] else [(k, v)]
  | (j, w) :: t, k, v =>
    if k < j then (if v = d then Tab.erase ((j, w) :: t) k else (k, v) :: (j, w) :: t)
    else if j = k then (if v = d then Tab.erase t k else (k, v) :: t)
    else (j, w) :: Tab.set d t k v

/-- Every key of the table is above `lo`, the keys rise strictly, and no value is the default. -/
def Tab.wfAbove {α : Type} [DecidableEq α] (d : α) : Nat → Tab α → Bool
  | _, [] => true
  | lo, (j, v) :: t => decide (lo ≤ j) && decide (v ≠ d) && Tab.wfAbove d (j + 1) t

/-- The canonical form of a table. -/
def Tab.wf {α : Type} [DecidableEq α] (d : α) (t : Tab α) : Bool := Tab.wfAbove d 0 t

/-- Change key `k` by `f`. -/
def Tab.mod {α : Type} [DecidableEq α] (d : α) (t : Tab α) (k : Nat) (f : α → α) : Tab α :=
  Tab.set d t k (f (Tab.get d t k))

/-- Change every listed value by `f` (which must keep the default where it matters); entries that become the default go. -/
def Tab.mapAll {α : Type} [DecidableEq α] (d : α) (f : Nat → α → α) (t : Tab α) : Tab α :=
  (t.map (fun p => (p.1, f p.1 p.2))).filter (fun p => decide (p.2 ≠ d))

end Sys2Proof
end

