-- ==== Sys2Proof/Word.lean ====
section
/-! DEFINITION. The word types of the W128: bytes, 32-bit register words, 64-bit times (R13 to R17). -/

namespace Sys2Proof

/-- A byte (R16). -/
abbrev Byte := BitVec 8

/-- A register word: every BAR0 register is 32 bits wide (R18). -/
abbrev Word := BitVec 32

end Sys2Proof
end

