-- ==== Sys2Proof/Parts/Console.lean ====
section
/-! DEFINITION. The state of the console front end: touch ports, keys, haptics, the mixer and the alarm-tone generator
(R345 to R370, R385). -/

namespace Sys2Proof

/-- Admitted settings of a touch port (R366); the values here are those after reset. -/
structure TouchCfg where
  en : Bool := false
  head : Nat := 0
  div : Nat := 1
  guard : Nat := 2
  d : Nat := 0
  s : Nat := 0
  burst : Nat := 8
  /-- F_TX in units of 100 kHz -/
  ftx : Nat := 10
  touchTh : Nat := 64
  liftTh : Nat := 32
  selfTh : Nat := 48
  waterTh : Nat := 32
  suspectFrac : Nat := 32
  driftScans : Nat := 16
  noiseTh : Nat := 16
  maxHold : Nat := 60
  downN : Nat := 2
  upN : Nat := 2
  openFrac : Nat := 128
  shortFrac : Nat := 128
  periodS : Nat := 1
deriving DecidableEq, Repr

/-- Kind of a touch scan (R348, R358). -/
inductive ScanKind where
  | mutualScan | self | test
deriving DecidableEq, Repr

/-- TCH[p].STATE.STATE (R366). -/
inductive TouchState where
  | off | synced | free
deriving DecidableEq, Repr

/-- The encoding of R366. -/
def TouchState.code : TouchState → Nat
  | .off => 0 | .synced => 1 | .free => 2

/-- State of a reported contact (R359). -/
inductive ContactState where
  | down | move | up | held
deriving DecidableEq, Repr

/-- The encoding of R359. -/
def ContactState.code : ContactState → Nat
  | .down => 0 | .move => 1 | .up => 2 | .held => 3

/-- A contact (R353, R354, R356): ID, position, peak node and delta, since when it is down, evaluations below LIFT_TH. -/
structure Contact where
  id : Nat
  x : Nat
  y : Nat
  z : Nat
  pd : Nat
  ps : Nat
  since : Nat
  below : Nat
  state : ContactState
deriving DecidableEq, Repr

/-- A candidate that is not yet down: position and consecutive evaluations (R353). -/
structure PendingTouch where
  x : Nat
  y : Nat
  count : Nat
deriving DecidableEq, Repr

/-- A touch report record (R359). -/
structure TouchReport where
  flags : Nat
  seq : Nat
  epoch : Nat
  contacts : List Contact
deriving DecidableEq, Repr

/-- A touch port. Electrode tables: mutual node 72 × d + s; self index 0–71 sense, 72–111 drive. -/
structure Touch where
  cfg : TouchCfg := {}
  state : TouchState := .off
  nextSelf : Bool := false
  /-- frames of the sync head since the last scan, and the scan start instant of the latest of them -/
  frames : Nat := 0
  frameAt : Option Nat := none
  /-- the scan in progress: start epoch, kind -/
  scan : Option (Nat × ScanKind) := none
  lastScan : Nat := 0
  /-- the sync head's last frame period, ns, for the free-running timer -/
  freePeriod : Nat := 0
  raw : Tab Nat := []
  base : Tab Nat := []
  selfRaw : Tab Nat := []
  selfBase : Tab Nat := []
  suspectNodes : List Nat := []
  suspectSelf : List Nat := []
  failNodes : List Nat := []
  failD : List Nat := []
  failS : List Nat := []
  /-- scans taken of the four of R351, and the sums of their raw counts -/
  startScans : Nat := 0
  sumMutual : Tab Nat := []
  sumSelf : Tab Nat := []
  mutualScans : Nat := 0
  selfScans : Nat := 0
  testAt : Nat := 0
  tested : Bool := false
  contacts : List Contact := []
  pendings : List PendingTouch := []
  water : Bool := false
  waterEvt : Option Nat := none
  lostEvt : Option Nat := none
  reports : List TouchReport := []
  seq : Nat := 0
  written : Nat := 0
deriving DecidableEq, Repr

/-- Admitted settings of a key (R367). -/
structure KeyCfg where
  en : Bool := false
  port : Nat := 0
  line : Nat := 0
  pressN : Nat := 0
  releaseN : Nat := 0
  pressTh : Nat := 0
  releaseTh : Nat := 0
deriving DecidableEq, Repr

/-- KEY[k].STAT.STATE (R367). -/
inductive KeyState where
  | released | pressed | held | suspect
deriving DecidableEq, Repr

/-- The encoding of R367. -/
def KeyState.code : KeyState → Nat
  | .released => 0 | .pressed => 1 | .held => 2 | .suspect => 3

/-- A key (R357). -/
structure Key where
  cfg : KeyCfg := {}
  state : KeyState := .released
  /-- consecutive measurements toward the next change -/
  count : Nat := 0
  fail : Bool := false
  raw : Nat := 0
  base : Nat := 0
  sum : Nat := 0
  measures : Nat := 0
  since : Nat := 0
deriving DecidableEq, Repr

/-- A local haptic rule (R361, R368): edge 0 PRESS, 1 RELEASE, 2 HELD. -/
structure HapRule where
  en : Bool := false
  key : Nat := 0
  edge : Nat := 0
  wave : Nat := 0
  prio : Nat := 0
  out : BitVec 8 := 0
deriving DecidableEq, Repr

/-- A waveform start that waits for its 125 µs boundary: due time, priority, rule index (64 for HAP.PLAY), wave, outputs. -/
structure HapFire where
  due : Nat
  prio : Nat
  rule : Nat
  wave : Nat
  out : BitVec 8
deriving DecidableEq, Repr

/-- A haptic output (R360, R368): the waveform that plays, its priority, when it started. -/
structure HapOut where
  wave : Option Nat := none
  prio : Nat := 0
  start : Nat := 0
deriving DecidableEq, Repr

/-- A segment of an alarm pattern (R364): frequency in Hz, duration in ms, level in dB below full scale, square shape. -/
structure AlarmSegment where
  freq : Nat
  ms : Nat
  level : Nat
  square : Bool
deriving DecidableEq, Repr

/-- An alarm pattern (R364). -/
structure AlarmPattern where
  segments : List AlarmSegment := []
  repeat_ : Nat := 0
deriving DecidableEq, Repr

/-- The tone being played (R364): its request, pattern and priority; what the pattern held when it last started from its first segment
(R385); the segment in play, the times played through, and when the segment began. -/
structure Tone where
  req : Nat
  pattern : Nat
  prio : Nat
  content : AlarmPattern
  segment : Nat := 0
  rep : Nat := 0
  segStart : Nat
deriving DecidableEq, Repr

/-- The console (R345 to R370). -/
structure Console where
  ports : Tab Touch := []
  keys : Tab Key := []
  keyMaxHold : Nat := 60
  rules : Tab HapRule := []
  fires : List HapFire := []
  outs : Tab HapOut := []
  /-- AUD: enabled ports, the last two input frames (newest first), the last output frame -/
  portEn : BitVec 4 := 0
  ins : List (List Int) := []
  audioOut : List Int := []
  audioFrames : Nat := 0
  patterns : Tab AlarmPattern := []
  alarmSlots : BitVec 32 := 0
  duck : Nat := 40
  /-- accepted requests waiting to be applied: request, value written, receipt stamp -/
  alarmWait : List (Nat × Nat × Nat) := []
  /-- active requests: request, pattern, priority -/
  alarms : List (Nat × Nat × Nat) := []
  tone : Option Tone := none
  /-- a tone waits for the next TDM frame to start -/
  toneDue : Bool := false
deriving DecidableEq, Repr

end Sys2Proof
end

