-- ==== Sys2Proof/Parts/Frame.lean ====
section
/-! DEFINITION. Age tags, stand maps and frame buffers (R81 to R92, R185, R190), blaze checkers (R111 to R115) and the names of
sources. -/

namespace Sys2Proof

/-- STATE of a stand (R83); a reserved value is kept as its number. -/
inductive StandState where
  | never | live | unproven | invalid | held | snag
  | reserved (v : Fin 10)
deriving DecidableEq, Repr

/-- The encoding of R83. -/
def StandState.code : StandState → Nat
  | .never => 0 | .live => 1 | .unproven => 2 | .invalid => 3 | .held => 4 | .snag => 5
  | .reserved v => 6 + v.val

/-- An age tag (R82); times are in µs of device time mod 2^40. -/
structure Tag where
  tile : BitVec 8 := 0
  expired : Bool := false
  mixed : Bool := false
  preroll : Bool := false
  blazed : Bool := false
  traceable : Bool := false
  seq : BitVec 16 := 0
  state : StandState := .never
  src : BitVec 8 := 0
  arrv : BitVec 40 := 0
  capt : BitVec 40 := 0
deriving DecidableEq, Repr

/-- The tag the tag machinery writes when it creates a stand map (R82): NEVER. -/
def Tag.fresh : Tag := {}

/-- The pixel layout of a buffer: chroma subsampling, or RGB (R162, R173), or a surface format (R328). -/
inductive PixKind where
  | yuv420 | yuv422 | rgb | argb8888 | xrgb8888 | rgb565 | argb2101010 | xrgb2101010
deriving DecidableEq, Repr

/-- Format of a buffer: kind, and 10-bit rather than 8-bit storage. -/
structure PixFmt where
  kind : PixKind := .yuv420
  ten : Bool := false
deriving DecidableEq, Repr

/-- What the stream's VUI declares of colour (R175): primaries, transfer, matrix coefficients, full range. -/
structure Vui where
  primaries : Nat := 2
  transfer : Nat := 2
  matrix : Nat := 2
  full : Bool := false
deriving DecidableEq, Repr

/-- A source a window can name (R27). -/
inductive Source where
  | ch (n : Nat) | surf (n : Nat) | sheet (n : Nat)
deriving DecidableEq, Repr

/-- The table key of a source. -/
def Source.key : Source → Nat
  | .ch n => n | .surf n => 1000 + n | .sheet n => 2000 + n

/-- Where a frame lies: the pool of a context, a surface or a sheet. -/
inductive Pool where
  | ctx (n : Nat) | surf (n : Nat) | sheet (n : Nat)
deriving DecidableEq, Repr

/-- A buffer of a pool. -/
structure FrameRef where
  pool : Pool
  buf : Nat
deriving DecidableEq, Repr

/-- Verdict of a blaze checker (R113, R115): OFF while no blaze is set. -/
inductive BlazeVerdict where
  | off | unproven | proven | snag
deriving DecidableEq, Repr

/-- The encoding of BLAZE_STAT.VERDICT (R115). -/
def BlazeVerdict.code : BlazeVerdict → Nat
  | .off => 0 | .unproven => 1 | .proven => 2 | .snag => 3

/-- A frame buffer with its stand map, its compression state and its marks (R81, R185, R190). Samples are keyed by
plane, line and column; an unlisted sample reads `blank` by plane: mid-grey where it has not been written since allocation, a
sheet frame's background (R226). -/
structure Frame where
  inUse : Bool := false
  w : Nat := 0
  h : Nat := 0
  fmt : PixFmt := {}
  vui : Vui := {}
  seq : BitVec 16 := 0
  /-- arrival and capture time, whole µs of device time -/
  arrv : Nat := 0
  capt : Nat := 0
  traceable : Bool := false
  /-- a sheet frame's epoch S_k, ns: its reference time (R226) -/
  epochNs : Nat := 0
  /-- in a pair, the TRACE_OK that every tag of the frame takes (R299) -/
  traceFixed : Option Bool := none
  tags : Tab Tag := []
  /-- the verdict as it stood before this frame's blaze result, whether that result has been taken, and the finished stands
  whose tags wait for it, with their error and arrival time (R288) -/
  verdict0 : Option BlazeVerdict := none
  blazeDone : Bool := false
  waiting : List (Nat × Bool × Nat) := []
  /-- a sheet's further contributor slots: key 4 × stand + slot (R120) -/
  slots : Tab Tag := []
  samples : Tab Nat := []
  /-- blocks written since allocation: key 4 × stand + plane (R190) -/
  written : Tab Bool := []
  /-- the place in decode order of the picture (R118) -/
  order : Nat := 0
  blank : Option (Nat × Nat × Nat) := none
  /-- instant at which the frame became eligible (R86), ns -/
  eligible : Option Nat := none
  markDecode : Bool := false
  markShort : Bool := false
  markLong : Bool := false
  markOutput : Bool := false
  markPending : Bool := false
  markLatent : BitVec 16 := 0
  markDisplay : BitVec 16 := 0
  /-- sheets whose composition still reads this frame (SHEET) -/
  markSheet : BitVec 32 := 0
  markRec : BitVec 16 := 0
  /-- heads and sheets on which the frame has been released or superseded (R34) -/
  doneHeads : BitVec 16 := 0
  doneSheets : BitVec 32 := 0
  /-- sheets that used this frame last and compose from it again while nothing newer is released (R225) -/
  heldSheets : BitVec 32 := 0
  /-- generated to stand in for a missing reference (R192) -/
  generated : Bool := false
  /-- the stream marks it not for output (R186) -/
  noOutput : Bool := false
  /-- its miss has been reported (R35) -/
  missed : Bool := false
  /-- some stand of it is INVALID -/
  anyInvalid : Bool := false
  /-- a tag's capture time was implausible (R87) -/
  implausible : Bool := false
deriving DecidableEq, Repr

/-- A buffer is free when it carries no mark (R185) and no sheet may compose from it again (R225). -/
def Frame.isFree (f : Frame) : Bool :=
  !(f.markDecode || f.markShort || f.markLong || f.markOutput || f.markPending) &&
    f.markLatent == 0 && f.markDisplay == 0 && f.markSheet == 0 && f.markRec == 0 && f.heldSheets == 0

/-- The key of a sample in `Frame.samples`: plane (0 Y or R, 1 Cb or G, 2 Cr or B, 3 alpha), line, column. -/
def sampleKey (plane y x : Nat) : Nat := plane * 2 ^ 32 + y * 2 ^ 16 + x

/-- The blaze a source carries (R111): rectangle in source pixels, period in ms. -/
structure BlazeCfg where
  en : Bool := false
  x : Nat := 0
  y : Nat := 0
  w : Nat := 0
  h : Nat := 0
  period : Nat := 0
deriving DecidableEq, Repr

/-- The checker of R113. -/
structure BlazeState where
  started : Bool := false
  seen : Bool := false
  verdict : BlazeVerdict := .off
  prev : BitVec 32 := 0
  lastChg : BitVec 40 := 0
  chgSeq : BitVec 16 := 0
deriving DecidableEq, Repr

/-- A blaze checker in its start state (R113, R114). -/
def BlazeState.start (c : BlazeCfg) : BlazeState :=
  { verdict := if c.en then .unproven else .off }

end Sys2Proof
end

