-- ==== Sys2Proof/Parts/Grants.lean ====
section
/-! DEFINITION. The states of an instance and what the mediator grants it (R319, R320). -/

namespace Sys2Proof

/-- INST[n].STATE (R319). -/
inductive InstState where
  | free | active | resetting | frozen | restoring
deriving DecidableEq, Repr

/-- The encoding of R319. -/
def InstState.code : InstState → Nat
  | .free => 0 | .active => 1 | .resetting => 2 | .frozen => 3 | .restoring => 4

/-- A safelight whitelist entry (R222, SAFE_WL). -/
structure SafeWl where
  en : Bool := false
  glyphBase : Nat := 0
  glyphCount : Nat := 0
  head : Nat := 0
  pal : Nat := 0
  cx : Nat := 0
  cy : Nat := 0
  cw : Nat := 0
  ch : Nat := 0
deriving DecidableEq, Repr

/-- A vector's message (R317, R322): the address and data of its memory write, and the mediator's MASK bit. -/
structure VecMsg where
  addr : BitVec 64 := 0
  data : BitVec 32 := 0
  mask : Bool := true
deriving DecidableEq, Repr

/-- What the mediator grants an instance (R320). -/
structure Grants where
  pasid : BitVec 20 := 0
  winBase : Nat := 0
  winCount : Nat := 0
  surfQuota : Nat := 0
  pageQuota : Nat := 0
  bwShare : Nat := 0
  vecCount : Nat := 1
  cntVis : BitVec 3 := 0
  chGrant : BitVec 128 := 0
  recGrant : BitVec 16 := 0
  /-- EPOCH_HEAD: bit 4 is NONE -/
  epochHead : BitVec 5 := 16
  drainMs : Nat := 100
  safeWl : List SafeWl := []
  msgs : Tab VecMsg := []
deriving DecidableEq, Repr

end Sys2Proof
end

