-- ==== Sys2Proof/Types.lean ====
section
/-! DEFINITION. The types of command operands: what arrives at the device from outside (packets, messages, work orders,
codec and sink contents), each with the fields the spec gives it. They stand here, below Syntax, because both the commands
and the state speak of them. -/

namespace Sys2Proof

/-! ## Device time (R60 to R78) -/

/-- The data of an Announce message that the best master clock algorithm compares (R61; IEEE 1588-2019 fields). -/
structure Announce where
  gm : BitVec 64
  priority1 : BitVec 8
  clockClass : BitVec 8
  accuracy : BitVec 8
  variance : BitVec 16
  priority2 : BitVec 8
  stepsRemoved : BitVec 16
  utcOffset : BitVec 16
deriving DecidableEq, Repr

/-- A received PTP message (R61): the messages a slave-only ordinary clock acts on. Corrections and `t1`, `t4` are in ns. -/
inductive PtpMsg where
  | announce (a : Announce)
  | sync (seq : BitVec 16) (twoStep : Bool) (t1 : BitVec 64) (correction : Int)
  | followUp (seq : BitVec 16) (t1 : BitVec 64) (correction : Int)
  | delayResp (seq : BitVec 16) (t4 : BitVec 64) (correction : Int)
  | other
deriving DecidableEq, Repr

/-! ## Ethernet and RTP (R125 to R139) -/

/-- What a sequence parameter set says that the device checks (R130, R141, R173, R193). -/
structure ParamSet where
  codec : Nat
  fieldCoded : Bool
  width : Nat
  height : Nat
  profile : Nat
  level : Nat
  highTier : Bool
  tenBit : Bool
  chroma422 : Bool
  dpbSize : Nat
  tileColumns : Nat
  wavefront : Bool
  ctbLog2 : Nat
  primaries : Nat
  transfer : Nat
  matrix : Nat
  fullRange : Bool
deriving DecidableEq, Repr

/-- What one NAL unit carries, as its standard parses it. -/
inductive Nal where
  | paramSet (p : ParamSet)
  /-- a slice, of an IRAP picture or not -/
  | slice (irap : Bool)
  /-- a recovery point SEI with its count (R118) -/
  | recovery (count : Nat)
  /-- a picture timing SEI whose pic_struct names a field (R130) -/
  | fieldPicStruct
  | other
deriving DecidableEq, Repr

/-- A piece of a NAL unit in a packet (R129), with its bytes: fragmentation units split a NAL over packets. -/
structure NalPiece where
  nal : Nal
  first : Bool
  last : Bool
  bytes : List (BitVec 8)
deriving DecidableEq, Repr

/-- The RTP packet a datagram carries (R127). -/
structure Rtp where
  version : Nat
  payloadType : Nat
  ssrc : BitVec 32
  seq : BitVec 16
  ts : BitVec 32
  marker : Bool
  /-- payload bytes after the header, CSRC list, header extension and padding are removed (R127, R137) -/
  payloadLen : Nat
  /-- the type in the payload header: of the NAL unit, aggregation packet or fragmentation unit that the packet is (R129) -/
  ptype : Nat
  pieces : List NalPiece
deriving DecidableEq, Repr

/-- What the UDP payload is. -/
inductive UdpPayload where
  | rtp (r : Rtp)
  /-- an RTCP sender report: NTP time as ns of the sender's clock, RTP time-stamp (R138) -/
  | other
deriving DecidableEq, Repr

/-- A received Ethernet frame (R125, R126, R479): the facts its checks look at, in the checks' order. An address holds its
first octet in bits 7:0 (R17, R148); an IPv4 address has four octets, the rest 0. -/
structure EthFrame where
  length : Nat
  fcsOk : Bool
  vlanTags : Nat
  ipv6 : Bool
  ipHeaderOk : Bool
  fragment : Bool
  udpChecksumZero : Bool
  udpChecksumOk : Bool
  src : BitVec 128
  dst : BitVec 128
  udpPort : BitVec 16
  payload : UdpPayload
deriving DecidableEq, Repr

/-! ## Consumers and pixels -/

/-- Who a frame is released to (R31, R225). -/
inductive Consumer where
  | head (n : Nat) | sheet (n : Nat)
deriving DecidableEq, Repr

/-- A unit with coefficient banks (R216). -/
inductive CoefUnit where
  | head (n : Fin 16) | engine (n : Fin 2)
deriving DecidableEq, Repr

/-- A timing a sink descriptor lists (R261): pixels and lines, active and in all, and the pixel clock in Hz. -/
structure SinkTiming where
  hActive : Nat
  hTotal : Nat
  vActive : Nat
  vTotal : Nat
  pixHz : Nat
deriving DecidableEq, Repr

/-- Ranges a sink descriptor gives (R261): frame rate in Hz, line rate in kHz, the highest pixel clock in Hz. -/
structure SinkRange where
  minV : Nat
  maxV : Nat
  minH : Nat
  maxH : Nat
  maxPix : Nat
deriving DecidableEq, Repr

/-- What a head reads from a sink when it becomes present (R260 to R262): DPCD bytes by address, the EDID, and the timings and ranges
that the descriptor lists. -/
structure SinkRead where
  dpcd : List (Nat × Nat)
  edid : List (BitVec 8)
  timings : List SinkTiming
  ranges : List SinkRange
deriving DecidableEq, Repr

/-- One sample written: plane, line, column, value. -/
structure Sample where
  plane : Nat
  y : Nat
  x : Nat
  v : Nat
deriving DecidableEq, Repr

/-! ## Lusko (R160 to R171) -/

/-- The 40-byte IDENT payload (R169). -/
structure Ident where
  kind : BitVec 8
  lane : BitVec 8
  bondW : BitVec 8
  rates : BitVec 8
  channels : BitVec 8
  version : BitVec 16
  serial : BitVec 64
  txT : BitVec 64
  echo : BitVec 64
  turn : BitVec 32
deriving DecidableEq, Repr

/-- An IDENT packet: its SEQ and its payload (R160, R169). -/
structure IdentPacket where
  seq : BitVec 16
  ident : Ident
deriving DecidableEq, Repr

/-- A bond whose training ends: its lane, how many consecutive valid COM characters every lane has seen, how many characters the lanes lie
apart, how many consecutive ALN columns have come aligned (R156). -/
structure TrainedBond where
  lane : Fin 32
  com : Nat
  skew : Nat
  aln : Nat
deriving DecidableEq, Repr

/-- The payload of a SYNC: the partner's T and RATE (R296). -/
structure PairSync where
  time : BitVec 64
  rate : BitVec 32
deriving DecidableEq, Repr

/-- A FRAME_START payload with the header's FLAGS (R160, R162). -/
structure FrameStart where
  frame : BitVec 16
  format : BitVec 8
  width : BitVec 16
  height : BitVec 16
  capt : BitVec 64
  rateNum : BitVec 16
  rateDen : BitVec 16
  trace : Bool
  hold : Bool
deriving DecidableEq, Repr

/-- Why a Lusko packet is discarded (R160, R161). -/
inductive LuskoBad where
  | crc | length | reservedType | aborted
deriving DecidableEq, Repr

/-! ## Decode (R117, R180 to R193) -/

/-- The damage codes of R192. -/
inductive DecError where
  | none | syntax_ | sliceMissing | refMissing | paramMissing | taintedRef | ecc | limit
deriving DecidableEq, Repr

/-- The codes of R192. -/
def DecError.code : DecError → Nat
  | .none => 0 | .syntax_ => 1 | .sliceMissing => 2 | .refMissing => 3 | .paramMissing => 4 | .taintedRef => 5
  | .ecc => 6 | .limit => 7

/-- The damage for which a core conceals a CTU (R192). -/
def DecError.conceals : DecError → Bool
  | .syntax_ | .sliceMissing | .paramMissing | .limit => true
  | _ => false

/-- One CTU (or macroblock) of a decoded row, as the codec's standard decodes it: its rectangle, the damage that reaches it, the stands
it predicts from (buffer and stand index), the CTUs of the same picture it is intra-predicted from. -/
structure Ctu where
  addr : Nat
  x : Nat
  y : Nat
  w : Nat
  h : Nat
  error : DecError
  /-- buffer of the first entry of reference list 0, which concealment copies (R192) -/
  list0 : Option Nat
  refs : List (Nat × Nat)
  intraFrom : List Nat
deriving DecidableEq, Repr

/-- What the codec's standard says of a picture when it starts: its kind, its reference marking, its size, its colour. -/
structure PicStart where
  irap : Bool
  idr : Bool
  /-- frame_num and MaxFrameNum of an H.264 picture, picture order count of an H.265 one (R118) -/
  frameNum : Nat
  maxFrameNum : Nat
  poc : Int
  /-- leading pictures that are not decodable are not output -/
  cleanIrap : Bool
  shortRef : Bool
  longRef : Bool
  noOutput : Bool
  /-- the standard skips the picture: a RASL picture whose references were never received (R186) -/
  skipped : Bool
  width : Nat
  height : Nat
  tileColumns : Nat
  wavefront : Bool
  /-- references that were never received: stand-in pictures to generate (R192) -/
  missingRefs : Nat
  /-- the gap that misses them is one the H.264 stream declares allowed, which is no error (R192) -/
  gapAllowed : Bool
  /-- buffers of the picture's references (R180), and the first entry of reference list 0 -/
  refs : List Nat
  /-- how many pictures not yet output precede it in output order (R89) -/
  ahead : Nat
  primaries : Nat
  transfer : Nat
  matrix : Nat
  fullRange : Bool
deriving DecidableEq, Repr

/-- What the stream's reference marking and output process do when a picture completes: buffers dropped from short-term and
long-term marking, buffers that become long-term, buffers output, in order. -/
structure DpbAction where
  dropShort : List Nat
  dropLong : List Nat
  toLong : List Nat
  output : List Nat
deriving DecidableEq, Repr

/-- What a decoded row brings (R89, R181, R195): its CTUs and samples, whether it is the last of the part, the marking and
output after the picture, and of the slots it took how many were stalls of each kind (code of R436, slots); 64-byte units read
and written. -/
structure RowDone where
  ctus : List Ctu
  samples : List Sample
  last : Bool
  dpb : DpbAction
  stalls : List (Nat × Nat)
  rd : Nat
  wr : Nat
deriving DecidableEq, Repr

/-! ## Safelight requests (R222, R384) -/

/-- What a safelight request writes: glyph bitmaps (1024 pixels each, row by row), palette entries, cells. A field-network
request names palettes and cells on each head of `heads`. -/
structure SafeRequest where
  heads : BitVec 16
  glyphs : List (Nat × List (BitVec 4))
  /-- palette, entry, value -/
  palette : List (Nat × Nat × BitVec 32)
  /-- cell column, cell row, blink, palette, glyph -/
  cells : List (Nat × Nat × Bool × Nat × Nat)
deriving DecidableEq, Repr

/-- What the safety partition is asked to write (R222, R384): an instance's or the field network's safelight request; an alarm
pattern's REPEAT or segments (frequency, duration, level, shape); an alarm REQUEST; ALARM_SLOTS; DUCK. -/
inductive SafetyWrite where
  | inst (n : Nat) (r : SafeRequest)
  | field (r : SafeRequest)
  | repeat_ (q v : Nat)
  | segments (q : Nat) (l : List (Nat × Nat × Nat × Nat))
  | request (q v : Nat)
  | slots (v : Nat)
  | duck (v : Nat)
deriving DecidableEq, Repr

/-! ## Work orders (R326) -/

/-- A work order's operation and operands (R326). -/
inductive WorkOp where
  | nop
  | surfCreate (format w h maxRate : Nat)
  | surfDestroy (surf : Nat)
  | surfCommit (surf : Nat) (hold : Bool) (x y w h : Nat) (src : BitVec 64) (pitch : Nat)
  | winBatch (entries : List (Nat × BitVec 512))
  | safeReq (r : SafeRequest)
  | blazeSet (surf x y w h period : Nat)
  /-- device to host or host to device; `ring` names the recording whose ring a read names in place of mapped pages -/
  | copy (toHost : Bool) (ring : Option Nat) (dva hva : BitVec 64) (len : Nat)
  | bad (opcode : Nat)
deriving DecidableEq, Repr

/-- How a 4 KiB block of a DMA transfer ends (R329, R333, R335): with the host pages it used and the bytes it moved, no host
translation for a page, a fault on a device page, or a refusal of the protection unit. -/
inductive DmaBlock where
  | data (pages : List (BitVec 64)) (bytes : List (BitVec 8))
  | noTranslation (page : BitVec 64)
  | deviceFault (va : BitVec 36)
  /-- the protection unit refused the access at a device physical address (R395) -/
  | refused (addr : Nat)
deriving DecidableEq, Repr

/-- A work order as read from its queue (R326). -/
structure WorkOrder where
  op : WorkOp
  fence : Bool
  irq : Bool
  tag : BitVec 16
  /-- a host fault keeps the bytes at its SRC from being read (R333) -/
  lost : Bool := false
deriving DecidableEq, Repr

/-- What reading a work order finds beside its 64 bytes (R326): the bytes at its SRC, the safelight request they spell (whose layout the
spec does not give), the recording whose ring a COPY's DVA lies in. -/
structure OrderData where
  src : List (BitVec 8)
  safe : SafeRequest
  ring : Option Nat
  /-- a host fault keeps the bytes at SRC from being read (R333) -/
  lost : Bool
deriving DecidableEq, Repr

/-- A queue entry as the device reads it: its 64 bytes, or none where a host fault keeps them from being read; with what else the host's
memory holds for the order (R325, R326, R333). -/
structure OrderRead where
  entry : Option (List (BitVec 8))
  data : OrderData
deriving DecidableEq, Repr

/-! ## The pair link (R296 to R308) -/

/-- A manifest entry (R300): kind 0 network access unit, 1 capture frame, 2 surface commit, 3 context action. `groups`: per line
group the ARRV offset (none if invalid) and the CRC. -/
structure Manifest where
  kind : Nat
  partial_ : Bool
  srcTrace : Bool
  traceOk : Bool
  hold : Bool
  index : Nat
  mseq : Nat
  arrv : Nat
  capt : Nat
  first : Int
  count : Nat
  present : List Bool
  groups : List (Option Nat × BitVec 32)
  digest : BitVec 32
  op : Nat
  code : Nat
deriving DecidableEq, Repr

/-- A signature block (R306). -/
structure SigBlock where
  head : Nat
  miss : Bool
  gap : Bool
  safeHold : Bool
  lines : Nat
  key : BitVec 32
  epoch : Nat
  frameCrc : BitVec 32
  sigs : List (BitVec 32)
deriving DecidableEq, Repr

/-- What the pair needs of a health report (R308, R312, R447): its time stamp, FAULTS and ISO_HEAD. -/
structure Health where
  time : Nat
  faults : BitVec 32
  isoHead : BitVec 16
deriving DecidableEq, Repr

/-- What the checks of a join compare (R290, R295): SIDE, stepping, firmware image hash and model version; servo LOCKED, the domain
number and the grandmaster it follows. -/
structure JoinFacts where
  sideB : Bool
  stepping : BitVec 32
  firmware : List (BitVec 32)
  model : BitVec 32
  locked : Bool
  domainNumber : Nat
  gm : BitVec 64
deriving DecidableEq, Repr

/-- A surface of an instance in the state transfer (R327): its index, owner, operands and blaze. -/
structure JoinSurf where
  index : Nat
  owner : Nat
  format : Nat
  w : Nat
  h : Nat
  maxRate : Nat
  blaze : BlazeCfg
deriving DecidableEq, Repr

/-- The state transfer at J (R295): the active device's objects (index, started, bytes by subindex), entries without
ACTION, traffic ceilings, window descriptors, its CFG_HASH and
the hash of the blob that carries the configuration; the instances with their state, grants and pages, and their surfaces (R327); blaze checkers by source key: started, seen, PREV, LAST_CHG; window states by head and window: state code,
clean count; its coefficient hashes. -/
structure JoinTransfer where
  insts : List (Nat × InstState × Grants × List (Nat × Nat))
  surfs : List JoinSurf
  objs : List (Nat × Bool × List (Nat × List (BitVec 8)))
  plain : List (Nat × Nat)
  ceilings : List Nat
  wins : List (Nat × BitVec 512)
  cfgHash : List (BitVec 32)
  blobHash : List (BitVec 32)
  checkers : List (Nat × Bool × Bool × BitVec 32 × BitVec 40)
  views : List (Nat × Nat × Nat × Nat)
  coefHash : List (BitVec 32)
deriving DecidableEq, Repr

/-- A CONTROL message (R295, R310, R313, R314): a join request or its answer; the state transfer at J; a takeover notice with its last
queue position; a SWITCHOVER with its acceptance time; an entry to SAFE-HOLD with its time. -/
inductive PairControl where
  | join (f : JoinFacts)
  | transfer (epoch : Nat) (x : JoinTransfer)
  /-- the shadow's answer to the state transfer: whether check 5 passed -/
  | joined (ok : Bool)
  | takeover (pos : Nat)
  | switchover (at_ : Nat)
  | safeHold (at_ : Nat)
deriving DecidableEq, Repr

/-! ## Power and the board record (R427 to R429) -/

/-- Who asks for power tokens (R429). -/
inductive TokenHolder where
  | retrain | lane | decode | sheet | training | recorder
deriving DecidableEq, Repr

/-- The priority column of R429. -/
def TokenHolder.priority : TokenHolder → Nat
  | .retrain => 0 | .lane => 1 | .decode => 2 | .sheet => 3 | .training => 4 | .recorder => 5

/-- The token column of R429. -/
def TokenHolder.size : TokenHolder → Nat
  | .retrain => 8 | .lane => 1 | .decode => 2 | .sheet => 5 | .training => 1 | .recorder => 4

/-- What a board record that passes its check gives (R427, R428). Lists run over lanes, ports, rails and heads; the electrode
references are read from the record's bytes (State.refNode, State.refLine). -/
structure Board where
  autorun : Bool := false
  serial : BitVec 64 := 0
  can0Node : Nat := 0xFF
  can1Node : Nat := 0xFF
  coreBudget : Nat := 0
  step : Nat := 1
  pairEn : Bool := false
  sideB : Bool := false
  laneEq : List (BitVec 32) := []
  /-- ASYM, RXLAT, TXLAT of each port, ps -/
  ptp : List (Int × Nat × Nat) := []
  rails : List (BitVec 32) := []
  /-- HEAD_WIRING bytes -/
  wiring : List Nat := []
  /-- the PCIe subsystem IDs (R316) and the address in RECOVERY (R409) -/
  subsysVendor : BitVec 16 := 0
  subsysId : BitVec 16 := 0
  ipv4 : BitVec 32 := 0
deriving DecidableEq, Repr

/-! ## Object dictionary (R374, R380, R382) -/

/-- How a dictionary access reached the device: a CAN controller, an allowlist entry over UDP with its TID, the mailbox with the instance
on whose behalf it asks, the ROM's Ethernet port in RECOVERY (R409). -/
inductive DictPort where
  | can (n : Fin 2)
  | udp (peer : Fin 8) (tid : Nat)
  | mailbox (obo : Option (Fin 32))
  | rom (src : BitVec 128) (tid : Nat)
deriving DecidableEq, Repr

/-- A UDP datagram of the dictionary (R380): the port and source it came from, whether its header passes R380's checks, its fields. -/
structure UdpMsg where
  port : Fin 4
  ipv6 : Bool
  src : BitVec 128
  udpPort : BitVec 16
  formed : Bool
  tid : BitVec 32
  index : BitVec 16
  sub : BitVec 8
  offset : BitVec 32
  len : BitVec 16
  data : List (BitVec 8)
deriving DecidableEq, Repr

/-! ## Isolation and self-test (R416, R419, R445) -/

/-- A unit that can be isolated (R419). -/
inductive IsoUnit where
  | dec (k : Fin 16) | sheet (e : Fin 2) | rec_ (k : Fin 4) | eth (p : Fin 4) | head (h : Fin 16) | lane (l : Fin 32)
deriving DecidableEq, Repr

/-- Where an uncorrectable error lies (R416, R419): a DRAM zone, on-die SRAM, a unit's own state. -/
inductive EccSite where
  | dram (zone : Nat) | sram | unit (u : IsoUnit)
deriving DecidableEq, Repr

/-! ## Host port and protection -/

/-- A change of a vector mask (R317, R323): a half of VEC_MASK in a doorbell page, MASK of an instance's message, MASK of a global
vector. -/
inductive VecMask where
  | page (hi : Bool) (v : BitVec 32)
  | msg (vec : Fin 64) (v : BitVec 32)
  | global (vec : Fin 64) (v : BitVec 32)
deriving DecidableEq, Repr

/-- A register as a host access names it: a byte offset in BAR0, or in the doorbell page of an instance (R49, R323). -/
inductive RegAt where
  | bar0 (o : Fin 67108864)
  | page (n : Fin 32) (o : Fin 65536)
deriving DecidableEq, Repr

/-- Master classes (R388). -/
inductive BusClass where
  | ctl | safety | dec | sheet | rec_ | head | lusko | hdma | med | inst | dbg | tag
deriving DecidableEq, Repr

/-- The value of R388. -/
def BusClass.code : BusClass → Nat
  | .ctl => 0 | .safety => 1 | .dec => 2 | .sheet => 3 | .rec_ => 4 | .head => 5 | .lusko => 6 | .hdma => 7 | .med => 8
  | .inst => 9 | .dbg => 10 | .tag => 11

/-- A fault of an engine's access (R335, R395): an unmapped page at device-virtual address `va`; or an access at device address `addr` that
the protection unit refuses. -/
inductive EngineFault where
  | page (va : Nat)
  | refused (addr : Nat) (write : Bool)
deriving DecidableEq, Repr

/-- A fault of the access of a unit, one of `n` of its kind. -/
structure UnitFault (n : Nat) where
  unit : Fin n
  fault : EngineFault
deriving DecidableEq, Repr

/-- Why a head's fetch brings no samples (R254): a surface's page is not mapped, at a virtual address; a pool page is refused, at a device
physical address. -/
inductive FetchFault where
  | surface (surf va : Nat)
  | pool (addr : Nat)
deriving DecidableEq, Repr

/-- A prefetch of a window's first lines, and the fault that met it, if any (R248, R249). -/
structure PrefetchRun where
  lines : Nat
  fault : Option FetchFault
deriving DecidableEq, Repr

/-- What a debug access reaches (R398, R400). -/
inductive DbgTarget where
  | keyStore
  | mem (addr : Nat)
deriving DecidableEq, Repr

end Sys2Proof
end

