-- ==== Sys2Proof/Parts/Head.lean ====
section
/-! DEFINITION. The window table, heads, contact sheets and the safelight plane (R199 to R264). -/

namespace Sys2Proof

/-- Admitted head timing and link (R238, R264). `lineP` is P in ns for a locked head. -/
structure HeadCfg where
  hActive : Nat := 0
  hFront : Nat := 0
  hSync : Nat := 0
  hBack : Nat := 0
  vActive : Nat := 0
  vFront : Nat := 0
  vSync : Nat := 0
  vBack : Nat := 0
  hPol : Bool := false
  vPol : Bool := false
  lead : Nat := 0
  /-- MODE: 0 locked, 1 ready-driven; other values are refused (TIMING 0x4B) -/
  mode : Nat := 0
  period : Nat := 0
  t0 : Int := 0
  fpix : Nat := 0
  vMax : Nat := 0
  maxRate : Nat := 0
  maxLanes : Nat := 0
  asyncReq : Bool := false
  bpc10 : Bool := false
  limited : Bool := false
  ssc : Bool := false
deriving DecidableEq, Repr

/-- HEAD[h].STATE (R255). -/
inductive HeadState where
  | off | starting | run | isolated
deriving DecidableEq, Repr

/-- The encoding of R255. -/
def HeadState.code : HeadState → Nat
  | .off => 0 | .starting => 1 | .run => 2 | .isolated => 3

/-- The state of a window (R104), `none` after a reset under R103. -/
inductive WinState where
  | never | live | unproven | invalid | stale | snag | untimed | none
deriving DecidableEq, Repr

/-- The encoding of R104. -/
def WinState.code : WinState → Nat
  | .never => 0 | .live => 1 | .unproven => 2 | .invalid => 3 | .stale => 4 | .snag => 5 | .untimed => 6 | .none => 0xFF

/-- Which rule made a verdict STALE, for the readout (R109). -/
inductive StaleWhy where
  | no | hold | transit | held
deriving DecidableEq, Repr

/-- What a head keeps of one window (R102, R109): state, clean count, the ages and the rule of the last evaluation. -/
structure WinView where
  state : WinState := .none
  count : Nat := 0
  verdict : WinState := .none
  why : StaleWhy := .no
  holdAge : Nat := 0
  transitAge : Nat := 0
  expired : Bool := false
deriving DecidableEq, Repr

/-- A coefficient bank's state (R217, R234). -/
inductive BankState where
  | valid | open_ | sealFailed
deriving DecidableEq, Repr

/-- The encoding of COEF_STAT.STATE (R234). -/
def BankState.code : BankState → Nat
  | .valid => 0 | .open_ => 1 | .sealFailed => 2

/-- The four coefficient banks of a head or a sheet engine (R216, R217). `mem` keys byte offset 0x1000 × bank + offset to a
written 16-bit coefficient; an unlisted one holds the ROM default set. `opened` records a bank whose bytes have been
written since reset. -/
structure Banks where
  state : Tab BankState := []
  mem : Tab (Option (BitVec 16)) := []
  hash : Tab (Option (BitVec 32)) := []
  errTable : Nat := 0
  errPhase : Nat := 0
deriving DecidableEq, Repr

/-- A prefetched candidate of one window (R248): the window, the frame and the descriptor it was fetched for. -/
structure Prefetch where
  win : Nat
  frame : FrameRef
  desc : BitVec 512
deriving DecidableEq, Repr

/-- A source line in a line buffer (R250): the stored samples of one line of a frame, fetched for a window and its descriptor. The
samples are the frame's own, which do not change while a head shows it (R86). -/
structure BufLine where
  win : Nat
  frame : FrameRef
  desc : BitVec 512
  line : Nat
deriving DecidableEq, Repr

/-- The line buffers of a pipe (R250): what scan-out reads, and what is fetched for a frame not yet in scan-out; oldest first. -/
structure PipeBuf where
  main : List BufLine := []
  latent : List BufLine := []
deriving DecidableEq, Repr

/-- The DisplayPort link of a head (R258 to R262). -/
structure Link where
  hpd : Bool := false
  trained : Bool := false
  /-- stream enabled -/
  enabled : Bool := false
  rate : Nat := 0
  lanes : Nat := 0
  down : Bool := false
  insufficient : Bool := false
  training : Bool := false
  /-- the configurations still to try, the one in training first: rate, lanes; training again after a link loss; when training
  was last asked for -/
  tries : List (Nat × Nat) := []
  retrain : Bool := false
  askedAt : Nat := 0
  /-- retrain failures: device times within the last second -/
  fails : List Nat := []
  dpcd : Tab Nat := []
  edid : List (BitVec 8) := []
  /-- the timings and ranges of the descriptor (R261) -/
  timings : List SinkTiming := []
  ranges : List SinkRange := []
  /-- the link is down-spread (R258) -/
  spread : Bool := false
  sinkMismatch : Bool := false
  sinkNoAsync : Bool := false
deriving DecidableEq, Repr

/-- What a latch fixed (R243, R275): epoch and last light in ns, the head's frame count, the background, whether the
SAFE-HOLD presentation is in force, whether the device was in CONFIGURE (no content window is shown), TRACE_OK, the counts of MARK_STAT, and by window the frame, the descriptor (tile windows
in view among them), the state to be drawn and the tags' SRC and SEQ; the latch record of R306. -/
structure Shot where
  epoch : Nat := 0
  lastLight : Nat := 0
  frameNo : BitVec 32 := 0
  bg : BitVec 32 := 0
  safeHold : Bool := false
  starting : Bool := false
  traceOk : Bool := false
  clean : Nat := 0
  marked : Nat := 0
  frames : Tab (Option FrameRef) := []
  desc : Tab (BitVec 512) := []
  views : Tab WinView := []
  record : List Nat := []
  /-- lines from the epoch to line 0 of the frame's active period (R241, R247) -/
  lines : Nat := 0
  /-- the windows evaluated, each with the head windows it is read through; the windows whose tags came late or failed (R96) -/
  evals : List (Nat × List Nat) := []
  late : List Nat := []
  /-- a deadline miss affected the frame; a window read a source in GAP (R306) -/
  miss : Bool := false
  gap : Bool := false
  /-- the safelight plane as it stood at the latch: a frame never shows part of a request (R223) -/
  glyphs : Tab (BitVec 4) := []
  cells : Tab (BitVec 16) := []
  palettes : Tab (BitVec 32) := []
deriving DecidableEq, Repr

/-- A head (R238 to R264). -/
structure Head where
  cfg : HeadCfg := {}
  admitted : Bool := false
  state : HeadState := .off
  /-- the timing waiting for the raster to stop, and the instant it was admitted -/
  nextCfg : Option HeadCfg := none
  admittedAt : Nat := 0
  phaseOk : Bool := true
  phase : Int := 0
  /-- window generation the head reads, SEQ at its last switch, switch due -/
  gen : Bool := false
  genSeq : BitVec 16 := 0
  switchDue : Bool := false
  /-- the epoch of the last latch, its last light (both ns), whether a latched frame waits for scan-out -/
  lastEpoch : Option Nat := none
  lastLight : Nat := 0
  latched : Bool := false
  /-- a latch has been made whose frame is not yet in scan-out -/
  shotDue : Bool := false
  blank : Bool := false
  /-- blank line of the last latch on a ready-driven head (R247); none for the latch line -/
  latchLine : Option Nat := none
  /-- the ready instants that no latch has served; one of a commit with a later acceptance time lies ahead (R246, R302) -/
  readyAt : List Nat := []
  /-- frames released to the head, by source (R31) -/
  released : Tab (Option FrameRef) := []
  /-- frames released to the head that no latch has fixed or passed over yet (R36, R185) -/
  given : List FrameRef := []
  /-- what the last latch fixed, and what is in scan-out -/
  next : Shot := {}
  cur : Shot := {}
  /-- views of head windows (by window) and of tile windows in view (by window) -/
  views : Tab WinView := []
  clean : Nat := 0
  marked : Nat := 0
  evalWin : Nat := 0
  evalTile : Nat := 0
  markEpoch : BitVec 64 := 0
  bg : BitVec 32 := 0
  bgNext : Option (BitVec 32) := none
  /-- SAFE-HOLD presentation in force (R417) and due at the next epoch -/
  safeHold : Bool := false
  safeHoldDue : Option Bool := none
  banks : Banks := {}
  prefetch : List Prefetch := []
  /-- the line buffers, by pipe (R250) -/
  pipes : Tab PipeBuf := []
  specFaults : List Nat := []
  /-- fetch level by pipe (R251, R264): 0 idle, 1 LOW, 2 NORMAL, 3 URGENT; urgent bytes not yet a whole KiB -/
  levels : Tab Nat := []
  overRem : Nat := 0
  /-- latches since the head entered RUN; blank lines of the last completed frame; lines scanned out (R264) -/
  frames : BitVec 32 := 0
  blankLast : Nat := 0
  /-- underrun pixels of the frame in scan-out: (pipe, x, y); the first's pipe, line and device time -/
  underruns : List (Nat × Nat × Nat) := []
  underrunFirst : Option (Nat × Nat × Nat) := none
  tagLate : List Nat := []
  mapCrc : BitVec 32 := 0
  link : Link := {}
  /-- line signatures of the frame in scan-out (R305) -/
  signature : List (BitVec 32) := []
deriving DecidableEq, Repr

/-- Admitted sheet parameters (R224). -/
structure SheetCfg where
  w : Nat := 0
  h : Nat := 0
  format : Nat := 0
  period : Nat := 0
  t0 : Int := 0
  bg : BitVec 32 := 0
deriving DecidableEq, Repr

/-- One tile of the sheet frame in composition. -/
structure TileDone where
  win : Nat
  tag : Tag
  buf : Nat
  stands : Nat
  read : Nat
deriving DecidableEq, Repr

/-- A sheet frame in composition (R226): its epoch, buffer and engine, when composition began and when its present tile's read
began, the tiles still to do in ascending TILE order (window, descriptor, frame), the tiles done. -/
structure Composing where
  epoch : Nat
  seq : BitVec 32
  buf : Nat
  engine : Nat
  start : Option Nat := none
  readAt : Option Nat := none
  todo : List (Nat × BitVec 512 × Option FrameRef)
  done : List (TileDone × BitVec 512) := []
  /-- a page fault stops it: the page of the owner's address space that it waits for -/
  waitPage : Bool := false
  vpn : Nat := 0
deriving DecidableEq, Repr

/-- A contact sheet (R224 to R230, R236). -/
structure Sheet where
  cfg : SheetCfg := {}
  created : Bool := false
  /-- the engine it is placed on, and that of the next epoch where the placement moves it (R228) -/
  engine : Nat := 0
  nextEngine : Nat := 0
  nBufs : Nat := 3
  gen : Bool := false
  switchDue : Bool := false
  released : Tab (Option FrameRef) := []
  /-- sheet frames in composition, oldest first -/
  composing : List Composing := []
  /-- the epoch last acted on, ns; the next SEQ and that of the last eligible frame -/
  lastEpoch : Option Nat := none
  seq : BitVec 32 := 0
  lastSeq : BitVec 32 := 0
  misses : BitVec 32 := 0
  pool : List Nat := []
  bufs : Tab Frame := []
  /-- ledgers by buffer (R122) -/
  ledgers : Tab (List (BitVec 8)) := []
  /-- shed (R420): it composes no more, its last frame stays -/
  stopped : Bool := false
deriving DecidableEq, Repr

/-- A sheet engine (R227, R235). -/
structure Engine where
  state : Nat := 0
  sheet : Option Nat := none
  tile : Nat := 0
  banks : Banks := {}
  /-- while stalled, the counter code of R436: 7 a token, 8 memory, 9 a page -/
  why : Nat := 0
  clockOn : Bool := false
deriving DecidableEq, Repr

/-- The two window generations and the commit protocol (R199, R202 to R207). -/
structure WinTable where
  genA : Tab (BitVec 512) := []
  genB : Tab (BitVec 512) := []
  active : Bool := false
  pending : Bool := false
  ready : Bool := true
  open_ : Bool := false
  salvo : Bool := false
  seq : BitVec 16 := 0
  /-- acceptance time of the pending generation -/
  acceptedAt : Nat := 0
  /-- SEQ that the switch now pending, or the last one, gives (R205) -/
  genSeq : BitVec 16 := 0
  /-- the copy of the new active generation into the shadow is in progress (R205) -/
  copying : Bool := false
  /-- a restore of the shadow is in progress (R206) -/
  restoring : Bool := false
  result : Nat := 0
  done : Bool := false
  /-- salvo generations whose time came while another was pending (R207) -/
  queued : List (List (Nat × BitVec 512)) := []
deriving DecidableEq, Repr

/-- Who asked for a safelight change (R222). -/
inductive SafeBy where
  | field | inst (n : Nat)
deriving DecidableEq, Repr

/-- A validated safelight request waiting for its heads' epochs (R223), with the heads that still have to apply it. -/
structure SafePending where
  by_ : SafeBy
  receipt : Nat
  heads : BitVec 16
  glyphs : List (Nat × List (BitVec 4))
  palette : List (Nat × Nat × BitVec 32)
  cells : List (Nat × Nat × Nat × BitVec 16)
  /-- glyphs have been written by the first head that applied it -/
  counted : Bool
deriving DecidableEq, Repr

/-- The safelight SRAM and its requests (R219 to R223, R237). Keys: glyph pixel 1024 × glyph + 32 × row + x; map cell
65536 × head + 120 × cy + cx; palette 65536 × head + 16 × q + j. -/
structure Safelight where
  glyphs : Tab (BitVec 4) := []
  cells : Tab (BitVec 16) := []
  palettes : Tab (BitVec 32) := []
  /-- cells held by the field network, as of the last validated request -/
  heldCells : Tab Bool := []
  /-- the instance that last wrote a cell (its number + 1), 0 where it is not one (R339) -/
  writers : Tab Nat := []
  queue : List SafePending := []
  glyphCrc : BitVec 32 := 0
deriving DecidableEq, Repr

end Sys2Proof
end

