-- ==== Sys2Proof/Parts/Ingest.lean ====
section
/-! DEFINITION. Contexts, channels and salvos (R125 to R149, R165, R184, R198): the admitted declaration of each and its live
state. -/

namespace Sys2Proof

/-- One path of a network context (R126, R132, R148). -/
structure PathCfg where
  en : Bool := false
  port : Nat := 0
  ipv6 : Bool := false
  srcFilt : Bool := false
  udpPort : BitVec 16 := 0
  dst : BitVec 128 := 0
  src : BitVec 128 := 0
deriving DecidableEq, Repr

/-- The stream declaration of a network context (R129, R148, R173, R177, R198). -/
structure NetDecl where
  codec : Nat := 0
  /-- H.264 packetization-mode, or H.265 sprop-max-don-diff (R129) -/
  packing : Nat := 0
  fieldCoded : Bool := false
  payloadType : Nat := 96
  w : Nat := 0
  h : Nat := 0
  num : Nat := 0
  den : Nat := 0
  kbps : Nat := 0
  holdoff : Nat := 10000
  clockMode : Nat := 0
  gmAny : Bool := false
  domainNumber : BitVec 8 := 0
  srMaxAge : Nat := 10
  mclkOfs : BitVec 32 := 0
  gm : BitVec 64 := 0
  ssrcCfg : BitVec 32 := 0
  pathDownMs : Nat := 200
  retryMs : Nat := 1000
  pathA : PathCfg := {}
  pathB : PathCfg := {}
  profile : Nat := 0
  level : Nat := 0
  highTier : Bool := false
  tenBit : Bool := false
  chroma422 : Bool := false
  /-- declared monochrome or 4:4:4 (R173) -/
  oddChroma : Bool := false
  split : Nat := 0
  k : Nat := 1
  dpbDepth : Nat := 1
  reorder : Nat := 0
deriving DecidableEq, Repr

/-- The declaration of a Lusko context (R162, R164, R166). -/
structure LuskoDecl where
  firstLane : Nat := 0
  chan : Nat := 1
  format : Nat := 0
  w : Nat := 0
  h : Nat := 0
  num : Nat := 0
  den : Nat := 0
  retryMs : Nat := 1000
  /-- first lane and CHAN of the relay bond that forwards it -/
  relay : Option (Nat × Nat) := none
deriving DecidableEq, Repr

/-- KIND of a context (R148). -/
inductive Decl where
  | net (d : NetDecl) | lusko (d : LuskoDecl)
deriving DecidableEq, Repr

/-- A context's state (R140). -/
inductive CtxState where
  | idle | armed | sync | decode | fault
deriving DecidableEq, Repr

/-- The encoding of R140. -/
def CtxState.code : CtxState → Nat
  | .idle => 0 | .armed => 1 | .sync => 2 | .decode => 3 | .fault => 4

/-- A context's fault (R141). -/
inductive CtxFault where
  | none | formatMismatch | overrate | pool
deriving DecidableEq, Repr

/-- The codes of R141. -/
def CtxFault.code : CtxFault → Nat
  | .none => 0 | .formatMismatch => 1 | .overrate => 2 | .pool => 3

/-- Live state of one path (R131, R132, R136). -/
structure PathState where
  up : Bool := false
  lastAccept : Nat := 0
  /-- newest extended sequence number accepted from this path since the context left IDLE or resynchronised -/
  newest : Option Int := none
  pkts : BitVec 32 := 0
deriving DecidableEq, Repr

/-- A packet held in a context's packet buffer (R133). -/
structure Held where
  seq : Int
  ts : BitVec 32
  marker : Bool
  len : Nat
  /-- ingress time, ns of device time -/
  at_ : Nat
  pieces : List NalPiece
deriving DecidableEq, Repr

/-- An access unit forwarded to decode, one job (R134, R180): arrival, capture time and the source-side trace verdict
(R138, R139), whether it was partial, its NAL units that are whole and their bytes, its first sequence number and which of
its packets it holds; in a pair, the TRACE_OK its tags take (R299). -/
structure AccessUnit where
  arrv : Nat
  capt : Nat
  srcTrace : Bool
  partial_ : Bool
  nals : List Nal
  bytes : List (BitVec 8)
  first : Int
  present : List Bool
  traceFixed : Option Bool
deriving DecidableEq, Repr

/-- How far one part of a picture has come: waiting for its job to start, on its core, pre-empted, stopped by a page fault
(R180 to R182), done. -/
inductive PartState where
  | waiting | running | saved | page | done
deriving DecidableEq, Repr

/-- One part of a picture (R177): its core, the next CTU row, its state. -/
structure PicPart where
  part : Nat
  core : Nat
  row : Nat
  state : PartState
  /-- the page of the owner's address space that it waits for after a fault -/
  vpn : Nat := 0
deriving DecidableEq, Repr

/-- A picture being decoded (R180 to R193): its access unit, buffer and parts, the tainted CTUs by address, the pixels
decoded of each stand, the stands a tainted CTU overlaps, its errors and the CTUs they tainted. -/
structure Picture where
  au : AccessUnit
  buf : Nat
  start : PicStart
  parts : List PicPart
  tainted : List Nat := []
  cover : Tab Nat := []
  badStands : List Nat := []
  /-- the errors earliest and latest in the picture, each with its CTU's address (R183, R192) -/
  firstError : Option (Nat × DecError) := none
  lastError : Option (Nat × DecError) := none
  taintCount : Nat := 0
  /-- started in a context that awaits the recovery point it has not reached (R118) -/
  beforeRecovery : Bool := false
  /-- the picture starts a clean decode (R118); its place in decode order, and that of the last picture that did -/
  clean : Bool := false
  order : Nat := 0
  cleanOrder : Nat := 0
deriving DecidableEq, Repr

/-- A Lusko frame that is open (R164): its number, buffer, the arrival of its FRAME_START, the next line in order; the arrival
of the first packet of each line group, µs; the groups that cannot complete any more; the bytes of the group being received;
the complete groups with the CRC-32 of their bytes. -/
structure OpenFrame where
  frame : BitVec 16
  buf : Nat
  at_ : Nat
  start : FrameStart
  srcTrace : Bool
  nextLine : Nat := 0
  arrvs : Tab Nat := []
  bad : List Nat := []
  bytes : List (BitVec 8) := []
  crcs : List (Nat × BitVec 32) := []
  /-- every tag has been written and the frame handed on -/
  finished : Bool := false
deriving DecidableEq, Repr

/-- A stream context (R140): its admitted declaration and its live state. -/
structure Ctx where
  decl : Option Decl := none
  state : CtxState := .idle
  fault : CtxFault := .none
  faultAt : Nat := 0
  /-- the channel it feeds -/
  ch : Option Nat := none
  /-- the prepared salvo that lists it, and the channel its binding names -/
  salvo : Option (Nat × Nat) := none
  /-- started in pre-roll, or feeding a channel -/
  ssrc : Option (BitVec 32) := none
  ssrcLast : Nat := 0
  /-- other SSRCs heard, and when last (R128) -/
  others : List (BitVec 32 × Nat) := []
  pathA : PathState := {}
  pathB : PathState := {}
  held : List Held := []
  /-- the next extended sequence number to forward; the newest accepted from either path -/
  nextSeq : Option Int := none
  newest : Option Int := none
  /-- an access unit has been forwarded since the context left IDLE or resynchronised -/
  unitsOut : Bool := false
  /-- RTP time-stamp of the access unit last forwarded, while nothing has shown where it ends -/
  lastTs : Option (BitVec 32) := none
  /-- whole second of the OVERRATE window and units forwarded in it (R141) -/
  rateSecond : Nat := 0
  rateCount : Nat := 0
  overflowEvt : Option Nat := none
  /-- sender report: NTP time in ns of TAI, RTP time-stamp, device time received (R138) -/
  sr : Option (Int × BitVec 32 × Nat) := none
  srExpired : Bool := false
  srcTrace : Bool := false
  clkDomain : Nat := 0
  /-- the last path differences B − A, ns, newest first, at most 64 (R132) -/
  skews : List Int := []
  /-- packets accepted since the context left IDLE or resynchronised (R131): extended sequence number, path (2 once its
  other copy has come), ingress time -/
  accepted : List (Int × Nat × Nat) := []
  dup : BitVec 32 := 0
  lost : BitVec 32 := 0
  late : BitVec 32 := 0
  auDone : BitVec 32 := 0
  auPartial : BitVec 32 := 0
  discard : BitVec 32 := 0
  overflow : BitVec 32 := 0
  /-- the capture frame that found no free buffer: its packets count in OVERFLOW (R168) -/
  noBuffer : Option (BitVec 16) := none
  /-- decode jobs waiting, oldest first, and the picture on a core -/
  jobs : List AccessUnit := []
  /-- buffers that the picture at the front of the jobs needs: its own and its stand-ins' (R187, R192) -/
  poolNeed : Nat := 1
  picture : Option Picture := none
  /-- the parameter set received last, that of the pictures since the last IRAP picture, and the size in force (R175, R193) -/
  ps : Option ParamSet := none
  active : Option ParamSet := none
  size : Option (Nat × Nat) := none
  /-- taint: set from the first INVALID stand until a clean decode (R118, R119), pictures tainted since -/
  taintRun : Bool := false
  /-- INVALID_BEGIN has been raised since the last clean decode -/
  begun : Bool := false
  taintPics : Nat := 0
  /-- decoding began at a recovery point not yet reached (R118, R140) -/
  awaitRecovery : Bool := false
  /-- frame_num or picture order count of the recovery points that SEI messages name and that are still to come (R118) -/
  recoverAt : List Int := []
  /-- pictures begun, and the number of the last one that began a clean decode (R118) -/
  order : Nat := 0
  cleanOrder : Nat := 0
  /-- pictures output (R89) -/
  picCount : BitVec 16 := 0
  decErr : BitVec 32 := 0
  decLastErr : Nat := 0
  decLastErrSeq : BitVec 16 := 0
  pics : BitVec 32 := 0
  generated : BitVec 32 := 0
  concealed : BitVec 32 := 0
  prerollSlots : BitVec 48 := 0
  /-- how those slots were spent: core and slots (R196) -/
  prerollByCore : Tab Nat := []
  open_ : Option OpenFrame := none
  /-- on the shadow of a pair: closed frames that wait for their manifest entry, and entries that wait for their frame (R301) -/
  closed : List OpenFrame := []
  entries : List Manifest := []
  pool : List Nat := []
  /-- pages of the packet buffer (R137) -/
  packetPool : List Nat := []
  nBufs : Nat := 0
  hold : Nat := 0
  bufs : Tab Frame := []
deriving DecidableEq, Repr

/-- A channel's state (R142). -/
inductive ChState where
  | off | pending | flowing | silent | faulted
deriving DecidableEq, Repr

/-- The encoding of R142. -/
def ChState.code : ChState → Nat
  | .off => 0 | .pending => 1 | .flowing => 2 | .silent => 3 | .faulted => 4

/-- A channel (R25, R142, R149). -/
structure Chan where
  ctx : Option Nat := none
  offset : Nat := 0
  silenceMs : Nat := 1000
  blaze : BlazeCfg := {}
  checker : BlazeState := {}
  state : ChState := .off
  lastEligible : Option Nat := none
  lastArrv : BitVec 40 := 0
  captEvt : Option Nat := none
deriving DecidableEq, Repr

/-- A prepared salvo (R143, R144): its bindings (context, channel), whether it carries a generation (the descriptors), and
the time C of an accepted commit. -/
structure Salvo where
  prepared : Bool := false
  bindings : List (Nat × Nat) := []
  gen : List (Nat × BitVec 512) := []
  hasGen : Bool := false
  commitAt : Option Nat := none
deriving DecidableEq, Repr

end Sys2Proof
end

