-- ==== Sys2Proof/Parts/Event.lean ====
section
/-! DEFINITION. Events and what the device sends: the event kinds of R343 and R449 with their class and code, one event
record, and the outbox of packets, messages and records that leave the device. -/

namespace Sys2Proof

/-- Every event the device raises, by class and code (R343 for INST, R449 for the others). -/
inductive EvKind where
  | chState | chDeadlineMiss | chBlazeSeen | chSnag | chSnagClear | chCaptImplausible
  | ctxState | ctxSsrcChange | ctxPathDown | ctxPathUp | ctxResync | ctxOverflow | ctxClockTrace | ctxClockUntrace | ctxFault | ctxInvalidBegin | ctxHealed | ctxDecError | ctxSizeChange
  | headState | headWinState | headGenSwitch | headTagLate | headPhaseLost | headPhaseOk | headSpecFault | headUnderrun | headHpd | headLinkUp | headLinkDown | headLinkInsufficient | headSinkMismatch | headSinkChange | headSinkNoAsync
  | laneState | laneSlip | laneBondOrder | lanePktErr | lanePartnerChange
  | ethTxtsDrop
  | ptpServoState | ptpStep | ptpStepNeeded | ptpDomainSwitch | ptpWriteRefused | ptpLate | ptpCaptureLoss
  | tchSuspect | tchRebaselined | tchWater | tchSyncLost | tchSyncOk | tchSelftestFail | tchRingLost
  | keyPress | keyRelease | keyHeld | keySuspect | keyRebaselined | keySelftestFail
  | pairState | pairJoinFail | pairSkew | pairCmdLate | pairConfigDiverge | pairGapBegin | pairGapEnd | pairExcused | pairLinkLost | pairDiverge | pairAttributed | pairTakeoverRefused | pairTakeover
  | pwrWake | pwrRailFail | pwrThermalTrip
  | modeState | modeIsolate | modeShed | modeWdWarn | modeBoardInvalid | modeCanBusoff | modeCanBuson | modeSelftestFail | modeHealth | modeTallyLost | modeScanDone
  | instState | instResetDone | instFrozen | instRestored | instResourceRevoked | instFault | instPriTimeout | instDeadlineMiss | instQueueErr | instEvtLost | instBlazeSeen | instSnag | instSnagClear
  | mpuFault | mpuOverlap | mpuPostedNotice | mpuDebugProbed
  | updClaimed | updRefused | updComplete | updTrialBoot | updConfirmed | updTrialFailed | updFallback | updSettingsReset
  | safeReqRefused | safeAlarmOn | safeAlarmOff
  | recExhausted | recDeadlineMiss | recRingDrop | recIdxLost
deriving DecidableEq, Repr

/-- The CLASS of an event (R343) and its CODE within the class (R449). -/
def EvKind.classCode : EvKind → Nat × Nat
  | .chState => (0, 0)
  | .chDeadlineMiss => (0, 1)
  | .chBlazeSeen => (0, 2)
  | .chSnag => (0, 3)
  | .chSnagClear => (0, 4)
  | .chCaptImplausible => (0, 5)
  | .ctxState => (1, 0)
  | .ctxSsrcChange => (1, 1)
  | .ctxPathDown => (1, 2)
  | .ctxPathUp => (1, 3)
  | .ctxResync => (1, 4)
  | .ctxOverflow => (1, 5)
  | .ctxClockTrace => (1, 6)
  | .ctxClockUntrace => (1, 7)
  | .ctxFault => (1, 8)
  | .ctxInvalidBegin => (1, 9)
  | .ctxHealed => (1, 10)
  | .ctxDecError => (1, 11)
  | .ctxSizeChange => (1, 12)
  | .headState => (2, 0)
  | .headWinState => (2, 1)
  | .headGenSwitch => (2, 2)
  | .headTagLate => (2, 3)
  | .headPhaseLost => (2, 4)
  | .headPhaseOk => (2, 5)
  | .headSpecFault => (2, 6)
  | .headUnderrun => (2, 7)
  | .headHpd => (2, 8)
  | .headLinkUp => (2, 9)
  | .headLinkDown => (2, 10)
  | .headLinkInsufficient => (2, 11)
  | .headSinkMismatch => (2, 12)
  | .headSinkChange => (2, 13)
  | .headSinkNoAsync => (2, 14)
  | .laneState => (3, 0)
  | .laneSlip => (3, 1)
  | .laneBondOrder => (3, 2)
  | .lanePktErr => (3, 3)
  | .lanePartnerChange => (3, 4)
  | .ethTxtsDrop => (4, 0)
  | .ptpServoState => (5, 0)
  | .ptpStep => (5, 1)
  | .ptpStepNeeded => (5, 2)
  | .ptpDomainSwitch => (5, 3)
  | .ptpWriteRefused => (5, 4)
  | .ptpLate => (5, 5)
  | .ptpCaptureLoss => (5, 6)
  | .tchSuspect => (6, 0)
  | .tchRebaselined => (6, 1)
  | .tchWater => (6, 2)
  | .tchSyncLost => (6, 3)
  | .tchSyncOk => (6, 4)
  | .tchSelftestFail => (6, 5)
  | .tchRingLost => (6, 6)
  | .keyPress => (7, 0)
  | .keyRelease => (7, 1)
  | .keyHeld => (7, 2)
  | .keySuspect => (7, 3)
  | .keyRebaselined => (7, 4)
  | .keySelftestFail => (7, 5)
  | .pairState => (8, 0)
  | .pairJoinFail => (8, 1)
  | .pairSkew => (8, 2)
  | .pairCmdLate => (8, 3)
  | .pairConfigDiverge => (8, 4)
  | .pairGapBegin => (8, 5)
  | .pairGapEnd => (8, 6)
  | .pairExcused => (8, 7)
  | .pairLinkLost => (8, 8)
  | .pairDiverge => (8, 9)
  | .pairAttributed => (8, 10)
  | .pairTakeoverRefused => (8, 11)
  | .pairTakeover => (8, 12)
  | .pwrWake => (9, 0)
  | .pwrRailFail => (9, 1)
  | .pwrThermalTrip => (9, 2)
  | .modeState => (10, 0)
  | .modeIsolate => (10, 1)
  | .modeShed => (10, 2)
  | .modeWdWarn => (10, 3)
  | .modeBoardInvalid => (10, 4)
  | .modeCanBusoff => (10, 5)
  | .modeCanBuson => (10, 6)
  | .modeSelftestFail => (10, 7)
  | .modeHealth => (10, 8)
  | .modeTallyLost => (10, 9)
  | .modeScanDone => (10, 10)
  | .instState => (11, 0)
  | .instResetDone => (11, 1)
  | .instFrozen => (11, 2)
  | .instRestored => (11, 3)
  | .instResourceRevoked => (11, 4)
  | .instFault => (11, 5)
  | .instPriTimeout => (11, 6)
  | .instDeadlineMiss => (11, 7)
  | .instQueueErr => (11, 8)
  | .instEvtLost => (11, 9)
  | .instBlazeSeen => (11, 10)
  | .instSnag => (11, 11)
  | .instSnagClear => (11, 12)
  | .mpuFault => (12, 0)
  | .mpuOverlap => (12, 1)
  | .mpuPostedNotice => (12, 2)
  | .mpuDebugProbed => (12, 3)
  | .updClaimed => (13, 0)
  | .updRefused => (13, 1)
  | .updComplete => (13, 2)
  | .updTrialBoot => (13, 3)
  | .updConfirmed => (13, 4)
  | .updTrialFailed => (13, 5)
  | .updFallback => (13, 6)
  | .updSettingsReset => (13, 7)
  | .safeReqRefused => (14, 0)
  | .safeAlarmOn => (14, 1)
  | .safeAlarmOff => (14, 2)
  | .recExhausted => (15, 0)
  | .recDeadlineMiss => (15, 1)
  | .recRingDrop => (15, 2)
  | .recIdxLost => (15, 3)

/-- One event record (R343): its kind (CLASS and CODE), the index of its source, the sequence number on this ring, its
device time in ns, and the fields of its payload in the order the rule that raises it names them. -/
structure Event where
  kind : EvKind
  idx : Nat
  seq : Nat
  time : Nat
  payload : List Int
deriving DecidableEq, Repr

/-- The 16-bit SRC of a record: CLASS in bits 15:12, INDEX in bits 11:0 (R343). -/
def EvKind.src (k : EvKind) (idx : Nat) : Nat := (EvKind.classCode k).1 * 4096 + idx % 4096

end Sys2Proof
end

