-- ==== Sys2Proof/Parts/Inst.lean ====
section
/-! DEFINITION. Instances, their grants, rings, work orders, page tables and surfaces, and the host DMA (R316 to R344). -/

namespace Sys2Proof

/-- A work queue of a doorbell page (R323). -/
structure WorkQueue where
  base : BitVec 64 := 0
  size : Nat := 4
  tail : Nat := 0
  head : Nat := 0
  en : Bool := false
  err : Bool := false
  errCode : Nat := 0
deriving DecidableEq, Repr

/-- A completion record (R326). -/
structure Completion where
  tag : BitVec 16
  queue : Nat
  status : Nat
  reason : Nat
  result : Nat
  time : Nat
deriving DecidableEq, Repr

/-- The completion ring (R323, R324): `records` are those not yet consumed, oldest first. -/
structure CompRing where
  base : BitVec 64 := 0
  size : Nat := 4
  head : Nat := 0
  tail : Nat := 0
  en : Bool := false
  vec : Nat := 0
  records : List Completion := []
  signalled : Bool := false
deriving DecidableEq, Repr

/-- The event ring of an instance (R323, R324, R342): `records` are those not yet consumed, oldest first; `lostSince` counts
those discarded since the ring last had space. -/
structure EventRing where
  base : BitVec 64 := 0
  size : Nat := 6
  rd : Nat := 0
  wr : Nat := 0
  en : Bool := false
  vec : Nat := 0
  thresh : Nat := 0
  holdUs : Nat := 0
  records : List Event := []
  signalled : Bool := false
  lost : BitVec 32 := 0
  lostSince : Nat := 0
deriving DecidableEq, Repr

/-- How far a work order has come. -/
inductive WorkStage where
  /-- accepted, not started -/
  | waiting
  /-- a SURF_COMMIT that waits for a free buffer (R329) -/
  | needBuffer
  /-- data is being copied -/
  | copying
  /-- judged in the admission queue (WIN_BATCH) -/
  | queued
deriving DecidableEq, Repr

/-- An accepted work order that is not complete (R325). -/
structure Work where
  id : Nat
  queue : Nat
  order : WorkOrder
  /-- device time at which the device read it, ns -/
  acceptedAt : Nat
  stage : WorkStage := .waiting
  buf : Nat := 0
  /-- bytes copied of the transfer, its length, its due time -/
  done : Nat := 0
  len : Nat := 0
  due : Nat := 0
  /-- waiting for a page request's answer, or for a device page -/
  waitPri : Bool := false
  priPage : BitVec 64 := 0
  waitPage : Bool := false
  /-- the bytes of a commit's rectangle read so far (R300, R329) -/
  read : List (BitVec 8) := []
deriving DecidableEq, Repr

/-- A page request group outstanding (R333, R334). -/
structure PageGroup where
  id : Nat
  work : Nat
  page : BitVec 64
  sentAt : Nat
deriving DecidableEq, Repr

/-- A change accepted and waiting for its change epoch (R320, R336). -/
inductive PendingChange where
  | create (g : Grants)
  | change (g : Grants)
  | revoke (vpn count : Nat)
  | freeze
  | thaw
deriving DecidableEq, Repr

/-- A surface in a save blob (R339): its index, operands, commit count, blaze, and the pixels of its latest committed buffer, which
the mediator copies with the pages. -/
structure SavedSurf where
  index : Nat
  format : Nat
  w : Nat
  h : Nat
  maxRate : Nat
  commits : BitVec 32
  blaze : BlazeCfg
  samples : List Sample
deriving DecidableEq, Repr

/-- What a save blob holds (R339): whether its header and sections are well formed, what its header says of the source, the grants (the
PASID being the target's own), the mapped VPNs, queues and rings, vector masks, surfaces, windows, glyph bitmaps and cells (head,
column, row, cell). -/
structure RestoreBlob where
  formed : Bool
  stepping : Nat
  fwMajor : Nat
  memSize : Nat
  grants : Grants
  vpns : List Nat
  queues : List WorkQueue
  cq : CompRing
  evq : EventRing
  vecMask : BitVec 64
  vecPend : BitVec 64
  surfs : List SavedSurf
  wins : List (Nat × BitVec 512)
  glyphs : List (Nat × List (BitVec 4))
  cells : List (Nat × Nat × Nat × BitVec 16)
deriving DecidableEq, Repr

/-- A save blob in host or device memory: its bytes, and what its sections hold (R339, R340). -/
structure RestoreData where
  bytes : List (BitVec 8)
  blob : RestoreBlob
deriving DecidableEq, Repr

/-- An instance (R319 to R327). -/
structure Inst where
  state : InstState := .free
  grants : Grants := {}
  queues : Tab WorkQueue := []
  /-- the queue whose turn comes next (R325) -/
  turn : Nat := 0
  cq : CompRing := {}
  evq : EventRing := {}
  vecMask : BitVec 64 := 0
  vecPend : BitVec 64 := 0
  works : List Work := []
  nextWork : Nat := 0
  groups : List PageGroup := []
  nextGroup : Nat := 0
  /-- device page table: VPN to pool page + 1, 0 unmapped (R332) -/
  pages : Tab Nat := []
  changes : List (PendingChange × Nat) := []
  draining : Bool := false
  /-- what a drain or squash in progress is for: RESET (with CLEAR), FREEZE -/
  resetClear : Bool := false
  freezing : Bool := false
  /-- a SAVE or RESTORE in progress: the blob length -/
  saving : Option Nat := none
  drainStart : Nat := 0
  result : Nat := 0
  done : Bool := false
  mmuResult : Nat := 0
  mmuDone : Bool := false
  faultVa : BitVec 36 := 0
  faultUnit : Nat := 0
  faultWrite : Bool := false
  faultCount : BitVec 16 := 0
  /-- urgent-overrun bytes not yet a whole KiB (R252) -/
  overRem : Nat := 0
  /-- restored windows that wait for THAW to switch in (R341) -/
  restored : List (Nat × BitVec 512) := []
  /-- the reset in progress is that of a DESTROY (R319) -/
  destroying : Bool := false
  /-- offsets of registers of INST[n] written since the last operation (R322) -/
  staged : List Nat := []
  /-- the restore in progress: its blob (R340) -/
  restoring : Option RestoreBlob := none
  /-- the credit bucket, in tenths of a byte, as it stood at a local count (R331) -/
  credit : Int := 0
  creditAt : Nat := 0
deriving DecidableEq, Repr

/-- A host surface (R328, R329). -/
structure Surface where
  created : Bool := false
  owner : Nat := 0
  format : Nat := 0
  w : Nat := 0
  h : Nat := 0
  maxRate : Nat := 0
  blaze : BlazeCfg := {}
  checker : BlazeState := {}
  /-- VPNs of its pool -/
  pool : List Nat := []
  nBufs : Nat := 0
  bufs : Tab Frame := []
  /-- the buffer of the latest commit -/
  latest : Option Nat := none
  commitSeq : Nat := 0
  /-- commits that failed or were squashed without a buffer: each still takes one to tag it INVALID (R329) -/
  owed : List Work := []
  rateSecond : Nat := 0
  rateCount : Nat := 0
  commits : BitVec 32 := 0
  failed : BitVec 32 := 0
  misses : BitVec 32 := 0
  snags : BitVec 32 := 0
  lastArrv : BitVec 40 := 0
deriving DecidableEq, Repr

end Sys2Proof
end

