-- ==== Sys2Proof/Parts/Lusko.lean ====
section
/-! DEFINITION. Lusko lanes and bonds (R150 to R172), and the decode cores (R176 to R197). -/

namespace Sys2Proof

/-- A lane's state (R155). -/
inductive LaneState where
  | off | down | train | up | deep | wake
deriving DecidableEq, Repr

/-- The encoding of R155. -/
def LaneState.code : LaneState → Nat
  | .off => 0 | .down => 1 | .train => 2 | .up => 3 | .deep => 4 | .wake => 5

/-- The role of a bond (R172, LANE[n].CFG). -/
inductive BondRole where
  | capture | pair | relay | fixture
deriving DecidableEq, Repr

/-- The encoding of LANE[n].CFG.ROLE (R172). -/
def BondRole.code : BondRole → Nat
  | .capture => 0 | .pair => 1 | .relay => 2 | .fixture => 3

/-- An admitted bond, kept at its first lane (R150): width 1, 2 or 4, rate 0 to 2 (3.125, 5.0, 6.25 Gbaud). -/
structure BondCfg where
  en : Bool := false
  width : Nat := 1
  rate : Nat := 0
  role : BondRole := .capture
deriving DecidableEq, Repr

/-- One lane (R155, R172). -/
structure Lane where
  en : Bool := false
  state : LaneState := .off
  /-- first lane and width of its bond -/
  first : Nat := 0
  width : Nat := 1
  rate : Nat := 0
  role : BondRole := .capture
  /-- board-record entry (R158) and the settings in use -/
  eq : BitVec 32 := 0
  txEidle : Bool := false
  rxEidle : Bool := false
  latency : Option Nat := none
  fill : Nat := 16
  fillMin : Nat := 16
  fillMax : Nat := 16
  /-- last IDENT received, the device time of its SOP, and whether it came in this training -/
  ident : Option Ident := none
  identAt : Nat := 0
  identNew : Bool := false
  /-- serial held when the bond was last UP (R165) -/
  serialUp : Option (BitVec 64) := none
  /-- TX_T of the IDENTs sent in this training, at most 3, latest first -/
  identTx : List (BitVec 64) := []
  trainAt : Nat := 0
  wakeAt : Nat := 0
  wakeAsked : Bool := false
  deepAsked : Bool := false
  slipEvt : Option Nat := none
  /-- last SEQ per CHAN received (first lane of a bond) -/
  rxSeq : Tab (BitVec 16) := []
  rxSeqSeen : Tab Bool := []
  txSeq : Tab (BitVec 16) := []
  /-- the transmit direction's columns (R154): local count at column 0, first column free for an SOP, column of the next ALN -/
  txFrom : Nat := 0
  txFree : Nat := 0
  alnNext : Nat := 1024
  /-- device time of the last TIME packet sent; whether none was late since the bond came UP (R164) -/
  lastTime : Option Nat := none
  timeGapOk : Bool := true
deriving DecidableEq, Repr

/-- A decode core, sheet engine, recorder core or DMA: its slot counters (R195, R444), and whether it holds a clock. -/
structure Slots where
  cycles : BitVec 48 := 0
  retired : BitVec 48 := 0
  wasted : BitVec 48 := 0
  front : BitVec 48 := 0
  back : BitVec 48 := 0
  /-- LCT up to which the unit's slots have been counted -/
  since : Nat := 0
  /-- work slots held until the row, tile or block ends (R195, R444) -/
  held : Nat := 0
deriving DecidableEq, Repr

/-- DEC[k].STATE (R197). -/
inductive CoreState where
  | idle | run | stalled | isolated
deriving DecidableEq, Repr

/-- The encoding of DEC[k].STATE (R197). -/
def CoreState.code : CoreState → Nat
  | .idle => 0 | .run => 1 | .stalled => 2 | .isolated => 3

/-- A decode core (R176 to R182). -/
structure Core where
  state : CoreState := .idle
  /-- the running job's context and part -/
  job : Option (Nat × Nat) := none
  /-- jobs pre-empted on this core: contexts, most recent first -/
  saved : List Nat := []
  /-- while stalled, the counter code of R436 of what it waits for: 7 a token, 8 memory, 9 a page, 10 a row above -/
  why : Nat := 0
  clockOn : Bool := false
deriving DecidableEq, Repr

end Sys2Proof
end

