-- ==== Sys2Proof/Parts/Mode.lean ====
section
/-! DEFINITION. The state of the mode machine, the always-on island, the rails, the watchdog and the power tokens
(R412 to R434). -/

namespace Sys2Proof

/-- MODE.STATE.MODE (R412). -/
inductive Mode where
  | standby | recovery | configure | run | shadow | proving | degraded | safeHold
deriving DecidableEq, Repr

/-- The encoding of R412. -/
def Mode.code : Mode → Nat
  | .standby => 0 | .recovery => 1 | .configure => 2 | .run => 3 | .shadow => 4 | .proving => 5 | .degraded => 6
  | .safeHold => 7

/-- MODE.STATE.SH_CAUSE (R416). -/
inductive ShCause where
  | none | operator | partner | memory | latched
deriving DecidableEq, Repr

/-- The encoding of R416. -/
def ShCause.code : ShCause → Nat
  | .none => 0 | .operator => 1 | .partner => 2 | .memory => 3 | .latched => 4

/-- MODE.RESET_CAUSE (R426). -/
inductive ResetCause where
  | powerOn | pin | watchdog | lockstep | software | wake | rail | thermal | recovery
deriving DecidableEq, Repr

/-- The encoding of R426. -/
def ResetCause.code : ResetCause → Nat
  | .powerOn => 0 | .pin => 1 | .watchdog => 2 | .lockstep => 3 | .software => 4 | .wake => 5 | .rail => 6
  | .thermal => 7 | .recovery => 8

/-- Whether a reset of this cause cycles the rails (R426). -/
def ResetCause.cyclesRails : ResetCause → Bool
  | .powerOn | .wake | .rail | .thermal => true
  | _ => false

/-- Where the device stands between power and mode (R413, R424, R461): no VDD_AON; the island in its power-on reset; rails
going up or down; in STANDBY; the ROM's boot decision, which is not a mode; the firmware starting; or up in a mode. -/
inductive Phase where
  | off
  | aonReset
  /-- rail `n` is being raised; `settling` once its power-good was seen -/
  | railUp (n : Nat) (settling : Bool)
  | railDown (n : Nat)
  | standby
  | boot
  | starting
  | up
deriving DecidableEq, Repr

/-- A mode command (R415). -/
inductive ModeCmd where
  | go | goProving | safeHold | leaveSafeHold | sleep | reset
deriving DecidableEq, Repr

/-- What the always-on island keeps through every reset but the removal of VDD_AON (R426). -/
structure Aon where
  rtcSec : Nat := 0
  rtcFrac : Nat := 0
  rtcSet : Bool := false
  /-- the local count at which `rtcSec` and `rtcFrac` held -/
  rtcLct : Nat := 0
  rtcAlarm : BitVec 32 := 0
  wakeEn : BitVec 4 := 1
  /-- PWR.RAIL[n] (R424); the reset value is ROLE 11, MON, 10 ms, 1 ms -/
  rails : Tab (BitVec 32) := []
  debugProbed : Bool := false
  shLatch : Bool := false
  resetCause : ResetCause := .powerOn
deriving DecidableEq, Repr

/-- One pending token request (R430): `left` tokens of it still to be granted, `since` the device time it was raised. -/
structure TokenReq where
  holder : TokenHolder
  unit : Nat
  left : Nat
  since : Nat
deriving DecidableEq, Repr

/-- An accepted GO or GO_PROVING that is waiting for lock (R66, R414). -/
structure GoWait where
  proving : Bool
  acceptedAt : Nat
  /-- TIME.LOCK_WAIT has passed -/
  expired : Bool
deriving DecidableEq, Repr

/-- The mode machine, watchdog, rails and tokens. -/
structure ModeUnit where
  phase : Phase := .boot
  mode : Mode := .configure
  prev : Mode := .standby
  shCause : ShCause := .none
  /-- PROVING_EN at reset release (R414) -/
  strap : Bool := false
  boardOk : Bool := false
  goWait : Option GoWait := none
  /-- side B waits 1 s for PAIR_ACT_IN after GO (R294): the device time of the GO -/
  sideBWait : Option Nat := none
  /-- device time since which the present mode has been in force, and the acceptance time of the SAFE-HOLD entry or exit whose
  presentation heads still have to take (R417) -/
  since : Nat := 0
  shAt : Nat := 0
  isoCore : BitVec 32 := 0
  isoHead : BitVec 16 := 0
  isoLane : BitVec 32 := 0
  lastKick : Nat := 0
  warned : Bool := false
  wakeSrc : BitVec 4 := 0
  /-- wake conditions latched during power-down (R422) -/
  wakeLatched : BitVec 4 := 0
  railEn : BitVec 12 := 0
  railPg : BitVec 12 := 0
  railFail : Bool := false
  trip : Bool := false
  failRail : BitVec 4 := 0
  /-- retries made after a rail failure (R425) -/
  retries : Nat := 0
  /-- a rail-up is due 1 s after a rail failure (R425) -/
  retryDue : Bool := false
  /-- the junction has not yet fallen below 95 degrees after a thermal trip (R425) -/
  hot : Bool := false
  /-- the cause a power-down in progress leads to: none for SLEEP -/
  downCause : Option ResetCause := none
  /-- the cause of the boot a rail-up in progress leads to -/
  upCause : ResetCause := .powerOn
  /-- 20 ms have passed since the last RAIL_EN was deasserted (R463) -/
  discharged : Bool := true
  /-- a rail-up is waiting for the discharge period (R463) -/
  upWaiting : Bool := false
  /-- the failure the next boot reports (R425) -/
  failReport : Option ResetCause := none
  tokPending : List TokenReq := []
  /-- granted and still held: holder, unit, tokens -/
  tokHeld : List (TokenHolder × Nat × Nat) := []
  tokPeak : Nat := 0
deriving DecidableEq, Repr

end Sys2Proof
end

