-- ==== Sys2Proof/Parts/Rec.lean ====
section
/-! DEFINITION. Recordings and recorder cores (R265 to R283). -/

namespace Sys2Proof

/-- Admitted settings of a recording (R266 to R281). -/
structure RecCfg where
  en : Bool := false
  sx : Nat := 1
  sy : Nat := 1
  d : Nat := 1
  k : Nat := 1
  ring : Bool := false
  rtp : Bool := false
  port : Nat := 0
  qpBase : Nat := 30
  qpMax : Nat := 42
  bucketMs : Nat := 1000
  capKbps : Nat := 8000
  gopLen : Nat := 1
  ltrPeriod : Nat := 0
  ringPages : Nat := 1
  idxPages : Nat := 1
  mtu : Nat := 1500
  ssrc : BitVec 32 := 0
  pt : Nat := 96
  dst : BitVec 128 := 0
  udpPort : BitVec 16 := 0
deriving DecidableEq, Repr

/-- A picture of a recording, waiting or in work: what the latch fixed, its flags, its rows. `due` is its due time, ns (R274). -/
structure RecPic where
  shot : Shot
  seq : BitVec 32
  missed : Bool
  idr : Bool
  ltr : Bool
  underrun : Bool
  /-- input buffer, 0 or 1; none for a missed picture -/
  input : Option Nat
  started : Bool
  due : Nat
  /-- reconstruction buffer (R271) -/
  recon : Nat
  /-- bits budget of the picture and QP, fixed at its start -/
  bp : Nat
  qp : Nat
  /-- per tile: next row, bits used, exhausted, filler rows -/
  rows : Tab Nat
  used : Tab Nat
  exhausted : Tab Bool
  notUpdated : Tab (BitVec 64)
  /-- tiles not yet started, pre-empted, and stopped by a page fault -/
  waiting : List Nat
  saved : List Nat
  waitPage : List Nat
  /-- the device-virtual page that the fault named -/
  vpn : Nat := 0
  /-- the core of each tile, fixed when the picture starts (R268) -/
  cores : List (Nat × Nat) := []
  /-- picture order counts of its reference pictures: none of an IDR, else the short-term and the long-term one (R270) -/
  refs : List Nat := []
  /-- key 64 × tile + row: number plus 1 of the picture in which the row was last coded, 0 flat mid-grey (R273) -/
  rowFrom : Tab Nat := []
deriving DecidableEq, Repr

/-- An access unit written to the ring or transmitted (R277, R278). -/
structure RecEntry where
  seq : BitVec 32
  flags : Nat
  qp : Nat
  rowsNu : Nat
  bsPos : Nat
  size : Nat
  shot : Shot
  credit : Nat
  done : Nat
  notUpdated : Tab (BitVec 64)
deriving DecidableEq, Repr

/-- What an access unit says and its bytes (R266, R270, R277): an IDR or a P picture, its order count and those of its references, k slices
of one tile each; CTU size, loop filters across tiles, colour primaries, transfer and matrix codes (1 is BT.709), full range, chroma
sample location. -/
structure RecUnit where
  idr : Bool
  poc : Nat
  refs : List Nat
  slices : Nat
  ctu : Nat := 64
  filterAcross : Bool := false
  primaries : Nat := 1
  transfer : Nat := 1
  matrix : Nat := 1
  fullRange : Bool := false
  chromaLoc : Nat := 1
  /-- last light of the frame, ns -/
  light : Nat
  bytes : List (BitVec 8)
deriving DecidableEq, Repr

/-- A recording. -/
structure Rec where
  cfg : RecCfg := {}
  /-- recording since its last start, and the device time of that start -/
  running : Bool := false
  startAt : Nat := 0
  /-- latches of the head since the recording started (ready-driven) -/
  latches : Nat := 0
  picCount : Nat := 0
  sinceIdr : Nat := 0
  /-- the IDR due was missed and moves to the next captured picture (R274) -/
  idrOwed : Bool := false
  credit : Nat := 0
  pics : List RecPic := []
  inputs : Tab Frame := []
  /-- the reconstruction buffers, 0 to 2, with their marks -/
  recon : Tab Frame := []
  /-- the core of each tile (R268) -/
  cores : List (Nat × Nat) := []
  /-- pool pages, ring pages, index pages -/
  pool : List Nat := []
  ringPool : List Nat := []
  bsWr : BitVec 64 := 0
  bsRd : BitVec 64 := 0
  idxWr : BitVec 32 := 0
  idxRd : BitVec 32 := 0
  index : List RecEntry := []
  /-- left out of the ring until the next IDR that fits (R277) -/
  dropping : Bool := false
  /-- rows of the picture completed last (`RecPic.rowFrom`) -/
  rowFrom : Tab Nat := []
  /-- K after the picture completed last (R283) -/
  creditLast : Nat := 0
  /-- the access unit completed last; those not yet transmitted; when the pacing lets the next one start -/
  unit : Option RecUnit := none
  rtpQueue : List RecUnit := []
  rtpAt : Nat := 0
  rtpSeq : BitVec 16 := 0
  lastSeq : BitVec 32 := 0
  exhausted : BitVec 32 := 0
  missed : BitVec 32 := 0
  dropped : BitVec 32 := 0
  idxLost : BitVec 32 := 0
  rtpDrop : BitVec 32 := 0
  exhaustedEvt : Option Nat := none
  idxLostEvt : Option Nat := none
deriving DecidableEq, Repr

/-- A recorder core (R269, R282): running (recording, part), stalled reason, saved parts. -/
structure RecCore where
  state : Nat := 0
  job : Option (Nat × Nat) := none
  saved : List (Nat × Nat) := []
  why : Nat := 0
  clockOn : Bool := false
deriving DecidableEq, Repr

end Sys2Proof
end

