-- ==== Sys2Proof/Parts/Admission.lean ====
section
/-! DEFINITION. The admitted configuration and the requests to change it (R37 to R47, R374, R383): dictionary objects with their
settings, admitted grants, traffic ceilings, what a request changes and who asked for it. -/

namespace Sys2Proof

/-- The settings of a dictionary object as written: little-endian bytes by subindex; a subindex nothing has written has its
field's default (R372, R383). -/
abbrev Settings := Tab (List (BitVec 8))

/-- A dictionary object that takes an ACTION (R374): whether it has been started, and its settings in force. -/
structure Obj where
  on : Bool := false
  set : Settings := []
deriving DecidableEq, Repr

/-- The kinds of object with an ACTION subindex, by dictionary index (R371, R383). -/
inductive ObjKind where
  | chan (n : Nat) | ctx (n : Nat) | salvo (n : Nat) | bond (l : Nat) | head (h : Nat) | recording (r : Nat) | sheet (n : Nat)
  | touch (p : Nat) | key (k : Nat) | rule (r : Nat) | console | pair
deriving DecidableEq, Repr

/-- A field of an object: its subindex, its size in bytes, its default, the largest value its encoding does not reserve (R383). -/
structure Field where
  sub : Nat
  bytes : Nat
  dflt : Nat := 0
  max : Nat
deriving DecidableEq, Repr

/-- Who placed a request, and so where its verdict goes (R37, R320, R374). -/
inductive Asker where
  | mailbox
  /-- a USDO write on CAN `n` to an entry -/
  | can (n idx sub : Nat)
  /-- UDP: allowlist entry, TID -/
  | udp (peer tid : Nat)
  | winRegs | blobRegs | eccRegs | tallyRegs | modeRegs
  | instRegs (n : Nat) | mmuRegs (n : Nat)
  /-- a work order of an instance, by its number -/
  | work (n id : Nat)
  /-- the device itself: AUTORUN, the settings store, a partner -/
  | device
  /-- forwarded by the shadow of a pair, with the shadow's own asker kept there (R303) -/
  | partner (pos : Nat)
deriving DecidableEq, Repr

/-- An operation on an instance (R319, R322). -/
inductive InstOp where
  | create (g : Grants) | change (g : Grants)
  | reset (squash clear : Bool)
  | freeze
  /-- the length the blob takes, and the buffer -/
  | save (need : Nat) (addr : BitVec 64) (len : Nat)
  /-- the staged PASID and vector messages, and the blob read from the buffer -/
  | restore (pasid : BitVec 20) (msgs : Tab VecMsg) (b : RestoreBlob)
  | thaw | destroy
  /-- a reserved operation -/
  | other
deriving DecidableEq, Repr

/-- One change of the admitted configuration, or an operation judged in the queue. -/
inductive Change where
  /-- APPLY of an object: staged settings laid over those in force (R374) -/
  | apply (idx : Nat) (set : Settings)
  | stop (idx : Nat)
  /-- PREPARE of a salvo: its bindings and generation, and the declarations staged in the same session (R143) -/
  | prepare (k : Nat) (bindings : List (Nat × Nat)) (gen : Option (List (Nat × BitVec 512))) (decls : List (Nat × Settings))
  | commit (k : Nat) (c : Nat)
  | cancel (k : Nat)
  /-- COMMIT of the mediator's shadow generation (R202) -/
  | winCommit
  /-- a window batch, of the dictionary (none) or of an instance (R203, R383) -/
  | winBatch (owner : Option Nat) (entries : List (Nat × BitVec 512))
  /-- an entry without ACTION: index, subindex, value (R374, R383) -/
  | plain (idx sub v : Nat)
  | inst (n : Nat) (op : InstOp)
  | map (n vpn ppn count : Nat)
  | revoke (n vpn count : Nat)
  | surfCreate (n format w h maxRate : Nat)
  | surfDestroy (n surf : Nat)
  | blazeSet (n surf x y w h period : Nat)
  | eccZones (v : BitVec 32)
  /-- a move of ceiling between traffic classes, in GB/s (R46) -/
  | ceiling (src dst gb : Nat)
  /-- the ceilings of a state transfer, as a whole (R295) -/
  | ceilings (l : List Nat)
  | tallyStart (origin period pages : Nat)
  | mode (c : ModeCmd) (key : Nat)
  | pairOp (op : Nat)
  /-- a request to the safety partition (R222, R303, R384) -/
  | safety (w : SafetyWrite)
deriving DecidableEq, Repr

/-- What is known of a blob that has been read, for the BLOB details (R44, R340): the lowest detail that fails, if any; whether it
is signed; the hash of its bytes, by word. -/
structure BlobFacts where
  detail : Option Nat
  signed : Bool
  hash : List (BitVec 32)
deriving DecidableEq, Repr

/-- An admission request (R37, R38): who placed it, when it was received (device time, ns), and its changes, judged as one. With
`blob` set it is judged against the default configuration (R44); with `stored` it is the settings store (R387). -/
structure Request where
  by_ : Asker
  received : Nat
  changes : List Change
  blob : Option BlobFacts := none
  stored : Bool := false
  /-- the instance on whose behalf the mediator writes (R373) -/
  obo : Option Nat := none
deriving DecidableEq, Repr

/-- What the device holds as admitted (R38): objects by dictionary index, the window generation accepted last, the grants of
created instances, the current limits of the traffic classes in GB/s beyond their reset values, ECC zones, entries without
ACTION by 256 × index + subindex (value + 1), the mapped pages of instances by 16384 × instance + VPN (pool page + 1). -/
structure Admitted where
  objs : Tab Obj := []
  wins : Tab (BitVec 512) := []
  grants : Tab (Option Grants) := []
  /-- traffic ceilings in GB/s: 0 decode, 1 sheets, 2 scan-out, 3 recorder, 4 capture, 5 control (R46) -/
  ceilings : List Nat := [45, 28, 50, 7, 20, 5]
  plain : Tab Nat := []
  /-- tally ring pages (R443) -/
  tally : List Nat := []
  /-- pages of the pair retention ring (R304) -/
  retention : List Nat := []
  /-- requests waiting, oldest first -/
  queue : List Request := []
  /-- requests a shadow has forwarded and not yet seen answered, by number (R303) -/
  forwarded : List (Nat × Request) := []
  /-- PAIR queue position of the last request judged (R302) -/
  pos : Nat := 0
  /-- installed memory in GiB and trained rate in MT/s (R45, R46) -/
  memSize : Nat := 0
  memRate : Nat := 0
  /-- reserved zones with inline ECC, bit 0 set (R45) -/
  ecc : BitVec 32 := 1
  /-- the objects as the units have them, and those accepted whose acceptance time has not come: the time, the objects applied, the
  contexts a cancelled salvo stops, all objects (R302) -/
  live : Tab Obj := []
  waiting : List (Nat × List Nat × List Nat × Tab Obj) := []
deriving DecidableEq, Repr

end Sys2Proof
end

