-- ==== Sys2Proof/Parts/Link.lean ====
section
/-! DEFINITION. What arrives on the receive paths, as one type (R125, R160, R296), and the fault injectors that act on it
(R450 to R457). -/

namespace Sys2Proof

/-- What CHAN 3 carries (R302, R303): a request the active device has judged, with its queue position, acceptance time A and reason
code; the verdict of a request the shadow forwarded, by its number. -/
inductive PairCmd where
  | accepted (pos a reason : Nat) (r : Request)
  | verdict (k reason : Nat)
deriving DecidableEq, Repr

/-- A message of the pair link (R296). A forwarded request has the shadow's number; of a fill request it is known whether the fill
share is spent. -/
inductive PairMsg where
  | sync (t : BitVec 64) (rate : BitVec 32)
  | manifest (m : Manifest)
  | command (c : PairCmd)
  | reqFwd (k : Nat) (r : Request)
  | fillReq (ctx mseq : Nat) (share : Bool)
  /-- the whole NAL units of the access unit and its bytes, or a refusal -/
  | fillData (ctx mseq : Nat) (content : Option (List Nal × List (BitVec 8)))
  /-- the samples a surface commit wrote, and whether its bytes are complete -/
  | surfData (surf mseq : Nat) (complete : Bool) (samples : List Sample)
  | signature (b : SigBlock)
  | health (h : Health)
  | control (c : PairControl)
  /-- a reserved CHAN -/
  | reserved
deriving DecidableEq, Repr

/-- The CHAN of a pair message (R296). -/
def PairMsg.chan : PairMsg → Nat
  | .sync .. => 1 | .manifest _ => 2 | .command _ => 3 | .reqFwd .. => 4 | .fillReq .. => 5
  | .fillData .. => 6 | .surfData .. => 7 | .signature _ => 8 | .health _ => 9 | .control _ => 10 | .reserved => 11

/-- What a Lusko packet holds (R160, R162, R169, R171). -/
inductive LuskoBody where
  | ident (i : Ident)
  | linkCtrl (op : Nat)
  | time (t : BitVec 64) (rate : BitVec 32)
  | frameStart (f : FrameStart)
  | videoLine (frame : BitVec 16) (line : Nat) (pixels : List (BitVec 8))
  | frameEnd (frame : BitVec 16) (lines : Nat)
  | pair (m : PairMsg)
  | fixture
  | bad (why : LuskoBad)
deriving DecidableEq, Repr

/-- The TYPE of a packet (R160). -/
def LuskoBody.type : LuskoBody → Nat
  | .ident _ => 0x01 | .linkCtrl _ => 0x02 | .time .. => 0x03 | .frameStart _ => 0x10 | .videoLine .. => 0x11
  | .frameEnd .. => 0x12 | .pair _ => 0x20 | .fixture => 0x30 | .bad _ => 0x00

/-- What a lane carries in one character time (R153): a data byte or a control character; `k286` is the K28.6 of an EIS. -/
inductive Sym where
  | data (b : BitVec 8)
  | com | sop | eop | aln | trn | abt | k286
deriving DecidableEq, Repr

/-- A received packet, with the device time at which its first character reached the ball, ns: an Ethernet frame on a port,
or a Lusko packet on the lane that carried it (the first lane of a bond). -/
inductive RxPacket where
  | eth (port : Nat) (f : EthFrame) (stamp : Nat)
  | lusko (lane chan : Nat) (seq : BitVec 16) (body : LuskoBody) (stamp : Nat)
deriving DecidableEq, Repr

/-- An injector as it was armed (R451, R457). -/
structure Injector where
  armed : Bool := false
  /-- 0 Lusko, 1 Ethernet, 2 pair link -/
  target : Nat := 0
  /-- 0 DROP, 1 CORRUPT, 2 REORDER -/
  action : Nat := 0
  pass : Bool := false
  index : Nat := 0
  sel : Nat := 0
  path : Nat := 0
  all : Bool := false
  start : Nat := 0
  every : Nat := 1
  count : Nat := 1
  param : Nat := 0
  matches_ : Nat := 0
  done : Nat := 0
deriving DecidableEq, Repr

/-- A packet held by REORDER: injector, packet, device time held, matching packets still to come. -/
structure HeldPacket where
  inj : Nat
  packet : RxPacket
  at_ : Nat
  left : Nat
deriving DecidableEq, Repr

/-- An entry of PROV.LOG (R452, R457). -/
structure ProvLog where
  inj : Nat
  action : Nat
  number : Nat
  time : Nat
deriving DecidableEq, Repr

/-- The lane margin scan (R454). The bond, rate and times are those of PROV.SCAN.CFG when it started. -/
structure Scan where
  busy : Bool := false
  done : Bool := false
  fail : Bool := false
  step : Nat := 0
  first : Nat := 0
  width : Nat := 1
  rate : Nat := 0
  dwell : Nat := 100
  txHold : Nat := 15
  /-- the step's retraining is over and the dwell runs since this device time -/
  dwellFrom : Option Nat := none
  /-- character errors of the dwell, by lane of the bond -/
  errs : Tab Nat := []
  /-- key 8 × lane + step -/
  result : Tab (BitVec 32) := []
deriving DecidableEq, Repr

/-- The PROV block. -/
structure Prov where
  injs : Tab Injector := []
  held : List HeldPacket := []
  log : List ProvLog := []
  ovf : Bool := false
  popped : Option ProvLog := none
  scan : Scan := {}
deriving DecidableEq, Repr

end Sys2Proof
end

