-- ==== Sys2Proof/Syntax.lean ====
section
/-! DEFINITION. The commands and events of the W128: one constructor per row of the opcode table. The first operand of each
is the local count LCT, in ns, at which the command or event happens (R53); the others are what comes with it. -/

namespace Sys2Proof

/-- One command or event (spec/opcode_table.json). -/
inductive Instr where
  /-- R38: A queued configuration change reaches the head of the admission queue and is accepted whole or refused whole with a reason code. -/
  | admissionRequestJudge (t : Nat)
  /-- R44: The mediator's APPLY operation in GLB.BLOB_CTRL starts a DMA read of a configuration blob. -/
  | blobApply (t : Nat)
  /-- R44: The blob DMA read ends and the blob is checked and submitted as one admission request against the default configuration. -/
  | blobReadComplete (t : Nat) (data : List (BitVec 8))
  /-- R45: A write to GLB.ECC_ZONES is judged as an admission request and reported in GLB.ECC_RESULT. -/
  | eccZonesWrite (t : Nat) (v : BitVec 32)
  /-- R50: A write to GLB.APERTURE_BASE is ignored if it lies beyond installed memory, and otherwise waits for earlier BAR4 requests to complete. -/
  | apertureBaseWrite (t : Nat) (v : BitVec 32)
  /-- R50: Once every earlier BAR4 request has completed, the new aperture base takes effect. -/
  | apertureBaseSwitch (t : Nat)
  /-- R49: An access to reserved BAR0 space reads 0 or is discarded, and is counted with its offset recorded. -/
  | bar0StrayAccess (t : Nat) (o : Fin 67108864) (write : Bool)
  /-- R50: A BAR4 access reaches DRAM through the aperture after a protection check as a mediator access. -/
  | bar4Access (t : Nat) (o : Fin 268435456) (write : Bool) (n : Nat) (data : List (BitVec 8))
  /-- R19: A write to a register that has no behaviour of its own is applied by its access code, and a write to a locked RWL field is refused. -/
  | registerWrite (t : Nat) (a : RegAt) (v : BitVec 32)
  /-- R19: A read of an RC register returns its value and then clears it. -/
  | registerReadClear (t : Nat) (a : RegAt)
  /-- R31: At a head or sheet epoch, the latest eligible frame of each source whose reference time plus offset has passed is released, and the others are dropped. -/
  | frameRelease (t : Nat) (c : Consumer)
  /-- R243: At a locked head's epoch the head fixes frames, sets LATENT, reads tags and evaluates every window against its budgets. -/
  | latch (t : Nat) (h : Fin 16) (phase : Int) (bad : List Nat)
  /-- R205: At its first epoch at or after acceptance, a head or sheet switches to the newly committed window generation. -/
  | generationSwitch (t : Nat) (c : Consumer)
  /-- R205: After every reader has switched, the copy of the active generation into the shadow ends and READY is set. -/
  | genShadowCopyComplete (t : Nat)
  /-- R307: At E plus CMP_DELAY the signature blocks of both devices are compared, giving one result. -/
  | pairComparison (t : Nat) (h : Fin 16)
  /-- R347: At a sync head's quiet-interval epoch, or on the free-running timer, a touch port starts a mutual, self or test scan. -/
  | touchScanStart (t : Nat) (p : Fin 2)
  /-- R441: At a tally edge every counter latches and a tally record is written to the ring. -/
  | tallyEdge (t : Nat)
  /-- R68: A write to TIME.RATE in HOLD re-anchors native time and sets the hold rate; in any other state it is refused. -/
  | timeRateWrite (t : Nat) (v : BitVec 32)
  /-- R68: A write of TIME.ADJ_HI commits an adjustment: a step in CONFIGURE, a slew in other modes. -/
  | timeAdjCommit (t : Nat) (hi : BitVec 32)
  /-- R63: The HOLD command of TIME.SERVO_CMD puts the servo into HOLD from any state. -/
  | servoHold (t : Nat)
  /-- R63: The RELEASE command takes the servo out of HOLD to ACQUIRE or FREE. -/
  | servoRelease (t : Nat)
  /-- R60: A write to TIME.SNAP latches all eight snapshot values at one LCT value and increments SNAP_SEQ. -/
  | timeSnapshot (t : Nat) (v : BitVec 32)
  /-- R61: A PTP message is received, time-stamped and corrected, and updates the domain's master selection or offset sample. -/
  | ptpMessageRx (t : Nat) (port : Fin 4) (domain : BitVec 8) (msg : PtpMsg)
  /-- R61: Firmware sends a Delay_Req whose egress time-stamp enters the port's transmit time-stamp queue. -/
  | delayReqSend (t : Nat) (port : Fin 4) (d : Fin 2) (seq tag : BitVec 16)
  /-- R63: A domain's Announce receipt timeout or its 8-sync-interval sample timeout expires, and the servo reacts to the loss. -/
  | domainLost (t : Nat) (d : Fin 2)
  /-- R65: The slew residual reaches zero, SLEWING clears and RATE returns to the domain's frequency. -/
  | slewComplete (t : Nat)
  /-- R67: The slew residual falls within TIME.TRACE_TOL and TRACE_OK is set again. -/
  | traceTolReached (t : Nat)
  /-- R67: TIME.HOLDOVER_MAX passes in a HOLD entered by loss, and TRACE_OK clears. -/
  | holdoverExpire (t : Nat)
  /-- R70: Domain A has been STABLE with an unchanged grandmaster for TIME.REVERT_HOLD, and the servo switches back to it by slewing. -/
  | domainRevert (t : Nat)
  /-- R66: TIME.LOCK_WAIT seconds pass without lock while an accepted GO waits in CONFIGURE. -/
  | lockWaitExpire (t : Nat)
  /-- R66: An accepted GO whose lock wait has ended changes the mode, and the mode commands held behind it are judged. -/
  | goModeChange (t : Nat)
  /-- R72: A read of TXQ_W0 pops the oldest transmit time-stamp entry and latches its other words. -/
  | txqPop (t : Nat) (port : Fin 4)
  /-- R74: A write to LTB EPOCH_HI commits the legacy time base's epoch. -/
  | ltbEpochCommit (t : Nat) (n : Fin 4) (hi : BitVec 32)
  /-- R76: A write to TTO START_HI arms a time-triggered output; a past START or an invalid period sets LATE. -/
  | ttoArm (t : Nat) (n : Fin 8) (hi : BitVec 32)
  /-- R75: A write to TTO CTRL sets the mode and ends a LEVEL output. -/
  | ttoCtrlWrite (t : Nat) (n : Fin 8) (v : BitVec 32)
  /-- R75: Device time reaches a programmed edge and the output pulses or changes level. -/
  | ttoEdge (t : Nat) (n : Fin 8)
  /-- R77: PPS_OUT rises at each whole second of device time, gated by TRACE_OK. -/
  | ppsOutEdge (t : Nat)
  /-- R78: A selected edge on TCI or PPS_IN is stamped into its queue, or counted as missed or dropped. -/
  | tciEdge (t : Nat) (n : Fin 5) (rising : Bool)
  /-- R78: A read of TCI TS_LO pops the oldest stamp. -/
  | tciStampPop (t : Nat) (n : Fin 5)
  /-- R92: The tag machinery visits a stand map and sets EXPIRED on tags whose hold age exceeds 2^37 µs. -/
  | expirySweepVisit (t : Nat) (r : FrameRef)
  /-- R225: At a sheet epoch, frames are released to the sheet, its generation and engine may switch, and composition of a sheet frame begins. -/
  | sheetEpoch (t : Nat) (n : Fin 32)
  /-- R226: A sheet engine finishes composing a tile and writes the merged tags of the stands it has completed. -/
  | sheetTileComplete (t : Nat) (e : Fin 2) (stalls : List (Nat × Nat)) (rd wr : Nat)
  /-- R227: A sheet engine's access faults; the tile in progress is discarded and the engine yields. -/
  | sheetPageFault (t : Nat) (u : UnitFault 2)
  /-- R227: Once the page is mapped again, the discarded tile is recomposed from its start. -/
  | sheetFaultResume (t : Nat) (n : Fin 32)
  /-- R125: An Ethernet frame is received, checked and classified to a context, to firmware, or to discard. -/
  | ethDatagramRx (t : Nat) (port : Fin 4) (f : EthFrame) (alt : UdpPayload)
  /-- R125: Firmware sends IGMPv3 or MLDv2 membership reports for enabled multicast paths. -/
  | membershipReportSend (t : Nat)
  /-- R132: A path delivers no accepted packet for PATH_DOWN_MS and goes DOWN. -/
  | pathDownTimeout (t : Nat) (n : Fin 160) (p : Fin 2)
  /-- R134: An access unit's hold-off deadline passes, and it is forwarded as partial with incomplete NAL units removed. -/
  | auDeadline (t : Nat) (n : Fin 160)
  /-- R140: RETRY_MS passes in FAULT and the context returns to ARMED. -/
  | contextRetry (t : Nat) (n : Fin 160)
  /-- R142: No frame has become eligible for SILENCE_MS and the channel becomes SILENT. -/
  | channelSilence (t : Nat) (ch : Fin 128)
  /-- R138: An RTCP sender report gives the NTP and RTP pair used in SR clock mode. -/
  | rtcpSrRx (t : Nat) (n : Fin 160) (ntp : BitVec 64) (rtp : BitVec 32)
  /-- R138: The newest sender report becomes older than SR_MAX_AGE and SR mode falls back to arrival time. -/
  | srAgeExpire (t : Nat) (n : Fin 160)
  /-- R143: The PREPARE action prepares a salvo, starting its listed contexts in pre-roll. -/
  | salvoPrepare (t : Nat) (p : DictPort) (k : Fin 8)
  /-- R144: The COMMIT action schedules a prepared salvo's switch at time C. -/
  | salvoCommit (t : Nat) (p : DictPort) (k : Fin 8)
  /-- R146: The CANCEL action stops the salvo's pre-roll contexts and moves their slots to WASTED. -/
  | salvoCancel (t : Nat) (p : DictPort) (k : Fin 8)
  /-- R144: At C every binding of the salvo takes effect at once and its generation is written into the shadow. -/
  | salvoSwitch (t : Nat) (k : Fin 8)
  /-- R169: At each cruise period, every enabled DOWN lane in the mask is put into TRAIN. -/
  | cruiseSweep (t : Nat)
  /-- R156: A bond is aligned, has exchanged IDENT and is deskewed within 2 ms, and goes UP. -/
  | laneTrainComplete (t : Nat) (b : TrainedBond)
  /-- R155: Training does not finish within 2 ms, and the lane goes DOWN with TRAIN_FAIL counted. -/
  | laneTrainTimeout (t : Nat) (l : Fin 32)
  /-- R152: The elastic buffer fill reaches 0 or 32; the lane goes DOWN and the slip is counted. -/
  | laneSlip (t : Nat) (l : Fin 32) (full : Bool)
  /-- R157: Excess character errors or missing or skewed ALN columns take the bond DOWN. -/
  | laneAlignLoss (t : Nat) (l : Fin 32) (errs : Nat × Nat) (aln : Bool)
  /-- R169: An IDENT packet is received and the partner's identity and the link latency are recorded. -/
  | identRx (t : Nat) (l : Fin 32) (d : IdentPacket) (alt : LuskoBody)
  /-- R171: A LINK_CTRL packet requests, acknowledges or refuses deep off. -/
  | linkCtrlRx (t : Nat) (l : Fin 32) (chan : BitVec 8) (q : BitVec 16) (op : Nat) (alt : LuskoBody)
  /-- R164: A FRAME_START opens a capture frame, closes any frame still open, and may move the context to DECODE or FAULT. -/
  | frameStartRx (t : Nat) (l : Fin 32) (chan : BitVec 8) (q : BitVec 16) (f : FrameStart) (alt : LuskoBody)
  /-- R164: A VIDEO_LINE packet delivers one line of the open frame, and completes a line group and its tags. -/
  | videoLineRx (t : Nat) (l : Fin 32) (chan : BitVec 8) (q : BitVec 16) (frame : BitVec 16) (line : Nat) (px : List (BitVec 8)) (alt : LuskoBody)
  /-- R164: A FRAME_END closes the open capture frame. -/
  | frameEndRx (t : Nat) (l : Fin 32) (chan : BitVec 8) (q : BitVec 16) (frame : BitVec 16) (lines : Nat) (alt : LuskoBody)
  /-- R161: A Lusko packet with a bad CRC, a bad length or a reserved type is discarded and counted. -/
  | luskoBadPacketRx (t : Nat) (l : Fin 32) (chan : BitVec 8) (why : LuskoBad) (errs : List (Nat × Nat))
  /-- R450: A TYPE 0x30 packet is passed to the margin scan in PROVING, and otherwise counted and discarded. -/
  | fixturePacketRx (t : Nat) (l : Fin 32) (chan : BitVec 8) (q : BitVec 16) (alt : LuskoBody)
  /-- R163: Every 1 ms the W128 sends a TIME packet to each capture-bridge bond. -/
  | luskoTimeSend (t : Nat)
  /-- R164: Two declared frame periods pass after a FRAME_START and the open frame is closed. -/
  | captureFrameTimeout (t : Nat) (n : Fin 160)
  /-- R170: A transmitter sends EIS between packets and holds its lines at electrical idle. -/
  | fastIdleEntry (t : Nat) (l : Fin 32) (tx : Bool)
  /-- R170: A transmitter leaves fast idle with a TRN burst, COM columns and an ALN column. -/
  | fastIdleExit (t : Nat) (l : Fin 32) (tx aligned : Bool)
  /-- R171: The device locally requests deep off on a bond by sending DEEP_REQ. -/
  | deepOffRequest (t : Nat) (l : Fin 32)
  /-- R171: A local wake of a DEEP lane requests a power token. -/
  | deepWakeRequest (t : Nat) (l : Fin 32)
  /-- R171: Activity of at least 100 ns on a DEEP lane's squelch detector requests a power token to wake. -/
  | squelchActivity (t : Nat) (l : Fin 32) (ns : Nat)
  /-- R155: A waking lane's directions align and deskew and the lane goes UP. -/
  | laneWakeAligned (t : Nat) (l : Fin 32)
  /-- R155: A waking lane is not aligned 200 µs after its token grant and goes DOWN. -/
  | deepWakeTimeout (t : Nat) (l : Fin 32)
  /-- R180: A runnable decode job whose buffer, references and power token are ready starts on its core. -/
  | decodeJobStart (t : Nat) (n : Fin 160) (part : Fin 4) (start : PicStart) (dpb : DpbAction)
  /-- R89: A core completes a CTU row and writes the tags of the stands it finishes. -/
  | decodeRowComplete (t : Nat) (k : Fin 16) (d : RowDone)
  /-- R182: A decode core's access faults; the row in progress is discarded and the core yields. -/
  | decodePageFault (t : Nat) (u : UnitFault 16)
  /-- R182: Once the page is mapped again, the faulted row is redone from its start. -/
  | decodeFaultResume (t : Nat) (n : Fin 160) (part : Fin 4)
  /-- R187: No buffer has become free by a waiting picture's due time, and the context takes the POOL fault. -/
  | decodePoolTimeout (t : Nat) (n : Fin 160)
  /-- R202: The OPEN operation of GLB.WIN_CTRL lets the mediator edit the shadow generation. -/
  | winGenOpen (t : Nat)
  /-- R202: The COMMIT operation queues the shadow generation as one admission request. -/
  | winGenCommit (t : Nat)
  /-- R202: The ABANDON operation clears OPEN and restores the shadow. -/
  | winGenAbandon (t : Nat)
  /-- R202: A BAR0 write to the window table lands in the shadow while OPEN is set, and is otherwise discarded and counted. -/
  | windowDescriptorWrite (t : Nat) (g : Bool) (w : Fin 8192) (k : Fin 16) (v : BitVec 32)
  /-- R217: The OPEN operation of COEF_CTRL opens a coefficient bank that is not in use. -/
  | coefOpen (t : Nat) (u : CoefUnit) (b : Fin 4)
  /-- R217: The SEAL operation checks an open bank and marks it VALID with its hash, or SEAL_FAILED. -/
  | coefSeal (t : Nat) (u : CoefUnit) (b : Fin 4)
  /-- R217: A write to a coefficient bank is stored while the bank is OPEN, and is otherwise discarded and counted. -/
  | coefWrite (t : Nat) (u : CoefUnit) (b : Fin 4) (k : Fin 1024) (v : BitVec 32)
  /-- R218: A write to HEAD BG_COLOR takes effect at the head's next frame epoch. -/
  | bgColorWrite (t : Nat) (h : Fin 16) (v : BitVec 32)
  /-- R223: A validated safelight request is applied whole at the head's first frame epoch at or after receipt plus 2 ms. -/
  | safelightApply (t : Nat) (h : Fin 16)
  /-- R237: Once per second the CRC of the glyph bank is recomputed. -/
  | glyphCrcRefresh (t : Nat)
  /-- R245: A ready-driven head latches at the first latch opportunity at or after its ready instant. -/
  | readyDrivenLatch (t : Nat) (h : Fin 16) (line : Option Nat) (bad : List Nat)
  /-- R245: A ready-driven head reaches blank line VMAX_EFF minus LEAD without a ready instant and latches anyway. -/
  | forcedLatch (t : Nat) (h : Fin 16) (bad : List Nat)
  /-- R243: Scan-out of latched frames begins at line 0, moving LATENT to DISPLAY, and the writeback tap captures recorded frames. -/
  | scanoutStart (t : Nat) (h : Fin 16) (late : List Nat)
  /-- R306: At the end of a frame's active period, each armed head's signature block is sent to the partner. -/
  | signatureBlockSend (t : Nat) (h : Fin 16) (fetched latent : Nat)
  /-- R248: A pipe starts fetching a candidate frame's first lines ahead of the latch. -/
  | prefetchStart (t : Nat) (h : Fin 16) (w : Fin 8192) (p : PrefetchRun)
  /-- R254: An output pixel's samples are not buffered, and it takes the underrun fill. -/
  | underrunPixel (t : Nat) (h : Fin 16) (pipe : Fin 8) (x y : Nat) (fault : Option FetchFault)
  /-- R251: A pipe's lookahead crosses a watermark and its fetch level changes. -/
  | fetchLevelChange (t : Nat) (h : Fin 16) (pipe : Fin 8) (lines : List (Bool × Nat × Nat)) (spans : List (Nat × Nat))
  /-- R255: At its first epoch at least 2 ms after timing is admitted, a head starts its raster and enters RUN. -/
  | headRasterStart (t : Nat) (h : Fin 16)
  /-- R255: A timing change stops the raster at the end of the active period and resets the head's windows. -/
  | headRasterStop (t : Nat) (h : Fin 16)
  /-- R260: HPD has been high for 100 ms; the head reads the sink's capabilities and descriptor, then trains. -/
  | hpdPresent (t : Nat) (h : Fin 16) (r : SinkRead)
  /-- R260: HPD has been low for 2 ms; the transmitter idles. -/
  | hpdGone (t : Nat) (h : Fin 16)
  /-- R260: An HPD low pulse of 0.5 to 1 ms makes the head read link status and retrain if needed. -/
  | irqHpd (t : Nat) (h : Fin 16) (ok : Bool)
  /-- R259: With its power token granted, a head starts DisplayPort link training. -/
  | linkTrainingAttempt (t : Nat) (h : Fin 16)
  /-- R259: A training attempt ends, with the stream enabled, a fallback, or the link insufficient or down. -/
  | linkTrainingDone (t : Nat) (h : Fin 16) (ok : Bool)
  /-- R260: Once per second while HPD is high, a head in LINK_DOWN retries training. -/
  | linkRetry (t : Nat) (h : Fin 16)
  /-- R269: With its power token granted, a recorder part starts encoding a picture. -/
  | recPictureStart (t : Nat) (r : Fin 16) (part : Fin 4)
  /-- R272: A recorder row is coded, then kept or replaced by filler under the row budget. -/
  | recRowComplete (t : Nat) (k : Fin 4) (coded filler : Nat) (stalls : List (Nat × Nat)) (wasted rd wr : Nat) (body : List (BitVec 8))
  /-- R269: A recorder access faults and the row in progress is discarded. -/
  | recPageFault (t : Nat) (u : UnitFault 4)
  /-- R269: Once the page is mapped again, the discarded recorder row is re-encoded from its start. -/
  | recFaultResume (t : Nat) (r : Fin 16) (part : Fin 4)
  /-- R277: A write to BS_RD_HI commits the bitstream read count, unless it is beyond BS_WR or below its current value. -/
  | bsRdWrite (t : Nat) (r : Fin 16) (hi : BitVec 32)
  /-- R279: A completed access unit is paced out as RTP packets, or dropped if the port cannot queue it. -/
  | recRtpTransmit (t : Nat) (r : Fin 16) (packets bytes : Nat)
  /-- R295: The JOIN command of PAIR.CTRL checks join conditions and schedules a join epoch. -/
  | pairJoin (t : Nat)
  /-- R315: The LEAVE command of PAIR.CTRL returns the device to ALONE. -/
  | pairLeave (t : Nat)
  /-- R314: The SWITCHOVER command hands the active role to a PAIRED shadow at a reference epoch. -/
  | pairSwitchover (t : Nat)
  /-- R291: A rising edge of PAIR_ACT_IN clears OUTSEL and makes an active device yield or rejoin. -/
  | pairActInRise (t : Nat)
  /-- R293: PAIR_ACT_IN has been low for 1 ms at a shadow, which takes over. -/
  | pairActInLost (t : Nat)
  /-- R294: Side B's PAIR_ACT_IN is still low 1 s after GO, and it enters RUN as the active device. -/
  | sideBGoTimeout (t : Nat)
  /-- R294: Once per second an UNPAIRED shadow issues JOIN again. -/
  | joinRetry (t : Nat)
  /-- R295: At join epoch J the configuration and checker state are transferred, and manifests apply from then on. -/
  | joinEpoch (t : Nat)
  /-- R295: PAIR.JOIN_MAX expires; unarmed heads are excluded and the pair becomes PAIRED. -/
  | joinMaxExpire (t : Nat)
  /-- R296: Every 1 ms each device sends a SYNC message with its T and RATE. -/
  | pairSyncSend (t : Nat)
  /-- R297: A SYNC message updates PAIR.SKEW. -/
  | pairSyncRx (t : Nat) (q : BitVec 16) (v : PairSync) (alt : LuskoBody)
  /-- R301: The shadow executes a manifest entry, assembling the access unit from its own packets. -/
  | manifestRx (t : Nat) (q : BitVec 16) (m : Manifest) (alt : LuskoBody)
  /-- R302: The shadow judges a forwarded accepted request and applies it at the same acceptance time A. -/
  | commandRx (t : Nat) (q : BitVec 16) (c : PairCmd) (alt : LuskoBody)
  /-- R303: The active device queues a request forwarded by the shadow and returns its verdict. -/
  | reqFwdRx (t : Nat) (q : BitVec 16) (k : Nat) (r : Request) (alt : LuskoBody)
  /-- R304: The active device answers a shadow's fill request with FILL_DATA or a refusal. -/
  | fillReqRx (t : Nat) (q : BitVec 16) (c : Fin 160) (mseq : Nat) (share : Bool) (alt : LuskoBody)
  /-- R304: The shadow receives the missing bytes of an access unit. -/
  | fillDataRx (t : Nat) (q : BitVec 16) (c : Fin 160) (mseq : Nat) (content : Option (List Nal × List (BitVec 8))) (alt : LuskoBody)
  /-- R304: The shadow receives a surface commit's bytes, and squashes the commit if they are incomplete. -/
  | surfDataRx (t : Nat) (q : BitVec 16) (k : Fin 256) (mseq : Nat) (complete : Bool) (px : List Sample) (alt : LuskoBody)
  /-- R306: A partner's signature block is received and held for comparison. -/
  | signatureRx (t : Nat) (q : BitVec 16) (b : SigBlock) (alt : LuskoBody)
  /-- R308: A partner's health report is received for attribution. -/
  | healthRx (t : Nat) (q : BitVec 16) (h : Health) (alt : LuskoBody)
  /-- R313: A CONTROL message carries a join, a state transfer, a takeover notice or a SAFE-HOLD entry. -/
  | controlRx (t : Nat) (q : BitVec 16) (c : PairControl) (alt : LuskoBody)
  /-- R297: Skew has stayed above SKEW_MAX for 100 ms, and a PAIRED pair becomes UNPAIRED. -/
  | pairSkewTimeout (t : Nat)
  /-- R304: No fill arrives within HOLDOFF, and the shadow forwards a partial access unit and sets GAP. -/
  | fillTimeout (t : Nat) (c : Fin 160)
  /-- R304: The active device's retained bytes of an access unit reach 200 ms and are released. -/
  | fillRetentionExpire (t : Nat)
  /-- R309: Once post-divergence reports are in, or at D plus 100 ms, a divergence is attributed and acted on. -/
  | attributionDecide (t : Nat)
  /-- R310: At takeover epoch X the shadow starts sequencing its own inputs. -/
  | takeoverEpoch (t : Nat)
  /-- R310: At switch instant S the shadow enters RUN and raises PAIR_ACT_OUT and OUTSEL. -/
  | takeoverSwitch (t : Nat)
  /-- R318: A PCIe function level reset squash-resets every instance and resets the host-address registers. -/
  | functionLevelReset (t : Nat)
  /-- R318: A PCIe link-down or PERST assertion acts as a function level reset. -/
  | pcieLinkDown (t : Nat)
  /-- R318: Entry to D3hot acts as a function level reset. -/
  | d3hotEntry (t : Nat)
  /-- R319: The CREATE operation of INST CTRL creates an instance with its staged grants. -/
  | instCreate (t : Nat) (n : Fin 32)
  /-- R320: The CHANGE operation submits staged grant and quota changes. -/
  | instChange (t : Nat) (n : Fin 32)
  /-- R338: The RESET operation stops queue reads and drains or squashes accepted work. -/
  | instReset (t : Nat) (n : Fin 32) (squash clear : Bool)
  /-- R339: The FREEZE operation stops the instance for migration at the change epoch. -/
  | instFreeze (t : Nat) (n : Fin 32)
  /-- R339: The SAVE operation writes a frozen instance's state blob to host memory. -/
  | instSave (t : Nat) (n : Fin 32) (need : Nat)
  /-- R340: The RESTORE operation applies a saved instance blob as one admission request. -/
  | instRestore (t : Nat) (n : Fin 32) (b : RestoreData)
  /-- R319: The THAW operation returns a frozen instance to ACTIVE at the change epoch. -/
  | instThaw (t : Nat) (n : Fin 32)
  /-- R319: The DESTROY operation squashes and clears an instance and frees it. -/
  | instDestroy (t : Nat) (n : Fin 32)
  /-- R320: At the change epoch an accepted grant, quota, revoke or freeze change takes effect. -/
  | instChangeEpoch (t : Nat) (n : Fin 32)
  /-- R338: DRAIN_MS passes during a drain; remaining work is squashed, or a freeze fails. -/
  | instDrainTimeout (t : Nat) (n : Fin 32)
  /-- R338: Drain or squash ends; rings are disabled, RESET_DONE is raised and the instance is ACTIVE. -/
  | resetDrainComplete (t : Nat) (n : Fin 32)
  /-- R339: Accepted work and outstanding page requests are finished, and the instance is FROZEN. -/
  | freezeComplete (t : Nat) (n : Fin 32)
  /-- R339: The save blob has been written and BLOB_LEN is set. -/
  | saveComplete (t : Nat) (n : Fin 32)
  /-- R340: The restore blob has been applied and the instance becomes FROZEN with RESTORED raised. -/
  | restoreComplete (t : Nat) (n : Fin 32)
  /-- R332: The MAP operation maps pool pages into an instance's device page table. -/
  | mmuMap (t : Nat) (n : Fin 32)
  /-- R337: The REVOKE operation schedules pages to be unmapped at the change epoch. -/
  | mmuRevoke (t : Nat) (n : Fin 32)
  /-- R325: An instance writes a work queue TAIL; an overrun sets the queue's error. -/
  | doorbellTailWrite (t : Nat) (n : Fin 32) (q : Fin 4) (v : BitVec 32)
  /-- R327: A write to another doorbell-page field is applied, or discarded and counted as a posted violation. -/
  | doorbellPageWrite (t : Nat) (n : Fin 32) (o : Fin 65536) (v : BitVec 32)
  /-- R325: When the instance is ACTIVE, with room in flight and in the completion ring, the device reads and accepts or refuses the next work order. -/
  | workOrderRead (t : Nat) (n : Fin 32) (q : Fin 4) (x : OrderRead)
  /-- R326: A NOP work order completes with no effect. -/
  | nop (t : Nat) (n : Fin 32) (id : Nat)
  /-- R328: A SURF_CREATE work order creates a surface and its pool. -/
  | surfCreate (t : Nat) (n : Fin 32) (id : Nat)
  /-- R326: A SURF_DESTROY work order removes a surface. -/
  | surfDestroy (t : Nat) (n : Fin 32) (id : Nat)
  /-- R329: A SURF_COMMIT work order sets ARRV and starts copying a surface rectangle into a free buffer. -/
  | surfCommit (t : Nat) (n : Fin 32) (id : Nat)
  /-- R329: A commit that was waiting for a free surface buffer obtains one and starts its copy. -/
  | surfCommitBufferAcquire (t : Nat) (n : Fin 32) (id : Nat)
  /-- R203: A WIN_BATCH work order delivers descriptors and queues a generation commit. -/
  | winBatch (t : Nat) (n : Fin 32) (id : Nat)
  /-- R222: A SAFE_REQ work order submits an instance safelight request for validation against its whitelist. -/
  | safeReq (t : Nat) (n : Fin 32) (id : Nat)
  /-- R111: A BLAZE_SET work order sets or removes a surface's blaze. -/
  | blazeSet (t : Nat) (n : Fin 32) (id : Nat)
  /-- R326: A COPY work order moves data between host memory and device memory. -/
  | copy (t : Nat) (n : Fin 32) (id : Nat)
  /-- R326: A work order with a reserved opcode completes with STATUS BAD_OP. -/
  | badOp (t : Nat) (n : Fin 32) (id : Nat)
  /-- R335: The host DMA completes a 4 KiB block and continues with the transfer of earliest due time. -/
  | dmaBlockComplete (t : Nat) (b : DmaBlock) (stalls : List (Nat × Nat)) (rd wr : Nat)
  /-- R333: A page request group response resumes the transfer on Success, or fails the work order. -/
  | priResponseRx (t : Nat) (n : Fin 32) (g : Nat) (ok : Bool)
  /-- R334: A page request group goes unanswered for the 10 ms timeout and counts as a Response Failure. -/
  | priTimeout (t : Nat) (n : Fin 32) (g : Nat)
  /-- R333: An ATS invalidation request removes cached translations and is completed. -/
  | atsInvalidateRx (t : Nat) (n : Fin 32) (page : BitVec 64) (len : Nat)
  /-- R324: An instance advances CQ.HEAD, re-arming its completion vector. -/
  | cqHeadWrite (t : Nat) (n : Fin 32) (v : BitVec 32)
  /-- R324: An instance advances EVQ.RD, re-arming its event vector and freeing ring space. -/
  | evqRdWrite (t : Nat) (n : Fin 32) (v : BitVec 32)
  /-- R324: HOLD_US passes since the oldest unread record, and the vector is signalled. -/
  | vectorHoldExpire (t : Nat) (n : Fin 32) (ev : Bool)
  /-- R317: A change of an instance or mediator vector mask signals pending vectors whose masks are now both clear. -/
  | vecMaskWrite (t : Nat) (n : Fin 32) (m : VecMask)
  /-- R353: A touch scan ends; baselines, contacts, water and self-tests are evaluated and a report is written. -/
  | touchScanComplete (t : Nat) (p : Fin 2) (nodes lines : List (Nat × Nat))
  /-- R357: A key group ends and key states change by debounce, raising key events. -/
  | keyGroupEnd (t : Nat) (p : Fin 2) (raws : List (Nat × Nat))
  /-- R352: A write to TCH REBASE re-runs power-up baselining on a port. -/
  | touchRebase (t : Nat) (p : Fin 2)
  /-- R361: A write to HAP.PLAY starts a waveform on request under the priority rules. -/
  | hapPlay (t : Nat) (v : BitVec 32)
  /-- R361: At the 125 µs boundary, a fired waveform starts or is dropped by priority. -/
  | hapticWaveformStart (t : Nat)
  /-- R360: A waveform finishes its repeats and the output returns to idle duty. -/
  | hapticWaveformEnd (t : Nat) (n : Fin 8)
  /-- R364: An alarm segment's duration ends and the generator moves to the next segment or repeat. -/
  | alarmSegmentEnd (t : Nat)
  /-- R385: An accepted alarm request becomes active 2 ms after receipt and may start its tone. -/
  | alarmRequestActivate (t : Nat)
  /-- R377: A CAN FD USDO write reaches a dictionary entry. -/
  | usdoDownload (t : Nat) (n : Fin 2) (idx : BitVec 16) (sub : BitVec 8) (first last : Bool) (data : List (BitVec 8))
  /-- R377: A CAN FD USDO read returns a dictionary entry. -/
  | usdoUpload (t : Nat) (n : Fin 2) (idx : BitVec 16) (sub : BitVec 8)
  /-- R380: A UDP READ message from the allowlist reads a dictionary entry. -/
  | udpRead (t : Nat) (m : UdpMsg)
  /-- R380: A UDP WRITE message writes or stages a dictionary entry. -/
  | udpWrite (t : Nat) (m : UdpMsg)
  /-- R382: The READ operation of the host mailbox reads a dictionary entry. -/
  | mbxRead (t : Nat) (cmd : BitVec 32)
  /-- R382: The WRITE operation of the host mailbox writes a dictionary entry. -/
  | mbxWrite (t : Nat) (cmd : BitVec 32)
  /-- R374: An ACTION write of APPLY submits a session's staged values as one admission request. -/
  | objectApply (t : Nat) (p : DictPort) (idx : BitVec 16)
  /-- R374: An ACTION write of STOP returns an object to its default, stopped or disabled. -/
  | objectStop (t : Nat) (p : DictPort) (idx : BitVec 16)
  /-- R383: The window batch ACTION commits a session's staged descriptors as a generation commit. -/
  | windowBatchCommit (t : Nat) (p : DictPort)
  /-- R374: Staged values are discarded after 10 s without a write from their session. -/
  | sessionStageTimeout (t : Nat) (k : Fin 11)
  /-- R377: NMT Start takes the node to operational. -/
  | nmtStart (t : Nat) (n : Fin 2)
  /-- R377: NMT Stop stops the node's communication. -/
  | nmtStop (t : Nat) (n : Fin 2)
  /-- R377: NMT Reset Communication resets only that node's communication state. -/
  | nmtResetCommunication (t : Nat) (n : Fin 2)
  /-- R377: NMT Reset Node resets only that node's communication state and never the device. -/
  | nmtResetNode (t : Nat) (n : Fin 2)
  /-- R377: The node produces a heartbeat at the period in 0x1017. -/
  | heartbeatSend (t : Nat) (n : Fin 2)
  /-- R379: A fixed TPDO is sent on a content change or on its event timer, subject to its inhibit time. -/
  | tpdoTransmit (t : Nat) (n : Fin 2) (k : Fin 3)
  /-- R377: A CAN controller goes bus-off and raises CAN_BUSOFF. -/
  | busOffEntry (t : Nat) (n : Fin 2)
  /-- R377: A CAN controller recovers from bus-off and raises CAN_BUSON. -/
  | busOffRecovery (t : Nat) (n : Fin 2)
  /-- R378: An LSS switch state selective command selects the node by its identity. -/
  | lssSwitchStateSelective (t : Nat) (n : Fin 2) (vendor product revision serial : BitVec 32)
  /-- R378: An LSS configure node-ID command sets the node-ID. -/
  | lssConfigureNodeId (t : Nat) (n : Fin 2) (id : BitVec 8)
  /-- R378: An LSS configure bit timing command sets the bit rates. -/
  | lssConfigureBitTiming (t : Nat) (n : Fin 2) (nominal data : BitVec 8)
  /-- R378: An LSS store configuration command saves the LSS settings in their own flash area. -/
  | lssStoreConfiguration (t : Nat) (n : Fin 2)
  /-- R386: Writing the store signature to 0x1010:01 starts storing the settings to flash. -/
  | storeAll (t : Nat) (p : DictPort) (v : BitVec 32)
  /-- R386: A settings store finishes in its alternate flash area. -/
  | storeComplete (t : Nat)
  /-- R387: Writing the load signature to 0x1011:01 makes the next boot use defaults. -/
  | restoreDefaults (t : Nat) (p : DictPort) (v : BitVec 32)
  /-- R387: In CONFIGURE the device applies the newer valid stored settings, or falls back to defaults. -/
  | settingsLoad (t : Nat)
  /-- R384: Completing a write of 0x6000:02 requests storing a glyph bitmap. -/
  | glyphBitmapRequest (t : Nat) (p : DictPort) (data : List (BitVec 8))
  /-- R384: Completing a write of 0x6001:03 requests setting 16 palette entries. -/
  | paletteEntriesRequest (t : Nat) (p : DictPort) (data : List (BitVec 8))
  /-- R384: Writing 1 to 0x6002:10 requests filling the staged cell rectangle on the masked heads. -/
  | cellFillRequest (t : Nat) (p : DictPort)
  /-- R384: A write to an alarm REQUEST entry starts or ends an alarm request. -/
  | alarmRequestWrite (t : Nat) (p : DictPort) (q : Fin 16) (v : BitVec 16)
  /-- R390: A CTL write to a region descriptor is applied unless it would create an overlap or the descriptor is locked. -/
  | mpuRegionWrite (t : Nat) (n : Fin 256) (j : Fin 4) (v : BitVec 32)
  /-- R393: A write of MPU.EVID_SCRUB zeroes an unheld evidence granule and clears its bit. -/
  | evidenceScrub (t : Nat) (g : Fin 8388608) (tags : List (FrameRef × Nat))
  /-- R396: At the end of each 1 ms window with refused posted writes, a POSTED_NOTICE is raised per requester. -/
  | postedNoticeWindow (t : Nat)
  /-- R400: A debug master access is checked, with protected areas refused on production parts. -/
  | debugAccess (t : Nat) (write : Bool) (target : DbgTarget) (n : Nat) (data : List (BitVec 8))
  /-- R405: The BEGIN operation of UPD.CTRL starts a DMA read of an image from the mediator's buffer. -/
  | updBegin (t : Nat)
  /-- R404: The ABORT operation ends the source's own update claim, leaving the target slot EMPTY. -/
  | updAbort (t : Nat) (k : Fin 13)
  /-- R405: A chunk of an image arrives from a source and is staged or programmed into the target slot. -/
  | imageChunkRx (t : Nat) (k : Fin 13) (data : List (BitVec 8))
  /-- R402: An image header's last byte arrives; it is checked, and on success claims the update. -/
  | imageHeaderComplete (t : Nat) (k : Fin 13)
  /-- R403: An image's last byte is programmed and verified, and the slot becomes PENDING or stays EMPTY. -/
  | imagePayloadComplete (t : Nat) (k : Fin 13) (readBack recoveryN : Bool)
  /-- R404: A claim receives no data for UPD.IDLE_S and ends with TIMEOUT. -/
  | updateIdleTimeout (t : Nat)
  /-- R407: After a reset the ROM chooses a slot to boot or enters RECOVERY. -/
  | romBoot (t : Nat) (recoveryN provingEn okA okB : Bool)
  /-- R408: A trial image completes CONFIRM_MIN in RUN or SHADOW without fault and becomes GOOD. -/
  | trialConfirm (t : Nat)
  /-- R414: The GO command leaves CONFIGURE for RUN, SHADOW or SAFE-HOLD, after the lock wait. -/
  | go (t : Nat)
  /-- R414: The GO_PROVING command leaves CONFIGURE for PROVING when the strap permits it. -/
  | goProving (t : Nat)
  /-- R416: The SAFE_HOLD command enters SAFE-HOLD and sets the latch. -/
  | safeHold (t : Nat)
  /-- R418: The LEAVE_SAFE_HOLD command returns to the previous mode and clears the latch. -/
  | leaveSafeHold (t : Nat)
  /-- R423: The SLEEP command idles outputs, brings the rails down and enters STANDBY. -/
  | sleep (t : Nat) (key : BitVec 16)
  /-- R426: The RESET command resets the device with cause SOFTWARE. -/
  | reset (t : Nat) (key : BitVec 16)
  /-- R417: At a head's first epoch after SAFE-HOLD entry or exit, its presentation changes. -/
  | safeHoldApply (t : Nat) (h : Fin 16)
  /-- R421: Firmware kicks the safety pair's watchdog. -/
  | watchdogKick (t : Nat)
  /-- R421: The kick gap passes WARN_MS, raising WD_WARN and failing any trial image. -/
  | watchdogWarn (t : Nat)
  /-- R421: The kick gap passes EXPIRE_MS; PAIR_ACT_OUT falls and the device resets with cause WATCHDOG. -/
  | watchdogExpire (t : Nat)
  /-- R421: The safety pair's cores disagree and the device resets at once with cause LOCKSTEP. -/
  | lockstepMismatch (t : Nat)
  /-- R422: An enabled wake pin meets its condition in STANDBY and rail-up begins. -/
  | wakePin (t : Nat) (k : Fin 4)
  /-- R422: The real-time counter reaches PWR.RTC_ALARM and wakes the device. -/
  | rtcAlarm (t : Nat)
  /-- R461: VDD_AON rises and the always-on island begins its power-on reset. -/
  | vddAonRise (t : Nat)
  /-- R461: 2 ms after VDD_AON is good, the island releases its reset and starts rail-up. -/
  | aonPorRelease (t : Nat)
  /-- R424: A monitored rail's power-good rises during rail-up. -/
  | railPgRise (t : Nat) (n : Fin 12)
  /-- R424: A rail's SETTLE time passes and the sequencer moves to the next rail. -/
  | railSettleDone (t : Nat)
  /-- R425: A rail's power-good does not rise within PG_TIMEOUT, and all rails are taken down. -/
  | railPgTimeout (t : Nat)
  /-- R425: A monitored rail loses power-good while up, and all rails are taken down. -/
  | railPgLoss (t : Nat) (n : Fin 12)
  /-- R425: The junction stays at 115 °C or more for 1 ms and all rails are taken down. -/
  | thermalTrip (t : Nat)
  /-- R425: 1 s after a rail failure the island retries rail-up, at most three times. -/
  | railRetry (t : Nat)
  /-- R423: The last rail is down and the device is in STANDBY, acting at once on any latched wake. -/
  | powerDownComplete (t : Nat)
  /-- R426: RESET_N low for at least 10 µs resets the device with cause PIN. -/
  | resetPin (t : Nat)
  /-- R413: Firmware has started and DRAM is trained, and the device enters CONFIGURE and checks the board record. -/
  | bootComplete (t : Nat) (memSize memRate ticks : Nat) (record : Tab (BitVec 8))
  /-- R423: At each whole second while TRACE_OK is set, firmware sets the real-time counter. -/
  | rtcSet (t : Nat)
  /-- R432: An engine raises its token and clock request 2 µs before its scheduled start. -/
  | tokenRequest (t : Nat) (h : TokenHolder) (u : Nat)
  /-- R430: At each microsecond slot, pending token requests are granted in priority order within STEP. -/
  | tokenSlot (t : Nat)
  /-- R432: An engine idle for 1 µs has its fast clock gated. -/
  | engineClockGate (t : Nat) (h : TokenHolder) (u : Nat)
  /-- R436: A write to a programmable counter's SEL selects its event and clears the counter. -/
  | pmcSelWrite (t : Nat) (u : Fin 39) (n : Fin 8) (v : BitVec 32)
  /-- R443: The START operation of TALLY.CTRL begins tallies with a ring taken from the pool. -/
  | tallyStart (t : Nat)
  /-- R456: The STOP operation of TALLY.CTRL stops tallies. -/
  | tallyStop (t : Nat)
  /-- R445: An idle unit runs a self-test pass, whose failure is reported and may isolate the unit. -/
  | selftestRun (t : Nat) (u : Fin 42) (pass : Bool)
  /-- R448: Every 100 ms, or on a new fault, a health report is produced, stored and sent. -/
  | healthReport (t : Nat) (temp : BitVec 16) (ce : Nat)
  /-- R451: A write of an injector's CTRL with EN set arms it in PROVING. -/
  | injectorArm (t : Nat) (n : Fin 16) (v : BitVec 32)
  /-- R451: A packet held by REORDER is released after 10 ms without DEPTH further matches. -/
  | reorderRelease (t : Nat)
  /-- R452: A read of PROV.LOG_W0 pops the oldest injection log entry. -/
  | provLogPop (t : Nat)
  /-- R454: The START operation of the scan retrains a bond at each CTLE step in turn and counts errors. -/
  | marginScanStart (t : Nat)
  /-- R454: The ABORT operation ends a lane margin scan. -/
  | marginScanAbort (t : Nat)
  /-- R454: A scan step's dwell ends; its count is stored and the next step or the restore follows. -/
  | scanDwellEnd (t : Nat) (errs : List (Nat × Nat))
  /-- R409: In RECOVERY with an image complete, RECOVERY_N going high makes the ROM reset the device with cause RECOVERY. -/
  | recoveryNHigh (t : Nat)
  /-- R426: VDD_AON is removed, all state is lost including DEBUG_PROBED and SH_LATCH, and PAIR_ACT_OUT and OUTSEL fall to their pull-downs. -/
  | vddAonRemoval (t : Nat)
  /-- R377: A segmented USDO transfer that sees no next segment for 8 s is aborted with 0x0504_0000. -/
  | usdoProtocolTimeout (t : Nat) (n : Fin 2)
  /-- R445: A unit that has not completed a self-test pass within 10 periods raises SELFTEST_FAIL with cause STARVED. -/
  | selftestStarved (t : Nat) (u : Fin 41)
  /-- R445: The continuous lock and frequency monitor finds a PLL failed, raising SELFTEST_FAIL and setting the PLL bit of the health report. -/
  | pllMonitorFail (t : Nat)
  /-- R416: An uncorrectable error in DRAM zone 0 or in a unit's own state is detected, setting ECC_UE and leading to SAFE-HOLD with cause MEMORY or to isolation. -/
  | uncorrectableError (t : Nat) (w : EccSite)
  /-- R363: At each 48 kHz TDM frame the mixer sums its terms, applies DUCK and adds the alarm bus, counting saturated samples, and a pending alarm tone starts. -/
  | audioFrame (t : Nat) (ins : List Int)
  /-- R206: The copy that restores the shadow from the active generation after a refused commit or ABANDON ends and READY is set again. -/
  | shadowRestoreComplete (t : Nat)
  /-- R463: 20 ms after the last RAIL_EN was deasserted, a rail-up that was waiting for the discharge period begins. -/
  | railOffHoldEnd (t : Nat)
  /-- R425: After a thermal trip, the junction falls below 95 °C, so that an active wake source can bring the device out of STANDBY. -/
  | junctionCooled (t : Nat)
deriving DecidableEq, Repr

end Sys2Proof
end

