-- ==== Sys2Proof/Config.lean ====
section
/-! DEFINITION. What an implementation fixes and the spec leaves open: free values, constants with no body, so that nothing
can be proved of them. Each is named in the assumption log. -/

namespace Sys2Proof.Config

/-- The servo's frequency estimate after its n-th sample, in units of 2^-40 (R65 gives no estimator). -/
opaque servoFreq : Nat → Int

/-- The rate correction the servo's loop forms from its n-th sample (R65: the gains are set by Damvis). -/
opaque servoCorrection : Nat → Int

/-- The 64-byte sectors that a block of samples compresses to (R189: a function of the samples, which the spec does not give). -/
opaque sectors : List Nat → Nat

/-- A tap of the ROM default coefficient set other than phase 0: table (0 8-tap, 1 6-tap, 2 4-tap), phase,
tap (R216: a windowed sinc whose values the spec does not give). -/
opaque romCoef : Nat → Nat → Nat → Int

/-- Whether a pixel of a ROM element is ink: the element, its text as character codes, column, row (R109, R221, R417: drawn
from a fixed ROM font the spec does not give). -/
opaque romInk : Nat → List Nat → Nat → Nat → Bool

/-- KEY over a latch record (R306: the spec gives the record's contents, not its byte layout). -/
opaque latchKey : List Nat → BitVec 32

/-- Whether a 4 KiB granule of a pool page holds stand maps or ledgers (R393: firmware lays them out, where the spec does not say). -/
opaque evidenceGranule : Nat → Bool

/-- A sample of the alarm bus: frequency in Hz, level in dB below full scale, square, ns since the segment began; the ramps over 2 ms are in
it (R364 gives no arithmetic). -/
opaque toneSample : Nat → Nat → Bool → Nat → Int

/-- A 24-bit sample attenuated by half dBs (R363, R364 give no rounding). -/
opaque attenuated : Nat → Int → Int

/-- Whether an ECDSA P-384 signature (r, s) over bytes is valid under the key of a KEY_ID (R44, R402: the spec does not give the keys). -/
opaque signatureOk : Nat → List (BitVec 8) → List (BitVec 8) → Bool

/-- CTX[n].SKEW in µs, over the last path differentials in ns, newest first (R132, R148: the spec does not say which value of the last 64
is reported). -/
opaque pathSkew : List Int → Int

/-- The payload of a pair message whose bytes the spec does not lay out (R296: COMMAND, REQ_FWD, FILL_REQ, FILL_DATA, SURF_DATA, CONTROL). -/
opaque pairContent : PairMsg → List (BitVec 8)

/-- VERSION of the IDENT the device sends, by its firmware's version word, and CHANNELS (R169 gives neither value). -/
opaque identVersion : BitVec 32 → BitVec 16
opaque identChannels : BitVec 8

/-- The 16 payload bytes of an event whose payload the spec does not lay out, by its fields (R343). -/
opaque eventPayload : EvKind → List Int → List (BitVec 8)

/-- A byte of the sections of a save blob, by what the blob holds and the offset in it (R339 does not lay the sections' contents out). -/
opaque saveByte : RestoreBlob → Nat → BitVec 8

/-- A byte of device memory in a page whose inside layout the spec does not give, by instant in ns and DRAM offset (R45, R47, R188: pools
hold pictures, packets and stand maps, where in a page is not said). -/
opaque openByte : Nat → Nat → BitVec 8

end Sys2Proof.Config
end

