-- ==== Sys2Proof/Machine/Bits.lean ====
section
/-! DEFINITION. Bit fields, sign extension, saturation, rounding and the CRC the manual uses (R16, R17, R112, R160). -/

namespace Sys2Proof.Machine

/-- Bits [hi:lo] of a number (R16). -/
def bits (v hi lo : Nat) : Nat := v / 2 ^ lo % 2 ^ (hi + 1 - lo)

/-- Bit `n` of a number (R16). -/
def bit (v n : Nat) : Bool := v / 2 ^ n % 2 == 1

/-- 1 or 0. -/
def b2n (b : Bool) : Nat := if b then 1 else 0

/-- A signed value taken from the low `n` bits of `v`. -/
def sext (n v : Nat) : Int :=
  let u := v % 2 ^ n
  if u < 2 ^ (n - 1) then (u : Int) else (u : Int) - (2 ^ n : Nat)

/-- The low `n` bits of a signed value, two's complement. -/
def wrap (n : Nat) (v : Int) : Nat := (v % ((2 ^ n : Nat) : Int)).toNat

/-- `v` limited to the range from `lo` to `hi`. -/
def clampI (lo hi v : Int) : Int := max lo (min hi v)

/-- Ceiling of a quotient. -/
def ceilDiv (a b : Nat) : Nat := (a + b - 1) / b

/-- Ceiling of a signed quotient by a positive number. -/
def ceilDivI (a : Int) (b : Nat) : Int := -((-a) / (b : Int))

/-- Saturating addition at 0xFFFF_FFFF. -/
def satAdd32 (a n : Nat) : Nat := min (a + n) 0xFFFFFFFF

/-- `n` bytes of a number, least significant first (R17). -/
def leBytes : Nat → Nat → List Byte
  | 0, _ => []
  | n + 1, v => BitVec.ofNat 8 v :: leBytes n (v / 256)

/-- The number a little-endian byte list spells (R17). -/
def leNat : List Byte → Nat
  | [] => 0
  | b :: t => b.toNat + 256 * leNat t

/-- `n` bytes at an offset. -/
def bytesAt (l : List (Byte)) (o n : Nat) : List (Byte) := (l.drop o).take n

/-- A little-endian field. -/
def fieldAt (l : List (Byte)) (o n : Nat) : Nat := leNat (bytesAt l o n)

/-- All bytes of a field are 0. -/
def zeroAt (l : List (Byte)) (o n : Nat) : Bool := (bytesAt l o n).all (fun b => b == 0)

/-- One bit step of the reflected CRC-32 (IEEE 802.3 polynomial, R160). -/
def crcBit (c : Nat) : Nat := if c % 2 = 1 then (c / 2) ^^^ 0xEDB88320 else c / 2

/-- One byte step of the CRC-32. -/
def crcByte (c : Nat) (b : Nat) : Nat :=
  crcBit (crcBit (crcBit (crcBit (crcBit (crcBit (crcBit (crcBit (c ^^^ b))))))))

/-- CRC-32 of a byte list, initial value and final inversion as R160 gives. -/
def crc32 (bs : List Nat) : Nat := (bs.foldl crcByte 0xFFFFFFFF) ^^^ 0xFFFFFFFF

end Sys2Proof.Machine
end

