-- ==== Sys2Proof/Machine/RegMap.lean ====
section
/-! DEFINITION. The register map: every plain register and counter of BAR0 with its offset, access code, writable bits and
reset value, as the register tables of the manual give them (R18, R19, R21). Registers that only report typed state are
not here; the state's own fields are their one home. -/

namespace Sys2Proof.Machine

/-- How a register of the map is written and read (R19): `own` is written by a command of its own, `hold` only in servo
state HOLD (R59), `prov` only in PROVING (R450). -/
inductive RegAccess where
  | rw | rwl | rc | ro | w1c | own | hold | prov
deriving DecidableEq, Repr

/-- One row of the map: first offset, units and their stride, entries in a unit and their stride, access code, writable
bits, bits cleared by writing 1, reset value. -/
structure RegRow where
  base : Nat
  n1 : Nat
  s1 : Nat
  n2 : Nat
  s2 : Nat
  acc : RegAccess
  mask : Nat
  w1c : Nat
  reset : Nat
deriving DecidableEq, Repr

/-- R50. -/
def Reg.glbAperture : Nat := 0x58

/-- R49. -/
def Reg.glbBarStray : Nat := 0x60

/-- R49. -/
def Reg.glbBarStrayOff : Nat := 0x64

/-- R44. -/
def Reg.glbBlobAddrLo : Nat := 0x70

/-- R44. -/
def Reg.glbBlobAddrHi : Nat := 0x74

/-- R44. -/
def Reg.glbBlobLen : Nat := 0x78

/-- R202. -/
def Reg.glbWinWrRefused : Nat := 0x20C

/-- R421. -/
def Reg.modeWdCfg : Nat := 0x10010

/-- R421. -/
def Reg.modeWdWarns : Nat := 0x10014

/-- R434. -/
def Reg.pwrTokWaits : Nat := 0x2006C

/-- R434. -/
def Reg.pwrTokWaitMax : Nat := 0x20070

/-- R59. -/
def Reg.timeAdjLo : Nat := 0x30024

/-- R67. -/
def Reg.timeTraceTol : Nat := 0x30038

/-- R67. -/
def Reg.timeHoldoverMax : Nat := 0x3003C

/-- R65. -/
def Reg.timeSlewCap : Nat := 0x30040

/-- R66. -/
def Reg.timeLockWait : Nat := 0x30044

/-- R70. -/
def Reg.timeRevertHold : Nat := 0x30048

/-- R59. -/
def Reg.timeWrRefused : Nat := 0x30050

/-- R74. -/
def Reg.ltb0Ctrl : Nat := 0x30100

/-- R74. -/
def Reg.ltb0Num : Nat := 0x30104

/-- R74. -/
def Reg.ltb0Den : Nat := 0x30108

/-- R74. -/
def Reg.ltb1Ctrl : Nat := 0x30120

/-- R74. -/
def Reg.ltb1Num : Nat := 0x30124

/-- R74. -/
def Reg.ltb1Den : Nat := 0x30128

/-- R74. -/
def Reg.ltb2Ctrl : Nat := 0x30140

/-- R74. -/
def Reg.ltb2Num : Nat := 0x30144

/-- R74. -/
def Reg.ltb2Den : Nat := 0x30148

/-- R74. -/
def Reg.ltb3Ctrl : Nat := 0x30160

/-- R74. -/
def Reg.ltb3Num : Nat := 0x30164

/-- R74. -/
def Reg.ltb3Den : Nat := 0x30168

/-- R74. -/
def Reg.ltbEpochLo (i : Nat) : Nat := 0x3010C + 0x20 * i

/-- R75. -/
def Reg.ttoCtrl (i : Nat) : Nat := 0x30200 + 0x20 * i

/-- R75. -/
def Reg.ttoStartLo (i : Nat) : Nat := 0x30204 + 0x20 * i

/-- R75. -/
def Reg.ttoPeriod (i : Nat) : Nat := 0x3020C + 0x20 * i

/-- R75. -/
def Reg.ttoWidth (i : Nat) : Nat := 0x30210 + 0x20 * i

/-- R75. -/
def Reg.ttoCount (i : Nat) : Nat := 0x30214 + 0x20 * i

/-- R78. -/
def Reg.tciCtrl (i : Nat) : Nat := 0x30300 + 0x20 * i

/-- R78. -/
def Reg.tciMissed (i : Nat) : Nat := 0x30310 + 0x20 * i

/-- R78. -/
def Reg.tciDrop (i : Nat) : Nat := 0x30314 + 0x20 * i

/-- R77. -/
def Reg.ppsOutCtrl : Nat := 0x303C0

/-- R62. -/
def Reg.ptpLockThresh : Nat := 0x40000

/-- R62. -/
def Reg.ptpUnlockThresh : Nat := 0x40004

/-- R62. -/
def Reg.ptpSwitchSlew : Nat := 0x40008

/-- R62. -/
def Reg.ptpDomCfg (i : Nat) : Nat := 0x40100 + 0x40 * i

/-- R61. -/
def Reg.ptpAsym (i : Nat) : Nat := 0x41000 + 0x1000 * i

/-- R61. -/
def Reg.ptpRxLat (i : Nat) : Nat := 0x41004 + 0x1000 * i

/-- R61. -/
def Reg.ptpTxLat (i : Nat) : Nat := 0x41008 + 0x1000 * i

/-- R73. -/
def Reg.ptpTxqDrop (i : Nat) : Nat := 0x41024 + 0x1000 * i

/-- R395. -/
def Reg.mpuFaultCount : Nat := 0x50004

/-- R390. -/
def Reg.mpuCfgFaults : Nat := 0x50014

/-- R396. -/
def Reg.mpuNotices : Nat := 0x50018

/-- R395. -/
def Reg.mpuDebugErrs : Nat := 0x5001C

/-- R405. -/
def Reg.updSrcLo : Nat := 0x60010

/-- R405. -/
def Reg.updSrcHi : Nat := 0x60014

/-- R405. -/
def Reg.updLen : Nat := 0x60018

/-- R404. -/
def Reg.updIdleS : Nat := 0x6001C

/-- R404. -/
def Reg.updRefused : Nat := 0x6003C

/-- R436. -/
def Reg.pmcSel (i j : Nat) : Nat := 0x71040 + 0x100 * i + 0x4 * j

/-- R439. -/
def Reg.pmcOvf (i : Nat) : Nat := 0x710A0 + 0x100 * i

/-- R456. -/
def Reg.tallyOriginLo : Nat := 0x90008

/-- R456. -/
def Reg.tallyOriginHi : Nat := 0x9000C

/-- R456. -/
def Reg.tallyPeriod : Nat := 0x90010

/-- R456. -/
def Reg.tallyRingPages : Nat := 0x90014

/-- R456. -/
def Reg.tallyRd : Nat := 0x90020

/-- R443. -/
def Reg.tallyLost : Nat := 0x90024

/-- R315. -/
def Reg.pairMatches : Nat := 0xA0050

/-- R315. -/
def Reg.pairMismatches : Nat := 0xA0054

/-- R315. -/
def Reg.pairExcused : Nat := 0xA0058

/-- R315. -/
def Reg.pairMissing : Nat := 0xA005C

/-- R315. -/
def Reg.pairUnmatched : Nat := 0xA0060

/-- R315. -/
def Reg.pairFills : Nat := 0xA0064

/-- R315. -/
def Reg.pairGaps : Nat := 0xA0068

/-- R315. -/
def Reg.pairDivergences : Nat := 0xA006C

/-- R315. -/
def Reg.pairTakeovers : Nat := 0xA0070

/-- R237. -/
def Reg.safeReqApplied : Nat := 0xB0184

/-- R222. -/
def Reg.safeReqRefused : Nat := 0xB0188

/-- R382. -/
def Reg.mbxAddr : Nat := 0xC4004

/-- R382. -/
def Reg.mbxOffset : Nat := 0xC4008

/-- R382. -/
def Reg.mbxLen : Nat := 0xC400C

/-- R382. -/
def Reg.mbxStray : Nat := 0xC4018

/-- R382. -/
def Reg.mbxData (j : Nat) : Nat := 0xC4400 + 0x4 * j

/-- R450. -/
def Reg.provRefused : Nat := 0xD0004

/-- R457. -/
def Reg.injSel (i : Nat) : Nat := 0xD0104 + 0x20 * i

/-- R457. -/
def Reg.injStart (i : Nat) : Nat := 0xD0108 + 0x20 * i

/-- R457. -/
def Reg.injEvery (i : Nat) : Nat := 0xD010C + 0x20 * i

/-- R457. -/
def Reg.injCount (i : Nat) : Nat := 0xD0110 + 0x20 * i

/-- R457. -/
def Reg.injParam (i : Nat) : Nat := 0xD0114 + 0x20 * i

/-- R457. -/
def Reg.injCtrl (i : Nat) : Nat := 0xD0100 + 0x20 * i

/-- R457. -/
def Reg.scanCfg : Nat := 0xD0804

/-- R479. -/
def Reg.ethRxFrames (i : Nat) : Nat := 0x100000 + 0x10000 * i

/-- R479. -/
def Reg.ethRxBadFrame (i : Nat) : Nat := 0x100004 + 0x10000 * i

/-- R479. -/
def Reg.ethRxIpHdr (i : Nat) : Nat := 0x100008 + 0x10000 * i

/-- R479. -/
def Reg.ethRxFrag (i : Nat) : Nat := 0x10000C + 0x10000 * i

/-- R479. -/
def Reg.ethRxUdpCsum (i : Nat) : Nat := 0x100010 + 0x10000 * i

/-- R479. -/
def Reg.ethRxUnmatched (i : Nat) : Nat := 0x100014 + 0x10000 * i

/-- R172. -/
def Reg.laneCodeErr (i : Nat) : Nat := 0x140100 + 0x1000 * i

/-- R172. -/
def Reg.laneDispErr (i : Nat) : Nat := 0x140104 + 0x1000 * i

/-- R172. -/
def Reg.laneCrcErr (i : Nat) : Nat := 0x140108 + 0x1000 * i

/-- R172. -/
def Reg.laneLenErr (i : Nat) : Nat := 0x14010C + 0x1000 * i

/-- R172. -/
def Reg.lanePktBad (i : Nat) : Nat := 0x140110 + 0x1000 * i

/-- R172. -/
def Reg.laneSeqGap (i : Nat) : Nat := 0x140114 + 0x1000 * i

/-- R172. -/
def Reg.laneAborts (i : Nat) : Nat := 0x140118 + 0x1000 * i

/-- R172. -/
def Reg.laneSlips (i : Nat) : Nat := 0x14011C + 0x1000 * i

/-- R172. -/
def Reg.laneAlignLoss (i : Nat) : Nat := 0x140120 + 0x1000 * i

/-- R172. -/
def Reg.laneTrains (i : Nat) : Nat := 0x140124 + 0x1000 * i

/-- R172. -/
def Reg.laneTrainFail (i : Nat) : Nat := 0x140128 + 0x1000 * i

/-- R169. -/
def Reg.cruisePeriod : Nat := 0x140800

/-- R169. -/
def Reg.cruiseMask : Nat := 0x140804

/-- R181. -/
def Reg.decPreempts (i : Nat) : Nat := 0x16000C + 0x1000 * i

/-- R182. -/
def Reg.decRowRestarts (i : Nat) : Nat := 0x160010 + 0x1000 * i

/-- R282. -/
def Reg.recPreempts (i : Nat) : Nat := 0x17000C + 0x1000 * i

/-- R282. -/
def Reg.recRowRestarts (i : Nat) : Nat := 0x170010 + 0x1000 * i

/-- R227. -/
def Reg.sheetPreempts (i : Nat) : Nat := 0x18000C + 0x10000 * i

/-- R227. -/
def Reg.sheetTileRestarts (i : Nat) : Nat := 0x180010 + 0x10000 * i

/-- R217. -/
def Reg.sheetCoefRefused (i : Nat) : Nat := 0x180918 + 0x10000 * i

/-- R283. -/
def Reg.recIdxRd (i : Nat) : Nat := 0x170834 + 0x80 * i

/-- R277. -/
def Reg.recBsRdLo (i : Nat) : Nat := 0x170828 + 0x80 * i

/-- R366. -/
def Reg.tchRingLo (i : Nat) : Nat := 0x1A0020 + 0x10000 * i

/-- R366. -/
def Reg.tchRingHi (i : Nat) : Nat := 0x1A0024 + 0x10000 * i

/-- R366. -/
def Reg.tchRingCtrl (i : Nat) : Nat := 0x1A0028 + 0x10000 * i

/-- R366. -/
def Reg.tchRingRd (i : Nat) : Nat := 0x1A0030 + 0x10000 * i

/-- R359. -/
def Reg.tchRingLost (i : Nat) : Nat := 0x1A0034 + 0x10000 * i

/-- R354. -/
def Reg.tchOver (i : Nat) : Nat := 0x1A0038 + 0x10000 * i

/-- R361. -/
def Reg.hapDrops : Nat := 0x1D0044

/-- R360. -/
def Reg.hapWavePos (i : Nat) : Nat := 0x1D0100 + 0x8 * i

/-- R360. -/
def Reg.hapWavePlay (i : Nat) : Nat := 0x1D0104 + 0x8 * i

/-- R360. -/
def Reg.hapMem (j : Nat) : Nat := 0x1D8000 + 0x4 * j

/-- R363. -/
def Reg.audMix01 (i : Nat) : Nat := 0x1E0100 + 0x8 * i

/-- R363. -/
def Reg.audMix23 (i : Nat) : Nat := 0x1E0104 + 0x8 * i

/-- R369. -/
def Reg.audClips : Nat := 0x1E0408

/-- R437. -/
def Reg.chCount (i j : Nat) : Nat := 0x200400 + 0x1000 * i + 0x4 * j

/-- R439. -/
def Reg.chOvf (i : Nat) : Nat := 0x200460 + 0x1000 * i

/-- R251. -/
def Reg.headWm (i : Nat) : Nat := 0x400040 + 0x10000 * i

/-- R260. -/
def Reg.headLinkTrains (i : Nat) : Nat := 0x400108 + 0x10000 * i

/-- R260. -/
def Reg.headLinkFails (i : Nat) : Nat := 0x40010C + 0x10000 * i

/-- R260. -/
def Reg.headHpdIrqs (i : Nat) : Nat := 0x400110 + 0x10000 * i

/-- R110. -/
def Reg.markHatch (i : Nat) : Nat := 0x400800 + 0x10000 * i

/-- R110. -/
def Reg.markText (i : Nat) : Nat := 0x400804 + 0x10000 * i

/-- R110. -/
def Reg.markBox (i : Nat) : Nat := 0x400808 + 0x10000 * i

/-- R110. -/
def Reg.underrunFill (i : Nat) : Nat := 0x40080C + 0x10000 * i

/-- R110. -/
def Reg.markCtrl (i : Nat) : Nat := 0x400810 + 0x10000 * i

/-- R217. -/
def Reg.headCoefRefused (i : Nat) : Nat := 0x400918 + 0x10000 * i

/-- R438. -/
def Reg.headCount (i j : Nat) : Nat := 0x400A00 + 0x10000 * i + 0x4 * j

/-- R439. -/
def Reg.headOvf (i : Nat) : Nat := 0x400A40 + 0x10000 * i

/-- R322. -/
def Reg.instPasid (i : Nat) : Nat := 0x500010 + 0x1000 * i

/-- R322. -/
def Reg.instWinRange (i : Nat) : Nat := 0x500014 + 0x1000 * i

/-- R322. -/
def Reg.instSurfQuota (i : Nat) : Nat := 0x500018 + 0x1000 * i

/-- R322. -/
def Reg.instPageQuota (i : Nat) : Nat := 0x50001C + 0x1000 * i

/-- R322. -/
def Reg.instBwShare (i : Nat) : Nat := 0x500020 + 0x1000 * i

/-- R322. -/
def Reg.instVecCount (i : Nat) : Nat := 0x500024 + 0x1000 * i

/-- R322. -/
def Reg.instCntVis (i : Nat) : Nat := 0x500028 + 0x1000 * i

/-- R322. -/
def Reg.instRecGrant (i : Nat) : Nat := 0x500040 + 0x1000 * i

/-- R322. -/
def Reg.instEpochHead (i : Nat) : Nat := 0x500044 + 0x1000 * i

/-- R322. -/
def Reg.instDrainMs (i : Nat) : Nat := 0x500048 + 0x1000 * i

/-- R322. -/
def Reg.instBlobAddrLo (i : Nat) : Nat := 0x5000A0 + 0x1000 * i

/-- R322. -/
def Reg.instBlobAddrHi (i : Nat) : Nat := 0x5000A4 + 0x1000 * i

/-- R322. -/
def Reg.instBlobLen (i : Nat) : Nat := 0x5000A8 + 0x1000 * i

/-- R322. -/
def Reg.instChGrant (i j : Nat) : Nat := 0x500030 + 0x1000 * i + 0x4 * j

/-- R322. -/
def Reg.instSafeWl (i j : Nat) : Nat := 0x500060 + 0x1000 * i + 0x4 * j

/-- R322. -/
def Reg.instOverrun (i : Nat) : Nat := 0x5000C0 + 0x1000 * i

/-- R322. -/
def Reg.instRefused (i : Nat) : Nat := 0x5000C4 + 0x1000 * i

/-- R322. -/
def Reg.instMisses (i : Nat) : Nat := 0x5000C8 + 0x1000 * i

/-- R322. -/
def Reg.instPageReqs (i : Nat) : Nat := 0x5000CC + 0x1000 * i

/-- R322. -/
def Reg.instPriTimeouts (i : Nat) : Nat := 0x5000D0 + 0x1000 * i

/-- R322. -/
def Reg.instPostedViol (i : Nat) : Nat := 0x5000D4 + 0x1000 * i

/-- R317. -/
def Reg.instMsgLo (i j : Nat) : Nat := 0x500400 + 0x1000 * i + 0x10 * j

/-- R317. -/
def Reg.instMsgHi (i j : Nat) : Nat := 0x500404 + 0x1000 * i + 0x10 * j

/-- R317. -/
def Reg.instMsgData (i j : Nat) : Nat := 0x500408 + 0x1000 * i + 0x10 * j

/-- R317. -/
def Reg.instMsgCtrl (i j : Nat) : Nat := 0x50040C + 0x1000 * i + 0x10 * j

/-- R332. -/
def Reg.mmuVpn (i : Nat) : Nat := 0x520000 + 0x1000 * i

/-- R332. -/
def Reg.mmuPpn (i : Nat) : Nat := 0x520004 + 0x1000 * i

/-- R332. -/
def Reg.mmuCount (i : Nat) : Nat := 0x520008 + 0x1000 * i

/-- R317. -/
def Reg.msixLo (i : Nat) : Nat := 0x88000 + 0x10 * i

/-- R317. -/
def Reg.msixHi (i : Nat) : Nat := 0x88004 + 0x10 * i

/-- R317. -/
def Reg.msixData (i : Nat) : Nat := 0x88008 + 0x10 * i

/-- R317. -/
def Reg.msixCtrl (i : Nat) : Nat := 0x8800C + 0x10 * i

/-- Rows of the register map, part 0. -/
def regRows0 : List RegRow := [
  ⟨0x58, 1, 0x0, 1, 0x0, .own, 0xFFFFFFFF, 0x0, 0x0⟩,
  ⟨0x60, 1, 0x0, 1, 0x0, .rc, 0xFFFFFFFF, 0x0, 0x0⟩,
  ⟨0x64, 1, 0x0, 1, 0x0, .ro, 0xFFFFFFFF, 0x0, 0x0⟩,
  ⟨0x70, 1, 0x0, 1, 0x0, .rw, 0xFFFFFFFF, 0x0, 0x0⟩,
  ⟨0x74, 1, 0x0, 1, 0x0, .rw, 0xFFFFFFFF, 0x0, 0x0⟩,
  ⟨0x78, 1, 0x0, 1, 0x0, .rw, 0xFFFFFFFF, 0x0, 0x0⟩,
  ⟨0x20C, 1, 0x0, 1, 0x0, .rc, 0xFFFFFFFF, 0x0, 0x0⟩,
  ⟨0x10010, 1, 0x0, 1, 0x0, .rwl, 0xFFFFFFFF, 0x0, 0x640032⟩,
  ⟨0x10014, 1, 0x0, 1, 0x0, .rc, 0xFFFFFFFF, 0x0, 0x0⟩,
  ⟨0x2006C, 1, 0x0, 1, 0x0, .rc, 0xFFFFFFFF, 0x0, 0x0⟩,
  ⟨0x20070, 1, 0x0, 1, 0x0, .rc, 0xFFFFFFFF, 0x0, 0x0⟩,
  ⟨0x30024, 1, 0x0, 1, 0x0, .hold, 0xFFFFFFFF, 0x0, 0x0⟩,
  ⟨0x30038, 1, 0x0, 1, 0x0, .rw, 0xFFFFFFFF, 0x0, 0x186A0⟩,
  ⟨0x3003C, 1, 0x0, 1, 0x0, .rw, 0xFFFFFFFF, 0x0, 0x2710⟩,
  ⟨0x30040, 1, 0x0, 1, 0x0, .rw, 0xFFFFFFFF, 0x0, 0x3E8⟩,
  ⟨0x30044, 1, 0x0, 1, 0x0, .rwl, 0xFFFFFFFF, 0x0, 0x1E⟩,
  ⟨0x30048, 1, 0x0, 1, 0x0, .rw, 0xFFFFFFFF, 0x0, 0x3C⟩,
  ⟨0x30050, 1, 0x0, 1, 0x0, .rc, 0xFFFFFFFF, 0x0, 0x0⟩,
  ⟨0x30100, 1, 0x0, 1, 0x0, .rw, 0x31, 0x0, 0x1⟩,
  ⟨0x30104, 1, 0x0, 1, 0x0, .rw, 0xFFFF, 0x0, 0x9⟩,
  ⟨0x30108, 1, 0x0, 1, 0x0, .rw, 0xFFFFFFFF, 0x0, 0x186A0⟩,
  ⟨0x30120, 1, 0x0, 1, 0x0, .rw, 0x31, 0x0, 0x11⟩,
  ⟨0x30124, 1, 0x0, 1, 0x0, .rw, 0xFFFF, 0x0, 0x1B⟩,
  ⟨0x30128, 1, 0x0, 1, 0x0, .rw, 0xFFFFFFFF, 0x0, 0x3E8⟩]

/-- Rows of the register map, part 1. -/
def regRows1 : List RegRow := [
  ⟨0x30140, 1, 0x0, 1, 0x0, .rw, 0x31, 0x0, 0x21⟩,
  ⟨0x30144, 1, 0x0, 1, 0x0, .rw, 0xFFFF, 0x0, 0x1⟩,
  ⟨0x30148, 1, 0x0, 1, 0x0, .rw, 0xFFFFFFFF, 0x0, 0x3E8⟩,
  ⟨0x30160, 1, 0x0, 1, 0x0, .rw, 0x31, 0x0, 0x1⟩,
  ⟨0x30164, 1, 0x0, 1, 0x0, .rw, 0xFFFF, 0x0, 0x1⟩,
  ⟨0x30168, 1, 0x0, 1, 0x0, .rw, 0xFFFFFFFF, 0x0, 0xF4240⟩,
  ⟨0x3010C, 4, 0x20, 1, 0x0, .rw, 0xFFFFFFFF, 0x0, 0x0⟩,
  ⟨0x30200, 8, 0x20, 1, 0x0, .own, 0xF13, 0x0, 0x0⟩,
  ⟨0x30204, 8, 0x20, 1, 0x0, .rw, 0xFFFFFFFF, 0x0, 0x0⟩,
  ⟨0x3020C, 8, 0x20, 1, 0x0, .rw, 0xFFFFFFFF, 0x0, 0x0⟩,
  ⟨0x30210, 8, 0x20, 1, 0x0, .rw, 0xFFFFFFFF, 0x0, 0x0⟩,
  ⟨0x30214, 8, 0x20, 1, 0x0, .rw, 0xFFFFFFFF, 0x0, 0x0⟩,
  ⟨0x30300, 5, 0x20, 1, 0x0, .rw, 0x3, 0x0, 0x0⟩,
  ⟨0x30310, 5, 0x20, 1, 0x0, .rc, 0xFFFFFFFF, 0x0, 0x0⟩,
  ⟨0x30314, 5, 0x20, 1, 0x0, .rc, 0xFFFFFFFF, 0x0, 0x0⟩,
  ⟨0x303C0, 1, 0x0, 1, 0x0, .rw, 0xFF03, 0x0, 0x6402⟩,
  ⟨0x40000, 1, 0x0, 1, 0x0, .rw, 0xFFFFFFFF, 0x0, 0x3E8⟩,
  ⟨0x40004, 1, 0x0, 1, 0x0, .rw, 0xFFFFFFFF, 0x0, 0x2710⟩,
  ⟨0x40008, 1, 0x0, 1, 0x0, .rw, 0xFFFFFFFF, 0x0, 0x64⟩,
  ⟨0x40100, 2, 0x40, 1, 0x0, .rw, 0xF00FF0D, 0x0, 0x0⟩,
  ⟨0x41000, 4, 0x1000, 1, 0x0, .rwl, 0xFFFFFFFF, 0x0, 0x0⟩,
  ⟨0x41004, 4, 0x1000, 1, 0x0, .rwl, 0xFFFFFFFF, 0x0, 0x0⟩,
  ⟨0x41008, 4, 0x1000, 1, 0x0, .rwl, 0xFFFFFFFF, 0x0, 0x0⟩,
  ⟨0x41024, 4, 0x1000, 1, 0x0, .rc, 0xFFFFFFFF, 0x0, 0x0⟩]

/-- Rows of the register map, part 2. -/
def regRows2 : List RegRow := [
  ⟨0x50004, 1, 0x0, 1, 0x0, .rc, 0xFFFFFFFF, 0x0, 0x0⟩,
  ⟨0x50014, 1, 0x0, 1, 0x0, .rc, 0xFFFFFFFF, 0x0, 0x0⟩,
  ⟨0x50018, 1, 0x0, 1, 0x0, .rc, 0xFFFFFFFF, 0x0, 0x0⟩,
  ⟨0x5001C, 1, 0x0, 1, 0x0, .rc, 0xFFFFFFFF, 0x0, 0x0⟩,
  ⟨0x60010, 1, 0x0, 1, 0x0, .rw, 0xFFFFFFFF, 0x0, 0x0⟩,
  ⟨0x60014, 1, 0x0, 1, 0x0, .rw, 0xFFFFFFFF, 0x0, 0x0⟩,
  ⟨0x60018, 1, 0x0, 1, 0x0, .rw, 0xFFFFFFFF, 0x0, 0x0⟩,
  ⟨0x6001C, 1, 0x0, 1, 0x0, .rw, 0xFFFFFFFF, 0x0, 0x1E⟩,
  ⟨0x6003C, 1, 0x0, 1, 0x0, .rc, 0xFFFFFFFF, 0x0, 0x0⟩,
  ⟨0x71040, 39, 0x100, 8, 0x4, .own, 0x800000FF, 0x0, 0x0⟩,
  ⟨0x710A0, 39, 0x100, 1, 0x0, .w1c, 0x0, 0xFF1F, 0x0⟩,
  ⟨0x90008, 1, 0x0, 1, 0x0, .rw, 0xFFFFFFFF, 0x0, 0x0⟩,
  ⟨0x9000C, 1, 0x0, 1, 0x0, .rw, 0xFFFFFFFF, 0x0, 0x0⟩,
  ⟨0x90010, 1, 0x0, 1, 0x0, .rw, 0xFFFFFFFF, 0x0, 0x186A0⟩,
  ⟨0x90014, 1, 0x0, 1, 0x0, .rw, 0xFFFFFFFF, 0x0, 0x1⟩,
  ⟨0x90020, 1, 0x0, 1, 0x0, .rw, 0xFFFFFFFF, 0x0, 0x0⟩,
  ⟨0x90024, 1, 0x0, 1, 0x0, .rc, 0xFFFFFFFF, 0x0, 0x0⟩,
  ⟨0xA0050, 1, 0x0, 1, 0x0, .rc, 0xFFFFFFFF, 0x0, 0x0⟩,
  ⟨0xA0054, 1, 0x0, 1, 0x0, .rc, 0xFFFFFFFF, 0x0, 0x0⟩,
  ⟨0xA0058, 1, 0x0, 1, 0x0, .rc, 0xFFFFFFFF, 0x0, 0x0⟩,
  ⟨0xA005C, 1, 0x0, 1, 0x0, .rc, 0xFFFFFFFF, 0x0, 0x0⟩,
  ⟨0xA0060, 1, 0x0, 1, 0x0, .rc, 0xFFFFFFFF, 0x0, 0x0⟩,
  ⟨0xA0064, 1, 0x0, 1, 0x0, .rc, 0xFFFFFFFF, 0x0, 0x0⟩,
  ⟨0xA0068, 1, 0x0, 1, 0x0, .rc, 0xFFFFFFFF, 0x0, 0x0⟩]

/-- Rows of the register map, part 3. -/
def regRows3 : List RegRow := [
  ⟨0xA006C, 1, 0x0, 1, 0x0, .rc, 0xFFFFFFFF, 0x0, 0x0⟩,
  ⟨0xA0070, 1, 0x0, 1, 0x0, .rc, 0xFFFFFFFF, 0x0, 0x0⟩,
  ⟨0xB0184, 1, 0x0, 1, 0x0, .rc, 0xFFFFFFFF, 0x0, 0x0⟩,
  ⟨0xB0188, 1, 0x0, 1, 0x0, .rc, 0xFFFFFFFF, 0x0, 0x0⟩,
  ⟨0xC4004, 1, 0x0, 1, 0x0, .rw, 0xFFFFFF, 0x0, 0x0⟩,
  ⟨0xC4008, 1, 0x0, 1, 0x0, .rw, 0xFFFFFFFF, 0x0, 0x0⟩,
  ⟨0xC400C, 1, 0x0, 1, 0x0, .rw, 0x7FF, 0x0, 0x0⟩,
  ⟨0xC4018, 1, 0x0, 1, 0x0, .rc, 0xFFFFFFFF, 0x0, 0x0⟩,
  ⟨0xC4400, 1, 0x0, 256, 0x4, .rw, 0xFFFFFFFF, 0x0, 0x0⟩,
  ⟨0xD0004, 1, 0x0, 1, 0x0, .rc, 0xFFFFFFFF, 0x0, 0x0⟩,
  ⟨0xD0104, 16, 0x20, 1, 0x0, .prov, 0x81FF, 0x0, 0x0⟩,
  ⟨0xD0108, 16, 0x20, 1, 0x0, .prov, 0xFFFFFFFF, 0x0, 0x0⟩,
  ⟨0xD010C, 16, 0x20, 1, 0x0, .prov, 0xFFFF, 0x0, 0x1⟩,
  ⟨0xD0110, 16, 0x20, 1, 0x0, .prov, 0xFFFFFFFF, 0x0, 0x1⟩,
  ⟨0xD0114, 16, 0x20, 1, 0x0, .prov, 0xFFFFFF, 0x0, 0x0⟩,
  ⟨0xD0100, 16, 0x20, 1, 0x0, .own, 0x1F77, 0x0, 0x0⟩,
  ⟨0xD0804, 1, 0x0, 1, 0x0, .prov, 0xFFFF137F, 0x0, 0xF0640000⟩,
  ⟨0x100000, 4, 0x10000, 1, 0x0, .ro, 0xFFFFFFFF, 0x0, 0x0⟩,
  ⟨0x100004, 4, 0x10000, 1, 0x0, .ro, 0xFFFFFFFF, 0x0, 0x0⟩,
  ⟨0x100008, 4, 0x10000, 1, 0x0, .ro, 0xFFFFFFFF, 0x0, 0x0⟩,
  ⟨0x10000C, 4, 0x10000, 1, 0x0, .ro, 0xFFFFFFFF, 0x0, 0x0⟩,
  ⟨0x100010, 4, 0x10000, 1, 0x0, .ro, 0xFFFFFFFF, 0x0, 0x0⟩,
  ⟨0x100014, 4, 0x10000, 1, 0x0, .ro, 0xFFFFFFFF, 0x0, 0x0⟩,
  ⟨0x140100, 32, 0x1000, 1, 0x0, .rc, 0xFFFFFFFF, 0x0, 0x0⟩]

/-- Rows of the register map, part 4. -/
def regRows4 : List RegRow := [
  ⟨0x140104, 32, 0x1000, 1, 0x0, .rc, 0xFFFFFFFF, 0x0, 0x0⟩,
  ⟨0x140108, 32, 0x1000, 1, 0x0, .rc, 0xFFFFFFFF, 0x0, 0x0⟩,
  ⟨0x14010C, 32, 0x1000, 1, 0x0, .rc, 0xFFFFFFFF, 0x0, 0x0⟩,
  ⟨0x140110, 32, 0x1000, 1, 0x0, .rc, 0xFFFFFFFF, 0x0, 0x0⟩,
  ⟨0x140114, 32, 0x1000, 1, 0x0, .rc, 0xFFFFFFFF, 0x0, 0x0⟩,
  ⟨0x140118, 32, 0x1000, 1, 0x0, .rc, 0xFFFFFFFF, 0x0, 0x0⟩,
  ⟨0x14011C, 32, 0x1000, 1, 0x0, .rc, 0xFFFFFFFF, 0x0, 0x0⟩,
  ⟨0x140120, 32, 0x1000, 1, 0x0, .rc, 0xFFFFFFFF, 0x0, 0x0⟩,
  ⟨0x140124, 32, 0x1000, 1, 0x0, .rc, 0xFFFFFFFF, 0x0, 0x0⟩,
  ⟨0x140128, 32, 0x1000, 1, 0x0, .rc, 0xFFFFFFFF, 0x0, 0x0⟩,
  ⟨0x140800, 1, 0x0, 1, 0x0, .rw, 0xFFFFFFFF, 0x0, 0x3E8⟩,
  ⟨0x140804, 1, 0x0, 1, 0x0, .rw, 0xFFFFFFFF, 0x0, 0xFFFFFFFF⟩,
  ⟨0x16000C, 16, 0x1000, 1, 0x0, .rc, 0xFFFFFFFF, 0x0, 0x0⟩,
  ⟨0x160010, 16, 0x1000, 1, 0x0, .rc, 0xFFFFFFFF, 0x0, 0x0⟩,
  ⟨0x17000C, 4, 0x1000, 1, 0x0, .rc, 0xFFFFFFFF, 0x0, 0x0⟩,
  ⟨0x170010, 4, 0x1000, 1, 0x0, .rc, 0xFFFFFFFF, 0x0, 0x0⟩,
  ⟨0x18000C, 2, 0x10000, 1, 0x0, .rc, 0xFFFFFFFF, 0x0, 0x0⟩,
  ⟨0x180010, 2, 0x10000, 1, 0x0, .rc, 0xFFFFFFFF, 0x0, 0x0⟩,
  ⟨0x180918, 2, 0x10000, 1, 0x0, .rc, 0xFFFFFFFF, 0x0, 0x0⟩,
  ⟨0x170834, 16, 0x80, 1, 0x0, .rw, 0xFFFFFFFF, 0x0, 0x0⟩,
  ⟨0x170828, 16, 0x80, 1, 0x0, .rw, 0xFFFFFFFF, 0x0, 0x0⟩,
  ⟨0x1A0020, 2, 0x10000, 1, 0x0, .rw, 0xFFFFFFC0, 0x0, 0x0⟩,
  ⟨0x1A0024, 2, 0x10000, 1, 0x0, .rw, 0xFFFFFFFF, 0x0, 0x0⟩,
  ⟨0x1A0028, 2, 0x10000, 1, 0x0, .rw, 0xFF1, 0x0, 0x40⟩]

/-- Rows of the register map, part 5. -/
def regRows5 : List RegRow := [
  ⟨0x1A0030, 2, 0x10000, 1, 0x0, .rw, 0xFFFFFFFF, 0x0, 0x0⟩,
  ⟨0x1A0034, 2, 0x10000, 1, 0x0, .rc, 0xFFFFFFFF, 0x0, 0x0⟩,
  ⟨0x1A0038, 2, 0x10000, 1, 0x0, .rc, 0xFFFFFFFF, 0x0, 0x0⟩,
  ⟨0x1D0044, 1, 0x0, 1, 0x0, .rc, 0xFFFFFFFF, 0x0, 0x0⟩,
  ⟨0x1D0100, 32, 0x8, 1, 0x0, .rw, 0x7FFF3FFF, 0x0, 0x0⟩,
  ⟨0x1D0104, 32, 0x8, 1, 0x0, .rw, 0xFFFF, 0x0, 0x8001⟩,
  ⟨0x1D8000, 1, 0x0, 8192, 0x4, .rw, 0xFFFFFFFF, 0x0, 0x0⟩,
  ⟨0x1E0100, 32, 0x8, 1, 0x0, .rw, 0xFF9FFF9F, 0x0, 0x0⟩,
  ⟨0x1E0104, 32, 0x8, 1, 0x0, .rw, 0xFF9FFF9F, 0x0, 0x0⟩,
  ⟨0x1E0408, 1, 0x0, 1, 0x0, .rc, 0xFFFFFFFF, 0x0, 0x0⟩,
  ⟨0x200400, 128, 0x1000, 24, 0x4, .ro, 0xFFFFFFFF, 0x0, 0x0⟩,
  ⟨0x200460, 128, 0x1000, 1, 0x0, .w1c, 0x0, 0xFFFFFF, 0x0⟩,
  ⟨0x400040, 16, 0x10000, 1, 0x0, .rwl, 0xFFFF, 0x0, 0x81E⟩,
  ⟨0x400108, 16, 0x10000, 1, 0x0, .rc, 0xFFFFFFFF, 0x0, 0x0⟩,
  ⟨0x40010C, 16, 0x10000, 1, 0x0, .rc, 0xFFFFFFFF, 0x0, 0x0⟩,
  ⟨0x400110, 16, 0x10000, 1, 0x0, .rc, 0xFFFFFFFF, 0x0, 0x0⟩,
  ⟨0x400800, 16, 0x10000, 1, 0x0, .rwl, 0x3FFFFFFF, 0x0, 0x3FFA0000⟩,
  ⟨0x400804, 16, 0x10000, 1, 0x0, .rwl, 0x3FFFFFFF, 0x0, 0x3FFFFFFF⟩,
  ⟨0x400808, 16, 0x10000, 1, 0x0, .rwl, 0x3FFFFFFF, 0x0, 0x0⟩,
  ⟨0x40080C, 16, 0x10000, 1, 0x0, .rwl, 0x3FFFFFFF, 0x0, 0x3FF003FF⟩,
  ⟨0x400810, 16, 0x10000, 1, 0x0, .rwl, 0xF, 0x0, 0x2⟩,
  ⟨0x400918, 16, 0x10000, 1, 0x0, .rc, 0xFFFFFFFF, 0x0, 0x0⟩,
  ⟨0x400A00, 16, 0x10000, 16, 0x4, .ro, 0xFFFFFFFF, 0x0, 0x0⟩,
  ⟨0x400A40, 16, 0x10000, 1, 0x0, .w1c, 0x0, 0xFFFF, 0x0⟩]

/-- Rows of the register map, part 6. -/
def regRows6 : List RegRow := [
  ⟨0x500010, 32, 0x1000, 1, 0x0, .rw, 0xFFFFF, 0x0, 0x0⟩,
  ⟨0x500014, 32, 0x1000, 1, 0x0, .rw, 0x3FFF1FFF, 0x0, 0x0⟩,
  ⟨0x500018, 32, 0x1000, 1, 0x0, .rw, 0x1FF, 0x0, 0x0⟩,
  ⟨0x50001C, 32, 0x1000, 1, 0x0, .rw, 0x7FFF, 0x0, 0x0⟩,
  ⟨0x500020, 32, 0x1000, 1, 0x0, .rw, 0xFFFF, 0x0, 0x0⟩,
  ⟨0x500024, 32, 0x1000, 1, 0x0, .rw, 0x7F, 0x0, 0x1⟩,
  ⟨0x500028, 32, 0x1000, 1, 0x0, .rw, 0x7, 0x0, 0x0⟩,
  ⟨0x500040, 32, 0x1000, 1, 0x0, .rw, 0xFFFF, 0x0, 0x0⟩,
  ⟨0x500044, 32, 0x1000, 1, 0x0, .rw, 0x1F, 0x0, 0x10⟩,
  ⟨0x500048, 32, 0x1000, 1, 0x0, .rw, 0xFFFFFFFF, 0x0, 0x64⟩,
  ⟨0x5000A0, 32, 0x1000, 1, 0x0, .rw, 0xFFFFFFFF, 0x0, 0x0⟩,
  ⟨0x5000A4, 32, 0x1000, 1, 0x0, .rw, 0xFFFFFFFF, 0x0, 0x0⟩,
  ⟨0x5000A8, 32, 0x1000, 1, 0x0, .rw, 0xFFFFFFFF, 0x0, 0x0⟩,
  ⟨0x500030, 32, 0x1000, 4, 0x4, .rw, 0xFFFFFFFF, 0x0, 0x0⟩,
  ⟨0x500060, 32, 0x1000, 4, 0x10, .rw, 0x8FFF07FF, 0x0, 0x0⟩,
  ⟨0x500064, 32, 0x1000, 4, 0x10, .rw, 0xFF, 0x0, 0x0⟩,
  ⟨0x500068, 32, 0x1000, 4, 0x10, .rw, 0x7F007F, 0x0, 0x0⟩,
  ⟨0x50006C, 32, 0x1000, 4, 0x10, .rw, 0x7F007F, 0x0, 0x0⟩,
  ⟨0x5000C0, 32, 0x1000, 1, 0x0, .rc, 0xFFFFFFFF, 0x0, 0x0⟩,
  ⟨0x5000C4, 32, 0x1000, 1, 0x0, .rc, 0xFFFFFFFF, 0x0, 0x0⟩,
  ⟨0x5000C8, 32, 0x1000, 1, 0x0, .rc, 0xFFFFFFFF, 0x0, 0x0⟩,
  ⟨0x5000CC, 32, 0x1000, 1, 0x0, .rc, 0xFFFFFFFF, 0x0, 0x0⟩,
  ⟨0x5000D0, 32, 0x1000, 1, 0x0, .rc, 0xFFFFFFFF, 0x0, 0x0⟩,
  ⟨0x5000D4, 32, 0x1000, 1, 0x0, .rc, 0xFFFFFFFF, 0x0, 0x0⟩,
  ⟨0x500400, 32, 0x1000, 64, 0x10, .rw, 0xFFFFFFFF, 0x0, 0x0⟩,
  ⟨0x500404, 32, 0x1000, 64, 0x10, .rw, 0xFFFFFFFF, 0x0, 0x0⟩,
  ⟨0x500408, 32, 0x1000, 64, 0x10, .rw, 0xFFFFFFFF, 0x0, 0x0⟩]

/-- Rows of the register map, part 7. -/
def regRows7 : List RegRow := [
  ⟨0x50040C, 32, 0x1000, 64, 0x10, .own, 0x1, 0x0, 0x1⟩,
  ⟨0x520000, 32, 0x1000, 1, 0x0, .rw, 0x3FFF, 0x0, 0x0⟩,
  ⟨0x520004, 32, 0x1000, 1, 0x0, .rw, 0xFFFFFFFF, 0x0, 0x0⟩,
  ⟨0x520008, 32, 0x1000, 1, 0x0, .rw, 0xFFFFFFFF, 0x0, 0x1⟩,
  ⟨0x88000, 64, 0x10, 1, 0x0, .rw, 0xFFFFFFFF, 0x0, 0x0⟩,
  ⟨0x88004, 64, 0x10, 1, 0x0, .rw, 0xFFFFFFFF, 0x0, 0x0⟩,
  ⟨0x88008, 64, 0x10, 1, 0x0, .rw, 0xFFFFFFFF, 0x0, 0x0⟩,
  ⟨0x8800C, 64, 0x10, 1, 0x0, .own, 0x1, 0x0, 0x1⟩]

/-- The register map. -/
def regRows : List RegRow :=
  regRows0 ++ regRows1 ++ regRows2 ++ regRows3 ++ regRows4 ++ regRows5 ++ regRows6 ++ regRows7

/-- The row of the map that holds the register at BAR0 offset `off`, if any. -/
def RegRow.holds (r : RegRow) (off : Nat) : Bool :=
  let d := off - r.base
  let i := if r.n1 ≤ 1 then 0 else d / r.s1
  let e := d - r.s1 * i
  let j := if r.n2 ≤ 1 then 0 else e / r.s2
  decide (r.base ≤ off) && decide (i < max r.n1 1) && decide (j < max r.n2 1) &&
    (e == (if r.n2 ≤ 1 then 0 else r.s2 * j))

/-- The row of the map that holds the register at BAR0 offset `off`, if any. -/
def regRow? (off : Nat) : Option RegRow := regRows.find? (fun r => r.holds off)

/-- The reset value of the register at `off` (0 where the map has none). -/
def regReset (off : Nat) : Nat :=
  match regRow? off with
  | some r => r.reset
  | none => 0

end Sys2Proof.Machine
end

