-- ==== Sys2Proof/Parts/Dict.lean ====
section
/-! DEFINITION. The object dictionary's own state: sessions, CAN nodes, the UDP binding, the mailbox, and the settings store
(R371 to R387). Sessions are numbered: 0 and 1 CAN0 and CAN1, 2 to 9 the UDP allowlist entries, 10 the mailbox, 11 a blob. -/

namespace Sys2Proof

/-- A session (R374): staged settings by object index, staged window descriptors by window, the INDEX the next descriptor takes, the
area 0x6000 as staged, the device time of its last write (ns), a DOMAIN write in progress (index, subindex, bytes so far). -/
structure Session where
  objs : Tab Settings := []
  wins : Tab (Option (BitVec 512)) := []
  winIndex : Nat := 0
  safe : Tab Settings := []
  lastWrite : Nat := 0
  domain : Option (Nat × Nat × List (BitVec 8)) := none
deriving DecidableEq, Repr

/-- A CANopen FD node (R377, R378, R382): node-ID (0xFF unconfigured), NMT state (0 pre-operational, 1 operational, 2 stopped), bus
state, error counters, bit rates; whether LSS has selected it; the segmented transfer in progress (index, subindex, device time
of the last segment); the TPDOs last sent by number: content and device time. -/
structure CanNode where
  nodeId : BitVec 8 := 0xFF
  nmt : Nat := 0
  bus : Nat := 0
  tec : BitVec 8 := 0
  recCnt : BitVec 8 := 0
  nominal : Nat := 0
  data : Nat := 0
  lss : Bool := false
  transfer : Option (Nat × Nat × Nat) := none
  tpdo : Tab (List (BitVec 8) × Nat) := []
  heartbeatAt : Nat := 0
  lastReason : BitVec 16 := 0
deriving DecidableEq, Repr

/-- A UDP answer kept for 2 s (R381). -/
structure UdpAnswer where
  peer : Nat
  tid : Nat
  at_ : Nat
  status : Nat
  reason : Nat
  data : List (BitVec 8)
deriving DecidableEq, Repr

/-- One flash area of the settings store (R386): erased, damaged, or a copy. -/
inductive StoreArea where
  | erased
  | corrupt
  | copy (seq layout : Nat) (objs : Tab Obj) (wins : Tab (BitVec 512)) (plain : Tab Nat) (allow : Tab (BitVec 128))
deriving DecidableEq, Repr

/-- The dictionary. -/
structure Dict where
  sessions : Tab Session := []
  can : Tab CanNode := []
  cache : List UdpAnswer := []
  /-- per allowlist entry: whole second of device time and requests in it -/
  rate : Tab (Nat × Nat) := []
  discarded : BitVec 32 := 0
  allow : Tab (BitVec 128) := []
  mbxBusy : Bool := false
  mbxDone : Bool := false
  mbxReason : Nat := 0
  mbxAbort : Nat := 0
  /-- a store in progress (R386): into the second area, what it writes -/
  storing : Option (Bool × StoreArea) := none
  /-- cause of the last settings load (R387) -/
  loadCause : Nat := 0
  /-- the settings have been read since the boot -/
  loaded : Bool := false
  blobResult : Nat := 0
  /-- pattern q's SEGMENTS and REPEAT, requests q, as written in area 0x6000 -/
  requests : Tab (BitVec 16) := []
deriving DecidableEq, Repr

/-- The settings store and the LSS area (R378, R386, R387): what flash keeps through every reset. LSS: per controller node-ID, nominal
and data rate. -/
structure SettingsStore where
  a : StoreArea := .erased
  b : StoreArea := .erased
  /-- RESTORE was asked for before the restart (R387 case 4) -/
  restore : Bool := false
  stores : BitVec 32 := 0
  lss : Tab (Option (BitVec 8 × Nat × Nat)) := []
deriving DecidableEq, Repr

end Sys2Proof
end

