-- ==== Sys2Proof/Parts/Glb.lean ====
section
/-! DEFINITION. The GLB block: what the device holds of its configuration as a whole (R38, R42 to R51). -/

namespace Sys2Proof

/-- The GLB block. -/
structure Glb where
  /-- hash of the blob applied last (R44, GLB.CFG_HASH), by word -/
  cfgHash : Tab (BitVec 32) := []
  /-- CFG_STATE (R43) -/
  blobApplied : Bool := false
  dirty : Bool := false
  signed : Bool := false
  /-- FW_VERSION and MODEL_VERSION of the running firmware, 0 until it is up -/
  fwVersion : BitVec 32 := 0
  modelVersion : BitVec 32 := 0
  /-- a blob DMA in progress (R44) -/
  blobReading : Bool := false
  /-- an APERTURE_BASE that waits for earlier BAR4 requests (R50) -/
  apertureNext : Option Nat := none
  /-- a stray access since BAR_STRAY was last read (R49) -/
  straySeen : Bool := false
deriving DecidableEq, Repr

end Sys2Proof
end

