-- ==== Sys2Proof/Parts/Out.lean ====
section
/-! DEFINITION. What leaves the device: the packets, messages and signals its commands send. The model appends each to the
outbox `State.sent`; nothing in the device reads it back. -/

namespace Sys2Proof

/-- One thing sent. -/
inductive Out where
  /-- a Delay_Req of domain `d` on an Ethernet port (R61) -/
  | delayReq (port d : Nat) (seq tag : BitVec 16)
  /-- an IGMPv3 or MLDv2 membership report: the group, its source filter if any (R125) -/
  | membership (port : Nat) (group : BitVec 128) (source : Option (BitVec 128))
  /-- a Lusko packet (R160): the first lane of its bond, or the lane of an IDENT; CHAN; SEQ; the column of its SOP (R154); what it says
  and its payload bytes, which a message longer than a packet spreads over several -/
  | lusko (lane chan : Nat) (seq : BitVec 16) (col : Nat) (body : LuskoBody) (payload : List (BitVec 8))
  /-- a bond's transmitter sends an EIS from a column on, and then holds the lines at electrical idle (R170, R171) -/
  | luskoIdle (lane col : Nat)
  /-- a bond's transmitter leaves fast electrical idle: 256 TRN, 16 COM, one ALN column, from a column on (R170) -/
  | luskoBurst (lane col : Nat)
  /-- one RTP packet of a recording (R279): port, destination, UDP port; SSRC, payload type, sequence number, time-stamp, marker; payload -/
  | recRtp (port : Nat) (dst : BitVec 128) (udp : BitVec 16) (ssrc : BitVec 32) (pt : Nat) (seq : BitVec 16) (ts : BitVec 32)
      (marker : Bool) (payload : List (BitVec 8))
  /-- training of a head's link begins (R258): rate and lane codes, the pattern of channel equalisation after TPS1, down-spread -/
  | training (head rate lanes tps : Nat) (spread : Bool)
  /-- the active period of a frame that a head's transmitter sends (R257): 10 bits a component or 8, the limited range that the MSA
  signals, and the components of its pixels, line by line -/
  | stream (head : Nat) (ten limited : Bool) (lines : List (List (Nat × Nat × Nat)))
  /-- a message signalled interrupt of an instance (R317): its vector, and the memory write without PASID that signals it -/
  | interrupt (inst vec : Nat) (addr : BitVec 64) (data : BitVec 32)
  /-- an ATS translation request's page request group, an invalidation completion (R333) -/
  | pageRequest (inst group : Nat) (page : BitVec 64)
  | atsComplete (inst : Nat)
  /-- a completion record of 16 bytes written to an instance's completion ring (R324, R326) -/
  | completion (inst : Nat) (addr : BitVec 64) (record : List (BitVec 8))
  /-- CAN: a heartbeat with the NMT state, a TPDO with its content, an LSS answer, a USDO answer (R377 to R379) -/
  | heartbeat (net state : Nat)
  | tpdo (net n : Nat) (data : List (BitVec 8))
  | lss (net cs error : Nat)
  | usdo (net index sub abort : Nat) (data : List (BitVec 8))
  /-- a UDP dictionary answer (R380, R381) -/
  | udp (peer status reason : Nat) (data : List (BitVec 8))
  /-- an instance's save blob, written to a host address (R339) -/
  | saveBlob (inst : Nat) (addr : BitVec 64) (bytes : List (BitVec 8))
  /-- bytes written to host memory by the device's own DMA, without a PASID: a touch record, a save blob -/
  | hostWrite (addr : BitVec 64) (data : List (BitVec 8))
deriving DecidableEq, Repr

end Sys2Proof
end

