-- ==== Sys2Proof/Parts/Pair.lean ====
section
/-! DEFINITION. The state of a pair (R290 to R315). -/

namespace Sys2Proof

/-- PAIR.STATE.PSTATE (R292). -/
inductive PairState where
  | alone | joining | paired | unpaired | yielded
deriving DecidableEq, Repr

/-- The encoding of R292. -/
def PairState.code : PairState → Nat
  | .alone => 0 | .joining => 1 | .paired => 2 | .unpaired => 3 | .yielded => 4

/-- PAIR.HEAD[h].STAT.LAST (R315). -/
inductive CmpResult where
  | none | match_ | mismatch | missing | unmatched | excused
deriving DecidableEq, Repr

/-- The encoding of R315. -/
def CmpResult.code : CmpResult → Nat
  | .none => 0 | .match_ => 1 | .mismatch => 2 | .missing => 3 | .unmatched => 4 | .excused => 5

/-- Comparison state of a head (R307, R315): the last 64 comparisons as (excused, own MISS, partner MISS), newest first. -/
structure HeadCmp where
  last : CmpResult := .none
  history : List (Bool × Bool × Bool) := []
  missRun : Nat := 0
  unmatchedRun : Nat := 0
  excEvt : Option Nat := none
deriving DecidableEq, Repr

/-- A divergence (R309): D, head, result, first differing line, the keys, LAG, and, for the EXCUSED limit, who missed more:
none, the active or the shadow. -/
structure Divergence where
  d : Nat
  head : Nat
  result : CmpResult
  line : Nat
  keyOwn : BitVec 32
  keyPartner : BitVec 32
  lag : Nat
  excusedMore : Option Bool
deriving DecidableEq, Repr

/-- An access unit retained for fills (R304): context, MSEQ, what was forwarded, when it is released. -/
structure Retained where
  ctx : Nat
  mseq : Nat
  content : List Nal × List (BitVec 8)
  until_ : Nat
deriving DecidableEq, Repr

/-- A manifest entry that waits for its bytes (R304), its deadline, and the bytes a fill brought. -/
structure FillWait where
  entry : Manifest
  deadline : Nat
  content : Option (List Nal × List (BitVec 8)) := none
deriving DecidableEq, Repr

/-- The pair. -/
structure PairUnit where
  en : Bool := false
  cmpDelay : Nat := 50000
  cmdLead : Nat := 2000
  refHead : Nat := 0
  skewMax : Nat := 100
  joinMax : Nat := 10000
  state : PairState := .alone
  shadow : Bool := false
  actIn : Bool := false
  actOut : Bool := false
  outsel : Bool := false
  /-- device time since which PAIR_ACT_IN has been low -/
  actInLow : Option Nat := none
  skew : Int := 0
  skewBad : Option Nat := none
  /-- the present excursion of skew has been reported (R297) -/
  skewSaid : Bool := false
  armed : BitVec 16 := 0
  excl : BitVec 16 := 0
  joinCheck : Nat := 0
  /-- join epoch J, and whether the transfer has been made -/
  joinEpoch : Option Nat := none
  joined : Bool := false
  joinAt : Nat := 0
  /-- when JOIN is issued again (R294) -/
  retryAt : Option Nat := none
  /-- sources joined since J, by source key of their context, or 1000 + surface -/
  joinedSrc : List Nat := []
  lastDiv : Option Divergence := none
  lastAttr : Nat := 0
  /-- a divergence that is not decided yet -/
  pendingDiv : Option Divergence := none
  mseqTx : BitVec 32 := 0
  mseqRx : BitVec 32 := 0
  cmdPos : BitVec 32 := 0
  /-- entries sent or applied, by context or 1000 + surface -/
  mseq : Tab Nat := []
  /-- last MSEQ applied before X plus 1, by context; 0 reads as 0xFFFF_FFFF -/
  tkMseq : Tab Nat := []
  ownBlocks : List SigBlock := []
  partnerBlocks : List SigBlock := []
  heads : Tab HeadCmp := []
  ownHealth : List Health := []
  partnerHealth : List Health := []
  /-- takeover epoch X, whether it has passed, and S -/
  takeover : Option (Nat × Bool × Nat) := none
  /-- a SWITCHOVER this device issued -/
  switching : Bool := false
  /-- a SWITCHOVER the partner issued: its acceptance time -/
  switchAt : Option Nat := none
  gapCtx : List Nat := []
  gapSurf : List Nat := []
  fills : List FillWait := []
  /-- data of surface commits whose entry has not come (R299): surface, MSEQ, complete, samples -/
  surfData : List (Nat × Nat × Bool × List Sample) := []
  retained : List Retained := []
  /-- a JOIN has been asked for and waits for the partner's facts (R295) -/
  joinAsked : Bool := false
  /-- number of the next request that the shadow forwards (R303) -/
  nextFwd : Nat := 0
deriving DecidableEq, Repr

end Sys2Proof
end

