-- ==== Sys2Proof/Parts/Prot.lean ====
section
/-! DEFINITION. Protection, debug and firmware update (R388 to R411), continuous self-test and health (R445 to R448), the tally
(R441 to R443). -/

namespace Sys2Proof

/-- State of a boot slot (R406). -/
inductive SlotState where
  | empty | pending | trial | good | bad
deriving DecidableEq, Repr

/-- The encoding of R406. -/
def SlotState.code : SlotState → Nat
  | .empty => 0 | .pending => 1 | .trial => 2 | .good => 3 | .bad => 4

/-- A boot slot: its record and what the header of the image in it gives (R401, R406). -/
structure Slot where
  state : SlotState := .empty
  attempts : Nat := 0
  seq : BitVec 16 := 0
  rollback : Nat := 0
  fwVersion : BitVec 32 := 0
  modelVersion : BitVec 32 := 0
  layout : Nat := 0
  /-- SHA-256 of the whole image, by word -/
  hash : List (BitVec 32) := []
deriving DecidableEq, Repr

/-- The fields of an image header (R401). -/
structure ImageHeader where
  magic : Nat
  hdrVersion : Nat
  hdrLen : Nat
  imageLen : Nat
  stepping : Nat
  fwVersion : BitVec 32
  modelVersion : BitVec 32
  layout : Nat
  rollback : Nat
  keyId : Nat
  targets : Nat
  payloadHash : List (BitVec 32)
  /-- every reserved field is 0 -/
  reservedZero : Bool
deriving DecidableEq, Repr

/-- What one update source has sent (R404, R405): the status of its transfer, bytes received, those that wait for the check of the header,
the length of the mediator's buffer; the TID of a dictionary write that waits for the check of the payload (0 on a CAN controller). -/
structure UpdSource where
  status : Nat := 0
  received : Nat := 0
  head : List (BitVec 8) := []
  len : Option Nat := none
  owed : Option Nat := none
deriving DecidableEq, Repr

/-- The update claim (R403): its owner by UPD.STATE.OWNER, the target slot, the header accepted, device time of the last data. -/
structure Claim where
  owner : Nat
  target : Nat
  header : ImageHeader
  lastData : Nat
deriving DecidableEq, Repr

/-- Refused posted writes of one requester in a window (R396). -/
structure Posted where
  first : Nat := 0
  count : Nat := 0
  kinds : Nat := 0
deriving DecidableEq, Repr

/-- Self-test and health (R445 to R447). Units are numbered as R435, 39 SRAM, 40 DRAM patrol, 41 PLL. -/
structure HealthUnit where
  /-- reports since the boot -/
  seq : Nat := 0
  /-- units whose last pass failed; device time at which a pending failure last cleared -/
  pending : List Nat := []
  clearedAt : Option Nat := none
  /-- units that have passed or failed a run since the present round began; when the last full round ended -/
  round : List Nat := []
  stLast : Nat := 0
  /-- units that have run since the last divergence, while a report after a self-check is owed (R446) -/
  checked : Option (List Nat) := none
  /-- device time of each unit's last pass or failure, and of the boot; units reported as starved since -/
  lastRun : Tab Nat := []
  bootAt : Nat := 0
  starved : List Nat := []
  /-- since the last report: uncorrectable errors, watchdog warnings, refusals of the protection unit, deadline misses -/
  eccUe : Nat := 0
  wdWarns : Nat := 0
  mpuFaults : Nat := 0
  misses : Nat := 0
  temp : BitVec 16 := 0
  /-- device time of a boot after LOCKSTEP -/
  lockstepAt : Option Nat := none
  fwFault : Bool := false
  boardInvalid : Bool := false
  faults : BitVec 32 := 0
  /-- the latest report, 128 bytes (R447, R448) -/
  report : List (BitVec 8) := []
deriving DecidableEq, Repr

/-- The tally (R441 to R443). -/
structure TallyUnit where
  running : Bool := false
  origin : Nat := 0
  period : Nat := 100000
  /-- the next edge: at first the first one at or after acceptance -/
  next : Nat := 0
  /-- edges since START -/
  seq : Nat := 0
  written : Nat := 0
  prev : Nat := 0
  lost : Nat := 0
  lostEvt : Option Nat := none
deriving DecidableEq, Repr

/-- The protection unit, the part's fuses, the update state, health and the tally. -/
structure Prot where
  /-- lifecycle DEVELOPMENT (R397) -/
  development : Bool := true
  /-- keys present and not revoked, bit k for KEY_ID k (R398) -/
  keyStore : BitVec 8 := 0xFF
  /-- rollback fuse count (R402) -/
  fuse : Nat := 0
  slotA : Slot := {}
  slotB : Slot := {}
  /-- the slot running is B -/
  runB : Bool := false
  /-- flash bytes by flash offset; an unlisted byte is erased and reads 0xFF -/
  flash : Tab (BitVec 8) := []
  /-- the board record's 64 KiB of flash as last read, by offset in them; a byte not listed is 0 (R406, R427) -/
  boardArea : Tab (BitVec 8) := []
  claim : Option Claim := none
  sources : Tab UpdSource := []
  /-- device time in RUN and SHADOW since the boot, without the present stay, ns (R408) -/
  trialNs : Nat := 0
  /-- a trial slot has been marked BAD since the last boot (R407, R408) -/
  trialFailed : Bool := false
  /-- an image completed in RECOVERY, so that RECOVERY_N high resets the device (R409) -/
  recoveryDone : Bool := false
  regions : Tab (BitVec 128) := []
  /-- 4 KiB granules of pool pages whose evidence bit a scrub has cleared since the page was allocated (R393) -/
  scrubbed : Tab Bool := []
  faultLatched : Bool := false
  /-- by requester: instance number, 32 the mediator -/
  posted : Tab Posted := []
  health : HealthUnit := {}
  tally : TallyUnit := {}
deriving DecidableEq, Repr

end Sys2Proof
end

