-- ==== Sys2Proof/Parts/Time.lean ====
section
/-! DEFINITION. The state of the time unit (R53 to R80): the local count, the native-time correction, the servo, the two PTP
domains, the transmit time-stamp queues, the time-triggered outputs and the capture inputs. -/

namespace Sys2Proof

/-- TIME.SERVO.STATE (R59, R63). -/
inductive ServoState where
  | free | acquire | locked | hold
deriving DecidableEq, Repr

/-- The STATE field's encoding (R59). -/
def ServoState.code : ServoState → Nat
  | .free => 0 | .acquire => 1 | .locked => 2 | .hold => 3

/-- A master heard on a port of a domain (R61, firmware's best master clock algorithm), and the local count at its last Announce. -/
structure Master where
  port : Nat
  data : Announce
  heard : Nat
deriving DecidableEq, Repr

/-- What is measured of one PTP domain (R61, R62, R480). Offsets are T minus domain time, ns. -/
structure Domain where
  masters : List Master := []
  gm : BitVec 64 := 0
  /-- currentUtcOffset that the selected master last announced, s -/
  utc : Int := 0
  port : Nat := 0
  valid : Bool := false
  off : Int := 0
  /-- the last Sync still waiting for its Follow_Up: sequence, t2, correction -/
  pendingSync : Option (BitVec 16 × Int × Int) := none
  /-- the last completed Sync: t1, t2, corrections_sync -/
  lastSync : Option (Int × Int × Int) := none
  /-- the Delay_Req in flight: sequence, t3 -/
  delayReq : Option (BitVec 16 × Int) := none
  meanPath : Option Int := none
  /-- the last consecutive valid samples, newest first, at most 16: (device time, offset) -/
  samples : List (Int × Int) := []
  /-- local count since which the domain has been STABLE with an unchanged grandmaster (R70) -/
  stableSince : Option Nat := none
deriving DecidableEq, Repr

/-- One entry of a transmit time-stamp queue (R72). -/
structure TxEntry where
  seqId : BitVec 16
  tag : BitVec 16
  domain : BitVec 8
  msgType : BitVec 4
  ts : BitVec 64
deriving DecidableEq, Repr

/-- A port's transmit time-stamp queue (R72, R73): entries oldest first, the four words last popped, OVF. -/
structure TxQueue where
  entries : List TxEntry := []
  popped : Option TxEntry := none
  ovf : Bool := false
deriving DecidableEq, Repr

/-- A time-triggered output (R75, R76); CTRL's MODE, POL and SRC and the other settings are registers. -/
structure Tto where
  armed : Bool := false
  late : Bool := false
  /-- the logical level, before POL, and the level at the ball, which POL inverts -/
  level : Bool := false
  pin : Bool := false
  start : BitVec 64 := 0
  /-- device time of the next edge -/
  next : Nat := 0
  /-- in MODE 2 the index k of the next pulse, at START + k × PERIOD, and the pulses emitted -/
  index : Nat := 0
  emitted : Nat := 0
deriving DecidableEq, Repr

/-- A stamp of a capture input (R78). -/
structure TciStamp where
  t : BitVec 64
  rising : Bool
  seq : BitVec 16
deriving DecidableEq, Repr

/-- A capture input: TCI 0 to 3, and PPS_IN as input 4 (R78). -/
structure Tci where
  queue : List TciStamp := []
  popped : Option TciStamp := none
  seq : BitVec 16 := 0
  /-- local count at the last captured edge -/
  lastEdge : Option Nat := none
deriving DecidableEq, Repr

/-- The time unit. -/
structure TimeUnit where
  /-- LCT, ns of the SYS reference (R53) -/
  lct : Nat := 0
  /-- the fractional accumulator of LCT, in 24ths (R53) -/
  frac : Nat := 0
  offset : BitVec 64 := 0
  anchor : BitVec 64 := 0
  rate : Int := 0
  servo : ServoState := .free
  domain : Fin 2 := 0
  everLocked : Bool := false
  traceOk : Bool := false
  /-- the servo's frequency estimate, units of 2^-40, and its last 16 values, newest first (HOLD freezes their mean) -/
  freq : Int := 0
  freqs : List Int := []
  /-- the slew in progress: signed difference at its start, LCT of its start, signed rate -/
  slewResid : Int := 0
  slewStart : Nat := 0
  slewRate : Int := 0
  /-- the loop's rate correction in LOCKED (R65) -/
  corr : Int := 0
  /-- the followed grandmaster has changed and its difference is not yet measured (R63) -/
  gmChanged : Bool := false
  /-- the difference held with STEP_NEEDED set, and the grandmaster against which it was measured (R65) -/
  held : Option Int := none
  heldGm : BitVec 64 := 0
  lockRun : Nat := 0
  unlockRun : Nat := 0
  holdByLoss : Bool := false
  holdFromLocked : Bool := false
  /-- local count at which HOLD was entered (R67) -/
  holdSince : Nat := 0
  adjCommitted : Bool := false
  stepCount : BitVec 32 := 0
  /-- local count at which the first domain was enabled (R66) -/
  firstEnabled : Option Nat := none
  domA : Domain := {}
  domB : Domain := {}
  snap : List (BitVec 64) := []
  snapSeq : BitVec 32 := 0
  ltbEpoch : Tab (BitVec 64) := []
  txq : Tab TxQueue := []
  tto : Tab Tto := []
  tci : Tab Tci := []
  ppsOut : Bool := false
  /-- device time up to which the PPS_OUT pulse lasts -/
  ppsUntil : Nat := 0
  /-- the n-th free value the time unit has taken (the model's own counter) -/
  fresh : Nat := 0
deriving DecidableEq, Repr

end Sys2Proof
end

