-- ==== Sys2Proof/Machine/State.lean ====
section
/-! DEFINITION. The state of the W128, the state right after reset, and the reasons a step can stop. -/

namespace Sys2Proof.Machine

/-- Why the machine stops with a fault. The W128 has no such stop: every refused access, late completion and uncorrectable
error is reported and the device goes on (R7, R395, R416). The one constructor is never raised; it keeps the type
inhabited. Safe. -/
inductive Fault where
  | none
deriving DecidableEq, Repr

/-- Why a command has no meaning. -/
inductive Refusal where
  /-- raised by Dispatch for a command whose meaning is not written yet; safe: nothing can be proved of it -/
  | notModelled (mnemonic : String)
deriving DecidableEq, Repr

/-- The state of the device. `pending` is the queue of commands waiting, first in first out; `readData` is what the last
register read returned to its reader. -/
structure State where
  time : TimeUnit := {}
  mode : ModeUnit := {}
  aon : Aon := {}
  /-- plain registers and counters, by BAR0 byte offset; an unlisted one holds its reset value -/
  regs : Tab Nat := []
  /-- high words latched by the read of their low word, by BAR0 byte offset -/
  latches : Tab Nat := []
  readData : Nat := 0
  /-- device memory: bytes of DRAM by offset from the start of DRAM; an unlisted byte reads 0 -/
  dram : List Host.Cell := []
  /-- the mediator's event ring, oldest first, and the next sequence number per ring and source -/
  events : List Event := []
  eventSeq : Tab (BitVec 16) := []
  sent : List Out := []
  chans : Tab Chan := []
  ctxs : Tab Ctx := []
  salvos : Tab Salvo := []
  bonds : Tab BondCfg := []
  lanes : Tab Lane := []
  cruiseSeq : BitVec 32 := 0
  /-- device time of the multiple of the period at which the last sweep fell (R169), ns -/
  cruiseLast : Nat := 0
  cores : Tab Core := []
  slots : Tab Slots := []
  /-- where the last packing placed each part: context, part, core (R178) -/
  packing : List (Nat × Nat × Nat) := []
  /-- programmable counters, by 8 × unit + counter (R435, R436) -/
  progs : Tab (BitVec 48) := []
  heads : Tab Head := []
  sheets : Tab Sheet := []
  engines : Tab Engine := []
  win : WinTable := {}
  safe : Safelight := {}
  insts : Tab Inst := []
  surfs : Tab Surface := []
  /-- the work order whose transfer the host DMA carries: instance, work order (R335) -/
  dma : Option (Nat × Nat) := none
  /-- translations the host DMA holds: PASID and host page, newest first, at most 512 (R333) -/
  atc : List (BitVec 20 × BitVec 64) := []
  console : Console := {}
  recs : Tab Rec := []
  recCores : Tab RecCore := []
  pair : PairUnit := {}
  board : Board := {}
  prov : Prov := {}
  glb : Glb := {}
  adm : Admitted := {}
  dict : Dict := {}
  store : SettingsStore := {}
  prot : Prot := {}
  /-- the dictionary's UDP port number and port mask (R380) -/
  udpPort : BitVec 16 := 4770
  udpPorts : BitVec 4 := 0
  pending : List Instr := []
deriving DecidableEq, Repr

/-- The machine right after reset: every register at the value its table gives, MODE.STATE at 2 (CONFIGURE, R433), the ROM
about to choose a slot (R407), no command waiting. -/
def State.reset : State := {}

end Sys2Proof.Machine
end

