-- ==== Sys2Proof/Machine/Ops.lean ====
section
/-! DEFINITION. The named operations every family uses: device time, registers and counters, the units of the state by
index, events, device memory. -/

namespace Sys2Proof.Machine

/-! ## Device time (R53 to R58) -/

/-- RATE's clamp, 500 ppm in units of 2^-40 (R54). -/
def rateClamp : Int := 549755814

/-- Native time at local count `l` as R54 gives it, a 64-bit value. -/
def nativeAt (u : TimeUnit) (l : Nat) : BitVec 64 :=
  u.offset + BitVec.ofInt 64 ((l : Int) + ((l : Int) - (u.anchor.toNat : Int)) * u.rate / (2 ^ 40 : Nat))

/-- Device time now, ns. -/
def State.now (s : State) : Nat := (nativeAt s.time s.time.lct).toNat

/-- Device time now in whole µs (R58, before the reduction mod 2^40). -/
def State.nowUs (s : State) : Nat := s.now / 1000

/-- A time of whole µs as a tag holds it (R58). -/
def tagTime (us : Nat) : BitVec 40 := BitVec.ofNat 40 us

/-- The whole µs nearest to now that a 40-bit time spells (R58, R300). -/
def State.untagUs (s : State) (v : Nat) : Nat :=
  let d := (v + 2 ^ 40 - s.nowUs % 2 ^ 40) % 2 ^ 40
  if d < 2 ^ 39 then s.nowUs + d else s.nowUs - (2 ^ 40 - d)

/-- The slew residual at local count `l`: what is left of the difference, never past zero (R65). -/
def slewResidual (u : TimeUnit) (l : Nat) : Int :=
  let r := u.slewResid + ((l : Int) - (u.slewStart : Int)) * (clampI (-rateClamp) rateClamp (u.freq + u.slewRate) - u.freq)
    / (2 ^ 40 : Nat)
  if u.slewRate = 0 then u.slewResid
  else if 0 ≤ u.slewResid then max 0 r else min 0 r

/-- TRACE_OK as R67 defines it, from the servo's state at local count `l`. -/
def traceCond (u : TimeUnit) (tol holdoverMs : Nat) : Bool :=
  u.held.isNone &&
    ((u.servo == .locked && decide ((slewResidual u u.lct).natAbs ≤ tol)) ||
     (u.servo == .hold && u.holdByLoss && u.holdFromLocked && !u.adjCommitted && decide (0 < holdoverMs) &&
       decide (u.lct ≤ u.holdSince + holdoverMs * 1000000)))

/-! ## Registers and counters (R18, R19, R439) -/

/-- The value of a register of the map. -/
def State.reg (s : State) (off : Nat) : Nat := Tab.get (regReset off) s.regs off

/-- Set a register of the map. -/
def State.setReg (s : State) (off v : Nat) : State := { s with regs := Tab.set (regReset off) s.regs off v }

/-- Count `n` more in a saturating 32-bit counter. -/
def State.count (s : State) (off : Nat) (n : Nat) : State := s.setReg off (satAdd32 (s.reg off) n)

/-- Count `n` more in a wrapping 32-bit counter without an overflow bit. -/
def State.countWrap (s : State) (off : Nat) (n : Nat) : State := s.setReg off ((s.reg off + n) % 2 ^ 32)

/-- Set bits of a register. -/
def State.orReg (s : State) (off m : Nat) : State := s.setReg off (s.reg off ||| m)

/-- Count `n` more in channel counter `i` of channel `c`; a wrap sets its overflow bit (R437, R439). -/
def State.chCount (s : State) (c i n : Nat) : State :=
  let v := s.reg (Reg.chCount c i) + n
  let s := s.setReg (Reg.chCount c i) (v % 2 ^ 32)
  if v < 2 ^ 32 then s else s.orReg (Reg.chOvf c) (2 ^ i)

/-- Count `n` more in head counter `i` of head `h`; a wrap sets its overflow bit (R438, R439). -/
def State.headCount (s : State) (h i n : Nat) : State :=
  let v := s.reg (Reg.headCount h i) + n
  let s := s.setReg (Reg.headCount h i) (v % 2 ^ 32)
  if v < 2 ^ 32 then s else s.orReg (Reg.headOvf h) (2 ^ i)

/-! ## The instant of a command -/

/-- Without VDD_AON, in reset of the always-on domain and in STANDBY the local count and native time stand still (R80). -/
def State.timeStopped (s : State) : Bool :=
  s.mode.phase == .off || s.mode.phase == .aonReset || s.mode.phase == .standby

/-- The time unit at local count `t`: the count never runs back, and TRACE_OK is as R67 gives it there. -/
def timeAt (u : TimeUnit) (t tol holdoverMs : Nat) : TimeUnit :=
  let u := { u with lct := max u.lct t, frac := if u.lct < t then 0 else u.frac }
  { u with traceOk := traceCond u tol holdoverMs }

/-- The instant of a command or event: the local count reaches `t`, unless it stands still. -/
def State.at (s : State) (t : Nat) : State :=
  { s with time :=
      if s.timeStopped then s.time else timeAt s.time t (s.reg Reg.timeTraceTol) (s.reg Reg.timeHoldoverMax) }

/-- The value in force of a dictionary entry without ACTION, `d` where nothing has been written (R383). -/
def State.plain (s : State) (idx sub d : Nat) : Nat :=
  match Tab.get 0 s.adm.plain (idx * 256 + sub) with
  | 0 => d
  | v + 1 => v

/-! ## Units by index -/

def State.ctx (s : State) (n : Nat) : Ctx := Tab.get {} s.ctxs n
def State.setCtx (s : State) (n : Nat) (x : Ctx) : State := { s with ctxs := Tab.set {} s.ctxs n x }
def State.chan (s : State) (n : Nat) : Chan := Tab.get {} s.chans n
def State.setChan (s : State) (n : Nat) (x : Chan) : State := { s with chans := Tab.set {} s.chans n x }
def State.salvo (s : State) (n : Nat) : Salvo := Tab.get {} s.salvos n
def State.setSalvo (s : State) (n : Nat) (x : Salvo) : State := { s with salvos := Tab.set {} s.salvos n x }
def State.lane (s : State) (n : Nat) : Lane := Tab.get {} s.lanes n
def State.setLane (s : State) (n : Nat) (x : Lane) : State := { s with lanes := Tab.set {} s.lanes n x }
def State.core (s : State) (n : Nat) : Core := Tab.get {} s.cores n
def State.setCore (s : State) (n : Nat) (x : Core) : State := { s with cores := Tab.set {} s.cores n x }
def State.head (s : State) (n : Nat) : Head := Tab.get {} s.heads n
def State.setHead (s : State) (n : Nat) (x : Head) : State := { s with heads := Tab.set {} s.heads n x }
def State.sheet (s : State) (n : Nat) : Sheet := Tab.get {} s.sheets n
def State.setSheet (s : State) (n : Nat) (x : Sheet) : State := { s with sheets := Tab.set {} s.sheets n x }
def State.engine (s : State) (n : Nat) : Engine := Tab.get {} s.engines n
def State.setEngine (s : State) (n : Nat) (x : Engine) : State := { s with engines := Tab.set {} s.engines n x }
def State.unitSlots (s : State) (n : Nat) : Slots := Tab.get {} s.slots n
def State.setSlots (s : State) (n : Nat) (x : Slots) : State := { s with slots := Tab.set {} s.slots n x }
def State.inst (s : State) (n : Nat) : Inst := Tab.get {} s.insts n
def State.setInst (s : State) (n : Nat) (x : Inst) : State := { s with insts := Tab.set {} s.insts n x }
def State.surf (s : State) (n : Nat) : Surface := Tab.get {} s.surfs n
def State.setSurf (s : State) (n : Nat) (x : Surface) : State := { s with surfs := Tab.set {} s.surfs n x }
def State.setTime (s : State) (u : TimeUnit) : State := { s with time := u }
def State.setMode (s : State) (m : ModeUnit) : State := { s with mode := m }
def State.send (s : State) (o : Out) : State := { s with sent := s.sent ++ [o] }

/-- The indices of the listed entries of a table. -/
def keys {α : Type} (t : Tab α) : List Nat := t.map Prod.fst

/-! ## Events (R342, R343) -/

/-- The mediator's ring among the ring numbers; instance `n`'s ring is `n`. -/
def medRing : Nat := 32

/-- Whether instance `n`'s ring receives an event (R342): its own INST events; CH events of granted channels; CTX events of
the contexts feeding them; HEAD WIN_STATE naming a window of its range (the window is the payload's first field) and
GEN_SWITCH if its range has a window on that head; REC events of granted recordings; SAFE REQ_REFUSED naming it. -/
def State.ringWants (s : State) (n : Nat) (k : EvKind) (idx : Nat) (payload : List Int) : Bool :=
  let i := s.inst n
  let g := i.grants
  let inRange := fun (w : Nat) => decide (g.winBase ≤ w) && decide (w < g.winBase + g.winCount)
  i.evq.en &&
    match k with
    | .instState | .instResetDone | .instFrozen | .instRestored | .instResourceRevoked | .instFault | .instPriTimeout
    | .instDeadlineMiss | .instQueueErr | .instEvtLost | .instBlazeSeen | .instSnag | .instSnagClear => idx == n
    | .chState | .chDeadlineMiss | .chBlazeSeen | .chSnag | .chSnagClear | .chCaptImplausible =>
      decide (idx < 128) && g.chGrant.getLsbD idx
    | .ctxState | .ctxSsrcChange | .ctxPathDown | .ctxPathUp | .ctxResync | .ctxOverflow | .ctxClockTrace
    | .ctxClockUntrace | .ctxFault | .ctxInvalidBegin | .ctxHealed | .ctxDecError | .ctxSizeChange =>
      match (s.ctx idx).ch with
      | some c => g.chGrant.getLsbD c
      | none => false
    | .headWinState =>
      match payload with
      | w :: _ => inRange w.toNat
      | [] => false
    | .headGenSwitch =>
      let t := if s.win.active then s.win.genB else s.win.genA
      t.any (fun p => inRange p.1 && p.2.getLsbD 0 && !p.2.getLsbD 3 && (p.2.toNat / 2 ^ 8 % 32 == idx))
    | .recExhausted | .recDeadlineMiss | .recRingDrop | .recIdxLost => g.recGrant.getLsbD idx
    | .safeReqRefused => match payload with
      | w :: _ => w.toNat == n
      | [] => false
    | _ => false

/-- Signal vector `v` of an instance: sent, or left pending while the mediator's or the instance's mask is set; a vector at or above
VEC_COUNT does not exist (R317, R321). -/
def State.signalVec (s : State) (n v : Nat) : State :=
  let i := s.inst n
  if i.grants.vecCount ≤ v then s
  else
    let m := Tab.get {} i.grants.msgs v
    if i.vecMask.getLsbD v || m.mask then s.setInst n { i with vecPend := i.vecPend ||| BitVec.ofNat 64 (2 ^ v) }
    else s.send (.interrupt n v m.addr m.data)

/-- Entries written and not yet consumed, from the two 32-bit counts of a ring (R323). -/
def unread (written consumed : Nat) : Nat := (written + 2 ^ 32 - consumed) % 2 ^ 32

/-- Enough records of a ring are unread to signal its vector (R324): THRESH of them, 0 taken as 1, or any where HOLD_US is 0. THRESH
and HOLD_US stand in EVQ.CTRL and serve both rings. -/
def ringReady (e : EventRing) (n : Nat) : Bool :=
  decide (max e.thresh 1 ≤ n) || (e.holdUs == 0 && decide (0 < n))

/-- Signal the event ring of an instance when it is due and has not been signalled since RD was last written (R324). -/
def State.evqSignal (s : State) (n : Nat) : State :=
  let i := s.inst n
  if i.evq.en && !i.evq.signalled && ringReady i.evq (unread i.evq.wr i.evq.rd) then
    (s.setInst n { i with evq := { i.evq with signalled := true } }).signalVec n i.evq.vec
  else s

/-- Signal the completion ring in the same way. -/
def State.cqSignal (s : State) (n : Nat) : State :=
  let i := s.inst n
  if i.cq.en && !i.cq.signalled && ringReady i.evq (unread i.cq.tail i.cq.head) then
    (s.setInst n { i with cq := { i.cq with signalled := true } }).signalVec n i.cq.vec
  else s

/-- Write a record to the mediator's ring with the next sequence number of its source (R342). -/
def State.medEmit (s : State) (k : EvKind) (idx time : Nat) (payload : List Int) : State :=
  let key := medRing * 65536 + k.src idx
  let q := Tab.get 0 s.eventSeq key
  { s with
    events := s.events ++ [(⟨k, idx, q.toNat, time, payload⟩ : Event)],
    eventSeq := Tab.set 0 s.eventSeq key (q + 1) }

/-- Write a record to instance `n`'s ring with the next sequence number of its source; a full ring loses it (R342). -/
def State.ringWrite (s : State) (n : Nat) (k : EvKind) (idx time : Nat) (payload : List Int) : State :=
  let key := n * 65536 + k.src idx
  let q := Tab.get 0 s.eventSeq key
  let s := { s with eventSeq := Tab.set 0 s.eventSeq key (q + 1) }
  let i := s.inst n
  let e := i.evq
  if unread e.wr e.rd < 2 ^ e.size then
    (s.setInst n { i with
      evq := { e with
      records := e.records ++ [(⟨k, idx, q.toNat, time, payload⟩ : Event)],
      wr := (e.wr + 1) % 2 ^ 32 } }).evqSignal n
  else
    s.setInst n { i with
      evq := { e with
      lost := BitVec.ofNat 32 (satAdd32 e.lost.toNat 1), lostSince := e.lostSince + 1 } }

/-- When space has returned to a full ring, EVT_LOST with the count is written before any other record (R342). -/
def State.payLost (s : State) (n time : Nat) : State :=
  let e := (s.inst n).evq
  if 0 < e.lostSince ∧ unread e.wr e.rd < 2 ^ e.size then
    let i := s.inst n
    let s := s.medEmit .instEvtLost n time [e.lostSince]
    (s.setInst n { i with evq := { i.evq with lostSince := 0 } }).ringWrite n .instEvtLost n time [e.lostSince]
  else s

/-- Write a record to instance `n`'s ring, after the EVT_LOST record that a returned space owes (R342). -/
def State.ringEmit (s : State) (n : Nat) (k : EvKind) (idx time : Nat) (payload : List Int) : State :=
  (s.payLost n time).ringWrite n k idx time payload

/-- Write a record to the rings of the listed instances that want it. -/
def State.ringsEmit (s : State) (k : EvKind) (idx time : Nat) (payload : List Int) : List Nat → State
  | [] => s
  | n :: ns =>
    (if s.ringWants n k idx payload then s.ringEmit n k idx time payload else s).ringsEmit k idx time payload ns

/-- Raise an event with its TIME: the record goes to the mediator's ring with the next sequence number of its source, and to
every instance ring that wants it (R342). -/
def State.emitAt (s : State) (k : EvKind) (idx time : Nat) (payload : List Int) : State :=
  (s.medEmit k idx time payload).ringsEmit k idx time payload (keys s.insts)

/-- Raise an event whose TIME is the instant the condition was detected. -/
def State.emit (s : State) (k : EvKind) (idx : Nat) (payload : List Int) : State := s.emitAt k idx s.now payload

/-- A device-side fault of an instance: its page table's fault registers and the event FAULT with cause UNMAPPED (R332, R335, R395). -/
def State.instFaultAt (s : State) (n va unit : Nat) (write : Bool) : State :=
  let i := s.inst n
  (s.setInst n { i with
    faultVa := BitVec.ofNat 36 va, faultUnit := unit, faultWrite := write,
    faultCount := BitVec.ofNat 16 (min (i.faultCount.toNat + 1) 0xFFFF) }).emit .instFault n [va, 0]

/-- The instance whose grants meet a condition. -/
def State.grantee (s : State) (p : Grants → Bool) : Option Nat := (s.insts.find? (fun i => p i.2.grants)).map Prod.fst

/-- Whose pages a source's frames lie in where an instance's: the instance granted the channel, the owner of the surface (R332). -/
def State.pageOwner (s : State) : Source → Option Nat
  | .ch n => s.grantee (fun g => g.chGrant.getLsbD n)
  | .surf n => some (s.surf n).owner
  | .sheet _ => none

/-- Virtual page `vpn` of an owner is mapped; pages of the common pool are. -/
def State.vpnMapped (s : State) (owner : Option Nat) (vpn : Nat) : Bool :=
  match owner with
  | some n => decide (Tab.get 0 (s.inst n).pages vpn ≠ 0)
  | none => true

/-- An engine met an unmapped page at device-virtual address `va`: its owner is told (R335). -/
def State.engineFault (s : State) (owner : Option Nat) (va unit : Nat) (write : Bool) : State :=
  match owner with
  | some n => s.instFaultAt n va unit write
  | none => s

/-! ## Bandwidth share (R331) -/

/-- The bucket of an instance at local count `lct`, in tenths of a byte: it fills at BW_SHARE and holds at most 1 ms of it. -/
def Inst.creditNow (i : Inst) (lct : Nat) : Int :=
  min (i.grants.bwShare * 1000000) (i.credit + i.grants.bwShare * (lct - i.creditAt : Nat))

/-- The bucket of instance `n` is not empty: its traffic need not wait. -/
def State.funded (s : State) (n : Nat) : Bool := decide (0 < Inst.creditNow (s.inst n) s.time.lct)

/-- Traffic of `bytes` draws on the bucket of instance `n`. -/
def State.draw (s : State) (n bytes : Nat) : State :=
  let i := s.inst n
  s.setInst n { i with credit := Inst.creditNow i s.time.lct - 10 * bytes, creditAt := s.time.lct }

/-- URGENT traffic of `bytes` does not wait: it draws what the bucket holds, and the rest is beyond the share (R252, R331). -/
def State.drawUrgent (s : State) (n bytes : Nat) : State × Nat :=
  let have_ := (Inst.creditNow (s.inst n) s.time.lct).toNat / 10
  (s.draw n (min bytes have_), bytes - min bytes have_)

/-! ## Device memory (R50, R51) -/

/-- The canonical form of device memory: addresses strictly rising, no byte listed that reads as an unlisted one does. -/
def Memory.wf (m : List Host.Cell) : Bool := Tab.wf 0 m

/-- DRAM byte at an offset; a byte nothing has written reads 0. -/
def State.dramByte (s : State) (a : Nat) : Byte := Tab.get 0 s.dram a

/-- Write bytes of DRAM from an offset upward. -/
def State.dramWrite (s : State) (a : Nat) : List Byte → State
  | [] => s
  | b :: t => { s with dram := Tab.set 0 s.dram a b }.dramWrite (a + 1) t

/-- A 2 MiB page whose bytes the device itself writes in a layout the spec does not give: zone 0 (R45) and the pages of picture, packet and
reconstruction pools and of the pair's retention ring. -/
def State.openPage (s : State) (p : Nat) : Bool :=
  decide (p < 512) || s.ctxs.any (fun x => x.2.pool.contains p || x.2.packetPool.contains p) ||
    s.sheets.any (fun x => x.2.pool.contains p) || s.surfs.any (fun x => x.2.pool.contains p) ||
    s.recs.any (fun x => x.2.pool.contains p) || s.adm.retention.contains p

/-- The byte an access sees at a DRAM offset: the byte stored there, and in a page whose layout is open a free value. -/
def State.seenByte (s : State) (a : Nat) : Byte :=
  if s.openPage (a / 2097152) then Config.openByte s.now a else s.dramByte a

/-- Read `n` bytes of DRAM. -/
def State.dramRead (s : State) (a : Nat) : Nat → List Byte
  | 0 => []
  | n + 1 => s.seenByte a :: s.dramRead (a + 1) n

end Sys2Proof.Machine
end

