-- ==== Sys2Proof/Machine/Packet.lean ====
section
/-! DEFINITION. Lusko packets as a transmitter sends them: payload bytes, header, CRC and pad, their columns on a bond, and when a bond's
transmitter is free for the next one (R153, R154, R156, R160 to R163, R169 to R171, R296). -/

namespace Sys2Proof

open Machine

/-! ## Bytes (R160) -/

/-- The 40 bytes of an IDENT payload (R169). -/
def identBytes (i : Ident) : List Byte :=
  [i.kind, i.lane, i.bondW, i.rates, i.channels, 0] ++ leBytes 2 i.version.toNat ++ leBytes 8 i.serial.toNat ++ leBytes 8 i.txT.toNat ++
    leBytes 8 i.echo.toNat ++ leBytes 4 i.turn.toNat ++ leBytes 4 0

/-- The 16 bytes of a TIME payload (R163), which those of a SYNC follow (R296). -/
def timeBytes (t : BitVec 64) (rate : BitVec 32) : List Byte := leBytes 8 t.toNat ++ leBytes 4 rate.toNat ++ leBytes 4 0

/-- The 32 bytes of a FRAME_START payload (R162). -/
def frameStartBytes (f : FrameStart) : List Byte :=
  leBytes 2 f.frame.toNat ++ leBytes 1 f.format.toNat ++ leBytes 1 0 ++ leBytes 2 f.width.toNat ++ leBytes 2 f.height.toNat ++
    leBytes 8 f.capt.toNat ++ leBytes 2 f.rateNum.toNat ++ leBytes 2 f.rateDen.toNat ++ leBytes 12 0

/-- A bit list as little-endian bytes, padded to whole 32-bit words (R300). -/
def bitmapBytes (l : List Bool) : List Byte :=
  leBytes (4 * ceilDiv l.length 32) (((List.range l.length).map (fun i => if l.getD i false then 2 ^ i else 0)).foldl (· + ·) 0)

/-- The tail of a manifest entry (R300): the bitmap of a partial access unit, or 8 bytes for each line group. -/
def manifestTail (m : Manifest) : List Byte :=
  if m.kind = 1 then
    m.groups.flatMap (fun g => leBytes 4 (match g.1 with
      | some d => d
      | none => 0xFFFFFFFF) ++ leBytes 4 g.2.toNat)
  else if m.kind = 0 ∧ m.partial_ then bitmapBytes m.present
  else []

/-- A manifest entry: 48 bytes and its tail (R300). -/
def manifestBytes (m : Manifest) : List Byte :=
  let flag := fun (i : Nat) (b : Bool) => if b then 2 ^ i else 0
  leBytes 1 m.kind ++ leBytes 1 (flag 0 m.partial_ + flag 1 m.srcTrace + flag 2 m.traceOk + flag 3 m.hold) ++ leBytes 2 m.index ++
    leBytes 4 m.mseq ++ leBytes 8 (m.arrv % 2 ^ 40) ++ leBytes 8 (m.capt % 2 ^ 40) ++ leBytes 4 (m.first % 2 ^ 32).toNat ++
    leBytes 2 m.count ++ leBytes 2 (manifestTail m).length ++ leBytes 4 m.digest.toNat ++ leBytes 4 (m.op % 256 + m.code % 16 * 256) ++
    leBytes 8 0 ++ manifestTail m

/-- A signature block (R306). -/
def signatureBytes (b : SigBlock) : List Byte :=
  let flag := fun (i : Nat) (x : Bool) => if x then 2 ^ i else 0
  leBytes 1 b.head ++ leBytes 1 (flag 0 b.miss + flag 1 b.gap + flag 2 b.safeHold) ++ leBytes 2 b.lines ++ leBytes 4 b.key.toNat ++
    leBytes 8 b.epoch ++ leBytes 4 b.frameCrc.toNat ++ leBytes 12 0 ++ b.sigs.flatMap (fun c => leBytes 4 c.toNat)

/-- The payload of a pair message (R296): the layouts of R163, R300 and R306; free bytes where the spec lays none out. -/
def PairMsg.payload : PairMsg → List Byte
  | .sync t rate => timeBytes t rate
  | .manifest m => manifestBytes m
  | .signature b => signatureBytes b
  | m => Config.pairContent m

/-- The payload of a packet, as the transmitter of a device writes it; OP of a LINK_CTRL is byte 0 (R171 gives no place). -/
def LuskoBody.payload : LuskoBody → List Byte
  | .ident i => identBytes i
  | .linkCtrl op => leBytes 4 op
  | .time t rate => timeBytes t rate
  | .frameStart f => frameStartBytes f
  | .videoLine frame line px => leBytes 2 frame.toNat ++ leBytes 2 line ++ leBytes 4 0 ++ px
  | .frameEnd frame lines => leBytes 2 frame.toNat ++ leBytes 2 lines ++ leBytes 12 0
  | .pair m => m.payload
  | .fixture => []
  | .bad _ => []

/-- A payload cut into those of packets, of at most 16,384 bytes each (R160, R298). -/
def pieces (p : List Byte) : List (List Byte) :=
  (List.range (max 1 (ceilDiv p.length 16384))).map (fun i => (p.drop (16384 * i)).take 16384)

/-- The packets that a message takes (R160): more than one where its payload is longer than one holds. -/
def LuskoBody.packets : LuskoBody → Nat
  | .pair m => match m with
    | .fillData .. | .surfData .. | .control (.transfer ..) => (pieces m.payload).length
    | _ => 1
  | _ => 1

/-- FLAGS of a packet's header (R160): TRACE and HOLD of a FRAME_START. -/
def LuskoBody.flags : LuskoBody → Nat
  | .frameStart f => (if f.trace then 1 else 0) + (if f.hold then 2 else 0)
  | _ => 0

/-- A packet from its header to its CRC (R160): TYPE, CHAN, SEQ, LENGTH, FLAGS, the payload, and the CRC-32 over both. -/
def packetBytes (b : LuskoBody) (chan : Nat) (seq : BitVec 16) (payload : List Byte) : List Byte :=
  let x := leBytes 1 b.type ++ leBytes 1 chan ++ leBytes 2 seq.toNat ++ leBytes 2 payload.length ++ leBytes 2 b.flags ++ payload
  x ++ leBytes 4 (crc32 (x.map BitVec.toNat))

/-! ## Columns (R153, R154) -/

/-- A column with one character on each of `n` lanes. -/
def fullColumn (n : Nat) (c : Sym) : List Sym := List.replicate n c

/-- Bytes striped over `n` lanes: byte j on lane j mod n of column j / n, zero pad bytes in the last (R154, R160). -/
def striped (n : Nat) (l : List Byte) : List (List Sym) :=
  (List.range (ceilDiv l.length n)).map (fun c => (List.range n).map (fun k => .data (l.getD (n * c + k) 0)))

/-- The columns of a packet (R154, R160): SOP, the striped bytes, EOP, and the COM column that separates it from the next SOP. -/
def packetColumns (n : Nat) (bytes : List Byte) : List (List Sym) :=
  [fullColumn n .sop] ++ striped n bytes ++ [fullColumn n .eop, fullColumn n .com]

/-- An EIS on every lane of a bond (R153, R170). -/
def eisColumns (n : Nat) : List (List Sym) := [.com, .k286, .k286, .k286].map (fullColumn n)

/-- The exit from fast electrical idle: 256 TRN characters, 16 COM columns, one ALN column (R170). -/
def burstColumns (n : Nat) : List (List Sym) :=
  List.replicate 256 (fullColumn n .trn) ++ List.replicate 16 (fullColumn n .com) ++ [fullColumn n .aln]

/-! ## The transmitter's columns in time (R154) -/

/-- Signalling rate of a bond, baud (R150). -/
def baudOf : Nat → Nat
  | 0 => 3125000000
  | 1 => 5000000000
  | _ => 6250000000

/-- The column that lane `y` transmits at local count `lct`: a column is one character time, ten baud. -/
def Lane.txCol (y : Lane) (lct : Nat) : Nat := (lct - y.txFrom) * (baudOf y.rate / 10) / 1000000000

/-- Whether an ALN falls on column `c` while no packet is in the way (R154). -/
def Lane.alnAt (y : Lane) (c : Nat) : Bool := decide (y.alnNext ≤ c) && (c - y.alnNext) % 1024 == 0

/-- The first ALN after column `c` while no packet is in the way. -/
def Lane.alnAfter (y : Lane) (c : Nat) : Nat := if c < y.alnNext then y.alnNext else y.alnNext + ((c - y.alnNext) / 1024 + 1) * 1024

/-- The column of the next SOP: after the COM that follows the last packet, and on no ALN column. -/
def Lane.sopCol (y : Lane) (lct : Nat) : Nat :=
  let c := max (y.txCol lct) y.txFree
  if y.alnAt c then c + 1 else c

/-- A packet of `p` payload bytes on `n` lanes begins at column `c`. An ALN that falls due within it waits until after EOP; the next is
counted from it (R154). -/
def Lane.occupied (y : Lane) (n p c : Nat) : Lane :=
  let e := c + 2 + ceilDiv (12 + p) n
  let a := y.alnAfter c
  if a ≤ e then { y with txFree := e + 2, alnNext := e + 1024 } else { y with txFree := e + 1, alnNext := a }

/-- The transmitter begins to count columns anew, its first SOP not before column `first`. -/
def Lane.txStart (y : Lane) (lct first : Nat) : Lane := { y with txFrom := lct, txFree := first, alnNext := 1024 }

end Sys2Proof

namespace Sys2Proof.Machine

/-- The device time, ns, at which column `c` leaves (R163, R169). -/
def State.colTime (s : State) (l c : Nat) : Nat :=
  let y := s.lane l
  s.now + ceilDiv ((c - y.txCol s.time.lct) * 1000000000) (baudOf y.rate / 10)

/-! ## Sending (R160, R170, R296) -/

/-- The lanes of the bond that a lane belongs to. -/
def State.bondLanes (s : State) (l : Nat) : List Nat :=
  let x := s.lane l
  (List.range x.width).map (fun i => x.first + i)

/-- A transmitter in fast electrical idle leaves it before it sends: 273 columns, the last an ALN (R170). -/
def State.wakeTx (s : State) (l : Nat) : State :=
  let y := s.lane l
  if y.txEidle then
    let c := max (y.txCol s.time.lct) y.txFree
    let s := (s.bondLanes l).foldl (fun (s : State) (k : Nat) => s.setLane k { s.lane k with txEidle := false }) s
    (s.setLane l { s.lane l with txEidle := false, txFree := c + 273, alnNext := c + 272 + 1024 }).send (.luskoBurst l c)
  else s

/-- The transmitter of a bond sends an EIS between packets, and its lines go idle (R170, R171). -/
def State.idleTx (s : State) (l : Nat) : State :=
  let c := (s.lane l).sopCol s.time.lct
  (s.setLane l { s.lane l with txFree := c + 4 }).send (.luskoIdle l c)

/-- Send one packet on `n` lanes from lane `l` on, with the next SEQ of its CHAN. -/
def State.sendPacket (s : State) (l n chan : Nat) (b : LuskoBody) (payload : List Byte) : State :=
  let y := s.lane l
  let c := y.sopCol s.time.lct
  let q := Tab.get 0 y.txSeq chan
  (s.setLane l { y.occupied n payload.length c with txSeq := Tab.set 0 y.txSeq chan (q + 1) }).send (.lusko l chan q c b payload)

/-- Send a message on the bond whose first lane is `l`: one packet, or several where its payload is longer than one holds. -/
def State.sendLusko (s : State) (l chan : Nat) (b : LuskoBody) (payload : List Byte) : State :=
  (pieces payload).foldl (fun (s : State) (p : List Byte) => s.sendPacket l (s.lane l).width chan b p) (s.wakeTx l)

/-- Send a TIME packet, or a SYNC of the pair, with the T at which its SOP reaches the partner's ball, and RATE (R163, R296). -/
def State.sendTime (s : State) (l chan : Nat) (mk : BitVec 64 → BitVec 32 → LuskoBody) : State :=
  let s := s.wakeTx l
  let y := s.lane l
  let t := BitVec.ofNat 64 (s.colTime l (y.sopCol s.time.lct) + y.latency.getD 0 / 2)
  let rate := BitVec.ofInt 32 s.time.rate
  s.sendPacket l y.width chan (mk t rate) (timeBytes t rate)

end Sys2Proof.Machine
end

