-- ==== Sys2Proof/Machine/PairBase.lean ====
section
/-! DEFINITION. What every family needs of the pair: whether the link is up, who sends and who follows manifests, manifest
entries sent (R293 to R304). -/

namespace Sys2Proof.Machine

/-- The first lane of the pair link's bond. -/
def State.pairLane (s : State) : Option Nat :=
  (s.bonds.find? (fun p => p.2.en && p.2.role == .pair)).map Prod.fst

/-- The pair link is UP (R296). -/
def State.pairUp (s : State) : Bool :=
  match s.pairLane with
  | some l => (s.lane l).state == .up
  | none => false

/-- Send a pair message with its payload, on its CHAN of the link (R296). -/
def State.sendPairBytes (s : State) (m : PairMsg) (payload : List Byte) : State :=
  match s.pairLane with
  | some l => if (s.lane l).state = .up then s.sendLusko l m.chan (.pair m) payload else s
  | none => s

/-- Send a pair message (R296). -/
def State.sendPair (s : State) (m : PairMsg) : State := s.sendPairBytes m m.payload

/-- This device is the active one of a configured pair. -/
def State.pairActive (s : State) : Bool :=
  s.pair.en && !s.pair.shadow && s.pair.state != .alone && s.pair.state != .yielded

/-- The active device sends its inputs while the link is UP (R299). -/
def State.pairSends (s : State) : Bool := s.pairActive && s.pairUp

/-- The shadow executes manifests and commands: from J, while the link is UP, until it sequences its own inputs (R293, R295,
R310). -/
def State.pairFollows (s : State) : Bool :=
  s.pair.en && s.pair.shadow && s.pair.joined && s.pairUp &&
    (s.pair.state == .joining || s.pair.state == .paired || s.pair.state == .unpaired) &&
    !(match s.pair.takeover with
      | some x => x.2.1
      | none => false)

/-- The TRACE_OK that a frame's manifest entry fixes for all its tags (R299). -/
def State.pairTrace (s : State) : Option Bool := if s.pairSends then some s.time.traceOk else none

/-- Move the pair to a state, with its event (R293). Heads stay armed only while blocks are compared (R292). -/
def State.pairTo (s : State) (x : PairState) : State :=
  let p := s.pair
  if p.state = x then s
  else ({ s with
    pair := { p with
    state := x, armed := match x with
      | .joining | .paired => p.armed
      | _ => 0 } }).emit .pairState 0 [p.state.code, x.code]

/-- A JOINING or PAIRED pair becomes UNPAIRED (R293). -/
def State.unpair (s : State) : State :=
  if s.pair.state = .joining ∨ s.pair.state = .paired then s.pairTo .unpaired else s

/-- The key of a context's or surface's entry count. -/
def mseqKey (kind index : Nat) : Nat := if kind = 2 then 1000 + index else index

/-- Send one manifest entry: its MSEQ is the entry count of its context or surface (R299, R300). -/
def State.sendManifest (s : State) (m : Manifest) : State :=
  if s.pairSends then
    let k := mseqKey m.kind m.index
    let q := (Tab.get 0 s.pair.mseq k + 1) % 2 ^ 32
    let p := s.pair
    ({ s with pair := { p with mseq := Tab.set 0 p.mseq k q, mseqTx := p.mseqTx + 1 } }).sendPair (.manifest { m with mseq := q })
  else s

/-- Send the entry of an access unit, and keep what was forwarded for 200 ms (R304). -/
def State.sendUnit (s : State) (m : Manifest) (content : List Nal × List Byte) : State :=
  let s := s.sendManifest m
  if s.pairSends then
    let p := s.pair
    { s with
      pair := { p with
        retained := p.retained ++ [(⟨m.index, Tab.get 0 p.mseq (mseqKey m.kind m.index), content, s.now + 200000000⟩ : Retained)] } }
  else s

end Sys2Proof.Machine

namespace Sys2Proof

/-- A manifest entry with nothing in it. -/
def Manifest.blank (kind index : Nat) : Manifest :=
  { kind := kind, partial_ := false, srcTrace := false, traceOk := false, hold := false, index := index, mseq := 0, arrv := 0,
    capt := 0, first := 0, count := 0, present := [], groups := [], digest := 0, op := 0, code := 0 }

end Sys2Proof

namespace Sys2Proof.Machine

/-- Send a context action: 1 RESYNC, 2 SSRC change, 3 FAULT with its code (R285, R299, R300). -/
def State.sendAction (s : State) (ctx op code : Nat) : State :=
  s.sendManifest { Manifest.blank 3 ctx with op := op, code := code }

/-- A context (by number) or a surface (1000 + number) enters GAP on the shadow (R304). -/
def State.gapBegin (s : State) (k : Nat) : State :=
  let p := s.pair
  if k < 1000 then
    if p.gapCtx.contains k then s
    else (({ s with pair := { p with gapCtx := k :: p.gapCtx } }).count Reg.pairGaps 1).emit .pairGapBegin 0 [k]
  else if p.gapSurf.contains (k - 1000) then s
  else (({ s with pair := { p with gapSurf := (k - 1000) :: p.gapSurf } }).count Reg.pairGaps 1).emit .pairGapBegin 0 [k]

/-- The next clean decode, complete capture frame or commit ends the gap (R304). -/
def State.gapEnd (s : State) (k : Nat) : State :=
  let p := s.pair
  if k < 1000 then
    if p.gapCtx.contains k then
      ({ s with pair := { p with gapCtx := p.gapCtx.filter (fun x => x ≠ k) } }).emit .pairGapEnd 0 [k]
    else s
  else if p.gapSurf.contains (k - 1000) then
    ({ s with pair := { p with gapSurf := p.gapSurf.filter (fun x => x ≠ k - 1000) } }).emit .pairGapEnd 0 [k]
  else s

/-- A source joins the pair at its first clean picture, complete frame or commit after J (R295). -/
def State.joinSource (s : State) (k : Nat) : State :=
  let p := s.pair
  if p.en && p.joined && !p.joinedSrc.contains k then { s with pair := { p with joinedSrc := k :: p.joinedSrc } } else s

end Sys2Proof.Machine
end

