-- ==== Sys2Proof/Machine/Window.lean ====
section
/-! DEFINITION. Window descriptors and generations (R199 to R207), head timing (R238 to R242) and the release offsets
(R32, R225). -/

namespace Sys2Proof.Machine

/-- A window descriptor (R199). -/
abbrev Desc := BitVec 512

/-- `w` bits of a descriptor from bit `lo`. -/
def Desc.fld (d : Desc) (lo w : Nat) : Nat := (d.extractLsb' lo w).toNat

def Desc.en (d : Desc) : Bool := d.getLsbD 0
def Desc.srcKind (d : Desc) : Nat := Desc.fld d 1 2
/-- TGT_KIND: a tile window. -/
def Desc.isTile (d : Desc) : Bool := d.getLsbD 3
def Desc.pipe (d : Desc) : Nat := Desc.fld d 4 3
def Desc.tgt (d : Desc) : Nat := Desc.fld d 8 5
def Desc.srcIdx (d : Desc) : Nat := Desc.fld d 16 8
def Desc.bank (d : Desc) : Nat := Desc.fld d 24 2
def Desc.alphaMode (d : Desc) : Nat := Desc.fld d 26 2
def Desc.matrix (d : Desc) : Nat := Desc.fld d 28 2
def Desc.range (d : Desc) : Nat := Desc.fld d 30 2
def Desc.cropX (d : Desc) : Nat := Desc.fld d 32 16
def Desc.cropY (d : Desc) : Nat := Desc.fld d 48 16
def Desc.cropW (d : Desc) : Nat := Desc.fld d 64 16
def Desc.cropH (d : Desc) : Nat := Desc.fld d 80 16
def Desc.dstX (d : Desc) : Int := (d.extractLsb' 96 16).toInt
def Desc.dstY (d : Desc) : Int := (d.extractLsb' 112 16).toInt
def Desc.dstW (d : Desc) : Nat := Desc.fld d 128 16
def Desc.dstH (d : Desc) : Nat := Desc.fld d 144 16
def Desc.alpha (d : Desc) : Nat := Desc.fld d 160 8
def Desc.tile (d : Desc) : Nat := Desc.fld d 168 8
def Desc.treatStale (d : Desc) : Nat := Desc.fld d 176 2
def Desc.treatSnag (d : Desc) : Nat := Desc.fld d 178 2
def Desc.treatInvalid (d : Desc) : Nat := Desc.fld d 180 2
def Desc.holdBudget (d : Desc) : Nat := Desc.fld d 192 16
def Desc.transitBudget (d : Desc) : Nat := Desc.fld d 208 16

/-- The source a descriptor names (R27, SRC_KIND). -/
def Desc.source (d : Desc) : Source :=
  match Desc.srcKind d with
  | 0 => .ch (Desc.srcIdx d)
  | 1 => .surf (Desc.srcIdx d)
  | _ => .sheet (Desc.srcIdx d % 32)

end Sys2Proof.Machine

namespace Sys2Proof

open Machine

/-- Generation A (`false`) or B of the window table. -/
def WinTable.gen (t : WinTable) (g : Bool) : Tab (BitVec 512) := if g then t.genB else t.genA

/-- Set a generation. -/
def WinTable.setGen (t : WinTable) (g : Bool) (x : Tab (BitVec 512)) : WinTable :=
  if g then { t with genB := x } else { t with genA := x }

end Sys2Proof

namespace Sys2Proof.Machine

/-- The enabled windows of a generation, by ascending index. -/
def State.wins (s : State) (g : Bool) : List (Nat × Desc) := (WinTable.gen s.win g).filter (fun p => Desc.en p.2)

/-- The enabled windows on head `h` in a generation. -/
def State.headWins (s : State) (g : Bool) (h : Nat) : List (Nat × Desc) :=
  (s.wins g).filter (fun p => !Desc.isTile p.2 && Desc.tgt p.2 == h)

/-- The tile windows of sheet `x` in a generation. -/
def State.tileWins (s : State) (g : Bool) (x : Nat) : List (Nat × Desc) :=
  (s.wins g).filter (fun p => Desc.isTile p.2 && Desc.tgt p.2 == x)

/-! ## Head timing -/

end Sys2Proof.Machine

namespace Sys2Proof

open Machine

/-- HTOTAL (R238). -/
def HeadCfg.hTotal (c : HeadCfg) : Nat := c.hActive + c.hFront + c.hSync + c.hBack
/-- VMIN (R238). -/
def HeadCfg.vMin (c : HeadCfg) : Nat := c.vFront + c.vSync + c.vBack
/-- VTOTAL of a locked head (R238). -/
def HeadCfg.vTotal (c : HeadCfg) : Nat := c.vActive + c.vMin
/-- Ready-driven (MODE 1). -/
def HeadCfg.ready (c : HeadCfg) : Bool := c.mode == 1
/-- The longest blank: VMIN on a locked head; VMAX_EFF = VMAX + 1 on a ready-driven one (R242, A1-04). -/
def HeadCfg.vBlankMax (c : HeadCfg) : Nat := if c.ready then c.vMax + 1 else c.vMin
/-- The line time in ns, as numerator and denominator (R239, R241). -/
def HeadCfg.lineNum (c : HeadCfg) : Nat := if c.ready then c.hTotal * 1000000000 else c.period
def HeadCfg.lineDen (c : HeadCfg) : Nat := if c.ready then c.fpix else c.vTotal
/-- P_h in ns under R32: P, or the longest period rounded up to whole µs (R241). -/
def HeadCfg.periodNs (c : HeadCfg) : Nat :=
  if c.ready then ceilDiv ((c.vActive + c.vBlankMax) * c.lineNum) (c.lineDen * 1000) * 1000 else c.period
/-- L − E in lines (R93). -/
def HeadCfg.lightLines (c : HeadCfg) : Nat := c.lead + c.vActive + c.vBlankMax
/-- Last light in whole µs, rounded up, of a latch at epoch `e` (R93, R94). -/
def HeadCfg.lastLightUs (c : HeadCfg) (e : Nat) : Nat :=
  ceilDiv (e * c.lineDen + c.lightLines * c.lineNum) (c.lineDen * 1000)
/-- Last light in ns, rounded up. -/
def HeadCfg.lastLightNs (c : HeadCfg) (e : Nat) : Nat :=
  ceilDiv (e * c.lineDen + c.lightLines * c.lineNum) c.lineDen

end Sys2Proof

namespace Sys2Proof.Machine

/-- The last epoch of origin `t0` and period `p` at or before `now`, if there is one (R30). -/
def epochAtOrBefore (t0 : Int) (p now : Nat) : Option Nat :=
  if p = 0 then none
  else
    let e := t0 + ((now : Int) - t0) / (p : Int) * (p : Int)
    if 0 ≤ e then some e.toNat else none

/-- The first epoch of origin `t0` and period `p` at or after `x`. -/
def epochAtOrAfter (t0 : Int) (p x : Nat) : Nat :=
  if p = 0 then x else (t0 + ceilDivI ((x : Int) - t0) p * (p : Int)).toNat

/-- The epoch at which head `h` acts now: the programmed one of a locked head, the instant itself on a ready-driven one
(R30, R79, R245). -/
def State.headEpoch (s : State) (h : Nat) : Nat :=
  let c := (s.head h).cfg
  if c.ready then s.now else (epochAtOrBefore c.t0 c.period s.now).getD s.now

/-- The first epoch of head `h` at or after device time `x`. -/
def State.headEpochFrom (s : State) (h x : Nat) : Nat :=
  let c := (s.head h).cfg
  if c.ready then x else epochAtOrAfter c.t0 c.period x

/-- The epoch at which sheet `n` acts now (R224). -/
def State.sheetEpoch (s : State) (n : Nat) : Nat :=
  let c := (s.sheet n).cfg
  (epochAtOrBefore c.t0 c.period s.now).getD s.now

/-- Whether a channel is fed by a Lusko context. -/
def State.chIsLusko (s : State) (ch : Nat) : Bool :=
  match (s.chan ch).ctx with
  | some c => match (s.ctx c).decl with
    | some (.lusko _) => true
    | _ => false
  | none => false

/-- The release offset, µs, of a source towards a consumer of period `p` ns (R32, R33, R225, R226). -/
def State.offsetNs (s : State) (src : Source) (p : Nat) : Nat :=
  match src with
  | .ch n =>
    let o := (s.chan n).offset
    1000 * (if o ≠ 0 then o else if s.chIsLusko n then ceilDiv p 1000 else ceilDiv (2 * p) 1000)
  | .surf _ => p
  | .sheet n => (s.sheet n).cfg.period

/-- The windows a head or a sheet reads, and those that a switch still due will bring it: a release at the epoch of the switch
serves both, so the latch there meets the new windows with their frames (R36, R144, R205). -/
def State.readWins (s : State) (c : Consumer) : List (Nat × Desc) :=
  match c with
  | .head n =>
    let h := s.head n
    s.headWins h.gen n ++ (if h.switchDue then s.headWins s.win.active n else [])
  | .sheet n =>
    let x := s.sheet n
    s.tileWins x.gen n ++ (if x.switchDue then s.tileWins s.win.active n else [])

/-- The heads with an enabled window on a source. -/
def State.headsShowing (s : State) (src : Source) : List Nat :=
  (keys s.heads).filter (fun h => (s.readWins (.head h)).any (fun p => Desc.source p.2 == src))

/-- The sheets with a tile window on a source. -/
def State.sheetsShowing (s : State) (src : Source) : List Nat :=
  (keys s.sheets).filter (fun x => (s.sheet x).created && (s.readWins (.sheet x)).any (fun p => Desc.source p.2 == src))

end Sys2Proof.Machine
end

