-- ==== Sys2Proof/Machine/Perf.lean ====
section
/-! DEFINITION. Slots, cycles and programmable counters of the engine units (R195, R435, R436, R439, R444). Units: 0–15 decode
cores, 16–17 sheet engines, 18–21 recorder cores, 22–37 heads, 38 the host DMA. -/

namespace Sys2Proof.Machine

/-- The unit numbers of R435. -/
def unitEngine (e : Nat) : Nat := 16 + e
def unitRec (k : Nat) : Nat := 18 + k
def unitHead (h : Nat) : Nat := 22 + h
def unitDma : Nat := 38

/-- Set a sticky overflow bit of a unit (R439). -/
def State.unitOvf (s : State) (u n : Nat) : State := s.orReg (Reg.pmcOvf u) (2 ^ n)

/-- Add to a 48-bit counter; whether it wrapped. -/
def add48 (v : BitVec 48) (n : Nat) : BitVec 48 × Bool := (v + BitVec.ofNat 48 n, decide (2 ^ 48 ≤ v.toNat + n))

/-- Count `n` in programmable counter `i` of unit `u`. -/
def State.progAdd (s : State) (u i n : Nat) : State :=
  let r := add48 (Tab.get 0 s.progs (8 * u + i)) n
  let s := { s with progs := Tab.set 0 s.progs (8 * u + i) r.1 }
  if r.2 then s.unitOvf u (8 + i) else s

/-- Count `n` in every programmable counter of unit `u` that is enabled and selects event `code` (R436, R455). -/
def State.pmc (s : State) (u code n : Nat) : State :=
  (List.range 8).foldl (fun s i =>
    let sel := s.reg (Reg.pmcSel u i)
    if bit sel 31 ∧ bits sel 7 0 = code then s.progAdd u i n else s) s

/-- The class a unit's passing slots belong to. -/
inductive SlotClass where
  | front | back | work
deriving DecidableEq, Repr

/-- Add `n` slots of a class to a unit, with the cycle counter (R444); held work enters no counter yet (R195). -/
def State.addSlots (s : State) (u : Nat) (c : SlotClass) (n : Nat) : State :=
  let x := s.unitSlots u
  match c with
  | .work => s.setSlots u { x with held := x.held + n }
  | .front =>
    let cy := add48 x.cycles n
    let fr := add48 x.front n
    let s := s.setSlots u { x with cycles := cy.1, front := fr.1 }
    let s := if cy.2 then s.unitOvf u 0 else s
    if fr.2 then s.unitOvf u 3 else s
  | .back =>
    let cy := add48 x.cycles n
    let bk := add48 x.back n
    let s := s.setSlots u { x with cycles := cy.1, back := bk.1 }
    let s := if cy.2 then s.unitOvf u 0 else s
    if bk.2 then s.unitOvf u 4 else s

/-- The held work slots end as RETIRED or WASTED (R195). -/
def State.endWork (s : State) (u : Nat) (retired : Bool) : State :=
  let x := s.unitSlots u
  let cy := add48 x.cycles x.held
  let w := add48 (if retired then x.retired else x.wasted) x.held
  let s := s.setSlots u { x with
    cycles := cy.1, held := 0,
    retired := if retired then w.1 else x.retired,
    wasted := if retired then x.wasted else w.1 }
  let s := if cy.2 then s.unitOvf u 0 else s
  if w.2 then s.unitOvf u (if retired then 1 else 2) else s

/-- Of the slots that have just been held, `n` were stalls of the kind `code` (R195, R436). -/
def State.stallSlots (s : State) (u code n : Nat) : State :=
  let x := s.unitSlots u
  let k := min n x.held
  ((s.setSlots u { x with held := x.held - k }).addSlots u .back k).pmc u code k

/-- Slots of a 800 MHz unit up to an LCT value; one per ns on the DMA (R435). -/
def slotsUpTo (u t : Nat) : Nat := if u = unitDma then t else t * 4 / 5

/-- Count the slots of unit `u` up to now, in class `c`, with the stall code `why` where it is stalled. -/
def State.slotsTo (s : State) (u : Nat) (c : SlotClass) (why : Nat) : State :=
  let x := s.unitSlots u
  let n := slotsUpTo u s.time.lct - slotsUpTo u x.since
  let s := (s.setSlots u { x with since := s.time.lct }).addSlots u c n
  if c = .back ∧ why ≠ 0 then s.pmc u why n else s

/-- The slots of a decode core up to now (R195). -/
def State.syncCore (s : State) (k : Nat) : State :=
  let c := s.core k
  s.slotsTo k (match c.state with
    | .run => .work
    | .stalled => .back
    | _ => .front) c.why

/-- The slots of a sheet engine up to now. -/
def State.syncEngine (s : State) (e : Nat) : State :=
  let c := s.engine e
  s.slotsTo (unitEngine e) (if c.state = 1 then .work else if c.state = 2 then .back else .front) c.why

/-- Pixel clocks of a head up to a device time. -/
def pixelsUpTo (c : HeadCfg) (t : Nat) : Nat :=
  if c.ready then t * c.fpix / 1000000000 else if c.period = 0 then 0 else t * c.hTotal * c.vTotal / c.period

/-- The pixel clocks of a head up to now, while it is in RUN (R435), and those with a pipe at URGENT or NORMAL (R436). -/
def State.syncHead (s : State) (h : Nat) : State :=
  let x := s.unitSlots (unitHead h)
  let c := (s.head h).cfg
  let n := if (s.head h).state = .run then pixelsUpTo c s.time.lct - pixelsUpTo c x.since else 0
  let cy := add48 x.cycles n
  let s := s.setSlots (unitHead h) { x with cycles := cy.1, since := s.time.lct }
  let s := if cy.2 then s.unitOvf (unitHead h) 0 else s
  let at_ := fun (l : Nat) => (s.head h).levels.any (fun p => p.2 == l)
  let s := if at_ 3 then s.pmc (unitHead h) 8 n else s
  if at_ 2 then s.pmc (unitHead h) 9 n else s

end Sys2Proof.Machine
end

