-- ==== Sys2Proof/Machine/Tags.lean ====
section
/-! DEFINITION. Age tags and their writers, blaze checkers, frames and their marks, eligibility (R81 to R92, R111 to R119,
R185, R186). -/

namespace Sys2Proof.Machine

/-- One bit as a number placed at bit `n`. -/
def flag (b : Bool) (n : Nat) : Nat := b2n b * 2 ^ n

end Sys2Proof.Machine

namespace Sys2Proof

open Machine

/-- A tag as its 128 bits (R82). -/
def Tag.encode (g : Tag) : BitVec 128 :=
  BitVec.ofNat 128 (g.capt.toNat + g.arrv.toNat * 2 ^ 40 + g.src.toNat * 2 ^ 80 + g.state.code * 2 ^ 88 +
    g.seq.toNat * 2 ^ 92 + flag g.traceable 108 + flag g.blazed 109 + flag g.preroll 110 + flag g.mixed 111 +
    flag g.expired 112 + g.tile.toNat * 2 ^ 113)

end Sys2Proof

namespace Sys2Proof.Machine

/-- The stand state a 4-bit field spells (R83). -/
def standState : Nat → StandState
  | 0 => .never | 1 => .live | 2 => .unproven | 3 => .invalid | 4 => .held | 5 => .snag
  | n => .reserved (Fin.ofNat 10 (n - 6))

end Sys2Proof.Machine

namespace Sys2Proof

open Machine

/-- The tag that 128 bits spell (R82). -/
def Tag.decode (v : BitVec 128) : Tag :=
  { capt := v.extractLsb' 0 40, arrv := v.extractLsb' 40 40, src := v.extractLsb' 80 8,
    state := standState (v.extractLsb' 88 4).toNat, seq := v.extractLsb' 92 16,
    traceable := v.getLsbD 108, blazed := v.getLsbD 109, preroll := v.getLsbD 110, mixed := v.getLsbD 111,
    expired := v.getLsbD 112, tile := v.extractLsb' 113 8 }

end Sys2Proof

namespace Sys2Proof.Machine

/-- Stands across a width or down a height (R81). -/
def stands (n : Nat) : Nat := ceilDiv n 64

/-- Whether a head evaluates a stand with this SRC as INVALID: reserved values, and the empty-slot value outside a sheet
(R84). -/
def srcInvalid (src : BitVec 8) : Bool := decide (0x80 ≤ src.toNat) && decide (src.toNat ≤ 0xFE)

/-! ## Frames -/

/-- The buffers of a pool. -/
def State.bufs (s : State) : Pool → Tab Frame
  | .ctx n => (s.ctx n).bufs
  | .surf n => (s.surf n).bufs
  | .sheet n => (s.sheet n).bufs

/-- Set the buffers of a pool. -/
def State.setBufs (s : State) (p : Pool) (b : Tab Frame) : State :=
  match p with
  | .ctx n => s.setCtx n { s.ctx n with bufs := b }
  | .surf n => s.setSurf n { s.surf n with bufs := b }
  | .sheet n => s.setSheet n { s.sheet n with bufs := b }

/-- A buffer. -/
def State.frame (s : State) (r : FrameRef) : Frame := Tab.get {} (s.bufs r.pool) r.buf

/-- A buffer that carries no mark is free and holds nothing (R185): its entry goes. -/
def State.setFrame (s : State) (r : FrameRef) (f : Frame) : State :=
  s.setBufs r.pool (Tab.set {} (s.bufs r.pool) r.buf (if f.isFree then {} else f))

/-- Change a buffer. -/
def State.modFrame (s : State) (r : FrameRef) (f : Frame → Frame) : State := s.setFrame r (f (s.frame r))

/-- The first free buffer of a pool of `n` buffers (R185). -/
def freeBuf (bufs : Tab Frame) : Nat → Nat → Option Nat
  | 0, _ => none
  | n + 1, b => if (Tab.get {} bufs b).isFree then some b else freeBuf bufs n (b + 1)

end Sys2Proof.Machine

namespace Sys2Proof

open Machine

/-- The capture instant that a 40-bit CAPT no later than the arrival names, µs; before the origin of device time it is negative
(R83, R87). -/
def captInstant (arrv capt : Nat) : Int := (arrv : Int) - ((tagTime arrv - tagTime capt).toNat : Int)

/-- A frame's reference time, µs: capture if TRACEABLE, arrival otherwise (R31). -/
def Frame.refUs (f : Frame) : Int := if f.traceable then captInstant f.arrv f.capt else f.arrv

end Sys2Proof

namespace Sys2Proof.Machine

/-! ## Blaze (R111 to R116) -/

/-- The blaze of a source. -/
def State.blazeCfg (s : State) : Source → BlazeCfg
  | .ch n => (s.chan n).blaze
  | .surf n => (s.surf n).blaze
  | .sheet _ => {}

/-- The checker of a source. -/
def State.checker (s : State) : Source → BlazeState
  | .ch n => (s.chan n).checker
  | .surf n => (s.surf n).checker
  | .sheet _ => {}

/-- Set the checker of a source. -/
def State.setChecker (s : State) (src : Source) (x : BlazeState) : State :=
  match src with
  | .ch n => s.setChan n { s.chan n with checker := x }
  | .surf n => s.setSurf n { s.surf n with checker := x }
  | .sheet _ => s

/-- A change of verdict raises its event from the source's class and counts (R116, R437, R440). -/
def State.verdictEvent (s : State) (src : Source) (old new : BlazeVerdict) (arrv : BitVec 40) : State :=
  let chg : Int := (s.checker src).lastChg.toNat
  match src, old, new with
  | .ch n, .unproven, .proven => (s.chCount n 9 1).emit .chBlazeSeen n [chg, arrv.toNat]
  | .ch n, .snag, .proven => (s.chCount n 11 1).emit .chSnagClear n [chg, arrv.toNat]
  | .ch n, o, .snag => if o = .snag then s else (s.chCount n 10 1).emit .chSnag n [chg, arrv.toNat]
  | .surf n, .unproven, .proven => s.emit .instBlazeSeen (s.surf n).owner [n, chg, arrv.toNat]
  | .surf n, .snag, .proven => s.emit .instSnagClear (s.surf n).owner [n, chg, arrv.toNat]
  | .surf n, o, .snag =>
    if o = .snag then s
    else (s.setSurf n { s.surf n with snags := (s.surf n).snags + 1 }).emit .instSnag (s.surf n).owner [n, chg, arrv.toNat]
  | _, _, _ => s

/-- The pool a source's frames lie in. -/
def State.sourcePool (s : State) : Source → Option Pool
  | .ch n => (s.chan n).ctx.map Pool.ctx
  | .surf n => some (.surf n)
  | .sheet n => some (.sheet n)

/-- Reset a checker to its start state (R114): what a frame in writing has kept of its verdict goes. -/
def State.resetChecker (s : State) (src : Source) : State :=
  let s := s.setChecker src (BlazeState.start (s.blazeCfg src))
  match s.sourcePool src with
  | some p => s.setBufs p (Tab.mapAll {} (fun _ f => { f with verdict0 := none }) (s.bufs p))
  | none => s

end Sys2Proof.Machine

namespace Sys2Proof

open Machine

/-- The checker's rule on each stand tag written (R113): SNAG once the last change is older than the period. -/
def BlazeState.onTag (c : BlazeCfg) (b : BlazeState) (arrv : BitVec 40) : BlazeState :=
  if c.en && b.seen && decide (c.period * 1000 < (arrv - b.lastChg).toNat) then { b with verdict := .snag } else b

/-- The checker's rule on a complete blaze rectangle with hash `h` (R113). -/
def BlazeState.onHash (b : BlazeState) (arrv : BitVec 40) (seq : BitVec 16) (h : BitVec 32) : BlazeState :=
  if !b.started then { b with started := true, prev := h }
  else if h = b.prev then b
  else { b with prev := h, lastChg := arrv, chgSeq := seq, seen := true, verdict := .proven }

end Sys2Proof

namespace Sys2Proof.Machine

/-- Run the checker on a tag written. -/
def State.blazeTag (s : State) (src : Source) (arrv : BitVec 40) : State :=
  let b := s.checker src
  let b' := BlazeState.onTag (s.blazeCfg src) b arrv
  (s.setChecker src b').verdictEvent src b.verdict b'.verdict arrv

/-- Run the checker on a complete blaze rectangle. -/
def State.blazeHash (s : State) (src : Source) (arrv : BitVec 40) (seq : BitVec 16) (h : BitVec 32) : State :=
  if (s.blazeCfg src).en then
    let b := s.checker src
    let b' := BlazeState.onHash b arrv seq h
    (s.setChecker src b').verdictEvent src b.verdict b'.verdict arrv
  else s

end Sys2Proof.Machine

namespace Sys2Proof

open Machine

/-- The number of bits of a component's storage. -/
def PixFmt.depth (f : PixFmt) : Nat := if f.ten then 10 else 8

/-- Mid-grey, which a block not written reads as (R190). -/
def PixFmt.grey (f : PixFmt) : Nat := 2 ^ (f.depth - 1)

/-- What an unlisted sample of a plane reads; planes 4 and 5 hold a sheet's chroma before it is averaged. -/
def Frame.blankOf (f : Frame) (plane : Nat) : Nat :=
  match f.blank with
  | none => f.fmt.grey
  | some (a, b, c) => if plane = 0 then a else if plane = 1 ∨ plane = 4 then b else c

/-- A sample of a buffer (R190). -/
def Frame.sample (f : Frame) (plane y x : Nat) : Nat := Tab.get (f.blankOf plane) f.samples (sampleKey plane y x)

/-- Samples of a plane across and down a stand. -/
def standSpan (k : PixKind) (plane : Nat) : Nat × Nat :=
  if plane = 1 ∨ plane = 2 then
    match k with
    | .yuv420 => (32, 32)
    | .yuv422 => (32, 64)
    | _ => (64, 64)
  else (64, 64)

/-- The stand that a sample lies in. -/
def Frame.standOf (f : Frame) (p : Sample) : Nat :=
  let z := standSpan f.fmt.kind p.plane
  p.y / z.2 * stands f.w + p.x / z.1

/-- Write samples to a buffer: the blocks that hold them have been written (R190). -/
def Frame.writeSamples (f : Frame) : List Sample → Frame
  | [] => f
  | p :: t => Frame.writeSamples { f with
      samples := Tab.set (f.blankOf p.plane) f.samples (sampleKey p.plane p.y p.x) p.v,
      written := Tab.set false f.written (4 * f.standOf p + p.plane) true } t

/-- The samples of one plane of a stand, in raster order. -/
def Frame.block (f : Frame) (k plane : Nat) : List Nat :=
  let z := standSpan f.fmt.kind plane
  let x := k % stands f.w * z.1
  let y := k / stands f.w * z.2
  (List.range z.2).flatMap (fun dy => (List.range z.1).map (fun dx => f.sample plane (y + dy) (x + dx)))

/-- Sectors of 64 bytes that a block takes in a buffer (R189, R190): 0 while it has not been written, else as many as its samples compress
to, at most its uncompressed size. The spec does not give the compression: the count is a free value, a function of the samples (log 178). -/
def Frame.sectors (f : Frame) (k plane : Nat) : Nat :=
  let z := standSpan f.fmt.kind plane
  if f.blank.isSome || Tab.get false f.written (4 * k + plane) then
    min (max (Config.sectors (f.block k plane)) 1) (ceilDiv (z.1 * z.2 * f.fmt.depth) 512)
  else 0

/-- The compression record of a stand (R190). -/
def Frame.record (f : Frame) (k : Nat) : BitVec 32 :=
  BitVec.ofNat 32 (f.sectors k 0 + f.sectors k 1 * 2 ^ 8 + f.sectors k 2 * 2 ^ 16)

/-- The samples of one plane over a rectangle, raster order, as 16-bit little-endian bytes (R112). -/
def Frame.planeBytes (f : Frame) (plane x y w h : Nat) : List Nat :=
  (List.range h).flatMap (fun dy => (List.range w).flatMap (fun dx =>
    let v := f.sample plane (y + dy) (x + dx)
    [v % 256, v / 256 % 256]))

/-- BHASH of a channel's frame or an RGB surface (R112). DESIGN CHOICE (log 219): the components of an RGB channel are hashed plane by plane,
R, G, B. -/
def Frame.bhash (f : Frame) (c : BlazeCfg) : BitVec 32 :=
  let cx := match f.fmt.kind with
    | .yuv420 | .yuv422 => 2
    | _ => 1
  let cy := match f.fmt.kind with
    | .yuv420 => 2
    | _ => 1
  let bytes :=
    match f.fmt.kind with
    | .yuv420 | .yuv422 =>
      f.planeBytes 0 c.x c.y c.w c.h ++ f.planeBytes 1 (c.x / cx) (c.y / cy) (c.w / cx) (c.h / cy) ++
        f.planeBytes 2 (c.x / cx) (c.y / cy) (c.w / cx) (c.h / cy)
    | .rgb => f.planeBytes 0 c.x c.y c.w c.h ++ f.planeBytes 1 c.x c.y c.w c.h ++ f.planeBytes 2 c.x c.y c.w c.h
    | _ =>
      (List.range c.h).flatMap (fun dy => (List.range c.w).flatMap (fun dx =>
        [0, 1, 2].flatMap (fun p =>
          let v := f.sample p (c.y + dy) (c.x + dx)
          [v % 256, v / 256 % 256])))
  BitVec.ofNat 32 (crc32 bytes)

end Sys2Proof

namespace Sys2Proof.Machine

/-! ## Writing tags (R86 to R91) -/

/-- The state a writer gives a stand (R88). -/
def writtenState (err : Bool) (v : BlazeVerdict) (hold : Bool) : StandState :=
  if err then .invalid
  else if v = .snag then .snag
  else if hold then .held
  else if v = .unproven then .unproven
  else .live

/-- Whether a capture time is plausible (R87): at most 60 s before arrival, and not after it. -/
def plausible (arrv capt : BitVec 40) : Bool := decide ((arrv - capt).toNat ≤ 60000000)

/-- The stand that holds the last sample of a blaze rectangle in raster order (R288). -/
def blazeStand (c : BlazeCfg) (w : Nat) : Nat := (c.y + c.h - 1) / 64 * stands w + (c.x + c.w - 1) / 64

/-- The stands of a frame that a blaze rectangle overlaps. -/
def blazeStands (c : BlazeCfg) (w h : Nat) : List Nat :=
  (List.range ((c.y + c.h - 1) / 64 + 1 - c.y / 64)).flatMap (fun dy =>
    (List.range ((c.x + c.w - 1) / 64 + 1 - c.x / 64)).filterMap (fun dx =>
      if c.y / 64 + dy < stands h ∧ c.x / 64 + dx < stands w then some ((c.y / 64 + dy) * stands w + c.x / 64 + dx) else none))

/-- What a writer knows of the frame it tags: its source, SRC byte, the source-side trace verdict, the hold flag, whether the
context is in pre-roll. -/
structure Writer where
  src : Source
  byte : BitVec 8
  srcTrace : Bool
  hold : Bool
  preroll : Bool

/-- A capture time that only fails the plausibility test is counted, and reported at most once per second per channel
(R87). -/
def State.captImplausible (s : State) (ch : Nat) (arrv capt : Nat) : State :=
  let s := s.chCount ch 4 1
  let c := s.chan ch
  let due := match c.captEvt with
    | some t => decide (t + 1000000000 ≤ s.now)
    | none => true
  if due then (s.setChan ch { c with captEvt := some s.now }).emit .chCaptImplausible ch [(arrv : Int), (capt : Int)]
  else s

/-- Write the tag of one finished stand (R87, R88) with the blaze verdict that applies to it: stand index, error flag, arrival
time in µs. A capture time that fails only the third condition of R87 is counted once in a frame (log 172). -/
def State.writeTag (s : State) (w : Writer) (r : FrameRef) (v : BlazeVerdict) (p : Nat × Bool × Nat) : State :=
  let f := s.frame r
  let arrv := tagTime p.2.2
  let trace := f.traceFixed.getD s.time.traceOk && w.srcTrace
  let near := plausible arrv (tagTime f.capt)
  let ok := trace && near
  let g : Tag :=
    { seq := f.seq, src := w.byte, arrv := arrv, capt := if ok then tagTime f.capt else arrv, traceable := ok,
      blazed := (s.blazeCfg w.src).en, preroll := w.preroll, state := writtenState p.2.1 v w.hold }
  let s := s.setFrame r { f with
    tags := Tab.set {} f.tags p.1 g, traceable := (f.tags.isEmpty || f.traceable) && ok, anyInvalid := f.anyInvalid || p.2.1,
    implausible := f.implausible || (trace && !near) }
  match w.src with
  | .ch n => if trace && !near && !f.implausible && !w.preroll then s.captImplausible n p.2.2 f.capt else s
  | _ => s

/-- Write the tags of the listed stands under one verdict. -/
def State.writeTags (s : State) (w : Writer) (r : FrameRef) (v : BlazeVerdict) (l : List (Nat × Bool × Nat)) : State :=
  l.foldl (fun s p => s.writeTag w r v p) s

/-- Write the tags of finished stands (R86 to R88, R113, R288). The checker's period rule runs as tags are written. A stand before
the last one of the blaze rectangle takes the verdict from before this frame's blaze result, the others wait until the rectangle
is complete and take the verdict after it. A frame in pre-roll leaves the channel's checker alone and takes the verdict of its
start state (R91, R114). -/
def State.writeStands (s : State) (w : Writer) (r : FrameRef) (l : List (Nat × Bool × Nat)) : State :=
  let c := s.blazeCfg w.src
  let f := s.frame r
  if w.preroll || !c.en then
    let v := if w.preroll then (BlazeState.start c).verdict else (s.checker w.src).verdict
    (s.setFrame r { f with waiting := [] }).writeTags w r v (f.waiting ++ l)
  else
    let arrv := tagTime f.arrv
    let b := blazeStand c f.w
    let early := l.filter (fun p => p.1 < b)
    let rest := f.waiting ++ l.filter (fun p => b ≤ p.1)
    let s := if early.isEmpty || f.blazeDone then s else s.blazeTag w.src arrv
    let s := s.writeTags w r (f.verdict0.getD (s.checker w.src).verdict) early
    let g := s.frame r
    let complete := (blazeStands c f.w f.h).all (fun k =>
      decide (Tab.get {} g.tags k ≠ {}) || rest.any (fun p => p.1 == k))
    if f.blazeDone || complete then
      let s :=
        if f.blazeDone then s
        else
          let s := if b = 0 then s else s.blazeTag w.src arrv
          let s := s.setFrame r { s.frame r with verdict0 := some (s.checker w.src).verdict }
          s.blazeHash w.src arrv f.seq (Frame.bhash f c)
      let s := s.setFrame r { s.frame r with blazeDone := true, waiting := [] }
      let s := if rest.isEmpty then s else s.blazeTag w.src arrv
      s.writeTags w r (s.checker w.src).verdict rest
    else s.setFrame r { g with waiting := rest }

/-- Every stand of a frame has its tag (R86). -/
def State.allTagged (s : State) (r : FrameRef) : Bool :=
  let f := s.frame r
  (List.range (stands f.w * stands f.h)).all (fun k => decide (Tab.get {} f.tags k ≠ {}))

/-! ## Channel state (R142) -/

/-- Move a channel to a state, with its event and counters (R142, R437). -/
def State.chanTo (s : State) (ch : Nat) (x : ChState) : State :=
  let c := s.chan ch
  if c.state = x then s
  else
    let s := (s.setChan ch { c with state := x }).chCount ch 12 1
    let s := if x = .silent then s.chCount ch 13 1 else if x = .faulted then s.chCount ch 14 1 else s
    s.emit .chState ch [c.state.code, x.code]

/-! ## Eligibility and deadline misses (R35, R86, R186) -/

/-- The instant, ns, from which a frame is due for a consumer of period `p`: reference time plus release offset (R31, R226). -/
def State.dueNs (s : State) (src : Source) (p : Nat) (f : Frame) : Nat :=
  match src with
  | .sheet n => f.epochNs + (s.sheet n).cfg.period
  | _ => (f.refUs * 1000 + s.offsetNs src p).toNat

/-- The earliest release epoch of a frame on the heads that show its source (R35). A ready-driven head's epochs are known only as they
come: a frame that was due at the last one has been missed there. -/
def State.earliestEpoch (s : State) (src : Source) (f : Frame) : Option Nat :=
  let es := (s.headsShowing src).filterMap (fun h =>
    let c := (s.head h).cfg
    let due := s.dueNs src c.periodNs f
    if (s.head h).state ≠ .run then none
    else if c.ready then (s.head h).lastEpoch.filter (fun e => decide (due ≤ e))
    else some (epochAtOrAfter c.t0 c.period due))
  es.foldl (fun a e => some (match a with
    | some x => min x e
    | none => e)) none

/-- A deadline miss of a source (R35, R226, R329). -/
def State.missFor (s : State) (src : Source) : State :=
  let s := { s with prot := { s.prot with health := { s.prot.health with misses := s.prot.health.misses + 1 } } }
  match src with
  | .ch n => (s.chCount n 3 1).emit .chDeadlineMiss n []
  | .sheet n => (s.setSheet n { s.sheet n with misses := (s.sheet n).misses + 1 }).emit .chDeadlineMiss (128 + n) []
  | .surf n =>
    let x := s.surf n
    ((s.setSurf n { x with misses := x.misses + 1 }).count (Reg.instMisses x.owner) 1).emit .instDeadlineMiss x.owner [n]

/-- The frame becomes eligible now (R86): PENDING is set; its source's reports follow; a completion at or after its
earliest release epoch is a deadline miss. -/
def State.makeEligible (s : State) (src : Source) (r : FrameRef) : State :=
  let f := s.frame r
  let late := match s.earliestEpoch src f with
    | some e => decide (e ≤ s.now)
    | none => false
  let s := s.setFrame r { f with eligible := some s.now, markPending := true, missed := late }
  let s := if late then s.missFor src else s
  match src with
  | .ch n =>
    let s := s.chCount n 0 1
    let s := if f.traceable then s.chCount n 5 1 else s
    let s := if f.anyInvalid then s.chCount n 7 1 else s
    let s := s.setChan n { s.chan n with lastEligible := some s.now, lastArrv := tagTime f.arrv }
    s.chanTo n .flowing
  | .surf n => s.setSurf n { s.surf n with lastArrv := tagTime f.arrv }
  | .sheet _ => s

end Sys2Proof.Machine
end

