-- ==== Sys2Proof/Machine/Release.lean ====
section
/-! DEFINITION. Release of frames to heads and sheets, and the marks a release moves (R29 to R36, R185, R225). -/

namespace Sys2Proof.Machine

/-- Heads that show a source and run, or start at their next epoch (R255). -/
def State.runHeads (s : State) (src : Source) : List Nat :=
  (s.headsShowing src).filter (fun h => (s.head h).state == .run || (s.head h).state == .starting)

/-- Clear PENDING once the frame has been released or superseded on every head and sheet that shows its source (R185). A frame
released to a head keeps it until the head's latch, which falls at the same instant on a locked head (R36). -/
def State.settlePending (s : State) (src : Source) (r : FrameRef) : State :=
  let f := s.frame r
  let open_ := s.heads.any (fun p => p.2.given.contains r) ||
    (s.runHeads src).any (fun h => !f.doneHeads.getLsbD h) ||
    (s.sheetsShowing src).any (fun x => !f.doneSheets.getLsbD x)
  if f.markPending && !open_ then s.setFrame r { f with markPending := false } else s

/-- The frames of a source. -/
def State.sourceFrames (s : State) (src : Source) : List FrameRef :=
  match s.sourcePool src with
  | some p => (keys (s.bufs p)).map (fun b => FrameRef.mk p b)
  | none => []

/-- Every source there is. -/
def State.allSources (s : State) : List Source :=
  (keys s.chans).map Source.ch ++ (keys s.surfs).map Source.surf ++ (keys s.sheets).map Source.sheet

/-- Clear every PENDING mark that no consumer keeps any more, after a change of what is shown (R185). -/
def State.settleAll (s : State) : State :=
  s.allSources.foldl (fun s src => (s.sourceFrames src).foldl (fun s r => s.settlePending src r) s) s

/-- Whether a consumer has already been given a frame, or passed it over. -/
def consumerDone (c : Consumer) (f : Frame) : Bool :=
  match c with
  | .head n => f.doneHeads.getLsbD n
  | .sheet n => f.doneSheets.getLsbD n

/-- Record that a consumer has been given a frame, or passed it over. -/
def consumerMarkDone (c : Consumer) (f : Frame) : Frame :=
  match c with
  | .head n => { f with doneHeads := f.doneHeads ||| BitVec.ofNat 16 (2 ^ n) }
  | .sheet n => { f with doneSheets := f.doneSheets ||| BitVec.ofNat 32 (2 ^ n) }

/-- The period of a consumer, ns (R32, R225). -/
def State.consumerPeriod (s : State) : Consumer → Nat
  | .head n => (s.head n).cfg.periodNs
  | .sheet n => (s.sheet n).cfg.period

/-- Whether a frame is due for a consumer at epoch `e` ns: eligible, not yet given to it, and its reference time plus offset
has passed; equality counts (R31). A frame completed at a programmed epoch is late for it (R35); a ready-driven head takes what is
eligible when it looks (R246). -/
def State.isDue (s : State) (c : Consumer) (src : Source) (e : Nat) (f : Frame) : Bool :=
  let ready : Bool := match c with
    | .head n => (s.head n).cfg.ready
    | .sheet _ => false
  let complete : Bool := match f.eligible with
    | some x => decide (x < e) || (ready && decide (x ≤ e))
    | none => false
  f.markPending && complete && !consumerDone c f && decide (s.dueNs src (s.consumerPeriod c) f ≤ e)

/-- The buffers of a source that are due for a consumer at an epoch. -/
def State.dueFrames (s : State) (c : Consumer) (src : Source) (e : Nat) : List FrameRef :=
  match s.sourcePool src with
  | some p => ((s.bufs p).filter (fun q => s.isDue c src e q.2)).map (fun q => FrameRef.mk p q.1)
  | none => []

/-- The frame with the latest reference time (R34); of equal ones, the one of the later list place. -/
def State.latestOf (s : State) : List FrameRef → Option FrameRef
  | [] => none
  | r :: t =>
    match s.latestOf t with
    | some q => if (s.frame q).refUs < (s.frame r).refUs then some r else some q
    | none => some r

/-- The frame of a source a consumer was last given. -/
def State.givenFrame (s : State) (c : Consumer) (src : Source) : Option FrameRef :=
  match c with
  | .head n => Tab.get none (s.head n).released src.key
  | .sheet n => Tab.get none (s.sheet n).released src.key

/-- Give a consumer a frame of a source. -/
def State.giveFrame (s : State) (c : Consumer) (src : Source) (r : FrameRef) : State :=
  match c with
  | .head n =>
    let h := s.head n
    let old : Option FrameRef := Tab.get none h.released src.key
    s.setHead n { h with
      released := Tab.set none h.released src.key (some r), given := h.given.filter (fun q => some q ≠ old) ++ [r] }
  | .sheet n =>
    let bit := BitVec.ofNat 32 (2 ^ n)
    let s := match Tab.get none (s.sheet n).released src.key with
      | some q => s.setFrame q { s.frame q with heldSheets := (s.frame q).heldSheets &&& ~~~bit }
      | none => s
    let s := s.setFrame r { s.frame r with heldSheets := (s.frame r).heldSheets ||| bit }
    s.setSheet n { s.sheet n with
      released := Tab.set none (s.sheet n).released src.key (some r) }

/-- Count releases and drops of a channel (R31, R34, R437). -/
def State.countRelease (s : State) (src : Source) (dropped : Nat) : State :=
  match src with
  | .ch n => (s.chCount n 1 1).chCount n 2 dropped
  | _ => s

/-- A frame of a context that is eligible in pre-roll: earlier eligible ones lose PENDING (R185); it counts for no channel
(R437). -/
def State.prerollEligible (s : State) (c : Nat) (r : FrameRef) : State :=
  let s := (keys (s.ctx c).bufs).foldl (fun s b =>
    let q := FrameRef.mk (.ctx c) b
    if q = r then s else s.setFrame q { s.frame q with markPending := false }) s
  s.setFrame r { s.frame r with eligible := some s.now, markPending := true }

/-- A frame of a source becomes eligible (R86), and is given up at once where no head or sheet shows the source (R185). -/
def State.becomeEligible (s : State) (src : Source) (r : FrameRef) : State :=
  (s.makeEligible src r).settlePending src r

/-- Release one source to a consumer at epoch `e` (R31, R34). -/
def State.releaseSource (s : State) (c : Consumer) (e : Nat) (src : Source) : State :=
  let due := s.dueFrames c src e
  match s.latestOf due with
  | none => s
  | some r =>
    let s := due.foldl (fun s q => s.setFrame q (consumerMarkDone c (s.frame q))) s
    let s := (s.giveFrame c src r).countRelease src (due.length - 1)
    due.foldl (fun s q => if q = r then s else s.settlePending src q) s

/-- The sources of the windows a consumer shows, each once. -/
def State.consumerSources (s : State) (c : Consumer) : List Source := ((s.readWins c).map (fun p => Desc.source p.2)).eraseDups

/-- Release every source to a consumer at an epoch. A released frame keeps PENDING until a head fixes it or a sheet has
begun its tile, since the release and the latch or tile read happen at one instant (R36, R185). -/
def State.releaseAll (s : State) (c : Consumer) (e : Nat) : State :=
  (s.consumerSources c).foldl (fun s src => s.releaseSource c e src) s

/-- A frame due and not yet released to a ready-driven head makes it ready now (R246). -/
def State.noteReady (s : State) (n : Nat) : State :=
  if (s.consumerSources (.head n)).any (fun src => !(s.dueFrames (.head n) src s.now).isEmpty) then
    s.setHead n { s.head n with readyAt := (s.head n).readyAt ++ [s.now] }
  else s

/-- FRAME_RELEASE (R31): at an epoch of a running locked head or of a sheet. The epochs of a ready-driven head are its latches, which
release at once (R245); before one, a frame that falls due is a ready instant (R246). -/
def execFrameRelease (t : Nat) (c : Consumer) (s : State) : Host.Outcome State Fault Refusal :=
  let s := s.at t
  match c with
  | .head n =>
    if (s.head n).state ≠ .run then .next s
    else if (s.head n).cfg.ready then .next (s.noteReady n)
    else .next (s.releaseAll c (s.headEpoch n))
  | .sheet n => if (s.sheet n).created then .next (s.releaseAll c (s.sheetEpoch n)) else .next s

end Sys2Proof.Machine
end

