-- ==== Sys2Proof/Machine/Token.lean ====
section
/-! DEFINITION. Power tokens as the other families use them: a request raised, a grant held, a grant given back (R429,
R430). -/

namespace Sys2Proof.Machine

/-- Raise a token request; a unit has at most one pending, and none while it holds a grant (R430). -/
def State.askToken (s : State) (h : TokenHolder) (u : Nat) : State :=
  let m := s.mode
  if m.tokPending.any (fun p => p.holder == h && p.unit == u) || m.tokHeld.any (fun p => p.1 == h && p.2.1 == u) then s
  else s.setMode { m with tokPending := m.tokPending ++ [(⟨h, u, TokenHolder.size h, s.now⟩ : TokenReq)] }

/-- Whether a unit holds its grant. -/
def State.hasToken (s : State) (h : TokenHolder) (u : Nat) : Bool := s.mode.tokHeld.any (fun p => p.1 == h && p.2.1 == u)

/-- Give a grant back at the end of the operation, or withdraw the request. -/
def State.dropToken (s : State) (h : TokenHolder) (u : Nat) : State :=
  s.setMode { s.mode with
    tokHeld := s.mode.tokHeld.filter (fun p => !(p.1 == h && p.2.1 == u)),
    tokPending := s.mode.tokPending.filter (fun p => !(p.holder == h && p.unit == u)) }

end Sys2Proof.Machine
end

