-- ==== Sys2Proof/Machine/CtxBase.lean ====
section
/-! DEFINITION. What every family needs of contexts and channels: state changes, decode work given up, buffers given up,
starts, stops and faults (R25, R140 to R146, R182, R185, R195). -/

namespace Sys2Proof.Machine

/-! ## The states of a context (R140, R141) -/

/-- Move a context to a state, with its event (R140). -/
def State.ctxTo (s : State) (n : Nat) (x : CtxState) : State :=
  let c := s.ctx n
  if c.state = x then s else (s.setCtx n { c with state := x }).emit .ctxState n [c.state.code, x.code]

/-- The declared frame rate of a context, as numerator and denominator. -/
def declRate : Option Decl → Nat × Nat
  | some (.net d) => (d.num, d.den)
  | some (.lusko d) => (d.num, d.den)
  | none => (0, 1)

/-- The declared size of a context. -/
def declSize : Option Decl → Nat × Nat
  | some (.net d) => (d.w, d.h)
  | some (.lusko d) => (d.w, d.h)
  | none => (0, 0)

/-- RETRY_MS of a context. -/
def declRetry : Option Decl → Nat
  | some (.net d) => d.retryMs
  | some (.lusko d) => d.retryMs
  | none => 0

end Sys2Proof.Machine

namespace Sys2Proof

/-- Whether a context is in pre-roll (R25). -/
def Ctx.preroll (c : Ctx) : Bool := c.ch.isNone && c.state != .idle

/-- The channel a context feeds, or in pre-roll the channel its salvo binding names (R148). -/
def Ctx.channel (c : Ctx) : Option Nat := match c.ch with
  | some h => some h
  | none => c.salvo.map Prod.snd

/-- The SRC byte a context's tags take (R84); 0xFF, as CTX[n].STATE.CH reports, where it has no channel yet. -/
def Ctx.srcByte (c : Ctx) : BitVec 8 := BitVec.ofNat 8 (c.channel.getD 0xFF)

/-- The source a context's frames belong to. -/
def Ctx.source (c : Ctx) : Source := .ch (c.channel.getD 0xFF)

end Sys2Proof

namespace Sys2Proof.Machine

/-! ## Decode work and buffers given up (R182, R185, R195) -/

/-- What a core without a job rests as (R195, R197): stalled while a job of its own waits for a page, or while its token is asked for or
granted and the job not yet begun; idle otherwise. -/
def State.restCore (s : State) (k : Nat) : State :=
  let s := s.syncCore k
  let c := s.core k
  let page := (keys s.ctxs).any (fun n => match (s.ctx n).picture with
    | some p => p.parts.any (fun q => q.core == k && q.state == .page)
    | none => false)
  let token := s.hasToken .decode k || s.mode.tokPending.any (fun p => p.holder == .decode && p.unit == k)
  if c.job.isSome ∨ c.state = .isolated then s
  else if page then s.setCore k { c with state := .stalled, why := 9 }
  else if token then s.setCore k { c with state := .stalled, why := 7 }
  else s.setCore k { c with state := .idle, why := 0 }

/-- Take a job of context `n` off core `k`: running work is wasted, saved work is forgotten (R182, R195). -/
def State.freeCore (s : State) (n k : Nat) : State :=
  let c := s.core k
  let c' := { c with saved := c.saved.filter (fun x => x ≠ n) }
  match c.job with
  | some j =>
    if j.1 = n then
      let s := ((s.syncCore k).endWork k false).dropToken .decode k
      s.setCore k { c' with job := none, why := 0, state := if c.state = .isolated then .isolated else .idle }
    else s.setCore k c'
  | none => s.setCore k c'

/-- Take the sheet frame in composition off engine `e`: its work is wasted, its token returned. -/
def State.freeEngine (s : State) (e : Nat) : State :=
  let c := s.engine e
  if c.sheet.isSome then
    let s := ((s.syncEngine e).endWork (unitEngine e) false).dropToken .sheet e
    s.setEngine e { s.engine e with sheet := none, tile := 0, why := 0, state := if c.state = 3 then 3 else 0 }
  else s

end Sys2Proof.Machine

namespace Sys2Proof

/-- A frame that no decoder, output process or release needs any more keeps only the marks of those that still read it; it will not be
output and counts as eligible no longer (R142). -/
def Frame.abandon (f : Frame) : Frame :=
  { f with
    markDecode := false, markShort := false, markLong := false, markOutput := false, markPending := false, eligible := none,
    noOutput := true }

end Sys2Proof

namespace Sys2Proof.Machine

/-- Give up a context's picture in work and its jobs: the picture is abandoned and its buffer freed (R182). -/
def State.dropWork (s : State) (n : Nat) : State :=
  let c := s.ctx n
  let bufs := (c.picture.map (fun p => p.buf)).toList ++ (c.open_.toList ++ c.closed).filterMap (fun o =>
    if o.finished then none else some o.buf)
  let s := bufs.foldl (fun s b => s.modFrame ⟨.ctx n, b⟩ Frame.abandon) s
  let s := (keys s.cores).foldl (fun s k => s.freeCore n k) s
  let s := s.setCtx n { s.ctx n with picture := none, jobs := [], open_ := none, closed := [], entries := [] }
  (keys s.cores).foldl State.restCore s

/-- Give up a context's picture in work alone, whose pages are gone for good (R182). -/
def State.dropPicture (s : State) (n : Nat) : State :=
  match (s.ctx n).picture with
  | some p =>
    let s := s.modFrame ⟨.ctx n, p.buf⟩ Frame.abandon
    let s := (keys s.cores).foldl (fun s k => s.freeCore n k) s
    let s := s.setCtx n { s.ctx n with picture := none }
    (keys s.cores).foldl State.restCore s
  | none => s

/-- Give up every buffer of a context that no head, sheet or recorder still reads (R145, R185). -/
def State.dropBuffers (s : State) (n : Nat) : State :=
  (keys (s.ctx n).bufs).foldl (fun s b => s.modFrame ⟨.ctx n, b⟩ Frame.abandon) s

/-! ## Reassembly (R128, R136) -/

end Sys2Proof.Machine

namespace Sys2Proof

/-- Reassembly and capture-time derivation start again. -/
def Ctx.restarted (c : Ctx) : Ctx :=
  { c with
    held := [], nextSeq := none, newest := none, unitsOut := false, lastTs := none, accepted := [],
    pathA := { c.pathA with newest := none }, pathB := { c.pathB with newest := none } }

end Sys2Proof

namespace Sys2Proof.Machine

/-- Count what a whole-second window of R141 or R329 has seen: its second and its count. Before a window that a step has put off begins,
nothing is counted (R57). -/
def countWindow (w : Nat × Nat) (sec : Nat) : Nat × Nat := if sec < w.1 then w else (sec, (if w.1 = sec then w.2 else 0) + 1)

/-- What a whole-second window has counted in second `sec`. -/
def windowCount (w : Nat × Nat) (sec : Nat) : Nat := if w.1 = sec then w.2 else 0

/-- A resynchronisation or SSRC change: reassembly starts again and a context in DECODE returns to SYNC (R128, R136). -/
def State.ctxResync (s : State) (n : Nat) : State :=
  let s := s.setCtx n (s.ctx n).restarted
  if (s.ctx n).state = .decode then s.ctxTo n .sync else s

/-- A context in SYNC or DECODE takes a fault (R141): its channel is FAULTED (R142); the active device of a pair sends the
action (R299). -/
def State.ctxFault (s : State) (n : Nat) (x : CtxFault) : State :=
  let c := s.ctx n
  if c.state = .sync ∨ c.state = .decode then
    let s := (s.sendAction n 3 x.code).dropWork n
    let s := s.setCtx n { (s.ctx n).restarted with fault := x, faultAt := s.now }
    let s := (s.ctxTo n .fault).emit .ctxFault n [x.code]
    match c.ch with
    | some h => s.chanTo h .faulted
    | none => s
  else s

/-! ## Starts and stops (R140, R146, R148, R198) -/

/-- A context start: the declaration, ARMED, every counter cleared; one that runs is stopped first. Buffers of an earlier start that a
head still shows stay until it shows them no more (R145). The checker of a channel it feeds starts again (R114), and no frame of it is
yet eligible there (R142). -/
def State.startCtx (s : State) (n : Nat) (d : Decl) : State :=
  let s := s.ctxTo n .idle
  let c := s.ctx n
  let ssrc := match d with
    | .net x => if x.ssrcCfg = 0 then none else some x.ssrcCfg
    | .lusko _ => none
  let s := s.setCtx n { decl := some d, ch := c.ch, salvo := c.salvo, ssrc := ssrc, bufs := c.bufs, pool := c.pool, packetPool := c.packetPool,
                        nBufs := c.nBufs, hold := c.hold, taintRun := true }
  let s := { s with pair := { s.pair with mseq := Tab.set 0 s.pair.mseq n 0 } }
  let s := match c.ch with
    | some h => (s.setChan h { s.chan h with lastEligible := none }).resetChecker (.ch h)
    | none => s
  s.ctxTo n .armed

/-- A context stop: IDLE from any state but IDLE; its work is abandoned and its counters stay readable (R140, R148). -/
def State.stopCtx (s : State) (n : Nat) : State :=
  if (s.ctx n).state = .idle then s
  else
    let s := (s.dropWork n).dropBuffers n
    let c := (s.ctx n).restarted
    let s := s.setCtx n { c with
      ch := none, fault := .none, pathA := { c.pathA with up := false }, pathB := { c.pathB with up := false } }
    s.ctxTo n .idle

/-- Leave a context that fed a channel until now: pre-roll if a prepared salvo lists it, IDLE otherwise (R144, R146). -/
def State.releaseCtx (s : State) (n : Nat) : State :=
  let s := s.setCtx n { s.ctx n with ch := none }
  if (s.ctx n).salvo.isSome then s else s.stopCtx n

/-- The state of a channel as its context leaves it at a start or binding (R142). -/
def State.chanStart (s : State) (ch : Nat) : State :=
  match (s.chan ch).ctx with
  | none => s.chanTo ch .off
  | some n =>
    if (s.ctx n).state = .fault then s.chanTo ch .faulted
    else match (s.chan ch).lastEligible with
      | none => s.chanTo ch .pending
      | some l => s.chanTo ch (if s.now < l + (s.chan ch).silenceMs * 1000000 then .flowing else .silent)

end Sys2Proof.Machine
end

