-- ==== Sys2Proof/Machine/Inject.lean ====
section
/-! DEFINITION. The fault injectors of PROVING on the receive paths (R451, R452). -/

namespace Sys2Proof.Machine

/-- What the injectors leave of a received packet. -/
inductive Fate where
  | pass | dropped | held (inj : Nat)
deriving DecidableEq, Repr

/-- The outcome of a packet's way through the injectors: the state, its fate, whether a CORRUPT acted before and after the
checks, and how many injectors it has matched. -/
structure Injected where
  s : State
  fate : Fate
  pre : Bool
  post : Bool

def State.injector (s : State) (i : Nat) : Injector := Tab.get {} s.prov.injs i
def State.setInjector (s : State) (i : Nat) (x : Injector) : State :=
  { s with prov := { s.prov with injs := Tab.set {} s.prov.injs i x } }

/-- Enter an action in PROV.LOG; a full log loses it and sets OVF (R452). -/
def State.logInjection (s : State) (i action number : Nat) : State :=
  let p := s.prov
  if p.log.length < 64 then { s with prov := { p with log := p.log ++ [(⟨i, action, number, s.now⟩ : ProvLog)] } }
  else { s with prov := { p with ovf := true } }

end Sys2Proof.Machine

namespace Sys2Proof

/-- Whether the injector acts on its `k`-th match (R451). -/
def Injector.acts (x : Injector) : Bool :=
  decide (x.start ≤ x.matches_) && decide ((x.matches_ - x.start) % max x.every 1 = 0) &&
    (x.count == 0 || decide (x.done < x.count))

end Sys2Proof

namespace Sys2Proof.Machine

/-- One injector that a packet matches. -/
def injectOne (o : Injected) (i : Nat) : Injected :=
  let s := o.s
  let x := s.injector i
  let p := s.prov
  let s := { s with
    prov := { p with held := p.held.map (fun (h : HeldPacket) => if h.inj = i then { h with left := h.left - 1 } else h) } }
  let acts := Injector.acts x
  let s := s.setInjector i { x with matches_ := x.matches_ + 1, done := if acts then x.done + 1 else x.done }
  if acts then
    let s := s.logInjection i x.action x.matches_
    match x.action with
    | 0 => { o with s := s, fate := .dropped }
    | 1 => { o with s := s, pre := o.pre || !x.pass, post := o.post || x.pass }
    | _ => { o with s := s, fate := .held i }
  else { o with s := s }

/-- Pass a packet through the sixteen injectors in ascending index; the chain ends with a DROP or a REORDER. Injectors act
only in PROVING (R450). -/
def State.inject (s : State) (hit : Injector → Bool) : Injected :=
  let o : Injected := ⟨s, .pass, false, false⟩
  if s.mode.mode = .proving then
    (List.range 16).foldl (fun o i =>
      if o.fate = .pass ∧ (o.s.injector i).armed ∧ hit (o.s.injector i) then injectOne o i else o) o
  else o

/-- Hold a packet for REORDER: DEPTH further matching packets or 10 ms release it (R451). -/
def State.holdPacket (s : State) (i : Nat) (r : RxPacket) : State :=
  let d := bits (s.injector i).param 3 0
  { s with prov := { s.prov with held := s.prov.held ++ [(⟨i, r, s.now, d⟩ : HeldPacket)] } }

/-- Packets whose DEPTH has passed, taken out of the hold. -/
def State.takeReleased (s : State) : State × List RxPacket :=
  let out := s.prov.held.filter (fun h => h.left == 0)
  ({ s with prov := { s.prov with held := s.prov.held.filter (fun h => h.left != 0) } }, out.map (fun h => h.packet))

end Sys2Proof.Machine
end

