-- ==== Sys2Proof/Machine/Evaluate.lean ====
section
/-! DEFINITION. The evaluation of windows at a latch: which stands a window reads, their ages at last light, the verdict and
the state (R93 to R104, R106, R123). -/

namespace Sys2Proof.Machine

/-! ## Geometry -/

/-- A rectangle: left and top may be negative, right and bottom are exclusive. -/
structure Rect where
  x0 : Int
  y0 : Int
  x1 : Int
  y1 : Int
deriving DecidableEq, Repr

/-- The common part of two rectangles. -/
def rectMeet (a b : Rect) : Rect := ⟨max a.x0 b.x0, max a.y0 b.y0, min a.x1 b.x1, min a.y1 b.y1⟩

/-- A rectangle holds no pixel. -/
def rectEmpty (r : Rect) : Bool := decide (r.x1 ≤ r.x0) || decide (r.y1 ≤ r.y0)

/-- A head's active area. -/
def State.activeRect (s : State) (h : Nat) : Rect :=
  ⟨0, 0, (s.head h).cfg.hActive, (s.head h).cfg.vActive⟩

/-- The destination rectangle of a descriptor. -/
def Desc.dst (d : Desc) : Rect :=
  ⟨Desc.dstX d, Desc.dstY d, Desc.dstX d + Desc.dstW d, Desc.dstY d + Desc.dstH d⟩

/-- The visible rectangle of a head window (R106). -/
def State.visible (s : State) (h : Nat) (d : Desc) : Rect := rectMeet (Desc.dst d) (s.activeRect h)

/-- One edge of a tile's rectangle on a sheet mapped through a head window's crop and scale: `crop` and `len` of the sheet
become `dst` and `size` of the head; `up` rounds up. -/
def mapEdge (v crop len dst size : Int) (up : Bool) : Int :=
  if len = 0 then dst
  else dst + (if up then -((-((v - crop) * size)) / len) else (v - crop) * size / len)

/-- The visible rectangle of a tile window `t` through head window `d` on a head of active area `act` (R106, R123). A
destination pixel belongs to it where any part of the mapped tile touches it. -/
def tileIn (act : Rect) (d t : Desc) : Rect :=
  let r := Desc.dst t
  let m : Rect :=
    ⟨mapEdge r.x0 (Desc.cropX d) (Desc.cropW d) (Desc.dstX d) (Desc.dstW d) false,
     mapEdge r.y0 (Desc.cropY d) (Desc.cropH d) (Desc.dstY d) (Desc.dstH d) false,
     mapEdge r.x1 (Desc.cropX d) (Desc.cropW d) (Desc.dstX d) (Desc.dstW d) true,
     mapEdge r.y1 (Desc.cropY d) (Desc.cropH d) (Desc.dstY d) (Desc.dstH d) true⟩
  let crop : Rect := ⟨Desc.cropX d, Desc.cropY d, Desc.cropX d + Desc.cropW d, Desc.cropY d + Desc.cropH d⟩
  if rectEmpty (rectMeet r crop) then ⟨0, 0, 0, 0⟩ else rectMeet m (rectMeet (Desc.dst d) act)

/-- The same on head `h` as it runs now. -/
def State.tileVisible (s : State) (h : Nat) (d t : Desc) : Rect := tileIn (s.activeRect h) d t

/-- Horizontal and vertical reach of a scaler (R95). -/
def reach (graphics : Bool) : PixKind → Nat × Nat
  | .yuv420 => if graphics then (2, 2) else (8, 8)
  | .yuv422 => if graphics then (2, 2) else (8, 3)
  | _ => if graphics then (2, 2) else (4, 3)

/-- The stands that cover pixels `lo` to `hi - 1` of an axis `n` pixels long. -/
def standRange (lo hi n : Nat) : List Nat :=
  let a := min lo n / 64
  let b := ceilDiv (min hi n) 64
  (List.range (b - a)).map (fun i => a + i)

/-- The stands, by index, a crop reads from a frame (R95). -/
def readStands (d : Desc) (f : Frame) (graphics : Bool) : List Nat :=
  let r := reach graphics f.fmt.kind
  let xs := standRange (Desc.cropX d - r.1) (Desc.cropX d + Desc.cropW d + r.1) f.w
  let ys := standRange (Desc.cropY d - r.2) (Desc.cropY d + Desc.cropH d + r.2) f.h
  ys.flatMap (fun y => xs.map (fun x => y * stands f.w + x))

/-! ## Ages -/

/-- An age that exceeds every budget (R94). -/
def ageOver : Nat := 2 ^ 40

/-- The age of a tag time at last light `lu`, µs; at or above 2^39 µs, or with EXPIRED set, it exceeds every budget. -/
def ageAt (lu t : BitVec 40) (expired : Bool) : Nat :=
  let a := (lu - t).toNat
  if expired || decide (2 ^ 39 ≤ a) then ageOver else a

/-- Hold age (R94). -/
def holdAge (lu : BitVec 40) (g : Tag) : Nat := ageAt lu g.arrv g.expired

/-- Transit age (R94); it counts only for a TRACEABLE stand. -/
def transitAge (lu : BitVec 40) (g : Tag) : Nat := if g.traceable then ageAt lu g.capt g.expired else 0

/-- The largest of a list of ages. -/
def maxAge (l : List Nat) : Nat := l.foldl max 0

/-! ## The verdict -/

/-- A stand a head evaluates as INVALID: STATE INVALID or reserved, or a reserved SRC (R83, R84, R101). -/
def tagInvalid (g : Tag) : Bool :=
  srcInvalid g.src ||
    match g.state with
    | .invalid => true
    | .reserved _ => true
    | _ => false

/-- What an evaluation finds. -/
structure Verdict where
  state : WinState
  why : StaleWhy
  hold : Nat
  transit : Nat
deriving DecidableEq, Repr

/-- The verdict over the stands a window reads (R101). `none` for the tags: no frame is released. `bad`: R96 applies. -/
def verdictOf (tags : Option (List Tag)) (bad : Bool) (hb tb : Nat) (lu : BitVec 40) : Verdict :=
  match tags with
  | none => ⟨.never, .no, 0, 0⟩
  | some gs =>
    let h := maxAge (gs.map (holdAge lu))
    let t := maxAge (gs.map (transitAge lu))
    if gs.any (fun g => g.state == .never) then ⟨.never, .no, h, t⟩
    else if gs.any tagInvalid || bad then ⟨.invalid, .no, h, t⟩
    else if gs.any (fun g => g.state == .snag) then ⟨.snag, .no, h, t⟩
    else if gs.any (fun g => g.state == .held) then ⟨.stale, .held, h, t⟩
    else if hb ≠ 0 ∧ hb * 1000 < h then ⟨.stale, .hold, h, t⟩
    else if hb ≠ 0 ∧ tb ≠ 0 ∧ tb * 1000 < t then ⟨.stale, .transit, h, t⟩
    else if gs.any (fun g => g.state == .unproven) then ⟨.unproven, .no, h, t⟩
    else if hb = 0 then ⟨.untimed, .no, h, t⟩
    else ⟨.live, .no, h, t⟩

/-- A failure verdict or state (R101). -/
def isFailure : WinState → Bool
  | .invalid | .stale | .snag => true
  | _ => false

/-- The next state and count (R102); no state acts as NEVER (R103). -/
def nextState (cur : WinState) (count recover : Nat) (v : WinState) : WinState × Nat :=
  if v = .never then (.never, 0)
  else if isFailure v then (v, 0)
  else
    let c := min (count + 1) 15
    if isFailure cur then (if max recover 1 ≤ c then (v, c) else (cur, c)) else (v, c)

/-- An age as the event carries it (R104). -/
def age32 (a : Nat) : Nat := min a 0xFFFFFFFF

/-! ## One window -/

/-- RECOVER of a head (R110). -/
def State.recover (s : State) (h : Nat) : Nat := bits (s.reg (Reg.markCtrl h)) 3 0

/-- Count a window's entry into a state (R437, R438). -/
def State.countEntry (s : State) (h : Nat) (src : Source) (x : WinState) : State :=
  let s := match x with
    | .stale => s.headCount h 8 1
    | .snag => s.headCount h 9 1
    | .invalid => s.headCount h 10 1
    | _ => s
  match src, x with
  | .ch n, .stale => s.chCount n 21 1
  | .ch n, .snag => s.chCount n 22 1
  | .ch n, .invalid => s.chCount n 22 1
  | _, _ => s

/-- Apply a verdict to window `w` of head `h` at epoch `e`: state, count, event WIN_STATE and counters (R102, R104). `tile` is
the tile index of a tile window and 0xFFFF of any other. -/
def State.applyVerdict (s : State) (h w tile e : Nat) (src : Source) (v : Verdict) : State :=
  let x := s.head h
  let old := Tab.get {} x.views w
  let n := nextState old.state old.count (s.recover h) v.state
  let s := s.setHead h { x with
    views := Tab.set {} x.views w (⟨n.1, n.2, v.state, v.why, v.hold, v.transit, decide (v.hold = ageOver)⟩ : WinView) }
  if n.1 = old.state then s
  else (s.countEntry h src n.1).emitAt .headWinState h e
    [w, tile, old.state.code, n.1.code, age32 v.hold, age32 v.transit]

/-- The tags of a source window (R95), or none where no frame is fixed. -/
def State.windowTags (s : State) (h w : Nat) (d : Desc) : Option (List Tag) :=
  match Tab.get none (s.head h).next.frames w with
  | none => none
  | some r =>
    let f := s.frame r
    some ((readStands d f (decide (6 ≤ Desc.pipe d))).map (fun k => Tab.get {} f.tags k))

/-- The filled slots of a sheet frame's stand (R120). -/
def standSlots (f : Frame) (k : Nat) : List Tag :=
  ((List.range 4).map (fun j => Tab.get {} f.slots (4 * k + j))).filter (fun g => g.src ≠ 0xFE)

/-- The filled slots a head window reads from the sheet it shows (R123). -/
def State.sheetSlots (s : State) (h w : Nat) (d : Desc) : List Tag :=
  match Tab.get none (s.head h).next.frames w with
  | none => []
  | some r =>
    let f := s.frame r
    (readStands d f (decide (6 ≤ Desc.pipe d))).flatMap (standSlots f)

/-- The tile windows a head window shows, each with the slots it reads of it (R123): the tile windows of the generation that the sheet
reads. DESIGN CHOICE (log 176): R123 names no generation while head and sheet have not both switched. -/
def State.tilesInView (s : State) (h w : Nat) (d : Desc) : List (Nat × Desc × List Tag) :=
  let n := Desc.srcIdx d % 32
  let slots := s.sheetSlots h w d
  (s.tileWins (s.sheet n).gen n).filterMap (fun p =>
    let gs := slots.filter (fun g => g.tile.toNat == Desc.tile p.2)
    if gs.isEmpty then none else some (p.1, p.2, gs))

/-- One evaluated window: window, the head windows it is read through, tile index, source, the tags read, the budgets, the
descriptor. -/
structure Eval where
  win : Nat
  via : List Nat
  tile : Nat
  src : Source
  tags : Option (List Tag)
  hb : Nat
  tb : Nat
  desc : Desc
deriving DecidableEq, Repr

/-- A tile window that two windows of a head show is evaluated once, over the slots that both read (R102, R123). -/
def addEval (l : List Eval) (v : Eval) : List Eval :=
  if l.any (fun u => u.win == v.win) then
    l.map (fun u => if u.win = v.win then { u with via := u.via ++ v.via, tags := some (u.tags.getD [] ++ v.tags.getD []) } else u)
  else l ++ [v]

/-- Every window head `h` evaluates at a latch (R100, R101, R123, R243). -/
def State.evals (s : State) (h : Nat) : List Eval :=
  ((s.headWins (s.head h).gen h).flatMap (fun p =>
    match Desc.source p.2 with
    | .sheet _ => (s.tilesInView h p.1 p.2).map (fun q =>
        ⟨q.1, [p.1], Desc.tile q.2.1, Desc.source q.2.1, some q.2.2, Desc.holdBudget q.2.1, Desc.transitBudget q.2.1,
         q.2.1⟩)
    | src => [⟨p.1, [p.1], 0xFFFF, src, s.windowTags h p.1 p.2, Desc.holdBudget p.2, Desc.transitBudget p.2, p.2⟩])).foldl
    addEval []

/-- A window's tag read is among the listed ones, or that of a window it is read through is (R96, R100). -/
def readFails (bad : List Nat) (win : Nat) (via : List Nat) : Bool := bad.contains win || via.any bad.contains

/-- Evaluate the listed windows at epoch `e` with last light `lu`; `bad` are the windows whose tag read failed (R96). -/
def State.runEvals (s : State) (h e : Nat) (lu : BitVec 40) (bad : List Nat) (l : List Eval) : State :=
  l.foldl (fun s v => s.applyVerdict h v.win v.tile e v.src (verdictOf v.tags (readFails bad v.win v.via) v.hb v.tb lu)) s

/-- A window is marked: in a state other than LIVE or UNTIMED (R104). -/
def isMarked (x : WinState) : Bool := x != .live && x != .untimed

/-- The counts of the last latch, the marked-frame counter, and the channels with a marked window (R104, R110, R437). -/
def State.markStat (s : State) (h : Nat) (l : List Eval) : State :=
  let x := s.head h
  let st := fun (v : Eval) => (Tab.get {} x.views v.win).state
  let marked := (l.filter (fun v => isMarked (st v))).length
  let s := s.setHead h { x with
    clean := l.length - marked, marked := marked,
    evalWin := (l.filter (fun v => v.tile == 0xFFFF)).length,
    evalTile := (l.filter (fun v => v.tile != 0xFFFF)).length }
  let s := if marked = 0 then s else s.headCount h 1 1
  let chs := ((l.filter (fun v => isMarked (st v))).filterMap (fun v =>
    match v.src with
    | .ch n => some n
    | _ => none)).eraseDups
  chs.foldl (fun s n => s.chCount n 23 1) s

end Sys2Proof.Machine
end

