-- ==== Sys2Proof/Machine/Latch.lean ====
section
/-! DEFINITION. Generation switches, latches (R205, R218, R237, R240 to R247). -/

namespace Sys2Proof.Machine

/-! ## The safelight plane's map (R219, R220, R237) -/

/-- CRC-32 of head `h`'s tile map and palettes, in the layout of R219. -/
def State.mapCrc (s : State) (h : Nat) : BitVec 32 :=
  let cells := (List.range 8160).flatMap (fun i =>
    let v := (Tab.get 0 s.safe.cells (65536 * h + i)).toNat
    [v % 256, v / 256])
  let pals := (List.range 256).flatMap (fun i =>
    let v := (Tab.get 0 s.safe.palettes (65536 * h + i)).toNat
    [v % 256, v / 256 % 256, v / 65536 % 256, v / 16777216])
  BitVec.ofNat 32 (crc32 (cells ++ pals))

/-! ## Generation switches -/

/-- A generation changes a window's source, crop or target, or disables it (R103). -/
def resetsState (old new : Desc) : Bool :=
  !Desc.en new || Desc.srcKind old != Desc.srcKind new || Desc.srcIdx old != Desc.srcIdx new ||
    old.extractLsb' 32 64 != new.extractLsb' 32 64 || Desc.isTile old != Desc.isTile new || Desc.tgt old != Desc.tgt new ||
    Desc.pipe old != Desc.pipe new

/-- Drop the states of windows that a switch from generation `g` resets on a head (R103); `tgt` picks the windows that the
switching reader reads. -/
def State.dropViews (s : State) (g : Bool) (h : Nat) (tgt : Desc → Bool) : State :=
  let x := s.head h
  s.setHead h { x with
    views := x.views.filter (fun p =>
      let old : Desc := Tab.get 0 (s.win.gen g) p.1
      !(tgt old && resetsState old (Tab.get 0 (s.win.gen (!g)) p.1))) }

/-- Head `h` reads the active generation from now on (R205), with its event. -/
def State.switchHead (s : State) (h : Nat) : State :=
  let x := s.head h
  let s := s.dropViews x.gen h (fun d => !Desc.isTile d && Desc.tgt d == h)
  let s := s.setHead h { s.head h with gen := s.win.active, genSeq := s.win.genSeq, switchDue := false }
  (s.headCount h 11 1).emit .headGenSwitch h [b2n s.win.active, s.win.genSeq.toNat]

/-- Sheet `n` reads the active generation from now on (R205). -/
def State.switchSheet (s : State) (n : Nat) : State :=
  let g := (s.sheet n).gen
  let s := (keys s.heads).foldl (fun s h => s.dropViews g h (fun d => Desc.isTile d && Desc.tgt d == n)) s
  s.setSheet n { s.sheet n with gen := s.win.active, switchDue := false }

/-- Some reader still has its switch to make. -/
def State.switchesDue (s : State) : Bool :=
  s.heads.any (fun p => p.2.switchDue) || s.sheets.any (fun p => p.2.switchDue)

/-- After the last switch PENDING clears and the copy into the other generation begins (R205). -/
def State.finishSwitch (s : State) : State :=
  if s.win.pending && !s.switchesDue then
    { s with win := { s.win with pending := false, copying := true, seq := s.win.genSeq } }.settleAll
  else s

/-- A head that no longer runs makes a switch still owed at once (R205). -/
def State.settleHead (s : State) (h : Nat) : State := if (s.head h).switchDue then (s.switchHead h).finishSwitch else s

/-- A sheet that composes no more makes a switch still owed at once (R205). -/
def State.settleSheet (s : State) (n : Nat) : State := if (s.sheet n).switchDue then (s.switchSheet n).finishSwitch else s

/-- A generation commit accepted at device time `a` (R205): the shadow becomes the active generation; enabled heads and sheets switch at
their next epoch, the others at once. -/
def State.acceptGeneration (s : State) (a : Nat) : State :=
  let w := s.win
  let s := { s with
    win := { w with
    active := !w.active, pending := true, ready := false, open_ := false, genSeq := w.seq + 1, acceptedAt := a } }
  let s := (List.range 16).foldl (fun s h =>
    let x := s.head h
    match x.state with
    | .run => s.setHead h { x with switchDue := true, readyAt := x.readyAt ++ [a] }
    | .starting => s.setHead h { x with switchDue := true }
    | _ => s.switchHead h) s
  let s := (List.range 32).foldl (fun s n =>
    let x := s.sheet n
    if x.created then s.setSheet n { x with switchDue := true } else s.setSheet n { x with gen := s.win.active }) s
  s.finishSwitch

/-- At its epoch `e` a head first takes the frames released to it, then makes a switch that is due (R36, R205). -/
def State.headTurn (s : State) (h e : Nat) : State :=
  let s := s.releaseAll (.head h) e
  if (s.head h).switchDue ∧ s.win.acceptedAt ≤ e then (s.switchHead h).finishSwitch else s

/-- The same of a sheet. -/
def State.sheetTurn (s : State) (n e : Nat) : State :=
  let s := s.releaseAll (.sheet n) e
  if (s.sheet n).switchDue ∧ s.win.acceptedAt ≤ e then (s.switchSheet n).finishSwitch else s

/-- GENERATION_SWITCH (R205): at its first epoch at or after acceptance, after that instant's release (R36). -/
def execGenerationSwitch (t : Nat) (c : Consumer) (s : State) : Host.Outcome State Fault Refusal :=
  let s := s.at t
  match c with
  | .head h =>
    if (s.head h).switchDue ∧ (s.head h).state = .run ∧ s.win.acceptedAt ≤ s.headEpoch h then
      .next (s.headTurn h (s.headEpoch h))
    else .next s
  | .sheet n =>
    if (s.sheet n).switchDue ∧ s.win.acceptedAt ≤ s.sheetEpoch n then .next (s.sheetTurn n (s.sheetEpoch n))
    else .next s

/-! ## Latches -/

/-- Fix frames and descriptors for every window of a head (R243): LATENT is set on each frame fixed. A frame fixed at an
earlier latch and never scanned out loses the mark. -/
def State.fixFrames (s : State) (h : Nat) : State :=
  let ws := s.headWins (s.head h).gen h
  let bit := BitVec.ofNat 16 (2 ^ h)
  let old := ((s.head h).next.frames.filterMap (fun p => p.2)).eraseDups
  let s := old.foldl (fun s r => s.setFrame r { s.frame r with markLatent := (s.frame r).markLatent &&& ~~~bit }) s
  let x := s.head h
  let fixed := ws.foldl (fun a p => Tab.set none a p.1 (Tab.get none x.released (Desc.source p.2).key)) []
  let s := s.setHead h { x with
    next := { x.next with frames := fixed, desc := ws.foldl (fun a p => Tab.set 0 a p.1 p.2) [] },
    latched := !fixed.isEmpty }
  let now := (fixed.filterMap (fun p => p.2)).eraseDups
  now.foldl (fun s r => s.setFrame r { s.frame r with markLatent := (s.frame r).markLatent ||| bit }) s

/-- A latch fixed this frame and this descriptor for a window. -/
def shotHolds (z : Shot) (win : Nat) (r : FrameRef) (d : Desc) : Bool :=
  decide (Tab.get none z.frames win = some r) && Tab.get 0 z.desc win == d

/-- Discard prefetched lines whose frame is not the one fixed or whose descriptor is not the one in force, and count them (R248); the
latent buffers keep the others. -/
def State.specDiscard (s : State) (h : Nat) : State :=
  let x := s.head h
  let bad := x.prefetch.filter (fun p => !shotHolds x.next p.win p.frame p.desc)
  let s := s.setHead h { x with
    prefetch := [], specFaults := [],
    pipes := Tab.mapAll {} (fun _ (b : PipeBuf) =>
      { b with latent := b.latent.filter (fun l => shotHolds x.next l.win l.frame l.desc) }) x.pipes }
  (s.headCount h 5 bad.length).pmc (unitHead h) 4 bad.length

/-- The phase error of a locked head's latch line (R240). -/
def State.phaseAt (s : State) (h : Nat) (e : Int) : State :=
  let x := s.head h
  let c := x.cfg
  let s := s.setHead h { x with phase := e }
  if x.phaseOk ∧ c.lineNum < e.natAbs * c.lineDen then
    ((s.setHead h { s.head h with phaseOk := false }).headCount h 12 1).emit .headPhaseLost h [e]
  else if ¬ x.phaseOk ∧ e.natAbs * (c.hTotal * c.vTotal) ≤ c.period then
    (s.setHead h { s.head h with phaseOk := true }).emit .headPhaseOk h [e]
  else s

/-- Clear PENDING of the frames a head has been given, now that its latch has fixed them or passed them over (R185). -/
def State.settleGiven (s : State) (h : Nat) : State :=
  let given := (s.head h).given
  let shown := s.consumerSources (.head h)
  let s := s.setHead h { s.head h with given := [] }
  (s.allSources.filter (fun src => shown.contains src || (s.sourceFrames src).any (fun r => given.contains r))).foldl
    (fun s src => (s.sourceFrames src).foldl (fun s r => s.settlePending src r) s) s

/-- What one evaluated window contributes to the latch record (R306): its index, the SRC and SEQ of the frame it shows, its
state. -/
def State.recordOf (s : State) (h : Nat) (v : Eval) : List Nat :=
  let g := (v.tags.getD []).head?.getD {}
  [v.win, g.src.toNat, g.seq.toNat, (Tab.get {} (s.head h).views v.win).state.code]

/-- A frame that head `h` should show at epoch `e` is not complete yet: the miss that it will be reported as (R35) affects the
head's frame (R287). -/
def State.lateFrame (s : State) (h e : Nat) (src : Source) : Bool :=
  (s.sourceFrames src).any (fun r =>
    let f := s.frame r
    f.inUse && (match f.eligible with
      | some x => decide (e ≤ x) && !(s.head h).cfg.ready
      | none => true) && !f.noOutput && !f.generated &&
      decide (s.dueNs src (s.head h).cfg.periodNs f ≤ e))

/-- A source in GAP on the shadow of a pair (R304). -/
def State.inGap (s : State) : Source → Bool
  | .ch n => match (s.chan n).ctx with
    | some c => s.pair.gapCtx.contains c
    | none => false
  | .surf n => s.pair.gapSurf.contains n
  | .sheet _ => false

/-- Lines from an epoch to line 0 of the frame it begins (R241, R247): from the latch line, or from blank line `j`. -/
def linesToActive (c : HeadCfg) : Option Nat → Nat
  | some j => max (j + c.lead) c.vMin - j
  | none => c.lead + c.vMin

/-- The windows whose tag reads failed at a latch, each once (R96). -/
def State.lateOf (s : State) (h : Nat) (bad : List Nat) (evs : List Eval) : List Nat :=
  bad.eraseDups.filter (fun w => evs.any (fun v => v.win == w) || Tab.get 0 (s.head h).next.desc w != 0)

/-- TAG_LATE of the listed windows (R96), each counted; the frame's deadline miss is counted once with its underrun (R254, R438). -/
def State.reportLate (s : State) (h : Nat) (late : List Nat) (again : Bool) : State :=
  let s := late.foldl (fun s w => (s.headCount h 4 1).emit .headTagLate h [w]) s
  if late.isEmpty || again then s else s.headCount h 2 1

/-- Keep what a latch fixed for its scan-out, its recording and its signature block (R243, R275, R306). -/
def State.takeShot (s : State) (h : Nat) (evs : List Eval) (late : List Nat) : State :=
  let x := s.head h
  let tiles := evs.filter (fun v => v.tile ≠ 0xFFFF)
  let desc := tiles.foldl (fun a v => Tab.set 0 a v.win v.desc) x.next.desc
  s.setHead h { x with
    next := { x.next with
      epoch := x.lastEpoch.getD 0, lastLight := x.lastLight, frameNo := x.frames, bg := x.bg, safeHold := x.safeHold,
      starting := decide (s.mode.mode = .configure),
      traceOk := s.time.traceOk, clean := x.clean, marked := x.marked, views := x.views, desc := desc,
      record := evs.flatMap (s.recordOf h) ++ [s.win.seq.toNat, x.mapCrc.toNat, x.bg.toNat],
      lines := linesToActive x.cfg x.latchLine, evals := evs.map (fun v => (v.win, v.via)), late := late,
      miss := !late.isEmpty || (s.consumerSources (.head h)).any (s.lateFrame h (x.lastEpoch.getD 0)),
      gap := evs.any (fun v => s.inGap v.src),
      glyphs := s.safe.glyphs, cells := s.safe.cells.filter (fun p => p.1 / 65536 == h),
      palettes := s.safe.palettes.filter (fun p => p.1 / 65536 == h) } }

/-- A source whose inputs the shadow has had since J (R295): a joined context or surface, or a sheet that reads only such. -/
def State.isJoined (s : State) : Source → Bool
  | .ch n => match (s.chan n).ctx with
    | some c => s.pair.joinedSrc.contains c
    | none => true
  | .surf n => s.pair.joinedSrc.contains (1000 + n)
  | .sheet n => (s.tileWins (s.sheet n).gen n).all (fun w => match Desc.source w.2 with
    | .ch k => match (s.chan k).ctx with
      | some c => s.pair.joinedSrc.contains c
      | none => true
    | .surf k => s.pair.joinedSrc.contains (1000 + k)
    | .sheet _ => true)

/-- The heads whose rasters run and that are not excluded from comparison. -/
def State.pairHeads (s : State) : List Nat :=
  (keys s.heads).filter (fun h => (s.head h).state == .run && !s.pair.excl.getLsbD h)

/-- At a latch of a JOINING pair a head whose windows read only joined sources is armed; with every head armed the pair is
PAIRED (R293, R295). -/
def State.armHead (s : State) (h : Nat) : State :=
  let p := s.pair
  if p.state = .joining ∧ p.joined ∧ ¬ p.excl.getLsbD h ∧
      (s.headWins (s.head h).gen h).all (fun w => s.isJoined (Desc.source w.2)) then
    let s := { s with pair := { p with armed := p.armed ||| BitVec.ofNat 16 (2 ^ h) } }
    if s.pairHeads.all (fun k => s.pair.armed.getLsbD k) then s.pairTo .paired else s
  else s

/-- A latch of head `h` whose epoch is `e` ns (R243): background, MAP_CRC, frames fixed, prefetch compared, windows
evaluated. `bad` are the windows whose tag read met an uncorrectable error (R96). -/
def State.latch (s : State) (h e : Nat) (line : Option Nat) (bad : List Nat) : State :=
  let x := s.head h
  let l := x.cfg.lastLightNs e
  let s := s.setHead h { x with
    bg := x.bgNext.getD x.bg, bgNext := none, shotDue := true, lastEpoch := some e, lastLight := l, latchLine := line,
    readyAt := x.readyAt.filter (fun r => e < r), frames := x.frames + 1, markEpoch := BitVec.ofNat 64 e, mapCrc := s.mapCrc h }
  let s := ((s.fixFrames h).specDiscard h).settleGiven h
  let evs := s.evals h
  let late := s.lateOf h bad evs
  let s := (s.runEvals h e (tagTime (x.cfg.lastLightUs e)) bad evs).reportLate h late false
  ((((s.markStat h evs).headCount h 0 1).pmc (unitHead h) 2 1).takeShot h evs late).armHead h

/-- LATCH (R243): at an epoch of a running locked head, after the release and the switch due then. `phase` is the measured e of R240. -/
def State.latchLocked (s : State) (h : Nat) (phase : Int) (bad : List Nat) : State :=
  let x := s.head h
  match epochAtOrBefore x.cfg.t0 x.cfg.period s.now with
  | some e =>
    if x.state = .run ∧ ¬ x.cfg.ready ∧ x.lastEpoch ≠ some e ∧ x.admittedAt ≤ e then
      (((s.headTurn h e).latch h e none bad).phaseAt h phase)
    else s
  | none => s

/-- A ready-driven head has a ready instant since its last latch (R246): one recorded, or a frame due now. -/
def State.isReady (s : State) (h : Nat) : Bool := ((s.noteReady h).head h).readyAt.any (fun r => decide (r ≤ s.now))

/-- READY_DRIVEN_LATCH (R245): at an opportunity, with a ready instant since the last latch. `line` is the blank line, none
for the latch line. -/
def State.latchReady (s : State) (h : Nat) (line : Option Nat) (bad : List Nat) : State :=
  let x := s.head h
  let fits : Bool := match line with
    | some j => decide (j + x.cfg.lead ≤ x.cfg.vBlankMax)
    | none => true
  if x.state = .run ∧ x.cfg.ready ∧ s.isReady h ∧ fits then (s.headTurn h s.now).latch h s.now line bad else s

/-- The blank line of a head's forced latch (R245). DEDUCED (log 173): with LEAD above VMAX_EFF no blank line is an opportunity, and the
forced latch falls on the only one, the latch line. -/
def forcedLine (c : HeadCfg) : Option Nat := if c.lead ≤ c.vBlankMax then some (c.vBlankMax - c.lead) else none

/-- FORCED_LATCH (R245): at blank line VMAX_EFF − LEAD without a ready instant; the frames it fixes are those already shown. -/
def State.latchForced (s : State) (h : Nat) (bad : List Nat) : State :=
  let x := s.head h
  if x.state = .run ∧ x.cfg.ready ∧ ¬ s.isReady h then (s.latch h s.now (forcedLine x.cfg) bad).headCount h 14 1 else s

end Sys2Proof.Machine
end

