-- ==== Sys2Proof/Machine/Pixel.lean ====
section
/-! DEFINITION. What a head draws: scalers, conversion, blending, the mark plane, the safelight plane, the output conversion,
the line signatures and the writeback tap (R105 to R109, R209 to R221, R254, R257, R266, R305, R417). -/

namespace Sys2Proof.Machine

/-! ## Coefficient banks (R216) -/

/-- Taps of a table: 0 8-tap, 1 6-tap, 2 4-tap. -/
def tapCount : Nat → Nat
  | 0 => 8 | 1 => 6 | _ => 4

/-- The tap centre k (R214). -/
def tapCentre : Nat → Nat
  | 0 => 3 | 1 => 2 | _ => 1

/-- Byte offset of a coefficient in its bank (R216). -/
def coefOffset (table phase tap : Nat) : Nat :=
  match table with
  | 0 => 16 * phase + 2 * tap
  | 1 => 0x400 + 16 * phase + 2 * tap
  | _ => 0x800 + 8 * phase + 2 * tap

/-- A phase passes SEAL: every tap in −512 to 511, their sum 512 (R216). -/
def phaseOk (l : List Int) : Bool := l.all (fun c => decide (-512 ≤ c) && decide (c ≤ 511)) && l.sum == 512

/-- The ROM default set (R216): phase 0 is the unit impulse; in every phase the taps are values of R216 that sum to 512. The taps of
the other phases are free (log 8) within that. -/
def defaultCoef (table phase tap : Nat) : Int :=
  let free := (List.range (tapCount table)).map (Config.romCoef table phase)
  if phase ≠ 0 ∧ phaseOk free then free.getD tap 0 else if tap = tapCentre table then 512 else 0

/-- A coefficient of a bank. -/
def bankCoef (b : Banks) (bank table phase tap : Nat) : Int :=
  match Tab.get none b.mem (0x1000 * bank + coefOffset table phase tap) with
  | some v => v.toInt
  | none => defaultCoef table phase tap

/-- The 2-byte values of bank bytes 0x000 to 0x9FF, reserved ones 0. -/
def bankHalf (b : Banks) (bank i : Nat) : Int :=
  let off := 2 * i
  if off < 0x400 then bankCoef b bank 0 (off / 16) (off % 16 / 2)
  else if off < 0x800 then
    let tap := off % 16 / 2
    if tap < 6 then bankCoef b bank 1 ((off - 0x400) / 16) tap else 0
  else bankCoef b bank 2 ((off - 0x800) / 8) (off % 8 / 2)

/-- CRC-32 of bank bytes 0x000 to 0x9FF (R217). -/
def bankHash (b : Banks) (bank : Nat) : BitVec 32 :=
  BitVec.ofNat 32 (crc32 ((List.range 0x500).flatMap (fun i =>
    let v := wrap 16 (bankHalf b bank i)
    [v % 256, v / 256])))

/-- COEF_HASH of a bank (R217, R234): the CRC-32 of its last successful SEAL, before the first one that of the ROM default set. -/
def sealedHash (b : Banks) (bank : Nat) : BitVec 32 := (Tab.get none b.hash bank).getD (bankHash {} bank)

/-! ## Sources as 10-bit samples (R209, R211) -/

/-- A stored component as 10 bits (8 bits for alpha, plane 3). -/
def extend10 (f : PixFmt) (plane v : Nat) : Nat :=
  match f.kind with
  | .yuv420 | .yuv422 | .rgb => if f.ten then v else 4 * v
  | .argb8888 | .xrgb8888 => if plane = 3 then v else 4 * v + v / 64
  | .rgb565 => if plane = 1 then v * 16 + v / 4 else v * 32 + v
  | .argb2101010 | .xrgb2101010 => if plane = 3 then 85 * v else v

/-- Width and height of a plane of a frame. -/
def planeSize (f : Frame) (plane : Nat) : Nat × Nat :=
  match f.fmt.kind, plane with
  | .yuv420, 1 => (ceilDiv f.w 2, ceilDiv f.h 2)
  | .yuv420, 2 => (ceilDiv f.w 2, ceilDiv f.h 2)
  | .yuv422, 1 => (ceilDiv f.w 2, f.h)
  | .yuv422, 2 => (ceilDiv f.w 2, f.h)
  | _, _ => (f.w, f.h)

/-- A source sample; outside the frame the nearest one inside it (R214). -/
def sampleAt (f : Frame) (plane : Nat) (y x : Int) : Nat :=
  let sz := planeSize f plane
  let cl := fun (v : Int) (n : Nat) => (clampI 0 ((n : Int) - 1) v).toNat
  extend10 f.fmt plane (f.sample plane (cl y sz.2) (cl x sz.1))

/-! ## Scalers (R213, R214) -/

/-- The source position of destination pixel `d` in units of 2^-20 pixel (R213). -/
def srcPos (crop len size d : Nat) : Int :=
  let step := len * 2 ^ 20 / max size 1
  ((crop * 2 ^ 20 + (2 * d + 1) * step / 2 : Nat) : Int) - 2 ^ 19

/-- Integer sample and phase of a position. -/
def splitPos (p : Int) : Int × Nat := (p / 2 ^ 20, (p / 2 ^ 14 % 64).toNat)

/-- One filter (R214): clamp((Σ c × s + 256) >> 9, 0, 1023); `c` gives the taps, `s` the samples. -/
def filterR (n k : Nat) (c : Nat → Int) (s : Int → Nat) (i : Int) : Nat :=
  (clampI 0 1023 ((((List.range n).map (fun t => c t * (s (i + t - k) : Int))).sum + 256) / 512)).toNat

/-- The vertical chroma position of a luma position (R214). -/
def chromaY (k : PixKind) (p : Int) : Int := if k = .yuv420 then p / 2 - 2 ^ 18 else p

/-- One scaled sample of a plane at destination pixel (dx, dy) of a window, counted from its unclipped corner: horizontal
filtering first, kept at 10 bits (R213, R214). Alpha is filtered as the colour planes are. -/
def scaledSample (b : Banks) (graphics : Bool) (d : Desc) (f : Frame) (plane dx dy : Nat) : Nat :=
  let th := if graphics then 2 else 0
  let tv := if graphics then 2 else 1
  let chroma := plane = 1 ∨ plane = 2
  let px := srcPos (Desc.cropX d) (Desc.cropW d) (Desc.dstW d) dx
  let py := srcPos (Desc.cropY d) (Desc.cropH d) (Desc.dstH d) dy
  let px := match f.fmt.kind with
    | .yuv420 | .yuv422 => if chroma then px / 2 else px
    | _ => px
  let py := if chroma then chromaY f.fmt.kind py else py
  let h := splitPos px
  let v := splitPos py
  let row := fun (y : Int) =>
    filterR (tapCount th) (tapCentre th) (bankCoef b (Desc.bank d) th h.2) (fun x => sampleAt f plane y x) h.1
  filterR (tapCount tv) (tapCentre tv) (bankCoef b (Desc.bank d) tv v.2) row v.1

/-! ## Conversion to the blend space (R211) -/

/-- A colour: 10-bit full-range R′, G′, B′. -/
structure Rgb where
  r : Nat
  g : Nat
  b : Nat
deriving DecidableEq, Repr

/-- A register colour: RED[29:20], GREEN[19:10], BLUE[9:0]. -/
def rgbOf (v : Nat) : Rgb := ⟨bits v 29 20, bits v 19 10, bits v 9 0⟩

/-- A ratio rounded to the nearest multiple of 2^-12, in those units. -/
def coef12 (num den : Nat) : Int := ((num * 8192 + den) / (2 * den) : Nat)

/-- Kr and Kb in ten-thousandths (R211). -/
def kOf : Nat → Nat × Nat
  | 1 => (2990, 1140)
  | 3 => (2627, 593)
  | _ => (2126, 722)

/-- The matrix in force: as the source records it, BT.709 if unspecified (R199). -/
def matrixOf (d : Desc) (f : Frame) : Nat :=
  if Desc.matrix d ≠ 0 then Desc.matrix d
  else match f.vui.matrix with
    | 5 => 1
    | 6 => 1
    | 9 => 3
    | _ => 2

/-- Full range in force: as the source records it, limited if unspecified (R199). -/
def fullOf (d : Desc) (f : Frame) : Bool :=
  match Desc.range d with
  | 0 => f.vui.full
  | 2 => true
  | _ => false

/-- A value of numerator `n` over `den`, scaled to 0–1023, rounded half up and clamped. -/
def to1023 (n : Int) (den : Nat) : Nat := (clampI 0 1023 ((2 * 1023 * n + den) / (2 * (den : Int)))).toNat

/-- YCbCr to the blend space (R211), on 10-bit code values. -/
def yuvToRgb (m : Nat) (full : Bool) (y cb cr : Nat) : Rgb :=
  let k := kOf m
  let kg := 10000 - k.1 - k.2
  let yn : Int := if full then (y : Int) else (y : Int) - 64
  let yd : Nat := if full then 1023 else 876
  let cd : Nat := if full then 1023 else 896
  let u : Int := (cb : Int) - 512
  let v : Int := (cr : Int) - 512
  let cR := coef12 (2 * (10000 - k.1)) 10000
  let cB := coef12 (2 * (10000 - k.2)) 10000
  let gU := coef12 (2 * k.2 * (10000 - k.2)) (10000 * kg)
  let gV := coef12 (2 * k.1 * (10000 - k.1)) (10000 * kg)
  let den := yd * cd * 4096
  ⟨to1023 (yn * cd * 4096 + cR * v * yd) den,
   to1023 (yn * cd * 4096 - gU * u * yd - gV * v * yd) den,
   to1023 (yn * cd * 4096 + cB * u * yd) den⟩

/-- A component of an RGB source with limited range, expanded (R211). -/
def expandRgb (v : Nat) : Nat :=
  (clampI 0 1023 ((((v : Int) - 64) * coef12 1023 876 + 2048) / 4096)).toNat

/-- The converted colour and the 8-bit pixel alpha of a window at (dx, dy) from its unclipped corner. -/
def windowPixel (b : Banks) (graphics : Bool) (d : Desc) (f : Frame) (dx dy : Nat) : Rgb × Nat :=
  let s := fun p => scaledSample b graphics d f p dx dy
  match f.fmt.kind with
  | .yuv420 | .yuv422 => (yuvToRgb (matrixOf d f) (fullOf d f) (s 0) (s 1) (s 2), 255)
  | .argb8888 | .argb2101010 =>
    let c := if fullOf d f then (⟨s 0, s 1, s 2⟩ : Rgb) else ⟨expandRgb (s 0), expandRgb (s 1), expandRgb (s 2)⟩
    (c, if Desc.alphaMode d = 0 then 255 else min 255 (s 3))
  | _ =>
    (if fullOf d f then (⟨s 0, s 1, s 2⟩ : Rgb) else ⟨expandRgb (s 0), expandRgb (s 1), expandRgb (s 2)⟩, 255)

/-! ## Blending (R212) -/

/-- Blend one component. -/
def blend1 (premul : Bool) (A a s d : Nat) : Nat :=
  if premul then min 1023 ((s * A + 127) / 255 + (d * (255 - a) + 127) / 255)
  else (s * a + d * (255 - a) + 127) / 255

/-- Blend a colour with pixel alpha `p` over another. -/
def blend (d : Desc) (c : Rgb) (p : Nat) (under : Rgb) : Rgb :=
  let A := Desc.alpha d
  let a := (p * A + 127) / 255
  let f := blend1 (Desc.alphaMode d == 2) A a
  ⟨f c.r under.r, f c.g under.g, f c.b under.b⟩

/-- Whether point (x, y) lies in a rectangle. -/
def inRect (r : Rect) (x y : Nat) : Bool :=
  decide (r.x0 ≤ (x : Int)) && decide ((x : Int) < r.x1) && decide (r.y0 ≤ (y : Int)) && decide ((y : Int) < r.y1)

/-- The head windows of a shot. -/
def shotWins (z : Shot) : List (Nat × Desc) := z.desc.filter (fun p => !Desc.isTile p.2)

/-- The window of pipe `p` at a pixel of a shot. -/
def State.pipeWin (s : State) (h : Nat) (z : Shot) (p x y : Nat) : Option (Nat × Desc) :=
  (shotWins z).find? (fun q => Desc.pipe q.2 == p && inRect (s.visible h q.2) x y)

/-- What pipe `p` contributes at a pixel: its descriptor, colour and pixel alpha; an underrun pixel takes the fill (R254). -/
def State.pipePixel (s : State) (h : Nat) (z : Shot) (under : List (Nat × Nat × Nat)) (p x y : Nat) :
    Option (Desc × Rgb × Nat) :=
  match s.pipeWin h z p x y with
  | none => none
  | some q =>
    if under.contains (p, x, y) then some (q.2, rgbOf (s.reg (Reg.underrunFill h)), 255)
    else match Tab.get none z.frames q.1 with
      | none => none
      | some r =>
        let c := windowPixel (s.head h).banks (decide (6 ≤ p)) q.2 (s.frame r)
          ((x : Int) - Desc.dstX q.2).toNat ((y : Int) - Desc.dstY q.2).toNat
        some (q.2, c.1, c.2)

/-- The blended pixel before the mark plane (R105, R212); SAFE-HOLD draws the background only (R417). -/
def State.blendedPixel (s : State) (h : Nat) (z : Shot) (under : List (Nat × Nat × Nat)) (x y : Nat) : Rgb :=
  let bg := rgbOf z.bg.toNat
  if z.safeHold || z.starting then bg
  else (List.range 8).foldl (fun d p =>
    match s.pipePixel h z under p x y with
    | some (ds, c, a) => blend ds c a d
    | none => d) bg

/-- Pipe `p` covers a pixel with a fully opaque one (R106). -/
def State.opaqueAt (s : State) (h : Nat) (z : Shot) (under : List (Nat × Nat × Nat)) (p x y : Nat) : Bool :=
  match s.pipePixel h z under p x y with
  | some (d, _, a) => (a * Desc.alpha d + 127) / 255 == 255
  | none => false

/-! ## The mark plane (R106 to R109) -/

/-- The marked windows of a shot: pipe, visible rectangle, descriptor, view. Tile windows take the pipe of the head window
that shows them. -/
def State.markWins (s : State) (h : Nat) (z : Shot) : List (Nat × Rect × Desc × WinView) :=
  (shotWins z).flatMap (fun q =>
    match Desc.source q.2 with
    | .sheet n =>
      (z.desc.filter (fun t => Desc.isTile t.2 && Desc.tgt t.2 == n)).map (fun t =>
        (Desc.pipe q.2, s.tileVisible h q.2 t.2, t.2, Tab.get {} z.views t.1))
    | _ => [(Desc.pipe q.2, s.visible h q.2, q.2, Tab.get {} z.views q.1)])

/-- The fills of R107. -/
inductive Fill where
  | hatch | dim | blank
deriving DecidableEq, Repr

/-- The fill of a window's state. -/
def fillOf (d : Desc) (x : WinState) : Option Fill :=
  let treat := fun (n : Nat) => if n = 1 then Fill.dim else if n = 2 then Fill.blank else Fill.hatch
  match x with
  | .stale => some (treat (Desc.treatStale d))
  | .snag => some (treat (Desc.treatSnag d))
  | .invalid => some (treat (Desc.treatInvalid d))
  | .never => some .blank
  | _ => none

/-- Hatch of R108 over a colour. -/
def State.hatchOver (s : State) (h x y : Nat) (c : Rgb) : Rgb :=
  if (x + y) % 32 < 4 then rgbOf (s.reg (Reg.markHatch h)) else c

/-- Dim of R108. -/
def dim (c : Rgb) : Rgb :=
  let y := (2126 * c.r + 7152 * c.g + 722 * c.b) / 10000
  ⟨3 * y / 10, 3 * y / 10, 3 * y / 10⟩

/-- The fill drawn at a pixel: that of the highest pipe among the windows whose visible rectangle holds it and which no fully
opaque pixel of a higher pipe covers (R106). -/
def State.fillAt (s : State) (h : Nat) (z : Shot) (under : List (Nat × Nat × Nat)) (x y : Nat) : Option Fill :=
  let cand := (s.markWins h z).filterMap (fun w =>
    match fillOf w.2.2.1 w.2.2.2.state with
    | some f =>
      if inRect w.2.1 x y &&
          !((List.range 8).any (fun p => decide (w.1 < p) && s.opaqueAt h z under p x y)) then some (w.1, f) else none
    | none => none)
  (cand.foldl (fun a p => match a with
    | some q => if q.1 ≤ p.1 then some p else some q
    | none => some p) none).map Prod.snd

/-- An age as the readout writes it, as character codes (R109). -/
def ageText (a : Nat) : List Nat :=
  let digits := fun (n : Nat) => (Nat.toDigits 10 n).map Char.toNat
  let t := ceilDiv a 100000
  let sec := ceilDiv a 1000000
  if t ≤ 999 then digits (t / 10) ++ [46, 48 + t % 10, 115]
  else if sec ≤ 9999 then digits sec ++ [115]
  else [62, 57, 57, 57, 57]

/-- The readout text of a window (R109). -/
def readout (v : WinView) : List Nat :=
  match v.verdict with
  | .stale => match v.why with
    | .held => [72, 79, 76, 68]
    | .transit => 84 :: ageText v.transitAge
    | _ => 72 :: ageText v.holdAge
  | .snag => [83, 78, 65, 71]
  | .invalid => [69, 82, 82]
  | _ => 72 :: ageText v.holdAge

/-- An element of the mark plane or a system element: its ROM element number, text, rectangle. -/
structure Elem where
  id : Nat
  text : List Nat
  rect : Rect
deriving DecidableEq, Repr

/-- A box of a size centred in a rectangle. -/
def centred (r : Rect) (w h : Int) : Rect :=
  let x := r.x0 + (r.x1 - r.x0 - w) / 2
  let y := r.y0 + (r.y1 - r.y0 - h) / 2
  ⟨x, y, x + w, y + h⟩

/-- A centred element of width `w`, its compact form in a small rectangle, or nothing (R109). DESIGN CHOICE (log 218): a rectangle smaller
than 48 in one dimension alone is smaller than 48 × 48, so nothing is drawn. -/
def centredElem (r : Rect) (id w : Nat) : List Elem :=
  let rw := r.x1 - r.x0
  let rh := r.y1 - r.y0
  if rw < 48 ∨ rh < 48 then []
  else if rw < (w : Int) + 16 then [⟨id + 100, [], centred r 32 32⟩]
  else [⟨id, [], centred r w 32⟩]

/-- Element numbers of the ROM: 1 readout, 2 NO SIGNAL, 3 AWAITING, 4 UNPROVEN, 5 UNTIMED, 6 SAFE-HOLD, 7 STARTING,
8 PROVING, 9 DEVELOPMENT; 100 more is the compact form. -/
def untimedElem (r : Rect) : Elem := ⟨5, [], ⟨r.x1 - 40, r.y1 - 40, r.x1 - 8, r.y1 - 8⟩⟩

/-- The elements drawn for one window (R107, R109, R417). -/
def State.winElems (hold : Bool) (w : Nat × Rect × Desc × WinView) : List Elem :=
  let r := w.2.1
  let d := w.2.2.1
  let v := w.2.2.2
  if rectEmpty r then []
  else
    let untimed := if Desc.holdBudget d = 0 ∧ Desc.srcKind d ≠ 2 then [untimedElem r] else []
    if hold then centredElem r 6 192 ++ untimed
    else
      let ro : List Elem :=
        if r.x1 - r.x0 < 136 ∨ r.y1 - r.y0 < 48 then []
        else [⟨1, readout v, ⟨r.x0 + 8, r.y0 + 8, r.x0 + 128, r.y0 + 40⟩⟩]
      (match v.state with
        | .stale | .snag | .invalid =>
          if fillOf d v.state = some .blank then centredElem r 2 192 ++ ro else ro
        | .never => centredElem r 3 144
        | .unproven => [⟨4, [], ⟨r.x1 - 40, r.y0 + 8, r.x1 - 8, r.y0 + 40⟩⟩]
        | _ => []) ++ untimed

/-- Draw an element's pixel: text on its box (R109). -/
def drawElem (text box : Rgb) (e : Elem) (x y : Nat) (c : Rgb) : Rgb :=
  if inRect e.rect x y then
    if Config.romInk e.id e.text ((x : Int) - e.rect.x0).toNat ((y : Int) - e.rect.y0).toNat then text else box
  else c

/-- The mark plane over a pixel (R105 to R109). In SAFE-HOLD every head window carries the SAFE-HOLD glyph (R417). -/
def State.markPixel (s : State) (h : Nat) (z : Shot) (under : List (Nat × Nat × Nat)) (x y : Nat) (c : Rgb) : Rgb :=
  let c := if z.safeHold || z.starting then c
    else match s.fillAt h z under x y with
      | some .hatch => s.hatchOver h x y c
      | some .dim => s.hatchOver h x y (dim c)
      | some .blank => rgbOf z.bg.toNat
      | none => c
  let wins := if z.safeHold then
      (shotWins z).map (fun q => (Desc.pipe q.2, s.visible h q.2, q.2, ({} : WinView)))
    else if z.starting then []
    else s.markWins h z
  let text := rgbOf (s.reg (Reg.markText h))
  let box := rgbOf (s.reg (Reg.markBox h))
  (wins.flatMap (State.winElems z.safeHold)).foldl (fun c e => drawElem text box e x y c) c

/-! ## The safelight plane (R219 to R221) -/

/-- A palette colour over a pixel (R220). -/
def safeBlend (e : Nat) (c : Rgb) : Rgb :=
  let w := match bits e 31 30 with
    | 0 => 0
    | 1 => 2
    | 2 => 3
    | _ => 4
  let f := fun (s d : Nat) => (s * w + d * (4 - w) + 2) / 4
  let p := rgbOf e
  ⟨f p.r c.r, f p.g c.g, f p.b c.b⟩

/-- The tile map over a pixel (R220). Glyph 0 is transparent (R219). -/
def safePixel (h : Nat) (z : Shot) (x y : Nat) (c : Rgb) : Rgb :=
  let cell := (Tab.get 0 z.cells (65536 * h + 120 * (y / 32) + x / 32)).toNat
  let glyph := cell % 2048
  let on := (cell / 2 ^ 15 % 2 == 0) || (z.epoch / 500000000 % 2 == 0)
  if glyph = 0 ∨ ¬ on ∨ 120 ≤ x / 32 ∨ 68 ≤ y / 32 then c
  else
    let ix := (Tab.get 0 z.glyphs (1024 * glyph + 32 * (y % 32) + x % 32)).toNat
    safeBlend (Tab.get 0 z.palettes (65536 * h + 16 * (cell / 2 ^ 11 % 16) + ix)).toNat c

/-- The system elements above the tile map (R221). -/
def State.systemElems (s : State) (h : Nat) (develop : Bool) : List Elem :=
  let r := s.activeRect h
  (if s.mode.mode = .configure then [(⟨7, [], centred r 192 32⟩ : Elem)] else []) ++
  (if s.mode.mode = .proving then [(⟨8, [], ⟨0, 0, r.x1, 32⟩⟩ : Elem)] else []) ++
  (if develop then [(⟨9, [], ⟨8, r.y1 - 40, 40, r.y1 - 8⟩⟩ : Elem)] else [])

/-! ## The final pixel -/

/-- The head's final pixel of a shot (R105, R257). -/
def State.finalPixel (s : State) (h : Nat) (develop : Bool) (z : Shot) (under : List (Nat × Nat × Nat)) (x y : Nat) : Rgb :=
  let c := safePixel h z x y (s.markPixel h z under x y (s.blendedPixel h z under x y))
  let white : Rgb := ⟨1023, 1023, 1023⟩
  let black : Rgb := ⟨0, 0, 0⟩
  (s.systemElems h develop).foldl (fun c e => drawElem white black e x y c) c

/-- The component the transmitter sends (R257). -/
def outComponent (ten limited : Bool) (v : Nat) : Nat :=
  if ten then (if limited then 64 + (876 * v + 511) / 1023 else v)
  else if limited then 16 + (219 * v + 511) / 1023 else min 255 ((v + 2) / 4)

/-- The components of a frame's pixels as the transmitter of head `h` sends them (R257). -/
def State.sentLines (s : State) (h : Nat) (develop : Bool) : List (List (Nat × Nat × Nat)) :=
  let x := s.head h
  let out := outComponent x.cfg.bpc10 x.cfg.limited
  (List.range x.cfg.vActive).map (fun y => (List.range x.cfg.hActive).map (fun px =>
    let c := s.finalPixel h develop x.cur x.underruns px y
    (out c.r, out c.g, out c.b)))

/-- The signature of a line: CRC-32 of its final pixels, 16-bit little-endian components (R305). -/
def lineSignature (pix : List Rgb) : BitVec 32 :=
  BitVec.ofNat 32 (crc32 (pix.flatMap (fun c => [c.r % 256, c.r / 256, c.g % 256, c.g / 256, c.b % 256, c.b / 256])))

/-- The signatures of every active line of a head's frame in scan-out (R305). -/
def State.signatures (s : State) (h : Nat) (develop : Bool) : List (BitVec 32) :=
  let x := s.head h
  (List.range x.cfg.vActive).map (fun y =>
    lineSignature ((List.range x.cfg.hActive).map (fun px => s.finalPixel h develop x.cur x.underruns px y)))

/-! ## The writeback tap (R266) -/

/-- Box average of one component over SX × SY pixels. -/
def boxAvg (vs : List Nat) : Nat := (vs.sum + vs.length / 2) / max vs.length 1

/-- 8-bit BT.709 limited-range YCbCr of a 10-bit full-range colour (R266). -/
def tapYuv (c : Rgb) : Nat × Nat × Nat :=
  let kr := coef12 2126 10000
  let kg := coef12 7152 10000
  let kb := coef12 722 10000
  let y12 : Int := kr * c.r + kg * c.g + kb * c.b
  let rnd := fun (n : Int) (den : Nat) => (2 * n + den) / (2 * (den : Int))
  let cu := coef12 10000 (10000 - 722)
  let cv := coef12 10000 (10000 - 2126)
  let y := 16 + rnd (219 * y12) (4096 * 1023)
  let u := 128 + rnd (112 * cu * ((c.b : Int) * 4096 - y12)) (4096 * 4096 * 1023)
  let v := 128 + rnd (112 * cv * ((c.r : Int) * 4096 - y12)) (4096 * 4096 * 1023)
  ((clampI 0 255 y).toNat, (clampI 0 255 u).toNat, (clampI 0 255 v).toNat)

/-- The reduced, converted pixel (px, py) of the recorded picture. -/
def tapPixel (pix : Nat → Nat → Rgb) (sx sy px py : Nat) : Nat × Nat × Nat :=
  let cs := (List.range sy).flatMap (fun j => (List.range sx).map (fun i => pix (sx * px + i) (sy * py + j)))
  tapYuv ⟨boxAvg (cs.map Rgb.r), boxAvg (cs.map Rgb.g), boxAvg (cs.map Rgb.b)⟩

/-- The samples of the recorded picture, W × H after reduction: luma, then chroma averaged over 2 × 2 blocks (R266). -/
def tapSamples (pix : Nat → Nat → Rgb) (sx sy w h : Nat) : List Sample :=
  let q := tapPixel pix sx sy
  let luma := (List.range h).flatMap (fun y => (List.range w).map (fun x => (⟨0, y, x, (q x y).1⟩ : Sample)))
  let chroma := fun (plane : Nat) (get : Nat × Nat × Nat → Nat) =>
    (List.range (h / 2)).flatMap (fun y => (List.range (w / 2)).map (fun x =>
      (⟨plane, y, x, (get (q (2 * x) (2 * y)) + get (q (2 * x + 1) (2 * y)) + get (q (2 * x) (2 * y + 1)) +
        get (q (2 * x + 1) (2 * y + 1)) + 2) / 4⟩ : Sample)))
  luma ++ chroma 1 (fun p => p.2.1) ++ chroma 2 (fun p => p.2.2)

end Sys2Proof.Machine
end

