-- ==== Sys2Proof/Machine/Rec.lean ====
section
/-! DEFINITION. The evidence recorder (R265 to R283). -/

namespace Sys2Proof.Machine

def State.recording (s : State) (r : Nat) : Rec := Tab.get {} s.recs r
def State.setRecording (s : State) (r : Nat) (x : Rec) : State := { s with recs := Tab.set {} s.recs r x }
def State.recCore (s : State) (k : Nat) : RecCore := Tab.get {} s.recCores k
def State.setRecCore (s : State) (k : Nat) (x : RecCore) : State := { s with recCores := Tab.set {} s.recCores k x }

/-- The modes in which recordings run (R265). -/
def recMode : Mode → Bool
  | .run | .shadow | .proving | .degraded | .safeHold => true
  | _ => false

/-- The slots of a recorder core up to now (R269). -/
def State.syncRec (s : State) (k : Nat) : State :=
  let c := s.recCore k
  s.slotsTo (unitRec k) (if c.state = 1 then .work else if c.state = 2 then .back else .front) c.why

end Sys2Proof.Machine

namespace Sys2Proof

open Machine

/-! ## Rate control (R267, R272, R273) -/

/-- The head's shortest frame period as a fraction, ns (R239, R241). -/
def HeadCfg.shortNum (c : HeadCfg) : Nat := if c.ready then (c.vActive + c.vMin) * c.hTotal * 1000000000 else c.period
def HeadCfg.shortDen (c : HeadCfg) : Nat := if c.ready then c.fpix else 1

/-- A, the per-picture allowance in bits (R272). -/
def RecCfg.allowance (c : RecCfg) (h : HeadCfg) : Nat := c.capKbps * 1000 * c.d * h.shortNum / (h.shortDen * 1000000000)

/-- C, the bucket size in bits. -/
def RecCfg.bucket (c : RecCfg) : Nat := c.capKbps * c.bucketMs

/-- Size of the recorded picture (R266). -/
def RecCfg.width (c : RecCfg) (h : HeadCfg) : Nat := h.hActive / c.sx
def RecCfg.height (c : RecCfg) (h : HeadCfg) : Nat := h.vActive / c.sy

/-- n, the CTU rows of a picture. -/
def RecCfg.ctuRows (c : RecCfg) (h : HeadCfg) : Nat := ceilDiv (c.height h) 64

/-- w, the CTUs of tile column `t` per row: uniformly spaced columns (R268). -/
def RecCfg.tileWidth (c : RecCfg) (h : HeadCfg) (t : Nat) : Nat :=
  let cols := ceilDiv (c.width h) 64
  (t + 1) * cols / c.k - t * cols / c.k

/-- S, the reserve of one row of a tile (R272). -/
def RecCfg.reserve (c : RecCfg) (h : HeadCfg) (t : Nat) : Nat := 64 + 24 * c.tileWidth h t

/-- QP of a picture at credit `K` (R272). -/
def RecCfg.qpAt (c : RecCfg) (K : Nat) : Nat :=
  let C := c.bucket
  if C ≤ 2 * K then c.qpBase else min c.qpMax (c.qpBase + ceilDiv (6 * (C - 2 * K)) C)

/-- The bits that row `row` of a tile may take (R272). -/
def RecCfg.rowAllow (c : RecCfg) (h : HeadCfg) (bp used row t : Nat) : Int :=
  (bp / c.k : Nat) - (used : Int) - ((c.ctuRows h - row - 1) * c.reserve h t : Nat)

/-- FLAGS of a picture (R276). -/
def RecPic.flags (p : RecPic) : Nat :=
  flag p.idr 0 + flag p.ltr 1 + flag (!p.exhausted.isEmpty) 2 + flag p.missed 3 + flag p.shot.traceOk 4 +
    flag p.underrun 5

end Sys2Proof

namespace Sys2Proof.Machine

/-! ## The tap (R265 to R267, R271, R274, R275) -/

/-- The samples the tap writes of head `h`'s frame in scan-out (R266). -/
def State.tapFrame (s : State) (h : Nat) (c : RecCfg) : Frame :=
  let x := s.head h
  let f : Frame :=
    { inUse := true, w := c.width x.cfg, h := c.height x.cfg, fmt := { kind := .yuv420 },
      markRec := BitVec.ofNat 16 (2 ^ h) }
  Frame.writeSamples f
    (tapSamples (fun px py => s.finalPixel h s.prot.development x.cur x.underruns px py) c.sx c.sy f.w f.h)

/-- Whether the frame in scan-out on head `h` is one that its recording takes (R267). -/
def State.recTakes (s : State) (h : Nat) : Bool :=
  let r := s.recording h
  let x := s.head h
  if x.cfg.ready then r.latches % r.cfg.d == 0
  else (((x.cur.epoch : Int) - x.cfg.t0) / (x.cfg.period : Int)) % (r.cfg.d : Int) == 0

/-- The due time of a picture: the start of scan-out of the recording's next recorded frame, at the earliest (R274). -/
def recDueOf (c : HeadCfg) (e d : Nat) : Nat :=
  (e * c.lineDen + (c.lead + c.vMin) * c.lineNum) / c.lineDen + d * c.shortNum / c.shortDen

/-- At the start of scan-out of a recorded frame: the tap writes it to a free input buffer, or, where the picture of the
frame recorded before it has not completed, it is not captured (R274). -/
def State.recCapture (s : State) (h : Nat) : State :=
  let r := s.recording h
  let x := s.head h
  if !(r.cfg.en && r.running && recMode s.mode.mode && decide (r.startAt ≤ x.cur.epoch)) then s
  else
    let takes := s.recTakes h
    let r := { r with latches := r.latches + 1 }
    if !takes then s.setRecording h r
    else
      let missed := !r.pics.isEmpty
      let idrDue := r.idrOwed || r.picCount % r.cfg.gopLen == 0
      let idr := idrDue && !missed
      let since := if idr then 0 else r.sinceIdr + 1
      let ltr := idr || (r.cfg.ltrPeriod != 0 && since % r.cfg.ltrPeriod == 0)
      let buf := r.picCount % 2
      let p : RecPic :=
        { shot := x.cur, seq := BitVec.ofNat 32 r.picCount, missed := missed, idr := idr, ltr := ltr, underrun := false,
          input := if missed then none else some buf, started := false, due := recDueOf x.cfg x.cur.epoch r.cfg.d,
          recon := 0, bp := 0, qp := 0, rows := [], used := [], exhausted := [], notUpdated := [],
          waiting := List.range r.cfg.k, saved := [], waitPage := [] }
      let r := { r with
        pics := r.pics ++ [p], picCount := r.picCount + 1, sinceIdr := since, idrOwed := idrDue && missed,
        missed := if missed then r.missed + 1 else r.missed,
        inputs := if missed then r.inputs else Tab.set {} r.inputs buf (s.tapFrame h r.cfg) }
      let s := s.setRecording h r
      if missed then s.emit .recDeadlineMiss h [] else s

/-- Underrun pixels change what the tap writes of the frame in scan-out, and its UNDERRUN flag (R254, R275). -/
def State.recUnderrun (s : State) (h : Nat) : State :=
  let r := s.recording h
  let e := (s.head h).cur.epoch
  match r.pics.find? (fun p => p.shot.epoch == e) with
  | none => s
  | some p =>
    let inputs := match p.input with
      | some b => Tab.set {} r.inputs b (s.tapFrame h r.cfg)
      | none => r.inputs
    s.setRecording h { r with
      inputs := inputs, pics := r.pics.map (fun q => if q.shot.epoch = e then { q with underrun := true } else q) }

/-! ## Starting a picture (R269 to R272) -/

/-- The core of a tile of a recording: of a picture that has started, where it started; a tile whose core has been isolated goes where the
packing now has it (R268, R419). -/
def State.recCoreOf (s : State) (r part : Nat) : Option Nat :=
  let x := s.recording r
  let core := fun (l : List (Nat × Nat)) => (l.find? (fun p => p.1 == part)).map Prod.snd
  match x.pics with
  | p :: _ =>
    match core p.cores with
    | some k => if (s.recCore k).state = 3 then core x.cores else some k
    | none => core x.cores
  | [] => core x.cores

/-- What a core without a tile in work rests as (R282, R444): stalled while a tile of its own waits for a page, or while its token is asked
for or granted and the tile not yet begun; idle otherwise. -/
def State.restRec (s : State) (k : Nat) : State :=
  let s := s.syncRec k
  let c := s.recCore k
  let page := (keys s.recs).any (fun r => match (s.recording r).pics with
    | p :: _ => p.waitPage.any (fun t => s.recCoreOf r t == some k)
    | [] => false)
  let token := s.hasToken .recorder k || s.mode.tokPending.any (fun p => p.holder == .recorder && p.unit == k)
  if c.job.isSome ∨ c.state = 3 then s
  else if page then s.setRecCore k { c with state := 2, why := 9 }
  else if token then s.setRecCore k { c with state := 2, why := 7 }
  else s.setRecCore k { c with state := 0, why := 0 }

/-- Fix the budget and QP of the oldest picture when its first tile starts (R272); its reconstruction buffer is allocated
(R271). -/
def State.beginRecPic (s : State) (r : Nat) (p : RecPic) : State :=
  let x := s.recording r
  let h := (s.head r).cfg
  let K := if p.seq = 0 then x.cfg.bucket else min x.cfg.bucket (x.credit + x.cfg.allowance h)
  let b := (freeBuf x.recon 3 0).getD 0
  let p' := { p with
    started := true, qp := x.cfg.qpAt K, bp := min K (4 * x.cfg.allowance h), recon := b, cores := x.cores,
    refs := if p.idr then [] else
      (x.recon.filter (fun f => f.2.markShort)).map (fun f => f.2.seq.toNat) ++
        (x.recon.filter (fun f => f.2.markLong)).map (fun f => f.2.seq.toNat) }
  s.setRecording r { x with
    credit := K, pics := p' :: x.pics.drop 1,
    recon := Tab.set {} x.recon b
      { inUse := true, w := x.cfg.width h, h := x.cfg.height h, seq := BitVec.ofNat 16 p.seq.toNat, markDecode := true } }

/-- Another tile waits on core `k` with an earlier due time, or an equal one and a lower recording (R269). -/
def State.recEarlier (s : State) (k r due : Nat) : Bool :=
  (keys s.recs).any (fun q =>
    match (s.recording q).pics with
    | p :: _ => (decide (p.due < due) || (p.due == due && decide (q < r))) &&
        (p.waiting ++ p.saved).any (fun t => s.recCoreOf q t == some k)
    | [] => false)

/-- A core takes a tile of the oldest picture. -/
def State.runRecPart (s : State) (r part k : Nat) : State :=
  let s := s.syncRec k
  let c := s.recCore k
  let s := s.setRecCore k { c with state := 1, job := some (r, part), why := 0, saved := c.saved.filter (fun y => y ≠ (r, part)) }
  let x := s.recording r
  match x.pics with
  | p :: t =>
    let drop := fun (l : List Nat) => l.filter (fun q => q ≠ part)
    s.setRecording r { x with
      pics := { p with waiting := drop p.waiting, saved := drop p.saved, waitPage := drop p.waitPage } :: t }
  | [] => s

/-- REC_PICTURE_START (R269): with the core's token, tile `part` of the recording's oldest picture starts, or goes on where it was
pre-empted, once no tile of earlier due time waits on the core. -/
def execRecPictureStart (t : Nat) (r : Fin 16) (part : Fin 4) (s : State) : Host.Outcome State Fault Refusal :=
  let s := s.at t
  match (s.recording r.val).pics, s.recCoreOf r.val part.val with
  | p :: _, some k =>
    let c := s.recCore k
    if c.job.isNone ∧ c.state ≠ 3 ∧ s.hasToken .recorder k ∧ (p.waiting ++ p.saved).contains part.val ∧ ¬ s.recEarlier k r.val p.due then
      let s := if p.started then s else s.beginRecPic r.val p
      .next (s.runRecPart r.val part.val k)
    else .next s
  | _, _ => .next s

/-! ## The SEI message and the index entry (R276, R278) -/

/-- `n` bytes of a number, most significant first. -/
def beBytes (n v : Nat) : List Byte := (leBytes n v).reverse

/-- Emulation prevention of a NAL unit's payload (H.265 byte stream format, as R277 has it; PRESUMED from the standard). -/
def emulationPrevent : Nat → List Byte → List Byte
  | _, [] => []
  | z, b :: t =>
    if 2 ≤ z ∧ b.toNat ≤ 3 then 3 :: b :: emulationPrevent (if b = 0 then 1 else 0) t
    else b :: emulationPrevent (if b = 0 then z + 1 else 0) t

/-- The user_data_unregistered payload of a picture (R276): UUID, then the big-endian fields. -/
def State.seiPayload (s : State) (r : Nat) (p : RecPic) : List Byte :=
  let x := s.recording r
  [0xd4, 0x3a, 0x91, 0x7c, 0x2e, 0x05, 0x4b, 0x68, 0x9f, 0x13, 0x6a, 0xc2, 0x58, 0xe0, 0x7d, 0x41] ++
    [1, BitVec.ofNat 8 r] ++ beBytes 2 p.flags ++ beBytes 4 p.seq.toNat ++ beBytes 8 p.shot.epoch ++
    beBytes 8 p.shot.lastLight ++ beBytes 4 p.shot.frameNo.toNat ++ beBytes 2 p.shot.marked ++ beBytes 2 p.shot.clean ++
    beBytes 4 (Tab.get 0 s.glb.cfgHash 0).toNat ++ [BitVec.ofNat 8 x.cfg.k, BitVec.ofNat 8 (x.cfg.ctuRows (s.head r).cfg)] ++
    [0, 0] ++ (List.range x.cfg.k).flatMap (fun t => beBytes 8 (Tab.get 0 p.notUpdated t).toNat)

/-- The prefix SEI NAL unit with its start code. -/
def State.seiNal (s : State) (r : Nat) (p : RecPic) : List Byte :=
  let d := s.seiPayload r p
  [0, 0, 0, 1, 0x4E, 0x01] ++ emulationPrevent 0 (5 :: BitVec.ofNat 8 d.length :: d ++ [0x80])

/-- The 128 bytes of an index entry (R278). -/
def indexBytes (e : RecEntry) : List Byte :=
  leBytes 4 e.seq.toNat ++ leBytes 2 e.flags ++ leBytes 1 e.qp ++ leBytes 1 e.rowsNu ++ leBytes 8 e.bsPos ++
    leBytes 4 e.size ++ leBytes 4 e.shot.frameNo.toNat ++ leBytes 8 e.shot.epoch ++ leBytes 8 e.shot.lastLight ++
    leBytes 2 e.shot.marked ++ leBytes 2 e.shot.clean ++ leBytes 4 (min e.credit 0xFFFFFFFF) ++ leBytes 8 e.done ++
    leBytes 8 0 ++ (List.range 4).flatMap (fun t => leBytes 8 (Tab.get 0 e.notUpdated t).toNat) ++ leBytes 32 0

/-- Bytes of a device page (R51). -/
def pageBytes : Nat := 2097152

/-- Write bytes into a ring that lies in the listed pool pages, from byte count `pos` on. -/
def State.ringBytes (s : State) (pages : List Nat) (pos : Nat) : List Byte → State
  | [] => s
  | b :: t =>
    let o := if pages.isEmpty then 0 else pos % (pages.length * pageBytes)
    let a := (pages[o / pageBytes]?).getD 0 * pageBytes + o % pageBytes
    (s.dramWrite a [b]).ringBytes pages (pos + 1) t

/-! ## A picture is complete (R272, R276 to R279) -/

/-- Whether a per-second event may be raised again. -/
def State.secondPassed (s : State) : Option Nat → Bool
  | some t => decide (t + 1000000000 ≤ s.now)
  | none => true

/-- Write an access unit to the bitstream ring, or leave it out up to the next IDR that fits (R277). Answers whether it was
written. -/
def State.recToRing (s : State) (r : Nat) (p : RecPic) (unit : List Byte) : State × Bool :=
  let x := s.recording r
  if !x.cfg.ring then (s, true)
  else
    let room := x.cfg.ringPages * pageBytes - (x.bsWr.toNat - x.bsRd.toNat)
    if decide (unit.length ≤ room) && (!x.dropping || p.idr) then
      let s := s.ringBytes (x.ringPool.take x.cfg.ringPages) x.bsWr.toNat unit
      (s.setRecording r { x with bsWr := x.bsWr + BitVec.ofNat 64 unit.length, dropping := false }, true)
    else
      let s := s.setRecording r { x with dropped := x.dropped + 1, dropping := true }
      (if x.dropping then s else s.emit .recRingDrop r [], false)

/-- Write an index entry, or count it lost (R278). -/
def State.recToIndex (s : State) (r : Nat) (e : RecEntry) : State :=
  let x := s.recording r
  let cap := x.cfg.idxPages * pageBytes / 128
  if (x.idxWr - x.idxRd).toNat < cap then
    let s := s.ringBytes (x.ringPool.drop (if x.cfg.ring then x.cfg.ringPages else 0)) (x.idxWr.toNat * 128) (indexBytes e)
    s.setRecording r { x with idxWr := x.idxWr + 1, index := x.index ++ [e] }
  else
    let due := s.secondPassed x.idxLostEvt
    let s := s.setRecording r { x with
      idxLost := x.idxLost + 1, idxLostEvt := if due then some s.now else x.idxLostEvt }
    if due then s.emit .recIdxLost r [] else s

/-- The number of rows a picture did not update. -/
def rowsNotUpdated (p : RecPic) : Nat :=
  (p.notUpdated.map (fun q => ((List.range 64).filter (fun i => q.2.getLsbD i)).length)).sum

/-- The reconstruction buffers after a picture: the current one becomes the short-term reference, and the long-term one where
the picture is to be it (R270, R271). -/
def reconMarks (p : RecPic) (t : Tab Frame) : Tab Frame :=
  Tab.mapAll {} (fun b f =>
    let f := if b = p.recon then { f with markDecode := false, markShort := true, markLong := p.ltr }
      else { f with markShort := false, markLong := f.markLong && !p.ltr }
    if f.isFree then {} else f) t

/-- The picture of a recording completes: credit, marks, output. `body` is the access unit after its SEI, in the byte stream
format. -/
def State.recComplete (s : State) (r : Nat) (p : RecPic) (body : List Byte) : State :=
  let x := s.recording r
  let K := x.credit - (p.used.map Prod.snd).sum
  let exh := !p.exhausted.isEmpty
  let unit := s.seiNal r p ++ body
  let v : RecUnit :=
    { idr := p.idr, poc := p.seq.toNat % 2 ^ 16, refs := p.refs, slices := x.cfg.k, light := p.shot.lastLight, bytes := unit }
  let s := s.setRecording r { x with
    credit := K, creditLast := K, rowFrom := p.rowFrom, unit := some v, pics := x.pics.drop 1, lastSeq := p.seq, recon := reconMarks p x.recon,
    inputs := match p.input with
      | some b => Tab.set {} x.inputs b {}
      | none => x.inputs,
    exhausted := if exh then x.exhausted + 1 else x.exhausted }
  let due := s.secondPassed x.exhaustedEvt
  let s := if exh && due then
      (s.setRecording r { s.recording r with exhaustedEvt := some s.now }).emit .recExhausted r
        ((p.seq.toNat : Int) :: (List.range 4).map (fun t => ((Tab.get 0 p.notUpdated t).toNat : Int)))
    else s
  let pos := (s.recording r).bsWr.toNat
  let w := s.recToRing r p unit
  let s := w.1
  let kept := w.2 && x.cfg.ring
  let e : RecEntry :=
    { seq := p.seq, flags := p.flags + flag (!w.2) 6, qp := p.qp, rowsNu := rowsNotUpdated p, bsPos := if kept then pos else 0,
      size := unit.length, shot := p.shot, credit := K, done := s.now, notUpdated := p.notUpdated }
  let s := s.recToIndex r e
  if x.cfg.rtp then
    s.setRecording r { s.recording r with rtpQueue := (s.recording r).rtpQueue ++ [v] }
  else s

/-! ## Rows (R269, R272, R273) -/

/-- The slots of a row: those spent on a discarded coding are WASTED, the others RETIRED (R269). -/
def State.recSlots (s : State) (k : Nat) (stalls : List (Nat × Nat)) (wasted : Nat) : State :=
  let u := unitRec k
  let s := s.syncRec k
  let s := stalls.foldl (fun s q => s.stallSlots u q.1 q.2) s
  let held := (s.unitSlots u).held
  let w := min wasted held
  let s := (s.setSlots u { s.unitSlots u with held := w }).endWork u false
  (s.setSlots u { s.unitSlots u with held := held - w }).endWork u true

/-- A recorder core gives up its job. -/
def State.idleRec (s : State) (k : Nat) : State :=
  let s := s.syncRec k
  let c := s.recCore k
  s.setRecCore k { c with job := none, why := 0, state := if c.state = 3 then 3 else 0 }

/-- A row of tile `t` of picture `p` is taken: kept, or replaced by filler once the tile is exhausted (R272). Bits: `coded` at
the picture's QP, `filler` as filler, at most S. A filler row copies the previous picture's, of which `prev` says where its rows come from;
in an IDR it is flat mid-grey (R273). Answers the picture, whether the row is filler, whether a coded row was discarded. -/
def takeRecRow (c : RecCfg) (h : HeadCfg) (p : RecPic) (prev : Tab Nat) (t coded filler : Nat) : RecPic × Bool × Bool :=
  let row := Tab.get 0 p.rows t
  let used := Tab.get 0 p.used t
  let was := Tab.get false p.exhausted t
  let excess := !p.missed && !was && decide (c.rowAllow h p.bp used row t < (coded : Int))
  let fill := p.missed || was || excess
  let filler := min filler (c.reserve h t)
  let from_ := if !fill then p.seq.toNat + 1 else if p.idr then 0 else Tab.get 0 prev (64 * t + row)
  let p := { p with
    rows := Tab.set 0 p.rows t (row + 1), used := Tab.set 0 p.used t (used + if fill then filler else coded),
    exhausted := if p.missed then p.exhausted else Tab.set false p.exhausted t (was || excess),
    rowFrom := Tab.set 0 p.rowFrom (64 * t + row) from_,
    notUpdated := if fill then Tab.mod 0 p.notUpdated t (fun m => m ||| BitVec.ofNat 64 (2 ^ row)) else p.notUpdated }
  (p, fill, excess)

/-- The core finishes a row of a picture (R272). -/
def State.recRow (s : State) (k r part : Nat) (p : RecPic) (coded filler : Nat) (stalls : List (Nat × Nat))
    (wasted rd wr : Nat) (body : List Byte) : State :=
  let x := s.recording r
  let h := (s.head r).cfg
  let u := unitRec k
  let q := takeRecRow x.cfg h p x.rowFrom part coded filler
  let s := s.recSlots k stalls (if q.2.2 then wasted else 0)
  let s := (((s.pmc u 1 1).pmc u 5 rd).pmc u 6 wr).pmc u 10 (b2n q.2.1)
  let p := q.1
  let s := s.setRecording r { s.recording r with pics := p :: x.pics.drop 1 }
  if Tab.get 0 p.rows part = x.cfg.ctuRows h then
    let s := (s.idleRec k).dropToken .recorder k
    let s := if p.missed && part == 0 then s.pmc u 11 1 else s
    let s := if (List.range x.cfg.k).all (fun t => Tab.get 0 p.rows t == x.cfg.ctuRows h) then (s.recComplete r p body).pmc u 2 1
      else s
    s.restRec k
  else if s.recEarlier k r p.due then
    let s := (((s.count (Reg.recPreempts k) 1).pmc u 3 1).idleRec k).dropToken .recorder k
    let s := s.setRecCore k { s.recCore k with saved := (r, part) :: (s.recCore k).saved }
    (s.setRecording r { s.recording r with pics := { p with saved := part :: p.saved } :: x.pics.drop 1 }).restRec k
  else s

/-- The instance granted a recording (R335). -/
def State.recHost (s : State) (r : Nat) : Option Nat := s.grantee (fun g => g.recGrant.getLsbD r)

/-- REC_ROW_COMPLETE (R272): `body` is the access unit after its SEI, with the row that completes the picture. -/
def execRecRowComplete (t : Nat) (k : Fin 4) (coded filler : Nat) (stalls : List (Nat × Nat)) (wasted rd wr : Nat)
    (body : List (BitVec 8)) (s : State) : Host.Outcome State Fault Refusal :=
  let s := s.at t
  let c := s.recCore k.val
  match c.job with
  | some (r, part) =>
    match (s.recording r).pics with
    | p :: _ => if c.state = 1 then .next (s.recRow k.val r part p coded filler stalls wasted rd wr body) else .next s
    | [] => .next s
  | none => .next s

/-- REC_FAULT_RESUME (R269): the page is mapped again; the tile may take up its row from the start, once its core comes to it. -/
def execRecFaultResume (t : Nat) (r : Fin 16) (part : Fin 4) (s : State) : Host.Outcome State Fault Refusal :=
  let s := s.at t
  match (s.recording r.val).pics, s.recCoreOf r.val part.val with
  | p :: ps, some k =>
    if p.waitPage.contains part.val ∧ s.vpnMapped (s.recHost r.val) p.vpn then
      let s := s.setRecording r.val { s.recording r.val with
        pics := { p with waitPage := p.waitPage.filter (fun q => q ≠ part.val), saved := part.val :: p.saved } :: ps }
      .next (s.restRec k)
    else .next s
  | _, _ => .next s

/-! ## Consumers (R277, R279) -/

/-- BS_RD_WRITE (R277): the write of the high word commits the read count unless it is beyond BS_WR or below its value. -/
def execBsRdWrite (t : Nat) (r : Fin 16) (hi : BitVec 32) (s : State) : Host.Outcome State Fault Refusal :=
  let s := s.at t
  let x := s.recording r.val
  let v := hi.toNat * 2 ^ 32 + s.reg (Reg.recBsRdLo r.val)
  let rd := if x.bsRd.toNat ≤ v ∧ v ≤ x.bsWr.toNat then BitVec.ofNat 64 v else x.bsRd
  .next ((s.setRecording r.val { x with bsRd := rd }).setReg (Reg.recBsRdLo r.val) (rd.toNat % 2 ^ 32))

/-- The NAL units of a byte stream (R277): what stands between start codes, without the zero bytes before one. `z` zero bytes and the
bytes `cur`, last first, have been read since the last one. -/
def nalSplit : Nat → List Byte → List Byte → List (List Byte)
  | _, cur, [] => if cur = [] then [] else [cur.reverse]
  | z, cur, b :: t =>
    if b = 0 then nalSplit (z + 1) cur t
    else if b = 1 ∧ 2 ≤ z then (if cur = [] then [] else [cur.reverse]) ++ nalSplit 0 [] t
    else nalSplit 0 (b :: List.replicate z 0 ++ cur) t

/-- The RTP payloads of a NAL unit (R279): the unit itself where a packet of `mtu` bytes holds it after its 12-byte header, else
fragmentation units of RFC 7798: payload header of type 49, FU header with the start and end bits and the type, a fragment. -/
def nalPayloads (mtu : Nat) (u : List Byte) : List (List Byte) :=
  if u.length + 12 ≤ mtu then [u]
  else
    let h := (u.headD 0).toNat
    let room := mtu - 15
    let d := u.drop 2
    let n := ceilDiv d.length room
    (List.range n).map (fun i =>
      [BitVec.ofNat 8 (h / 128 * 128 + 49 * 2 + h % 2), u.getD 1 0,
        BitVec.ofNat 8 ((if i = 0 then 128 else 0) + (if i + 1 = n then 64 else 0) + h / 2 % 64)] ++ (d.drop (room * i)).take room)

/-- The RTP payloads of an access unit. -/
def unitPayloads (mtu : Nat) (v : RecUnit) : List (List Byte) := (nalSplit 0 [] v.bytes).flatMap (nalPayloads mtu)

/-- Send the RTP packets of an access unit, in order, the last with the marker bit (R279). -/
def State.sendRtp (s : State) (c : RecCfg) (seq : BitVec 16) (ts : BitVec 32) : List (List Byte) → State
  | [] => s
  | p :: t => (s.send (.recRtp c.port c.dst c.udpPort c.ssrc c.pt seq ts t.isEmpty p)).sendRtp c (seq + 1) ts t

/-- REC_RTP_TRANSMIT (R279): the oldest completed access unit goes out, paced at 4 × CAP, or is not sent at all where the port cannot
queue its packets, having room for `packets` of `bytes` payload bytes in all; sequence numbers continue across it. A shadow transmits none (R292). -/
def execRecRtpTransmit (t : Nat) (r : Fin 16) (packets bytes : Nat) (s : State) :
    Host.Outcome State Fault Refusal :=
  let s := s.at t
  let x := s.recording r.val
  match x.rtpQueue with
  | v :: q =>
    let ps := unitPayloads x.cfg.mtu v
    let x' := { x with rtpQueue := q, rtpSeq := x.rtpSeq + BitVec.ofNat 16 ps.length }
    if s.now < x.rtpAt then .next s
    else if s.mode.mode = .shadow then .next (s.setRecording r.val x')
    else if ps.length ≤ packets ∧ (ps.map List.length).sum ≤ bytes ∧ ¬ s.mode.isoCore.getLsbD (22 + x.cfg.port) then
      .next ((s.setRecording r.val { x' with rtpAt := s.now + ceilDiv (v.bytes.length * 2000000) (max x.cfg.capKbps 1) }).sendRtp
        x.cfg x.rtpSeq (BitVec.ofNat 32 (v.light * 9 / 100000)) ps)
    else .next (s.setRecording r.val { x' with rtpDrop := x.rtpDrop + 1 })
  | [] => .next s

/-- A recording starts, or starts again: a new IDR, REC_SEQ from 0, a full bucket (R272, R280). -/
def State.recStart (s : State) (r : Nat) : State :=
  let x := s.recording r
  let s := (keys s.recCores).foldl (fun s k =>
    let c := s.recCore k
    match c.job with
    | some (q, _) =>
      if q = r then
        let s := (((s.syncRec k).endWork (unitRec k) false).dropToken .recorder k)
        s.setRecCore k { c with job := none, why := 0, state := if c.state = 3 then 3 else 0, saved := c.saved.filter (fun y => y.1 ≠ r) }
      else s.setRecCore k { c with saved := c.saved.filter (fun y => y.1 ≠ r) }
    | none => s.setRecCore k { c with saved := c.saved.filter (fun y => y.1 ≠ r) }) s
  let s := s.setRecording r { x with
    running := x.cfg.en, startAt := s.now, latches := 0, picCount := 0, sinceIdr := 0, idrOwed := false,
    credit := x.cfg.bucket, creditLast := 0, rowFrom := [], unit := none, pics := [], inputs := [], recon := [], bsWr := 0, bsRd := 0,
    idxWr := 0, idxRd := 0, index := [], dropping := false }
  (keys s.recCores).foldl State.restRec (s.setReg (Reg.recBsRdLo r) 0)

/-- A recording is disabled: the picture in progress completes, later ones go (R280). -/
def State.recStop (s : State) (r : Nat) : State :=
  let x := s.recording r
  s.setRecording r { x with running := false, pics := x.pics.filter (fun p => p.started) }

end Sys2Proof.Machine
end

