-- ==== Sys2Proof/Machine/StepReset.lean ====
section
/-! DEFINITION. What a step of native time does to everything that was measured in it (R57, R103, R114, R280). -/

namespace Sys2Proof.Machine

/-- A context after a step (R57): its held packets, open capture frame, jobs and frames are gone, SYNC and DECODE return to
SYNC, and its timers start again. -/
def Ctx.stepped (now : Nat) (c : Ctx) : Ctx :=
  { c with
    state := if c.state = .decode then .sync else c.state,
    held := [], nextSeq := none, newest := none, unitsOut := false, lastTs := none, open_ := none, jobs := [], picture := none,
    bufs := [], accepted := [], others := [],
    pathA := { c.pathA with lastAccept := now, newest := none },
    pathB := { c.pathB with lastAccept := now, newest := none },
    faultAt := now, ssrcLast := now,
    sr := c.sr.map (fun p => (p.1, p.2.1, now)),
    rateSecond := ceilDiv now 1000000000, rateCount := 0 }

/-- A channel after a step: its blaze checker starts again (R114) and its silence timer runs anew (R57). -/
def Chan.stepped (now : Nat) (c : Chan) : Chan :=
  { c with checker := BlazeState.start c.blaze, lastEligible := c.lastEligible.map (fun _ => now) }

/-- A head after a step: no frame is left to show and every window has no state (R57, R103). -/
def Head.stepped (h : Head) : Head :=
  { h with released := [], given := [], next := {}, cur := {}, views := [], prefetch := [], pipes := [], latched := false, lastEpoch := none }

/-- A sheet after a step: its frames and ledgers are gone (R57). -/
def Sheet.stepped (x : Sheet) : Sheet :=
  { x with released := [], composing := [], lastEpoch := none, bufs := [], ledgers := [] }

/-- A surface after a step: its frames are gone and its blaze checker starts again (R57, R114). -/
def Surface.stepped (now : Nat) (x : Surface) : Surface :=
  { x with
    bufs := [], latest := none, checker := BlazeState.start x.blaze,
    rateSecond := ceilDiv now 1000000000, rateCount := 0 }

/-- The events of contexts that a step returns to SYNC (R140). -/
def State.emitCtxSync (s : State) : List Nat → State
  | [] => s
  | c :: t => (if (s.ctx c).state = .decode then s.emit .ctxState c [CtxState.decode.code, CtxState.sync.code] else s).emitCtxSync t

/-- The first edge of the tally's grid at or after device time `a` (R441, R443); `period` in µs. -/
def tallyFrom (origin period a : Nat) : Nat :=
  if a ≤ origin then origin else origin + ceilDiv (a - origin) (period * 1000) * (period * 1000)

/-- The tally after a step: its next edge is the first of its grid at or after the new T (R57). -/
def TallyUnit.stepped (now : Nat) (y : TallyUnit) : TallyUnit := { y with next := tallyFrom y.origin y.period now }

/-- Everything a step of native time does beside moving T (R57). -/
def State.stepEffects (s : State) : State :=
  let s := s.emitCtxSync (keys s.ctxs)
  let s := (keys s.ctxs).foldl (fun s n => s.dropWork n) s
  let s := (keys s.engines).foldl (fun s e => s.freeEngine e) s
  let s := (keys s.recs).foldl (fun s r => if (s.recording r).running then s.recStart r else s) s
  let now := s.now
  { s with
    cruiseLast := min s.cruiseLast now,
    ctxs := Tab.mapAll {} (fun _ c => if c.state = .idle then { c with bufs := [] } else Ctx.stepped now c) s.ctxs,
    chans := Tab.mapAll {} (fun _ c => Chan.stepped now c) s.chans,
    heads := Tab.mapAll {} (fun _ h => Head.stepped h) s.heads,
    surfs := Tab.mapAll {} (fun _ x => Surface.stepped now x) s.surfs,
    prot := { s.prot with tally := TallyUnit.stepped now s.prot.tally },
    sheets := Tab.mapAll {} (fun _ x => Sheet.stepped x) s.sheets }

end Sys2Proof.Machine
end

