-- ==== Sys2Proof/Machine/Servo.lean ====
section
/-! DEFINITION. The time unit's own operations: re-anchoring, stepping, slewing, the servo's states, the offset samples and
the switch between domains (R55 to R71, R480). -/

namespace Sys2Proof.Machine

/-- Both domains by index: 0 A, 1 B. -/
def TimeUnit.dom (u : TimeUnit) (d : Fin 2) : Domain := if d = 0 then u.domA else u.domB

/-- Set a domain. -/
def TimeUnit.setDom (u : TimeUnit) (d : Fin 2) (x : Domain) : TimeUnit :=
  if d = 0 then { u with domA := x } else { u with domB := x }

/-- The other domain. -/
def otherDom (d : Fin 2) : Fin 2 := if d = 0 then 1 else 0

/-- DOM[d].CFG.EN (R62). -/
def State.domEn (s : State) (d : Fin 2) : Bool := bit (s.reg (Reg.ptpDomCfg d.val)) 0

/-- The RATE a servo wants: the frequency estimate with the slew in progress or, between slews, with the loop's correction, clamped as
their sum (R54). DESIGN CHOICE (log 165): the ordinary correction of R65 pauses while a difference is slewed, so that device time never
runs further from the domain than the bound of R69. -/
def wantedRate (u : TimeUnit) : Int :=
  clampI (-rateClamp) rateClamp (u.freq + if u.slewRate = 0 then u.corr else u.slewRate)

/-- Re-anchor at the current local count and apply a new RATE (R55). -/
def reanchor (u : TimeUnit) (rate : Int) : TimeUnit :=
  { u with
    offset := u.offset + BitVec.ofInt 64 (((u.lct : Int) - (u.anchor.toNat : Int)) * u.rate / (2 ^ 40 : Nat)),
    anchor := BitVec.ofNat 64 u.lct,
    rate := rate }

/-- Fold the slew made so far, so that a change of frequency does not disturb its remainder. -/
def foldSlew (u : TimeUnit) : TimeUnit :=
  { u with slewResid := slewResidual u u.lct, slewStart := u.lct }

/-- Apply what the servo wants (R55: only when RATE changes). -/
def applyRate (u : TimeUnit) : TimeUnit := if wantedRate u = u.rate then u else reanchor u (wantedRate u)

/-- The slew rate of `ppm`, in units of 2^-40. -/
def ppmRate (ppm : Nat) : Int := ((ppm * 2 ^ 40 / 1000000 : Nat) : Int)

/-- The slew rate of PTP.SWITCH_SLEW; values above 100 ppm are taken as 100 (R62). -/
def State.switchSlew (s : State) : Int := ppmRate (min (s.reg Reg.ptpSwitchSlew) 100)

/-- TIME.SLEW_CAP in ns; values above 10,000 ms are taken as 10,000 (R59). -/
def State.slewCap (s : State) : Nat := min (s.reg Reg.timeSlewCap) 10000 * 1000000

/-- Begin to slew away a difference `d` (T minus what it should be) at up to `r`: RATE falls where T is ahead. -/
def beginSlew (u : TimeUnit) (d r : Int) : TimeUnit :=
  let u := { u with slewResid := d, slewStart := u.lct, slewRate := if d = 0 then 0 else if 0 < d then -r else r }
  applyRate u

/-- End a slew (R65): SLEWING clears and RATE returns to the frequency estimate. -/
def endSlew (u : TimeUnit) : TimeUnit := applyRate { u with slewResid := 0, slewRate := 0, slewStart := u.lct }

/-- TRACE_OK after a change of the time unit (R67). -/
def State.refreshTrace (s : State) : State :=
  { s with time := { s.time with traceOk := traceCond s.time (s.reg Reg.timeTraceTol) (s.reg Reg.timeHoldoverMax) } }

/-- Step native time by `d` ns (R56, R57): STEP_COUNT, event STEP, and everything R57 releases and resets. -/
def State.stepTime (s : State) (d : Int) : State :=
  let u := s.time
  let s := s.setTime { u with
    offset := u.offset + BitVec.ofInt 64 d, stepCount := u.stepCount + 1, held := none,
    slewResid := 0, slewRate := 0, slewStart := u.lct }
  let s := s.setTime (applyRate s.time)
  (s.emit .ptpStep 0 [d]).stepEffects

/-- Set STEP_NEEDED with the difference it holds against the followed domain and its grandmaster, and raise its event (R65). -/
def State.holdDifference (s : State) (d : Int) : State :=
  (s.setTime { s.time with held := some d, heldGm := (TimeUnit.dom s.time s.time.domain).gm }).emit .ptpStepNeeded 0 [d]

/-- Correct a difference `d` as R65 gives, slewing at up to `r` outside CONFIGURE. While a difference is held, what exceeds it is
slewed, up to TIME.SLEW_CAP, and the held part waits for CONFIGURE; an excess beyond that is held with it. -/
def State.correct (s : State) (d r : Int) : State :=
  if s.mode.mode = .configure then
    if s.reg Reg.ptpLockThresh < d.natAbs then s.stepTime (-d) else s.setTime (applyRate s.time)
  else
    let excess := d - s.time.held.getD 0
    if excess.natAbs ≤ s.slewCap then s.setTime (beginSlew s.time excess r)
    else (s.setTime (endSlew s.time)).holdDifference d

/-- Move the servo to a state, with the event of R63 if it changes. -/
def State.servoTo (s : State) (x : ServoState) : State :=
  if s.time.servo = x then s
  else
    let old := s.time.servo
    let s := s.setTime { s.time with
      servo := x, lockRun := 0, unlockRun := 0,
      everLocked := s.time.everLocked || x == .locked }
    s.emit .ptpServoState 0 [old.code, x.code]

/-- The mean of the last 16 frequency estimates, or the estimate itself before any (R63, HOLD). -/
def meanFreq (u : TimeUnit) : Int :=
  if u.freqs.isEmpty then u.freq else u.freqs.sum / (u.freqs.length : Int)

/-- Enter HOLD, by loss or by command: RATE is frozen at the mean estimate, with no slew (R63). -/
def State.enterHold (s : State) (byLoss : Bool) : State :=
  let fromLocked := s.time.servo = .locked
  let u := foldSlew s.time
  let u := { u with
    freq := meanFreq u, corr := 0, slewResid := 0, slewRate := 0, holdByLoss := byLoss,
    holdFromLocked := fromLocked, holdSince := s.time.lct, adjCommitted := false, gmChanged := false }
  (s.setTime (applyRate u)).servoTo .hold

/-- The domain followed on entering ACQUIRE from FREE or HOLD (R64). -/
def State.acquireChoice (s : State) : Fin 2 :=
  if s.domEn 0 && s.time.domA.valid then 0 else 1

/-- Enter ACQUIRE, or stay there, following a domain (R64); a difference held against another domain is dropped (R65), and the run
of samples within the threshold starts afresh. -/
def State.enterAcquire (s : State) (d : Fin 2) : State :=
  let u := s.time
  let held := if u.domain = d then u.held else none
  (s.setTime { u with domain := d, held := held, corr := 0, gmChanged := false, lockRun := 0, unlockRun := 0 }).servoTo .acquire

/-- Whether a domain is STABLE (R480): 16 consecutive valid samples, each within the threshold of their least-squares
line, all in exact integer arithmetic. -/
def stableSamples (xs : List (Int × Int)) (thresh : Nat) : Bool :=
  if xs.length < 16 then false
  else
    let n : Int := (xs.length : Int)
    let st := (xs.map (fun p => p.1)).sum
    let so := (xs.map (fun p => p.2)).sum
    let stt := (xs.map (fun p => p.1 * p.1)).sum
    let sto := (xs.map (fun p => p.1 * p.2)).sum
    let det := n * stt - st * st
    if det = 0 then xs.all (fun p => decide ((n * p.2 - so).natAbs ≤ n.natAbs * thresh))
    else xs.all (fun p =>
      decide ((p.2 * det - ((so * stt - st * sto) + (n * sto - st * so) * p.1)).natAbs ≤ thresh * det.natAbs))

/-- DOM[d].STATE.STABLE (R62, R480). -/
def State.domStable (s : State) (d : Fin 2) : Bool :=
  stableSamples (TimeUnit.dom s.time d).samples (s.reg Reg.ptpLockThresh)

/-- Follow the other domain at once (R70, R71): the event carries the difference D, which is judged afresh. -/
def State.switchDomain (s : State) (d : Fin 2) : State :=
  let diff := (TimeUnit.dom s.time d).off
  let s := s.setTime { s.time with
    domain := d, held := none, lockRun := 0, unlockRun := 0, corr := 0, gmChanged := false,
    slewResid := 0, slewRate := 0 }
  (s.emit .ptpDomainSwitch 0 [diff]).correct diff s.switchSlew

/-- Run the loop once: a new frequency estimate, which the spec does not give, and in LOCKED a correction of at most
PTP.SWITCH_SLEW (R65). -/
def State.runLoop (s : State) : State :=
  let u := foldSlew s.time
  let f := clampI (-rateClamp) rateClamp (Config.servoFreq u.fresh)
  let c := if u.servo = .locked then clampI (-s.switchSlew) s.switchSlew (Config.servoCorrection u.fresh) else 0
  s.setTime (applyRate { u with freq := f, freqs := (f :: u.freqs).take 16, corr := c, fresh := u.fresh + 1 })

/-- Keep the samples of a domain, and since when it has been STABLE with the same grandmaster (R70, R480). -/
def State.recordSample (s : State) (d : Fin 2) (off : Int) : State :=
  let x := TimeUnit.dom s.time d
  let x := { x with off := off, valid := true, samples := (((s.now : Int), off) :: x.samples).take 16 }
  let stable := stableSamples x.samples (s.reg Reg.ptpLockThresh)
  let x := { x with stableSince := if stable then some (x.stableSince.getD s.time.lct) else none }
  s.setTime (TimeUnit.setDom s.time d x)

/-- One sample of the followed domain in ACQUIRE: the lock rule, then the correction (R63, R65). -/
def State.sampleAcquire (s : State) (off : Int) : State :=
  let run := if off.natAbs ≤ s.reg Reg.ptpLockThresh then s.time.lockRun + 1 else 0
  let s := (s.setTime { s.time with lockRun := run }).runLoop
  if 16 ≤ run then s.servoTo .locked else s.correct off rateClamp

/-- One sample of the followed domain in LOCKED: a grandmaster's difference, or the unlock rule (R63, R65). -/
def State.sampleLocked (s : State) (d : Fin 2) (off : Int) : State :=
  if s.time.gmChanged then
    (s.setTime { s.time with gmChanged := false }).runLoop.correct off s.switchSlew
  else
    let rest := off - slewResidual s.time s.time.lct - s.time.held.getD 0
    let run := if s.reg Reg.ptpUnlockThresh < rest.natAbs then s.time.unlockRun + 1 else 0
    let s := (s.setTime { s.time with unlockRun := run }).runLoop
    if run < 4 then s
    else if s.domEn (otherDom d) && s.domStable (otherDom d) then s.switchDomain (otherDom d)
    else s.enterAcquire d

/-- A valid offset sample of domain `d` (SERVO_SAMPLE, R63). -/
def State.servoSample (s : State) (d : Fin 2) (off : Int) : State :=
  let s := s.recordSample d off
  if !s.domEn d then s.refreshTrace
  else
    let s :=
      match s.time.servo with
      | .free => s.enterAcquire s.acquireChoice
      | .hold => if s.time.holdByLoss then s.enterAcquire s.acquireChoice else s
      | _ => s
    let s :=
      if s.time.domain = d then
        match s.time.servo with
        | .acquire => s.sampleAcquire off
        | .locked => s.sampleLocked d off
        | _ => s
      else s
    s.refreshTrace

/-- A grandmaster selected for the followed domain drops a difference held against another one, also across a loss of the domain
(R65). -/
def State.dropHeld (s : State) (d : Fin 2) (gm : BitVec 64) : State :=
  if s.time.domain = d ∧ s.time.heldGm ≠ gm then s.setTime { s.time with held := none } else s

/-- A change of the followed grandmaster while LOCKED (R63, R65). -/
def State.gmChange (s : State) (d : Fin 2) : State :=
  if s.time.servo = .locked ∧ s.time.domain = d then
    if s.domEn (otherDom d) && s.domStable (otherDom d) then s.switchDomain (otherDom d)
    else s.setTime { s.time with held := none, gmChanged := true, unlockRun := 0 }
  else if s.time.domain = d then s.setTime { s.time with held := none }
  else s

/-- The Announce receipt timeout of a domain's profile, ns: three Announce intervals of 2 s (default profile) or of 250 ms
(ST 2059-2). -/
def State.announceTimeout (s : State) (d : Fin 2) : Nat :=
  if bits (s.reg (Reg.ptpDomCfg d.val)) 3 2 = 1 then 750000000 else 6000000000

/-- The servo's answer to the loss of domain `d` (R63, R64). Masters whose Announce receipt timeout has expired are forgotten; with
none left STATE shows no grandmaster and port 0. -/
def State.loseDomain (s : State) (d : Fin 2) : State :=
  let x := TimeUnit.dom s.time d
  let ms := x.masters.filter (fun m => s.time.lct ≤ m.heard + s.announceTimeout d)
  let s := s.setTime (TimeUnit.setDom s.time d { x with
    valid := false, samples := [], stableSince := none, masters := ms, gm := if ms.isEmpty then 0 else x.gm,
    port := if ms.isEmpty then 0 else x.port })
  let o := otherDom d
  let otherValid := s.domEn o && (TimeUnit.dom s.time o).valid
  let s :=
    if s.time.domain = d then
      match s.time.servo with
      | .acquire => if otherValid then s.enterAcquire o
          else if s.time.everLocked then s.enterHold true else s.servoTo .free
      | .locked =>
          if s.domEn o && s.domStable o then s.switchDomain o
          else if otherValid then s.enterAcquire o
          else s.enterHold true
      | _ => s
    else s
  s.refreshTrace

end Sys2Proof.Machine
end

