-- ==== Sys2Proof/Machine/Ingest.lean ====
section
/-! DEFINITION. Network stream ingest: classification, the RTP checks, merging, reassembly, capture time (R125 to R141). -/

namespace Sys2Proof.Machine

/-! ## Capture time (R138, R139) -/

/-- TRACKED domain `d` passes the domain check of a declaration (R138). -/
def State.domainPasses (s : State) (x : NetDecl) (d : Fin 2) : Bool :=
  let m := TimeUnit.dom s.time d
  s.domEn d && bits (s.reg (Reg.ptpDomCfg d.val)) 15 8 == x.domainNumber.toNat && m.valid && s.domStable d &&
    (x.gmAny || m.gm == x.gm)

/-- A tracked domain has the declared number. -/
def State.domainNamed (s : State) (x : NetDecl) (d : Fin 2) : Bool :=
  s.domEn d && bits (s.reg (Reg.ptpDomCfg d.val)) 15 8 == x.domainNumber.toNat

/-- The tracked domain `d` of a declaration (R138): the one with its number, of two the one whose check passes. -/
def State.checkDomain (s : State) (x : NetDecl) : Option (Fin 2) :=
  if s.domainPasses x 0 then some 0 else if s.domainPasses x 1 then some 1
  else if s.domainNamed x 0 then some 0 else if s.domainNamed x 1 then some 1 else none

/-- OFF of a domain as the derivations use it: 0 for the followed one. -/
def State.domOff (s : State) (d : Fin 2) : Int :=
  if s.time.servo != .free && s.time.domain == d then 0 else (TimeUnit.dom s.time d).off

/-- The capture time of DIRECT mode, µs (R138). -/
def directCapture (arrvUs : Nat) (off : Int) (ofs ts : BitVec 32) : Int :=
  let a : Int := (arrvUs * 1000 : Nat) - off
  let tau := a * 90000 / 1000000000
  let k := (tau + ofs.toNat - ts.toNat) % (2 ^ 32 : Nat)
  ((tau - k) * 100000 + 9 * off) / 9000

/-- Seconds from the NTP epoch (1900) to the PTP epoch (1970). -/
def ntpToPtp : Int := 2208988800

/-- The capture time of SR mode, µs: N in ns of the NTP time scale is converted to TAI (R138). -/
def srCapture (n utc : Int) (r ts : BitVec 32) : Int :=
  let tai := n + (utc - ntpToPtp) * 1000000000
  (tai * 9 + (ts - r).toInt * 100000) / 9000

/-- Whether a sender report no older than SR_MAX_AGE is held. -/
def State.srHeld (s : State) (c : Ctx) (x : NetDecl) : Bool :=
  match c.sr with
  | some p => !c.srExpired && decide (s.now ≤ p.2.2 + x.srMaxAge * 1000000000)
  | none => false

/-- A capture time, µs, as the machine keeps it: one before the origin of device time wraps as the 40-bit CAPT does (R83). -/
def captUs (x : Int) : Nat := if x < 0 then (x % 2 ^ 40).toNat else x.toNat

/-- Capture time in µs, the source-side verdict, the tracked domain used (R138). The derivations of DIRECT and SR use the tracked domain
of the declared number, whether or not its check passes; the check alone makes the verdict. DESIGN CHOICE (log 170): where no tracked
domain has the number, the derivations have no domain `d`, and C := ARRV. -/
def State.capture (s : State) (c : Ctx) (x : NetDecl) (ts : BitVec 32) (arrvUs : Nat) : Nat × Bool × Option Nat :=
  match s.checkDomain x with
  | none => (arrvUs, false, none)
  | some d =>
    let ok := s.domainPasses x d
    let used := if ok then some d.val else none
    match x.clockMode, c.sr with
    | 1, _ => (captUs (directCapture arrvUs (s.domOff d) x.mclkOfs ts), ok, used)
    | 2, some p =>
      if s.srHeld c x then (captUs (srCapture p.1 (TimeUnit.dom s.time d).utc p.2.1 ts), ok, used)
      else (arrvUs, false, none)
    | _, _ => (arrvUs, false, none)

/-- SRC_TRACE follows the verdict of the latest access unit; a change raises its event (R139). -/
def State.sourceTrace (s : State) (n : Nat) (ok : Bool) (d : Option Nat) : State :=
  let c := s.ctx n
  let s := s.setCtx n { c with srcTrace := ok, clkDomain := d.getD c.clkDomain }
  if c.srcTrace = ok then s
  else s.emit (if ok then .ctxClockTrace else .ctxClockUntrace) n [(d.getD c.clkDomain : Nat)]

/-! ## NAL units of an access unit (R134) -/

/-- The whole NAL units of packets in sequence order, with their bytes: a NAL unit with a missing fragment is left out.
`prev` is the last sequence number and `cur` the bytes of the fragment in progress. -/
def wholeNals : Option Int → Option (List (BitVec 8)) → List (Int × List NalPiece) → List (Nal × List (BitVec 8))
  | _, _, [] => []
  | prev, cur, (q, ps) :: t =>
    let cur := if prev = some (q - 1) then cur else none
    let step := fun (a : Option (List (BitVec 8)) × List (Nal × List (BitVec 8))) (p : NalPiece) =>
      match p.first, p.last, a.1 with
      | true, true, _ => (none, a.2 ++ [(p.nal, p.bytes)])
      | true, false, _ => (some p.bytes, a.2)
      | false, true, some b => (none, a.2 ++ [(p.nal, b ++ p.bytes)])
      | false, false, some b => (some (b ++ p.bytes), a.2)
      | false, _, none => (none, a.2)
    let r := ps.foldl step (cur, [])
    r.2 ++ wholeNals (some q) r.1 t

/-! ## What the parameter sets say (R130, R141, R173, R193) -/

/-- A parameter set or picture timing message beyond the declaration (R141). -/
def nalMismatch (x : NetDecl) : Nal → Bool
  | .fieldPicStruct => true
  | .paramSet p =>
    p.fieldCoded || p.codec != x.codec || decide (x.w < p.width) || decide (x.h < p.height) ||
      decide (x.profile < p.profile) || decide (x.level < p.level) || p.highTier || (p.tenBit && !x.tenBit) ||
      p.chroma422 != x.chroma422
  | _ => false

/-- An access unit at which decode can begin: an IRAP picture, or a recovery point, with its parameter sets (R140). -/
def beginsDecode (nals : List Nal) : Bool :=
  nals.any (fun n => match n with
    | .paramSet _ => true
    | _ => false) &&
  nals.any (fun n => match n with
    | .slice irap => irap
    | .recovery _ => true
    | _ => false)

/-- Decode begins at a recovery point, not at an IRAP picture. -/
def beginsAtRecovery (nals : List Nal) : Bool :=
  !nals.any (fun n => match n with
    | .slice irap => irap
    | _ => false)

/-! ## Forwarding (R134, R141) -/

/-- CRC-32 of bytes, as R160 computes it. -/
def crcBytes (b : List (BitVec 8)) : BitVec 32 := BitVec.ofNat 32 (crc32 (b.map BitVec.toNat))

/-- Put an access unit on the decode queue of a context in DECODE; the active device of a pair sends its manifest entry, which
fixes TRACE_OK for the frame (R180, R299). -/
def State.queueUnit (s : State) (n : Nat) (u : AccessUnit) : State :=
  let u := { u with
    traceFixed := match u.traceFixed with
    | some b => some b
    | none => s.pairTrace }
  let c := s.ctx n
  let s := s.setCtx n { c with jobs := c.jobs ++ [u] }
  let m := { Manifest.blank 0 n with
    partial_ := u.partial_, srcTrace := u.srcTrace, traceOk := s.time.traceOk, arrv := u.arrv % 2 ^ 40,
    capt := u.capt % 2 ^ 40, first := u.first, count := u.present.length, present := u.present,
    digest := crcBytes u.bytes }
  s.sendUnit m (u.nals, u.bytes)

/-- Forward an access unit: in SYNC it is only examined, and moves the context to DECODE if decode can begin with it (R140). -/
def State.forwardUnit (s : State) (n : Nat) (x : NetDecl) (u : AccessUnit) : State :=
  match (s.ctx n).state with
  | .sync =>
    if u.nals.any (nalMismatch x) then s.ctxFault n .formatMismatch
    else if beginsDecode u.nals then
      let s := s.setCtx n { s.ctx n with awaitRecovery := beginsAtRecovery u.nals }
      (s.ctxTo n .decode).queueUnit n u
    else s
  | .decode => s.queueUnit n u
  | _ => s

/-- Units that may be forwarded in one second of device time (R141). -/
def rateLimit (num den : Nat) : Nat := ceilDiv (21 * num) (20 * den) + 1

/-- Count a unit at its forwarding instant; whether it is beyond the limit of R141. -/
def State.overrate (s : State) (n num den : Nat) : State × Bool :=
  let c := s.ctx n
  let sec := s.now / 1000000000
  let w := countWindow (c.rateSecond, c.rateCount) sec
  (s.setCtx n { c with rateSecond := w.1, rateCount := w.2 },
   decide (rateLimit num den ≤ windowCount (c.rateSecond, c.rateCount) sec))

/-- The next access unit held, in sequence order (R134): its packets, its last sequence number, and whether it is complete. -/
structure HeadUnit where
  mine : List Held
  last : Int
  complete : Bool
  /-- the packet that ends it is known -/
  endKnown : Bool

/-- The packets of the first access unit of an ordered list: one time-stamp, up to a marker. -/
def unitPrefix (ts : BitVec 32) : List Held → List Held
  | [] => []
  | h :: t => if h.ts = ts then (if h.marker then [h] else h :: unitPrefix ts t) else []

/-- The access unit at the front of the packet buffer. -/
def headUnit (c : Ctx) : Option HeadUnit :=
  match c.held with
  | [] => none
  | h :: _ =>
    let mine := unitPrefix h.ts c.held
    let l := mine.getLast?.getD h
    let next := (c.held.drop mine.length).head?
    let known := l.marker || (match next with
      | some x => x.seq == l.seq + 1
      | none => false)
    let last := match l.marker, next with
      | false, some x => x.seq - 1
      | _, _ => l.seq
    some ⟨mine, last, known && c.nextSeq == some h.seq && decide ((mine.length : Int) = last - h.seq + 1), known⟩

/-- The arrival of a unit: the earliest ingress stamp among its packets (R133), ns. -/
def unitArrival (l : List Held) (d : Nat) : Nat := l.foldl (fun a h => min a h.at_) d

/-- Count a unit as it is forwarded (R134, R437): the `missing` sequence numbers forwarded past, and whether it is complete. -/
def State.countUnit (s : State) (n missing : Nat) (complete : Bool) : State :=
  let c := s.ctx n
  let s := s.setCtx n { c with
    lost := c.lost + BitVec.ofNat 32 missing, auDone := if complete then c.auDone + 1 else c.auDone,
    auPartial := if complete then c.auPartial else c.auPartial + 1 }
  match c.ch with
  | some ch =>
    let s := if missing = 0 then s else s.chCount ch 19 missing
    if complete then s else s.chCount ch 18 1
  | none => s

/-- Forward the access unit at the front of the buffer and count what is missing (R134); a unit beyond the rate of R141 is not
forwarded. -/
def State.emitUnit (s : State) (n : Nat) (x : NetDecl) (u : HeadUnit) : State :=
  let r := s.overrate n x.num x.den
  if r.2 then r.1.ctxFault n .overrate
  else
  let s := r.1
  let c := s.ctx n
  let h0 := (u.mine.head?.map (fun h => h.at_)).getD 0
  let ts := (u.mine.head?.map (fun h => h.ts)).getD 0
  let first := c.nextSeq.getD 0
  let arrv := unitArrival u.mine h0 / 1000
  let missing := ((u.last - first + 1) - u.mine.length).toNat
  let rest := c.held.drop u.mine.length
  let s := s.setCtx n { c with
    held := rest, unitsOut := true, nextSeq := some (u.last + 1),
    lastTs := if u.endKnown || !rest.isEmpty then none else some ts }
  let s := s.countUnit n missing u.complete
  let cap := s.capture c x ts arrv
  let s := s.sourceTrace n cap.2.1 cap.2.2
  let nals := wholeNals none none (u.mine.map (fun h => (h.seq, h.pieces)))
  let len := (u.last - first + 1).toNat
  s.forwardUnit n x
    { arrv := arrv, capt := cap.1, srcTrace := cap.2.1, partial_ := !u.complete, nals := nals.map Prod.fst,
      bytes := nals.flatMap Prod.snd, first := first,
      present := (List.range len).map (fun (i : Nat) => u.mine.any (fun h => h.seq == first + (i : Int))), traceFixed := none }

/-- Forward every access unit that is complete or past its deadline, in sequence order (R134). `fuel` is at least the number
of packets held. -/
def State.advance (s : State) (n : Nat) (x : NetDecl) : Nat → State
  | 0 => s
  | fuel + 1 =>
    let c := s.ctx n
    if c.state = .sync ∨ c.state = .decode then
      match headUnit c with
      | none => s
      | some u =>
        let d := unitArrival u.mine ((u.mine.head?.map (fun h => h.at_)).getD 0) + x.holdoff * 1000
        if u.complete || decide (d ≤ s.now) then (s.emitUnit n x u).advance n x fuel else s
    else s

/-! ## Manifest entries of network contexts on the shadow of a pair (R301, R304) -/

/-- Whether an entry's unit holds the packet at place `i` of its span. -/
def entryHas (m : Manifest) (i : Nat) : Bool := !m.partial_ || (m.present[i]?).getD false

/-- The held packets of an entry's unit. -/
def entryPackets (c : Ctx) (m : Manifest) : List Held :=
  c.held.filter (fun h => decide (m.first ≤ h.seq) && decide (h.seq < m.first + m.count) && entryHas m (h.seq - m.first).toNat)

/-- The whole NAL units of an entry's unit from the device's own packets, and their bytes. -/
def entryNals (c : Ctx) (m : Manifest) : List Nal × List (BitVec 8) :=
  let l := wholeNals none none ((entryPackets c m).map (fun h => (h.seq, h.pieces)))
  (l.map Prod.fst, l.flatMap Prod.snd)

/-- The unit as the device's own packets give it; none where packets lack or its CRC differs from DIGEST (R304). -/
def ownUnit (c : Ctx) (m : Manifest) : Option (List Nal × List (BitVec 8)) :=
  let l := entryPackets c m
  let all := (List.range m.count).all (fun (i : Nat) => !entryHas m i || l.any (fun h => h.seq == m.first + (i : Int)))
  let u := entryNals c m
  if all && crcBytes u.2 == m.digest then some u else none

/-- An entry has been applied: its MSEQ is the last one (R310, R315). -/
def State.entryApplied (s : State) (m : Manifest) : State :=
  let p := s.pair
  { s with
    pair := { p with
    mseq := Tab.set 0 p.mseq (mseqKey m.kind m.index) m.mseq, mseqRx := p.mseqRx + 1,
    fills := p.fills.filter (fun w => !(w.entry.kind == m.kind && w.entry.index == m.index && w.entry.mseq == m.mseq)) } }

/-- The sequence numbers that forwarding up to `last` passes which the context never accepted (R134). -/
def neverAccepted (c : Ctx) (first last : Int) : Nat :=
  let a := min (c.nextSeq.getD first) last
  ((List.range (last - a + 1).toNat).filter (fun (i : Nat) => !c.accepted.any (fun p => p.1 == a + (i : Int)))).length

/-- Forward an access unit as its entry says: ARRV, C, the trace flags and the bitmap are the entry's (R301). -/
def State.applyUnit (s : State) (x : NetDecl) (m : Manifest) (part : Bool) (present : List Bool)
    (u : List Nal × List (BitVec 8)) : State :=
  let n := m.index
  let s := s.entryApplied m
  let c := s.ctx n
  let s := s.setCtx n { c with
    held := c.held.filter (fun h => decide (m.first + m.count ≤ h.seq)), nextSeq := some (m.first + m.count), unitsOut := true }
  let s := s.countUnit n (neverAccepted c m.first (m.first + m.count - 1)) (!part)
  let s := s.sourceTrace n m.srcTrace none
  s.forwardUnit n x
    { arrv := s.untagUs m.arrv, capt := s.untagUs m.capt, srcTrace := m.srcTrace, partial_ := part, nals := u.1,
      bytes := u.2, first := m.first, present := present, traceFixed := some m.traceOk }

/-- A change of SSRC: reassembly and capture-time derivation start again and the context returns to SYNC (R128). -/
def State.takeSsrc (s : State) (n : Nat) (q : Option (BitVec 32)) : State :=
  let s := s.ctxResync n
  s.setCtx n { s.ctx n with ssrc := q, others := [], sr := none, srExpired := false }

/-- A context action at its position (R299, R301): 1 RESYNC, 2 SSRC change, 3 FAULT with its code. DESIGN CHOICE (log 171): the entry
names no SSRC, so after a change the context takes the other SSRC it heard last, or else that of its next packet. -/
def State.applyAction (s : State) (m : Manifest) : State :=
  let s := s.entryApplied m
  match m.op with
  | 1 => (s.emit .ctxResync m.index []).ctxResync m.index
  | 2 => s.takeSsrc m.index ((s.ctx m.index).others.head?.map Prod.fst)
  | 3 => s.ctxFault m.index (match m.code with
    | 1 => .formatMismatch
    | 2 => .overrate
    | _ => .pool)
  | _ => s

/-- The bitmap of all the packets an entry names. -/
def entryBitmap (m : Manifest) : List Bool := (List.range m.count).map (entryHas m)

/-- Apply the entries of context `n` that wait, in their order, as far as their bytes are at hand. `fuel` is at least their number. -/
def State.runEntries (s : State) (n : Nat) (x : NetDecl) : Nat → State
  | 0 => s
  | fuel + 1 =>
    match s.pair.fills.find? (fun w => w.entry.kind != 2 && w.entry.index == n) with
    | none => s
    | some w =>
      if w.entry.kind = 3 then (s.applyAction w.entry).runEntries n x fuel
      else
        let own := ownUnit (s.ctx n) w.entry
        match (match w.content with
          | some u => some u
          | none => own) with
        | some u => (s.applyUnit x w.entry w.entry.partial_ (entryBitmap w.entry) u).runEntries n x fuel
        | none => s

/-- Forward what can be forwarded; a shadow that follows manifests forwards nothing by its own timing (R301). -/
def State.runIngest (s : State) (n : Nat) (x : NetDecl) : State :=
  if s.pairFollows then s.runEntries n x (s.pair.fills.length + 1) else s.advance n x ((s.ctx n).held.length + 1)

/-! ## Receiving a packet (R126 to R137) -/

end Sys2Proof.Machine

namespace Sys2Proof

/-- A path of a declaration. -/
def NetDecl.path (x : NetDecl) (p : Nat) : PathCfg := if p = 0 then x.pathA else x.pathB

end Sys2Proof

namespace Sys2Proof.Machine

/-- A flow entry matches a datagram (R126). -/
def flowMatches (p : PathCfg) (port : Nat) (f : EthFrame) : Bool :=
  p.en && p.port == port && p.ipv6 == f.ipv6 && p.dst == f.dst && p.udpPort == f.udpPort && (!p.srcFilt || p.src == f.src)

/-- The context and path whose flow entry matches a datagram (R126). -/
def State.flowOf (s : State) (port : Nat) (f : EthFrame) : Option (Nat × Nat) :=
  (keys s.ctxs).findSome? (fun n =>
    let c := s.ctx n
    match c.state, c.decl with
    | .idle, _ => none
    | _, some (.net d) =>
      if flowMatches d.pathA port f then some (n, 0) else if flowMatches d.pathB port f then some (n, 1) else none
    | _, _ => none)

/-- Some started context's enabled path names the port. -/
def State.portNamed (s : State) (port : Nat) : Bool :=
  s.ctxs.any (fun p => p.2.state != .idle && match p.2.decl with
    | some (.net d) => (d.pathA.en && d.pathA.port == port) || (d.pathB.en && d.pathB.port == port)
    | _ => false)

/-- Whether an Ethernet port is enabled (R478): an admitted setting names it, or it is ETH 0 in RECOVERY. -/
def State.portEnabled (s : State) (port : Nat) : Bool :=
  !s.mode.isoCore.getLsbD (22 + port) && (s.portNamed port ||
    ([0, 1] : List (Fin 2)).any (fun d => s.domEn d && bit (bits (s.reg (Reg.ptpDomCfg d.val)) 27 24) port) ||
    s.recs.any (fun p => p.2.cfg.en && p.2.cfg.rtp && p.2.cfg.port == port) || s.udpPorts.getLsbD port ||
    (s.mode.mode == .recovery && port == 0))

/-- Tokens held now: the steady claims and the grants (R429, R434). -/
def State.tokensHeld (s : State) : Nat :=
  44 + 2 * (s.heads.filter (fun p => p.2.state == .starting || p.2.state == .run)).length +
    ((List.range 4).filter (fun p => s.portEnabled p)).length + (s.mode.tokHeld.map (fun p => p.2.2)).foldl (· + ·) 0

/-- The peak of the tokens held follows them (R434). -/
def State.notePeak (s : State) : State := s.setMode { s.mode with tokPeak := max s.mode.tokPeak s.tokensHeld }

/-- Extend a 16-bit sequence number around the newest one (R131). -/
def extendSeq (newest : Option Int) (q : BitVec 16) : Int :=
  match newest with
  | none => q.toNat
  | some n => n + (q - BitVec.ofInt 16 n).toInt

end Sys2Proof.Machine

namespace Sys2Proof

/-- Live state of a path. -/
def Ctx.path (c : Ctx) (p : Nat) : PathState := if p = 0 then c.pathA else c.pathB

/-- Set the live state of a path. -/
def Ctx.setPath (c : Ctx) (p : Nat) (x : PathState) : Ctx := if p = 0 then { c with pathA := x } else { c with pathB := x }

end Sys2Proof

namespace Sys2Proof.Machine

/-- Insert a held packet in sequence order. -/
def insertHeld (h : Held) : List Held → List Held
  | [] => [h]
  | x :: t => if h.seq < x.seq then h :: x :: t else x :: insertHeld h t

/-- The capacity of a context's packet buffer, bytes (R137). -/
def bufferCapacity (x : NetDecl) : Nat := ceilDiv (125 * x.kbps * (x.holdoff + 100000)) (1000000 * 2097152) * 2097152

/-- Count one packet discarded in DISCARD. -/
def State.discardPacket (s : State) (n : Nat) : State :=
  s.setCtx n { s.ctx n with discard := (s.ctx n).discard + 1 }

/-- A jump resynchronises the context (R136). -/
def State.resync (s : State) (n : Nat) : State :=
  let s := (s.sendAction n 1 0).emit .ctxResync n []
  let s := match (s.ctx n).ch with
    | some ch => s.chCount ch 15 1
    | none => s
  s.ctxResync n

/-- Whether sequence number `e` from path `p` resynchronises the context (R136). -/
def jumps (c : Ctx) (p : Nat) (e : Int) : Bool :=
  (match c.newest with
    | some n => decide (1000 < e - n)
    | none => false) ||
  (match (Ctx.path c p).newest, c.nextSeq with
    | some o, some k => c.unitsOut && decide (e < k) && decide (1000 < o - e)
    | _, _ => false)

/-- Place an accepted packet: duplicate, late, overflow or held (R131, R135 to R137). -/
def State.placePacket (s : State) (n p : Nat) (x : NetDecl) (r : Rtp) (e : Int) (stamp : Nat) : State :=
  let c := s.ctx n
  match c.accepted.find? (fun a => a.1 == e) with
  | some a =>
    let s := s.setCtx n { c with dup := c.dup + 1 }
    if a.2.1 = 2 ∨ a.2.1 = p then s
    else
      let d : Int := if p = 1 then (stamp : Int) - a.2.2 else (a.2.2 : Int) - stamp
      let c := s.ctx n
      s.setCtx n { c with
        skews := (d :: c.skews).take 64,
        accepted := c.accepted.map (fun y => if y.1 = e then (y.1, 2, y.2.2) else y) }
  | none =>
      let late := match c.nextSeq with
      | some k => decide (e < k) && c.unitsOut
      | none => false
    let tail := c.lastTs == some r.ts && !c.held.any (fun h => decide (h.seq < e))
    if late || tail then s.setCtx n { c with late := c.late + 1 }
    else if bufferCapacity x < (c.held.map (fun h => h.len)).sum + r.payloadLen then
      let s := s.setCtx n { c with overflow := c.overflow + 1 }
      let due := match c.overflowEvt with
        | some t => decide (t + 1000000000 ≤ s.now)
        | none => true
      if due then (s.setCtx n { s.ctx n with overflowEvt := some s.now }).emit .ctxOverflow n [] else s
    else
      let h : Held := ⟨e, r.ts, r.marker, r.payloadLen, stamp, r.pieces⟩
      let y := Ctx.path c p
      let c := Ctx.setPath c p { y with pkts := y.pkts + 1, newest := some (max e (y.newest.getD e)) }
      s.setCtx n { c with
        held := insertHeld h c.held, accepted := (e, p, stamp) :: c.accepted,
        nextSeq := some (match c.nextSeq with
          | some k => if e < k then e else k
          | none => e),
        newest := some (max e (c.newest.getD e)) }

/-- A path's accepted packet brings it UP (R132). -/
def State.pathAlive (s : State) (n p : Nat) : State :=
  let c := s.ctx n
  let y := Ctx.path c p
  let s := s.setCtx n (Ctx.setPath c p { y with up := true, lastAccept := s.now })
  if y.up then s else s.emit .ctxPathUp n [p]

/-- The SSRC a packet is judged by (R128): whether it is accepted, after a change of SSRC where one is taken. -/
def State.checkSsrc (s : State) (n : Nat) (x : NetDecl) (q : BitVec 32) : State × Bool :=
  let c := s.ctx n
  if x.ssrcCfg ≠ 0 then (s, x.ssrcCfg == q)
  else match c.ssrc with
    | none => (s.setCtx n { c with ssrc := some q }, true)
    | some cur =>
      if cur = q then (s, true)
      else
        let o := (q, s.now) :: c.others.filter (fun a => a.1 != q && decide (s.now ≤ a.2 + 2000000000))
        if c.ssrcLast + 2000000000 ≤ s.now ∧ o.length = 1 ∧ ¬ s.pairFollows then
          let s := (s.sendAction n 2 0).emit .ctxSsrcChange n [(cur.toNat : Int), (q.toNat : Int)]
          let s := match c.ch with
            | some ch => s.chCount ch 16 1
            | none => s
          (s.takeSsrc n (some q), true)
        else (s.setCtx n { c with others := o }, false)

/-- A packet type that the payload format does not use (R129): PACI or reserved in H.265; in H.264 a type from 24 to 31 other than, in
packetization-mode 1, STAP-A and FU-A. -/
def unusableType (x : NetDecl) (ptype : Nat) : Bool :=
  if x.codec = 0 then decide (24 ≤ ptype) && !(x.packing == 1 && (ptype == 24 || ptype == 28)) else decide (50 ≤ ptype)

/-- An RTP packet for path `p` of context `n` (R127 to R137). -/
def State.rxRtp (s : State) (n p : Nat) (x : NetDecl) (r : Rtp) (stamp : Nat) : State :=
  if r.version ≠ 2 ∨ r.payloadType ≠ x.payloadType ∨ r.payloadLen = 0 then s.discardPacket n
  else
    let o := s.checkSsrc n x r.ssrc
    if !o.2 then o.1.discardPacket n
    else if unusableType x r.ptype then o.1.discardPacket n
    else
      let s := o.1
      let s := (s.setCtx n { s.ctx n with ssrcLast := s.now }).pathAlive n p
      let s := if (s.ctx n).state = .armed then s.ctxTo n .sync else s
      let e := extendSeq (s.ctx n).newest r.seq
      let s := if jumps (s.ctx n) p e && !s.pairFollows then s.resync n else s
      let e := extendSeq (s.ctx n).newest r.seq
      (s.placePacket n p x r e stamp).runIngest n x

/-- A datagram that its port's checks have passed (R126, R127, R141). -/
def State.classify (s : State) (port : Nat) (f : EthFrame) (stamp : Nat) : State :=
  match s.flowOf port f with
  | none =>
    if f.udpPort = 319 ∨ f.udpPort = 320 ∨ f.udpPort = (if s.mode.mode = .recovery then 4770 else s.udpPort) then s else s.countWrap (Reg.ethRxUnmatched port) 1
  | some (n, p) =>
    match (s.ctx n).decl with
    | some (.net x) =>
      if (s.ctx n).state = .fault then s.discardPacket n
      else match f.payload with
        | .rtp r => s.rxRtp n p x r stamp
        | .other => s.discardPacket n
    | _ => s

/-- Which check of R479 a frame fails first: 1 frame, 2 IP header, 3 fragment, 4 UDP checksum; 0 none. -/
def ethCheck (f : EthFrame) : Nat :=
  if !f.fcsOk || decide (f.length < 64) || decide (9216 < f.length) || decide (1 < f.vlanTags) then 1
  else if !f.ipHeaderOk then 2
  else if f.fragment then 3
  else if (f.ipv6 && f.udpChecksumZero) || (!f.udpChecksumZero && !f.udpChecksumOk) then 4
  else 0

/-- Receive one frame: count, check, classify (R125, R126, R479). -/
def State.rxEth (s : State) (port : Nat) (f : EthFrame) (stamp : Nat) : State :=
  let s := s.countWrap (Reg.ethRxFrames port) 1
  match ethCheck f with
  | 0 => s.classify port f stamp
  | 1 => s.countWrap (Reg.ethRxBadFrame port) 1
  | 2 => s.countWrap (Reg.ethRxIpHdr port) 1
  | 3 => s.countWrap (Reg.ethRxFrag port) 1
  | _ => s.countWrap (Reg.ethRxUdpCsum port) 1

/-- Whether an injector's selection takes a datagram of a port (R451). -/
def State.injectsEth (s : State) (port : Nat) (f : EthFrame) (x : Injector) : Bool :=
  x.target == 1 && x.index == port &&
    (x.all || match s.flowOf port f with
      | some (n, p) => n == x.sel && p == x.path
      | none => false)

/-- A CORRUPT before the checks makes the checksum fail, except where nothing checks it and the changed bytes, which spell `alt`,
arrive (R451). -/
def corruptBefore (f : EthFrame) (alt : UdpPayload) : EthFrame :=
  if f.udpChecksumZero && !f.ipv6 then { f with payload := alt } else { f with udpChecksumOk := false }

/-- Ingress stamp of a frame received now: RXLAT is taken off (R61). -/
def State.ingressStamp (s : State) (port : Nat) : Nat := ((s.now : Int) - (s.reg (Reg.ptpRxLat port) / 1000 : Nat)).toNat

end Sys2Proof.Machine
end

