-- ==== Sys2Proof/Machine/Lusko.lean ====
section
/-! DEFINITION. Lusko: bonds and lanes changing state, and capture frames (R150 to R168). -/

namespace Sys2Proof.Machine

/-! ## Bonds and lanes (R150, R155, R157) -/

/-- Move a lane to a state, with its event (R155). -/
def State.laneTo (s : State) (l : Nat) (x : LaneState) : State :=
  let y := s.lane l
  if y.state = x then s else (s.setLane l { y with state := x }).emit .laneState l [y.state.code, x.code]

/-- The contexts bound to a bond, by its first lane. -/
def State.bondCtxs (s : State) (first : Nat) : List Nat :=
  (keys s.ctxs).filter (fun n => (s.ctx n).state != .idle && match (s.ctx n).decl with
    | some (.lusko d) => d.firstLane == first
    | _ => false)

/-- The Lusko declaration of a started context. -/
def State.luskoDecl (s : State) (n : Nat) : Option LuskoDecl :=
  match (s.ctx n).state, (s.ctx n).decl with
  | .idle, _ => none
  | _, some (.lusko d) => some d
  | _, _ => none

/-! ## Capture frames (R162, R164, R168) -/

/-- Bits of a pixel of a FORMAT (R162). -/
def luskoBits : Nat → Nat
  | 0 => 16 | 1 => 20 | 2 => 24 | _ => 30

/-- Storage of a FORMAT (R162, R168). -/
def luskoFmt (f : Nat) : PixFmt := { kind := if f < 2 then .yuv422 else .rgb, ten := f % 2 == 1 }

/-- Bytes of a line (R162). -/
def lineBytes (f w : Nat) : Nat := ceilDiv (w * luskoBits f) 8

/-- The samples of a line from its little-endian bit stream (R162). -/
def lineSamples (f w y : Nat) (px : List (BitVec 8)) : List Sample :=
  let v := leNat px
  let b := if f % 2 = 1 then 10 else 8
  let comp := fun (k : Nat) => v / 2 ^ (k * b) % 2 ^ b
  if f < 2 then
    (List.range (w / 2)).flatMap (fun i =>
      [(⟨1, y, i, comp (4 * i)⟩ : Sample), ⟨0, y, 2 * i, comp (4 * i + 1)⟩, ⟨2, y, i, comp (4 * i + 2)⟩,
       ⟨0, y, 2 * i + 1, comp (4 * i + 3)⟩])
  else
    (List.range w).flatMap (fun i =>
      [(⟨0, y, i, comp (3 * i)⟩ : Sample), ⟨1, y, i, comp (3 * i + 1)⟩, ⟨2, y, i, comp (3 * i + 2)⟩])

/-- The stands of line group `g` (R89). -/
def groupStands (w g : Nat) : List Nat := (List.range (stands w)).map (fun x => g * stands w + x)

end Sys2Proof.Machine

namespace Sys2Proof

open Machine

/-- Who writes the tags of a context's frame. -/
def Ctx.writer (c : Ctx) (srcTrace hold : Bool) : Writer :=
  { src := Ctx.source c, byte := Ctx.srcByte c, srcTrace := srcTrace, hold := hold, preroll := c.ch.isNone }

end Sys2Proof

namespace Sys2Proof.Machine

/-- Count the stands of a channel written INVALID (R437). -/
def State.countInvalid (s : State) (n k : Nat) : State :=
  match (s.ctx n).ch with
  | some ch => if k = 0 then s else s.chCount ch 8 k
  | none => s

/-- A frame of a context whose tags are all written and which is output becomes eligible, for its channel or in pre-roll (R86,
R185). -/
def State.ctxEligible (s : State) (n : Nat) (r : FrameRef) : State :=
  match (s.ctx n).ch with
  | some ch => s.becomeEligible (.ch ch) r
  | none => s.prerollEligible n r

/-- The manifest entry of a capture frame (R300): per line group its ARRV offset and CRC, or that it is invalid. -/
def captureEntry (n : Nat) (o : OpenFrame) (groups arrv : Nat) (traceOk : Bool) : Manifest :=
  { Manifest.blank 1 n with
    srcTrace := o.srcTrace, traceOk := traceOk, hold := o.start.hold, arrv := arrv % 2 ^ 40,
    capt := (o.start.capt.toNat / 1000) % 2 ^ 40, first := (o.frame.toNat : Int), count := groups,
    groups := (List.range groups).map (fun g =>
      match o.crcs.find? (fun p => p.1 == g) with
      | some p => (some (Tab.get arrv o.arrvs g - arrv), p.2)
      | none => (none, 0)) }

/-- Hand on a capture frame whose every tag is written: the manifest entry goes out, DECODE clears, the frame is eligible
(R86, R164, R299). -/
def State.finishCapture (s : State) (n : Nat) (o : OpenFrame) : State :=
  let r : FrameRef := ⟨.ctx n, o.buf⟩
  let f := s.frame r
  let groups := stands f.h
  let s := s.sendManifest (captureEntry n o groups f.arrv (f.traceFixed.getD s.time.traceOk))
  let s := match (s.ctx n).ch with
    | some ch => if o.start.hold then s.chCount ch 6 1 else s
    | none => s
  let s := s.modFrame r (fun f => { f with markDecode := false, markPending := true })
  let s := if o.crcs.length = groups then (s.gapEnd n).joinSource n else s
  let c := s.ctx n
  (s.setCtx n { c with picCount := c.picCount + 1, pics := c.pics + 1 }).ctxEligible n r

/-- Write the tags of a group: complete, or INVALID (R89). -/
def State.tagGroup (s : State) (n : Nat) (o : OpenFrame) (g : Nat) (err : Bool) (arrv : Nat) : State :=
  let r : FrameRef := ⟨.ctx n, o.buf⟩
  let ks := groupStands (s.frame r).w g
  (s.writeStands (Ctx.writer (s.ctx n) o.srcTrace o.start.hold) r (ks.map (fun k => (k, err, arrv)))).countInvalid n
    (if err then ks.length else 0)

/-- The frame is handed on once its last tag is written. -/
def State.finishIfTagged (s : State) (n : Nat) : State :=
  match (s.ctx n).open_ with
  | some o =>
    if !o.finished && s.allTagged ⟨.ctx n, o.buf⟩ then
      let s := s.setCtx n { s.ctx n with open_ := some { o with finished := true } }
      s.finishCapture n o
    else s
  | none => s

/-- Apply a manifest entry to a closed frame of the shadow: an invalid group, or one whose CRC differs, is INVALID and sets GAP
(R301, R304). -/
def State.applyCapture (s : State) (n : Nat) (o : OpenFrame) (m : Manifest) : State :=
  let r : FrameRef := ⟨.ctx n, o.buf⟩
  let arrv := s.untagUs m.arrv
  let capt := s.untagUs m.capt
  let s := s.modFrame r (fun f => { f with arrv := arrv, capt := capt, traceFixed := some m.traceOk })
  let o := { o with srcTrace := m.srcTrace }
  let s := (List.range m.groups.length).foldl (fun s g =>
    let e := m.groups.getD g (none, 0)
    let own := o.crcs.find? (fun p => p.1 == g)
    let bad := e.1.isNone || (match own with
      | some p => p.2 != e.2
      | none => true)
    let s := if bad && e.1.isSome then s.gapBegin n else s
    s.tagGroup n o g bad (arrv + e.1.getD 0)) s
  (s.entryApplied m).finishCapture n o

/-- Context actions that stand first among the waiting entries of a Lusko context take their place (R301); `fuel` bounds them. -/
def State.runActions (s : State) (n : Nat) : Nat → State
  | 0 => s
  | fuel + 1 =>
    match (s.ctx n).entries with
    | m :: t => if m.kind = 3 then ((s.setCtx n { s.ctx n with entries := t }).applyAction m).runActions n fuel else s
    | [] => s

/-- Close the open frame: every line group that is not complete is INVALID (R164). A shadow that follows manifests keeps the
frame until its entry comes. -/
def State.closeCapture (s : State) (n : Nat) : State :=
  match (s.ctx n).open_ with
  | none => s
  | some o =>
    let c := s.ctx n
    if o.finished then s.setCtx n { c with open_ := none }
    else if s.pairFollows then
      match c.entries.find? (fun m => m.kind == 1 && m.first == (o.frame.toNat : Int)) with
      | some m =>
        ((s.setCtx n { c with open_ := none, entries := c.entries.filter (fun e => e ≠ m) }).applyCapture n o m).runActions n
          c.entries.length
      | none => s.setCtx n { c with open_ := none, closed := c.closed ++ [o] }
    else
      let r : FrameRef := ⟨.ctx n, o.buf⟩
      let f := s.frame r
      let s := (List.range (stands f.h)).foldl (fun s g =>
        if o.crcs.any (fun p => p.1 == g) then s else s.tagGroup n o g true (Tab.get f.arrv o.arrvs g)) s
      let s := s.setCtx n { s.ctx n with open_ := none }
      s.finishCapture n o

/-- The bond has left UP (R157, R165): contexts in DECODE return to SYNC with their open frame closed, and on the pair link a JOINING or
PAIRED pair becomes UNPAIRED (R293). -/
def State.leaveUp (s : State) (first : Nat) (role : BondRole) : State :=
  let s := (s.bondCtxs first).foldl (fun s n =>
    let s := s.closeCapture n
    if (s.ctx n).state = .decode then s.ctxTo n .sync else s) s
  if role = .pair then s.unpair else s

/-- Every lane of a bond that is not OFF moves at once, lane `k` to `x k`, out of whatever it was doing (R155). -/
def State.bondTo (s : State) (l : Nat) (x : Nat → LaneState) : State :=
  let y := s.lane l
  let s := (s.bondLanes l).foldl (fun s k =>
    let z := s.lane k
    if z.state = .off ∨ z.state = x k then s
    else ((s.setLane k { z with txEidle := false, rxEidle := false, wakeAsked := false, deepAsked := false }).laneTo k (x k)).dropToken
      .lane k) s
  if y.state = .up then s.leaveUp y.first y.role else s

/-- Every lane of a bond goes DOWN (R157). -/
def State.bondDown (s : State) (l : Nat) : State := s.bondTo l (fun _ => .down)

/-- A packet of a context's bond and CHAN is accepted: ARMED goes to SYNC (R165). A relay bond forwards it unchanged in payload, under its
own CHAN, SEQ and CRC (R166). -/
def State.capturePacket (s : State) (n : Nat) (d : LuskoDecl) (b : LuskoBody) : State :=
  let s := if (s.ctx n).state = .armed then s.ctxTo n .sync else s
  match d.relay with
  | some (l, ch) =>
    if (s.lane l).state = .up ∧ (s.lane l).role = .relay then s.sendLusko l ch b b.payload else s
  | none => s

/-- A packet of a frame that is not open: one of a frame that found no free buffer counts in OVERFLOW (R168), a stray one in DISCARD
(R164). -/
def State.strayPacket (s : State) (n : Nat) (frame : BitVec 16) : State :=
  let c := s.ctx n
  if c.noBuffer = some frame then s.setCtx n { c with overflow := c.overflow + 1 } else s.discardPacket n

/-- Whether FORMAT, WIDTH, HEIGHT and rate equal the admitted ones (R165). -/
def startMatches (d : LuskoDecl) (f : FrameStart) : Bool :=
  f.format.toNat == d.format && f.width.toNat == d.w && f.height.toNat == d.h && f.rateNum.toNat == d.num &&
    f.rateDen.toNat == d.den

/-- The source-side verdict of a capture (R164). -/
def State.captureTrace (s : State) (d : LuskoDecl) (f : FrameStart) : Bool :=
  let y := s.lane d.firstLane
  f.trace && y.latency.isSome && y.timeGapOk && match y.lastTime with
    | some t => decide (s.now ≤ t + 2000000)
    | none => false

/-- A FRAME_START opens a frame, after closing any frame still open (R164, R165, R168). -/
def State.rxFrameStart (s : State) (n : Nat) (d : LuskoDecl) (f : FrameStart) (stamp : Nat) : State :=
  let s := s.closeCapture n
  let s := s.setCtx n { s.ctx n with noBuffer := none }
  let c := s.ctx n
  if c.state = .fault then s.discardPacket n
  else if ¬ startMatches d f then (if s.pairFollows then s else s.ctxFault n .formatMismatch)
  else
    let r := s.overrate n d.num d.den
    if r.2 && !s.pairFollows then (r.1.discardPacket n).ctxFault n .overrate
    else
      let s := r.1
      let s := if (s.ctx n).state = .sync then s.ctxTo n .decode else s
      match freeBuf (s.ctx n).bufs (s.ctx n).nBufs 0 with
      | none =>
        let s := s.setCtx n { s.ctx n with overflow := (s.ctx n).overflow + 1, noBuffer := some f.frame }
        s.ctxFault n .pool
      | some b =>
        let tr := s.captureTrace d f
        let s := s.sourceTrace n tr none
        let fr : Frame :=
          { inUse := true, w := d.w, h := d.h, fmt := luskoFmt d.format, seq := f.frame, arrv := stamp / 1000,
            capt := f.capt.toNat / 1000, traceFixed := s.pairTrace, markDecode := true }
        let s := s.setFrame ⟨.ctx n, b⟩ fr
        s.setCtx n { s.ctx n with open_ := some ⟨f.frame, b, stamp, f, tr, 0, [], [], [], [], false⟩ }

/-- A VIDEO_LINE of the open frame (R162, R164). A line that comes again makes its group INVALID after all, while the frame is not yet
eligible (R86). -/
def State.rxVideoLine (s : State) (n : Nat) (d : LuskoDecl) (frame : BitVec 16) (line : Nat) (px : List (BitVec 8))
    (stamp : Nat) : State :=
  match (s.ctx n).open_ with
  | none => s.strayPacket n frame
  | some o =>
    if o.frame ≠ frame ∨ d.h ≤ line ∨ (s.ctx n).state = .fault then s.strayPacket n frame
    else
      let g := line / 64
      let inOrder := line == o.nextLine || (line % 64 == 0 && decide (o.nextLine < line))
      let ok := inOrder && px.length == lineBytes d.format d.w && !o.bad.contains g
      let arrvs := if o.arrvs.any (fun p => p.1 == g) then o.arrvs else Tab.set 0 o.arrvs g (stamp / 1000)
      let o := { o with arrvs := arrvs, nextLine := max o.nextLine (line + 1) }
      if !ok then
        let again := o.crcs.any (fun p => p.1 == g)
        let s := s.setCtx n { s.ctx n with
          open_ := some { o with bad := g :: o.bad, crcs := o.crcs.filter (fun p => p.1 != g) } }
        if again && !o.finished && !s.pairFollows then s.tagGroup n o g true (Tab.get (stamp / 1000) o.arrvs g) else s
      else
        let bytes := (if line % 64 = 0 then [] else o.bytes) ++ px
        let ends := line % 64 == 63 || line + 1 == d.h
        let o := { o with bytes := bytes, crcs := if ends then o.crcs ++ [(g, crcBytes bytes)] else o.crcs }
        let s := s.modFrame ⟨.ctx n, o.buf⟩ (fun f => Frame.writeSamples f (lineSamples d.format d.w line px))
        let s := s.setCtx n { s.ctx n with open_ := some o }
        if ends && !s.pairFollows then
          (s.tagGroup n o g false (Tab.get (stamp / 1000) o.arrvs g)).finishIfTagged n
        else s

/-- A FRAME_END of the open frame (R164). -/
def State.rxFrameEnd (s : State) (n : Nat) (frame : BitVec 16) : State :=
  match (s.ctx n).open_ with
  | some o => if o.frame = frame then s.closeCapture n else s.strayPacket n frame
  | none => s.strayPacket n frame

end Sys2Proof.Machine
end

