-- ==== Sys2Proof/Machine/Decode.lean ====
section
/-! DEFINITION. The decode cores: jobs, pictures, rows, damage, the buffer pool (R117 to R119, R175 to R196). -/

namespace Sys2Proof.Machine

/-! ## Jobs (R178 to R181) -/

/-- The core that the packing gives a part of a context. -/
def State.coreOf (s : State) (n part : Nat) : Option Nat :=
  (s.packing.find? (fun p => p.1 == n && p.2.1 == part)).map (fun p => p.2.2)

/-- The parts of a context (R177). -/
def netParts (x : NetDecl) : Nat := if x.split = 0 then 1 else x.k

/-- The smallest release offset that applies to a channel on any head or sheet showing it, µs (R180). -/
def State.leastOffset (s : State) (ch : Nat) : Nat :=
  let src := Source.ch ch
  let hs := (s.headsShowing src).map (fun h => s.offsetNs src (s.head h).cfg.periodNs / 1000)
  let xs := (s.sheetsShowing src).map (fun x => s.offsetNs src (s.sheet x).cfg.period / 1000)
  match hs ++ xs with
  | [] => (s.chan ch).offset
  | a :: t => t.foldl min a

/-- The due time U of an access unit, ns (R180). -/
def State.dueOf (s : State) (n : Nat) (u : AccessUnit) : Nat :=
  let ref := if u.srcTrace && s.time.traceOk && plausible (tagTime u.arrv) (tagTime u.capt) then captInstant u.arrv u.capt else u.arrv
  let off := match Ctx.channel (s.ctx n) with
    | some ch => s.leastOffset ch
    | none => 0
  ((ref + off) * 1000).toNat

/-- The access unit a part of context `n` would work on: the picture in work, or the next job. -/
def State.jobUnit (s : State) (n : Nat) : Option AccessUnit :=
  match (s.ctx n).picture with
  | some p => some p.au
  | none => (s.ctx n).jobs.head?

/-- A part may take its next row up (R177): under WPP the row above, of another part, has been completed. -/
def wppReady (x : NetDecl) (p : Picture) (q : PicPart) : Bool :=
  let r := q.row * netParts x + q.part
  x.split != 2 || r == 0 || p.parts.any (fun a => a.part == (r - 1) % netParts x && decide ((r - 1) / netParts x < a.row))

/-- A part may start: under WPP the part whose row is above its first one has started. -/
def wppStarted (x : NetDecl) (p : Picture) (q : PicPart) : Bool :=
  x.split != 2 || q.part == 0 || q.row != 0 || p.parts.any (fun a => a.part + 1 == q.part && a.state != .waiting)

/-- The declaration of a network context. -/
def Ctx.net (c : Ctx) : NetDecl := match c.decl with
  | some (.net x) => x
  | _ => {}

end Sys2Proof.Machine

namespace Sys2Proof

/-- An access unit has a picture: a slice that arrived whole (R134, R192). -/
def AccessUnit.hasSlice (u : AccessUnit) : Bool :=
  u.nals.any (fun q => match q with
    | .slice _ => true
    | _ => false)

end Sys2Proof

namespace Sys2Proof.Machine

/-- Free buffers of a context's pool (R185). -/
def freeBufs (c : Ctx) : Nat := ((List.range c.nBufs).filter (fun b => (Tab.get {} c.bufs b : Frame).isFree)).length

/-- The parts that core `k` could work on now, its token apart: due time, context, part (R180). A context decodes one picture at a time, so
the references of the next one are complete. -/
def State.runnable (s : State) (k : Nat) : List (Nat × Nat × Nat) :=
  (keys s.ctxs).flatMap (fun m =>
    let c := s.ctx m
    match s.jobUnit m with
    | none => []
    | some u =>
      if c.state ≠ .decode then []
      else match c.picture with
        | some p => (p.parts.filter (fun q =>
            q.core == k && (q.state == .saved || (q.state == .waiting && wppStarted (Ctx.net c) p q)))).map (fun q =>
              (s.dueOf m u, m, q.part))
        | none =>
          if u.hasSlice && decide (c.poolNeed ≤ freeBufs c) then
            (s.packing.filter (fun q => q.1 == m && q.2.2 == k)).map (fun q => (s.dueOf m u, m, q.2.1))
          else [])

/-- The earliest due time comes first, then the context index, then the part index (R180). -/
def jobBefore (a b : Nat × Nat × Nat) : Bool :=
  decide (a.1 < b.1) || (a.1 == b.1 && (decide (a.2.1 < b.2.1) || (a.2.1 == b.2.1 && decide (a.2.2 < b.2.2))))

/-- Part `part` of context `n`, due at `due`, is the one that core `k` runs next: the core is free and holds its token. -/
def State.isNext (s : State) (k due n part : Nat) : Bool :=
  ((s.core k).state == .idle || (s.core k).state == .stalled) && (s.core k).job.isNone && s.hasToken .decode k &&
    (s.runnable k).all (fun r => !jobBefore r (due, n, part))

/-! ## Starting a job (R180, R185, R187, R192, R193) -/

/-- Output a picture in display order, which counts it (R89, R185, R186): it becomes eligible. -/
def State.outputFrame (s : State) (n b : Nat) : State :=
  let r : FrameRef := ⟨.ctx n, b⟩
  let f := s.frame r
  if f.markOutput then
    let s := s.setCtx n { s.ctx n with picCount := (s.ctx n).picCount + 1 }
    (s.setFrame r { f with markOutput := false, markPending := true }).ctxEligible n r
  else s

/-- The reference marking and output process of the stream, as its standard gives them for a picture. -/
def State.applyDpb (s : State) (n : Nat) (a : DpbAction) : State :=
  let s := a.toLong.foldl (fun s b => s.modFrame ⟨.ctx n, b⟩ (fun f => { f with markLong := true, markShort := false })) s
  let s := a.dropShort.foldl (fun s b => s.modFrame ⟨.ctx n, b⟩ (fun f => { f with markShort := false })) s
  let s := a.dropLong.foldl (fun s b => s.modFrame ⟨.ctx n, b⟩ (fun f => { f with markLong := false })) s
  a.output.foldl (fun s b => s.outputFrame n b) s

/-- The size of a picture's stand map stays as declared (R193). -/
def declFmt (x : NetDecl) : PixFmt := { kind := if x.chroma422 then .yuv422 else .yuv420, ten := x.tenBit }

/-- Generate a stand-in picture in a free buffer: mid-grey, every stand INVALID, never output (R192). -/
def State.standIn (s : State) (n : Nat) (x : NetDecl) : State :=
  let c := s.ctx n
  match freeBuf c.bufs c.nBufs 0 with
  | none => s
  | some b =>
    let g : Tag := { state := .invalid, src := Ctx.srcByte c }
    let f : Frame :=
      { inUse := true, w := x.w, h := x.h, fmt := declFmt x, markShort := true, generated := true, noOutput := true,
        tags := (List.range (stands x.w * stands x.h)).map (fun k => (k, g)) }
    (s.setFrame ⟨.ctx n, b⟩ f).setCtx n
      { (s.setFrame ⟨.ctx n, b⟩ f).ctx n with generated := ((s.setFrame ⟨.ctx n, b⟩ f).ctx n).generated + 1 }

/-- The stand-ins of a picture, one for each missing reference. -/
def State.standIns (s : State) (n : Nat) (x : NetDecl) : Nat → State
  | 0 => s
  | k + 1 => (s.standIn n x).standIns n x k

/-- The errors of a picture: event and counter for the first one by place in the picture, whatever the order its rows were decoded in
(R183), the last-error register for the last one (R198), with the CTUs they tainted (R192). -/
def State.decError (s : State) (n : Nat) (p : Picture) (seq : BitVec 16) : State :=
  match p.firstError, p.lastError with
  | some a, some z =>
    let c := s.ctx n
    (s.setCtx n { c with decErr := c.decErr + 1, decLastErr := DecError.code z.2, decLastErrSeq := seq }).emit
      .ctxDecError n [DecError.code a.2, seq.toNat, p.taintCount]
  | _, _ => s

/-- A picture the declaration does not admit: parameter sets, or split entry points it lacks (R141, R177). -/
def pictureMismatch (x : NetDecl) (u : AccessUnit) (p : PicStart) : Bool :=
  u.nals.any (nalMismatch x) || (x.split == 1 && decide (p.tileColumns < x.k)) || (x.split == 2 && !p.wavefront)

/-- An active parameter set declares a larger decoded picture buffer than admitted (R187). -/
def dpbTooLarge (x : NetDecl) (u : AccessUnit) : Bool :=
  u.nals.any (fun q => match q with
    | .paramSet y => decide (x.dpbDepth < y.dpbSize)
    | _ => false)

/-- The parameter set in force after an access unit (R193). -/
def latestSet (old : Option ParamSet) (u : AccessUnit) : Option ParamSet :=
  u.nals.foldl (fun o q => match q with
    | .paramSet y => some y
    | _ => o) old

/-- An access unit without a picture, or whose picture is skipped (R186), leaves its parameter sets and no more. -/
def State.passUnit (s : State) (n : Nat) (u : AccessUnit) : State :=
  s.setCtx n { s.ctx n with jobs := (s.ctx n).jobs.drop 1, ps := latestSet (s.ctx n).ps u }

/-- The recovery points still to come once a picture's own SEI is read (R118): H.264 names a frame_num, H.265 a picture order count. -/
def recoveryTargets (x : NetDecl) (old : List Int) (u : AccessUnit) (p : PicStart) : List Int :=
  u.nals.foldl (fun l q => match q with
    | .recovery k => l ++ [if x.codec = 0 then (((p.frameNum + k) % max p.maxFrameNum 1 : Nat) : Int) else p.poc + k]
    | _ => l) old

/-- A picture is the recovery point that target `a` names. -/
def recoversAt (x : NetDecl) (p : PicStart) (a : Int) : Bool := if x.codec = 0 then (p.frameNum : Int) == a else decide (a ≤ p.poc)

/-- Start a picture: a buffer is allocated, marked DECODE and as the stream marks it; a clean-decode picture ends taint
(R118, R119, R180, R185, R193). SEQ is the count of pictures output plus those that go before it (R89). -/
def State.beginPicture (s : State) (n : Nat) (x : NetDecl) (u : AccessUnit) (p : PicStart) (b : Nat) : State :=
  let c := s.ctx n
  let targets := recoveryTargets x (if p.idr then [] else c.recoverAt) u p
  let point := targets.any (recoversAt x p)
  let clean := p.idr || p.cleanIrap || point
  let f : Frame :=
    { inUse := true, w := x.w, h := x.h, fmt := declFmt x,
      vui := { primaries := p.primaries, transfer := p.transfer, matrix := p.matrix, full := p.fullRange },
      seq := c.picCount + BitVec.ofNat 16 p.ahead, order := c.order, arrv := u.arrv, capt := u.capt, traceFixed := u.traceFixed,
      markDecode := true, markShort := p.shortRef, markLong := p.longRef, noOutput := p.noOutput }
  let parts := (List.range (netParts x)).map (fun i => ({ part := i, core := (s.coreOf n i).getD 0, row := 0, state := .waiting } : PicPart))
  let sized := p.irap && c.size.getD (x.w, x.h) != (p.width, p.height)
  let set := latestSet c.ps u
  let s := s.setFrame ⟨.ctx n, b⟩ f
  let err : Option (Nat × DecError) := if p.missingRefs = 0 ∨ p.gapAllowed then none else some (0, .refMissing)
  let pic : Picture :=
    { au := u, buf := b, start := p, parts := parts, beforeRecovery := c.awaitRecovery && !clean, clean := clean, order := c.order,
      cleanOrder := if clean then c.order else c.cleanOrder,
      firstError := err, lastError := err }
  let s := s.setCtx n { s.ctx n with
    jobs := c.jobs.drop 1, ps := set, active := if p.irap then set else c.active <|> set,
    size := if p.irap then some (p.width, p.height) else c.size, picture := some pic, poolNeed := 1,
    awaitRecovery := c.awaitRecovery && !clean, recoverAt := targets.filter (fun a => !recoversAt x p a), order := c.order + 1,
    cleanOrder := pic.cleanOrder }
  let s := if sized then s.emit .ctxSizeChange n [p.width, p.height] else s
  s.standIns n x p.missingRefs

/-- Whether the references of a picture are complete (R180). -/
def State.refsDone (s : State) (n : Nat) (p : PicStart) : Bool := p.refs.all (fun b => !(s.frame ⟨.ctx n, b⟩).markDecode)

/-- A core takes a part of the picture in work: RUN, with its token (R180). -/
def State.runPart (s : State) (n part k : Nat) : State :=
  let s := s.syncCore k
  let x := s.core k
  let s := s.setCore k { x with state := .run, job := some (n, part), why := 0, saved := x.saved.filter (fun y => y ≠ n) }
  match (s.ctx n).picture with
  | some p => s.setCtx n { s.ctx n with
      picture := some { p with parts := p.parts.map (fun q => if q.part = part then { q with core := k, state := .running } else q) } }
  | none => s

/-- DECODE_JOB_START (R180, R181): part `part` of context `n` starts, or resumes where it was pre-empted. `start` is what the
standard says of the picture and `dpb` its marking before the picture; both count only where the picture has not begun. The
marking comes first: it frees buffers for the picture it belongs to and for its stand-ins. -/
def State.jobStart (s : State) (n part : Nat) (x : NetDecl) (start : PicStart) (dpb : DpbAction) : State :=
  match (s.ctx n).picture with
  | some p =>
    match p.parts.find? (fun q => q.part == part) with
    | some q =>
      let k := q.core
      if ((q.state == .waiting && wppStarted x p q) || q.state == .saved) && s.isNext k (s.dueOf n p.au) n part then s.runPart n part k
      else s
    | none => s
  | none =>
    match (s.ctx n).jobs, s.coreOf n part with
    | u :: _, some k =>
      if pictureMismatch x u start then s.ctxFault n .formatMismatch
      else if dpbTooLarge x u then s.ctxFault n .pool
      else if !u.hasSlice || start.skipped then s.passUnit n u
      else
        let s := s.applyDpb n dpb
        let c := s.ctx n
        if freeBufs c ≤ start.missingRefs then s.setCtx n { c with poolNeed := start.missingRefs + 1 }
        else if s.isNext k (s.dueOf n u) n part && s.refsDone n start then
          match freeBuf c.bufs c.nBufs 0 with
          | none => s
          | some b => (s.beginPicture n x u start b).runPart n part k
        else s.setCtx n { c with poolNeed := 1 }
    | _, _ => s

def execDecodeJobStart (t : Nat) (n : Fin 160) (part : Fin 4) (start : PicStart) (dpb : DpbAction) (s : State) :
    Host.Outcome State Fault Refusal :=
  let s := s.at t
  match (s.ctx n.val).state, (s.ctx n.val).decl with
  | .decode, some (.net x) => .next (s.jobStart n.val part.val x start dpb)
  | _, _ => .next s

/-! ## Rows (R86, R89, R117, R119, R175, R181, R195) -/

/-- Pixels of the decoded picture in a stand. -/
def standArea (w h k cols : Nat) : Nat :=
  let x := k % cols * 64
  let y := k / cols * 64
  (min (x + 64) w - x) * (min (y + 64) h - y)

/-- The stands a CTU overlaps within a picture of `w` by `h`, with the pixels it gives each. -/
def ctuStands (w h cols : Nat) (c : Ctu) : List (Nat × Nat) :=
  let x1 := min (c.x + c.w) w
  let y1 := min (c.y + c.h) h
  if x1 ≤ c.x ∨ y1 ≤ c.y then []
  else
    (List.range ((y1 - 1) / 64 + 1 - c.y / 64)).flatMap (fun dy =>
      (List.range ((x1 - 1) / 64 + 1 - c.x / 64)).map (fun dx =>
        let sx := c.x / 64 + dx
        let sy := c.y / 64 + dy
        (sy * cols + sx, (min x1 (64 * sx + 64) - max c.x (64 * sx)) * (min y1 (64 * sy + 64) - max c.y (64 * sy)))))

/-- A CTU predicts from a picture never received or generated, or from an INVALID stand (R117) of a picture no older than the last
clean decode (R118). -/
def State.refTainted (s : State) (n : Nat) (p : Picture) (c : Ctu) : Bool :=
  c.refs.any (fun r =>
    let f := s.frame ⟨.ctx n, r.1⟩
    f.generated || !f.inUse || (decide (p.cleanOrder ≤ f.order) && (Tab.get {} f.tags r.2).state == .invalid))

/-- Whether a CTU is tainted (R117): an error in it, a tainted reference, or prediction from a tainted CTU of the same picture; before
the recovery point everything is (R118). -/
def State.ctuTainted (s : State) (n : Nat) (p : Picture) (tainted : List Nat) (c : Ctu) : Bool :=
  c.error != .none || p.beforeRecovery || s.refTainted n p c || c.intraFrom.any (fun a => tainted.contains a)

/-- The error a CTU shows (R192): what was found in it, or prediction from a tainted reference. -/
def State.ctuError (s : State) (n : Nat) (p : Picture) (tainted : List Nat) (c : Ctu) : DecError :=
  if c.error ≠ .none then c.error
  else if s.refTainted n p c || (!p.beforeRecovery && c.intraFrom.any (fun a => tainted.contains a)) then .taintedRef else .none

/-- Of two errors, the one earlier in the picture. -/
def earlierError (a : Option (Nat × DecError)) (q : Nat × DecError) : Option (Nat × DecError) :=
  match a with
  | some p => if p.1 ≤ q.1 then some p else some q
  | none => some q

/-- Of two errors, the one later in the picture. -/
def laterError (a : Option (Nat × DecError)) (q : Nat × DecError) : Option (Nat × DecError) :=
  match a with
  | some p => if q.1 < p.1 then some p else some q
  | none => some q

/-- Take one decoded CTU into the picture. -/
def State.takeCtu (s : State) (n w h cols : Nat) (p : Picture) (c : Ctu) : Picture :=
  let bad := s.ctuTainted n p p.tainted c
  let err := s.ctuError n p p.tainted c
  let st := ctuStands w h cols c
  { p with
    tainted := if bad then c.addr :: p.tainted else p.tainted,
    cover := st.foldl (fun t q => Tab.mod 0 t q.1 (fun a => a + q.2)) p.cover,
    badStands := if bad then (st.map Prod.fst) ++ p.badStands else p.badStands,
    firstError := if err = .none then p.firstError else earlierError p.firstError (c.addr, err),
    lastError := if err = .none then p.lastError else laterError p.lastError (c.addr, err),
    taintCount := if bad then p.taintCount + 1 else p.taintCount }

/-- The first INVALID stand after a clean picture (R119). DEDUCED (log 179): a clean picture is one of clean decode in the sense of
R118. -/
def State.invalidBegin (s : State) (n : Nat) (bad : Nat) : State :=
  let c := s.ctx n
  if bad ≠ 0 ∧ ¬ c.taintRun then (s.setCtx n { c with taintRun := true, begun := true }).emit .ctxInvalidBegin n [] else s

/-- Write the tags of stands that a context's picture has finished. -/
def State.tagPicture (s : State) (n : Nat) (p : Picture) (l : List (Nat × Bool)) : State :=
  let r : FrameRef := ⟨.ctx n, p.buf⟩
  let bad := (l.filter (fun q => q.2)).length
  let s := s.writeStands (Ctx.writer (s.ctx n) p.au.srcTrace false) r (l.map (fun q => (q.1, q.2, p.au.arrv)))
  (s.countInvalid n bad).invalidBegin n bad

/-- A picture is complete: its marks change, and it is output or waits for output (R185, R186). -/
def State.completePicture (s : State) (n : Nat) (p : Picture) (dpb : DpbAction) : State :=
  let r : FrameRef := ⟨.ctx n, p.buf⟩
  let f := s.frame r
  let rest := (List.range (stands f.w * stands f.h)).filter (fun k =>
    decide (Tab.get {} f.tags k = {}) && !f.waiting.any (fun q => q.1 == k))
  let s := s.tagPicture n p (rest.map (fun k => (k, true)))
  let s := s.decError n p f.seq
  let s := s.modFrame r (fun f => { f with markDecode := false, markOutput := !f.noOutput && !f.generated })
  let c := s.ctx n
  let s := s.setCtx n { c with
    picture := none, pics := c.pics + 1,
    taintPics := if p.taintCount ≠ 0 ∨ p.badStands ≠ [] then c.taintPics + 1 else c.taintPics }
  s.applyDpb n dpb

/-- Taint ends at a picture that starts a clean decode (R118, R119, R295, R304). -/
def State.heal (s : State) (n : Nat) (p : Picture) : State :=
  let c := s.ctx n
  if p.clean ∧ p.parts.all (fun q => q.row == 0) then
    let s := s.setCtx n { c with taintRun := false, begun := false, taintPics := 0 }
    let s := if c.taintPics = 0 ∧ ¬ c.begun then s else s.emit .ctxHealed n [c.taintPics]
    (s.gapEnd n).joinSource n
  else s

/-- One sample of a concealed CTU: the co-located sample of the first entry of reference list 0, or mid-grey (R192). -/
def concealSample (fmt : PixFmt) (src : Option Frame) (plane y x : Nat) : Sample :=
  match src with
  | some f => ⟨plane, y, x, f.sample plane y x⟩
  | none => ⟨plane, y, x, fmt.grey⟩

/-- The samples of a concealed CTU (R192). -/
def State.concealCtu (s : State) (n : Nat) (f : Frame) (c : Ctu) : List Sample :=
  let src : Option Frame := match c.list0 with
    | some b =>
      let g := s.frame ⟨.ctx n, b⟩
      if g.inUse && !g.generated then some g else none
    | none => none
  let cy := if f.fmt.kind = .yuv420 then 2 else 1
  let rect := fun (p x y w h : Nat) => (List.range h).flatMap (fun dy =>
    (List.range w).map (fun dx => concealSample f.fmt src p (y + dy) (x + dx)))
  rect 0 c.x c.y c.w c.h ++ rect 1 (c.x / 2) (c.y / cy) (c.w / 2) (c.h / cy) ++ rect 2 (c.x / 2) (c.y / cy) (c.w / 2) (c.h / cy)

/-- The samples of a row as stored: an 8-bit stream declared as 10-bit is shifted left by two bits (R175); concealed CTUs are
filled. -/
def State.rowSamples (s : State) (n : Nat) (f : Frame) (d : RowDone) : List Sample :=
  let shift : Bool := f.fmt.ten && match (s.ctx n).active with
    | some p => !p.tenBit
    | none => false
  d.samples.map (fun q => if shift then { q with v := q.v * 4 } else q) ++
    (d.ctus.filter (fun c => c.error.conceals)).flatMap (s.concealCtu n f)

/-- The core gives up its job and returns its token. -/
def State.idleCore (s : State) (k : Nat) : State :=
  let s := (s.syncCore k).dropToken .decode k
  (s.setCore k { s.core k with job := none }).restCore k

/-- The part that a core runs. -/
def State.corePart (s : State) (k : Nat) : Option (Nat × Nat × Picture) :=
  match (s.core k).job with
  | some (n, part) => (s.ctx n).picture.map (fun p => (n, part, p))
  | none => none

/-- Slots of a core that a finished row takes: work ends as RETIRED, a pre-roll context's share is kept (R195, R196). -/
def State.retireRow (s : State) (n k : Nat) (stalls : List (Nat × Nat)) : State :=
  let s := s.syncCore k
  let s := stalls.foldl (fun s q => s.stallSlots k q.1 q.2) s
  let held := (s.unitSlots k).held
  let s := s.endWork k true
  let c := s.ctx n
  if c.ch.isNone then
    s.setCtx n { c with
      prerollSlots := c.prerollSlots + BitVec.ofNat 48 held, prerollByCore := Tab.mod 0 c.prerollByCore k (fun a => a + held) }
  else s

/-- DECODE_ROW_COMPLETE (R89, R181): core `k` completes a CTU row. -/
def State.rowComplete (s : State) (k n part : Nat) (p : Picture) (d : RowDone) : State :=
  let r : FrameRef := ⟨.ctx n, p.buf⟩
  let s := ((s.retireRow n k d.stalls).pmc k 1 1).pmc k 5 d.rd |>.pmc k 6 d.wr
  let s := s.pmc k 11 (d.ctus.filter (fun c => c.error.conceals)).length
  let c := s.ctx n
  let s := s.setCtx n { c with concealed := c.concealed + BitVec.ofNat 32 (d.ctus.filter (fun c => c.error.conceals)).length }
  let s := s.heal n p
  let s := s.modFrame r (fun f => Frame.writeSamples f (s.rowSamples n f d))
  let f := s.frame r
  let cols := stands f.w
  let w := min p.start.width f.w
  let h := min p.start.height f.h
  let p := d.ctus.foldl (fun p c => s.takeCtu n w h cols p c) p
  let part' : PartState := if d.last then .done else .running
  let p := { p with
    parts := p.parts.map (fun q => if q.part = part then { q with row := q.row + 1, state := part' } else q) }
  let done := (List.range (cols * stands f.h)).filter (fun i =>
    decide (Tab.get {} f.tags i = {}) && !f.waiting.any (fun q => q.1 == i) &&
      decide (0 < standArea w h i cols) && decide (Tab.get 0 p.cover i = standArea w h i cols))
  let s := s.setCtx n { s.ctx n with picture := some p }
  let s := s.tagPicture n p (done.map (fun i => (i, p.badStands.contains i)))
  if d.last then
    let s := s.idleCore k
    if p.parts.all (fun q => q.state == .done) then (s.completePicture n p d.dpb).pmc k 2 1 else s
  else s

/-- At a row boundary a job with an earlier due time pre-empts the running one, whose state is saved (R181). DESIGN CHOICE (log 180): the
core gives its grant back with the job, and a job taken up again is granted anew. -/
def State.preempt (s : State) (k n part : Nat) : State :=
  match s.jobUnit n, (s.ctx n).picture with
  | some u, some p =>
    if (s.runnable k).any (fun r => decide (r.1 < s.dueOf n u)) then
      let s := (s.count (Reg.decPreempts k) 1).pmc k 3 1
      let s := s.setCtx n { s.ctx n with
        picture := some { p with parts := p.parts.map (fun q => if q.part = part then { q with state := .saved } else q) } }
      let s := s.idleCore k
      s.setCore k { s.core k with saved := n :: (s.core k).saved }
    else s
  | _, _ => s

def execDecodeRowComplete (t : Nat) (k : Fin 16) (d : RowDone) (s : State) : Host.Outcome State Fault Refusal :=
  let s := s.at t
  match s.corePart k.val with
  | some (n, part, p) =>
    let ready : Bool := p.parts.any (fun q => q.part == part && wppReady (Ctx.net (s.ctx n)) p q)
    if (s.core k.val).state = .run ∧ ready then
      let s := s.rowComplete k.val n part p d
      .next (if d.last then s else s.preempt k.val n part)
    else .next s
  | none => .next s

/-! ## Page faults (R182, R195) -/

/-- The owner of the pages that a context's pool lies in, where an instance is granted its channel (R182). -/
def State.poolHost (s : State) (n : Nat) : Option Nat := s.pageOwner (Ctx.source (s.ctx n))

/-- DECODE_FAULT_RESUME (R182): the page is mapped again; the part may take up its row from the start, once its core comes to it (R180). -/
def execDecodeFaultResume (t : Nat) (n : Fin 160) (part : Fin 4) (s : State) : Host.Outcome State Fault Refusal :=
  let s := s.at t
  match (s.ctx n.val).picture with
  | some p =>
    match p.parts.find? (fun q => q.part == part.val) with
    | some q =>
      if q.state = .page ∧ s.vpnMapped (s.poolHost n.val) q.vpn then
        let s := s.setCtx n.val { s.ctx n.val with
          picture := some { p with
            parts := p.parts.map (fun y => if y.part = part.val then { y with state := .saved } else y) } }
        let s := s.restCore q.core
        if s.isNext q.core (s.dueOf n.val p.au) n.val part.val then .next (s.runPart n.val part.val q.core) else .next s
      else .next s
    | none => .next s
  | none => .next s

/-- DECODE_POOL_TIMEOUT (R187): no buffer has become free by the due time of the picture that waits. -/
def execDecodePoolTimeout (t : Nat) (n : Fin 160) (s : State) : Host.Outcome State Fault Refusal :=
  let s := s.at t
  let c := s.ctx n.val
  match c.picture, c.jobs with
  | none, u :: _ =>
    if u.hasSlice ∧ freeBufs c < c.poolNeed ∧ s.dueOf n.val u ≤ s.now then .next (s.ctxFault n.val .pool) else .next s
  | _, _ => .next s

end Sys2Proof.Machine
end

