-- ==== Sys2Proof/Machine/Coef.lean ====
section
/-! DEFINITION. Window generations edited by the mediator (R202, R205 to R207), coefficient banks (R216, R217), the background
colour (R218), safelight requests at their epochs (R219, R223, R237). -/

namespace Sys2Proof.Machine

/-! ## Window generations (R202, R205, R206) -/

/-- A salvo generation is scheduled. -/
def State.salvoGen (s : State) : Bool := s.win.salvo || !s.win.queued.isEmpty

/-- A write or operation refused under R202. -/
def State.refuseWin (s : State) : State := s.count Reg.glbWinWrRefused 1

/-- WIN_GEN_OPEN (R202): accepted while READY is set and no salvo generation is scheduled. -/
def execWinGenOpen (t : Nat) (s : State) : Host.Outcome State Fault Refusal :=
  let s := s.at t
  if s.win.ready ∧ ¬ s.salvoGen then .next { s with win := { s.win with open_ := true } } else .next s.refuseWin

/-- The shadow is restored to a copy of the active generation, with READY clear until the copy ends; OPEN is cleared (R202,
R206). While READY is clear nothing has been written there, and a reader may still read it: it stays. -/
def State.restoreShadow (s : State) : State :=
  if s.win.ready then { s with win := { s.win with open_ := false, ready := false, restoring := true } }
  else { s with win := { s.win with open_ := false } }

/-- WIN_GEN_ABANDON (R202). -/
def execWinGenAbandon (t : Nat) (s : State) : Host.Outcome State Fault Refusal :=
  let s := s.at t
  if s.win.open_ then .next s.restoreShadow else .next s.refuseWin

/-- The active generation is copied into the other one and READY is set (R205, R206). -/
def State.copyShadow (s : State) : State :=
  let w := s.win
  { s with
    win := { WinTable.setGen w (!w.active) (WinTable.gen w w.active) with copying := false, restoring := false, ready := true } }

/-- Write a list of descriptors into the shadow. -/
def State.writeShadow (s : State) (l : List (Nat × BitVec 512)) : State :=
  let w := s.win
  let g := !w.active
  { s with win := WinTable.setGen w g (l.foldl (fun t p => Tab.set 0 t p.1 p.2) (WinTable.gen w g)) }

/-- A salvo's generation takes effect with acceptance time `a`, or waits until the pending one has switched (R207). -/
def State.salvoGeneration (s : State) (a : Nat) (l : List (Nat × BitVec 512)) : State :=
  if s.win.ready then ((s.writeShadow l).acceptGeneration a)
  else { s with win := { s.win with queued := s.win.queued ++ [l] } }

/-- GEN_SHADOW_COPY_COMPLETE (R205): a salvo generation that was waiting follows (R207). -/
def execGenShadowCopyComplete (t : Nat) (s : State) : Host.Outcome State Fault Refusal :=
  let s := s.at t
  if s.win.copying then
    let s := s.copyShadow
    match s.win.queued with
    | l :: q => .next (({ s with win := { s.win with queued := q } }).salvoGeneration s.now l)
    | [] => .next s
  else .next s

/-- SHADOW_RESTORE_COMPLETE (R206). -/
def execShadowRestoreComplete (t : Nat) (s : State) : Host.Outcome State Fault Refusal :=
  let s := s.at t
  if s.win.restoring then
    let s := s.copyShadow
    match s.win.queued with
    | l :: q => .next (({ s with win := { s.win with queued := q } }).salvoGeneration s.now l)
    | [] => .next s
  else .next s

/-- WINDOW_DESCRIPTOR_WRITE (R202): word `k` of window `w` in generation `g`. -/
def execWindowDescriptorWrite (t : Nat) (g : Bool) (w : Fin 8192) (k : Fin 16) (v : BitVec 32) (s : State) :
    Host.Outcome State Fault Refusal :=
  let s := s.at t
  if g = s.win.active ∨ ¬ s.win.open_ then .next s.refuseWin
  else
    let old := Tab.get 0 (WinTable.gen s.win g) w.val
    let m : BitVec 512 := BitVec.ofNat 512 (0xFFFFFFFF * 2 ^ (32 * k.val))
    .next (s.writeShadow [(w.val, (old &&& ~~~m) ||| BitVec.ofNat 512 (v.toNat * 2 ^ (32 * k.val)))])

/-! ## Coefficient banks (R216, R217) -/

/-- The banks of a unit. -/
def State.banksOf (s : State) : CoefUnit → Banks
  | .head n => (s.head n.val).banks
  | .engine n => (s.engine n.val).banks

/-- Set the banks of a unit. -/
def State.setBanks (s : State) (u : CoefUnit) (b : Banks) : State :=
  match u with
  | .head n => s.setHead n.val { s.head n.val with banks := b }
  | .engine n => s.setEngine n.val { s.engine n.val with banks := b }

/-- Count a refused request or write of a unit. -/
def State.refuseCoef (s : State) : CoefUnit → State
  | .head n => s.count (Reg.headCoefRefused n.val) 1
  | .engine n => s.count (Reg.sheetCoefRefused n.val) 1

/-- A window of a unit: one on the head's pipes, or a tile window of a sheet placed on the engine. -/
def State.unitShows (s : State) (u : CoefUnit) (d : Desc) : Bool :=
  match u with
  | .head n => !Desc.isTile d && Desc.tgt d == n.val
  | .engine n => Desc.isTile d && (s.sheet (Desc.tgt d)).created && (s.sheet (Desc.tgt d)).engine == n.val

/-- A bank is in use (R217). -/
def State.bankInUse (s : State) (u : CoefUnit) (b : Nat) : Bool :=
  let sel := fun (g : Bool) => (s.wins g).any (fun p => s.unitShows u p.2 && Desc.bank p.2 == b)
  sel s.win.active || ((s.win.open_ || s.win.pending || s.salvoGen) && sel (!s.win.active))

/-- OPEN is refused: the bank is in use, or on a sheet engine the other bank of its pair is (A1-01). -/
def State.openRefused (s : State) (u : CoefUnit) (b : Nat) : Bool :=
  s.bankInUse u b ||
    match u with
    | .head _ => false
    | .engine _ => s.bankInUse u (if b % 2 = 0 then b + 1 else b - 1)

/-- COEF_OPEN (R217, A1-01). -/
def execCoefOpen (t : Nat) (u : CoefUnit) (b : Fin 4) (s : State) : Host.Outcome State Fault Refusal :=
  let s := s.at t
  if s.openRefused u b.val then .next (s.refuseCoef u)
  else
    let x := s.banksOf u
    .next (s.setBanks u { x with state := Tab.set .valid x.state b.val .open_ })

/-- COEF_WRITE (R216, R217): a 32-bit word at byte offset 4 × `k` of a bank; reserved bytes read 0. -/
def execCoefWrite (t : Nat) (u : CoefUnit) (b : Fin 4) (k : Fin 1024) (v : BitVec 32) (s : State) :
    Host.Outcome State Fault Refusal :=
  let s := s.at t
  let x := s.banksOf u
  if Tab.get .valid x.state b.val = .open_ then
    let o := 4 * k.val
    if 0xA00 ≤ o ∨ (0x400 ≤ o ∧ o < 0x800 ∧ 12 ≤ o % 16) then .next s
    else
      let m := Tab.set none x.mem (0x1000 * b.val + o) (some (v.extractLsb' 0 16))
      .next (s.setBanks u { x with mem := Tab.set none m (0x1000 * b.val + o + 2) (some (v.extractLsb' 16 16)) })
  else .next (s.refuseCoef u)

/-- The taps of one phase of a table. -/
def phaseTaps (x : Banks) (bank table phase : Nat) : List Int :=
  (List.range (tapCount table)).map (fun i => bankCoef x bank table phase i)

/-- The first bad phase of a bank, in table order. -/
def firstBadPhase (x : Banks) (bank : Nat) : Option (Nat × Nat) :=
  ((List.range 3).flatMap (fun t => (List.range 64).map (fun p => (t, p)))).find? (fun q =>
    !phaseOk (phaseTaps x bank q.1 q.2))

/-- COEF_SEAL (R217). -/
def execCoefSeal (t : Nat) (u : CoefUnit) (b : Fin 4) (s : State) : Host.Outcome State Fault Refusal :=
  let s := s.at t
  let x := s.banksOf u
  if Tab.get .valid x.state b.val = .valid then .next s
  else
    match firstBadPhase x b.val with
    | none =>
      .next (s.setBanks u { x with
        state := Tab.set .valid x.state b.val .valid,
        hash := Tab.set none x.hash b.val (some (bankHash x b.val)) })
    | some q =>
      .next (s.setBanks u { x with
        state := Tab.set .valid x.state b.val .sealFailed, errTable := q.1, errPhase := q.2 })

/-! ## The background colour (R218, R246) -/

/-- BG_COLOR_WRITE (R218): takes effect at the head's next epoch; on a ready-driven head it is a ready instant. -/
def execBgColorWrite (t : Nat) (h : Fin 16) (v : BitVec 32) (s : State) : Host.Outcome State Fault Refusal :=
  let s := s.at t
  let x := s.head h.val
  let c := v &&& 0x3FFFFFFF
  let x := { x with bgNext := some c }
  let x := if x.state = .run then { x with readyAt := x.readyAt ++ [s.now] } else x
  .next (s.setHead h.val x)

/-! ## The safelight plane (R219, R223, R237) -/

/-- Write a request's part for head `h`, and its glyphs where no head has applied it yet (R223). -/
def applySafe (x : Safelight) (p : SafePending) (h : Nat) : Safelight :=
  let x := if p.counted then x else p.glyphs.foldl (fun x g =>
    { x with
      glyphs := (g.2.zip (List.range 1024)).foldl (fun t q => Tab.set 0 t (1024 * g.1 + q.2) q.1) x.glyphs }) x
  let pals := p.palette.foldl (fun t q => Tab.set 0 t (65536 * h + 16 * q.1 + q.2.1) q.2.2) x.palettes
  let cells := p.cells.foldl (fun t q => if q.1 = h then Tab.set 0 t (65536 * h + 120 * q.2.2.1 + q.2.1) q.2.2.2 else t) x.cells
  let by_ := match p.by_ with
    | .inst n => n + 1
    | _ => 0
  let writers := p.cells.foldl (fun t q => if q.1 = h then Tab.set 0 t (65536 * h + 120 * q.2.2.1 + q.2.1) by_ else t) x.writers
  { x with palettes := pals, cells := cells, writers := writers }

/-- Whether a request is due on head `h` at epoch `e`: receipt plus 2 ms has passed (R223). -/
def safeDue (p : SafePending) (h e : Nat) : Bool := p.heads.getLsbD h && decide (p.receipt + 2000000 ≤ e)

/-- Apply every request due on head `h` at epoch `e`, in receipt order. -/
def State.applyDue (s : State) (h e : Nat) : State :=
  let due := s.safe.queue.filter (fun p => safeDue p h e)
  let x := due.foldl (fun x p => applySafe x p h) s.safe
  let q := s.safe.queue.map (fun p =>
    if safeDue p h e then { p with heads := p.heads &&& ~~~(BitVec.ofNat 16 (2 ^ h)), counted := true } else p)
  let done := (q.filter (fun p => p.heads == 0)).length
  let s := { s with safe := { x with queue := q.filter (fun p => p.heads ≠ 0) } }
  (s.headCount h 15 due.length).count Reg.safeReqApplied done

/-- SAFELIGHT_APPLY (R223): at an epoch of head `h`; on a head that is not in RUN, no earlier than receipt plus 2 ms.
On a ready-driven head a request that falls due is a ready instant (R246). -/
def execSafelightApply (t : Nat) (h : Fin 16) (s : State) : Host.Outcome State Fault Refusal :=
  let s := s.at t
  let e := if (s.head h.val).state = .run then s.headEpoch h.val else s.now
  let due := s.safe.queue.any (fun p => safeDue p h.val e)
  let s := s.applyDue h.val e
  let x := s.head h.val
  .next (s.setHead h.val { x with
    mapCrc := s.mapCrc h.val, readyAt := if due && x.state == .run then x.readyAt ++ [s.now] else x.readyAt })

/-- CRC-32 of the glyph bank, in the layout of R219. -/
def State.glyphCrc (s : State) : BitVec 32 :=
  BitVec.ofNat 32 (crc32 ((List.range 1048576).map (fun i =>
    (Tab.get 0 s.safe.glyphs (2 * i)).toNat + 16 * (Tab.get 0 s.safe.glyphs (2 * i + 1)).toNat)))

/-- GLYPH_CRC_REFRESH (R237): once per second. -/
def execGlyphCrcRefresh (t : Nat) (s : State) : Host.Outcome State Fault Refusal :=
  let s := s.at t
  .next { s with safe := { s.safe with glyphCrc := s.glyphCrc } }

end Sys2Proof.Machine
end

