-- ==== Sys2Proof/Machine/Fetch.lean ====
section
/-! DEFINITION. Line buffers, prefetch and fetch urgency (R248 to R252). -/

namespace Sys2Proof.Machine

/-! ## What a pipe needs and holds (R214, R250) -/

/-- Lines of a pipe's main and latent buffer (R250). -/
def mainLines (pipe : Nat) : Nat := if pipe < 6 then 32 else 16
def latentLines (pipe : Nat) : Nat := if pipe < 6 then 8 else 4

/-- The source lines that destination row `dy` of a window needs (R214); a line holds its luma and the chroma stored with it. -/
def rowLines (d : Desc) (f : Frame) (dy : Nat) : List Nat :=
  let tv := if 6 ≤ Desc.pipe d then 2 else 1
  let p := srcPos (Desc.cropY d) (Desc.cropH d) (Desc.dstH d) dy
  let taps := fun (p : Int) (n : Nat) => (List.range (tapCount tv)).map (fun (t : Nat) =>
    (clampI 0 ((n : Int) - 1) ((splitPos p).1 + t - tapCentre tv)).toNat)
  let chroma := match f.fmt.kind with
    | .yuv420 => (taps (chromaY f.fmt.kind p) (ceilDiv f.h 2)).map (fun c => 2 * c)
    | _ => []
  (taps p f.h ++ chroma).eraseDups

/-- The rows of head `h` that a window shows. -/
def State.visibleRows (s : State) (h : Nat) (d : Desc) : List Nat :=
  let r := s.visible h d
  if rectEmpty r then [] else (List.range (r.y1 - r.y0).toNat).map (fun (i : Nat) => (r.y0 + i).toNat)

/-- The source lines that row `y` of a head needs of a window. -/
def State.needs (s : State) (d : Desc) (r : FrameRef) (y : Nat) : List Nat :=
  rowLines d (s.frame r) ((y : Int) - Desc.dstY d).toNat

/-- The windows of a pipe that a shot shows a frame in. -/
def pipeWins (z : Shot) (pipe : Nat) : List (Nat × Desc × FrameRef) :=
  (shotWins z).filterMap (fun q =>
    if Desc.pipe q.2 = pipe then (Tab.get none z.frames q.1).map (fun r => (q.1, q.2, r)) else none)

/-- Device time, ns, at which pixel (x, y) of a shot's active period is output. -/
def pixelTime (c : HeadCfg) (z : Shot) (x y : Nat) : Nat :=
  z.epoch + ((z.lines + y) * c.hTotal + x) * c.lineNum / (c.lineDen * c.hTotal)

/-- The rows of a window still to be scanned out, each with the instant of the window's first pixel in it. -/
def State.rowsAhead (s : State) (h : Nat) (z : Shot) (d : Desc) : List (Nat × Nat) :=
  let x0 := (s.visible h d).x0.toNat
  ((s.visibleRows h d).map (fun y => (y, pixelTime (s.head h).cfg z x0 y))).filter (fun p => decide (s.now ≤ p.2))

/-- A buffer holds a line of a window's frame. -/
def bufHas (l : List BufLine) (q : Nat × Desc × FrameRef) (line : Nat) : Bool :=
  l.contains ⟨q.1, q.2.2, q.2.1, line⟩

/-- The instant of the first pixel of a pipe still to come whose source lines a buffer lacks. -/
def State.firstMissing (s : State) (h pipe : Nat) (z : Shot) (l : List BufLine) : Option Nat :=
  let ts := (pipeWins z pipe).filterMap (fun q =>
    ((s.rowsAhead h z q.2.1).find? (fun p => !(s.needs q.2.1 q.2.2 p.1).all (bufHas l q))).map Prod.snd)
  ts.foldl (fun a t => some (min (a.getD t) t)) none

/-- Scan-out has passed the last row that needs a line of the main buffer. -/
def State.lineDone (s : State) (h : Nat) (z : Shot) (b : BufLine) : Bool :=
  !(s.rowsAhead h z b.desc).any (fun p => (s.needs b.desc b.frame p.1).contains b.line)

/-- Put a fetched line into a pipe's buffer: the latent one for a frame that a latch has fixed and scan-out has not begun, the main one
for the frame in scan-out. While the buffer is full nothing is fetched (R250, R251). -/
def State.fetchLine (s : State) (h pipe : Nat) (l : Bool × Nat × Nat) : State :=
  let x := s.head h
  let z := if l.1 then x.next else x.cur
  match (pipeWins z pipe).find? (fun q => q.1 == l.2.1) with
  | none => s
  | some q =>
    let b := Tab.get {} x.pipes pipe
    let line : BufLine := ⟨q.1, q.2.2, q.2.1, l.2.2⟩
    if l.1 then
      if x.shotDue && decide (b.latent.length < latentLines pipe) && !b.latent.contains line then
        s.setHead h { x with pipes := Tab.set {} x.pipes pipe { b with latent := b.latent ++ [line] } }
      else s
    else
      let kept := b.main.filter (fun m => !s.lineDone h x.cur m)
      let main := if kept.length < mainLines pipe ∧ ¬ kept.contains line then kept ++ [line] else kept
      s.setHead h { x with pipes := Tab.set {} x.pipes pipe { b with main := main } }

/-- When a frame's active period begins its latent lines become the main buffer's (R250). -/
def moveLines (t : Tab PipeBuf) : Tab PipeBuf := Tab.mapAll {} (fun _ (b : PipeBuf) => { main := b.latent, latent := [] }) t

/-! ## Prefetch (R248, R249) -/

/-- The epoch the next latch of a head will have: the next programmed one, or now on a ready-driven head. -/
def State.nextEpoch (s : State) (h : Nat) : Nat :=
  let c := (s.head h).cfg
  if c.ready then s.now else epochAtOrAfter c.t0 c.period (s.now + 1)

/-- Prefetch may start (R248): on a locked head no earlier than 64 lines before the latch line, on a ready-driven head no earlier than
the latch line of the frame in scan-out. -/
def State.prefetchTime (s : State) (h : Nat) : Bool :=
  let x := s.head h
  let c := x.cfg
  if c.ready then !x.shotDue && decide (pixelTime c x.cur 0 (c.vActive - c.lead) ≤ s.now)
  else decide (s.nextEpoch h * c.lineDen ≤ s.now * c.lineDen + 64 * c.lineNum)

/-- The candidate of a window (R248). -/
def State.candidate (s : State) (h : Nat) (src : Source) : Option FrameRef :=
  match s.latestOf (s.dueFrames (.head h) src (s.nextEpoch h)) with
  | some r => some r
  | none => s.givenFrame (.head h) src

/-- The first source lines a window needs, in the order its rows need them. -/
def State.firstLines (s : State) (h : Nat) (d : Desc) (r : FrameRef) (n : Nat) : List Nat :=
  (((s.visibleRows h d).flatMap (s.needs d r)).eraseDups).take n

/-- Take a window's prefetched lines out of the latent buffers. -/
def dropLatent (t : Tab PipeBuf) (win : Nat) : Tab PipeBuf :=
  Tab.mapAll {} (fun _ (b : PipeBuf) => { b with latent := b.latent.filter (fun l => l.win ≠ win) }) t

/-- Prefetch the first `n` lines of a window's candidate into its pipe's latent buffer. An earlier candidate that this one replaces is
discarded and counted (R248). -/
def State.prefetchLines (s : State) (h w : Nat) (d : Desc) (r : FrameRef) (n : Nat) : State :=
  let x := s.head h
  let old := x.prefetch.filter (fun p => p.win = w ∧ (p.frame ≠ r ∨ p.desc ≠ d))
  let pipes := if old.isEmpty then x.pipes else dropLatent x.pipes w
  let b := Tab.get {} pipes (Desc.pipe d)
  let new := ((s.firstLines h d r n).map (fun l => (⟨w, r, d, l⟩ : BufLine))).filter (fun l => !b.latent.contains l)
  let s := s.setHead h { x with
    prefetch := ⟨w, r, d⟩ :: x.prefetch.filter (fun p => p.win ≠ w),
    pipes := Tab.set {} pipes (Desc.pipe d) { b with latent := (b.latent ++ new).take (max (latentLines (Desc.pipe d)) b.latent.length) } }
  (s.headCount h 5 old.length).pmc (unitHead h) 4 old.length

/-- A speculative fault (R249): prefetch of the window stops until the latch. -/
def State.specFault (s : State) (h w : Nat) : State :=
  let x := s.head h
  (((s.setHead h { x with specFaults := w :: x.specFaults }).headCount h 6 1).pmc (unitHead h) 11 1).emit .headSpecFault h [w]

/-! ## Fetch urgency (R251, R252) -/

/-- The fetch level of a lookahead in ns (R251, R264). -/
def fetchLevel (wm look : Nat) : Nat :=
  if look < bits wm 15 8 * 1000 then 3 else if look < bits wm 7 0 * 1000 then 2 else 1

/-- The lookahead of a pipe, ns: from now to the first output pixel, of the frame in scan-out and of a latent one, whose lines are not
all buffered; none where everything is. -/
def State.lookahead (s : State) (h pipe : Nat) : Option Nat :=
  let x := s.head h
  let b := Tab.get {} x.pipes pipe
  let a := s.firstMissing h pipe x.cur b.main
  let c := if x.shotDue then s.firstMissing h pipe x.next b.latent else none
  match a, c with
  | some a, some c => some (min a c - s.now)
  | some a, none => some (a - s.now)
  | none, c => c.map (fun c => c - s.now)

/-- The level of a pipe (R251): idle where it shows no window, LOW where nothing it needs is missing. -/
def State.pipeLevel (s : State) (h pipe : Nat) : Nat :=
  let x := s.head h
  if (pipeWins x.cur pipe).isEmpty && !(x.shotDue && !(pipeWins x.next pipe).isEmpty) then 0
  else match s.lookahead h pipe with
    | none => 1
    | some l => fetchLevel (s.reg (Reg.headWm h)) l

/-- Bytes that a pipe fetched at URGENT beyond the owning instance's share (R252). -/
def State.countOverrun (s : State) (h i n : Nat) : State :=
  let x := s.head h
  let r := x.overRem + n
  let s := ((s.setHead h { x with overRem := r % 1024 }).headCount h 7 (r / 1024)).pmc (unitHead h) 10 (n / 64)
  let o := (s.inst i).overRem + n
  (s.setInst i { s.inst i with overRem := o % 1024 }).count (Reg.instOverrun i) (o / 1024)

/-- Bytes of an instance's surfaces fetched at a level (R252, R331): at URGENT what its bucket does not hold is an overrun. -/
def State.fetched (s : State) (h level i n : Nat) : State :=
  if level = 3 then
    let d := s.drawUrgent i n
    if d.2 = 0 then d.1 else d.1.countOverrun h i d.2
  else s.draw i n

/-- FETCH_LEVEL_CHANGE (R250 to R252, R331): `lines` are the source lines that a pipe has fetched since the last change, in order: for the
latent frame or the one in scan-out, window, line. `spans` are the bytes of surfaces fetched since then, by instance. LOW and NORMAL
fetches wait while an instance's bucket is empty: then none of them has been made. The level follows from the lookahead that the buffers
then give. -/
def execFetchLevelChange (t : Nat) (h : Fin 16) (pipe : Fin 8) (lines : List (Bool × Nat × Nat)) (spans : List (Nat × Nat)) (s : State) :
    Host.Outcome State Fault Refusal :=
  let s := (s.at t).syncHead h.val
  let was := Tab.get 0 (s.head h.val).levels pipe.val
  let waits : Bool := was != 3 && spans.any (fun p => !s.funded p.1)
  let s := if waits then s else spans.foldl (fun s p => s.fetched h.val was p.1 p.2) s
  let s := if waits then s else lines.foldl (fun s l => s.fetchLine h.val pipe.val l) s
  .next (s.setHead h.val { s.head h.val with
    levels := Tab.set 0 (s.head h.val).levels pipe.val (s.pipeLevel h.val pipe.val) })

end Sys2Proof.Machine
end

