-- ==== Sys2Proof/Machine/Scanout.lean ====
section
/-! DEFINITION. Latch commands, scan-out, underrun, starting and stopping a raster (R243 to R257), the DisplayPort
link (R258 to R262). -/

namespace Sys2Proof.Machine

/-- LATCH (R243, R240). -/
def execLatch (t : Nat) (h : Fin 16) (phase : Int) (bad : List Nat) (s : State) : Host.Outcome State Fault Refusal :=
  .next ((s.at t).latchLocked h.val phase bad)

/-- READY_DRIVEN_LATCH (R245, R246). -/
def execReadyDrivenLatch (t : Nat) (h : Fin 16) (line : Option Nat) (bad : List Nat) (s : State) :
    Host.Outcome State Fault Refusal := .next ((s.at t).latchReady h.val line bad)

/-- FORCED_LATCH (R245). -/
def execForcedLatch (t : Nat) (h : Fin 16) (bad : List Nat) (s : State) : Host.Outcome State Fault Refusal :=
  .next ((s.at t).latchForced h.val bad)

/-! ## Scan-out (R96, R185, R243, R247) -/

/-- Move a head's frames at the start of scan-out: LATENT is cleared and DISPLAY set; frames no window shows any more lose
DISPLAY (R185, R243). -/
def State.moveDisplay (s : State) (h : Nat) (old new : List FrameRef) : State :=
  let bit := BitVec.ofNat 16 (2 ^ h)
  let s := (old.filter (fun r => !new.contains r)).foldl (fun s r => s.modFrame r (fun f =>
    { f with markDisplay := f.markDisplay &&& ~~~bit })) s
  new.foldl (fun s r => s.modFrame r (fun f =>
    { f with markLatent := f.markLatent &&& ~~~bit, markDisplay := f.markDisplay ||| bit })) s

/-- The frames of a shot, each once. -/
def shotFrames (z : Shot) : List FrameRef := (z.frames.filterMap (fun p => p.2)).eraseDups

/-- A latch record in which the late windows' states read INVALID. -/
def patchRecord (late : List Nat) : List Nat → List Nat
  | w :: a :: b :: c :: t => (if late.contains w then [w, a, b, 3] else [w, a, b, c]) ++ patchRecord late t
  | l => l

/-- Windows whose tags were not read by their first active line are INVALID for the frame, each with TAG_LATE (R96); a late window that
shows a sheet has no state of its own, and the tile windows read through it are INVALID (R100). DEDUCED (log 174): a latch evaluates
at once, since a tally of its instant counts its outcome (R36); what it recorded of a window found late here stays on record.
-/
def State.tagLate (s : State) (h : Nat) (late : List Nat) : State :=
  let z := (s.head h).next
  let late := late.eraseDups.filter (fun w =>
    !z.late.contains w && (z.evals.any (fun v => v.1 == w) || Tab.get 0 z.desc w != 0))
  if late.isEmpty then s
  else
    let hit := (z.evals.filter (fun v => readFails late v.1 v.2)).map Prod.fst
    let fresh := (hit.filter (fun w => !isMarked (Tab.get {} z.views w).state)).length
    let s := hit.foldl (fun s w =>
      let d : Desc := Tab.get 0 z.desc w
      s.applyVerdict h w (if Desc.isTile d then Desc.tile d else 0xFFFF) z.epoch (Desc.source d) ⟨.invalid, .no, 0, 0⟩) s
    let s := s.reportLate h late (!z.late.isEmpty)
    let x := s.head h
    let s := if z.marked = 0 ∧ fresh ≠ 0 then s.headCount h 1 1 else s
    s.setHead h { s.head h with
      clean := x.clean - fresh, marked := x.marked + fresh, tagLate := z.late ++ late,
      next := { z with
        views := x.views, late := z.late ++ late, miss := true, clean := z.clean - fresh, marked := z.marked + fresh,
        record := patchRecord hit z.record } }

/-- Blank lines before the frame that now begins (R241, R247). -/
def blankLines (c : HeadCfg) (line : Option Nat) : Nat :=
  match line with
  | some j => if c.ready then max (j + c.lead) c.vMin else c.vMin
  | none => c.vMin

/-- SCANOUT_START (R243): line 0 of the raster after a latch. `late` are the windows whose tags are late (R96). The tap
captures a recorded frame (R265). -/
def execScanoutStart (t : Nat) (h : Fin 16) (late : List Nat) (s : State) : Host.Outcome State Fault Refusal :=
  let s := s.at t
  let x := s.head h.val
  if x.state = .run ∧ x.shotDue then
    let s := s.setHead h.val { x with tagLate := [] }
    let s := s.tagLate h.val late
    let s := s.moveDisplay h.val (shotFrames x.cur) (shotFrames x.next)
    let y := s.head h.val
    let s := s.setHead h.val { y with
      cur := y.next, shotDue := false, latched := false, blank := false, blankLast := blankLines y.cfg y.latchLine,
      underruns := [], underrunFirst := none, signature := [] }
    let s := s.setHead h.val { s.head h.val with pipes := moveLines (s.head h.val).pipes }
    .next (s.recCapture h.val)
  else .next s

/-- SIGNATURE_BLOCK_SEND (R254, R257, R305, R306): the end of a frame's active period. The frame's underrun event is raised, an enabled
stream has carried its pixels, its line signatures are complete, and an armed head's signature block goes to the partner. `fetched` and `latent` are the
64-byte units the pipes fetched for the frame and, of these, before its active period. -/
def execSignatureBlockSend (t : Nat) (h : Fin 16) (fetched latent : Nat) (s : State) : Host.Outcome State Fault Refusal :=
  let s := s.at t
  let x := s.head h.val
  if x.state = .run ∧ ¬ x.blank ∧ x.cur = {} then .next (s.setHead h.val { x with blank := true })
  else if x.state = .run ∧ ¬ x.blank then
    let u := unitHead h.val
    let s := ((s.pmc u 1 x.cfg.vActive).pmc u 5 fetched).pmc u 6 latent
    let s := match x.underrunFirst with
      | some (pipe, line, at_) => s.emitAt .headUnderrun h.val at_ [(pipe : Int), (line : Int), (x.underruns.length : Int)]
      | none => s
    let sigs := s.signatures h.val s.prot.development
    let s := if x.link.enabled then s.send (.stream h.val x.cfg.bpc10 x.cfg.limited (s.sentLines h.val s.prot.development)) else s
    let s := s.setHead h.val { s.head h.val with blank := true, signature := sigs }
    if s.pair.armed.getLsbD h.val then
      let z := x.cur
      let b : SigBlock :=
        { head := h.val, miss := z.miss, gap := z.gap, safeHold := z.safeHold, lines := x.cfg.vActive,
          key := Config.latchKey z.record, epoch := z.epoch,
          frameCrc := BitVec.ofNat 32 (crc32 (sigs.flatMap (fun c => (leBytes 4 c.toNat).map BitVec.toNat))), sigs := sigs }
      let s := { s with pair := { s.pair with ownBlocks := s.pair.ownBlocks ++ [b] } }
      .next (s.sendPair (.signature b))
    else .next s
  else .next s

/-! ## Underrun (R254) -/

/-- An output pixel of a pipe is an underrun pixel (R254). -/
def State.underrunPixel (s : State) (h pipe x y : Nat) : State :=
  let a := s.head h
  let first := a.underrunFirst.isNone
  let s := s.setHead h { a with
    underruns := (pipe, x, y) :: a.underruns, underrunFirst := some (a.underrunFirst.getD (pipe, y, s.now)),
    cur := { a.cur with miss := true } }
  let s := (s.headCount h 3 1).pmc (unitHead h) 3 1
  (if first && a.cur.late.isEmpty then s.headCount h 2 1 else s).recUnderrun h

/-! ## The DisplayPort link (R256, R258 to R262) -/

/-- HEAD_WIRING of a head (R427). -/
def State.wiring (s : State) (h : Nat) : Nat := (s.board.wiring[h]?).getD 0

/-- WIRED (R256). -/
def State.wired (s : State) (h : Nat) : Bool := bit (s.wiring h) 7

/-- Move a head to a state, with its event (R255). -/
def State.headTo (s : State) (h : Nat) (st : HeadState) : State :=
  let x := s.head h
  if x.state = st then s else (s.setHead h { x with state := st }).emit .headState h [x.state.code, st.code]

/-- Mbit/s of a link rate code, and lanes of a lane code (R258). -/
def linkRate : Nat → Nat
  | 0 => 1620
  | 1 => 2700
  | 2 => 5400
  | _ => 8100

def linkLanes (n : Nat) : Nat := 2 ^ n

/-- The nominal pixel clock in Hz, as a fraction (R239). -/
def pixNum (c : HeadCfg) : Nat := if c.ready then c.fpix else c.hTotal * c.vTotal * 1000000000
def pixDen (c : HeadCfg) : Nat := if c.ready then 1 else c.period

/-- The stream fits a link (R259). -/
def linkFits (c : HeadCfg) (rate lanes : Nat) : Bool :=
  decide (pixNum c * 3 * (if c.bpc10 then 10 else 8) * 1000 ≤ linkLanes lanes * linkRate rate * 1000000 * 776 * max (pixDen c) 1)

/-- The rate code of DPCD MAX_LINK_RATE and the lane code of MAX_LANE_COUNT (PRESUMED from DisplayPort 1.4a). -/
def sinkRate (v : Nat) : Nat := if v < 0x0A then 0 else if v < 0x14 then 1 else if v < 0x1E then 2 else 3
def sinkLanes (v : Nat) : Nat := if v % 32 < 2 then 0 else if v % 32 < 4 then 1 else 2

/-- The configurations that training tries, in order (R259): the lowest rate that fits at the maximum lane count, then fewer
lanes from the highest rate down, each only where the stream fits. -/
def linkTries (c : HeadCfg) (dpcd : Tab Nat) : List (Nat × Nat) :=
  let r := min c.maxRate (sinkRate (Tab.get 0 dpcd 1))
  let l := min c.maxLanes (sinkLanes (Tab.get 0 dpcd 2))
  let rates := (List.range (r + 1))
  ((rates.filter (fun q => linkFits c q l)).take 1).map (fun q => (q, l)) ++
    (List.range l).reverse.flatMap (fun n => (rates.reverse.filter (fun q => linkFits c q n)).map (fun q => (q, n)))

/-- The timing is among the sink's timings, its pixel clock within 0.5 %, or within its ranges (R261; PRESUMED, log 204). -/
def sinkTakes (c : HeadCfg) (k : Link) : Bool :=
  let f := pixNum c
  let d := pixDen c
  let lines := HeadCfg.hTotal c * d
  let near := fun (a : Nat) => decide ((((a * d : Nat) : Int) - f).natAbs * 200 ≤ f)
  k.timings.any (fun t => t.hActive == c.hActive && t.hTotal == HeadCfg.hTotal c && t.vActive == c.vActive && t.vTotal == HeadCfg.vTotal c &&
    near t.pixHz) ||
  k.ranges.any (fun r =>
    let slow := c.vActive + HeadCfg.vBlankMax c
    decide (r.minV * lines * slow ≤ f) && decide (f ≤ r.maxV * lines * HeadCfg.vTotal c) && decide (r.minH * 1000 * lines ≤ f) &&
      decide (f ≤ r.maxH * 1000 * lines) && decide (f ≤ r.maxPix * d))

/-- Compare the admitted timing `c` with a present sink's (R261): a difference is shown and raised, and the timing is driven anyway. -/
def State.checkSink (s : State) (h : Nat) (c : HeadCfg) : State :=
  let x := s.head h
  if !x.link.hpd || !x.admitted then s
  else
    let bad := !sinkTakes c x.link
    let s := s.setHead h { x with link := { x.link with sinkMismatch := bad } }
    if bad then s.emit .headSinkMismatch h [] else s

/-- Take TRAINED away, counting a link loss (R438). -/
def State.untrain (s : State) (h : Nat) : State :=
  let k := (s.head h).link
  let s := s.setHead h { s.head h with link := { k with trained := false, enabled := false, training := false } }
  if k.trained then s.headCount h 13 1 else s

/-- Ask for a training attempt: the configurations are tried from the first (R259, R429). -/
def State.askTraining (s : State) (h : Nat) : State :=
  let x := s.head h
  let tries := linkTries x.cfg x.link.dpcd
  if !(s.wired h && x.link.hpd && (x.state == .starting || x.state == .run)) then s
  else if tries.isEmpty then
    (s.setHead h { x with link := { x.link with insufficient := true } }).emit .headLinkInsufficient h []
  else (s.setHead h { x with link := { x.link with tries := tries, askedAt := s.now } }).askToken .training h

/-- HPD_PRESENT (R260, R261): HPD has been high for 100 ms. -/
def execHpdPresent (t : Nat) (h : Fin 16) (r : SinkRead) (s : State) : Host.Outcome State Fault Refusal :=
  let s := s.at t
  let x := s.head h.val
  if ¬ s.wired h.val ∨ x.link.hpd then .next s
  else
    let changed := !x.link.edid.isEmpty && x.link.edid != r.edid
    let s := s.setHead h.val { x with
      link := { x.link with
      hpd := true, dpcd := r.dpcd.foldl (fun t p => Tab.set 0 t p.1 p.2) [], edid := r.edid, timings := r.timings,
      ranges := r.ranges, sinkMismatch := false, down := false, insufficient := false, retrain := false, fails := [] } }
    let s := s.emit .headHpd h.val [1]
    let s := if changed then s.emit .headSinkChange h.val [] else s
    let s := s.checkSink h.val (x.nextCfg.getD x.cfg)
    .next (s.askTraining h.val)

/-- HPD_GONE (R260): HPD has been low for 2 ms; the transmitter idles. -/
def execHpdGone (t : Nat) (h : Fin 16) (s : State) : Host.Outcome State Fault Refusal :=
  let s := s.at t
  if (s.head h.val).link.hpd then
    let s := (s.untrain h.val).dropToken .training h.val
    let x := s.head h.val
    .next ((s.setHead h.val { x with link := { x.link with hpd := false, tries := [], down := false, retrain := false } }).emit
      .headHpd h.val [0])
  else .next s

/-- IRQ_HPD (R260): `ok` unless some lane has lost clock recovery, equalisation or alignment. -/
def execIrqHpd (t : Nat) (h : Fin 16) (ok : Bool) (s : State) : Host.Outcome State Fault Refusal :=
  let s := s.at t
  let x := s.head h.val
  if x.link.hpd then
    let s := s.count (Reg.headHpdIrqs h.val) 1
    if ¬ ok ∧ x.link.trained then
      let s := s.untrain h.val
      .next ((s.setHead h.val { s.head h.val with link := { (s.head h.val).link with retrain := true } }).askTraining h.val)
    else .next s
  else .next s

/-- The sink takes a down-spread link (DPCD 0x003 bit 0), and the head's OUTFMT.SSC asks for one (R258; the bit's place is PRESUMED from
DisplayPort 1.4a). -/
def spreads (c : HeadCfg) (dpcd : Tab Nat) : Bool := c.ssc && bit (Tab.get 0 dpcd 3) 0

/-- The pattern of channel equalisation: TPS4 at 8.1 Gbit/s (R258); below it TPS3 where the sink has it (DPCD 0x002 bit 6), else TPS2
(PRESUMED from DisplayPort 1.4a). -/
def trainPattern (rate : Nat) (dpcd : Tab Nat) : Nat := if rate = 3 then 4 else if bit (Tab.get 0 dpcd 2) 6 then 3 else 2

/-- LINK_TRAINING_ATTEMPT (R258 to R260): with its token granted, the first configuration left to try is trained, down-spread where the
sink and OUTFMT.SSC have it. -/
def execLinkTrainingAttempt (t : Nat) (h : Fin 16) (s : State) : Host.Outcome State Fault Refusal :=
  let s := s.at t
  let x := s.head h.val
  if s.hasToken .training h.val ∧ ¬ x.link.training ∧ ¬ x.link.tries.isEmpty then
    let s := if x.link.askedAt / 1000 < s.now / 1000 then s.pmc (unitHead h.val) 7 1 else s
    let k := x.link
    let spread := spreads x.cfg k.dpcd
    let dpcd := Tab.mod 0 k.dpcd 0x107 (fun v => v - b2n (bit v 4) * 16 + b2n spread * 16)
    let s := (s.setHead h.val { x with link := { k with training := true, spread := spread, dpcd := dpcd } }).count (Reg.headLinkTrains h.val) 1
    .next (k.tries.head?.elim s (fun q => s.send (.training h.val q.1 q.2 (trainPattern q.1 k.dpcd) spread)))
  else .next s

/-- The sink ignores MSA timing (R262: DPCD 0x007 bit 6; the bit's place is PRESUMED from DisplayPort 1.4a). -/
def sinkAsync (dpcd : Tab Nat) : Bool := bit (Tab.get 0 dpcd 7) 6

/-- Enable the stream on a trained link, but on a ready-driven head whose sink lacks Adaptive-Sync as ASYNC_REQ says (R262). -/
def State.enableStream (s : State) (h : Nat) : State :=
  let x := s.head h
  let noAsync := x.cfg.ready && !sinkAsync x.link.dpcd
  let dpcd := if x.cfg.ready then Tab.mod 0 x.link.dpcd 0x107 (fun v => if bit v 7 then v else v + 128) else x.link.dpcd
  let s := s.setHead h { x with
    link := { x.link with dpcd := dpcd, sinkNoAsync := noAsync, enabled := !(noAsync && x.cfg.asyncReq) } }
  if noAsync then s.emit .headSinkNoAsync h [] else s

/-- Training has succeeded: the stream is enabled (R259, R262). -/
def State.linkUp (s : State) (h rate lanes : Nat) : State :=
  let x := s.head h
  let s := s.setHead h { x with
    link := { x.link with
    training := false, trained := true, rate := rate, lanes := lanes, tries := [], fails := [], down := false,
    insufficient := false, retrain := false } }
  (s.emit .headLinkUp h []).enableStream h

/-- A training attempt has failed (R259, R260): the next configuration, three retrain failures within 1 s, or no configuration
left. -/
def State.trainFail (s : State) (h : Nat) : State :=
  let x := s.head h
  let k := x.link
  let fails := if k.retrain then s.now :: k.fails.filter (fun f => s.now < f + 1000000000) else k.fails
  let k := { k with training := false, tries := k.tries.drop 1, fails := fails }
  if k.retrain && decide (3 ≤ fails.length) then
    (s.setHead h { x with link := { k with down := true, retrain := false, tries := [], askedAt := s.now } }).emit .headLinkDown h []
  else if !k.tries.isEmpty then
    (s.setHead h { x with link := { k with askedAt := s.now } }).askToken .training h
  else if k.retrain then (s.setHead h { x with link := k }).askTraining h
  else if k.down then s.setHead h { x with link := k }
  else (s.setHead h { x with link := { k with insufficient := true } }).emit .headLinkInsufficient h []

/-- LINK_TRAINING_DONE (R259, R260). -/
def execLinkTrainingDone (t : Nat) (h : Fin 16) (ok : Bool) (s : State) : Host.Outcome State Fault Refusal :=
  let s := s.at t
  let k := (s.head h.val).link
  match k.training, k.tries with
  | true, (rate, lanes) :: _ =>
    let s := s.dropToken .training h.val
    if ok then .next (s.linkUp h.val rate lanes) else .next ((s.count (Reg.headLinkFails h.val) 1).trainFail h.val)
  | _, _ => .next s

/-- LINK_RETRY (R260): once per second while HPD is high, in LINK_DOWN. -/
def execLinkRetry (t : Nat) (h : Fin 16) (s : State) : Host.Outcome State Fault Refusal :=
  let s := s.at t
  let k := (s.head h.val).link
  if k.down ∧ k.hpd ∧ ¬ k.training ∧ k.askedAt + 1000000000 ≤ s.now then .next (s.askTraining h.val) else .next s

/-! ## Starting and stopping a raster (R103, R255, R348, R350) -/

/-- The touch ports that head `h` times, changed by `f`. -/
def State.syncedPorts (s : State) (h : Nat) (f : Touch → Touch) : State :=
  { s with
    console := { s.console with
    ports := Tab.mapAll {} (fun _ p => if p.cfg.en && p.cfg.head == h then f p else p) s.console.ports } }

/-- HEAD_RASTER_START (R255): the first epoch at least 2 ms after the timing was admitted; the head enters RUN, and its first
latch is due at once. A link trained before is kept where the stream fits it and its spread is the timing's; the stream on it then follows
R262 for the new timing. -/
def execHeadRasterStart (t : Nat) (h : Fin 16) (s : State) : Host.Outcome State Fault Refusal :=
  let s := s.at t
  let x := s.head h.val
  let a := x.admittedAt + 2000000
  let due := if x.cfg.ready then ceilDiv a 1000 * 1000 else epochAtOrAfter x.cfg.t0 x.cfg.period a
  if x.state = .starting ∧ due ≤ s.now then
    let s := s.syncHead h.val
    let s := (s.setHead h.val { s.head h.val with
      frames := 0, lastEpoch := none, shotDue := false, latched := false, blank := false, phaseOk := true, phase := 0,
      readyAt := if x.cfg.ready then [s.now] else [], pipes := [], cur := {}, next := {} }).headTo h.val .run
    let s := s.syncedPorts h.val (fun p => { p with nextSelf := false, frames := 0 })
    let k := (s.head h.val).link
    if k.trained ∧ linkFits x.cfg k.rate k.lanes ∧ k.spread = spreads x.cfg k.dpcd then .next (s.enableStream h.val)
    else .next ((s.untrain h.val).askTraining h.val)
  else .next s

/-- A head's raster stops: its frames are given up, its windows reset, its touch ports run on their own timers. -/
def State.stopRaster (s : State) (h : Nat) : State :=
  let s := s.syncHead h
  let x := s.head h
  let bit := BitVec.ofNat 16 (2 ^ h)
  let s := (shotFrames x.cur ++ shotFrames x.next).eraseDups.foldl (fun s r => s.modFrame r (fun f =>
    { f with markLatent := f.markLatent &&& ~~~bit, markDisplay := f.markDisplay &&& ~~~bit })) s
  let s := s.setHead h { s.head h with
    views := [], prefetch := [], levels := [], cur := {}, next := {}, shotDue := false, latched := false,
    readyAt := [], pipes := [], released := [], given := [] }
  let ports := (keys s.console.ports).filter (fun p =>
    let q := Tab.get {} s.console.ports p
    q.cfg.en && q.cfg.head == h && q.state == .synced)
  let s := s.syncedPorts h (fun p =>
    if p.state = .synced then { p with state := .free, freePeriod := x.cfg.periodNs } else p)
  (ports.foldl (fun s p => s.emit .tchSyncLost p []) s).settleAll

/-- HEAD_RASTER_STOP (R255): at the end of the active period after a change of timing was admitted. -/
def execHeadRasterStop (t : Nat) (h : Fin 16) (s : State) : Host.Outcome State Fault Refusal :=
  let s := s.at t
  let x := s.head h.val
  if x.state = .run ∧ (x.nextCfg.isSome ∨ ¬ x.admitted) then
    let s := s.stopRaster h.val
    match x.nextCfg with
    | some c => .next ((s.setHead h.val { s.head h.val with cfg := c, nextCfg := none }).headTo h.val .starting)
    | none =>
      let s := (s.setHead h.val { s.head h.val with cfg := {} }).headTo h.val .off
      .next (((s.untrain h.val).dropToken .training h.val).settleHead h.val)
  else .next s

end Sys2Proof.Machine
end

