-- ==== Sys2Proof/Machine/AdmCfg.lean ====
section
/-! DEFINITION. The admitted configuration as the checks and the units read it (R371, R383): the objects of the dictionary with
their fields, and each object's settings decoded. The subindex numbers of the fields are the model's own where the spec
gives names only. -/

namespace Sys2Proof.Machine

/-! ## Objects and fields (R371, R372, R383) -/

/-- A BOOL, a field of `n` bytes with default `d`, an opaque field (address, clockIdentity) of `n` bytes. -/
def fBool (sub d : Nat) : Field := { sub := sub, bytes := 1, dflt := d, max := 1 }
def fNum (sub n d : Nat) : Field := { sub := sub, bytes := n, dflt := d, max := 2 ^ (8 * n) - 1 }

/-- Fields numbered upward from a subindex, of the sizes and defaults given; size 0 stands for a BOOL. -/
def fieldsFrom (sub : Nat) : List (Nat × Nat) → List Field
  | [] => []
  | (0, d) :: t => fBool sub d :: fieldsFrom (sub + 1) t
  | (n, d) :: t => fNum sub n d :: fieldsFrom (sub + 1) t

/-- The object an index names (R371, R383). Bonds, the pair and the console's own settings have no index in the spec. -/
def objKind (i : Nat) : Option ObjKind :=
  if 0x4000 ≤ i ∧ i < 0x4080 then some (.chan (i - 0x4000))
  else if 0x4100 ≤ i ∧ i < 0x41A0 then some (.ctx (i - 0x4100))
  else if 0x4200 ≤ i ∧ i < 0x4208 then some (.salvo (i - 0x4200))
  else if 0x4300 ≤ i ∧ i < 0x4320 then some (.bond (i - 0x4300))
  else if 0x5000 ≤ i ∧ i < 0x5010 then some (.head (i - 0x5000))
  else if 0x5200 ≤ i ∧ i < 0x5210 then some (.recording (i - 0x5200))
  else if 0x5300 ≤ i ∧ i < 0x5320 then some (.sheet (i - 0x5300))
  else if 0x7010 ≤ i ∧ i < 0x7012 then some (.touch (i - 0x7010))
  else if 0x7100 ≤ i ∧ i < 0x7180 then some (.key (i - 0x7100))
  else if 0x7200 ≤ i ∧ i < 0x7240 then some (.rule (i - 0x7200))
  else if i = 0x7300 then some .console
  else if i = 0x8002 then some .pair
  else none

/-- The index of an object. -/
def ObjKind.index : ObjKind → Nat
  | .chan n => 0x4000 + n | .ctx n => 0x4100 + n | .salvo n => 0x4200 + n | .bond n => 0x4300 + n
  | .head n => 0x5000 + n | .recording n => 0x5200 + n | .sheet n => 0x5300 + n
  | .touch n => 0x7010 + n | .key n => 0x7100 + n | .rule n => 0x7200 + n | .console => 0x7300 | .pair => 0x8002

/-- Path fields of a context: EN, PORT, IPV6, SRC_FILT, UDP_PORT, DST, SRC (R148). -/
def pathFields : List (Nat × Nat) := [(0, 0), (1, 0), (0, 0), (0, 0), (2, 0), (16, 0), (16, 0)]

/-- The fields of an object, in the order of the registers that report them, each one size in bytes (0 BOOL) and default:
channel RELEASE_OFFSET, SILENCE_MS, BLAZE EN, X, Y, W, H, PERIOD; context START, KIND, CH, CODEC, PT, W, H, NUM, DEN, KBPS,
HOLDOFF, clock MODE, GM_ANY, DOMAIN_NUMBER, SR_MAX_AGE, MCLK_OFS, CLK_GM, SSRC_CFG, PATH_DOWN_MS, RETRY_MS, paths A and B, PROFILE, LEVEL,
BIT_DEPTH, CHROMA, SPLIT, K, DPB_DEPTH, REORDER, packetization-mode or sprop-max-don-diff, field-coded, High tier, monochrome or 4:4:4, first lane, CHAN,
FORMAT, relay EN, relay lane, relay CHAN; salvo BINDINGS, COMMIT_TIME; bond EN, WIDTH, RATE, ROLE; head HACTIVE, HFRONT, HSYNC,
HBACK, VACTIVE, VFRONT, VSYNC, VBACK, HPOL, VPOL, LEAD, MODE, P, T0, f_pix, VMAX, MAX_RATE, MAX_LANES, ASYNC_REQ, BPC, RANGE,
SSC; recording EN, SX, SY, D, K, OUT, PORT, QP_BASE, QP_MAX, BUCKET_MS, CAP_KBPS, GOP_LEN, LTR_PERIOD, RING_PAGES, index pages,
MTU, SSRC, PT, DST, UDP_PORT; sheet W, H, FORMAT, PERIOD, T0, BG; touch port EN, HEAD, DIV, GUARD, D, S, BURST, F_TX, TOUCH_TH,
LIFT_TH, SELF_TH, WATER_TH, SUSPECT_FRAC, DRIFT_SCANS, NOISE_TH, MAX_HOLD, DOWN_N, UP_N, OPEN_FRAC, SHORT_FRAC, PERIOD_S; key EN,
PORT, LINE, PRESS_N, RELEASE_N, PRESS_TH, RELEASE_TH; haptic rule EN, KEY, EDGE, WAVE, PRIO, OUT; console PORT_EN, KEY.MAX_HOLD;
pair EN, CMP_DELAY, CMD_LEAD, REF_HEAD, SKEW_MAX, JOIN_MAX. -/
def ObjKind.fields : ObjKind → List Field
  | .chan _ => fieldsFrom 1 [(4, 0), (4, 1000), (0, 0), (2, 0), (2, 0), (2, 0), (2, 0), (4, 0)]
  | .ctx _ => fieldsFrom 1 ([(0, 1), (1, 0), (1, 0xFF), (1, 0), (1, 96), (2, 0), (2, 0), (2, 0), (2, 0), (4, 0),
      (4, 10000), (1, 0), (0, 0), (1, 0), (1, 10), (4, 0), (8, 0), (4, 0), (2, 200), (2, 1000)] ++ pathFields ++ pathFields ++
      [(1, 0), (1, 0), (0, 0), (0, 0), (1, 0), (1, 1), (1, 1), (1, 0), (1, 0), (0, 0), (0, 0), (0, 0), (1, 0), (1, 1), (1, 0), (0, 0),
       (1, 0), (1, 0)])
  | .salvo _ => fieldsFrom 1 [(256, 0), (8, 0)]
  | .bond _ => fieldsFrom 1 [(0, 0), (1, 1), (1, 0), (1, 0)]
  | .head _ => fieldsFrom 1 [(2, 0), (2, 0), (2, 0), (2, 0), (2, 0), (2, 0), (2, 0), (2, 0), (0, 0), (0, 0), (2, 0), (1, 0),
      (4, 0), (8, 0), (4, 0), (2, 0), (1, 0), (1, 0), (0, 0), (0, 0), (0, 0), (0, 0)]
  | .recording _ => fieldsFrom 1 [(0, 0), (1, 0), (1, 0), (1, 0), (1, 0), (1, 0), (1, 0), (1, 30), (1, 42), (2, 1000), (4, 8000),
      (2, 1), (2, 0), (2, 1), (2, 1), (2, 1500), (4, 0), (1, 96), (16, 0), (2, 0)]
  | .sheet _ => fieldsFrom 1 [(2, 0), (2, 0), (1, 0), (4, 0), (8, 0), (4, 0)]
  | .touch _ => fieldsFrom 1 [(0, 0), (1, 0), (1, 0), (1, 2), (1, 0), (1, 0), (1, 8), (1, 10), (2, 64), (2, 32), (2, 48), (2, 32),
      (1, 32), (1, 16), (2, 16), (2, 60), (1, 2), (1, 2), (1, 128), (1, 128), (1, 1)]
  | .key _ => fieldsFrom 1 [(0, 0), (1, 0), (1, 0), (1, 0), (1, 0), (2, 0), (2, 0)]
  | .rule _ => fieldsFrom 1 [(0, 0), (1, 0), (1, 0), (1, 0), (1, 0), (1, 0)]
  | .console => fieldsFrom 1 [(1, 0), (2, 60)]
  | .pair => fieldsFrom 1 [(0, 0), (4, 50000), (2, 2000), (1, 0), (2, 100), (4, 10000)]

/-- The values that a field's register encoding reserves start here: KIND, RATE, MAX_LANES, SX, SY, EDGE at 3 (R148, R172, R264, R280,
R368). -/
def ObjKind.reserved : ObjKind → Nat → Option Nat
  | .ctx _, 2 => some 3
  | .bond _, 3 => some 3
  | .head _, 18 => some 3
  | .recording _, 2 => some 3
  | .recording _, 3 => some 3
  | .rule _, 3 => some 3
  | _, _ => none

/-- The field of a subindex. -/
def ObjKind.field (k : ObjKind) (sub : Nat) : Option Field := (ObjKind.fields k).find? (fun (f : Field) => f.sub == sub)

/-- The bytes of a subindex as a number; where nothing has been written, the field's default. -/
def settingOf (k : ObjKind) (x : Settings) (sub : Nat) : Nat :=
  match Tab.get [] x sub with
  | [] => match ObjKind.field k sub with
    | some f => f.dflt
    | none => 0
  | b :: t => leNat (b :: t)

/-- Staged settings laid over those in force (R374). -/
def overlay (old new : Settings) : Settings := new.foldl (fun (t : Settings) p => Tab.set [] t p.1 p.2) old

/-- An object as admitted. -/
def State.obj (s : State) (i : Nat) : Obj := Tab.get {} s.adm.objs i

/-- Replace an object. -/
def State.setObj (s : State) (i : Nat) (o : Obj) : State := { s with adm := { s.adm with objs := Tab.set {} s.adm.objs i o } }

/-! ## Objects decoded -/

/-- An address as its 16 bytes spell it: an IPv4 address is written IPv4-mapped (R383) and kept in the low four bytes (R148). -/
def addrOf (ipv6 : Bool) (v : Nat) : BitVec 128 := BitVec.ofNat 128 (if ipv6 then v else v / 2 ^ 96)

/-- A path of a context from its first subindex. -/
def pathOf (g : Nat → Nat) (b : Nat) : PathCfg :=
  { en := g b == 1, port := g (b + 1), ipv6 := g (b + 2) == 1, srcFilt := g (b + 3) == 1, udpPort := BitVec.ofNat 16 (g (b + 4)),
    dst := addrOf (g (b + 2) == 1) (g (b + 5)), src := addrOf (g (b + 2) == 1) (g (b + 6)) }

/-- The declaration in a context's settings; none where KIND names neither a network nor a Lusko stream. -/
def declOf (x : Settings) : Option Decl :=
  let g := settingOf (.ctx 0) x
  if g 2 = 1 then
    some (.net { codec := g 4, payloadType := g 5, w := g 6, h := g 7, num := g 8, den := g 9, kbps := g 10, holdoff := g 11,
                 clockMode := g 12, gmAny := g 13 == 1, domainNumber := BitVec.ofNat 8 (g 14), srMaxAge := g 15,
                 mclkOfs := BitVec.ofNat 32 (g 16), gm := BitVec.ofNat 64 (leNat (leBytes 8 (g 17)).reverse), ssrcCfg := BitVec.ofNat 32 (g 18),
                 pathDownMs := g 19, retryMs := g 20, pathA := pathOf g 21, pathB := pathOf g 28, profile := g 35,
                 level := g 36, tenBit := g 37 == 1, chroma422 := g 38 == 1, split := g 39, k := g 40, dpbDepth := g 41,
                 reorder := g 42, packing := g 43, fieldCoded := g 44 == 1, highTier := g 45 == 1,
                 oddChroma := g 46 == 1 })
  else if g 2 = 2 then
    some (.lusko { firstLane := g 47, chan := g 48, format := g 49, w := g 6, h := g 7, num := g 8, den := g 9, retryMs := g 20,
                   relay := if g 50 = 1 then some (g 51, g 52) else none })
  else none

/-- The channel a context's settings name; none for pre-roll. -/
def chOf (x : Settings) : Option Nat :=
  let c := settingOf (.ctx 0) x 3
  if c = 0xFF then none else some c

/-- The contexts admitted as running, with their declarations. -/
def State.aCtxs (s : State) : List (Nat × Decl) :=
  (s.adm.objs.filter (fun p => decide (0x4100 ≤ p.1) && decide (p.1 < 0x41A0) && p.2.on)).filterMap
    (fun p => (declOf p.2.set).map (fun d => (p.1 - 0x4100, d)))

/-- The declaration of a running context. -/
def State.aCtx (s : State) (n : Nat) : Option Decl := if (s.obj (0x4100 + n)).on then declOf (s.obj (0x4100 + n)).set else none

/-- The channel a running context is admitted to feed. -/
def State.aCh (s : State) (n : Nat) : Option Nat := if (s.obj (0x4100 + n)).on then chOf (s.obj (0x4100 + n)).set else none

/-- The context that feeds a channel. The states that prepared and committed salvos lead to are judged as well, and there it is the context
that the salvo binds (R143, R144, R200). -/
def State.aFeeder (s : State) (c : Nat) : Option Nat := ((s.aCtxs.filter (fun p => s.aCh p.1 == some c)).head?).map Prod.fst

/-- The channel whose terms size a context's pool: the one it feeds, or in pre-roll the one its salvo binding names (R184). -/
def State.aChannel (s : State) (n : Nat) : Option Nat :=
  match s.aCh n with
  | some c => some c
  | none => s.salvos.findSome? (fun (p : Nat × Salvo) =>
      if p.2.prepared then (p.2.bindings.find? (fun b => b.1 == n)).map Prod.snd else none)

/-- Blaze settings from a first field: EN, X, Y, W, H, PERIOD. -/
def blazeOf (g : Nat → Nat) (b : Nat) : BlazeCfg :=
  { en := g b == 1, x := g (b + 1), y := g (b + 2), w := g (b + 3), h := g (b + 4), period := g (b + 5) }

def State.aOffset (s : State) (c : Nat) : Nat := settingOf (.chan 0) (s.obj (0x4000 + c)).set 1
def State.aSilence (s : State) (c : Nat) : Nat := settingOf (.chan 0) (s.obj (0x4000 + c)).set 2
def State.aBlaze (s : State) (c : Nat) : BlazeCfg := blazeOf (settingOf (.chan 0) (s.obj (0x4000 + c)).set) 3

/-- A bond's settings. -/
def bondOf (x : Settings) : BondCfg :=
  let g := settingOf (.bond 0) x
  { en := g 1 == 1, width := g 2, rate := g 3,
    role := match g 4 with
      | 1 => .pair
      | 2 => .relay
      | 3 => .fixture
      | _ => .capture }

/-- The bonds that objects enable, by first lane. -/
def State.objBonds (s : State) : List (Nat × BondCfg) :=
  ((s.adm.objs.filter (fun p => decide (0x4300 ≤ p.1) && decide (p.1 < 0x4320) && p.2.on)).map
    (fun p => (p.1 - 0x4300, bondOf p.2.set))).filter (fun p => p.2.en)

/-- The rate of the pair link: as the bond of LN 28 is admitted, else the lowest with settings on all four lanes (R150, R159). -/
def State.pairRate (s : State) : Nat :=
  match s.objBonds.find? (fun p => p.1 == 28) with
  | some p => p.2.rate
  | none => ([0, 1].find? (fun r => [28, 29, 30, 31].all (fun l => ((s.board.laneEq[l]?).getD 0).getLsbD (8 * r + 7)))).getD 2

/-- The admitted bonds by first lane. Where the board record names a pair link, LN 28 to 31 form its ×4 bond (R150). -/
def State.aBonds (s : State) : List (Nat × BondCfg) :=
  if s.board.pairEn then
    (28, { en := true, width := 4, rate := s.pairRate, role := .pair }) :: s.objBonds.filter (fun p => p.1 != 28)
  else s.objBonds

/-- Head timing from settings. -/
def headOf (x : Settings) : HeadCfg :=
  let g := settingOf (.head 0) x
  { hActive := g 1, hFront := g 2, hSync := g 3, hBack := g 4, vActive := g 5, vFront := g 6, vSync := g 7, vBack := g 8,
    hPol := g 9 == 1, vPol := g 10 == 1, lead := g 11, mode := g 12, period := g 13, t0 := (g 14 : Int), fpix := g 15,
    vMax := g 16, maxRate := g 17, maxLanes := g 18, asyncReq := g 19 == 1, bpc10 := g 20 == 1, limited := g 21 == 1,
    ssc := g 22 == 1 }

/-- The admitted timing of a head. -/
def State.aHead (s : State) (h : Nat) : Option HeadCfg :=
  if (s.obj (0x5000 + h)).on then some (headOf (s.obj (0x5000 + h)).set) else none

/-- The heads with admitted timing. -/
def State.aHeads (s : State) : List (Nat × HeadCfg) :=
  (List.range 16).filterMap (fun h => (s.aHead h).map (fun c => (h, c)))

/-- A sheet's settings; it exists while its object is on. -/
def sheetOf (x : Settings) : SheetCfg :=
  let g := settingOf (.sheet 0) x
  { w := g 1, h := g 2, format := g 3, period := g 4, t0 := (g 5 : Int), bg := BitVec.ofNat 32 (g 6) }

def State.aSheet (s : State) (n : Nat) : Option SheetCfg :=
  if (s.obj (0x5300 + n)).on then some (sheetOf (s.obj (0x5300 + n)).set) else none

def State.aSheets (s : State) : List (Nat × SheetCfg) :=
  (List.range 32).filterMap (fun n => (s.aSheet n).map (fun c => (n, c)))

/-- A recording's settings; OUT bit 0 is the ring, bit 1 RTP. -/
def recOf (x : Settings) : RecCfg :=
  let g := settingOf (.recording 0) x
  { en := g 1 == 1, sx := 2 ^ g 2, sy := 2 ^ g 3, d := g 4 + 1, k := g 5 + 1, ring := bit (g 6) 0, rtp := bit (g 6) 1, port := g 7, qpBase := g 8,
    qpMax := g 9, bucketMs := g 10, capKbps := g 11, gopLen := g 12, ltrPeriod := g 13, ringPages := g 14, idxPages := g 15,
    mtu := g 16, ssrc := BitVec.ofNat 32 (g 17), pt := g 18, dst := BitVec.ofNat 128 (g 19), udpPort := BitVec.ofNat 16 (g 20) }

/-- The enabled recordings, each on a head with admitted timing. -/
def State.aRecs (s : State) : List (Nat × RecCfg) :=
  ((List.range 16).filterMap (fun r =>
    if (s.obj (0x5200 + r)).on then some (r, recOf (s.obj (0x5200 + r)).set) else none)).filter (fun p => p.2.en)

def touchOf (x : Settings) : TouchCfg :=
  let g := settingOf (.touch 0) x
  { en := g 1 == 1, head := g 2, div := g 3 + 1, guard := g 4, d := g 5, s := g 6, burst := g 7, ftx := g 8, touchTh := g 9,
    liftTh := g 10, selfTh := g 11, waterTh := g 12, suspectFrac := g 13, driftScans := g 14, noiseTh := g 15, maxHold := g 16,
    downN := g 17, upN := g 18, openFrac := g 19, shortFrac := g 20, periodS := g 21 }

def State.aTouch (s : State) (p : Nat) : TouchCfg :=
  if (s.obj (0x7010 + p)).on then touchOf (s.obj (0x7010 + p)).set else {}

def keyOf (x : Settings) : KeyCfg :=
  let g := settingOf (.key 0) x
  { en := g 1 == 1, port := g 2, line := g 3, pressN := g 4, releaseN := g 5, pressTh := g 6, releaseTh := g 7 }

def State.aKeys (s : State) : List (Nat × KeyCfg) :=
  ((s.adm.objs.filter (fun p => decide (0x7100 ≤ p.1) && decide (p.1 < 0x7180) && p.2.on)).map
    (fun p => (p.1 - 0x7100, keyOf p.2.set))).filter (fun p => p.2.en)

def ruleOf (x : Settings) : HapRule :=
  let g := settingOf (.rule 0) x
  { en := g 1 == 1, key := g 2, edge := g 3, wave := g 4, prio := g 5, out := BitVec.ofNat 8 (g 6) }

/-- The pair's admitted settings: EN, CMP_DELAY, CMD_LEAD, REF_HEAD, SKEW_MAX, JOIN_MAX. -/
def State.aPair (s : State) (f : Nat) : Nat := settingOf .pair (s.obj 0x8002).set f

/-- A pair is configured. -/
def State.aPairOn (s : State) : Bool := (s.obj 0x8002).on && s.aPair 1 == 1

/-! ## The admitted windows (R199, R200) -/

/-- The enabled windows of the generation accepted last. -/
def State.aWins (s : State) : List (Nat × Desc) := s.adm.wins.filter (fun p => Desc.en p.2)

/-- Those on a head's pipes, and the tile windows of a sheet. -/
def State.aHeadWins (s : State) (h : Nat) : List (Nat × Desc) :=
  s.aWins.filter (fun p => !Desc.isTile p.2 && Desc.tgt p.2 == h)
def State.aTileWins (s : State) (n : Nat) : List (Nat × Desc) :=
  s.aWins.filter (fun p => Desc.isTile p.2 && Desc.tgt p.2 == n)

/-- The heads and the sheets with an enabled window on a source. -/
def State.aHeadsOf (s : State) (x : Source) : List (Nat × HeadCfg) :=
  s.aHeads.filter (fun p => (s.aHeadWins p.1).any (fun w => Desc.source w.2 == x))
def State.aSheetsOf (s : State) (x : Source) : List (Nat × SheetCfg) :=
  s.aSheets.filter (fun p => (s.aTileWins p.1).any (fun w => Desc.source w.2 == x))

/-- The release offset of a channel towards a consumer of period `p` ns, µs (R32, R225). -/
def State.aOffsetFor (s : State) (c p : Nat) : Nat :=
  let o := s.aOffset c
  if o ≠ 0 then o
  else
    let k := match (s.aFeeder c).bind (fun n => s.aCtx n) with
      | some (.lusko _) => 1
      | _ => 2
    ceilDiv (k * p) 1000

/-- The release offset of a source, µs: a surface and a sheet use one period (R33, R225, R226). -/
def State.aSrcOffset (s : State) (x : Source) (p : Nat) : Nat :=
  match x with
  | .ch c => s.aOffsetFor c p
  | _ => ceilDiv p 1000

/-- Every offset of a channel that applies on a head or sheet showing it. -/
def State.aOffsets (s : State) (c : Nat) : List Nat :=
  (s.aHeadsOf (.ch c)).map (fun p => s.aOffsetFor c (HeadCfg.periodNs p.2)) ++
    (s.aSheetsOf (.ch c)).map (fun p => s.aOffsetFor c p.2.period)

/-- A created surface. -/
def State.aSurf (s : State) (n : Nat) : Option Surface := if (s.surf n).created then some (s.surf n) else none

/-- The pixel format of a surface (R209). -/
def surfKind : Nat → PixKind
  | 0 => .argb8888 | 1 => .xrgb8888 | 2 => .argb2101010 | 3 => .xrgb2101010 | _ => .rgb565

/-- A source's declared size and format, and whether it is RGB; none where a channel has no feeder (R200). -/
def State.aSource (s : State) : Source → Option (Nat × Nat × PixFmt)
  | .ch c => match (s.aFeeder c).bind (fun n => s.aCtx n) with
    | some (.net d) => some (d.w, d.h, declFmt d)
    | some (.lusko d) => some (d.w, d.h, luskoFmt d.format)
    | none => none
  | .surf n => (s.aSurf n).map (fun x => (x.w, x.h, ({ kind := surfKind x.format, ten := false } : PixFmt)))
  | .sheet n => (s.aSheet n).map (fun x => (x.w, x.h, ({ kind := if x.format = 0 then .yuv422 else .rgb, ten := true } : PixFmt)))

/-- Stored bytes per pixel, in eighths (R230). -/
def fmtBytes8 (f : PixFmt) : Nat :=
  let n := match f.kind with
    | .yuv420 => 12 | .yuv422 => 16 | .rgb => 24 | .rgb565 => 16
    | .argb8888 | .xrgb8888 | .argb2101010 | .xrgb2101010 => 32
  match f.kind with
  | .yuv420 | .yuv422 | .rgb => if f.ten then n * 5 / 4 else n
  | _ => n

/-! ## Fractions: charges are exact -/

/-- A non-negative fraction. -/
abbrev Frac := Nat × Nat

def fAdd (a b : Frac) : Frac := (a.1 * b.2 + b.1 * a.2, a.2 * b.2)
def fLe (a b : Frac) : Bool := decide (a.1 * b.2 ≤ b.1 * a.2)
def fMul (a b : Frac) : Frac := (a.1 * b.1, a.2 * b.2)
def fOf (n : Nat) : Frac := (n, 1)
def fSum (l : List Frac) : Frac := l.foldl (fun (a : Frac) b => let r := fAdd a b; let g := Nat.gcd r.1 r.2; (r.1 / max g 1, r.2 / max g 1)) (0, 1)
/-- `a / b` with a zero denominator taken as zero charge; such a declaration is refused before. -/
def fDiv (a b : Nat) : Frac := if b = 0 then (0, 1) else (a, b)

/-- The highest refresh of a head in Hz (R41, R241). -/
def refresh (c : HeadCfg) : Frac :=
  if c.ready then fDiv c.fpix (c.hTotal * (c.vActive + c.vMin)) else fDiv 1000000000 c.period

end Sys2Proof.Machine
end

