-- ==== Sys2Proof/Machine/AdmPool.lean ====
section
/-! DEFINITION. Pool pages (R45, R168, R184, R229, R271, R304, R328, R332): what each pool needs under the admitted
configuration, and the pages it is given, lowest free page first. -/

namespace Sys2Proof.Machine

/-- A page of DRAM (2 MiB units) belongs to the pool: zone 0 does not, and the top 128 MiB of a zone with inline ECC hold check
bits (R45). -/
def State.poolPage (s : State) (p : Nat) : Bool :=
  decide (512 ≤ p) && decide (p < 512 * s.adm.memSize) && (decide (p % 512 < 448) || !s.adm.ecc.getLsbD (p / 512))

/-- The pages of instances' page tables, by instance. -/
def State.mapped (s : State) (n : Nat) : List Nat := (s.inst n).pages.map (fun p => p.2 - 1)

/-- Some buffer of a pool carries a mark. -/
def marked (bufs : Tab Frame) : Bool := bufs.any (fun p => !p.2.isFree)

/-- Every pool page taken, mapped pages of instances included; a surface's pages that are no longer mapped are taken while a unit holds
a mark on one of its buffers (R337). -/
def State.usedPages (s : State) : List Nat :=
  s.ctxs.flatMap (fun p => p.2.pool ++ p.2.packetPool) ++
    s.surfs.flatMap (fun p => if marked p.2.bufs then p.2.pool else []) ++ s.sheets.flatMap (fun p => p.2.pool) ++
    s.recs.flatMap (fun p => p.2.pool ++ p.2.ringPool) ++ s.adm.tally ++ s.adm.retention ++
    s.insts.flatMap (fun p => s.mapped p.1)

/-- The lowest `n` pages from `p` upward that are free; `fuel` bounds the search. -/
def lowestFree (ok : Nat → Bool) : Nat → Nat → Nat → List Nat
  | 0, _, _ => []
  | _, _, 0 => []
  | fuel + 1, p, n + 1 => if ok p then p :: lowestFree ok fuel (p + 1) n else lowestFree ok fuel (p + 1) (n + 1)

/-- Resize a pool to `n` pages out of the common pool: it keeps its first pages and takes the lowest free ones; none where they
do not suffice. -/
def State.fromPool (s : State) (old : List Nat) (n : Nat) : Option (List Nat) :=
  let kept := (old.filter (fun p => s.poolPage p && !s.insts.any (fun i => (s.mapped i.1).contains p))).take n
  let used := s.usedPages
  let l := kept ++ lowestFree (fun p => s.poolPage p && !used.contains p) (512 * s.adm.memSize) 512 (n - kept.length)
  if l.length = n then some l else none

/-- Pages of instance `n`'s mapped pages in use by a pool. -/
def State.instUsed (s : State) (n : Nat) : List Nat :=
  let m := s.mapped n
  (s.ctxs.flatMap (fun p => p.2.pool) ++ s.surfs.flatMap (fun p => p.2.pool)).filter (fun p => m.contains p)

/-- Resize a pool to `n` pages out of an instance's mapped pages, lowest VPN first (R332). -/
def State.fromInst (s : State) (i : Nat) (old : List Nat) (n : Nat) : Option (List Nat) :=
  let m := s.mapped i
  let kept := (old.filter (fun p => m.contains p)).take n
  let used := s.instUsed i
  let l := kept ++ (m.filter (fun p => !used.contains p)).take (n - kept.length)
  if l.length = n then some l else none

/-! ## Sizes -/

/-- Pages of `n` buffers of `b` bytes, `ev` of them stand maps or ledgers: these lie in granules of their own, and a pool that would
not hold both rounded to granules takes one page more (R393). -/
def pagesOf (n b ev : Nat) : Nat :=
  let p := ceilDiv (n * b) 2097152
  if p * 512 < ceilDiv (n * (b - ev)) 4096 + ceilDiv (n * ev) 4096 then p + 1 else p

/-- Bytes of `n` tags for each stand of a buffer. -/
def tagBytes (w h n : Nat) : Nat := n * stands w * stands h

/-- Bytes of one buffer of `w` × `h` with `extra` bytes per stand (R168, R184, R271, R328). -/
def bufBytes (w h : Nat) (f : PixFmt) (extra : Nat) : Nat :=
  stands w * 64 * (stands h * 64) * fmtBytes8 f / 8 + extra * stands w * stands h

/-- HOLD of a context (R184). -/
def State.holdOf (s : State) (n num den : Nat) : Nat :=
  match s.aChannel n with
  | none => 1
  | some c =>
    ceilDiv ((s.aOffsets c).foldl max 0 * num) (1000000 * max den 1) + 1 + 2 * (s.aHeadsOf (.ch c)).length + (s.aSheetsOf (.ch c)).length

/-- N of a context: DPB_DEPTH + HOLD, or 1 + HOLD of a capture (R168, R184). -/
def State.ctxBuffers (s : State) (n : Nat) : Decl → Nat
  | .net d => d.dpbDepth + s.holdOf n d.num d.den
  | .lusko d => 1 + s.holdOf n d.num d.den

/-- Pages of a context's pool. -/
def State.ctxPages (s : State) (n : Nat) (d : Decl) : Nat :=
  match d with
  | .net x => pagesOf (s.ctxBuffers n d) (bufBytes x.w x.h (declFmt x) 20) (tagBytes x.w x.h 16)
  | .lusko x => pagesOf (s.ctxBuffers n d) (bufBytes x.w x.h (luskoFmt x.format) 20) (tagBytes x.w x.h 16)

/-- Format of a sheet's buffers (R224). -/
def sheetFmt (c : SheetCfg) : PixFmt := { kind := if c.format = 0 then .yuv422 else .rgb, ten := true }

/-- N and pages of a sheet's pool (R229). -/
def State.sheetBuffers (s : State) (n : Nat) : Nat := 3 + 2 * (s.aHeadsOf (.sheet n)).length
def State.sheetPages (s : State) (n : Nat) (c : SheetCfg) : Nat :=
  pagesOf (s.sheetBuffers n) (bufBytes c.w c.h (sheetFmt c) 68 + 8224) (tagBytes c.w c.h 64 + 8224)

/-- Size of a recording's pictures (R266). -/
def recW (h : HeadCfg) (c : RecCfg) : Nat := h.hActive / max c.sx 1
def recH (h : HeadCfg) (c : RecCfg) : Nat := h.vActive / max c.sy 1

/-- Pages of a recording's five buffers and of its rings (R271, R277). -/
def recPages (h : HeadCfg) (c : RecCfg) : Nat := pagesOf 5 (bufBytes (recW h c) (recH h c) { kind := .yuv420, ten := false } 4) 0
def recRings (c : RecCfg) : Nat := (if c.ring then c.ringPages else 0) + c.idxPages

/-- N and pages of a surface's pool (R328). -/
def State.surfBuffers (s : State) (n : Nat) : Nat := 2 + 2 * (s.aHeadsOf (.surf n)).length + (s.aSheetsOf (.surf n)).length
def State.surfPages (s : State) (n : Nat) (x : Surface) : Nat :=
  pagesOf (s.surfBuffers n) (bufBytes x.w x.h { kind := surfKind x.format, ten := false } 16) (tagBytes x.w x.h 16)

/-- Pages of the retention ring of a pair: 200 ms of every paired context's declared bitrate (R304). -/
def State.retentionPages (s : State) : Nat :=
  if s.aPairOn then
    ceilDiv ((s.aCtxs.map (fun p => match p.2 with
      | .net d => d.kbps * 25
      | .lusko _ => 0)).foldl (· + ·) 0) 2097152
  else 0

/-- The instance whose mapped pages hold a context's pool: one granted the channel it feeds (R182, R332). -/
def State.poolOwner (s : State) (n : Nat) : Option Nat :=
  match s.aCh n with
  | none => none
  | some c => (s.adm.grants.find? (fun p => match p.2 with
      | some g => g.chGrant.getLsbD c
      | none => false)).map Prod.fst

/-! ## Allocation -/

/-- A state being fitted with pages, and whether the common pool (MEM_CAPACITY) or an instance's pages (QUOTA 0x03) fell short. -/
structure Fit where
  s : State
  short : Bool
  quota : Bool

/-! Pools are fitted in two passes, so that pages given up under a request are free for what else it needs: first the pools that do not
grow (`grow` false), then all. -/

/-- Pages of a context's packet buffer (R137). -/
def packetPages : Decl → Nat
  | .net d => bufferCapacity d / 2097152
  | .lusko _ => 0

/-- The picture in work lies on a page of the pool that the pool `l` no longer has: buffer b takes the b-th run of buffer bytes (R182). -/
def losesPicture (c : Ctx) (l : List Nat) (d : Decl) : Bool :=
  match c.picture with
  | some p =>
    let b := match d with
      | .net x => bufBytes x.w x.h (declFmt x) 20
      | .lusko x => bufBytes x.w x.h (luskoFmt x.format) 20
    ((c.pool.drop (p.buf * b / 2097152)).take ((p.buf + 1) * b / 2097152 - p.buf * b / 2097152 + 1)).any (fun q => !l.contains q)
  | none => false

/-- Give a started context its buffer pool. Where it loses a page for good, the picture in work there is abandoned (R182). A pool that has lost pages to a revocation and would not grow stays as it is (R337). -/
def Fit.ctxBufs (f : Fit) (n : Nat) (d : Decl) : Fit :=
  let c := f.s.ctx n
  let need := f.s.ctxPages n d
  let got := match f.s.poolOwner n with
    | some i => f.s.fromInst i c.pool need
    | none => f.s.fromPool c.pool need
  match got with
  | some l =>
    let s := if losesPicture c l d then f.s.dropPicture n else f.s
    { f with
      s := s.setCtx n { s.ctx n with
      pool := l, nBufs := f.s.ctxBuffers n d, hold := match d with
        | .net x => f.s.holdOf n x.num x.den
        | .lusko x => f.s.holdOf n x.num x.den } }
  | none =>
    if need ≤ c.pool.length then f
    else if (f.s.poolOwner n).isSome then { f with quota := true } else { f with short := true }

/-- Give a started context its packet buffer, out of the common pool. -/
def Fit.ctxPackets (f : Fit) (n : Nat) (d : Decl) : Fit :=
  let c := f.s.ctx n
  match f.s.fromPool c.packetPool (packetPages d) with
  | some l => { f with s := f.s.setCtx n { c with packetPool := l } }
  | none => { f with short := true }

/-- Give a context its pages, or take them back once it is IDLE and no head, sheet or recorder shows a frame of it (R145). -/
def Fit.ctx (grow : Bool) (f : Fit) (n : Nat) : Fit :=
  let c := f.s.ctx n
  match f.s.aCtx n with
  | none =>
    if c.state ≠ .idle ∨ marked c.bufs ∨ (c.pool = [] ∧ c.packetPool = []) then f
    else { f with s := f.s.setCtx n { c with pool := [], nBufs := 0, packetPool := [] } }
  | some d =>
    if !grow && (decide (c.pool.length < f.s.ctxPages n d) || decide (c.packetPool.length < packetPages d)) then f
    else (f.ctxBufs n d).ctxPackets n d

/-- Give a sheet its pool. -/
def Fit.sheet (grow : Bool) (f : Fit) (n : Nat) : Fit :=
  let x := f.s.sheet n
  match f.s.aSheet n with
  | none => if x.pool = [] then f else { f with s := f.s.setSheet n { x with pool := [] } }
  | some c =>
    if !grow && decide (x.pool.length < f.s.sheetPages n c) then f else
    match f.s.fromPool x.pool (f.s.sheetPages n c) with
    | some l => { f with s := f.s.setSheet n { x with pool := l, nBufs := f.s.sheetBuffers n } }
    | none => { f with short := true }

/-- Give a recording its pool and rings; a disabled one frees them once its picture in progress has completed (R280). -/
def Fit.recording (grow : Bool) (f : Fit) (r : Nat) : Fit :=
  let x := f.s.recording r
  match f.s.aRecs.find? (fun p => p.1 == r), f.s.aHead r with
  | some (_, c), some h =>
    if !grow && (decide (x.pool.length < recPages h c) || decide (x.ringPool.length < recRings c)) then f else
    match f.s.fromPool x.pool (recPages h c) with
    | some l =>
      let s := f.s.setRecording r { x with pool := l }
      match s.fromPool x.ringPool (recRings c) with
      | some q => { f with s := s.setRecording r { s.recording r with ringPool := q } }
      | none => { f with short := true }
    | none => { f with short := true }
  | _, _ => if x.running ∨ x.pics ≠ [] ∨ (x.pool = [] ∧ x.ringPool = []) then f
      else { f with s := f.s.setRecording r { x with pool := [], ringPool := [] } }

/-- Give a surface its pool. -/
def Fit.surf (grow : Bool) (f : Fit) (n : Nat) : Fit :=
  let x := f.s.surf n
  if x.created && (grow || decide (f.s.surfPages n x ≤ x.pool.length)) then
    match f.s.fromInst x.owner x.pool (f.s.surfPages n x) with
    | some l => { f with s := f.s.setSurf n { x with pool := l, nBufs := f.s.surfBuffers n } }
    | none => if f.s.surfPages n x ≤ x.pool.length then f else { f with quota := true }
  else f

/-- Give the pair's retention ring its pages. -/
def Fit.retention (grow : Bool) (f : Fit) : Fit :=
  if !grow && decide (f.s.adm.retention.length < f.s.retentionPages) then f else
  match f.s.fromPool f.s.adm.retention f.s.retentionPages with
  | some l => { f with s := { f.s with adm := { f.s.adm with retention := l } } }
  | none => { f with short := true }

/-- Fit every pool to the admitted configuration: contexts, sheets, recordings, the retention ring, surfaces, each by index. -/
def State.fitPass (s : State) (grow : Bool) : Fit :=
  let f : Fit := ⟨s, false, false⟩
  let started := (s.adm.objs.filter (fun p => decide (0x4100 ≤ p.1) && decide (p.1 < 0x41A0))).map (fun p => p.1 - 0x4100)
  let stopped := (keys s.ctxs).filter (fun n => (s.aCtx n).isNone)
  let f := (stopped ++ started).foldl (Fit.ctx grow) f
  let f := (List.range 32).foldl (Fit.sheet grow) f
  let f := (List.range 16).foldl (Fit.recording grow) f
  let f := f.retention grow
  (keys s.surfs).foldl (Fit.surf grow) f

/-- Both passes. -/
def State.fitPools (s : State) : Fit := (s.fitPass false).s.fitPass true

end Sys2Proof.Machine
end

