-- ==== Sys2Proof/Machine/AdmCheck.lean ====
section
/-! DEFINITION. The admission checks on a configuration (R37 to R47, R99, R111, R147, R167, R178, R194, R228 to R233, R253, R263,
R281, R298, R321, R331, R349, R370, R431): every (class, detail) it fails. Each function takes the state in which the request is
judged, with the change already laid into the admitted configuration. -/

namespace Sys2Proof.Machine

/-- A failed check: class (R40) and detail. -/
abbrev Reason := Nat × Nat

def cDecode := 1
def cMemBw := 2
def cMem := 3
def cContexts := 4
def cScanline := 5
def cSheet := 6
def cPower := 7
def cScanout := 8
def cFormat := 9
def cLane := 10
def cQuota := 11
def cTiming := 12
def cMode := 13
def cBlob := 14

/-- The detail fails where the condition holds. -/
def chk (b : Bool) (c d : Nat) : List Reason := if b then [(c, d)] else []

/-- A number lies outside a range. -/
def outside (v lo hi : Nat) : Bool := decide (v < lo) || decide (hi < v)

/-! ## Contexts and channels (R147, R173, R194) -/

/-- Largest frame in macroblocks and macroblocks per second of an H.264 level, by level_idc (PRESUMED from ITU-T H.264, table
A-1). -/
def h264Level : Nat → Option (Nat × Nat)
  | 9 => some (99, 1485) | 10 => some (99, 1485) | 11 => some (396, 3000) | 12 => some (396, 6000) | 13 => some (396, 11880)
  | 20 => some (396, 11880) | 21 => some (792, 19800) | 22 => some (1620, 20250) | 30 => some (1620, 40500)
  | 31 => some (3600, 108000) | 32 => some (5120, 216000) | 40 => some (8192, 245760) | 41 => some (8192, 245760)
  | 42 => some (8704, 522240) | 50 => some (22080, 589824) | 51 => some (36864, 983040) | 52 => some (36864, 2073600)
  | _ => none

/-- Largest luma picture size and luma sample rate of an H.265 level, by level_idc (PRESUMED from ITU-T H.265, table A.8). -/
def h265Level : Nat → Option (Nat × Nat)
  | 30 => some (36864, 552960) | 60 => some (122880, 3686400) | 63 => some (245760, 7372800) | 90 => some (552960, 16588800)
  | 93 => some (983040, 33177600) | 120 => some (2228224, 66846720) | 123 => some (2228224, 133693440)
  | 150 => some (8912896, 267386880) | 153 => some (8912896, 534773760) | 156 => some (8912896, 1069547520)
  | 180 => some (35651584, 1069547520) | 183 => some (35651584, 2139095040) | 186 => some (35651584, 4278190080)
  | _ => none

/-- The limits of a declaration's level, in luma samples, with the highest level its profile allows (R173). -/
def levelOf (d : NetDecl) : Option (Nat × Nat) :=
  if d.codec = 0 then (h264Level d.level).map (fun p => (p.1 * 256, p.2 * 256))
  else if d.level ≤ 153 then h265Level d.level else none

/-- The samples a size takes under a level: whole macroblocks for H.264. -/
def levelSize (d : NetDecl) : Nat :=
  if d.codec = 0 then ceilDiv d.w 16 * ceilDiv d.h 16 * 256 else d.w * d.h

/-- A declared rate lies outside 1 to 120 Hz. -/
def rateBad (num den : Nat) : Bool := den == 0 || decide (num < den) || decide (120 * den < num)

/-- The FORMAT and TIMING details of a network declaration that need nothing else (R147, R173, R177, R194). -/
def netChecks (d : NetDecl) : List Reason :=
  chk (1 < d.codec) cFormat 0x01 ++ chk (d.codec == 0 && decide (2 ≤ d.packing)) cFormat 0x02 ++
  chk (d.codec == 1 && decide (1 ≤ d.packing)) cFormat 0x03 ++ chk d.fieldCoded cFormat 0x04 ++
  chk (outside d.w 128 4096 || outside d.h 96 2304 || d.w % 2 == 1 || d.h % 2 == 1) cFormat 0x05 ++
  chk (rateBad d.num d.den) cFormat 0x06 ++ chk (outside d.kbps 1 200000) cFormat 0x07 ++
  chk (outside d.payloadType 96 127) cFormat 0x08 ++ chk (2 < d.clockMode) cFormat 0x09 ++
  chk (d.pathB.en && !d.pathA.en) cFormat 0x0A ++
  chk (6 < d.profile || (d.codec == 0) != decide (d.profile ≤ 3) || d.highTier) cFormat 0x30 ++
  chk ((levelOf d).isNone || d.highTier) cFormat 0x31 ++
  chk (d.oddChroma || (d.tenBit && (decide (d.profile ≤ 2) || d.profile == 4)) || (d.chroma422 != (d.profile == 6))) cFormat 0x32 ++
  chk (outside d.dpbDepth 1 16) cFormat 0x33 ++
  chk (match levelOf d with
    | some (size, rate) => decide (size < levelSize d) || decide (8 * size < d.w * d.w) || decide (8 * size < d.h * d.h) ||
        decide (rate * d.den < levelSize d * d.num)
    | none => false) cFormat 0x34 ++
  chk (2 < d.split || (d.split ≠ 0 && (d.codec == 0 || outside d.k 2 4))) cFormat 0x35 ++
  chk (d.dpbDepth < d.reorder + 1) cFormat 0x36 ++
  chk (150000 < d.holdoff) cTiming 0x10 ++
  chk (outside d.pathDownMs 20 10000 || 60000 < d.retryMs) cTiming 0x12 ++ chk (outside d.srMaxAge 1 60) cTiming 0x13

/-- The details of a Lusko declaration (R147, R167). -/
def luskoChecks (d : LuskoDecl) : List Reason :=
  chk (3 < d.format) cFormat 0x50 ++
  chk (outside d.w 128 4096 || outside d.h 96 2304 || (d.format < 2 && d.w % 2 == 1)) cFormat 0x51 ++
  chk (rateBad d.num d.den) cFormat 0x52 ++ chk (60000 < d.retryMs) cTiming 0x12

/-- A blaze lies outside R111 on a source of a size and format; a source without a declared size defers that part (R200). -/
def blazeChecks (b : BlazeCfg) (src : Option (Nat × Nat × PixFmt)) : List Reason :=
  if b.en then
    chk (outside b.period 100 10000) cTiming 0x27 ++
    chk (b.w == 0 || b.h == 0 || decide (256 < b.w) || decide (64 < b.h) || match src with
      | some (w, h, f) => decide (w < b.x + b.w) || decide (h < b.y + b.h) ||
          ((f.kind == .yuv420 || f.kind == .yuv422) && (b.x % 2 == 1 || b.w % 2 == 1)) ||
          (f.kind == .yuv420 && (b.y % 2 == 1 || b.h % 2 == 1))
      | none => false) cTiming 0x28
  else []

/-- The offset checks of a channel (R32, R147, R186) under its feeder. Where a change of head timing makes an offset of R32 or R186
fail, the detail is 0x4A in place of 0x16 or 0x14 (R147, R263); `old` is the state before the request. -/
def State.offsetChecks (old s : State) (c : Nat) : List Reason :=
  let o := s.aOffset c
  let far := fun (p : Nat) => o != 0 && (decide (o * 1000 < p) || decide (8 * p < o * 1000))
  let heads := (s.aHeadsOf (.ch c)).map (fun p => (decide (old.aHead p.1 ≠ some p.2), HeadCfg.periodNs p.2))
  let sheets := (s.aSheetsOf (.ch c)).map (fun p => p.2.period)
  chk (heads.any (fun p => !p.1 && far p.2) || sheets.any far) cTiming 0x16 ++ chk (heads.any (fun p => p.1 && far p.2)) cTiming 0x4A ++
  match (s.aFeeder c).bind (fun n => s.aCtx n) with
  | some (.net d) =>
    let early := fun (p : Nat) =>
      decide (s.aOffsetFor c p * max d.num 1 < d.holdoff * max d.num 1 + (d.reorder + 1) * 1000000 * d.den)
    chk ((s.aOffsets c).any (fun x => decide (x < 2 * d.holdoff))) cTiming 0x11 ++
    chk (heads.any (fun p => !p.1 && early p.2) || sheets.any early) cTiming 0x14 ++
    chk (heads.any (fun p => p.1 && early p.2)) cTiming 0x4A
  | _ => []

/-- The checks of every channel. -/
def State.chanChecks (old s : State) : List Reason :=
  (List.range 128).flatMap (fun c =>
    let o := s.obj (0x4000 + c)
    (if o = {} then [] else
      chk (outside (s.aSilence c) 100 60000) cTiming 0x12 ++ blazeChecks (s.aBlaze c) (s.aSource (.ch c))) ++
    (if (s.aHeadsOf (.ch c)).isEmpty && (s.aSheetsOf (.ch c)).isEmpty then [] else old.offsetChecks s c))

/-- Every enabled flow-table entry (R126). -/
def State.flows (s : State) : List (Nat × BitVec 128 × BitVec 16) :=
  s.aCtxs.flatMap (fun p => match p.2 with
    | .net d => (if d.pathA.en then [(d.pathA.port, d.pathA.dst, d.pathA.udpPort)] else []) ++
        (if d.pathB.en then [(d.pathB.port, d.pathB.dst, d.pathB.udpPort)] else [])
    | .lusko _ => [])

/-- A list holds something twice. -/
def twice {α : Type} [DecidableEq α] : List α → Bool
  | [] => false
  | x :: t => t.contains x || twice t

/-- The checks of every running context, and of the contexts as a whole. -/
def State.ctxChecks (s : State) : List Reason :=
  s.aCtxs.flatMap (fun p => (match p.2 with
    | .net d => netChecks d
    | .lusko d => luskoChecks d) ++ chk (128 < s.ctxBuffers p.1 p.2) cTiming 0x15) ++
  ((keys s.adm.objs).filter (fun i => decide (0x4100 ≤ i) && decide (i < 0x41A0))).flatMap (fun i =>
    chk ((s.obj i).on && (declOf (s.obj i).set).isNone) cFormat 0x0B) ++
  (let fed := s.aCtxs.filterMap (fun p => s.aCh p.1)
   chk (128 < fed.length) cContexts 0x02 ++ chk (twice fed || fed.any (fun c => decide (127 < c))) cContexts 0x04) ++
  chk (twice s.flows) cContexts 0x03

/-! ## Decode (R42, R174, R178) -/

/-- The decode charge of a declaration, pixel/s: the format factor is in hundredths (R42, R174). -/
def decodeCharge (d : NetDecl) : Frac :=
  fMul (fDiv (d.w * d.h * d.num) d.den) ((if d.chroma422 then 160 else if d.tenBit then 125 else 100), 100)

/-- One part to be placed: owner, part, charge, bit rate in bit/s as a fraction. -/
structure PackPart where
  owner : Nat
  part : Nat
  charge : Frac
  rate : Frac

/-- The parts of a context (R178). -/
def decodeParts (n : Nat) (d : NetDecl) : List PackPart :=
  let c := decodeCharge d
  if d.split = 0 then [⟨n, 0, c, fOf (d.kbps * 1000)⟩]
  else (List.range d.k).map (fun i => ⟨n, i, fMul c (11, 10 * max d.k 1), (d.kbps * 1000, max d.k 1)⟩)

/-- The order of R178: charge and bit rate descending, then owner and part ascending. -/
def partBefore (a b : PackPart) : Bool :=
  if !fLe a.charge b.charge then true else if !fLe b.charge a.charge then false
  else if !fLe a.rate b.rate then true else if !fLe b.rate a.rate then false
  else decide (a.owner < b.owner) || (a.owner == b.owner && decide (a.part < b.part))

/-- Insert a part in order. -/
def insertPart (x : PackPart) : List PackPart → List PackPart
  | [] => [x]
  | y :: t => if partBefore x y then x :: y :: t else y :: insertPart x t

/-- A core being packed: whether it is isolated (R419), its parts (owner, part), charge and bit rate. -/
structure PackCore where
  off : Bool := false
  parts : List (Nat × Nat) := []
  charge : Frac := (0, 1)
  rate : Frac := (0, 1)

/-- Place a part on the lowest core with room; none where no core has. -/
def placePart (cap rateCap : Nat) (p : PackPart) : List PackCore → Option (List PackCore)
  | [] => none
  | c :: t =>
    if !c.off && fLe (fAdd c.charge p.charge) (fOf cap) && fLe (fAdd c.rate p.rate) (fOf rateCap) && !c.parts.any (fun x => x.1 == p.owner) then
      some ({ c with parts := c.parts ++ [(p.owner, p.part)], charge := fAdd c.charge p.charge, rate := fAdd c.rate p.rate } :: t)
    else (placePart cap rateCap p t).map (fun t => c :: t)

/-- The packing of R178 over empty cores, `iso` telling which of the `cores` are isolated. -/
def packParts (cores : Nat) (iso : Nat → Bool) (cap rateCap : Nat) (l : List PackPart) : Option (List PackCore) :=
  (l.foldr insertPart []).foldl (fun (a : Option (List PackCore)) p => a.bind (fun cs => placePart cap rateCap p cs))
    (some ((List.range cores).map (fun k => ({ off := iso k } : PackCore))))

/-- The decode parts of every running network context. -/
def State.allParts (s : State) : List PackPart :=
  s.aCtxs.flatMap (fun p => match p.2 with
    | .net d => decodeParts p.1 d
    | .lusko _ => [])

/-- The decode packing (R178). -/
def State.decodePack (s : State) : Option (List PackCore) := packParts 16 (fun k => s.mode.isoCore.getLsbD k) 625000000 1000000000 s.allParts

/-- DECODE_RATE, in the order R178 lists its checks: the first that fails. -/
def State.decodeChecks (s : State) : List Reason :=
  let charges := s.aCtxs.filterMap (fun p => match p.2 with
    | .net d => some (d.split, decodeCharge d, d.k)
    | .lusko _ => none)
  if !fLe (fSum (charges.map (fun x => x.2.1))) (fOf 10000000000) then [(cDecode, 1)]
  else if charges.any (fun x => x.1 == 0 && !fLe x.2.1 (fOf 625000000)) then [(cDecode, 3)]
  else if charges.any (fun x => x.1 != 0 && !fLe (fMul x.2.1 (11, 10 * max x.2.2 1)) (fOf 625000000)) then [(cDecode, 4)]
  else if s.decodePack.isNone then [(cDecode, 2)]
  else []

/-! ## Lusko bonds and the pair link (R150, R159, R167, R298) -/

/-- Columns of a packet of `p` payload bytes on a bond `n` wide (R167). -/
def cols (n p : Nat) : Nat := ceilDiv (12 + p) (max n 1) + 3

/-- Bits per pixel of a capture format (R162). -/
def luskoBpp (f : Nat) : Nat := if f < 2 then (if f % 2 = 1 then 20 else 16) else if f % 2 = 1 then 30 else 24

/-- The charge of a capture on a bond `n` wide, columns/s (R167). -/
def captureCharge (n : Nat) (d : LuskoDecl) : Frac :=
  fDiv (d.num * (d.h * cols n (8 + ceilDiv (d.w * luskoBpp d.format) 8) + cols n 32 + cols n 16)) d.den

/-- The sum of charges is within `permille` of a bond's capacity (R167). -/
def withinCapacity (b : BondCfg) (charge : Frac) (permille : Nat) : Bool :=
  fLe charge (baudOf b.rate / 10 * 1023 * permille, 1024 * 1000)

/-- The captures of a bond, by its first lane. -/
def State.bondCaptures (s : State) (l : Nat) : List LuskoDecl :=
  s.aCtxs.filterMap (fun p => match p.2 with
    | .lusko d => if d.firstLane = l then some d else none
    | .net _ => none)

/-- The captures a bond relays (R166). -/
def State.bondRelays (s : State) (l : Nat) : List LuskoDecl :=
  s.aCtxs.filterMap (fun p => match p.2 with
    | .lusko d => match d.relay with
      | some (q, _) => if q = l then some d else none
      | none => none
    | .net _ => none)

/-- The charge of the pair link's transmit direction, columns/s, on a ×4 bond (R298). -/
def State.pairCharge (s : State) : Frac :=
  let bytes := fun (n : Nat) => ceilDiv n 16384 * cols 4 16384
  let surf := (s.surfs.filter (fun p => p.2.created)).map (fun p =>
    fOf (p.2.maxRate * bytes (p.2.w * p.2.h * fmtBytes8 { kind := surfKind p.2.format, ten := false } / 8)))
  let ctx := s.aCtxs.map (fun p => match p.2 with
    | .net d => fMul (fDiv d.num d.den) (fOf (cols 4 64))
    | .lusko d => fMul (fDiv d.num d.den) (fOf (cols 4 (64 + 8 * stands d.h))))
  let sig := s.aHeads.map (fun p => fMul (refresh p.2) (fOf (bytes (64 + 4 * p.2.vActive))))
  fAdd (fSum (surf ++ ctx ++ sig)) (fOf (1000 * cols 4 16 + 10 * cols 4 256))

/-- The checks of bonds and captures. -/
def State.laneChecks (s : State) : List Reason :=
  let bonds := s.aBonds
  let lanesOf := fun (p : Nat × BondCfg) => (List.range p.2.width).map (fun i => p.1 + i)
  let pair := if s.board.pairEn then [28, 29, 30, 31] else []
  bonds.flatMap (fun p =>
    let b := p.2
    chk (!(b.width == 1 || b.width == 2 || b.width == 4) || p.1 % max b.width 1 ≠ 0 || decide (32 < p.1 + b.width)) cLane 0x02 ++
    chk ((b.role == .pair) != (s.board.pairEn && p.1 == 28) || (p.1 ≠ 28 && (lanesOf p).any (fun l => pair.contains l)) ||
      bonds.any (fun q => q.1 != p.1 && (lanesOf q).any (fun l => (lanesOf p).contains l))) cLane 0x03 ++
    chk (decide (2 < b.rate) || (lanesOf p).any (fun l => !((s.board.laneEq[l]?).getD 0).getLsbD (8 * b.rate + 7))) cLane 0x04 ++
    chk (!withinCapacity b (fSum ((s.bondCaptures p.1).map (captureCharge b.width))) 980 ||
      !withinCapacity b (fAdd (fOf (if b.role = .capture then 1000 * cols b.width 16 else 0))
        (fSum ((s.bondRelays p.1).map (captureCharge b.width)))) 980) cLane 0x01 ++
    chk (twice ((s.bondCaptures p.1).map (fun d => d.chan)) ||
      (b.role == .capture && (s.bondCaptures p.1).any (fun d => d.chan == 0))) cFormat 0x53 ++
    chk (b.role == .relay && decide (1 < (s.bondRelays p.1).length)) cLane 0x03 ++
    chk (b.role == .pair && s.aPairOn && !withinCapacity b s.pairCharge 750) cLane 0x05) ++
  -- a capture arrives on a bond from a bridge, or on a relay bond from another W128, and is relayed on a relay bond alone (R166)
  chk (s.aCtxs.any (fun p => match p.2 with
    | .lusko d => !bonds.any (fun q => q.1 == d.firstLane && (q.2.role == .capture || q.2.role == .relay)) ||
      (match d.relay with
      | some (l, _) => !bonds.any (fun q => q.1 == l && q.2.role == .relay)
      | none => false)
    | .net _ => false)) cLane 0x03 ++
  -- whatever the object of LN 28 says of a pair link's bond beside its rate, it is that bond (R150)
  chk (s.board.pairEn && s.objBonds.any (fun p => p.1 == 28 && (p.2.role != .pair || p.2.width != 4))) cLane 0x03

/-! ## Heads (R263) -/

/-- The timing checks of a head. -/
def State.headChecks (s : State) (h : Nat) (c : HeadCfg) : List Reason :=
  let w := s.wiring h
  let r := refresh c
  let longest : Frac := fDiv ((c.vActive + c.vBlankMax) * c.lineNum) c.lineDen
  chk (outside c.hActive 640 3840 || c.hActive % 2 == 1 || outside c.vActive 480 2160) cTiming 0x40 ++
  chk (c.hFront == 0 || c.hSync == 0 || c.hBack == 0 || decide (c.hTotal < c.hActive + 80)) cTiming 0x41 ++
  chk (c.vFront == 0 || c.vSync == 0 || c.vBack == 0 || decide (c.vMin < 8)) cTiming 0x42 ++
  chk (decide (pixNum c < 25000000 * pixDen c) || decide (600000000 * pixDen c < pixNum c)) cTiming 0x43 ++
  chk (c.mode == 0 && outside c.period 8333334 41666667) cTiming 0x44 ++
  chk (decide (c.lead < 8) || decide (c.vActive < 2 * c.lead) || decide (c.lead * c.lineNum < 150000 * c.lineDen)) cTiming 0x45 ++
  chk (c.mode == 1 && (outside c.vMax c.vMin 8191 || !fLe longest (fOf 50000000))) cTiming 0x46 ++
  chk (!fLe (fMul (fOf (c.hActive * c.vActive)) r) (fOf 497664000)) cTiming 0x47 ++
  chk (bit w 7 && !linkFits c c.maxRate c.maxLanes) cTiming 0x48 ++
  chk (decide (2 < c.maxLanes) || (bit w 7 && (decide (bits w 1 0 < c.maxRate) || decide (bits w 5 4 < c.maxLanes)))) cTiming 0x49 ++
  chk (decide (1 < c.mode) || decide (3 < c.maxRate)) cTiming 0x4B

/-! ## Windows (R99, R200, R215, R232, R233) -/

/-- A field of a descriptor holds a reserved value or a reserved bit is set, TREAT fields apart (R232). -/
def descReserved (d : Desc) : Bool :=
  Desc.fld d 224 288 != 0 || Desc.fld d 182 10 != 0 || Desc.fld d 13 3 != 0 || Desc.fld d 7 1 != 0 ||
  Desc.srcKind d == 3 || Desc.alphaMode d == 3 || Desc.range d == 3 || (!Desc.isTile d && decide (15 < Desc.tgt d))

/-- The ratio `dst / crop` lies outside R215. -/
def ratioBad (tile : Bool) (dst crop : Nat) : Bool :=
  if tile then decide (dst * 16 < crop) || decide (4 * crop < dst) else decide (dst * 8 < crop) || decide (16 * crop < dst)

/-- The bank a window names is OPEN or SEAL_FAILED; `place` gives the engine of each sheet in the judged state (R228). -/
def State.bankBad (s : State) (place : List (Nat × Nat)) (d : Desc) : Bool :=
  let e := ((place.find? (fun p => p.1 == Desc.tgt d)).map Prod.snd).getD (s.sheet (Desc.tgt d)).engine
  let b := if Desc.isTile d then (s.engine e).banks else (s.head (Desc.tgt d)).banks
  match Tab.get .valid b.state (Desc.bank d) with
  | .valid => false
  | _ => true

/-- A surface format with per-pixel alpha (R209). -/
def State.srcAlpha (s : State) : Source → Bool
  | .surf n => (s.surf n).format == 0 || (s.surf n).format == 2
  | _ => false

/-- The source of a descriptor does not exist (R232, 0x61). -/
def State.srcMissing (s : State) : Source → Bool
  | .ch c => decide (127 < c)
  | .surf n => (s.aSurf n).isNone
  | .sheet n => decide (31 < n) || (s.aSheet n).isNone

/-- The FORMAT details of one window, `place` the engines of the sheets. -/
def State.winFormat (s : State) (place : List (Nat × Nat)) (d : Desc) : List Reason :=
  let src := Desc.source d
  let tile := Desc.isTile d
  let noTreat := Desc.treatStale d == 0 && Desc.treatSnag d == 0 && Desc.treatInvalid d == 0
  chk (descReserved d) cFormat 0x60 ++ chk (s.srcMissing src) cFormat 0x61 ++
  chk (match s.aSource src with
    | some (w, h, _) => decide (w < Desc.cropX d + Desc.cropW d) || decide (h < Desc.cropY d + Desc.cropH d)
    | none => false) cFormat 0x62 ++
  chk (!tile && decide (6 ≤ Desc.pipe d) && match s.aSource src with
    | some (_, _, f) => f.kind == .yuv420 || f.kind == .yuv422
    | none => false) cFormat 0x63 ++
  chk (tile && (Desc.srcKind d == 2 || (s.aSheet (Desc.tgt d)).isNone)) cFormat 0x64 ++
  chk ((tile && (Desc.pipe d != 0 || Desc.alpha d != 255 || Desc.alphaMode d != 0)) || (!tile && Desc.tile d != 0) ||
    (!tile && Desc.srcKind d == 2 && !noTreat) ||
    (Desc.alphaMode d != 0 && (decide (Desc.pipe d < 6) || !s.srcAlpha src))) cFormat 0x65 ++
  chk (decide (Desc.dstW d < 8) || decide (Desc.dstH d < 8) || decide (Desc.cropW d < 8) || decide (Desc.cropH d < 8) ||
    decide (4096 < Desc.cropW d)) cFormat 0x66 ++
  chk (s.bankBad place d) cFormat 0x67 ++
  chk (ratioBad tile (Desc.dstW d) (Desc.cropW d) || ratioBad tile (Desc.dstH d) (Desc.cropH d)) cFormat 0x68

/-- A budget can never be met on a head: `hold` and `transit` in ms, `ps` the sheet's period in ns for a tile window, `offset` in µs
(R99 detail 0x24, R231). -/
def budgetBad (c : HeadCfg) (hold transit ps : Nat) (offset : Option Nat) : Bool :=
  let short := fun (ms us : Nat) => ms != 0 && decide (ms * 1000000 * c.lineDen < (us * 1000 + ps) * c.lineDen + c.lightLines * c.lineNum)
  short hold 0 || match offset with
    | some o => short transit o
    | none => false

/-- The active area of a timing. -/
def activeOf (c : HeadCfg) : Rect := ⟨0, 0, c.hActive, c.vActive⟩

/-- A visible rectangle is in view and smaller than 48 × 48. -/
def tooSmall (r : Rect) : Bool := !rectEmpty r && (decide (r.x1 - r.x0 < 48) || decide (r.y1 - r.y0 < 48))

/-- The heads that show a window, each with its timing and its visible rectangle there: its own head, or every head with a window on its
sheet. -/
def State.shownOn (s : State) (d : Desc) : List (Nat × HeadCfg × Rect) :=
  if Desc.isTile d then
    s.aHeads.flatMap (fun p => ((s.aHeadWins p.1).filter (fun w => Desc.source w.2 == .sheet (Desc.tgt d))).map
      (fun w => (p.1, p.2, tileIn (activeOf p.2) w.2 d)))
  else match s.aHead (Desc.tgt d) with
    | some c => [(Desc.tgt d, c, rectMeet (Desc.dst d) (activeOf c))]
    | none => []

/-- The blaze on a source. -/
def State.aBlazeOf (s : State) : Source → BlazeCfg
  | .ch c => s.aBlaze c
  | .surf n => (s.surf n).blaze
  | .sheet _ => {}

/-- The TIMING details of one window (R99, R231); detail 0x24 becomes 0x4A on a head whose timing the request changes (R263). -/
def State.winTiming (old s : State) (d : Desc) : List Reason :=
  let hb := Desc.holdBudget d
  let tb := Desc.transitBudget d
  let src := Desc.source d
  let sheetSrc := Desc.srcKind d == 2
  let ps := if Desc.isTile d then ((s.aSheet (Desc.tgt d)).getD {}).period else 0
  chk (hb == 1 || decide (60000 < hb)) cTiming 0x20 ++ chk (tb == 1 || decide (60000 < tb)) cTiming 0x21 ++
  chk (tb != 0 && hb == 0) cTiming 0x22 ++ chk (sheetSrc && (hb != 0 || tb != 0)) cTiming 0x23 ++
  let never := (s.shownOn d).filter (fun p => !sheetSrc && budgetBad p.2.1 hb tb ps (match src with
    | .ch c => some (s.aOffsetFor c (if Desc.isTile d then ps else HeadCfg.periodNs p.2.1))
    | _ => none))
  chk (never.any (fun p => old.aHead p.1 == some p.2.1)) cTiming 0x24 ++ chk (never.any (fun p => old.aHead p.1 != some p.2.1)) cTiming 0x4A ++
  chk (!sheetSrc && (hb == 0 || (s.aBlazeOf src).en) && (s.shownOn d).any (fun p => tooSmall p.2.2)) cTiming 0x25 ++
  chk (Desc.treatStale d == 3 || Desc.treatSnag d == 3 || Desc.treatInvalid d == 3) cTiming 0x26

/-- Some pair of a list, in order, satisfies a relation. -/
def anyPair {α : Type} (f : α → α → Bool) : List α → Bool
  | [] => false
  | x :: t => t.any (f x) || anyPair f t

/-- Source pixels a window fetches on an output line (R233). -/
def lineFetch (d : Desc) : Nat := Desc.cropW d * ceilDiv (Desc.cropH d) (max (Desc.dstH d) 1)

/-- The windows whose clipped destination meets line `y`. -/
def onLine (act : Rect) (y : Int) (l : List (Nat × Desc)) : List (Nat × Desc) :=
  l.filter (fun p => let r := rectMeet (Desc.dst p.2) act; !rectEmpty r && decide (r.y0 ≤ y) && decide (y < r.y1))

/-- The SCANLINE details of a head (R232, R233). A pipe's load changes only at the top line of a window. -/
def State.scanlineChecks (s : State) (h : Nat) (c : HeadCfg) : List Reason :=
  let act := activeOf c
  let ws := s.aHeadWins h
  let inView := ws.flatMap (fun w => match Desc.source w.2 with
    | .sheet n => (s.aTileWins n).filter (fun t => !rectEmpty (tileIn act w.2 t.2))
    | _ => [])
  chk (512 < ws.length + inView.length) cScanline 0x04 ++
  chk (ws.any (fun w => rectEmpty (rectMeet (Desc.dst w.2) act))) cScanline 0x05 ++
  (List.range 8).flatMap (fun p =>
    let l := ws.filter (fun w => Desc.pipe w.2 == p)
    let loads := l.map (fun w => onLine act (max 0 (Desc.dstY w.2)) l)
    chk (anyPair (fun a b => !rectEmpty (rectMeet (rectMeet (Desc.dst a.2) (Desc.dst b.2)) act)) l) cScanline 0x01 ++
    chk (loads.any (fun x => decide ((if p < 6 then 8 else 16) < x.length))) cScanline 0x02 ++
    chk (loads.any (fun x => decide ((if p < 6 then 12 else 6) * c.lineNum / (10 * max c.lineDen 1) <
      (x.map (fun w => lineFetch w.2)).foldl (· + ·) 0))) cScanline 0x03)

/-! ## Sheets (R224, R228, R232) -/

/-- Pixel/s that a sheet reads and writes, f_s = 10^9 / P_s (R228). -/
def State.sheetRead (s : State) (n : Nat) (c : SheetCfg) : Frac :=
  fDiv (1000000000 * ((s.aTileWins n).map (fun w => Desc.cropW w.2 * Desc.cropH w.2)).foldl (· + ·) 0) c.period
def sheetWrite (c : SheetCfg) : Frac := fDiv (1000000000 * c.w * c.h) c.period

/-- A sheet to place: index, read and write charge. -/
def sheetBefore (a b : Nat × Frac × Frac) : Bool :=
  if !fLe a.2.1 b.2.1 then true else if !fLe b.2.1 a.2.1 then false else decide (a.1 < b.1)

def insertSheet (x : Nat × Frac × Frac) : List (Nat × Frac × Frac) → List (Nat × Frac × Frac)
  | [] => [x]
  | y :: t => if sheetBefore x y then x :: y :: t else y :: insertSheet x t

/-- The placement of R228: the engine of each sheet that is not shed (R420); none where a sheet fits on neither. -/
def State.placeSheets (s : State) : Option (List (Nat × Nat)) :=
  let l := ((s.aSheets.filter (fun p => !(s.sheet p.1).stopped)).map (fun p =>
    (p.1, s.sheetRead p.1 p.2, sheetWrite p.2))).foldr insertSheet []
  let z : Frac × Frac := ((0, 1), (0, 1))
  let fits := fun (e : Frac × Frac) (x : Nat × Frac × Frac) =>
    fLe (fAdd e.1 x.2.1) (fOf 4000000000) && fLe (fAdd e.2 x.2.2) (fOf 2000000000)
  (l.foldl (fun (a : Option (List (Nat × Nat) × (Frac × Frac) × (Frac × Frac))) x => a.bind (fun r =>
    if !s.mode.isoCore.getLsbD 16 && fits r.2.1 x then some (r.1 ++ [(x.1, 0)], (fAdd r.2.1.1 x.2.1, fAdd r.2.1.2 x.2.2), r.2.2)
    else if !s.mode.isoCore.getLsbD 17 && fits r.2.2 x then some (r.1 ++ [(x.1, 1)], r.2.1, (fAdd r.2.2.1 x.2.1, fAdd r.2.2.2 x.2.2))
    else none)) (some ([], z, z))).map Prod.fst

/-- The tiles that meet a stand. -/
def tilesOnStand (l : List (Nat × Desc)) (i j : Nat) : Nat :=
  (l.filter (fun w => !rectEmpty (rectMeet (Desc.dst w.2) ⟨64 * i, 64 * j, 64 * i + 64, 64 * j + 64⟩))).length

/-- The checks of a sheet. -/
def State.sheetChecks (s : State) (n : Nat) (c : SheetCfg) : List Reason :=
  let l := s.aTileWins n
  chk ((List.range (stands c.w)).any (fun i => (List.range (stands c.h)).any (fun j => decide (4 < tilesOnStand l i j)))) cSheet 0x01 ++
  chk (anyPair (fun a b => !rectEmpty (rectMeet (Desc.dst a.2) (Desc.dst b.2))) l ||
    l.any (fun w => let r := Desc.dst w.2; decide (r.x0 < 0) || decide (r.y0 < 0) || decide ((c.w : Int) < r.x1) ||
      decide ((c.h : Int) < r.y1))) cSheet 0x02 ++
  chk (twice (l.map (fun w => Desc.tile w.2))) cSheet 0x03 ++
  chk (outside c.w 128 3840 || outside c.h 96 2160 || c.w % 2 == 1 || c.h % 2 == 1 || decide (1 < c.format) ||
    outside c.period 8333334 1000000000) cSheet 0x04

/-! ## Recorder (R268, R281) -/

/-- f_r of a recording (R267). -/
def recRate (h : HeadCfg) (c : RecCfg) : Frac := fMul (refresh h) (1, max c.d 1)

/-- The charge of a recording, and its part charge (R268). -/
def recCharge (h : HeadCfg) (c : RecCfg) : Frac := fMul (fOf (recW h c * recH h c)) (recRate h c)
def recPart (h : HeadCfg) (c : RecCfg) : Frac := if 1 < c.k then fMul (recCharge h c) (11, 10 * c.k) else recCharge h c

/-- The enabled recordings with their heads' timing. -/
def State.aRecHeads (s : State) : List (Nat × RecCfg × HeadCfg) :=
  s.aRecs.filterMap (fun p => (s.aHead p.1).map (fun h => (p.1, p.2, h)))

/-- The packing of R268. -/
def State.recPack (s : State) : Option (List PackCore) :=
  packParts 4 (fun k => s.mode.isoCore.getLsbD (18 + k)) 300000000 1 (s.aRecHeads.flatMap (fun p =>
    (List.range (max p.2.1.k 1)).map (fun i => (⟨p.1, i, recPart p.2.2 p.2.1, (0, 1)⟩ : PackPart))))

/-- The checks of the recordings. -/
def State.recChecks (s : State) : List Reason :=
  s.aRecs.flatMap (fun p =>
    let c := p.2
    chk ((s.aHead p.1).isNone || decide (3 < c.port)) cFormat 0x70 ++
    chk (!(c.sx == 1 || c.sx == 2 || c.sx == 4) || !(c.sy == 1 || c.sy == 2 || c.sy == 4) || match s.aHead p.1 with
      | some h => h.hActive % (2 * max c.sx 1) != 0 || h.vActive % (2 * max c.sy 1) != 0
      | none => false) cFormat 0x71 ++
    chk ((!c.ring && !c.rtp) || outside c.mtu 576 9000 || outside c.pt 96 127 || outside c.ringPages 1 256 ||
      outside c.idxPages 1 256) cFormat 0x72 ++
    chk (outside c.k 1 4 || match s.aHead p.1 with
      | some h => decide (ceilDiv (recW h c) 64 < c.k)
      | none => false) cFormat 0x73 ++
    chk (outside c.d 1 8 || outside c.gopLen 1 600 || decide (c.gopLen ≤ c.ltrPeriod)) cTiming 0x70 ++
    chk (outside c.qpBase 10 51 || outside c.qpMax c.qpBase 51) cTiming 0x71 ++
    chk (outside c.capKbps 500 100000 || outside c.bucketMs 100 10000) cTiming 0x72 ++
    match s.aHead p.1 with
    | some h =>
      let rows := ceilDiv (recH h c) 64
      let w := ceilDiv (ceilDiv (recW h c) 64) (max c.k 1)
      let r := recRate h c
      chk (decide (c.capKbps * 1000 * r.2 / max r.1 1 < c.k * rows * (64 + 24 * w))) cTiming 0x73 ++
      chk (!fLe (recPart h c) (fOf 300000000)) cScanout 0x11
    | none => []) ++
  chk (!fLe (fSum (s.aRecHeads.map (fun p => recCharge p.2.2 p.2.1))) (fOf 1200000000)) cScanout 0x10 ++
  chk s.recPack.isNone cScanout 0x12

/-! ## Console (R349, R370) -/

/-- The checks of the touch ports, keys and rules. Lines of a port's matrix are its first S sense lines; TP1's begin at 72 (R345). The
waveform that a rule plays ends within the waveform memory (R360, R370). -/
def State.consoleChecks (s : State) : List Reason :=
  let ks := s.aKeys
  (List.range 2).flatMap (fun p =>
    let c := s.aTouch p
    chk (decide (40 < c.d) || decide (72 < c.s) || decide (15 < c.head)) cFormat 0x90 ++ chk (c.touchTh ≤ c.liftTh) cFormat 0x92 ++
    chk (outside c.burst 4 31 || outside c.ftx 2 20 || outside c.guard 1 8 || outside c.div 1 4 || outside c.downN 1 8 ||
      outside c.upN 1 8 || outside c.driftScans 4 255 || outside c.periodS 1 255) cTiming 0x91 ++
    chk (outside c.maxHold 1 3600) cTiming 0x92 ++
    chk (c.en && match s.aHead c.head with
      | some h => decide ((h.vMin - 2 * c.guard) * h.lineNum * max c.ftx 1 <
          (c.d + 1) * (c.burst * 10000 + 2000 * max c.ftx 1) * h.lineDen)
      | none => false) cTiming 0x90) ++
  ks.flatMap (fun k =>
    let c := k.2
    let port := s.aTouch c.port
    chk (decide (1 < c.port) || outside c.line (72 * c.port) (72 * c.port + 71) || decide (c.line < 72 * c.port + port.s)) cFormat 0x91 ++
    chk (c.pressTh ≤ c.releaseTh) cFormat 0x92 ++ chk (outside c.pressN 1 8 || outside c.releaseN 1 8) cTiming 0x91) ++
  chk (twice (ks.map (fun k => k.2.line))) cFormat 0x91 ++
  (if (s.obj 0x7300).on then chk (outside (settingOf .console (s.obj 0x7300).set 2) 1 3600) cTiming 0x92 else []) ++
  (List.range 64).flatMap (fun r => if (s.obj (0x7200 + r)).on then
    let c := ruleOf (s.obj (0x7200 + r)).set
    let pos := s.reg (Reg.hapWavePos c.wave)
    chk (decide (127 < c.key) || decide (2 < c.edge) || decide (31 < c.wave) || decide (7 < c.prio)) cFormat 0x90 ++
      chk (decide (c.wave < 32) && decide (16384 < bits pos 13 0 + bits pos 30 16)) cFormat 0x92 else [])

/-! ## The pair (R298) -/

/-- L − E of a head, ns, rounded up. -/
def lightNs (c : HeadCfg) : Nat := ceilDiv (c.lightLines * c.lineNum) (max c.lineDen 1)

/-- The checks of the pair configuration. -/
def State.pairChecks (s : State) : List Reason :=
  if s.aPairOn then
    chk (!s.board.pairEn) cMode 0x80 ++
    chk (outside (s.aPair 2) 10000 200000 || s.aHeads.any (fun p => decide (s.aPair 2 * 1000 < lightNs p.2 + 1000000))) cTiming 0x80 ++
    chk (outside (s.aPair 3) 1000 20000) cTiming 0x81 ++
    chk (match s.aHead (s.aPair 4) with
      | some c => c.mode != 0
      | none => true) cTiming 0x82 ++
    chk (outside (s.aPair 5) 10 1000 || outside (s.aPair 6) 1000 60000) cTiming 0x83
  else []

/-! ## Instances (R321, R331) -/

/-- Scan-out charge of a head's window in bytes/s (R253). -/
def State.scanCharge (s : State) (c : HeadCfg) (d : Desc) : Frac :=
  match s.aSource (Desc.source d) with
  | some (_, _, f) =>
    let r := rectMeet (Desc.dst d) (activeOf c)
    fMul (refresh c) (lineFetch d * (r.y1 - r.y0).toNat * fmtBytes8 f, 8)
  | none => (0, 1)

/-- Read charge of a tile window in bytes/s (R230). -/
def State.tileCharge (s : State) (c : SheetCfg) (d : Desc) : Frac :=
  match s.aSource (Desc.source d) with
  | some (_, _, f) => fDiv (1000000000 * Desc.cropW d * Desc.cropH d * fmtBytes8 f) (8 * c.period)
  | none => (0, 1)

/-- Commit charge of a surface in bytes/s: 2 × W × H × bpp × MAX_RATE (R331). -/
def commitCharge (x : Surface) : Frac := (2 * x.w * x.h * fmtBytes8 { kind := surfKind x.format, ten := false } * x.maxRate, 8)

/-- The admitted charge of an instance (R331). -/
def State.instCharge (s : State) (n : Nat) : Frac :=
  let mine := fun (x : Source) => match x with
    | .surf k => (s.surf k).created && (s.surf k).owner == n
    | _ => false
  let heads := s.aHeads.flatMap (fun p => ((s.aHeadWins p.1).filter (fun w => mine (Desc.source w.2))).map (fun w => s.scanCharge p.2 w.2))
  let tiles := s.aSheets.flatMap (fun p => ((s.aTileWins p.1).filter (fun w => mine (Desc.source w.2))).map (fun w => s.tileCharge p.2 w.2))
  let commits := (s.surfs.filter (fun p => p.2.created && p.2.owner == n)).map (fun p => commitCharge p.2)
  fSum (heads ++ tiles ++ commits)

/-- The admitted grants of the created instances. -/
def State.aGrants (s : State) : List (Nat × Grants) := s.adm.grants.filterMap (fun p => p.2.map (fun g => (p.1, g)))

/-- The quota checks that hold of every state of grants (R321, R331). -/
def State.quotaChecks (s : State) : List Reason :=
  let l := s.aGrants
  chk (l.any (fun p => !fLe (s.instCharge p.1) (fOf (p.2.bwShare * 100000000)))) cQuota 0x07 ++
  chk (anyPair (fun a b => a.2.pasid == b.2.pasid || (decide (a.2.winBase < b.2.winBase + b.2.winCount) &&
    decide (b.2.winBase < a.2.winBase + a.2.winCount) && a.2.winCount != 0 && b.2.winCount != 0)) l) cQuota 0x08

/-! ## Rates and bandwidth (R41, R46, R47, R191, R168, R230, R253, R281, R331) -/

/-- The composed pixel rate (R41, R210). -/
def State.composed (s : State) : Frac :=
  fSum (s.aHeads.map (fun p => fMul (refresh p.2) (fOf (((s.aHeadWins p.1).map (fun w =>
    let r := rectMeet (Desc.dst w.2) (activeOf p.2)
    if rectEmpty r then 0 else (r.x1 - r.x0).toNat * (r.y1 - r.y0).toNat)).foldl (· + ·) 0))))

/-- 1 + e / 8 for a pool, e the fraction of its pages in zones with inline ECC (R46). -/
def State.eccFactor (s : State) (pages : List Nat) : Frac :=
  if pages = [] then (1, 1)
  else (8 * pages.length + (pages.filter (fun p => s.adm.ecc.getLsbD (p / 512))).length, 8 * pages.length)

/-- The pool pages of a source. -/
def State.srcPages (s : State) : Source → List Nat
  | .ch c => match s.aFeeder c with
    | some n => (s.ctx n).pool
    | none => []
  | .surf n => (s.surf n).pool
  | .sheet n => (s.sheet n).pool

/-- A byte rate charged to a pool. -/
def State.charged (s : State) (pages : List Nat) (r : Frac) : Frac := fMul (s.eccFactor pages) r

/-- The charge of a traffic class in bytes/s: 0 decode, 1 sheets, 2 scan-out, 3 recorder, 4 capture, 5 control. -/
def State.classCharge (s : State) : Nat → Frac
  | 0 => fSum (s.aCtxs.map (fun p => match p.2 with
      | .net d => s.charged (s.ctx p.1).pool (fDiv (d.w * d.h * d.num * fmtBytes8 (declFmt d) * 3) (8 * d.den))
      | .lusko _ => (0, 1)))
  | 1 => fSum (s.aSheets.flatMap (fun p =>
      s.charged (s.sheet p.1).pool (fDiv (1000000000 * p.2.w * p.2.h * fmtBytes8 (sheetFmt p.2)) (8 * p.2.period)) ::
        (s.aTileWins p.1).map (fun w => s.charged (s.srcPages (Desc.source w.2)) (s.tileCharge p.2 w.2))))
  | 2 => fSum (s.aHeads.flatMap (fun p => (s.aHeadWins p.1).map (fun w => s.charged (s.srcPages (Desc.source w.2)) (s.scanCharge p.2 w.2))))
  | 3 => fSum (s.aRecHeads.flatMap (fun p =>
      [s.charged (s.recording p.1).pool (fMul (recCharge p.2.2 p.2.1) (15, 2)),
       s.charged (s.recording p.1).ringPool (fOf (p.2.1.capKbps * 125))]))
  | 4 => fSum (s.aCtxs.map (fun p => match p.2 with
      | .lusko d => s.charged (s.ctx p.1).pool (fDiv (d.w * d.h * d.num * fmtBytes8 (luskoFmt d.format)) (8 * d.den))
      | .net _ => (0, 1)))
  | _ => fSum ((s.surfs.filter (fun p => p.2.created)).map (fun p => s.charged p.2.pool (commitCharge p.2)))

/-- A ceiling in bytes/s at the trained data rate, rounded down to 0.1 GB/s (R46). -/
def State.scaled (s : State) (gb : Nat) : Nat := gb * 10 * min s.adm.memRate 8533 / 8533 * 100000000

/-- The MEM_BW detail of a traffic class (R47). -/
def bwDetail : Nat → Nat
  | 0 => 1 | 1 => 2 | 2 => 3 | 3 => 4 | 4 => 6 | _ => 5

/-- The rate and bandwidth checks. -/
def State.rateChecks (s : State) : List Reason :=
  chk (!fLe s.composed (fOf 8600000000)) cScanout 0x01 ++
  (List.range 6).flatMap (fun i =>
    let c := s.classCharge i
    chk (c.1 != 0 && !fLe c (fOf (s.scaled ((s.adm.ceilings[i]?).getD 0)))) cMemBw (bwDetail i))

/-! ## Power (R431, R478) -/

/-- A setting admitted in the judged state names an Ethernet port (R478). -/
def State.portAdmitted (s : State) (p : Nat) : Bool :=
  s.flows.any (fun f => f.1 == p) || s.aRecs.any (fun r => r.2.rtp && r.2.port == p) ||
  [0, 1].any (fun d => bit (s.reg (Reg.ptpDomCfg d)) 0 && bit (s.reg (Reg.ptpDomCfg d)) (24 + p)) ||
  bit (s.plain 0x2020 0x0B 0) p

/-- The token sum of R431. -/
def State.tokenSum (s : State) : Nat :=
  let iso := fun (m : BitVec 32) (i : Nat) => m.getLsbD i
  let busy := fun (l : Option (List PackCore)) => (((l.getD []).zipIdx).filter (fun c => !c.1.parts.isEmpty)).map Prod.snd
  44 + 8 + 3 * (s.aHeads.filter (fun p => !s.mode.isoHead.getLsbD p.1)).length +
    ((List.range 4).filter (fun p => s.portAdmitted p && !iso s.mode.isoCore (22 + p))).length +
    ((s.aBonds.flatMap (fun b => (List.range b.2.width).map (fun i => b.1 + i))).filter (fun l => !iso s.mode.isoLane l)).length +
    2 * ((busy s.decodePack).filter (fun k => !iso s.mode.isoCore k)).length +
    5 * (((List.range 2).filter (fun e => (s.placeSheets.getD []).any (fun x => x.2 == e))).filter (fun e => !iso s.mode.isoCore (16 + e))).length +
    4 * ((busy s.recPack).filter (fun k => !iso s.mode.isoCore (18 + k))).length

/-! ## The whole -/

/-- Every check of a configuration `s` that a request makes of `old`. -/
def State.configChecks (old s : State) : List Reason :=
  s.ctxChecks ++ old.chanChecks s ++ s.decodeChecks ++ s.laneChecks ++
  s.aHeads.flatMap (fun p => s.headChecks p.1 p.2 ++ s.scanlineChecks p.1 p.2) ++
  s.aWins.flatMap (fun w => s.winFormat (s.placeSheets.getD []) w.2 ++ old.winTiming s w.2) ++
  s.aSheets.flatMap (fun p => s.sheetChecks p.1 p.2) ++ chk s.placeSheets.isNone cSheet 0x05 ++
  (s.surfs.filter (fun p => p.2.created)).flatMap (fun p => blazeChecks p.2.blaze (s.aSource (.surf p.1))) ++
  s.recChecks ++ s.consoleChecks ++ s.pairChecks ++ s.quotaChecks ++ s.rateChecks

/-- A change that takes the token sum above CORE_BUDGET (R431). -/
def State.powerChecks (s new : State) : List Reason :=
  chk (decide (s.board.coreBudget < new.tokenSum) && decide (s.tokenSum < new.tokenSum)) cPower 0x01

/-- The order in which classes are checked (R39). -/
def classOrder : List Nat :=
  [cBlob, cMode, cFormat, cTiming, cQuota, cContexts, cMem, cDecode, cLane, cScanout, cScanline, cSheet, cMemBw, cPower]

/-- The reason reported: the first class that fails, with its lowest detail; DECODE_RATE reports the first in its own order (R39). -/
def firstReason (l : List Reason) : Option Reason :=
  classOrder.findSome? (fun c =>
    match (l.filter (fun r => r.1 == c)).map Prod.snd with
    | [] => none
    | d :: t => some (c, if c = cDecode then d else t.foldl min d))

/-- A 16-bit reason code; 0 is acceptance (R40). -/
def reasonCode : Option Reason → Nat
  | none => 0
  | some (c, d) => c * 256 + d

end Sys2Proof.Machine
end

