-- ==== Sys2Proof/Machine/Bytes.lean ====
section
/-! DEFINITION. The little-endian records that the host port carries: event records, completions, work orders, save blobs (R17, R326, R339,
R340, R343). -/

namespace Sys2Proof.Machine

/-- `n` little-endian bytes of a number, modulo its width. -/
def leInt (n : Nat) (v : Int) : List Byte := leBytes n (wrap (8 * n) v)

/-! ## Event records (R104, R309, R310, R343, R396) -/

/-- The widths in bytes of the payload fields that the spec lays out; none where it does not. -/
def payloadWidths : EvKind → Option (List Nat)
  | .headWinState => some [2, 2, 1, 1, 4, 4]
  | .pairDiverge => some [1, 2, 4, 4, 4]
  | .pairAttributed => some [1, 8]
  | .pairTakeover => some [8, 4, 2]
  | .mpuPostedNotice => some [8, 4, 4]
  | _ => none

/-- The bytes left out before a payload's field: reserved ones, and the place of D in ATTRIBUTED. -/
def payloadGap : EvKind → Nat → Nat
  | .headWinState, 4 => 2
  | .pairDiverge, 1 => 1
  | .pairAttributed, 1 => 7
  | _, _ => 0

/-- The 16 payload bytes of an event record. -/
def payloadBytes (k : EvKind) (p : List Int) : List Byte :=
  let l := match payloadWidths k with
    | some ws => (ws.zip p).zipIdx.flatMap (fun e => List.replicate (payloadGap k e.2) 0 ++ leInt e.1.1 e.1.2)
    | none => Config.eventPayload k p
  (l ++ List.replicate 16 0).take 16

end Sys2Proof.Machine

namespace Sys2Proof

open Sys2Proof.Machine

/-- The 32 bytes of an event record (R343). -/
def Event.bytes (e : Event) : List Byte :=
  leBytes 2 (EvKind.src e.kind e.idx) ++ leBytes 2 e.seq ++ leBytes 2 (EvKind.classCode e.kind).2 ++ leBytes 2 0 ++ leBytes 8 e.time ++
    payloadBytes e.kind e.payload

/-- The 16 bytes of a completion (R326). -/
def Completion.bytes (c : Completion) : List Byte :=
  leBytes 2 c.tag.toNat ++ leBytes 1 c.queue ++ leBytes 1 c.status ++ leBytes 2 c.reason ++ leBytes 2 c.result ++ leBytes 8 c.time

end Sys2Proof

namespace Sys2Proof.Machine

/-- The address of record number `i` of a ring of records of `w` bytes. -/
def ringPlace (base : BitVec 64) (size w i : Nat) : BitVec 64 := base + BitVec.ofNat 64 (w * (i % 2 ^ size))

/-- What an instance's event ring holds in host memory: the unread records with their addresses (R323, R342). -/
def State.eventRing (s : State) (n : Nat) : List (BitVec 64 × List Byte) :=
  let e := (s.inst n).evq
  (e.records.zipIdx).map (fun p => (ringPlace e.base e.size 32 (e.rd + p.2), Event.bytes p.1))

/-- What an instance's completion ring holds in host memory (R323, R326). -/
def State.completionRing (s : State) (n : Nat) : List (BitVec 64 × List Byte) :=
  let c := (s.inst n).cq
  (c.records.zipIdx).map (fun p => (ringPlace c.base c.size 16 (c.head + p.2), Completion.bytes p.1))

/-! ## Work orders (R326) -/

/-- Bytes of an entry of a window batch (R326). -/
def orderBlock : Nat := 66

/-- The entries of a window batch: index and descriptor, 66 bytes each (R326). -/
def batchEntries (src : List Byte) (count : Nat) : List (Nat × BitVec 512) :=
  (List.range count).map (fun k => (fieldAt src (orderBlock * k) 2, BitVec.ofNat 512 (fieldAt src (orderBlock * k + 2) 64)))

/-- The operation that OPCODE and ARG spell (R326). -/
def workOp (op : Nat) (arg : List Byte) (x : OrderData) : WorkOp :=
  let f := fieldAt arg
  if op = 0 then .nop
  else if op = 1 then .surfCreate (f 0 1) (f 1 2) (f 3 2) (f 5 2)
  else if op = 2 then .surfDestroy (f 0 2)
  else if op = 3 then .surfCommit (f 0 2) (bit (f 2 2) 0) (f 4 2) (f 6 2) (f 8 2) (f 10 2) (BitVec.ofNat 64 (f 12 8)) (f 20 4)
  else if op = 4 then .winBatch (batchEntries x.src (f 8 2))
  else if op = 5 then .safeReq x.safe
  else if op = 6 then .blazeSet (f 0 2) (f 2 2) (f 4 2) (f 6 2) (f 8 2) (f 10 2)
  else if op = 7 then .copy (f 0 1 != 0) x.ring (BitVec.ofNat 64 (f 1 8)) (BitVec.ofNat 64 (f 9 8)) (f 17 4)
  else .bad op

/-- The work order that a queue entry's 64 bytes spell (R326). -/
def workOrder (b : List Byte) (x : OrderData) : WorkOrder :=
  { op := workOp (fieldAt b 0 1) (b.drop 8) x, fence := bit (fieldAt b 1 1) 0, irq := bit (fieldAt b 1 1) 1,
    tag := BitVec.ofNat 16 (fieldAt b 2 2), lost := x.lost }

/-! ## Save blobs (R339, R340) -/

/-- The header of a save blob of `len` bytes, with `crc` in its CRC field. -/
def State.saveHeader (s : State) (len crc : Nat) : List Byte :=
  leBytes 4 0x5731494E ++ leBytes 2 1 ++ leBytes 1 0xA1 ++ leBytes 1 (s.glb.fwVersion.toNat / 2 ^ 24) ++ leBytes 1 s.adm.memSize ++ leBytes 1 6 ++
    leBytes 2 0 ++ leBytes 4 len ++ leBytes 4 crc ++ List.replicate 44 0

/-- CRC-32 of bytes (R160). -/
def crcOf (l : List Byte) : Nat := crc32 (l.map BitVec.toNat)

/-- The bytes of a save blob of `len` bytes that holds `b`. -/
def State.saveBytes (s : State) (b : RestoreBlob) (len : Nat) : List Byte :=
  let body := (List.range (len - 64)).map (fun k => Config.saveByte b (64 + k))
  s.saveHeader len (crcOf (s.saveHeader len 0 ++ body)) ++ body

/-- Sections of a save blob: `n` of them fill the bytes, each with a TYPE of 1 to 6 and its LEN. -/
def sectionsOk : Nat → List Byte → Bool
  | 0, l => l.isEmpty
  | n + 1, l =>
    decide (8 ≤ l.length) && decide (1 ≤ fieldAt l 0 4) && decide (fieldAt l 0 4 ≤ 6) && decide (8 + fieldAt l 4 4 ≤ l.length) &&
      sectionsOk n (l.drop (8 + fieldAt l 4 4))

/-- MAGIC, VERSION, LEN, CRC and the sections of a save blob are right (R340, detail 0x10); `room` is the length of its buffer. -/
def blobFormed (room : Nat) (l : List Byte) : Bool :=
  let len := fieldAt l 0xC 4
  decide (64 ≤ len) && decide (len ≤ room) && decide (len ≤ l.length) && fieldAt l 0 4 == 0x5731494E && fieldAt l 4 2 == 1 && zeroAt l 0xA 2 &&
    zeroAt l 0x14 44 && fieldAt l 0x10 4 == crcOf (l.take 0x10 ++ leBytes 4 0 ++ bytesAt l 0x14 (len - 0x14)) &&
    sectionsOk (fieldAt l 9 1) (bytesAt l 64 (len - 64))

/-- A blob as read: what its sections say, with what its bytes say of its header (R340). -/
def readBlob (room : Nat) (l : List Byte) (b : RestoreBlob) : RestoreBlob :=
  { b with
    formed := b.formed && blobFormed room l, stepping := fieldAt l 6 1, fwMajor := fieldAt l 7 1, memSize := fieldAt l 8 1 }

end Sys2Proof.Machine
end

