-- ==== Sys2Proof/Machine/ModeBase.lean ====
section
/-! DEFINITION. What every family needs of the modes: the lock, a change of mode, PAIR_ACT_OUT and OUTSEL, the entry to and exit
from SAFE-HOLD (R19, R290 to R293, R412 to R418). -/

namespace Sys2Proof.Machine

/-- The firmware is up and serves commands (R413). -/
def State.up (s : State) : Bool := s.mode.phase == .up && s.mode.mode != .standby && s.mode.mode != .recovery

/-- RWL registers lock when the device leaves CONFIGURE (R399). -/
def State.locked (s : State) : Bool :=
  match s.mode.mode with
  | .run | .shadow | .proving | .degraded | .safeHold => true
  | _ => false

/-- Device time in RUN and SHADOW counts towards a trial (R408). -/
def trialMode : Mode → Bool
  | .run | .shadow => true
  | _ => false

/-- Change the mode, with its event: old mode, new mode, cause (R413). -/
def State.modeTo (s : State) (m : Mode) (cause : Nat) : State :=
  let u := s.mode
  if u.mode = m then s
  else
    let p := s.prot
    let s := if trialMode u.mode then { s with prot := { p with trialNs := p.trialNs + (s.now - u.since) } } else s
    (s.setMode { u with mode := m, prev := u.mode, since := s.now }).emit .modeState 0 [u.mode.code, m.code, cause]

/-- Raise PAIR_ACT_OUT: its rising edge sets OUTSEL (R291). -/
def State.raiseActOut (s : State) : State :=
  if s.pair.actOut then s else { s with pair := { s.pair with actOut := true, outsel := true } }

/-- PAIR_ACT_OUT falls, and OUTSEL with it (R291). -/
def State.dropActOut (s : State) : State := { s with pair := { s.pair with actOut := false, outsel := false } }

/-- Start every enabled recording that does not run (R265). -/
def State.startRecs (s : State) : State :=
  (keys s.recs).foldl (fun s r => if (s.recording r).cfg.en && !(s.recording r).running then s.recStart r else s) s

/-- Enter RUN as the active device (R293, R294, R412). -/
def State.enterRun (s : State) (cause : Nat) : State :=
  let s := (s.modeTo .run cause).raiseActOut.startRecs
  let s := { s with pair := { s.pair with shadow := false } }
  if s.pair.en && s.pair.state == .alone then s.pairTo .unpaired else s

/-- Enter SHADOW (R293, R412). -/
def State.enterShadow (s : State) (cause : Nat) : State :=
  let s := (s.modeTo .shadow cause).dropActOut.startRecs
  { s with pair := { s.pair with shadow := true } }

/-! ## SAFE-HOLD (R313, R416 to R418) -/

/-- The SAFE-HOLD presentation changes at each head's next epoch; a head whose raster does not run takes it at once. -/
def State.presentSafeHold (s : State) (on : Bool) (a : Nat) : State :=
  let s := s.setMode { s.mode with shAt := a }
  (List.range 16).foldl (fun s h =>
    let x := s.head h
    if x.state = .run then s.setHead h { x with safeHoldDue := some on }
    else s.setHead h { x with safeHold := on, safeHoldDue := none }) s

/-- The modes that a SAFE-HOLD cause leaves for SAFE-HOLD (R413). -/
def holdable : Mode → Bool
  | .run | .shadow | .degraded | .proving => true
  | _ => false

/-- Enter SAFE-HOLD for a cause at acceptance time `a`: the latch is set (R416 to R418). -/
def State.enterSafeHold (s : State) (c : ShCause) (a : Nat) : State :=
  if holdable s.mode.mode then
    let s := s.modeTo .safeHold c.code
    let s := { s with mode := { s.mode with shCause := c }, aon := { s.aon with shLatch := true } }
    s.presentSafeHold true a
  else if s.mode.mode = .safeHold ∧ c = .memory then s.setMode { s.mode with shCause := c }
  else s

/-- An entry on this device's own account goes to the partner on CONTROL, and both apply it CMD_LEAD later (R313). -/
def State.ownSafeHold (s : State) (c : ShCause) : State :=
  if s.pair.en && s.pairUp && s.pair.state != .alone then
    (s.sendPair (.control (.safeHold s.now))).enterSafeHold c (s.now + s.pair.cmdLead * 1000)
  else s.enterSafeHold c s.now

/-- Any unit is isolated (R419). -/
def State.anyIsolated (s : State) : Bool := s.mode.isoCore != 0 || s.mode.isoHead != 0 || s.mode.isoLane != 0

/-- Leave SAFE-HOLD at acceptance time `a` for the mode in PREV, DEGRADED in place of RUN or SHADOW if a unit is isolated (R413,
R418). -/
def State.leaveSafeHold (s : State) (a : Nat) : State :=
  if s.mode.mode = .safeHold then
    let s := { s with mode := { s.mode with shCause := .none }, aon := { s.aon with shLatch := false } }
    let p := s.mode.prev
    let s := if s.anyIsolated && trialMode p then
        (s.modeTo .degraded 0).startRecs
      else match p with
        | .run => s.enterRun 0
        | .shadow => s.enterShadow 0
        | m => s.modeTo m 0
    let s := if s.mode.mode = .degraded ∧ ¬ s.pair.shadow then s.raiseActOut else s
    s.presentSafeHold false a
  else s

/-- SAFE_HOLD_APPLY (R417): at a head's first epoch at or after the acceptance of an entry or exit its presentation changes. -/
def execSafeHoldApply (t : Nat) (h : Fin 16) (s : State) : Host.Outcome State Fault Refusal :=
  let s := s.at t
  let x := s.head h.val
  match x.safeHoldDue with
  | some b =>
    if s.mode.shAt ≤ s.headEpoch h.val then .next (s.setHead h.val { x with safeHold := b, safeHoldDue := none }) else .next s
  | none => .next s

/-! ## Losing and taking the active role (R311, R413) -/

/-- The device takes the active role: SHADOW becomes RUN, DEGRADED keeps its mode, and SAFE-HOLD will return to RUN. -/
def State.takeRole (s : State) : State :=
  let s := { s with pair := { s.pair with shadow := false } }
  match s.mode.mode with
  | .shadow => s.enterRun 0
  | .safeHold =>
    let s := if s.mode.prev = .shadow then s.setMode { s.mode with prev := .run } else s
    s.raiseActOut
  | .degraded => s.raiseActOut
  | _ => s

/-- The device gives up the active role: RUN becomes SHADOW, DEGRADED keeps its mode, and SAFE-HOLD will return to SHADOW. -/
def State.giveRole (s : State) : State :=
  let s := { s.dropActOut with pair := { s.dropActOut.pair with shadow := true } }
  match s.mode.mode with
  | .run => s.enterShadow 0
  | .safeHold => if s.mode.prev = .run then s.setMode { s.mode with prev := .shadow } else s
  | _ => s

end Sys2Proof.Machine
end

