-- ==== Sys2Proof/Machine/PairOps.lean ====
section
/-! DEFINITION. The pair: joining, leaving, attribution, takeover and switching back (R290 to R315), as far as no admission request
is judged. -/

namespace Sys2Proof.Machine

/-! ## Joining (R293 to R295) -/

/-- The slot record of the running image. -/
def State.runSlot (s : State) : Slot := if s.prot.runB then s.prot.slotB else s.prot.slotA

/-- What this device brings to the checks of a JOIN (R290, R295). -/
def State.joinFacts (s : State) : JoinFacts :=
  let d := TimeUnit.dom s.time s.time.domain
  { sideB := s.board.sideB, stepping := 0xA1, firmware := s.runSlot.hash, model := s.glb.modelVersion,
    locked := s.time.servo == .locked, domainNumber := bits (s.reg (Reg.ptpDomCfg s.time.domain.val)) 15 8, gm := d.gm }

/-- The partner is a W128 by its IDENT (R169, R295). -/
def State.partnerW128 (s : State) : Bool :=
  match s.pairLane.bind (fun l => (s.lane l).ident) with
  | some i => i.kind == 2
  | none => false

/-- A JOIN fails at a check: the event, and once per second again while the shadow is UNPAIRED (R294, R295). -/
def State.joinFail (s : State) (check : Nat) : State :=
  let s := { s with pair := { s.pair with joinCheck := check, joinAsked := false, joinEpoch := none, joined := false } }
  let s := s.emit .pairJoinFail 0 [check]
  if s.pair.state = .unpaired ∧ s.pair.shadow then
    { s with pair := { s.pair with retryAt := some (s.now + 1000000000) } }
  else s

/-- The lowest check of 1 to 4 that fails, under the partner's facts (R295). -/
def State.joinCheckOf (s : State) (f : JoinFacts) : Option Nat :=
  let o := s.joinFacts
  if !(s.pairUp && s.partnerW128 && o.sideB != f.sideB) then some 1
  else if !(o.stepping == f.stepping && o.firmware == f.firmware && o.model == f.model) then some 2
  else if !(o.locked && f.locked && o.domainNumber == f.domainNumber && o.gm == f.gm) then some 3
  else if s.pair.skewMax * 1000 < s.pair.skew.natAbs then some 4
  else none

/-- This device and, by its latest health report, its partner are in PROVING (R453). -/
def State.bothProving (s : State) : Bool :=
  s.mode.mode == .proving && match s.pair.partnerHealth.getLast? with
    | some h => h.faults.getLsbD 14
    | none => false

/-- Issue JOIN (R293, R295): on a device that is not active, with PAIR_ACT_IN high, or in PROVING on side B (R453). Check 1 fails at once without a link to a
W128; otherwise the partner is asked for its facts. -/
def State.pairJoin (s : State) : State :=
  let p := s.pair
  if p.en && !p.actOut && (p.actIn || (p.shadow && s.bothProving)) && (p.state == .alone || p.state == .unpaired || p.state == .yielded) then
    let s := { s with pair := { p with retryAt := none } }
    if s.pairUp && s.partnerW128 then
      ({ s with pair := { s.pair with joinAsked := true } }).sendPair (.control (.join s.joinFacts))
    else s.joinFail 1
  else s

/-- A device that enters SHADOW from CONFIGURE issues JOIN; it waits UNPAIRED as the shadow for it to succeed (R294). -/
def State.joinAsShadow (s : State) : State := (s.pairTo .unpaired).pairJoin

/-- A pair whose devices are both in PROVING: side A is the active one, side B the shadow, which issues JOIN (R453; DESIGN CHOICE, log 225).
PAIR_ACT_OUT stays low. -/
def State.provePair (s : State) : State :=
  if s.pair.en ∧ s.pair.state = .alone ∧ s.bothProving then
    let s := { s with pair := { s.pair with shadow := s.board.sideB } }
    if s.board.sideB then s.joinAsShadow else s.pairTo .unpaired
  else s

/-- J: the reference head's first epoch at least 100 ms after the request (R295). -/
def State.joinEpochFrom (s : State) : Nat := s.headEpochFrom s.pair.refHead (s.now + 100000000)

/-- Begin a join at J: nothing is armed or joined yet. -/
def State.joinBegin (s : State) : State :=
  { s with
    pair := { s.pair with
    joinEpoch := some s.joinEpochFrom, joinAsked := false, joined := false, armed := 0, excl := s.mode.isoHead, joinedSrc := [],
    joinCheck := 0, ownBlocks := [], partnerBlocks := [], heads := [] } }

/-- The facts of a partner arrive (R295): the answer to this device's JOIN, or the JOIN of a shadow, which the active device
answers. -/
def State.rxJoin (s : State) (f : JoinFacts) : State :=
  if s.pair.joinAsked then
    match s.joinCheckOf f with
    | some k => s.joinFail k
    | none => s.joinBegin
  else if s.pairActive then
    let s := s.sendPair (.control (.join s.joinFacts))
    if (s.joinCheckOf f).isNone then s.joinBegin else s
  else s

/-- The coefficient hashes of every head and sheet engine (R295). -/
def State.allCoefHash (s : State) : List (BitVec 32) :=
  (List.range 16).flatMap (fun h => (List.range 4).map (sealedHash (s.head h).banks)) ++
    (List.range 2).flatMap (fun e => (List.range 4).map (sealedHash (s.engine e).banks))

/-- The words of GLB.CFG_HASH. -/
def State.cfgHashWords (s : State) : List (BitVec 32) := (List.range 8).map (Tab.get 0 s.glb.cfgHash)

/-- The state transfer of the active device, taken at J (R295). -/
def State.transferOut (s : State) : JoinTransfer :=
  let chk := fun (k : Nat) (b : BlazeState) => (k, b.started, b.seen, b.prev, b.lastChg)
  { insts := s.insts.map (fun p => (p.1, p.2.state, p.2.grants, p.2.pages)),
    surfs := (s.surfs.filter (fun p => p.2.created)).map (fun p => ⟨p.1, p.2.owner, p.2.format, p.2.w, p.2.h, p.2.maxRate, p.2.blaze⟩),
    objs := s.adm.objs.map (fun p => (p.1, p.2.on, p.2.set)), plain := s.adm.plain, ceilings := s.adm.ceilings, wins := s.adm.wins, cfgHash := s.cfgHashWords,
    blobHash := s.cfgHashWords,
    checkers := s.chans.map (fun p => chk (Source.key (.ch p.1)) p.2.checker) ++
      s.surfs.map (fun p => chk (Source.key (.surf p.1)) p.2.checker),
    views := s.heads.flatMap (fun p => p.2.views.map (fun v => (p.1, v.1, v.2.state.code, v.2.count))),
    coefHash := s.allCoefHash }

/-- JOIN_EPOCH (R295): at J the active device sends the state transfer, and manifests apply from then on; it is JOINING once the shadow
has answered that check 5 passed (R293). -/
def execJoinEpoch (t : Nat) (s : State) : Host.Outcome State Fault Refusal :=
  let s := s.at t
  match s.pair.joinEpoch with
  | some j =>
    if j ≤ s.now ∧ ¬ s.pair.joined then
      let s := { s with pair := { s.pair with joined := true, joinAt := s.now } }
      if s.pairActive then .next (s.sendPair (.control (.transfer j s.transferOut))) else .next s
    else .next s
  | none => .next s

/-- The verdict a transferred checker shows (R113, R114). -/
def checkerVerdict (c : BlazeCfg) (seen : Bool) : BlazeVerdict :=
  if !c.en then .off else if seen then .proven else .unproven

/-- The instances and surfaces of the active device taken over: their state arrives in the transfer (R327). A pair of equal pages maps the
same virtual pages on both devices. -/
def State.takeInsts (s : State) (x : JoinTransfer) : State :=
  let s := x.insts.foldl (fun (s : State) p =>
    let g : Option Grants := if p.2.1 = .free then none else some p.2.2.1
    { s.setInst p.1 { s.inst p.1 with state := p.2.1, grants := p.2.2.1, pages := p.2.2.2 } with
      adm := { s.adm with grants := Tab.set none s.adm.grants p.1 g } }) s
  x.surfs.foldl (fun (s : State) v =>
    s.setSurf v.index { s.surf v.index with
      created := true, owner := v.owner, format := v.format, w := v.w, h := v.h, maxRate := v.maxRate, blaze := v.blaze }) s

/-- Blaze checkers and window states of the active device taken over (R295). -/
def State.takeTransfer (s : State) (x : JoinTransfer) : State :=
  let s := x.checkers.foldl (fun s c =>
    let src : Source := if c.1 < 1000 then .ch c.1 else .surf (c.1 - 1000)
    s.setChecker src { (s.checker src) with
      started := c.2.1, seen := c.2.2.1, prev := c.2.2.2.1, lastChg := c.2.2.2.2,
      verdict := checkerVerdict (s.blazeCfg src) c.2.2.1 }) s
  let stateOf : Nat → WinState := fun k => match k with
    | 0 => .never | 1 => .live | 2 => .unproven | 3 => .invalid | 4 => .stale | 5 => .snag | 6 => .untimed | _ => .none
  x.views.foldl (fun s v =>
    let h := s.head v.1
    s.setHead v.1 { h with
      views := Tab.set {} h.views v.2.1 { (Tab.get {} h.views v.2.1) with state := stateOf v.2.2.1, count := v.2.2.2 } }) s

/-- JOIN_RETRY (R294): once per second an UNPAIRED shadow issues JOIN again. -/
def execJoinRetry (t : Nat) (s : State) : Host.Outcome State Fault Refusal :=
  let s := s.at t
  match s.pair.retryAt with
  | some a => if a ≤ s.now ∧ s.pair.state = .unpaired ∧ s.pair.shadow then .next s.pairJoin else .next s
  | none => .next s

/-- JOIN_MAX_EXPIRE (R295): heads not armed are excluded until the next JOIN, and the pair is PAIRED. -/
def execJoinMaxExpire (t : Nat) (s : State) : Host.Outcome State Fault Refusal :=
  let s := s.at t
  if s.pair.state = .joining ∧ s.pair.joinAt + s.pair.joinMax * 1000000 ≤ s.now then
    let left := (s.pairHeads.filter (fun h => !s.pair.armed.getLsbD h)).foldl (fun (a : BitVec 16) h => a ||| BitVec.ofNat 16 (2 ^ h)) 0
    let s := { s with pair := { s.pair with excl := s.pair.excl ||| left } }
    .next (s.pairTo .paired)
  else .next s

/-- LEAVE and deconfiguration (R293, R315): ALONE. -/
def State.pairLeave (s : State) : State :=
  let p := s.pair
  let s := { s with
    pair := { p with
    joinAsked := false, joinEpoch := none, joined := false, retryAt := none, armed := 0, excl := 0, pendingDiv := none,
    takeover := none, switching := false, switchAt := none, fills := [], surfData := [], gapCtx := [], gapSurf := [],
    ownBlocks := [], partnerBlocks := [] } }
  s.pairTo .alone

/-! ## Takeover and switch-back (R309 to R311, R314) -/

/-- X and S of a takeover decided now, at the earliest at `from_` (R310, R314); in PROVING there is none (R453). -/
def State.planTakeover (s : State) (from_ : Nat) : State :=
  if s.pair.takeover.isSome ∨ s.mode.mode = .proving then s
  else
    let x := s.headEpochFrom s.pair.refHead from_
    let c := (s.head s.pair.refHead).cfg
    let lead := if c.lineDen = 0 then 0 else c.lead * c.lineNum / c.lineDen
    { s with pair := { s.pair with takeover := some (x, false, x + lead) } }

/-- The contexts with entries not yet applied. -/
def State.unapplied (s : State) : List Nat :=
  ((s.pair.fills.filter (fun w => w.entry.kind != 2)).map (fun w => w.entry.index) ++
    (s.ctxs.filter (fun p => !p.2.entries.isEmpty)).map Prod.fst).eraseDups

/-- At X the shadow sequences its own inputs: entries not applied are discarded, and the partner hears of it (R310). -/
def State.takeoverEpoch (s : State) : State :=
  match s.pair.takeover with
  | some (x, false, sw) =>
    let left := s.unapplied
    let p := s.pair
    let tk := left.foldl (fun (a : Tab Nat) c => Tab.set 0 a c (Tab.get 0 p.mseq c + 1)) []
    let s := { s with
      pair := { p with takeover := some (x, true, sw), tkMseq := tk, fills := [], surfData := [] } }
    let s := left.foldl (fun s c => s.setCtx c { s.ctx c with entries := [] }) s
    let s := s.sendPair (.control (.takeover s.pair.cmdPos.toNat))
    (s.count Reg.pairTakeovers 1).emitAt .pairTakeover 0 x [(sw : Int), (s.pair.cmdPos.toNat : Int), (left.length : Int)]
  | _ => s

/-- TAKEOVER_EPOCH (R310). -/
def execTakeoverEpoch (t : Nat) (s : State) : Host.Outcome State Fault Refusal :=
  let s := s.at t
  match s.pair.takeover with
  | some p => if p.1 ≤ s.now then .next s.takeoverEpoch else .next s
  | none => .next s

/-- TAKEOVER_SWITCH (R310): at S the shadow takes the active role. After a SWITCHOVER the pair goes on to compare (R314). -/
def execTakeoverSwitch (t : Nat) (s : State) : Host.Outcome State Fault Refusal :=
  let s := s.at t
  match s.pair.takeover with
  | some p =>
    if p.2.1 ∧ p.2.2 ≤ s.now then
      let sw := s.pair.switchAt.isSome
      let s := { s with pair := { s.pair with takeover := none, switchAt := none, armed := 0, joinAt := s.now } }
      .next (s.takeRole.pairTo (if sw then .joining else .unpaired))
    else .next s
  | none => .next s

/-- PAIR_ACT_IN_LOST (R293): low for 1 ms at a shadow that is not YIELDED; it takes over (R310). -/
def execPairActInLost (t : Nat) (s : State) : Host.Outcome State Fault Refusal :=
  let s := s.at t
  let s := { s with pair := { s.pair with actIn := false, actInLow := some s.now } }
  if s.pair.en ∧ s.pair.shadow ∧ s.pair.state ≠ .yielded ∧ s.pair.state ≠ .alone then .next (s.planTakeover s.now) else .next s

/-- A rising edge of PAIR_ACT_IN clears OUTSEL; an active device gives up the role: to JOINING as the shadow where the rise
completes its own SWITCHOVER, to YIELDED otherwise (R291, R293, R311, R314). -/
def State.actInRise (s : State) : State :=
  let s := { s with pair := { s.pair with actIn := true, actInLow := none, outsel := false } }
  if s.pair.en ∧ s.pair.actOut then
    if s.pair.switching then
      let s := s.giveRole
      let s := { s with pair := { s.pair with switching := false, armed := 0, joinAt := s.now } }
      s.pairTo .joining
    else s.giveRole.pairTo .yielded
  else s

/-! ## SYNC, skew, health (R296, R297, R308) -/

/-- PAIR_SYNC_SEND (R296): T as it will be at the partner's ball, and RATE. -/
def execPairSyncSend (t : Nat) (s : State) : Host.Outcome State Fault Refusal :=
  let s := s.at t
  match s.pairLane with
  | some l =>
    if (s.lane l).state = .up then .next (s.sendTime l 1 (fun v rate => .pair (.sync v rate))) else .next s
  | none => .next s

/-- A SYNC message (R297): own T at the SOP minus the T carried. -/
def State.rxSync (s : State) (v : BitVec 64) (stamp : Nat) : State :=
  let d := (BitVec.ofNat 64 stamp - v).toInt
  let bad : Bool := decide (s.pair.skewMax * 1000 < d.natAbs)
  { s with
    pair := { s.pair with
    skew := d, skewBad := if bad then some (s.pair.skewBad.getD s.now) else none, skewSaid := bad && s.pair.skewSaid } }

/-- PAIR_SKEW_TIMEOUT (R297): above SKEW_MAX for 100 ms. -/
def execPairSkewTimeout (t : Nat) (s : State) : Host.Outcome State Fault Refusal :=
  let s := s.at t
  match s.pair.skewBad with
  | some a =>
    if a + 100000000 ≤ s.now ∧ ¬ s.pair.skewSaid then
      let s := ({ s with pair := { s.pair with skewSaid := true } }).emit .pairSkew 0 [s.pair.skew]
      .next (if s.pair.state = .paired then s.pairTo .unpaired else s)
    else .next s
  | none => .next s

/-- A report shows its device as faulted when any of bits 0 to 5 is set (R308, R447). -/
def faulted (h : Health) : Bool := h.faults.extractLsb' 0 6 != 0

/-- Every head not isolated on the active device is armed here (R309). -/
def State.armedFor (s : State) (isoActive : BitVec 16) : Bool :=
  (keys s.heads).all (fun h => (s.head h).state != .run || isoActive.getLsbD h || s.pair.armed.getLsbD h)

/-- A HEALTH message (R308, R312): the partner's report is kept for attribution; the shadow takes over from an active device that
newly reports an isolated unit, where it can and is not faulted itself. Heads isolated there are excluded from comparison. -/
def State.rxHealth (s : State) (h : Health) : State :=
  let was : Bool := match s.pair.partnerHealth.getLast? with
    | some p => p.faults.getLsbD 4
    | none => false
  let s := { s with
    pair := { s.pair with
    partnerHealth := (s.pair.partnerHealth.filter (fun (p : Health) => decide (s.now ≤ p.time + 1000000000))) ++ [h],
    excl := s.pair.excl ||| h.isoHead, armed := s.pair.armed &&& ~~~h.isoHead } }
  let s := s.provePair
  let own : Bool := s.pair.ownHealth.any (fun p => faulted p && decide (s.now ≤ p.time + 250000000))
  if h.faults.getLsbD 4 ∧ ¬ was ∧ ¬ own ∧ s.pair.shadow ∧ s.pair.state = .paired ∧ s.armedFor h.isoHead then s.planTakeover s.now else s

/-! ## Comparison (R306, R307) -/

def State.headCmp (s : State) (h : Nat) : HeadCmp := Tab.get {} s.pair.heads h
def State.setHeadCmp (s : State) (h : Nat) (x : HeadCmp) : State :=
  { s with pair := { s.pair with heads := Tab.set {} s.pair.heads h x } }

/-- A SIGNATURE message (R306): the partner's block is held for comparison. -/
def State.rxSignature (s : State) (b : SigBlock) : State :=
  { s with pair := { s.pair with partnerBlocks := s.pair.partnerBlocks ++ [b] } }

/-- The first differing line of two signature lists; 0xFFFF where none differs. -/
def firstDiff : Nat → List (BitVec 32) → List (BitVec 32) → Nat
  | i, a :: s, b :: t => if a = b then firstDiff (i + 1) s t else i
  | _, [], [] => 0xFFFF
  | i, _, _ => i

/-- A divergence at D (R309): the event, the record of the last one, and a decision to come. -/
def State.diverge (s : State) (v : Divergence) (code : Nat) : State :=
  if s.pair.pendingDiv.isSome then s
  else
    let s := s.emitAt .pairDiverge v.head v.d
      [(code : Int), (v.line : Int), (v.keyOwn.toNat : Int), (v.keyPartner.toNat : Int), (v.lag : Int)]
    { s with
      pair := { s.pair with lastDiv := some v, lastAttr := 0, pendingDiv := some v },
      prot := { s.prot with health := { s.prot.health with checked := some [] } } }

/-- Enter a comparison in a head's history of 64 (R307, R315). -/
def State.cmpResult (s : State) (h : Nat) (r : CmpResult) (own partner : Bool) : State :=
  let x := s.headCmp h
  let reg := match r with
    | .match_ => Reg.pairMatches
    | .mismatch => Reg.pairMismatches
    | .missing => Reg.pairMissing
    | .unmatched => Reg.pairUnmatched
    | _ => Reg.pairExcused
  let s := s.setHeadCmp h { x with
    last := r, history := ((r == .excused, own, partner) :: x.history).take 64,
    missRun := if r = .missing then x.missRun + 1 else 0,
    unmatchedRun := if r = .unmatched then x.unmatchedRun + 1 else 0 }
  s.count reg 1

/-- More than 32 EXCUSED among a head's last 64 comparisons: who set MISS in more of those blocks (R307); `shadow` says which
side this device is. -/
def excusedMore (shadow : Bool) (l : List (Bool × Bool × Bool)) : Option Bool :=
  let e := l.filter (fun x => x.1)
  let own := (e.filter (fun x => x.2.1)).length
  let other := (e.filter (fun x => x.2.2)).length
  if own = other then none else some (if other < own then shadow else !shadow)

/-- Compare an own block with a partner block at D. -/
def State.compareBlocks (s : State) (d : Nat) (a b : SigBlock) : State :=
  let h := a.head
  if a.key = b.key ∧ a.frameCrc = b.frameCrc ∧ a.sigs = b.sigs then s.cmpResult h .match_ a.miss b.miss
  else
    let v : Divergence :=
      { d := d, head := h, result := .mismatch, line := firstDiff 0 a.sigs b.sigs, keyOwn := a.key, keyPartner := b.key,
        lag := (d - a.epoch) / 1000, excusedMore := none }
    if a.miss || b.miss || a.gap || b.gap then
      let s := s.cmpResult h .excused a.miss b.miss
      let x := s.headCmp h
      let due : Bool := match x.excEvt with
        | some t => decide (t + 1000000000 ≤ s.now)
        | none => true
      let s := if due then (s.setHeadCmp h { x with excEvt := some s.now }).emit .pairExcused h [] else s
      if 32 < ((s.headCmp h).history.filter (fun y => y.1)).length then
        s.diverge { v with result := .excused, excusedMore := excusedMore s.pair.shadow (s.headCmp h).history } 5
      else s
    else (s.cmpResult h .mismatch a.miss b.miss).diverge v 2

/-- The partner block an own block is compared with: of the same epoch on a locked head, of equal KEY within one longest period
on a ready-driven one (R307). -/
def State.partnerOf (s : State) (a : SigBlock) : Option SigBlock :=
  let c := (s.head a.head).cfg
  s.pair.partnerBlocks.find? (fun b => b.head == a.head &&
    (if c.ready then b.key == a.key && decide (((b.epoch : Int) - a.epoch).natAbs ≤ c.periodNs) else b.epoch == a.epoch))

/-- Drop the blocks of a head up to an epoch: its own, and the partner's that no later own block can be compared with (R307). -/
def State.dropBlocks (s : State) (h e : Nat) : State :=
  let c := (s.head h).cfg
  let keep := fun (back : Nat) (b : SigBlock) => b.head != h || decide (e < b.epoch + back)
  { s with
    pair := { s.pair with
    ownBlocks := s.pair.ownBlocks.filter (keep 0),
    partnerBlocks := s.pair.partnerBlocks.filter (keep (if c.ready then c.periodNs else 0)) } }

/-- Drop a partner block that has been compared. -/
def State.dropCompared (s : State) (b : SigBlock) : State :=
  { s with pair := { s.pair with partnerBlocks := s.pair.partnerBlocks.filter (fun x => x.head != b.head || x.epoch != b.epoch) } }

/-- A block of an armed head is absent at the comparison epoch: 3 in a row on one head take the pair to UNPAIRED, except while a divergence
waits for its decision (R307, R309). -/
def State.missingBlock (s : State) (h : Nat) (own partner : Bool) : State :=
  let s := s.cmpResult h .missing own partner
  if 3 ≤ (s.headCmp h).missRun ∧ s.pair.pendingDiv.isNone then (s.emit .pairLinkLost 0 [h]).unpair else s

/-- PAIR_COMPARISON (R307): the oldest own block of head `h` whose comparison epoch has come. A partner's block without an own
one is missing here. -/
def execPairComparison (t : Nat) (h : Fin 16) (s : State) : Host.Outcome State Fault Refusal :=
  let s := s.at t
  let due := fun (b : SigBlock) => b.head == h.val && decide (b.epoch + s.pair.cmpDelay * 1000 ≤ s.now)
  let compared : Bool := s.pair.armed.getLsbD h.val && (s.pair.state == .paired || s.pair.state == .joining)
  let ready := (s.head h.val).cfg.ready
  match s.pair.ownBlocks.find? due with
  | some a =>
    let d := a.epoch + s.pair.cmpDelay * 1000
    if compared then
      match s.partnerOf a with
      | some b => .next (((s.compareBlocks d a b).dropCompared b).dropBlocks h.val a.epoch)
      | none =>
        if ready then
          let s := s.cmpResult h.val .unmatched a.miss false
          let v : Divergence :=
            { d := d, head := h.val, result := .unmatched, line := 0xFFFF, keyOwn := a.key, keyPartner := 0,
              lag := (d - a.epoch) / 1000, excusedMore := none }
          let s := if 8 ≤ (s.headCmp h.val).unmatchedRun then s.diverge v 4 else s
          .next (s.dropBlocks h.val a.epoch)
        else .next ((s.missingBlock h.val a.miss false).dropBlocks h.val a.epoch)
    else .next (s.dropBlocks h.val a.epoch)
  | none =>
    match s.pair.partnerBlocks.find? due with
    | some b =>
      if ready then
        .next (if b.epoch + (s.head h.val).cfg.periodNs + s.pair.cmpDelay * 1000 ≤ s.now then s.dropCompared b else s)
      else .next ((if compared then s.missingBlock h.val false b.miss else s).dropCompared b)
    | none => .next s

/-! ## Attribution (R308, R309, R312, R453) -/

/-- A device's reports with stamps in the window of a divergence. -/
def windowReports (d : Nat) (l : List Health) : List Health :=
  l.filter (fun h => decide (d ≤ h.time + 250000000) && decide (h.time ≤ d + 100000000))

/-- A device counts as faulted for a divergence at D: one of its reports shows it so, or none is stamped at or after D. -/
def countsFaulted (d : Nat) (l : List Health) : Bool :=
  (windowReports d l).any faulted || !((windowReports d l).any (fun h => decide (d ≤ h.time)))

/-- Decide a divergence (R309): 1 ACTIVE, 2 SHADOW, 3 UNATTRIBUTED. In PROVING an ACTIVE attribution is only reported (R453). -/
def State.attribute (s : State) (v : Divergence) : State :=
  let p := s.pair
  let own := countsFaulted v.d p.ownHealth || (match v.excusedMore with
    | some b => b == p.shadow
    | none => false)
  let other := countsFaulted v.d p.partnerHealth || (match v.excusedMore with
    | some b => b != p.shadow
    | none => false)
  let act := if p.shadow then other else own
  let sh := if p.shadow then own else other
  let isoActive : BitVec 16 := if p.shadow then (match p.partnerHealth.getLast? with
      | some h => h.isoHead
      | none => 0) else s.mode.isoHead
  let attr := if act && !sh then 1 else if sh && !act then 2 else 3
  let s := ({ s with pair := { p with pendingDiv := none, lastAttr := attr } }).count Reg.pairDivergences 1
  let s := s.emit .pairAttributed 0 [(attr : Int), (v.d : Int)]
  if s.mode.mode = .proving ∧ attr = 1 then s
  else if attr = 1 then
    if s.pair.state = .paired && s.armedFor isoActive then (if s.pair.shadow then s.planTakeover s.now else s)
    else (s.emit .pairTakeoverRefused 0 []).unpair
  else s.unpair

/-- ATTRIBUTION_DECIDE (R309): once each device has reported at or after D, and in any case at D + 100 ms. -/
def execAttributionDecide (t : Nat) (s : State) : Host.Outcome State Fault Refusal :=
  let s := s.at t
  match s.pair.pendingDiv with
  | some v =>
    let after := fun (l : List Health) => l.any (fun h => decide (v.d ≤ h.time))
    if (after s.pair.ownHealth && after s.pair.partnerHealth) || decide (v.d + 100000000 ≤ s.now) then .next (s.attribute v)
    else .next s
  | none => .next s

/-! ## Fills on the active device (R304) -/

/-- A FILL_REQ message (R304): the bytes if they are retained and the fill share (`share`) is not spent, or a refusal. -/
def State.rxFillReq (s : State) (c mseq : Nat) (share : Bool) : State :=
  if s.pairSends then
    let r := s.pair.retained.find? (fun r => r.ctx == c && r.mseq == mseq && decide (s.now ≤ r.until_))
    s.sendPair (.fillData c mseq (if share then r.map (fun r => r.content) else none))
  else s

/-- FILL_RETENTION_EXPIRE (R304): bytes kept for 200 ms are released. -/
def execFillRetentionExpire (t : Nat) (s : State) : Host.Outcome State Fault Refusal :=
  let s := s.at t
  .next { s with pair := { s.pair with retained := s.pair.retained.filter (fun r => decide (s.now < r.until_)) } }

end Sys2Proof.Machine
end

