-- ==== Sys2Proof/Machine/HostBase.lean ====
section
/-! DEFINITION. What every family needs of instances: completions (R324 to R326), a write refused on a doorbell page (R327). -/

namespace Sys2Proof.Machine

/-- Work order `id` of instance `n`, while accepted and not complete. -/
def State.work (s : State) (n id : Nat) : Option Work := (s.inst n).works.find? (fun w => w.id == id)

/-- Replace a work order. -/
def State.setWork (s : State) (n : Nat) (w : Work) : State :=
  let i := s.inst n
  s.setInst n { i with works := i.works.map (fun (x : Work) => if x.id = w.id then w else x) }

/-- Complete a work order: its completion record is written, and signalled at once where IRQ asks for it (R324, R326). -/
def State.complete (s : State) (n id status reason result : Nat) : State :=
  match s.work n id with
  | none => s
  | some w =>
    let i := s.inst n
    let c : Completion :=
      { tag := w.order.tag, queue := w.queue, status := status, reason := if status = 1 then reason else 0, result := result % 65536,
        time := s.now }
    let s := s.setInst n { i with
      works := i.works.filter (fun (x : Work) => x.id != id),
      cq := { i.cq with records := i.cq.records ++ [c], tail := (i.cq.tail + 1) % 2 ^ 32 } }
    let s := if status = 1 then s.count (Reg.instRefused n) 1 else s
    let s := s.send (.completion n (ringPlace i.cq.base i.cq.size 16 i.cq.tail) (Completion.bytes c))
    if w.order.irq && (s.inst n).cq.en && !(s.inst n).cq.signalled then
      let i := s.inst n
      (s.setInst n { i with cq := { i.cq with signalled := true } }).signalVec n i.cq.vec
    else s.cqSignal n

/-- Count a refusal of the protection unit (R395, R447). -/
def State.mpuCount (s : State) : State :=
  ({ s with prot := { s.prot with health := { s.prot.health with mpuFaults := s.prot.health.mpuFaults + 1 } } }).count Reg.mpuFaultCount 1

/-- End of the window of requester `who`, device time (R396). -/
def Posted.windowEnd (p : Posted) : Nat := (p.first / 1000000 + 1) * 1000000

/-- Raise the notice of a requester whose window has ended (R396). -/
def State.postNotice (s : State) (who : Nat) : State :=
  let p := Tab.get {} s.prot.posted who
  if p.count ≠ 0 ∧ Posted.windowEnd p ≤ s.now then
    let s := { s with prot := { s.prot with posted := Tab.set {} s.prot.posted who {} } }
    (s.emitAt .mpuPostedNotice who (Posted.windowEnd p) [p.first, p.count, p.kinds]).count Reg.mpuNotices 1
  else s

/-- A posted write refused, counted in the window of its requester: kind 0 protection, 1 lock, 2 a doorbell page (R327, R396). The
first two are refusals of the protection unit (R395). -/
def State.postedRefused (s : State) (who kind : Nat) : State :=
  let s := s.postNotice who
  let p := Tab.get {} s.prot.posted who
  let q : Posted := { first := if p.count = 0 then s.now else p.first, count := p.count + 1, kinds := p.kinds ||| 2 ^ kind }
  let s := { s with prot := { s.prot with posted := Tab.set {} s.prot.posted who q } }
  if kind < 2 then s.mpuCount else s

end Sys2Proof.Machine
end

