-- ==== Sys2Proof/Machine/SafeReq.lean ====
section
/-! DEFINITION. Safelight requests of both kinds: validation against the state left by the requests before, and the queue in which they
wait for their heads' epochs (R219, R220, R222, R223). -/

namespace Sys2Proof.Machine

/-- The key of a tile-map cell. -/
def cellKey (h cx cy : Nat) : Nat := 65536 * h + 120 * cy + cx

/-- A tile-map entry (R220). -/
def cellOf (blink : Bool) (pal glyph : Nat) : BitVec 16 := BitVec.ofNat 16 (b2n blink * 2 ^ 15 + pal % 16 * 2 ^ 11 + glyph % 2 ^ 11)

/-- The heads of a mask. -/
def headsOf (m : BitVec 16) : List Nat := (List.range 16).filter (fun h => m.getLsbD h)

/-- The heads a request touches: those it names; a request that writes glyphs alone touches every head. -/
def safeHeads (r : SafeRequest) : BitVec 16 := if r.cells.isEmpty && r.palette.isEmpty then 0xFFFF else r.heads

/-- The whitelist entry that lets an instance write a cell on head `h` (R222). -/
def wlCell (l : List SafeWl) (h cx cy glyph : Nat) : Option SafeWl :=
  l.find? (fun e => e.en && e.head == h && decide (e.cx ≤ cx) && decide (cx < e.cx + e.cw) && decide (e.cy ≤ cy) &&
    decide (cy < e.cy + e.ch) && decide (cx < 120) && decide (cy < 68) &&
    (glyph == 0 || (decide (e.glyphBase ≤ glyph) && decide (glyph < e.glyphBase + e.glyphCount))))

/-- An instance's request stays within its whitelist and off the cells the field network holds (R222). -/
def State.safeOk (s : State) (n : Nat) (r : SafeRequest) : Bool :=
  let l := (s.inst n).grants.safeWl
  r.palette.isEmpty &&
    r.glyphs.all (fun g => decide (1 ≤ g.1) && decide (g.1 ≤ 2047) &&
      l.any (fun e => e.en && decide (e.glyphBase ≤ g.1) && decide (g.1 < e.glyphBase + e.glyphCount))) &&
    (r.cells.isEmpty || r.heads != 0) &&
    (headsOf r.heads).all (fun h => r.cells.all (fun c =>
      (wlCell l h c.1 c.2.1 c.2.2.2.2).isSome && !Tab.get false s.safe.heldCells (cellKey h c.1 c.2.1)))

/-- Put a valid request into the queue (R223). -/
def State.safeQueue (s : State) (p : SafePending) : State := { s with safe := { s.safe with queue := s.safe.queue ++ [p] } }

/-- A valid request of an instance, stamped `at_`: its cells take the palette of their whitelist entry. -/
def State.safeInst (s : State) (at_ n : Nat) (r : SafeRequest) : State :=
  let l := (s.inst n).grants.safeWl
  let cells := (headsOf r.heads).flatMap (fun h => r.cells.map (fun c =>
    (h, c.1, c.2.1, cellOf c.2.2.1 (((wlCell l h c.1 c.2.1 c.2.2.2.2).map (fun e => e.pal)).getD 0) c.2.2.2.2)))
  s.safeQueue { by_ := .inst n, receipt := at_, heads := safeHeads r, glyphs := r.glyphs, palette := [], cells := cells, counted := false }

/-- A valid request of the field network, stamped `at_`: it holds the cells it writes, and releases those it writes glyph 0 to. -/
def State.safeField (s : State) (at_ : Nat) (r : SafeRequest) : State :=
  let cells := (headsOf r.heads).flatMap (fun h => r.cells.map (fun c => (h, c.1, c.2.1, cellOf c.2.2.1 c.2.2.2.1 c.2.2.2.2)))
  let held := cells.foldl (fun (t : Tab Bool) c => Tab.set false t (cellKey c.1 c.2.1 c.2.2.1) (c.2.2.2.toNat % 2 ^ 11 != 0)) s.safe.heldCells
  let s := { s with safe := { s.safe with heldCells := held } }
  s.safeQueue { by_ := .field, receipt := at_, heads := safeHeads r, glyphs := r.glyphs, palette := r.palette, cells := cells, counted := false }

/-- A request refused: counted, with its event; `n` the instance, −1 for the field network (R222). -/
def State.safeRefuse (s : State) (n : Int) : State := (s.count Reg.safeReqRefused 1).emit .safeReqRefused 0 [n]

/-! ## Alarm tones (R364, R384, R385) -/

/-- An alarm pattern, and a change of it. -/
def State.pattern (s : State) (q : Nat) : AlarmPattern := Tab.get {} s.console.patterns q
def State.setPattern (s : State) (q : Nat) (p : AlarmPattern) : State :=
  { s with console := { s.console with patterns := Tab.set {} s.console.patterns q p } }

/-- A segment's frequency, duration and level are in range (R364). -/
def segmentOk (g : Nat × Nat × Nat × Nat) : Bool :=
  (g.1 == 0 || !outside g.1 100 8000) && !outside g.2.1 10 10000 && decide (g.2.2.1 ≤ 60)

/-- The validation refusals of R384 and R222. -/
def State.safetyWhy (s : State) (w : SafetyWrite) : List Reason :=
  match w with
  | .inst n r => chk (!s.safeOk n r) cFormat 0xA0
  | .field r =>
    chk (r.glyphs.any (fun g => g.1 == 0 || decide (2047 < g.1)) || r.palette.any (fun p => decide (15 < p.1)) ||
        r.cells.any (fun c => decide (15 < c.2.2.2.1) || decide (2047 < c.2.2.2.2))) cFormat 0xA0 ++
      chk ((r.glyphs.isEmpty && r.palette.isEmpty && r.cells.isEmpty) ||
        r.cells.any (fun c => decide (119 < c.1) || decide (67 < c.2.1))) cFormat 0xA1
  | .segments _ l => chk (l.any (fun g => decide (1 < g.2.2.2))) cFormat 0xA2 ++ chk (!l.all segmentOk || outside l.length 1 16) cTiming 0x93
  | .request _ v => chk (bit v 15 && (s.pattern (v % 16)).segments.isEmpty) cFormat 0xA2
  | _ => []

/-- Apply a valid request, stamped `at_` (R223, R385): an alarm request is applied 2 ms after its stamp. -/
def State.safetyApply (s : State) (at_ : Nat) (w : SafetyWrite) : State :=
  let c := s.console
  match w with
  | .inst n r => s.safeInst at_ n r
  | .field r => s.safeField at_ r
  | .repeat_ q v => s.setPattern q { s.pattern q with repeat_ := v }
  | .segments q l =>
    s.setPattern q { s.pattern q with
      segments := l.map (fun g => { freq := g.1, ms := g.2.1, level := g.2.2.1, square := g.2.2.2 == 1 }) }
  | .request q v => { s with
      console := { c with alarmWait := c.alarmWait ++ [(q, v, at_)] },
      dict := { s.dict with requests := Tab.set 0 s.dict.requests q (BitVec.ofNat 16 v) } }
  | .slots v => { s with console := { c with alarmSlots := BitVec.ofNat 32 v } }
  | .duck v => { s with console := { c with duck := v } }

end Sys2Proof.Machine
end

