-- ==== Sys2Proof/Machine/Audio.lean ====
section
/-! DEFINITION. Alarm tones and the mixer (R362 to R365, R369, R385). -/

namespace Sys2Proof.Machine

/-- The active request to play: the highest priority, then the lower pattern, then the lower request (R364). -/
def bestAlarm (l : List (Nat × Nat × Nat)) : Option (Nat × Nat × Nat) :=
  l.foldl (fun (a : Option (Nat × Nat × Nat)) x => match a with
    | none => some x
    | some y =>
      if y.2.2 < x.2.2 ∨ (y.2.2 = x.2.2 ∧ (x.2.1 < y.2.1 ∨ (x.2.1 = y.2.1 ∧ x.1 < y.1))) then some x else some y) none

/-- The request that plays. -/
def Tone.request (t : Tone) : Nat × Nat × Nat := (t.req, t.pattern, t.prio)

/-- A request ends (R364). -/
def State.alarmOff (s : State) (q : Nat) : State :=
  let c := s.console
  if c.alarms.any (fun x => x.1 == q) then
    ({ s with console := { c with alarms := c.alarms.filter (fun x => x.1 != q), toneDue := true } }).emit .safeAlarmOff 0 [q]
  else s

/-- Apply one accepted write of a REQUEST entry: EN 0 ends the request; EN 1 starts it, in place of what it was before. -/
def State.applyAlarm (s : State) (q v : Nat) : State :=
  let s := s.alarmOff q
  if bit v 15 then
    let c := s.console
    ({ s with console := { c with alarms := c.alarms ++ [(q, v % 16, bits v 10 8)], toneDue := true } }).emit .safeAlarmOn 0 [q]
  else s

/-- ALARM_REQUEST_ACTIVATE (R385): the requests whose receipt stamp plus 2 ms has come, in their order. -/
def execAlarmRequestActivate (t : Nat) (s : State) : Host.Outcome State Fault Refusal :=
  let s := s.at t
  let due := fun (x : Nat × Nat × Nat) => decide (x.2.2 + 2000000 ≤ s.now)
  let l := s.console.alarmWait.filter due
  let s := { s with console := { s.console with alarmWait := s.console.alarmWait.filter (fun x => !due x) } }
  .next (l.foldl (fun s x => s.applyAlarm x.1 x.2.1) s)

/-- The tone that starts at an audio frame: the best request, from its first segment; one that plays already goes on (R364, R385). -/
def State.startTone (s : State) : State :=
  let c := s.console
  match bestAlarm c.alarms with
  | none => { s with console := { c with tone := none, toneDue := false } }
  | some x =>
    match c.tone with
    | some y => if Tone.request y = x ∧ ¬ c.toneDue then s
      else { s with
        console := { c with
        tone := some { req := x.1, pattern := x.2.1, prio := x.2.2, content := s.pattern x.2.1, segStart := s.now }, toneDue := false } }
    | none => { s with
        console := { c with
        tone := some { req := x.1, pattern := x.2.1, prio := x.2.2, content := s.pattern x.2.1, segStart := s.now }, toneDue := false } }

/-- ALARM_SEGMENT_END (R364): the next segment, the next repeat with what the pattern holds now, or the end of the request. -/
def execAlarmSegmentEnd (t : Nat) (s : State) : Host.Outcome State Fault Refusal :=
  let s := s.at t
  let c := s.console
  match c.tone with
  | none => .next s
  | some x =>
    match x.content.segments[x.segment]? with
    | none => .next { s with console := { c with tone := none, toneDue := true } }
    | some g =>
      let e := x.segStart + g.ms * 1000000
      if e ≤ s.now then
        if x.segment + 1 < x.content.segments.length then
          .next { s with console := { c with tone := some { x with segment := x.segment + 1, segStart := e } } }
        else if x.content.repeat_ = 0 ∨ x.rep + 1 < x.content.repeat_ then
          .next { s with
            console := { c with tone := some { x with segment := 0, rep := x.rep + 1, segStart := e, content := s.pattern x.pattern } } }
        else .next (({ s with console := { c with tone := none } }).alarmOff x.req)
      else .next s

/-! ## The mixer (R363) -/

/-- The sample of the alarm bus now; silence of a segment once its ramp is over is 0. -/
def State.alarmSample (s : State) : Int :=
  match s.console.tone with
  | none => 0
  | some x => match x.content.segments[x.segment]? with
    | none => 0
    | some g => if g.freq = 0 ∧ 2000000 ≤ s.now - x.segStart then 0
      else Config.toneSample g.freq g.level g.square (s.now - x.segStart)

/-- A sample attenuated by `a` half dBs. -/
def attenuate (a : Nat) (x : Int) : Int := if a = 0 then x else Config.attenuated a x

/-- One term of a mix register: IN, EN, ATT. -/
def mixTerm (ins : List Int) (r : Nat) : Int :=
  if !bit r 7 || 192 ≤ bits r 15 8 then 0 else attenuate (bits r 15 8) (ins.getD (bits r 4 0) 0)

/-- An output before saturation: up to four terms, DUCK while a tone plays on an alarm output, and the alarm bus. -/
def State.mixOut (s : State) (ins : List Int) (o : Nat) : Int :=
  let a := s.reg (Reg.audMix01 o)
  let b := s.reg (Reg.audMix23 o)
  let sum := mixTerm ins a + mixTerm ins (a / 2 ^ 16) + mixTerm ins b + mixTerm ins (b / 2 ^ 16)
  let c := s.console
  if c.alarmSlots.getLsbD o then
    (if c.tone.isNone then sum else if 121 ≤ c.duck then 0 else attenuate c.duck sum) + s.alarmSample
  else sum

/-- A sample as 24 bits hold it. -/
def sat24 (x : Int) : Int := clampI (-8388608) 8388607 x

/-- AUDIO_FRAME (R362 to R364): the slots of TDM0–3_DIN arrive; what arrived two frames ago is mixed; a pending tone starts. Ports that
are not enabled bring and carry 0. -/
def execAudioFrame (t : Nat) (ins : List Int) (s : State) : Host.Outcome State Fault Refusal :=
  let s := s.at t
  if !s.up then .next s
  else
    let s := if s.console.toneDue then s.startTone else s
    let c := s.console
    let on := fun (i : Nat) => c.portEn.getLsbD (i / 8)
    let now_ := (List.range 32).map (fun i => if on i then sat24 (ins.getD i 0) else 0)
    let old := (c.ins[1]?).getD []
    let raw := (List.range 32).map (fun o => if on o then s.mixOut old o else 0)
    let s := s.count Reg.audClips (raw.filter (fun x => sat24 x != x)).length
    .next { s with
      console := { s.console with
      ins := [now_, (c.ins[0]?).getD []], audioOut := raw.map sat24, audioFrames := c.audioFrames + 1 } }

end Sys2Proof.Machine
end

