-- ==== Sys2Proof/Machine/Sha.lean ====
section
/-! DEFINITION. SHA-256 (FIPS 180-4), with which the manual hashes blobs and images (R44, R401, R403). -/

namespace Sys2Proof.Machine

/-- The round constants and the initial hash value. -/
def shaK : List (BitVec 32) :=
  [0x428A2F98, 0x71374491, 0xB5C0FBCF, 0xE9B5DBA5, 0x3956C25B, 0x59F111F1, 0x923F82A4, 0xAB1C5ED5] ++
  [0xD807AA98, 0x12835B01, 0x243185BE, 0x550C7DC3, 0x72BE5D74, 0x80DEB1FE, 0x9BDC06A7, 0xC19BF174] ++
  [0xE49B69C1, 0xEFBE4786, 0x0FC19DC6, 0x240CA1CC, 0x2DE92C6F, 0x4A7484AA, 0x5CB0A9DC, 0x76F988DA] ++
  [0x983E5152, 0xA831C66D, 0xB00327C8, 0xBF597FC7, 0xC6E00BF3, 0xD5A79147, 0x06CA6351, 0x14292967] ++
  [0x27B70A85, 0x2E1B2138, 0x4D2C6DFC, 0x53380D13, 0x650A7354, 0x766A0ABB, 0x81C2C92E, 0x92722C85] ++
  [0xA2BFE8A1, 0xA81A664B, 0xC24B8B70, 0xC76C51A3, 0xD192E819, 0xD6990624, 0xF40E3585, 0x106AA070] ++
  [0x19A4C116, 0x1E376C08, 0x2748774C, 0x34B0BCB5, 0x391C0CB3, 0x4ED8AA4A, 0x5B9CCA4F, 0x682E6FF3] ++
  [0x748F82EE, 0x78A5636F, 0x84C87814, 0x8CC70208, 0x90BEFFFA, 0xA4506CEB, 0xBEF9A3F7, 0xC67178F2]
def shaInit : List (BitVec 32) := [0x6A09E667, 0xBB67AE85, 0x3C6EF372, 0xA54FF53A, 0x510E527F, 0x9B05688C, 0x1F83D9AB, 0x5BE0CD19]

/-- The functions of the standard on 32-bit words. -/
def shaCh (x y z : BitVec 32) : BitVec 32 := (x &&& y) ^^^ (~~~x &&& z)
def shaMaj (x y z : BitVec 32) : BitVec 32 := (x &&& y) ^^^ (x &&& z) ^^^ (y &&& z)
def shaBig0 (x : BitVec 32) : BitVec 32 := x.rotateRight 2 ^^^ x.rotateRight 13 ^^^ x.rotateRight 22
def shaBig1 (x : BitVec 32) : BitVec 32 := x.rotateRight 6 ^^^ x.rotateRight 11 ^^^ x.rotateRight 25
def shaSmall0 (x : BitVec 32) : BitVec 32 := x.rotateRight 7 ^^^ x.rotateRight 18 ^^^ (x >>> 3)
def shaSmall1 (x : BitVec 32) : BitVec 32 := x.rotateRight 17 ^^^ x.rotateRight 19 ^^^ (x >>> 10)

/-- `n` further words of the message schedule, newest first. -/
def shaExtend : Nat → List (BitVec 32) → List (BitVec 32)
  | 0, l => l
  | n + 1, l => shaExtend n
      ((shaSmall1 ((l[1]?).getD 0) + (l[6]?).getD 0 + shaSmall0 ((l[14]?).getD 0) + (l[15]?).getD 0) :: l)

/-- One round on the eight working variables: constant, schedule word. -/
def shaRound (v : List (BitVec 32)) (kw : BitVec 32 × BitVec 32) : List (BitVec 32) :=
  match v with
  | [a, b, c, d, e, f, g, h] =>
    let t1 := h + shaBig1 e + shaCh e f g + kw.1 + kw.2
    [t1 + shaBig0 a + shaMaj a b c, a, b, c, d + t1, e, f, g]
  | _ => v

/-- One block of sixteen words. -/
def shaBlock (h w : List (BitVec 32)) : List (BitVec 32) :=
  let ws := (shaExtend 48 w.reverse).reverse
  List.zipWith (· + ·) h ((shaK.zip ws).foldl shaRound h)

/-- Blocks of sixteen words; `fuel` bounds them. -/
def shaBlocks : Nat → List (BitVec 32) → List (BitVec 32) → List (BitVec 32)
  | 0, h, _ => h
  | n + 1, h, ws => if ws.length < 16 then h else shaBlocks n (shaBlock h (ws.take 16)) (ws.drop 16)

/-- Big-endian words of a byte list. -/
def beWords : List (BitVec 8) → List (BitVec 32)
  | a :: b :: c :: d :: t => (a ++ b ++ c ++ d : BitVec 32) :: beWords t
  | _ => []

/-- `n` bytes of a number, most significant first. -/
def shaBe (n v : Nat) : List (BitVec 8) := (leBytes n v).reverse

/-- SHA-256 of a byte list, as eight words of the digest, most significant byte of each first. -/
def sha256 (bs : List (BitVec 8)) : List (BitVec 32) :=
  let n := bs.length
  let m := bs ++ [0x80] ++ List.replicate ((119 - n % 64) % 64) 0 ++ shaBe 8 (8 * n)
  shaBlocks (m.length / 64) shaInit (beWords m)

/-- The four bytes of a word, most significant first. -/
def wordBytes (w : BitVec 32) : List (BitVec 8) := shaBe 4 w.toNat

/-- A digest as bytes, and as registers show it: word k holds bytes 4k to 4k + 3, little-endian (R17, R51, R411). -/
def shaBytes (bs : List (BitVec 8)) : List (BitVec 8) := (sha256 bs).flatMap wordBytes
def leWords (bs : List (BitVec 8)) : List (BitVec 32) := (beWords bs).map (fun w => BitVec.ofNat 32 (leNat (wordBytes w)))
def shaRegs (bs : List (BitVec 8)) : List (BitVec 32) := leWords (shaBytes bs)

end Sys2Proof.Machine
end

