-- ==== Sys2Proof/Machine/Image.lean ====
section
/-! DEFINITION. What the flash holds: image headers and their checks (R398, R401, R402, R406, R407), the board record, its layout and its
checks (R427, R428). -/

namespace Sys2Proof.Machine

/-! ## The header (R401, R402) -/

/-- The fields of an image header. -/
def headerOf (l : List (BitVec 8)) : ImageHeader :=
  { magic := fieldAt l 0 4, hdrVersion := fieldAt l 4 2, hdrLen := fieldAt l 6 2, imageLen := fieldAt l 8 4, stepping := fieldAt l 0xC 1,
    fwVersion := BitVec.ofNat 32 (fieldAt l 0x10 4), modelVersion := BitVec.ofNat 32 (fieldAt l 0x14 4), layout := fieldAt l 0x18 2,
    rollback := fieldAt l 0x1A 2, keyId := fieldAt l 0x1C 1, targets := fieldAt l 0x1D 1, payloadHash := beWords (bytesAt l 0x20 32),
    reservedZero := zeroAt l 0xD 3 && zeroAt l 0x1E 2 && zeroAt l 0x50 3920 && fieldAt l 0x1D 1 &&& 0x7C == 0 }

/-- A key is present and not revoked, and may sign for the part: 4 to 7 on a PRODUCTION part (R398, R402). -/
def State.keyOk (s : State) (k : Nat) : Bool :=
  decide (k < 8) && s.prot.keyStore.getLsbD k && (s.prot.development || decide (4 ≤ k))

/-- PROMOTE of a header: it is a promotion token (R397). -/
def ImageHeader.promote (h : ImageHeader) : Bool := bit h.targets 7

/-- Check 1 of R402: the header is laid out as R401 says, its lengths and its rollback level in range. -/
def ImageHeader.formed (h : ImageHeader) : Bool :=
  h.magic == 0x57314657 && h.hdrVersion == 1 && h.hdrLen == 4096 && decide (4096 ≤ h.imageLen) && decide (h.imageLen ≤ 16777216) &&
    h.reservedZero && decide (h.rollback ≤ 64)

/-- Check 2 of R402: stepping and lifecycle; a promotion token only where `token` says that one may be taken. -/
def State.headerFits (s : State) (h : ImageHeader) (token : Bool) : Bool :=
  h.stepping == 0xA1 && bit h.targets (if s.prot.development then 0 else 1) &&
    (!ImageHeader.promote h || (token && s.prot.development && h.imageLen == 4096))

/-- Check 3 of R402; a promotion token is signed with a production key (R397). -/
def State.headerKeyOk (s : State) (h : ImageHeader) : Bool := s.keyOk h.keyId && (!ImageHeader.promote h || decide (4 ≤ h.keyId))

/-- Check 4 of R402. -/
def headerSigned (l : List (BitVec 8)) : Bool := Config.signatureOk (headerOf l).keyId (l.take 0xFA0) (bytesAt l 0xFA0 96)

/-! ## The slots in flash (R406, R407) -/

/-- The flash offset of a slot (R406). -/
def slotBase (b : Bool) : Nat := if b then 0x2000000 else 0x1000000

/-- Read `n` bytes of flash. -/
def State.flashRead (s : State) (a n : Nat) : List (BitVec 8) := (List.range n).map (fun i => Tab.get 0xFF s.prot.flash (a + i))

/-- Slot B or A holds an image whose header passes checks 1 to 5 of R402 and whose payload has the hash the header gives: what the ROM
checks before it starts a slot (R407). -/
def State.slotHolds (s : State) (b : Bool) : Bool :=
  let l := s.flashRead (slotBase b) 4096
  let h := headerOf l
  ImageHeader.formed h && s.headerFits h false && s.headerKeyOk h && headerSigned l && decide (s.prot.fuse ≤ h.rollback) &&
    sha256 (s.flashRead (slotBase b + 4096) (h.imageLen - 4096)) == h.payloadHash

/-! ## The board record (R427, R428) -/

/-- `n` bytes of a record from an offset, and the little-endian number they hold; a byte not listed is 0. -/
def recordBytes (r : Tab (BitVec 8)) (o n : Nat) : List (BitVec 8) := (List.range n).map (fun i => Tab.get 0 r (o + i))
def recordField (r : Tab (BitVec 8)) (o n : Nat) : Nat := leNat (recordBytes r o n)

/-- An offset of the record lies in a field that R427 reserves whole. -/
def recordReserved (o : Nat) : Bool :=
  (decide (0x1A ≤ o) && decide (o < 0x1C)) || (decide (0xD0 ≤ o) && decide (o < 0x100) && o % 4 == 3) ||
    (decide (0x110 ≤ o) && decide (o < 0x200)) || (decide (0x30C0 ≤ o) && decide (o < 0xFFA0))

/-- The reserved fields of a record are 0: those whole bytes, and the reserved bits of FLAGS and of the rails' ROLE bytes. -/
def recordZero (r : Tab (BitVec 8)) : Bool :=
  r.all (fun p => !recordReserved p.1 || p.2 == 0) && decide (recordField r 7 1 < 2) &&
    (List.range 12).all (fun n => decide (recordField r (0xD0 + 4 * n) 1 < 32))

/-- A record passes (R428): checks 1, 3 and 4 of R402 on its own layout, with the KEY_ID rule for the part's lifecycle. -/
def State.recordPasses (s : State) (r : Tab (BitVec 8)) : Bool :=
  recordField r 0 4 == 0x57314252 && recordField r 4 2 == 1 && recordZero r && s.keyOk (recordField r 6 1) &&
    Config.signatureOk (recordField r 6 1) (recordBytes r 0 0xFFA0) (recordBytes r 0xFFA0 96)

/-- The fields of a record (R427). -/
def boardOf (r : Tab (BitVec 8)) : Board :=
  let f := recordField r
  { autorun := bit (f 7 1) 0, serial := BitVec.ofNat 64 (f 8 8), subsysVendor := BitVec.ofNat 16 (f 0x10 2),
    subsysId := BitVec.ofNat 16 (f 0x12 2), can0Node := f 0x14 1, can1Node := f 0x15 1, coreBudget := f 0x16 2, step := f 0x18 1,
    pairEn := bit (f 0x19 1) 0, sideB := bit (f 0x19 1) 1, ipv4 := BitVec.ofNat 32 (f 0x1C 4),
    laneEq := (List.range 32).map (fun n => BitVec.ofNat 32 (f (0x20 + 4 * n) 4)),
    ptp := (List.range 4).map (fun n => (sext 32 (f (0xA0 + 12 * n) 4), f (0xA4 + 12 * n) 4, f (0xA8 + 12 * n) 4)),
    rails := (List.range 12).map (fun n => BitVec.ofNat 32 (f (0xD0 + 4 * n) 4)),
    wiring := (List.range 16).map (fun h => f (0x100 + h) 1) }

/-- The reference of a mutual node (72 d + s), and of a self line (sense lines from 0, drive lines from 72), in the board record (R427); none, 0,
until the record has passed (R428). -/
def State.refNode (s : State) (p i : Nat) : Nat := if s.mode.boardOk then recordField s.prot.boardArea (0x200 + 5760 * p + 2 * i) 2 else 0
def State.refLine (s : State) (p i : Nat) : Nat := if s.mode.boardOk then recordField s.prot.boardArea (0x2F00 + 224 * p + 2 * i) 2 else 0

end Sys2Proof.Machine
end

