-- ==== Sys2Proof/Machine/Sheets.lean ====
section
/-! DEFINITION. Contact sheets and their engines (R120 to R122, R224 to R230), the expiry sweep (R92). -/

namespace Sys2Proof.Machine

/-! ## The engines (R226 to R228) -/

/-- When a sheet frame must be eligible: the first head epoch that could take it, or S_k + P_s where no running locked head shows
the sheet (R226, R227). -/
def State.sheetDue (s : State) (n : Nat) (c : Composing) : Nat :=
  let x := s.sheet n
  (s.earliestEpoch (.sheet n) { epochNs := c.epoch }).getD (c.epoch + x.cfg.period)

/-- The sheet frame an engine works on next: that of earliest due time, then of lowest sheet, which no page fault stops. -/
def State.nextComposing (s : State) (e : Nat) : Option (Nat × Composing) :=
  (keys s.sheets).foldl (fun a n =>
    match (s.sheet n).composing with
    | c :: _ =>
      if c.engine = e ∧ ¬ c.waitPage then
        match a with
        | some b => if s.sheetDue n c < s.sheetDue b.1 b.2 then some (n, c) else some b
        | none => some (n, c)
      else a
    | [] => a) none

/-- Change the sheet frame in composition of a sheet. -/
def State.setComposing (s : State) (n : Nat) (c : Composing) : State :=
  let x := s.sheet n
  s.setSheet n { x with composing := c :: x.composing.drop 1 }

/-- SRC and SEQ of a tile whose source has no frame: the source it names. -/
def srcOf : Source → BitVec 8 × BitVec 16
  | .ch n => (BitVec.ofNat 8 n, 0)
  | .surf n => (0xFF, BitVec.ofNat 16 n)
  | .sheet _ => (0xFF, 0)

/-! ## Tags and the ledger (R120 to R122) -/

/-- The tag with the largest age among tag times (R121). -/
def oldest (w : BitVec 40) : List (BitVec 40) → BitVec 40
  | [] => 0
  | a :: t => t.foldl (fun x y => if (w - x).toNat < (w - y).toNat then y else x) a

/-- The merged STATE: the first present in the order of R121. -/
def mergedState (gs : List Tag) : StandState :=
  if gs.any (fun g => g.state == .never) then .never
  else if gs.any tagInvalid then .invalid
  else if gs.any (fun g => g.state == .snag) then .snag
  else if gs.any (fun g => g.state == .held) then .held
  else if gs.any (fun g => g.state == .unproven) then .unproven
  else .live

/-- A tile's merged tag, W being the write instant (R121). DESIGN CHOICE (log 177): where the tile has no frame R121 gives the background
and STATE NEVER; SRC and SEQ name the source, ARRV and CAPT are 0, TRACEABLE is clear. -/
def mergeTags (w : BitVec 40) (src : BitVec 8) (seq : BitVec 16) (tile : Nat) (gs : List Tag) : Tag :=
  { tile := BitVec.ofNat 8 tile, expired := gs.any Tag.expired, preroll := gs.any Tag.preroll, blazed := gs.any Tag.blazed,
    traceable := !gs.isEmpty && gs.all Tag.traceable, seq := seq, state := if gs.isEmpty then .never else mergedState gs,
    src := src, arrv := oldest w (gs.map Tag.arrv), capt := oldest w (gs.map Tag.capt) }

/-- The stands a tile's destination intersects. -/
def tileStands (d : Desc) (w : Nat) : List Nat :=
  let x0 := (Desc.dstX d).toNat / 64
  let x1 := ((Desc.dstX d).toNat + Desc.dstW d - 1) / 64
  let y0 := (Desc.dstY d).toNat / 64
  let y1 := ((Desc.dstY d).toNat + Desc.dstH d - 1) / 64
  (List.range (y1 + 1 - y0)).flatMap (fun j => (List.range (x1 + 1 - x0)).map (fun i => (y0 + j) * stands w + x0 + i))

/-- The four slots of a stand whose tiles are all done (R120). -/
def standEntry (tags : List Tag) : List Tag :=
  let m := decide (2 ≤ tags.length)
  (tags.map (fun (g : Tag) => ({ g with mixed := m } : Tag)) ++ List.replicate 4 ({ src := 0xFE } : Tag)).take 4

/-- Write the entries of the stands that a composition has completed (R120). -/
def writeEntries (f : Frame) (c : Composing) (last : Desc) : Frame :=
  (tileStands last f.w).foldl (fun f k =>
    if c.todo.any (fun p => (tileStands p.2.1 f.w).contains k) then f
    else
      let tags := (c.done.filter (fun p => (tileStands p.2 f.w).contains k)).map (fun p => p.1.tag)
      ((List.range 4).zip (standEntry tags)).foldl (fun f p =>
        { f with slots := Tab.set {} f.slots (4 * k + p.1) p.2 }) f) f

/-- The bytes of a tile ledger (R122). READ is when the tile's read first began: a pre-emption or a fault does not move it (R227). -/
def ledgerBytes (n : Nat) (c : Composing) (end_ : Nat) : List Byte :=
  leBytes 2 n ++ leBytes 2 c.done.length ++ leBytes 4 c.seq.toNat ++ leBytes 8 (c.start.getD end_) ++ leBytes 8 end_ ++
    leBytes 8 0 ++ c.done.flatMap (fun p =>
      leBytes 16 p.1.tag.encode.toNat ++ leBytes 2 p.1.win ++ leBytes 2 p.1.buf ++ leBytes 2 p.1.stands ++ leBytes 2 0 ++
        leBytes 8 p.1.read)

/-! ## Pixels (R226) -/

/-- 10-bit limited-range BT.709 YCbCr of a blend-space colour. -/
def sheetYuv (c : Rgb) : Nat × Nat × Nat :=
  let y12 : Int := coef12 2126 10000 * c.r + coef12 7152 10000 * c.g + coef12 722 10000 * c.b
  let rnd := fun (n : Int) (den : Nat) => (2 * n + den) / (2 * (den : Int))
  let y := 64 + rnd (876 * y12) (4096 * 1023)
  let u := 512 + rnd (448 * coef12 10000 (10000 - 722) * ((c.b : Int) * 4096 - y12)) (4096 * 4096 * 1023)
  let v := 512 + rnd (448 * coef12 10000 (10000 - 2126) * ((c.r : Int) * 4096 - y12)) (4096 * 4096 * 1023)
  ((clampI 0 1023 y).toNat, (clampI 0 1023 u).toNat, (clampI 0 1023 v).toNat)

/-- The samples of one sheet pixel: planes 0 to 2 in format 1; in format 0 luma in plane 0 and chroma not yet averaged in
planes 4 and 5. -/
def sheetPixel (fmt : Nat) (x y : Nat) (c : Rgb) : List Sample :=
  if fmt = 1 then [⟨0, y, x, c.r⟩, ⟨1, y, x, c.g⟩, ⟨2, y, x, c.b⟩]
  else
    let q := sheetYuv c
    [⟨0, y, x, q.1⟩, ⟨4, y, x, q.2.1⟩, ⟨5, y, x, q.2.2⟩]

/-- A rectangle of a sheet, pixel by pixel. -/
def sheetRect (fmt x0 y0 w h : Nat) (c : Nat → Nat → Rgb) : List Sample :=
  (List.range h).flatMap (fun j => (List.range w).flatMap (fun i => sheetPixel fmt (x0 + i) (y0 + j) (c i j)))

/-- Average the chroma of a finished 4:2:2 sheet frame over horizontal pairs (R226); a pair that no tile has written is the background's
own. -/
def averageChroma (f : Frame) : Frame :=
  let pair := fun (p x y : Nat) => (f.sample p y (2 * x) + f.sample p y (2 * x + 1) + 1) / 2
  let l := (f.samples.filter (fun p => decide (4 * 2 ^ 32 ≤ p.1))).flatMap (fun p =>
    let y := p.1 / 2 ^ 16 % 2 ^ 16
    let x := p.1 % 2 ^ 16 / 2
    [(⟨1, y, x, pair 4 x y⟩ : Sample), ⟨2, y, x, pair 5 x y⟩])
  let f := Frame.writeSamples f l
  { f with samples := f.samples.filter (fun p => p.1 < 3 * 2 ^ 32) }

/-! ## Composition -/

/-- SHEET marks of a sheet: on every frame that a composition of it still reads, and on no other of `refs` (R185). -/
def State.sheetMarks (s : State) (n : Nat) (refs : List FrameRef) : State :=
  let bit := BitVec.ofNat 32 (2 ^ n)
  let need := (s.sheet n).composing.flatMap (fun c => c.todo.filterMap (fun p => p.2.2))
  refs.foldl (fun s r => s.modFrame r (fun f =>
    { f with markSheet := if need.contains r then f.markSheet ||| bit else f.markSheet &&& ~~~bit })) s

/-- A sheet frame is complete: its ledger is written and it becomes eligible (R122, R226). -/
def State.finishSheet (s : State) (n : Nat) (c : Composing) : State :=
  let r : FrameRef := ⟨.sheet n, c.buf⟩
  let x := s.sheet n
  let u := unitEngine c.engine
  let s := s.setSheet n { x with
    composing := x.composing.drop 1, lastSeq := c.seq,
    ledgers := Tab.set [] x.ledgers c.buf (ledgerBytes n c s.now) }
  let s := s.modFrame r (fun f =>
    let f := if x.cfg.format = 0 then averageChroma f else f
    { f with markPending := true, markDecode := false })
  let s := s.becomeEligible (.sheet n) r
  (s.pmc u 2 1).pmc u 11 c.done.length

/-- What an engine without a tile in work rests as (R235, R444): stalled while its token is asked for or a sheet frame of its own waits
for a page; idle otherwise. -/
def State.waitEngine (s : State) (e : Nat) : State :=
  let s := s.syncEngine e
  let g := s.engine e
  let page := (keys s.sheets).any (fun n => match (s.sheet n).composing with
    | c :: _ => c.engine == e && c.waitPage
    | [] => false)
  let token := s.hasToken .sheet e || s.mode.tokPending.any (fun p => p.holder == .sheet && p.unit == e)
  if g.sheet.isSome ∨ g.state = 3 then s
  else if token then s.setEngine e { g with state := 2, why := 7 }
  else if page then s.setEngine e { g with state := 2, why := 9 }
  else s.setEngine e { g with state := 0, why := 0 }

/-- An idle engine that holds its token takes up a sheet frame; one with no tile is complete at once. `fuel` bounds such
frames. -/
def State.startEngine (s : State) (e : Nat) : Nat → State
  | 0 => s
  | fuel + 1 =>
    let g := s.engine e
    if g.sheet.isSome ∨ g.state = 3 then s
    else
      match s.nextComposing e with
      | none => (s.dropToken .sheet e).waitEngine e
      | some (n, c) =>
        if !s.hasToken .sheet e then (s.askToken .sheet e).waitEngine e
        else
          let c := { c with start := some (c.start.getD s.now), readAt := some (c.readAt.getD s.now) }
          let s := s.setComposing n c
          match c.todo with
          | [] => (s.finishSheet n c).startEngine e fuel
          | (_, d, _) :: _ =>
            let s := s.syncEngine e
            s.setEngine e { s.engine e with state := 1, sheet := some n, tile := Desc.tile d, why := 0 }

/-- Start an engine that has work. -/
def State.runEngine (s : State) (e : Nat) : State := s.startEngine e 33

/-- Take an engine off its sheet frame, with its token (log 180). -/
def State.restEngine (s : State) (e : Nat) : State :=
  let s := (s.syncEngine e).dropToken .sheet e
  let g := s.engine e
  s.setEngine e { g with state := if g.state = 3 then 3 else 0, sheet := none, tile := 0, why := 0 }

/-- The tiles of a sheet in ascending TILE order, with the frames they use (R225, R226). -/
def State.sheetTiles (s : State) (n : Nat) : List (Nat × BitVec 512 × Option FrameRef) :=
  let x := s.sheet n
  let ws := s.tileWins x.gen n
  (List.range 256).flatMap (fun i => (ws.filter (fun p => Desc.tile p.2 == i)).map (fun p =>
    (p.1, p.2, Tab.get none x.released (Desc.source p.2).key)))

/-- Composition of sheet frame k begins at its epoch (R225, R226); where the pool has no free buffer the frame is not composed
and is a deadline miss. -/
def State.beginSheet (s : State) (n e : Nat) : State :=
  let x := s.sheet n
  let seq := x.seq
  let s := s.setSheet n { x with seq := seq + 1 }
  match freeBuf x.bufs x.nBufs 0 with
  | none => s.missFor (.sheet n)
  | some b =>
    let tiles := s.sheetTiles n
    let bg := rgbOf x.cfg.bg.toNat
    let f : Frame :=
      { inUse := true, w := x.cfg.w, h := x.cfg.h,
        fmt := { kind := if x.cfg.format = 0 then .yuv422 else .rgb, ten := true },
        vui := { matrix := 1, full := x.cfg.format == 1 }, seq := BitVec.ofNat 16 seq.toNat, arrv := e / 1000,
        capt := e / 1000, epochNs := e, markDecode := true }
    let f := { f with blank := some (if x.cfg.format = 0 then sheetYuv bg else (bg.r, bg.g, bg.b)) }
    let empty := (List.range (4 * (stands f.w * stands f.h))).map (fun k => (k, ({ src := 0xFE } : Tag)))
    let s := s.setFrame ⟨.sheet n, b⟩ { f with slots := empty }
    let x := s.sheet n
    let c : Composing := { epoch := e, seq := seq, buf := b, engine := x.engine, todo := tiles }
    let s := s.setSheet n { x with composing := x.composing ++ [c] }
    (s.sheetMarks n ((tiles.filterMap (fun p => p.2.2)).eraseDups)).runEngine x.engine

/-- SHEET_EPOCH (R225, R226): releases, the generation switch, the move to another engine, composition. -/
def execSheetEpoch (t : Nat) (n : Fin 32) (s : State) : Host.Outcome State Fault Refusal :=
  let s := s.at t
  let x := s.sheet n.val
  match epochAtOrBefore x.cfg.t0 x.cfg.period s.now with
  | some e =>
    if x.created ∧ ¬ x.stopped ∧ x.lastEpoch ≠ some e then
      let s := s.sheetTurn n.val e
      let s := s.setSheet n.val { s.sheet n.val with engine := (s.sheet n.val).nextEngine, lastEpoch := some e }
      let s := s.beginSheet n.val e
      .next ((s.consumerSources (.sheet n.val)).foldl (fun s src =>
        (s.sourceFrames src).foldl (fun s r => s.settlePending src r) s) s)
    else .next s
  | none => .next s

/-- The tile at the front of a composition is done (R120, R121, R226). -/
def State.tileDone (s : State) (n : Nat) (c : Composing) (w : Nat) (d : Desc) (src : Option FrameRef)
    (t : List (Nat × BitVec 512 × Option FrameRef)) : State :=
  let u := unitEngine c.engine
  let tags := match src with
    | some r => (readStands d (s.frame r) false).map (fun k => Tab.get {} (s.frame r).tags k)
    | none => []
  let who : BitVec 8 × BitVec 16 := match tags with
    | g :: _ => (g.src, g.seq)
    | [] => srcOf (Desc.source d)
  let tag := mergeTags (tagTime s.nowUs) who.1 who.2 (Desc.tile d) tags
  let bg := rgbOf (s.sheet n).cfg.bg.toNat
  let b := (s.engine c.engine).banks
  let px := fun (i j : Nat) => match src with
    | some r => (windowPixel b false d (s.frame r) i j).1
    | none => bg
  let fmt := (s.sheet n).cfg.format
  let samples := sheetRect fmt (Desc.dstX d).toNat (Desc.dstY d).toNat (Desc.dstW d) (Desc.dstH d) px
  let done : TileDone :=
    { win := w, tag := tag, buf := match src with
        | some r => r.buf
        | none => 0xFFFF, stands := tags.length, read := c.readAt.getD s.now }
  let c := { c with todo := t, done := c.done ++ [(done, d)], readAt := if t.isEmpty then none else some s.now }
  let s := s.modFrame ⟨.sheet n, c.buf⟩ (fun f => writeEntries (Frame.writeSamples f samples) c d)
  let s := ((s.setComposing n c).sheetMarks n src.toList).pmc u 1 1
  let s := s.pmc u 10 tags.length
  match t with
  | [] => (s.restEngine c.engine).finishSheet n c
  | (_, d', _) :: _ => s.setEngine c.engine { s.engine c.engine with tile := Desc.tile d' }

/-- At a tile boundary a sheet frame of earlier due time pre-empts the running one (R227). -/
def State.preemptSheet (s : State) (e n : Nat) : State :=
  match s.nextComposing e with
  | some (m, _) =>
    if m ≠ n then (((s.count (Reg.sheetPreempts e) 1).pmc (unitEngine e) 3 1).restEngine e).runEngine e else s
  | none => s

/-- SHEET_TILE_COMPLETE (R226): reads of a surface draw on its instance's bucket, and wait while that is empty (R331). -/
def execSheetTileComplete (t : Nat) (e : Fin 2) (stalls : List (Nat × Nat)) (rd wr : Nat) (s : State) :
    Host.Outcome State Fault Refusal :=
  let s := s.at t
  let g := s.engine e.val
  let u := unitEngine e.val
  match g.state, g.sheet with
  | 1, some n =>
    match (s.sheet n).composing with
    | c :: _ =>
      match c.todo with
      | (w, d, src) :: rest =>
        let host : Option Nat := match Desc.source d with
          | .surf k => some (s.surf k).owner
          | _ => none
        if host.any (fun k => !s.funded k) then .next s
        else
        let s := match host with
          | some k => s.draw k (64 * rd)
          | none => s
        let s := s.syncEngine e.val
        let s := stalls.foldl (fun s q => s.stallSlots u q.1 q.2) s
        let s := ((s.endWork u true).pmc u 5 rd).pmc u 6 wr
        let s := s.tileDone n c w d src rest
        if rest.isEmpty then .next (s.runEngine e.val) else .next (s.preemptSheet e.val n)
      | [] => .next s
    | [] => .next s
  | _, _ => .next s

/-- The owner of the pages that the tile at the front of a composition reads. -/
def State.tileHost (s : State) (c : Composing) : Option Nat := (c.todo.head?.bind (fun p => s.pageOwner (Desc.source p.2.1)))

/-- SHEET_FAULT_RESUME (R227): the page is mapped again; the tile is composed again from its start. -/
def execSheetFaultResume (t : Nat) (n : Fin 32) (s : State) : Host.Outcome State Fault Refusal :=
  let s := s.at t
  match (s.sheet n.val).composing with
  | c :: _ =>
    if c.waitPage ∧ s.vpnMapped (s.tileHost c) c.vpn then .next ((s.setComposing n.val { c with waitPage := false }).runEngine c.engine) else .next s
  | [] => .next s

/-! ## The expiry sweep (R92) -/

/-- Set EXPIRED where the hold age exceeds 2^37 µs. -/
def sweepTag (now : BitVec 40) (g : Tag) : Tag :=
  if 2 ^ 37 < (now - g.arrv).toNat then { g with expired := true } else g

/-- EXPIRY_SWEEP_VISIT (R92): the tag machinery visits one stand map in use. -/
def execExpirySweepVisit (t : Nat) (r : FrameRef) (s : State) : Host.Outcome State Fault Refusal :=
  let s := s.at t
  let f := s.frame r
  if f.inUse then
    let now := tagTime s.nowUs
    let filled := fun (g : Tag) => if g.src = 0xFE then g else sweepTag now g
    .next (s.setFrame r { f with
      tags := Tab.mapAll {} (fun _ g => sweepTag now g) f.tags, slots := Tab.mapAll {} (fun _ g => filled g) f.slots })
  else .next s

end Sys2Proof.Machine
end

