-- ==== Sys2Proof/Machine/Power.lean ====
section
/-! DEFINITION. Power and resets: the always-on island, rails, wake, the ROM's boot decision, trial slots, boot, the watchdog, the
real-time counter, power tokens (R80, R406 to R408, R421 to R432, R461, R463). -/

namespace Sys2Proof.Machine

/-! ## The real-time counter (R80, R423) -/

/-- The real-time counter now, in 1/32,768 s. -/
def State.rtcNow (s : State) : Nat :=
  s.aon.rtcSec * 32768 + s.aon.rtcFrac + (s.time.lct - s.aon.rtcLct) * 32768 / 1000000000

/-- Set the real-time counter, in 1/32,768 s. -/
def State.setRtc (s : State) (v : Nat) : State :=
  { s with aon := { s.aon with rtcSec := v / 32768 % 2 ^ 32, rtcFrac := v % 32768, rtcLct := s.time.lct } }

/-- RTC_SET (R423): at a whole second of device time while TRACE_OK is set. -/
def execRtcSet (t : Nat) (s : State) : Host.Outcome State Fault Refusal :=
  let s := s.at t
  if s.up ∧ s.time.traceOk ∧ s.now % 1000000000 = 0 then
    let s := s.setRtc (s.now / 1000000000 * 32768)
    .next { s with aon := { s.aon with rtcSet := true } }
  else .next s

/-! ## Resets (R426) -/

/-- Everything outside the always-on island is cleared and DRAM is lost; flash, fuses and the sequencer's own state stay (R426). The
device stands in a phase and shows a mode. -/
def State.wiped (s : State) (ph : Phase) (m : Mode) : State :=
  let u := s.mode
  let p := s.prot
  let s := s.setRtc s.rtcNow
  let z : ModeUnit := {
    phase := ph, mode := m, wakeSrc := u.wakeSrc, wakeLatched := u.wakeLatched, railEn := u.railEn, railPg := u.railPg,
    railFail := u.railFail, trip := u.trip, failRail := u.failRail, retries := u.retries, retryDue := u.retryDue, hot := u.hot,
    downCause := u.downCause, upCause := u.upCause, discharged := u.discharged, upWaiting := u.upWaiting,
    failReport := u.failReport }
  { State.reset with
    time := { fresh := s.time.fresh }, mode := z, aon := { s.aon with rtcLct := 0 }, store := s.store,
    prot := { development := p.development, keyStore := p.keyStore, fuse := p.fuse, slotA := p.slotA, slotB := p.slotB,
              flash := p.flash, boardArea := p.boardArea, trialFailed := p.trialFailed },
    pair := { actIn := s.pair.actIn, actInLow := s.pair.actInLow }, sent := s.sent, pending := s.pending }

/-- A reset of a cause: the ROM decides what to boot (R407, R413, R426). PWR.WAKE_SRC lies outside the island: it lasts through the rail-up
that follows a wake alone (R434). -/
def State.deviceReset (s : State) (c : ResetCause) : State :=
  let s := s.wiped .boot .configure
  let s := s.setMode { s.mode with wakeSrc := if ResetCause.cyclesRails c then s.mode.wakeSrc else 0 }
  { s with aon := { s.aon with resetCause := c } }

/-- The device has power outside the island. -/
def State.powered (s : State) : Bool :=
  match s.mode.phase with
  | .boot | .starting | .up => true
  | _ => false

/-! ## Rails (R424, R425, R463) -/

/-- PWR.RAIL[n]. -/
def State.rail (s : State) (n : Nat) : BitVec 32 := Tab.get 0x000A0A1B s.aon.rails n

/-- A rail in use, and one whose power-good is monitored. -/
def State.railUsed (s : State) (n : Nat) : Bool := (s.rail n).extractLsb' 0 4 != 0
def State.railMon (s : State) (n : Nat) : Bool := (s.rail n).getLsbD 4

/-- Raise the lowest used rail from `n` upward; with none left the device boots (R424). -/
def State.raiseRail (s : State) (n : Nat) : State :=
  match ((List.range 12).filter (fun i => decide (n ≤ i) && s.railUsed i)).head? with
  | some i =>
    let u := s.mode
    let good := !s.railMon i || u.railPg.getLsbD i
    s.setMode { u with railEn := u.railEn ||| BitVec.ofNat 12 (2 ^ i), phase := .railUp i good }
  | none => s.deviceReset s.mode.upCause

/-- Begin a rail-up that leads to a boot of cause `c`; it waits until 20 ms have passed since the last RAIL_EN fell (R463). -/
def State.beginRailUp (s : State) (c : ResetCause) : State :=
  let s := s.setMode { s.mode with upCause := c, retryDue := false, upWaiting := !s.mode.discharged }
  if s.mode.discharged then s.raiseRail 0 else s

/-- Deassert the highest RAIL_EN still asserted; its supply is then no longer good (R424). -/
def State.lowerRail (s : State) : State :=
  let u := s.mode
  match ((List.range 12).reverse.filter (fun i => u.railEn.getLsbD i)).head? with
  | some i =>
    let m : BitVec 12 := ~~~(BitVec.ofNat 12 (2 ^ i))
    s.setMode { u with railEn := u.railEn &&& m, railPg := u.railPg &&& m, phase := .railDown i, discharged := false }
  | none => s

/-- Outputs idle before a power-down (R423, steps 1 to 4). -/
def State.quiet (s : State) : State :=
  let s := s.dropActOut
  let s := (keys s.heads).foldl (fun s h => s.untrain h) s
  let s := (keys s.recs).foldl (fun s r => s.recStop r) s
  (keys s.lanes).foldl (fun s l => s.laneTo l .off) s

/-- Power-down for SLEEP (R423). -/
def State.sleep (s : State) : State :=
  let s := s.quiet
  (s.setMode { s.mode with downCause := none, failReport := none, retries := 0, wakeLatched := 0 }).lowerRail

/-- A rail failure or thermal trip takes every rail down (R425). -/
def State.powerFail (s : State) (c : ResetCause) (rail : Nat) : State :=
  let s := s.dropActOut
  let u := s.mode
  let s := s.setMode { u with
    downCause := some c, failReport := some c, railFail := c == .rail, trip := c == .thermal,
    failRail := if c = .rail then BitVec.ofNat 4 rail else 0, hot := c == .thermal || u.hot }
  if s.mode.railEn = 0 then s.setMode { s.mode with phase := .railDown 0 } else s.lowerRail

/-- RAIL_PG_RISE (R424). -/
def execRailPgRise (t : Nat) (n : Fin 12) (s : State) : Host.Outcome State Fault Refusal :=
  let s := s.at t
  let u := s.mode
  let s := s.setMode { u with railPg := u.railPg ||| BitVec.ofNat 12 (2 ^ n.val) }
  match u.phase with
  | .railUp i false => if i = n.val then .next (s.setMode { s.mode with phase := .railUp i true }) else .next s
  | _ => .next s

/-- RAIL_SETTLE_DONE (R424): the next rail, upward or downward. -/
def execRailSettleDone (t : Nat) (s : State) : Host.Outcome State Fault Refusal :=
  let s := s.at t
  match s.mode.phase with
  | .railUp i true => .next (s.raiseRail (i + 1))
  | .railDown _ => .next s.lowerRail
  | _ => .next s

/-- RAIL_PG_TIMEOUT (R425). -/
def execRailPgTimeout (t : Nat) (s : State) : Host.Outcome State Fault Refusal :=
  let s := s.at t
  match s.mode.phase with
  | .railUp i false => .next (s.powerFail .rail i)
  | _ => .next s

/-- RAIL_PG_LOSS (R425): a monitored rail that is up. -/
def execRailPgLoss (t : Nat) (n : Fin 12) (s : State) : Host.Outcome State Fault Refusal :=
  let s := s.at t
  let u := s.mode
  let s := s.setMode { u with railPg := u.railPg &&& ~~~(BitVec.ofNat 12 (2 ^ n.val)) }
  let rising : Bool := match u.phase with
    | .railUp i settled => decide (n.val < i) || (i == n.val && settled)
    | _ => s.powered
  if u.railEn.getLsbD n.val ∧ s.railMon n.val ∧ rising then .next (s.powerFail .rail n.val) else .next s

/-- THERMAL_TRIP (R425). -/
def execThermalTrip (t : Nat) (s : State) : Host.Outcome State Fault Refusal :=
  let s := s.at t
  match s.mode.phase with
  | .boot | .starting | .up | .railUp _ _ => .next (s.powerFail .thermal 0)
  | _ => .next s

/-- RAIL_RETRY (R425): 1 s after a rail failure, at most three times. -/
def execRailRetry (t : Nat) (s : State) : Host.Outcome State Fault Refusal :=
  let s := s.at t
  if s.mode.phase = .standby ∧ s.mode.retryDue then
    .next ((s.setMode { s.mode with retries := s.mode.retries + 1 }).beginRailUp .rail)
  else .next s

/-- RAIL_OFF_HOLD_END (R463). -/
def execRailOffHoldEnd (t : Nat) (s : State) : Host.Outcome State Fault Refusal :=
  let s := s.at t
  let s := s.setMode { s.mode with discharged := true }
  if s.mode.upWaiting ∧ s.mode.phase = .standby then
    .next ((s.setMode { s.mode with upWaiting := false }).raiseRail 0)
  else .next s

/-! ## Wake (R422, R425) -/

/-- The cause of the next boot: a failure to be reported, else the wake (R425, R426). -/
def State.bootCause (s : State) : ResetCause := s.mode.failReport.getD .wake

/-- Leave STANDBY for the latched enabled sources, unless the junction is still hot (R422, R425). -/
def State.actOnWake (s : State) : State :=
  let w := s.mode.wakeLatched &&& s.aon.wakeEn
  if w = 0 ∨ s.mode.hot ∨ s.mode.upWaiting then s
  else (s.setMode { s.mode with wakeSrc := w, wakeLatched := 0, retries := 0 }).beginRailUp s.bootCause

/-- A wake condition of source `k` (R422): acted on in STANDBY, latched during power-down. -/
def State.wake (s : State) (k : Nat) : State :=
  if s.aon.wakeEn.getLsbD k then
    match s.mode.phase with
    | .standby => (s.setMode { s.mode with wakeLatched := s.mode.wakeLatched ||| BitVec.ofNat 4 (2 ^ k) }).actOnWake
    | .railDown _ => s.setMode { s.mode with wakeLatched := s.mode.wakeLatched ||| BitVec.ofNat 4 (2 ^ k) }
    | _ => s
  else s

/-- WAKE_PIN (R422): source 0 WAKE_N, 1 CAN_WAKE, 3 PHY_WAKE_N, its condition met. -/
def execWakePin (t : Nat) (k : Fin 4) (s : State) : Host.Outcome State Fault Refusal :=
  let s := s.at t
  if k.val = 2 then .next s else .next (s.wake k.val)

/-- RTC_ALARM (R422, R434): the real-time counter reaches PWR.RTC_ALARM; 0 disables it. -/
def execRtcAlarm (t : Nat) (s : State) : Host.Outcome State Fault Refusal :=
  let s := s.at t
  if s.aon.rtcAlarm = 0 then .next s
  else
    let s := if s.rtcNow / 32768 < s.aon.rtcAlarm.toNat then s.setRtc (s.aon.rtcAlarm.toNat * 32768) else s
    .next (s.wake 2)

/-- POWER_DOWN_COMPLETE (R422, R423, R425): the last rail is down and the device is in STANDBY. -/
def execPowerDownComplete (t : Nat) (s : State) : Host.Outcome State Fault Refusal :=
  let s := s.at t
  match s.mode.phase with
  | .railDown _ =>
    if s.mode.railEn = 0 then
      let fail : Bool := s.mode.downCause == some .rail
      let s := s.wiped .standby .standby
      let s := s.setMode { s.mode with retryDue := fail && decide (s.mode.retries < 3) }
      .next s.actOnWake
    else .next s
  | _ => .next s

/-- JUNCTION_COOLED (R425): below 95 °C after a thermal trip. -/
def execJunctionCooled (t : Nat) (s : State) : Host.Outcome State Fault Refusal :=
  let s := s.at t
  let s := s.setMode { s.mode with hot := false }
  if s.mode.phase = .standby then .next s.actOnWake else .next s

/-! ## VDD_AON and RESET_N (R413, R426, R461) -/

/-- VDD_AON_RISE (R461): the island is in its own power-on reset. -/
def execVddAonRise (t : Nat) (s : State) : Host.Outcome State Fault Refusal :=
  let s := s.at t
  if s.mode.phase = .off then .next (s.setMode { s.mode with phase := .aonReset }) else .next s

/-- AON_POR_RELEASE (R424, R461): the island starts the rail-up of its fixed map. -/
def execAonPorRelease (t : Nat) (s : State) : Host.Outcome State Fault Refusal :=
  let s := s.at t
  if s.mode.phase = .aonReset then .next (s.beginRailUp .powerOn) else .next s

/-- VDD_AON_REMOVAL (R426): all state is lost but what flash and fuses hold; the outputs fall to their pull-downs. -/
def execVddAonRemoval (t : Nat) (s : State) : Host.Outcome State Fault Refusal :=
  let s := s.at t
  let w := s.wiped .off .standby
  .next { w with mode := { phase := .off, mode := .standby, railPg := 0 }, aon := {} }

/-- RESET_PIN (R426): RESET_N low for at least 10 µs. In STANDBY the rails come up first. -/
def execResetPin (t : Nat) (s : State) : Host.Outcome State Fault Refusal :=
  let s := s.at t
  match s.mode.phase with
  | .boot | .starting | .up => .next (s.deviceReset .pin)
  | .standby => if s.mode.upWaiting then .next s else .next (s.beginRailUp .pin)
  | _ => .next s

/-! ## Trial slots and the ROM's decision (R406 to R408) -/

/-- Slot B or A. -/
def State.slot (s : State) (b : Bool) : Slot := if b then s.prot.slotB else s.prot.slotA

/-- Replace a slot record. -/
def State.setSlot (s : State) (b : Bool) (x : Slot) : State :=
  if b then { s with prot := { s.prot with slotB := x } } else { s with prot := { s.prot with slotA := x } }

/-- Mark a slot BAD; a TRIAL slot so marked makes the next boot of the other slot a fallback (R407). -/
def State.markBad (s : State) (b : Bool) : State :=
  let tr := (s.slot b).state = .trial
  let s := s.setSlot b { s.slot b with state := .bad }
  if tr then { s with prot := { s.prot with trialFailed := true } } else s

/-- A watchdog warning, lockstep mismatch or internal error fails a trial image that is running (R408). -/
def State.failTrial (s : State) : State :=
  if (s.slot s.prot.runB).state = .trial then (s.markBad s.prot.runB).emit .updTrialFailed 0 [] else s

/-- Whether a slot passes the ROM's checks (R402, R407); `ok` says that the flash reads there as it was programmed. -/
def State.slotPasses (s : State) (b ok : Bool) : Bool := ok && s.slotHolds b

/-- The slot the ROM chooses, and whether as TRIAL with one more attempt (R407). -/
def State.romPick (s : State) : Option (Bool × Slot) :=
  let a := s.prot.slotA
  let b := s.prot.slotB
  let higher := fun (x : SlotState) =>
    if a.state = x ∧ b.state = x then some (decide (a.seq.toNat < b.seq.toNat))
    else if a.state = x then some false else if b.state = x then some true else none
  match higher .pending with
  | some c => some (c, { s.slot c with state := .trial, attempts := 1 })
  | none => match higher .trial with
    | some c => some (c, { s.slot c with attempts := 2 })
    | none => (higher .good).map (fun c => (c, s.slot c))

/-- Choose, check, and choose again after a slot that fails; `fuel` bounds the choices. -/
def State.romChoose (s : State) (okA okB : Bool) : Nat → State × Option Bool
  | 0 => (s, none)
  | fuel + 1 =>
    match s.romPick with
    | none => (s, none)
    | some (c, x) =>
      if s.slotPasses c (if c then okB else okA) then (s.setSlot c x, some c)
      else (s.markBad c).romChoose okA okB fuel

/-- Mark the trial slots that get no further boot: after a watchdog or lockstep reset, or after two attempts (R407). -/
def State.retireTrials (s : State) : State :=
  let c := s.aon.resetCause
  [false, true].foldl (fun s b =>
    let x := s.slot b
    if x.state = .trial ∧ (c = .watchdog ∨ c = .lockstep ∨ x.attempts = 2) then s.markBad b else s) s

/-- ROM_BOOT (R407, R414): with the levels of RECOVERY_N and PROVING_EN at reset release, and whether the flash reads in each slot as it
was programmed. -/
def execRomBoot (t : Nat) (recoveryN provingEn okA okB : Bool) (s : State) : Host.Outcome State Fault Refusal :=
  let s := s.at t
  if s.mode.phase ≠ .boot then .next s
  else
    let s := s.setMode { s.mode with strap := provingEn }
    let enter := fun (s : State) =>
      (s.setMode { s.mode with phase := .up, mode := .recovery, since := s.now }).emit .modeState 0
        [(s.mode.prev.code : Int), 1, (s.aon.resetCause.code : Int)]
    if !recoveryN then .next (enter s)
    else
      let r := s.retireTrials.romChoose okA okB 3
      match r with
      | (s, none) => .next (enter s)
      | (s, some b) =>
        let s := { s with prot := { s.prot with runB := b } }
        let other := s.slot (!b)
        let s := if s.prot.trialFailed ∧ other.state = .bad then
            ({ s with prot := { s.prot with trialFailed := false } }).emit .updFallback 0
              [(other.fwVersion.toNat : Int), ((s.slot b).fwVersion.toNat : Int)]
          else { s with prot := { s.prot with trialFailed := false } }
        let s := if (s.slot b).state = .trial then s.emit .updTrialBoot 0 [] else s
        .next (s.setMode { s.mode with phase := .starting })

/-- UPD.CONFIRM_MIN, minutes (R411): the admitted entry 0x2030:09. -/
def State.confirmMin (s : State) : Nat := s.plain 0x2030 9 10

/-- Device time spent in RUN and SHADOW since the boot, ns (R408). -/
def State.trialTime (s : State) : Nat := s.prot.trialNs + (if trialMode s.mode.mode then s.now - s.mode.since else 0)

/-- TRIAL_CONFIRM (R408): the slot becomes GOOD; the fuse count rises to its ROLLBACK, and another slot now below it is BAD. -/
def execTrialConfirm (t : Nat) (s : State) : Host.Outcome State Fault Refusal :=
  let s := s.at t
  let b := s.prot.runB
  let x := s.slot b
  if s.up ∧ x.state = .trial ∧ s.confirmMin * 60000000000 ≤ s.trialTime then
    let s := (s.setSlot b { x with state := .good }).emit .updConfirmed 0 []
    if s.prot.fuse < x.rollback then
      let s := { s with prot := { s.prot with fuse := x.rollback } }
      let y := s.slot (!b)
      .next (if y.state ≠ .empty ∧ y.rollback < s.prot.fuse then s.setSlot (!b) { y with state := .bad } else s)
    else .next s
  else .next s

/-! ## The watchdog (R421) -/

/-- WATCHDOG_KICK. -/
def execWatchdogKick (t : Nat) (s : State) : Host.Outcome State Fault Refusal :=
  let s := s.at t
  .next (s.setMode { s.mode with lastKick := s.now, warned := false })

/-- WATCHDOG_WARN: the gap passes WARN_MS. -/
def execWatchdogWarn (t : Nat) (s : State) : Host.Outcome State Fault Refusal :=
  let s := s.at t
  let w := bits (s.reg Reg.modeWdCfg) 15 0
  if s.up ∧ ¬ s.mode.warned ∧ s.mode.lastKick + w * 1000000 < s.now then
    let s := (s.setMode { s.mode with warned := true }).count Reg.modeWdWarns 1
    let s := { s with prot := { s.prot with health := { s.prot.health with wdWarns := s.prot.health.wdWarns + 1 } } }
    .next (s.emit .modeWdWarn 0 []).failTrial
  else .next s

/-- WATCHDOG_EXPIRE: the gap passes EXPIRE_MS; PAIR_ACT_OUT falls and the device is reset. -/
def execWatchdogExpire (t : Nat) (s : State) : Host.Outcome State Fault Refusal :=
  let s := s.at t
  let w := bits (s.reg Reg.modeWdCfg) 31 16
  if s.up ∧ s.mode.lastKick + w * 1000000 < s.now then .next (s.dropActOut.deviceReset .watchdog) else .next s

/-- LOCKSTEP_MISMATCH: reset at once. -/
def execLockstepMismatch (t : Nat) (s : State) : Host.Outcome State Fault Refusal :=
  let s := s.at t
  if s.powered then .next (s.deviceReset .lockstep) else .next s

/-! ## Power tokens (R429 to R432) -/

/-- A request comes before another: one partly served, then by priority, then by unit (R430). -/
def tokenBefore (a b : TokenReq) : Bool :=
  let started := fun (r : TokenReq) => decide (r.left < TokenHolder.size r.holder)
  if started a != started b then started a
  else decide (TokenHolder.priority a.holder < TokenHolder.priority b.holder) ||
    (TokenHolder.priority a.holder == TokenHolder.priority b.holder && decide (a.unit < b.unit))

def insertToken (r : TokenReq) : List TokenReq → List TokenReq
  | [] => [r]
  | y :: t => if tokenBefore r y then r :: y :: t else y :: insertToken r t

/-- What follows a grant: a lane leaves DEEP, a sheet engine starts; the other holders start by commands of their own. -/
def State.granted (s : State) (r : TokenReq) : State :=
  match r.holder with
  | .lane =>
    if (s.lane r.unit).state = .deep then (s.setLane r.unit { s.lane r.unit with wakeAt := s.now, wakeAsked := false }).laneTo r.unit .wake
    else s
  | .sheet => s.runEngine r.unit
  | _ => s

/-- Grant a request, counting the slots it waited (R430, R434). -/
def State.grant (s : State) (r : TokenReq) : State :=
  let m := s.mode
  let s := s.setMode { m with
    tokPending := m.tokPending.filter (fun p => !(p.holder == r.holder && p.unit == r.unit)),
    tokHeld := m.tokHeld ++ [(r.holder, r.unit, TokenHolder.size r.holder)] }
  let w := s.now / 1000 - ceilDiv r.since 1000
  let s := if 0 < w then
      (s.count Reg.pwrTokWaits 1).setReg Reg.pwrTokWaitMax (max (s.reg Reg.pwrTokWaitMax) w) else s
  s.notePeak.granted r

/-- Grant in order while the slot's tokens cover the requests; one larger than STEP takes its slots alone (R430). -/
def State.grantSlot (s : State) (left : Nat) (fresh : Bool) : List TokenReq → State
  | [] => s
  | r :: t =>
    if r.left ≤ left then (s.grant r).grantSlot (left - r.left) false t
    else if fresh && decide (s.board.step < r.left) then
      s.setMode { s.mode with
        tokPending := s.mode.tokPending.map (fun (p : TokenReq) =>
          if p.holder = r.holder ∧ p.unit = r.unit then { p with left := p.left - s.board.step } else p) }
    else s

/-- TOKEN_SLOT (R430): at every whole microsecond. A request whose remainder takes this slot shares it with none. -/
def execTokenSlot (t : Nat) (s : State) : Host.Outcome State Fault Refusal :=
  let s := s.at t
  match s.mode.tokPending.foldr insertToken [] with
  | [] => .next s
  | r :: l =>
    if r.left < TokenHolder.size r.holder ∧ r.left ≤ s.board.step then .next (s.grant r)
    else .next (s.grantSlot s.board.step true (r :: l))

/-- Gate or run the fast clock of an engine. -/
def State.clock (s : State) (h : TokenHolder) (u : Nat) (on : Bool) : State :=
  match h with
  | .decode => s.setCore u { s.core u with clockOn := on }
  | .sheet => s.setEngine u { s.engine u with clockOn := on }
  | .recorder => s.setRecCore u { s.recCore u with clockOn := on }
  | _ => s

/-- TOKEN_REQUEST (R430, R432): an engine raises its token request and its clock request together. -/
def execTokenRequest (t : Nat) (h : TokenHolder) (u : Nat) (s : State) : Host.Outcome State Fault Refusal :=
  let s := s.at t
  let s := (s.askToken h u).clock h u true
  match h with
  | .decode => .next (s.restCore u)
  | .recorder => .next (s.restRec u)
  | _ => .next s

/-- An engine has no job. -/
def State.engineIdle (s : State) (h : TokenHolder) (u : Nat) : Bool :=
  match h with
  | .decode => (s.core u).job.isNone
  | .sheet => (s.engine u).sheet.isNone
  | .recorder => (s.recCore u).job.isNone
  | _ => false

/-- ENGINE_CLOCK_GATE (R432): 1 µs without a job. -/
def execEngineClockGate (t : Nat) (h : TokenHolder) (u : Nat) (s : State) : Host.Outcome State Fault Refusal :=
  let s := s.at t
  if s.engineIdle h u then .next (s.clock h u false) else .next s

end Sys2Proof.Machine
end

