-- ==== Sys2Proof/Machine/AdmLay.lean ====
section
/-! DEFINITION. What each change of an admission request makes of the admitted configuration, and the reasons that refuse it by
itself (R37, R45, R46, R143 to R146, R201 to R203, R319 to R341, R374, R415). -/

namespace Sys2Proof.Machine

/-- A request being laid into the admitted configuration: the state, the reasons found so far, the objects applied, the result for a
completion record. -/
structure Laid where
  s : State
  why : List Reason := []
  touched : List Nat := []
  result : Nat := 0

/-- Add a reason where the condition holds. -/
def Laid.bad (l : Laid) (b : Bool) (c d : Nat) : Laid := { l with why := l.why ++ chk b c d }

/-- Change the state of a request being laid. -/
def Laid.put (l : Laid) (s : State) : Laid := { l with s := s }

/-! ## Contexts, channels and salvos (R143 to R146) -/

/-- The channel a context feeds under a table of objects. -/
def feedOf (objs : Tab Obj) (n : Nat) : Option Nat :=
  let o : Obj := Tab.get {} objs (0x4100 + n)
  if o.on then chOf o.set else none

/-- The contexts that feed a channel under a table of objects. -/
def feedersOf (objs : Tab Obj) (c : Nat) : List Nat :=
  ((keys objs).filter (fun i => decide (0x4100 ≤ i) && decide (i < 0x41A0) && feedOf objs (i - 0x4100) == some c)).map (fun i => i - 0x4100)

/-- Write the channel of a context: 0xFF for pre-roll. -/
def setCh (objs : Tab Obj) (n c : Nat) : Tab Obj :=
  let o : Obj := Tab.get {} objs (0x4100 + n)
  Tab.set {} objs (0x4100 + n) { o with set := Tab.set [] o.set 3 (leBytes 1 c) }

/-- A former context: pre-roll if `keep`, stopped otherwise (R144, R146). -/
def releaseObj (keep : Bool) (objs : Tab Obj) (n : Nat) : Tab Obj :=
  if keep then setCh objs n 0xFF
  else
    let o : Obj := Tab.get {} objs (0x4100 + n)
    Tab.set {} objs (0x4100 + n) { o with on := false }

/-- A prepared salvo other than `k` lists a context. -/
def State.inSalvo (s : State) (k : Option Nat) (n : Nat) : Bool :=
  s.salvos.any (fun p => some p.1 != k && p.2.prepared && p.2.bindings.any (fun b => b.1 == n))

/-- The objects once a salvo with these bindings has switched, `other` telling whether another salvo lists a context (R144). -/
def switchObjs (other : Nat → Bool) (bs : List (Nat × Nat)) (objs : Tab Obj) : Tab Obj :=
  let listed := fun (n : Nat) => bs.any (fun b => b.1 == n)
  let objs := bs.foldl (fun (t : Tab Obj) b => setCh t b.1 0xFF) objs
  let objs := bs.foldl (fun (t : Tab Obj) b =>
    (feedersOf t b.2).foldl (fun t n => if listed n then t else releaseObj (other n) t n) t) objs
  bs.foldl (fun (t : Tab Obj) b => setCh t b.1 b.2) objs

/-- The admitted configuration once salvo `k` has switched. -/
def State.switched (s : State) (k : Nat) : State :=
  let v := s.salvo k
  let a := s.adm
  let w := v.gen.foldl (fun (t : Tab (BitVec 512)) p => Tab.set 0 t p.1 p.2) a.wins
  { (s.setSalvo k {}) with
    adm := { a with objs := switchObjs (s.inSalvo (some k)) v.bindings a.objs, wins := if v.hasGen then w else a.wins } }

/-- Contexts that only salvo `k` lists and that feed no channel stop (R146). -/
def State.dropSalvo (s : State) (k : Nat) (keep : Nat → Bool) : State :=
  let a := s.adm
  let objs := ((s.salvo k).bindings.map Prod.fst).foldl (fun (t : Tab Obj) n =>
    if !keep n && (feedOf t n).isNone then releaseObj false t n else t) a.objs
  { (s.setSalvo k {}) with adm := { a with objs := objs } }

/-- APPLY of a context's declaration: the channel's former context is released (R25, R146). -/
def Laid.context (l : Laid) (n : Nat) (x : Settings) : Laid :=
  let s := l.s
  let on := settingOf (.ctx 0) x 1 == 1
  let objs := match on, chOf x with
    | true, some c => ((feedersOf s.adm.objs c).filter (fun m => m != n)).foldl (fun t m => releaseObj (s.inSalvo none m) t m) s.adm.objs
    | _, _ => s.adm.objs
  let second : Bool := on && match s.aCh n, chOf x with
    | some a, some b => a != b
    | _, _ => false
  let s := { s with adm := { s.adm with objs := Tab.set {} objs (0x4100 + n) { on := on, set := x } } }
  (l.put s).bad second cContexts 0x04

/-- Objects whose parts the board record names (R428). -/
def ObjKind.onBoard : ObjKind → Bool
  | .head _ | .bond _ | .touch _ | .pair => true
  | _ => false

/-- APPLY of an object (R374). -/
def Laid.apply (l : Laid) (idx : Nat) (set : Settings) : Laid :=
  match objKind idx with
  | none => l
  | some k =>
    let x := overlay (l.s.obj idx).set set
    let l := { l with touched := l.touched ++ [idx] }
    match k with
    | .ctx n => l.context n x
    | .sheet n => l.put ((l.s.setSheet n { l.s.sheet n with stopped := false }).setObj idx { on := true, set := x })
    | _ => (l.put (l.s.setObj idx { on := true, set := x })).bad (ObjKind.onBoard k && !l.s.mode.boardOk) cMode 0x14

/-- STOP of an object: it returns to its default; a channel is unfed (R146, R374). -/
def Laid.stop (l : Laid) (idx : Nat) : Laid :=
  let s := l.s.setObj idx {}
  let l := { l with touched := l.touched ++ [idx] }
  match objKind idx with
  | some (.chan c) =>
    let objs := (feedersOf s.adm.objs c).foldl (fun t m => releaseObj (s.inSalvo none m) t m) s.adm.objs
    l.put { s with adm := { s.adm with objs := objs } }
  | some (.sheet n) => l.put (s.setSheet n { s.sheet n with stopped := false })
  | _ => l.put s

/-- The contexts a salvo lists that are IDLE start in pre-roll, with their declarations staged or in force (R143). -/
def State.startListed (s : State) (bs : List (Nat × Nat)) (decls : List (Nat × Settings)) : State :=
  let objs := bs.foldl (fun (t : Tab Obj) b =>
    let o : Obj := Tab.get {} t (0x4100 + b.1)
    if o.on then t
    else
      let staged := (decls.filter (fun p => p.1 == b.1)).foldl (fun (x : Settings) p => overlay x p.2) o.set
      setCh (Tab.set {} t (0x4100 + b.1) { on := true, set := staged }) b.1 0xFF) s.adm.objs
  { s with adm := { s.adm with objs := objs } }

/-- A listed context that is IDLE in `s` has no declaration with which it starts in `s'` (R147). -/
def State.undeclared (s s' : State) (bs : List (Nat × Nat)) : Bool :=
  bs.any (fun b => !(s.obj (0x4100 + b.1)).on && (declOf (s'.obj (0x4100 + b.1)).set).isNone)

/-- The created instance whose range holds a window. -/
def State.windowOwner (s : State) (w : Nat) : Option Nat :=
  (s.aGrants.find? (fun p => decide (p.2.winBase ≤ w) && decide (w < p.2.winBase + p.2.winCount))).map Prod.fst

/-- PREPARE of a salvo (R143), of the dictionary: its windows lie outside every instance's range (R201). An index whose commit has not switched yet cannot be prepared again (0x05). -/
def Laid.prepare (l : Laid) (k : Nat) (bs : List (Nat × Nat)) (gen : Option (List (Nat × BitVec 512)))
    (decls : List (Nat × Settings)) : Laid :=
  let old := l.s.salvo k
  let s := if old.prepared then l.s.dropSalvo k (fun n => l.s.inSalvo (some k) n || bs.any (fun b => b.1 == n)) else l.s
  let s' := (s.setSalvo k { prepared := true, bindings := bs, gen := gen.getD [], hasGen := gen.isSome }).startListed bs decls
  let l := (((l.put s').bad (bs.any (fun b => decide (159 < b.1))) cContexts 0x01).bad
    (twice (bs.map Prod.fst) || twice (bs.map Prod.snd) || bs.any (fun b => s.inSalvo (some k) b.1)) cContexts 0x04)
  ((((l.bad ((gen.getD []).any (fun p => (s.windowOwner p.1).isSome)) cQuota 0x01).bad (decide (128 < bs.length) || old.commitAt.isSome || decide (7 < k)) cContexts 0x05).bad
    (bs.any (fun b => decide (127 < b.2))) cFormat 0x61).bad
    (s.undeclared s' bs) cFormat 0x0B)

/-- A salvo is prepared and its commit has not been accepted. -/
def State.isPrepared (s : State) (k : Nat) : Bool := (s.salvo k).prepared && (s.salvo k).commitAt.isNone

/-- COMMIT at `c`, accepted at `a` (R144, R207). A listed context that was stopped since starts again, with the declaration in
force. -/
def Laid.commit (l : Laid) (k c a : Nat) : Laid :=
  if l.s.isPrepared k then
    let v := l.s.salvo k
    let at_ := if c = 0 ∨ c < a then ceilDiv a 1000000 * 1000000 else c
    let s := l.s.setSalvo k { v with commitAt := some at_ }
    let s := if v.hasGen then { s with win := { s.win with salvo := true } } else s
    let s' := s.startListed v.bindings []
    (((l.put s').bad (v.hasGen && l.s.win.open_) cMode 0x41).bad (v.gen.any (fun p => (s.windowOwner p.1).isSome)) cQuota 0x01).bad (s.undeclared s' v.bindings) cFormat 0x0B
  else l.bad true cMode 0x44

/-- CANCEL (R146). -/
def Laid.cancel (l : Laid) (k : Nat) : Laid :=
  if l.s.isPrepared k then l.put (l.s.dropSalvo k (l.s.inSalvo (some k))) else l.bad true cMode 0x44

/-! ## Windows (R201 to R203) -/

/-- Restored windows that wait for THAW stay in the admitted generation (R341). -/
def State.heldWins (s : State) : List (Nat × BitVec 512) := s.insts.flatMap (fun p => p.2.restored)

/-- Lay window descriptors into the admitted generation. -/
def State.layWins (s : State) (e : List (Nat × BitVec 512)) : State :=
  { s with adm := { s.adm with wins := e.foldl (fun (t : Tab (BitVec 512)) p => Tab.set 0 t p.1 p.2) s.adm.wins } }

/-- COMMIT of the mediator's shadow as a whole (R202): windows of an instance's range stay as they are (QUOTA 0x01). -/
def Laid.winCommit (l : Laid) : Laid :=
  let s := l.s
  let new := s.heldWins.foldl (fun (t : Tab (BitVec 512)) p => Tab.set 0 t p.1 p.2) (WinTable.gen s.win (!s.win.active))
  let touched := (keys new ++ keys s.adm.wins).filter (fun w => Tab.get 0 new w != Tab.get 0 s.adm.wins w)
  (l.put { s with adm := { s.adm with wins := new } }).bad (touched.any (fun w => (s.windowOwner w).isSome)) cQuota 0x01

/-- A window of an instance reads a channel that is not granted. -/
def ungranted (g : Grants) (d : BitVec 512) : Bool :=
  Desc.en d && Desc.srcKind d == 0 && !g.chGrant.getLsbD (Desc.srcIdx d)

/-- A window batch (R203): of an instance, inside its range and on granted channels; of the dictionary, outside every range. -/
def Laid.winBatch (l : Laid) (owner : Option Nat) (e : List (Nat × BitVec 512)) : Laid :=
  let s := l.s
  let l := ((l.put (s.layWins e)).bad s.win.open_ cMode 0x41).bad (e.any (fun p => decide (8191 < p.1))) cFormat 0x61
  match owner with
  | none => l.bad (e.any (fun p => (s.windowOwner p.1).isSome)) cQuota 0x01
  | some n =>
    let g := (s.inst n).grants
    (l.bad (e.any (fun p => decide (p.1 < g.winBase) || decide (g.winBase + g.winCount ≤ p.1))) cQuota 0x01).bad
      (e.any (fun p => ungranted g p.2)) cQuota 0x04

/-! ## Instances (R319 to R341) -/

/-- Where an instance stands under every change accepted so far (R38, R319). -/
def State.aInst (s : State) (n : Nat) : InstState :=
  (s.inst n).changes.foldl (fun (x : InstState) c => match c.1 with
    | .create _ => .active
    | .freeze => .frozen
    | .thaw => .active
    | _ => x) (s.inst n).state

/-- Windows of an instance that lie outside new grants are disabled (R336). -/
def State.shrunk (s : State) (old new : Grants) : List (Nat × BitVec 512) :=
  (s.aWins.filter (fun p => decide (old.winBase ≤ p.1) && decide (p.1 < old.winBase + old.winCount) &&
    (decide (p.1 < new.winBase) || decide (new.winBase + new.winCount ≤ p.1) || ungranted new p.2))).map (fun p => (p.1, 0))

/-- Every window of an instance, disabled. -/
def State.noWins (s : State) (g : Grants) : List (Nat × BitVec 512) :=
  (s.aWins.filter (fun p => decide (g.winBase ≤ p.1) && decide (p.1 < g.winBase + g.winCount))).map (fun p => (p.1, 0))

/-- Write the admitted grants of an instance. -/
def State.setGrants (s : State) (n : Nat) (g : Option Grants) : State :=
  { s with adm := { s.adm with grants := Tab.set none s.adm.grants n g } }

/-- The grants of an instance under every accepted change. -/
def State.aGrant (s : State) (n : Nat) : Grants := (Tab.get none s.adm.grants n).getD {}

/-- Grants outside the ranges of their registers: QUOTA 0x08 for a window range beyond the table, 0x09 for VEC_COUNT outside 1 to 64,
0x02 and 0x0A for quotas beyond the device, 0x01 for an EPOCH_HEAD or DRAM limit out of range (DESIGN CHOICE,
log 50). -/
def grantChecks (g : Grants) : List Reason :=
  chk (decide (8192 < g.winBase + g.winCount)) cQuota 0x08 ++ chk (outside g.vecCount 1 64) cQuota 0x09 ++
  chk (decide (256 < g.surfQuota)) cQuota 0x02 ++ chk (decide (16384 < g.pageQuota)) cQuota 0x0A ++
  chk (outside g.drainMs 1 10000) cTiming 0x00

/-- A ring of an instance names a vector at or above VEC_COUNT. -/
def vectorBad (i : Inst) (g : Grants) : Bool :=
  (i.cq.en && decide (g.vecCount ≤ i.cq.vec)) || (i.evq.en && decide (g.vecCount ≤ i.evq.vec))

/-- A window change through another request than the mediator's commit is refused while OPEN is set (R203). -/
def Laid.generation (l : Laid) (e : List (Nat × BitVec 512)) : Laid :=
  if e = [] then l else (l.put (l.s.layWins e)).bad l.s.win.open_ cMode 0x41

/-- The lowest detail of R340 that a blob fails on this device. -/
def State.blobDetail (s : State) (n : Nat) (b : RestoreBlob) : Option Nat :=
  if !b.formed then some 0x10
  else if b.stepping != 0xA1 then some 0x11
  else if b.fwMajor != s.glb.fwVersion.toNat / 2 ^ 24 then some 0x12
  else if b.memSize != s.adm.memSize then some 0x13
  else if b.vpns.any (fun v => Tab.get 0 (s.inst n).pages v == 0) then some 0x14
  else none

/-- A surface of an instance as restored: no buffer is eligible until its first commit (R341). -/
def restoredSurf (n : Nat) (x : SavedSurf) : Surface :=
  { created := true, owner := n, format := x.format, w := x.w, h := x.h, maxRate := x.maxRate, commits := x.commits, blaze := x.blaze,
    checker := BlazeState.start x.blaze,
    bufs := Tab.set {} [] 0 (Frame.writeSamples
      { w := x.w, h := x.h, fmt := { kind := surfKind x.format, ten := false } } x.samples),
    latest := some 0 }

/-- An operation of the mediator on instance `n` (R319, R320, R336, R338 to R341). -/
def Laid.inst (l : Laid) (n : Nat) (op : InstOp) : Laid :=
  let s := l.s
  let st := s.aInst n
  let g := s.aGrant n
  let ok := fun (b : Bool) => l.bad (!b) cMode 0x42
  match op with
  | .create x => let l := (ok (st == .free)).put (s.setGrants n (some x))
    { l with why := l.why ++ grantChecks x }
  | .change x =>
    let l := ((ok (st == .active)).put (s.setGrants n (some x))).bad (vectorBad (s.inst n) x) cQuota 0x09
    { l.generation (s.shrunk g x) with why := (l.generation (s.shrunk g x)).why ++ grantChecks x }
  | .reset _ clear =>
    let l := ok (st == .active || st == .frozen)
    if clear then l.generation (s.noWins g) else l
  | .freeze => ok (st == .active)
  | .save need _ len => (ok (st == .frozen)).bad (decide (len < need)) cBlob 0x15
  | .restore p m b =>
    let x := { b.grants with pasid := p, msgs := m }
    let l := ok (st == .free)
    let l := { l with
      why := l.why ++ grantChecks x ++ (match s.blobDetail n b with
      | some d => [(cBlob, d)]
      | none => []) }
    let used := b.surfs.any (fun v => (s.surf v.index).created || decide (255 < v.index))
    let s := (s.setGrants n (some x)).layWins b.wins
    let s := b.surfs.foldl (fun (s : State) v => s.setSurf v.index (restoredSurf n v)) s
    ((((l.put (s.setInst n { s.inst n with restored := b.wins })).bad (used || decide (x.surfQuota < b.surfs.length)) cQuota 0x02).bad
      (b.wins.any (fun p => decide (p.1 < x.winBase) || decide (x.winBase + x.winCount ≤ p.1))) cQuota 0x01).bad
      (b.wins.any (fun p => ungranted x p.2)) cQuota 0x04).bad
      (decide (x.pageQuota < (s.inst n).pages.length)) cQuota 0x0A |>.bad
      (vectorBad { cq := b.cq, evq := b.evq } x) cQuota 0x09
  | .thaw => ((ok (st == .frozen)).bad (!(s.inst n).restored.isEmpty && s.win.open_) cMode 0x41).put
      (s.setInst n { s.inst n with restored := [] })
  | .destroy => ((ok (st == .active || st == .frozen)).put (s.setGrants n none)).generation (s.noWins g)
  | .other => ok false

/-- MAP (R321, R332): free pool pages for VPNs not yet mapped, within PAGE_QUOTA; the pages of an instance to be restored are counted
at its RESTORE. -/
def Laid.map (l : Laid) (n vpn ppn count : Nat) : Laid :=
  let s := l.s
  let i := s.inst n
  let used := s.usedPages
  let ps := (List.range count).map (fun k => ppn + k)
  let excess := s.aInst n != .free && decide ((s.aGrant n).pageQuota < i.pages.length + count)
  let bad := count == 0 || decide (16384 < vpn + count) || excess || (List.range count).any (fun k => Tab.get 0 i.pages (vpn + k) != 0)
  let pages := (List.range count).foldl (fun (t : Tab Nat) k => Tab.set 0 t (vpn + k) (ppn + k + 1)) i.pages
  ((l.put (s.setInst n { i with pages := pages })).bad bad cQuota 0x0A).bad
    (ps.any (fun p => !s.poolPage p || used.contains p)) cMem 0x00

/-- The lowest free surface index. -/
def State.freeSurf (s : State) : Option Nat := (List.range 256).find? (fun k => !(s.surf k).created)

/-- SURF_CREATE (R326, R328). -/
def Laid.surfCreate (l : Laid) (n format w h rate : Nat) : Laid :=
  let s := l.s
  let held := (s.surfs.filter (fun p => p.2.created && p.2.owner == n)).length
  let l := l.bad (decide (4 < format) || outside w 16 4096 || outside h 16 4096 || outside rate 1 240) cFormat 0x60
  match s.freeSurf with
  | none => l.bad true cQuota 0x02
  | some k =>
    let l := l.bad (decide ((s.inst n).grants.surfQuota ≤ held)) cQuota 0x02
    { l with
      s := s.setSurf k { created := true, owner := n, format := format, w := w, h := h, maxRate := rate }, result := k }

/-- The surface is one of the instance's. -/
def State.ownsSurf (s : State) (n k : Nat) : Bool := (s.surf k).created && (s.surf k).owner == n

/-! ## Tally, modes, the rest -/

/-- The lowest run of `n` free pages from `p` upward; `fuel` bounds the search. -/
def freeRun (ok : Nat → Bool) (n : Nat) : Nat → Nat → Option Nat
  | 0, _ => none
  | fuel + 1, p => if (List.range n).all (fun k => ok (p + k)) then some p else freeRun ok n fuel (p + 1)

/-- TALLY_START (R443). -/
def Laid.tally (l : Laid) (period pages : Nat) : Laid :=
  let s := { l.s with adm := { l.s.adm with tally := [] } }
  let used := s.usedPages
  let l := l.bad (outside period 50 1000000 || outside pages 1 64) cTiming 0x00
  match freeRun (fun p => s.poolPage p && !used.contains p) pages (512 * s.adm.memSize) 512 with
  | some p => l.put { s with adm := { s.adm with tally := (List.range pages).map (fun k => p + k) } }
  | none => l.bad true cMem 0x00

/-- The refusals of a mode command (R415). -/
def State.modeWhy (s : State) (c : ModeCmd) (key : Nat) : List Reason :=
  let m := s.mode.mode
  match c with
  | .go => chk (m != .configure) cMode 0x12 ++ chk (!s.mode.boardOk) cMode 0x14
  | .goProving => chk (!s.mode.strap) cMode 0x11 ++ chk (m != .configure) cMode 0x12 ++ chk (!s.mode.boardOk) cMode 0x14
  | .safeHold => chk (!holdable m) cMode 0x12
  | .leaveSafeHold => chk (s.mode.shCause == .memory) cMode 0x10 ++ chk (m != .safeHold) cMode 0x12
  | .sleep => chk (m == .standby || m == .recovery) cMode 0x12 ++ chk (s.aon.wakeEn == 0) cMode 0x13 ++ chk (key != 0x5AFE) cMode 0x15
  | .reset => chk (key != 0x5AFE) cMode 0x15

/-- An ECC zone setting as it would read: bit 0 set, zones above installed memory 0 (R45). -/
def State.eccValue (s : State) (v : BitVec 32) : BitVec 32 := (v ||| 1) &&& BitVec.ofNat 32 (2 ^ min s.adm.memSize 32 - 1)

/-- Lay one change of a request accepted at `a`. -/
def Laid.change (a : Nat) (l : Laid) (c : Change) : Laid :=
  let s := l.s
  match c with
  | .apply i x => l.apply i x
  | .stop i => l.stop i
  | .prepare k bs g ds => l.prepare k bs g ds
  | .commit k t => l.commit k t a
  | .cancel k => l.cancel k
  | .winCommit => l.winCommit
  | .winBatch o e => l.winBatch o e
  | .plain i sub v =>
    if i = 0x1010 ∨ i = 0x1011 then l
    else (l.bad (i == 0x2030 && sub == 9 && outside v 1 1440) cTiming 0x00).put { s with adm := { s.adm with plain := Tab.set 0 s.adm.plain (i * 256 + sub) (v + 1) } }
  | .inst n op => l.inst n op
  | .map n v p k => l.map n v p k
  | .revoke n v k => l.bad (k == 0 || decide (16384 < v + k) || (s.inst n).pages.all (fun p => decide (p.1 < v) || decide (v + k ≤ p.1))) cQuota 0x0A
  | .surfCreate n f w h r => l.surfCreate n f w h r
  | .surfDestroy n k => (l.put (if s.ownsSurf n k then s.setSurf k { s.surf k with created := false } else s)).bad (!s.ownsSurf n k) cFormat 0x61
  | .blazeSet n k x y w h p =>
    let b : BlazeCfg := { en := w != 0, x := x, y := y, w := w, h := h, period := p }
    (l.put (if s.ownsSurf n k then s.setSurf k { s.surf k with blaze := b } else s)).bad (!s.ownsSurf n k) cFormat 0x61
  | .eccZones v =>
    let w := s.eccValue v
    let moved := s.usedPages.any (fun p => w.getLsbD (p / 512) != s.adm.ecc.getLsbD (p / 512))
    (l.put { s with adm := { s.adm with ecc := w } }).bad moved cMem 0x01
  | .ceilings v => l.put { s with adm := { s.adm with ceilings := v } }
  | .ceiling x y gb =>
    let cx := (s.adm.ceilings[x]?).getD 0
    let no := x == y || decide (5 < x) || decide (5 < y) || decide (cx < gb) ||
      !fLe (s.classCharge x) (fOf (s.scaled (cx - gb)))
    if no then l.bad true cMemBw 0x07
    else l.put { s with
      adm := { s.adm with
      ceilings := (s.adm.ceilings.zipIdx).map (fun p => if p.2 = x then p.1 - gb else if p.2 = y then p.1 + gb else p.1) } }
  | .tallyStart _ p n => l.tally p n
  | .mode m key => { l with why := l.why ++ s.modeWhy m key }
  | .safety w => { l with why := l.why ++ s.safetyWhy w }
  | .pairOp op => l.bad (op == 3 && !(s.pairActive && s.pair.state == .paired)) cMode 0x82

/-- A change that judges no configuration: a mode command, an operation on the pair (R415). -/
def Change.bare : Change → Bool
  | .mode _ _ | .pairOp _ | .safety _ => true
  | _ => false

/-- A dictionary object is granted to an instance: a channel or a recording (R321). -/
def State.instObj (s : State) (idx : Nat) : Bool :=
  match objKind idx with
  | some (.chan c) => s.aGrants.any (fun p => p.2.chGrant.getLsbD c)
  | some (.recording r) => s.aGrants.any (fun p => p.2.recGrant.getLsbD r)
  | _ => false

/-- The configuration a blob or the settings store is judged against: every object, salvo and entry at its default, but for instances and
what is granted to them (R44, R387). -/
def State.defaults (s : State) : State :=
  let a := s.adm
  { s with
    adm := { a with
      objs := a.objs.filter (fun p => s.instObj p.1), wins := a.wins.filter (fun p => (s.windowOwner p.1).isSome), plain := [],
      ceilings := ({} : Admitted).ceilings },
    win := { s.win with salvo := false }, salvos := [] }

end Sys2Proof.Machine
end

