-- ==== Sys2Proof/Machine/HostOps.lean ====
section
/-! DEFINITION. Instances and host DMA below admission: states, change epochs, surface commits, the transfer the DMA carries, squash
resets, surfaces and sources that end (R319, R320, R329, R333 to R339). -/

namespace Sys2Proof.Machine

/-! ## Instances (R319, R320) -/

/-- Move an instance to a state, with its event (R319). -/
def State.instTo (s : State) (n : Nat) (x : InstState) : State :=
  let i := s.inst n
  if i.state = x then s else (s.setInst n { i with state := x }).emit .instState n [i.state.code, x.code]

/-- The change epoch of a change accepted at `a` (R320). -/
def State.changeEpoch (s : State) (a : Nat) (g : Grants) : Nat :=
  let h := g.epochHead.toNat % 16
  if g.epochHead.getLsbD 4 ∨ (s.head h).state ≠ .run then ceilDiv a 1000000 * 1000000 else s.headEpochFrom h a

/-- A shadow reads no instance queues (R327). -/
def State.readsQueues (s : State) : Bool := !(s.pair.en && s.pair.shadow && s.pair.state != .alone)

/-! ## Sources that end -/

/-- Heads and sheets hold no frame of a source any more. -/
def State.forgetSource (s : State) (src : Source) : State :=
  let k := Source.key src
  { s with
    heads := Tab.mapAll {} (fun _ (h : Head) => { h with released := Tab.set none h.released k none }) s.heads,
    sheets := Tab.mapAll {} (fun _ (x : Sheet) => { x with released := Tab.set none x.released k none }) s.sheets }

/-- A surface is destroyed. -/
def State.dropSurf (s : State) (k : Nat) : State := (s.forgetSource (.surf k)).setSurf k {}

/-- Every surface of an instance is destroyed (R338). -/
def State.dropSurfs (s : State) (n : Nat) : State :=
  ((s.surfs.filter (fun p => p.2.created && p.2.owner == n)).map Prod.fst).foldl (fun s k => s.dropSurf k) s

/-! ## The transfer the DMA carries (R333, R335) -/

/-- The slots of the host DMA up to now: working, stopped with transfers that wait, or without any (R195, R435). -/
def State.syncDma (s : State) : State :=
  let waits := s.insts.any (fun p => p.2.works.any (fun w => w.stage == .copying && (w.waitPri || w.waitPage)))
  if s.dma.isSome then s.slotsTo unitDma .work 0
  else if waits then s.slotsTo unitDma .back 9 else s.slotsTo unitDma .front 0

/-- One transfer comes before another: the earlier due time of a commit; COPY work orders last; then instance and acceptance (R335). -/
def transferBefore (a b : Nat × Work) : Bool :=
  decide (a.2.due < b.2.due) || (a.2.due == b.2.due && (decide (a.1 < b.1) || (a.1 == b.1 && decide (a.2.id < b.2.id))))

/-- A transfer that can go on. -/
def canMove (w : Work) : Bool := w.stage == .copying && !w.waitPri && !w.waitPage

/-- The transfer to carry next: of those that wait for nothing, the first in order. An instance's wait while its bucket is empty (R331). -/
def State.nextTransfer (s : State) : Option (Nat × Nat) :=
  let l := s.insts.flatMap (fun p => (p.2.works.filter (fun (w : Work) => canMove w && s.funded p.1)).map (fun w => (p.1, w)))
  (l.foldl (fun (a : Option (Nat × Work)) w => match a with
    | none => some w
    | some v => if transferBefore w v then some w else a) none).map (fun p => (p.1, p.2.id))

/-- An idle DMA takes up the next transfer. -/
def State.runDma (s : State) : State := if s.dma.isSome then s else { s.syncDma with dma := s.syncDma.nextTransfer }

/-- The DMA leaves its transfer at a boundary and goes on with the next one; a transfer left unfinished by another of earlier due time
counts as a pre-emption (R335, R436). -/
def State.switchDma (s : State) : State :=
  let s := s.syncDma
  let old := s.dma
  let s := { s with dma := none }
  let new := s.nextTransfer
  let s := match old, new with
    | some a, some b =>
      if a ≠ b ∧ (s.work a.1 a.2).any canMove then s.pmc unitDma 3 1 else s
    | _, _ => s
  { s with dma := new }

/-- Take a work order off the DMA. -/
def State.freeDma (s : State) (n id : Nat) : State :=
  if s.dma = some (n, id) then
    let s := s.syncDma.endWork unitDma false
    { s with dma := none }.runDma
  else s

/-! ## Surface commits (R89, R90, R329) -/

/-- The due time of a commit: its first release epoch on any head that shows the surface; none shows it: at the end of the order (R335). -/
def noDue : Nat := 2 ^ 64

/-- The buffer that commit number `q` of a surface begins with: the latest committed picture (R89, R329). -/
def commitFrame (x : Surface) (k q arrvUs : Nat) : Frame :=
  { inUse := true, w := x.w, h := x.h, fmt := { kind := surfKind x.format, ten := false }, vui := { matrix := 1, full := true },
    seq := BitVec.ofNat 16 (q % 256 * 256 + k), arrv := arrvUs, capt := arrvUs,
    samples := match x.latest with
      | some l => (Tab.get ({} : Frame) x.bufs l).samples
      | none => [],
    markDecode := true }

/-- Start the copy of a commit into buffer `b`: what lies outside the rectangle comes from the latest committed buffer, which the DMA reads and writes (R331). DESIGN
CHOICE (log 220): the commit count of SEQ starts at 0, and failed and squashed commits count (R89). -/
def State.beginCommit (s : State) (n : Nat) (w : Work) (k b rw rh : Nat) : State :=
  let x := s.surf k
  let q := x.commitSeq
  let f := commitFrame x k q (w.acceptedAt / 1000)
  let s := s.setSurf k { x with bufs := Tab.set {} x.bufs b f, commitSeq := q + 1 }
  let due := (s.earliestEpoch (.surf k) f).getD noDue
  let bytes := rw * rh * fmtBytes8 f.fmt / 8
  let s := if x.latest.isSome then s.draw n (2 * (x.w * x.h * fmtBytes8 f.fmt / 8 - bytes)) else s
  (s.setWork n { w with stage := .copying, buf := b, done := 0, len := bytes, due := due }).runDma

/-- Samples by key as a list (`sampleKey`). -/
def sampleList (t : Tab Nat) : List Sample := t.map (fun p => ⟨p.1 / 2 ^ 32, p.1 / 2 ^ 16 % 2 ^ 16, p.1 % 2 ^ 16, p.2⟩)

/-- The commit's rectangle has been read, or the commit has failed: every stand is tagged and the buffer is eligible (R89, R90, R329). In
a pair the entry and the data go to the shadow (R299). -/
def State.endCommit (s : State) (w : Work) (k : Nat) (hold ok : Bool) : State :=
  let r : FrameRef := ⟨.surf k, w.buf⟩
  let f := s.frame r
  let arrv := w.acceptedAt / 1000
  let wr : Writer := { src := .surf k, byte := 0xFF, srcTrace := false, hold := hold, preroll := false }
  let s := s.writeStands wr r ((List.range (stands f.w * stands f.h)).map (fun i => (i, !ok, arrv)))
  let s := s.setFrame r { s.frame r with markDecode := false }
  let s := s.becomeEligible (.surf k) r
  let x := s.surf k
  let s := s.setSurf k { x with
    latest := some w.buf,
    commits := if ok then x.commits + 1 else x.commits, failed := if ok then x.failed else x.failed + 1 }
  let s := if s.pairSends then
      let c := (s.surf k).commitSeq - 1
      let first := c - (c + 256 - f.seq.toNat / 256) % 256
      let s := s.sendManifest { Manifest.blank 2 k with
        arrv := arrv % 2 ^ 40, capt := arrv % 2 ^ 40, hold := hold, partial_ := !ok, first := (first : Int), digest := crcBytes w.read }
      s.sendPair (.surfData k (Tab.get 0 s.pair.mseq (1000 + k)) ok (sampleList (s.frame r).samples))
    else s
  s.joinSource (1000 + k)

/-! ## Failure (R333, R335) -/

/-- Send a page request group for a work order that waits for a page, while fewer than 16 are outstanding (R333). -/
def State.sendGroup (s : State) (n : Nat) (w : Work) : State :=
  let i := s.inst n
  if i.groups.length < 16 then
    let g : PageGroup := { id := i.nextGroup, work := w.id, page := w.priPage, sentAt := s.now }
    let s := s.setInst n { i with groups := i.groups ++ [g], nextGroup := i.nextGroup + 1 }
    ((s.count (Reg.instPageReqs n) 1).pmc unitDma 7 1).send (.pageRequest n g.id w.priPage)
  else s

/-- A group has been answered or given up: the work order that has waited longest for one sends its own. -/
def State.nextGroup (s : State) (n : Nat) : State :=
  let i := s.inst n
  match i.works.find? (fun (w : Work) => w.waitPri && !i.groups.any (fun g => g.work == w.id)) with
  | some w => s.sendGroup n w
  | none => s

/-- Buffer `b` of surface `k` takes a commit that failed without one: the picture before it, every stand INVALID (R89, R329). -/
def State.tagFailed (s : State) (w : Work) (k b : Nat) (hold : Bool) : State :=
  let x := s.surf k
  let f := commitFrame x k x.commitSeq (w.acceptedAt / 1000)
  let s := s.setSurf k { x with
    bufs := Tab.set {} x.bufs b f, commitSeq := x.commitSeq + 1, owed := x.owed.filter (fun (v : Work) => v.id != w.id) }
  s.endCommit { w with buf := b } k hold false

/-- A commit of instance `n` has failed or is squashed: in the buffer it holds, in a free one, or, while none is free, in the next that it
acquires, every stand is tagged INVALID (R89, R329). -/
def State.failCommit (s : State) (n : Nat) (w : Work) (k : Nat) (hold : Bool) : State :=
  let x := s.surf k
  if w.stage = .copying then s.endCommit w k hold false
  else if x.created ∧ x.owner = n then
    match freeBuf x.bufs x.nBufs 0 with
    | some b => s.tagFailed w k b hold
    | none => s.setSurf k { x with owed := x.owed ++ [w] }
  else s

/-- The surface and the commit, failed without a buffer, of work order `id` of instance `n`. -/
def State.owedCommit (s : State) (n id : Nat) : Option (Nat × Work) :=
  s.surfs.findSome? (fun p =>
    if p.2.created ∧ p.2.owner = n then (p.2.owed.find? (fun (w : Work) => w.id == id)).map (fun w => (p.1, w)) else none)

/-- A work order fails: a commit still tags every stand (R329). -/
def State.failWork (s : State) (n : Nat) (w : Work) : State :=
  let s := s.freeDma n w.id
  let s := match w.order.op with
    | .surfCommit k hold _ _ _ _ _ _ => s.failCommit n w k hold
    | _ => s
  let s := s.setInst n { s.inst n with groups := (s.inst n).groups.filter (fun g => g.work != w.id) }
  (s.complete n w.id 2 0 0).nextGroup n

/-- Commits to a surface that is destroyed before they complete fail. -/
def State.failCommits (s : State) (k : Nat) : State :=
  let mine := fun (w : Work) => match w.order.op with
    | .surfCommit x _ _ _ _ _ _ _ => x == k
    | _ => false
  let n := (s.surf k).owner
  ((s.inst n).works.filter (fun (w : Work) => mine w && w.stage != .waiting)).foldl (fun s w => s.failWork n w) s

/-- The DRAM offset an address of an instance's device page table stands for (R332). -/
def State.translate (s : State) (n va : Nat) : Option Nat :=
  match Tab.get 0 (s.inst n).pages (va / 2 ^ 21) with
  | 0 => none
  | p + 1 => some (p * 2 ^ 21 + va % 2 ^ 21)

/-- Every device page that a transfer needs next is mapped: those of its surface's pool, or of the block of a COPY. -/
def State.pagesOk (s : State) (n : Nat) (w : Work) : Bool :=
  match w.order.op with
  | .surfCommit k _ _ _ _ _ _ _ => (s.surf k).pool.all (fun p => (s.mapped n).contains p)
  | .copy _ none dva _ _ =>
    let a := dva.toNat + w.done
    (s.translate n a).isSome && (s.translate n (a + min 4096 (w.len - w.done) - 1)).isSome
  | _ => true

/-- Transfers stopped at an unmapped page resume once it is mapped (R335). -/
def State.wakePages (s : State) (n : Nat) : State :=
  let i := s.inst n
  let f := fun (w : Work) => if w.waitPage && s.pagesOk n w then { w with waitPage := false } else w
  (s.setInst n { i with works := i.works.map f }).runDma

/-! ## Squash (R338) -/

/-- Squash one work order. -/
def State.squashWork (s : State) (n : Nat) (w : Work) : State :=
  let s := s.freeDma n w.id
  let s := match w.order.op, w.stage with
    | .surfCommit k hold _ _ _ _ _ _, .copying => (s.failCommit n w k hold).pmc unitDma 10 1
    | .surfCommit k hold _ _ _ _ _ _, _ => s.failCommit n w k hold
    | .copy _ _ _ _ _, .copying => s.pmc unitDma 10 1
    | _, _ => s
  s.complete n w.id 3 0 0

/-- Squash every accepted work order of an instance; requests of its work orders not yet judged leave the queue, page requests are
answered no more. -/
def State.squash (s : State) (n : Nat) : State :=
  let a := s.adm
  let mine := fun (r : Request) => match r.by_ with
    | .work m _ => m == n
    | _ => false
  let s := { s with adm := { a with queue := a.queue.filter (fun r => !mine r) } }
  let s := (s.inst n).works.foldl (fun s w => s.squashWork n w) s
  s.setInst n { s.inst n with groups := [] }

/-- Begin a reset: queues are read no more; a squash ends the accepted work at once (R338). -/
def State.beginReset (s : State) (n : Nat) (squash clear destroy : Bool) : State :=
  let i := s.inst n
  let s := s.setInst n { i with
    draining := true, freezing := false, saving := none, restoring := none, resetClear := clear, destroying := destroy,
    drainStart := s.now }
  let s := s.instTo n .resetting
  if squash then s.squash n else s

end Sys2Proof.Machine
end

