-- ==== Sys2Proof/Machine/IngestOps.lean ====
section
/-! DEFINITION. The commands of stream ingest beside reception: membership reports and the timers of contexts and channels
(R125, R132 to R142). -/

namespace Sys2Proof.Machine

/-- A multicast address: 224.0.0.0/4 with the first octet in bits 7:0, or FF00::/8 (R148). -/
def isMulticast (ipv6 : Bool) (a : BitVec 128) : Bool :=
  if ipv6 then a.extractLsb' 0 8 == 0xFF else a.extractLsb' 4 4 == 0xE

/-- The report of one path, source-specific where the path carries a source filter (R125). -/
def State.reportPath (s : State) (p : PathCfg) : State :=
  if p.en && isMulticast p.ipv6 p.dst then
    s.send (.membership p.port p.dst (if p.srcFilt then some p.src else none))
  else s

/-- MEMBERSHIP_REPORT_SEND (R125): a report for every enabled path that names a multicast group. -/
def execMembershipReportSend (t : Nat) (s : State) : Host.Outcome State Fault Refusal :=
  let s := s.at t
  .next ((keys s.ctxs).foldl (fun s n =>
    let c := s.ctx n
    match c.state, c.decl with
    | .idle, _ => s
    | _, some (.net d) => (s.reportPath d.pathA).reportPath d.pathB
    | _, _ => s) s)

/-- The network declaration of a context that is started. -/
def State.netDecl (s : State) (n : Nat) : Option NetDecl :=
  match (s.ctx n).state, (s.ctx n).decl with
  | .idle, _ => none
  | _, some (.net d) => some d
  | _, _ => none

/-- PATH_DOWN_TIMEOUT (R132): path `p` (0 A, 1 B) of context `n` has delivered nothing for PATH_DOWN_MS. -/
def execPathDownTimeout (t : Nat) (n : Fin 160) (p : Fin 2) (s : State) : Host.Outcome State Fault Refusal :=
  let s := s.at t
  match s.netDecl n.val with
  | none => .next s
  | some d =>
    let y := Ctx.path (s.ctx n.val) p.val
    if y.up ∧ y.lastAccept + d.pathDownMs * 1000000 ≤ s.now then
      let s := s.setCtx n.val (Ctx.setPath (s.ctx n.val) p.val { y with up := false })
      let s := match (s.ctx n.val).ch with
        | some ch => s.chCount ch 17 1
        | none => s
      .next (s.emit .ctxPathDown n.val [p.val])
    else .next s

/-- AU_DEADLINE (R134): what has reached its deadline is forwarded as it is. -/
def execAuDeadline (t : Nat) (n : Fin 160) (s : State) : Host.Outcome State Fault Refusal :=
  let s := s.at t
  match s.netDecl n.val with
  | none => .next s
  | some d => .next (s.runIngest n.val d)

/-- CONTEXT_RETRY (R140, R114): RETRY_MS after its fault a context returns to ARMED, and its channel's checker starts
again. -/
def execContextRetry (t : Nat) (n : Fin 160) (s : State) : Host.Outcome State Fault Refusal :=
  let s := s.at t
  let c := s.ctx n.val
  let r := declRetry c.decl
  if c.state = .fault ∧ r ≠ 0 ∧ c.faultAt + r * 1000000 ≤ s.now then
    let s := (s.setCtx n.val { c with fault := .none, taintRun := true }).ctxTo n.val .armed
    match c.ch with
    | some ch =>
      let s := s.resetChecker (.ch ch)
      .next (s.chanStart ch)
    | none => .next s
  else .next s

/-- CHANNEL_SILENCE (R142): a FLOWING channel with no eligible frame for SILENCE_MS is SILENT. -/
def execChannelSilence (t : Nat) (ch : Fin 128) (s : State) : Host.Outcome State Fault Refusal :=
  let s := s.at t
  let c := s.chan ch.val
  match c.state, c.lastEligible with
  | .flowing, some l => if l + c.silenceMs * 1000000 ≤ s.now then .next (s.chanTo ch.val .silent) else .next s
  | _, _ => .next s

/-- RTCP_SR_RX (R138): a sender report for context `n`: its NTP time-stamp (32.32, NTP epoch) and RTP time-stamp. -/
def execRtcpSrRx (t : Nat) (n : Fin 160) (ntp : BitVec 64) (rtp : BitVec 32) (s : State) :
    Host.Outcome State Fault Refusal :=
  let s := s.at t
  match s.netDecl n.val with
  | none => .next s
  | some _ =>
    let ns : Int := ((ntp.toNat / 2 ^ 32 * 1000000000 + ntp.toNat % 2 ^ 32 * 1000000000 / 2 ^ 32 : Nat) : Int)
    .next (s.setCtx n.val { s.ctx n.val with sr := some (ns, rtp, s.now), srExpired := false })

/-- SR_AGE_EXPIRE (R138): the newest sender report is older than SR_MAX_AGE. -/
def execSrAgeExpire (t : Nat) (n : Fin 160) (s : State) : Host.Outcome State Fault Refusal :=
  let s := s.at t
  match s.netDecl n.val with
  | none => .next s
  | some d =>
    let c := s.ctx n.val
    match c.sr with
    | some p =>
      if p.2.2 + d.srMaxAge * 1000000000 < s.now then .next (s.setCtx n.val { c with srExpired := true }) else .next s
    | none => .next s

end Sys2Proof.Machine
end

