-- ==== Sys2Proof/Machine/LuskoOps.lean ====
section
/-! DEFINITION. The commands of Lusko lanes beside reception: the cruise, training, losses, low power, TIME packets
(R152 to R171). -/

namespace Sys2Proof.Machine

/-! ## Training (R155, R156, R159, R169) -/

/-- The IDENT that a lane sends with its SOP at device time `t` (R169): ECHO and TURN answer the last IDENT received. -/
def State.identOf (s : State) (l t : Nat) : Ident :=
  let y := s.lane l
  { kind := 2, lane := BitVec.ofNat 8 (l - y.first), bondW := BitVec.ofNat 8 y.width, rates := 7, channels := Config.identChannels,
    version := Config.identVersion s.glb.fwVersion, serial := s.board.serial, txT := BitVec.ofNat 64 t,
    echo := match y.ident with
      | some i => i.txT
      | none => 0,
    turn := match y.ident with
      | some _ => BitVec.ofNat 32 (t - y.identAt)
      | none => 0 }

/-- Send an IDENT on a lane, as a ×1 packet on CHAN 0 (R156, R169). -/
def State.sendIdent (s : State) (l : Nat) : State :=
  let y := s.lane l
  let i := s.identOf l (s.colTime l (y.sopCol s.time.lct))
  (s.setLane l { y with identTx := i.txT :: y.identTx }).sendPacket l 1 0 (.ident i) (identBytes i)

/-- A lane enters TRAIN: its board settings are applied, the exchange of IDENT starts anew (R159, R169). Its first SOP follows 4,096 TRN
and the 32 COM that the partner counts (R156). -/
def State.trainLane (s : State) (l : Nat) : State :=
  let y := s.lane l
  let s := s.setLane l {
    y.txStart s.time.lct 4128 with
    eq := (s.board.laneEq)[l]?.getD 0, trainAt := s.now, identTx := [], identNew := false, latency := none, rxSeq := [], rxSeqSeen := [],
    fill := 16, fillMin := min y.fillMin 16, fillMax := max y.fillMax 16 }
  ((s.count (Reg.laneTrains l) 1).laneTo l .train).sendIdent l

/-! ## The margin scan's hold on a bond (R454) -/

/-- The running scan has the bond of lane `l`. -/
def State.scans (s : State) (l : Nat) : Bool := s.prov.scan.busy && s.prov.scan.first == (s.lane l).first

/-- A lane's board-record entry with the CTLE step of the scan, and its TXDE with TXHOLD unless that is 0xF (R158, R454). -/
def scanEq (e : BitVec 32) (rate step txHold : Nat) : BitVec 32 :=
  let b := bits e.toNat (8 * rate + 7) (8 * rate)
  let n := bits b 7 7 * 128 + step * 16 + (if txHold = 15 then b % 8 else txHold % 8)
  BitVec.ofNat 32 (e.toNat - b * 2 ^ (8 * rate) + n * 2 ^ (8 * rate))

/-- Character errors of a lane count in its registers and, in a dwell of the scan, in the step's count (R153, R454). -/
def State.laneErrs (s : State) (l code disp : Nat) : State :=
  let s := (s.count (Reg.laneCodeErr l) code).count (Reg.laneDispErr l) disp
  let c := s.prov.scan
  if s.scans l ∧ c.dwellFrom.isSome then
    let k := l - c.first
    { s with prov := { s.prov with scan := { c with errs := Tab.set 0 c.errs k (Tab.get 0 c.errs k + code + disp) } } }
  else s

/-- Character errors of the lanes of a bond, from its first lane on. -/
def State.bondErrs (s : State) (l : Nat) (e : List (Nat × Nat)) : State :=
  (s.bondLanes l).foldl (fun (s : State) (k : Nat) =>
    let p := e.getD (k - (s.lane l).first) (0, 0)
    s.laneErrs k p.1 p.2) s

/-- A lane of the bond is isolated: the bond is not retrained (R419). -/
def State.bondIsolated (s : State) (l : Nat) : Bool := (s.bondLanes l).any (fun k => s.mode.isoLane.getLsbD k)

/-- The cruise period in force, ms (R172). -/
def State.cruiseMs (s : State) : Nat :=
  let v := s.reg Reg.cruisePeriod
  if v = 0 then 0 else min 60000 (max 100 v)

/-- CRUISE_SWEEP (R169): at each multiple of the period in device time every DOWN lane of the mask is put into TRAIN. -/
def execCruiseSweep (t : Nat) (s : State) : Host.Outcome State Fault Refusal :=
  let s := s.at t
  let p := s.cruiseMs * 1000000
  if p = 0 ∨ s.now / p * p ≤ s.cruiseLast then .next s
  else
    let s := { s with cruiseLast := s.now / p * p }
    let s := (List.range 32).foldl (fun s l =>
      if (s.lane l).state = .down ∧ bit (s.reg Reg.cruiseMask) l ∧ ¬ s.bondIsolated l ∧ ¬ s.scans l then s.trainLane l else s) s
    .next { s with cruiseSeq := s.cruiseSeq + 1 }

/-- Train the bond of lane `l` with the scan's present step on every lane (R454). -/
def State.scanTrain (s : State) : State :=
  let c := s.prov.scan
  let s := { s with prov := { s.prov with scan := { c with dwellFrom := none, errs := [] } } }
  (s.bondLanes c.first).foldl (fun (s : State) (k : Nat) =>
    let s := s.trainLane k
    s.setLane k { s.lane k with rate := c.rate, eq := scanEq ((s.board.laneEq)[k]?.getD 0) c.rate c.step c.txHold })
    (if (s.lane c.first).state = .up then s.bondDown c.first else s)

/-- The scan ends: the bond is trained again as admitted, with the board record's settings (R454). -/
def State.scanRestore (s : State) (done : Bool) : State :=
  let c := s.prov.scan
  let s := if (s.lane c.first).state = .up then s.bondDown c.first else s
  let s := { s with prov := { s.prov with scan := { c with busy := false, done := done, dwellFrom := none } } }
  let b : BondCfg := Tab.get {} s.bonds c.first
  (s.bondLanes c.first).foldl (fun (s : State) (k : Nat) => (s.setLane k { s.lane k with rate := b.rate }).trainLane k) s

/-- A step of the scan ends with a count for each lane of the bond; the next step, or the restore, follows (R454). -/
def State.scanNext (s : State) (v : Nat → BitVec 32) : State :=
  let c := s.prov.scan
  let r := (List.range c.width).foldl (fun (t : Tab (BitVec 32)) k => Tab.set 0 t (8 * k + c.step) (v k)) c.result
  let s := { s with prov := { s.prov with scan := { c with result := r, step := if c.step = 7 then 7 else c.step + 1 } } }
  if c.step = 7 then (s.scanRestore true).emit .modeScanDone 0 [] else s.scanTrain

/-- The partner KIND a role expects (R169): a bridge, a W128, a fixture. -/
def roleKind : BondRole → Nat
  | .capture => 1 | .pair => 2 | .relay => 2 | .fixture => 3

/-- A lane of a bond is ready to be UP: IDENT exchanged, with the lane index its position requires, the expected KIND and the
admitted rate (R156, R169). -/
def State.laneReady (s : State) (l : Nat) : Bool :=
  let y := s.lane l
  y.state == .train && y.identNew && y.latency.isSome && decide (s.now ≤ y.trainAt + 2000000) &&
    match y.ident with
    | some i => i.lane.toNat == l - y.first && i.rates.getLsbD y.rate &&
      (i.kind.toNat == roleKind y.role || (s.scans l && (i.kind == 2 || i.kind == 3)))
    | none => false

/-- A bond comes UP, every lane of it. -/
def State.bondUp (s : State) (l : Nat) : State :=
  (s.bondLanes l).foldl (fun s k =>
    let y := s.lane k
    (s.setLane k { y.txStart s.time.lct 0 with
      serialUp := y.ident.map (fun i => i.serial), rxSeq := [], rxSeqSeen := [], lastTime := none, timeGapOk := true,
      wakeAsked := false, deepAsked := false, txEidle := false, rxEidle := false }).laneTo k .up |>.dropToken .lane k) s

/-- LANE_TRAIN_COMPLETE (R155, R156): every lane of the bond has seen 32 consecutive valid COM characters, the lanes lie at most 32
characters apart, and two consecutive ALN columns have come aligned on all of them. A step of the scan goes on to its dwell
(R454). -/
def execLaneTrainComplete (t : Nat) (b : TrainedBond) (s : State) : Host.Outcome State Fault Refusal :=
  let s := s.at t
  if 32 ≤ b.com ∧ b.skew ≤ 32 ∧ 2 ≤ b.aln ∧ (s.bondLanes b.lane.val).all s.laneReady ∧ (s.lane b.lane.val).state = .train then
    let s := s.bondUp b.lane.val
    .next (if s.scans b.lane.val then { s with prov := { s.prov with scan := { s.prov.scan with dwellFrom := some s.now } } } else s)
  else .next s

/-- LANE_TRAIN_TIMEOUT (R155): 2 ms in TRAIN. A step of the scan whose training fails stores 0xFFFF_FFFF (R454). -/
def execLaneTrainTimeout (t : Nat) (l : Fin 32) (s : State) : Host.Outcome State Fault Refusal :=
  let s := s.at t
  if (s.lane l.val).state = .train ∧ (s.lane l.val).trainAt + 2000000 ≤ s.now then
    let s := (s.bondLanes l.val).foldl (fun s k =>
      if (s.lane k).state = .train then (s.count (Reg.laneTrainFail k) 1).laneTo k .down else s) s
    .next (if s.scans l.val then s.scanNext (fun _ => 0xFFFFFFFF) else s)
  else .next s

/-! ## Losses (R152, R157) -/

/-- LANE_SLIP (R152): the elastic buffer of a lane that is UP has run full (`full`) or empty; R155 has no such move from another state. -/
def execLaneSlip (t : Nat) (l : Fin 32) (full : Bool) (s : State) : Host.Outcome State Fault Refusal :=
  let s := s.at t
  let y := s.lane l.val
  if y.state ≠ .up then .next s
  else
    let f := if full then 32 else 0
    let due := match y.slipEvt with
      | some e => decide (e + 1000000000 ≤ s.now)
      | none => true
    let s := s.setLane l.val { y with
      fill := f, fillMin := min y.fillMin f, fillMax := max y.fillMax f, slipEvt := if due then some s.now else y.slipEvt }
    let s := s.count (Reg.laneSlips l.val) 1
    let s := if due then s.emit .laneSlip l.val [] else s
    .next (s.bondDown l.val)

/-- LANE_ALIGN_LOSS (R153, R157): the code and disparity errors of a lane within 1024 consecutive characters, and whether two consecutive ALN
columns are missing or one is skewed beyond what the deskew holds (`aln`). All count; 16 errors, or the ALN, take a lane that is UP
down. -/
def execLaneAlignLoss (t : Nat) (l : Fin 32) (errs : Nat × Nat) (aln : Bool) (s : State) : Host.Outcome State Fault Refusal :=
  let s := s.at t
  let s := s.laneErrs l.val errs.1 errs.2
  if (s.lane l.val).state = .up ∧ (aln ∨ 16 ≤ errs.1 + errs.2) then .next ((s.count (Reg.laneAlignLoss l.val) 1).bondDown l.val) else .next s

/-! ## IDENT and LINK_CTRL received (R156, R165, R171) -/

/-- An IDENT received on a lane. -/
def State.rxIdent (s : State) (l : Nat) (i : Ident) (stamp : Nat) : State :=
  let y := s.lane l
  match y.state with
  | .off | .down | .deep => s
  | _ =>
    let changed := match y.serialUp with
      | some q => q != i.serial
      | none => false
    let answered := y.identTx.contains i.echo && i.echo != 0
    let lat := if answered then some (stamp - i.echo.toNat - i.turn.toNat) else y.latency
    let s := s.setLane l { y with ident := some i, identAt := stamp, identNew := true, latency := lat }
    let s := if i.lane.toNat ≠ l - y.first ∧ y.state = .train then s.emit .laneBondOrder l [(i.lane.toNat : Int)] else s
    let s := if changed then s.emit .lanePartnerChange l [] else s
    let s := if changed then s.setLane l { s.lane l with serialUp := some i.serial } else s
    let s := if changed && y.state == .up then s.bondDown l else s
    if y.state = .train ∧ ¬ answered ∧ y.identTx.length < 3 then s.sendIdent l else s

/-- Deep off is refused on a bond that feeds a context not in IDLE, or on the pair link in RUN or SHADOW (R171). -/
def State.refusesDeep (s : State) (l : Nat) : Bool :=
  let y := s.lane l
  !(s.bondCtxs y.first).isEmpty || (y.role == .pair && (s.mode.mode == .run || s.mode.mode == .shadow))

/-- Both ends send an EIS and stop: the bond is in deep off. -/
def State.bondDeep (s : State) (l : Nat) : State := (s.idleTx l).bondTo l (fun _ => .deep)

/-- Send a LINK_CTRL on a bond, by its first lane (R171). -/
def State.sendLinkCtrl (s : State) (l op : Nat) : State := s.sendLusko l 0 (.linkCtrl op) (LuskoBody.linkCtrl op).payload

/-- A LINK_CTRL received (R171): 1 DEEP_REQ, 2 DEEP_ACK, 3 DEEP_NAK; others are discarded. -/
def State.rxLinkCtrl (s : State) (l op : Nat) : State :=
  let y := s.lane l
  if y.state ≠ .up then s
  else match op with
  | 1 =>
    if y.deepAsked then s.bondDeep l
    else if s.refusesDeep l then s.sendLinkCtrl l 3
    else (s.sendLinkCtrl l 2).bondDeep l
  | 2 => if y.deepAsked then s.bondDeep l else s
  | 3 => s.setLane l { y with deepAsked := false }
  | _ => s

/-! ## Packets received (R160, R161, R164, R165, R296) -/

/-- A packet that is discarded is counted on the first lane of its bond; the first CRC_ERR or LEN_ERR after a read of that counter
raises PKT_ERR (R160, R161). -/
def State.luskoBad (s : State) (l : Nat) (why : LuskoBad) : State :=
  let f := (s.lane l).first
  let one := fun (r : Nat) => let n := s.count r 1; if s.reg r = 0 then n.emit .lanePktErr f [] else n
  match why with
  | .crc => one (Reg.laneCrcErr f)
  | .length => one (Reg.laneLenErr f)
  | .reservedType => s.count (Reg.lanePktBad f) 1
  | .aborted => s.count (Reg.laneAborts f) 1

/-- The Lusko contexts bound to a bond and CHAN, with their declarations. -/
def State.chanCtxs (s : State) (f chan : Nat) : List (Nat × LuskoDecl) :=
  (s.bondCtxs f).filterMap (fun n => match s.luskoDecl n with
    | some d => if d.chan = chan then some (n, d) else none
    | none => none)

/-- The SEQ of accepted packets, `n` in a row from `q` on, on a bond's CHAN (R161): one that is not the previous plus one counts in SEQ_GAP; on the pair link it
takes the link DOWN (R296); a jump above 1000 takes a context in DECODE back to SYNC (R165). -/
def State.luskoSeq (s : State) (f chan : Nat) (q : BitVec 16) (n : Nat) : State :=
  let y := s.lane f
  let last := Tab.get 0 y.rxSeq chan
  let gap : Bool := Tab.get false y.rxSeqSeen chan && q != last + 1
  let s := s.setLane f { y with rxSeq := Tab.set 0 y.rxSeq chan (q + BitVec.ofNat 16 (n - 1)), rxSeqSeen := Tab.set false y.rxSeqSeen chan true }
  if gap then
    let s := s.count (Reg.laneSeqGap f) 1
    if y.role = .pair then s.bondDown f
    else if 1000 < (q - last).toInt.natAbs then
      (s.chanCtxs f chan).foldl (fun (s : State) (p : Nat × LuskoDecl) =>
        if (s.ctx p.1).state = .decode then s.ctxTo p.1 .sync else s) s
    else s
  else s

/-- The SEQ of an IDENT, on CHAN 0 (R161): of the bond while it is UP, of the lane on its own in training (R156). -/
def State.identSeq (s : State) (l : Nat) (q : BitVec 16) : State :=
  let y := s.lane l
  if y.state = .up then s.luskoSeq y.first 0 q 1
  else
    let s := if Tab.get false y.rxSeqSeen 0 && q != Tab.get 0 y.rxSeq 0 + 1 then s.count (Reg.laneSeqGap y.first) 1 else s
    s.setLane l { s.lane l with rxSeq := Tab.set 0 y.rxSeq 0 q, rxSeqSeen := Tab.set false y.rxSeqSeen 0 true }

/-- A capture packet goes to the context of its bond and CHAN (R164, R165); without one it is discarded. -/
def State.rxCapture (s : State) (f chan : Nat) (b : LuskoBody) (stamp : Nat) : State :=
  match (s.chanCtxs f chan).head? with
  | none => s
  | some (n, d) =>
    let s := s.capturePacket n d b
    match b with
    | .frameStart x => s.rxFrameStart n d x stamp
    | .videoLine fr line px => s.rxVideoLine n d fr line px stamp
    | .frameEnd fr _ => s.rxFrameEnd n fr
    | _ => s

/-! ## TIME packets and capture timeouts (R163, R164) -/

/-- LUSKO_TIME_SEND (R163): a TIME packet on every UP bond whose partner is a capture bridge. -/
def execLuskoTimeSend (t : Nat) (s : State) : Host.Outcome State Fault Refusal :=
  let s := s.at t
  .next ((List.range 32).foldl (fun s l =>
    let y := s.lane l
    let bridge : Bool := match y.ident with
      | some i => i.kind == 1
      | none => false
    if y.state = .up ∧ y.first = l ∧ y.role = .capture ∧ bridge then
      let late := match y.lastTime with
        | some p => decide (p + 2000000 < s.now)
        | none => false
      (s.setLane l { y with lastTime := some s.now, timeGapOk := y.timeGapOk && !late }).sendTime l 0 (fun v rate => .time v rate)
    else s) s)

/-- CAPTURE_FRAME_TIMEOUT (R164): two declared frame periods after its FRAME_START the open frame is closed. -/
def execCaptureFrameTimeout (t : Nat) (n : Fin 160) (s : State) : Host.Outcome State Fault Refusal :=
  let s := s.at t
  match s.luskoDecl n.val, (s.ctx n.val).open_ with
  | some d, some o =>
    if (o.at_ * d.num + 2 * d.den * 1000000000 ≤ s.now * d.num) then .next (s.closeCapture n.val) else .next s
  | _, _ => .next s

/-! ## Low-power states (R170, R171) -/

/-- FAST_IDLE_ENTRY (R170): the transmit (`tx`) or receive direction of lane `l`'s bond goes idle; the transmitter sends an EIS first. -/
def execFastIdleEntry (t : Nat) (l : Fin 32) (tx : Bool) (s : State) : Host.Outcome State Fault Refusal :=
  let s := s.at t
  if (s.lane l.val).state = .up then
    let s := if tx ∧ ¬ (s.lane l.val).txEidle then s.idleTx (s.lane l.val).first else s
    .next ((s.bondLanes l.val).foldl (fun s k =>
      let y := s.lane k
      s.setLane k (if tx then { y with txEidle := true } else { y with rxEidle := true })) s)
  else .next s

/-- FAST_IDLE_EXIT (R170): an idle direction returns; `aligned` says whether the receiver is aligned at the ALN column. -/
def execFastIdleExit (t : Nat) (l : Fin 32) (tx aligned : Bool) (s : State) : Host.Outcome State Fault Refusal :=
  let s := s.at t
  let y := s.lane l.val
  if y.state = .up ∧ tx then .next (s.wakeTx y.first)
  else if y.state = .up ∧ y.rxEidle then
    let s := (s.bondLanes l.val).foldl (fun (s : State) (k : Nat) => s.setLane k { s.lane k with rxEidle := false }) s
    if !aligned then .next ((s.count (Reg.laneAlignLoss l.val) 1).bondDown l.val) else .next s
  else .next s

/-- DEEP_OFF_REQUEST (R171): a local request sends DEEP_REQ, unless the bond's use refuses it. -/
def execDeepOffRequest (t : Nat) (l : Fin 32) (s : State) : Host.Outcome State Fault Refusal :=
  let s := s.at t
  let k := (s.lane l.val).first
  let y := s.lane k
  if y.state = .up ∧ ¬ s.refusesDeep k ∧ ¬ y.deepAsked then
    .next ((s.setLane k { y with deepAsked := true }).sendLinkCtrl k 1)
  else .next s

/-- Ask for a power token for every DEEP lane of a bond. -/
def State.askWake (s : State) (l : Nat) : State :=
  (s.bondLanes l).foldl (fun s k =>
    if (s.lane k).state = .deep then (s.setLane k { s.lane k with wakeAsked := true }).askToken .lane k else s) s

/-- DEEP_WAKE_REQUEST (R171): a local wake of a DEEP lane. -/
def execDeepWakeRequest (t : Nat) (l : Fin 32) (s : State) : Host.Outcome State Fault Refusal :=
  .next ((s.at t).askWake l.val)

/-- SQUELCH_ACTIVITY (R171): activity of `ns` nanoseconds on a DEEP lane; at least 100 ns asks for a token. -/
def execSquelchActivity (t : Nat) (l : Fin 32) (ns : Nat) (s : State) : Host.Outcome State Fault Refusal :=
  let s := s.at t
  if 100 ≤ ns ∧ (s.lane l.val).state = .deep then .next (s.askWake l.val) else .next s

/-- LANE_WAKE_ALIGNED (R155): both directions of a waking bond are aligned and deskewed within 200 µs of the grant. -/
def execLaneWakeAligned (t : Nat) (l : Fin 32) (s : State) : Host.Outcome State Fault Refusal :=
  let s := s.at t
  if (s.bondLanes l.val).all (fun k => (s.lane k).state == .wake && decide (s.now ≤ (s.lane k).wakeAt + 200000)) ∧
      (s.lane l.val).state = .wake then
    .next (s.bondUp l.val)
  else .next s

/-- DEEP_WAKE_TIMEOUT (R155): a waking lane is not aligned 200 µs after its grant. -/
def execDeepWakeTimeout (t : Nat) (l : Fin 32) (s : State) : Host.Outcome State Fault Refusal :=
  let s := s.at t
  if (s.lane l.val).state = .wake ∧ (s.lane l.val).wakeAt + 200000 ≤ s.now then .next (s.bondDown l.val) else .next s

end Sys2Proof.Machine
end

