-- ==== Sys2Proof/Machine/AdmLive.lean ====
section
/-! DEFINITION. Accepted objects taking effect in the units (R25, R142 to R146, R155, R178, R224, R228, R255, R265, R280, R293, R351):
the units are brought to what the objects say. -/

namespace Sys2Proof.Machine

/-- A state seen with a table of objects as the admitted ones. -/
def State.viewing (s : State) (objs : Tab Obj) : State := { s with adm := { s.adm with objs := objs } }

/-! ## Contexts and channels -/

/-- The declaration with which context `n` starts now: its object is on, and it is not running with that declaration or is applied while
in FAULT (R140, R374). -/
def State.startDecl (s : State) (touched : List Nat) (objs : Tab Obj) (n : Nat) : Option Decl :=
  let o : Obj := Tab.get {} objs (0x4100 + n)
  let c := s.ctx n
  match o.on, declOf o.set with
  | true, some d =>
    if c.state = .idle ∨ c.decl ≠ some d ∨ (touched.contains (0x4100 + n) ∧ c.state = .fault) then some d else none
  | _, _ => none

/-- Start a context that its object starts now. -/
def State.liveCtx (s : State) (touched : List Nat) (objs : Tab Obj) (n : Nat) : State :=
  match s.startDecl touched objs n with
  | some d =>
    let s := if (s.ctx n).state = .idle then s else (s.dropWork n).dropBuffers n
    let s := s.startCtx n d
    match d with
    | .net x => (s.reportPath x.pathA).reportPath x.pathB
    | .lusko _ => s
  | none => s

/-- When a frame of a context last became eligible, among those its buffers hold. -/
def State.ctxEligibleAt (s : State) (n : Nat) : Option Nat :=
  ((s.ctx n).bufs.filterMap (fun p => p.2.eligible)).foldl (fun (a : Option Nat) e => some (match a with
    | some x => max x e
    | none => e)) none

/-- The salvo that lists a context and the channel its binding names (R143). -/
def State.salvoOf (s : State) (n : Nat) : Option (Nat × Nat) :=
  s.salvos.findSome? (fun (p : Nat × Salvo) =>
    if p.2.prepared then (p.2.bindings.find? (fun b => b.1 == n)).map (fun b => (p.1, b.2)) else none)

/-- A context feeds the channel of its object, or none (R144). A context bound out of pre-roll has PREROLL_SLOTS cleared (R196). -/
def State.feedCtx (s : State) (objs : Tab Obj) (n : Nat) : State :=
  let c := s.ctx n
  let ch := feedOf objs n
  let bound : Bool := c.ch.isNone && ch.isSome
  s.setCtx n { c with
    ch := ch, salvo := s.salvoOf n, prerollSlots := if bound then 0 else c.prerollSlots,
    prerollByCore := if bound then [] else c.prerollByCore }

/-- A channel whose feeder changes: its checker starts again, the change counts (R114, R144, R437). -/
def State.feedChan (s : State) (c : Nat) (n : Option Nat) : State :=
  let last := n.bind (fun k => s.ctxEligibleAt k)
  let s := (s.setChan c { s.chan c with ctx := n, lastEligible := last }).chCount c 20 1
  if n.isSome then s.resetChecker (.ch c) else s

/-- The settings of a channel. -/
def State.setChanCfg (s : State) (objs : Tab Obj) (c : Nat) : State :=
  let v := s.viewing objs
  let x := s.chan c
  let b := v.aBlaze c
  let s := s.setChan c { x with offset := v.aOffset c, silenceMs := v.aSilence c, blaze := b }
  if x.blaze = b then s else s.resetChecker (.ch c)

/-- Slots spent in pre-roll on a context that is stopped move from RETIRED to WASTED on each core (R196). -/
def State.wastePreroll (s : State) (n : Nat) : State :=
  let s := (s.ctx n).prerollByCore.foldl (fun s p =>
    let x := s.unitSlots p.1
    let m := p.2
    s.setSlots p.1 { x with retired := x.retired - BitVec.ofNat 48 m, wasted := x.wasted + BitVec.ofNat 48 m }) s
  s.setCtx n { s.ctx n with prerollSlots := 0, prerollByCore := [] }

/-- Stop a context whose object is off; one in pre-roll gives its slots to WASTED where a salvo's cancel stops it (R140, R146, R196). -/
def State.liveStop (s : State) (cancelled : List Nat) (objs : Tab Obj) (n : Nat) : State :=
  if (Tab.get ({} : Obj) objs (0x4100 + n)).on ∨ (s.ctx n).state = .idle then s
  else
    let s := if cancelled.contains n then s.wastePreroll n else s
    s.stopCtx n

/-- The context numbers of a table of objects or of the state. -/
def State.ctxNumbers (s : State) (objs : Tab Obj) : List Nat :=
  (((keys objs).filter (fun i => decide (0x4100 ≤ i) && decide (i < 0x41A0))).map (fun i => i - 0x4100) ++ keys s.ctxs).eraseDups

/-- Contexts and channels as the objects say: starts, then every binding at once, then stops (R144). `cancelled` lists contexts that a
cancelled salvo stops. -/
def State.liveIngest (s : State) (touched cancelled : List Nat) (objs : Tab Obj) : State :=
  let ns := s.ctxNumbers objs
  let started := ns.filter (fun n => (s.startDecl touched objs n).isSome)
  let s := ns.foldl (fun s n => s.liveCtx touched objs n) s
  let chs := (List.range 128).filter (fun c => (s.chan c).ctx != (feedersOf objs c).head?)
  let s := ns.foldl (fun s n => s.feedCtx objs n) s
  let s := chs.foldl (fun s c => s.feedChan c (feedersOf objs c).head?) s
  let s := (List.range 128).foldl (fun s c => s.setChanCfg objs c) s
  let s := ns.foldl (fun s n => s.liveStop cancelled objs n) s
  let again := started.filterMap (fun n => (s.ctx n).ch)
  let s := (chs ++ again).eraseDups.foldl (fun s c => s.chanStart c) s
  s.settleAll

/-! ## Bonds (R150, R155, R172) -/

/-- The lanes of a bond. -/
def bondLaneList (l : Nat) (b : BondCfg) : List Nat := (List.range b.width).map (fun i => l + i)

/-- Disable a bond: its lanes go OFF from whatever state they are in (R155). -/
def State.disableBond (s : State) (l : Nat) (b : BondCfg) : State :=
  (bondLaneList l b).foldl (fun (s : State) (k : Nat) => s.setLane k { s.lane k with en := false }) (s.bondTo l (fun _ => .off))

/-- Enable a bond: its lanes go DOWN and are trained at once; isolated lanes stay OFF (R155, R419). -/
def State.enableBond (s : State) (l : Nat) (b : BondCfg) : State :=
  let ls := bondLaneList l b
  let s := ls.foldl (fun s k =>
    s.setLane k { (s.lane k) with
      en := true, first := l, width := b.width, rate := b.rate, role := b.role, serialUp := none, rxSeq := [], rxSeqSeen := [],
      txSeq := [] }) s
  if s.bondIsolated l then s
  else
    let s := ls.foldl (fun s k => s.laneTo k .down) s
    ls.foldl (fun s k => s.trainLane k) s

/-- Bonds as the objects say. -/
def State.liveBonds (s : State) (objs : Tab Obj) : State :=
  let new := (s.viewing objs).aBonds
  let old := s.bonds.filter (fun p => p.2.en)
  let s := (old.filter (fun p => !new.contains p)).foldl (fun s p => s.disableBond p.1 p.2) s
  let s := { s with bonds := new.foldl (fun (t : Tab BondCfg) p => Tab.set {} t p.1 p.2) [] }
  (new.filter (fun p => !old.contains p)).foldl (fun s p => s.enableBond p.1 p.2) s

/-! ## Heads, sheets, recordings -/

/-- A head's timing as its object says, accepted at `a` (R255); it is compared with a present
sink's (R261). -/
def State.liveHead (s : State) (a : Nat) (objs : Tab Obj) (h : Nat) : State :=
  let x := s.head h
  match (s.viewing objs).aHead h with
  | none =>
    if !x.admitted then s
    else match x.state with
      | .run => s.setHead h { x with admitted := false, nextCfg := none }
      | .starting =>
        let s := (s.setHead h { x with admitted := false, nextCfg := none, cfg := {} }).headTo h .off
        ((s.untrain h).dropToken .training h).settleHead h
      | _ => s.setHead h { x with admitted := false, nextCfg := none, cfg := {} }
  | some c =>
    if x.admitted ∧ x.nextCfg.getD x.cfg = c then s
    else (match x.state with
      | .off => ((s.setHead h { x with cfg := c, admitted := true, admittedAt := a }).headTo h .starting).askTraining h
      | .starting => s.setHead h { x with cfg := c, admitted := true, admittedAt := a }
      | .run => s.setHead h { x with nextCfg := some c, admitted := true, admittedAt := a }
      | .isolated => s.setHead h { x with cfg := c, admitted := true, admittedAt := a }).checkSink h c

/-- Sheets as the objects say, on the engines R228 places them on. -/
def State.liveSheet (s : State) (objs : Tab Obj) (n : Nat) : State :=
  let v := s.viewing objs
  let x := s.sheet n
  let e := (((v.placeSheets.getD []).find? (fun p => p.1 == n)).map Prod.snd).getD 0
  let free := fun (s : State) => [0, 1].foldl (fun s k => if (s.engine k).sheet = some n then s.freeEngine k else s) s
  match v.aSheet n with
  | none =>
    if x.created then
      let s := (free s).forgetSource (.sheet n)
      (s.setSheet n { pool := x.pool, nBufs := x.nBufs, gen := s.win.active }).finishSwitch
    else s
  | some c =>
    if !x.created then s.setSheet n { x with cfg := c, created := true, engine := e, nextEngine := e, gen := s.win.active, stopped := false }
    else if x.cfg = c then s.setSheet n { x with nextEngine := e }
    else
      let s := free s
      let y := s.sheet n
      (s.setSheet n { y with
        cfg := c, nextEngine := e, composing := [], lastEpoch := none,
        bufs := Tab.mapAll {} (fun _ f => { f with markDecode := false }) y.bufs }).settleAll

/-- A recording as its object says; a change of its settings or of its head's timing starts it again (R265, R280). -/
def State.liveRec (s : State) (old objs : Tab Obj) (r : Nat) : State :=
  let v := s.viewing objs
  let x := s.recording r
  let c : RecCfg := ((v.aRecs.find? (fun p => p.1 == r)).map Prod.snd).getD { x.cfg with en := false }
  let timing : Bool := Tab.get ({} : Obj) old (0x5000 + r) != Tab.get ({} : Obj) objs (0x5000 + r)
  if x.cfg = c ∧ ¬ timing then s
  else
    let s := s.setRecording r { x with cfg := c }
    if !c.en then (if x.cfg.en then s.recStop r else s)
    else if recMode s.mode.mode then s.recStart r else s

/-- Parts of a picture in work that wait on an isolated core go where the packing now has them (R419); the others stay where the picture
began (R179). -/
def State.reseat (s : State) (n : Nat) : State :=
  match (s.ctx n).picture with
  | some p => s.setCtx n { s.ctx n with
      picture := some { p with
        parts := p.parts.map (fun (q : PicPart) =>
          if q.state = .waiting ∧ (s.core q.core).state = .isolated then { q with core := (s.coreOf n q.part).getD q.core } else q) } }
  | none => s

/-- The packing of decode and recorder parts, recomputed (R178, R268). -/
def State.livePacking (s : State) (objs : Tab Obj) : State :=
  let v := s.viewing objs
  let place := fun (l : List PackCore) => l.zipIdx.flatMap (fun c => c.1.parts.map (fun p => (p.1, p.2, c.2)))
  let s := match v.decodePack with
    | some l => (keys s.ctxs).foldl State.reseat { s with packing := place l }
    | none => s
  match v.recPack with
  | some l => (place l).map (fun p => p.1) |>.eraseDups |>.foldl (fun s r =>
      s.setRecording r { s.recording r with cores := ((place l).filter (fun p => p.1 == r)).map (fun p => (p.2.1, p.2.2)) }) s
  | none => s

/-! ## Console and pair -/

/-- A touch port as its object says: enabling it runs R351 anew and counts its records from 0 (R350, R351, R359). -/
def State.liveTouch (s : State) (objs : Tab Obj) (p : Nat) : State :=
  let c := (s.viewing objs).aTouch p
  let x : Touch := Tab.get {} s.console.ports p
  if x.cfg = c then s
  else
    let h := s.head c.head
    let st : TouchState := if !c.en then .off else if h.state = .run then .synced else .free
    let y : Touch := if c.en && !x.cfg.en || !c.en then { reports := x.reports, written := x.written } else x
    { s with
      console := { s.console with
      ports := Tab.set {} s.console.ports p { y with cfg := c, state := st, freePeriod := h.cfg.periodNs, frameAt := none } } }

/-- A key as its object says. -/
def State.liveKey (s : State) (objs : Tab Obj) (k : Nat) : State :=
  let c : KeyCfg := (((s.viewing objs).aKeys.find? (fun p => p.1 == k)).map Prod.snd).getD {}
  let x : Key := Tab.get {} s.console.keys k
  if x.cfg = c then s
  else
    let y : Key := if c.en && x.cfg.en && x.cfg.port == c.port && x.cfg.line == c.line then { x with cfg := c } else { cfg := c }
    { s with console := { s.console with keys := Tab.set {} s.console.keys k y } }

/-- Keys, rules and the console's own settings. -/
def State.liveConsole (s : State) (objs : Tab Obj) : State :=
  let s := [0, 1].foldl (fun s p => s.liveTouch objs p) s
  let s := (List.range 128).foldl (fun s k => s.liveKey objs k) s
  let o : Obj := Tab.get {} objs 0x7300
  let g := fun (f : Nat) => if o.on then settingOf .console o.set f else settingOf .console [] f
  let rule := fun (r : Nat) => let x : Obj := Tab.get {} objs (0x7200 + r); if x.on then ruleOf x.set else {}
  { s with
    console := { s.console with
    portEn := BitVec.ofNat 4 (g 1), keyMaxHold := g 2,
    rules := (List.range 64).foldl (fun (t : Tab HapRule) r => Tab.set {} t r (rule r)) [] } }

/-- The pair's settings; deconfiguring it leads to ALONE, configuring it on an active device to UNPAIRED (R293). -/
def State.livePair (s : State) (objs : Tab Obj) : State :=
  let v := s.viewing objs
  let p := s.pair
  let en := v.aPairOn
  let g := fun (f : Nat) => if en then v.aPair f else settingOf .pair [] f
  let s := { s with
    pair := { p with
    en := en, cmpDelay := g 2, cmdLead := g 3, refHead := g 4, skewMax := g 5, joinMax := g 6 } }
  if p.en && !en then s.pairLeave
  else if !p.en && en && s.pair.actOut && s.pair.state == .alone then s.pairTo .unpaired
  else s

/-! ## The whole -/

/-- The units take a table of objects accepted at `a`. -/
def State.goLive (s : State) (a : Nat) (touched cancelled : List Nat) (objs : Tab Obj) : State :=
  let old := s.adm.live
  let s := s.liveIngest touched cancelled objs
  let s := s.liveBonds objs
  let s := (List.range 16).foldl (fun s h => s.liveHead a objs h) s
  let s := (List.range 32).foldl (fun s n => s.liveSheet objs n) s
  let s := (List.range 16).foldl (fun s r => s.liveRec old objs r) s
  let s := (((s.livePacking objs).liveConsole objs).livePair objs).notePeak
  { s with adm := { s.adm with live := objs } }

/-- Objects accepted whose time has come take effect, oldest first (R302); `fuel` bounds the list. -/
def State.takeEffect (s : State) : Nat → State
  | 0 => s
  | fuel + 1 =>
    match s.adm.waiting with
    | (a, touched, cancelled, objs) :: t =>
      if a ≤ s.now then (({ s with adm := { s.adm with waiting := t } }).goLive a touched cancelled objs).takeEffect fuel else s
    | [] => s

/-- Apply everything that is due. -/
def State.applyWaiting (s : State) : State := s.takeEffect s.adm.waiting.length

/-! ## Settings of the time unit (R62, R66) -/

/-- Write PTP.DOM[d].CFG: the first domain enabled starts the lock wait of R66; a domain disabled or renumbered starts afresh. -/
def State.domWrite (s : State) (d : Fin 2) (v : Nat) : State :=
  let r := Reg.ptpDomCfg d.val
  let old := s.reg r
  let v := v &&& 0x0F00FF0D
  let s := s.setReg r v
  let s := if bit v 0 ∧ s.time.firstEnabled.isNone then s.setTime { s.time with firstEnabled := some s.time.lct } else s
  let s := if bit old 0 ∧ ¬ bit v 0 then s.loseDomain d else s
  if bit old 0 == bit v 0 ∧ bits old 15 8 = bits v 15 8 then s else s.setTime (TimeUnit.setDom s.time d {})

end Sys2Proof.Machine
end

