-- ==== Sys2Proof/Machine/Boot.lean ====
section
/-! DEFINITION. The end of a boot: the board record taken, CONFIGURE entered (R80, R150, R378, R413, R425, R428). -/

namespace Sys2Proof.Machine

/-! ## Boot complete (R80, R413, R425, R428) -/

/-- Copy a board record that passes its check into the registers that the manual attributes to it (R428). A pair link
that it names is enabled (R150). -/
def State.takeBoard (s : State) (b : Board) : State :=
  let s := { s with board := b }
  let s := (List.range 32).foldl (fun s l => s.setLane l { s.lane l with eq := (b.laneEq[l]?).getD 0 }) s
  let s := (List.range 4).foldl (fun s p =>
    let v := (b.ptp[p]?).getD (0, 0, 0)
    ((s.setReg (Reg.ptpAsym p) (wrap 32 v.1)).setReg (Reg.ptpRxLat p) v.2.1).setReg (Reg.ptpTxLat p) v.2.2) s
  let s := { s with
    aon := { s.aon with
    rails := (List.range 12).foldl (fun (t : Tab (BitVec 32)) n => Tab.set 0x000A0A1B t n ((b.rails[n]?).getD 0x000A0A1B)) [] } }
  let node := fun (s : State) (n v : Nat) =>
    let c : CanNode := Tab.get {} s.dict.can n
    match Tab.get none s.store.lss n with
    | some x => { s with
        dict := { s.dict with can := Tab.set {} s.dict.can n { c with nodeId := x.1, nominal := x.2.1, data := x.2.2 } } }
    | none => { s with dict := { s.dict with can := Tab.set {} s.dict.can n { c with nodeId := BitVec.ofNat 8 v } } }
  let s := node (node s 0 b.can0Node) 1 b.can1Node
  s.liveBonds s.adm.objs

/-- The nodes' LSS settings where no board record gives a node-ID (R378). -/
def State.lssOnly (s : State) : State :=
  [0, 1].foldl (fun s n =>
    match Tab.get none s.store.lss n with
    | some x => { s with
        dict := { s.dict with
        can := Tab.set {} s.dict.can n { (Tab.get {} s.dict.can n : CanNode) with nodeId := x.1, nominal := x.2.1, data := x.2.2 } } }
    | none => s) s

/-- BOOT_COMPLETE (R80, R378, R413, R425, R428): DRAM is trained (size in GiB, rate in MT/s), the firmware enters CONFIGURE and checks
the board record, whose bytes the flash holds as `record` gives them (those not listed 0); `ticks` is what the real-time counter has
counted while the local count stood still. -/
def execBootComplete (t memSize memRate ticks : Nat) (record : Tab (BitVec 8)) (s : State) : Host.Outcome State Fault Refusal :=
  let s := s.at t
  if s.mode.phase ≠ .starting then .next s
  else
    let x := s.runSlot
    let cause := s.aon.resetCause
    let s := s.setRtc (s.rtcNow + ticks)
    let s := { s with
      glb := { s.glb with fwVersion := x.fwVersion, modelVersion := x.modelVersion },
      adm := { s.adm with memSize := memSize, memRate := memRate },
      mode := { s.mode with phase := .up, mode := .configure, since := s.now, lastKick := s.now, warned := false } }
    let s := s.emit .modeState 0 [(s.mode.prev.code : Int), 2, (cause.code : Int)]
    let s := if s.aon.rtcSet then s.stepTime ((s.rtcNow * 1000000000 / 32768 : Nat) - (s.now : Int)) else s
    let s := match s.mode.failReport with
      | some .rail => s.emit .pwrRailFail 0 [(s.mode.failRail.toNat : Int)]
      | some .thermal => s.emit .pwrThermalTrip 0 []
      | _ => if cause = ResetCause.wake then s.emit .pwrWake 0 [(s.mode.wakeSrc.toNat : Int)] else s
    let s := s.setMode { s.mode with failReport := none, retries := 0 }
    let s := if cause = .lockstep then
        { s with prot := { s.prot with health := { s.prot.health with lockstepAt := some s.now } } } else s
    let s := { s with prot := { s.prot with health := { s.prot.health with bootAt := s.now } } }
    let s := { s with prot := { s.prot with boardArea := record } }
    if s.recordPasses record then .next ((s.setMode { s.mode with boardOk := true }).takeBoard (boardOf record))
    else
      let s := { s with prot := { s.prot with health := { s.prot.health with boardInvalid := true } } }
      .next (s.lssOnly.emit .modeBoardInvalid 0 [])

end Sys2Proof.Machine
end

