-- ==== Sys2Proof/Machine/Update.lean ====
section
/-! DEFINITION. Firmware update (R397, R401 to R405, R409, R411). Sources are numbered as UPD.STATE.OWNER numbers them: 1 the mediator,
2 and 3 CAN0 and CAN1, 4 to 11 the UDP allowlist entries, 12 the ROM's Ethernet port. -/

namespace Sys2Proof.Machine

/-! ## The header (R402) -/

/-- The status of the first check of R402 that a header fails, of a source whose buffer holds `len` bytes; 0 if it passes. A promotion
token is signed with a production key (R397). -/
def State.headerStatus (s : State) (k : Nat) (len : Option Nat) (l : List (BitVec 8)) : Nat :=
  let h := headerOf l
  if ¬ ImageHeader.formed h ∨ h.imageLen < l.length ∨ len.any (fun n => decide (n < h.imageLen)) then 3
  else if ¬ s.headerFits h (decide (s.mode.mode = .configure)) then 4
  else if ¬ s.headerKeyOk h then 5
  else if ¬ headerSigned l then 6
  else if h.rollback < s.prot.fuse then 7
  else if s.mode.mode ≠ .recovery ∧ (s.slot s.prot.runB).state = .trial then 8
  else if s.prot.claim.any (fun c => c.owner != k) then 9
  else 0

/-! ## Sources and the claim (R403, R404) -/

/-- Updates are served in every mode except STANDBY (R405). -/
def State.updServed (s : State) : Bool := s.mode.phase == .up && s.mode.mode != .standby

def State.updSource (s : State) (k : Nat) : UpdSource := Tab.get {} s.prot.sources k
def State.setUpdSource (s : State) (k : Nat) (x : UpdSource) : State :=
  { s with prot := { s.prot with sources := Tab.set {} s.prot.sources k x } }

/-- The source holds the claim. -/
def State.claimBy (s : State) (k : Nat) : Bool :=
  s.prot.claim.any (fun c => c.owner == k)

/-- The source's claim ends; the target slot stays EMPTY. -/
def State.endClaim (s : State) (k : Nat) : State := if s.claimBy k then { s with prot := { s.prot with claim := none } } else s

/-- A refusal: its status, counted, with its event (R404). -/
def State.updRefuse (s : State) (k status : Nat) : State :=
  let s := s.setUpdSource k { s.updSource k with status := status, head := [] }
  (s.count Reg.updRefused 1).emit .updRefused 0 [k, status]

/-- The slot an image is written into (R403, R409): slot B or A. -/
def State.updTarget (s : State) : Bool :=
  if s.mode.mode = .recovery then
    let a := s.prot.slotA
    let b := s.prot.slotB
    let seq := fun (x : Slot) => if x.state = .empty then 0 else x.seq.toNat
    if a.state = .good ∧ b.state ≠ .good then true
    else if b.state = .good ∧ a.state ≠ .good then false
    else decide (seq b < seq a)
  else !s.prot.runB

/-- Program bytes of flash. -/
def State.flashWrite (s : State) (a : Nat) (l : List (BitVec 8)) : State :=
  { s with prot := { s.prot with flash := (l.zipIdx).foldl (fun (t : Tab (BitVec 8)) p => Tab.set 0xFF t (a + p.2) p.1) s.prot.flash } }

/-- A source starts a transfer from offset 0: what it sent before is dropped, and a claim it held ends. -/
def State.updStart (s : State) (k : Nat) (len : Option Nat) : State := (s.endClaim k).setUpdSource k { status := 1, len := len }

/-- A chunk of an image arrives: what it answers is an abort code, 0 if it was taken. The owner's bytes are programmed, those of a source
without the claim wait for their header (R380, R403, R404). -/
def State.updChunk (s : State) (k off : Nat) (data : List (BitVec 8)) : State × Nat :=
  let barred : Bool := (s.updSource k).status == 9 && s.prot.claim.any (fun c => c.owner != k)
  let s := if off = 0 && !barred then s.updStart k (if k = 1 then (s.updSource k).len else none) else s
  let x := s.updSource k
  let excess := s.prot.claim.any (fun c => c.owner == k && decide (c.header.imageLen < off + data.length))
  if barred then (s.updRefuse k 9, 0x08000022)
  else if x.status ≠ 1 ∨ off ≠ x.received ∨ excess then (s, 0x06070010)
  else
    let x := { x with received := x.received + data.length }
    match s.prot.claim with
    | some c =>
      if c.owner = k then
        let s := s.setUpdSource k x
        (({ s with prot := { s.prot with claim := some { c with lastData := s.now } } }).flashWrite (slotBase (c.target == 1) + off) data, 0)
      else (s.setUpdSource k { x with head := x.head ++ data }, 0)
    | none => (s.setUpdSource k { x with head := x.head ++ data }, 0)

/-- The abort code of a status (R405). -/
def statusAbort (v : Nat) : Nat := if v = 0 then 0 else if v = 8 ∨ v = 9 then 0x08000022 else 0x06090030

/-- Check a header whose last byte has arrived: it is refused, claims the update, or promotes the part (R397, R402, R403). Answers the
status. -/
def State.updHeader (s : State) (k : Nat) : State × Nat :=
  let x := s.updSource k
  if x.status ≠ 1 ∨ s.claimBy k ∨ x.head.length < 4096 then (s, 0)
  else
    let v := s.headerStatus k x.len x.head
    let h := headerOf x.head
    if v ≠ 0 then (s.updRefuse k v, v)
    else if ImageHeader.promote h then
      (({ s with prot := { s.prot with development := false } }).deviceReset .software, 0)
    else
      let b := s.updTarget
      let s := s.setSlot b {}
      let s := { s with prot := { s.prot with claim := some { owner := k, target := b2n b, header := h, lastData := s.now } } }
      let s := (s.flashWrite (slotBase b) x.head).setUpdSource k { x with head := [] }
      (s.emit .updClaimed 0 [k], 0)

/-- The last byte of the claim owner's image has been programmed. -/
def State.updAll (s : State) (k : Nat) : Bool :=
  s.prot.claim.any (fun c => c.owner == k && (s.updSource k).received == c.header.imageLen)

/-- SEQ of the next completed image: one above the highest of either slot (R403). -/
def State.nextSlotSeq (s : State) : BitVec 16 := BitVec.ofNat 16 (max s.prot.slotA.seq.toNat s.prot.slotB.seq.toNat) + 1

/-- Verify a whole image, `readBack` telling whether the slot read back as it was written (R403). Answers the status. -/
def State.updPayload (s : State) (k : Nat) (readBack : Bool) : State × Nat :=
  match s.prot.claim with
  | some c =>
    if !s.updAll k then (s, 0)
    else
      let b := c.target == 1
      let img := s.flashRead (slotBase b) c.header.imageLen
      let v := if sha256 (img.drop 4096) ≠ c.header.payloadHash then 10 else if readBack then 2 else 11
      let s := { s with prot := { s.prot with claim := none } }
      if v = 2 then
        let h := c.header
        let s := s.setSlot b { state := .pending, seq := s.nextSlotSeq, rollback := h.rollback, fwVersion := h.fwVersion,
                               modelVersion := h.modelVersion, layout := h.layout, hash := shaRegs img }
        let s := s.setUpdSource k { s.updSource k with status := 2 }
        let s := { s with prot := { s.prot with recoveryDone := s.prot.recoveryDone || s.mode.mode == Mode.recovery } }
        (s.emit .updComplete 0 [], 0)
      else (s.updRefuse k v, v)
  | none => (s, 0)

/-- A source ends its own transfer (R404): status ABORTED. -/
def State.updAbort (s : State) (k : Nat) : State :=
  if (s.updSource k).status = 1 then (s.endClaim k).setUpdSource k { s.updSource k with status := 13, head := [], owed := none } else s

/-! ## Commands -/

/-- UPD_BEGIN (R405, R411): the mediator's buffer is read, header first. -/
def execUpdBegin (t : Nat) (s : State) : Host.Outcome State Fault Refusal :=
  let s := s.at t
  if s.updServed then .next (s.updStart 1 (some (s.reg Reg.updLen))) else .next s

/-- UPD_ABORT (R404). -/
def execUpdAbort (t : Nat) (k : Fin 13) (s : State) : Host.Outcome State Fault Refusal :=
  let s := s.at t
  if s.updServed then .next (s.updAbort k.val) else .next s

/-- IMAGE_CHUNK_RX (R403 to R405): the next bytes of a source's transfer, at its next offset. -/
def execImageChunkRx (t : Nat) (k : Fin 13) (data : List (BitVec 8)) (s : State) : Host.Outcome State Fault Refusal :=
  let s := s.at t
  if s.updServed ∧ (s.updSource k.val).status = 1 ∧ (s.updSource k.val).received ≠ 0 then
    .next (s.updChunk k.val (s.updSource k.val).received data).1
  else if s.updServed ∧ (s.updSource k.val).status = 1 then .next (s.updChunk k.val 0 data).1
  else .next s

/-- IMAGE_HEADER_COMPLETE (R402). -/
def execImageHeaderComplete (t : Nat) (k : Fin 13) (s : State) : Host.Outcome State Fault Refusal :=
  let s := s.at t
  if s.updServed then .next (s.updHeader k.val).1 else .next s

/-- Answer the dictionary write that brought the last byte (R380, R405). -/
def State.updAnswer (s : State) (k status : Nat) : State :=
  match (s.updSource k).owed with
  | none => s
  | some tid =>
    let s := s.setUpdSource k { s.updSource k with owed := none }
    let a := statusAbort status
    if k = 1 then { s with dict := { s.dict with mbxBusy := false, mbxDone := true, mbxReason := 0, mbxAbort := a } }
    else if k ≤ 3 then s.send (.usdo (k - 2) 0x2030 2 a [])
    else
      let d := s.dict
      ({ s with
        dict := { d with
        cache := d.cache ++ [(⟨k - 4, tid, s.now, a, 0, []⟩ : UdpAnswer)] } }).send (.udp (k - 4) a 0 [])

/-- IMAGE_PAYLOAD_COMPLETE (R403, R409): `readBack` tells whether the slot read back as written, `recoveryN` the level of RECOVERY_N. -/
def execImagePayloadComplete (t : Nat) (k : Fin 13) (readBack recoveryN : Bool) (s : State) : Host.Outcome State Fault Refusal :=
  let s := s.at t
  if s.updServed ∧ s.updAll k.val then
    let r := s.updPayload k.val readBack
    let s := r.1.updAnswer k.val r.2
    if s.mode.mode = .recovery ∧ s.prot.recoveryDone ∧ recoveryN then .next (s.deviceReset .recovery) else .next s
  else .next s

/-- UPDATE_IDLE_TIMEOUT (R404): the claim's owner has sent nothing for UPD.IDLE_S. -/
def execUpdateIdleTimeout (t : Nat) (s : State) : Host.Outcome State Fault Refusal :=
  let s := s.at t
  match s.prot.claim with
  | some c =>
    if c.lastData + s.reg Reg.updIdleS * 1000000000 ≤ s.now then
      let k := c.owner
      .next ((s.endClaim k).setUpdSource k { s.updSource k with status := 12, head := [], owed := none })
    else .next s
  | none => .next s

/-- RECOVERY_N_HIGH (R409). -/
def execRecoveryNHigh (t : Nat) (s : State) : Host.Outcome State Fault Refusal :=
  let s := s.at t
  if s.mode.phase = .up ∧ s.mode.mode = .recovery ∧ s.prot.recoveryDone then .next (s.deviceReset .recovery) else .next s

end Sys2Proof.Machine
end

