-- ==== Sys2Proof/Machine/Admit.lean ====
section
/-! DEFINITION. Admission (R37 to R39, R43, R44, R203, R204, R206, R302, R303, R374, R414 to R418): the queue, the judgement of a
request, what an accepted one does, and the answer to whoever placed it. -/

namespace Sys2Proof.Machine

/-! ## Judgement (R37 to R39, R143) -/

/-- The generation in force once the accepted changes have switched, restored windows that wait for THAW left out (R341). -/
def State.genOf (s : State) : Tab (BitVec 512) :=
  s.heldWins.foldl (fun (t : Tab (BitVec 512)) p => Tab.set 0 t p.1 0) s.adm.wins

/-- The committed salvos in the order of their times. -/
def State.committed (s : State) : List Nat :=
  let l := s.salvos.filterMap (fun p => p.2.commitAt.map (fun c => (c, p.1)))
  (l.foldr (fun x (a : List (Nat × Nat)) =>
    a.takeWhile (fun y => decide (y.1 < x.1)) ++ [x] ++ a.dropWhile (fun y => decide (y.1 < x.1))) []).map Prod.snd

/-- Every check of a configuration `v` that a request makes of `s`, its pools fitted (R45, R337, R431). -/
def State.fitChecks (s v : State) : State × List Reason :=
  let f := v.fitPools
  (f.s, chk f.short cMem 0x00 ++ chk f.quota cQuota 0x03 ++ s.configChecks f.s ++ s.powerChecks f.s)

/-- The configurations that the committed salvos lead to, one after another: the last of them, and the checks of all (R38, R144). -/
def salvoChecks (old : State) : State → List Nat → State × List Reason
  | s, [] => (s, [])
  | s, k :: t =>
    let v := old.fitChecks (s.switched k)
    let r := salvoChecks old v.1 t
    (r.1, v.2 ++ r.2)

/-- The prepared salvos that no commit has been accepted for. -/
def State.uncommitted (s : State) : List Nat :=
  (s.salvos.filter (fun p => p.2.prepared && p.2.commitAt.isNone)).map Prod.fst

/-- The rights of an instance on whose behalf the mediator writes (R373). -/
def State.oboChecks (s : State) (n : Nat) (c : Change) : List Reason :=
  let g := (s.inst n).grants
  let idx := fun (i : Nat) => match objKind i with
    | some (.chan c) => chk (!g.chGrant.getLsbD c) cQuota 0x04
    | some (.recording r) => chk (!g.recGrant.getLsbD r) cQuota 0x05
    | _ => []
  match c with
  | .apply i _ => idx i
  | .stop i => idx i
  | _ => []

/-- Lay a request accepted at `a`, fit the pools, and find every check it fails: in the configuration it makes, in those that committed
salvos lead to, and, as if it had committed after them, in that of each prepared salvo (R38, R143, R144, R200). -/
def State.lay (s : State) (a : Nat) (r : Request) : Laid :=
  let base := if r.blob.isSome || r.stored then s.defaults else s
  let l := r.changes.foldl (Laid.change a) { s := base }
  let own := (match r.blob.bind (fun f => f.detail) with
    | some d => [(cBlob, d)]
    | none => []) ++ (match r.obo with
    | some n => r.changes.flatMap (s.oboChecks n)
    | none => []) ++ l.why
  if r.changes.all Change.bare && r.blob.isNone && !r.stored then { l with why := own }
  else
    let v := s.fitChecks l.s
    let c := salvoChecks s v.1 v.1.committed
    { l with
      s := v.1,
      why := own ++ v.2 ++ c.2 ++ c.1.uncommitted.flatMap (fun k => (s.fitChecks (c.1.switched k)).2) }

/-- A generation commit: of the mediator's shadow or of a batch (R202, R203). -/
def Request.gen (r : Request) : Bool := r.changes.any (fun c => match c with
  | .winCommit => true
  | .winBatch _ _ => true
  | _ => false)

/-- A request that commits a window generation: by itself, or because windows change with it (R203, R336, R341). -/
def commitsGen (s new : State) (r : Request) : Bool := new.genOf != s.genOf || Request.gen r

/-- The acceptance time of a request accepted now (R302). -/
def State.acceptTime (s : State) : Nat := if s.pairSends then s.now + s.pair.cmdLead * 1000 else s.now

/-! ## Modes (R66, R294, R413 to R418) -/

/-- A GO under the latch: SAFE-HOLD with cause LATCHED, PREV the mode the GO would have entered (R418). -/
def State.latchedHold (s : State) (p : Mode) : State :=
  let s := s.modeTo .safeHold ShCause.latched.code
  let s := s.setMode { s.mode with prev := p, shCause := .latched }
  let s := { s with pair := { s.pair with shadow := p == Mode.shadow } }
  (s.presentSafeHold true s.now).startRecs

/-- A GO leads to SHADOW, where the device issues JOIN, or to RUN; under the latch to SAFE-HOLD (R294, R413, R418). -/
def State.enterGo (s : State) (toShadow : Bool) : State :=
  if s.aon.shLatch then s.latchedHold (if toShadow then .shadow else .run)
  else if toShadow then (s.enterShadow 0).joinAsShadow
  else s.enterRun 0

/-- The mode change of an accepted GO or GO_PROVING (R294, R413): side B of a pair waits with PAIR_ACT_IN low, under
the latch too. -/
def State.goChange (s : State) (w : GoWait) : State :=
  let s := s.setMode { s.mode with goWait := none }
  if w.proving then
    (s.modeTo .proving 0).startRecs.provePair
  else
    let toShadow : Bool := s.pair.en && s.pair.actIn
    if s.pair.en ∧ s.board.sideB ∧ ¬ toShadow then s.setMode { s.mode with sideBWait := some s.now }
    else s.enterGo toShadow

/-- TIME.LOCK_WAIT, ns. -/
def State.lockWait (s : State) : Nat := s.reg Reg.timeLockWait * 1000000000

/-- An accepted GO changes the mode once the servo is LOCKED or its wait has ended (R66). -/
def State.tryGo (s : State) : State :=
  match s.mode.goWait with
  | some w => if w.expired ∨ s.time.servo = .locked then s.goChange w else s
  | none => s

/-- Accept GO or GO_PROVING: it waits under R66. -/
def State.acceptGo (s : State) (proving : Bool) : State :=
  let excess : Bool := s.lockWait == 0 || match s.time.firstEnabled with
    | none => true
    | some t => decide (t + s.lockWait ≤ s.time.lct)
  (s.setMode { s.mode with goWait := some { proving := proving, acceptedAt := s.now, expired := excess } }).tryGo

/-- What an accepted mode command does (R415 to R418, R423, R426). -/
def State.actMode (s : State) (a : Nat) : ModeCmd → State
  | .go => s.acceptGo false
  | .goProving => s.acceptGo true
  | .safeHold => s.enterSafeHold .operator a
  | .leaveSafeHold =>
    let s := s.leaveSafeHold a
    if s.mode.mode = .shadow ∧ s.pair.en ∧ s.pair.state = .alone then s.joinAsShadow else s
  | .sleep => s.sleep
  | .reset => s.deviceReset .software

/-- What an accepted operation on the pair does (R293, R314, R315). -/
def State.actPair (s : State) (a op : Nat) : State :=
  if op = 1 then s.pairJoin
  else if op = 2 then s.pairLeave
  else if op = 3 then
    ({ s with pair := { s.pair with switching := true } }).sendPair (.control (.switchover a))
  else s

/-! ## The store (R386, R387) -/

/-- The newer valid copy of the settings store (R386): its sequence number, layout and contents. -/
def State.newerCopy (s : State) : Option StoreArea :=
  match s.store.a, s.store.b with
  | .copy m _ _ _ _ _, .copy n _ _ _ _ _ => if m < n then some s.store.b else some s.store.a
  | .copy _ _ _ _ _ _, _ => some s.store.a
  | _, .copy _ _ _ _ _ _ => some s.store.b
  | _, _ => none

/-- Settings layout of the running image. -/
def State.runLayout (s : State) : Nat := s.runSlot.layout

/-- Every setting that is stored: started objects with their values, the windows outside instances' ranges, entries without ACTION. -/
def State.settingsCopy (s : State) : StoreArea :=
  let seq := match s.newerCopy with
    | some (.copy n _ _ _ _ _) => n + 1
    | _ => 1
  let objs := s.adm.objs.filter (fun p => p.2.on && !(decide (0x4200 ≤ p.1) && decide (p.1 < 0x4208)))
  .copy seq s.runLayout objs (s.adm.wins.filter (fun p => (s.windowOwner p.1).isNone)) s.adm.plain s.dict.allow

/-- The area the next store goes to: the one that does not hold the newer valid copy; the second where the first holds it. -/
def State.storeTarget (s : State) : Bool :=
  match s.store.a, s.store.b with
  | .copy m _ _ _ _ _, .copy n _ _ _ _ _ => decide (n ≤ m)
  | .copy _ _ _ _ _ _, _ => true
  | _, _ => false

/-- Replace an area. -/
def State.setArea (s : State) (b : Bool) (x : StoreArea) : State :=
  if b then { s with store := { s.store with b := x } } else { s with store := { s.store with a := x } }

/-- Start a store: the area being written is no valid copy until the store is complete. -/
def State.beginStore (s : State) : State :=
  let b := s.storeTarget
  ({ s with dict := { s.dict with storing := some (b, s.settingsCopy) } }).setArea b .corrupt

/-! ## What an accepted change does beside the objects -/

/-- An operation on an instance, accepted at `a` (R319, R320, R336 to R341). -/
def State.actInst (s : State) (a n : Nat) (op : InstOp) : State :=
  let i := s.inst n
  let later := fun (c : PendingChange) (g : Grants) => s.setInst n { i with changes := i.changes ++ [(c, s.changeEpoch a g)] }
  match op with
  | .create g => later (.create g) g
  | .change g => later (.change g) g
  | .reset squash clear => s.beginReset n squash clear false
  | .freeze => later .freeze i.grants
  | .save need _ _ => s.setInst n { i with saving := some need }
  | .restore p m b =>
    (s.setInst n { i with grants := { b.grants with pasid := p, msgs := m }, restoring := some b, credit := 0, creditAt := s.time.lct }).instTo n .restoring
  | .thaw => later .thaw i.grants
  | .destroy => s.beginReset n true true true
  | .other => s

/-- PTP.DOM[d].CFG with one field written through 0x3001 or 0x3002 (R383). -/
def domField (r sub v : Nat) : Nat :=
  if sub = 1 then r - b2n (bit r 0) + b2n (bit v 0)
  else if sub = 2 then r - bits r 3 2 * 4 + v % 4 * 4
  else if sub = 3 then r - bits r 15 8 * 2 ^ 8 + v % 2 ^ 8 * 2 ^ 8
  else if sub = 4 then r - bits r 27 24 * 2 ^ 24 + v % 2 ^ 4 * 2 ^ 24
  else r

/-- A blob's PTP.DOM[d].CFG: the fields it names, the others at their default. -/
def blobDomain (cs : List Change) (d : Fin 2) : Nat :=
  cs.foldl (fun (r : Nat) c => match c with
    | .plain i sub v => if i = 0x3001 + d.val then domField r sub v else r
    | _ => r) 0

/-- The entries without ACTION that a blob does not name return to their defaults (R44): those that act on the device at once. -/
def State.plainDefaults (s : State) (cs : List Change) : State :=
  let s := { s with udpPort := 4770, udpPorts := 0, dict := { s.dict with allow := [] } }
  (s.domWrite 0 (blobDomain cs 0)).domWrite 1 (blobDomain cs 1)

/-- The settings of the device that an entry without ACTION names (R62, R380, R383), a store and a restore of defaults among them (R386,
R387). -/
def State.actPlain (s : State) (idx sub v : Nat) : State :=
  if idx = 0x2020 then
    if sub = 1 then { s with udpPort := BitVec.ofNat 16 v }
    else if sub = 0x0B then { s with udpPorts := BitVec.ofNat 4 v }
    else if 2 ≤ sub ∧ sub ≤ 9 then
      { s with dict := { s.dict with allow := Tab.set 0 s.dict.allow (sub - 2) (BitVec.ofNat 128 v) } }
    else s
  else if idx = 0x3001 ∨ idx = 0x3002 then
    let d : Fin 2 := if idx = 0x3001 then 0 else 1
    if 1 ≤ sub ∧ sub ≤ 4 then s.domWrite d (domField (s.reg (Reg.ptpDomCfg d.val)) sub v) else s
  else if idx = 0x1010 then (if s.dict.storing.isSome then s else s.beginStore)
  else if idx = 0x1011 then { s with store := { s.store with restore := true } }
  else s

/-- What one accepted change of a request received at `rx` does at once; the objects take effect at `a`. -/
def State.act (a rx : Nat) (s : State) (c : Change) : State :=
  match c with
  | .inst n op => s.actInst a n op
  | .revoke n v k =>
    let i := s.inst n
    s.setInst n { i with changes := i.changes ++ [(.revoke v k, s.changeEpoch a i.grants)] }
  | .plain i sub v => s.actPlain i sub v
  | .map n _ _ _ => s.wakePages n
  | .surfDestroy _ k => (s.failCommits k).dropSurf k
  | .blazeSet _ k _ _ _ _ _ => s.resetChecker (.surf k)
  | .tallyStart origin period _ =>
    let s := s.setReg Reg.tallyRd 0
    { s with
      prot := { s.prot with
      tally := { running := true, origin := origin, period := period, next := tallyFrom origin period a, lostEvt := s.prot.tally.lostEvt } } }
  | .mode m _ => s.actMode a m
  | .pairOp op => s.actPair a op
  | .safety w => s.safetyApply rx w
  | _ => s

/-- Commit the admitted windows as a generation accepted at `a`: the shadow holds them as a whole (R205). -/
def State.commitGen (s : State) (a : Nat) : State :=
  let w := s.win
  ({ s with win := WinTable.setGen w (!w.active) s.genOf }).acceptGeneration a

/-- A THAW's windows switch at its change epoch (R341). -/
def State.genTime (s : State) (a : Nat) (r : Request) : Nat :=
  r.changes.foldl (fun x c => match c with
    | .inst n .thaw => max x (s.changeEpoch a (s.inst n).grants)
    | _ => x) a

/-- The contexts that a cancel, or a new PREPARE of the same index, takes out of a salvo (R143, R146). -/
def State.cancels (s : State) (r : Request) : List Nat :=
  r.changes.flatMap (fun c => match c with
    | .cancel k => (s.salvo k).bindings.map Prod.fst
    | .prepare k _ _ _ => (s.salvo k).bindings.map Prod.fst
    | _ => [])

/-- GLB after an accepted change of configuration (R43). -/
def State.configured (s : State) (r : Request) : State :=
  match r.blob with
  | some f => { s with
      glb := { s.glb with
      blobApplied := true, dirty := false, signed := f.signed,
      cfgHash := (f.hash.zipIdx).foldl (fun (t : Tab (BitVec 32)) p => Tab.set 0 t p.2 p.1) [] } }
  | none => { s with glb := { s.glb with dirty := true } }

/-- A request takes effect, accepted at `a` (R37, R302). Pages newly allocated hold evidence again (R393). -/
def State.accept (s : State) (a : Nat) (r : Request) (l : Laid) : State :=
  let new := l.s
  let old := s.usedPages
  let fresh := new.usedPages.filter (fun p => !old.contains p)
  let new := { new with prot := { new.prot with scrubbed := new.prot.scrubbed.filter (fun e => !fresh.contains (e.1 / 512)) } }
  let cfg := !(r.changes.all Change.bare && r.blob.isNone && !r.stored)
  let s' := if cfg then
      { new with adm := { new.adm with waiting := new.adm.waiting ++ [(a, l.touched, s.cancels r, new.adm.objs)] } }.configured r
    else new
  let s' := if commitsGen s new r then s'.commitGen (s.genTime a r) else s'
  let s' := if r.blob.isSome then s'.plainDefaults r.changes else s'
  (r.changes.foldl (State.act a r.received) s').applyWaiting

/-! ## Answers (R37, R320, R374, R375) -/

/-- The session of an asker. -/
def Asker.session : Asker → Option Nat
  | .can n _ _ => some n
  | .udp peer _ => some (2 + peer)
  | .mailbox => some 10
  | _ => none

/-- The staged values of the objects a request names are discarded once it has been judged (R374). -/
def Session.judged (x : Session) (c : Change) : Session :=
  let drop := fun (x : Session) (i : Nat) => { x with objs := Tab.set [] x.objs i [] }
  match c with
  | .apply i _ => drop x i
  | .stop i => drop x i
  | .prepare k _ g ds =>
    let x := ds.foldl (fun (x : Session) p => drop x (0x4100 + p.1)) (drop x (0x4200 + k))
    if g.isSome then { x with wins := [] } else x
  | .commit k _ => drop x (0x4200 + k)
  | .cancel k => drop x (0x4200 + k)
  | .winBatch _ _ => { x with wins := [] }
  | _ => x

/-- A result register: reason and DONE. -/
def State.setResult (s : State) (off reason : Nat) : State := s.setReg off (reason + 2 ^ 31)

/-- The abort code of a verdict (R374). -/
def abortOf (reason : Nat) : Nat := if reason = 0 then 0 else 0x08000020

/-- Tell an asker the verdict. -/
def State.tell (s : State) (who : Asker) (reason result : Nat) : State :=
  match who with
  | .mailbox => { s with
      dict := { s.dict with mbxBusy := false, mbxDone := true, mbxReason := reason, mbxAbort := abortOf reason } }
  | .can n idx sub =>
    let d := s.dict
    let c : CanNode := Tab.get {} d.can n
    let s := { s with dict := { d with can := Tab.set {} d.can n { c with lastReason := BitVec.ofNat 16 reason } } }
    s.send (.usdo n idx sub (abortOf reason) [])
  | .udp peer tid =>
    let d := s.dict
    let a : UdpAnswer := { peer := peer, tid := tid, at_ := s.now, status := abortOf reason, reason := reason, data := [] }
    ({ s with dict := { d with cache := d.cache ++ [a] } }).send (.udp peer (abortOf reason) reason [])
  | .winRegs => { s with win := { s.win with result := reason, done := true } }
  | .blobRegs => s.setResult 0x80 reason
  | .eccRegs => s.setResult 0x54 reason
  | .tallyRegs => s.setResult 0x90004 reason
  | .modeRegs => s.setResult 0x10008 reason
  | .instRegs n => s.setInst n { s.inst n with result := reason, done := true }
  | .mmuRegs n => s.setInst n { s.inst n with mmuResult := reason, mmuDone := true }
  | .work n id => s.complete n id (if reason = 0 then 0 else 1) reason result
  | .device => s
  | .partner k => s.sendPair (.command (.verdict k reason))

/-- Answer a request: the verdict, the end of its staged values, the result of a blob written to the dictionary (R44, R374). -/
def State.answer (s : State) (r : Request) (reason result : Nat) : State :=
  let s := match Asker.session r.by_ with
    | some k =>
      let d := s.dict
      let x : Session := r.changes.foldl Session.judged (Tab.get {} d.sessions k)
      let d := { d with sessions := Tab.set {} d.sessions k x }
      { s with dict := if r.blob.isSome then { d with blobResult := reason } else d }
    | none => s
  s.tell r.by_ reason result

/-! ## The settings store (R387, R414) -/

/-- The causes of R387 other than 0 and 5 raise SETTINGS_RESET; the settings have been read. -/
def State.settingsLoaded (s : State) (cause : Nat) : State :=
  let s := { s with dict := { s.dict with loaded := true, loadCause := cause } }
  if cause = 0 ∨ cause = 5 then s else s.emit .updSettingsReset 0 [cause]

/-- AUTORUN (R414): the device issues GO itself. -/
def State.autorun (s : State) : State :=
  if s.board.autorun ∧ (s.dict.loadCause = 0 ∨ s.dict.loadCause = 5) ∧ s.mode.boardOk then
    { s with
      adm := { s.adm with
      queue := s.adm.queue ++ [{ by_ := .device, received := s.now, changes := [.mode .go 0] }] } }
  else s

/-! ## The queue (R38, R204, R414) -/

/-- A mode command. -/
def Request.isMode (r : Request) : Bool := r.changes.any (fun c => match c with
  | .mode _ _ => true
  | _ => false)

/-- A request to the safety partition: it validates in receipt order and waits for no request of admission (R223). -/
def Request.safety (r : Request) : Bool := r.changes.any (fun c => match c with
  | .safety _ => true
  | _ => false)

/-- A request that resets the device when it is accepted (R415). -/
def Request.resets (r : Request) : Bool := r.changes.any (fun c => match c with
  | .mode .reset _ => true
  | _ => false)

/-- Operations that concern one device of a pair alone. -/
def Request.local_ (r : Request) : Bool := r.stored || r.changes.any (fun c => match c with
  | .mode .go _ => true
  | .mode .goProving _ => true
  | .mode .sleep _ => true
  | .mode .reset _ => true
  | .pairOp _ => true
  | _ => false)

/-- An accepted GO still waits, for lock or for PAIR_ACT_IN; later mode commands are held behind it (R294, R414). -/
def State.goPending (s : State) : Bool := s.mode.goWait.isSome || s.mode.sideBWait.isSome

/-- A request may be judged now: before the settings have been read nothing else is accepted (R387), and mode commands are held behind a
GO. -/
def State.mayJudge (s : State) (r : Request) : Bool :=
  r.stored || ((s.dict.loaded || s.mode.mode != .configure) && !(s.goPending && Request.isMode r))

/-- Judge a request at acceptance time `a`: refused whole, or accepted whole. A refused window commit restores the shadow (R206). -/
def State.judge (s : State) (a : Nat) (r : Request) : State × Nat × Nat :=
  let l := s.lay a r
  let reason := reasonCode (firstReason l.why)
  if reason = 0 then
    let t := s.accept a r l
    let batch : Bool := r.changes.any (fun c => match c with
      | .winBatch _ _ => true
      | _ => false)
    (t, 0, if batch then t.win.genSeq.toNat else l.result)
  else
    let s := if Request.safety r then s.safeRefuse (match r.by_ with
      | .work n _ => n
      | _ => -1) else s
    (if Request.gen r ∧ reason ≠ 0x0D41 then s.restoreShadow else s, reason, 0)

/-- Judge the request that stands first, answer it, and tell the shadow of a pair what was accepted (R302). An accepted RESET clears all
logic at once (R426), MODE.RESULT and the place of an answer with it, so it is not answered (DEDUCED, log 226). -/
def State.judgeFirst (s : State) (r : Request) : State :=
  let a := s.acceptTime
  let sends := s.pairSends && !Request.local_ r
  let j := s.judge a r
  let s := j.1
  if Request.resets r ∧ j.2.1 = 0 then s
  else
  let s := { s with adm := { s.adm with pos := s.adm.pos + 1 } }
  let s := if sends ∧ (j.2.1 = 0 ∨ Request.safety r) then s.sendPair (.command (.accepted s.adm.pos a j.2.1 r)) else s
  let s := s.answer r j.2.1 j.2.2
  if r.stored then (s.settingsLoaded (if j.2.1 = 0 then 0 else 3)).autorun else s

/-- A generation commit waits for READY before it is judged, and the requests behind it wait with it (R204); so does a request of
another kind that would be accepted and change windows. -/
def State.blocked (s : State) (r : Request) : Bool :=
  !s.win.ready && (Request.gen r || (let l := s.lay s.acceptTime r
    reasonCode (firstReason l.why) == 0 && commitsGen s l.s r))

/-- Serve the queue in its order; `fuel` bounds the requests served. -/
def State.serveQueue (s : State) : Nat → State
  | 0 => s
  | fuel + 1 =>
    match s.adm.queue.find? s.mayJudge with
    | none => s
    | some r =>
      if s.blocked r then s
      else
        let q := s.adm.queue.erase r
        (({ s with adm := { s.adm with queue := q } }).judgeFirst r).serveQueue fuel

/-- Without the link the requests a shadow has forwarded are refused with MODE 0x81 (R303). -/
def State.refuseForwarded (s : State) : State :=
  if s.pairUp then s
  else s.adm.forwarded.foldl (fun s p => s.answer p.2 0x0D81 0) { s with adm := { s.adm with forwarded := [] } }

/-- Serve every request that can be judged, and apply what is due. -/
def State.runQueue (s : State) : State :=
  if s.up then s.refuseForwarded.applyWaiting.serveQueue (s.adm.queue.length + 4) else s

/-- Put a request into the queue, by its time of receipt. -/
def State.enqueue (s : State) (r : Request) : State :=
  let q := s.adm.queue
  { s with
    adm := { s.adm with
    queue := q.takeWhile (fun x => decide (x.received ≤ r.received)) ++ [r] ++ q.dropWhile (fun x => decide (x.received ≤ r.received)) } }

/-- A shadow does not judge what reaches it through the dictionary or its mailbox (R303): it forwards it, or refuses it with MODE 0x81
while the link is not UP. JOIN and LEAVE stay with the device; without a link so does SAFE-HOLD (R313). -/
def State.forwards (s : State) (r : Request) : Bool :=
  s.pair.en && s.pair.shadow && s.mode.mode != .configure && (Asker.session r.by_).isSome && !Request.local_ r && (s.pairUp || !Request.isMode r)

/-- Place a request. -/
def State.place (s : State) (r : Request) : State :=
  if !s.up then s
  else if s.forwards r then
    if s.pairUp then
      let k := s.pair.nextFwd
      let s := { s with
        pair := { s.pair with nextFwd := k + 1 },
        adm := { s.adm with forwarded := s.adm.forwarded ++ [(k, r)] } }
      s.sendPair (.reqFwd k r)
    else s.answer r 0x0D81 0
  else if Request.safety r then s.judgeFirst r
  else (s.enqueue r).runQueue

/-- Place a request received now. -/
def State.request (s : State) (who : Asker) (cs : List Change) : State :=
  s.place { by_ := who, received := s.now, changes := cs }

end Sys2Proof.Machine
end

