-- ==== Sys2Proof/Machine/DictVal.lean ====
section
/-! DEFINITION. The object dictionary's entries and what they read (R371 to R375, R383, R384, R405, R448). -/

namespace Sys2Proof.Machine

/-- Access of an entry (R22). -/
inductive DictAccess where
  | const | ro | rw | wo
deriving DecidableEq, Repr

/-- An entry: size in bytes (the largest of a DOMAIN or STR), whether it is a DOMAIN, access, whether the field network, the mediator and an
instance may write it, and the first value its type or encoding refuses. -/
structure Entry where
  bytes : Nat
  domain : Bool := false
  access : DictAccess := .ro
  f : Bool := false
  h : Bool := false
  i : Bool := false
  limit : Nat
deriving DecidableEq, Repr

/-- Entries that are read only; that F and H may write; that F and H may only write. -/
def eRo (n : Nat) : Entry := { bytes := n, limit := 2 ^ (8 * n) }
def eConst (n : Nat) : Entry := { bytes := n, access := .const, limit := 2 ^ (8 * n) }
def eRw (n limit : Nat) : Entry := { bytes := n, access := .rw, f := true, h := true, limit := limit }
def eWo (n : Nat) : Entry := { bytes := n, access := .wo, f := true, h := true, limit := 2 ^ (8 * n) }
def eDom (n : Nat) (a : DictAccess) (f h : Bool) : Entry := { bytes := n, domain := true, access := a, f := f, h := h, limit := 2 ^ (8 * n) }
/-- An entry of area 0x6000, which the field network alone writes (R384). -/
def eField (n limit : Nat) : Entry := { bytes := n, access := .rw, f := true, limit := limit }

/-- The subindex that takes an object's ACTION (R374). -/
def actionSub (idx : Nat) : Nat := if idx = 0x5100 then 3 else 0x40

/-- A field that is an address or a clockIdentity (R383). -/
def ObjKind.opaqueField (k : ObjKind) (f : Field) : Bool :=
  f.bytes == 16 || f.bytes == 256 || (match k with
    | .ctx _ => f.sub == 17
    | _ => false)

/-- A subindex of an object with an ACTION. -/
def objEntry (k : ObjKind) (sub : Nat) : Option Entry :=
  let chan : Bool := match k with
    | .chan _ => true
    | _ => false
  if sub = 0 then some (eConst 1)
  else if sub = 0x40 then some { eWo 1 with i := chan }
  else (ObjKind.field k sub).map (fun (f : Field) =>
    { bytes := f.bytes, domain := ObjKind.opaqueField k f, access := .rw, f := true, h := true, i := chan,
      limit := (ObjKind.reserved k sub).getD (f.max + 1) })

/-- The entries without ACTION from 0x1000 to 0x3FFF (R383, R405). -/
def lowEntry (idx sub : Nat) : Option Entry :=
  match idx, sub with
  | 0x1000, 0 => some (eConst 4)
  | 0x1008, 0 => some (eConst 11)
  | 0x100A, 0 => some (eRo 64)
  | 0x1010, 1 | 0x1011, 1 => some (eWo 4)
  | 0x1017, 0 => some (eRw 2 65536)
  | 0x1018, 1 | 0x1018, 2 | 0x1018, 3 | 0x1018, 4 => some (eConst 4)
  | 0x1800, 2 | 0x1801, 2 | 0x1802, 2 => some (eConst 1)
  | 0x1800, 3 | 0x1801, 3 | 0x1802, 3 | 0x1800, 5 | 0x1801, 5 | 0x1802, 5 => some (eRw 2 65536)
  | 0x2000, 1 | 0x2000, 2 | 0x2000, 3 | 0x2000, 4 | 0x2000, 6 => some (eRo 4)
  | 0x2000, 5 => some (eDom 32 .ro false false)
  | 0x2001, 1 => some (eRo 1)
  | 0x2001, 2 => some (eWo 1)
  | 0x2010, 1 | 0x2010, 2 => some (eRo 2)
  | 0x2020, 1 => some (eRw 2 65536)
  | 0x2020, 0x0A => some (eRo 4)
  | 0x2020, 0x0B => some (eRw 1 16)
  | 0x2021, 1 => some (eRw 1 2)
  | 0x2030, 1 => some (eWo 1)
  | 0x2030, 2 => some (eDom 16777216 .wo true true)
  | 0x2030, 3 | 0x2030, 4 | 0x2030, 8 => some (eRo 1)
  | 0x2030, 5 | 0x2030, 6 | 0x2030, 7 | 0x2030, 0x0A => some (eRo 4)
  | 0x2030, 9 => some (eRw 2 65536)
  | 0x2040, 1 => some (eDom 65536 .ro false false)
  | 0x2050, 1 | 0x2050, 2 => some (eRo 2)
  | 0x2050, 3 => some (eRo 1)
  | 0x2050, 4 => some (eRo 4)
  | 0x2060, 1 => some (eDom 16777216 .wo true true)
  | 0x2060, 2 => some (eRo 2)
  | 0x2070, 1 => some (eRw 4 (2 ^ 32))
  | 0x3000, 1 | 0x3000, 2 => some (eRo 1)
  | 0x3000, 3 => some (eRo 8)
  | 0x3001, 1 | 0x3002, 1 => some (eRw 1 2)
  | 0x3001, 2 | 0x3002, 2 => some (eRw 1 2)
  | 0x3001, 3 | 0x3002, 3 => some (eRw 1 256)
  | 0x3001, 4 | 0x3002, 4 => some (eRw 1 16)
  | _, _ =>
    if idx = 0x2020 ∧ 2 ≤ sub ∧ sub ≤ 9 then some (eDom 16 .rw false true)
    else if idx = 0x1A00 ∧ 1 ≤ sub ∧ sub ≤ 8 ∨ idx = 0x1A01 ∧ 1 ≤ sub ∧ sub ≤ 4 ∨ idx = 0x1A02 ∧ 1 ≤ sub ∧ sub ≤ 7 then some (eConst 4)
    else none

/-- The entries without ACTION from 0x5100 upward (R383, R384, R448). -/
def highEntry (idx sub : Nat) : Option Entry :=
  match idx, sub with
  | 0x5100, 1 => some { eRw 2 65536 with i := true }
  | 0x5100, 2 => some { eDom 64 .rw true true with i := true }
  | 0x5100, 3 => some { eWo 1 with i := true }
  | 0x6000, 1 => some (eField 2 65536)
  | 0x6000, 2 => some (eDom 512 .rw true false)
  | 0x6001, 1 => some (eField 2 65536)
  | 0x6001, 2 => some (eField 1 256)
  | 0x6001, 3 => some (eDom 64 .rw true false)
  | 0x6002, 1 | 0x6002, 6 => some (eField 2 65536)
  | 0x6002, 2 | 0x6002, 3 | 0x6002, 4 | 0x6002, 5 | 0x6002, 7 => some (eField 1 256)
  | 0x6002, 8 => some (eField 1 2)
  | 0x6002, 0x10 => some { eField 1 2 with access := .wo }
  | 0x6030, 1 => some (eField 4 (2 ^ 32))
  | 0x6030, 2 => some (eField 1 256)
  | 0x6041, 1 => some (eRo 2)
  | 0x6041, 2 | 0x6041, 3 => some (eRo 1)
  | 0x6041, 4 => some (eRo 4)
  | 0x8000, 1 | 0x8000, 2 => some (eRo 1)
  | 0x8001, 0 => some { eWo 1 with limit := 4 }
  | 0x8010, 1 => some (eRo 4)
  | 0x8010, 2 => some (eDom 128 .ro false false)
  | _, _ =>
    if 0x6010 ≤ idx ∧ idx < 0x6020 ∧ sub = 1 then some (eField 1 256)
    else if 0x6010 ≤ idx ∧ idx < 0x6020 ∧ sub = 2 then some (eDom 128 .rw true false)
    else if idx = 0x6020 ∧ 1 ≤ sub ∧ sub ≤ 16 then some (eField 2 65536)
    else if 0x7000 = idx ∧ 1 ≤ sub ∧ sub ≤ 8 then some (eRo 4)
    else none

/-- The highest subindex of an index; none for an index that does not exist, 0 for one that is a single value. -/
def topSub (idx : Nat) : Option Nat :=
  match objKind idx with
  | some _ => some 0x40
  | none =>
    if idx = 0x9000 ∨ idx = 0x9100 then some 0
    else
      let l := (List.range 65).filter (fun k => (lowEntry idx k).isSome || (highEntry idx k).isSome)
      l.getLast?

/-- The entry of an index and subindex; subindex 0 of an index that is no single value is its highest subindex (R372). -/
def entryOf (idx sub : Nat) : Option Entry :=
  match objKind idx with
  | some k => objEntry k sub
  | none =>
    match lowEntry idx sub, highEntry idx sub with
    | some e, _ => some e
    | none, some e => some e
    | none, none => if sub = 0 ∧ (topSub idx).isSome then some (eConst 1) else none

/-! ## Sessions (R374) -/

/-- The session of a port, and the source number it has in the update (R411). -/
def DictPort.session : DictPort → Nat
  | .can n => n.val
  | .udp k _ => 2 + k.val
  | .mailbox _ => 10
  | .rom _ _ => 12
def DictPort.source : DictPort → Nat
  | .can n => 2 + n.val
  | .udp k _ => 4 + k.val
  | .mailbox _ => 1
  | .rom _ _ => 12

/-- Who places the requests of a port. -/
def DictPort.asker (p : DictPort) (idx sub : Nat) : Asker :=
  match p with
  | .can n => .can n.val idx sub
  | .udp k tid => .udp k.val tid
  | .mailbox _ => .mailbox
  | .rom _ _ => .device

def State.session (s : State) (k : Nat) : Session := Tab.get {} s.dict.sessions k
def State.setSession (s : State) (k : Nat) (x : Session) : State :=
  { s with dict := { s.dict with sessions := Tab.set {} s.dict.sessions k x } }

/-! ## What entries read -/

/-- Characters as bytes. -/
def textBytes (t : List Nat) : List (BitVec 8) := t.map (BitVec.ofNat 8)

/-- A number below 65,536 in decimal. -/
def decimal (n : Nat) : List Nat :=
  let d := [n / 10000 % 10, n / 1000 % 10, n / 100 % 10, n / 10 % 10]
  (d.dropWhile (fun x => x == 0)).map (fun x => x + 48) ++ [n % 10 + 48]

/-- Keys in one of the two reported states, as a bit per key. -/
def State.keyBits (s : State) (held : Bool) (w : Nat) : Nat :=
  (List.range 32).foldl (fun a b =>
    let x : Key := Tab.get {} s.console.keys (32 * w + b)
    let hit : Bool := if held then x.state == .held else x.state == .pressed || x.state == .held
    if hit then a + 2 ^ b else a) 0

/-- 0x6041 (R384): ACTIVE, PLAYING, PRIO, HELD_CELLS. -/
def State.alarmActive (s : State) : Nat := s.console.alarms.foldl (fun a p => a ||| 2 ^ p.1) 0
def State.alarmPlaying (s : State) : Nat := (s.console.tone.map (fun x => x.req)).getD 0xFF
def State.alarmPrio (s : State) : Nat := (s.console.tone.map (fun x => x.prio)).getD 0
def State.heldCellCount (s : State) : Nat := s.safe.heldCells.length

/-- GLB.CFG_HASH (R44). -/
def State.cfgHashBytes (s : State) : List (BitVec 8) := s.cfgHashWords.flatMap (fun w => leBytes 4 w.toNat)

/-- UPD.SLOT[b] (R411). -/
def slotWord (x : Slot) : Nat := x.state.code + x.attempts % 4 * 2 ^ 4 + x.rollback % 2 ^ 7 * 2 ^ 8 + x.seq.toNat * 2 ^ 16

/-- UPD.CONFIRM_LEFT (R408, R411). -/
def State.confirmLeft (s : State) : Nat :=
  if s.prot.slotA.state = .trial ∨ s.prot.slotB.state = .trial then ceilDiv (s.confirmMin * 60000000000 - s.trialTime) 1000000000 else 0

/-- Settings layout of the copy stored last. -/
def State.storedLayout (s : State) : Nat :=
  match s.newerCopy with
  | some (.copy _ l _ _ _ _) => l
  | _ => 0

/-- ROLE (R315): 0 active, 1 shadow. -/
def State.roleCode (s : State) : Nat := b2n s.pair.shadow

/-- The mapping entries of the TPDOs: index, subindex, bits (R379). -/
def mapping (idx sub : Nat) : Nat :=
  let m := fun (i k b : Nat) => i * 2 ^ 16 + k * 2 ^ 8 + b
  match idx, sub with
  | 0x1A01, 1 => m 0x6041 1 16 | 0x1A01, 2 => m 0x6041 2 8 | 0x1A01, 3 => m 0x6041 3 8 | 0x1A01, 4 => m 0x6041 4 32
  | 0x1A02, 1 => m 0x2001 1 8 | 0x1A02, 2 => m 0x8000 1 8 | 0x1A02, 3 => m 0x8000 2 8 | 0x1A02, 4 => m 0x0005 0 8
  | 0x1A02, 5 => m 0x8010 1 32 | 0x1A02, 6 => m 0x2000 6 32 | 0x1A02, 7 => m 0x2050 3 8
  | _, k => m 0x7000 k 32

/-- The value in force of an entry from 0x1000 to 0x3FFF; `src` is the reader's update source. -/
def State.lowValue (s : State) (src idx sub : Nat) : List (BitVec 8) :=
  let g := s.glb
  let cfg := s.reg (Reg.ptpDomCfg (if idx = 0x3001 then 0 else 1))
  match idx, sub with
  | 0x1000, _ => leBytes 4 0
  | 0x1008, _ => textBytes [83, 107, 111, 102, 101, 108, 32, 87, 49, 50, 56]
  | 0x100A, _ =>
    let v := g.fwVersion.toNat
    textBytes (decimal (bits v 31 24) ++ [46] ++ decimal (bits v 23 16) ++ [46] ++ decimal (bits v 15 0))
  | 0x1017, _ => leBytes 2 (s.plain 0x1017 0 1000)
  | 0x1018, 1 => leBytes 4 0xDA05
  | 0x1018, 2 => leBytes 4 0x128
  | 0x1018, 3 => leBytes 4 0xA1
  | 0x1018, _ => leBytes 4 s.board.serial.toNat
  | 0x2000, 1 => leBytes 4 0xDA050128
  | 0x2000, 2 => leBytes 4 0xA1
  | 0x2000, 3 => leBytes 4 g.fwVersion.toNat
  | 0x2000, 4 => leBytes 4 g.modelVersion.toNat
  | 0x2000, 5 => s.cfgHashBytes
  | 0x2000, _ => s.cfgHashBytes.take 4
  | 0x2001, _ => leBytes 1 s.mode.mode.code
  | 0x2010, n => leBytes 2 (Tab.get ({} : CanNode) s.dict.can (n - 1)).lastReason.toNat
  | 0x2020, 1 => leBytes 2 s.udpPort.toNat
  | 0x2020, 0x0A => leBytes 4 s.dict.discarded.toNat
  | 0x2020, 0x0B => leBytes 1 s.udpPorts.toNat
  | 0x2020, n => leBytes 16 (Tab.get 0 s.dict.allow (n - 2)).toNat
  | 0x2021, _ => leBytes 1 (s.plain 0x2021 1 1)
  | 0x2030, 3 => leBytes 1 ((s.prot.claim.map (fun c => c.owner)).getD 0)
  | 0x2030, 4 => leBytes 1 (s.updSource src).status
  | 0x2030, 5 => leBytes 4 (s.updSource src).received
  | 0x2030, 6 => leBytes 4 (slotWord s.prot.slotA)
  | 0x2030, 7 => leBytes 4 (slotWord s.prot.slotB)
  | 0x2030, 8 => leBytes 1 (b2n s.prot.runB)
  | 0x2030, 9 => leBytes 2 s.confirmMin
  | 0x2030, _ => leBytes 4 s.confirmLeft
  | 0x2040, _ => recordBytes s.prot.boardArea 0 65536
  | 0x2050, 1 => leBytes 2 s.runLayout
  | 0x2050, 2 => leBytes 2 s.storedLayout
  | 0x2050, 3 => leBytes 1 s.dict.loadCause
  | 0x2050, _ => leBytes 4 s.store.stores.toNat
  | 0x2060, _ => leBytes 2 s.dict.blobResult
  | 0x2070, _ => leBytes 4 (s.plain 0x2070 1 0)
  | 0x3000, 1 => leBytes 1 s.time.servo.code
  | 0x3000, 2 => leBytes 1 (b2n s.time.traceOk)
  | 0x3000, _ => leBytes 8 s.now
  | 0x3001, 1 | 0x3002, 1 => leBytes 1 (b2n (bit cfg 0))
  | 0x3001, 2 | 0x3002, 2 => leBytes 1 (bits cfg 3 2)
  | 0x3001, 3 | 0x3002, 3 => leBytes 1 (bits cfg 15 8)
  | 0x3001, _ | 0x3002, _ => leBytes 1 (bits cfg 27 24)
  | i, k =>
    if i < 0x1900 then (if k = 2 then leBytes 1 0xFE else leBytes 2 (s.plain i k (if k = 5 then 1000 else 0)))
    else leBytes 4 (mapping i k)

/-- Segments of a pattern as 0x6010 + q:02 holds them. -/
def segmentBytes (p : AlarmPattern) : List (BitVec 8) :=
  p.segments.flatMap (fun g => leBytes 2 g.freq ++ leBytes 2 g.ms ++ leBytes 1 g.level ++ leBytes 1 (b2n g.square) ++ leBytes 2 0)

/-- The value in force of an entry from 0x5100 upward, area 0x6000's staged values apart. -/
def State.highValue (s : State) (idx sub : Nat) : List (BitVec 8) :=
  match idx, sub with
  | 0x6030, 1 => leBytes 4 s.console.alarmSlots.toNat
  | 0x6030, _ => leBytes 1 s.console.duck
  | 0x6041, 1 => leBytes 2 s.alarmActive
  | 0x6041, 2 => leBytes 1 s.alarmPlaying
  | 0x6041, 3 => leBytes 1 s.alarmPrio
  | 0x6041, _ => leBytes 4 s.heldCellCount
  | 0x7000, k => leBytes 4 (s.keyBits (decide (5 ≤ k)) ((k - 1) % 4))
  | 0x8000, 1 => leBytes 1 s.pair.state.code
  | 0x8000, _ => leBytes 1 s.roleCode
  | 0x8010, 1 => leBytes 4 s.prot.health.faults.toNat
  | 0x8010, _ => s.prot.health.report
  | 0x6020, k => leBytes 2 (Tab.get 0 s.dict.requests (k - 1)).toNat
  | i, k =>
    if 0x6010 ≤ i ∧ i < 0x6020 then
      (if k = 1 then leBytes 1 (s.pattern (i - 0x6010)).repeat_ else segmentBytes (s.pattern (i - 0x6010)))
    else []

/-- An object's subindex as a session sees it: its staged value, or the value in force (R374). -/
def State.objValue (s : State) (x : Session) (k : ObjKind) (idx sub : Nat) : List (BitVec 8) :=
  match ObjKind.field k sub with
  | none => leBytes 1 0x40
  | some f =>
    match Tab.get [] (Tab.get [] x.objs idx) sub, Tab.get [] (s.obj idx).set sub with
    | [], [] => leBytes f.bytes f.dflt
    | [], v => v
    | v, _ => v

/-- What an entry reads for a port (R374). -/
def State.dictValue (s : State) (p : DictPort) (idx sub : Nat) : List (BitVec 8) :=
  let x := s.session (DictPort.session p)
  match objKind idx with
  | some k => s.objValue x k idx sub
  | none =>
    if sub = 0 ∧ (lowEntry idx 0).isNone ∧ (highEntry idx 0).isNone then leBytes 1 ((topSub idx).getD 0)
    else if idx < 0x4000 then s.lowValue (DictPort.source p) idx sub
    else if idx = 0x5100 then
      (if sub = 1 then leBytes 2 x.winIndex
       else leBytes 64 ((Tab.get none x.wins x.winIndex).getD (Tab.get 0 s.adm.wins x.winIndex)).toNat)
    else if 0x6000 ≤ idx ∧ idx ≤ 0x6002 then
      (match Tab.get [] (Tab.get [] x.safe idx) sub with
        | [] => leBytes ((entryOf idx sub).map (fun e => e.bytes)).toList.sum 0
        | v => v)
    else s.highValue idx sub

/-- The abort code of a read (R375); 0 where it is answered. The ROM serves 0x2030:01 to 08 alone (R409). -/
def readAbort (p : DictPort) (idx sub : Nat) : Nat :=
  let rom : Bool := match p with
    | .rom _ _ => idx != 0x2030 || decide (8 < sub)
    | _ => false
  if (topSub idx).isNone ∨ rom then 0x06020000
  else match entryOf idx sub with
    | none => 0x06090011
    | some e => if e.access = .wo then 0x06010001 else 0

end Sys2Proof.Machine
end

