-- ==== Sys2Proof/Machine/DictOps.lean ====
section
/-! DEFINITION. Writes to the object dictionary (R44, R372 to R376, R380, R383 to R386, R405). -/

namespace Sys2Proof.Machine

/-! ## Windows, salvos and actions (R143, R374, R383) -/

/-- Pairs of bytes: the bindings of a salvo. -/
def bytePairs : List (BitVec 8) → List (Nat × Nat)
  | a :: b :: t => (a.toNat, b.toNat) :: bytePairs t
  | _ => []

/-- The staged descriptors of a session. -/
def stagedWins (x : Session) : List (Nat × BitVec 512) :=
  x.wins.filterMap (fun (p : Nat × Option (BitVec 512)) => p.2.map (fun d => (p.1, d)))

/-- The context objects staged in a session, by context. -/
def stagedDecls (x : Session) : List (Nat × Settings) :=
  (x.objs.filter (fun p => decide (0x4100 ≤ p.1) && decide (p.1 < 0x41A0))).map (fun p => (p.1 - 0x4100, p.2))

/-- What a value written to ACTION asks for; none for a value the object does not define. -/
def actionChanges (x : Session) (owner : Option Nat) (idx v : Nat) : Option (List Change) :=
  let staged : Settings := Tab.get [] x.objs idx
  if idx = 0x5100 then (if v = 1 then some [.winBatch owner (stagedWins x)] else none)
  else match objKind idx with
    | some (.salvo k) =>
      let wins := stagedWins x
      if v = 1 then some [.prepare k (bytePairs (Tab.get [] staged 1)) (if wins = [] then none else some wins) (stagedDecls x)]
      else if v = 2 then some [.commit k (leNat (Tab.get [] staged 2))]
      else if v = 3 then some [.cancel k]
      else none
    | some _ => if v = 1 then some [.apply idx staged] else if v = 2 then some [.stop idx] else none
    | none => none

/-! ## Configuration blobs (R44) -/

/-- Records of a blob: index, subindex, data; none where the bytes do not spell `fuel` records. -/
def blobRecords : Nat → List (BitVec 8) → Option (List (Nat × Nat × List (BitVec 8)))
  | 0, l => if l = [] then some [] else none
  | n + 1, l =>
    let len := fieldAt l 4 4
    let whole := ceilDiv len 4 * 4
    if l.length < 8 + whole ∨ fieldAt l 3 1 ≠ 0 ∨ ¬ zeroAt l (8 + len) (whole - len) then none
    else (blobRecords n (l.drop (8 + whole))).map (fun t => (fieldAt l 0 2, fieldAt l 2 1, bytesAt l 8 len) :: t)

/-- The length and value of a write suit its entry. -/
def valueFits (idx sub : Nat) (e : Entry) (v : List (BitVec 8)) : Bool :=
  let free : Bool := e.domain && match objKind idx with
    | some (.salvo _) => sub == 1
    | _ => decide (0x6010 ≤ idx) && decide (idx < 0x6020)
  if free then decide (v.length ≤ e.bytes) && v != [] else v.length == e.bytes

/-- A value that an entry with access WO and without ACTION takes (R294, R383, R386, R387). -/
def commandOk (idx sub v : Nat) : Bool :=
  match idx with
  | 0x1010 => v == 0x65766173
  | 0x1011 => v == 0x64616F6C
  | 0x2001 => v == 1 || v == 2
  | 0x2030 => sub != 1 || v == 1
  | 0x2060 | 0x8001 => true
  | _ => false

/-- A record names a setting that F or H may write, outside area 0x6000, with a value of its type. -/
def recordOk (r : Nat × Nat × List (BitVec 8)) : Bool :=
  match entryOf r.1 r.2.1 with
  | none => false
  | some e =>
    (e.f || e.h) && !(decide (0x6000 ≤ r.1) && decide (r.1 < 0x7000)) && valueFits r.1 r.2.1 e r.2.2 &&
      (e.domain || decide (leNat r.2.2 < e.limit)) &&
      (e.access == .rw || commandOk r.1 r.2.1 (leNat r.2.2) || r.2.1 == actionSub r.1 && ((objKind r.1).isSome || r.1 == 0x5100) &&
        (actionChanges {} none r.1 (leNat r.2.2)).isSome)

/-- Stage one value in a session: an object's subindex, the INDEX and DESCRIPTOR of a window. -/
def Session.stage (x : Session) (idx sub : Nat) (v : List (BitVec 8)) : Session :=
  if idx = 0x5100 then
    if sub = 1 then { x with winIndex := leNat v }
    else { x with wins := Tab.set none x.wins x.winIndex (some (BitVec.ofNat 512 (leNat v))) }
  else { x with objs := Tab.set [] x.objs idx (Tab.set [] (Tab.get [] x.objs idx) sub v) }

/-- The changes a blob's records ask for: every object it names is applied, or stopped where it says so (R44); each record of another
entry is that entry's write, but an image to update from, or a further blob, has no effect from within a blob (DESIGN CHOICE,
log 34). -/
def recordChanges (rs : List (Nat × Nat × List (BitVec 8))) : List Change :=
  let acts := rs.filter (fun r => r.2.1 == actionSub r.1 && ((objKind r.1).isSome || r.1 == 0x5100))
  let objs := rs.filter (fun r => (objKind r.1).isSome)
  let x : Session := rs.foldl (fun (x : Session) r =>
    if (r.1 == 0x5100 || (objKind r.1).isSome) && r.2.1 != actionSub r.1 then Session.stage x r.1 r.2.1 r.2.2 else x) {}
  let plain := (rs.filter (fun r => (objKind r.1).isNone && r.1 != 0x5100)).flatMap (fun r =>
    let v := leNat r.2.2
    if r.1 = 0x2070 then [Change.ceiling (leNat (bytesAt r.2.2 0 1)) (leNat (bytesAt r.2.2 1 1)) (leNat (bytesAt r.2.2 2 1))]
    else if r.1 = 0x2001 then [Change.mode (if v = 1 then .safeHold else .leaveSafeHold) 0]
    else if r.1 = 0x8001 then (if v = 0 then [] else [Change.pairOp v])
    else if r.1 = 0x2060 ∨ (r.1 = 0x2030 ∧ r.2.1 ≤ 2) then []
    else [Change.plain r.1 r.2.1 v])
  let act := fun (i : Nat) => match (acts.filter (fun r => r.1 == i)).getLast? with
    | some r => leNat r.2.2
    | none => 1
  let names := (objs.map (fun r => r.1)).eraseDups
  let wins : List Change := if stagedWins x = [] then [] else [.winBatch none (stagedWins x)]
  plain ++ names.flatMap (fun i => (actionChanges x none i (act i)).getD []) ++
    (if names.any (fun i => decide (0x4200 ≤ i) && decide (i < 0x4208) && act i == 1) then [] else wins)

/-- The lowest BLOB detail that a blob's bytes fail, of a buffer of `room` bytes (R44). -/
def State.blobDetailOf (s : State) (room : Nat) (l : List (BitVec 8)) (rs : Option (List (Nat × Nat × List (BitVec 8)))) : Option Nat :=
  let len := fieldAt l 8 4
  let flags := fieldAt l 0x11 1
  let key := fieldAt l 0x12 1
  let sign := bit flags 0
  let body := bytesAt l 128 (len - 128 - (if sign then 96 else 0))
  if l.length < 128 ∨ fieldAt l 0 4 ≠ 0x57314346 ∨ fieldAt l 4 2 ≠ 1 ∨ fieldAt l 6 2 ≠ 128 ∨ len < (if sign then 224 else 128) ∨ 16777216 < len ∨
      1 < flags ∨ ¬ zeroAt l 0x18 8 ∨ ¬ zeroAt l 0x60 32 ∨ room < len ∨ l.length < len then some 1
  else if fieldAt l 0xC 4 ≠ s.glb.modelVersion.toNat then some 2
  else if fieldAt l 0x10 1 ≠ 0xA1 ∨ s.adm.memSize < fieldAt l 0x13 1 then some 3
  else if shaBytes body ≠ bytesAt l 0x20 32 then some 4
  else if sign ∧ (¬ s.keyOk key ∨ ¬ Config.signatureOk key (l.take (len - 96)) (bytesAt l (len - 96) 96)) then some 5
  else match rs with
    | some rs => if rs.all recordOk then none else some 6
    | none => some 6

/-- The request a blob of these bytes makes (R43, R44). -/
def State.blobRequest (s : State) (who : Asker) (room : Nat) (l : List (BitVec 8)) : Request :=
  let len := fieldAt l 8 4
  let sign := bit (fieldAt l 0x11 1) 0
  let rs := blobRecords (fieldAt l 0x14 4) (bytesAt l 128 (len - 128 - (if sign then 96 else 0)))
  let detail := s.blobDetailOf room l rs
  { by_ := who, received := s.now, changes := if detail.isNone then recordChanges (rs.getD []) else [],
    blob := some { detail := detail, signed := sign, hash := shaRegs (l.take len) } }

/-! ## Writes -/

/-- The abort code of a write before its value is looked at (R373, R375); 0 if there is none. -/
def writeAbort (p : DictPort) (idx sub : Nat) : Nat :=
  let rom : Bool := match p with
    | .rom _ _ => idx != 0x2030 || decide (8 < sub)
    | _ => false
  if (topSub idx).isNone ∨ rom then 0x06020000
  else match entryOf idx sub with
    | none => 0x06090011
    | some e =>
      if e.access = .ro ∨ e.access = .const then 0x06010002
      else
        let mayWrite : Bool := match p with
          | .mailbox (some _) => e.i
          | .mailbox none => e.h
          | _ => e.f
        if mayWrite then 0 else 0x08000021

/-- The instance on whose behalf a port writes. -/
def DictPort.obo : DictPort → Option Nat
  | .mailbox (some n) => some n.val
  | _ => none

/-- Place the changes a write asks for, and wait for the verdict. -/
def State.dictRequest (s : State) (p : DictPort) (idx sub : Nat) (cs : List Change) : State × Option (Nat × Nat) :=
  let r : Request := { by_ := DictPort.asker p idx sub, received := s.now, changes := cs, obo := DictPort.obo p }
  if idx = 0x2030 then (if s.up then (s.enqueue r).runQueue else s, none) else (s.place r, none)

/-- A staged value of area 0x6000, as a number. -/
def safeVal (x : Session) (idx sub : Nat) : Nat := leNat (Tab.get [] (Tab.get [] x.safe idx) sub)

/-- The cells of a staged fill: column, row, transparency, palette, glyph (R222). -/
def stagedCells (x : Session) : List (Nat × Nat × Bool × Nat × Nat) :=
  let g := safeVal x 0x6002
  (List.range (g 5)).flatMap (fun j => (List.range (g 4)).map (fun i => (g 2 + i, g 3 + j, g 8 == 1, g 7, g 6)))

/-- Pixels of a glyph bitmap, row by row (R219). -/
def glyphPixels (v : List (BitVec 8)) : List (BitVec 4) := v.flatMap (fun b => [b.extractLsb' 0 4, b.extractLsb' 4 4])

/-- Words of a byte list. -/
def words32 : List (BitVec 8) → List (BitVec 32)
  | a :: b :: c :: d :: t => (d ++ c ++ b ++ a : BitVec 32) :: words32 t
  | _ => []

/-- Segments of an alarm pattern. -/
def segmentList : List (BitVec 8) → List (Nat × Nat × Nat × Nat)
  | a :: b :: c :: d :: l :: sh :: _ :: _ :: t => (leNat [a, b], leNat [c, d], l.toNat, sh.toNat) :: segmentList t
  | _ => []

/-- A write to area 0x6000 (R384): staged, or a request to the safety partition. -/
def State.safeWrite (s : State) (p : DictPort) (idx sub : Nat) (v : List (BitVec 8)) : State × Option (Nat × Nat) :=
  let k := DictPort.session p
  let x := s.session k
  let n := leNat v
  let ask := fun (w : SafetyWrite) => s.dictRequest p idx sub [.safety w]
  let stage : State := s.setSession k { x with safe := Tab.set [] x.safe idx (Tab.set [] (Tab.get [] x.safe idx) sub v), lastWrite := s.now }
  if idx = 0x6000 ∧ sub = 2 then
    ask (.field { heads := 0, glyphs := [(safeVal x 0x6000 1, glyphPixels v)], palette := [], cells := [] })
  else if idx = 0x6001 ∧ sub = 3 then
    ask (.field { heads := BitVec.ofNat 16 (safeVal x 0x6001 1), glyphs := [],
                  palette := ((words32 v).zipIdx).map (fun e => (safeVal x 0x6001 2, e.2, e.1)), cells := [] })
  else if idx = 0x6002 ∧ sub = 0x10 then
    if n = 1 then
      ask (.field { heads := BitVec.ofNat 16 (safeVal x 0x6002 1), glyphs := [], palette := [], cells := stagedCells x })
    else (s, some (0x06090030, 0))
  else if 0x6010 ≤ idx ∧ idx < 0x6020 then
    (if sub = 1 then ask (.repeat_ (idx - 0x6010) n)
     else if v.length % 8 ≠ 0 then (s, some (0x06070010, 0))
     else ask (.segments (idx - 0x6010) (segmentList v)))
  else if idx = 0x6020 then
    (if n &&& 0x78F0 ≠ 0 then (s, some (0x06090030, 0)) else ask (.request (sub - 1) n))
  else if idx = 0x6030 then (if sub = 1 then ask (.slots n) else ask (.duck n))
  else (stage, some (0, 0))

/-- A whole value of an entry without ACTION below 0x6000, or above 0x7000 (R383). -/
def State.plainWrite (s : State) (p : DictPort) (idx sub : Nat) (v : List (BitVec 8)) : State × Option (Nat × Nat) :=
  let n := leNat v
  let bad : State × Option (Nat × Nat) := (s, some (0x06090030, 0))
  if idx = 0x1010 then
    if n ≠ 0x65766173 then bad
    else if s.dict.storing.isSome then (s, some (0x08000022, 0))
    else (s.beginStore, some (0, 0))
  else if idx = 0x1011 then
    if n ≠ 0x64616F6C then bad else ({ s with store := { s.store with restore := true } }, some (0, 0))
  else if idx = 0x2001 then
    if n = 1 then s.dictRequest p idx sub [.mode .safeHold 0]
    else if n = 2 then s.dictRequest p idx sub [.mode .leaveSafeHold 0]
    else bad
  else if idx = 0x2030 ∧ sub = 1 then if n = 1 then (s.updAbort (DictPort.source p), some (0, 0)) else bad
  else if idx = 0x2070 then s.dictRequest p idx sub [.ceiling (bits n 7 0) (bits n 15 8) (bits n 23 16)]
  else if idx = 0x8001 then
    if n = 0 then (s, some (0, 0)) else s.dictRequest p idx sub [.pairOp n]
  else s.dictRequest p idx sub [.plain idx sub n]

/-- The reason that keeps an instance off an object (R321, R373). -/
def State.oboReason (s : State) (p : DictPort) (idx : Nat) : Option Reason :=
  match DictPort.obo p with
  | some n => firstReason (s.oboChecks n (.stop idx))
  | none => none

/-- A whole value written to an entry (R374, R383). Answers with abort and reason, or, where a request has been placed, not yet. -/
def State.dictSet (s : State) (p : DictPort) (idx sub : Nat) (e : Entry) (v : List (BitVec 8)) : State × Option (Nat × Nat) :=
  let k := DictPort.session p
  let x := s.session k
  let why := s.oboReason p idx
  if !valueFits idx sub e v then (s, some (0x06070010, 0))
  else if !e.domain && decide (e.limit ≤ leNat v) then (s, some (0x06090030, 0))
  else if why.isSome then (s, some (0x08000020, reasonCode why))
  else if (objKind idx).isSome ∨ idx = 0x5100 then
    if sub = actionSub idx then
      match actionChanges x (DictPort.obo p) idx (leNat v) with
      | some cs => s.dictRequest p idx sub cs
      | none => (s, some (0x06090030, 0))
    else if idx = 0x5100 ∧ sub = 2 ∧ (Tab.get none x.wins x.winIndex).isNone ∧ 1024 ≤ (stagedWins x).length then
      (s, some (0x08000022, 0))
    else (s.setSession k { Session.stage x idx sub v with lastWrite := s.now }, some (0, 0))
  else if idx = 0x2060 then
    let r := s.blobRequest (DictPort.asker p idx sub) v.length v
    (s.place r, none)
  else if 0x6000 ≤ idx ∧ idx < 0x7000 then s.safeWrite p idx sub v
  else s.plainWrite p idx sub v

/-- A chunk of the update image (R380, R405); `off` is its offset. A chunk that brings the image's last byte is answered once the image is
verified. -/
def State.imageWrite (s : State) (p : DictPort) (off : Nat) (data : List (BitVec 8)) : State × Option (Nat × Nat) :=
  let k := DictPort.source p
  let c := s.updChunk k off data
  if c.2 ≠ 0 then (c.1, some (c.2, 0))
  else
    let h := c.1.updHeader k
    if h.2 ≠ 0 then (h.1, some (statusAbort h.2, 0))
    else if h.1.updAll k then
      let tid := match p with
        | .udp _ t => t
        | .rom _ t => t
        | _ => 0
      (h.1.setUpdSource k { h.1.updSource k with owed := some tid }, none)
    else (h.1, some (0, 0))

/-- The length a DOMAIN declares, given the bytes so far; none while its header has not come (R44, R380). -/
def declaredLen (idx : Nat) (e : Entry) (v : List (BitVec 8)) : Option Nat :=
  if idx = 0x2060 then
    if v.length < 12 then none
    else
      let n := fieldAt v 8 4
      some (if n < 128 ∨ 16777216 < n then v.length else n)
  else some e.bytes

/-- A write of `data` at an offset, `last` telling whether the transfer ends with it (R374, R375, R380). Every write of a session keeps what
it has staged. -/
def State.dictWrite (s : State) (p : DictPort) (idx sub off : Nat) (last : Bool) (data : List (BitVec 8)) : State × Option (Nat × Nat) :=
  let k := DictPort.session p
  let s := s.setSession k { s.session k with lastWrite := s.now }
  let a := writeAbort p idx sub
  match entryOf idx sub with
  | none => (s, some (a, 0))
  | some e =>
    if a ≠ 0 then (s, some (a, 0))
    else if idx = 0x2030 ∧ sub = 2 then s.imageWrite p off data
    else
      let x := s.session k
      let earlier := if off = 0 then some [] else match x.domain with
        | some (i, j, b) => if i = idx ∧ j = sub ∧ b.length = off then some b else none
        | none => none
      match earlier with
      | none => (s.setSession k { x with domain := none }, some (0x06070010, 0))
      | some b =>
        let v := b ++ data
        let can : Bool := match p with
          | .can _ => true
          | _ => false
        let fixed : Bool := e.domain && !(valueFits idx sub e (v.take 1))
        let whole := if can ∨ ¬ fixed then last else declaredLen idx e v == some v.length
        let excess : Bool := match declaredLen idx e v with
          | some n => decide (n < v.length)
          | none => false
        if excess then (s.setSession k { x with domain := none }, some (0x06070010, 0))
        else if whole then
          (if idx = 0x2060 ∧ declaredLen idx e v ≠ some v.length then (s.setSession k { x with domain := none }, some (0x06070010, 0))
           else (s.setSession k { x with domain := none }).dictSet p idx sub e v)
        else (s.setSession k { x with domain := some (idx, sub, v) }, some (0, 0))

/-! ## Answers -/

/-- The key of a UDP requester in the answer cache and the rate count. -/
def DictPort.peer : DictPort → Nat
  | .udp k _ => k.val
  | .rom a _ => 16 + a.toNat
  | _ => 0

/-- Keep an answer for 2 s (R381). -/
def State.cacheAnswer (s : State) (peer tid status reason : Nat) (data : List (BitVec 8)) : State :=
  let d := s.dict
  { s with
    dict := { d with
    cache := d.cache.filter (fun a => decide (s.now ≤ a.at_ + 2000000000)) ++ [(⟨peer, tid, s.now, status, reason, data⟩ : UdpAnswer)] } }

/-- Write response data to the mailbox's data registers. -/
def State.mailboxData (s : State) (v : List (BitVec 8)) : State :=
  let ws := words32 (v ++ [0, 0, 0])
  (ws.zipIdx).foldl (fun s w => if w.2 < 256 then s.setReg (Reg.mbxData w.2) w.1.toNat else s) (s.setReg Reg.mbxLen v.length)

/-- Answer an access at once (R375, R380, R382). -/
def State.dictAnswer (s : State) (p : DictPort) (idx sub abort reason : Nat) (data : List (BitVec 8)) : State :=
  match p with
  | .can n =>
    let s := if abort = 0x08000020 then
        { s with dict := { s.dict with can := Tab.mod {} s.dict.can n.val (fun (c : CanNode) => { c with lastReason := BitVec.ofNat 16 reason }) } }
      else s
    s.send (.usdo n.val idx sub abort data)
  | .udp _ tid => (s.cacheAnswer (DictPort.peer p) tid abort reason data).send (.udp (DictPort.peer p) abort reason data)
  | .rom _ tid => (s.cacheAnswer (DictPort.peer p) tid abort reason data).send (.udp (DictPort.peer p) abort reason data)
  | .mailbox _ =>
    let s := if data = [] then s else s.mailboxData data
    { s with dict := { s.dict with mbxBusy := false, mbxDone := true, mbxReason := reason, mbxAbort := abort } }

/-- A write, and its answer unless the answer waits for a verdict. -/
def State.dictWriteAnswer (s : State) (p : DictPort) (idx sub off : Nat) (last : Bool) (data : List (BitVec 8)) : State :=
  let r := s.dictWrite p idx sub off last data
  match r.2 with
  | some (a, w) => r.1.dictAnswer p idx sub a w []
  | none => r.1

/-- A read of up to `len` bytes from an offset, and its answer. -/
def State.dictRead (s : State) (p : DictPort) (idx sub off len : Nat) : State :=
  let a := readAbort p idx sub
  s.dictAnswer p idx sub a 0 (if a = 0 then bytesAt (s.dictValue p idx sub) off len else [])

end Sys2Proof.Machine
end

