-- ==== Sys2Proof/Machine/Mpu.lean ====
section
/-! DEFINITION. The protection unit (R51, R388 to R396, R400): region descriptors, the checks of an access, what a refusal does. -/

namespace Sys2Proof.Machine

/-! ## Region descriptors (R389) -/

/-- The fields of a descriptor. -/
def regionEn (d : BitVec 128) : Bool := d.getLsbD 48
def regionLocked (d : BitVec 128) : Bool := d.getLsbD 49
def regionProt (d : BitVec 128) : Bool := d.getLsbD 50
def regionBase (d : BitVec 128) : Nat := bits d.toNat 39 6 * 64
def regionLimit (d : BitVec 128) : Nat := bits d.toNat 47 40 * 2 ^ 32 + bits d.toNat 95 70 * 64 + 63

/-- An enabled descriptor covers an address. -/
def regionCovers (d : BitVec 128) (a : Nat) : Bool := regionEn d && decide (regionBase d ≤ a) && decide (a ≤ regionLimit d)

/-- A descriptor grants a master class. -/
def regionGrants (d : BitVec 128) (c : Nat) (write : Bool) : Bool := d.getLsbD ((if write then 112 else 96) + c)

/-- Two enabled descriptors cover a common byte (R390). -/
def regionOverlap (d e : BitVec 128) : Bool :=
  regionEn d && regionEn e && decide (regionBase d ≤ regionLimit d) && decide (regionBase e ≤ regionLimit e) &&
    decide (regionBase d ≤ regionLimit e) && decide (regionBase e ≤ regionLimit d)

/-- The reserved bits of a descriptor read 0. -/
def regionMask : BitVec 128 := (BitVec.ofNat 128 (2 ^ 58 - 1) <<< 70) ||| BitVec.ofNat 128 (2 ^ 51 - 1 - 63)

/-- The region that covers an address: its number and descriptor. -/
def State.regionAt (s : State) (a : Nat) : Option (Nat × BitVec 128) := s.prot.regions.find? (fun p => regionCovers p.2 a)

/-! ## The checks (R391 to R393) -/

/-- An access: its class, the index of its engine, head or instance, its first and last byte; whether it is a tag, compression-record or
ledger write of a tag path. -/
structure Access where
  cls : BusClass
  idx : Nat := 0
  write : Bool
  first : Nat
  last : Nat
  tagPath : Bool := false

/-- Why an access is refused: the CAUSE of FAULT_INFO (R410). -/
inductive MpuCause where
  | noMatch | denied | straddle | evidence | locked | debugProtected
deriving DecidableEq, Repr

/-- The encoding of R410. -/
def MpuCause.code : MpuCause → Nat
  | .noMatch => 0 | .denied => 1 | .straddle => 2 | .evidence => 3 | .locked => 4 | .debugProtected => 5

/-- Start of DRAM (R51). -/
def dramBase : Nat := 0x800000000

/-- The areas of R51 and what the default map of R391 lets CTL and SAFETY do in each: first, last, CTL read, CTL write, SAFETY read,
SAFETY write. -/
def State.defaultMap (s : State) : List (Nat × Nat × Bool × Bool × Bool × Bool) :=
  [(0, 0x3FFFF, true, false, true, false), (0x8000000, 0x83FFFFF, true, true, true, false),
   (0x9000000, 0x90FFFFF, true, true, true, false), (0xA000000, 0xA17FFFF, false, false, true, true),
   (0x10000000, 0x13FFFFFF, true, true, true, true), (0x20000000, 0x2FFFFFFF, true, false, true, false),
   (dramBase, dramBase + s.adm.memSize * 2 ^ 30 - 1, true, true, true, false)]

/-- The area of the device physical space an address lies in. -/
def State.areaAt (s : State) (a : Nat) : Option (Nat × Nat × Bool × Bool × Bool × Bool) :=
  s.defaultMap.find? (fun r => decide (r.1 ≤ a) && decide (a ≤ r.2.1))

/-- The classes whose rights a class has: on a production part the debug master has CTL's, on a development part also SAFETY's
(R400). -/
def State.rights (s : State) (c : BusClass) : List BusClass :=
  if c = .dbg then (if s.prot.development then [.dbg, .ctl, .safety] else [.dbg, .ctl]) else [c]

/-- The default map lets an access pass (R391). -/
def State.defaultOk (s : State) (a : Access) : Bool :=
  let ok := fun (m : BusClass) (x : Nat) => match s.areaAt x with
    | some (_, _, cr, cw, sr, sw) => match m with
      | .ctl => if a.write then cw else cr
      | .safety => if a.write then sw else sr
      | _ => false
    | none => false
  (s.rights a.cls).any (fun m => ok m a.first && ok m a.last)

/-- The debug protection of a production part (R400). -/
def State.debugBars (s : State) (a : Access) : Bool :=
  let barred := fun (x : Nat) => (decide (0xA000000 ≤ x) && decide (x ≤ 0xA17FFFF)) || match s.regionAt x with
    | some p => regionLocked p.2 && regionProt p.2
    | none => false
  a.cls == .dbg && !s.prot.development && (barred a.first || barred a.last)

/-- Bit of a 4 KiB granule in the evidence map (R393): granules of a pool that firmware laid tags in, until scrubbed. -/
def State.evidenceBit (s : State) (g : Nat) : Bool :=
  s.usedPages.contains (g / 512) && !Tab.get false s.prot.scrubbed g && Config.evidenceGranule g

/-- The classes with a tag path (R393). -/
def tagClass : BusClass → Bool
  | .dec | .lusko | .hdma | .sheet | .tag => true
  | _ => false

/-- A write reaches evidence that it may not touch (R393). -/
def State.touchesEvidence (s : State) (a : Access) : Bool :=
  a.write && !(a.tagPath && tagClass a.cls) && decide (dramBase ≤ a.first) &&
    (List.range ((a.last - dramBase) / 4096 + 1 - (a.first - dramBase) / 4096)).any (fun k =>
      s.evidenceBit ((a.first - dramBase) / 4096 + k))

/-- The cause for which the unit refuses an access, if it does: the first step that fails (R392). -/
def State.mpuCheck (s : State) (a : Access) : Option MpuCause :=
  if (s.areaAt a.first).isNone || (s.areaAt a.last).isNone then some .noMatch
  else if s.debugBars a then some .debugProtected
  else
    let ev := if s.touchesEvidence a then some MpuCause.evidence else none
    match s.regionAt a.first, s.regionAt a.last with
    | none, none => if s.defaultOk a then ev else some .noMatch
    | some x, some y =>
      if x.1 ≠ y.1 then some .straddle
      else if (s.rights a.cls).any (fun m => regionGrants x.2 m.code a.write) then ev
      else some .denied
    | _, _ => some .straddle

/-! ## What a refusal does (R394, R395) -/

/-- FAULT_INFO of a refused access (R410). -/
def State.faultInfo (s : State) (a : Access) (c : MpuCause) : Nat :=
  a.cls.code + a.idx % 4096 * 16 + b2n a.write * 2 ^ 16 + c.code * 2 ^ 17 + match s.regionAt a.first with
    | some p => 2 ^ 20 + p.1 * 2 ^ 24
    | none => 0

/-- Count a refusal and latch the first one since FAULT_COUNT was read. -/
def State.mpuLatch (s : State) (a : Access) (c : MpuCause) : State :=
  let info := s.faultInfo a c
  let s := s.mpuCount
  if s.prot.faultLatched then s
  else
    let s := ((s.setReg 0x50008 (a.first % 2 ^ 32)).setReg 0x5000C (a.first / 2 ^ 32)).setReg 0x50010 info
    { s with prot := { s.prot with faultLatched := true } }

/-- Count and latch a refusal, and report it as the row of its requester says. -/
def State.mpuRefuse (s : State) (a : Access) (c : MpuCause) : State :=
  let info := s.faultInfo a c
  let s := s.mpuLatch a c
  match a.cls with
  | .ctl | .safety =>
    ({ s with prot := { s.prot with health := { s.prot.health with fwFault := true } } }).emit .mpuFault 0 [a.first, info]
  | .inst => s.emit .instFault a.idx [a.first, 1]
  | .dbg => s.count Reg.mpuDebugErrs 1
  | _ => s.emit .mpuFault 0 [a.first, info]

/-- A read over PCIe or by an engine outside the units: the bytes of DRAM, or the refusal. -/
def State.checkedRead (s : State) (a : Access) : State × Option (List Byte) :=
  match s.mpuCheck a with
  | some c => (s.mpuRefuse a c, none)
  | none => (s, some (if dramBase ≤ a.first then s.dramRead (a.first - dramBase) (a.last + 1 - a.first) else []))

/-! ## Commands on the unit (R389, R390, R393, R396, R400) -/

/-- Write word `j` of region descriptor `i` on behalf of a class (R389, R390). A locked descriptor, and every descriptor once the device has
left CONFIGURE, refuses it; LOCK does not bind the debug master of a development part (R400). LOCK itself
stays set (W1S). -/
def State.regionWrite (s : State) (cls : BusClass) (i j : Nat) (v : BitVec 32) : State :=
  let old := Tab.get 0 s.prot.regions i
  let free : Bool := cls == .dbg && s.prot.development
  let bound : Bool := regionLocked old && !free
  if bound ∨ s.locked then
    s.mpuRefuse { cls := cls, write := true, first := 0x10051000 + 16 * i + 4 * j, last := 0x10051003 + 16 * i + 4 * j } .locked
  else
    let w := 32 * j
    let new := ((old &&& ~~~(BitVec.ofNat 128 (2 ^ 32 - 1) <<< w)) ||| (v.zeroExtend 128 <<< w)) &&& regionMask
    let new := new ||| (old &&& BitVec.ofNat 128 (2 ^ 49))
    match s.prot.regions.find? (fun p => p.1 != i && regionOverlap p.2 new) with
    | some p =>
      let s := s.count Reg.mpuCfgFaults 1
      ({ s with prot := { s.prot with health := { s.prot.health with fwFault := true } } }).emit .mpuOverlap 0 [i, p.1]
    | none => { s with prot := { s.prot with regions := Tab.set 0 s.prot.regions i new } }

/-- MPU_REGION_WRITE (R389, R390): CTL writes word `j` of descriptor `i`. -/
def execMpuRegionWrite (t : Nat) (i : Fin 256) (j : Fin 4) (v : BitVec 32) (s : State) : Host.Outcome State Fault Refusal :=
  .next ((s.at t).regionWrite .ctl i.val j.val v)

/-- EVIDENCE_SCRUB (R393): CTL writes a granule's number. `tags` are the buffers and stands whose tags lie in it: one of them marked
refuses the scrub. -/
def execEvidenceScrub (t : Nat) (g : Fin 8388608) (tags : List (FrameRef × Nat)) (s : State) : Host.Outcome State Fault Refusal :=
  let s := s.at t
  if tags.any (fun p => !(s.frame p.1).isFree) then .next (s.setReg 0x50044 (min (s.reg 0x50044 / 2 ^ 16 + 1) 0xFFFF * 2 ^ 16))
  else
    let s := { s with
      dram := s.dram.filter (fun p => p.1 / 4096 != g.val),
      prot := { s.prot with scrubbed := Tab.set false s.prot.scrubbed g.val true } }
    .next (tags.foldl (fun (s : State) p => s.setFrame p.1 { s.frame p.1 with tags := Tab.set {} (s.frame p.1).tags p.2 {} }) s)

/-- POSTED_NOTICE_WINDOW (R396): the windows of refused posted writes that have ended. -/
def execPostedNoticeWindow (t : Nat) (s : State) : Host.Outcome State Fault Refusal :=
  let s := s.at t
  .next ((keys s.prot.posted).foldl State.postNotice s)

/-- The first access that meets the debug protection is recorded for good (R400). -/
def State.debugProbed (s : State) : State :=
  if s.aon.debugProbed then s
  else
    let s := ((s.setReg 0x50020 (s.now % 2 ^ 32)).setReg 0x50024 (s.now / 2 ^ 32 % 2 ^ 32))
    ({ s with aon := { s.aon with debugProbed := true } }).emit .mpuDebugProbed 0 []

end Sys2Proof.Machine
end

