-- ==== Sys2Proof/Machine/Host.lean ====
section
/-! DEFINITION. Doorbell pages, work orders, the host DMA and its page requests, vectors (R203, R222, R317, R323 to R335). -/

namespace Sys2Proof.Machine

/-! ## Doorbell pages (R323 to R325, R327) -/

/-- Work queue `q` of an instance. -/
def State.queue (s : State) (n q : Nat) : WorkQueue := Tab.get {} (s.inst n).queues q

/-- Replace a work queue. -/
def State.setQueue (s : State) (n q : Nat) (x : WorkQueue) : State :=
  let i := s.inst n
  s.setInst n { i with queues := Tab.set {} i.queues q x }

/-- A posted write to a doorbell page that is discarded and counted (R327). -/
def State.pageRefused (s : State) (n : Nat) : State := (s.count (Reg.instPostedViol n) 1).postedRefused n 2

/-- A TAIL more than 2^SIZE entries ahead of HEAD stops the queue (R325). -/
def State.tailWrite (s : State) (n q v : Nat) : State :=
  let x := { s.queue n q with tail := v }
  if 2 ^ x.size < unread x.tail x.head then
    (s.setQueue n q { x with err := true, errCode := 1 }).emit .instQueueErr n [q, 1]
  else s.setQueue n q x

/-- CQ.HEAD is advanced: the vector may be signalled again (R324). -/
def State.cqHead (s : State) (n v : Nat) : State :=
  let i := s.inst n
  let c := i.cq
  (s.setInst n { i with
    cq := { c with head := v, records := c.records.drop (unread v c.head), signalled := false } }).cqSignal n

/-- EVQ.RD is advanced: ring space is freed and the vector may be signalled again (R324, R342). -/
def State.evqRd (s : State) (n v : Nat) : State :=
  let i := s.inst n
  let e := i.evq
  let s := s.setInst n { i with evq := { e with rd := v, records := e.records.drop (unread v e.rd), signalled := false } }
  (s.payLost n s.now).evqSignal n

/-- Pending vectors whose masks are both clear are signalled (R317). -/
def State.flushVecs (s : State) (n : Nat) : State :=
  (List.range 64).foldl (fun (s : State) v =>
    let i := s.inst n
    if i.vecPend.getLsbD v && !i.vecMask.getLsbD v && !(Tab.get {} i.grants.msgs v).mask then
      (s.setInst n { i with vecPend := i.vecPend &&& ~~~(BitVec.ofNat 64 (2 ^ v)) }).signalVec n v
    else s) s

/-- Replace one half of a 64-bit value. -/
def setHalf (x : BitVec 64) (hi : Bool) (v : BitVec 32) : BitVec 64 :=
  if hi then v ++ x.extractLsb' 0 32 else x.extractLsb' 32 32 ++ v

/-- Write a half of VEC_MASK. -/
def State.vecMaskWrite (s : State) (n : Nat) (hi : Bool) (v : BitVec 32) : State :=
  let i := s.inst n
  (s.setInst n { i with vecMask := setHalf i.vecMask hi v }).flushVecs n

/-- A write to a field of queue `q`, at `o` in its block. -/
def State.queueWrite (s : State) (n q o : Nat) (v : BitVec 32) : State :=
  let x := s.queue n q
  if o = 0 ∨ o = 4 then
    if x.en then s.pageRefused n
    else s.setQueue n q { x with base := setHalf x.base (o == 4) (if o = 0 then v &&& 0xFFFFFFC0 else v) }
  else if o = 8 then
    if x.en ∨ outside v.toNat 4 12 then s.pageRefused n else s.setQueue n q { x with size := v.toNat }
  else if o = 0xC then s.tailWrite n q v.toNat
  else if o = 0x10 then s
  else if o = 0x14 then
    let y := { x with en := v.getLsbD 0 }
    s.setQueue n q (if v.getLsbD 1 then { y with err := false, errCode := 0 } else y)
  else s.pageRefused n

/-- A write to a field of the completion ring or of the event ring, at `o` in its block. -/
def State.ringFieldWrite (s : State) (n o : Nat) (v : BitVec 32) : State :=
  let i := s.inst n
  if o = 0x100 ∨ o = 0x104 then
    if i.cq.en then s.pageRefused n
    else s.setInst n { i with cq := { i.cq with base := setHalf i.cq.base (o == 0x104) v } }
  else if o = 0x108 then
    if i.cq.en ∨ outside v.toNat 4 14 then s.pageRefused n else s.setInst n { i with cq := { i.cq with size := v.toNat } }
  else if o = 0x10C then s.cqHead n v.toNat
  else if o = 0x114 then s.setInst n { i with cq := { i.cq with en := v.getLsbD 0, vec := bits v.toNat 13 8 } }
  else if o = 0x200 ∨ o = 0x204 then
    if i.evq.en then s.pageRefused n
    else s.setInst n { i with evq := { i.evq with base := setHalf i.evq.base (o == 0x204) v } }
  else if o = 0x208 then
    if i.evq.en ∨ outside v.toNat 6 16 then s.pageRefused n else s.setInst n { i with evq := { i.evq with size := v.toNat } }
  else if o = 0x20C then s.evqRd n v.toNat
  else if o = 0x214 then
    let e := { i.evq with
      en := v.getLsbD 0, vec := bits v.toNat 13 8, thresh := bits v.toNat 23 16, holdUs := bits v.toNat 31 24 }
    let s := s.setInst n { i with evq := e }
    if e.en ∧ ¬ i.evq.en then { s with eventSeq := s.eventSeq.filter (fun p => p.1 / 65536 != n) } else s
  else if o = 0x308 then s.vecMaskWrite n false v
  else if o = 0x30C then s.vecMaskWrite n true v
  else if o = 0x110 ∨ o = 0x210 ∨ o = 0x218 ∨ o = 0x300 ∨ o = 0x304 ∨ o = 0x400 ∨ 0x8000 ≤ o then s
  else s.pageRefused n

/-- A write to a doorbell page: discarded while the instance is RESETTING (R327). -/
def State.pageWrite (s : State) (n o : Nat) (v : BitVec 32) : State :=
  if (s.inst n).state = .resetting then s.pageRefused n
  else if o < 0x100 then s.queueWrite n (o / 0x40) (o % 0x40) v
  else s.ringFieldWrite n o v

/-- DOORBELL_TAIL_WRITE (R325, R327). -/
def execDoorbellTailWrite (t : Nat) (n : Fin 32) (q : Fin 4) (v : BitVec 32) (s : State) : Host.Outcome State Fault Refusal :=
  .next ((s.at t).pageWrite n.val (0x40 * q.val + 0xC) v)

/-- DOORBELL_PAGE_WRITE (R323, R327). -/
def execDoorbellPageWrite (t : Nat) (n : Fin 32) (o : Fin 65536) (v : BitVec 32) (s : State) : Host.Outcome State Fault Refusal :=
  .next ((s.at t).pageWrite n.val o.val v)

/-- CQ_HEAD_WRITE (R324). -/
def execCqHeadWrite (t : Nat) (n : Fin 32) (v : BitVec 32) (s : State) : Host.Outcome State Fault Refusal :=
  .next ((s.at t).pageWrite n.val 0x10C v)

/-- EVQ_RD_WRITE (R324). -/
def execEvqRdWrite (t : Nat) (n : Fin 32) (v : BitVec 32) (s : State) : Host.Outcome State Fault Refusal :=
  .next ((s.at t).pageWrite n.val 0x20C v)

/-- VECTOR_HOLD_EXPIRE (R324): the event ring (`ev`) or the completion ring. -/
def execVectorHoldExpire (t : Nat) (n : Fin 32) (ev : Bool) (s : State) : Host.Outcome State Fault Refusal :=
  let s := s.at t
  let i := s.inst n.val
  let old := fun (x : Option Nat) => match x with
    | some y => decide (y + i.evq.holdUs * 16000 ≤ s.now)
    | none => false
  if ev then
    if i.evq.en && !i.evq.signalled && old (i.evq.records.head?.map (fun r => r.time)) then
      .next ((s.setInst n.val { i with evq := { i.evq with signalled := true } }).signalVec n.val i.evq.vec)
    else .next s
  else if i.cq.en && !i.cq.signalled && old (i.cq.records.head?.map (fun r => r.time)) then
    .next ((s.setInst n.val { i with cq := { i.cq with signalled := true } }).signalVec n.val i.cq.vec)
  else .next s

/-- A write to a register of INST[n] that holds a staged grant (R322). -/
def State.stage (s : State) (n o v : Nat) : State :=
  let s := s.setReg (0x500000 + 0x1000 * n + o) v
  s.setInst n { s.inst n with staged := o :: (s.inst n).staged.filter (fun x => x != o) }

/-- VEC_MASK_WRITE (R317): an instance's own mask; the mediator's MASK bit of an instance vector, which is staged like the message it
stands in (R320, R322, R339) and acts at the change epoch; the mask of a global vector. -/
def execVecMaskWrite (t : Nat) (n : Fin 32) (m : VecMask) (s : State) : Host.Outcome State Fault Refusal :=
  let s := s.at t
  match m with
  | .page hi v => .next (s.pageWrite n.val (if hi then 0x30C else 0x308) v)
  | .msg v x => .next (s.stage n.val (0x40C + 0x10 * v.val) (x.toNat % 2))
  | .global v x => .next (s.setReg (Reg.msixCtrl v.val) (x.toNat % 2))

/-! ## Work orders (R325, R326) -/

/-- A queue has an entry to read. -/
def queueReady (x : WorkQueue) : Bool := x.en && !x.err && x.head != x.tail

/-- The queue whose turn it is: the first with an entry to read, from `turn` on (R325). -/
def nextQueue (i : Inst) : Option Nat :=
  ((List.range 4).map (fun k => (i.turn + k) % 4)).find? (fun q => queueReady (Tab.get {} i.queues q))

/-- The device reads instance `n`'s queue `q` now (R325, R327). -/
def State.canRead (s : State) (n q : Nat) : Bool :=
  let i := s.inst n
  s.up && s.readsQueues && i.state == .active && !i.draining && decide (i.works.length < 64) && i.cq.en &&
    decide (unread i.cq.tail i.cq.head + i.works.length < 2 ^ i.cq.size) && nextQueue i == some q

/-- Bytes of a pixel of a surface format. -/
def surfBpp (format : Nat) : Nat := fmtBytes8 { kind := surfKind format, ten := false } / 8

/-- Commits a surface has had accepted in the current whole second (R329). -/
def State.commitsNow (s : State) (k : Nat) : Nat :=
  let x := s.surf k
  windowCount (x.rateSecond, x.rateCount) (s.now / 1000000000)

/-- What refuses a work order at the instant it is read; the rest is judged by admission. -/
def State.orderWhy (s : State) (n : Nat) (o : WorkOp) : List Reason :=
  match o with
  | .surfCommit k _ x y w h _ pitch =>
    let f := s.surf k
    if s.ownsSurf n k then
      chk (w == 0 || h == 0 || decide (f.w < x + w) || decide (f.h < y + h) || decide (pitch < w * surfBpp f.format)) cFormat 0x60 ++
        chk (decide (f.maxRate ≤ s.commitsNow k)) cQuota 0x06
    else [(cFormat, 0x61)]
  | .copy _ ring _ _ len =>
    chk (len == 0 || len % 64 != 0) cFormat 0x60 ++ match ring with
      | some r => chk (!(s.inst n).grants.recGrant.getLsbD r) cQuota 0x05
      | none => []
  | .winBatch e => chk (outside e.length 1 1024) cFormat 0x60
  | _ => []

/-- The device reads a work order: it is accepted or refused at this instant (R325). -/
def State.takeOrder (s : State) (n q : Nat) (o : WorkOrder) : State :=
  let i := s.inst n
  let x := s.queue n q
  let w : Work := { id := i.nextWork, queue := q, order := o, acceptedAt := s.now }
  let why := s.orderWhy n o.op
  let s := s.setInst n { i with
    works := i.works ++ [w], nextWork := i.nextWork + 1, turn := (q + 1) % 4,
    queues := Tab.set {} i.queues q { x with head := (x.head + 1) % 2 ^ 32 } }
  if why ≠ [] then s.complete n w.id 1 (reasonCode (firstReason why)) 0
  else match o.op with
    | .surfCommit k _ _ _ _ _ _ _ =>
      let y := s.surf k
      let w := countWindow (y.rateSecond, y.rateCount) (s.now / 1000000000)
      s.setSurf k { y with rateSecond := w.1, rateCount := w.2 }
    | _ => s

/-- WORK_ORDER_READ (R325, R326): queue `q` of instance `n`, whose next entry holds 64 bytes; none where a host fault keeps the entry from
being read. -/
def execWorkOrderRead (t : Nat) (n : Fin 32) (q : Fin 4) (x : OrderRead) (s : State) : Host.Outcome State Fault Refusal :=
  let s := s.at t
  if s.canRead n.val q.val then
    match x.entry with
    | some b => .next (s.takeOrder n.val q.val (workOrder b x.data))
    | none =>
      .next ((s.setQueue n.val q.val { s.queue n.val q.val with err := true, errCode := 2 }).emit .instQueueErr n.val [q.val, 2])
  else .next s

/-- An accepted work order that may start: with FENCE only after every earlier one of its queue has completed (R326). -/
def State.startable (s : State) (n id : Nat) : Option Work :=
  match s.work n id with
  | some w =>
    if s.up && w.stage == .waiting && (!w.order.fence || (s.inst n).works.all (fun x => x.queue != w.queue || decide (w.id ≤ x.id))) then
      some w
    else none
  | none => none

/-- A work order goes to admission, in the place its acceptance gives it (R325). -/
def State.workRequest (s : State) (n : Nat) (w : Work) (c : Change) : State :=
  (s.setWork n { w with stage := .queued }).place { by_ := .work n w.id, received := w.acceptedAt, changes := [c] }

/-- NOP (R326). -/
def execNop (t : Nat) (n : Fin 32) (id : Nat) (s : State) : Host.Outcome State Fault Refusal :=
  let s := s.at t
  match s.startable n.val id with
  | some w => match w.order.op with
    | .nop => .next (s.complete n.val id 0 0 0)
    | _ => .next s
  | none => .next s

/-- BAD_OP (R326). -/
def execBadOp (t : Nat) (n : Fin 32) (id : Nat) (s : State) : Host.Outcome State Fault Refusal :=
  let s := s.at t
  match s.startable n.val id with
  | some w => match w.order.op with
    | .bad _ => .next (s.complete n.val id 4 0 0)
    | _ => .next s
  | none => .next s

/-- SURF_CREATE (R326, R328). -/
def execSurfCreate (t : Nat) (n : Fin 32) (id : Nat) (s : State) : Host.Outcome State Fault Refusal :=
  let s := s.at t
  match s.startable n.val id with
  | some w => match w.order.op with
    | .surfCreate f x y r => .next (s.workRequest n.val w (.surfCreate n.val f x y r))
    | _ => .next s
  | none => .next s

/-- SURF_DESTROY (R326). -/
def execSurfDestroy (t : Nat) (n : Fin 32) (id : Nat) (s : State) : Host.Outcome State Fault Refusal :=
  let s := s.at t
  match s.startable n.val id with
  | some w => match w.order.op with
    | .surfDestroy k => .next (s.workRequest n.val w (.surfDestroy n.val k))
    | _ => .next s
  | none => .next s

/-- WIN_BATCH (R203, R326); it fails where its descriptors cannot be read (R333). -/
def execWinBatch (t : Nat) (n : Fin 32) (id : Nat) (s : State) : Host.Outcome State Fault Refusal :=
  let s := s.at t
  match s.startable n.val id with
  | some w => match w.order.op with
    | .winBatch e => .next (if w.order.lost then s.failWork n.val w else s.workRequest n.val w (.winBatch (some n.val) e))
    | _ => .next s
  | none => .next s

/-- BLAZE_SET (R111, R326). -/
def execBlazeSet (t : Nat) (n : Fin 32) (id : Nat) (s : State) : Host.Outcome State Fault Refusal :=
  let s := s.at t
  match s.startable n.val id with
  | some w => match w.order.op with
    | .blazeSet k x y a b p => .next (s.workRequest n.val w (.blazeSet n.val k x y a b p))
    | _ => .next s
  | none => .next s

/-- SAFE_REQ (R222, R326): validated against the instance's whitelist; it fails where its request cannot be read (R333). -/
def execSafeReq (t : Nat) (n : Fin 32) (id : Nat) (s : State) : Host.Outcome State Fault Refusal :=
  let s := s.at t
  match s.startable n.val id with
  | some w => match w.order.op with
    | .safeReq r => .next (if w.order.lost then s.failWork n.val w else (s.setWork n.val { w with stage := .queued }).place
        { by_ := .work n.val w.id, received := s.now, changes := [.safety (.inst n.val r)] })
    | _ => .next s
  | none => .next s

/-- Start a commit in a free buffer, or let it wait for one; the surface may be gone (R329). -/
def State.tryCommit (s : State) (n : Nat) (w : Work) (k rw rh : Nat) : State :=
  if !s.ownsSurf n k then s.failWork n w
  else match freeBuf (s.surf k).bufs (s.surf k).nBufs 0 with
    | some b => s.beginCommit n w k b rw rh
    | none => s.setWork n { w with stage := .needBuffer }

/-- SURF_COMMIT (R329). -/
def execSurfCommit (t : Nat) (n : Fin 32) (id : Nat) (s : State) : Host.Outcome State Fault Refusal :=
  let s := s.at t
  match s.startable n.val id with
  | some w => match w.order.op with
    | .surfCommit k _ _ _ rw rh _ _ => .next (s.tryCommit n.val w k rw rh)
    | _ => .next s
  | none => .next s

/-- SURF_COMMIT_BUFFER_ACQUIRE (R329); a commit that has failed without a buffer takes one to tag it INVALID. -/
def execSurfCommitBufferAcquire (t : Nat) (n : Fin 32) (id : Nat) (s : State) : Host.Outcome State Fault Refusal :=
  let s := s.at t
  match s.work n.val id with
  | some w => match w.order.op, w.stage with
    | .surfCommit k _ _ _ rw rh _ _, .needBuffer => .next (s.tryCommit n.val w k rw rh)
    | _, _ => .next s
  | none => match s.owedCommit n.val id with
    | some (k, w) => match w.order.op, freeBuf (s.surf k).bufs (s.surf k).nBufs 0 with
      | .surfCommit _ hold _ _ _ _ _ _, some b => .next (s.tagFailed w k b hold)
      | _, _ => .next s
    | none => .next s

/-- COPY (R326): its transfer joins those the DMA carries. -/
def execCopy (t : Nat) (n : Fin 32) (id : Nat) (s : State) : Host.Outcome State Fault Refusal :=
  let s := s.at t
  match s.startable n.val id with
  | some w => match w.order.op with
    | .copy _ _ _ _ len => .next ((s.setWork n.val { w with stage := .copying, len := len, due := noDue }).runDma)
    | _ => .next s
  | none => .next s

/-! ## The host DMA (R333 to R335) -/

/-- The device addresses of a COPY's next block: DRAM offsets of its bytes, none where a page is not mapped. -/
def State.copyBlock (s : State) (n dva done m : Nat) : Option (List Nat) :=
  let l := (List.range m).filterMap (fun k => s.translate n (dva + done + k))
  if l.length = m then some l else none

/-- The first address of a block that is not mapped. -/
def State.firstUnmapped (s : State) (n dva m : Nat) : Nat :=
  ((List.range m).find? (fun k => (s.translate n (dva + k)).isNone)).map (fun k => dva + k) |>.getD dva

/-- The transfer writes device memory. -/
def writesDevice : WorkOp → Bool
  | .copy toHost _ _ _ _ => !toHost
  | _ => true

/-- The slots of the block that has just ended, its stalls, and the bytes it moved (R435, R436). -/
def State.blockSlots (s : State) (stalls : List (Nat × Nat)) (rd wr : Nat) (kept : Bool) : State :=
  let s := stalls.foldl (fun s p => s.stallSlots unitDma p.1 p.2) s.syncDma
  ((s.endWork unitDma kept).pmc unitDma 5 rd).pmc unitDma 6 wr

/-- A transfer stops at its last boundary because of a fault; the DMA serves others (R333, R335). -/
def State.stopTransfer (s : State) (n : Nat) (w : Work) : State := ((s.setWork n w).pmc unitDma 4 1).switchDma

/-- A transfer's last block is done. -/
def State.finishTransfer (s : State) (n : Nat) (w : Work) : State :=
  let s := { s.pmc unitDma 2 1 with dma := none }
  let s := match w.order.op with
    | .surfCommit k hold _ _ _ _ _ _ =>
      let s := s.endCommit w k hold true
      s.complete n w.id 0 0 (s.surf k).commits.toNat
    | .copy _ _ _ _ _ => (s.pmc unitDma 11 1).complete n w.id 0 0 0
    | _ => s
  s.runDma

/-- A block has been moved: translations used are held (at most 512, the oldest gone first), and the transfer goes on or ends. -/
def State.blockDone (s : State) (n : Nat) (w : Work) (pages : List (BitVec 64)) : State :=
  let key := fun (p : BitVec 64) => ((s.inst n).grants.pasid, p)
  let atc := pages.foldl (fun (l : List (BitVec 20 × BitVec 64)) p => key p :: l.filter (fun q => q != key p)) s.atc
  let s := { s with atc := atc.take 512 }
  let s := s.draw n (min 4096 (w.len - w.done))
  let w := { w with done := min (w.done + 4096) w.len }
  let s := (s.setWork n w).pmc unitDma 1 1
  if w.len ≤ w.done then s.finishTransfer n w else s.switchDma

/-- A block of a COPY that reads or writes the instance's mapped pages, or reads a granted recording's ring. -/
def State.copyData (s : State) (n : Nat) (w : Work) (toHost : Bool) (ring : Option Nat) (dva : Nat) (hva : BitVec 64)
    (pages : List (BitVec 64)) (bytes : List Byte) : State :=
  let m := min 4096 (w.len - w.done)
  let dst := hva + BitVec.ofNat 64 w.done
  match ring with
  | some _ => (s.send (.hostWrite dst (bytes.take m))).blockDone n w pages
  | none =>
    match s.copyBlock n dva w.done m with
    | none => (s.instFaultAt n (s.firstUnmapped n (dva + w.done) m) 0 (!toHost)).stopTransfer n { w with waitPage := true }
    | some l =>
      let bad := l.findSome? (fun a =>
        let x : Access := { cls := .inst, idx := n, write := !toHost, first := dramBase + a, last := dramBase + a }
        (s.mpuCheck x).map (fun c => (x, c)))
      match bad with
      | some (x, c) => (s.mpuRefuse x c).failWork n w
      | none =>
        if toHost then (s.send (.hostWrite dst (l.map s.seenByte))).blockDone n w pages
        else ({ s with
          dram := (l.zip bytes).foldl (fun (d : List Host.Cell) (p : Nat × Byte) => Tab.set 0 d p.1 p.2) s.dram }).blockDone n w pages

/-- Where a component lies in a pixel of a surface: lowest bit and width (R209); planes 0 to 2 are R, G and B, 3 is alpha. -/
def pixelField (k : PixKind) (plane : Nat) : Nat × Nat :=
  match k with
  | .argb2101010 | .xrgb2101010 => if plane = 0 then (20, 10) else if plane = 1 then (10, 10) else if plane = 2 then (0, 10) else (30, 2)
  | .rgb565 => if plane = 0 then (11, 5) else if plane = 1 then (5, 6) else (0, 5)
  | _ => if plane = 0 then (16, 8) else if plane = 1 then (8, 8) else if plane = 2 then (0, 8) else (24, 8)

/-- The planes a surface pixel has: alpha only in the formats that keep it (R209). -/
def pixelPlanes : PixKind → List Nat
  | .argb8888 | .argb2101010 => [0, 1, 2, 3]
  | _ => [0, 1, 2]

/-- The pixels that bytes of a commit's rectangle hold, `done` bytes into it: little-endian words, line after line of `rw` pixels from
(`x`, `y`) on (R17, R209, R329). -/
def rectSamples (k : PixKind) (x y rw done : Nat) (bytes : List Byte) : List Sample :=
  let n := fmtBytes8 { kind := k, ten := false } / 8
  (List.range (bytes.length / n)).flatMap (fun (i : Nat) =>
    let v := leNat ((bytes.drop (n * i)).take n)
    let p := done / n + i
    (pixelPlanes k).map (fun c =>
      ({ plane := c, y := y + p / rw, x := x + p % rw, v := v / 2 ^ (pixelField k c).1 % 2 ^ (pixelField k c).2 } : Sample)))

/-- DMA_BLOCK_COMPLETE (R333, R335): the block the host DMA works on ends as `b` says, with its stalled slots by kind (R436) and the
64-byte units it read and wrote. A DMA whose transfers all waited takes up one that can go on again (R331). -/
def execDmaBlockComplete (t : Nat) (b : DmaBlock) (stalls : List (Nat × Nat)) (rd wr : Nat) (s : State) :
    Host.Outcome State Fault Refusal :=
  let s := (s.at t).runDma
  match s.dma with
  | none => .next s
  | some (n, id) =>
    match s.work n id with
    | none => .next { s with dma := none }
    | some w =>
      match b with
      | .data pages bytes =>
        let s := s.blockSlots stalls rd wr true
        match w.order.op with
        | .copy h ring dva hva _ => .next (s.copyData n w h ring dva.toNat hva pages bytes)
        | .surfCommit k _ x y rw _ _ _ =>
          let r : FrameRef := ⟨.surf k, w.buf⟩
          let f := s.frame r
          let got := bytes.take (min 4096 (w.len - w.done))
          .next ((s.setFrame r (Frame.writeSamples f (rectSamples f.fmt.kind x y rw w.done got))).blockDone n
            { w with read := w.read.take w.done ++ got } pages)
        | _ => .next s
      | .noTranslation page =>
        let s := s.blockSlots stalls rd wr false
        let w := { w with waitPri := true, priPage := page }
        .next ((s.sendGroup n w).stopTransfer n w)
      | .deviceFault va =>
        if s.pagesOk n w then .next s
        else
          let s := s.blockSlots stalls rd wr false
          .next ((s.instFaultAt n va.toNat 0 (writesDevice w.order.op)).stopTransfer n { w with waitPage := true })
      | .refused a =>
        let x : Access := { cls := .inst, idx := n, write := writesDevice w.order.op, first := a, last := a }
        match s.mpuCheck x with
        | some c => .next (((s.blockSlots stalls rd wr false).mpuRefuse x c).failWork n w)
        | none => .next s

/-- A page request group ends: the transfer goes on, or its work order fails (R333). -/
def State.groupEnds (s : State) (n : Nat) (g : PageGroup) (ok : Bool) : State :=
  let i := s.inst n
  let s := s.setInst n { i with groups := i.groups.filter (fun x => x.id != g.id) }
  match s.work n g.work with
  | some w => if ok then ((s.setWork n { w with waitPri := false }).nextGroup n).runDma else s.failWork n w
  | none => s.nextGroup n

/-- PRI_RESPONSE_RX (R333): the answer to group `g`; one that is no longer outstanding is discarded. -/
def execPriResponseRx (t : Nat) (n : Fin 32) (g : Nat) (ok : Bool) (s : State) : Host.Outcome State Fault Refusal :=
  let s := s.at t
  match (s.inst n.val).groups.find? (fun x => x.id == g) with
  | some x => .next (s.groupEnds n.val x ok)
  | none => .next s

/-- PRI_TIMEOUT (R334, A1-07): group `g` has gone unanswered for 10 ms. -/
def execPriTimeout (t : Nat) (n : Fin 32) (g : Nat) (s : State) : Host.Outcome State Fault Refusal :=
  let s := s.at t
  match (s.inst n.val).groups.find? (fun x => x.id == g) with
  | some x =>
    if x.sentAt + 10000000 ≤ s.now then
      let s := (s.count (Reg.instPriTimeouts n.val) 1).emit .instPriTimeout n.val [(s.inst n.val).grants.pasid.toNat, x.page.toNat]
      .next (s.groupEnds n.val x false)
    else .next s
  | none => .next s

/-- ATS_INVALIDATE_RX (R333): `len` bytes of a PASID's space from `page` on. -/
def execAtsInvalidateRx (t : Nat) (n : Fin 32) (page : BitVec 64) (len : Nat) (s : State) : Host.Outcome State Fault Refusal :=
  let s := s.at t
  let p := (s.inst n.val).grants.pasid
  .next ({ s with
    atc := s.atc.filter (fun q => q.1 != p || decide (q.2.toNat < page.toNat) || decide (page.toNat + len ≤ q.2.toNat)) }.send
      (.atsComplete n.val))

end Sys2Proof.Machine
end

