-- ==== Sys2Proof/Machine/Glb.lean ====
section
/-! DEFINITION. The commands of GLB, of the modes and of the pair's control (R37 to R50, R66, R144, R202, R254, R291 to R294, R314, R414 to
R426). -/

namespace Sys2Proof.Machine

/-! ## Admission (R37, R38, R44, R45, R202) -/

/-- ADMISSION_REQUEST_JUDGE (R38): the requests that can be judged are, in queue order. -/
def execAdmissionRequestJudge (t : Nat) (s : State) : Host.Outcome State Fault Refusal := .next (s.at t).runQueue

/-- BLOB_APPLY (R44). -/
def execBlobApply (t : Nat) (s : State) : Host.Outcome State Fault Refusal :=
  let s := s.at t
  if s.up ∧ ¬ s.glb.blobReading then .next ({ s with glb := { s.glb with blobReading := true } }.setReg 0x80 0) else .next s

/-- BLOB_READ_COMPLETE (R44): the bytes that the DMA read. The buffer is as long as GLB.BLOB_LEN says when the read completes (DESIGN
CHOICE, log 217: the spec does not say which value counts when it is rewritten after APPLY). -/
def execBlobReadComplete (t : Nat) (data : List (BitVec 8)) (s : State) : Host.Outcome State Fault Refusal :=
  let s := s.at t
  if s.up ∧ s.glb.blobReading then
    let s := { s with glb := { s.glb with blobReading := false } }
    .next (s.place (s.blobRequest .blobRegs (s.reg Reg.glbBlobLen) data))
  else .next s

/-- ECC_ZONES_WRITE (R20, R45): a request in CONFIGURE; afterwards GLB is locked. -/
def execEccZonesWrite (t : Nat) (v : BitVec 32) (s : State) : Host.Outcome State Fault Refusal :=
  let s := s.at t
  if !s.up then .next s
  else if s.locked then .next (s.postedRefused 32 1)
  else .next ((s.setReg 0x54 0).request .eccRegs [.eccZones v])

/-- WIN_GEN_COMMIT (R202). -/
def execWinGenCommit (t : Nat) (s : State) : Host.Outcome State Fault Refusal :=
  let s := s.at t
  if !s.up then .next s
  else if s.win.open_ ∧ ¬ s.adm.queue.any (fun r => r.by_ == Asker.winRegs) then
    .next ({ s with win := { s.win with done := false } }.request .winRegs [.winCommit])
  else .next s.refuseWin

/-- SALVO_SWITCH (R144, R207): at C the bindings take effect at once, the blaze checker of each bound channel
starts again, and the generation follows the one that is pending, if any. -/
def execSalvoSwitch (t : Nat) (k : Fin 8) (s : State) : Host.Outcome State Fault Refusal :=
  let s := s.at t
  let v := s.salvo k.val
  match v.commitAt with
  | some c =>
    if c ≤ s.now then
      let sw := switchObjs (s.inSalvo (some k.val)) v.bindings
      let live := sw s.adm.live
      let s := s.switched k.val
      let s := { s with
        adm := { s.adm with waiting := s.adm.waiting.map (fun (p : Nat × List Nat × List Nat × Tab Obj) => (p.1, p.2.1, p.2.2.1, sw p.2.2.2)) },
        win := { s.win with salvo := s.salvos.any (fun p => p.2.commitAt.isSome && p.2.hasGen) } }
      let s := (s.fitPools.s).goLive c [] [] live
      let s := v.bindings.foldl (fun s b => s.resetChecker (.ch b.2)) s
      .next (if v.hasGen then s.salvoGeneration c v.gen else s)
    else .next s
  | none => .next s

/-! ## BAR0 and BAR4 (R49, R50, R391 to R396) -/

/-- APERTURE_BASE_WRITE (R50): ignored beyond installed memory. -/
def execApertureBaseWrite (t : Nat) (v : BitVec 32) (s : State) : Host.Outcome State Fault Refusal :=
  let s := s.at t
  if s.up ∧ v.toNat + 128 ≤ 512 * s.adm.memSize then .next { s with glb := { s.glb with apertureNext := some v.toNat } } else .next s

/-- APERTURE_BASE_SWITCH (R50): every BAR4 request received before the write has completed. -/
def execApertureBaseSwitch (t : Nat) (s : State) : Host.Outcome State Fault Refusal :=
  let s := s.at t
  match s.glb.apertureNext with
  | some v => .next ({ s with glb := { s.glb with apertureNext := none } }.setReg Reg.glbAperture v)
  | none => .next s

/-- The blocks of BAR0: first offset and bytes (R49). -/
def barBlocks : List (Nat × Nat) :=
  [(0, 0xE0000), (0x100000, 0x40000), (0x140000, 0x20000), (0x160000, 0x10000), (0x170000, 0x4000), (0x180000, 0x20000),
   (0x1A0000, 0x20000), (0x1C0000, 0x10000), (0x1D0000, 0x10000), (0x1E0000, 0x10000), (0x200000, 0x80000), (0x280000, 0xA0000),
   (0x320000, 0x10000), (0x400000, 0x100000), (0x500000, 0x20000), (0x520000, 0x20000), (0x1000000, 0x80000), (0x1080000, 0x80000)]

/-- An offset lies in a listed block. -/
def barListed (o : Nat) : Bool := barBlocks.any (fun b => decide (b.1 ≤ o) && decide (o < b.1 + b.2))

/-- BAR0_STRAY_ACCESS (R49): a read returns 0, a write is discarded; both count. -/
def execBar0StrayAccess (t : Nat) (o : Fin 67108864) (write : Bool) (s : State) : Host.Outcome State Fault Refusal :=
  let s := s.at t
  if s.mode.phase = .up ∧ s.mode.mode ≠ .standby ∧ ¬ barListed o.val then
    let s := if s.glb.straySeen then s else { s with glb := { s.glb with straySeen := true } }.setReg Reg.glbBarStrayOff o.val
    let s := s.count Reg.glbBarStray 1
    .next (if write then s else { s with readData := 0 })
  else .next s

/-- BAR4_ACCESS (R50, R391 to R396): a read of `n` bytes or a posted write of `data`, checked as a mediator access. -/
def execBar4Access (t : Nat) (o : Fin 268435456) (write : Bool) (n : Nat) (data : List (BitVec 8)) (s : State) :
    Host.Outcome State Fault Refusal :=
  let s := s.at t
  let len := if write then data.length else n
  if !s.up || len == 0 then .next s
  else
    let d := s.reg Reg.glbAperture * 2097152 + o.val
    let a : Access := { cls := .med, write := write, first := dramBase + d, last := dramBase + d + (len - 1) }
    match s.mpuCheck a with
    | some c => .next (if write then s.postedRefused 32 0 else s.mpuRefuse a c)
    | none => .next (if write then s.dramWrite d data else { s with readData := leNat (s.dramRead d n) })

/-! ## Modes (R66, R414 to R418, R423, R426) -/

/-- A mode command of MODE.CTRL. -/
def State.modeCommand (s : State) (c : ModeCmd) (key : Nat) : State :=
  if s.up then (s.setReg 0x10008 0).request .modeRegs [.mode c key] else s

/-- GO, GO_PROVING (R414). -/
def execGo (t : Nat) (s : State) : Host.Outcome State Fault Refusal := .next ((s.at t).modeCommand .go 0)
def execGoProving (t : Nat) (s : State) : Host.Outcome State Fault Refusal := .next ((s.at t).modeCommand .goProving 0)

/-- SAFE_HOLD (R416), LEAVE_SAFE_HOLD (R418). -/
def execSafeHold (t : Nat) (s : State) : Host.Outcome State Fault Refusal := .next ((s.at t).modeCommand .safeHold 0)
def execLeaveSafeHold (t : Nat) (s : State) : Host.Outcome State Fault Refusal := .next ((s.at t).modeCommand .leaveSafeHold 0)

/-- SLEEP (R423), RESET (R426), with the KEY written. -/
def execSleep (t : Nat) (key : BitVec 16) (s : State) : Host.Outcome State Fault Refusal := .next ((s.at t).modeCommand .sleep key.toNat)
def execReset (t : Nat) (key : BitVec 16) (s : State) : Host.Outcome State Fault Refusal := .next ((s.at t).modeCommand .reset key.toNat)

/-- LOCK_WAIT_EXPIRE (R66). -/
def execLockWaitExpire (t : Nat) (s : State) : Host.Outcome State Fault Refusal :=
  let s := s.at t
  match s.mode.goWait, s.time.firstEnabled with
  | some w, some a =>
    if a + s.lockWait ≤ s.time.lct then
      .next ((s.setMode { s.mode with goWait := some { w with expired := true } }).tryGo.runQueue)
    else .next s
  | _, _ => .next s

/-- GO_MODE_CHANGE (R66, R414): the lock wait has ended; the mode commands held behind it are judged. -/
def execGoModeChange (t : Nat) (s : State) : Host.Outcome State Fault Refusal := .next ((s.at t).tryGo.runQueue)

/-! ## The pair's control (R291, R293 to R295, R314, R315) -/

/-- A command of PAIR.CTRL. -/
def State.pairCommand (s : State) (op : Nat) : State := if s.up then s.request .device [.pairOp op] else s

/-- PAIR_JOIN, PAIR_LEAVE, PAIR_SWITCHOVER (R295, R314, R315). -/
def execPairJoin (t : Nat) (s : State) : Host.Outcome State Fault Refusal := .next ((s.at t).pairCommand 1)
def execPairLeave (t : Nat) (s : State) : Host.Outcome State Fault Refusal := .next ((s.at t).pairCommand 2)
def execPairSwitchover (t : Nat) (s : State) : Host.Outcome State Fault Refusal := .next ((s.at t).pairCommand 3)

/-- PAIR_ACT_IN_RISE (R291, R294): the wait of side B ends in SHADOW. -/
def execPairActInRise (t : Nat) (s : State) : Host.Outcome State Fault Refusal :=
  let s := (s.at t).actInRise
  if s.mode.sideBWait.isSome then .next (((s.setMode { s.mode with sideBWait := none }).enterGo true).runQueue) else .next s

/-- SIDE_B_GO_TIMEOUT (R294). -/
def execSideBGoTimeout (t : Nat) (s : State) : Host.Outcome State Fault Refusal :=
  let s := s.at t
  match s.mode.sideBWait with
  | some a =>
    if a + 1000000000 ≤ s.now ∧ ¬ s.pair.actIn then
      .next (((s.setMode { s.mode with sideBWait := none }).enterGo false).runQueue)
    else .next s
  | none => .next s

end Sys2Proof.Machine
end

