-- ==== Sys2Proof/Machine/Flr.lean ====
section
/-! DEFINITION. Function level reset, link-down and D3hot (R318). -/

namespace Sys2Proof.Machine

/-- The registers that R318 returns to reset: the EVT block, the BAR4 aperture and the blob buffer, the staging fields of INST[n], MMU[n]
and TALLY, the mailbox, the update buffer, each touch port's ring. -/
def flrRegs : List (Nat × Nat) :=
  [(0x58, 0x5C), (0x70, 0x7C), (0x60010, 0x6001C), (0x80000, 0x90000), (0x90008, 0x90018), (0xC4004, 0xC4010), (0xC4400, 0xC4800),
   (0x1A0020, 0x1A002C), (0x1A0030, 0x1A0034), (0x1B0020, 0x1B002C), (0x1B0030, 0x1B0034)]

/-- Whether R318 returns a register to its reset value. -/
def flrReg (o : Nat) : Bool :=
  flrRegs.any (fun b => decide (b.1 ≤ o) && decide (o < b.2)) ||
    (decide (0x500000 ≤ o) && decide (o < 0x520000) && ((decide (0x10 ≤ o % 0x1000) && decide (o % 0x1000 < 0xB0)) ||
      (decide (0x400 ≤ o % 0x1000) && decide (o % 0x1000 < 0x800)))) ||
    (decide (0x520000 ≤ o) && decide (o < 0x540000) && decide (o % 0x1000 < 0xC))

/-- A squash reset of an instance that is not FREE; one already resetting is squashed (R318, R338). -/
def State.flrInst (s : State) (n : Nat) : State :=
  match (s.inst n).state with
  | .free => s.setInst n { s.inst n with staged := [] }
  | .resetting => (s.setInst n { s.inst n with staged := [] }).squash n
  | _ => (s.setInst n { s.inst n with staged := [] }).beginReset n true false false

/-- Function level reset (R318). -/
def State.flr (s : State) : State :=
  let s := (keys s.insts).foldl (fun s n => s.flrInst n) s
  let s := s.updAbort 1
  let s := if s.glb.blobReading then s.setResult 0x80 (reasonCode (some (cBlob, 1))) else s
  let other := fun (r : Request) => r.by_ != Asker.mailbox
  let a := s.adm
  let d := s.dict
  { s with
    regs := s.regs.filter (fun p => !flrReg p.1),
    glb := { s.glb with blobReading := false, apertureNext := none },
    adm := { a with queue := a.queue.filter other, forwarded := a.forwarded.filter (fun p => other p.2) },
    dict := { d with mbxBusy := false, mbxDone := false, mbxReason := 0, mbxAbort := 0 } }

/-- FUNCTION_LEVEL_RESET (R318). -/
def execFunctionLevelReset (t : Nat) (s : State) : Host.Outcome State Fault Refusal :=
  let s := s.at t
  if s.mode.phase = .up then .next s.flr else .next s

/-- PCIE_LINK_DOWN (R318). -/
def execPcieLinkDown (t : Nat) (s : State) : Host.Outcome State Fault Refusal :=
  let s := s.at t
  if s.mode.phase = .up then .next s.flr else .next s

/-- D3HOT_ENTRY (R318). -/
def execD3hotEntry (t : Nat) (s : State) : Host.Outcome State Fault Refusal :=
  let s := s.at t
  if s.mode.phase = .up then .next s.flr else .next s

end Sys2Proof.Machine
end

