-- ==== Sys2Proof/Machine/HostInst.lean ====
section
/-! DEFINITION. The mediator's operations on instances and their page tables, what happens at their change epochs, drains, freezes, saves
and restores (R319 to R322, R332, R336 to R341). -/

namespace Sys2Proof.Machine

/-! ## Staged values (R320, R322) -/

/-- The words of whitelist entry `e` (R322). -/
def wlWord (e : SafeWl) (k : Nat) : Nat :=
  if k = 0 then b2n e.en * 2 ^ 31 + e.glyphCount * 2 ^ 16 + e.glyphBase
  else if k = 1 then e.pal * 16 + e.head
  else if k = 2 then e.cy * 2 ^ 16 + e.cx
  else e.ch * 2 ^ 16 + e.cw

/-- The words of a vector's message (R322). -/
def msgWord (m : VecMsg) (k : Nat) : Nat :=
  if k = 0 then m.addr.toNat % 2 ^ 32 else if k = 1 then m.addr.toNat / 2 ^ 32 else if k = 2 then m.data.toNat else b2n m.mask

/-- The register at offset `o` of INST[n] as grants in force give it. -/
def grantWord (g : Grants) (o : Nat) : Nat :=
  if o = 0x10 then g.pasid.toNat
  else if o = 0x14 then g.winCount * 2 ^ 16 + g.winBase
  else if o = 0x18 then g.surfQuota
  else if o = 0x1C then g.pageQuota
  else if o = 0x20 then g.bwShare
  else if o = 0x24 then g.vecCount
  else if o = 0x28 then g.cntVis.toNat
  else if 0x30 ≤ o ∧ o < 0x40 then bits g.chGrant.toNat (8 * (o - 0x30) + 31) (8 * (o - 0x30))
  else if o = 0x40 then g.recGrant.toNat
  else if o = 0x44 then g.epochHead.toNat
  else if o = 0x48 then g.drainMs
  else if 0x60 ≤ o ∧ o < 0xA0 then wlWord (g.safeWl.getD ((o - 0x60) / 16) {}) ((o - 0x60) / 4 % 4)
  else if 0x400 ≤ o ∧ o < 0x800 then msgWord (Tab.get {} g.msgs ((o - 0x400) / 16)) (o / 4 % 4)
  else 0

/-- A register of INST[n] that holds a staged grant. -/
def grantReg (o : Nat) : Bool :=
  o % 4 == 0 && ((decide (0x10 ≤ o) && decide (o ≤ 0x28)) || (decide (0x30 ≤ o) && decide (o ≤ 0x48)) || (decide (0x60 ≤ o) && decide (o < 0xA0)) ||
    (decide (0x400 ≤ o) && decide (o < 0x800)))

/-- The register at offset `o` of INST[n] as read: the staged value if one has been written since the last operation, otherwise the value
in force (R322). -/
def State.instWord (s : State) (n o : Nat) : Nat :=
  if (s.inst n).staged.contains o then s.reg (0x500000 + 0x1000 * n + o) else grantWord (s.aGrant n) o

/-- Grants as the words of the registers give them. -/
def grantsOf (w : Nat → Nat) : Grants :=
  { pasid := BitVec.ofNat 20 (w 0x10), winBase := bits (w 0x14) 12 0, winCount := bits (w 0x14) 29 16, surfQuota := w 0x18, pageQuota := w 0x1C,
    bwShare := w 0x20, vecCount := w 0x24, cntVis := BitVec.ofNat 3 (w 0x28),
    chGrant := BitVec.ofNat 128 (w 0x30 + w 0x34 * 2 ^ 32 + w 0x38 * 2 ^ 64 + w 0x3C * 2 ^ 96), recGrant := BitVec.ofNat 16 (w 0x40),
    epochHead := BitVec.ofNat 5 (w 0x44), drainMs := w 0x48,
    safeWl := (List.range 4).map (fun i =>
      let a := w (0x60 + 16 * i)
      let b := w (0x64 + 16 * i)
      let c := w (0x68 + 16 * i)
      let d := w (0x6C + 16 * i)
      { en := bit a 31, glyphBase := bits a 10 0, glyphCount := bits a 27 16, head := bits b 3 0, pal := bits b 7 4, cx := bits c 6 0,
        cy := bits c 22 16, cw := bits d 6 0, ch := bits d 22 16 }),
    msgs := (List.range 64).foldl (fun (a : Tab VecMsg) (v : Nat) =>
      let o := 0x400 + 16 * v
      Tab.set {} a v { addr := BitVec.ofNat 64 (w o + w (o + 4) * 2 ^ 32), data := BitVec.ofNat 32 (w (o + 8)), mask := bit (w (o + 12)) 0 }) [] }

/-- The grants staged for instance `n`. -/
def State.stagedGrants (s : State) (n : Nat) : Grants := grantsOf (s.instWord n)

/-- The blob buffer's address. -/
def State.blobAddr (s : State) (n : Nat) : BitVec 64 :=
  BitVec.ofNat 64 (s.reg (Reg.instBlobAddrHi n) * 2 ^ 32 + s.reg (Reg.instBlobAddrLo n))

/-- A write of OP: one admission request with the values staged at this moment (R320). -/
def State.instOp (s : State) (n : Nat) (op : InstOp) : State :=
  if s.up then
    (s.setInst n { s.inst n with done := false, staged := [] }).request (.instRegs n) [.inst n op]
  else s

/-- INST_CREATE (R319). -/
def execInstCreate (t : Nat) (n : Fin 32) (s : State) : Host.Outcome State Fault Refusal :=
  let s := s.at t
  .next (s.instOp n.val (.create (s.stagedGrants n.val)))

/-- INST_CHANGE (R320). -/
def execInstChange (t : Nat) (n : Fin 32) (s : State) : Host.Outcome State Fault Refusal :=
  let s := s.at t
  .next (s.instOp n.val (.change (s.stagedGrants n.val)))

/-- INST_RESET (R338). -/
def execInstReset (t : Nat) (n : Fin 32) (squash clear : Bool) (s : State) : Host.Outcome State Fault Refusal :=
  .next ((s.at t).instOp n.val (.reset squash clear))

/-- INST_FREEZE (R339). -/
def execInstFreeze (t : Nat) (n : Fin 32) (s : State) : Host.Outcome State Fault Refusal :=
  .next ((s.at t).instOp n.val .freeze)

/-- INST_SAVE (R339): the blob takes `need` bytes. -/
def execInstSave (t : Nat) (n : Fin 32) (need : Nat) (s : State) : Host.Outcome State Fault Refusal :=
  let s := s.at t
  .next (s.instOp n.val (.save need (s.blobAddr n.val) (s.reg (Reg.instBlobLen n.val))))

/-- INST_RESTORE (R340): the buffer holds the bytes of `b`, whose sections say what it holds. -/
def execInstRestore (t : Nat) (n : Fin 32) (b : RestoreData) (s : State) : Host.Outcome State Fault Refusal :=
  let s := s.at t
  .next (s.instOp n.val (.restore (s.stagedGrants n.val).pasid (s.stagedGrants n.val).msgs (readBlob (s.reg (Reg.instBlobLen n.val)) b.bytes b.blob)))

/-- INST_THAW (R319). -/
def execInstThaw (t : Nat) (n : Fin 32) (s : State) : Host.Outcome State Fault Refusal :=
  .next ((s.at t).instOp n.val .thaw)

/-- INST_DESTROY (R319). -/
def execInstDestroy (t : Nat) (n : Fin 32) (s : State) : Host.Outcome State Fault Refusal :=
  .next ((s.at t).instOp n.val .destroy)

/-- MMU_MAP (R332): the staged VPN, PPN and COUNT. -/
def execMmuMap (t : Nat) (n : Fin 32) (s : State) : Host.Outcome State Fault Refusal :=
  let s := s.at t
  if s.up then
    .next ((s.setInst n.val { s.inst n.val with mmuDone := false }).request (.mmuRegs n.val)
      [.map n.val (s.reg (Reg.mmuVpn n.val)) (s.reg (Reg.mmuPpn n.val)) (s.reg (Reg.mmuCount n.val))])
  else .next s

/-- MMU_REVOKE (R332, R337). -/
def execMmuRevoke (t : Nat) (n : Fin 32) (s : State) : Host.Outcome State Fault Refusal :=
  let s := s.at t
  if s.up then
    .next ((s.setInst n.val { s.inst n.val with mmuDone := false }).request (.mmuRegs n.val)
      [.revoke n.val (s.reg (Reg.mmuVpn n.val)) (s.reg (Reg.mmuCount n.val))])
  else .next s

/-! ## Change epochs (R320, R336, R337, R339) -/

/-- Pages are unmapped at a REVOKE's change epoch (R337). -/
def State.revokePages (s : State) (n vpn count : Nat) : State :=
  let i := s.inst n
  let gone := i.pages.filter (fun p => decide (vpn ≤ p.1) && decide (p.1 < vpn + count))
  let used := gone.any (fun p => (s.instUsed n).contains (p.2 - 1))
  let s := s.setInst n { i with pages := i.pages.filter (fun p => decide (p.1 < vpn) || decide (vpn + count ≤ p.1)) }
  s.emit .instResourceRevoked n [vpn, count, if used then 1 else 0]

/-- One accepted change takes effect. -/
def State.takeChange (s : State) (n : Nat) (c : PendingChange) : State :=
  match c with
  | .create g => ((s.setInst n { s.inst n with grants := g, credit := 0, creditAt := s.time.lct }).instTo n .active).flushVecs n
  | .change g => ((s.draw n 0).setInst n { (s.draw n 0).inst n with grants := g }).flushVecs n
  | .revoke v k => s.revokePages n v k
  | .freeze => s.setInst n { s.inst n with freezing := true, draining := true, drainStart := s.now }
  | .thaw => s.instTo n .active

/-- Changes of an instance whose epoch has come take effect in the order of their acceptance. -/
def State.takeChanges (s : State) (n : Nat) : List (PendingChange × Nat) → State
  | [] => s
  | (c, e) :: t =>
    if e ≤ s.now then
      let i := s.inst n
      ((s.setInst n { i with changes := i.changes.erase (c, e) }).takeChange n c).takeChanges n t
    else s.takeChanges n t

/-- INST_CHANGE_EPOCH (R320). -/
def execInstChangeEpoch (t : Nat) (n : Fin 32) (s : State) : Host.Outcome State Fault Refusal :=
  let s := s.at t
  .next (s.takeChanges n.val (s.inst n.val).changes)

/-! ## Drains (R338, R339) -/

/-- INST_DRAIN_TIMEOUT (R338, R339): DRAIN_MS has passed and work remains: a reset squashes it; a freeze fails with MODE 0x43 and the
instance is ACTIVE as before. -/
def execInstDrainTimeout (t : Nat) (n : Fin 32) (s : State) : Host.Outcome State Fault Refusal :=
  let s := s.at t
  let i := s.inst n.val
  let left : Bool := !i.works.isEmpty || !i.groups.isEmpty
  if i.draining && left && decide (i.drainStart + i.grants.drainMs * 1000000 ≤ s.now) then
    if i.freezing then
      .next (s.setInst n.val { i with freezing := false, draining := false, result := reasonCode (cMode, 0x43), done := true })
    else .next (s.squash n.val)
  else .next s

/-- A work queue disabled with its pointers at 0. -/
def WorkQueue.stopped (q : WorkQueue) : WorkQueue := { q with en := false, head := 0, tail := 0, err := false, errCode := 0 }

/-- The queues and rings of a reset instance, disabled with their pointers at 0; pending vectors cleared (R338). -/
def Inst.stopped (i : Inst) : Inst :=
  { i with
    queues := Tab.mapAll {} (fun _ q => WorkQueue.stopped q) i.queues, turn := 0,
    cq := { i.cq with en := false, head := 0, tail := 0, records := [], signalled := false },
    evq := { i.evq with en := false, rd := 0, wr := 0, records := [], signalled := false, lostSince := 0 },
    vecPend := 0, draining := false, freezing := false, resetClear := false, destroying := false, groups := [] }

/-- RESET_DRAIN_COMPLETE (R319, R338): with CLEAR the surfaces go (their windows went with the generation committed at acceptance); a
destroyed instance gives up its pages and is FREE. -/
def execResetDrainComplete (t : Nat) (n : Fin 32) (s : State) : Host.Outcome State Fault Refusal :=
  let s := s.at t
  let i := s.inst n.val
  if i.state = .resetting ∧ i.works = [] then
    let s := if i.resetClear then s.dropSurfs n.val else s
    if i.destroying then
      let s := s.instTo n.val .free
      .next (s.setInst n.val { result := i.result, done := i.done, mmuResult := i.mmuResult, mmuDone := i.mmuDone })
    else
      .next (((s.setInst n.val (Inst.stopped (s.inst n.val))).emit .instResetDone n.val []).instTo n.val .active)
  else .next s

/-- FREEZE_COMPLETE (R339): accepted work and page requests are finished. -/
def execFreezeComplete (t : Nat) (n : Fin 32) (s : State) : Host.Outcome State Fault Refusal :=
  let s := s.at t
  let i := s.inst n.val
  if i.freezing ∧ i.works = [] ∧ i.groups = [] then
    .next (((s.setInst n.val { i with freezing := false, draining := false }).instTo n.val .frozen).emit .instFrozen n.val [])
  else .next s

/-- What a save of an instance holds (R339). -/
def State.savedInst (s : State) (n : Nat) : RestoreBlob :=
  let i := s.inst n
  let g := i.grants
  let slots := (g.safeWl.filter (fun e => e.en)).flatMap (fun e => (List.range e.glyphCount).map (fun k => e.glyphBase + k))
  { formed := true, stepping := 0xA1, fwMajor := s.glb.fwVersion.toNat / 2 ^ 24, memSize := s.adm.memSize, grants := g, vpns := keys i.pages,
    queues := (List.range 4).map (Tab.get {} i.queues), cq := i.cq, evq := i.evq, vecMask := i.vecMask, vecPend := i.vecPend,
    surfs := (s.surfs.filter (fun p => p.2.created && p.2.owner == n)).map (fun p =>
      { index := p.1, format := p.2.format, w := p.2.w, h := p.2.h, maxRate := p.2.maxRate, commits := p.2.commits, blaze := p.2.blaze,
        samples := match p.2.latest with
          | some b => sampleList (Tab.get ({} : Frame) p.2.bufs b).samples
          | none => [] }),
    wins := (WinTable.gen s.win s.win.active).filter (fun p =>
      Desc.en p.2 && decide (g.winBase ≤ p.1) && decide (p.1 < g.winBase + g.winCount)),
    glyphs := slots.map (fun k => (k, (List.range 1024).map (fun j => Tab.get 0 s.safe.glyphs (1024 * k + j)))),
    cells := (s.safe.writers.filter (fun p => p.2 == n + 1)).map (fun p =>
      (p.1 / 65536, p.1 % 65536 % 120, p.1 % 65536 / 120, Tab.get 0 s.safe.cells p.1)) }

/-- SAVE_COMPLETE (R339). -/
def execSaveComplete (t : Nat) (n : Fin 32) (s : State) : Host.Outcome State Fault Refusal :=
  let s := s.at t
  let i := s.inst n.val
  match i.saving with
  | some len =>
    .next (((s.setInst n.val { i with saving := none }).setReg (Reg.instBlobLen n.val) len).send (.saveBlob n.val (s.blobAddr n.val)
      (s.saveBytes (s.savedInst n.val) len)))
  | none => .next s

/-- RESTORE_COMPLETE (R340, R341): queues, rings, vectors, glyphs and cells as the blob gives them. -/
def execRestoreComplete (t : Nat) (n : Fin 32) (s : State) : Host.Outcome State Fault Refusal :=
  let s := s.at t
  let i := s.inst n.val
  match i.restoring with
  | some b =>
    let qs := b.queues.zipIdx.foldl (fun (a : Tab WorkQueue) p => Tab.set {} a p.2 p.1) []
    let s := s.setInst n.val { i with
      restoring := none, queues := qs, cq := b.cq, evq := b.evq, vecMask := b.vecMask, vecPend := b.vecPend }
    let heads := b.cells.foldl (fun (m : BitVec 16) c => m ||| BitVec.ofNat 16 (2 ^ c.1)) 0
    let p : SafePending :=
      { by_ := .inst n.val, receipt := s.now, heads := if b.cells.isEmpty then 0xFFFF else heads, glyphs := b.glyphs, palette := [],
        cells := b.cells, counted := false }
    let s := if b.glyphs.isEmpty && b.cells.isEmpty then s else s.safeQueue p
    .next ((s.instTo n.val .frozen).emit .instRestored n.val [])
  | none => .next s

end Sys2Proof.Machine
end

