-- ==== Sys2Proof/Machine/Isolate.lean ====
section
/-! DEFINITION. Isolation of units, shedding, the continuous self-test and health reports (R308, R416, R419, R420, R445 to R448). -/

namespace Sys2Proof.Machine

/-! ## Stopping a unit (R419) -/

/-- A context's parts on core `k` that are not done wait to start again; the row in progress is discarded (R182). -/
def State.unseat (s : State) (k n : Nat) : State :=
  match (s.ctx n).picture with
  | some p => s.setCtx n { s.ctx n with
      picture := some { p with
        parts := p.parts.map (fun (q : PicPart) => if q.core = k ∧ q.state ≠ .done then { q with state := .waiting } else q) } }
  | none => s

/-- A decode core stops: its work goes back to the contexts. -/
def State.stopDec (s : State) (k : Nat) : State :=
  let s := (keys s.ctxs).foldl (fun s n => s.unseat k n) s
  let s := ((s.syncCore k).endWork k false).dropToken .decode k
  s.setCore k { s.core k with job := none, saved := [], why := 0, state := .isolated }

/-- A sheet engine stops: the sheet frames that it composes are given up. -/
def State.stopEngine (s : State) (e : Nat) : State :=
  let s := s.freeEngine e
  let s := (keys s.sheets).foldl (fun s n =>
    let x := s.sheet n
    let gone := x.composing.filter (fun c => c.engine == e)
    let refs := (gone.flatMap (fun c => c.todo.filterMap (fun p => p.2.2))).eraseDups
    let s := gone.foldl (fun s c => s.modFrame ⟨.sheet n, c.buf⟩ Frame.abandon) s
    let s := s.setSheet n { s.sheet n with composing := x.composing.filter (fun c => c.engine != e) }
    s.sheetMarks n refs) s
  (s.setEngine e { s.engine e with state := 3 }).dropToken .sheet e

/-- A recorder core stops: its tiles go back to their pictures; the row in progress is discarded (R269). -/
def State.stopRecCore (s : State) (k : Nat) : State :=
  let mine := (s.recCore k).job.toList ++ (s.recCore k).saved
  let s := ((s.syncRec k).endWork (unitRec k) false).dropToken .recorder k
  let s := mine.eraseDups.foldl (fun s (q : Nat × Nat) =>
    let x := s.recording q.1
    match x.pics with
    | p :: t =>
      let drop := fun (l : List Nat) => l.filter (fun y => y ≠ q.2)
      s.setRecording q.1 { x with
        pics := { p with waiting := q.2 :: drop p.waiting, saved := drop p.saved, waitPage := drop p.waitPage } :: t }
    | [] => s) s
  s.setRecCore k { s.recCore k with job := none, saved := [], why := 0, state := 3 }

/-- A head stops: transmitter off, no window evaluated; it is compared no more (R295, R419). -/
def State.stopHead (s : State) (h : Nat) : State :=
  let s := if (s.head h).state = .run then s.stopRaster h else s
  let s := ((s.untrain h).dropToken .training h).headTo h .isolated
  let b := BitVec.ofNat 16 (2 ^ h)
  let s := { s with pair := { s.pair with excl := s.pair.excl ||| b, armed := s.pair.armed &&& ~~~b } }
  s.settleHead h

/-- A lane stops: it is OFF, the other lanes of its bond go DOWN. -/
def State.stopLane (s : State) (l : Nat) : State := s.bondTo l (fun k => if k = l then .off else .down)

/-! ## Shedding (R420) -/

/-- An object is turned off in the admitted configuration and in what waits to take effect. -/
def State.shedObj (s : State) (idx : Nat) : State :=
  let off := fun (t : Tab Obj) => Tab.mod {} t idx (fun (o : Obj) => { o with on := false })
  { s with
    adm := { s.adm with
      objs := off s.adm.objs,
      waiting := s.adm.waiting.map (fun (p : Nat × List Nat × List Nat × Tab Obj) => (p.1, p.2.1, p.2.2.1, off p.2.2.2)) } }

/-- The greatest of a list. -/
def greatest (l : List Nat) : Option Nat := l.foldl (fun (a : Option Nat) n => some (max n (a.getD n))) none

/-- Decode contexts stop in descending order until the packing of R178 succeeds. Answers those stopped. -/
def State.shedCtxs (s : State) : Nat → State × List Nat
  | 0 => (s, [])
  | fuel + 1 =>
    if s.decodePack.isSome then (s, [])
    else match greatest (s.allParts.map (fun p => p.owner)) with
      | none => (s, [])
      | some n =>
        let r := ((s.shedObj (0x4100 + n)).emit .modeShed 0 [0, n]).shedCtxs fuel
        (r.1, (0x4100 + n) :: r.2)

/-- Sheets stop in descending order until the placement of R228 succeeds. -/
def State.shedSheets (s : State) : Nat → State
  | 0 => s
  | fuel + 1 =>
    if s.placeSheets.isSome then s
    else match greatest ((s.aSheets.filter (fun p => !(s.sheet p.1).stopped)).map Prod.fst) with
      | none => s
      | some n =>
        let s := [0, 1].foldl (fun s e => if (s.engine e).sheet = some n then s.freeEngine e else s) s
        let x := s.sheet n
        let refs := (x.composing.flatMap (fun c => c.todo.filterMap (fun p => p.2.2))).eraseDups
        let s := x.composing.foldl (fun s c => s.modFrame ⟨.sheet n, c.buf⟩ Frame.abandon) s
        let s := (s.setSheet n { s.sheet n with composing := [], stopped := true }).sheetMarks n refs
        ((s.settleSheet n).emit .modeShed 0 [1, n]).shedSheets fuel

/-- Recordings stop in descending order until the packing of R268 succeeds. -/
def State.shedRecs (s : State) : Nat → State × List Nat
  | 0 => (s, [])
  | fuel + 1 =>
    if s.recPack.isSome then (s, [])
    else match greatest (s.aRecs.map Prod.fst) with
      | none => (s, [])
      | some r =>
        let q := ((s.shedObj (0x5200 + r)).emit .modeShed 0 [2, r]).shedRecs fuel
        (q.1, (0x5200 + r) :: q.2)

/-- The packings are redone over what is left; work that does not fit is stopped (R419, R420). -/
def State.repack (s : State) : State :=
  let a := s.shedCtxs 160
  let b := (a.1.shedSheets 32).shedRecs 16
  let s := b.1
  let live := (a.2 ++ b.2).foldl (fun (t : Tab Obj) i => Tab.mod {} t i (fun (o : Obj) => { o with on := false })) s.adm.live
  let s := (s.fitPools.s).goLive s.now [] [] live
  let s := (keys s.ctxs).foldl (fun s n =>
    match (s.ctx n).picture with
    | some p =>
      s.setCtx n { s.ctx n with
        picture := some { p with
          parts := p.parts.map (fun (q : PicPart) =>
            if (s.core q.core).state = .isolated ∧ q.state ≠ .done then { q with core := (s.coreOf n q.part).getD q.core } else q) } }
    | none => s) s
  [0, 1].foldl (fun s e => s.runEngine e) s

/-! ## Isolation (R416, R419) -/

/-- The event's number of a unit's kind, and its index. -/
def IsoUnit.name : IsoUnit → Nat × Nat
  | .dec k => (0, k.val) | .sheet e => (1, e.val) | .rec_ k => (2, k.val) | .head h => (3, h.val) | .lane l => (4, l.val)
  | .eth p => (5, p.val)

/-- Whether a unit is isolated. -/
def State.isolated (s : State) : IsoUnit → Bool
  | .dec k => s.mode.isoCore.getLsbD k.val
  | .sheet e => s.mode.isoCore.getLsbD (16 + e.val)
  | .rec_ k => s.mode.isoCore.getLsbD (18 + k.val)
  | .eth p => s.mode.isoCore.getLsbD (22 + p.val)
  | .head h => s.mode.isoHead.getLsbD h.val
  | .lane l => s.mode.isoLane.getLsbD l.val

/-- Record a unit as isolated. -/
def State.markIsolated (s : State) (u : IsoUnit) : State :=
  let m := s.mode
  let core := fun (i : Nat) => s.setMode { m with isoCore := m.isoCore ||| BitVec.ofNat 32 (2 ^ i) }
  match u with
  | .dec k => core k.val
  | .sheet e => core (16 + e.val)
  | .rec_ k => core (18 + k.val)
  | .eth p => core (22 + p.val)
  | .head h => s.setMode { m with isoHead := m.isoHead ||| BitVec.ofNat 16 (2 ^ h.val) }
  | .lane l => s.setMode { m with isoLane := m.isoLane ||| BitVec.ofNat 32 (2 ^ l.val) }

/-- Stop a unit. -/
def State.stopUnit (s : State) : IsoUnit → State
  | .dec k => s.stopDec k.val
  | .sheet e => s.stopEngine e.val
  | .rec_ k => s.stopRecCore k.val
  | .head h => s.stopHead h.val
  | .lane l => s.stopLane l.val
  | .eth _ => s

/-- Isolate a unit: it stops, leaves every packing and capacity, and RUN or SHADOW becomes DEGRADED (R413, R419). -/
def State.isolate (s : State) (u : IsoUnit) : State :=
  if s.isolated u then s
  else
    let s := (s.markIsolated u).stopUnit u
    let s := s.emit .modeIsolate 0 [(IsoUnit.name u).1, (IsoUnit.name u).2]
    let s := s.repack
    if trialMode s.mode.mode then s.modeTo .degraded 0 else s

/-- Change the health unit. -/
def State.setHealth (s : State) (h : HealthUnit) : State := { s with prot := { s.prot with health := h } }

/-- UNCORRECTABLE_ERROR (R416, R419, R447): in DRAM zone 0 it leads to SAFE-HOLD with cause MEMORY, in a unit's own state to isolation. -/
def execUncorrectableError (t : Nat) (w : EccSite) (s : State) : Host.Outcome State Fault Refusal :=
  let s := s.at t
  if !s.up then .next s
  else
    let s := s.setHealth { s.prot.health with eccUe := s.prot.health.eccUe + 1 }
    match w with
    | .dram z => .next (if z = 0 then s.ownSafeHold .memory else s)
    | .sram => .next s
    | .unit u => .next (s.isolate u)

/-! ## Self-test (R445, R446) -/

/-- The unit that a self-test number names: R435's units; 39 SRAM, 40 DRAM patrol and 41 PLL are none of R419. -/
def isoOf (u : Nat) : Option IsoUnit :=
  if h : u < 16 then some (.dec ⟨u, h⟩)
  else if h : u - 16 < 2 then some (.sheet ⟨u - 16, h⟩)
  else if h : u - 18 < 4 then some (.rec_ ⟨u - 18, h⟩)
  else if h : u - 22 < 16 then some (.head ⟨u - 22, h⟩)
  else none

/-- A unit under test is not isolated. -/
def State.testable (s : State) (u : Nat) : Bool :=
  match isoOf u with
  | some x => !s.isolated x
  | none => true

/-- A core or the DMA holds no runnable job. Heads are tested in vertical blanking; SRAM, DRAM patrol and PLL monitors run beside work. -/
def State.testIdle (s : State) (u : Nat) : Bool :=
  if u < 16 then (s.core u).job.isNone
  else if u < 18 then (s.engine (u - 16)).sheet.isNone
  else if u < 22 then (s.recCore (u - 18)).job.isNone
  else if u = 38 then s.dma.isNone
  else true

/-- The units of a full round: all but those isolated. -/
def State.testUnits (s : State) : List Nat := (List.range 41).filter s.testable

/-- A pass has run: the round ends when every unit has run. -/
def State.testRan (s : State) (u : Nat) : State :=
  let h := s.prot.health
  let round := if h.round.contains u then h.round else u :: h.round
  let full := s.testUnits.all (fun x => round.contains x)
  s.setHealth { h with
    lastRun := Tab.set 0 h.lastRun u s.now, starved := h.starved.filter (fun x => x ≠ u),
    round := if full then [] else round, stLast := if full then s.now else h.stLast,
    checked := h.checked.map (fun l => if l.contains u then l else u :: l) }

/-- A failed pass: a second consecutive one isolates the unit; of the memory patrol it leads to SAFE-HOLD (R416, R419, R446). -/
def State.testFailed (s : State) (u : Nat) : State :=
  let h := s.prot.health
  let again := h.pending.contains u
  let s := s.setHealth { h with pending := if again then h.pending else u :: h.pending }
  let s := s.emit .modeSelftestFail 0 [u, 0]
  if !again then s
  else match isoOf u with
    | some x => s.isolate x
    | none => if u = 40 then s.ownSafeHold .memory else s

/-- SELFTEST_RUN (R445, R446): a pass of unit `u`, or what its monitor finds. -/
def execSelftestRun (t : Nat) (u : Fin 42) (pass : Bool) (s : State) : Host.Outcome State Fault Refusal :=
  let s := s.at t
  if s.up ∧ s.testable u.val ∧ s.testIdle u.val then
    let s := s.testRan u.val
    let h := s.prot.health
    if !pass then .next (s.testFailed u.val)
    else if h.pending.contains u.val then
      .next (s.setHealth { h with pending := h.pending.filter (fun x => x ≠ u.val), clearedAt := some s.now })
    else .next s
  else .next s

/-- The period of a unit's test, ns: engines, heads and the DMA 1 s, 100 ms in SHADOW; SRAM 1 s; DRAM patrol 24 h (R445). -/
def State.testPeriod (s : State) (u : Nat) : Nat :=
  if u = 40 then 86400000000000
  else if u = 39 then 1000000000
  else if s.mode.mode = .shadow then 100000000 else 1000000000

/-- SELFTEST_STARVED (R445): no pass within 10 periods. -/
def execSelftestStarved (t : Nat) (u : Fin 41) (s : State) : Host.Outcome State Fault Refusal :=
  let s := s.at t
  let h := s.prot.health
  let last := max (Tab.get 0 h.lastRun u.val) h.bootAt
  if s.up ∧ s.testable u.val ∧ ¬ h.starved.contains u.val ∧ last + 10 * s.testPeriod u.val ≤ s.now then
    .next ((s.setHealth { h with starved := u.val :: h.starved }).emit .modeSelftestFail 0 [u.val, 1])
  else .next s

/-- PLL_MONITOR_FAIL (R445, R447). -/
def execPllMonitorFail (t : Nat) (s : State) : Host.Outcome State Fault Refusal :=
  let s := s.at t
  if s.up then .next (s.testFailed 41) else .next s

/-! ## Health reports (R308, R447, R448) -/

/-- Electrodes excluded (R358). -/
def State.touchFail (s : State) : Nat :=
  (s.console.ports.map (fun (p : Nat × Touch) => p.2.failNodes.length + p.2.failD.length + p.2.failS.length)).foldl (· + ·) 0

/-- FAULTS (R447). -/
def State.faultBits (s : State) (temp : BitVec 16) : Nat :=
  let h := s.prot.health
  let recent := fun (x : Option Nat) => x.any (fun a => decide (s.now < a + 1000000000))
  (([!h.pending.isEmpty || recent h.clearedAt, h.eccUe != 0, recent h.lockstepAt, h.wdWarns != 0, s.anyIsolated,
     s.heads.any (fun p => !p.2.phaseOk), h.fwFault, h.boardInvalid, s.aon.debugProbed, decide (840 ≤ temp.toInt),
     s.touchFail != 0, h.misses != 0, s.mode.mode == .safeHold, s.prot.development, s.mode.mode == .proving] : List Bool).zipIdx.map
    (fun b => b2n b.1 * 2 ^ b.2)).foldl (· + ·) 0

/-- PAIR: PSTATE, ROLE, SIDE (R447). -/
def State.pairByte (s : State) : Nat := s.pair.state.code + 16 * b2n s.pair.shadow + 32 * b2n s.board.sideB

/-- Saturate at 16 bits. -/
def sat16 (v : Nat) : Nat := min v 0xFFFF

/-- The 124 bytes of a report before its CRC (R447): `ce` corrected errors in the interval. -/
def State.reportBody (s : State) (temp : BitVec 16) (ce : Nat) : List Byte :=
  let h := s.prot.health
  leBytes 2 1 ++ leBytes 1 s.mode.mode.code ++ leBytes 1 s.pairByte ++ leBytes 4 (h.seq + 1) ++ leBytes 8 s.now ++
    leBytes 4 (s.faultBits temp) ++ leBytes 4 s.mode.isoCore.toNat ++ leBytes 4 s.mode.isoLane.toNat ++ leBytes 2 s.mode.isoHead.toNat ++
    leBytes 2 temp.toNat ++ leBytes 8 ((h.pending.map (fun u => 2 ^ u)).foldl (· + ·) 0) ++ leBytes 4 ce ++ leBytes 2 (sat16 h.eccUe) ++
    leBytes 2 (sat16 h.wdWarns) ++ leBytes 2 (sat16 h.misses) ++ leBytes 2 (sat16 h.mpuFaults) ++ leBytes 2 (sat16 s.touchFail) ++
    leBytes 2 0 ++ leBytes 4 (s.runSlot.hash.headD 0).toNat ++ leBytes 4 (Tab.get 0 s.glb.cfgHash 0).toNat ++ leBytes 8 h.stLast ++
    leBytes 52 0

/-- A report with its CRC-32 (R447). -/
def withCrc (l : List Byte) : List Byte := l ++ leBytes 4 (crc32 (l.map BitVec.toNat))

/-- After a divergence the self-check is over: every unit not isolated has run, or D + 80 ms has passed (R446). -/
def State.checkOver (s : State) (l : List Nat) : Bool :=
  (s.testUnits.filter (fun u => decide (u < 39))).all (fun u => l.contains u) ||
    s.pair.lastDiv.any (fun v => decide (v.d + 80000000 ≤ s.now))

/-- HEALTH_REPORT (R308, R448): produced, stored, sent; a change of FAULTS is reported. -/
def execHealthReport (t : Nat) (temp : BitVec 16) (ce : Nat) (s : State) : Host.Outcome State Fault Refusal :=
  let s := s.at t
  if !s.up then .next s
  else
    let h := s.prot.health
    let f := BitVec.ofNat 32 (s.faultBits temp)
    let r := withCrc (s.reportBody temp ce)
    let s := s.setHealth { h with
      seq := h.seq + 1, temp := temp, faults := f, report := r, eccUe := 0, wdWarns := 0, mpuFaults := 0, misses := 0,
      checked := if h.checked.any s.checkOver then none else h.checked }
    let m : Health := { time := s.now, faults := f, isoHead := s.mode.isoHead }
    let s := { s with
      pair := { s.pair with ownHealth := (s.pair.ownHealth.filter (fun (p : Health) => decide (s.now ≤ p.time + 1000000000))) ++ [m] } }
    let s := s.sendPairBytes (.health m) r
    .next (if f = h.faults then s else s.emit .modeHealth 0 [f.toNat])

end Sys2Proof.Machine
end

