-- ==== Sys2Proof/Machine/Prov.lean ====
section
/-! DEFINITION. Counters selected, tallies, injectors armed, the injection log and the lane margin scan (R436, R441 to R443, R450 to
R457). -/

namespace Sys2Proof.Machine

/-! ## Counters (R435, R436, R455) -/

/-- Bring the slots and cycles of a unit up to now. -/
def State.syncUnit (s : State) (u : Nat) : State :=
  if u < 16 then s.syncCore u
  else if u < 18 then s.syncEngine (u - 16)
  else if u < 22 then s.syncRec (u - 18)
  else if u < 38 then s.syncHead (u - 22)
  else s.syncDma

/-- PMC_SEL_WRITE (R436): the counter counts its new event from 0. -/
def execPmcSelWrite (t : Nat) (u : Fin 39) (i : Fin 8) (v : BitVec 32) (s : State) : Host.Outcome State Fault Refusal :=
  let s := (s.at t).syncUnit u.val
  let s := s.setReg (Reg.pmcSel u.val i.val) (v.toNat &&& 0x800000FF)
  .next { s with progs := Tab.set 0 s.progs (8 * u.val + i.val) 0 }

/-! ## Tallies (R441 to R443, R456) -/

/-- TALLY_START (R443): an admission request. -/
def execTallyStart (t : Nat) (s : State) : Host.Outcome State Fault Refusal :=
  let s := s.at t
  let origin := s.reg Reg.tallyOriginLo + s.reg Reg.tallyOriginHi * 2 ^ 32
  .next ((s.setReg 0x90004 0).request .tallyRegs [.tallyStart origin (s.reg Reg.tallyPeriod) (s.reg Reg.tallyRingPages)])

/-- TALLY_STOP (R456): no further edge; the ring's pages return to the pool. -/
def execTallyStop (t : Nat) (s : State) : Host.Outcome State Fault Refusal :=
  let s := s.at t
  .next (({ s with
    prot := { s.prot with tally := { s.prot.tally with running := false } },
    adm := { s.adm with tally := [] } }).setResult 0x90004 0)

/-- 8 bytes for each slot counter and programmable counter of a unit; what a unit lacks is 0 (R442). -/
def State.unitRecord (s : State) (u : Nat) : List Byte :=
  let x := s.unitSlots u
  ([x.cycles, x.retired, x.wasted, x.front, x.back] ++ (List.range 8).map (fun i => Tab.get 0 s.progs (8 * u + i))).flatMap
    (fun (v : BitVec 48) => leBytes 8 v.toNat) ++ leBytes 24 0

/-- Four-byte registers, one after another. -/
def State.regWords (s : State) (l : List Nat) : List Byte := l.flatMap (fun r => leBytes 4 (s.reg r))

/-- The 24,576 bytes of a tally record (R442). -/
def State.tallyRecord (s : State) (edge : Nat) : List Byte :=
  let t := s.prot.tally
  let words := fun (l : List (BitVec 32)) => l.flatMap (fun v => leBytes 4 v.toNat)
  leBytes 2 1 ++ leBytes 2 40 ++ leBytes 4 t.seq ++ leBytes 8 edge ++ leBytes 8 t.prev ++ leBytes 4 t.lost ++
    leBytes 1 s.mode.mode.code ++ leBytes 3 0 ++ leBytes 4 (Tab.get 0 s.glb.cfgHash 0).toNat ++ leBytes 4 t.period ++ leBytes 24 0 ++
  (List.range 40).flatMap s.unitRecord ++
  (List.range 128).flatMap (fun c => s.regWords ((List.range 24).map (Reg.chCount c))) ++
  (List.range 16).flatMap (fun h => s.regWords ((List.range 16).map (Reg.headCount h))) ++
  (List.range 256).flatMap (fun k => let x := s.surf k; words [x.commits, x.failed, x.misses, x.snags]) ++
  (List.range 16).flatMap (fun r =>
    let x := s.recording r
    words [x.exhausted, x.missed, x.dropped, x.idxLost, x.rtpDrop] ++ leBytes 12 0) ++
  (List.range 40).flatMap (fun u => if u < 39 then leBytes 4 (s.reg (Reg.pmcOvf u)) else leBytes 4 0) ++
  s.regWords ((List.range 128).map Reg.chOvf) ++ s.regWords ((List.range 16).map Reg.headOvf) ++ leBytes 736 0

/-- Records the ring holds (R443). -/
def State.tallyRoom (s : State) : Nat := s.adm.tally.length * 2097152 / 24576

/-- A running locked head has its epoch at instant `e` and has not latched there: a tally of that instant comes after (R36). -/
def State.latchOwed (s : State) (e : Nat) : Bool :=
  s.heads.any (fun p =>
    let x := p.2
    x.state == .run && !x.cfg.ready && epochAtOrBefore x.cfg.t0 x.cfg.period e == some e && decide (x.admittedAt ≤ e) &&
      decide (x.lastEpoch.getD 0 < e))

/-- TALLY_EDGE (R441 to R443): the next edge has come; its record is written, or lost where the ring is full. It follows the latches of
its instant (R36). -/
def execTallyEdge (t : Nat) (s : State) : Host.Outcome State Fault Refusal :=
  let s := s.at t
  let y := s.prot.tally
  let edge := y.next
  let after := edge + y.period * 1000
  if y.running ∧ edge ≤ s.now ∧ ¬ s.latchOwed edge then
    let s := (List.range 39).foldl State.syncUnit s
    let put := fun (s : State) (z : TallyUnit) => { s with prot := { s.prot with tally := z } }
    if unread y.written (s.reg Reg.tallyRd) < s.tallyRoom then
      let base := s.adm.tally.headD 0 * 2097152 + y.written % s.tallyRoom * 24576
      let s := s.dramWrite base (s.tallyRecord edge)
      .next (put s { y with next := after, seq := (y.seq + 1) % 2 ^ 32, written := (y.written + 1) % 2 ^ 32, prev := edge, lost := 0 })
    else
      let due : Bool := match y.lostEvt with
        | some e => decide (e + 1000000000 ≤ s.now)
        | none => true
      let s := s.count Reg.tallyLost 1
      let s := put s { y with
        next := after, seq := (y.seq + 1) % 2 ^ 32, lost := y.lost + 1, lostEvt := if due then some s.now else y.lostEvt }
      .next (if due then s.emit .modeTallyLost 0 [] else s)
  else .next s

/-! ## Injectors (R450 to R452, R457) -/

/-- A write of the injector and scan registers outside PROVING is discarded and counted (R450). -/
def State.provRefuse (s : State) : State := s.count Reg.provRefused 1

/-- An injector armed from its registers (R451, R457). -/
def State.armed (s : State) (i v : Nat) : Injector :=
  let sel := s.reg (Reg.injSel i)
  { armed := true, target := bits v 2 1, action := bits v 5 4, pass := bit v 6, index := bits v 12 8, sel := bits sel 7 0,
    path := bits sel 8 8, all := bit sel 15, start := s.reg (Reg.injStart i), every := s.reg (Reg.injEvery i),
    count := s.reg (Reg.injCount i), param := s.reg (Reg.injParam i) }

/-- INJECTOR_ARM (R451): a write of an injector's CTRL. With EN set a disarmed injector reads its registers and arms; an armed one goes
on as it was armed. With EN clear, or with a reserved TARGET or ACTION, it is disarmed. -/
def execInjectorArm (t : Nat) (i : Fin 16) (v : BitVec 32) (s : State) : Host.Outcome State Fault Refusal :=
  let s := s.at t
  if s.mode.mode = .proving then
    let w := v.toNat &&& 0x1F77
    let x := s.injector i.val
    let s := s.setReg (Reg.injCtrl i.val) w
    if bit w 0 ∧ bits w 2 1 ≠ 3 ∧ bits w 5 4 ≠ 3 then
      .next (if x.armed then s else s.setInjector i.val (s.armed i.val w))
    else .next (s.setInjector i.val { x with armed := false })
  else .next s.provRefuse

/-- PROV_LOG_POP (R452, R457): a read of PROV.LOG_W0 takes the oldest entry, which LOG_W1 to LOG_W3 then show. -/
def execProvLogPop (t : Nat) (s : State) : Host.Outcome State Fault Refusal :=
  let s := s.at t
  match s.prov.log with
  | e :: l =>
    .next { s with prov := { s.prov with log := l, popped := some e }, readData := e.inj + e.action * 2 ^ 4 + 2 ^ 31 }
  | [] => .next { s with prov := { s.prov with popped := none }, readData := 0 }

/-! ## The lane margin scan (R454) -/

/-- Change the scan. -/
def State.setScan (s : State) (c : Scan) : State := { s with prov := { s.prov with scan := c } }

/-- The bond that PROV.SCAN.CFG names may be scanned: it is admitted with that width, its role is FIXTURE or PAIR, its partner's KIND is 2
or 3, the rate is none reserved, and DWELL_MS is in its range. -/
def State.scanOk (s : State) (v : Nat) : Bool :=
  let f := bits v 4 0
  let b : BondCfg := Tab.get {} s.bonds f
  b.en && bits v 6 5 != 3 && b.width == 2 ^ bits v 6 5 && (b.role == .fixture || b.role == .pair) && bits v 9 8 != 3 &&
    decide (10 ≤ bits v 27 16) && decide (bits v 27 16 ≤ 4000) && match (s.lane f).ident with
    | some i => i.kind == 2 || i.kind == 3
    | none => false

/-- MARGIN_SCAN_START (R454): CTLE steps 0 to 7 in turn; while a scan runs a further START is ignored. -/
def execMarginScanStart (t : Nat) (s : State) : Host.Outcome State Fault Refusal :=
  let s := s.at t
  let v := s.reg Reg.scanCfg
  if s.mode.mode ≠ .proving then .next s.provRefuse
  else if s.prov.scan.busy then .next s
  else if s.scanOk v then
    .next (s.setScan
      { busy := true, first := bits v 4 0, width := 2 ^ bits v 6 5, rate := bits v 9 8, dwell := bits v 27 16,
        txHold := bits v 31 28 }).scanTrain
  else .next (s.setScan { s.prov.scan with fail := true })

/-- MARGIN_SCAN_ABORT (R454): the bond is trained again with the board record's settings. -/
def execMarginScanAbort (t : Nat) (s : State) : Host.Outcome State Fault Refusal :=
  let s := s.at t
  if s.mode.mode ≠ .proving then .next s.provRefuse
  else if s.prov.scan.busy then .next (s.scanRestore false) else .next s

/-- SCAN_DWELL_END (R454): DWELL_MS after the step's training; `errs` are the character errors of the dwell that no other command has
brought, by lane of the bond. -/
def execScanDwellEnd (t : Nat) (errs : List (Nat × Nat)) (s : State) : Host.Outcome State Fault Refusal :=
  let s := s.at t
  let c := s.prov.scan
  match c.dwellFrom with
  | some a =>
    if c.busy ∧ a + c.dwell * 1000000 ≤ s.now then
      let s := s.bondErrs c.first errs
      .next (s.scanNext (fun k => BitVec.ofNat 32 (min (Tab.get 0 s.prov.scan.errs k) 0xFFFFFFFF)))
    else .next s
  | none => .next s

end Sys2Proof.Machine
end

