-- ==== Sys2Proof/Machine/PairRx.lean ====
section
/-! DEFINITION. What the messages of the pair link that carry manifests, commands, forwarded requests, fills, surface data and
control do (R295, R299 to R304, R310, R313, R314). -/

namespace Sys2Proof.Machine

/-! ## Manifests (R300, R301, R304) -/

/-- A capture frame of which the shadow has nothing: every line group is INVALID, and the context is in GAP (R301, R304). -/
def State.captureMissing (s : State) (n : Nat) (d : LuskoDecl) (m : Manifest) : State :=
  let s := if (s.ctx n).state = .sync then s.ctxTo n .decode else s
  match freeBuf (s.ctx n).bufs (s.ctx n).nBufs 0 with
  | none => (s.entryApplied m).gapBegin n
  | some b =>
    let q := BitVec.ofInt 16 m.first
    let st : FrameStart :=
      { frame := q, format := BitVec.ofNat 8 d.format, width := BitVec.ofNat 16 d.w, height := BitVec.ofNat 16 d.h,
        capt := BitVec.ofNat 64 (s.untagUs m.capt * 1000), rateNum := BitVec.ofNat 16 d.num, rateDen := BitVec.ofNat 16 d.den,
        trace := m.srcTrace, hold := m.hold }
    let fr : Frame := { inUse := true, w := d.w, h := d.h, fmt := luskoFmt d.format, seq := q, markDecode := true }
    (s.setFrame ⟨.ctx n, b⟩ fr).applyCapture n ⟨q, b, 0, st, m.srcTrace, 0, [], [], [], [], false⟩ m

/-- Closed frames that the active device sent no entry for are given up once a later frame's entry has come. -/
def State.dropClosed (s : State) (n : Nat) (l : List OpenFrame) : State :=
  l.foldl (fun s o => s.modFrame ⟨.ctx n, o.buf⟩ Frame.abandon) s

/-- A capture frame's entry: the shadow's own frame is closed, still open, or missing (R301). -/
def State.captureEntryRx (s : State) (n : Nat) (d : LuskoDecl) (m : Manifest) : State :=
  let c := s.ctx n
  let mine := fun (o : OpenFrame) => (o.frame.toNat : Int) == m.first
  match c.closed.find? mine with
  | some o =>
    let s := s.dropClosed n (c.closed.takeWhile (fun x => !mine x))
    (s.setCtx n { s.ctx n with closed := (c.closed.dropWhile (fun x => !mine x)).drop 1 }).applyCapture n o m
  | none =>
    if c.open_.any mine then s.setCtx n { c with entries := c.entries ++ [m] } else s.captureMissing n d m

/-- The entry of a surface commit that waits, with its data if it has come: the oldest of surface `k`. -/
def State.commitDue (s : State) (k : Nat) : Option (Manifest × Bool × List Sample) :=
  match s.pair.fills.find? (fun w => w.entry.kind == 2 && w.entry.index == k) with
  | some w => (s.pair.surfData.find? (fun d => d.1 == k && d.2.1 == w.entry.mseq)).map (fun d => (w.entry, d.2.2.1, d.2.2.2))
  | none => none

/-- Carry out the commits of surface `k` on the shadow as far as their data and free buffers are at hand: one whose data is incomplete is
squashed and sets GAP (R304). `fuel` bounds them. -/
def State.runCommits (s : State) (k : Nat) : Nat → State
  | 0 => s
  | fuel + 1 =>
    match s.commitDue k, freeBuf (s.surf k).bufs (s.surf k).nBufs 0 with
    | some (m, complete, px), some b =>
      let us := s.untagUs m.arrv
      let x := s.surf k
      let f := commitFrame x k m.first.toNat us
      let s := s.setSurf k { x with
        bufs := Tab.set {} x.bufs b (Frame.writeSamples f px), commitSeq := max x.commitSeq (m.first.toNat + 1) }
      let s := s.entryApplied m
      let s := { s with
        pair := { s.pair with surfData := s.pair.surfData.filter (fun d => !(d.1 == k && d.2.1 == m.mseq)) } }
      let s := if complete then s.gapEnd (1000 + k) else s.gapBegin (1000 + k)
      let w : Work := { id := 0, queue := 0, order := { op := .nop, fence := false, irq := false, tag := 0 }, acceptedAt := us * 1000, buf := b }
      (s.endCommit w k m.hold (complete && !m.partial_)).runCommits k fuel
    | _, _ => s

/-- A manifest entry received by the shadow (R301). A network entry waits for its own packets until HOLDOFF after its arrival; where
they lack or differ the shadow asks for a fill (R304). -/
def State.rxManifest (s : State) (m : Manifest) : State :=
  if !s.pairFollows then s
  else
    let put := fun (deadline : Nat) => { s with pair := { s.pair with fills := s.pair.fills ++ [(⟨m, deadline, none⟩ : FillWait)] } }
    match m.kind, s.netDecl m.index, s.luskoDecl m.index with
    | 2, _, _ => (put 0).runCommits m.index (s.pair.fills.length + 1)
    | 1, _, some d => s.captureEntryRx m.index d m
    | 3, _, some _ =>
      let c := s.ctx m.index
      if c.entries.isEmpty then s.applyAction m else s.setCtx m.index { c with entries := c.entries ++ [m] }
    | _, some x, _ =>
      let lacks : Bool := m.kind == 0 && (ownUnit (s.ctx m.index) m).isNone
      let t := put (s.now + x.holdoff * 1000)
      (if lacks then t.sendPair (.fillReq m.index m.mseq true) else t).runIngest m.index x
    | _, _, _ => s

/-- FILL_DATA received by the shadow, or a refusal; both count (R304, R315). -/
def State.rxFillData (s : State) (c mseq : Nat) (content : Option (List Nal × List (BitVec 8))) : State :=
  let v := s.reg Reg.pairFills
  let lo := v % 2 ^ 16
  let hi := v / 2 ^ 16
  let s := s.setReg Reg.pairFills
    (if content.isSome then min (lo + 1) 0xFFFF + hi * 2 ^ 16 else lo + min (hi + 1) 0xFFFF * 2 ^ 16)
  if !s.pairFollows then s
  else match content, s.netDecl c with
    | some u, some x =>
      let s := { s with
        pair := { s.pair with
        fills := s.pair.fills.map (fun (w : FillWait) =>
          if w.entry.kind == 0 && w.entry.index == c && w.entry.mseq == mseq then { w with content := some u } else w) } }
      s.runIngest c x
    | _, _ => s

/-- A surface commit's data received by the shadow (R299, R304). -/
def State.rxSurfData (s : State) (k mseq : Nat) (complete : Bool) (px : List Sample) : State :=
  if s.pairFollows then
    ({ s with pair := { s.pair with surfData := s.pair.surfData ++ [(k, mseq, complete, px)] } }).runCommits k
      (s.pair.fills.length + 1)
  else s

/-- FILL_TIMEOUT (R304): HOLDOFF after its entry the unit at the front of context `c` is forwarded as it is, and the context is in
GAP. -/
def execFillTimeout (t : Nat) (c : Fin 160) (s : State) : Host.Outcome State Fault Refusal :=
  let s := s.at t
  match s.pair.fills.find? (fun w => w.entry.kind != 2 && w.entry.index == c.val), s.netDecl c.val with
  | some w, some x =>
    if w.entry.kind = 0 ∧ w.deadline ≤ s.now ∧ s.pairFollows then
      let m := w.entry
      let l := entryPackets (s.ctx c.val) m
      let held := (List.range m.count).map (fun (i : Nat) => entryHas m i && l.any (fun h => h.seq == m.first + (i : Int)))
      let s := s.gapBegin c.val
      .next ((s.applyUnit x m true held (entryNals (s.ctx c.val) m)).runIngest c.val x)
    else .next s
  | _, _ => .next s

/-! ## Commands and forwarded requests (R302, R303) -/

/-- What arrives on CHAN 3. The shadow judges a request with its own model and applies it with the same A; one that comes after A, or
whose verdict differs, unpairs (R302). A verdict answers the request that the shadow forwarded (R303). -/
def State.rxCommand (s : State) : PairCmd → State
  | .accepted pos a reason r =>
    if !s.pairFollows then s
    else
      let late : Bool := decide (a < s.now)
      let j := s.judge a r
      let s := j.1
      let s := { s with pair := { s.pair with cmdPos := BitVec.ofNat 32 pos } }
      let s := if late then (s.emit .pairCmdLate 0 [(pos : Int)]).unpair else s
      if j.2.1 = reason then s else (s.emit .pairConfigDiverge 0 [(pos : Int), (reason : Int), (j.2.1 : Int)]).unpair
  | .verdict k reason =>
    match s.adm.forwarded.find? (fun p => p.1 == k) with
    | some p =>
      ({ s with adm := { s.adm with forwarded := s.adm.forwarded.filter (fun q => q.1 != k) } }).answer p.2 reason 0
    | none => s

/-- A request that the shadow forwards: the active device places it in its queue on receipt (R303). -/
def State.rxReqFwd (s : State) (k : Nat) (r : Request) : State :=
  if s.pairActive then s.place { r with by_ := .partner k, received := s.now } else s

/-! ## CONTROL (R295, R310, R313, R314) -/

/-- The request that the active device's configuration makes on the shadow: judged against the default configuration (R295). -/
def State.transferRequest (s : State) (x : JoinTransfer) : Request :=
  let started := x.objs.filter (fun p => p.2.1)
  { by_ := .device, received := s.now, blob := some { detail := none, signed := s.glb.signed, hash := x.blobHash },
    changes := .ceilings x.ceilings :: x.plain.map (fun p => Change.plain (p.1 / 256) (p.1 % 256) (p.2 - 1)) ++
      started.map (fun p => Change.apply p.1 p.2.2) ++ (if x.wins = [] then [] else [.winBatch none x.wins]) }

/-- The shadow's answer to the state transfer reaches the active device: the pair is JOINING, or the join is off and nothing changes
(R293, R295). -/
def State.rxJoined (s : State) (ok : Bool) : State :=
  if s.pairActive && s.pair.joined && s.pair.joinEpoch.isSome then
    if ok then s.pairTo .joining
    else { s with pair := { s.pair with joined := false, joinEpoch := none, joinCheck := 5 } }
  else s

/-- Check 5 fails at the shadow, which tells the active device (R295). -/
def State.joinRefuse (s : State) : State := (s.joinFail 5).sendPair (.control (.joined false))

/-- The state transfer at J: the shadow applies the configuration, starts every context in SYNC, takes over blaze checkers and window
states, compares its CFG_HASH, that of the blob it has applied, and its COEF_HASH with the active device's, and answers (R295). -/
def State.rxTransfer (s : State) (j : Nat) (x : JoinTransfer) : State :=
  if s.pair.joinEpoch.isNone || !s.pair.shadow then s
  else
    let v := (s.takeInsts x).judge s.now (s.transferRequest x)
    if v.2.1 ≠ 0 then s.joinRefuse
    else
      let s := v.1
      let s := (keys s.ctxs).foldl (fun (s : State) (n : Nat) => if (s.ctx n).state = .idle then s else (s.ctxResync n).ctxTo n .sync) s
      let s := s.takeTransfer x
      if s.cfgHashWords = x.cfgHash ∧ s.allCoefHash = x.coefHash then
        ({ s with pair := { s.pair with joinEpoch := some j, joined := true, joinAt := s.now } }).pairTo .joining
          |>.sendPair (.control (.joined true))
      else s.joinRefuse

/-- A CONTROL message. A takeover notice tells the mediator which requests are lost, and changes nothing here (R310, R311). -/
def State.rxControl (s : State) : PairControl → State
  | .join f => s.rxJoin f
  | .transfer j x => s.rxTransfer j x
  | .joined ok => s.rxJoined ok
  | .takeover _ => s
  | .switchover a =>
    if s.pairFollows && (s.pair.state == .paired || s.pair.state == .joining) then
      ({ s with pair := { s.pair with switchAt := some a } }).planTakeover a
    else s
  | .safeHold a => s.enterSafeHold .partner (a + s.pair.cmdLead * 1000)

/-- A message of the pair link, received while it is UP. -/
def State.rxPair (s : State) (m : PairMsg) (stamp : Nat) : State :=
  match m with
  | .sync t _ => s.rxSync t stamp
  | .manifest e => s.rxManifest e
  | .command c => s.rxCommand c
  | .reqFwd k r => s.rxReqFwd k r
  | .fillReq c q share => s.rxFillReq c q share
  | .fillData c q u => s.rxFillData c q u
  | .surfData k q ok px => s.rxSurfData k q ok px
  | .signature b => s.rxSignature b
  | .health h => s.rxHealth h
  | .control c => s.rxControl c
  | .reserved => s

end Sys2Proof.Machine
end

