-- ==== Sys2Proof/Machine/Rx.lean ====
section
/-! DEFINITION. Reception: every packet of an Ethernet port, a Lusko bond or the pair link on its way through the fault injectors to
who it is for (R125, R160, R161, R296, R450 to R452). -/

namespace Sys2Proof.Machine

/-! ## Delivery -/

/-- A Lusko packet of lane `l` that the injectors have passed on (R160, R161, R296, R450). -/
def State.rxLusko (s : State) (l chan : Nat) (q : BitVec 16) (b : LuskoBody) (stamp : Nat) : State :=
  let f := (s.lane l).first
  match b with
  | .bad why => s.luskoBad l why
  | .ident i => (s.identSeq l q).rxIdent l i stamp
  | _ =>
    if (s.lane f).state ≠ .up then s
    else
      let s := s.luskoSeq f chan q b.packets
      match b with
      | .linkCtrl op => s.rxLinkCtrl f op
      | .pair m =>
        if (s.lane f).role ≠ .pair ∨ 10 < chan then s.luskoBad f .reservedType
        else if s.pairUp then s.rxPair m stamp else s
      | .fixture => if s.mode.mode = .proving ∧ (s.lane f).role = .fixture then s else s.luskoBad f .reservedType
      | .time .. => s
      | _ => s.rxCapture f chan b stamp

/-- Deliver a packet. -/
def State.deliver (s : State) : RxPacket → State
  | .eth port f stamp => s.rxEth port f stamp
  | .lusko l chan q b stamp => s.rxLusko l chan q b stamp

/-- A packet's way through the injectors (R451, R452): `clean` as it came, `pre` as a CORRUPT before the checks leaves it, `post` as one
after them does. Packets that its match releases follow it. -/
def State.arrive (s : State) (hit : Injector → Bool) (clean pre post : RxPacket) : State :=
  let o := s.inject hit
  let p := if o.pre then pre else if o.post then post else clean
  let s := match o.fate with
    | .pass => o.s.deliver p
    | .dropped => o.s
    | .held i => o.s.holdPacket i p
  let r := s.takeReleased
  r.2.foldl State.deliver r.1

/-! ## Ethernet (R125, R126, R478, R479) -/

/-- ETH_DATAGRAM_RX (R125): a frame on an enabled port; `alt` is what its payload spells after a CORRUPT. -/
def execEthDatagramRx (t : Nat) (port : Fin 4) (f : EthFrame) (alt : UdpPayload) (s : State) : Host.Outcome State Fault Refusal :=
  let s := s.at t
  if s.mode.phase = .up ∧ s.mode.mode ≠ .standby ∧ s.portEnabled port.val then
    let k := s.ingressStamp port.val
    .next (s.arrive (s.injectsEth port.val f) (.eth port.val f k) (.eth port.val (corruptBefore f alt) k)
      (.eth port.val { f with payload := alt } k))
  else .next s

/-! ## Lusko bonds (R160 to R171) -/

/-- Whether an injector's selection takes a packet of a bond (R451). -/
def State.injectsLusko (s : State) (l chan : Nat) (x : Injector) : Bool :=
  let y := s.lane l
  ((x.target == 0 && x.index == y.first) || (x.target == 2 && y.role == .pair)) && (x.all || x.sel == chan)

/-- A whole packet received on lane `l`, whose lines are not at electrical idle (R170); `alt` is what it spells after a CORRUPT behind the checks. One before the checks makes the CRC
fail (R451). -/
def State.luskoArrive (s : State) (l chan : Nat) (q : BitVec 16) (b alt : LuskoBody) : State :=
  let p := fun (x : LuskoBody) => RxPacket.lusko l chan q x s.now
  match (s.lane l).state with
  | .train | .up => if (s.lane l).rxEidle then s else s.arrive (s.injectsLusko l chan) (p b) (p (.bad .crc)) (p alt)
  | _ => s

/-- IDENT_RX (R169): an IDENT on one lane. -/
def execIdentRx (t : Nat) (l : Fin 32) (d : IdentPacket) (alt : LuskoBody) (s : State) :
    Host.Outcome State Fault Refusal :=
  .next ((s.at t).luskoArrive l.val 0 d.seq (.ident d.ident) alt)

/-- LINK_CTRL_RX (R171). -/
def execLinkCtrlRx (t : Nat) (l : Fin 32) (chan : BitVec 8) (q : BitVec 16) (op : Nat) (alt : LuskoBody) (s : State) :
    Host.Outcome State Fault Refusal :=
  .next ((s.at t).luskoArrive l.val chan.toNat q (.linkCtrl op) alt)

/-- FRAME_START_RX (R162, R164). -/
def execFrameStartRx (t : Nat) (l : Fin 32) (chan : BitVec 8) (q : BitVec 16) (f : FrameStart) (alt : LuskoBody) (s : State) :
    Host.Outcome State Fault Refusal :=
  .next ((s.at t).luskoArrive l.val chan.toNat q (.frameStart f) alt)

/-- VIDEO_LINE_RX (R162, R164). -/
def execVideoLineRx (t : Nat) (l : Fin 32) (chan : BitVec 8) (q frame : BitVec 16) (line : Nat) (px : List (BitVec 8))
    (alt : LuskoBody) (s : State) : Host.Outcome State Fault Refusal :=
  .next ((s.at t).luskoArrive l.val chan.toNat q (.videoLine frame line px) alt)

/-- FRAME_END_RX (R162, R164). -/
def execFrameEndRx (t : Nat) (l : Fin 32) (chan : BitVec 8) (q frame : BitVec 16) (lines : Nat) (alt : LuskoBody) (s : State) :
    Host.Outcome State Fault Refusal :=
  .next ((s.at t).luskoArrive l.val chan.toNat q (.frameEnd frame lines) alt)

/-- LUSKO_BAD_PACKET_RX (R153, R160, R161): a packet to discard, with the character errors met in it, by lane of the bond; one with any
is discarded as if its CRC had failed. -/
def execLuskoBadPacketRx (t : Nat) (l : Fin 32) (chan : BitVec 8) (why : LuskoBad) (errs : List (Nat × Nat)) (s : State) :
    Host.Outcome State Fault Refusal :=
  let s := s.at t
  let why : LuskoBad := if errs.any (fun e => e.1 + e.2 != 0) then .crc else why
  .next ((s.bondErrs l.val errs).luskoArrive l.val chan.toNat 0 (.bad why) (.bad why))

/-- FIXTURE_PACKET_RX (R450): passed to the scan, which counts character errors alone, on a FIXTURE bond in PROVING; discarded and
counted elsewhere. -/
def execFixturePacketRx (t : Nat) (l : Fin 32) (chan : BitVec 8) (q : BitVec 16) (alt : LuskoBody) (s : State) :
    Host.Outcome State Fault Refusal :=
  .next ((s.at t).luskoArrive l.val chan.toNat q .fixture alt)

/-! ## The pair link (R296 to R314) -/

/-- A message of the pair link, on its CHAN. -/
def State.pairArrive (s : State) (q : BitVec 16) (m : PairMsg) (alt : LuskoBody) : State :=
  match s.pairLane with
  | some l => s.luskoArrive l m.chan q (.pair m) alt
  | none => s

/-- PAIR_SYNC_RX (R297): the partner's T and RATE. -/
def execPairSyncRx (t : Nat) (q : BitVec 16) (v : PairSync) (alt : LuskoBody) (s : State) :
    Host.Outcome State Fault Refusal :=
  .next ((s.at t).pairArrive q (.sync v.time v.rate) alt)

/-- MANIFEST_RX (R301). -/
def execManifestRx (t : Nat) (q : BitVec 16) (m : Manifest) (alt : LuskoBody) (s : State) : Host.Outcome State Fault Refusal :=
  .next ((s.at t).pairArrive q (.manifest m) alt)

/-- COMMAND_RX (R302, R303). -/
def execCommandRx (t : Nat) (q : BitVec 16) (c : PairCmd) (alt : LuskoBody) (s : State) : Host.Outcome State Fault Refusal :=
  .next ((s.at t).pairArrive q (.command c) alt)

/-- REQ_FWD_RX (R303). -/
def execReqFwdRx (t : Nat) (q : BitVec 16) (k : Nat) (r : Request) (alt : LuskoBody) (s : State) : Host.Outcome State Fault Refusal :=
  .next ((s.at t).pairArrive q (.reqFwd k r) alt)

/-- FILL_REQ_RX (R304). -/
def execFillReqRx (t : Nat) (q : BitVec 16) (c : Fin 160) (mseq : Nat) (share : Bool) (alt : LuskoBody) (s : State) :
    Host.Outcome State Fault Refusal :=
  .next ((s.at t).pairArrive q (.fillReq c.val mseq share) alt)

/-- FILL_DATA_RX (R304): the bytes of the unit, or a refusal. -/
def execFillDataRx (t : Nat) (q : BitVec 16) (c : Fin 160) (mseq : Nat) (content : Option (List Nal × List (BitVec 8)))
    (alt : LuskoBody) (s : State) : Host.Outcome State Fault Refusal :=
  .next ((s.at t).pairArrive q (.fillData c.val mseq content) alt)

/-- SURF_DATA_RX (R304). -/
def execSurfDataRx (t : Nat) (q : BitVec 16) (k : Fin 256) (mseq : Nat) (complete : Bool) (px : List Sample) (alt : LuskoBody)
    (s : State) : Host.Outcome State Fault Refusal :=
  .next ((s.at t).pairArrive q (.surfData k.val mseq complete px) alt)

/-- SIGNATURE_RX (R306). -/
def execSignatureRx (t : Nat) (q : BitVec 16) (b : SigBlock) (alt : LuskoBody) (s : State) : Host.Outcome State Fault Refusal :=
  .next ((s.at t).pairArrive q (.signature b) alt)

/-- HEALTH_RX (R308). -/
def execHealthRx (t : Nat) (q : BitVec 16) (h : Health) (alt : LuskoBody) (s : State) : Host.Outcome State Fault Refusal :=
  .next ((s.at t).pairArrive q (.health h) alt)

/-- CONTROL_RX (R295, R310, R313, R314). -/
def execControlRx (t : Nat) (q : BitVec 16) (c : PairControl) (alt : LuskoBody) (s : State) : Host.Outcome State Fault Refusal :=
  .next ((s.at t).pairArrive q (.control c) alt)

/-! ## REORDER (R451) -/

/-- REORDER_RELEASE (R451): packets held for 10 ms are delivered; no injector matches them again. -/
def execReorderRelease (t : Nat) (s : State) : Host.Outcome State Fault Refusal :=
  let s := s.at t
  let due := fun (h : HeldPacket) => decide (h.at_ + 10000000 ≤ s.now)
  let out := s.prov.held.filter due
  let s := { s with prov := { s.prov with held := s.prov.held.filter (fun h => !due h) } }
  .next ((out.map (fun h => h.packet)).foldl State.deliver s)

end Sys2Proof.Machine
end

