-- ==== Sys2Proof/Machine/Time.lean ====
section
/-! DEFINITION. The commands of the time unit (R53 to R80). -/

namespace Sys2Proof.Machine

/-- A HOLD-only TIME write made outside HOLD, or an adjustment beyond TIME.SLEW_CAP: discarded, counted, reported (R59,
R68). -/
def State.refuseTimeWrite (s : State) : State :=
  (s.count Reg.timeWrRefused 1).emit .ptpWriteRefused 0 []

/-- TIME_RATE_WRITE (R59, R68): in HOLD the write re-anchors and sets the hold rate, clamped as R54 gives. -/
def execTimeRateWrite (t : Nat) (v : BitVec 32) (s : State) : Host.Outcome State Fault Refusal :=
  let s := s.at t
  if s.time.servo = .hold then
    let r := clampI (-rateClamp) rateClamp v.toInt
    let u := foldSlew s.time
    .next ((s.setTime (applyRate { u with freq := r, freqs := [r], corr := 0 })).refreshTrace)
  else .next s.refuseTimeWrite

/-- TIME.ADJ_HI (R59). -/
def timeAdjHi : Nat := 0x30028

/-- TIME_ADJ_COMMIT (R68): a step in CONFIGURE; in any other mode a slew of up to the clamp of R54, unless the adjustment is
larger than TIME.SLEW_CAP. The word of an accepted write stays in TIME.ADJ_HI. -/
def execTimeAdjCommit (t : Nat) (hi : BitVec 32) (s : State) : Host.Outcome State Fault Refusal :=
  let s := s.at t
  let adj := sext 64 (hi.toNat * 2 ^ 32 + s.reg Reg.timeAdjLo)
  if s.time.servo ≠ .hold then .next s.refuseTimeWrite
  else if s.mode.mode = .configure then
    .next (((s.setReg timeAdjHi hi.toNat).setTime { s.time with adjCommitted := true }).stepTime adj).refreshTrace
  else if s.slewCap < adj.natAbs then .next s.refuseTimeWrite
  else
    let u := foldSlew s.time
    .next ((s.setReg timeAdjHi hi.toNat).setTime (beginSlew { u with adjCommitted := true } (u.slewResid - adj) rateClamp)).refreshTrace

/-- SERVO_HOLD (R59, R63): HOLD from any state; a HOLD entered by loss becomes one entered by command. -/
def execServoHold (t : Nat) (s : State) : Host.Outcome State Fault Refusal :=
  let s := s.at t
  if s.time.servo = .hold then .next ((s.setTime { s.time with holdByLoss := false }).refreshTrace)
  else .next (s.enterHold false).refreshTrace

/-- SERVO_RELEASE (R63, R64): out of HOLD, to ACQUIRE if an enabled domain is VALID and to FREE otherwise. -/
def execServoRelease (t : Nat) (s : State) : Host.Outcome State Fault Refusal :=
  let s := s.at t
  if s.time.servo ≠ .hold then .next s
  else if (s.domEn 0 && s.time.domA.valid) || (s.domEn 1 && s.time.domB.valid) then
    .next (s.enterAcquire s.acquireChoice).refreshTrace
  else .next (s.servoTo .free).refreshTrace

/-- The value of legacy time base `n` (R74). -/
def State.ltbValue (s : State) (n : Nat) : Nat :=
  let off := 0x30100 + 0x20 * n
  let ctrl := s.reg off
  let num := s.reg (off + 4)
  let den := s.reg (off + 8)
  let epoch := (Tab.get 0 s.time.ltbEpoch n).toNat
  if bit ctrl 0 && num ≠ 0 && den ≠ 0 && epoch ≤ s.now then
    let w := match bits ctrl 5 4 with
      | 1 => 48
      | 2 => 64
      | _ => 32
    ((s.now - epoch) * num / den) % 2 ^ w
  else 0

/-- The eight values a snapshot latches (R59, R60): T, LCT, LTB 0 to 3, the two domain offsets. -/
def State.snapshot (s : State) : List (BitVec 64) :=
  [BitVec.ofNat 64 s.now, BitVec.ofNat 64 s.time.lct,
   BitVec.ofNat 64 (s.ltbValue 0), BitVec.ofNat 64 (s.ltbValue 1),
   BitVec.ofNat 64 (s.ltbValue 2), BitVec.ofNat 64 (s.ltbValue 3),
   BitVec.ofInt 64 s.time.domA.off, BitVec.ofInt 64 s.time.domB.off]

/-- TIME_SNAPSHOT (R60): a write of 1 to bit 0 latches the eight values at one LCT value. -/
def execTimeSnapshot (t : Nat) (v : BitVec 32) (s : State) : Host.Outcome State Fault Refusal :=
  let s := s.at t
  if v.getLsbD 0 then
    .next (s.setTime { s.time with snap := s.snapshot, snapSeq := s.time.snapSeq + 1 })
  else .next s

/-- The domain a PTP message belongs to: enabled, its number and the port in its mask, the port not isolated (R61, R62, R419). -/
def State.domOf (s : State) (port : Nat) (number : BitVec 8) : Option (Fin 2) :=
  let has := fun (d : Fin 2) =>
    let c := s.reg (Reg.ptpDomCfg d.val)
    bit c 0 && bits c 15 8 == number.toNat && bit (bits c 27 24) port
  if s.mode.isoCore.getLsbD (22 + port) then none else if has 0 then some 0 else if has 1 then some 1 else none

/-- The order of the best master clock algorithm, as a number that is smaller for the better master (IEEE 1588-2019). -/
def announceRank (a : Announce) : Nat :=
  ((((((a.priority1.toNat * 2 ^ 8 + a.clockClass.toNat) * 2 ^ 8 + a.accuracy.toNat) * 2 ^ 16 + a.variance.toNat) * 2 ^ 8
    + a.priority2.toNat) * 2 ^ 64 + a.gm.toNat) * 2 ^ 16 + a.stepsRemoved.toNat)

/-- The best of the masters heard, the earlier entry winning a tie. -/
def bestMaster : List Master → Option Master
  | [] => none
  | m :: t =>
    match bestMaster t with
    | none => some m
    | some b => if announceRank m.data ≤ announceRank b.data then some m else some b

/-- An Announce message: the master's data is kept, masters whose receipt timeout has expired are forgotten, and the best master of the
domain is selected (R61). DESIGN CHOICE (log 166): the mean path last measured is kept over a change of the selected master or port until
a new one is measured; the spec does not say. -/
def State.rxAnnounce (s : State) (port : Nat) (d : Fin 2) (a : Announce) : State :=
  let x := TimeUnit.dom s.time d
  let ms := { port := port, data := a, heard := s.time.lct } :: x.masters.filter (fun m =>
    ¬ (m.port = port ∧ m.data.gm = a.gm) ∧ s.time.lct ≤ m.heard + s.announceTimeout d)
  match bestMaster ms with
  | none => s
  | some b =>
    let known := x.masters ≠ []
    let changed := known && (b.data.gm ≠ x.gm)
    let x := { x with
      masters := ms, gm := b.data.gm, port := b.port, utc := b.data.utcOffset.toInt,
      stableSince := if changed then none else x.stableSince }
    let s := (s.setTime (TimeUnit.setDom s.time d x)).dropHeld d b.data.gm
    if changed then (s.gmChange d).refreshTrace else s

/-- Nanoseconds of a register in ps, rounded down. -/
def psToNs (v : Int) : Int := v / 1000

/-- PORT[n].RXLAT in ns (R61). -/
def State.rxLat (s : State) (port : Nat) : Int := psToNs (s.reg (Reg.ptpRxLat port))

/-- PORT[n].TXLAT in ns (R61). -/
def State.txLat (s : State) (port : Nat) : Int := psToNs (s.reg (Reg.ptpTxLat port))

/-- PORT[n].ASYM in ns, signed (R61). -/
def State.asym (s : State) (port : Nat) : Int := psToNs (sext 32 (s.reg (Reg.ptpAsym port)))

/-- A completed Sync gives an offset sample once a mean path is known (R61). -/
def State.completeSync (s : State) (port : Nat) (d : Fin 2) (t1 t2 corr : Int) : State :=
  let x := TimeUnit.dom s.time d
  let s := s.setTime (TimeUnit.setDom s.time d { x with pendingSync := none, lastSync := some (t1, t2, corr) })
  match x.meanPath with
  | none => s
  | some m => s.servoSample d (t2 - t1 - m - s.asym port - corr)

/-- PTP_MESSAGE_RX (R61): an Announce runs the best master clock algorithm; a Sync, with its Follow_Up where it is two-step,
gives an offset sample; a Delay_Resp that answers the Delay_Req in flight gives the mean path. Time-stamps of messages of
the selected master's port alone count. DESIGN CHOICE (log 167): the division of mean_path by 2, whose rounding the spec does not give,
is rounded down to whole ns. -/
def execPtpMessageRx (t : Nat) (port : Fin 4) (domain : BitVec 8) (msg : PtpMsg) (s : State) :
    Host.Outcome State Fault Refusal :=
  let s := s.at t
  match s.domOf port.val domain with
  | none => .next s
  | some d =>
    let x := TimeUnit.dom s.time d
    let t2 : Int := (s.now : Int) - s.rxLat port.val
    match msg with
    | .announce a => .next (s.rxAnnounce port.val d a)
    | .sync q two t1 corr =>
      if x.port ≠ port.val then .next s
      else if two then .next (s.setTime (TimeUnit.setDom s.time d { x with pendingSync := some (q, t2, corr) }))
      else .next (s.completeSync port.val d t1.toNat t2 corr)
    | .followUp q t1 corr =>
      match x.pendingSync with
      | some (q', t2', c) =>
        if q' = q ∧ x.port = port.val then .next (s.completeSync port.val d t1.toNat t2' (c + corr)) else .next s
      | none => .next s
    | .delayResp q t4 corr =>
      match x.delayReq, x.lastSync with
      | some (q', t3), some (t1, t2', c) =>
        if q' = q then
          .next (s.setTime (TimeUnit.setDom s.time d { x with
            delayReq := none,
            meanPath := some (((t2' - t1) + ((t4.toNat : Int) - t3) - (c + corr)) / 2) }))
        else .next s
      | _, _ => .next s
    | .other => .next s

/-- Add an entry to a port's transmit time-stamp queue (R72, R73); OVF sets when the 63rd entry is written (A1-03). -/
def State.pushTxq (s : State) (port : Nat) (e : TxEntry) : State :=
  let q := Tab.get {} s.time.txq port
  if q.entries.length < 64 then
    let q' := { q with entries := q.entries ++ [e], ovf := q.ovf || q.entries.length == 62 }
    s.setTime { s.time with txq := Tab.set {} s.time.txq port q' }
  else (s.count (Reg.ptpTxqDrop port) 1).emit .ethTxtsDrop port [e.tag.toNat]

/-- DELAY_REQ_SEND (R61, R72): the Delay_Req leaves, t3 is its egress time with TXLAT added, and its entry goes to the
queue. -/
def execDelayReqSend (t : Nat) (port : Fin 4) (d : Fin 2) (seq tag : BitVec 16) (s : State) :
    Host.Outcome State Fault Refusal :=
  let s := s.at t
  let num := BitVec.ofNat 8 (bits (s.reg (Reg.ptpDomCfg d.val)) 15 8)
  if s.domOf port.val num = none then .next s
  else
    let t3 : Int := (s.now : Int) + s.txLat port.val
    let x := TimeUnit.dom s.time d
    let s := s.setTime (TimeUnit.setDom s.time d { x with delayReq := some (seq, t3) })
    .next ((s.send (.delayReq port.val d.val seq tag)).pushTxq port.val
      { seqId := seq, tag := tag, domain := num, msgType := 1, ts := BitVec.ofInt 64 t3 })

/-- DOMAIN_LOST (R63, R64). -/
def execDomainLost (t : Nat) (d : Fin 2) (s : State) : Host.Outcome State Fault Refusal :=
  .next ((s.at t).loseDomain d)

/-- SLEW_COMPLETE (R65): with the residual at zero, SLEWING clears and RATE returns to the domain's frequency. -/
def execSlewComplete (t : Nat) (s : State) : Host.Outcome State Fault Refusal :=
  let s := s.at t
  if s.time.slewRate ≠ 0 ∧ slewResidual s.time s.time.lct = 0 then .next (s.setTime (endSlew s.time)).refreshTrace
  else .next s

/-- TRACE_TOL_REACHED (R67): TRACE_OK is as R67 gives it at this instant. -/
def execTraceTolReached (t : Nat) (s : State) : Host.Outcome State Fault Refusal :=
  .next (s.at t).refreshTrace

/-- HOLDOVER_EXPIRE (R67): TRACE_OK is as R67 gives it at this instant. -/
def execHoldoverExpire (t : Nat) (s : State) : Host.Outcome State Fault Refusal :=
  .next (s.at t).refreshTrace

/-- DOMAIN_REVERT (R70): back to domain A once A has been STABLE with an unchanged grandmaster for TIME.REVERT_HOLD. -/
def execDomainRevert (t : Nat) (s : State) : Host.Outcome State Fault Refusal :=
  let s := s.at t
  let hold := s.reg Reg.timeRevertHold
  match s.time.domA.stableSince with
  | some since =>
    if s.time.servo = .locked ∧ s.time.domain = 1 ∧ hold ≠ 0 ∧ s.domEn 0 ∧ since + hold * 1000000000 ≤ s.time.lct then
      .next (s.switchDomain 0).refreshTrace
    else .next s
  | none => .next s

/-- TXQ_POP (R72): the read of TXQ_W0 pops the oldest entry and latches its words; VALID is clear if the queue was empty. -/
def execTxqPop (t : Nat) (port : Fin 4) (s : State) : Host.Outcome State Fault Refusal :=
  let s := s.at t
  let q := Tab.get {} s.time.txq port.val
  let q' := { q with entries := q.entries.drop 1, popped := q.entries.head? }
  let w0 := match q.entries.head? with
    | some e => e.seqId.toNat * 65536 + e.tag.toNat
    | none => 0
  .next { s.setTime { s.time with txq := Tab.set {} s.time.txq port.val q' } with readData := w0 }

/-- LTB_EPOCH_COMMIT (R74): EPOCH takes the word written and EPOCH_LO. -/
def execLtbEpochCommit (t : Nat) (n : Fin 4) (hi : BitVec 32) (s : State) : Host.Outcome State Fault Refusal :=
  let s := s.at t
  let e := BitVec.ofNat 64 (hi.toNat * 2 ^ 32 + s.reg (Reg.ltbEpochLo n.val))
  .next (s.setTime { s.time with ltbEpoch := Tab.set 0 s.time.ltbEpoch n.val e })

/-- A time-triggered output by index. -/
def State.tto (s : State) (n : Nat) : Tto := Tab.get {} s.time.tto n

/-- Set a time-triggered output; its ball takes the level, which CTRL.POL inverts (R75). -/
def State.setTto (s : State) (n : Nat) (x : Tto) : State :=
  let x := { x with pin := x.level != bit (s.reg (Reg.ttoCtrl n)) 4 }
  s.setTime { s.time with tto := Tab.set {} s.time.tto n x }

/-- CTRL.MODE of an output (R75). -/
def State.ttoMode (s : State) (n : Nat) : Nat := bits (s.reg (Reg.ttoCtrl n)) 1 0

/-- Arm an output (R75, R76). A late PERIODIC start skips the pulses it missed; COUNT counts the pulses emitted. -/
def State.armTto (s : State) (n : Nat) (start : BitVec 64) : State :=
  let period := s.reg (Reg.ttoPeriod n)
  let width := s.reg (Reg.ttoWidth n)
  let x := { s.tto n with start := start, armed := true, level := false, next := start.toNat, index := 0, emitted := 0 }
  let past := decide (start.toNat < s.now)
  match s.ttoMode n with
  | 2 =>
    if period < 2 * width then s.setTto n { x with armed := false, late := true }
    else if past ∧ 0 < period then
      let k := (s.now - start.toNat) / period + 1
      s.setTto n { x with late := true, next := start.toNat + k * period, index := k }
    else s.setTto n x
  | 3 => s.setTto n x
  | _ =>
    if past then (s.setTto n { x with armed := false, late := true }).emit .ptpLate (0x20 + n) []
    else s.setTto n x

/-- TTO_ARM (R75, R76). -/
def execTtoArm (t : Nat) (n : Fin 8) (hi : BitVec 32) (s : State) : Host.Outcome State Fault Refusal :=
  let s := s.at t
  let s := s.setReg (0x30208 + 0x20 * n.val) hi.toNat
  .next (s.armTto n.val (BitVec.ofNat 64 (hi.toNat * 2 ^ 32 + s.reg (Reg.ttoStartLo n.val))))

/-- TTO_CTRL_WRITE (R75): the mode and the polarity are set, a LEVEL output goes inactive, and a 1 in bit 31 clears LATE. DESIGN CHOICE
(log 168): a LEVEL output armed and not yet active is disarmed too; the spec says only that it stays active until CTRL is written. -/
def execTtoCtrlWrite (t : Nat) (n : Fin 8) (v : BitVec 32) (s : State) : Host.Outcome State Fault Refusal :=
  let s := s.at t
  let x := s.tto n.val
  let wasLevel := s.ttoMode n.val = 0
  let x := { x with
    late := x.late && !v.getLsbD 31,
    level := if wasLevel then false else x.level,
    armed := if wasLevel then false else x.armed }
  .next ((s.setReg (Reg.ttoCtrl n.val) (v.toNat &&& 0xF13)).setTto n.val x)

/-- The next edge of an output (R75): LEVEL goes active and stays; PULSE and PERIODIC rise at START + k × PERIOD and fall
WIDTH later; EPOCH rises at each frame epoch of head SRC. DESIGN CHOICE (log 169): an EPOCH output acts only once START_HI has armed it,
although its START is ignored. -/
def State.ttoEdge (s : State) (n : Nat) : State :=
  let x := s.tto n
  let width := s.reg (Reg.ttoWidth n)
  let now := s.now
  match s.ttoMode n with
  | 0 => if x.armed ∧ ¬ x.level ∧ x.next ≤ now then s.setTto n { x with level := true } else s
  | 1 =>
    if x.armed ∧ x.next ≤ now then
      if x.level then s.setTto n { x with level := false, armed := false }
      else s.setTto n { x with level := true, next := x.next + width }
    else s
  | 2 =>
    if x.armed ∧ x.next ≤ now then
      if x.level then
        let k := x.index + 1
        let count := s.reg (Reg.ttoCount n)
        s.setTto n { x with
          level := false, index := k, emitted := x.emitted + 1, armed := count = 0 || decide (x.emitted + 1 < count),
          next := x.start.toNat + k * s.reg (Reg.ttoPeriod n) }
      else s.setTto n { x with level := true, next := x.next + width }
    else s
  | _ =>
    if x.level then
      if x.next ≤ now then s.setTto n { x with level := false } else s
    else
      match (s.head (bits (s.reg (Reg.ttoCtrl n)) 11 8)).lastEpoch with
      | some e =>
        if x.armed ∧ x.start.toNat ≠ e + 1 ∧ e ≤ now then
          s.setTto n { x with level := true, next := e + width, start := BitVec.ofNat 64 (e + 1) }
        else s
      | none => s

/-- TTO_EDGE (R75). -/
def execTtoEdge (t : Nat) (n : Fin 8) (s : State) : Host.Outcome State Fault Refusal :=
  .next ((s.at t).ttoEdge n.val)

/-- T reaches or passes a whole second at this local count (R77, R79): the count before it lay in an earlier second. -/
def State.wholeSecond (s : State) : Bool :=
  decide ((nativeAt s.time (s.time.lct - 1)).toNat / 1000000000 < s.now / 1000000000)

/-- PPS_OUT_EDGE (R77): PPS_OUT rises at a whole second, for WIDTH_MS, if enabled and, where GATE is set, while TRACE_OK is
set. -/
def execPpsOutEdge (t : Nat) (s : State) : Host.Outcome State Fault Refusal :=
  let s := s.at t
  let c := s.reg Reg.ppsOutCtrl
  let on := bit c 0 && (!bit c 1 || s.time.traceOk)
  if s.wholeSecond ∧ on then
    .next (s.setTime { s.time with
      ppsOut := true, ppsUntil := s.now / 1000000000 * 1000000000 + bits c 15 8 * 1000000 })
  else if s.time.ppsOut ∧ (s.time.ppsUntil ≤ s.now ∨ ¬ on) then .next (s.setTime { s.time with ppsOut := false })
  else .next s

/-- A capture input by index. -/
def State.tci (s : State) (n : Nat) : Tci := Tab.get {} s.time.tci n

/-- Set a capture input. -/
def State.setTci (s : State) (n : Nat) (x : Tci) : State :=
  s.setTime { s.time with tci := Tab.set {} s.time.tci n x }

/-- Count a loss of a capture input; the first after a read of the counter raises an event (R78). -/
def State.tciLoss (s : State) (n off : Nat) : State :=
  let first := s.reg off = 0
  let s := s.count off 1
  if first then s.emit .ptpCaptureLoss (0x10 + n) [] else s

/-- TCI_EDGE (R78): an edge that CTRL selects is stamped, unless it is closer than 40 ns to the last captured one or the
queue of 16 is full. -/
def execTciEdge (t : Nat) (n : Fin 5) (rising : Bool) (s : State) : Host.Outcome State Fault Refusal :=
  let s := s.at t
  let sel := bits (s.reg (Reg.tciCtrl n.val)) 1 0
  let x := s.tci n.val
  let wanted := sel == 3 || (sel == 1 && rising) || (sel == 2 && !rising)
  let close := match x.lastEdge with
    | some e => decide (s.time.lct < e + 40)
    | none => false
  if !wanted then .next s
  else if close then .next (s.tciLoss n.val (Reg.tciMissed n.val))
  else
    let x := { x with lastEdge := some s.time.lct, seq := x.seq + 1 }
    if x.queue.length < 16 then
      .next (s.setTci n.val { x with queue := x.queue ++ [{ t := BitVec.ofNat 64 s.now, rising := rising, seq := x.seq }] })
    else .next ((s.setTci n.val x).tciLoss n.val (Reg.tciDrop n.val))

/-- TCI_STAMP_POP (R78): the read of TS_LO pops the oldest stamp; 0, with VALID clear, if the queue is empty. -/
def execTciStampPop (t : Nat) (n : Fin 5) (s : State) : Host.Outcome State Fault Refusal :=
  let s := s.at t
  let x := s.tci n.val
  let v := match x.queue.head? with
    | some e => e.t.toNat % 2 ^ 32
    | none => 0
  .next { s.setTci n.val { x with queue := x.queue.drop 1, popped := x.queue.head? } with readData := v }

end Sys2Proof.Machine
end

