-- ==== Sys2Proof/Machine/RegView.lean ====
section
/-! DEFINITION. What every register of BAR0 and of a doorbell page shows: the fields that the register tables of the manual give, computed
from the state, or the register's own contents (R50, R59, R62, R74, R75, R78, R110, R115, R148, R149, R172, R197, R198, R207, R234 to R237,
R264, R282, R283, R315, R322, R323, R330, R332, R366 to R369, R382, R410, R411, R433, R434, R440, R448, R455 to R457). -/

namespace Sys2Proof.Machine

/-! ## Words -/

/-- Bits [31:0] and [63:32] of a value. -/
def lo32 (v : Nat) : Nat := v % 2 ^ 32
def hi32 (v : Nat) : Nat := v / 2 ^ 32 % 2 ^ 32

/-- One half of a 64-bit value. -/
def half (hi : Bool) (v : Nat) : Nat := if hi then hi32 v else lo32 v

/-- Two 16-bit fields, the lower first. -/
def pack16 (a b : Nat) : Nat := a % 2 ^ 16 + b % 2 ^ 16 * 2 ^ 16

/-- A field `v` at bit `n`. -/
def fld (n v : Nat) : Nat := v * 2 ^ n

/-- A flag at bit `n`. -/
def bitIf (n : Nat) (b : Bool) : Nat := if b then 2 ^ n else 0

/-- A number rounded up from a fraction, in units of `u`, within 16 bits. -/
def ceilFrac (f : Frac) (u : Nat) : Nat := min (ceilDiv f.1 (f.2 * u)) 0xFFFF

/-- A list of bits as a number. -/
def bitSet (l : List Nat) : Nat := l.foldl (fun a i => a ||| 2 ^ i) 0

/-- The index and the offset within a unit, for `n` units of `stride` bytes from `base`. -/
def within (o base stride n : Nat) : Option (Nat × Nat) :=
  if base ≤ o ∧ o < base + stride * n then some ((o - base) / stride, (o - base) % stride) else none

/-! ## GLB and the window table (R50, R199, R207) -/

/-- GLB.WIN_GEN (R207). -/
def State.winGenWord (s : State) : Nat :=
  let w := s.win
  bitIf 0 w.active + bitIf 1 w.pending + bitIf 2 w.ready + bitIf 3 w.open_ + bitIf 4 s.salvoGen + fld 16 w.seq.toNat

/-- The GLB block (R50). -/
def State.viewGlb (s : State) (o : Nat) : Nat :=
  let g := s.glb
  if o = 0 then 0xDA050128
  else if o = 4 then 0xA1
  else if o = 0x10 then g.fwVersion.toNat
  else if o = 0x14 then g.modelVersion.toNat
  else if 0x20 ≤ o ∧ o < 0x40 then (Tab.get 0 g.cfgHash ((o - 0x20) / 4)).toNat
  else if o = 0x40 then bitIf 0 g.blobApplied + bitIf 1 g.dirty + bitIf 2 g.signed
  else if o = 0x48 then s.adm.memSize
  else if o = 0x4C then s.adm.memRate
  else if o = 0x50 then s.adm.ecc.toNat
  else if o = 0x200 then s.winGenWord
  else if o = 0x208 then s.win.result % 2 ^ 16 + bitIf 31 s.win.done
  else if o = 0x210 then (bankHash {} 0).toNat
  else s.reg o

/-- A word of the window table (R199): generation, byte offset in it. -/
def State.viewWin (s : State) (g : Bool) (o : Nat) : Nat :=
  bits (Tab.get 0 (if g then s.win.genB else s.win.genA) (o / 64)).toNat (o % 64 * 8 + 31) (o % 64 * 8)

/-! ## MODE, PWR (R433, R434) -/

/-- The MODE block (R433). -/
def State.viewMode (s : State) (o : Nat) : Nat :=
  let m := s.mode
  if o = 0 then
    m.mode.code + fld 4 m.prev.code + fld 8 m.shCause.code + bitIf 12 s.aon.shLatch + bitIf 13 m.strap + bitIf 14 m.boardOk
  else if o = 0xC then s.aon.resetCause.code
  else if o = 0x20 then m.isoCore.toNat
  else if o = 0x24 then m.isoHead.toNat
  else if o = 0x28 then m.isoLane.toNat
  else s.reg (0x10000 + o)

/-- The PWR block (R434). -/
def State.viewPwr (s : State) (o : Nat) : Nat :=
  let m := s.mode
  if o = 0 then s.aon.wakeEn.toNat
  else if o = 4 then m.wakeSrc.toNat
  else if o = 8 then s.rtcNow / 32768 % 2 ^ 32
  else if o = 0xC then s.rtcNow % 32768
  else if o = 0x10 then b2n s.aon.rtcSet
  else if o = 0x14 then s.aon.rtcAlarm.toNat
  else if 0x20 ≤ o ∧ o < 0x50 then (s.rail ((o - 0x20) / 4)).toNat
  else if o = 0x50 then
    m.railEn.toNat + fld 12 m.railPg.toNat + bitIf 24 m.railFail + bitIf 25 m.trip + fld 28 m.failRail.toNat
  else if o = 0x60 then (if m.boardOk then s.board.coreBudget % 2 ^ 10 + fld 16 (s.board.step % 2 ^ 5) else 0)
  else if o = 0x64 then (if s.up then min s.tokensHeld 1023 + fld 16 (min (max m.tokPeak s.tokensHeld) 1023) else 0)
  else if o = 0x68 then (if s.up then min s.tokenSum 1023 else 0)
  else s.reg (0x20000 + o)

/-! ## TIME, PTP (R59, R62, R74, R75, R78) -/

/-- TIME.SERVO (R59). -/
def State.servoWord (s : State) : Nat :=
  let u := s.time
  u.servo.code + fld 4 u.domain.val + bitIf 8 u.everLocked + bitIf 9 u.traceOk +
    bitIf 10 (u.slewRate != 0 && slewResidual u u.lct != 0) + bitIf 11 u.held.isSome

/-- The TIME block (R59, R74, R75, R78). -/
def State.viewTime (s : State) (o : Nat) : Nat :=
  let u := s.time
  if o < 8 then half (o == 4) u.lct
  else if o < 0x10 then half (o == 0xC) s.now
  else if o < 0x18 then half (o == 0x14) u.offset.toNat
  else if o < 0x20 then half (o == 0x1C) u.anchor.toNat
  else if o = 0x20 then wrap 32 u.rate
  else if o = 0x2C then s.servoWord
  else if o = 0x34 then wrap 32 (clampI (-(2 ^ 31 - 1)) (2 ^ 31 - 1) (slewResidual u u.lct))
  else if o = 0x4C then u.stepCount.toNat
  else if o = 0x64 then u.snapSeq.toNat
  else if 0x70 ≤ o ∧ o < 0xB0 then half (o % 8 == 4) ((u.snap.getD ((o - 0x70) / 8) 0).toNat)
  else match within o 0x100 0x20 4 with
    | some (n, 0x10) => hi32 (Tab.get 0 u.ltbEpoch n).toNat
    | some (n, 0x14) => lo32 (s.ltbValue n)
    | some (n, 0x18) => hi32 (s.ltbValue n)
    | _ => match within o 0x200 0x20 8 with
      | some (n, 0) => s.reg (Reg.ttoCtrl n) + bitIf 31 (s.tto n).late
      | _ => match within o 0x300 0x20 5 with
        | some (n, 8) => hi32 (((s.tci n).popped.map (fun (x : TciStamp) => x.t)).getD 0).toNat
        | some (n, 0xC) =>
          (match (s.tci n).popped with
            | some x => x.seq.toNat + bitIf 16 x.rising + 2 ^ 31
            | none => 0)
        | _ => s.reg (0x30000 + o)

/-- The PTP block (R62, R72). -/
def State.viewPtp (s : State) (o : Nat) : Nat :=
  match within o 0x100 0x40 2 with
  | some (k, e) =>
    let d : Fin 2 := if k = 0 then 0 else 1
    let x := TimeUnit.dom s.time d
    if e = 4 then bitIf 0 x.valid + bitIf 1 (s.domStable d) + fld 4 (x.port % 4)
    else if e = 8 then lo32 x.gm.toNat
    else if e = 0xC then hi32 x.gm.toNat
    else if e = 0x10 then lo32 (wrap 64 x.off)
    else if e = 0x14 then hi32 (wrap 64 x.off)
    else s.reg (0x40000 + o)
  | none => match within o 0x1000 0x1000 4 with
    | some (n, e) =>
      let q : TxQueue := Tab.get {} s.time.txq n
      let p := q.popped
      if e = 0x10 then 0
      else if e = 0x14 then
        (match p with
          | some x => 2 ^ 31 + fld 8 x.domain.toNat + x.msgType.toNat
          | none => 0)
      else if e = 0x18 then lo32 ((p.map (fun (x : TxEntry) => x.ts)).getD 0).toNat
      else if e = 0x1C then hi32 ((p.map (fun (x : TxEntry) => x.ts)).getD 0).toNat
      else if e = 0x20 then q.entries.length + bitIf 31 q.ovf
      else s.reg (0x40000 + o)
    | none => s.reg (0x40000 + o)

/-! ## MPU, UPD (R410, R411) -/

/-- The MPU block (R410). -/
def State.viewMpu (s : State) (o : Nat) : Nat :=
  let p := s.prot
  if o = 0 then
    (p.regions.filter (fun r => regionEn r.2)).length + fld 9 (p.regions.filter (fun r => regionLocked r.2)).length +
      fld 20 (if p.development then 0 else 1) + bitIf 24 s.aon.debugProbed
  else if 0x1000 ≤ o ∧ o < 0x2000 then
    bits (Tab.get 0 p.regions ((o - 0x1000) / 16)).toNat (o % 16 * 8 + 31) (o % 16 * 8)
  else s.reg (0x50000 + o)

/-- FW_VERSION of a slot's image, 0 where the slot is EMPTY (R411). -/
def slotVer (x : Slot) : Nat := if x.state = .empty then 0 else x.fwVersion.toNat

/-- The UPD block (R411). -/
def State.viewUpd (s : State) (o : Nat) : Nat :=
  let p := s.prot
  if o = 4 then
    ((p.claim.map (fun c => c.owner + fld 8 c.target + 2 ^ 12)).getD 0) + bitIf 9 p.runB
  else if o = 8 then (s.updSource 1).status
  else if o = 0xC then
    (match p.claim with
      | some c => (s.updSource c.owner).received
      | none => 0)
  else if o = 0x20 then slotWord p.slotA
  else if o = 0x24 then slotWord p.slotB
  else if o = 0x28 then slotVer p.slotA
  else if o = 0x2C then slotVer p.slotB
  else if o = 0x30 then s.confirmMin
  else if o = 0x34 then s.confirmLeft
  else if o = 0x38 then p.fuse
  else if 0x40 ≤ o ∧ o < 0x60 then ((s.runSlot.hash.getD ((o - 0x40) / 4) 0) : BitVec 32).toNat
  else s.reg (0x60000 + o)

/-! ## PMC, TALLY, PROV (R455 to R457) -/

/-- Words of the cycle and slot counters, in the layout of DEC 0x100 to 0x124 (R197). -/
def slotWords (x : Slots) (e : Nat) : Nat :=
  let v : BitVec 48 := match e / 8 with
    | 0 => x.cycles
    | 1 => x.retired
    | 2 => x.wasted
    | 3 => x.front
    | _ => x.back
  half (e % 8 == 4) v.toNat

/-- The PMC block (R455). -/
def State.viewPmc (s : State) (o : Nat) : Nat :=
  match within o 0x1000 0x100 39 with
  | some (u, e) =>
    if e < 8 then (if u < 22 then 0 else slotWords (s.unitSlots u) e)
    else if e < 0x28 then (if u = 38 then slotWords (s.unitSlots u) e else 0)
    else if 0x60 ≤ e ∧ e < 0xA0 then half (e % 8 == 4) (Tab.get 0 s.progs (8 * u + (e - 0x60) / 8)).toNat
    else s.reg (0x70000 + o)
  | none => s.reg (0x70000 + o)

/-- The TALLY block (R456). -/
def State.viewTally (s : State) (o : Nat) : Nat :=
  if o = 0x18 then s.adm.tally.headD 0
  else if o = 0x1C then s.prot.tally.written
  else s.reg (0x90000 + o)

/-- The PROV block (R457). -/
def State.viewProv (s : State) (o : Nat) : Nat :=
  let p := s.prov
  if o = 0 then
    bitIf 0 (s.mode.mode == .proving) + fld 16 (bitSet ((List.range 16).filter (fun i => (s.injector i).armed)))
  else if o = 0x14 then (p.popped.map (fun x => x.number)).getD 0
  else if o = 0x18 then lo32 ((p.popped.map (fun x => x.time)).getD 0)
  else if o = 0x1C then hi32 ((p.popped.map (fun x => x.time)).getD 0)
  else if o = 0x20 then p.log.length + bitIf 31 p.ovf
  else if o = 0x808 then bitIf 0 p.scan.busy + bitIf 1 p.scan.done + bitIf 2 p.scan.fail + fld 4 (p.scan.step % 8)
  else if 0x820 ≤ o ∧ o < 0x8A0 then (Tab.get 0 p.scan.result (8 * ((o - 0x820) / 0x20) + o % 0x20 / 4)).toNat
  else match within o 0x100 0x20 16 with
    | some (i, 0x18) => lo32 (s.injector i).done
    | _ => s.reg (0xD0000 + o)

/-! ## PAIR, SAFE, CAN (R237, R315, R382, R448) -/

/-- The charge of the pair link in ‰ of capacity, rounded up, the same in both directions (R167, R298, R315). -/
def State.linkLoad (s : State) : Nat :=
  match s.pairLane with
  | some l =>
    let b : BondCfg := Tab.get {} s.bonds l
    let c := s.pairCharge
    let cap := baudOf b.rate / 10 * 1023
    min (ceilDiv (c.1 * 1024 * 1000) (c.2 * cap)) 0xFFFF
  | none => 0

/-- Contexts that have not joined since J (R296, R315). -/
def State.notJoined (s : State) : Nat :=
  if s.pair.state = .joining then
    (s.ctxs.filter (fun p => p.2.state != .idle && !s.pair.joinedSrc.contains p.1)).length
  else 0

/-- The PAIR block (R315). -/
def State.viewPair (s : State) (o : Nat) : Nat :=
  let p := s.pair
  let dv : Nat := match p.lastDiv with
    | some v => v.head + fld 4 v.result.code + fld 8 p.lastAttr + fld 16 (v.line % 2 ^ 12)
    | none => 0
  if o = 0 then
    p.state.code + bitIf 4 p.shadow + bitIf 5 s.board.sideB + bitIf 8 p.actIn + bitIf 9 p.actOut + bitIf 10 p.outsel + bitIf 12 s.pairUp
  else if o = 8 then p.cmpDelay
  else if o = 0xC then p.cmdLead
  else if o = 0x10 then p.refHead
  else if o = 0x14 then p.skewMax
  else if o = 0x18 then p.joinMax
  else if o = 0x1C then wrap 32 p.skew
  else if o = 0x20 then p.armed.toNat
  else if o = 0x24 then p.excl.toNat
  else if o = 0x28 then p.joinCheck % 16 + fld 8 (min s.notJoined 255)
  else if o = 0x30 then lo32 ((p.lastDiv.map (fun v => v.d)).getD 0)
  else if o = 0x34 then hi32 ((p.lastDiv.map (fun v => v.d)).getD 0)
  else if o = 0x38 then dv
  else if o = 0x40 then p.mseqTx.toNat
  else if o = 0x44 then p.mseqRx.toNat
  else if o = 0x48 then p.cmdPos.toNat
  else if o = 0x74 then (if p.en then pack16 s.linkLoad s.linkLoad else 0)
  else match within o 0x100 4 16 with
    | some (h, _) =>
      let x := s.headCmp h
      x.last.code + fld 8 ((x.history.filter (fun y => y.1)).length) + fld 16 (min x.missRun 15)
    | none => match within o 0x400 4 160 with
      | some (c, _) => (Tab.get 0 p.tkMseq c + 2 ^ 32 - 1) % 2 ^ 32
      | none => s.reg (0xA0000 + o)

/-- The SAFE block (R237, R448). -/
def State.viewSafe (s : State) (o : Nat) : Nat :=
  if 0x100 ≤ o ∧ o < 0x140 then (s.head ((o - 0x100) / 4)).mapCrc.toNat
  else if o = 0x180 then s.safe.glyphCrc.toNat
  else if 0x200 ≤ o ∧ o < 0x280 then leNat ((s.prot.health.report.drop (o - 0x200)).take 4)
  else if o = 0x280 then lo32 s.prot.health.seq
  else s.reg (0xB0000 + o)

/-- The CAN block (R382). -/
def State.viewCan (s : State) (o : Nat) : Nat :=
  let d := s.dict
  if o = 0x4010 then bitIf 0 d.mbxBusy + bitIf 1 d.mbxDone + fld 16 (d.mbxReason % 2 ^ 16)
  else if o = 0x4014 then d.mbxAbort
  else match within o 0x5000 0x100 2 with
    | some (n, e) =>
      let x : CanNode := Tab.get {} d.can n
      if e = 0 then
        x.nodeId.toNat + fld 8 x.nmt + fld 12 x.bus + fld 16 x.tec.toNat + fld 24 x.recCnt.toNat
      else if e = 4 then x.nominal + fld 4 x.data
      else 0
    | none => s.reg (0xC0000 + o)

/-! ## LANE, DEC, REC, SHEET (R172, R197, R235, R236, R282, R283) -/

/-- The code of a bond width in LANE[n].STATE (R172). -/
def widthCode : Nat → Nat
  | 1 => 1
  | 2 => 2
  | _ => 3

/-- Lane `n` (R172). -/
def State.viewLane (s : State) (n o : Nat) : Nat :=
  let x := s.lane n
  if n = 0 ∧ o = 0x808 then s.cruiseSeq.toNat
  else if o = 0 then
    x.state.code + bitIf 4 x.txEidle + bitIf 5 x.rxEidle + fld 8 (if x.en then widthCode x.width else 0) + fld 16 x.first +
      fld 24 ((x.ident.map (fun i => i.kind.toNat)).getD 0)
  else if o = 4 then (if x.en then 1 + fld 4 x.rate + fld 8 x.role.code else 0)
  else if o = 8 then ((s.board.laneEq)[n]?.getD 0).toNat
  else if o = 0xC then
    (match x.latency with
      | some v => v % 2 ^ 31 + 2 ^ 31
      | none => 0)
  else if o = 0x10 then (if x.en then x.fill % 64 + fld 8 (x.fillMin % 64) + fld 16 (x.fillMax % 64) else 0)
  else if 0x20 ≤ o ∧ o < 0x40 then
    (match x.ident with
      | some i => leNat (((identBytes i).drop (o - 0x20)).take 4)
      | none => 0)
  else s.reg (0x140000 + 0x1000 * n + o)

/-- Parts of pictures in work that core `k` finishes although the packing has them elsewhere: they count in its LOAD until then (R179). -/
def State.movingParts (s : State) (k : Nat) (here : List (Nat × Nat)) : List PackPart :=
  (keys s.ctxs).flatMap (fun n => match (s.ctx n).picture with
    | some p => (p.parts.filter (fun q => q.core == k && q.state != .done && !here.contains (n, q.part))).flatMap (fun q =>
        s.allParts.filter (fun a => a.owner == n && a.part == q.part))
    | none => [])

/-- Decode core `k` (R197). -/
def State.viewDec (s : State) (k o : Nat) : Nat :=
  let x := s.core k
  let p : PackCore := (s.decodePack.getD []).getD k {}
  let old := s.movingParts k (p.parts)
  if o = 0 then
    x.state.code + fld 8 ((x.job.map Prod.fst).getD 0xFF) + fld 16 ((x.job.map Prod.snd).getD 0)
  else if o = 4 then
    ceilFrac (fSum (p.charge :: old.map (fun q => q.charge))) 1000000 + fld 16 (ceilFrac (fSum (p.rate :: old.map (fun q => q.rate))) 1000000)
  else if o = 8 then p.parts.length
  else if 0x20 ≤ o ∧ o < 0x34 then
    bits (bitSet (p.parts.map Prod.fst)) ((o - 0x20) * 8 + 31) ((o - 0x20) * 8)
  else if 0x100 ≤ o ∧ o < 0x128 then slotWords (s.unitSlots k) (o - 0x100)
  else s.reg (0x160000 + 0x1000 * k + o)

/-- The code of a power of 2: 1, 2 or 4. -/
def log2Code : Nat → Nat
  | 1 => 0
  | 2 => 1
  | _ => 2

/-- Recording `r` (R283). -/
def State.viewRecording (s : State) (r o : Nat) : Nat :=
  let x := s.recording r
  let c := x.cfg
  let on := fun (v : Nat) => if c.en then v else 0
  if o = 0 then
    on (1 + fld 1 (log2Code c.sx) + fld 3 (log2Code c.sy) + fld 5 ((c.d - 1) % 8) + fld 8 ((c.k - 1) % 4) + bitIf 10 c.ring + bitIf 11 c.rtp +
      fld 12 c.port)
  else if o = 4 then on (pack16 (recW (s.head r).cfg c) (recH (s.head r).cfg c))
  else if o = 8 then on (c.qpBase + fld 8 c.qpMax + fld 16 c.bucketMs)
  else if o = 0xC then on c.capKbps
  else if o = 0x10 then on (c.gopLen + fld 16 c.ltrPeriod)
  else if o = 0x14 then min x.creditLast 0xFFFFFFFF
  else if o = 0x18 then x.lastSeq.toNat
  else if o = 0x20 then lo32 x.bsWr.toNat
  else if o = 0x24 then hi32 x.bsWr.toNat
  else if o = 0x2C then hi32 x.bsRd.toNat
  else if o = 0x30 then x.idxWr.toNat
  else if o = 0x34 then x.idxRd.toNat
  else if o = 0x38 then on ((if c.ring then c.ringPages else 0) + fld 16 c.idxPages)
  else if o = 0x40 then x.exhausted.toNat
  else if o = 0x44 then x.missed.toNat
  else if o = 0x48 then x.dropped.toNat
  else if o = 0x4C then x.idxLost.toNat
  else if o = 0x50 then x.rtpDrop.toNat
  else if o = 0x54 then x.rtpSeq.toNat
  else s.reg (0x170800 + 0x80 * r + o)

/-- Recorder core `k` (R282), with the recordings in the first (R283). -/
def State.viewRec (s : State) (k o : Nat) : Nat :=
  let x := s.recCore k
  let p : PackCore := (s.recPack.getD []).getD k {}
  if o = 0 then x.state + fld 8 ((x.job.map Prod.fst).getD 0xFF) + fld 16 ((x.job.map Prod.snd).getD 0)
  else if o = 4 then ceilFrac p.charge 1000000 + fld 16 (ceilFrac p.rate 1000000)
  else if o = 8 then p.parts.length
  else if o = 0x20 then bitSet (p.parts.map Prod.fst)
  else if 0x100 ≤ o ∧ o < 0x128 then slotWords (s.unitSlots (18 + k)) (o - 0x100)
  else match within o 0x800 0x80 16 with
    | some (r, e) => if k = 0 then s.viewRecording r e else 0
    | none => s.reg (0x170000 + 0x1000 * k + o)

/-- Coefficient bank registers and contents, at `o` in a head or engine (R216, R234, R235). -/
def viewBanks (b : Banks) (o : Nat) : Option Nat :=
  if o = 0x914 then
    some ((List.range 4).foldl (fun a i => a + fld (2 * i) (Tab.get BankState.valid b.state i).code) 0 + fld 8 b.errTable + fld 16 b.errPhase)
  else if 0x920 ≤ o ∧ o < 0x930 then
    some (sealedHash b ((o - 0x920) / 4)).toNat
  else if 0x4000 ≤ o ∧ o < 0x8000 then
    let e := o % 0x1000
    let half16 := fun (i : Nat) => wrap 16 (bankHalf b ((o - 0x4000) / 0x1000) i)
    some (if e < 0xA00 then pack16 (half16 (e / 2)) (half16 (e / 2 + 1)) else 0)
  else none

/-- Sheet `n` (R236). -/
def State.viewSheetS (s : State) (n o : Nat) : Nat :=
  let x := s.sheet n
  let c := x.cfg
  if !x.created then 0
  else if o = 0 then 1 + fld 1 c.format + fld 2 x.engine + fld 8 (s.aTileWins n).length
  else if o = 4 then pack16 c.w c.h
  else if o = 8 then c.period
  else if o = 0xC then lo32 (wrap 64 c.t0)
  else if o = 0x10 then hi32 (wrap 64 c.t0)
  else if o = 0x14 then c.bg.toNat
  else if o = 0x18 then x.pool.length
  else if o = 0x1C then x.lastSeq.toNat
  else if o = 0x20 then x.misses.toNat
  else 0

/-- Sheet engine `e` (R235), with the sheets in the first (R236). -/
def State.viewSheet (s : State) (e o : Nat) : Nat :=
  let x := s.engine e
  let mine := s.sheets.filter (fun p => p.2.created && !p.2.stopped && p.2.engine == e)
  if o = 0 then x.state + fld 8 (x.sheet.getD 0xFF) + fld 16 x.tile
  else if o = 4 then
    ceilFrac (fSum (mine.map (fun p => s.sheetRead p.1 p.2.cfg))) 1000000 +
      fld 16 (ceilFrac (fSum (mine.map (fun p => sheetWrite p.2.cfg))) 1000000)
  else if o = 8 then bitSet (mine.map Prod.fst)
  else if 0x100 ≤ o ∧ o < 0x128 then slotWords (s.unitSlots (16 + e)) (o - 0x100)
  else match viewBanks x.banks o with
    | some v => v
    | none => match within o 0x8000 0x100 32 with
      | some (n, f) => if e = 0 then s.viewSheetS n f else 0
      | none => s.reg (0x180000 + 0x10000 * e + o)

/-! ## TCH, KEY, HAP, AUD (R366 to R369) -/

/-- Two neighbouring 16-bit table entries. -/
def pair16 (t : Tab Nat) (i : Nat) : Nat := pack16 (Tab.get 0 t i) (Tab.get 0 t (i + 1))

/-- Touch port `p` (R366). -/
def State.viewTouch (s : State) (p o : Nat) : Nat :=
  let x : Touch := Tab.get {} s.console.ports p
  let c := x.cfg
  if o = 0 then
    x.state.code + bitIf 4 x.nextSelf + fld 8 (min x.contacts.length 15) + bitIf 12 x.water +
      bitIf 13 (!x.suspectNodes.isEmpty || !x.suspectSelf.isEmpty) + bitIf 14 (!x.failNodes.isEmpty || !x.failD.isEmpty || !x.failS.isEmpty)
  else if o = 4 then
    bitIf 0 c.en + fld 4 c.head + fld 8 ((c.div - 1) % 4) + fld 12 c.guard + fld 16 c.d + fld 24 c.s
  else if o = 8 then c.burst + fld 8 c.ftx
  else if o = 0xC then pack16 c.touchTh c.liftTh
  else if o = 0x10 then pack16 c.selfTh c.waterTh
  else if o = 0x14 then c.suspectFrac + fld 8 c.driftScans + fld 16 c.noiseTh
  else if o = 0x18 then c.maxHold + fld 16 c.downN + fld 20 c.upN
  else if o = 0x1C then c.openFrac + fld 8 c.shortFrac + fld 16 c.periodS
  else if o = 0x2C then lo32 x.written
  else if 0x100 ≤ o ∧ o < 0x108 then bits (bitSet x.failD) ((o - 0x100) * 8 + 31) ((o - 0x100) * 8)
  else if 0x108 ≤ o ∧ o < 0x114 then bits (bitSet x.failS) ((o - 0x108) * 8 + 31) ((o - 0x108) * 8)
  else if 0x1000 ≤ o ∧ o < 0x2680 then pair16 x.raw ((o - 0x1000) / 2)
  else if 0x3000 ≤ o ∧ o < 0x4680 then pair16 x.base ((o - 0x3000) / 2)
  else if 0x5000 ≤ o ∧ o < 0x50E0 then pair16 x.selfRaw ((o - 0x5000) / 2)
  else if 0x5100 ≤ o ∧ o < 0x51E0 then pair16 x.selfBase ((o - 0x5100) / 2)
  else s.reg (0x1A0000 + 0x10000 * p + o)

/-- The KEY block (R367). -/
def State.viewKey (s : State) (o : Nat) : Nat :=
  if o < 0x10 then s.keyBits false (o / 4)
  else if o < 0x20 then s.keyBits true ((o - 0x10) / 4)
  else if o = 0x20 then s.console.keyMaxHold
  else match within o 0x100 0x10 128 with
    | some (k, e) =>
      let x : Key := Tab.get {} s.console.keys k
      let c := x.cfg
      if e = 0 then bitIf 0 c.en + fld 1 c.port + fld 2 c.line + fld 16 c.pressN + fld 20 c.releaseN
      else if e = 4 then pack16 c.pressTh c.releaseTh
      else if e = 8 then x.state.code + bitIf 2 x.fail + fld 16 (wrap 16 ((x.raw : Int) - (x.base : Int)))
      else if e = 0xC then pack16 x.raw x.base
      else 0
    | none => 0

/-- The HAP block (R368). -/
def State.viewHap (s : State) (o : Nat) : Nat :=
  match within o 0 4 8 with
  | some (n, _) =>
    let x : HapOut := Tab.get {} s.console.outs n
    (match x.wave with
      | some w => 1 + fld 8 w + fld 16 x.prio
      | none => 0)
  | none => match within o 0x200 4 64 with
    | some (r, _) =>
      let x : HapRule := Tab.get {} s.console.rules r
      x.key + fld 8 x.edge + bitIf 11 x.en + fld 12 x.wave + fld 17 x.prio + fld 24 x.out.toNat
    | none => s.reg (0x1D0000 + o)

/-- The AUD block (R369). -/
def State.viewAud (s : State) (o : Nat) : Nat :=
  let c := s.console
  if o = 0 then
    c.portEn.toNat + bitIf 8 c.tone.isSome + fld 12 ((c.tone.map (fun x => x.pattern)).getD 0) + fld 16 ((c.tone.map (fun x => x.prio)).getD 0) +
      fld 24 c.alarms.length
  else if o = 4 then c.portEn.toNat
  else if o = 0x400 then c.alarmSlots.toNat
  else if o = 0x404 then c.duck
  else s.reg (0x1E0000 + o)

/-! ## CH, CTX, SURF (R115, R148, R149, R198, R330) -/

/-- The registers of a blaze checker, at `o` in its block (R115). -/
def viewBlaze (c : BlazeCfg) (x : BlazeState) (o : Nat) : Nat :=
  if o = 0 then b2n c.en
  else if o = 4 then pack16 c.x c.y
  else if o = 8 then pack16 c.w c.h
  else if o = 0xC then c.period
  else if o = 0x10 then x.verdict.code + fld 16 x.chgSeq.toNat
  else if o = 0x14 then x.prev.toNat
  else if o = 0x18 then lo32 x.lastChg.toNat
  else if o = 0x1C then hi32 x.lastChg.toNat
  else 0

/-- Channel `c` (R149). -/
def State.viewCh (s : State) (c o : Nat) : Nat :=
  let x := s.chan c
  if o = 0 then x.state.code + fld 8 (x.ctx.getD 0xFF)
  else if o = 4 then x.offset
  else if o = 8 then x.silenceMs
  else if o = 0xC then lo32 x.lastArrv.toNat
  else if o = 0x10 then hi32 x.lastArrv.toNat
  else if 0x200 ≤ o ∧ o < 0x220 then viewBlaze x.blaze x.checker (o - 0x200)
  else s.reg (0x200000 + 0x1000 * c + o)

/-- A path's registers, at `o` in its block (R148): an address's byte i lies in bits [8i + 7 : 8i] of its words. -/
def viewPath (d : PathCfg) (p : PathState) (o : Nat) : Nat :=
  let addr := fun (a : BitVec 128) (j : Nat) => lo32 (a.toNat / 2 ^ (32 * j))
  if o = 0 then bitIf 0 d.en + fld 1 d.port + bitIf 3 d.ipv6 + bitIf 4 d.srcFilt + bitIf 8 p.up + fld 16 d.udpPort.toNat
  else if 4 ≤ o ∧ o < 0x14 then addr d.dst ((o - 4) / 4)
  else if 0x14 ≤ o ∧ o < 0x24 then addr d.src ((o - 0x14) / 4)
  else if o = 0x24 then p.pkts.toNat
  else 0

/-- What a network declaration shows (R148, R198). -/
def viewDecl (x : Ctx) (d : NetDecl) (o : Nat) : Nat :=
  if o = 4 then d.codec + fld 8 d.payloadType + bitIf 16 (d.pathA.en && d.pathB.en)
  else if o = 8 then pack16 d.w d.h
  else if o = 0xC then pack16 d.num d.den
  else if o = 0x10 then d.kbps
  else if o = 0x14 then d.holdoff
  else if o = 0x18 then d.clockMode + bitIf 4 d.gmAny + fld 8 d.domainNumber.toNat + fld 16 d.srMaxAge
  else if o = 0x1C then d.mclkOfs.toNat
  else if o = 0x20 then lo32 d.gm.toNat
  else if o = 0x24 then hi32 d.gm.toNat
  else if o = 0x28 then d.ssrcCfg.toNat
  else if o = 0x30 then pack16 d.pathDownMs d.retryMs
  else if 0x40 ≤ o ∧ o < 0x80 then viewPath d.pathA x.pathA (o - 0x40)
  else if 0x80 ≤ o ∧ o < 0xC0 then viewPath d.pathB x.pathB (o - 0x80)
  else if o = 0x200 then
    d.profile + fld 4 d.level + bitIf 12 d.tenBit + bitIf 13 d.chroma422 + fld 16 d.split + fld 18 d.k + fld 24 d.dpbDepth
  else if o = 0x204 then d.reorder + fld 8 x.hold + fld 16 x.nBufs
  else 0

/-- The marks of a buffer (R185). A frame that a sheet composes from again while nothing newer is released to it (R225) carries SHEET until
then: DEDUCED (log 175), since a buffer without a mark is free. -/
def Frame.marks (f : Frame) : Nat :=
  bitIf 0 f.markDecode + bitIf 1 f.markShort + bitIf 2 f.markLong + bitIf 3 f.markOutput + bitIf 4 f.markPending + bitIf 5 (f.markLatent != 0) +
    bitIf 6 (f.markDisplay != 0) + bitIf 7 (f.markSheet != 0 || f.heldSheets != 0) + bitIf 8 (f.markRec != 0)

/-- CTX[n].STATE (R148). -/
def ctxWord (x : Ctx) : Nat :=
  let kind : Nat := match x.decl with
    | none => 0
    | some (.net _) => 1
    | some (.lusko _) => 2
  x.state.code + bitIf 4 x.preroll + fld 6 kind + fld 8 ((if x.preroll then Ctx.channel x else x.ch).getD 0xFF) + fld 16 ((x.salvo.map Prod.fst).getD 0xF) +
    fld 24 x.fault.code

/-- Context `n` (R148, R198). -/
def State.viewCtx (s : State) (n o : Nat) : Nat :=
  let x := { s.ctx n with decl := declOf (s.obj (0x4100 + n)).set }
  if o = 0 then ctxWord x
  else if o = 0x2C then (x.ssrc.getD 0).toNat
  else if o = 0x100 then bitIf 0 x.srcTrace + bitIf 1 (x.sr.isSome && !x.srExpired) + fld 4 x.clkDomain
  else if o = 0x64 then x.pathA.pkts.toNat
  else if o = 0xA4 then x.pathB.pkts.toNat
  else if o = 0x104 then (if x.skews.isEmpty then 0 else wrap 32 (Config.pathSkew x.skews))
  else if o = 0x108 then x.dup.toNat
  else if o = 0x10C then x.lost.toNat
  else if o = 0x110 then x.late.toNat
  else if o = 0x114 then x.auDone.toNat
  else if o = 0x118 then x.auPartial.toNat
  else if o = 0x11C then x.discard.toNat
  else if o = 0x120 then x.overflow.toNat
  else if o = 0x208 then x.pool.length
  else if o = 0x20C then ((List.range x.nBufs).filter (fun b => Frame.isFree (Tab.get {} x.bufs b))).length
  else if o = 0x210 then bitSet ((s.packing.filter (fun p => p.1 == n)).map (fun p => p.2.2))
  else if o = 0x214 then x.decErr.toNat
  else if o = 0x218 then x.decLastErr + fld 16 x.decLastErrSeq.toNat
  else if o = 0x21C then x.pics.toNat
  else if o = 0x220 then x.generated.toNat
  else if o = 0x224 then x.concealed.toNat
  else if o = 0x228 then lo32 x.prerollSlots.toNat
  else if o = 0x22C then hi32 x.prerollSlots.toNat
  else match within o 0x400 4 128 with
    | some (b, _) =>
      let f : Frame := Tab.get {} x.bufs b
      if b < x.nBufs then Frame.marks f + fld 16 f.seq.toNat else 0
    | none => match x.decl with
      | some (.net d) => viewDecl x d o
      | some (.lusko d) =>
        if o = 8 then pack16 d.w d.h
        else if o = 0xC then pack16 d.num d.den
        else if o = 0x14 then 10000
        else if o = 0x204 then fld 8 x.hold + fld 16 x.nBufs
        else if o = 0x30 then pack16 200 d.retryMs
        else 0
      | none => if o = 0x14 then 10000 else if o = 0x30 then 0x03E800C8 else 0

/-- Surface `k` (R330). -/
def State.viewSurf (s : State) (k o : Nat) : Nat :=
  let x := s.surf k
  if !x.created then 0
  else if o = 0 then 1 + fld 8 x.owner + fld 16 x.format
  else if o = 4 then pack16 x.w x.h
  else if o = 8 then x.nBufs % 256 + fld 8 (x.pool.length % 2 ^ 16)
  else if o = 0xC then x.maxRate
  else if o = 0x10 then x.commits.toNat
  else if o = 0x14 then x.failed.toNat
  else if o = 0x18 then lo32 x.lastArrv.toNat
  else if o = 0x1C then hi32 x.lastArrv.toNat
  else if 0x80 ≤ o ∧ o < 0xA0 then viewBlaze x.blaze x.checker (o - 0x80)
  else 0

/-! ## HEAD (R110, R234, R264) -/

/-- Byte `i` of a sink's descriptor. -/
def edidByte (k : Link) (i : Nat) : Nat := (k.edid.getD i 0).toNat

/-- The display range limits descriptor of the base block, if it has one: offset in the block (PRESUMED from E-EDID 1.4). -/
def edidRange (k : Link) : Option Nat :=
  [54, 72, 90, 108].find? (fun i => edidByte k i == 0 && edidByte k (i + 1) == 0 && edidByte k (i + 3) == 0xFD)

/-- Lowest and highest vertical rate of the descriptor, Hz. -/
def edidRates (k : Link) : Nat × Nat :=
  match edidRange k with
  | some i =>
    let f := edidByte k (i + 4)
    (edidByte k (i + 5) + (if bits f 1 0 = 3 then 255 else 0), edidByte k (i + 6) + (if bit f 1 then 255 else 0))
  | none => (0, 0)

/-- Timing registers of a head (R264). -/
def viewTiming (x : Head) (o : Nat) : Nat :=
  let c := x.cfg
  if o = 4 then pack16 c.hActive (HeadCfg.hTotal c)
  else if o = 8 then c.hFront % 2 ^ 12 + fld 16 (c.hSync % 2 ^ 12) + bitIf 31 c.hPol
  else if o = 0xC then pack16 c.vActive (HeadCfg.vTotal c)
  else if o = 0x10 then c.vFront % 2 ^ 12 + fld 16 (c.vSync % 2 ^ 12) + bitIf 31 c.vPol
  else if o = 0x14 then pack16 (HeadCfg.vMin c) (if HeadCfg.ready c then c.vMax else HeadCfg.vMin c)
  else if o = 0x18 then c.lead % 2 ^ 10
  else if o = 0x1C then
    (if HeadCfg.ready c then ceilDiv ((c.vActive + HeadCfg.vBlankMax c) * HeadCfg.lineNum c) (HeadCfg.lineDen c) else c.period)
  else if o = 0x20 then (if HeadCfg.ready c then 0 else lo32 (wrap 64 c.t0))
  else if o = 0x24 then (if HeadCfg.ready c then 0 else hi32 (wrap 64 c.t0))
  else if o = 0x28 then (2 * pixNum c + pixDen c) / (2 * pixDen c)
  else if o = 0x2C then bitIf 0 c.bpc10 + bitIf 1 c.limited + bitIf 2 c.ssc
  else if o = 0x30 then (if HeadCfg.ready c then 0 else wrap 32 x.phase)
  else if o = 0x34 then x.frames.toNat
  else if o = 0x38 then x.blankLast
  else (List.range 8).foldl (fun a p => a + fld (2 * p) (Tab.get 0 x.levels p)) 0

/-- Link registers of a head (R264). -/
def viewLink (x : Head) (o : Nat) : Nat :=
  let c := x.cfg
  let k := x.link
  if o = 0x100 then c.maxRate + fld 4 c.maxLanes + bitIf 8 c.asyncReq
  else if o = 0x104 then
    bitIf 0 k.hpd + bitIf 1 k.trained + bitIf 2 k.enabled + fld 4 k.rate + fld 8 k.lanes +
      bitIf 12 (k.enabled && HeadCfg.ready c && bit (Tab.get 0 k.dpcd 0x107) 7) + bitIf 13 k.sinkMismatch + bitIf 14 k.down
  else if o = 0x114 then
    (if k.edid.isEmpty then 0 else edidByte k 8 * 256 + edidByte k 9 + fld 16 (edidByte k 10 + edidByte k 11 * 256))
  else if o = 0x118 then
    k.edid.length % 2 ^ 12 + bitIf 16 ((List.range 15).any (fun b => edidByte k (128 * (b + 1)) == 0x70)) +
      fld 24 ((edidRates k).1 % 256)
  else (edidRates k).2 % 256 + bitIf 8 (sinkAsync k.dpcd)

/-- Head `h` (R110, R234, R264). -/
def State.viewHead (s : State) (h o : Nat) : Nat :=
  let x := s.head h
  if o = 0 then
    x.state.code + bitIf 4 (HeadCfg.ready x.cfg) + bitIf 5 (x.state == .run && x.phaseOk) + bitIf 6 x.latched + bitIf 7 x.blank
  else if o < 0x40 ∨ o = 0x44 then viewTiming x o
  else if o = 0x100 ∨ o = 0x104 ∨ o = 0x114 ∨ o = 0x118 ∨ o = 0x11C then viewLink x o
  else if o = 0x814 then pack16 x.clean x.marked
  else if o = 0x818 then lo32 x.markEpoch.toNat
  else if o = 0x81C then hi32 x.markEpoch.toNat
  else if o = 0x900 then (x.bgNext.getD x.bg).toNat
  else if o = 0x904 then bitIf 0 x.gen + fld 16 x.genSeq.toNat
  else if o = 0x908 then x.evalWin % 2 ^ 10 + fld 16 (x.evalTile % 2 ^ 10)
  else if 0x1000 ≤ o ∧ o < 0x1800 then leNat ((x.link.edid.drop (o - 0x1000)).take 4)
  else match viewBanks x.banks o with
    | some v => v
    | none => s.reg (0x400000 + 0x10000 * h + o)

/-! ## INST, MMU and the doorbell pages (R322, R323, R332, R440) -/

/-- INST[n].STATE (R322). -/
def instState (i : Inst) : Nat := i.state.code + bitIf 4 i.draining + fld 8 i.groups.length

/-- Instance `n` (R322). -/
def State.viewInst (s : State) (n o : Nat) : Nat :=
  let i := s.inst n
  if o = 0 then instState i
  else if o = 8 then i.result % 2 ^ 16 + bitIf 31 i.done
  else if grantReg o then s.instWord n o
  else if o = 0x4C then 10
  else if o = 0xB0 then (s.mapped n).length % 2 ^ 15 + fld 16 ((s.instUsed n).length % 2 ^ 15)
  else if o = 0xB4 then (s.surfs.filter (fun (p : Nat × Surface) => p.2.created && p.2.owner == n)).length
  else s.reg (0x500000 + 0x1000 * n + o)

/-- The page table registers of instance `n` (R332). -/
def State.viewMmu (s : State) (n o : Nat) : Nat :=
  let i := s.inst n
  if o = 0x10 then i.mmuResult % 2 ^ 16 + bitIf 31 i.mmuDone
  else if o = 0x20 then lo32 i.faultVa.toNat
  else if o = 0x24 then hi32 i.faultVa.toNat
  else if o = 0x28 then i.faultUnit + bitIf 4 i.faultWrite + fld 16 i.faultCount.toNat
  else s.reg (0x520000 + 0x1000 * n + o)

/-- The counter window of a doorbell page (R440): what CNT_VIS and the grants do not allow reads 0. -/
def State.viewWindow (s : State) (n o : Nat) : Nat :=
  let g := (s.inst n).grants
  if o < 0xC000 then
    let c := (o - 0x8000) / 0x80
    let e := o % 0x80
    if g.chGrant.getLsbD c && g.cntVis.getLsbD 0 then
      (if e < 0x60 then s.reg (Reg.chCount c (e / 4)) else if e = 0x60 then s.reg (Reg.chOvf c) else 0)
    else 0
  else if o < 0xD000 then
    let k := (o - 0xC000) / 0x10
    let x := s.surf k
    if s.ownsSurf n k && g.cntVis.getLsbD 1 then
      ((match o % 0x10 / 4 with
        | 0 => x.commits
        | 1 => x.failed
        | 2 => x.misses
        | _ => x.snags) : BitVec 32).toNat
    else 0
  else
    let r := (o - 0xD000) / 0x20
    let x := s.recording r
    if decide (r < 16) && g.recGrant.getLsbD r && g.cntVis.getLsbD 2 then
      ((match o % 0x20 / 4 with
        | 0 => x.exhausted
        | 1 => x.missed
        | 2 => x.dropped
        | 3 => x.idxLost
        | 4 => x.rtpDrop
        | _ => 0) : BitVec 32).toNat
    else 0

/-- A queue's registers in the doorbell page (R323). -/
def viewQueue (x : WorkQueue) (o : Nat) : Nat :=
  if o = 0 then lo32 x.base.toNat
  else if o = 4 then hi32 x.base.toNat
  else if o = 8 then x.size
  else if o = 0xC then x.tail
  else if o = 0x10 then x.head
  else if o = 0x14 then bitIf 0 x.en + bitIf 1 x.err + fld 8 x.errCode
  else 0

/-- The doorbell page of instance `n` (R323). -/
def State.viewPage (s : State) (n o : Nat) : Nat :=
  let i := s.inst n
  let c := i.cq
  let e := i.evq
  if o < 0x100 then viewQueue (s.queue n (o / 0x40)) (o % 0x40)
  else if o = 0x100 then lo32 c.base.toNat
  else if o = 0x104 then hi32 c.base.toNat
  else if o = 0x108 then c.size
  else if o = 0x10C then c.head
  else if o = 0x110 then c.tail
  else if o = 0x114 then bitIf 0 c.en + fld 8 c.vec
  else if o = 0x200 then lo32 e.base.toNat
  else if o = 0x204 then hi32 e.base.toNat
  else if o = 0x208 then e.size
  else if o = 0x20C then e.rd
  else if o = 0x210 then e.wr
  else if o = 0x214 then bitIf 0 e.en + fld 8 e.vec + fld 16 e.thresh + fld 24 e.holdUs
  else if o = 0x218 then e.lost.toNat
  else if o = 0x300 then lo32 i.vecPend.toNat
  else if o = 0x304 then hi32 i.vecPend.toNat
  else if o = 0x308 then lo32 i.vecMask.toNat
  else if o = 0x30C then hi32 i.vecMask.toNat
  else if o = 0x400 then instState i
  else if 0x8000 ≤ o then s.viewWindow n o
  else 0

/-! ## The whole of BAR0 -/

/-- A block of indexed units: its view of the unit's register, else nothing. -/
def viewUnits (o base stride n : Nat) (f : Nat → Nat → Nat) (rest : Nat) : Nat :=
  match within o base stride n with
  | some (i, e) => f i e
  | none => rest

/-- What the register at BAR0 offset `o`, a multiple of 4, shows now. -/
def State.view (s : State) (o : Nat) : Nat :=
  if o < 0x100000 then
    (match o / 0x10000, o % 0x10000 with
      | 0, e => s.viewGlb e
      | 1, e => s.viewMode e
      | 2, e => s.viewPwr e
      | 3, e => s.viewTime e
      | 4, e => s.viewPtp e
      | 5, e => s.viewMpu e
      | 6, e => s.viewUpd e
      | 7, e => s.viewPmc e
      | 9, e => s.viewTally e
      | 10, e => s.viewPair e
      | 11, e => s.viewSafe e
      | 12, e => s.viewCan e
      | 13, e => s.viewProv e
      | _, _ => s.reg o)
  else
    viewUnits o 0x140000 0x1000 32 s.viewLane <|
    viewUnits o 0x160000 0x1000 16 s.viewDec <|
    viewUnits o 0x170000 0x1000 4 s.viewRec <|
    viewUnits o 0x180000 0x10000 2 s.viewSheet <|
    viewUnits o 0x1A0000 0x10000 2 s.viewTouch <|
    viewUnits o 0x1C0000 0x10000 1 (fun _ => s.viewKey) <|
    viewUnits o 0x1D0000 0x10000 1 (fun _ => s.viewHap) <|
    viewUnits o 0x1E0000 0x10000 1 (fun _ => s.viewAud) <|
    viewUnits o 0x200000 0x1000 128 s.viewCh <|
    viewUnits o 0x280000 0x1000 160 s.viewCtx <|
    viewUnits o 0x320000 0x100 256 s.viewSurf <|
    viewUnits o 0x400000 0x10000 16 s.viewHead <|
    viewUnits o 0x500000 0x1000 32 s.viewInst <|
    viewUnits o 0x520000 0x1000 32 s.viewMmu <|
    viewUnits o 0x1000000 0x80000 2 (fun g => s.viewWin (g == 1)) (s.reg o)

end Sys2Proof.Machine
end

