-- ==== Sys2Proof/Machine/Regs.lean ====
section
/-! DEFINITION. Reads and writes of registers that have no command of their own: access codes, locks, high words latched by their low word,
counters cleared by a read (R19 to R21, R49, R59, R60, R62, R322, R323, R396, R399, R409, R410, R421, R450). -/

namespace Sys2Proof.Machine

/-! ## What is served -/

/-- BAR0 answers at an offset: the device is up, and in RECOVERY only GLB and UPD are served (R49, R409). -/
def State.serves (s : State) (o : Nat) : Bool :=
  s.mode.phase == .up && s.mode.mode != .standby && barListed o &&
    (s.mode.mode != .recovery || decide (o < 0x10000) || (decide (0x60000 ≤ o) && decide (o < 0x70000)))

/-! ## Reads -/

/-- The registers that a read of the low word at `o` latches (R59, R60, R74, R110, R115, R149, R197, R198, R236, R264, R283, R315, R330,
R332, R410, R434, R455). -/
def latchedBy (o : Nat) : List Nat :=
  let core := fun (e : Nat) => decide (0x100 ≤ e) && decide (e < 0x128) && e % 8 == 0
  let hit : Bool :=
    o == 0x30000 || o == 0x30008 || (decide (0x30070 ≤ o) && decide (o < 0x300B0) && o % 8 == 0) ||
    o == 0x20008 || o == 0x50008 || o == 0x50020 || o == 0xA0030 ||
    (match within o 0x30100 0x20 4 with
      | some (_, e) => e == 0x14
      | none => false) ||
    (match within o 0x71000 0x100 39 with
      | some (_, e) => (decide (e < 0x28) || (decide (0x60 ≤ e) && decide (e < 0xA0))) && e % 8 == 0
      | none => false) ||
    (match within o 0x160000 0x1000 16 with
      | some (_, e) => core e
      | none => false) ||
    (match within o 0x170000 0x1000 4 with
      | some (k, e) => core e || (k == 0 && decide (0x800 ≤ e) && e % 0x80 == 0x20)
      | none => false) ||
    (match within o 0x180000 0x10000 2 with
      | some (k, e) => core e || (k == 0 && decide (0x8000 ≤ e) && decide (e < 0xA000) && e % 0x100 == 0xC)
      | none => false) ||
    (match within o 0x200000 0x1000 128 with
      | some (_, e) => e == 0xC || e == 0x218
      | none => false) ||
    (match within o 0x280000 0x1000 160 with
      | some (_, e) => e == 0x228
      | none => false) ||
    (match within o 0x320000 0x100 256 with
      | some (_, e) => e == 0x18 || e == 0x98
      | none => false) ||
    (match within o 0x400000 0x10000 16 with
      | some (_, e) => e == 0x20 || e == 0x818
      | none => false) ||
    (match within o 0x520000 0x1000 32 with
      | some (_, e) => e == 0x20
      | none => false)
  if o = 0x30010 then [0x30014, 0x30018, 0x3001C, 0x30020] else if hit then [o + 4] else []

/-- A register whose value is what its low word latched. -/
def latchedReg (o : Nat) : Bool :=
  ([4, 8, 0xC, 0x10] : List Nat).any (fun d => decide (d ≤ o) && (latchedBy (o - d)).contains o)

/-- The unit whose counters lie at `o`, if any (R197, R455). -/
def counterUnit (o : Nat) : Option Nat :=
  let core := fun (p : Option (Nat × Nat)) (u : Nat) => p.bind (fun x => if 0x100 ≤ x.2 ∧ x.2 < 0x128 then some (u + x.1) else none)
  match core (within o 0x160000 0x1000 16) 0, core (within o 0x180000 0x10000 2) 16, core (within o 0x170000 0x1000 4) 18 with
  | some u, _, _ => some u
  | _, some u, _ => some u
  | _, _, some u => some u
  | _, _, _ => (within o 0x71000 0x100 39).map Prod.fst

/-- What the register at `o` reads. -/
def State.readValue (s : State) (o : Nat) : Nat := if latchedReg o then Tab.get 0 s.latches o else s.view o

/-- The read latches the high words that belong to it. -/
def State.latchHigh (s : State) (o : Nat) : State :=
  (latchedBy o).foldl (fun (x : State) h => { x with latches := Tab.set 0 x.latches h (s.view h) }) s

/-- What a read clears: an RC register; what other registers count or record since the last read (R49, R172, R332, R395, R434).
DESIGN CHOICE (log 221): GLB.BAR_STRAY_OFF keeps the old offset until the next stray access after a read of GLB.BAR_STRAY. -/
def State.readClear (s : State) (o : Nat) : State :=
  let s := match regRow? o with
    | some r => if r.acc = .rc then s.setReg o 0 else s
    | none => s
  if o = Reg.glbBarStray then { s with glb := { s.glb with straySeen := false } }
  else if o = Reg.mpuFaultCount then { s with prot := { s.prot with faultLatched := false } }
  else if o = 0x20064 then s.setMode { s.mode with tokPeak := s.tokensHeld }
  else match within o 0x140000 0x1000 32 with
    | some (n, 0x10) => s.setLane n { s.lane n with fillMin := (s.lane n).fill, fillMax := (s.lane n).fill }
    | _ => match within o 0x520000 0x1000 32 with
      | some (n, 0x28) => s.setInst n { s.inst n with faultCount := 0 }
      | _ => s

/-- A read with a command of its own: TXQ_W0, TS_LO of a capture input, PROV.LOG_W0 (R72, R78, R457). -/
def ownRead (o : Nat) : Bool :=
  o == 0xD0010 || (match within o 0x41000 0x1000 4 with
    | some (_, e) => e == 0x10
    | none => false) || (match within o 0x30300 0x20 5 with
    | some (_, e) => e == 4
    | none => false)

/-- A read of BAR0. -/
def State.barRead (s : State) (o : Nat) : State :=
  if !s.serves o || ownRead o then s
  else
    let s := match counterUnit o with
      | some u => s.syncUnit u
      | none => s
    let v := s.readValue o
    { (s.latchHigh o).readClear o with readData := v }

/-- A read of a doorbell page; that of EVQ.LOST clears it (R323). -/
def State.pageRead (s : State) (n o : Nat) : State :=
  if s.up then
    let v := s.viewPage n o
    let i := s.inst n
    let s := if o = 0x218 then s.setInst n { i with evq := { i.evq with lost := 0 } } else s
    { s with readData := v }
  else s

/-- REGISTER_READ_CLEAR (R19): the register's value, and what the read clears or latches. An access is to the 4-byte word that holds its
offset. -/
def execRegisterReadClear (t : Nat) (a : RegAt) (s : State) : Host.Outcome State Fault Refusal :=
  let s := s.at t
  match a with
  | .bar0 o => .next (s.barRead (o.val / 4 * 4))
  | .page n o => .next (s.pageRead n.val (o.val / 4 * 4))

/-! ## Writes -/

/-- A value that the register's own rule keeps out leaves it unchanged: PTP.LOCK_THRESH and UNLOCK_THRESH, MODE.WD_CFG, HEAD[h].WM,
UPD.IDLE_S, TALLY.RD (R62, R264, R411, R421, R456). -/
def State.keptOut (s : State) (o v : Nat) : Bool :=
  if o = 0x40000 then outside v 100 100000 || decide (s.reg 0x40004 ≤ v)
  else if o = 0x40004 then decide (v ≤ s.reg 0x40000) || decide (1000000 < v)
  else if o = Reg.modeWdCfg then outside (bits v 15 0) 10 1000 || outside (bits v 31 16) (2 * bits v 15 0) 5000
  else if o = 0x6001C then outside v 1 600
  else if o = Reg.tallyRd then
    decide (unread s.prot.tally.written (s.reg Reg.tallyRd) < unread v (s.reg Reg.tallyRd))
  else match within o 0x400000 0x10000 16 with
    | some (_, 0x40) => decide (bits v 7 0 ≤ bits v 15 8)
    | _ => false

/-- A write of a register of the map by its access code (R19 to R21): reserved bits are dropped. -/
def State.mapWrite (s : State) (r : RegRow) (o v : Nat) : State :=
  let put := fun (s : State) => if s.keptOut o v then s else s.setReg o (v &&& r.mask)
  match r.acc with
  | .rw => put s
  | .rwl => if s.locked then s.postedRefused 32 1 else put s
  | .hold => if s.time.servo = .hold then put s else s.refuseTimeWrite
  | .prov => if s.mode.mode = .proving then put s else s.provRefuse
  | .w1c => s.setReg o (s.reg o - (s.reg o &&& (v &&& r.w1c)))
  | .own | .ro | .rc => s

/-- A write of RING_CTRL of a touch port: SIZE is discarded while EN is set, and out of 4 to 12 (R366). -/
def State.ringCtrlWrite (s : State) (o v : Nat) : State :=
  let old := s.reg o
  let size := if bit old 0 || outside (bits v 11 4) 4 12 then bits old 11 4 else bits v 11 4
  s.setReg o (v % 2 + fld 4 size)

/-- A write of BAR0 to a register without a command of its own. -/
def State.barWrite (s : State) (o v : Nat) : State :=
  if !s.serves o then s
  else if o = 0x20000 then { s with aon := { s.aon with wakeEn := BitVec.ofNat 4 v } }
  else if o = 0x20014 then { s with aon := { s.aon with rtcAlarm := BitVec.ofNat 32 v } }
  else if o = 0x40100 then s.domWrite 0 (v &&& 0xF00FF0D)
  else if o = 0x40140 then s.domWrite 1 (v &&& 0xF00FF0D)
  else if 0x50000 ≤ o ∧ o < 0x60000 then s.postedRefused 32 0
  else if o = 0xD0020 then
    if bit v 31 then { s with prov := { s.prov with ovf := false } } else s
  else if o = 0x1A0028 ∨ o = 0x1B0028 then s.ringCtrlWrite o v
  else match within o 0x41000 0x1000 4, within o 0x500000 0x1000 32, within o 0x170800 0x80 16 with
    | some (n, 0x20), _, _ =>
      let q : TxQueue := Tab.get {} s.time.txq n
      if bit v 31 then s.setTime { s.time with txq := Tab.set {} s.time.txq n { q with ovf := false } } else s
    | _, some (n, 4), _ => if 9 ≤ bits v 3 0 then s.instOp n .other else s
    | _, _, some (r, 0x34) =>
      -- beyond IDX_WR, or below its value, it is ignored (R278)
      let x := s.recording r
      if (BitVec.ofNat 32 v - x.idxRd).toNat ≤ (x.idxWr - x.idxRd).toNat then s.setRecording r { x with idxRd := BitVec.ofNat 32 v } else s
    | _, i, _ =>
      match regRow? o with
      | none => s
      | some row =>
        let s := s.mapWrite row o v
        match i with
        | some (n, e) => if grantReg e then s.setInst n { s.inst n with staged := e :: (s.inst n).staged.filter (fun x => x != e) } else s
        | none => s

/-- REGISTER_WRITE (R19, R20): a register without a command of its own takes the value by its access code. A doorbell page's registers
have DOORBELL_PAGE_WRITE, so a write to one has the same rules (R323, R327). -/
def execRegisterWrite (t : Nat) (a : RegAt) (v : BitVec 32) (s : State) : Host.Outcome State Fault Refusal :=
  let s := s.at t
  match a with
  | .bar0 o => .next (s.barWrite (o.val / 4 * 4) v.toNat)
  | .page n o => .next (s.pageWrite n.val (o.val / 4 * 4) v)

end Sys2Proof.Machine
end

