-- ==== Sys2Proof/Machine/Debug.lean ====
section
/-! DEFINITION. The debug master (R51, R219, R391, R395, R398, R400): what it reads and writes where the protection unit lets it through. -/

namespace Sys2Proof.Machine

/-! ## The memories of the device physical space -/

/-- The generation and byte offset that an address of the table SRAM holds (R51, R199). -/
def tablePlace (a : Nat) : Bool × Nat := (decide (0x9080000 ≤ a), a % 0x80000)

/-- A byte of the safelight SRAM, by offset: glyph bank, tile maps, palettes; the safety partition's own state is open (R219). -/
def State.safeByte (s : State) (o : Nat) : Byte :=
  let half := fun (k : Nat) (i : Nat) => BitVec.ofNat 8 (k / 256 ^ i)
  if o < 0x100000 then BitVec.ofNat 8 ((Tab.get 0 s.safe.glyphs (2 * o)).toNat + 16 * (Tab.get 0 s.safe.glyphs (2 * o + 1)).toNat)
  else if o < 0x140000 then
    let p := o - 0x100000
    half (Tab.get 0 s.safe.cells (65536 * (p / 0x4000) + p % 0x4000 / 2)).toNat (p % 2)
  else if o < 0x144000 then
    let p := o - 0x140000
    half (Tab.get 0 s.safe.palettes (65536 * (p / 0x400) + p % 0x400 / 4)).toNat (p % 4)
  else Config.openByte s.now o

/-- A number with one byte replaced. -/
def putByte (v i : Nat) (b : Byte) : Nat := v - v / 256 ^ i % 256 * 256 ^ i + b.toNat * 256 ^ i

/-- Write a byte of the safelight SRAM. -/
def State.safePut (s : State) (o : Nat) (b : Byte) : State :=
  let x := s.safe
  if o < 0x100000 then
    { s with safe := { x with glyphs := Tab.set 0 (Tab.set 0 x.glyphs (2 * o) (b.extractLsb' 0 4)) (2 * o + 1) (b.extractLsb' 4 4) } }
  else if o < 0x140000 then
    let p := o - 0x100000
    let k := 65536 * (p / 0x4000) + p % 0x4000 / 2
    { s with safe := { x with cells := Tab.set 0 x.cells k (BitVec.ofNat 16 (putByte (Tab.get 0 x.cells k).toNat (p % 2) b)) } }
  else if o < 0x144000 then
    let p := o - 0x140000
    let k := 65536 * (p / 0x400) + p % 0x400 / 4
    { s with safe := { x with palettes := Tab.set 0 x.palettes k (BitVec.ofNat 32 (putByte (Tab.get 0 x.palettes k).toNat (p % 4) b)) } }
  else s

/-- A byte of the device physical space, registers apart: DRAM, the window tables, the safelight SRAM, the
board record and the boot slots in the flash window (R406); what the spec does not lay out, the boot ROM, the control SRAM and the rest of the flash window, is a
free value. -/
def State.deviceByte (s : State) (a : Nat) : Byte :=
  if dramBase ≤ a then s.seenByte (a - dramBase)
  else if 0x9000000 ≤ a ∧ a < 0x9100000 then
    let p := tablePlace a
    BitVec.ofNat 8 ((Tab.get 0 (WinTable.gen s.win p.1) (p.2 / 64)).toNat / 256 ^ (p.2 % 64))
  else if 0xA000000 ≤ a ∧ a < 0xA180000 then s.safeByte (a - 0xA000000)
  else if 0x20010000 ≤ a ∧ a < 0x20020000 then Tab.get 0 s.prot.boardArea (a - 0x20010000)
  else if 0x21000000 ≤ a ∧ a < 0x23000000 then Tab.get 0xFF s.prot.flash (a - 0x20000000)
  else Config.openByte s.now a

/-- Write a byte of the device physical space, registers apart. -/
def State.devicePut (s : State) (a : Nat) (b : Byte) : State :=
  if dramBase ≤ a then s.dramWrite (a - dramBase) [b]
  else if 0x9000000 ≤ a ∧ a < 0x9100000 then
    let p := tablePlace a
    let t := WinTable.gen s.win p.1
    let d := putByte (Tab.get 0 t (p.2 / 64)).toNat (p.2 % 64) b
    { s with win := WinTable.setGen s.win p.1 (Tab.set 0 t (p.2 / 64) (BitVec.ofNat 512 d)) }
  else if 0xA000000 ≤ a ∧ a < 0xA180000 then s.safePut (a - 0xA000000) b
  else s

/-! ## Registers (R51, R395) -/

/-- The debug master writes the register word at BAR0 offset `o`: an RWL register after lock refuses it (R20, R395); a register with a
command of its own takes that command instead (DESIGN CHOICE, log 222). -/
def State.debugRegWrite (s : State) (o : Nat) (v : BitVec 32) : State :=
  let locked : Bool := s.locked && match regRow? o with
    | some r => r.acc == .rwl
    | none => false
  if locked then s.mpuRefuse { cls := .dbg, write := true, first := 0x10000000 + o, last := 0x10000003 + o } .locked
  else if 0x51000 ≤ o ∧ o < 0x52000 then s.regionWrite .dbg (o % 0x1000 / 16) (o % 16 / 4) v
  else if 0x50000 ≤ o ∧ o < 0x60000 then s
  else s.barWrite o v.toNat

/-- The words of a write of registers from offset `o` on. -/
def State.debugRegWrites (s : State) (o : Nat) : List (BitVec 32) → State
  | [] => s
  | v :: t => (s.debugRegWrite o v).debugRegWrites (o + 4) t

/-- The words that a read of registers from offset `o` on gives. -/
def State.debugRegReads (s : State) (o : Nat) : Nat → State × Nat
  | 0 => (s, 0)
  | k + 1 =>
    let s := if ownRead o then { s with readData := 0 } else s.barRead o
    let r := s.debugRegReads (o + 4) k
    (r.1, s.readData % 2 ^ 32 + 2 ^ 32 * r.2)

/-! ## DEBUG_ACCESS (R398, R400) -/

/-- An access of the debug master that the protection unit lets through: a read of `n` bytes, a write of `data`. Registers are read and
written in words. -/
def State.debugLet (s : State) (write : Bool) (a n : Nat) (data : List (BitVec 8)) : State :=
  if 0x10000000 ≤ a ∧ a < 0x14000000 then
    let o := (a - 0x10000000) / 4 * 4
    if write then s.debugRegWrites o (words32 data)
    else
      let r := s.debugRegReads o (ceilDiv n 4)
      { r.1 with readData := r.2 % 256 ^ n }
  else if write then (data.zipIdx).foldl (fun s p => s.devicePut (a + p.2) p.1) s
  else { s with readData := leNat ((List.range n).map (fun k => s.deviceByte (a + k))) }

/-- DEBUG_ACCESS (R398, R400): a read of `n` bytes or a write of `data`, checked by the protection unit. -/
def execDebugAccess (t : Nat) (write : Bool) (target : DbgTarget) (n : Nat) (data : List (BitVec 8)) (s : State) :
    Host.Outcome State Fault Refusal :=
  let s := s.at t
  match target with
  | .keyStore =>
    if s.prot.development then .next s
    else .next ((s.mpuRefuse { cls := .dbg, write := write, first := 0, last := 0 } .debugProtected).debugProbed)
  | .mem a =>
    let len := if write then data.length else n
    let x : Access := { cls := .dbg, write := write, first := a, last := a + (len - 1) }
    match s.mpuCheck x with
    | some c =>
      let s := s.mpuRefuse x c
      .next (if c = .debugProtected then s.debugProbed else s)
    | none => .next (s.debugLet write a n data)

end Sys2Proof.Machine
end

