-- ==== Sys2Proof/Machine/Dict.lean ====
section
/-! DEFINITION. The commands of the object dictionary and the field network (R374 to R387). -/

namespace Sys2Proof.Machine

/-! ## CAN FD (R377) -/

/-- A CAN node, and a change of it. -/
def State.canNode (s : State) (n : Nat) : CanNode := Tab.get {} s.dict.can n
def State.setCan (s : State) (n : Nat) (c : CanNode) : State := { s with dict := { s.dict with can := Tab.set {} s.dict.can n c } }

/-- The controller takes part in its bus: the dictionary is available (R376), and it is not bus-off. -/
def State.canUp (s : State) (n : Nat) : Bool := s.up && (s.canNode n).bus != 2

/-- The node has its node-ID (R378). -/
def State.nodeUp (s : State) (n : Nat) : Bool := s.canUp n && (s.canNode n).nodeId != 0xFF

/-- The node's USDO server answers: not in NMT state stopped. -/
def State.usdoUp (s : State) (n : Nat) : Bool := s.nodeUp n && (s.canNode n).nmt != 2

/-- USDO_DOWNLOAD (R375, R377): a segment of a write, `first` and `last` telling its place in the transfer; expedited transfers are both. -/
def execUsdoDownload (t : Nat) (n : Fin 2) (idx : BitVec 16) (sub : BitVec 8) (first last : Bool) (data : List (BitVec 8)) (s : State) :
    Host.Outcome State Fault Refusal :=
  let s := s.at t
  let c := s.canNode n.val
  let p : DictPort := .can n
  let to_ : Option (Nat × Nat) := if first then some (idx.toNat, sub.toNat) else c.transfer.map (fun x => (x.1, x.2.1))
  match s.usdoUp n.val, to_ with
  | true, some (i, j) =>
    let off := if first then 0 else if i = 0x2030 then (s.updSource (DictPort.source p)).received
      else ((s.session n.val).domain.map (fun d => d.2.2.length)).getD 0
    let s := s.setCan n.val { c with transfer := if last then none else some (i, j, s.now) }
    let r := s.dictWrite p i j off last data
    match r.2 with
    | some (a, w) =>
      if a = 0 ∧ ¬ last then .next r.1
      else .next ((r.1.setCan n.val { r.1.canNode n.val with transfer := none }).dictAnswer p i j a w [])
    | none => .next r.1
  | _, _ => .next s

/-- USDO_UPLOAD (R375, R377). -/
def execUsdoUpload (t : Nat) (n : Fin 2) (idx : BitVec 16) (sub : BitVec 8) (s : State) : Host.Outcome State Fault Refusal :=
  let s := s.at t
  if s.usdoUp n.val then .next (s.dictRead (.can n) idx.toNat sub.toNat 0 16777216) else .next s

/-- USDO_PROTOCOL_TIMEOUT (R377): no next segment for 8 s. -/
def execUsdoProtocolTimeout (t : Nat) (n : Fin 2) (s : State) : Host.Outcome State Fault Refusal :=
  let s := s.at t
  let c := s.canNode n.val
  match c.transfer with
  | some (i, j, at_) =>
    if s.up ∧ at_ + 8000000000 ≤ s.now then
      let s := (s.setCan n.val { c with transfer := none }).setSession n.val { s.session n.val with domain := none }
      .next (s.dictAnswer (.can n) i j 0x05040000 0 [])
    else .next s
  | none => .next s

/-- NMT_START and NMT_STOP (R377). -/
def execNmtStart (t : Nat) (n : Fin 2) (s : State) : Host.Outcome State Fault Refusal :=
  let s := s.at t
  if s.nodeUp n.val then .next (s.setCan n.val { s.canNode n.val with nmt := 1 }) else .next s

def execNmtStop (t : Nat) (n : Fin 2) (s : State) : Host.Outcome State Fault Refusal :=
  let s := s.at t
  if s.nodeUp n.val then .next (s.setCan n.val { s.canNode n.val with nmt := 2 }) else .next s

/-- AUTOSTART takes a node from pre-operational to operational (R377). -/
def State.autostart (s : State) (n : Nat) : State :=
  let c := s.canNode n
  if c.nodeId ≠ 0xFF ∧ c.nmt = 0 ∧ s.plain 0x2021 1 1 = 1 then s.setCan n { c with nmt := 1 } else s

/-- The communication state of a node starts again, as after boot; nothing else of the device changes (R377). -/
def State.nmtReset (s : State) (n : Nat) : State :=
  (s.setCan n { s.canNode n with nmt := 0, transfer := none, tpdo := [], heartbeatAt := s.now, lss := false }).autostart n

/-- NMT_RESET_COMMUNICATION (R377). -/
def execNmtResetCommunication (t : Nat) (n : Fin 2) (s : State) : Host.Outcome State Fault Refusal :=
  let s := s.at t
  if s.nodeUp n.val then .next (s.nmtReset n.val) else .next s

/-- NMT_RESET_NODE (R377). -/
def execNmtResetNode (t : Nat) (n : Fin 2) (s : State) : Host.Outcome State Fault Refusal :=
  let s := s.at t
  if s.nodeUp n.val then .next (s.nmtReset n.val) else .next s

/-- HEARTBEAT_SEND (R377): the period of 0x1017 has passed; 0 produces none. -/
def execHeartbeatSend (t : Nat) (n : Fin 2) (s : State) : Host.Outcome State Fault Refusal :=
  let s := s.at t
  let c := s.canNode n.val
  let ms := s.plain 0x1017 0 1000
  if s.nodeUp n.val ∧ 0 < ms ∧ c.heartbeatAt + ms * 1000000 ≤ s.now then
    .next ((s.setCan n.val { c with heartbeatAt := s.now }).send (.heartbeat n.val c.nmt))
  else .next s

/-- The content of the three TPDOs (R379). DEDUCED (log 28): RESET_CAUSE is 0x2050:03, which R387 defines as the cause of the settings load. -/
def State.tpdoContent (s : State) (k : Nat) : List (BitVec 8) :=
  if k = 0 then (List.range 8).flatMap (fun i => leBytes 4 (s.keyBits (decide (4 ≤ i)) (i % 4)))
  else if k = 1 then leBytes 2 s.alarmActive ++ leBytes 1 s.alarmPlaying ++ leBytes 1 s.alarmPrio ++ leBytes 4 s.heldCellCount
  else
    leBytes 1 s.mode.mode.code ++ leBytes 1 s.pair.state.code ++ leBytes 1 s.roleCode ++ [0] ++ leBytes 4 s.prot.health.faults.toNat ++
      s.cfgHashBytes.take 4 ++ leBytes 1 s.dict.loadCause ++ [0, 0, 0]

/-- TPDO_TRANSMIT (R379): on a change of content or the event timer, no sooner than the inhibit time after the last. -/
def execTpdoTransmit (t : Nat) (n : Fin 2) (k : Fin 3) (s : State) : Host.Outcome State Fault Refusal :=
  let s := s.at t
  let c := s.canNode n.val
  let v := s.tpdoContent k.val
  let last := Tab.get ([], 0) c.tpdo k.val
  let inhibit := s.plain (0x1800 + k.val) 3 0 * 100000
  let timer := s.plain (0x1800 + k.val) 5 1000 * 1000000
  let due : Bool := last.1 != v || (decide (0 < timer) && decide (last.2 + timer ≤ s.now))
  if s.nodeUp n.val ∧ c.nmt = 1 ∧ due ∧ (last.1 = [] ∨ last.2 + inhibit ≤ s.now) then
    .next ((s.setCan n.val { c with tpdo := Tab.set ([], 0) c.tpdo k.val (v, s.now) }).send (.tpdo n.val (k.val + 1) v))
  else .next s

/-- BUS_OFF_ENTRY and BUS_OFF_RECOVERY (R377). -/
def execBusOffEntry (t : Nat) (n : Fin 2) (s : State) : Host.Outcome State Fault Refusal :=
  let s := s.at t
  if s.canUp n.val then .next ((s.setCan n.val { s.canNode n.val with bus := 2, tec := 0xFF }).emit .modeCanBusoff n.val []) else .next s

def execBusOffRecovery (t : Nat) (n : Fin 2) (s : State) : Host.Outcome State Fault Refusal :=
  let s := s.at t
  if s.up ∧ (s.canNode n.val).bus = 2 then
    .next ((s.setCan n.val { s.canNode n.val with bus := 0, tec := 0, recCnt := 0 }).emit .modeCanBuson n.val [])
  else .next s

/-! ## LSS (R378) -/

/-- LSS_SWITCH_STATE_SELECTIVE: vendor, product, revision and serial as 0x1018 reads them. -/
def execLssSwitchStateSelective (t : Nat) (n : Fin 2) (vendor product revision serial : BitVec 32) (s : State) :
    Host.Outcome State Fault Refusal :=
  let s := s.at t
  if s.canUp n.val ∧ vendor = 0xDA05 ∧ product = 0x128 ∧ revision = 0xA1 ∧ serial = BitVec.ofNat 32 s.board.serial.toNat then
    .next ((s.setCan n.val { s.canNode n.val with lss := true }).send (.lss n.val 0x44 0))
  else .next s

/-- LSS_CONFIGURE_NODE_ID: 1 to 127, or 0xFF for none. -/
def execLssConfigureNodeId (t : Nat) (n : Fin 2) (id : BitVec 8) (s : State) : Host.Outcome State Fault Refusal :=
  let s := s.at t
  let c := s.canNode n.val
  if s.canUp n.val ∧ c.lss then
    if (1 ≤ id.toNat ∧ id.toNat ≤ 127) ∨ id = 0xFF then .next ((s.setCan n.val { c with nodeId := id }).send (.lss n.val 0x11 0))
    else .next (s.send (.lss n.val 0x11 1))
  else .next s

/-- LSS_CONFIGURE_BIT_TIMING: the rates as CAN[n].RATES numbers them. -/
def execLssConfigureBitTiming (t : Nat) (n : Fin 2) (nominal data : BitVec 8) (s : State) : Host.Outcome State Fault Refusal :=
  let s := s.at t
  let c := s.canNode n.val
  if s.canUp n.val ∧ c.lss then
    if nominal.toNat < 4 ∧ data.toNat < 4 then
      .next ((s.setCan n.val { c with nominal := nominal.toNat, data := data.toNat }).send (.lss n.val 0x13 0))
    else .next (s.send (.lss n.val 0x13 1))
  else .next s

/-- LSS_STORE_CONFIGURATION: into the LSS area. -/
def execLssStoreConfiguration (t : Nat) (n : Fin 2) (s : State) : Host.Outcome State Fault Refusal :=
  let s := s.at t
  let c := s.canNode n.val
  if s.canUp n.val ∧ c.lss then
    .next (({ s with store := { s.store with lss := Tab.set none s.store.lss n.val (some (c.nodeId, c.nominal, c.data)) } }).send (.lss n.val 0x17 0))
  else .next s

/-! ## UDP (R380, R381, R409) -/

/-- A datagram discarded and counted in 0x2020:0A. -/
def State.udpDiscard (s : State) : State :=
  { s with dict := { s.dict with discarded := BitVec.ofNat 32 (satAdd32 s.dict.discarded.toNat 1) } }

/-- An IPv4 source written IPv4-mapped, its bytes in network order, the first lowest (R148, R381). -/
def mappedAddr (ipv6 : Bool) (a : BitVec 128) : BitVec 128 := if ipv6 then a else BitVec.ofNat 128 (0xFFFF * 2 ^ 80 + a.toNat % 2 ^ 32 * 2 ^ 96)

/-- The allowlist entry that holds a source. -/
def State.allowed (s : State) (m : UdpMsg) : Option (Fin 8) :=
  ((List.range 8).find? (fun k => Tab.get 0 s.dict.allow k != 0 && Tab.get 0 s.dict.allow k == mappedAddr m.ipv6 m.src)).map
    (fun k => ⟨k % 8, Nat.mod_lt _ (by decide)⟩)

/-- Count a request of a source; 200 in a second of device time are served. -/
def State.udpRate (s : State) (peer : Nat) : State × Bool :=
  let sec := s.now / 1000000000
  let r := Tab.get (0, 0) s.dict.rate peer
  let n := if r.1 = sec then r.2 else 0
  if n < 200 then ({ s with dict := { s.dict with rate := Tab.set (0, 0) s.dict.rate peer (sec, n + 1) } }, true) else (s.udpDiscard, false)

/-- The port a datagram reaches the dictionary through, after the checks of R380 and R381; a repeat of a request just answered gets the same
answer and goes no further. -/
def State.udpAccept (s : State) (m : UdpMsg) : State × Option DictPort :=
  let rom : Bool := s.mode.phase == .up && s.mode.mode == .recovery && m.port.val == 0 && m.udpPort == 4770
  let here : Bool := rom || (s.up && s.udpPorts.getLsbD m.port.val && m.udpPort == s.udpPort)
  let p : Option DictPort := if rom then some (.rom (mappedAddr m.ipv6 m.src) m.tid.toNat)
    else (s.allowed m).map (fun k => DictPort.udp k m.tid.toNat)
  if !here || s.mode.isoCore.getLsbD (22 + m.port.val) then (s, none)
  else match p with
    | none => (s.udpDiscard, none)
    | some p =>
      if !m.formed then (s.udpDiscard, none)
      else
        let k := DictPort.peer p
        let r := s.udpRate k
        if !r.2 then (r.1, none)
        else
          let s := r.1
          match s.dict.cache.find? (fun a => a.peer == k && a.tid == m.tid.toNat && decide (s.now ≤ a.at_ + 2000000000)) with
          | some a => (s.send (.udp k a.status a.reason a.data), none)
          | none => (s, some p)

/-- UDP_READ (R380). -/
def execUdpRead (t : Nat) (m : UdpMsg) (s : State) : Host.Outcome State Fault Refusal :=
  let s := s.at t
  match s.udpAccept m with
  | (s, some p) => .next (s.dictRead p m.index.toNat m.sub.toNat m.offset.toNat (min m.len.toNat 1024))
  | (s, none) => .next s

/-- UDP_WRITE (R380). -/
def execUdpWrite (t : Nat) (m : UdpMsg) (s : State) : Host.Outcome State Fault Refusal :=
  let s := s.at t
  match s.udpAccept m with
  | (s, some p) => .next (s.dictWriteAnswer p m.index.toNat m.sub.toNat m.offset.toNat true m.data)
  | (s, none) => .next s

/-! ## The mailbox (R382) -/

/-- The port of a mailbox command. -/
def mailboxPort (cmd : BitVec 32) : DictPort := .mailbox (if cmd.getLsbD 15 then some ⟨bits cmd.toNat 12 8 % 32, Nat.mod_lt _ (by decide)⟩ else none)

/-- Take a mailbox command, unless one is being served. -/
def State.mailboxTake (s : State) (f : Nat → Nat → Nat → Nat → State → State) : State :=
  if !s.up then s
  else if s.dict.mbxBusy then s.count Reg.mbxStray 1
  else
    let a := s.reg Reg.mbxAddr
    f (bits a 15 0) (bits a 23 16) (s.reg Reg.mbxOffset) (s.reg Reg.mbxLen) { s with dict := { s.dict with mbxBusy := true, mbxDone := false } }

/-- MBX_READ. -/
def execMbxRead (t : Nat) (cmd : BitVec 32) (s : State) : Host.Outcome State Fault Refusal :=
  let s := s.at t
  .next (s.mailboxTake (fun idx sub off len s => s.dictRead (mailboxPort cmd) idx sub off (min len 1024)))

/-- The first bytes of the mailbox's data registers. -/
def State.mailboxBytes (s : State) (n : Nat) : List (BitVec 8) :=
  ((List.range 256).flatMap (fun j => leBytes 4 (s.reg (Reg.mbxData j)))).take n

/-- MBX_WRITE. -/
def execMbxWrite (t : Nat) (cmd : BitVec 32) (s : State) : Host.Outcome State Fault Refusal :=
  let s := s.at t
  .next (s.mailboxTake (fun idx sub off len s =>
    if 1024 < len then s.dictAnswer (mailboxPort cmd) idx sub 0x06070010 0 []
    else s.dictWriteAnswer (mailboxPort cmd) idx sub off true (s.mailboxBytes len)))

/-! ## Writes with an effect of their own (R143 to R146, R374, R383 to R387) -/

/-- The dictionary answers on a port (R376). -/
def State.portUp (s : State) (p : DictPort) : Bool :=
  match p with
  | .can n => s.usdoUp n.val
  | .udp _ _ => s.up
  | .mailbox _ => s.up
  | .rom _ _ => s.mode.phase == .up && s.mode.mode == .recovery

/-- A whole write through a port. -/
def State.portWrite (s : State) (p : DictPort) (idx sub : Nat) (data : List (BitVec 8)) : State :=
  if s.portUp p then s.dictWriteAnswer p idx sub 0 true data else s

/-- OBJECT_APPLY (R374). -/
def execObjectApply (t : Nat) (p : DictPort) (idx : BitVec 16) (s : State) : Host.Outcome State Fault Refusal :=
  .next ((s.at t).portWrite p idx.toNat (actionSub idx.toNat) [1])

/-- OBJECT_STOP (R374). -/
def execObjectStop (t : Nat) (p : DictPort) (idx : BitVec 16) (s : State) : Host.Outcome State Fault Refusal :=
  .next ((s.at t).portWrite p idx.toNat (actionSub idx.toNat) [2])

/-- WINDOW_BATCH_COMMIT (R203, R383). -/
def execWindowBatchCommit (t : Nat) (p : DictPort) (s : State) : Host.Outcome State Fault Refusal :=
  .next ((s.at t).portWrite p 0x5100 3 [1])

/-- SALVO_PREPARE (R143). -/
def execSalvoPrepare (t : Nat) (p : DictPort) (k : Fin 8) (s : State) : Host.Outcome State Fault Refusal :=
  .next ((s.at t).portWrite p (0x4200 + k.val) 0x40 [1])

/-- SALVO_COMMIT (R144). -/
def execSalvoCommit (t : Nat) (p : DictPort) (k : Fin 8) (s : State) : Host.Outcome State Fault Refusal :=
  .next ((s.at t).portWrite p (0x4200 + k.val) 0x40 [2])

/-- SALVO_CANCEL (R146). -/
def execSalvoCancel (t : Nat) (p : DictPort) (k : Fin 8) (s : State) : Host.Outcome State Fault Refusal :=
  .next ((s.at t).portWrite p (0x4200 + k.val) 0x40 [3])

/-- SESSION_STAGE_TIMEOUT (R374): 10 s without a write from the session. -/
def execSessionStageTimeout (t : Nat) (k : Fin 11) (s : State) : Host.Outcome State Fault Refusal :=
  let s := s.at t
  if (s.session k.val).lastWrite + 10000000000 ≤ s.now then .next (s.setSession k.val {}) else .next s

/-- GLYPH_BITMAP_REQUEST (R384). -/
def execGlyphBitmapRequest (t : Nat) (p : DictPort) (data : List (BitVec 8)) (s : State) : Host.Outcome State Fault Refusal :=
  .next ((s.at t).portWrite p 0x6000 2 data)

/-- PALETTE_ENTRIES_REQUEST (R384). -/
def execPaletteEntriesRequest (t : Nat) (p : DictPort) (data : List (BitVec 8)) (s : State) : Host.Outcome State Fault Refusal :=
  .next ((s.at t).portWrite p 0x6001 3 data)

/-- CELL_FILL_REQUEST (R384). -/
def execCellFillRequest (t : Nat) (p : DictPort) (s : State) : Host.Outcome State Fault Refusal :=
  .next ((s.at t).portWrite p 0x6002 0x10 [1])

/-- ALARM_REQUEST_WRITE (R384, R385). -/
def execAlarmRequestWrite (t : Nat) (p : DictPort) (q : Fin 16) (v : BitVec 16) (s : State) : Host.Outcome State Fault Refusal :=
  .next ((s.at t).portWrite p 0x6020 (q.val + 1) (leBytes 2 v.toNat))

/-- STORE_ALL (R386). -/
def execStoreAll (t : Nat) (p : DictPort) (v : BitVec 32) (s : State) : Host.Outcome State Fault Refusal :=
  .next ((s.at t).portWrite p 0x1010 1 (leBytes 4 v.toNat))

/-- STORE_COMPLETE (R386). -/
def execStoreComplete (t : Nat) (s : State) : Host.Outcome State Fault Refusal :=
  let s := s.at t
  match s.dict.storing with
  | some (b, x) =>
    let s := ({ s with dict := { s.dict with storing := none } }).setArea b x
    .next { s with store := { s.store with stores := s.store.stores + 1 } }
  | none => .next s

/-- RESTORE_DEFAULTS (R387). -/
def execRestoreDefaults (t : Nat) (p : DictPort) (v : BitVec 32) (s : State) : Host.Outcome State Fault Refusal :=
  .next ((s.at t).portWrite p 0x1011 1 (leBytes 4 v.toNat))

/-- The request that applies a stored copy (R387). -/
def State.storedRequest (s : State) (objs : Tab Obj) (wins : Tab (BitVec 512)) (plain : Tab Nat) : Request :=
  { by_ := .device, received := s.now, stored := true,
    changes := plain.map (fun p => Change.plain (p.1 / 256) (p.1 % 256) (p.2 - 1)) ++ objs.map (fun p => Change.apply p.1 p.2.set) ++
      (if wins = [] then [] else [.winBatch none wins]) }

/-- SETTINGS_LOAD (R387): in CONFIGURE, before any other request. -/
def execSettingsLoad (t : Nat) (s : State) : Host.Outcome State Fault Refusal :=
  let s := s.at t
  if s.mode.phase ≠ .up ∨ s.mode.mode ≠ .configure ∨ s.dict.loaded then .next s
  else
    let defaults := fun (s : State) (cause : Nat) => ((s.settingsLoaded cause).autorun).runQueue
    let start := fun (s : State) => (s.autostart 0).autostart 1
    if s.store.restore then .next (start (defaults { s with store := { s.store with restore := false } } 4))
    else match s.newerCopy with
      | some (.copy _ layout objs wins plain _) =>
        if layout ≠ s.runLayout then .next (start (defaults s 1))
        else .next (start ((s.enqueue (s.storedRequest objs wins plain)).runQueue))
      | _ => .next (start (defaults s (if s.store.a = .erased ∧ s.store.b = .erased then 5 else 2)))

end Sys2Proof.Machine
end

