-- ==== Sys2Proof/Machine/EngineFaults.lean ====
section
/-! DEFINITION. Faults of the engines' accesses (R182, R227, R249, R254, R269, R335, R395): a page that is not mapped, an access that the
protection unit refuses. -/

namespace Sys2Proof.Machine

/-- The cause for which an access of engine `k` of a class is refused, if it is. -/
def State.refusalOf (s : State) (cls : BusClass) (k addr : Nat) (write : Bool) : Option (Access × MpuCause) :=
  let a : Access := { cls := cls, idx := k, write := write, first := addr, last := addr }
  (s.mpuCheck a).map (fun c => (a, c))

/-- A refused access of an engine: counted and reported, and told the instance that the work belongs to (R395). -/
def State.engineRefused (s : State) (r : Access × MpuCause) (owner : Option Nat) : State :=
  let s := s.mpuRefuse r.1 r.2
  match owner with
  | some n => s.emit .instFault n [r.1.first, 1]
  | none => s

/-! ## Decode (R182) -/

/-- DECODE_PAGE_FAULT (R182, R335, R395). The row in progress is discarded, its work wasted; at an unmapped page the core yields and the
owner of the page is told; where the access is refused the picture is abandoned as for a page revoked for good. -/
def execDecodePageFault (t : Nat) (u : UnitFault 16) (s : State) : Host.Outcome State Fault Refusal :=
  let s := s.at t
  match s.corePart u.unit.val with
  | some (n, part, p) =>
    if (s.core u.unit.val).state = .run then
      match u.fault with
      | .page va =>
        let s := ((s.syncCore u.unit.val).endWork u.unit.val false).count (Reg.decRowRestarts u.unit.val) 1
        let s := s.pmc u.unit.val 4 1
        let s := s.setCtx n { s.ctx n with
          picture := some { p with parts := p.parts.map (fun q => if q.part = part then { q with state := .page, vpn := va / 2097152 } else q) } }
        let s := s.setCore u.unit.val { s.core u.unit.val with saved := n :: (s.core u.unit.val).saved }
        .next ((s.idleCore u.unit.val).engineFault (s.poolHost n) va 1 true)
      | .refused a w =>
        match s.refusalOf .dec u.unit.val a w with
        | some r =>
          let s := (((s.syncCore u.unit.val).endWork u.unit.val false).count (Reg.decRowRestarts u.unit.val) 1).pmc u.unit.val 4 1
          .next ((s.engineRefused r (s.poolHost n)).dropPicture n)
        | none => .next s
    else .next s
  | none => .next s

/-! ## Contact sheets (R227) -/

/-- The tile in progress on an engine is discarded. -/
def State.discardTile (s : State) (e : Nat) : State :=
  let u := unitEngine e
  (((s.syncEngine e).endWork u false).count (Reg.sheetTileRestarts e) 1).pmc u 4 1

/-- SHEET_PAGE_FAULT (R227, R335, R395). The tile in progress is discarded. At an unmapped page the engine yields and the owner of the page
is told; where the access is refused the tile is abandoned: it is composed with no frame (DESIGN CHOICE, log 223). -/
def execSheetPageFault (t : Nat) (u : UnitFault 2) (s : State) : Host.Outcome State Fault Refusal :=
  let s := s.at t
  let g := s.engine u.unit.val
  match g.state, g.sheet with
  | 1, some n =>
    match (s.sheet n).composing with
    | c :: _ =>
      match u.fault with
      | .page va =>
        let s := (s.discardTile u.unit.val).setComposing n { c with waitPage := true, vpn := va / 2097152 }
        .next (((s.restEngine u.unit.val).runEngine u.unit.val).engineFault (s.tileHost c) va 2 false)
      | .refused a w =>
        match s.refusalOf .sheet u.unit.val a w with
        | some r =>
          let todo := match c.todo with
            | (i, d, _) :: q => (i, d, none) :: q
            | [] => []
          let s := ((s.discardTile u.unit.val).engineRefused r (s.tileHost c)).setComposing n { c with todo := todo }
          .next (s.sheetMarks n (c.todo.filterMap (fun q => q.2.2)))
        | none => .next s
    | [] => .next s
  | _, _ => .next s

/-! ## Recorder (R269) -/

/-- A picture whose input cannot be read is coded as a missed one is (R274): every row filler, an IDR moved to a later picture. -/
def missedPic (p : RecPic) : RecPic :=
  { p with missed := true, idr := false, input := none, rows := [], used := [], exhausted := [], notUpdated := [] }

/-- The picture in work of a recording is abandoned: it is coded as a missed picture (DESIGN CHOICE, log 223). -/
def State.recAbandon (s : State) (r : Nat) : State :=
  let x := s.recording r
  match x.pics with
  | p :: q =>
    (s.setRecording r { x with
      pics := missedPic p :: q, idrOwed := x.idrOwed || p.idr, missed := x.missed + 1 }).emit .recDeadlineMiss r []
  | [] => s

/-- REC_PAGE_FAULT (R182, R269, R335, R395). The row in progress is discarded, its slots are WASTED. At an unmapped page the core yields and
the instance granted the recording is told; where the access is refused the picture is abandoned. -/
def execRecPageFault (t : Nat) (u : UnitFault 4) (s : State) : Host.Outcome State Fault Refusal :=
  let s := s.at t
  let c := s.recCore u.unit.val
  match c.job with
  | some (r, part) =>
    if c.state = 1 then
      match u.fault with
      | .page va =>
        let s := ((s.syncRec u.unit.val).endWork (unitRec u.unit.val) false).count (Reg.recRowRestarts u.unit.val) 1
        let s := (s.pmc (unitRec u.unit.val) 4 1).setRecCore u.unit.val { c with job := none, state := 0, why := 0, saved := (r, part) :: c.saved }
        match (s.recording r).pics with
        | p :: t =>
          let s := s.setRecording r { s.recording r with pics := { p with waitPage := part :: p.waitPage, vpn := va / 2097152 } :: t }
          .next (((s.dropToken .recorder u.unit.val).restRec u.unit.val).engineFault (s.recHost r) va 3 true)
        | [] => .next s
      | .refused a w =>
        match s.refusalOf .rec_ u.unit.val a w with
        | some q =>
          let s := ((s.syncRec u.unit.val).endWork (unitRec u.unit.val) false).count (Reg.recRowRestarts u.unit.val) 1
          .next (((s.pmc (unitRec u.unit.val) 4 1).engineRefused q (s.recHost r)).recAbandon r)
        | none => .next s
    else .next s
  | none => .next s

/-! ## Heads (R249, R254) -/

/-- PREFETCH_START (R248, R249, R395): the first lines of window `w` of head `h`, with the fault where an access is refused or unmapped. A
refused one counts with the unit; what is reported is the speculative fault alone. -/
def execPrefetchStart (t : Nat) (h : Fin 16) (w : Fin 8192) (p : PrefetchRun) (s : State) :
    Host.Outcome State Fault Refusal :=
  let s := s.at t
  let x := s.head h.val
  let d : Desc := Tab.get 0 (s.win.gen x.gen) w.val
  let mine := Desc.en d && !Desc.isTile d && Desc.tgt d == h.val
  if x.state = .run ∧ mine ∧ s.prefetchTime h.val ∧ ¬ x.specFaults.contains w.val then
    match s.candidate h.val (Desc.source d) with
    | none => .next s
    | some r =>
      match p.fault with
      | none => .next (s.prefetchLines h.val w.val d r p.lines)
      | some (.surface _ _) => .next (s.specFault h.val w.val)
      | some (.pool a) =>
        match s.refusalOf .head h.val a false with
        | some q => .next ((s.mpuLatch q.1 q.2).specFault h.val w.val)
        | none => .next (s.prefetchLines h.val w.val d r p.lines)
  else .next s

/-- A fetch that meets an unmapped page or a refusal: the fault goes to its owner (R254, R395). -/
def State.fetchFault (s : State) (h : Nat) : FetchFault → State
  | .surface k va =>
    let n := (s.surf k).owner
    let s := s.instFaultAt n va 3 false
    let i := s.inst n
    let page := BitVec.ofNat 64 (va / 4096 * 4096)
    if i.groups.length < 16 then
      ((s.setInst n { i with
        groups := i.groups ++ [(⟨i.nextGroup, noDue, page, s.now⟩ : PageGroup)], nextGroup := i.nextGroup + 1 }).count (Reg.instPageReqs n) 1).send
        (.pageRequest n i.nextGroup page)
    else s
  | .pool a =>
    match s.refusalOf .head h a false with
    | some r => s.mpuRefuse r.1 r.2
    | none => s

/-- UNDERRUN_PIXEL (R254): pixel (x, y) of a pipe, with the fault of its fetch if there was one. -/
def execUnderrunPixel (t : Nat) (h : Fin 16) (pipe : Fin 8) (x y : Nat) (fault : Option FetchFault) (s : State) :
    Host.Outcome State Fault Refusal :=
  let s := s.at t
  if (s.head h.val).state = .run then
    let s := match fault with
      | some f => s.fetchFault h.val f
      | none => s
    .next (s.underrunPixel h.val pipe.val x y)
  else .next s

end Sys2Proof.Machine
end

