-- ==== Sys2Proof/Machine/Touch.lean ====
section
/-! DEFINITION. Touch ports, keys and haptics (R347 to R361, R365). -/

namespace Sys2Proof.Machine

/-! ## Haptics (R360, R361) -/

/-- The 125 µs boundary of device time at or after an instant. -/
def hapBoundary (t : Nat) : Nat := ceilDiv t 125000 * 125000

/-- Every enabled rule that matches a key edge fires (R361): 0 PRESS, 1 RELEASE, 2 HELD. -/
def State.fireRules (s : State) (key edge : Nat) : State :=
  let c := s.console
  let l := c.rules.filterMap (fun p =>
    if p.2.en && p.2.key == key && p.2.edge == edge then
      some (⟨hapBoundary (s.now + 100000), p.2.prio, p.1, p.2.wave, p.2.out⟩ : HapFire)
    else none)
  { s with console := { c with fires := c.fires ++ l } }

/-- HAP_PLAY (R361): OUT, WAVE and PRIO as HAP.PLAY gives them. -/
def execHapPlay (t : Nat) (v : BitVec 32) (s : State) : Host.Outcome State Fault Refusal :=
  let s := s.at t
  let c := s.console
  let r := v.toNat
  if s.up then
    .next { s with
      console := { c with
      fires := c.fires ++ [⟨hapBoundary s.now, bits r 18 16, 64, bits r 12 8, BitVec.ofNat 8 r⟩] } }
  else .next s

/-- Of the fires for one output, the one that wins: higher priority, then lower rule (R361). -/
def bestFire (l : List HapFire) : Option HapFire :=
  l.foldl (fun (a : Option HapFire) x => match a with
    | none => some x
    | some y => if y.prio < x.prio ∨ (y.prio = x.prio ∧ x.rule < y.rule) then some x else some y) none

/-- The fires due for output `n` at boundary `b`: the best one starts unless what plays has higher priority; the others are dropped. -/
def State.fireOutput (s : State) (b : Nat) (l : List HapFire) (n : Nat) : State :=
  let mine := l.filter (fun f => f.out.getLsbD n)
  match bestFire mine with
  | none => s
  | some f =>
    let o : HapOut := Tab.get {} s.console.outs n
    if o.wave.isSome ∧ f.prio < o.prio then s.count Reg.hapDrops mine.length
    else
      ({ s with
        console := { s.console with
        outs := Tab.set {} s.console.outs n { wave := some f.wave, prio := f.prio, start := b } } }).count Reg.hapDrops (mine.length - 1)

/-- The earliest due time of a list of fires. -/
def firstDue (l : List HapFire) : Option Nat :=
  l.foldl (fun (a : Option Nat) f => some (match a with
    | some x => min x f.due
    | none => f.due)) none

/-- HAPTIC_WAVEFORM_START (R361): at a boundary, the fires due there. -/
def execHapticWaveformStart (t : Nat) (s : State) : Host.Outcome State Fault Refusal :=
  let s := s.at t
  let c := s.console
  match firstDue c.fires with
  | none => .next s
  | some b =>
    if b ≤ s.now then
      let l := c.fires.filter (fun f => f.due == b)
      let s := { s with console := { c with fires := c.fires.filter (fun f => f.due != b) } }
      .next ((List.range 8).foldl (fun s n => s.fireOutput b l n) s)
    else .next s

/-- How long waveform `w` plays, ns: LEN samples at 8 kHz, REPEAT times (R360). -/
def State.waveNs (s : State) (w : Nat) : Nat := bits (s.reg (Reg.hapWavePos w)) 30 16 * (s.reg (Reg.hapWavePlay w) % 256) * 125000

/-- HAPTIC_WAVEFORM_END (R360): output `n`'s waveform has finished its repeats. -/
def execHapticWaveformEnd (t : Nat) (n : Fin 8) (s : State) : Host.Outcome State Fault Refusal :=
  let s := s.at t
  let o : HapOut := Tab.get {} s.console.outs n.val
  match o.wave with
  | some w =>
    if o.start + s.waveNs w ≤ s.now then
      .next { s with console := { s.console with outs := Tab.set {} s.console.outs n.val { o with wave := none } } }
    else .next s
  | none => .next s

/-- The duty of output `n`'s carrier, of 1024 (R360). -/
def State.hapDuty (s : State) (n : Nat) : Int :=
  let o : HapOut := Tab.get {} s.console.outs n
  match o.wave with
  | none => 512
  | some w =>
    let pos := s.reg (Reg.hapWavePos w)
    let i := bits pos 13 0 + (s.now - o.start) / 125000 % max (bits pos 30 16) 1
    let x := sext 16 (s.reg (Reg.hapMem (i / 2)) / 2 ^ (16 * (i % 2)))
    clampI 0 1023 (512 + x * (bits (s.reg (Reg.hapWavePlay w)) 15 8 : Nat) / 16384)

/-! ## Ports -/

/-- A touch port, and a change of it. -/
def State.touch (s : State) (p : Nat) : Touch := Tab.get {} s.console.ports p
def State.setTouch (s : State) (p : Nat) (x : Touch) : State :=
  { s with console := { s.console with ports := Tab.set {} s.console.ports p x } }

/-- A key, and a change of it. -/
def State.key (s : State) (k : Nat) : Key := Tab.get {} s.console.keys k
def State.setKey (s : State) (k : Nat) (x : Key) : State :=
  { s with console := { s.console with keys := Tab.set {} s.console.keys k x } }

/-- The keys of a port. -/
def State.portKeys (s : State) (p : Nat) : List Nat :=
  (s.console.keys.filter (fun q => q.2.cfg.en && q.2.cfg.port == p)).map Prod.fst

/-- The port's line of a key. -/
def keyLine (k : KeyCfg) : Nat := k.line - 72 * k.port

/-- An average differs from its reference by more than SUSPECT_FRAC/256 of it (R351); a reference of 0 is none (R427). -/
def suspectAvg (avg ref frac : Nat) : Bool := ref != 0 && decide (frac * ref < 256 * ((avg : Int) - ref).natAbs)

/-- A contact of the port is down and not HELD, or a key of it pressed and not HELD: tracking is frozen (R352). -/
def State.portBusy (s : State) (p : Nat) : Bool :=
  (s.touch p).contacts.any (fun c => c.state == .down || c.state == .move) ||
    (s.portKeys p).any (fun k => (s.key k).state == .pressed)

/-- A base moves one count toward the raw count where the delta is small (R352). -/
def trackBase (base raw noise : Nat) : Nat :=
  if noise ≤ ((raw : Int) - base).natAbs then base else if base < raw then base + 1 else if raw < base then base - 1 else base

/-! ## Scans (R347, R348, R350, R358) -/

/-- The kind of the next scan: a test scan before the first of R351 and, in place of a self scan, every PERIOD_S seconds. -/
def Touch.nextKind (x : Touch) (now : Nat) : ScanKind :=
  if !x.tested then .test
  else if x.nextSelf then (if x.testAt + x.cfg.periodS * 1000000000 ≤ now then .test else .self)
  else .mutualScan

/-- The sync head has left RUN or is back in it; the first scan after it enters RUN is mutual (R348, R350). -/
def State.touchSync (s : State) (p : Nat) : State :=
  let x := s.touch p
  let h := s.head x.cfg.head
  if h.state = .run ∧ x.state = .free then
    (s.setTouch p { x with state := .synced, nextSelf := false, freePeriod := h.cfg.periodNs, frameAt := none }).emit .tchSyncOk p []
  else if h.state ≠ .run ∧ x.state = .synced then (s.setTouch p { x with state := .free }).emit .tchSyncLost p []
  else s

/-- A port's touch scan start epoch as programmed (R79, R347, R350): the start of blank line GUARD after the frame in scan-out of the sync
head, in whole ns; on the port's own timer the last instant of its period. -/
def State.scanEpoch (s : State) (p : Nat) : Nat :=
  let x := s.touch p
  let h := s.head x.cfg.head
  if x.state = .synced then
    (if h.cur = {} then s.now
     else h.cur.epoch + (h.cur.lines + h.cfg.vActive + x.cfg.guard) * HeadCfg.lineNum h.cfg / HeadCfg.lineDen h.cfg)
  else if x.freePeriod = 0 then s.now
  else x.lastScan + (s.now - x.lastScan) / x.freePeriod * x.freePeriod

/-- A frame of the sync head with its scan start instant: that of a ready-driven head gives its period, the last one of which the port's own
timer keeps (R350). -/
def Touch.frameSeen (x : Touch) (ready : Bool) (e : Nat) : Touch :=
  if x.state = .synced then
    { x with frameAt := some e, freePeriod := if ready then ((x.frameAt.map (fun a => e - a)).getD x.freePeriod) else x.freePeriod }
  else x

/-- A measurement group, ns: BURST pulses at F_TX, and 2 µs (R348). -/
def Touch.groupNs (x : Touch) : Nat := ceilDiv (x.cfg.burst * 10000) (max x.cfg.ftx 1) + 2000

/-- How long a scan lasts, ns: the key group and each drive line, or the key group, the sense lines and the drive lines (R348); a test scan
stands in place of a self scan (R358). -/
def Touch.scanNs (x : Touch) : ScanKind → Nat
  | .mutualScan => (x.cfg.d + 1) * Touch.groupNs x
  | _ => 3 * Touch.groupNs x

/-- TOUCH_SCAN_START (R347, R350): at blank line GUARD of a frame of the sync head, or on the port's own timer; the scan carries its
programmed epoch (R79). -/
def execTouchScanStart (t : Nat) (p : Fin 2) (s : State) : Host.Outcome State Fault Refusal :=
  let s := s.at t
  if s.up ∧ (s.touch p.val).cfg.en then
    let s := s.touchSync p.val
    let x := s.touch p.val
    let due : Bool := if x.state = .synced then decide (x.cfg.div ≤ x.frames + 1) else decide (x.lastScan + x.freePeriod ≤ s.now)
    let e := s.scanEpoch p.val
    if x.scan.isSome ∨ s.now < e ∨ (x.state = .synced ∧ x.frameAt = some e) then .next s
    else
      let x := Touch.frameSeen x (s.head x.cfg.head).cfg.ready e
      if due then .next (s.setTouch p.val { x with scan := some (e, Touch.nextKind x e), lastScan := e, frames := 0 })
      else .next (s.setTouch p.val { x with frames := x.frames + 1 })
  else .next s

/-- TOUCH_REBASE (R352): R351 runs again on the port. -/
def execTouchRebase (t : Nat) (p : Fin 2) (s : State) : Host.Outcome State Fault Refusal :=
  let s := s.at t
  let x := s.touch p.val
  if x.cfg.en then
    let s := s.setTouch p.val { x with
      tested := false, nextSelf := false, startScans := 0, sumMutual := [], sumSelf := [], suspectNodes := [], suspectSelf := [] }
    .next ((s.portKeys p.val).foldl (fun s k => s.setKey k { s.key k with sum := 0, measures := 0 }) s)
  else .next s

/-! ## Keys (R351, R352, R356 to R358) -/

/-- Move a key to a state, with its event at the scan's epoch and the haptic rules of the edge (R357, R361). -/
def State.keyTo (s : State) (k e : Nat) (x : KeyState) (ev : EvKind) (edge : Nat) : State :=
  ((s.setKey k { s.key k with state := x, count := 0 }).emitAt ev k e []).fireRules k edge

/-- Debounce of a key (R356, R357): `d` its delta, `e` the epoch of the scan. -/
def State.keyDebounce (s : State) (k e : Nat) (d : Int) : State :=
  let x := s.key k
  match x.state with
  | .suspect => s
  | .released =>
    if x.fail ∨ d < x.cfg.pressTh then s.setKey k { x with count := 0 }
    else if x.cfg.pressN ≤ x.count + 1 then
      (s.setKey k { x with since := e }).keyTo k e .pressed .keyPress 0
    else s.setKey k { x with count := x.count + 1 }
  | _ =>
    if d < x.cfg.releaseTh then
      if x.cfg.releaseN ≤ x.count + 1 then s.keyTo k e .released .keyRelease 1
      else s.setKey k { x with count := x.count + 1 }
    else
      let s := s.setKey k { x with count := 0 }
      if x.state = .pressed ∧ x.since + s.console.keyMaxHold * 1000000000 ≤ e then s.keyTo k e .held .keyHeld 2 else s

/-- A measurement of a key in a scan of port `p` that began at `e` (R351, R352, R357). -/
def State.keyMeasure (s : State) (p k e raw : Nat) (busy : Bool) : State :=
  let c := (s.touch p).cfg
  let x : Key := { s.key k with raw := raw }
  if x.measures < 4 then
    let y := { x with sum := x.sum + raw, measures := x.measures + 1 }
    if y.measures < 4 then s.setKey k y
    else
      let avg := y.sum / 4
      if suspectAvg avg (s.refLine p (keyLine x.cfg)) c.suspectFrac then
        (s.setKey k { y with base := avg, state := .suspect }).emitAt .keySuspect k e []
      else s.setKey k { y with base := avg, state := if y.state = .suspect then .released else y.state }
  else
    let d := (raw : Int) - x.base
    let n := x.measures + 1
    if d ≤ -(c.liftTh : Int) then
      let s := s.setKey k { x with
        base := raw, measures := n, state := if x.state = .suspect then .released else x.state }
      (s.emitAt .keyRebaselined k e []).keyDebounce k e 0
    else
      let tracks : Bool := n % max c.driftScans 1 == 0 && !busy && x.state != .held
      let s := s.setKey k { x with measures := n, base := if tracks then trackBase x.base raw c.noiseTh else x.base }
      s.keyDebounce k e d

/-- The result of one electrode in a test scan: 0 OPEN, 1 SHORT, 2 SHORT_ADJ (a sense line only, `adj` its last
self count), none where it passes. -/
def testResult (c : TouchCfg) (ref raw : Nat) (adj : Option Nat) : Option Nat :=
  if raw = 0 ∨ raw = 0xFFFF then some 1
  else if 256 * raw < c.openFrac * ref then some 0
  else match adj with
    | some last => if ref ≠ 0 ∧ c.shortFrac * ref < 256 * ((raw : Int) - last).natAbs then some 2 else none
    | none => none

/-- A test measurement of a key in a test scan that began at `e` (R358). It leaves the key's last raw count. -/
def State.keyTest (s : State) (p k e raw : Nat) (fresh : Bool) : State :=
  let x := s.key k
  match testResult (s.touch p).cfg (s.refLine p (keyLine x.cfg)) raw (if x.measures = 0 then none else some x.raw) with
  | some r => (s.setKey k { x with fail := true }).emitAt .keySelftestFail k e [(r : Int)]
  | none => s.setKey k { x with fail := x.fail && !fresh }

/-- KEY_GROUP_END (R348, R357): the key group of the scan in progress on port `p`, with the keys' raw counts. -/
def execKeyGroupEnd (t : Nat) (p : Fin 2) (raws : List (Nat × Nat)) (s : State) : Host.Outcome State Fault Refusal :=
  let s := s.at t
  let x := s.touch p.val
  match x.scan with
  | none => .next s
  | some (e, kind) =>
    if s.now < e + Touch.groupNs x then .next s
    else
    let busy := s.portBusy p.val
    let mine := raws.filter (fun r => (s.portKeys p.val).contains r.1)
    .next (mine.foldl (fun s r => match kind with
      | .test => s.keyTest p.val r.1 e r.2 (!x.tested)
      | _ => s.keyMeasure p.val r.1 e r.2 busy) s)

/-! ## Evaluation (R353 to R356) -/

/-- The delta of a node and of a self line: positive for a touch. -/
def Touch.nodeDelta (x : Touch) (i : Nat) : Int := ((Tab.get 0 x.base i : Nat) : Int) - ((Tab.get 0 x.raw i : Nat) : Int)
def Touch.lineDelta (x : Touch) (i : Nat) : Int := ((Tab.get 0 x.selfRaw i : Nat) : Int) - ((Tab.get 0 x.selfBase i : Nat) : Int)

/-- A node is excluded: suspect, failed, or on a failed line. -/
def Touch.nodeOut (x : Touch) (d y : Nat) : Bool :=
  x.suspectNodes.contains (72 * d + y) || x.failNodes.contains (72 * d + y) || x.failD.contains d || x.failS.contains y

/-- The nodes within one step of (d, s), itself included. -/
def Touch.around (x : Touch) (d y : Nat) : List (Nat × Nat) :=
  ((List.range 3).flatMap (fun a => (List.range 3).map (fun b => (d + a, y + b)))).filterMap (fun p =>
    if 1 ≤ p.1 ∧ 1 ≤ p.2 ∧ p.1 ≤ x.cfg.d ∧ p.2 ≤ x.cfg.s then some (p.1 - 1, p.2 - 1) else none)

/-- A node of at least threshold `th` that is greater than each neighbour, or equal to one of higher index (R353). -/
def Touch.isPeak (x : Touch) (th : Nat) (d y : Nat) : Bool :=
  let v := Touch.nodeDelta x (72 * d + y)
  !Touch.nodeOut x d y && decide ((th : Int) ≤ v) &&
    (Touch.around x d y).all (fun q =>
      q == (d, y) || decide (Touch.nodeDelta x (72 * q.1 + q.2) < v) ||
        (Touch.nodeDelta x (72 * q.1 + q.2) == v && decide (72 * d + y < 72 * q.1 + q.2)))

/-- The peaks of at least a threshold, in index order. -/
def Touch.peaks (x : Touch) (th : Nat) : List (Nat × Nat) :=
  ((List.range x.cfg.d).flatMap (fun d => (List.range x.cfg.s).map (fun y => (d, y)))).filter (fun q => Touch.isPeak x th q.1 q.2)

/-- A line of index `i` among the self lines shows a touch. -/
def Touch.lineOn (x : Touch) (i : Nat) : Bool :=
  !x.suspectSelf.contains i && !(if i < 72 then x.failS.contains i else x.failD.contains (i - 72)) &&
    decide ((x.cfg.selfTh : Int) ≤ Touch.lineDelta x i)

/-- Lines within one of `i`, below `n`. -/
def near (i n : Nat) : List Nat := (List.range n).filter (fun k => decide (k ≤ i + 1) && decide (i ≤ k + 1))

/-- A candidate agrees with the latest self scan (R353). -/
def Touch.agrees (x : Touch) (q : Nat × Nat) : Bool :=
  (near q.1 x.cfg.d).any (fun d => Touch.lineOn x (72 + d)) && (near q.2 x.cfg.s).any (fun y => Touch.lineOn x y)

/-- The centroid of the nodes around a peak, weighted by their positive deltas: X, Y in 1/256 pitch (R354). -/
def Touch.centroid (x : Touch) (q : Nat × Nat) : Nat × Nat :=
  let w := (Touch.around x q.1 q.2).map (fun n => (n, (Touch.nodeDelta x (72 * n.1 + n.2)).toNat))
  let tot := max ((w.map Prod.snd).foldl (· + ·) 0) 1
  ((w.map (fun n => n.2 * (256 * n.1.2))).foldl (· + ·) 0 / tot, (w.map (fun n => n.2 * (256 * n.1.1))).foldl (· + ·) 0 / tot)

/-- Squared distance of two positions. -/
def dist2 (a b : Nat × Nat) : Nat := (((a.1 : Int) - b.1) * (a.1 - b.1) + ((a.2 : Int) - b.2) * (a.2 - b.2)).toNat

/-- The peak of a list nearest to a position, within 512 units (R354). -/
def Touch.nearest (x : Touch) (pos : Nat × Nat) (l : List (Nat × Nat)) : Option (Nat × Nat) :=
  (l.filter (fun q => decide (dist2 pos (Touch.centroid x q) ≤ 512 * 512))).foldl (fun (a : Option (Nat × Nat)) q => match a with
    | none => some q
    | some y => if dist2 pos (Touch.centroid x q) < dist2 pos (Touch.centroid x y) then some q else some y) none

/-- One contact of the previous evaluation, with the peaks not yet taken: it moves, counts toward UP, goes UP or HELD; whether it is
reported in this scan. -/
def Touch.follow (x : Touch) (now : Nat) (c : Contact) (l : List (Nat × Nat)) : Contact × Bool × List (Nat × Nat) :=
  match Touch.nearest x (c.x, c.y) l with
  | some q =>
    let p := Touch.centroid x q
    let z := min (Touch.nodeDelta x (72 * q.1 + q.2)).toNat 0xFFFF
    let held := c.state == .held || decide (c.since + x.cfg.maxHold * 1000000000 ≤ now)
    ({ c with x := p.1, y := p.2, z := z, pd := q.1, ps := q.2, below := 0, state := if held then .held else .move },
      !(c.state == .held), l.filter (fun y => y != q))
  | none =>
    if x.cfg.upN ≤ c.below + 1 then ({ c with below := c.below + 1, state := .up }, true, l)
    else ({ c with below := c.below + 1 }, c.state != .held, l)

/-- The contacts of the previous evaluation in ascending ID (R354), their reports, the peaks left over. -/
def Touch.followAll (x : Touch) (now : Nat) : List Contact → List (Nat × Nat) → List (Contact × Bool) × List (Nat × Nat)
  | [], l => ([], l)
  | c :: t, l =>
    let r := Touch.follow x now c l
    let q := Touch.followAll x now t r.2.2
    ((r.1, r.2.1) :: q.1, q.2)

/-- The lowest free ID. -/
def freeId (l : List Contact) : Option Nat := (List.range 10).find? (fun k => !l.any (fun c => c.id == k))

/-- A contact list in ascending ID. -/
def byId (l : List Contact) : List Contact := (List.range 10).flatMap (fun k => l.filter (fun c => c.id == k))

/-- The evaluation after a scan at epoch `e` (R353 to R356): the port, the contacts to report, contacts that found no ID. -/
def Touch.evaluate (x : Touch) (e : Nat) : Touch × List Contact × Nat :=
  let r := Touch.followAll x e (byId x.contacts) (Touch.peaks x x.cfg.liftTh)
  let stay := (r.1.map Prod.fst).filter (fun c => c.state != .up)
  let shown := (r.1.filter (fun c => c.2)).map Prod.fst
  let fresh := r.2.filter (fun q => Touch.isPeak x x.cfg.touchTh q.1 q.2 && Touch.agrees x q)
  let seen := fresh.map (fun q =>
    let p := Touch.centroid x q
    let n := ((x.pendings.filter (fun w => decide (dist2 p (w.x, w.y) ≤ 512 * 512))).map (fun w => w.count)).foldl max 0
    (q, p, n + 1))
  let go := fun (a : List Contact × List PendingTouch × Nat) (w : (Nat × Nat) × (Nat × Nat) × Nat) =>
    if x.cfg.downN ≤ w.2.2 then
      match freeId a.1 with
      | some id =>
        let c : Contact :=
          { id := id, x := w.2.1.1, y := w.2.1.2, z := min (Touch.nodeDelta x (72 * w.1.1 + w.1.2)).toNat 0xFFFF, pd := w.1.1,
            ps := w.1.2, since := e, below := 0, state := .down }
        (a.1 ++ [c], a.2.1, a.2.2)
      | none => (a.1, a.2.1, a.2.2 + 1)
    else (a.1, a.2.1 ++ [⟨w.2.1.1, w.2.1.2, w.2.2⟩], a.2.2)
  let n := seen.foldl go (stay, [], 0)
  let new := n.1.filter (fun c => c.state == .down && c.since == e)
  ({ x with contacts := n.1, pendings := n.2.1 }, byId (shown ++ new.filter (fun c => !shown.any (fun k => k.id == c.id))), n.2.2)

/-- The water lines (R355): a self line with a touch, without a candidate within one line, that crosses a node at −WATER_TH or below. -/
def Touch.waterLines (x : Touch) : List Nat :=
  let cs := Touch.peaks x x.cfg.touchTh
  let wet := fun (d y : Nat) => decide (Touch.nodeDelta x (72 * d + y) ≤ -(x.cfg.waterTh : Int))
  (List.range x.cfg.s).filter (fun y => Touch.lineOn x y && !cs.any (fun q => (near y x.cfg.s).contains q.2) &&
      (List.range x.cfg.d).any (fun d => wet d y)) ++
    ((List.range x.cfg.d).filter (fun d => Touch.lineOn x (72 + d) && !cs.any (fun q => (near d x.cfg.d).contains q.1) &&
      (List.range x.cfg.s).any (fun y => wet d y))).map (fun d => 72 + d)

/-! ## Baselines of a port (R351, R352) -/

/-- Lay raw counts into a table. -/
def layRaw (t : Tab Nat) (l : List (Nat × Nat)) : Tab Nat := l.foldl (fun (t : Tab Nat) p => Tab.set 0 t p.1 p.2) t

/-- Add raw counts to sums. -/
def addRaw (t : Tab Nat) (l : List (Nat × Nat)) : Tab Nat := l.foldl (fun (t : Tab Nat) p => Tab.set 0 t p.1 (Tab.get 0 t p.1 + p.2)) t

/-- The nodes and self lines of a port's matrix. -/
def Touch.nodes (x : Touch) : List Nat := (List.range x.cfg.d).flatMap (fun d => (List.range x.cfg.s).map (fun y => 72 * d + y))
def Touch.lines (x : Touch) : List Nat := List.range x.cfg.s ++ (List.range x.cfg.d).map (fun d => 72 + d)

/-- After the first four scans every electrode takes its average as its baseline; those off their reference are suspect (R351). -/
def State.touchStart (s : State) (p : Nat) : State :=
  let x := s.touch p
  let avg := fun (t : Tab Nat) (i : Nat) => Tab.get 0 t i / 2
  let sn := (Touch.nodes x).filter (fun i => suspectAvg (avg x.sumMutual i) (s.refNode p i) x.cfg.suspectFrac)
  let sl := (Touch.lines x).filter (fun i => suspectAvg (avg x.sumSelf i) (s.refLine p i) x.cfg.suspectFrac)
  let s := s.setTouch p { x with
    base := (Touch.nodes x).foldl (fun (t : Tab Nat) i => Tab.set 0 t i (avg x.sumMutual i)) x.base,
    selfBase := (Touch.lines x).foldl (fun (t : Tab Nat) i => Tab.set 0 t i (avg x.sumSelf i)) x.selfBase,
    suspectNodes := sn, suspectSelf := sl, sumMutual := [], sumSelf := [] }
  let s := sn.foldl (fun (s : State) (i : Nat) => s.emit .tchSuspect p [0, (i : Int)]) s
  sl.foldl (fun (s : State) (i : Nat) => s.emit .tchSuspect p [1, (i : Int)]) s

/-- An electrode whose delta has fallen to −LIFT_TH takes its raw count as baseline and is suspect no more (R351). -/
def State.touchLift (s : State) (p : Nat) (isMutual : Bool) : State :=
  let x := s.touch p
  let low := fun (v : Int) => decide (v ≤ -(x.cfg.liftTh : Int))
  if isMutual then
    let l := (Touch.nodes x).filter (fun i => low (Touch.nodeDelta x i))
    let s := s.setTouch p { x with
      base := l.foldl (fun (t : Tab Nat) i => Tab.set 0 t i (Tab.get 0 x.raw i)) x.base,
      suspectNodes := x.suspectNodes.filter (fun i => !l.contains i) }
    l.foldl (fun (s : State) (i : Nat) => s.emit .tchRebaselined p [0, (i : Int)]) s
  else
    let l := (Touch.lines x).filter (fun i => low (Touch.lineDelta x i))
    let s := s.setTouch p { x with
      selfBase := l.foldl (fun (t : Tab Nat) i => Tab.set 0 t i (Tab.get 0 x.selfRaw i)) x.selfBase,
      suspectSelf := x.suspectSelf.filter (fun i => !l.contains i) }
    l.foldl (fun (s : State) (i : Nat) => s.emit .tchRebaselined p [1, (i : Int)]) s

/-- Tracking, every DRIFT_SCANS scans of a kind; frozen as R352 says. -/
def State.touchTrack (s : State) (p : Nat) (isMutual : Bool) : State :=
  let x := s.touch p
  let n := if isMutual then x.mutualScans else x.selfScans
  if n % max x.cfg.driftScans 1 ≠ 0 ∨ s.portBusy p then s
  else
    let held := (x.contacts.filter (fun c => c.state == .held)).flatMap (fun c => Touch.around x c.pd c.ps)
    if isMutual then
      s.setTouch p { x with
        base := (Touch.nodes x).foldl (fun (t : Tab Nat) i =>
          if held.any (fun q => 72 * q.1 + q.2 == i) then t
          else Tab.set 0 t i (trackBase (Tab.get 0 t i) (Tab.get 0 x.raw i) x.cfg.noiseTh)) x.base }
    else
      s.setTouch p { x with
        selfBase := (Touch.lines x).foldl (fun (t : Tab Nat) i =>
          if held.any (fun q => q.2 == i || 72 + q.1 == i) then t
          else Tab.set 0 t i (trackBase (Tab.get 0 t i) (Tab.get 0 x.selfRaw i) x.cfg.noiseTh)) x.selfBase }

/-! ## Test scans (R358) -/

/-- A test scan ends: nodes and self lines as measured in it. Before the first scan of R351 what passes is restored. -/
def State.touchTest (s : State) (p : Nat) (m x : List (Nat × Nat)) : State :=
  let y := s.touch p
  let fresh := !y.tested
  let adj := fun (i : Nat) => if i < 72 ∧ y.selfScans ≠ 0 then some (Tab.get 0 y.selfRaw i) else none
  let fn := m.filterMap (fun q => (testResult y.cfg (s.refNode p q.1) q.2 none).map (fun r => (q.1, r)))
  let fl := x.filterMap (fun q => (testResult y.cfg (s.refLine p q.1) q.2 (adj q.1)).map (fun r => (q.1, r)))
  let keep := fun (old new : List Nat) => if fresh then new else old ++ new.filter (fun i => !old.contains i)
  let s := s.setTouch p { y with
    tested := true, testAt := s.now, failNodes := keep y.failNodes (fn.map Prod.fst),
    failS := keep y.failS ((fl.map Prod.fst).filter (fun i => decide (i < 72))),
    failD := keep y.failD (((fl.map Prod.fst).filter (fun i => decide (72 ≤ i))).map (fun i => i - 72)) }
  let s := fn.foldl (fun (s : State) q => s.emit .tchSelftestFail p [0, (q.1 : Int), (q.2 : Int)]) s
  fl.foldl (fun (s : State) q => s.emit .tchSelftestFail p [1, (q.1 : Int), (q.2 : Int)]) s

/-! ## Reports (R359) -/

/-- A report record, 96 bytes. -/
def reportBytes (p : Nat) (r : TouchReport) : List Byte :=
  let cs := r.contacts.flatMap (fun c => leBytes 1 c.id ++ leBytes 1 c.state.code ++ leBytes 2 c.x ++ leBytes 2 c.y ++ leBytes 2 c.z)
  (leBytes 1 p ++ leBytes 1 r.flags ++ leBytes 1 r.contacts.length ++ leBytes 1 0 ++ leBytes 4 r.seq ++ leBytes 8 r.epoch ++ cs ++
    List.replicate 80 0).take 96

/-- Some electrode is excluded. -/
def Touch.degraded (x : Touch) : Bool := !x.failNodes.isEmpty || !x.failD.isEmpty || !x.failS.isEmpty

/-- The FLAGS of a report. -/
def Touch.flags (x : Touch) (kind : ScanKind) : Nat :=
  b2n x.water + 2 * b2n (x.state == .free) + 4 * b2n (!x.suspectNodes.isEmpty || !x.suspectSelf.isEmpty) + 8 * b2n (Touch.degraded x) +
    16 * b2n (kind != .mutualScan)

/-- Write a report to the port's ring; a full ring loses it, reported at most once per second. -/
def State.touchReport (s : State) (p e : Nat) (kind : ScanKind) (cs : List Contact) : State :=
  let x := s.touch p
  let ctrl := s.reg (Reg.tchRingCtrl p)
  let rd := s.reg (Reg.tchRingRd p)
  if !bit ctrl 0 then s
  else if unread x.written rd < 2 ^ bits ctrl 11 4 then
    let r : TouchReport := { flags := Touch.flags x kind, seq := x.seq, epoch := e, contacts := cs }
    let size := 2 ^ bits ctrl 11 4
    let addr := s.reg (Reg.tchRingHi p) * 2 ^ 32 + s.reg (Reg.tchRingLo p) + 96 * (x.written % size)
    let l := x.reports ++ [r]
    (s.setTouch p { x with
      reports := l.drop (l.length - (unread x.written rd + 1)), seq := (x.seq + 1) % 2 ^ 32, written := (x.written + 1) % 2 ^ 32 }).send
        (.hostWrite (BitVec.ofNat 64 addr) (reportBytes p r))
  else
    let s := s.count (Reg.tchRingLost p) 1
    let due := match x.lostEvt with
      | some t => decide (t + 1000000000 ≤ s.now)
      | none => true
    if due then (s.setTouch p { x with lostEvt := some s.now }).emit .tchRingLost p [] else s

/-- Contacts, water and the report after a scan at epoch `e`, once the baselines are set (R353 to R359). -/
def State.touchEvaluate (s : State) (p e : Nat) (kind : ScanKind) : State :=
  let r := Touch.evaluate (s.touch p) e
  let s := (s.setTouch p r.1).count (Reg.tchOver p) r.2.2
  let x := s.touch p
  let wet := Touch.waterLines x
  let due := match x.waterEvt with
    | some t => decide (t + 1000000000 ≤ s.now)
    | none => true
  let s := s.setTouch p { x with water := !wet.isEmpty }
  let s := if !wet.isEmpty && due then (s.setTouch p { s.touch p with waterEvt := some s.now }).emit .tchWater p (wet.map Int.ofNat) else s
  if (s.touch p).contacts.isEmpty && r.2.1.isEmpty then s else s.touchReport p e kind r.2.1

/-- TOUCH_SCAN_COMPLETE (R348, R351 to R359): the scan in progress on port `p` ends with raw counts of mutual nodes (72 d + s) and of self lines
(sense from 0, drive from 72). -/
def execTouchScanComplete (t : Nat) (p : Fin 2) (nodes lines : List (Nat × Nat)) (s : State) : Host.Outcome State Fault Refusal :=
  let s := s.at t
  let x := s.touch p.val
  match x.scan with
  | none => .next s
  | some (e, kind) =>
    if s.now < e + Touch.scanNs x kind then .next s
    else
    let s := s.setTouch p.val { x with scan := none, nextSelf := if x.tested then kind == .mutualScan else false }
    let y := s.touch p.val
    match kind with
    | .test => .next (s.touchTest p.val nodes lines)
    | _ =>
      let isMutual := kind == .mutualScan
      let y := if isMutual then { y with raw := layRaw y.raw nodes, mutualScans := y.mutualScans + 1 }
        else { y with selfRaw := layRaw y.selfRaw lines, selfScans := y.selfScans + 1 }
      if y.startScans < 4 then
        let y := { y with
          startScans := y.startScans + 1, sumMutual := if isMutual then addRaw y.sumMutual nodes else y.sumMutual,
          sumSelf := if isMutual then y.sumSelf else addRaw y.sumSelf lines }
        let s := s.setTouch p.val y
        .next (if y.startScans = 4 then s.touchStart p.val else s)
      else .next ((((s.setTouch p.val y).touchLift p.val isMutual).touchEvaluate p.val e kind).touchTrack p.val isMutual)

end Sys2Proof.Machine
end

