-- ==== Sys2Proof/Machine/Dispatch.lean ====
section
/-! DEFINITION. The meaning of every command: one arm per constructor. -/

namespace Sys2Proof.Machine

/-- The effect of a command on everything but the queue. -/
def exec (i : Instr) (s : State) : Host.Outcome State Fault Refusal :=
  match i with
  | .admissionRequestJudge t => Sys2Proof.Machine.execAdmissionRequestJudge t s
  | .blobApply t => Sys2Proof.Machine.execBlobApply t s
  | .blobReadComplete t data => Sys2Proof.Machine.execBlobReadComplete t data s
  | .eccZonesWrite t v => Sys2Proof.Machine.execEccZonesWrite t v s
  | .apertureBaseWrite t v => Sys2Proof.Machine.execApertureBaseWrite t v s
  | .apertureBaseSwitch t => Sys2Proof.Machine.execApertureBaseSwitch t s
  | .bar0StrayAccess t o write => Sys2Proof.Machine.execBar0StrayAccess t o write s
  | .bar4Access t o write n data => Sys2Proof.Machine.execBar4Access t o write n data s
  | .registerWrite t a v => Sys2Proof.Machine.execRegisterWrite t a v s
  | .registerReadClear t a => Sys2Proof.Machine.execRegisterReadClear t a s
  | .frameRelease t c => Sys2Proof.Machine.execFrameRelease t c s
  | .latch t h phase bad => Sys2Proof.Machine.execLatch t h phase bad s
  | .generationSwitch t c => Sys2Proof.Machine.execGenerationSwitch t c s
  | .genShadowCopyComplete t => Sys2Proof.Machine.execGenShadowCopyComplete t s
  | .pairComparison t h => Sys2Proof.Machine.execPairComparison t h s
  | .touchScanStart t p => Sys2Proof.Machine.execTouchScanStart t p s
  | .tallyEdge t => Sys2Proof.Machine.execTallyEdge t s
  | .timeRateWrite t v => Sys2Proof.Machine.execTimeRateWrite t v s
  | .timeAdjCommit t hi => Sys2Proof.Machine.execTimeAdjCommit t hi s
  | .servoHold t => Sys2Proof.Machine.execServoHold t s
  | .servoRelease t => Sys2Proof.Machine.execServoRelease t s
  | .timeSnapshot t v => Sys2Proof.Machine.execTimeSnapshot t v s
  | .ptpMessageRx t port domain msg => Sys2Proof.Machine.execPtpMessageRx t port domain msg s
  | .delayReqSend t port d seq tag => Sys2Proof.Machine.execDelayReqSend t port d seq tag s
  | .domainLost t d => Sys2Proof.Machine.execDomainLost t d s
  | .slewComplete t => Sys2Proof.Machine.execSlewComplete t s
  | .traceTolReached t => Sys2Proof.Machine.execTraceTolReached t s
  | .holdoverExpire t => Sys2Proof.Machine.execHoldoverExpire t s
  | .domainRevert t => Sys2Proof.Machine.execDomainRevert t s
  | .lockWaitExpire t => Sys2Proof.Machine.execLockWaitExpire t s
  | .goModeChange t => Sys2Proof.Machine.execGoModeChange t s
  | .txqPop t port => Sys2Proof.Machine.execTxqPop t port s
  | .ltbEpochCommit t n hi => Sys2Proof.Machine.execLtbEpochCommit t n hi s
  | .ttoArm t n hi => Sys2Proof.Machine.execTtoArm t n hi s
  | .ttoCtrlWrite t n v => Sys2Proof.Machine.execTtoCtrlWrite t n v s
  | .ttoEdge t n => Sys2Proof.Machine.execTtoEdge t n s
  | .ppsOutEdge t => Sys2Proof.Machine.execPpsOutEdge t s
  | .tciEdge t n rising => Sys2Proof.Machine.execTciEdge t n rising s
  | .tciStampPop t n => Sys2Proof.Machine.execTciStampPop t n s
  | .expirySweepVisit t r => Sys2Proof.Machine.execExpirySweepVisit t r s
  | .sheetEpoch t n => Sys2Proof.Machine.execSheetEpoch t n s
  | .sheetTileComplete t e stalls rd wr => Sys2Proof.Machine.execSheetTileComplete t e stalls rd wr s
  | .sheetPageFault t u => Sys2Proof.Machine.execSheetPageFault t u s
  | .sheetFaultResume t n => Sys2Proof.Machine.execSheetFaultResume t n s
  | .ethDatagramRx t port f alt => Sys2Proof.Machine.execEthDatagramRx t port f alt s
  | .membershipReportSend t => Sys2Proof.Machine.execMembershipReportSend t s
  | .pathDownTimeout t n p => Sys2Proof.Machine.execPathDownTimeout t n p s
  | .auDeadline t n => Sys2Proof.Machine.execAuDeadline t n s
  | .contextRetry t n => Sys2Proof.Machine.execContextRetry t n s
  | .channelSilence t ch => Sys2Proof.Machine.execChannelSilence t ch s
  | .rtcpSrRx t n ntp rtp => Sys2Proof.Machine.execRtcpSrRx t n ntp rtp s
  | .srAgeExpire t n => Sys2Proof.Machine.execSrAgeExpire t n s
  | .salvoPrepare t p k => Sys2Proof.Machine.execSalvoPrepare t p k s
  | .salvoCommit t p k => Sys2Proof.Machine.execSalvoCommit t p k s
  | .salvoCancel t p k => Sys2Proof.Machine.execSalvoCancel t p k s
  | .salvoSwitch t k => Sys2Proof.Machine.execSalvoSwitch t k s
  | .cruiseSweep t => Sys2Proof.Machine.execCruiseSweep t s
  | .laneTrainComplete t b => Sys2Proof.Machine.execLaneTrainComplete t b s
  | .laneTrainTimeout t l => Sys2Proof.Machine.execLaneTrainTimeout t l s
  | .laneSlip t l full => Sys2Proof.Machine.execLaneSlip t l full s
  | .laneAlignLoss t l errs aln => Sys2Proof.Machine.execLaneAlignLoss t l errs aln s
  | .identRx t l d alt => Sys2Proof.Machine.execIdentRx t l d alt s
  | .linkCtrlRx t l chan q op alt => Sys2Proof.Machine.execLinkCtrlRx t l chan q op alt s
  | .frameStartRx t l chan q f alt => Sys2Proof.Machine.execFrameStartRx t l chan q f alt s
  | .videoLineRx t l chan q frame line px alt => Sys2Proof.Machine.execVideoLineRx t l chan q frame line px alt s
  | .frameEndRx t l chan q frame lines alt => Sys2Proof.Machine.execFrameEndRx t l chan q frame lines alt s
  | .luskoBadPacketRx t l chan why errs => Sys2Proof.Machine.execLuskoBadPacketRx t l chan why errs s
  | .fixturePacketRx t l chan q alt => Sys2Proof.Machine.execFixturePacketRx t l chan q alt s
  | .luskoTimeSend t => Sys2Proof.Machine.execLuskoTimeSend t s
  | .captureFrameTimeout t n => Sys2Proof.Machine.execCaptureFrameTimeout t n s
  | .fastIdleEntry t l tx => Sys2Proof.Machine.execFastIdleEntry t l tx s
  | .fastIdleExit t l tx aligned => Sys2Proof.Machine.execFastIdleExit t l tx aligned s
  | .deepOffRequest t l => Sys2Proof.Machine.execDeepOffRequest t l s
  | .deepWakeRequest t l => Sys2Proof.Machine.execDeepWakeRequest t l s
  | .squelchActivity t l ns => Sys2Proof.Machine.execSquelchActivity t l ns s
  | .laneWakeAligned t l => Sys2Proof.Machine.execLaneWakeAligned t l s
  | .deepWakeTimeout t l => Sys2Proof.Machine.execDeepWakeTimeout t l s
  | .decodeJobStart t n part start dpb => Sys2Proof.Machine.execDecodeJobStart t n part start dpb s
  | .decodeRowComplete t k d => Sys2Proof.Machine.execDecodeRowComplete t k d s
  | .decodePageFault t u => Sys2Proof.Machine.execDecodePageFault t u s
  | .decodeFaultResume t n part => Sys2Proof.Machine.execDecodeFaultResume t n part s
  | .decodePoolTimeout t n => Sys2Proof.Machine.execDecodePoolTimeout t n s
  | .winGenOpen t => Sys2Proof.Machine.execWinGenOpen t s
  | .winGenCommit t => Sys2Proof.Machine.execWinGenCommit t s
  | .winGenAbandon t => Sys2Proof.Machine.execWinGenAbandon t s
  | .windowDescriptorWrite t g w k v => Sys2Proof.Machine.execWindowDescriptorWrite t g w k v s
  | .coefOpen t u b => Sys2Proof.Machine.execCoefOpen t u b s
  | .coefSeal t u b => Sys2Proof.Machine.execCoefSeal t u b s
  | .coefWrite t u b k v => Sys2Proof.Machine.execCoefWrite t u b k v s
  | .bgColorWrite t h v => Sys2Proof.Machine.execBgColorWrite t h v s
  | .safelightApply t h => Sys2Proof.Machine.execSafelightApply t h s
  | .glyphCrcRefresh t => Sys2Proof.Machine.execGlyphCrcRefresh t s
  | .readyDrivenLatch t h line bad => Sys2Proof.Machine.execReadyDrivenLatch t h line bad s
  | .forcedLatch t h bad => Sys2Proof.Machine.execForcedLatch t h bad s
  | .scanoutStart t h late => Sys2Proof.Machine.execScanoutStart t h late s
  | .signatureBlockSend t h fetched latent => Sys2Proof.Machine.execSignatureBlockSend t h fetched latent s
  | .prefetchStart t h w p => Sys2Proof.Machine.execPrefetchStart t h w p s
  | .underrunPixel t h pipe x y fault => Sys2Proof.Machine.execUnderrunPixel t h pipe x y fault s
  | .fetchLevelChange t h pipe lines spans => Sys2Proof.Machine.execFetchLevelChange t h pipe lines spans s
  | .headRasterStart t h => Sys2Proof.Machine.execHeadRasterStart t h s
  | .headRasterStop t h => Sys2Proof.Machine.execHeadRasterStop t h s
  | .hpdPresent t h r => Sys2Proof.Machine.execHpdPresent t h r s
  | .hpdGone t h => Sys2Proof.Machine.execHpdGone t h s
  | .irqHpd t h ok => Sys2Proof.Machine.execIrqHpd t h ok s
  | .linkTrainingAttempt t h => Sys2Proof.Machine.execLinkTrainingAttempt t h s
  | .linkTrainingDone t h ok => Sys2Proof.Machine.execLinkTrainingDone t h ok s
  | .linkRetry t h => Sys2Proof.Machine.execLinkRetry t h s
  | .recPictureStart t r part => Sys2Proof.Machine.execRecPictureStart t r part s
  | .recRowComplete t k coded filler stalls wasted rd wr body => Sys2Proof.Machine.execRecRowComplete t k coded filler stalls wasted rd wr body s
  | .recPageFault t u => Sys2Proof.Machine.execRecPageFault t u s
  | .recFaultResume t r part => Sys2Proof.Machine.execRecFaultResume t r part s
  | .bsRdWrite t r hi => Sys2Proof.Machine.execBsRdWrite t r hi s
  | .recRtpTransmit t r packets bytes => Sys2Proof.Machine.execRecRtpTransmit t r packets bytes s
  | .pairJoin t => Sys2Proof.Machine.execPairJoin t s
  | .pairLeave t => Sys2Proof.Machine.execPairLeave t s
  | .pairSwitchover t => Sys2Proof.Machine.execPairSwitchover t s
  | .pairActInRise t => Sys2Proof.Machine.execPairActInRise t s
  | .pairActInLost t => Sys2Proof.Machine.execPairActInLost t s
  | .sideBGoTimeout t => Sys2Proof.Machine.execSideBGoTimeout t s
  | .joinRetry t => Sys2Proof.Machine.execJoinRetry t s
  | .joinEpoch t => Sys2Proof.Machine.execJoinEpoch t s
  | .joinMaxExpire t => Sys2Proof.Machine.execJoinMaxExpire t s
  | .pairSyncSend t => Sys2Proof.Machine.execPairSyncSend t s
  | .pairSyncRx t q v alt => Sys2Proof.Machine.execPairSyncRx t q v alt s
  | .manifestRx t q m alt => Sys2Proof.Machine.execManifestRx t q m alt s
  | .commandRx t q c alt => Sys2Proof.Machine.execCommandRx t q c alt s
  | .reqFwdRx t q k r alt => Sys2Proof.Machine.execReqFwdRx t q k r alt s
  | .fillReqRx t q c mseq share alt => Sys2Proof.Machine.execFillReqRx t q c mseq share alt s
  | .fillDataRx t q c mseq content alt => Sys2Proof.Machine.execFillDataRx t q c mseq content alt s
  | .surfDataRx t q k mseq complete px alt => Sys2Proof.Machine.execSurfDataRx t q k mseq complete px alt s
  | .signatureRx t q b alt => Sys2Proof.Machine.execSignatureRx t q b alt s
  | .healthRx t q h alt => Sys2Proof.Machine.execHealthRx t q h alt s
  | .controlRx t q c alt => Sys2Proof.Machine.execControlRx t q c alt s
  | .pairSkewTimeout t => Sys2Proof.Machine.execPairSkewTimeout t s
  | .fillTimeout t c => Sys2Proof.Machine.execFillTimeout t c s
  | .fillRetentionExpire t => Sys2Proof.Machine.execFillRetentionExpire t s
  | .attributionDecide t => Sys2Proof.Machine.execAttributionDecide t s
  | .takeoverEpoch t => Sys2Proof.Machine.execTakeoverEpoch t s
  | .takeoverSwitch t => Sys2Proof.Machine.execTakeoverSwitch t s
  | .functionLevelReset t => Sys2Proof.Machine.execFunctionLevelReset t s
  | .pcieLinkDown t => Sys2Proof.Machine.execPcieLinkDown t s
  | .d3hotEntry t => Sys2Proof.Machine.execD3hotEntry t s
  | .instCreate t n => Sys2Proof.Machine.execInstCreate t n s
  | .instChange t n => Sys2Proof.Machine.execInstChange t n s
  | .instReset t n squash clear => Sys2Proof.Machine.execInstReset t n squash clear s
  | .instFreeze t n => Sys2Proof.Machine.execInstFreeze t n s
  | .instSave t n need => Sys2Proof.Machine.execInstSave t n need s
  | .instRestore t n b => Sys2Proof.Machine.execInstRestore t n b s
  | .instThaw t n => Sys2Proof.Machine.execInstThaw t n s
  | .instDestroy t n => Sys2Proof.Machine.execInstDestroy t n s
  | .instChangeEpoch t n => Sys2Proof.Machine.execInstChangeEpoch t n s
  | .instDrainTimeout t n => Sys2Proof.Machine.execInstDrainTimeout t n s
  | .resetDrainComplete t n => Sys2Proof.Machine.execResetDrainComplete t n s
  | .freezeComplete t n => Sys2Proof.Machine.execFreezeComplete t n s
  | .saveComplete t n => Sys2Proof.Machine.execSaveComplete t n s
  | .restoreComplete t n => Sys2Proof.Machine.execRestoreComplete t n s
  | .mmuMap t n => Sys2Proof.Machine.execMmuMap t n s
  | .mmuRevoke t n => Sys2Proof.Machine.execMmuRevoke t n s
  | .doorbellTailWrite t n q v => Sys2Proof.Machine.execDoorbellTailWrite t n q v s
  | .doorbellPageWrite t n o v => Sys2Proof.Machine.execDoorbellPageWrite t n o v s
  | .workOrderRead t n q x => Sys2Proof.Machine.execWorkOrderRead t n q x s
  | .nop t n id => Sys2Proof.Machine.execNop t n id s
  | .surfCreate t n id => Sys2Proof.Machine.execSurfCreate t n id s
  | .surfDestroy t n id => Sys2Proof.Machine.execSurfDestroy t n id s
  | .surfCommit t n id => Sys2Proof.Machine.execSurfCommit t n id s
  | .surfCommitBufferAcquire t n id => Sys2Proof.Machine.execSurfCommitBufferAcquire t n id s
  | .winBatch t n id => Sys2Proof.Machine.execWinBatch t n id s
  | .safeReq t n id => Sys2Proof.Machine.execSafeReq t n id s
  | .blazeSet t n id => Sys2Proof.Machine.execBlazeSet t n id s
  | .copy t n id => Sys2Proof.Machine.execCopy t n id s
  | .badOp t n id => Sys2Proof.Machine.execBadOp t n id s
  | .dmaBlockComplete t b stalls rd wr => Sys2Proof.Machine.execDmaBlockComplete t b stalls rd wr s
  | .priResponseRx t n g ok => Sys2Proof.Machine.execPriResponseRx t n g ok s
  | .priTimeout t n g => Sys2Proof.Machine.execPriTimeout t n g s
  | .atsInvalidateRx t n page len => Sys2Proof.Machine.execAtsInvalidateRx t n page len s
  | .cqHeadWrite t n v => Sys2Proof.Machine.execCqHeadWrite t n v s
  | .evqRdWrite t n v => Sys2Proof.Machine.execEvqRdWrite t n v s
  | .vectorHoldExpire t n ev => Sys2Proof.Machine.execVectorHoldExpire t n ev s
  | .vecMaskWrite t n m => Sys2Proof.Machine.execVecMaskWrite t n m s
  | .touchScanComplete t p nodes lines => Sys2Proof.Machine.execTouchScanComplete t p nodes lines s
  | .keyGroupEnd t p raws => Sys2Proof.Machine.execKeyGroupEnd t p raws s
  | .touchRebase t p => Sys2Proof.Machine.execTouchRebase t p s
  | .hapPlay t v => Sys2Proof.Machine.execHapPlay t v s
  | .hapticWaveformStart t => Sys2Proof.Machine.execHapticWaveformStart t s
  | .hapticWaveformEnd t n => Sys2Proof.Machine.execHapticWaveformEnd t n s
  | .alarmSegmentEnd t => Sys2Proof.Machine.execAlarmSegmentEnd t s
  | .alarmRequestActivate t => Sys2Proof.Machine.execAlarmRequestActivate t s
  | .usdoDownload t n idx sub first last data => Sys2Proof.Machine.execUsdoDownload t n idx sub first last data s
  | .usdoUpload t n idx sub => Sys2Proof.Machine.execUsdoUpload t n idx sub s
  | .udpRead t m => Sys2Proof.Machine.execUdpRead t m s
  | .udpWrite t m => Sys2Proof.Machine.execUdpWrite t m s
  | .mbxRead t cmd => Sys2Proof.Machine.execMbxRead t cmd s
  | .mbxWrite t cmd => Sys2Proof.Machine.execMbxWrite t cmd s
  | .objectApply t p idx => Sys2Proof.Machine.execObjectApply t p idx s
  | .objectStop t p idx => Sys2Proof.Machine.execObjectStop t p idx s
  | .windowBatchCommit t p => Sys2Proof.Machine.execWindowBatchCommit t p s
  | .sessionStageTimeout t k => Sys2Proof.Machine.execSessionStageTimeout t k s
  | .nmtStart t n => Sys2Proof.Machine.execNmtStart t n s
  | .nmtStop t n => Sys2Proof.Machine.execNmtStop t n s
  | .nmtResetCommunication t n => Sys2Proof.Machine.execNmtResetCommunication t n s
  | .nmtResetNode t n => Sys2Proof.Machine.execNmtResetNode t n s
  | .heartbeatSend t n => Sys2Proof.Machine.execHeartbeatSend t n s
  | .tpdoTransmit t n k => Sys2Proof.Machine.execTpdoTransmit t n k s
  | .busOffEntry t n => Sys2Proof.Machine.execBusOffEntry t n s
  | .busOffRecovery t n => Sys2Proof.Machine.execBusOffRecovery t n s
  | .lssSwitchStateSelective t n vendor product revision serial => Sys2Proof.Machine.execLssSwitchStateSelective t n vendor product revision serial s
  | .lssConfigureNodeId t n id => Sys2Proof.Machine.execLssConfigureNodeId t n id s
  | .lssConfigureBitTiming t n nominal data => Sys2Proof.Machine.execLssConfigureBitTiming t n nominal data s
  | .lssStoreConfiguration t n => Sys2Proof.Machine.execLssStoreConfiguration t n s
  | .storeAll t p v => Sys2Proof.Machine.execStoreAll t p v s
  | .storeComplete t => Sys2Proof.Machine.execStoreComplete t s
  | .restoreDefaults t p v => Sys2Proof.Machine.execRestoreDefaults t p v s
  | .settingsLoad t => Sys2Proof.Machine.execSettingsLoad t s
  | .glyphBitmapRequest t p data => Sys2Proof.Machine.execGlyphBitmapRequest t p data s
  | .paletteEntriesRequest t p data => Sys2Proof.Machine.execPaletteEntriesRequest t p data s
  | .cellFillRequest t p => Sys2Proof.Machine.execCellFillRequest t p s
  | .alarmRequestWrite t p q v => Sys2Proof.Machine.execAlarmRequestWrite t p q v s
  | .mpuRegionWrite t n j v => Sys2Proof.Machine.execMpuRegionWrite t n j v s
  | .evidenceScrub t g tags => Sys2Proof.Machine.execEvidenceScrub t g tags s
  | .postedNoticeWindow t => Sys2Proof.Machine.execPostedNoticeWindow t s
  | .debugAccess t write target n data => Sys2Proof.Machine.execDebugAccess t write target n data s
  | .updBegin t => Sys2Proof.Machine.execUpdBegin t s
  | .updAbort t k => Sys2Proof.Machine.execUpdAbort t k s
  | .imageChunkRx t k data => Sys2Proof.Machine.execImageChunkRx t k data s
  | .imageHeaderComplete t k => Sys2Proof.Machine.execImageHeaderComplete t k s
  | .imagePayloadComplete t k readBack recoveryN => Sys2Proof.Machine.execImagePayloadComplete t k readBack recoveryN s
  | .updateIdleTimeout t => Sys2Proof.Machine.execUpdateIdleTimeout t s
  | .romBoot t recoveryN provingEn okA okB => Sys2Proof.Machine.execRomBoot t recoveryN provingEn okA okB s
  | .trialConfirm t => Sys2Proof.Machine.execTrialConfirm t s
  | .go t => Sys2Proof.Machine.execGo t s
  | .goProving t => Sys2Proof.Machine.execGoProving t s
  | .safeHold t => Sys2Proof.Machine.execSafeHold t s
  | .leaveSafeHold t => Sys2Proof.Machine.execLeaveSafeHold t s
  | .sleep t key => Sys2Proof.Machine.execSleep t key s
  | .reset t key => Sys2Proof.Machine.execReset t key s
  | .safeHoldApply t h => Sys2Proof.Machine.execSafeHoldApply t h s
  | .watchdogKick t => Sys2Proof.Machine.execWatchdogKick t s
  | .watchdogWarn t => Sys2Proof.Machine.execWatchdogWarn t s
  | .watchdogExpire t => Sys2Proof.Machine.execWatchdogExpire t s
  | .lockstepMismatch t => Sys2Proof.Machine.execLockstepMismatch t s
  | .wakePin t k => Sys2Proof.Machine.execWakePin t k s
  | .rtcAlarm t => Sys2Proof.Machine.execRtcAlarm t s
  | .vddAonRise t => Sys2Proof.Machine.execVddAonRise t s
  | .aonPorRelease t => Sys2Proof.Machine.execAonPorRelease t s
  | .railPgRise t n => Sys2Proof.Machine.execRailPgRise t n s
  | .railSettleDone t => Sys2Proof.Machine.execRailSettleDone t s
  | .railPgTimeout t => Sys2Proof.Machine.execRailPgTimeout t s
  | .railPgLoss t n => Sys2Proof.Machine.execRailPgLoss t n s
  | .thermalTrip t => Sys2Proof.Machine.execThermalTrip t s
  | .railRetry t => Sys2Proof.Machine.execRailRetry t s
  | .powerDownComplete t => Sys2Proof.Machine.execPowerDownComplete t s
  | .resetPin t => Sys2Proof.Machine.execResetPin t s
  | .bootComplete t memSize memRate ticks record => Sys2Proof.Machine.execBootComplete t memSize memRate ticks record s
  | .rtcSet t => Sys2Proof.Machine.execRtcSet t s
  | .tokenRequest t h u => Sys2Proof.Machine.execTokenRequest t h u s
  | .tokenSlot t => Sys2Proof.Machine.execTokenSlot t s
  | .engineClockGate t h u => Sys2Proof.Machine.execEngineClockGate t h u s
  | .pmcSelWrite t u n v => Sys2Proof.Machine.execPmcSelWrite t u n v s
  | .tallyStart t => Sys2Proof.Machine.execTallyStart t s
  | .tallyStop t => Sys2Proof.Machine.execTallyStop t s
  | .selftestRun t u pass => Sys2Proof.Machine.execSelftestRun t u pass s
  | .healthReport t temp ce => Sys2Proof.Machine.execHealthReport t temp ce s
  | .injectorArm t n v => Sys2Proof.Machine.execInjectorArm t n v s
  | .reorderRelease t => Sys2Proof.Machine.execReorderRelease t s
  | .provLogPop t => Sys2Proof.Machine.execProvLogPop t s
  | .marginScanStart t => Sys2Proof.Machine.execMarginScanStart t s
  | .marginScanAbort t => Sys2Proof.Machine.execMarginScanAbort t s
  | .scanDwellEnd t errs => Sys2Proof.Machine.execScanDwellEnd t errs s
  | .recoveryNHigh t => Sys2Proof.Machine.execRecoveryNHigh t s
  | .vddAonRemoval t => Sys2Proof.Machine.execVddAonRemoval t s
  | .usdoProtocolTimeout t n => Sys2Proof.Machine.execUsdoProtocolTimeout t n s
  | .selftestStarved t u => Sys2Proof.Machine.execSelftestStarved t u s
  | .pllMonitorFail t => Sys2Proof.Machine.execPllMonitorFail t s
  | .uncorrectableError t w => Sys2Proof.Machine.execUncorrectableError t w s
  | .audioFrame t ins => Sys2Proof.Machine.execAudioFrame t ins s
  | .shadowRestoreComplete t => Sys2Proof.Machine.execShadowRestoreComplete t s
  | .railOffHoldEnd t => Sys2Proof.Machine.execRailOffHoldEnd t s
  | .junctionCooled t => Sys2Proof.Machine.execJunctionCooled t s

end Sys2Proof.Machine
end

