-- ==== Sys2Proof/Machine/Step.lean ====
section
/-! DEFINITION. One step: the command at the front of the queue, or one SYS cycle when no command waits. -/

namespace Sys2Proof.Machine

/-- One cycle of the 38.4 MHz SYS reference: LCT advances by exactly 625/24 through the fractional accumulator (R53). In
STANDBY and without VDD_AON the local count stands still (R80). -/
def tick (s : State) : State :=
  if s.timeStopped then s
  else
    let f := s.time.frac + 625
    { s with time := { s.time with lct := s.time.lct + f / 24, frac := f % 24 } }

/-- Take the command at the front of the queue and run it on the state with the rest of the queue; on an empty queue, one
SYS cycle passes. -/
def step (s : State) : Host.Outcome State Fault Refusal :=
  match s.pending with
  | [] => .next (tick s)
  | c :: rest => exec c { s with pending := rest }

/-- The state with the command that a word spells at the front of its queue; no row of the table gives bits, so no word
spells one. -/
def State.withFetchWord (s : State) (nbits w : Nat) : State :=
  match decodeTableWord nbits w with
  | some c => { s with pending := c :: s.pending }
  | none => s

end Sys2Proof.Machine
end

