-- ==== Sys2Proof/Safety.lean ====
section
/-! DEFINITION. What counts as a safe run, in the terms the statements use. -/

namespace Sys2Proof.Safety

open Sys2Proof.Machine

/-- A command completes in a state: it answers a next state. -/
def completes (i : Instr) (s : State) : Prop := ∃ t, exec i s = .next t

/-- Command `i` completes in state `s`, and of the next state `P` holds. -/
def gives (i : Instr) (s : State) (P : State → Prop) : Prop := ∃ w, exec i s = .next w ∧ P w

/-- Between `s` and `w` an event of kind `k` with index `i` and payload `p` was raised: the mediator's ring has grown by records of
which one is it. -/
def raises (k : EvKind) (i : Nat) (p : List Int) (s w : State) : Prop :=
  ∃ l e, w.events = s.events ++ l ∧ e ∈ l ∧ e.kind = k ∧ e.idx = i ∧ e.payload = p

/-- No event was raised between `s` and `w`. -/
def silent (s w : State) : Prop := w.events = s.events

/-- The state after packet `p` is received in `s`: it is taken, and with it what PROVING has held back for it (R461). -/
def received (s : State) (p : RxPacket) : State :=
  let r := (s.deliver p).takeReleased
  r.2.foldl State.deliver r.1

/-- A request placed in `s` would be judged at once, by this device and before any other (R37, R38, R303). -/
def atOnce (s : State) (r : Request) : Prop :=
  s.up = true ∧ s.forwards r = false ∧ Request.safety r = false ∧ r.stored = false ∧ s.adm.queue = [] ∧ s.adm.forwarded = [] ∧
    s.adm.waiting = [] ∧ s.mayJudge r = true ∧ s.win.ready = true

/-- Request `r` passes every check of admission in `s` (R38). -/
def admissible (s : State) (r : Request) : Prop := reasonCode (firstReason (s.lay s.acceptTime r).why) = 0

/-- The state after `s` in which request `r` has been accepted whole, passed on to a shadow, and answered with reason 0; an accepted RESET
is not answered (log 226). -/
def admitted (s : State) (r : Request) : State :=
  let a := s.acceptTime
  let l := s.lay a r
  let u := s.accept a r l
  if Request.resets r then u
  else
    let v := { u with adm := { u.adm with pos := u.adm.pos + 1 } }
    let v := if s.pairSends && !Request.local_ r then v.sendPair (.command (.accepted v.adm.pos a 0 r)) else v
    let batch : Bool := r.changes.any (fun c => match c with
      | .winBatch _ _ => true
      | _ => false)
    v.answer r 0 (if batch then u.win.genSeq.toNat else l.result)

/-- Command `i` in state `s` places request `r` in `u`. Where `r` is judged at once there and passes every check (R37, R38), the command
answers the state in which `r` has been admitted and answered, and `P` holds of it. -/
def admits (i : Instr) (s u : State) (r : Request) (P : State → Prop) : Prop :=
  atOnce u r → admissible u r → gives i s (fun w => w = admitted u r ∧ P w)

/-- As `admits`, of a mode command received in `s`: its checks are those of R415 on the mode, the board, the strap and the key; its result
register then holds DONE with reason 0. -/
def commands (i : Instr) (t : Nat) (s : State) (c : ModeCmd) (key : Nat) (P : State → Prop) : Prop :=
  s.modeWhy c key = [] →
    atOnce ((s.at t).setReg 0x10008 0) { by_ := .modeRegs, received := (s.at t).now, changes := [.mode c key] } →
    gives i s (fun w => w.reg 0x10008 = 2 ^ 31 ∧ P w)

/-- Nothing waits for admission or for its time in `s`. -/
def quietQueue (s : State) : Prop := s.adm.queue = [] ∧ s.adm.forwarded = [] ∧ s.adm.waiting = []

/-- The state in which a port's whole write has been taken by its session (R374). -/
def opened (s : State) (p : DictPort) : State :=
  s.setSession (DictPort.session p) { s.session (DictPort.session p) with domain := none, lastWrite := s.now }

/-- `data` is a whole value that port `p` may write to an entry other than a blob or an image (R373 to R375). -/
def writable (s : State) (p : DictPort) (idx sub : Nat) (data : List (BitVec 8)) : Prop :=
  s.portUp p = true ∧ writeAbort p idx sub = 0 ∧ idx ≠ 0x2030 ∧ idx ≠ 0x2060 ∧ s.oboReason p idx = none ∧
    ∃ e, entryOf idx sub = some e ∧ valueFits idx sub e data = true ∧ (e.domain = true ∨ leNat data < e.limit)

/-- As `admits`, of a request to the safety partition, which waits in no queue (R223). -/
def admitsSafety (i : Instr) (s u : State) (r : Request) (P : State → Prop) : Prop :=
  u.up = true → u.forwards r = false → u.adm.waiting = [] → admissible u r → gives i s (fun w => w = admitted u r ∧ P w)

/-- The request that port `p` makes for the changes `cs`, received in `u`. -/
def portRequest (u : State) (p : DictPort) (idx sub : Nat) (cs : List Change) : Request :=
  { by_ := DictPort.asker p idx sub, received := u.now, changes := cs, obo := DictPort.obo p }

/-- Whatever next state command `i` answers in state `s`, `P` holds of it. -/
def leaves (i : Instr) (s : State) (P : State → Prop) : Prop := ∀ w, exec i s = .next w → P w

/-- The commands that store bytes into device memory: the DRAM aperture, a debug access, a block of a COPY, a recorded row, a tally
record and the scrub of evidence. Every other command leaves device memory alone, but for those that reset the device. -/
def storesBytes : Instr → Bool
  | .bar4Access _ _ _ _ _ | .debugAccess _ _ _ _ _ | .dmaBlockComplete _ _ _ _ _ | .recRowComplete _ _ _ _ _ _ _ _ _ | .tallyEdge _
  | .evidenceScrub _ _ _ => true
  | _ => false

end Sys2Proof.Safety
end

