-- ==== Sys2Proof/Certificates/Slice0/Obligations.lean ====
section
/-! DEFINITION. The statements for the provers, each with what it says of the hardware and, where the model chose, the log entry. -/

open Sys2Proof Sys2Proof.Machine Sys2Proof.Safety

/-- A step takes the command at the front of the queue and runs it on the state with the queue's rest; on an empty queue it lets one cycle
of the SYS reference pass, which advances LCT by exactly 625/24 (R53; log entry 1 says that an empty queue passes a cycle). -/
def Obligations.StepRunsTheFrontCommand : Prop :=
  (∀ (c : Instr) (rest : List Instr) (s : State), s.pending = c :: rest → step s = exec c { s with pending := rest }) ∧
  (∀ s : State, s.pending = [] → step s = .next (tick s)) ∧
  (∀ s : State, s.mode.phase = .up → 24 * (tick s).time.lct + (tick s).time.frac = 24 * s.time.lct + s.time.frac + 625 ∧
    (tick s).time.frac < 24 ∧ tick s = { s with time := { s.time with lct := (tick s).time.lct, frac := (tick s).time.frac } }) ∧
  (∀ s : State, (s.mode.phase = .off ∨ s.mode.phase = .aonReset ∨ s.mode.phase = .standby) → tick s = s)

/-- What every step keeps holds right after reset: device memory in canonical form, LCT at 0 (R53), RATE 0, no command waiting. The reading
of unlisted memory (log entry 3), the key store and the fuses (log entry 2) and CONFIGURE before the boot decision (log entry 4) are the
model's choice. -/
def Obligations.ResetMeetsTheInvariants : Prop :=
  Memory.wf State.reset.dram = true ∧ State.reset.time.lct = 0 ∧ State.reset.time.rate = 0 ∧ State.reset.mode.mode = .configure ∧
    State.reset.pending = [] ∧ (∀ a : Nat, State.reset.dramByte a = 0) ∧ State.reset.prot.keyStore = 0xFF ∧
    State.reset.prot.fuse = 0

/-- Every command completes in every state, and leaves the queue of waiting commands to the step. -/
def Obligations.EveryCommandCompletes : Prop :=
  ∀ (c : Instr) (s : State), gives c s (fun w => w.pending = s.pending)

/-- Every step keeps device memory in its canonical form: addresses strictly rising, no entry equal to what an unlisted
byte reads as (0: the model's choice, log entry 3). -/
def Obligations.StepKeepsMemoryForm : Prop :=
  ∀ s w : State, Memory.wf s.dram = true → step s = .next w → Memory.wf w.dram = true

/-- No step lowers the rollback fuses, writes the key store, or makes a production part a development part again, whatever the command. -/
def Obligations.StepKeepsFusesAndKeys : Prop :=
  ∀ (s w : State) (n : Nat), n ≤ s.prot.fuse → s.prot.development = false → step s = .next w →
    n ≤ w.prot.fuse ∧ w.prot.development = false ∧ w.prot.keyStore = s.prot.keyStore

/-- Device memory: only six commands store bytes, every other command leaves every byte or resets the device; a tally record, a recorded
row and a block of a COPY change no byte outside the record's slot, the recording's pages and the block's bytes. -/
def Obligations.OnlyStoringCommandsChangeMemory : Prop :=
  (∀ (c : Instr) (s : State), storesBytes c = false → leaves c s (fun w => w.dram = s.dram ∨ w.dram = [])) ∧
  (∀ (t : Nat) (s : State), leaves (.tallyEdge t) s (fun w => ∀ a : Nat,
    (a < s.adm.tally.headD 0 * 2097152 + s.prot.tally.written % s.tallyRoom * 24576 ∨
      s.adm.tally.headD 0 * 2097152 + s.prot.tally.written % s.tallyRoom * 24576 + 24576 ≤ a) → w.dramByte a = s.dramByte a)) ∧
  (∀ (t : Nat) (k : Fin 4) (coded filler : Nat) (stalls : List (Nat × Nat)) (wasted rd wr : Nat) (body : List (BitVec 8)) (s : State)
      (r part : Nat), (s.recCore k.val).job = some (r, part) →
    leaves (.recRowComplete t k coded filler stalls wasted rd wr body) s (fun w => ∀ a : Nat,
      (∀ p ∈ 0 :: (s.recording r).ringPool, a / 2097152 ≠ p) → w.dramByte a = s.dramByte a)) ∧
  (∀ (t : Nat) (stalls : List (Nat × Nat)) (rd wr : Nat) (pages : List (BitVec 64)) (bytes : List (BitVec 8)) (s : State) (n id : Nat) (w : Work) (r : Option Nat) (d a : BitVec 64) (len : Nat), s.dma = some (n, id) →
    s.work n id = some w → w.order.op = .copy false r d a len →
    leaves (.dmaBlockComplete t (.data pages bytes) stalls rd wr) s (fun x => ∀ b : Nat,
      (∀ l, s.copyBlock n d.toNat w.done (min 4096 (w.len - w.done)) = some l → b ∉ l) → x.dramByte b = s.dramByte b))

/-- Whenever RATE changes, the time unit folds the elapsed correction into OFFSET and moves ANCHOR to the one LCT value L of the change (R55);
native time at L is the same before and after. -/
def Obligations.RateChangesReanchor : Prop :=
  (∀ u : TimeUnit, wantedRate u ≠ u.rate →
    (applyRate u).offset = u.offset + BitVec.ofInt 64 (((u.lct : Int) - (u.anchor.toNat : Int)) * u.rate / (2 ^ 40 : Nat)) ∧
    (applyRate u).anchor = BitVec.ofNat 64 u.lct ∧ (applyRate u).rate = wantedRate u ∧ (applyRate u).lct = u.lct) ∧
  (∀ u : TimeUnit, u.lct < 2 ^ 64 → nativeAt (applyRate u) u.lct = nativeAt u u.lct) ∧
  (∀ (t : Nat) (v : BitVec 32) (s : State), s.time.servo = .hold → (s.at t).time.lct < 2 ^ 64 →
    gives (.timeRateWrite t v) s (fun w => w.time.rate ≠ s.time.rate →
      w.time.offset = s.time.offset + BitVec.ofInt 64
        ((((s.at t).time.lct : Int) - (s.time.anchor.toNat : Int)) * s.time.rate / (2 ^ 40 : Nat)) ∧
      w.time.anchor = BitVec.ofNat 64 (s.at t).time.lct ∧
      nativeAt w.time (s.at t).time.lct = nativeAt s.time (s.at t).time.lct)) ∧
  (∀ (t : Nat) (s : State), (s.at t).time.lct < 2 ^ 64 →
    gives (.slewComplete t) s (fun w => w.time.rate ≠ s.time.rate →
      w.time.offset = s.time.offset + BitVec.ofInt 64
        ((((s.at t).time.lct : Int) - (s.time.anchor.toNat : Int)) * s.time.rate / (2 ^ 40 : Nat)) ∧
      w.time.anchor = BitVec.ofNat 64 (s.at t).time.lct ∧
      nativeAt w.time (s.at t).time.lct = nativeAt s.time (s.at t).time.lct))

/-- Of the frames of one source that are due at a head's epoch, the latest is released and no other can be released there again; the others
are counted in the channel's dropped-frame counter (R34). -/
def Obligations.OnlyTheLatestDueFrameIsReleased : Prop :=
  ∀ (s : State) (n : Fin 16) (e : Nat) (src : Source) (r : FrameRef),
    s.latestOf (s.dueFrames (.head n) src e) = some r →
    r ∈ s.dueFrames (.head n) src e ∧
    (∀ q ∈ s.dueFrames (.head n) src e, (s.frame q).refUs ≤ (s.frame r).refUs) ∧
    Tab.get none ((s.releaseSource (.head n) e src).head n.val).released src.key = some r ∧
    (∀ q ∈ s.dueFrames (.head n) src e, ∀ e' : Nat,
      (s.releaseSource (.head n) e src).isDue (.head n) src e' ((s.releaseSource (.head n) e src).frame q) = false) ∧
    (∀ c : Nat, src = .ch c → (s.releaseSource (.head n) e src).reg (Reg.chCount c 2) =
      (s.reg (Reg.chCount c 2) + ((s.dueFrames (.head n) src e).length - 1)) % 2 ^ 32)

/-- A window's state and its count of clean verdicts at a latch (R102): a failure shows at once, a clean verdict clears it only with RECOVER
clean verdicts in a row, and the count never passes 15. -/
def Obligations.WindowStatesFollowVerdicts : Prop :=
  ∀ (s : State) (h k tile e : Nat) (src : Source) (v : Verdict) (old new : WinView), old = Tab.get {} (s.head h).views k →
    new = Tab.get {} ((s.applyVerdict h k tile e src v).head h).views k → v.state ≠ .none →
    (v.state = .never → new.state = .never) ∧
    (isFailure v.state = true → new.state = v.state ∧ new.count = 0) ∧
    (isFailure v.state = false → v.state ≠ .never → isFailure old.state = false → new.state = v.state) ∧
    (isFailure v.state = false → v.state ≠ .never → isFailure old.state = true →
      new.state = (if s.recover h ≤ min (old.count + 1) 15 then v.state else old.state) ∧ new.count = min (old.count + 1) 15) ∧
    new.count ≤ 15 ∧
    (∀ j, j ≠ k → Tab.get {} ((s.applyVerdict h k tile e src v).head h).views j = (Tab.get {} (s.head h).views j : WinView)) ∧
    (new.state ≠ old.state → raises .headWinState h [k, tile, old.state.code, new.state.code, age32 v.hold, age32 v.transit] s
      (s.applyVerdict h k tile e src v)) ∧
    (new.state = old.state → silent s (s.applyVerdict h k tile e src v))

/-- What a command leaves: each command named here changes nothing of the state but the instant and the parts its clause names. -/
def Obligations.CommandsLeaveOtherUnits : Prop :=
  ∀ (t : Nat) (s : State),
    leaves (.blobApply t) s (fun w => w = { s.at t with glb := w.glb, regs := w.regs }) ∧
    (∀ (v : BitVec 32), leaves (.apertureBaseWrite t v) s (fun w => w = { s.at t with glb := w.glb })) ∧
    leaves (.apertureBaseSwitch t) s (fun w => w = { s.at t with glb := w.glb, regs := w.regs }) ∧
    (∀ (o : Fin 67108864) (write : Bool), leaves (.bar0StrayAccess t o write) s (fun w => w = { s.at t with
        glb := w.glb, readData := w.readData, regs := w.regs })) ∧
    (∀ (c : Consumer), leaves (.frameRelease t c) s (fun w => w = { s.at t with
        ctxs := w.ctxs, heads := w.heads, regs := w.regs, sheets := w.sheets, surfs := w.surfs })) ∧
    (∀ (h : Fin 16), leaves (.pairComparison t h) s (fun w => w = { s.at t with
        eventSeq := w.eventSeq, events := w.events, insts := w.insts, pair := w.pair, prot := w.prot, regs := w.regs, sent :=
        w.sent })) ∧
    (∀ (p : Fin 2), leaves (.touchScanStart t p) s (fun w => w = { s.at t with
        console := w.console, eventSeq := w.eventSeq, events := w.events, insts := w.insts, sent := w.sent })) ∧
    (∀ (v : BitVec 32), leaves (.timeRateWrite t v) s (fun w => w = { s.at t with
        eventSeq := w.eventSeq, events := w.events, insts := w.insts, regs := w.regs, sent := w.sent, time := w.time })) ∧
    leaves (.servoHold t) s (fun w => w = { s.at t with
        eventSeq := w.eventSeq, events := w.events, insts := w.insts, sent := w.sent, time := w.time }) ∧
    leaves (.servoRelease t) s (fun w => w = { s.at t with
        eventSeq := w.eventSeq, events := w.events, insts := w.insts, sent := w.sent, time := w.time }) ∧
    (∀ (v : BitVec 32), leaves (.timeSnapshot t v) s (fun w => w = { s.at t with time := w.time })) ∧
    (∀ (port : Fin 4) (d : Fin 2) (seq : BitVec 16) (tag : BitVec 16), leaves (.delayReqSend t port d seq tag) s (fun w => w =
      { s.at t with
        eventSeq := w.eventSeq, events := w.events, insts := w.insts, regs := w.regs, sent := w.sent, time := w.time })) ∧
    leaves (.slewComplete t) s (fun w => w = { s.at t with time := w.time }) ∧
    leaves (.traceTolReached t) s (fun w => w = { s.at t with time := w.time }) ∧
    leaves (.holdoverExpire t) s (fun w => w = { s.at t with time := w.time }) ∧
    (∀ (port : Fin 4), leaves (.txqPop t port) s (fun w => w = { s.at t with readData := w.readData, time := w.time })) ∧
    (∀ (n : Fin 4) (hi : BitVec 32), leaves (.ltbEpochCommit t n hi) s (fun w => w = { s.at t with time := w.time })) ∧
    (∀ (n : Fin 8) (hi : BitVec 32), leaves (.ttoArm t n hi) s (fun w => w = { s.at t with
        eventSeq := w.eventSeq, events := w.events, insts := w.insts, regs := w.regs, sent := w.sent, time := w.time })) ∧
    (∀ (n : Fin 8) (v : BitVec 32), leaves (.ttoCtrlWrite t n v) s (fun w => w = { s.at t with
        regs := w.regs, time := w.time })) ∧
    (∀ (n : Fin 8), leaves (.ttoEdge t n) s (fun w => w = { s.at t with time := w.time })) ∧
    leaves (.ppsOutEdge t) s (fun w => w = { s.at t with time := w.time }) ∧
    (∀ (n : Fin 5) (rising : Bool), leaves (.tciEdge t n rising) s (fun w => w = { s.at t with
        eventSeq := w.eventSeq, events := w.events, insts := w.insts, regs := w.regs, sent := w.sent, time := w.time })) ∧
    (∀ (n : Fin 5), leaves (.tciStampPop t n) s (fun w => w = { s.at t with readData := w.readData, time := w.time })) ∧
    (∀ (r : FrameRef), leaves (.expirySweepVisit t r) s (fun w => w = { s.at t with
        ctxs := w.ctxs, sheets := w.sheets, surfs := w.surfs })) ∧
    leaves (.membershipReportSend t) s (fun w => w = { s.at t with sent := w.sent }) ∧
    (∀ (n : Fin 160) (p : Fin 2), leaves (.pathDownTimeout t n p) s (fun w => w = { s.at t with
        ctxs := w.ctxs, eventSeq := w.eventSeq, events := w.events, insts := w.insts, regs := w.regs, sent := w.sent })) ∧
    (∀ (ch : Fin 128), leaves (.channelSilence t ch) s (fun w => w = { s.at t with
        chans := w.chans, eventSeq := w.eventSeq, events := w.events, insts := w.insts, regs := w.regs, sent := w.sent })) ∧
    (∀ (n : Fin 160) (ntp : BitVec 64) (rtp : BitVec 32), leaves (.rtcpSrRx t n ntp rtp) s (fun w => w = { s.at t with
        ctxs := w.ctxs })) ∧
    (∀ (n : Fin 160), leaves (.srAgeExpire t n) s (fun w => w = { s.at t with ctxs := w.ctxs })) ∧
    (∀ (b : TrainedBond), leaves (.laneTrainComplete t b) s (fun w => w = { s.at t
      with
        eventSeq := w.eventSeq, events := w.events, insts := w.insts, lanes := w.lanes, mode := w.mode, prov := w.prov, sent :=
        w.sent })) ∧
    leaves (.luskoTimeSend t) s (fun w => w = { s.at t with lanes := w.lanes, sent := w.sent }) ∧
    (∀ (l : Fin 32) (tx : Bool), leaves (.fastIdleEntry t l tx) s (fun w => w = { s.at t with
        lanes := w.lanes, sent := w.sent })) ∧
    (∀ (l : Fin 32), leaves (.deepOffRequest t l) s (fun w => w = { s.at t with lanes := w.lanes, sent := w.sent })) ∧
    (∀ (l : Fin 32), leaves (.deepWakeRequest t l) s (fun w => w = { s.at t with lanes := w.lanes, mode := w.mode })) ∧
    (∀ (l : Fin 32) (ns : Nat), leaves (.squelchActivity t l ns) s (fun w => w = { s.at t with
        lanes := w.lanes, mode := w.mode })) ∧
    (∀ (l : Fin 32), leaves (.laneWakeAligned t l) s (fun w => w = { s.at t with
        eventSeq := w.eventSeq, events := w.events, insts := w.insts, lanes := w.lanes, mode := w.mode, sent := w.sent })) ∧
    (∀ (n : Fin 160) (part : Fin 4), leaves (.decodeFaultResume t n part) s (fun w => w = { s.at t with
        cores := w.cores, ctxs := w.ctxs, progs := w.progs, regs := w.regs, slots := w.slots })) ∧
    leaves (.winGenOpen t) s (fun w => w = { s.at t with regs := w.regs, win := w.win }) ∧
    leaves (.winGenAbandon t) s (fun w => w = { s.at t with regs := w.regs, win := w.win }) ∧
    (∀ (g : Bool) (w1 : Fin 8192) (k : Fin 16) (v : BitVec 32), leaves (.windowDescriptorWrite t g w1 k v) s (fun w => w = {
      s.at t with
        regs := w.regs, win := w.win })) ∧
    (∀ (u : CoefUnit) (b : Fin 4), leaves (.coefOpen t u b) s (fun w => w = { s.at t with
        engines := w.engines, heads := w.heads, regs := w.regs })) ∧
    (∀ (u : CoefUnit) (b : Fin 4), leaves (.coefSeal t u b) s (fun w => w = { s.at t with
        engines := w.engines, heads := w.heads })) ∧
    (∀ (u : CoefUnit) (b : Fin 4) (k : Fin 1024) (v : BitVec 32), leaves (.coefWrite t u b k v) s (fun w => w = { s.at t with
        engines := w.engines, heads := w.heads, regs := w.regs })) ∧
    (∀ (h : Fin 16) (v : BitVec 32), leaves (.bgColorWrite t h v) s (fun w => w = { s.at t with heads := w.heads })) ∧
    (∀ (h : Fin 16), leaves (.safelightApply t h) s (fun w => w = { s.at t with
        heads := w.heads, regs := w.regs, safe := w.safe })) ∧
    leaves (.glyphCrcRefresh t) s (fun w => w = { s.at t with safe := w.safe }) ∧
    (∀ (h : Fin 16) (pipe : Fin 8) (lines : List (Bool × Nat × Nat)) (spans : List (Nat × Nat)), leaves (.fetchLevelChange t h
      pipe lines spans) s (fun w => w = { s.at t with
        heads := w.heads, insts := w.insts, progs := w.progs, regs := w.regs, slots := w.slots })) ∧
    (∀ (h : Fin 16) (r : SinkRead), leaves (.hpdPresent t h r) s (fun w => w = { s.at t with
        eventSeq := w.eventSeq, events := w.events, heads := w.heads, insts := w.insts, mode := w.mode, sent := w.sent })) ∧
    (∀ (h : Fin 16), leaves (.hpdGone t h) s (fun w => w = { s.at t with
        eventSeq := w.eventSeq, events := w.events, heads := w.heads, insts := w.insts, mode := w.mode, regs := w.regs, sent :=
        w.sent })) ∧
    (∀ (h : Fin 16) (ok : Bool), leaves (.irqHpd t h ok) s (fun w => w = { s.at t with
        eventSeq := w.eventSeq, events := w.events, heads := w.heads, insts := w.insts, mode := w.mode, regs := w.regs, sent :=
        w.sent })) ∧
    (∀ (h : Fin 16), leaves (.linkTrainingAttempt t h) s (fun w => w = { s.at t with
        heads := w.heads, progs := w.progs, regs := w.regs, sent := w.sent })) ∧
    (∀ (h : Fin 16) (ok : Bool), leaves (.linkTrainingDone t h ok) s (fun w => w = { s.at t with
        eventSeq := w.eventSeq, events := w.events, heads := w.heads, insts := w.insts, mode := w.mode, regs := w.regs, sent :=
        w.sent })) ∧
    (∀ (h : Fin 16), leaves (.linkRetry t h) s (fun w => w = { s.at t with
        eventSeq := w.eventSeq, events := w.events, heads := w.heads, insts := w.insts, mode := w.mode, sent := w.sent })) ∧
    (∀ (r : Fin 16) (part : Fin 4), leaves (.recPictureStart t r part) s (fun w => w = { s.at t with
        progs := w.progs, recCores := w.recCores, recs := w.recs, regs := w.regs, slots := w.slots })) ∧
    (∀ (r : Fin 16) (part : Fin 4), leaves (.recFaultResume t r part) s (fun w => w = { s.at t with
        progs := w.progs, recCores := w.recCores, recs := w.recs, regs := w.regs, slots := w.slots })) ∧
    (∀ (r : Fin 16) (hi : BitVec 32), leaves (.bsRdWrite t r hi) s (fun w => w = { s.at t with
        recs := w.recs, regs := w.regs })) ∧
    (∀ (r : Fin 16) (packets : Nat) (bytes : Nat), leaves (.recRtpTransmit t r packets bytes) s (fun w => w = { s.at t with
        recs := w.recs, sent := w.sent })) ∧
    leaves (.pairActInLost t) s (fun w => w = { s.at t with pair := w.pair }) ∧
    leaves (.joinRetry t) s (fun w => w = { s.at t with
        eventSeq := w.eventSeq, events := w.events, insts := w.insts, lanes := w.lanes, pair := w.pair, sent := w.sent }) ∧
    leaves (.joinEpoch t) s (fun w => w = { s.at t with lanes := w.lanes, pair := w.pair, sent := w.sent }) ∧
    leaves (.joinMaxExpire t) s (fun w => w = { s.at t with
        eventSeq := w.eventSeq, events := w.events, insts := w.insts, pair := w.pair, sent := w.sent }) ∧
    leaves (.pairSyncSend t) s (fun w => w = { s.at t with lanes := w.lanes, sent := w.sent }) ∧
    leaves (.pairSkewTimeout t) s (fun w => w = { s.at t with
        eventSeq := w.eventSeq, events := w.events, insts := w.insts, pair := w.pair, sent := w.sent }) ∧
    leaves (.fillRetentionExpire t) s (fun w => w = { s.at t with pair := w.pair }) ∧
    leaves (.attributionDecide t) s (fun w => w = { s.at t with
        eventSeq := w.eventSeq, events := w.events, insts := w.insts, pair := w.pair, regs := w.regs, sent := w.sent }) ∧
    (∀ (n : Fin 32), leaves (.instChangeEpoch t n) s (fun w => w = { s.at t with
        eventSeq := w.eventSeq, events := w.events, insts := w.insts, sent := w.sent })) ∧
    (∀ (n : Fin 32), leaves (.resetDrainComplete t n) s (fun w => w = { s.at t with
        eventSeq := w.eventSeq, events := w.events, heads := w.heads, insts := w.insts, sent := w.sent, sheets := w.sheets,
        surfs := w.surfs })) ∧
    (∀ (n : Fin 32), leaves (.freezeComplete t n) s (fun w => w = { s.at t with
        eventSeq := w.eventSeq, events := w.events, insts := w.insts, sent := w.sent })) ∧
    (∀ (n : Fin 32), leaves (.saveComplete t n) s (fun w => w = { s.at t with
        insts := w.insts, regs := w.regs, sent := w.sent })) ∧
    (∀ (n : Fin 32), leaves (.restoreComplete t n) s (fun w => w = { s.at t with
        eventSeq := w.eventSeq, events := w.events, insts := w.insts, safe := w.safe, sent := w.sent })) ∧
    (∀ (n : Fin 32) (q : Fin 4) (v : BitVec 32), leaves (.doorbellTailWrite t n q v) s (fun w => w = { s.at t with
        eventSeq := w.eventSeq, events := w.events, insts := w.insts, prot := w.prot, regs := w.regs, sent := w.sent })) ∧
    (∀ (n : Fin 32) (o : Fin 65536) (v : BitVec 32), leaves (.doorbellPageWrite t n o v) s (fun w => w = { s.at t with
        eventSeq := w.eventSeq, events := w.events, insts := w.insts, prot := w.prot, regs := w.regs, sent := w.sent })) ∧
    (∀ (n : Fin 32) (q : Fin 4) (x : OrderRead), leaves (.workOrderRead t n q x) s
      (fun w => w = { s.at t with
        eventSeq := w.eventSeq, events := w.events, insts := w.insts, regs := w.regs, sent := w.sent, surfs := w.surfs })) ∧
    (∀ (n : Fin 32) (id : Nat), leaves (.nop t n id) s (fun w => w = { s.at t with
        insts := w.insts, regs := w.regs, sent := w.sent })) ∧
    (∀ (n : Fin 32) (id : Nat), leaves (.copy t n id) s (fun w => w = { s.at t with
        dma := w.dma, insts := w.insts, progs := w.progs, regs := w.regs, slots := w.slots })) ∧
    (∀ (n : Fin 32) (id : Nat), leaves (.badOp t n id) s (fun w => w = { s.at t with
        insts := w.insts, regs := w.regs, sent := w.sent })) ∧
    (∀ (n : Fin 32) (page : BitVec 64) (len : Nat), leaves (.atsInvalidateRx t n page len) s (fun w => w = { s.at t with
        atc := w.atc, sent := w.sent })) ∧
    (∀ (n : Fin 32) (v : BitVec 32), leaves (.cqHeadWrite t n v) s (fun w => w = { s.at t with
        eventSeq := w.eventSeq, events := w.events, insts := w.insts, prot := w.prot, regs := w.regs, sent := w.sent })) ∧
    (∀ (n : Fin 32) (v : BitVec 32), leaves (.evqRdWrite t n v) s (fun w => w = { s.at t with
        eventSeq := w.eventSeq, events := w.events, insts := w.insts, prot := w.prot, regs := w.regs, sent := w.sent })) ∧
    (∀ (n : Fin 32) (ev : Bool), leaves (.vectorHoldExpire t n ev) s (fun w => w = { s.at t with
        insts := w.insts, sent := w.sent })) ∧
    (∀ (n : Fin 32) (m : VecMask), leaves (.vecMaskWrite t n m) s (fun w => w = { s.at t with
        eventSeq := w.eventSeq, events := w.events, insts := w.insts, prot := w.prot, regs := w.regs, sent := w.sent })) ∧
    (∀ (p : Fin 2) (nodes : List (Nat × Nat)) (lines : List (Nat × Nat)), leaves (.touchScanComplete t p nodes lines) s (fun w
      => w = { s.at t with
        console := w.console, eventSeq := w.eventSeq, events := w.events, insts := w.insts, regs := w.regs, sent := w.sent })) ∧
    (∀ (p : Fin 2) (raws : List (Nat × Nat)), leaves (.keyGroupEnd t p raws) s (fun w => w = { s.at t with
        console := w.console, eventSeq := w.eventSeq, events := w.events, insts := w.insts, sent := w.sent })) ∧
    (∀ (p : Fin 2), leaves (.touchRebase t p) s (fun w => w = { s.at t with console := w.console })) ∧
    (∀ (v : BitVec 32), leaves (.hapPlay t v) s (fun w => w = { s.at t with console := w.console })) ∧
    leaves (.hapticWaveformStart t) s (fun w => w = { s.at t with console := w.console, regs := w.regs }) ∧
    (∀ (n : Fin 8), leaves (.hapticWaveformEnd t n) s (fun w => w = { s.at t with console := w.console })) ∧
    leaves (.alarmSegmentEnd t) s (fun w => w = { s.at t with
        console := w.console, eventSeq := w.eventSeq, events := w.events, insts := w.insts, sent := w.sent }) ∧
    leaves (.alarmRequestActivate t) s (fun w => w = { s.at t with
        console := w.console, eventSeq := w.eventSeq, events := w.events, insts := w.insts, sent := w.sent }) ∧
    (∀ (n : Fin 2) (idx : BitVec 16) (sub : BitVec 8), leaves (.usdoUpload t n idx sub) s (fun w => w = { s.at t with
        dict := w.dict, regs := w.regs, sent := w.sent })) ∧
    (∀ (m : UdpMsg), leaves (.udpRead t m) s (fun w => w = { s.at t with dict := w.dict, regs := w.regs, sent := w.sent })) ∧
    (∀ (cmd : BitVec 32), leaves (.mbxRead t cmd) s (fun w => w = { s.at t with
        dict := w.dict, regs := w.regs, sent := w.sent })) ∧
    (∀ (k : Fin 11), leaves (.sessionStageTimeout t k) s (fun w => w = { s.at t with dict := w.dict })) ∧
    (∀ (n : Fin 2), leaves (.nmtStart t n) s (fun w => w = { s.at t with dict := w.dict })) ∧
    (∀ (n : Fin 2), leaves (.nmtStop t n) s (fun w => w = { s.at t with dict := w.dict })) ∧
    (∀ (n : Fin 2), leaves (.nmtResetCommunication t n) s (fun w => w = { s.at t with dict := w.dict })) ∧
    (∀ (n : Fin 2), leaves (.nmtResetNode t n) s (fun w => w = { s.at t with dict := w.dict })) ∧
    (∀ (n : Fin 2), leaves (.heartbeatSend t n) s (fun w => w = { s.at t with dict := w.dict, sent := w.sent })) ∧
    (∀ (n : Fin 2) (k : Fin 3), leaves (.tpdoTransmit t n k) s (fun w => w = { s.at t with dict := w.dict, sent := w.sent })) ∧
    (∀ (n : Fin 2), leaves (.busOffEntry t n) s (fun w => w = { s.at t with
        dict := w.dict, eventSeq := w.eventSeq, events := w.events, insts := w.insts, sent := w.sent })) ∧
    (∀ (n : Fin 2), leaves (.busOffRecovery t n) s (fun w => w = { s.at t with
        dict := w.dict, eventSeq := w.eventSeq, events := w.events, insts := w.insts, sent := w.sent })) ∧
    (∀ (n : Fin 2) (vendor : BitVec 32) (product : BitVec 32) (revision : BitVec 32) (serial : BitVec 32), leaves
      (.lssSwitchStateSelective t n vendor product revision serial) s (fun w => w = { s.at t with
        dict := w.dict, sent := w.sent })) ∧
    (∀ (n : Fin 2) (id : BitVec 8), leaves (.lssConfigureNodeId t n id) s (fun w => w = { s.at t with
        dict := w.dict, sent := w.sent })) ∧
    (∀ (n : Fin 2) (nominal : BitVec 8) (data : BitVec 8), leaves (.lssConfigureBitTiming t n nominal data) s (fun w => w = {
      s.at t with
        dict := w.dict, sent := w.sent })) ∧
    (∀ (n : Fin 2), leaves (.lssStoreConfiguration t n) s (fun w => w = { s.at t with sent := w.sent, store := w.store })) ∧
    leaves (.storeComplete t) s (fun w => w = { s.at t with dict := w.dict, store := w.store }) ∧
    (∀ (n : Fin 256) (j : Fin 4) (v : BitVec 32), leaves (.mpuRegionWrite t n j v) s (fun w => w = { s.at t with
        eventSeq := w.eventSeq, events := w.events, insts := w.insts, prot := w.prot, regs := w.regs, sent := w.sent })) ∧
    (∀ (g : Fin 8388608) (tags : List (FrameRef × Nat)), leaves (.evidenceScrub t g tags) s (fun w => w = { s.at t with
        ctxs := w.ctxs, dram := w.dram, prot := w.prot, regs := w.regs, sheets := w.sheets, surfs := w.surfs })) ∧
    leaves (.postedNoticeWindow t) s (fun w => w = { s.at t with
        eventSeq := w.eventSeq, events := w.events, insts := w.insts, prot := w.prot, regs := w.regs, sent := w.sent }) ∧
    leaves (.updBegin t) s (fun w => w = { s.at t with prot := w.prot }) ∧
    (∀ (k : Fin 13), leaves (.updAbort t k) s (fun w => w = { s.at t with prot := w.prot })) ∧
    (∀ (k : Fin 13) (data : List (BitVec 8)), leaves (.imageChunkRx t k data) s (fun w => w = { s.at t with
        eventSeq := w.eventSeq, events := w.events, insts := w.insts, prot := w.prot, regs := w.regs, sent := w.sent })) ∧
    leaves (.updateIdleTimeout t) s (fun w => w = { s.at t with prot := w.prot }) ∧
    (∀ (recoveryN : Bool) (provingEn : Bool) (okA : Bool) (okB : Bool), leaves (.romBoot t recoveryN provingEn okA okB) s (fun
      w => w = { s.at t with
        eventSeq := w.eventSeq, events := w.events, insts := w.insts, mode := w.mode, prot := w.prot, sent := w.sent })) ∧
    leaves (.trialConfirm t) s (fun w => w = { s.at t with
        eventSeq := w.eventSeq, events := w.events, insts := w.insts, prot := w.prot, sent := w.sent }) ∧
    (∀ (h : Fin 16), leaves (.safeHoldApply t h) s (fun w => w = { s.at t with heads := w.heads })) ∧
    leaves (.watchdogKick t) s (fun w => w = { s.at t with mode := w.mode }) ∧
    leaves (.watchdogWarn t) s (fun w => w = { s.at t with
        eventSeq := w.eventSeq, events := w.events, insts := w.insts, mode := w.mode, prot := w.prot, regs := w.regs, sent :=
        w.sent }) ∧
    leaves (.vddAonRise t) s (fun w => w = { s.at t with mode := w.mode }) ∧
    (∀ (n : Fin 12), leaves (.railPgRise t n) s (fun w => w = { s.at t with mode := w.mode })) ∧
    leaves (.railPgTimeout t) s (fun w => w = { s.at t with mode := w.mode, pair := w.pair }) ∧
    (∀ (n : Fin 12), leaves (.railPgLoss t n) s (fun w => w = { s.at t with mode := w.mode, pair := w.pair })) ∧
    leaves (.thermalTrip t) s (fun w => w = { s.at t with mode := w.mode, pair := w.pair }) ∧
    leaves (.rtcSet t) s (fun w => w = { s.at t with aon := w.aon }) ∧
    (∀ (h : TokenHolder) (u : Nat), leaves (.tokenRequest t h u) s (fun w => w = { s.at t with
        cores := w.cores, engines := w.engines, mode := w.mode, progs := w.progs, recCores := w.recCores, regs := w.regs, slots
        := w.slots })) ∧
    (∀ (h : TokenHolder) (u : Nat), leaves (.engineClockGate t h u) s (fun w => w = { s.at t with
        cores := w.cores, engines := w.engines, recCores := w.recCores })) ∧
    (∀ (u : Fin 39) (n : Fin 8) (v : BitVec 32), leaves (.pmcSelWrite t u n v) s (fun w => w = { s.at t with
        progs := w.progs, regs := w.regs, slots := w.slots })) ∧
    leaves (.tallyStop t) s (fun w => w = { s.at t with adm := w.adm, prot := w.prot, regs := w.regs }) ∧
    (∀ (temp : BitVec 16) (ce : Nat), leaves (.healthReport t temp ce) s (fun w => w = { s.at t with
        eventSeq := w.eventSeq, events := w.events, insts := w.insts, lanes := w.lanes, pair := w.pair, prot := w.prot, sent :=
        w.sent })) ∧
    (∀ (n : Fin 16) (v : BitVec 32), leaves (.injectorArm t n v) s (fun w => w = { s.at t with
        prov := w.prov, regs := w.regs })) ∧
    leaves (.provLogPop t) s (fun w => w = { s.at t with prov := w.prov, readData := w.readData }) ∧
    (∀ (n : Fin 2), leaves (.usdoProtocolTimeout t n) s (fun w => w = { s.at t with
        dict := w.dict, regs := w.regs, sent := w.sent })) ∧
    (∀ (u : Fin 41), leaves (.selftestStarved t u) s (fun w => w = { s.at t with
        eventSeq := w.eventSeq, events := w.events, insts := w.insts, prot := w.prot, sent := w.sent })) ∧
    (∀ (ins : List Int), leaves (.audioFrame t ins) s (fun w => w = { s.at t with console := w.console, regs := w.regs }))

/-- As `CommandsLeaveOtherUnits`, of the commands that can reach many units: by a fault of a context or a work order, by a released
frame, by the end of a job, or by a step of device time. -/
def Obligations.WideCommandsLeaveOtherUnits : Prop :=
  ∀ (t : Nat) (s : State),
    (∀ (o : Fin 268435456) (write : Bool) (n : Nat) (data : List (BitVec 8)), leaves (.bar4Access t o write n data) s (fun w =>
      w = { s.at t with
        dram := w.dram, eventSeq := w.eventSeq, events := w.events, insts := w.insts, prot := w.prot, readData := w.readData,
        regs := w.regs, sent := w.sent })) ∧
    (∀ (a1 : RegAt), leaves (.registerReadClear t a1) s (fun w => w = { s.at t with
        glb := w.glb, insts := w.insts, lanes := w.lanes, latches := w.latches, mode := w.mode, progs := w.progs, prot :=
        w.prot, readData := w.readData, regs := w.regs, slots := w.slots })) ∧
    (∀ (h : Fin 16) (phase : Int) (bad : List Nat), leaves (.latch t h phase bad) s (fun w => w = { s.at t with
        ctxs := w.ctxs, eventSeq := w.eventSeq, events := w.events, heads := w.heads, insts := w.insts, pair := w.pair, progs
        := w.progs, regs := w.regs, sent := w.sent, sheets := w.sheets, surfs := w.surfs, win := w.win })) ∧
    (∀ (c : Consumer), leaves (.generationSwitch t c) s (fun w => w = { s.at t with
        ctxs := w.ctxs, eventSeq := w.eventSeq, events := w.events, heads := w.heads, insts := w.insts, regs := w.regs, sent :=
        w.sent, sheets := w.sheets, surfs := w.surfs, win := w.win })) ∧
    leaves (.genShadowCopyComplete t) s (fun w => w = { s.at t with
        ctxs := w.ctxs, eventSeq := w.eventSeq, events := w.events, heads := w.heads, insts := w.insts, regs := w.regs, sent :=
        w.sent, sheets := w.sheets, surfs := w.surfs, win := w.win }) ∧
    leaves (.tallyEdge t) s (fun w => w = { s.at t with
        dram := w.dram, eventSeq := w.eventSeq, events := w.events, insts := w.insts, progs := w.progs, prot := w.prot, regs :=
        w.regs, sent := w.sent, slots := w.slots }) ∧
    (∀ (hi : BitVec 32), leaves (.timeAdjCommit t hi) s (fun w => w = { s.at t with
        chans := w.chans, cores := w.cores, cruiseLast := w.cruiseLast, ctxs := w.ctxs, engines := w.engines, eventSeq :=
        w.eventSeq, events := w.events, heads := w.heads, insts := w.insts, mode := w.mode, progs := w.progs, prot := w.prot,
        recCores := w.recCores, recs := w.recs, regs := w.regs, sent := w.sent, sheets := w.sheets, slots := w.slots, surfs
        := w.surfs, time := w.time })) ∧
    (∀ (port : Fin 4) (domain : BitVec 8) (msg : PtpMsg), leaves (.ptpMessageRx t port domain msg) s (fun w => w = { s.at t
      with
        chans := w.chans, cores := w.cores, cruiseLast := w.cruiseLast, ctxs := w.ctxs, engines := w.engines, eventSeq :=
        w.eventSeq, events := w.events, heads := w.heads, insts := w.insts, mode := w.mode, progs := w.progs, prot := w.prot,
        recCores := w.recCores, recs := w.recs, regs := w.regs, sent := w.sent, sheets := w.sheets, slots := w.slots, surfs
        := w.surfs, time := w.time })) ∧
    (∀ (d : Fin 2), leaves (.domainLost t d) s (fun w => w = { s.at t with
        chans := w.chans, cores := w.cores, cruiseLast := w.cruiseLast, ctxs := w.ctxs, engines := w.engines, eventSeq :=
        w.eventSeq, events := w.events, heads := w.heads, insts := w.insts, mode := w.mode, progs := w.progs, prot := w.prot,
        recCores := w.recCores, recs := w.recs, regs := w.regs, sent := w.sent, sheets := w.sheets, slots := w.slots, surfs
        := w.surfs, time := w.time })) ∧
    leaves (.domainRevert t) s (fun w => w = { s.at t with
        chans := w.chans, cores := w.cores, cruiseLast := w.cruiseLast, ctxs := w.ctxs, engines := w.engines, eventSeq :=
        w.eventSeq, events := w.events, heads := w.heads, insts := w.insts, mode := w.mode, progs := w.progs, prot := w.prot,
        recCores := w.recCores, recs := w.recs, regs := w.regs, sent := w.sent, sheets := w.sheets, slots := w.slots, surfs
        := w.surfs, time := w.time }) ∧
    (∀ (n : Fin 32), leaves (.sheetEpoch t n) s (fun w => w = { s.at t with
        chans := w.chans, ctxs := w.ctxs, engines := w.engines, eventSeq := w.eventSeq, events := w.events, heads := w.heads,
        insts := w.insts, mode := w.mode, progs := w.progs, prot := w.prot, regs := w.regs, sent := w.sent, sheets :=
        w.sheets, slots := w.slots, surfs := w.surfs, win := w.win })) ∧
    (∀ (e : Fin 2) (stalls : List (Nat × Nat)) (rd : Nat) (wr : Nat), leaves (.sheetTileComplete t e stalls rd wr) s (fun w =>
      w = { s.at t with
        chans := w.chans, ctxs := w.ctxs, engines := w.engines, eventSeq := w.eventSeq, events := w.events, insts := w.insts,
        mode := w.mode, progs := w.progs, prot := w.prot, regs := w.regs, sent := w.sent, sheets := w.sheets, slots :=
        w.slots, surfs := w.surfs })) ∧
    (∀ (u : UnitFault 2), leaves (.sheetPageFault t u) s (fun w => w = { s.at t with
        chans := w.chans, ctxs := w.ctxs, engines := w.engines, eventSeq := w.eventSeq, events := w.events, insts := w.insts,
        mode := w.mode, progs := w.progs, prot := w.prot, regs := w.regs, sent := w.sent, sheets := w.sheets, slots :=
        w.slots, surfs := w.surfs })) ∧
    (∀ (n : Fin 32), leaves (.sheetFaultResume t n) s (fun w => w = { s.at t with
        chans := w.chans, ctxs := w.ctxs, engines := w.engines, eventSeq := w.eventSeq, events := w.events, insts := w.insts,
        mode := w.mode, progs := w.progs, prot := w.prot, regs := w.regs, sent := w.sent, sheets := w.sheets, slots :=
        w.slots, surfs := w.surfs })) ∧
    (∀ (n : Fin 160), leaves (.auDeadline t n) s (fun w => w = { s.at t with
        chans := w.chans, cores := w.cores, ctxs := w.ctxs, eventSeq := w.eventSeq, events := w.events, insts := w.insts, lanes
        := w.lanes, mode := w.mode, pair := w.pair, progs := w.progs, regs := w.regs, sent := w.sent, sheets := w.sheets,
        slots := w.slots, surfs := w.surfs })) ∧
    (∀ (n : Fin 160), leaves (.contextRetry t n) s (fun w => w = { s.at t with
        chans := w.chans, ctxs := w.ctxs, eventSeq := w.eventSeq, events := w.events, insts := w.insts, regs := w.regs, sent :=
        w.sent, sheets := w.sheets, surfs := w.surfs })) ∧
    leaves (.cruiseSweep t) s (fun w => w = { s.at t with
        cruiseLast := w.cruiseLast, cruiseSeq := w.cruiseSeq, eventSeq := w.eventSeq, events := w.events, insts := w.insts,
        lanes := w.lanes, regs := w.regs, sent := w.sent }) ∧
    (∀ (l : Fin 32), leaves (.laneTrainTimeout t l) s (fun w => w = { s.at t with
        chans := w.chans, cores := w.cores, ctxs := w.ctxs, eventSeq := w.eventSeq, events := w.events, insts := w.insts, lanes
        := w.lanes, mode := w.mode, pair := w.pair, progs := w.progs, prot := w.prot, prov := w.prov, regs := w.regs, sent :=
        w.sent, sheets := w.sheets, slots := w.slots, surfs := w.surfs })) ∧
    (∀ (l : Fin 32) (full : Bool), leaves (.laneSlip t l full) s (fun w => w = { s.at t with
        chans := w.chans, cores := w.cores, ctxs := w.ctxs, eventSeq := w.eventSeq, events := w.events, insts := w.insts, lanes
        := w.lanes, mode := w.mode, pair := w.pair, progs := w.progs, prot := w.prot, regs := w.regs, sent := w.sent, sheets
        := w.sheets, slots := w.slots, surfs := w.surfs })) ∧
    (∀ (l : Fin 32) (errs : Nat × Nat) (aln : Bool), leaves (.laneAlignLoss t l errs aln) s (fun w => w = { s.at t
      with
        chans := w.chans, cores := w.cores, ctxs := w.ctxs, eventSeq := w.eventSeq, events := w.events, insts := w.insts, lanes
        := w.lanes, mode := w.mode, pair := w.pair, progs := w.progs, prot := w.prot, prov := w.prov, regs := w.regs, sent :=
        w.sent, sheets := w.sheets, slots := w.slots, surfs := w.surfs })) ∧
    (∀ (n : Fin 160), leaves (.captureFrameTimeout t n) s (fun w => w = { s.at t with
        chans := w.chans, cores := w.cores, ctxs := w.ctxs, eventSeq := w.eventSeq, events := w.events, insts := w.insts, lanes
        := w.lanes, mode := w.mode, pair := w.pair, progs := w.progs, prot := w.prot, regs := w.regs, sent := w.sent, sheets
        := w.sheets, slots := w.slots, surfs := w.surfs })) ∧
    (∀ (l : Fin 32) (tx : Bool) (aligned : Bool), leaves (.fastIdleExit t l tx aligned) s (fun w => w = { s.at t with
        chans := w.chans, cores := w.cores, ctxs := w.ctxs, eventSeq := w.eventSeq, events := w.events, insts := w.insts, lanes
        := w.lanes, mode := w.mode, pair := w.pair, progs := w.progs, prot := w.prot, regs := w.regs, sent := w.sent, sheets
        := w.sheets, slots := w.slots, surfs := w.surfs })) ∧
    (∀ (l : Fin 32), leaves (.deepWakeTimeout t l) s (fun w => w = { s.at t with
        chans := w.chans, cores := w.cores, ctxs := w.ctxs, eventSeq := w.eventSeq, events := w.events, insts := w.insts, lanes
        := w.lanes, mode := w.mode, pair := w.pair, progs := w.progs, prot := w.prot, regs := w.regs, sent := w.sent, sheets
        := w.sheets, slots := w.slots, surfs := w.surfs })) ∧
    (∀ (n : Fin 160) (part : Fin 4) (start : PicStart) (dpb : DpbAction), leaves (.decodeJobStart t n part start dpb) s (fun w
      => w = { s.at t with
        chans := w.chans, cores := w.cores, ctxs := w.ctxs, eventSeq := w.eventSeq, events := w.events, insts := w.insts, lanes
        := w.lanes, mode := w.mode, pair := w.pair, progs := w.progs, prot := w.prot, regs := w.regs, sent := w.sent, sheets
        := w.sheets, slots := w.slots, surfs := w.surfs })) ∧
    (∀ (k : Fin 16) (d : RowDone), leaves (.decodeRowComplete t k d) s (fun w => w = { s.at t with
        chans := w.chans, cores := w.cores, ctxs := w.ctxs, eventSeq := w.eventSeq, events := w.events, insts := w.insts, mode
        := w.mode, pair := w.pair, progs := w.progs, prot := w.prot, regs := w.regs, sent := w.sent, sheets := w.sheets,
        slots := w.slots, surfs := w.surfs })) ∧
    (∀ (u : UnitFault 16), leaves (.decodePageFault t u) s (fun w => w = { s.at t with
        cores := w.cores, ctxs := w.ctxs, eventSeq := w.eventSeq, events := w.events, insts := w.insts, mode := w.mode, progs
        := w.progs, prot := w.prot, regs := w.regs, sent := w.sent, sheets := w.sheets, slots := w.slots, surfs := w.surfs
        })) ∧
    (∀ (n : Fin 160), leaves (.decodePoolTimeout t n) s (fun w => w = { s.at t with
        chans := w.chans, cores := w.cores, ctxs := w.ctxs, eventSeq := w.eventSeq, events := w.events, insts := w.insts, lanes
        := w.lanes, mode := w.mode, pair := w.pair, progs := w.progs, regs := w.regs, sent := w.sent, sheets := w.sheets,
        slots := w.slots, surfs := w.surfs })) ∧
    (∀ (h : Fin 16) (line : Option Nat) (bad : List Nat), leaves (.readyDrivenLatch t h line bad) s (fun w => w = { s.at t with
        ctxs := w.ctxs, eventSeq := w.eventSeq, events := w.events, heads := w.heads, insts := w.insts, pair := w.pair, progs
        := w.progs, regs := w.regs, sent := w.sent, sheets := w.sheets, surfs := w.surfs, win := w.win })) ∧
    (∀ (h : Fin 16) (bad : List Nat), leaves (.forcedLatch t h bad) s (fun w => w = { s.at t with
        ctxs := w.ctxs, eventSeq := w.eventSeq, events := w.events, heads := w.heads, insts := w.insts, pair := w.pair, progs
        := w.progs, regs := w.regs, sent := w.sent, sheets := w.sheets, surfs := w.surfs })) ∧
    (∀ (h : Fin 16) (late : List Nat), leaves (.scanoutStart t h late) s (fun w => w = { s.at t with
        ctxs := w.ctxs, eventSeq := w.eventSeq, events := w.events, heads := w.heads, insts := w.insts, recs := w.recs, regs :=
        w.regs, sent := w.sent, sheets := w.sheets, surfs := w.surfs })) ∧
    (∀ (h : Fin 16) (fetched : Nat) (latent : Nat), leaves (.signatureBlockSend t h fetched latent) s (fun w => w = { s.at t
      with
        eventSeq := w.eventSeq, events := w.events, heads := w.heads, insts := w.insts, lanes := w.lanes, pair := w.pair, progs
        := w.progs, regs := w.regs, sent := w.sent })) ∧
    (∀ (h : Fin 16) (w1 : Fin 8192) (p : PrefetchRun), leaves (.prefetchStart t h w1 p) s (fun w => w
      = { s.at t with
        eventSeq := w.eventSeq, events := w.events, heads := w.heads, insts := w.insts, progs := w.progs, prot := w.prot, regs
        := w.regs, sent := w.sent })) ∧
    (∀ (h : Fin 16) (pipe : Fin 8) (x : Nat) (y : Nat) (fault : Option FetchFault), leaves (.underrunPixel t h pipe x y fault)
      s (fun w => w = { s.at t with
        eventSeq := w.eventSeq, events := w.events, heads := w.heads, insts := w.insts, progs := w.progs, prot := w.prot, recs
        := w.recs, regs := w.regs, sent := w.sent })) ∧
    (∀ (h : Fin 16), leaves (.headRasterStart t h) s (fun w => w = { s.at t with
        console := w.console, eventSeq := w.eventSeq, events := w.events, heads := w.heads, insts := w.insts, mode := w.mode,
        progs := w.progs, regs := w.regs, sent := w.sent, slots := w.slots })) ∧
    (∀ (h : Fin 16), leaves (.headRasterStop t h) s (fun w => w = { s.at t with
        console := w.console, ctxs := w.ctxs, eventSeq := w.eventSeq, events := w.events, heads := w.heads, insts := w.insts,
        mode := w.mode, progs := w.progs, regs := w.regs, sent := w.sent, sheets := w.sheets, slots := w.slots, surfs :=
        w.surfs, win := w.win })) ∧
    (∀ (k : Fin 4) (coded : Nat) (filler : Nat) (stalls : List (Nat × Nat)) (wasted : Nat) (rd : Nat) (wr : Nat) (body : List
      (BitVec 8)), leaves (.recRowComplete t k coded filler stalls wasted rd wr body) s (fun w => w = { s.at t with
        dram := w.dram, eventSeq := w.eventSeq, events := w.events, insts := w.insts, mode := w.mode, progs := w.progs,
        recCores := w.recCores, recs := w.recs, regs := w.regs, sent := w.sent, slots := w.slots })) ∧
    (∀ (u : UnitFault 4), leaves (.recPageFault t u) s (fun w => w = { s.at t with
        eventSeq := w.eventSeq, events := w.events, insts := w.insts, mode := w.mode, progs := w.progs, prot := w.prot,
        recCores := w.recCores, recs := w.recs, regs := w.regs, sent := w.sent, slots := w.slots })) ∧
    (∀ (c : Fin 160), leaves (.fillTimeout t c) s (fun w => w = { s.at t with
        chans := w.chans, cores := w.cores, ctxs := w.ctxs, eventSeq := w.eventSeq, events := w.events, insts := w.insts, lanes
        := w.lanes, mode := w.mode, pair := w.pair, progs := w.progs, regs := w.regs, sent := w.sent, sheets := w.sheets,
        slots := w.slots, surfs := w.surfs })) ∧
    leaves (.takeoverEpoch t) s (fun w => w = { s.at t with
        ctxs := w.ctxs, eventSeq := w.eventSeq, events := w.events, insts := w.insts, lanes := w.lanes, pair := w.pair, regs :=
        w.regs, sent := w.sent }) ∧
    leaves (.takeoverSwitch t) s (fun w => w = { s.at t with
        eventSeq := w.eventSeq, events := w.events, insts := w.insts, mode := w.mode, pair := w.pair, progs := w.progs, prot :=
        w.prot, recCores := w.recCores, recs := w.recs, regs := w.regs, sent := w.sent, slots := w.slots }) ∧
    leaves (.functionLevelReset t) s (fun w => w = { s.at t with
        adm := w.adm, chans := w.chans, ctxs := w.ctxs, dict := w.dict, dma := w.dma, eventSeq := w.eventSeq, events :=
        w.events, glb := w.glb, insts := w.insts, lanes := w.lanes, pair := w.pair, progs := w.progs, prot := w.prot, regs :=
        w.regs, sent := w.sent, sheets := w.sheets, slots := w.slots, surfs := w.surfs }) ∧
    leaves (.pcieLinkDown t) s (fun w => w = { s.at t with
        adm := w.adm, chans := w.chans, ctxs := w.ctxs, dict := w.dict, dma := w.dma, eventSeq := w.eventSeq, events :=
        w.events, glb := w.glb, insts := w.insts, lanes := w.lanes, pair := w.pair, progs := w.progs, prot := w.prot, regs :=
        w.regs, sent := w.sent, sheets := w.sheets, slots := w.slots, surfs := w.surfs }) ∧
    leaves (.d3hotEntry t) s (fun w => w = { s.at t with
        adm := w.adm, chans := w.chans, ctxs := w.ctxs, dict := w.dict, dma := w.dma, eventSeq := w.eventSeq, events :=
        w.events, glb := w.glb, insts := w.insts, lanes := w.lanes, pair := w.pair, progs := w.progs, prot := w.prot, regs :=
        w.regs, sent := w.sent, sheets := w.sheets, slots := w.slots, surfs := w.surfs }) ∧
    (∀ (n : Fin 32), leaves (.instDrainTimeout t n) s (fun w => w = { s.at t with
        adm := w.adm, chans := w.chans, ctxs := w.ctxs, dma := w.dma, eventSeq := w.eventSeq, events := w.events, insts :=
        w.insts, lanes := w.lanes, pair := w.pair, progs := w.progs, prot := w.prot, regs := w.regs, sent := w.sent, sheets
        := w.sheets, slots := w.slots, surfs := w.surfs })) ∧
    (∀ (n : Fin 32) (id : Nat), leaves (.surfCommit t n id) s (fun w => w = { s.at t with
        chans := w.chans, ctxs := w.ctxs, dma := w.dma, eventSeq := w.eventSeq, events := w.events, insts := w.insts, lanes :=
        w.lanes, pair := w.pair, progs := w.progs, prot := w.prot, regs := w.regs, sent := w.sent, sheets := w.sheets, slots
        := w.slots, surfs := w.surfs })) ∧
    (∀ (n : Fin 32) (id : Nat), leaves (.surfCommitBufferAcquire t n id) s (fun w => w = { s.at t with
        chans := w.chans, ctxs := w.ctxs, dma := w.dma, eventSeq := w.eventSeq, events := w.events, insts := w.insts, lanes :=
        w.lanes, pair := w.pair, progs := w.progs, prot := w.prot, regs := w.regs, sent := w.sent, sheets := w.sheets, slots
        := w.slots, surfs := w.surfs })) ∧
    (∀ (b : DmaBlock) (stalls : List (Nat × Nat)) (rd : Nat) (wr : Nat), leaves (.dmaBlockComplete t b stalls rd wr) s (fun w
      => w = { s.at t with
        atc := w.atc, chans := w.chans, ctxs := w.ctxs, dma := w.dma, dram := w.dram, eventSeq := w.eventSeq, events :=
        w.events, insts := w.insts, lanes := w.lanes, pair := w.pair, progs := w.progs, prot := w.prot, regs := w.regs, sent
        := w.sent, sheets := w.sheets, slots := w.slots, surfs := w.surfs })) ∧
    (∀ (n : Fin 32) (g : Nat) (ok : Bool), leaves (.priResponseRx t n g ok) s (fun w => w = { s.at t with
        chans := w.chans, ctxs := w.ctxs, dma := w.dma, eventSeq := w.eventSeq, events := w.events, insts := w.insts, lanes :=
        w.lanes, pair := w.pair, progs := w.progs, prot := w.prot, regs := w.regs, sent := w.sent, sheets := w.sheets, slots
        := w.slots, surfs := w.surfs })) ∧
    (∀ (n : Fin 32) (g : Nat), leaves (.priTimeout t n g) s (fun w => w = { s.at t with
        chans := w.chans, ctxs := w.ctxs, dma := w.dma, eventSeq := w.eventSeq, events := w.events, insts := w.insts, lanes :=
        w.lanes, pair := w.pair, progs := w.progs, prot := w.prot, regs := w.regs, sent := w.sent, sheets := w.sheets, slots
        := w.slots, surfs := w.surfs })) ∧
    (∀ (write : Bool) (target : DbgTarget) (n : Nat) (data : List (BitVec 8)), (∀ a : Nat, target = .mem a → a < 0x10000000 ∨
      0x14000000 ≤ a) → leaves (.debugAccess t write target n data) s (fun w => w = { s.at t with
        aon := w.aon, regs := w.regs, readData := w.readData, dram := w.dram, events := w.events, eventSeq := w.eventSeq, sent
        := w.sent, insts := w.insts, prot := w.prot, safe := w.safe, win := w.win })) ∧
    leaves (.tokenSlot t) s (fun w => w = { s.at t with
        chans := w.chans, ctxs := w.ctxs, engines := w.engines, eventSeq := w.eventSeq, events := w.events, insts := w.insts,
        lanes := w.lanes, mode := w.mode, progs := w.progs, prot := w.prot, regs := w.regs, sent := w.sent, sheets :=
        w.sheets, slots := w.slots, surfs := w.surfs }) ∧
    leaves (.marginScanStart t) s (fun w => w = { s.at t with
        chans := w.chans, cores := w.cores, ctxs := w.ctxs, eventSeq := w.eventSeq, events := w.events, insts := w.insts, lanes
        := w.lanes, mode := w.mode, pair := w.pair, progs := w.progs, prot := w.prot, prov := w.prov, regs := w.regs, sent :=
        w.sent, sheets := w.sheets, slots := w.slots, surfs := w.surfs }) ∧
    leaves (.marginScanAbort t) s (fun w => w = { s.at t with
        chans := w.chans, cores := w.cores, ctxs := w.ctxs, eventSeq := w.eventSeq, events := w.events, insts := w.insts, lanes
        := w.lanes, mode := w.mode, pair := w.pair, progs := w.progs, prot := w.prot, prov := w.prov, regs := w.regs, sent :=
        w.sent, sheets := w.sheets, slots := w.slots, surfs := w.surfs }) ∧
    (∀ (errs : List (Nat × Nat)), leaves (.scanDwellEnd t errs) s (fun w => w = { s.at t with
        chans := w.chans, cores := w.cores, ctxs := w.ctxs, eventSeq := w.eventSeq, events := w.events, insts := w.insts, lanes
        := w.lanes, mode := w.mode, pair := w.pair, progs := w.progs, prot := w.prot, prov := w.prov, regs := w.regs, sent :=
        w.sent, sheets := w.sheets, slots := w.slots, surfs := w.surfs })) ∧
    leaves (.shadowRestoreComplete t) s (fun w => w = { s.at t with
        ctxs := w.ctxs, eventSeq := w.eventSeq, events := w.events, heads := w.heads, insts := w.insts, regs := w.regs, sent :=
        w.sent, sheets := w.sheets, surfs := w.surfs, win := w.win })

/-- The registers and counters a command leaves: of the commands that write plain registers, each clause names
those that may change. -/
def Obligations.CommandsLeaveOtherRegisters : Prop :=
  ∀ (t : Nat) (s : State),
    leaves (.blobApply t) s (fun w => ∀ a, a ≠ 0x80 → w.reg a = s.reg a) ∧
    leaves (.apertureBaseSwitch t) s (fun w => ∀ a, a ≠ Reg.glbAperture → w.reg a = s.reg a) ∧
    (∀ (c : Consumer), leaves (.frameRelease t c) s (fun w => ∀ a, (∀ n, a ≠ Reg.chCount n 1 ∧ a ≠ Reg.chCount n 2 ∧ a ≠
      Reg.chOvf n) → w.reg a = s.reg a)) ∧
    (∀ (h : Fin 16), leaves (.pairComparison t h) s (fun w => ∀ a, a ∉ [Reg.pairMatches, Reg.pairMismatches, Reg.pairMissing,
      Reg.pairUnmatched, Reg.pairExcused] → w.reg a = s.reg a)) ∧
    (∀ (v : BitVec 32), leaves (.timeRateWrite t v) s (fun w => ∀ a, a ≠ Reg.timeWrRefused → w.reg a = s.reg a)) ∧
    (∀ (port : Fin 4) (d : Fin 2) (seq : BitVec 16) (tag : BitVec 16), leaves (.delayReqSend t port d seq tag) s (fun w => ∀ a,
      a ≠ Reg.ptpTxqDrop port.val → w.reg a = s.reg a)) ∧
    (∀ (n : Fin 8) (hi : BitVec 32), leaves (.ttoArm t n hi) s (fun w => ∀ a, a ≠ 0x30208 + 0x20 * n.val → w.reg a = s.reg a)) ∧
    (∀ (n : Fin 8) (v : BitVec 32), leaves (.ttoCtrlWrite t n v) s (fun w => ∀ a, a ≠ Reg.ttoCtrl n.val → w.reg a = s.reg a)) ∧
    (∀ (n : Fin 160) (p : Fin 2), leaves (.pathDownTimeout t n p) s (fun w => ∀ a, (∀ c, a ≠ Reg.chCount c 17 ∧ a ≠ Reg.chOvf
      c) → w.reg a = s.reg a)) ∧
    (∀ (ch : Fin 128), leaves (.channelSilence t ch) s (fun w => ∀ a, a ≠ Reg.chCount ch.val 12 → a ≠ Reg.chCount ch.val 13 → a
      ≠ Reg.chCount ch.val 14 → a ≠ Reg.chOvf ch.val → w.reg a = s.reg a)) ∧
    (∀ (u : UnitFault 16), leaves (.decodePageFault t u) s (fun w => ∀ a, a ∉ [0x50008, 0x5000C, 0x50010,
      Reg.mpuFaultCount] → a ≠ Reg.decRowRestarts u.unit.val → (∀ n, a ≠ Reg.pmcOvf n) → w.reg a = s.reg a)) ∧
    (∀ (n : Fin 160) (part : Fin 4), leaves (.decodeFaultResume t n part) s (fun w => ∀ a, (∀ u, a ≠ Reg.pmcOvf u) → w.reg a =
      s.reg a)) ∧
    leaves (.winGenOpen t) s (fun w => ∀ a, a ≠ Reg.glbWinWrRefused → w.reg a = s.reg a) ∧
    leaves (.winGenAbandon t) s (fun w => ∀ a, a ≠ Reg.glbWinWrRefused → w.reg a = s.reg a) ∧
    (∀ (g : Bool) (w1 : Fin 8192) (k : Fin 16) (v : BitVec 32), leaves (.windowDescriptorWrite t g w1 k v) s (fun w => ∀ a, a ≠
      Reg.glbWinWrRefused → w.reg a = s.reg a)) ∧
    (∀ (u : CoefUnit) (b : Fin 4), leaves (.coefOpen t u b) s (fun w => ∀ a, (∀ n, a ≠ Reg.headCoefRefused n ∧ a ≠
      Reg.sheetCoefRefused n) → w.reg a = s.reg a)) ∧
    (∀ (u : CoefUnit) (b : Fin 4) (k : Fin 1024) (v : BitVec 32), leaves (.coefWrite t u b k v) s (fun w => ∀ a, (∀ n, a ≠
      Reg.headCoefRefused n ∧ a ≠ Reg.sheetCoefRefused n) → w.reg a = s.reg a)) ∧
    (∀ (h : Fin 16), leaves (.safelightApply t h) s (fun w => ∀ a, a ≠ Reg.headCount h.val 15 → a ≠ Reg.headOvf h.val → a ≠
      Reg.safeReqApplied → w.reg a = s.reg a)) ∧
    (∀ (h : Fin 16) (w1 : Fin 8192) (p : PrefetchRun), leaves (.prefetchStart t h w1 p) s (fun w => ∀
      a, a ∉ [0x50008, 0x5000C, 0x50010, Reg.mpuFaultCount] → a ≠ Reg.headCount h.val 6 → a ≠ Reg.headOvf h.val → (∀ u, a ≠
      Reg.pmcOvf u) → w.reg a = s.reg a)) ∧
    (∀ (h : Fin 16) (pipe : Fin 8) (lines : List (Bool × Nat × Nat)) (spans : List (Nat × Nat)), leaves (.fetchLevelChange t h
      pipe lines spans) s (fun w => ∀ a, a ≠ Reg.headCount h.val 7 → a ≠ Reg.headOvf h.val → (∀ u, a ≠ Reg.instOverrun u ∧ a ≠
      Reg.pmcOvf u) → w.reg a = s.reg a)) ∧
    (∀ (h : Fin 16), leaves (.hpdGone t h) s (fun w => ∀ a, a ≠ Reg.headCount h.val 13 → a ≠ Reg.headOvf h.val → w.reg a =
      s.reg a)) ∧
    (∀ (h : Fin 16) (ok : Bool), leaves (.irqHpd t h ok) s (fun w => ∀ a, a ≠ Reg.headCount h.val 13 → a ≠ Reg.headOvf h.val →
      a ≠ Reg.headHpdIrqs h.val → w.reg a = s.reg a)) ∧
    (∀ (h : Fin 16), leaves (.linkTrainingAttempt t h) s (fun w => ∀ a, a ≠ Reg.headLinkTrains h.val → (∀ u, a ≠ Reg.pmcOvf u)
      → w.reg a = s.reg a)) ∧
    (∀ (h : Fin 16) (ok : Bool), leaves (.linkTrainingDone t h ok) s (fun w => ∀ a, a ≠ Reg.headLinkFails h.val → w.reg a =
      s.reg a)) ∧
    (∀ (r : Fin 16) (part : Fin 4), leaves (.recPictureStart t r part) s (fun w => ∀ a, (∀ u, a ≠ Reg.pmcOvf u) → w.reg a =
      s.reg a)) ∧
    (∀ (u : UnitFault 4), leaves (.recPageFault t u) s (fun w => ∀ a, a ∉ [0x50008, 0x5000C, 0x50010,
      Reg.mpuFaultCount] → a ≠ Reg.recRowRestarts u.unit.val → (∀ n, a ≠ Reg.pmcOvf n) → w.reg a = s.reg a)) ∧
    (∀ (r : Fin 16) (part : Fin 4), leaves (.recFaultResume t r part) s (fun w => ∀ a, (∀ u, a ≠ Reg.pmcOvf u) → w.reg a =
      s.reg a)) ∧
    (∀ (r : Fin 16) (hi : BitVec 32), leaves (.bsRdWrite t r hi) s (fun w => ∀ a, a ≠ Reg.recBsRdLo r.val → w.reg a = s.reg a)) ∧
    leaves (.attributionDecide t) s (fun w => ∀ a, a ≠ Reg.pairDivergences → w.reg a = s.reg a) ∧
    leaves (.takeoverEpoch t) s (fun w => ∀ a, a ≠ Reg.pairTakeovers → w.reg a = s.reg a) ∧
    (∀ (n : Fin 32), leaves (.saveComplete t n) s (fun w => ∀ a, a ≠ Reg.instBlobLen n.val → w.reg a = s.reg a)) ∧
    (∀ (n : Fin 32) (q : Fin 4) (v : BitVec 32), leaves (.doorbellTailWrite t n q v) s (fun w => ∀ a, a ≠ Reg.instPostedViol
      n.val → a ≠ Reg.mpuFaultCount → a ≠ Reg.mpuNotices → w.reg a = s.reg a)) ∧
    (∀ (n : Fin 32) (o : Fin 65536) (v : BitVec 32), leaves (.doorbellPageWrite t n o v) s (fun w => ∀ a, a ≠
      Reg.instPostedViol n.val → a ≠ Reg.mpuFaultCount → a ≠ Reg.mpuNotices → w.reg a = s.reg a)) ∧
    (∀ (n : Fin 32) (q : Fin 4) (x : OrderRead), leaves (.workOrderRead t n q x) s
      (fun w => ∀ a, a ≠ Reg.instRefused n.val → w.reg a = s.reg a)) ∧
    (∀ (n : Fin 32) (id : Nat), leaves (.nop t n id) s (fun w => ∀ a, a ≠ Reg.instRefused n.val → w.reg a = s.reg a)) ∧
    (∀ (n : Fin 32) (id : Nat), leaves (.copy t n id) s (fun w => ∀ a, (∀ u, a ≠ Reg.pmcOvf u) → w.reg a = s.reg a)) ∧
    (∀ (n : Fin 32) (id : Nat), leaves (.badOp t n id) s (fun w => ∀ a, a ≠ Reg.instRefused n.val → w.reg a = s.reg a)) ∧
    (∀ (n : Fin 32) (v : BitVec 32), leaves (.cqHeadWrite t n v) s (fun w => ∀ a, a ≠ Reg.instPostedViol n.val → a ≠
      Reg.mpuFaultCount → a ≠ Reg.mpuNotices → w.reg a = s.reg a)) ∧
    (∀ (n : Fin 32) (v : BitVec 32), leaves (.evqRdWrite t n v) s (fun w => ∀ a, a ≠ Reg.instPostedViol n.val → a ≠
      Reg.mpuFaultCount → a ≠ Reg.mpuNotices → w.reg a = s.reg a)) ∧
    (∀ (p : Fin 2) (nodes : List (Nat × Nat)) (lines : List (Nat × Nat)), leaves (.touchScanComplete t p nodes lines) s (fun w
      => ∀ a, a ≠ Reg.tchOver p.val → a ≠ Reg.tchRingLost p.val → w.reg a = s.reg a)) ∧
    leaves (.hapticWaveformStart t) s (fun w => ∀ a, a ≠ Reg.hapDrops → w.reg a = s.reg a) ∧
    (∀ (n : Fin 2) (idx : BitVec 16) (sub : BitVec 8), leaves (.usdoUpload t n idx sub) s (fun w => ∀ a, (∀ k, a ≠ Reg.mbxData
      k) → a ≠ Reg.mbxLen → w.reg a = s.reg a)) ∧
    (∀ (m : UdpMsg), leaves (.udpRead t m) s (fun w => ∀ a, (∀ k, a ≠ Reg.mbxData k) → a ≠ Reg.mbxLen → w.reg a = s.reg a)) ∧
    (∀ (cmd : BitVec 32), leaves (.mbxRead t cmd) s (fun w => ∀ a, (∀ k, a ≠ Reg.mbxData k) → a ≠ Reg.mbxLen → a ≠ Reg.mbxStray
      → w.reg a = s.reg a)) ∧
    (∀ (n : Fin 256) (j : Fin 4) (v : BitVec 32), leaves (.mpuRegionWrite t n j v) s (fun w => ∀ a, a ∉ [0x50008, 0x5000C,
      0x50010, Reg.mpuFaultCount, Reg.mpuDebugErrs, Reg.mpuCfgFaults] → w.reg a = s.reg a)) ∧
    (∀ (g : Fin 8388608) (tags : List (FrameRef × Nat)), leaves (.evidenceScrub t g tags) s (fun w => ∀ a, a ≠ 0x50044 → w.reg
      a = s.reg a)) ∧
    leaves (.postedNoticeWindow t) s (fun w => ∀ a, a ≠ Reg.mpuNotices → w.reg a = s.reg a) ∧
    (∀ (k : Fin 13) (data : List (BitVec 8)), leaves (.imageChunkRx t k data) s (fun w => ∀ a, a ≠ Reg.updRefused → w.reg a =
      s.reg a)) ∧
    leaves (.watchdogWarn t) s (fun w => ∀ a, a ≠ Reg.modeWdWarns → w.reg a = s.reg a) ∧
    (∀ (u : Fin 39) (n : Fin 8) (v : BitVec 32), leaves (.pmcSelWrite t u n v) s (fun w => ∀ a, a ≠ Reg.pmcSel u.val n.val → (∀
      u, a ≠ Reg.pmcOvf u) → w.reg a = s.reg a)) ∧
    leaves (.tallyStop t) s (fun w => ∀ a, a ≠ 0x90004 → w.reg a = s.reg a) ∧
    (∀ (n : Fin 16) (v : BitVec 32), leaves (.injectorArm t n v) s (fun w => ∀ a, a ≠ Reg.injCtrl n.val → a ≠ Reg.provRefused →
      w.reg a = s.reg a)) ∧
    (∀ (n : Fin 2), leaves (.usdoProtocolTimeout t n) s (fun w => ∀ a, (∀ k, a ≠ Reg.mbxData k) → a ≠ Reg.mbxLen → w.reg a =
      s.reg a)) ∧
    (∀ (ins : List Int), leaves (.audioFrame t ins) s (fun w => ∀ a, a ≠ Reg.audClips → w.reg a = s.reg a))

/-- A command of one head, context, channel, port, output, recording, node, instance, injector or source leaves the others of its kind. -/
def Obligations.CommandsLeaveTheirFellows : Prop :=
  ∀ (t : Nat) (s : State),
    (∀ (p : Fin 2), leaves (.touchScanStart t p) s (fun w => ∀ k, k ≠ p.val → w.touch k = s.touch k)) ∧
    (∀ (port : Fin 4) (d : Fin 2) (seq : BitVec 16) (tag : BitVec 16), leaves (.delayReqSend t port d seq tag) s (fun w => ∀ k,
      k ≠ port.val → (Tab.get {} w.time.txq k : TxQueue) = Tab.get {} s.time.txq k)) ∧
    (∀ (port : Fin 4), leaves (.txqPop t port) s (fun w => ∀ k, k ≠ port.val → (Tab.get {} w.time.txq k : TxQueue) = Tab.get {}
      s.time.txq k)) ∧
    (∀ (n : Fin 4) (hi : BitVec 32), leaves (.ltbEpochCommit t n hi) s (fun w => ∀ k, k ≠ n.val → Tab.get 0 w.time.ltbEpoch k =
      Tab.get 0 s.time.ltbEpoch k)) ∧
    (∀ (n : Fin 8) (hi : BitVec 32), leaves (.ttoArm t n hi) s (fun w => ∀ k, k ≠ n.val → w.tto k = s.tto k)) ∧
    (∀ (n : Fin 8) (v : BitVec 32), leaves (.ttoCtrlWrite t n v) s (fun w => ∀ k, k ≠ n.val → w.tto k = s.tto k)) ∧
    (∀ (n : Fin 8), leaves (.ttoEdge t n) s (fun w => ∀ k, k ≠ n.val → w.tto k = s.tto k)) ∧
    (∀ (n : Fin 5) (rising : Bool), leaves (.tciEdge t n rising) s (fun w => ∀ k, k ≠ n.val → w.tci k = s.tci k)) ∧
    (∀ (n : Fin 5), leaves (.tciStampPop t n) s (fun w => ∀ k, k ≠ n.val → w.tci k = s.tci k)) ∧
    (∀ (n : Fin 160) (p : Fin 2), leaves (.pathDownTimeout t n p) s (fun w => ∀ k, k ≠ n.val → w.ctx k = s.ctx k)) ∧
    (∀ (ch : Fin 128), leaves (.channelSilence t ch) s (fun w => ∀ k, k ≠ ch.val → w.chan k = s.chan k)) ∧
    (∀ (n : Fin 160) (ntp : BitVec 64) (rtp : BitVec 32), leaves (.rtcpSrRx t n ntp rtp) s (fun w => ∀ k, k ≠ n.val → w.ctx k =
      s.ctx k)) ∧
    (∀ (n : Fin 160), leaves (.srAgeExpire t n) s (fun w => ∀ k, k ≠ n.val → w.ctx k = s.ctx k)) ∧
    (∀ (h : Fin 16) (v : BitVec 32), leaves (.bgColorWrite t h v) s (fun w => ∀ k, k ≠ h.val → w.head k = s.head k)) ∧
    (∀ (h : Fin 16), leaves (.safelightApply t h) s (fun w => ∀ k, k ≠ h.val → w.head k = s.head k)) ∧
    (∀ (h : Fin 16) (w1 : Fin 8192) (p : PrefetchRun), leaves (.prefetchStart t h w1 p) s (fun w => ∀
      k, k ≠ h.val → w.head k = s.head k)) ∧
    (∀ (h : Fin 16) (pipe : Fin 8) (lines : List (Bool × Nat × Nat)) (spans : List (Nat × Nat)), leaves (.fetchLevelChange t h
      pipe lines spans) s (fun w => ∀ k, k ≠ h.val → w.head k = s.head k)) ∧
    (∀ (h : Fin 16) (r : SinkRead), leaves (.hpdPresent t h r) s (fun w => ∀ k, k ≠ h.val → w.head k = s.head k)) ∧
    (∀ (h : Fin 16), leaves (.hpdGone t h) s (fun w => ∀ k, k ≠ h.val → w.head k = s.head k)) ∧
    (∀ (h : Fin 16) (ok : Bool), leaves (.irqHpd t h ok) s (fun w => ∀ k, k ≠ h.val → w.head k = s.head k)) ∧
    (∀ (h : Fin 16), leaves (.linkTrainingAttempt t h) s (fun w => ∀ k, k ≠ h.val → w.head k = s.head k)) ∧
    (∀ (h : Fin 16) (ok : Bool), leaves (.linkTrainingDone t h ok) s (fun w => ∀ k, k ≠ h.val → w.head k = s.head k)) ∧
    (∀ (h : Fin 16), leaves (.linkRetry t h) s (fun w => ∀ k, k ≠ h.val → w.head k = s.head k)) ∧
    (∀ (r : Fin 16) (hi : BitVec 32), leaves (.bsRdWrite t r hi) s (fun w => ∀ k, k ≠ r.val → w.recording k = s.recording k)) ∧
    (∀ (r : Fin 16) (packets : Nat) (bytes : Nat), leaves (.recRtpTransmit t r packets bytes) s (fun w => ∀ k, k ≠ r.val → w.recording k =
      s.recording k)) ∧
    (∀ (n : Fin 32), leaves (.saveComplete t n) s (fun w => ∀ k, k ≠ n.val → w.inst k = s.inst k)) ∧
    (∀ (n : Fin 32) (id : Nat), leaves (.nop t n id) s (fun w => ∀ k, k ≠ n.val → w.inst k = s.inst k)) ∧
    (∀ (n : Fin 32) (id : Nat), leaves (.badOp t n id) s (fun w => ∀ k, k ≠ n.val → w.inst k = s.inst k)) ∧
    (∀ (n : Fin 32) (ev : Bool), leaves (.vectorHoldExpire t n ev) s (fun w => ∀ k, k ≠ n.val → w.inst k = s.inst k)) ∧
    (∀ (p : Fin 2) (nodes : List (Nat × Nat)) (lines : List (Nat × Nat)), leaves (.touchScanComplete t p nodes lines) s (fun w
      => ∀ k, k ≠ p.val → w.touch k = s.touch k)) ∧
    (∀ (p : Fin 2) (raws : List (Nat × Nat)), leaves (.keyGroupEnd t p raws) s (fun w => ∀ k, k ≠ p.val → w.touch k = s.touch
      k)) ∧
    (∀ (p : Fin 2), leaves (.touchRebase t p) s (fun w => ∀ k, k ≠ p.val → w.touch k = s.touch k)) ∧
    (∀ (n : Fin 2), leaves (.nmtStart t n) s (fun w => ∀ k, k ≠ n.val → w.canNode k = s.canNode k)) ∧
    (∀ (n : Fin 2), leaves (.nmtStop t n) s (fun w => ∀ k, k ≠ n.val → w.canNode k = s.canNode k)) ∧
    (∀ (n : Fin 2), leaves (.nmtResetCommunication t n) s (fun w => ∀ k, k ≠ n.val → w.canNode k = s.canNode k)) ∧
    (∀ (n : Fin 2), leaves (.nmtResetNode t n) s (fun w => ∀ k, k ≠ n.val → w.canNode k = s.canNode k)) ∧
    (∀ (n : Fin 2), leaves (.heartbeatSend t n) s (fun w => ∀ k, k ≠ n.val → w.canNode k = s.canNode k)) ∧
    (∀ (n : Fin 2) (k : Fin 3), leaves (.tpdoTransmit t n k) s (fun w => ∀ k, k ≠ n.val → w.canNode k = s.canNode k)) ∧
    (∀ (n : Fin 2), leaves (.busOffEntry t n) s (fun w => ∀ k, k ≠ n.val → w.canNode k = s.canNode k)) ∧
    (∀ (n : Fin 2), leaves (.busOffRecovery t n) s (fun w => ∀ k, k ≠ n.val → w.canNode k = s.canNode k)) ∧
    (∀ (n : Fin 2) (id : BitVec 8), leaves (.lssConfigureNodeId t n id) s (fun w => ∀ k, k ≠ n.val → w.canNode k = s.canNode
      k)) ∧
    (∀ (n : Fin 2) (nominal : BitVec 8) (data : BitVec 8), leaves (.lssConfigureBitTiming t n nominal data) s (fun w => ∀ k, k
      ≠ n.val → w.canNode k = s.canNode k)) ∧
    leaves (.updBegin t) s (fun w => ∀ k, k ≠ 1 → w.updSource k = s.updSource k) ∧
    (∀ (k : Fin 13), leaves (.updAbort t k) s (fun w => ∀ j, j ≠ k.val → w.updSource j = s.updSource j)) ∧
    (∀ (h : Fin 16), leaves (.safeHoldApply t h) s (fun w => ∀ k, k ≠ h.val → w.head k = s.head k)) ∧
    (∀ (n : Fin 16) (v : BitVec 32), leaves (.injectorArm t n v) s (fun w => ∀ k, k ≠ n.val → w.injector k = s.injector k))

/-- The servo's commands take their effect: a RATE write in HOLD, HOLD, release, the end of a slew, the loss of the followed domain
and the return to domain A. -/
def Obligations.ServoCommandsTakeEffect : Prop :=
  ∀ (t : Nat) (s : State),
    (∀ v : BitVec 32, s.time.servo = .hold →
      gives (.timeRateWrite t v) s (fun w => w.time.freq = clampI (-rateClamp) rateClamp v.toInt ∧ w.time.servo = .hold)) ∧
    (s.time.servo ≠ .hold → gives (.servoHold t) s (fun w => w.time.servo = .hold ∧ w.time.holdByLoss = false)) ∧
    (s.time.servo = .hold →
      gives (.servoRelease t) s (fun w => w.time.servo =
        if (s.domEn 0 && s.time.domA.valid) || (s.domEn 1 && s.time.domB.valid) then .acquire else .free)) ∧
    ((s.at t).time.slewRate ≠ 0 → slewResidual (s.at t).time (s.at t).time.lct = 0 →
      gives (.slewComplete t) s (fun w => w.time.slewRate = 0 ∧ w.time.slewResid = 0)) ∧
    (∀ d : Fin 2, s.time.servo = .locked → s.time.domain = d → s.domEn (otherDom d) = false →
      gives (.domainLost t d) s (fun w => w.time.servo = .hold ∧ w.time.holdByLoss = true ∧
        (TimeUnit.dom w.time d).valid = false)) ∧
    (∀ since, s.time.servo = .locked → s.time.domain = 1 → s.domEn 0 = true → s.reg Reg.timeRevertHold ≠ 0 →
      s.time.domA.stableSince = some since → since + s.reg Reg.timeRevertHold * 1000000000 ≤ (s.at t).time.lct →
      s.mode.mode ≠ .configure →
      gives (.domainRevert t) s (fun w => w.time.domain = 0 ∧ w.time.servo = .locked))

/-- An adjustment: a step in CONFIGURE, a slew in any other mode; and a snapshot. -/
def Obligations.TimeAdjustmentAndSnapshot : Prop :=
  ∀ (t : Nat) (s : State),
    (∀ hi : BitVec 32, s.time.servo = .hold → s.mode.mode = .configure →
      gives (.timeAdjCommit t hi) s (fun w => w.time.stepCount = s.time.stepCount + 1 ∧ w.time.slewRate = 0)) ∧
    (∀ hi : BitVec 32, s.time.servo = .hold → s.mode.mode ≠ .configure →
      (sext 64 (hi.toNat * 2 ^ 32 + s.reg Reg.timeAdjLo)).natAbs ≤ s.slewCap →
      gives (.timeAdjCommit t hi) s (fun w => w.time.stepCount = s.time.stepCount ∧ w.time.adjCommitted = true ∧
        w.time.slewResid = slewResidual (s.at t).time (s.at t).time.lct - sext 64 (hi.toNat * 2 ^ 32 + s.reg Reg.timeAdjLo))) ∧
    (∀ v : BitVec 32, v.getLsbD 0 = true →
      gives (.timeSnapshot t v) s (fun w => w.time.snap = (s.at t).snapshot ∧ w.time.snapSeq = s.time.snapSeq + 1)) ∧
    gives (.traceTolReached t) s (fun w =>
      w.time.traceOk = traceCond (s.at t).time (s.reg Reg.timeTraceTol) (s.reg Reg.timeHoldoverMax)) ∧
    gives (.holdoverExpire t) s (fun w =>
      w.time.traceOk = traceCond (s.at t).time (s.reg Reg.timeTraceTol) (s.reg Reg.timeHoldoverMax))

/-- PTP messages and time-stamps: a two-step Sync of the selected port waits for its Follow_Up, a Delay_Resp gives the mean path, a
Delay_Req leaves with its egress time in the port's queue, and a pop takes the oldest entry. -/
def Obligations.PtpMessagesTakeEffect : Prop :=
  ∀ (t : Nat) (port : Fin 4) (s : State),
    (∀ (n : BitVec 8) (d : Fin 2) (q : BitVec 16) (t1 : BitVec 64) (c : Int), s.domOf port.val n = some d →
      (TimeUnit.dom s.time d).port = port.val →
      gives (.ptpMessageRx t port n (.sync q true t1 c)) s (fun w =>
        (TimeUnit.dom w.time d).pendingSync = some (q, ((s.at t).now : Int) - s.rxLat port.val, c))) ∧
    (∀ (n : BitVec 8) (d : Fin 2) (q : BitVec 16) (t4 : BitVec 64) (c t1 t2 c0 t3 : Int), s.domOf port.val n = some d →
      (TimeUnit.dom s.time d).delayReq = some (q, t3) → (TimeUnit.dom s.time d).lastSync = some (t1, t2, c0) →
      gives (.ptpMessageRx t port n (.delayResp q t4 c)) s (fun w =>
        (TimeUnit.dom w.time d).meanPath = some (((t2 - t1) + ((t4.toNat : Int) - t3) - (c0 + c)) / 2) ∧
        (TimeUnit.dom w.time d).delayReq = none)) ∧
    (∀ (d : Fin 2) (q tag : BitVec 16), (s.domOf port.val (BitVec.ofNat 8 (bits (s.reg (Reg.ptpDomCfg d.val)) 15 8))).isSome →
      (Tab.get {} s.time.txq port.val : TxQueue).entries.length < 64 →
      gives (.delayReqSend t port d q tag) s (fun w =>
        w.sent = s.sent ++ [.delayReq port.val d.val q tag] ∧
        (TimeUnit.dom w.time d).delayReq = some (q, ((s.at t).now : Int) + s.txLat port.val) ∧
        ∃ e, (Tab.get {} w.time.txq port.val : TxQueue).entries =
          (Tab.get {} s.time.txq port.val : TxQueue).entries ++ [e] ∧ e.seqId = q ∧ e.tag = tag)) ∧
    gives (.txqPop t port) s (fun w =>
      (Tab.get {} w.time.txq port.val : TxQueue).entries = (Tab.get {} s.time.txq port.val : TxQueue).entries.drop 1 ∧
      w.readData = match (Tab.get {} s.time.txq port.val : TxQueue).entries with
        | e :: _ => e.seqId.toNat * 65536 + e.tag.toNat
        | [] => 0)

/-- Legacy time bases, time-triggered outputs, the PPS output and the capture inputs. -/
def Obligations.TimeOutputsAndCaptures : Prop :=
  ∀ (t : Nat) (s : State),
    (∀ (n : Fin 4) (hi : BitVec 32), gives (.ltbEpochCommit t n hi) s (fun w =>
      Tab.get 0 w.time.ltbEpoch n.val = BitVec.ofNat 64 (hi.toNat * 2 ^ 32 + s.reg (Reg.ltbEpochLo n.val)))) ∧
    (∀ (n : Fin 8) (hi : BitVec 32), s.ttoMode n.val = 3 → gives (.ttoArm t n hi) s (fun w =>
      (w.tto n.val).armed = true ∧ (w.tto n.val).level = false ∧
      (w.tto n.val).start = BitVec.ofNat 64 (hi.toNat * 2 ^ 32 + s.reg (Reg.ttoStartLo n.val)))) ∧
    (∀ (n : Fin 8) (v : BitVec 32), gives (.ttoCtrlWrite t n v) s (fun w =>
      w.reg (Reg.ttoCtrl n.val) = (v.toNat &&& 0xF13) ∧ (v.getLsbD 31 = true → (w.tto n.val).late = false) ∧
      (s.ttoMode n.val = 0 → (w.tto n.val).level = false ∧ (w.tto n.val).armed = false))) ∧
    (∀ n : Fin 8, s.ttoMode n.val = 0 → (s.tto n.val).armed = true → (s.tto n.val).level = false →
      (s.tto n.val).next ≤ (s.at t).now → gives (.ttoEdge t n) s (fun w => (w.tto n.val).level = true)) ∧
    ((nativeAt s.time ((s.at t).time.lct - 1)).toNat / 1000000000 < (s.at t).now / 1000000000 → bit (s.reg Reg.ppsOutCtrl) 0 = true → bit (s.reg Reg.ppsOutCtrl) 1 = false →
      gives (.ppsOutEdge t) s (fun w => w.time.ppsOut = true ∧
        w.time.ppsUntil = (s.at t).now / 1000000000 * 1000000000 + bits (s.reg Reg.ppsOutCtrl) 15 8 * 1000000)) ∧
    (∀ (n : Fin 5) (rising : Bool), bits (s.reg (Reg.tciCtrl n.val)) 1 0 = 3 → (s.tci n.val).lastEdge = none →
      (s.tci n.val).queue.length < 16 → gives (.tciEdge t n rising) s (fun w =>
        (w.tci n.val).seq = (s.tci n.val).seq + 1 ∧ (w.tci n.val).lastEdge = some (s.at t).time.lct ∧
        ∃ e, (w.tci n.val).queue = (s.tci n.val).queue ++ [e] ∧ e.rising = rising ∧ e.t = BitVec.ofNat 64 (s.at t).now)) ∧
    (∀ n : Fin 5, gives (.tciStampPop t n) s (fun w =>
      (w.tci n.val).queue = (s.tci n.val).queue.drop 1 ∧ (w.tci n.val).popped = (s.tci n.val).queue.head?))

/-- Released frames, generation switches, prefetch, a SAFE-HOLD at its epoch and the expiry sweep reach the consumers and tags they
are for. -/
def Obligations.FramesReachConsumers : Prop :=
  ∀ (t : Nat) (s : State),
    (∀ n : Fin 16, (s.head n.val).state = .run → (s.head n.val).cfg.ready = false →
      gives (.frameRelease t (.head n)) s (fun w => w = (s.at t).releaseAll (.head n) ((s.at t).headEpoch n.val))) ∧
    (∀ (n : Fin 16) (src : Source), (s.head n.val).state = .run → (s.head n.val).cfg.ready = true →
      src ∈ (s.at t).consumerSources (.head n) → (s.at t).dueFrames (.head n) src (s.at t).now ≠ [] →
      gives (.frameRelease t (.head n)) s (fun w => (w.head n.val).readyAt = (s.head n.val).readyAt ++ [(s.at t).now] ∧
        (w.head n.val).released = (s.head n.val).released)) ∧
    (∀ n : Fin 32, (s.sheet n.val).created = true →
      gives (.frameRelease t (.sheet n)) s (fun w => w = (s.at t).releaseAll (.sheet n) ((s.at t).sheetEpoch n.val))) ∧
    (∀ (n : Fin 16) (e : Nat) (src : Source) (r : FrameRef), s.latestOf (s.dueFrames (.head n) src e) = some r →
      Tab.get none ((s.releaseSource (.head n) e src).head n.val).released src.key = some r) ∧
    (∀ n : Fin 16, (s.head n.val).state = .run → (s.head n.val).switchDue = true → s.win.acceptedAt ≤ (s.at t).headEpoch n.val →
      gives (.generationSwitch t (.head n)) s (fun w => (w.head n.val).gen = s.win.active ∧ (w.head n.val).switchDue = false ∧
        raises .headGenSwitch n.val [b2n s.win.active, s.win.genSeq.toNat] s w)) ∧
    (∀ n : Nat, ((s.switchHead n).head n).gen = s.win.active ∧ ((s.switchHead n).head n).switchDue = false) ∧
    (∀ n : Fin 32, (s.sheet n.val).switchDue = true → s.win.acceptedAt ≤ (s.at t).sheetEpoch n.val →
      gives (.generationSwitch t (.sheet n)) s (fun w => (w.sheet n.val).gen = s.win.active ∧ (w.sheet n.val).switchDue = false)) ∧
    (∀ (n : Fin 16) (k : Fin 8192) (r : FrameRef) (d : Desc) (lines surf va : Nat), (s.head n.val).state = .run →
      d = Tab.get 0 (s.win.gen (s.head n.val).gen) k.val → Desc.en d = true → Desc.isTile d = false → Desc.tgt d = n.val →
      (s.at t).prefetchTime n.val = true → (s.head n.val).specFaults.contains k.val = false → (s.at t).candidate n.val (Desc.source d) = some r →
      gives (.prefetchStart t n k ⟨lines, none⟩) s (fun w => (w.head n.val).prefetch =
        ⟨k.val, r, d⟩ :: (s.head n.val).prefetch.filter (fun p => p.win ≠ k.val)) ∧
      gives (.prefetchStart t n k ⟨lines, some (.surface surf va)⟩) s (fun w => (w.head n.val).specFaults = k.val :: (s.head n.val).specFaults ∧
        raises .headSpecFault n.val [k.val] s w)) ∧
    (∀ (n : Fin 16) (b : Bool), (s.head n.val).safeHoldDue = some b → s.mode.shAt ≤ (s.at t).headEpoch n.val →
      gives (.safeHoldApply t n) s (fun w => (w.head n.val).safeHold = b ∧ (w.head n.val).safeHoldDue = none)) ∧
    (∀ r : FrameRef, (s.frame r).inUse = true →
      gives (.expirySweepVisit t r) s (fun w => (w.frame r).tags = Tab.mapAll {} (fun _ g => sweepTag (tagTime (s.at t).nowUs) g) (s.frame r).tags ∧
        (w.frame r).slots = Tab.mapAll {} (fun _ g => if g.src = 0xFE then g else sweepTag (tagTime (s.at t).nowUs) g)
          (s.frame r).slots))

/-- The three kinds of latch each take a shot of the head's windows at their epoch, and scan-out shows the shot. -/
def Obligations.LatchesTakeShots : Prop :=
  ∀ (t : Nat) (h : Fin 16) (s : State), (s.head h.val).state = .run →
    (∀ (phase : Int) (bad : List Nat) (e : Nat), (s.head h.val).cfg.ready = false →
      epochAtOrBefore (s.head h.val).cfg.t0 (s.head h.val).cfg.period (s.at t).now = some e →
      (s.head h.val).lastEpoch ≠ some e → (s.head h.val).admittedAt ≤ e →
      gives (.latch t h phase bad) s (fun w => w = (((s.at t).headTurn h.val e).latch h.val e none bad).phaseAt h.val phase)) ∧
    (∀ (line : Option Nat) (bad : List Nat), (s.head h.val).cfg.ready = true → (∃ r ∈ (s.head h.val).readyAt, r ≤ (s.at t).now) →
      (∀ j, line = some j → j + (s.head h.val).cfg.lead ≤ (s.head h.val).cfg.vBlankMax) →
      gives (.readyDrivenLatch t h line bad) s (fun w => w = ((s.at t).headTurn h.val (s.at t).now).latch h.val (s.at t).now line bad)) ∧
    (∀ bad : List Nat, (s.head h.val).cfg.ready = true → (s.at t).isReady h.val = false →
      (s.head h.val).cfg.lead ≤ (s.head h.val).cfg.vBlankMax →
      gives (.forcedLatch t h bad) s (fun w => w = ((s.at t).latch h.val (s.at t).now
        (some ((s.head h.val).cfg.vBlankMax - (s.head h.val).cfg.lead)) bad).headCount h.val 14 1)) ∧
    ((s.head h.val).shotDue = true →
      gives (.scanoutStart t h []) s (fun w => (w.head h.val).cur = (s.head h.val).next ∧ (w.head h.val).shotDue = false ∧
        (w.head h.val).underruns = [] ∧ (w.head h.val).blank = false)) ∧
    (∀ fetched latent : Nat, (s.head h.val).blank = false → (s.head h.val).cur ≠ {} →
      gives (.signatureBlockSend t h fetched latent) s (fun w => (w.head h.val).blank = true ∧
        (w.head h.val).signature.length = (s.head h.val).cfg.vActive ∧
        w.pair.ownBlocks.length = s.pair.ownBlocks.length + (if s.pair.armed.getLsbD h.val then 1 else 0)))

/-- A DisplayPort sink comes, goes and asks for attention, and link training runs attempt by attempt. -/
def Obligations.HeadLinksTrain : Prop :=
  ∀ (t : Nat) (h : Fin 16) (s : State),
    (∀ r : SinkRead, s.wired h.val = true → (s.head h.val).link.hpd = false →
      gives (.hpdPresent t h r) s (fun w => (w.head h.val).link.hpd = true ∧ (w.head h.val).link.edid = r.edid ∧
        (w.head h.val).link.sinkMismatch = ((s.head h.val).admitted &&
          !sinkTakes ((s.head h.val).nextCfg.getD (s.head h.val).cfg)
            { (s.head h.val).link with timings := r.timings, ranges := r.ranges }) ∧ raises .headHpd h.val [1] s w)) ∧
    ((s.head h.val).link.hpd = true →
      gives (.hpdGone t h) s (fun w => (w.head h.val).link.hpd = false ∧ (w.head h.val).link.trained = false ∧
        (w.head h.val).link.tries = [] ∧ raises .headHpd h.val [0] s w)) ∧
    ((s.head h.val).link.hpd = true →
      gives (.irqHpd t h true) s (fun w => w = (s.at t).count (Reg.headHpdIrqs h.val) 1)) ∧
    ((s.head h.val).link.hpd = true → (s.head h.val).link.trained = true →
      gives (.irqHpd t h false) s (fun w => (w.head h.val).link.trained = false ∧ (w.head h.val).link.retrain = true ∧
        w.reg (Reg.headHpdIrqs h.val) = satAdd32 (s.reg (Reg.headHpdIrqs h.val)) 1)) ∧
    (s.hasToken .training h.val = true → (s.head h.val).link.training = false → (s.head h.val).link.tries ≠ [] →
      gives (.linkTrainingAttempt t h) s (fun w => (w.head h.val).link.training = true)) ∧
    (∀ (rate lanes : Nat) (l : List (Nat × Nat)), (s.head h.val).link.training = true →
      (s.head h.val).link.tries = (rate, lanes) :: l →
      gives (.linkTrainingDone t h true) s (fun w => (w.head h.val).link.trained = true ∧ (w.head h.val).link.rate = rate ∧
        (w.head h.val).link.lanes = lanes ∧ raises .headLinkUp h.val [] s w) ∧
      gives (.linkTrainingDone t h false) s (fun w => (w.head h.val).link.training = false ∧
        (w.head h.val).link.trained = (s.head h.val).link.trained)) ∧
    ((s.head h.val).link.down = true → (s.head h.val).link.hpd = true → (s.head h.val).link.training = false →
      (s.head h.val).link.askedAt + 1000000000 ≤ (s.at t).now →
      gives (.linkRetry t h) s (fun w => w = (s.at t).askTraining h.val))

/-- A head's raster starts and stops, its fetch levels and underruns are kept, its background waits for the next latch, and safelight
requests reach it after 2 ms. -/
def Obligations.HeadRasterAndOverlays : Prop :=
  ∀ (t : Nat) (h : Fin 16) (s : State),
    ((s.head h.val).state = .starting →
      (if (s.head h.val).cfg.ready then ceilDiv ((s.head h.val).admittedAt + 2000000) 1000 * 1000
        else epochAtOrAfter (s.head h.val).cfg.t0 (s.head h.val).cfg.period ((s.head h.val).admittedAt + 2000000)) ≤ (s.at t).now →
      gives (.headRasterStart t h) s (fun w => (w.head h.val).state = .run ∧ (w.head h.val).frames = 0 ∧
        (w.head h.val).cur = {} ∧ raises .headState h.val [HeadState.starting.code, HeadState.run.code] s w)) ∧
    (∀ c : HeadCfg, (s.head h.val).state = .run → (s.head h.val).nextCfg = some c →
      gives (.headRasterStop t h) s (fun w => (w.head h.val).state = .starting ∧ (w.head h.val).cfg = c ∧
        (w.head h.val).nextCfg = none)) ∧
    ((s.head h.val).state = .run → (s.head h.val).nextCfg = none → (s.head h.val).admitted = false →
      gives (.headRasterStop t h) s (fun w => (w.head h.val).state = .off ∧ (w.head h.val).cfg = {})) ∧
    (∀ (pipe : Fin 8) (lines : List (Bool × Nat × Nat)) (spans : List (Nat × Nat)),
      gives (.fetchLevelChange t h pipe lines spans) s (fun w =>
        Tab.get 0 (w.head h.val).levels pipe.val = w.pipeLevel h.val pipe.val)) ∧
    (∀ pipe : Fin 8, pipeWins (s.head h.val).cur pipe.val = [] → (s.head h.val).shotDue = false →
      gives (.fetchLevelChange t h pipe [] []) s (fun w => Tab.get 0 (w.head h.val).levels pipe.val = 0)) ∧
    (∀ (pipe : Fin 8) (x y : Nat), (s.head h.val).state = .run →
      gives (.underrunPixel t h pipe x y none) s (fun w =>
        (w.head h.val).underruns = (pipe.val, x, y) :: (s.head h.val).underruns ∧ (w.head h.val).cur.miss = true)) ∧
    (∀ v : BitVec 32, (s.head h.val).state ≠ .run →
      gives (.bgColorWrite t h v) s (fun w => (w.head h.val).bgNext = some (v &&& 0x3FFFFFFF) ∧ (w.head h.val).bg = (s.head h.val).bg)) ∧
    gives (.safelightApply t h) s (fun w => (w.head h.val).mapCrc = w.mapCrc h.val ∧
      w.safe.queue.all (fun p => !safeDue p h.val (if (s.head h.val).state = .run then (s.at t).headEpoch h.val else (s.at t).now)) = true) ∧
    gives (.glyphCrcRefresh t) s (fun w => w.safe.glyphCrc = s.glyphCrc)

/-- The mediator's window generation and the coefficient banks: opened, written, sealed, abandoned, copied back. -/
def Obligations.WindowTableAndBanks : Prop :=
  ∀ (t : Nat) (s : State),
    (s.win.ready = true → s.salvoGen = false → gives (.winGenOpen t) s (fun w => w.win = { s.win with open_ := true })) ∧
    (s.win.open_ = true → gives (.winGenAbandon t) s (fun w =>
      w.win = if s.win.ready then { s.win with open_ := false, ready := false, restoring := true } else { s.win with open_ := false })) ∧
    (s.win.copying = true → s.win.queued = [] → gives (.genShadowCopyComplete t) s (fun w =>
      w.win.ready = true ∧ w.win.copying = false ∧ WinTable.gen w.win (!s.win.active) = WinTable.gen s.win s.win.active)) ∧
    (s.win.restoring = true → s.win.queued = [] → gives (.shadowRestoreComplete t) s (fun w =>
      w.win.ready = true ∧ w.win.restoring = false ∧ WinTable.gen w.win (!s.win.active) = WinTable.gen s.win s.win.active)) ∧
    (∀ (k : Fin 8192) (j : Fin 16) (v : BitVec 32), s.win.open_ = true →
      gives (.windowDescriptorWrite t (!s.win.active) k j v) s (fun w =>
        (Tab.get 0 (WinTable.gen w.win (!s.win.active)) k.val : BitVec 512).extractLsb' (32 * j.val) 32 = v ∧
        (∀ i : Fin 16, i ≠ j → (Tab.get 0 (WinTable.gen w.win (!s.win.active)) k.val : BitVec 512).extractLsb' (32 * i.val) 32 =
          (Tab.get 0 (WinTable.gen s.win (!s.win.active)) k.val : BitVec 512).extractLsb' (32 * i.val) 32) ∧
        WinTable.gen w.win s.win.active = WinTable.gen s.win s.win.active)) ∧
    (∀ (u : CoefUnit) (b : Fin 4), s.openRefused u b.val = false →
      gives (.coefOpen t u b) s (fun w => Tab.get .valid (w.banksOf u).state b.val = .open_)) ∧
    (∀ (u : CoefUnit) (b : Fin 4) (k : Fin 1024) (v : BitVec 32), Tab.get .valid (s.banksOf u).state b.val = .open_ →
      ¬ (0xA00 ≤ 4 * k.val ∨ (0x400 ≤ 4 * k.val ∧ 4 * k.val < 0x800 ∧ 12 ≤ 4 * k.val % 16)) →
      gives (.coefWrite t u b k v) s (fun w =>
        Tab.get none (w.banksOf u).mem (0x1000 * b.val + 4 * k.val) = some (v.extractLsb' 0 16) ∧
        Tab.get none (w.banksOf u).mem (0x1000 * b.val + 4 * k.val + 2) = some (v.extractLsb' 16 16))) ∧
    (∀ (u : CoefUnit) (b : Fin 4), Tab.get .valid (s.banksOf u).state b.val ≠ .valid → firstBadPhase (s.banksOf u) b.val = none →
      gives (.coefSeal t u b) s (fun w => Tab.get .valid (w.banksOf u).state b.val = .valid ∧
        Tab.get none (w.banksOf u).hash b.val = some (bankHash (s.banksOf u) b.val))) ∧
    (∀ (u : CoefUnit) (b : Fin 4) (q : Nat × Nat), Tab.get .valid (s.banksOf u).state b.val ≠ .valid →
      firstBadPhase (s.banksOf u) b.val = some q →
      gives (.coefSeal t u b) s (fun w => Tab.get .valid (w.banksOf u).state b.val = .sealFailed ∧
        (w.banksOf u).errTable = q.1 ∧ (w.banksOf u).errPhase = q.2))

/-- Declared network contexts report their multicast groups, lose a silent path, close access units at their deadline, retry after a
fault, fall silent and keep their sender report. -/
def Obligations.IngestTimersAndReports : Prop :=
  ∀ (t : Nat) (s : State),
    gives (.membershipReportSend t) s (fun w => ∃ l, w = { s.at t with sent := s.sent ++ l }) ∧
    (∀ (n : Fin 160) (p : Fin 2) (d : NetDecl), s.netDecl n.val = some d → (Ctx.path (s.ctx n.val) p.val).up = true →
      (Ctx.path (s.ctx n.val) p.val).lastAccept + d.pathDownMs * 1000000 ≤ (s.at t).now →
      gives (.pathDownTimeout t n p) s (fun w => (Ctx.path (w.ctx n.val) p.val).up = false ∧ raises .ctxPathDown n.val [p.val] s w)) ∧
    (∀ (n : Fin 160) (d : NetDecl), s.netDecl n.val = some d →
      gives (.auDeadline t n) s (fun w => w = (s.at t).runIngest n.val d)) ∧
    (∀ n : Fin 160, (s.ctx n.val).state = .fault → declRetry (s.ctx n.val).decl ≠ 0 →
      (s.ctx n.val).faultAt + declRetry (s.ctx n.val).decl * 1000000 ≤ (s.at t).now →
      gives (.contextRetry t n) s (fun w => (w.ctx n.val).state = .armed ∧ (w.ctx n.val).fault = .none ∧
        raises .ctxState n.val [CtxState.fault.code, CtxState.armed.code] s w)) ∧
    (∀ (ch : Fin 128) (l : Nat), (s.chan ch.val).state = .flowing → (s.chan ch.val).lastEligible = some l →
      l + (s.chan ch.val).silenceMs * 1000000 ≤ (s.at t).now →
      gives (.channelSilence t ch) s (fun w => (w.chan ch.val).state = .silent ∧
        raises .chState ch.val [ChState.flowing.code, ChState.silent.code] s w)) ∧
    (∀ (n : Fin 160) (d : NetDecl) (ntp : BitVec 64) (rtp : BitVec 32), s.netDecl n.val = some d →
      gives (.rtcpSrRx t n ntp rtp) s (fun w => (w.ctx n.val).srExpired = false ∧
        ∃ ns, (w.ctx n.val).sr = some (ns, rtp, (s.at t).now))) ∧
    (∀ (n : Fin 160) (d : NetDecl) (ns : Int) (rtp : BitVec 32) (rx : Nat), s.netDecl n.val = some d →
      (s.ctx n.val).sr = some (ns, rtp, rx) → rx + d.srMaxAge * 1000000000 < (s.at t).now →
      gives (.srAgeExpire t n) s (fun w => (w.ctx n.val).srExpired = true))

/-- Decode parts start, advance row by row, wait on a page, resume, and a job whose pool never frees a buffer faults its context. -/
def Obligations.DecodeJobsAdvance : Prop :=
  ∀ (t : Nat) (s : State),
    (∀ (n : Fin 160) (part : Fin 4) (d : NetDecl) (x : PicStart) (b : DpbAction), (s.ctx n.val).state = .decode →
      (s.ctx n.val).decl = some (.net d) →
      gives (.decodeJobStart t n part x b) s (fun w => w = (s.at t).jobStart n.val part.val d x b)) ∧
    (∀ (n part k : Nat), (s.ctx n).picture.isSome = true → ((s.runPart n part k).core k).state = .run ∧
      ((s.runPart n part k).core k).job = some (n, part)) ∧
    (∀ (k : Fin 16) (n part : Nat) (p : Picture) (d : RowDone), (s.core k.val).job = some (n, part) →
      (s.ctx n).picture = some p → (s.core k.val).state = .run →
      p.parts.any (fun q => q.part == part && wppReady (Ctx.net (s.ctx n)) p q) = true →
      gives (.decodeRowComplete t k d) s (fun w => w = if d.last then (s.at t).rowComplete k.val n part p d
        else ((s.at t).rowComplete k.val n part p d).preempt k.val n part)) ∧
    (∀ (k : Fin 16) (n part va : Nat) (p : Picture), (s.core k.val).job = some (n, part) → (s.ctx n).picture = some p →
      (s.core k.val).state = .run →
      gives (.decodePageFault t ⟨k, .page va⟩) s (fun w => (w.core k.val).state ≠ .run ∧ (w.core k.val).job = none ∧
        (w.core k.val).saved = n :: (s.core k.val).saved ∧ ∃ q, (w.ctx n).picture = some q ∧
          ∀ y ∈ q.parts, y.part = part → y.state = .page ∧ y.vpn = va / 2097152)) ∧
    (∀ (n : Fin 160) (part : Fin 4) (p : Picture) (y : PicPart), (s.ctx n.val).picture = some p →
      p.parts.find? (fun q => q.part == part.val) = some y → y.state = .page →
      (s.vpnMapped (s.poolHost n.val) y.vpn = true →
        gives (.decodeFaultResume t n part) s (fun w => ∃ z, (w.ctx n.val).picture = some z ∧ ∀ v ∈ z.parts, v.part = part.val →
          v.state = .saved ∨ (v.state = .running ∧ (w.core y.core).job = some (n.val, part.val)))) ∧
      (s.vpnMapped (s.poolHost n.val) y.vpn = false → gives (.decodeFaultResume t n part) s (fun w => w = s.at t))) ∧
    (∀ (n : Fin 160) (u : AccessUnit) (l : List AccessUnit), (s.ctx n.val).picture = none → (s.ctx n.val).jobs = u :: l →
      u.hasSlice = true → freeBufs (s.ctx n.val) < (s.ctx n.val).poolNeed → (s.at t).dueOf n.val u ≤ (s.at t).now →
      (s.ctx n.val).state = .decode →
      gives (.decodePoolTimeout t n) s (fun w => w = (s.at t).ctxFault n.val .pool))

/-- Lanes train, come up, time out, slip and lose alignment. -/
def Obligations.LanesTrainAndFail : Prop :=
  ∀ (t : Nat) (l : Fin 32) (s : State),
    (s.cruiseMs ≠ 0 → s.cruiseLast < (s.at t).now / (s.cruiseMs * 1000000) * (s.cruiseMs * 1000000) →
      gives (.cruiseSweep t) s (fun w => w.cruiseSeq = s.cruiseSeq + 1 ∧
        w.cruiseLast = (s.at t).now / (s.cruiseMs * 1000000) * (s.cruiseMs * 1000000))) ∧
    (∀ com skew aln : Nat, (s.lane l.val).state = .train → (s.bondLanes l.val).all (s.at t).laneReady = true →
      32 ≤ com → skew ≤ 32 → 2 ≤ aln → s.scans l.val = false →
      gives (.laneTrainComplete t ⟨l, com, skew, aln⟩) s (fun w => w = (s.at t).bondUp l.val)) ∧
    (l.val ∈ s.bondLanes l.val → (s.lane l.val).state = .train →
      (((s.at t).bondUp l.val).lane l.val).state = .up ∧ raises .laneState l.val [LaneState.train.code, LaneState.up.code] s
        ((s.at t).bondUp l.val)) ∧
    (l.val ∈ s.bondLanes l.val → (s.lane l.val).state = .train →
      (s.lane l.val).trainAt + 2000000 ≤ (s.at t).now → s.scans l.val = false →
      gives (.laneTrainTimeout t l) s (fun w => (w.lane l.val).state = .down)) ∧
    (∀ full : Bool, (s.lane l.val).state ≠ .up → gives (.laneSlip t l full) s (fun w => w = s.at t)) ∧
    (∀ full : Bool, (s.lane l.val).state = .up →
      gives (.laneSlip t l full) s (fun w => ∃ u : State, w = u.bondDown l.val ∧
        u.reg (Reg.laneSlips l.val) = satAdd32 (s.reg (Reg.laneSlips l.val)) 1 ∧
        ((s.lane l.val).slipEvt = none → raises .laneSlip l.val [] s u) ∧
        (u.lane l.val).fill = if full then 32 else 0)) ∧
    (∀ (code disp : Nat) (aln : Bool), (s.lane l.val).state = .up → aln = true ∨ 16 ≤ code + disp →
      gives (.laneAlignLoss t l (code, disp) aln) s (fun w => ∃ u : State, w = u.bondDown l.val ∧
        u.reg (Reg.laneAlignLoss l.val) = satAdd32 (s.reg (Reg.laneAlignLoss l.val)) 1 ∧
        u.reg (Reg.laneCodeErr l.val) = satAdd32 (s.reg (Reg.laneCodeErr l.val)) code ∧
        u.reg (Reg.laneDispErr l.val) = satAdd32 (s.reg (Reg.laneDispErr l.val)) disp))

/-- Lanes go idle, into DEEP and back, and send LUSKO time on capture bonds to bridges; a capture frame closes after two periods. -/
def Obligations.LanesIdleAndWake : Prop :=
  ∀ (t : Nat) (l : Fin 32) (s : State),
    (l.val ∈ s.bondLanes l.val → (s.lane l.val).state = .up →
      gives (.fastIdleEntry t l true) s (fun w => (w.lane l.val).txEidle = true ∧ (w.lane l.val).state = .up) ∧
      gives (.fastIdleEntry t l false) s (fun w => (w.lane l.val).rxEidle = true ∧ (w.lane l.val).state = .up) ∧
      ((s.lane l.val).rxEidle = true →
        gives (.fastIdleExit t l false true) s (fun w => (w.lane l.val).rxEidle = false ∧ (w.lane l.val).state = .up) ∧
        gives (.fastIdleExit t l false false) s (fun w => ∃ u : State, w = u.bondDown l.val ∧
          u.reg (Reg.laneAlignLoss l.val) = satAdd32 (s.reg (Reg.laneAlignLoss l.val)) 1))) ∧
    (∀ aligned : Bool, (s.lane l.val).state = .up → (s.lane (s.lane l.val).first).txEidle = true →
      l.val ∈ s.bondLanes (s.lane l.val).first →
      gives (.fastIdleExit t l true aligned) s (fun w => (w.lane l.val).txEidle = false ∧ (w.lane l.val).state = .up)) ∧
    ((s.lane (s.lane l.val).first).state = .up → s.refusesDeep (s.lane l.val).first = false →
      (s.lane (s.lane l.val).first).deepAsked = false →
      gives (.deepOffRequest t l) s (fun w => (w.lane (s.lane l.val).first).deepAsked = true ∧
        ∃ pre col, w.sent = s.sent ++ pre ++ [.lusko (s.lane l.val).first 0 (Tab.get 0 (s.lane (s.lane l.val).first).txSeq 0) col
          (.linkCtrl 1) (LuskoBody.linkCtrl 1).payload])) ∧
    (l.val ∈ s.bondLanes l.val → (s.lane l.val).state = .deep →
      gives (.deepWakeRequest t l) s (fun w => (w.lane l.val).wakeAsked = true) ∧
      (∀ ns : Nat, 100 ≤ ns → gives (.squelchActivity t l ns) s (fun w => (w.lane l.val).wakeAsked = true))) ∧
    (l.val ∈ s.bondLanes l.val →
      (∀ k ∈ s.bondLanes l.val, (s.lane k).state = .wake ∧ (s.at t).now ≤ (s.lane k).wakeAt + 200000) → gives (.laneWakeAligned t l) s (fun w => (w.lane l.val).state = .up)) ∧
    (l.val ∈ s.bondLanes l.val → (s.lane l.val).state = .wake →
      (s.lane l.val).wakeAt + 200000 ≤ (s.at t).now → gives (.deepWakeTimeout t l) s (fun w => (w.lane l.val).state = .down)) ∧
    (∀ (i : Ident) (c : Nat) (v : BitVec 64) (r : BitVec 32), (s.lane l.val).state = .up → (s.lane l.val).first = l.val →
      (s.lane l.val).role = .capture → (s.lane l.val).ident = some i → i.kind = 1 → (s.lane l.val).txEidle = false →
      c = (s.lane l.val).sopCol (s.at t).time.lct →
      v = BitVec.ofNat 64 ((s.at t).colTime l.val c + (s.lane l.val).latency.getD 0 / 2) → r = BitVec.ofInt 32 s.time.rate →
      gives (.luskoTimeSend t) s (fun w => (w.lane l.val).lastTime = some (s.at t).now ∧
        .lusko l.val 0 (Tab.get 0 (s.lane l.val).txSeq 0) c (.time v r) (timeBytes v r) ∈ w.sent)) ∧
    (∀ (n : Fin 160) (d : LuskoDecl) (o : OpenFrame), s.luskoDecl n.val = some d → (s.ctx n.val).open_ = some o →
      o.at_ * d.num + 2 * d.den * 1000000000 ≤ (s.at t).now * d.num →
      gives (.captureFrameTimeout t n) s (fun w => w = (s.at t).closeCapture n.val))

/-- Outside PROVING a packet on a lane in TRAIN or UP, and a datagram on an enabled port, reaches its receiver as it stands. -/
def Obligations.PacketsReachReceivers : Prop :=
  ∀ (t : Nat) (s : State), s.mode.mode ≠ .proving →
    (∀ (l : Fin 32) (alt : LuskoBody), (s.lane l.val).rxEidle = true → ((s.lane l.val).state = .train ∨ (s.lane l.val).state = .up) →
      ∀ (q : BitVec 16) (i : Ident), gives (.identRx t l ⟨q, i⟩ alt) s (fun w => w = s.at t)) ∧
    (∀ (l : Fin 32) (alt : LuskoBody), ((s.lane l.val).state = .train ∨ (s.lane l.val).state = .up) → (s.lane l.val).rxEidle = false →
      (∀ (q : BitVec 16) (i : Ident), gives (.identRx t l ⟨q, i⟩ alt) s (fun w =>
        w = received (s.at t) (.lusko l.val 0 q (.ident i) (s.at t).now))) ∧
      (∀ (chan : BitVec 8) (q : BitVec 16) (op : Nat), gives (.linkCtrlRx t l chan q op alt) s (fun w =>
        w = received (s.at t) (.lusko l.val chan.toNat q (.linkCtrl op) (s.at t).now))) ∧
      (∀ (chan : BitVec 8) (q : BitVec 16) (f : FrameStart), gives (.frameStartRx t l chan q f alt) s (fun w =>
        w = received (s.at t) (.lusko l.val chan.toNat q (.frameStart f) (s.at t).now))) ∧
      (∀ (chan : BitVec 8) (q fr : BitVec 16) (line : Nat) (px : List (BitVec 8)), gives (.videoLineRx t l chan q fr line px alt) s (fun w =>
        w = received (s.at t) (.lusko l.val chan.toNat q (.videoLine fr line px) (s.at t).now))) ∧
      (∀ (chan : BitVec 8) (q fr : BitVec 16) (n : Nat), gives (.frameEndRx t l chan q fr n alt) s (fun w =>
        w = received (s.at t) (.lusko l.val chan.toNat q (.frameEnd fr n) (s.at t).now))) ∧
      (∀ (chan : BitVec 8) (why : LuskoBad) (errs : List (Nat × Nat)), gives (.luskoBadPacketRx t l chan why errs) s (fun w =>
        ∃ u : State, u = (s.at t).bondErrs l.val errs ∧
          w = received u (.lusko l.val chan.toNat 0 (.bad (if errs.any (fun e => e.1 + e.2 != 0) then .crc else why)) u.now))) ∧
      (∀ (chan : BitVec 8) (q : BitVec 16), gives (.fixturePacketRx t l chan q alt) s (fun w =>
        w = received (s.at t) (.lusko l.val chan.toNat q .fixture (s.at t).now)))) ∧
    (∀ (port : Fin 4) (f : EthFrame) (alt : UdpPayload), s.mode.phase = .up → s.mode.mode ≠ .standby → s.portEnabled port.val = true →
      gives (.ethDatagramRx t port f alt) s (fun w => w = received (s.at t) (.eth port.val f ((s.at t).ingressStamp port.val)))) ∧
    gives (.reorderRelease t) s (fun w => ∃ u : State, u.prov.held = s.prov.held.filter (fun h => !decide (h.at_ + 10000000 ≤ (s.at t).now)) ∧
      w = ((s.prov.held.filter (fun h => decide (h.at_ + 10000000 ≤ (s.at t).now))).map (fun h => h.packet)).foldl State.deliver u)

/-- What a Lusko packet does at its receiver: an IDENT is kept, LINK_CTRL opens or refuses DEEP, a FRAME_START opens a capture frame,
and bad packets are counted. -/
def Obligations.LuskoPacketsTakeEffect : Prop :=
  ∀ (s : State) (l : Nat) (stamp : Nat),
    (∀ (i : Ident) (q : BitVec 16), (s.lane l).state = .train → (s.lane l).serialUp = none →
      ((s.rxLusko l 0 q (.ident i) stamp).lane l).ident = some i ∧ ((s.rxLusko l 0 q (.ident i) stamp).lane l).identAt = stamp) ∧
    (s.refusesDeep l = true → (s.lane l).state = .up → (s.lane l).deepAsked = false →
      ((s.rxLinkCtrl l 1).lane l).state = .up ∧ ∃ pre col, (s.rxLinkCtrl l 1).sent =
        s.sent ++ pre ++ [.lusko l 0 (Tab.get 0 (s.lane l).txSeq 0) col (.linkCtrl 3) (LuskoBody.linkCtrl 3).payload]) ∧
    ((s.lane l).state = .up → ((s.rxLinkCtrl l 3).lane l).deepAsked = false) ∧
    (∀ (n b : Nat) (d : LuskoDecl) (f : FrameStart), s.luskoDecl n = some d → startMatches d f = true → (s.ctx n).open_ = none →
      (s.ctx n).state = .decode → (s.overrate n d.num d.den).2 = false → freeBuf (s.ctx n).bufs (s.ctx n).nBufs 0 = some b →
      ∃ o, ((s.rxFrameStart n d f stamp).ctx n).open_ = some o ∧ o.frame = f.frame ∧ o.buf = b ∧ o.at_ = stamp) ∧
    (∀ (n : Nat) (fr : BitVec 16) (o : OpenFrame), (s.ctx n).open_ = some o → o.frame = fr → s.rxFrameEnd n fr = s.closeCapture n) ∧
    (∀ (n : Nat) (d : LuskoDecl) (fr : BitVec 16) (line : Nat) (px : List (BitVec 8)), (s.ctx n).open_ = none →
      s.rxVideoLine n d fr line px stamp = s.strayPacket n fr) ∧
    (∀ (n : Nat) (fr : BitVec 16), (s.ctx n).noBuffer ≠ some fr → s.strayPacket n fr = s.discardPacket n) ∧
    ((s.rxLusko l 0 0 (.bad .aborted) stamp).reg (Reg.laneAborts (s.lane l).first) = satAdd32 (s.reg (Reg.laneAborts (s.lane l).first)) 1 ∧
      (s.rxLusko l 0 0 (.bad .reservedType) stamp).reg (Reg.lanePktBad (s.lane l).first) =
        satAdd32 (s.reg (Reg.lanePktBad (s.lane l).first)) 1)

/-- Outside PROVING every message of a pair reaches its receiver on the pair's lane, and there does what its type says. -/
def Obligations.PairMessagesReachTheirUnit : Prop :=
  ∀ (t : Nat) (q : BitVec 16) (alt : LuskoBody) (s : State) (l : Nat), s.mode.mode ≠ .proving → s.pairLane = some l →
    ((s.lane l).state = .train ∨ (s.lane l).state = .up) → (s.lane l).rxEidle = false →
    (∀ (v : BitVec 64) (r : BitVec 32), gives (.pairSyncRx t q ⟨v, r⟩ alt) s (fun w =>
      w = received (s.at t) (.lusko l 1 q (.pair (.sync v r)) (s.at t).now))) ∧
    (∀ m : Manifest, gives (.manifestRx t q m alt) s (fun w => w = received (s.at t) (.lusko l 2 q (.pair (.manifest m)) (s.at t).now))) ∧
    (∀ c : PairCmd, gives (.commandRx t q c alt) s (fun w => w = received (s.at t) (.lusko l 3 q (.pair (.command c)) (s.at t).now))) ∧
    (∀ (k : Nat) (r : Request), gives (.reqFwdRx t q k r alt) s (fun w =>
      w = received (s.at t) (.lusko l 4 q (.pair (.reqFwd k r)) (s.at t).now))) ∧
    (∀ (c : Fin 160) (m : Nat) (share : Bool), gives (.fillReqRx t q c m share alt) s (fun w =>
      w = received (s.at t) (.lusko l 5 q (.pair (.fillReq c.val m share)) (s.at t).now))) ∧
    (∀ (c : Fin 160) (m : Nat) (x : Option (List Nal × List (BitVec 8))), gives (.fillDataRx t q c m x alt) s (fun w =>
      w = received (s.at t) (.lusko l 6 q (.pair (.fillData c.val m x)) (s.at t).now))) ∧
    (∀ (k : Fin 256) (m : Nat) (ok : Bool) (px : List Sample), gives (.surfDataRx t q k m ok px alt) s (fun w =>
      w = received (s.at t) (.lusko l 7 q (.pair (.surfData k.val m ok px)) (s.at t).now))) ∧
    (∀ b : SigBlock, gives (.signatureRx t q b alt) s (fun w => w = received (s.at t) (.lusko l 8 q (.pair (.signature b)) (s.at t).now))) ∧
    (∀ h : Health, gives (.healthRx t q h alt) s (fun w => w = received (s.at t) (.lusko l 9 q (.pair (.health h)) (s.at t).now))) ∧
    (∀ c : PairControl, gives (.controlRx t q c alt) s (fun w => w = received (s.at t) (.lusko l 10 q (.pair (.control c)) (s.at t).now)))

/-- What a message of the pair does at its receiver: skew, forwarded requests, fills, signatures, health and switch-over. -/
def Obligations.PairMessagesTakeEffect : Prop :=
  ∀ (s : State) (stamp : Nat),
    (∀ (v : BitVec 64) (r : BitVec 32), (s.rxPair (.sync v r) stamp).pair.skew = (BitVec.ofNat 64 stamp - v).toInt) ∧
    (∀ (k : Nat) (r : Request), s.pairActive = true →
      s.rxPair (.reqFwd k r) stamp = s.place { r with by_ := .partner k, received := s.now }) ∧
    (∀ (c m : Nat) (share : Bool), s.pairSends = true → s.pair.retained = [] →
      s.rxPair (.fillReq c m share) stamp = s.sendPair (.fillData c m none)) ∧
    (∀ (c m : Nat), s.pairFollows = false → (s.rxPair (.fillData c m none) stamp).reg Reg.pairFills =
      s.reg Reg.pairFills % 2 ^ 16 + min (s.reg Reg.pairFills / 2 ^ 16 + 1) 0xFFFF * 2 ^ 16) ∧
    (∀ b : SigBlock, (s.rxPair (.signature b) stamp).pair.partnerBlocks = s.pair.partnerBlocks ++ [b]) ∧
    (∀ h : Health, h.faults.getLsbD 4 = false → s.mode.mode ≠ .proving →
      (s.rxPair (.health h) stamp).pair.armed = s.pair.armed &&& ~~~h.isoHead ∧
      (s.rxPair (.health h) stamp).pair.excl = s.pair.excl ||| h.isoHead ∧
      (s.rxPair (.health h) stamp).pair.partnerHealth.getLast? = some h) ∧
    (∀ a : Nat, s.pairFollows = true → s.pair.state = .paired ∨ s.pair.state = .joining →
      s.rxPair (.control (.switchover a)) stamp = State.planTakeover { s with pair := { s.pair with switchAt := some a } } a) ∧
    (∀ a : Nat, s.rxPair (.control (.safeHold a)) stamp = s.enterSafeHold .partner (a + s.pair.cmdLead * 1000))

/-- A pair joins, retries, gives up waiting for heads, takes over and changes roles at the instants R293 to R315 name. -/
def Obligations.PairRolesChange : Prop :=
  ∀ (t : Nat) (s : State),
    (∀ j : Nat, s.pair.joinEpoch = some j → j ≤ (s.at t).now → s.pair.joined = false → s.pairActive = true →
      s.pairUp = true → gives (.joinEpoch t) s (fun w => w.pair.joined = true ∧ w.pair.joinAt = (s.at t).now ∧
        w.pair.state = s.pair.state ∧ ∃ l q c x p, .lusko l 10 q c (.pair (.control (.transfer j x))) p ∈ w.sent)) ∧
    (∀ a : Nat, s.pair.retryAt = some a → a ≤ (s.at t).now → s.pair.state = .unpaired → s.pair.shadow = true →
      gives (.joinRetry t) s (fun w => w = (s.at t).pairJoin) ∧
      (s.pair.en = true → s.pair.actOut = false → s.pair.actIn = true → s.pairUp = true → s.partnerW128 = true →
        gives (.joinRetry t) s (fun w => w.pair.joinAsked = true ∧ w.pair.retryAt = none ∧
          ∃ l q c f p, .lusko l 10 q c (.pair (.control (.join f))) p ∈ w.sent))) ∧
    (s.pair.state = .joining → s.pair.joinAt + s.pair.joinMax * 1000000 ≤ (s.at t).now →
      gives (.joinMaxExpire t) s (fun w => w.pair.state = .paired ∧
        ∀ h ∈ s.pairHeads, h < 16 → w.pair.armed.getLsbD h = true ∨ w.pair.excl.getLsbD h = true)) ∧
    (∀ x sw : Nat, s.pair.takeover = some (x, false, sw) → x ≤ (s.at t).now →
      gives (.takeoverEpoch t) s (fun w => w.pair.takeover = some (x, true, sw) ∧ w.pair.fills = [] ∧
        w.reg Reg.pairTakeovers = satAdd32 (s.reg Reg.pairTakeovers) 1)) ∧
    (∀ x sw : Nat, s.pair.takeover = some (x, true, sw) → sw ≤ (s.at t).now →
      gives (.takeoverSwitch t) s (fun w => w = (State.takeRole { s.at t with
        pair := { s.pair with takeover := none, switchAt := none, armed := 0, joinAt := (s.at t).now } }).pairTo
          (if s.pair.switchAt.isSome then .joining else .unpaired) ∧
        w.pair.takeover = none ∧ w.pair.shadow = false ∧ w.pair.armed = 0 ∧
        w.pair.state = (if s.pair.switchAt.isSome then .joining else .unpaired))) ∧
    (s.pair.en = true → s.pair.shadow = true → s.pair.state ≠ .yielded → s.pair.state ≠ .alone → s.pair.takeover = none →
      s.mode.mode ≠ .proving →
      gives (.pairActInLost t) s (fun w => w.pair.actIn = false ∧ w.pair.takeover.isSome = true)) ∧
    (s.pair.en = true → s.pair.actOut = false → s.mode.sideBWait = none →
      gives (.pairActInRise t) s (fun w => w.pair.actIn = true ∧ w.pair.actInLow = none ∧ w.pair.outsel = false)) ∧
    (s.mode.sideBWait.isSome = true → s.pair.actOut = false → s.adm.queue = [] → s.adm.waiting = [] → s.adm.forwarded = [] →
      gives (.pairActInRise t) s (fun w => w.mode.sideBWait = none ∧ w.pair.actIn = true ∧ w.pair.shadow = true ∧
        w.mode.mode = (if s.aon.shLatch then .safeHold else .shadow))) ∧
    (∀ a : Nat, s.mode.sideBWait = some a → a + 1000000000 ≤ (s.at t).now → s.pair.actIn = false → s.adm.queue = [] →
      s.adm.waiting = [] → s.adm.forwarded = [] →
      gives (.sideBGoTimeout t) s (fun w => w.mode.sideBWait = none ∧ w.pair.shadow = false ∧
        w.mode.mode = (if s.aon.shLatch then .safeHold else .run)))

/-- Signature blocks are compared or given up, divergences attributed, retention and fill waits end, and PAIR_SYNC is sent. -/
def Obligations.PairComparesAndFills : Prop :=
  ∀ (t : Nat) (s : State),
    (∀ l : Nat, s.pairLane = some l → (s.lane l).state = .up →
      (s.lane l).txEidle = false → gives (.pairSyncSend t) s (fun w => ∃ c v r,
        c = (s.lane l).sopCol (s.at t).time.lct ∧ v = BitVec.ofNat 64 ((s.at t).colTime l c + (s.lane l).latency.getD 0 / 2) ∧
        r = BitVec.ofInt 32 s.time.rate ∧
        w.sent = s.sent ++ [.lusko l 1 (Tab.get 0 (s.lane l).txSeq 1) c (.pair (.sync v r)) (timeBytes v r)])) ∧
    (∀ a : Nat, s.pair.skewBad = some a → a + 100000000 ≤ (s.at t).now → s.pair.skewSaid = false →
      gives (.pairSkewTimeout t) s (fun w => w.pair.skewSaid = true ∧ raises .pairSkew 0 [s.pair.skew] s w ∧
        w.pair.state = (if s.pair.state = .paired then .unpaired else s.pair.state))) ∧
    (∀ (h : Fin 16) (a b : SigBlock), s.pair.ownBlocks = [a] → a.head = h.val → a.epoch + s.pair.cmpDelay * 1000 ≤ (s.at t).now →
      s.pair.armed.getLsbD h.val = true → s.pair.state = .paired → s.partnerOf a = some b →
      gives (.pairComparison t h) s (fun w =>
        w = ((State.compareBlocks (s.at t) (a.epoch + s.pair.cmpDelay * 1000) a b).dropCompared b).dropBlocks h.val a.epoch)) ∧
    (∀ v : Divergence, s.pair.pendingDiv = some v → v.d + 100000000 ≤ (s.at t).now →
      gives (.attributionDecide t) s (fun w => w = (s.at t).attribute v)) ∧
    gives (.fillRetentionExpire t) s (fun w => w = { s.at t with
      pair := { s.pair with retained := s.pair.retained.filter (fun r => decide ((s.at t).now < r.until_)) } }) ∧
    (∀ (c : Fin 160) (f : FillWait) (x : NetDecl), s.pair.fills = [f] → f.entry.kind = 0 → f.entry.index = c.val →
      s.netDecl c.val = some x → f.deadline ≤ (s.at t).now → s.pairFollows = true →
      gives (.fillTimeout t c) s (fun w => ∃ held, w = (State.applyUnit ((s.at t).gapBegin c.val) x f.entry true held
        (entryNals (s.ctx c.val) f.entry)).runIngest c.val x))

/-- Recorder parts start, advance by rows, wait on pages and resume; the bitstream's read pointer moves within what is written; RTP
takes its queue in order. -/
def Obligations.RecorderWorks : Prop :=
  ∀ (t : Nat) (s : State),
    (∀ (r : Fin 16) (part : Fin 4) (p : RecPic) (l : List RecPic) (k : Nat), (s.recording r.val).pics = p :: l →
      s.recCoreOf r.val part.val = some k → (s.recCore k).job = none → (s.recCore k).state ≠ 3 →
      s.hasToken .recorder k = true → (p.waiting ++ p.saved).contains part.val = true → s.recEarlier k r.val p.due = false →
      gives (.recPictureStart t r part) s (fun w => (w.recCore k).state = 1 ∧ (w.recCore k).job = some (r.val, part.val))) ∧
    (∀ (k : Fin 4) (coded filler : Nat) (stalls : List (Nat × Nat)) (wasted rd wr : Nat) (body : List (BitVec 8)) (r part : Nat)
        (p : RecPic) (l : List RecPic), (s.recCore k.val).job = some (r, part) → (s.recording r).pics = p :: l →
      (s.recCore k.val).state = 1 →
      gives (.recRowComplete t k coded filler stalls wasted rd wr body) s (fun w =>
        w = (s.at t).recRow k.val r part p coded filler stalls wasted rd wr body)) ∧
    (∀ (k : Fin 4) (r part va : Nat) (p : RecPic) (l : List RecPic), (s.recCore k.val).job = some (r, part) →
      (s.recCore k.val).state = 1 → (s.recording r).pics = p :: l →
      gives (.recPageFault t ⟨k, .page va⟩) s (fun w => (w.recCore k.val).state ≠ 1 ∧ (w.recCore k.val).job = none ∧
        (w.recCore k.val).saved = (r, part) :: (s.recCore k.val).saved ∧
        (w.recording r).pics = { p with waitPage := part :: p.waitPage, vpn := va / 2097152 } :: l)) ∧
    (∀ (r : Fin 16) (part : Fin 4) (p : RecPic) (l : List RecPic) (k : Nat), (s.recording r.val).pics = p :: l →
      s.recCoreOf r.val part.val = some k → p.waitPage.contains part.val = true →
      s.vpnMapped (s.recHost r.val) p.vpn = true →
      gives (.recFaultResume t r part) s (fun w => ∃ q, (w.recording r.val).pics = q :: l ∧ q.waitPage.contains part.val = false ∧
        q.saved = part.val :: p.saved)) ∧
    (∀ (r : Fin 16) (hi : BitVec 32), (s.recording r.val).bsRd.toNat ≤ hi.toNat * 2 ^ 32 + s.reg (Reg.recBsRdLo r.val) →
      hi.toNat * 2 ^ 32 + s.reg (Reg.recBsRdLo r.val) ≤ (s.recording r.val).bsWr.toNat →
      gives (.bsRdWrite t r hi) s (fun w => (w.recording r.val).bsRd.toNat = hi.toNat * 2 ^ 32 + s.reg (Reg.recBsRdLo r.val))) ∧
    (∀ (r : Fin 16) (hi : BitVec 32), (s.recording r.val).bsWr.toNat < hi.toNat * 2 ^ 32 + s.reg (Reg.recBsRdLo r.val) →
      gives (.bsRdWrite t r hi) s (fun w => (w.recording r.val).bsRd = (s.recording r.val).bsRd)) ∧
    (∀ (r : Fin 16) (v : RecUnit) (q : List RecUnit) (x : Rec), x = s.recording r.val → x.rtpQueue = v :: q →
      x.rtpAt ≤ (s.at t).now →
      (∀ packets bytes : Nat, s.mode.mode ≠ .shadow → s.mode.isoCore.getLsbD (22 + x.cfg.port) = false →
        (unitPayloads x.cfg.mtu v).length ≤ packets → ((unitPayloads x.cfg.mtu v).map List.length).sum ≤ bytes →
        gives (.recRtpTransmit t r packets bytes) s (fun w => (w.recording r.val).rtpQueue = q ∧
          (w.recording r.val).rtpSeq = x.rtpSeq + BitVec.ofNat 16 (unitPayloads x.cfg.mtu v).length ∧
          w.sent = s.sent ++ (unitPayloads x.cfg.mtu v).zipIdx.map (fun p => .recRtp x.cfg.port x.cfg.dst x.cfg.udpPort x.cfg.ssrc
            x.cfg.pt (x.rtpSeq + BitVec.ofNat 16 p.2) (BitVec.ofNat 32 (v.light * 9 / 100000))
            (p.2 + 1 == (unitPayloads x.cfg.mtu v).length) p.1))) ∧
      (∀ packets bytes : Nat, s.mode.mode ≠ .shadow →
        packets < (unitPayloads x.cfg.mtu v).length ∨ bytes < ((unitPayloads x.cfg.mtu v).map List.length).sum →
        gives (.recRtpTransmit t r packets bytes) s (fun w => (w.recording r.val).rtpQueue = q ∧
        (w.recording r.val).rtpDrop = x.rtpDrop + 1 ∧ w.sent = s.sent)) ∧
      (∀ packets bytes : Nat, s.mode.mode = .shadow → gives (.recRtpTransmit t r packets bytes) s (fun w => (w.recording r.val).rtpQueue = q ∧
        w.sent = s.sent)))

/-- Sheets begin at their epochs, are composed tile by tile, wait on pages and resume. -/
def Obligations.SheetsCompose : Prop :=
  ∀ (t : Nat) (s : State),
    (∀ (n : Fin 32) (e : Nat), epochAtOrBefore (s.sheet n.val).cfg.t0 (s.sheet n.val).cfg.period (s.at t).now = some e →
      (s.sheet n.val).created = true → (s.sheet n.val).stopped = false → (s.sheet n.val).lastEpoch ≠ some e →
      (s.sheet n.val).switchDue = false →
      gives (.sheetEpoch t n) s (fun w => ∃ u v : State, u = (s.at t).releaseAll (.sheet n.val) e ∧
        v = State.beginSheet (u.setSheet n.val { u.sheet n.val with
          engine := (u.sheet n.val).nextEngine, lastEpoch := some e }) n.val e ∧
        w = (v.consumerSources (.sheet n.val)).foldl (fun x src =>
          (x.sourceFrames src).foldl (fun x r => x.settlePending src r) x) v)) ∧
    (∀ (n e : Nat), freeBuf (s.sheet n).bufs (s.sheet n).nBufs 0 = none →
      s.beginSheet n e = (s.setSheet n { s.sheet n with seq := (s.sheet n).seq + 1 }).missFor (.sheet n)) ∧
    (∀ (e : Fin 2) (n : Nat) (c : Composing) (cs : List Composing) (w : Nat) (d : BitVec 512) (src : Option FrameRef)
        (l : List (Nat × BitVec 512 × Option FrameRef)) (stalls : List (Nat × Nat)) (rd wr : Nat),
      (s.engine e.val).state = 1 → (s.engine e.val).sheet = some n → (s.sheet n).composing = c :: cs → c.todo = (w, d, src) :: l →
      (∀ k, Desc.source d = .surf k → (s.at t).funded (s.surf k).owner = true) →
      gives (.sheetTileComplete t e stalls rd wr) s (fun x => ∃ u : State,
        u = { s.at t with regs := u.regs, progs := u.progs, slots := u.slots, insts := u.insts } ∧
        x = if l.isEmpty then (u.tileDone n c w d src l).runEngine e.val else (u.tileDone n c w d src l).preemptSheet e.val n)) ∧
    (∀ (e : Fin 2) (n va : Nat) (c : Composing) (cs : List Composing), (s.engine e.val).state = 1 → (s.engine e.val).sheet = some n →
      (s.sheet n).composing = c :: cs →
      gives (.sheetPageFault t ⟨e, .page va⟩) s (fun w => ∃ u : State, u = { s.at t with regs := u.regs, progs := u.progs, slots := u.slots } ∧
        u.reg (Reg.sheetTileRestarts e.val) = satAdd32 (s.reg (Reg.sheetTileRestarts e.val)) 1 ∧
        w = (((u.setComposing n { c with waitPage := true, vpn := va / 2097152 }).restEngine e.val).runEngine e.val).engineFault
          (s.tileHost c) va 2 false)) ∧
    (∀ (n : Fin 32) (c : Composing) (cs : List Composing), (s.sheet n.val).composing = c :: cs → c.waitPage = true →
      s.vpnMapped (s.tileHost c) c.vpn = true →
      gives (.sheetFaultResume t n) s (fun w =>
        w = ((s.at t).setComposing n.val { c with waitPage := false }).runEngine c.engine))

/-- Alarm requests become active after 2 ms, tones walk their segments, audio frames are mixed, and haptic fires start at their
boundaries. -/
def Obligations.AudioAndHaptics : Prop :=
  ∀ (t : Nat) (s : State),
    (∀ q v at_ : Nat, s.console.alarmWait = [(q, v, at_)] → at_ + 2000000 ≤ (s.at t).now → bit v 15 = true →
      gives (.alarmRequestActivate t) s (fun w => w.console.alarmWait = [] ∧ (q, v % 16, bits v 10 8) ∈ w.console.alarms ∧
        w.console.toneDue = true ∧ raises .safeAlarmOn 0 [q] s w)) ∧
    (∀ (x : Tone) (g : AlarmSegment), s.console.tone = some x → x.content.segments[x.segment]? = some g →
      x.segStart + g.ms * 1000000 ≤ (s.at t).now → x.segment + 1 < x.content.segments.length →
      gives (.alarmSegmentEnd t) s (fun w => w.console.tone = some { x with
        segment := x.segment + 1, segStart := x.segStart + g.ms * 1000000 })) ∧
    (∀ ins : List Int, s.up = true →
      gives (.audioFrame t ins) s (fun w => w.console.audioFrames = s.console.audioFrames + 1 ∧ w.console.audioOut.length = 32 ∧
        w.console.ins.head? = some ((List.range 32).map (fun i => if s.console.portEn.getLsbD (i / 8) then sat24 (ins.getD i 0) else 0)))) ∧
    (∀ v : BitVec 32, s.up = true →
      gives (.hapPlay t v) s (fun w => ∃ f, w.console.fires = s.console.fires ++ [f] ∧ f.due = hapBoundary (s.at t).now ∧
        f.out = BitVec.ofNat 8 v.toNat)) ∧
    (∀ (f : HapFire) (n : Fin 8), s.console.fires = [f] → f.due ≤ (s.at t).now → f.out = BitVec.ofNat 8 (2 ^ n.val) →
      (Tab.get {} s.console.outs n.val : HapOut).wave = none →
      gives (.hapticWaveformStart t) s (fun w => w.console.fires = [] ∧ (Tab.get {} w.console.outs n.val : HapOut).wave = some f.wave ∧
        (Tab.get {} w.console.outs n.val : HapOut).start = f.due)) ∧
    (∀ (n : Fin 8) (x : Nat), (Tab.get {} s.console.outs n.val : HapOut).wave = some x →
      (Tab.get {} s.console.outs n.val : HapOut).start + s.waveNs x ≤ (s.at t).now →
      gives (.hapticWaveformEnd t n) s (fun w => (Tab.get {} w.console.outs n.val : HapOut).wave = none))

/-- Touch ports scan, rebase, take key groups and complete their scans. -/
def Obligations.TouchPortsScan : Prop :=
  ∀ (t : Nat) (p : Fin 2) (s : State),
    (∀ e : Nat, s.up = true → (s.touch p.val).cfg.en = true → (s.touch p.val).scan = none → e = (s.at t).scanEpoch p.val →
      e ≤ (s.at t).now → (((s.touch p.val).state = .free ∧
      (s.head (s.touch p.val).cfg.head).state ≠ .run ∧ (s.touch p.val).lastScan + (s.touch p.val).freePeriod ≤ (s.at t).now) ∨
      ((s.touch p.val).state = .synced ∧ (s.head (s.touch p.val).cfg.head).state = .run ∧ (s.touch p.val).frameAt ≠ some e ∧
        (s.touch p.val).cfg.div ≤ (s.touch p.val).frames + 1)) →
      gives (.touchScanStart t p) s (fun w => (w.touch p.val).scan = some (e, Touch.nextKind (s.touch p.val) e) ∧
        (w.touch p.val).lastScan = e)) ∧
    ((s.touch p.val).cfg.en = true →
      gives (.touchRebase t p) s (fun w => (w.touch p.val).tested = false ∧ (w.touch p.val).startScans = 0 ∧
        (w.touch p.val).suspectNodes = [] ∧ (w.touch p.val).suspectSelf = [])) ∧
    (∀ (e k raw : Nat), (s.touch p.val).scan = some (e, .test) → k ∈ s.portKeys p.val →
      e + Touch.groupNs (s.touch p.val) ≤ (s.at t).now →
      gives (.keyGroupEnd t p [(k, raw)]) s (fun w => w = (s.at t).keyTest p.val k e raw (!(s.touch p.val).tested))) ∧
    (∀ (e k raw : Nat), (s.touch p.val).scan = some (e, .mutualScan) → k ∈ s.portKeys p.val →
      e + Touch.groupNs (s.touch p.val) ≤ (s.at t).now →
      gives (.keyGroupEnd t p [(k, raw)]) s (fun w => w = (s.at t).keyMeasure p.val k e raw (s.portBusy p.val))) ∧
    (∀ (e : Nat) (nodes lines : List (Nat × Nat)), (s.touch p.val).scan = some (e, .mutualScan) → (s.touch p.val).startScans < 3 →
      e + Touch.scanNs (s.touch p.val) .mutualScan ≤ (s.at t).now →
      gives (.touchScanComplete t p nodes lines) s (fun w => (w.touch p.val).scan = none ∧
        (w.touch p.val).startScans = (s.touch p.val).startScans + 1 ∧ (w.touch p.val).mutualScans = (s.touch p.val).mutualScans + 1))

/-- Protection regions are written or refused, evidence scrubbed, posted refusals reported, and debug accesses checked. -/
def Obligations.ProtectionUnitActs : Prop :=
  ∀ (t : Nat) (s : State),
    (∀ (i : Fin 256) (j : Fin 4) (v : BitVec 32) (new : BitVec 128), regionLocked (Tab.get 0 s.prot.regions i.val) = false →
      s.locked = false → new = ((Tab.get 0 s.prot.regions i.val &&& ~~~(BitVec.ofNat 128 (2 ^ 32 - 1) <<< (32 * j.val))) |||
        (v.zeroExtend 128 <<< (32 * j.val))) &&& regionMask →
      (∀ q ∈ s.prot.regions, q.1 ≠ i.val → regionOverlap q.2 new = false) →
      gives (.mpuRegionWrite t i j v) s (fun w => Tab.get 0 w.prot.regions i.val = new ∧
        ∀ k, k ≠ i.val → (Tab.get 0 w.prot.regions k : BitVec 128) = Tab.get 0 s.prot.regions k)) ∧
    (∀ (i : Fin 256) (j : Fin 4) (v : BitVec 32), regionLocked (Tab.get 0 s.prot.regions i.val) = true →
      gives (.mpuRegionWrite t i j v) s (fun w => w.prot.regions = s.prot.regions ∧ w.prot.health.fwFault = true)) ∧
    (∀ (g : Fin 8388608) (tags : List (FrameRef × Nat)), (∀ p ∈ tags, (s.frame p.1).isFree = true) →
      gives (.evidenceScrub t g tags) s (fun w => w.dram = s.dram.filter (fun p => p.1 / 4096 != g.val) ∧
        Tab.get false w.prot.scrubbed g.val = true)) ∧
    (∀ (k : Nat) (x : Posted), s.prot.posted = [(k, x)] → (x.first / 1000000 + 1) * 1000000 ≤ (s.at t).now →
      gives (.postedNoticeWindow t) s (fun w => w.reg Reg.mpuNotices = satAdd32 (s.reg Reg.mpuNotices) 1 ∧
        raises .mpuPostedNotice k [x.first, x.count, x.kinds] s w)) ∧
    (∀ (a : Nat) (data : List (BitVec 8)), dramBase ≤ a →
      s.mpuCheck { cls := .dbg, write := true, first := a, last := a + (data.length - 1) } = none →
      gives (.debugAccess t true (.mem a) 0 data) s (fun w => w = (s.at t).dramWrite (a - dramBase) data)) ∧
    (∀ a n : Nat, dramBase ≤ a → s.mpuCheck { cls := .dbg, write := false, first := a, last := a + (n - 1) } = none →
      gives (.debugAccess t false (.mem a) n []) s (fun w => w = { s.at t with readData := leNat ((s.at t).dramRead (a - dramBase) n) })) ∧
    (∀ (o : Nat) (v : BitVec 32), o < 0x4000000 → o % 4 = 0 → s.locked = false → (o < 0x50000 ∨ 0x60000 ≤ o) →
      s.mpuCheck { cls := .dbg, write := true, first := 0x10000000 + o, last := 0x10000003 + o } = none →
      gives (.debugAccess t true (.mem (0x10000000 + o)) 0 ((List.range 4).map (fun i => v.extractLsb' (8 * i) 8))) s (fun w =>
        w = (s.at t).barWrite o v.toNat))

/-- Function-level reset, faults of memory and units, self-tests and the health report. -/
def Obligations.HealthAndResets : Prop :=
  ∀ (t : Nat) (s : State),
    (s.mode.phase = .up → ∀ c ∈ [Instr.functionLevelReset t, .pcieLinkDown t, .d3hotEntry t], gives c s (fun w =>
      w = (s.at t).flr ∧ w.glb.blobReading = false ∧ w.dict.mbxBusy = false ∧ w.dict.mbxDone = false ∧
      (w.updSource 1).status ≠ 1 ∧ (∀ p ∈ w.regs, flrReg p.1 = false) ∧ w.mode.phase = .up)) ∧
    (s.up = true → gives (.uncorrectableError t .sram) s (fun w => w.prot.health.eccUe = s.prot.health.eccUe + 1 ∧
        w.mode = s.mode) ∧
      (∀ u : IsoUnit, gives (.uncorrectableError t (.unit u)) s (fun w =>
        w = State.isolate ((s.at t).setHealth { s.prot.health with eccUe := s.prot.health.eccUe + 1 }) u ∧
        w.isolated u = true ∧ (s.isolated u = false → raises .modeIsolate 0 [(IsoUnit.name u).1, (IsoUnit.name u).2] s w))) ∧
      (holdable s.mode.mode = true → gives (.uncorrectableError t (.dram 0)) s (fun w =>
        w.mode.mode = .safeHold ∧ w.mode.shCause = .memory ∧ w.aon.shLatch = true))) ∧
    (∀ u : Fin 42, s.up = true → s.testable u.val = true → s.testIdle u.val = true → s.prot.health.pending.contains u.val = false →
      gives (.selftestRun t u true) s (fun w => Tab.get 0 w.prot.health.lastRun u.val = (s.at t).now ∧
        w.prot.health.pending = s.prot.health.pending) ∧
      gives (.selftestRun t u false) s (fun w => w.prot.health.pending = u.val :: s.prot.health.pending ∧
        raises .modeSelftestFail 0 [u.val, 0] s w)) ∧
    (∀ u : Fin 41, s.up = true → s.testable u.val = true → s.prot.health.starved.contains u.val = false →
      max (Tab.get 0 s.prot.health.lastRun u.val) s.prot.health.bootAt + 10 * s.testPeriod u.val ≤ (s.at t).now →
      gives (.selftestStarved t u) s (fun w => w.prot.health.starved = u.val :: s.prot.health.starved ∧
        raises .modeSelftestFail 0 [u.val, 1] s w)) ∧
    (s.up = true → s.prot.health.pending.contains 41 = false →
      gives (.pllMonitorFail t) s (fun w => w.prot.health.pending = 41 :: s.prot.health.pending ∧
        raises .modeSelftestFail 0 [41, 0] s w)) ∧
    (∀ (temp : BitVec 16) (ce : Nat), s.up = true →
      gives (.healthReport t temp ce) s (fun w => w.prot.health.seq = s.prot.health.seq + 1 ∧
        w.prot.health.report = withCrc ((s.at t).reportBody temp ce) ∧
        w.prot.health.faults = BitVec.ofNat 32 ((s.at t).faultBits temp) ∧ w.prot.health.eccUe = 0))

/-- Firmware update: begun, aborted, fed with chunks, its header and payload judged, timed out, confirmed and left. -/
def Obligations.UpdateProceeds : Prop :=
  ∀ (t : Nat) (s : State),
    (s.mode.phase = .up → s.mode.mode ≠ .standby →
      gives (.updBegin t) s (fun w => (w.updSource 1).status = 1 ∧ (w.updSource 1).len = some (s.reg Reg.updLen) ∧
        (w.updSource 1).received = 0) ∧
      (∀ k : Fin 13, (s.updSource k.val).status = 1 →
        gives (.updAbort t k) s (fun w => (w.updSource k.val).status = 13 ∧ w.claimBy k.val = false)) ∧
      (∀ (k : Fin 13) (data : List (BitVec 8)), (s.updSource k.val).status = 1 → s.prot.claim = none →
        (s.updSource k.val).received ≠ 0 →
        gives (.imageChunkRx t k data) s (fun w =>
          (w.updSource k.val).received = (s.updSource k.val).received + data.length ∧
          (w.updSource k.val).head = (s.updSource k.val).head ++ data)) ∧
      (∀ (k : Fin 13) (data : List (BitVec 8)), (s.updSource k.val).status = 1 → s.prot.claim = none →
        (s.updSource k.val).received = 0 →
        gives (.imageChunkRx t k data) s (fun w => (w.updSource k.val).received = data.length ∧ (w.updSource k.val).head = data)) ∧
      (∀ (k : Fin 13) (v : Nat), (s.updSource k.val).status = 1 → s.claimBy k.val = false → 4096 ≤ (s.updSource k.val).head.length →
        bit (headerOf (s.updSource k.val).head).targets 7 = false →
        v = (s.at t).headerStatus k.val (s.updSource k.val).len (s.updSource k.val).head →
        gives (.imageHeaderComplete t k) s (fun w => (w.updSource k.val).head = [] ∧
          if v = 0 then (w.updSource k.val).status = 1 ∧ raises .updClaimed 0 [k.val] s w ∧
            ∃ c, w.prot.claim = some c ∧ c.owner = k.val ∧ c.lastData = (s.at t).now
          else (w.updSource k.val).status = v ∧ w.prot.claim = s.prot.claim ∧ raises .updRefused 0 [k.val, v] s w)) ∧
      (∀ (k : Fin 13) (c : Claim) (rn : Bool), s.prot.claim = some c → s.updAll k.val = true → s.mode.mode ≠ .recovery →
        (s.updSource k.val).owed = none →
        sha256 ((s.flashRead (slotBase (c.target == 1)) c.header.imageLen).drop 4096) = c.header.payloadHash →
        gives (.imagePayloadComplete t k true rn) s (fun w => w.prot.claim = none ∧ (w.updSource k.val).status = 2 ∧
          (w.slot (c.target == 1)).state = .pending ∧ (w.slot (c.target == 1)).rollback = c.header.rollback ∧
          raises .updComplete 0 [] s w))) ∧
    (∀ c : Claim, s.prot.claim = some c → c.lastData + s.reg Reg.updIdleS * 1000000000 ≤ (s.at t).now →
      gives (.updateIdleTimeout t) s (fun w => w.prot.claim = none ∧ (w.updSource c.owner).status = 12)) ∧
    (s.up = true → (s.slot s.prot.runB).state = .trial → s.confirmMin * 60000000000 ≤ (s.at t).trialTime →
      gives (.trialConfirm t) s (fun w => (w.slot s.prot.runB).state = .good ∧
        w.prot.fuse = max s.prot.fuse (s.slot s.prot.runB).rollback ∧ raises .updConfirmed 0 [] s w)) ∧
    (s.mode.phase = .up → s.mode.mode = .recovery → s.prot.recoveryDone = true →
      gives (.recoveryNHigh t) s (fun w => w = (s.at t).deviceReset .recovery ∧ w.mode.phase = .boot ∧ w.mode.mode = .configure ∧
        w.aon.resetCause = .recovery ∧ w.dram = [] ∧ w.prot.fuse = s.prot.fuse ∧ w.sent = s.sent))

/-- Writes to an instance's page reach its queues and rings; vectors are held and masked. -/
def Obligations.InstancePageWritesTakeEffect : Prop :=
  ∀ (t : Nat) (n : Fin 32) (s : State), (s.inst n.val).state ≠ .resetting →
    (∀ (q : Fin 4) (v : BitVec 32), unread v.toNat (s.queue n.val q.val).head ≤ 2 ^ (s.queue n.val q.val).size →
      gives (.doorbellTailWrite t n q v) s (fun w => (w.queue n.val q.val).tail = v.toNat ∧
        (w.queue n.val q.val).err = (s.queue n.val q.val).err)) ∧
    (∀ (q : Fin 4) (v : BitVec 32), 2 ^ (s.queue n.val q.val).size < unread v.toNat (s.queue n.val q.val).head →
      gives (.doorbellTailWrite t n q v) s (fun w => (w.queue n.val q.val).err = true ∧ (w.queue n.val q.val).errCode = 1 ∧
        raises .instQueueErr n.val [q.val, 1] s w)) ∧
    (∀ (q : Fin 4) (v : BitVec 32) (o : Fin 65536), o.val = 0x40 * q.val + 0x14 → v.getLsbD 1 = true →
      gives (.doorbellPageWrite t n o v) s (fun w => (w.queue n.val q.val).en = v.getLsbD 0 ∧ (w.queue n.val q.val).err = false)) ∧
    (∀ v : BitVec 32, gives (.cqHeadWrite t n v) s (fun w => w = (s.at t).cqHead n.val v.toNat)) ∧
    (∀ v : BitVec 32, gives (.evqRdWrite t n v) s (fun w => w = (s.at t).evqRd n.val v.toNat)) ∧
    (∀ r : Event, (s.inst n.val).evq.en = true → (s.inst n.val).evq.signalled = false →
      (s.inst n.val).evq.records.head? = some r → r.time + (s.inst n.val).evq.holdUs * 16000 ≤ (s.at t).now →
      gives (.vectorHoldExpire t n true) s (fun w => (w.inst n.val).evq.signalled = true)) ∧
    (∀ r : Completion, (s.inst n.val).cq.en = true → (s.inst n.val).cq.signalled = false →
      (s.inst n.val).cq.records.head? = some r → r.time + (s.inst n.val).evq.holdUs * 16000 ≤ (s.at t).now →
      gives (.vectorHoldExpire t n false) s (fun w => (w.inst n.val).cq.signalled = true)) ∧
    (∀ v : BitVec 32, gives (.vecMaskWrite t n (.page false v)) s (fun w => w = (s.at t).vecMaskWrite n.val false v) ∧
      gives (.vecMaskWrite t n (.page true v)) s (fun w => w = (s.at t).vecMaskWrite n.val true v)) ∧
    (∀ (v : Fin 64) (x : BitVec 32), gives (.vecMaskWrite t n (.msg v x)) s (fun w =>
      w.reg (Reg.instMsgCtrl n.val v.val) = x.toNat % 2)) ∧
    (∀ (v : Fin 64) (x : BitVec 32), gives (.vecMaskWrite t n (.global v x)) s (fun w => w.reg (Reg.msixCtrl v.val) = x.toNat % 2))

/-- Work orders are read, started and completed: NOP, a reserved operation, COPY, and surface commits with and without a free buffer. -/
def Obligations.WorkOrdersRun : Prop :=
  ∀ (t : Nat) (n : Fin 32) (s : State),
    (∀ (q : Fin 4) (b : List (BitVec 8)) (o : OrderData), s.canRead n.val q.val = true →
      gives (.workOrderRead t n q ⟨some b, o⟩) s (fun w => w = (s.at t).takeOrder n.val q.val (workOrder b o)) ∧
      gives (.workOrderRead t n q ⟨none, o⟩) s (fun w => (w.queue n.val q.val).err = true ∧ (w.queue n.val q.val).errCode = 2 ∧
        raises .instQueueErr n.val [q.val, 2] s w)) ∧
    (∀ (q : Fin 4) (o : WorkOrder), o.op = .nop → (((s.takeOrder n.val q.val o).inst n.val).works =
      (s.inst n.val).works ++ [{ id := (s.inst n.val).nextWork, queue := q.val, order := o, acceptedAt := s.now }]) ∧
      ((s.takeOrder n.val q.val o).queue n.val q.val).head = ((s.queue n.val q.val).head + 1) % 2 ^ 32) ∧
    (∀ (id : Nat) (w : Work), (s.at t).startable n.val id = some w →
      (w.order.op = .nop → gives (.nop t n id) s (fun x => x = (s.at t).complete n.val id 0 0 0)) ∧
      (∀ c, w.order.op = .bad c → gives (.badOp t n id) s (fun x => x = (s.at t).complete n.val id 4 0 0)) ∧
      (∀ h r d a len, w.order.op = .copy h r d a len → gives (.copy t n id) s (fun x =>
        x = ((s.at t).setWork n.val { w with stage := .copying, len := len, due := noDue }).runDma)) ∧
      (∀ k h x y rw rh a p, w.order.op = .surfCommit k h x y rw rh a p → gives (.surfCommit t n id) s (fun z =>
        z = (s.at t).tryCommit n.val w k rw rh))) ∧
    (∀ (id : Nat) (w : Work), s.work n.val id = some w → w.stage = .needBuffer →
      (∀ k h x y rw rh a p, w.order.op = .surfCommit k h x y rw rh a p → gives (.surfCommitBufferAcquire t n id) s (fun z =>
        z = (s.at t).tryCommit n.val w k rw rh))) ∧
    (∀ (w : Work) (k rw rh : Nat), s.ownsSurf n.val k = true → freeBuf (s.surf k).bufs (s.surf k).nBufs 0 = none →
      s.tryCommit n.val w k rw rh = s.setWork n.val { w with stage := .needBuffer }) ∧
    (∀ (id status reason result : Nat) (w : Work) (c : Completion), s.work n.val id = some w → w.order.irq = false → status ≠ 1 →
      c = { tag := w.order.tag, queue := w.queue, status := status, reason := 0, result := result % 65536, time := s.now } →
      (s.complete n.val id status reason result).work n.val id = none ∧
      .completion n.val (ringPlace (s.inst n.val).cq.base (s.inst n.val).cq.size 16 (s.inst n.val).cq.tail) (Completion.bytes c) ∈
        (s.complete n.val id status reason result).sent)

/-- Work orders that ask for admission place their request, received when the order was read; admitted, the order is complete and has had its
effect: a surface is created or destroyed, windows commit, a checker is set, a safelight request waits for its epoch. -/
def Obligations.WorkRequestsArePlaced : Prop :=
  ∀ (t : Nat) (n : Fin 32) (id : Nat) (w : Work) (s u : State), (s.at t).startable n.val id = some w →
    u = (s.at t).setWork n.val { w with stage := .queued } →
    (∀ f x y r, w.order.op = .surfCreate f x y r → admits (.surfCreate t n id) s u
      { by_ := .work n.val w.id, received := w.acceptedAt, changes := [.surfCreate n.val f x y r] }
      (fun z => z.work n.val w.id = none ∧ ∃ k, s.freeSurf = some k ∧ (z.surf k).created = true ∧ (z.surf k).owner = n.val)) ∧
    (∀ k, w.order.op = .surfDestroy k → admits (.surfDestroy t n id) s u
      { by_ := .work n.val w.id, received := w.acceptedAt, changes := [.surfDestroy n.val k] }
      (fun z => z.work n.val w.id = none ∧ (z.surf k).created = false)) ∧
    (∀ e, w.order.op = .winBatch e → admits (.winBatch t n id) s u
      { by_ := .work n.val w.id, received := w.acceptedAt, changes := [.winBatch (some n.val) e] }
      (fun z => z.work n.val w.id = none ∧ z.win.active = !s.win.active ∧ z.win.genSeq = s.win.seq + 1)) ∧
    (∀ k x y a b p, w.order.op = .blazeSet k x y a b p → admits (.blazeSet t n id) s u
      { by_ := .work n.val w.id, received := w.acceptedAt, changes := [.blazeSet n.val k x y a b p] }
      (fun z => z.work n.val w.id = none ∧ (z.surf k).blaze = { en := a != 0, x := x, y := y, w := a, h := b, period := p })) ∧
    (∀ x : SafeRequest, w.order.op = .safeReq x → w.order.lost = false → admitsSafety (.safeReq t n id) s u
      { by_ := .work n.val w.id, received := (s.at t).now, changes := [.safety (.inst n.val x)] }
      (fun z => z.work n.val w.id = none ∧ ∃ p, z.safe.queue = s.safe.queue ++ [p] ∧ p.by_ = .inst n.val ∧ p.receipt = (s.at t).now ∧
        p.heads = safeHeads x ∧ p.glyphs = x.glyphs))

/-- Transfers move block by block, wait for translations and pages, and the host's answers and invalidations are taken. -/
def Obligations.TransfersAdvance : Prop :=
  ∀ (t : Nat) (s : State),
    (∀ (n id : Nat) (w : Work) (stalls : List (Nat × Nat)) (rd wr : Nat), s.dma = some (n, id) → s.work n id = some w →
      (∀ h r d a len pages bytes, w.order.op = .copy h r d a len →
        gives (.dmaBlockComplete t (.data pages bytes) stalls rd wr) s (fun x =>
          x = ((s.at t).blockSlots stalls rd wr true).copyData n w h r d.toNat a pages bytes)) ∧
      (∀ page, gives (.dmaBlockComplete t (.noTranslation page) stalls rd wr) s (fun x =>
        x = (((s.at t).blockSlots stalls rd wr false).sendGroup n { w with waitPri := true, priPage := page }).stopTransfer n
          { w with waitPri := true, priPage := page })) ∧
      (∀ va, s.pagesOk n w = false → gives (.dmaBlockComplete t (.deviceFault va) stalls rd wr) s (fun x =>
        x = (((s.at t).blockSlots stalls rd wr false).instFaultAt n va.toNat 0 (writesDevice w.order.op)).stopTransfer n
          { w with waitPage := true }))) ∧
    (∀ (n : Fin 32) (g : Nat) (ok : Bool) (x : PageGroup), (s.inst n.val).groups.find? (fun y => y.id == g) = some x →
      gives (.priResponseRx t n g ok) s (fun w => w = (s.at t).groupEnds n.val x ok)) ∧
    (∀ (n : Fin 32) (g : Nat) (x : PageGroup), (s.inst n.val).groups.find? (fun y => y.id == g) = some x →
      x.sentAt + 10000000 ≤ (s.at t).now →
      gives (.priTimeout t n g) s (fun w => ∃ u : State, w = u.groupEnds n.val x false ∧
        u.reg (Reg.instPriTimeouts n.val) = satAdd32 (s.reg (Reg.instPriTimeouts n.val)) 1 ∧
        raises .instPriTimeout n.val [(s.inst n.val).grants.pasid.toNat, x.page.toNat] s u)) ∧
    (∀ (n : Fin 32) (page : BitVec 64) (len : Nat),
      gives (.atsInvalidateRx t n page len) s (fun w => w.sent = s.sent ++ [.atsComplete n.val] ∧
        (∀ q ∈ w.atc, q.1 = (s.inst n.val).grants.pasid → q.2.toNat < page.toNat ∨ page.toNat + len ≤ q.2.toNat) ∧
        (∀ q ∈ s.atc, q.1 ≠ (s.inst n.val).grants.pasid → q ∈ w.atc)))

/-- The instance operations and the page-map commands place their requests; admitted, an operation has set DONE with result 0 and waits for
its change epoch, drains, saves or restores, and pages are mapped or wait to be revoked. -/
def Obligations.InstanceOperationsArePlaced : Prop :=
  ∀ (t : Nat) (n : Fin 32) (s u v : State), s.up = true →
    u = (s.at t).setInst n.val { s.inst n.val with done := false, staged := [] } →
    v = (s.at t).setInst n.val { s.inst n.val with mmuDone := false } →
    admits (.instCreate t n) s u { by_ := .instRegs n.val, received := u.now, changes := [.inst n.val (.create ((s.at t).stagedGrants n.val))] }
      (fun w => (w.inst n.val).done = true ∧ (w.inst n.val).result = 0 ∧
        ∃ e, (w.inst n.val).changes = (s.inst n.val).changes ++ [(.create ((s.at t).stagedGrants n.val), e)]) ∧
    admits (.instChange t n) s u { by_ := .instRegs n.val, received := u.now, changes := [.inst n.val (.change ((s.at t).stagedGrants n.val))] }
      (fun w => (w.inst n.val).done = true ∧ (w.inst n.val).result = 0 ∧
        ∃ e, (w.inst n.val).changes = (s.inst n.val).changes ++ [(.change ((s.at t).stagedGrants n.val), e)]) ∧
    (∀ squash clear : Bool, admits (.instReset t n squash clear) s u
      { by_ := .instRegs n.val, received := u.now, changes := [.inst n.val (.reset squash clear)] }
      (fun w => (w.inst n.val).done = true ∧ (w.inst n.val).result = 0 ∧ (w.inst n.val).state = .resetting ∧
        (w.inst n.val).draining = true)) ∧
    admits (.instFreeze t n) s u { by_ := .instRegs n.val, received := u.now, changes := [.inst n.val .freeze] }
      (fun w => (w.inst n.val).done = true ∧ (w.inst n.val).result = 0 ∧
        ∃ e, (w.inst n.val).changes = (s.inst n.val).changes ++ [(.freeze, e)]) ∧
    (∀ need : Nat, admits (.instSave t n need) s u
      { by_ := .instRegs n.val, received := u.now, changes := [.inst n.val (.save need (s.blobAddr n.val) (s.reg (Reg.instBlobLen n.val)))] }
      (fun w => (w.inst n.val).done = true ∧ (w.inst n.val).result = 0 ∧ (w.inst n.val).saving = some need)) ∧
    (∀ (bytes : List (BitVec 8)) (b c : RestoreBlob), c = readBlob (s.reg (Reg.instBlobLen n.val)) bytes b →
      admits (.instRestore t n ⟨bytes, b⟩) s u
        { by_ := .instRegs n.val, received := u.now, changes := [.inst n.val (.restore ((s.at t).stagedGrants n.val).pasid ((s.at t).stagedGrants n.val).msgs c)] }
      (fun w => (w.inst n.val).done = true ∧ (w.inst n.val).result = 0 ∧ (w.inst n.val).state = .restoring ∧
        (w.inst n.val).restoring = some c)) ∧
    admits (.instThaw t n) s u { by_ := .instRegs n.val, received := u.now, changes := [.inst n.val .thaw] }
      (fun w => (w.inst n.val).done = true ∧ (w.inst n.val).result = 0 ∧
        ∃ e, (w.inst n.val).changes = (s.inst n.val).changes ++ [(.thaw, e)]) ∧
    admits (.instDestroy t n) s u { by_ := .instRegs n.val, received := u.now, changes := [.inst n.val .destroy] }
      (fun w => (w.inst n.val).done = true ∧ (w.inst n.val).result = 0 ∧ (w.inst n.val).state = .resetting ∧
        (w.inst n.val).destroying = true) ∧
    admits (.mmuMap t n) s v
      { by_ := .mmuRegs n.val, received := v.now, changes := [.map n.val (s.reg (Reg.mmuVpn n.val)) (s.reg (Reg.mmuPpn n.val)) (s.reg (Reg.mmuCount n.val))] }
      (fun w => (w.inst n.val).mmuDone = true ∧ (w.inst n.val).mmuResult = 0 ∧ ∀ k, k < s.reg (Reg.mmuCount n.val) →
        Tab.get 0 (w.inst n.val).pages (s.reg (Reg.mmuVpn n.val) + k) = s.reg (Reg.mmuPpn n.val) + k + 1) ∧
    admits (.mmuRevoke t n) s v
      { by_ := .mmuRegs n.val, received := v.now, changes := [.revoke n.val (s.reg (Reg.mmuVpn n.val)) (s.reg (Reg.mmuCount n.val))] }
      (fun w => (w.inst n.val).mmuDone = true ∧ (w.inst n.val).mmuResult = 0 ∧
        ∃ e, (w.inst n.val).changes = (s.inst n.val).changes ++
          [(.revoke (s.reg (Reg.mmuVpn n.val)) (s.reg (Reg.mmuCount n.val)), e)])

/-- What accepted instance operations do, at once or at their change epoch: create, freeze, thaw, reset, save, restore. -/
def Obligations.InstanceOperationsTakeEffect : Prop :=
  ∀ (t a rx : Nat) (n : Fin 32) (s : State),
    (∀ g : Grants, ((State.act a rx s (.inst n.val (.create g))).inst n.val).changes =
      (s.inst n.val).changes ++ [(.create g, s.changeEpoch a g)]) ∧
    (((State.act a rx s (.inst n.val .freeze)).inst n.val).changes =
      (s.inst n.val).changes ++ [(.freeze, s.changeEpoch a (s.inst n.val).grants)]) ∧
    (∀ clear : Bool, ((State.act a rx s (.inst n.val (.reset false clear))).inst n.val).state = .resetting ∧
      ((State.act a rx s (.inst n.val (.reset false clear))).inst n.val).draining = true) ∧
    (∀ (need len : Nat) (adr : BitVec 64), ((State.act a rx s (.inst n.val (.save need adr len))).inst n.val).saving = some need) ∧
    (∀ (p : BitVec 20) (m : Tab VecMsg) (b : RestoreBlob),
      ((State.act a rx s (.inst n.val (.restore p m b))).inst n.val).state = .restoring ∧
      ((State.act a rx s (.inst n.val (.restore p m b))).inst n.val).grants = { b.grants with pasid := p, msgs := m }) ∧
    (∀ (g : Grants) (e : Nat), (s.inst n.val).changes = [(.create g, e)] → e ≤ (s.at t).now →
      gives (.instChangeEpoch t n) s (fun w => (w.inst n.val).state = .active ∧ (w.inst n.val).grants = g ∧
        (w.inst n.val).changes = [])) ∧
    (∀ e : Nat, (s.inst n.val).changes = [(.freeze, e)] → e ≤ (s.at t).now →
      gives (.instChangeEpoch t n) s (fun w => (w.inst n.val).freezing = true ∧ (w.inst n.val).draining = true ∧
        (w.inst n.val).drainStart = (s.at t).now)) ∧
    ((s.inst n.val).draining = true → (s.inst n.val).works ≠ [] → (s.inst n.val).freezing = true →
      (s.inst n.val).drainStart + (s.inst n.val).grants.drainMs * 1000000 ≤ (s.at t).now →
      gives (.instDrainTimeout t n) s (fun w => (w.inst n.val).freezing = false ∧ (w.inst n.val).draining = false ∧
        (w.inst n.val).done = true ∧ (w.inst n.val).result = reasonCode (cMode, 0x43))) ∧
    ((s.inst n.val).draining = true → (s.inst n.val).works ≠ [] → (s.inst n.val).freezing = false →
      (s.inst n.val).drainStart + (s.inst n.val).grants.drainMs * 1000000 ≤ (s.at t).now →
      gives (.instDrainTimeout t n) s (fun w => w = (s.at t).squash n.val)) ∧
    ((s.inst n.val).state = .resetting → (s.inst n.val).works = [] → (s.inst n.val).destroying = false →
      gives (.resetDrainComplete t n) s (fun w => (w.inst n.val).state = .active ∧ raises .instResetDone n.val [] s w)) ∧
    ((s.inst n.val).state = .resetting → (s.inst n.val).works = [] → (s.inst n.val).destroying = true →
      gives (.resetDrainComplete t n) s (fun w => (w.inst n.val).state = .free ∧ (w.inst n.val).queues = [] ∧
        (w.inst n.val).grants = {})) ∧
    ((s.inst n.val).freezing = true → (s.inst n.val).works = [] → (s.inst n.val).groups = [] →
      gives (.freezeComplete t n) s (fun w => (w.inst n.val).state = .frozen ∧ (w.inst n.val).freezing = false ∧
        raises .instFrozen n.val [] s w)) ∧
    (∀ len : Nat, (s.inst n.val).saving = some len →
      gives (.saveComplete t n) s (fun w => (w.inst n.val).saving = none ∧ w.reg (Reg.instBlobLen n.val) = len ∧
        w.sent = s.sent ++ [.saveBlob n.val (s.blobAddr n.val) ((s.at t).saveBytes ((s.at t).savedInst n.val) len)])) ∧
    (∀ b : RestoreBlob, (s.inst n.val).restoring = some b → (s.inst n.val).state = .restoring →
      gives (.restoreComplete t n) s (fun w => (w.inst n.val).state = .frozen ∧ (w.inst n.val).restoring = none ∧
        raises .instRestored n.val [] s w))

/-- ACTION writes of dictionary objects, windows and salvos place the changes staged in their session; admitted, the object holds the settings
overlaid, is off, the windows have committed, the salvo is prepared, has its time or is gone. -/
def Obligations.ObjectActionsArePlaced : Prop :=
  ∀ (t : Nat) (p : DictPort) (s u : State) (x : Session), u = opened (s.at t) p → x = s.session (DictPort.session p) →
    (∀ (idx : BitVec 16) (k : ObjKind), objKind idx.toNat = some k → (∀ n, k ≠ .salvo n) → writable s p idx.toNat 0x40 [1] →
      admits (.objectApply t p idx) s u (portRequest u p idx.toNat 0x40 [.apply idx.toNat (Tab.get [] x.objs idx.toNat)])
        (fun w => (w.obj idx.toNat).set = overlay (s.obj idx.toNat).set (Tab.get [] x.objs idx.toNat))) ∧
    (∀ (idx : BitVec 16) (k : ObjKind), objKind idx.toNat = some k → (∀ n, k ≠ .salvo n) → writable s p idx.toNat 0x40 [2] →
      admits (.objectStop t p idx) s u (portRequest u p idx.toNat 0x40 [.stop idx.toNat])
        (fun w => (w.obj idx.toNat).on = false)) ∧
    (writable s p 0x5100 3 [1] →
      admits (.windowBatchCommit t p) s u (portRequest u p 0x5100 3 [.winBatch (DictPort.obo p) (stagedWins x)])
        (fun w => w.win.active = !s.win.active ∧ w.win.genSeq = s.win.seq + 1)) ∧
    (∀ k : Fin 8, writable s p (0x4200 + k.val) 0x40 [1] →
      admits (.salvoPrepare t p k) s u (portRequest u p (0x4200 + k.val) 0x40
        [.prepare k.val (bytePairs (Tab.get [] (Tab.get [] x.objs (0x4200 + k.val)) 1))
          (if stagedWins x = [] then none else some (stagedWins x)) (stagedDecls x)])
        (fun w => (w.salvo k.val).prepared = true ∧ (w.salvo k.val).commitAt = none ∧
          (w.salvo k.val).bindings = bytePairs (Tab.get [] (Tab.get [] x.objs (0x4200 + k.val)) 1))) ∧
    (∀ k : Fin 8, writable s p (0x4200 + k.val) 0x40 [2] →
      admits (.salvoCommit t p k) s u (portRequest u p (0x4200 + k.val) 0x40
        [.commit k.val (leNat (Tab.get [] (Tab.get [] x.objs (0x4200 + k.val)) 2))])
        (fun w => ∃ c, (w.salvo k.val).commitAt = some c ∧ u.acceptTime ≤ c)) ∧
    (∀ k : Fin 8, writable s p (0x4200 + k.val) 0x40 [3] →
      admits (.salvoCancel t p k) s u (portRequest u p (0x4200 + k.val) 0x40 [.cancel k.val])
        (fun w => (w.salvo k.val).prepared = false))

/-- Dictionary writes to the safety partition place glyph, palette, cell and alarm requests; admitted, they wait for their epochs. -/
def Obligations.SafetyRequestsArePlaced : Prop :=
  ∀ (t : Nat) (p : DictPort) (s u : State) (x : Session), u = opened (s.at t) p → x = s.session (DictPort.session p) →
    (∀ data : List (BitVec 8), writable s p 0x6000 2 data →
      admitsSafety (.glyphBitmapRequest t p data) s u (portRequest u p 0x6000 2
        [.safety (.field { heads := 0, glyphs := [(safeVal x 0x6000 1, glyphPixels data)], palette := [], cells := [] })])
        (fun w => ∃ e, w.safe.queue = s.safe.queue ++ [e] ∧ e.by_ = .field ∧ e.receipt = u.now ∧ e.heads = 0xFFFF ∧
          e.glyphs = [(safeVal x 0x6000 1, glyphPixels data)] ∧ e.palette = [] ∧ e.cells = [])) ∧
    (∀ (data : List (BitVec 8)) (pal : List (Nat × Nat × BitVec 32)), writable s p 0x6001 3 data →
      pal = ((words32 data).zipIdx).map (fun e => (safeVal x 0x6001 2, e.2, e.1)) →
      admitsSafety (.paletteEntriesRequest t p data) s u (portRequest u p 0x6001 3
        [.safety (.field { heads := BitVec.ofNat 16 (safeVal x 0x6001 1), glyphs := [], palette := pal, cells := [] })])
        (fun w => ∃ e, w.safe.queue = s.safe.queue ++ [e] ∧ e.by_ = .field ∧ e.receipt = u.now ∧ e.palette = pal ∧
          e.glyphs = [] ∧ e.cells = [])) ∧
    (writable s p 0x6002 0x10 [1] →
      admitsSafety (.cellFillRequest t p) s u (portRequest u p 0x6002 0x10
        [.safety (.field { heads := BitVec.ofNat 16 (safeVal x 0x6002 1), glyphs := [], palette := [], cells := stagedCells x })])
        (fun w => ∃ e, w.safe.queue = s.safe.queue ++ [e] ∧ e.by_ = .field ∧ e.receipt = u.now ∧
          e.cells.length = (headsOf (BitVec.ofNat 16 (safeVal x 0x6002 1))).length * (stagedCells x).length) ∧
      (stagedCells x).length = safeVal x 0x6002 4 * safeVal x 0x6002 5) ∧
    (∀ (q : Fin 16) (v : BitVec 16), writable s p 0x6020 (q.val + 1) (leBytes 2 v.toNat) → v.toNat &&& 0x78F0 = 0 →
      admitsSafety (.alarmRequestWrite t p q v) s u (portRequest u p 0x6020 (q.val + 1) [.safety (.request q.val v.toNat)])
        (fun w => w.console.alarmWait = s.console.alarmWait ++ [(q.val, v.toNat, u.now)] ∧ Tab.get 0 w.dict.requests q.val = v))

/-- Settings are stored, a store completes, defaults are asked for and loaded, and stale sessions are cleared. -/
def Obligations.SettingsStoreWorks : Prop :=
  ∀ (t : Nat) (s : State),
    (∀ p : DictPort, writable s p 0x1010 1 (leBytes 4 0x65766173) → s.dict.storing = none →
      gives (.storeAll t p 0x65766173) s (fun w => w.dict.storing.isSome = true ∧ (w.store.a = .corrupt ∨ w.store.b = .corrupt))) ∧
    (∀ p : DictPort, writable s p 0x1011 1 (leBytes 4 0x64616F6C) →
      gives (.restoreDefaults t p 0x64616F6C) s (fun w => w.store.restore = true)) ∧
    (∀ x : StoreArea, s.dict.storing = some (false, x) →
      gives (.storeComplete t) s (fun w => w.store.a = x ∧ w.store.b = s.store.b ∧ w.dict.storing = none ∧
        w.store.stores = s.store.stores + 1)) ∧
    (∀ x : StoreArea, s.dict.storing = some (true, x) →
      gives (.storeComplete t) s (fun w => w.store.b = x ∧ w.store.a = s.store.a ∧ w.dict.storing = none ∧
        w.store.stores = s.store.stores + 1)) ∧
    (∀ k : Fin 11, (s.session k.val).lastWrite + 10000000000 ≤ (s.at t).now →
      gives (.sessionStageTimeout t k) s (fun w => w.session k.val = {})) ∧
    (s.mode.phase = .up → s.mode.mode = .configure → s.dict.loaded = false → s.store.restore = false → s.store.a = .erased →
      s.store.b = .erased → gives (.settingsLoad t) s (fun w =>
        w = ((State.runQueue ((s.at t).settingsLoaded 5).autorun).autostart 0).autostart 1)) ∧
    (∀ q l o ws pl al, s.mode.phase = .up → s.mode.mode = .configure → s.dict.loaded = false → s.store.restore = false →
      s.newerCopy = some (.copy q l o ws pl al) → l = s.runLayout → gives (.settingsLoad t) s (fun w =>
        w = ((State.runQueue ((s.at t).enqueue ((s.at t).storedRequest o ws pl))).autostart 0).autostart 1))

/-- CAN nodes answer reads, time out transfers, follow NMT, send heartbeats and TPDOs, and leave and re-enter the bus. -/
def Obligations.CanNodesFollowNmt : Prop :=
  ∀ (t : Nat) (n : Fin 2) (s : State),
    (s.nodeUp n.val = true →
      gives (.nmtStart t n) s (fun w => (w.canNode n.val).nmt = 1) ∧ gives (.nmtStop t n) s (fun w => (w.canNode n.val).nmt = 2) ∧
      gives (.nmtResetCommunication t n) s (fun w => w = (s.at t).nmtReset n.val) ∧
      gives (.nmtResetNode t n) s (fun w => w = (s.at t).nmtReset n.val)) ∧
    (s.nodeUp n.val = true → 0 < s.plain 0x1017 0 1000 →
      (s.canNode n.val).heartbeatAt + s.plain 0x1017 0 1000 * 1000000 ≤ (s.at t).now →
      gives (.heartbeatSend t n) s (fun w => w.sent = s.sent ++ [.heartbeat n.val (s.canNode n.val).nmt] ∧
        (w.canNode n.val).heartbeatAt = (s.at t).now)) ∧
    (∀ k : Fin 3, s.nodeUp n.val = true → (s.canNode n.val).nmt = 1 → Tab.get ([], 0) (s.canNode n.val).tpdo k.val = ([], 0) →
      (s.at t).tpdoContent k.val ≠ [] →
      gives (.tpdoTransmit t n k) s (fun w => w.sent = s.sent ++ [.tpdo n.val (k.val + 1) ((s.at t).tpdoContent k.val)] ∧
        Tab.get ([], 0) (w.canNode n.val).tpdo k.val = ((s.at t).tpdoContent k.val, (s.at t).now))) ∧
    (s.canUp n.val = true → gives (.busOffEntry t n) s (fun w => (w.canNode n.val).bus = 2 ∧ raises .modeCanBusoff n.val [] s w)) ∧
    (s.up = true → (s.canNode n.val).bus = 2 → gives (.busOffRecovery t n) s (fun w => (w.canNode n.val).bus = 0 ∧
      (w.canNode n.val).tec = 0 ∧ raises .modeCanBuson n.val [] s w)) ∧
    (∀ (idx : BitVec 16) (sub : BitVec 8), s.usdoUp n.val = true → readAbort (.can n) idx.toNat sub.toNat = 0 →
      gives (.usdoUpload t n idx sub) s (fun w => w.sent = s.sent ++
        [.usdo n.val idx.toNat sub.toNat 0 (bytesAt ((s.at t).dictValue (.can n) idx.toNat sub.toNat) 0 16777216)])) ∧
    (∀ (idx : BitVec 16) (sub : BitVec 8) (data : List (BitVec 8)), s.usdoUp n.val = true →
      writeAbort (.can n) idx.toNat sub.toNat = 0 → idx.toNat = 0x6000 → sub.toNat = 1 → data.length = 2 →
      gives (.usdoDownload t n idx sub true true data) s (fun w => Tab.get [] (Tab.get [] (w.session n.val).safe 0x6000) 1 = data ∧
        .usdo n.val 0x6000 1 0 [] ∈ w.sent)) ∧
    (∀ i j a : Nat, (s.canNode n.val).transfer = some (i, j, a) → s.up = true → a + 8000000000 ≤ (s.at t).now →
      gives (.usdoProtocolTimeout t n) s (fun w => (w.canNode n.val).transfer = none ∧
        w.sent = s.sent ++ [.usdo n.val i j 0x05040000 []]))

/-- LSS selects and configures a node, and UDP and mailbox accesses reach the dictionary: a read answers the object's bytes, a write stages
its value. -/
def Obligations.LssUdpAndMailbox : Prop :=
  ∀ (t : Nat) (s : State),
    (∀ (n : Fin 2) (q : BitVec 32), s.canUp n.val = true → q = BitVec.ofNat 32 s.board.serial.toNat →
      gives (.lssSwitchStateSelective t n 0xDA05 0x128 0xA1 q) s (fun w => (w.canNode n.val).lss = true ∧
        w.sent = s.sent ++ [.lss n.val 0x44 0])) ∧
    (∀ (n : Fin 2) (id : BitVec 8), s.canUp n.val = true → (s.canNode n.val).lss = true →
      ((1 ≤ id.toNat ∧ id.toNat ≤ 127) ∨ id = 0xFF) →
      gives (.lssConfigureNodeId t n id) s (fun w => (w.canNode n.val).nodeId = id ∧ w.sent = s.sent ++ [.lss n.val 0x11 0])) ∧
    (∀ (n : Fin 2) (a b : BitVec 8), s.canUp n.val = true → (s.canNode n.val).lss = true → a.toNat < 4 → b.toNat < 4 →
      gives (.lssConfigureBitTiming t n a b) s (fun w => (w.canNode n.val).nominal = a.toNat ∧ (w.canNode n.val).data = b.toNat ∧
        w.sent = s.sent ++ [.lss n.val 0x13 0])) ∧
    (∀ n : Fin 2, s.canUp n.val = true → (s.canNode n.val).lss = true →
      gives (.lssStoreConfiguration t n) s (fun w => Tab.get none w.store.lss n.val =
        some ((s.canNode n.val).nodeId, (s.canNode n.val).nominal, (s.canNode n.val).data) ∧ w.sent = s.sent ++ [.lss n.val 0x17 0])) ∧
    (∀ (m : UdpMsg) (k : Fin 8) (tid : Nat) (u : State), u = ((s.at t).udpAccept m).1 →
      ((s.at t).udpAccept m).2 = some (.udp k tid) →
      (gives (.udpRead t m) s (fun w =>
        w = u.dictRead (.udp k tid) m.index.toNat m.sub.toNat m.offset.toNat (min m.len.toNat 1024)) ∧
      (readAbort (.udp k tid) m.index.toNat m.sub.toNat = 0 → gives (.udpRead t m) s (fun w => w.sent = u.sent ++
        [.udp k.val 0 0 (bytesAt (u.dictValue (.udp k tid) m.index.toNat m.sub.toNat) m.offset.toNat (min m.len.toNat 1024))])) ∧
      gives (.udpWrite t m) s (fun w => w = u.dictWriteAnswer (.udp k tid) m.index.toNat m.sub.toNat m.offset.toNat true m.data) ∧
      (m.index = 0x4100 → m.sub = 1 → m.offset.toNat = 0 → (m.data = [0] ∨ m.data = [1]) →
        gives (.udpWrite t m) s (fun w => Tab.get [] (Tab.get [] (w.session (2 + k.val)).objs 0x4100) 1 = m.data ∧
          w.sent = u.sent ++ [.udp k.val 0 0 []])))) ∧
    (∀ (cmd : BitVec 32) (u : State) (idx sub : Nat), s.up = true → s.dict.mbxBusy = false →
      idx = bits (s.reg Reg.mbxAddr) 15 0 → sub = bits (s.reg Reg.mbxAddr) 23 16 →
      u = { s.at t with dict := { s.dict with mbxBusy := true, mbxDone := false } } →
      gives (.mbxRead t cmd) s (fun w => w = u.dictRead (mailboxPort cmd) idx sub (s.reg Reg.mbxOffset) (min (s.reg Reg.mbxLen) 1024) ∧
        w.dict.mbxBusy = false ∧ w.dict.mbxDone = true ∧ w.dict.mbxAbort = readAbort (mailboxPort cmd) idx sub) ∧
      (s.reg Reg.mbxLen ≤ 1024 →
        gives (.mbxWrite t cmd) s (fun w => w = u.dictWriteAnswer (mailboxPort cmd) idx sub (s.reg Reg.mbxOffset) true
          (s.mailboxBytes (s.reg Reg.mbxLen)))) ∧
      (cmd.getLsbD 15 = false → s.reg Reg.mbxLen = 1 → s.reg Reg.mbxOffset = 0 → idx = 0x4100 → sub = 1 →
        s.mailboxBytes 1 = [0] ∨ s.mailboxBytes 1 = [1] →
        gives (.mbxWrite t cmd) s (fun w => Tab.get [] (Tab.get [] (w.session 10).objs 0x4100) 1 = s.mailboxBytes 1 ∧
          w.dict.mbxBusy = false ∧ w.dict.mbxDone = true ∧ w.dict.mbxAbort = 0)))

/-- Requests of the global registers: the queue is served, a blob is read and applied, ECC zones change, a generation commits, a salvo
switches. -/
def Obligations.GlobalRequestsArePlaced : Prop :=
  ∀ (t : Nat) (s : State),
    gives (.admissionRequestJudge t) s (fun w => w = (s.at t).runQueue) ∧
    (∀ (v : BitVec 32) (r : Request) (u : State), s.adm.queue = [r] → r.by_ = .eccRegs → r.changes = [.eccZones v] →
      r.blob = none → r.stored = false → r.obo = none → u = { s.at t with adm := { s.adm with queue := [] } } → atOnce u r →
      (admissible u r → gives (.admissionRequestJudge t) s (fun w => w = admitted u r ∧ w.reg 0x54 = 2 ^ 31 ∧
        w.adm.ecc = s.eccValue v ∧ w.adm.queue = [])) ∧
      (¬ admissible u r → gives (.admissionRequestJudge t) s (fun w => w.adm.ecc = s.adm.ecc ∧ w.adm.queue = [] ∧
        w.reg 0x54 = reasonCode (firstReason (u.lay u.acceptTime r).why) + 2 ^ 31))) ∧
    (s.up = true → s.glb.blobReading = false →
      gives (.blobApply t) s (fun w => w.glb.blobReading = true ∧ w.reg 0x80 = 0)) ∧
    (∀ (data : List (BitVec 8)) (u : State), s.up = true → s.glb.blobReading = true →
      u = { s.at t with glb := { s.glb with blobReading := false } } →
      admits (.blobReadComplete t data) s u (u.blobRequest .blobRegs (s.reg Reg.glbBlobLen) data)
        (fun w => w.reg 0x80 = 2 ^ 31 ∧ w.glb.blobReading = false ∧ w.glb.blobApplied = true ∧ w.glb.dirty = false ∧
          w.glb.signed = bit (fieldAt data 0x11 1) 0)) ∧
    (∀ v : BitVec 32, s.up = true → s.locked = false →
      admits (.eccZonesWrite t v) s ((s.at t).setReg 0x54 0)
        { by_ := .eccRegs, received := (s.at t).now, changes := [.eccZones v] }
        (fun w => w.reg 0x54 = 2 ^ 31 ∧ w.adm.ecc = s.eccValue v ∧ w.glb.dirty = true)) ∧
    (s.up = true → s.win.open_ = true → s.adm.queue = [] →
      admits (.winGenCommit t) s { s.at t with win := { s.win with done := false } }
        { by_ := .winRegs, received := (s.at t).now, changes := [.winCommit] }
        (fun w => w.win.done = true ∧ w.win.result = 0 ∧ w.win.open_ = false ∧ w.win.active = !s.win.active ∧
          w.win.genSeq = s.win.seq + 1)) ∧
    (∀ (k : Fin 8) (c : Nat), (s.salvo k.val).commitAt = some c → c ≤ (s.at t).now →
      gives (.salvoSwitch t k) s (fun w => w.adm.objs = (s.switched k.val).adm.objs ∧ w.adm.wins = (s.switched k.val).adm.wins ∧
        (w.salvo k.val).prepared = false ∧ (w.salvo k.val).commitAt = none))

/-- The mode commands and the operations on the pair are admitted where R415, R293 and R315 let them and act at once; a GO whose wait ends
changes the mode. -/
def Obligations.ModeAndPairCommandsArePlaced : Prop :=
  ∀ (t : Nat) (s : State), s.up = true →
    (s.time.servo = .locked → s.pair.en = false → s.aon.shLatch = false →
      commands (.go t) t s .go 0 (fun w => w.mode.mode = .run ∧ w.mode.prev = .configure ∧ w.mode.goWait = none)) ∧
    (∀ f : Nat, s.time.servo ≠ .locked → s.lockWait ≠ 0 → s.time.firstEnabled = some f → (s.at t).time.lct < f + s.lockWait →
      commands (.go t) t s .go 0 (fun w => w.mode.mode = .configure ∧
        w.mode.goWait = some { proving := false, acceptedAt := (s.at t).now, expired := false })) ∧
    (s.time.servo = .locked → s.pair.en = false →
      commands (.goProving t) t s .goProving 0 (fun w => w.mode.mode = .proving ∧ w.mode.prev = .configure ∧ w.mode.goWait = none)) ∧
    commands (.safeHold t) t s .safeHold 0 (fun w => w.mode.mode = .safeHold ∧ w.mode.prev = s.mode.mode ∧
      w.mode.shCause = .operator ∧ w.aon.shLatch = true) ∧
    commands (.leaveSafeHold t) t s .leaveSafeHold 0 (fun w => w.aon.shLatch = false ∧ w.mode.shCause = .none ∧
      (s.anyIsolated = false → w.mode.mode = s.mode.prev)) ∧
    (∀ key : BitVec 16, s.mode.railEn ≠ 0 → commands (.sleep t key) t s .sleep key.toNat (fun w => w.mode.downCause = none ∧
      ∃ i, w.mode.phase = .railDown i ∧ s.mode.railEn.getLsbD i = true ∧ w.mode.railEn.getLsbD i = false)) ∧
    (∀ key : BitVec 16, key = 0x5AFE →
      atOnce ((s.at t).setReg 0x10008 0) { by_ := .modeRegs, received := (s.at t).now, changes := [.mode .reset key.toNat] } →
      gives (.reset t key) s (fun w => w.mode.phase = .boot ∧ w.mode.mode = .configure ∧ w.aon.resetCause = .software ∧
        w.ctxs = [] ∧ w.heads = [] ∧ w.regs = [] ∧ w.dram = [])) ∧
    (∀ r : Request, r = { by_ := .device, received := (s.at t).now, changes := [.pairOp 1] } → atOnce (s.at t) r →
      s.pair.en = true → s.pair.actOut = false → s.pair.actIn = true → s.pair.state = .alone → s.pairUp = true → s.partnerW128 = true →
      gives (.pairJoin t) s (fun w => w.pair.joinAsked = true ∧ w.pair.retryAt = none ∧ w.pair.state = .alone)) ∧
    (∀ r : Request, r = { by_ := .device, received := (s.at t).now, changes := [.pairOp 2] } → atOnce (s.at t) r →
      gives (.pairLeave t) s (fun w => w.pair.state = .alone ∧ w.pair.joinAsked = false ∧ w.pair.switching = false)) ∧
    (∀ r : Request, r = { by_ := .device, received := (s.at t).now, changes := [.pairOp 3] } → atOnce (s.at t) r →
      s.pairActive = true → s.pair.state = .paired →
      gives (.pairSwitchover t) s (fun w => w.pair.switching = true ∧ w.pair.state = .paired)) ∧
    (∀ (w : GoWait) (a : Nat), s.mode.goWait = some w → s.time.firstEnabled = some a → a + s.lockWait ≤ (s.at t).time.lct →
      gives (.lockWaitExpire t) s (fun x =>
        x = (State.goChange ((s.at t).setMode { s.mode with goWait := some { w with expired := true } }) { w with expired := true }).runQueue) ∧
      (quietQueue s → s.pair.en = false → s.mode.mode = .configure →
        (w.proving = true → gives (.lockWaitExpire t) s (fun x => x.mode.mode = .proving ∧ x.mode.goWait = none)) ∧
        (w.proving = false → s.aon.shLatch = false →
          gives (.lockWaitExpire t) s (fun x => x.mode.mode = .run ∧ x.mode.goWait = none)) ∧
        (w.proving = false → s.aon.shLatch = true →
          gives (.lockWaitExpire t) s (fun x => x.mode.mode = .safeHold ∧ x.mode.prev = .run ∧ x.mode.shCause = .latched)))) ∧
    (∀ w : GoWait, s.mode.goWait = some w → (w.expired = true ∨ s.time.servo = .locked) →
      gives (.goModeChange t) s (fun x => x = ((s.at t).goChange w).runQueue) ∧
      (quietQueue s → s.pair.en = false → s.mode.mode = .configure →
        (w.proving = true → gives (.goModeChange t) s (fun x => x.mode.mode = .proving ∧ x.mode.goWait = none)) ∧
        (w.proving = false → s.aon.shLatch = false →
          gives (.goModeChange t) s (fun x => x.mode.mode = .run ∧ x.mode.goWait = none))))

/-- What accepted mode commands do: GO is remembered until lock, SAFE-HOLD, leaving it, SLEEP and RESET act; a GO enters PROVING or RUN. -/
def Obligations.ModeCommandsTakeEffect : Prop :=
  ∀ (s : State) (a : Nat),
    (∀ f : Nat, s.time.servo ≠ .locked → s.lockWait ≠ 0 → s.time.firstEnabled = some f → s.time.lct < f + s.lockWait →
      ∃ g : GoWait, (s.actMode a .go).mode.goWait = some g ∧ g.proving = false ∧ g.expired = false ∧ g.acceptedAt = s.now ∧
        (s.actMode a .go).mode.mode = s.mode.mode) ∧
    (s.actMode a .reset = s.deviceReset .software) ∧
    ((s.actMode a .reset).mode.mode = .configure ∧ (s.actMode a .reset).aon.resetCause = .software) ∧
    (∀ g : GoWait, g.proving = false → s.pair.en = false → s.aon.shLatch = false → s.goChange g =
      (s.setMode { s.mode with goWait := none }).enterRun 0) ∧
    (∀ g : GoWait, g.proving = false → s.pair.en = true → s.board.sideB = true → s.pair.actIn = false → s.goChange g =
      s.setMode { s.mode with goWait := none, sideBWait := some s.now }) ∧
    (∀ g : GoWait, g.proving = true → s.pair.en = false → s.mode.mode ≠ .proving → (s.goChange g) =
      ((s.setMode { s.mode with goWait := none }).modeTo .proving 0).startRecs) ∧
    (∀ (m : Mode) (cause : Nat), s.mode.mode ≠ m → (s.modeTo m cause).mode.mode = m ∧ (s.modeTo m cause).mode.prev = s.mode.mode ∧
      raises .modeState 0 [s.mode.mode.code, m.code, cause] s (s.modeTo m cause))

/-- Rails rise one after another with their settle times, fail, retry, and go down; the supply comes and goes. -/
def Obligations.PowerRailsSequence : Prop :=
  ∀ (t : Nat) (s : State),
    (∀ n : Fin 12, s.mode.phase = .railUp n.val false →
      gives (.railPgRise t n) s (fun w => w.mode.phase = .railUp n.val true ∧ w.mode.railPg.getLsbD n.val = true)) ∧
    (∀ i : Nat, s.mode.phase = .railUp i true → gives (.railSettleDone t) s (fun w => w = (s.at t).raiseRail (i + 1))) ∧
    (∀ i : Nat, s.mode.phase = .railDown i → gives (.railSettleDone t) s (fun w => w = (s.at t).lowerRail)) ∧
    (∀ i : Nat, s.mode.phase = .railUp i false → gives (.railPgTimeout t) s (fun w => w = (s.at t).powerFail .rail i)) ∧
    (∀ n : Fin 12, s.powered = true → s.railMon n.val = true → s.mode.railEn.getLsbD n.val = true →
      gives (.railPgLoss t n) s (fun w => w.mode.railPg.getLsbD n.val = false ∧ w.mode.railFail = true ∧
        w.mode.failRail = BitVec.ofNat 4 n.val ∧ w.mode.downCause = some .rail)) ∧
    (s.powered = true → gives (.thermalTrip t) s (fun w => w.mode.trip = true ∧ w.mode.hot = true ∧ w.mode.downCause = some .thermal)) ∧
    (s.mode.phase = .standby → s.mode.retryDue = true →
      gives (.railRetry t) s (fun w => w = State.beginRailUp ((s.at t).setMode { s.mode with retries := s.mode.retries + 1 }) .rail)) ∧
    (s.mode.upWaiting = true → s.mode.phase = .standby →
      gives (.railOffHoldEnd t) s (fun w =>
        w = State.raiseRail ((s.at t).setMode { s.mode with discharged := true, upWaiting := false }) 0)) ∧
    (s.mode.upWaiting = false → gives (.railOffHoldEnd t) s (fun w => w = (s.at t).setMode { s.mode with discharged := true })) ∧
    (∀ i : Nat, s.mode.phase = .railDown i → s.mode.railEn = 0 → s.mode.downCause ≠ some .rail → s.mode.wakeLatched = 0 →
      gives (.powerDownComplete t) s (fun w => w.mode.phase = .standby ∧ w.mode.mode = .standby ∧ w.mode.retryDue = false)) ∧
    (s.mode.phase = .off → gives (.vddAonRise t) s (fun w => w.mode.phase = .aonReset)) ∧
    (s.mode.phase = .aonReset → gives (.aonPorRelease t) s (fun w => w = (s.at t).beginRailUp .powerOn)) ∧
    gives (.vddAonRemoval t) s (fun w => w.mode.phase = .off ∧ w.mode.mode = .standby ∧ w.aon = {} ∧ w.pending = s.pending)

/-- Wake sources, the RTC alarm, cooling and the reset causes of the device act as R415 to R427 say. -/
def Obligations.WakesAndResets : Prop :=
  ∀ (t : Nat) (s : State),
    (∀ k : Fin 4, k.val ≠ 2 → s.aon.wakeEn.getLsbD k.val = true →
      (∀ i : Nat, s.mode.phase = .railDown i → gives (.wakePin t k) s (fun w =>
        w.mode.wakeLatched = s.mode.wakeLatched ||| BitVec.ofNat 4 (2 ^ k.val) ∧ w.mode.phase = .railDown i)) ∧
      (s.mode.phase = .standby → s.mode.hot = false → s.mode.upWaiting = false → s.mode.discharged = false →
        gives (.wakePin t k) s (fun w => w.mode.wakeSrc = (s.mode.wakeLatched ||| BitVec.ofNat 4 (2 ^ k.val)) &&& s.aon.wakeEn ∧
          w.mode.wakeLatched = 0 ∧ w.mode.upWaiting = true ∧ w.mode.phase = .standby))) ∧
    (∀ k : Fin 4, k.val ≠ 2 → gives (.wakePin t k) s (fun w => w = (s.at t).wake k.val)) ∧
    (s.aon.rtcAlarm ≠ 0 → s.aon.rtcAlarm.toNat ≤ (s.at t).rtcNow / 32768 →
      gives (.rtcAlarm t) s (fun w => w = (s.at t).wake 2) ∧
      (∀ i : Nat, s.aon.wakeEn.getLsbD 2 = true → s.mode.phase = .railDown i → gives (.rtcAlarm t) s (fun w =>
        w.mode.wakeLatched = s.mode.wakeLatched ||| 4))) ∧
    (s.mode.phase ≠ .standby → gives (.junctionCooled t) s (fun w => w = (s.at t).setMode { s.mode with hot := false })) ∧
    (s.mode.phase = .standby → s.mode.wakeLatched &&& s.aon.wakeEn ≠ 0 → s.mode.upWaiting = false → s.mode.discharged = false →
      gives (.junctionCooled t) s (fun w => w.mode.hot = false ∧ w.mode.wakeLatched = 0 ∧ w.mode.upWaiting = true ∧
        w.mode.wakeSrc = s.mode.wakeLatched &&& s.aon.wakeEn)) ∧
    (∀ P : State → ResetCause → Prop, P = (fun w c => w.mode.phase = .boot ∧ w.mode.mode = .configure ∧ w.aon.resetCause = c ∧
        w.ctxs = [] ∧ w.heads = [] ∧ w.regs = [] ∧ w.dram = [] ∧ w.store = s.store ∧ w.pending = s.pending) →
      (s.powered = true → gives (.resetPin t) s (fun w => w = (s.at t).deviceReset .pin ∧ P w .pin) ∧
        gives (.lockstepMismatch t) s (fun w => w = (s.at t).deviceReset .lockstep ∧ P w .lockstep)) ∧
      (s.up = true → s.mode.lastKick + bits (s.reg Reg.modeWdCfg) 31 16 * 1000000 < (s.at t).now →
        gives (.watchdogExpire t) s (fun w => w = (s.at t).dropActOut.deviceReset .watchdog ∧ P w .watchdog))) ∧
    gives (.watchdogKick t) s (fun w => w.mode.lastKick = (s.at t).now ∧ w.mode.warned = false) ∧
    (s.up = true → s.mode.warned = false → s.mode.lastKick + bits (s.reg Reg.modeWdCfg) 15 0 * 1000000 < (s.at t).now →
      gives (.watchdogWarn t) s (fun w => w.mode.warned = true ∧ w.reg Reg.modeWdWarns = satAdd32 (s.reg Reg.modeWdWarns) 1 ∧
        raises .modeWdWarn 0 [] s w)) ∧
    (∀ c : ResetCause, (s.deviceReset c).mode.phase = .boot ∧ (s.deviceReset c).mode.mode = .configure ∧
      (s.deviceReset c).aon.resetCause = c ∧ (s.deviceReset c).ctxs = [] ∧ (s.deviceReset c).heads = [] ∧
      (s.deviceReset c).regs = [] ∧ (s.deviceReset c).dram = [])

/-- The boot ROM chooses a slot, the firmware starts in CONFIGURE, the RTC is set from traceable time, power tokens are asked for and granted,
and the clock of an idle engine is gated. -/
def Obligations.BootRtcTokensAndClocks : Prop :=
  ∀ (t : Nat) (s : State),
    (∀ a b c : Bool, s.mode.phase = .boot → gives (.romBoot t false a b c) s (fun w =>
      w.mode.phase = .up ∧ w.mode.mode = .recovery ∧ w.mode.strap = a)) ∧
    (∀ a b c : Bool, s.mode.phase = .boot → s.prot.slotA.state = .empty → s.prot.slotB.state = .empty →
      gives (.romBoot t true a b c) s (fun w => w.mode.phase = .up ∧ w.mode.mode = .recovery)) ∧
    (∀ a b c : Bool, s.mode.phase = .boot → s.prot.slotA.state = .good → s.prot.slotB.state = .empty → s.prot.trialFailed = false →
      gives (.romBoot t true a b c) s (fun w => if s.slotPasses false b = true then w.mode.phase = .starting ∧ w.prot.runB = false
        else w.mode.phase = .up ∧ w.mode.mode = .recovery ∧ w.prot.slotA.state = .bad)) ∧
    (∀ (m r k : Nat) (b : Tab (BitVec 8)), s.mode.phase = .starting →
      gives (.bootComplete t m r k b) s (fun w => w.mode.phase = .up ∧ w.mode.mode = .configure ∧ w.adm.memSize = m ∧
        w.adm.memRate = r ∧ w.prot.boardArea = b ∧ if s.recordPasses b = true then w.mode.boardOk = true ∧ w.board = boardOf b
        else w.prot.health.boardInvalid = true ∧ raises .modeBoardInvalid 0 [] s w)) ∧
    (s.up = true → (s.at t).time.traceOk = true → (s.at t).now % 1000000000 = 0 →
      gives (.rtcSet t) s (fun w => w.aon.rtcSet = true ∧ w.aon.rtcSec = (s.at t).now / 1000000000 % 2 ^ 32 ∧
        w.aon.rtcFrac = 0)) ∧
    (∀ (h : TokenHolder) (u : Nat), (∀ p ∈ s.mode.tokPending, ¬ (p.holder = h ∧ p.unit = u)) →
      (∀ p ∈ s.mode.tokHeld, ¬ (p.1 = h ∧ p.2.1 = u)) →
      gives (.tokenRequest t h u) s (fun w => ∃ r, w.mode.tokPending = s.mode.tokPending ++ [r] ∧ r.holder = h ∧ r.unit = u ∧
        r.left = TokenHolder.size h ∧ r.since = (s.at t).now)) ∧
    (∀ r : TokenReq, s.mode.tokPending = [r] → r.left ≤ s.board.step →
      gives (.tokenSlot t) s (fun w => w = (s.at t).grant r)) ∧
    (∀ u : Nat, (s.core u).job = none → gives (.engineClockGate t .decode u) s (fun w => (w.core u).clockOn = false)) ∧
    (∀ u : Nat, (s.engine u).sheet = none → gives (.engineClockGate t .sheet u) s (fun w => (w.engine u).clockOn = false)) ∧
    (∀ u : Nat, (s.recCore u).job = none → gives (.engineClockGate t .recorder u) s (fun w => (w.recCore u).clockOn = false))

/-- Register reads and writes on BAR0 and the instances' pages, the DRAM aperture, and its base. That a read of BAR_STRAY leaves the old
offset in BAR_STRAY_OFF is the model's choice (log entry 221). -/
def Obligations.BarAccessesTakeEffect : Prop :=
  ∀ (t : Nat) (s : State),
    (∀ o : Fin 67108864, s.serves (o.val / 4 * 4) = true → ownRead (o.val / 4 * 4) = false → counterUnit (o.val / 4 * 4) = none →
      gives (.registerReadClear t (.bar0 o)) s (fun w => w.readData = (s.at t).readValue (o.val / 4 * 4))) ∧
    (∀ (o : Fin 67108864) (u : Nat), s.serves (o.val / 4 * 4) = true → ownRead (o.val / 4 * 4) = false →
      counterUnit (o.val / 4 * 4) = some u →
      gives (.registerReadClear t (.bar0 o)) s (fun w => w.readData = ((s.at t).syncUnit u).readValue (o.val / 4 * 4))) ∧
    (∀ (n : Fin 32) (o : Fin 65536), s.up = true →
      gives (.registerReadClear t (.page n o)) s (fun w => w.readData = (s.at t).viewPage n.val (o.val / 4 * 4))) ∧
    (s.serves Reg.glbBarStray = true → gives (.registerReadClear t (.bar0 0x60)) s (fun w =>
      w.reg Reg.glbBarStrayOff = s.reg Reg.glbBarStrayOff)) ∧
    (∀ v : BitVec 32, s.serves 0x20000 = true → gives (.registerWrite t (.bar0 0x20000) v) s (fun w =>
      w.aon.wakeEn = BitVec.ofNat 4 v.toNat)) ∧
    (∀ v : BitVec 32, s.serves 0x20014 = true → gives (.registerWrite t (.bar0 0x20014) v) s (fun w => w.aon.rtcAlarm = v)) ∧
    (∀ (n : Fin 32) (o : Fin 65536) (v : BitVec 32), gives (.registerWrite t (.page n o) v) s (fun w =>
      w = (s.at t).pageWrite n.val (o.val / 4 * 4) v)) ∧
    (∀ (o : Fin 67108864) (v : BitVec 32), gives (.registerWrite t (.bar0 o) v) s (fun w =>
      w = (s.at t).barWrite (o.val / 4 * 4) v.toNat)) ∧
    (∀ (o : Fin 268435456) (n : Nat), s.up = true → n ≠ 0 →
      s.mpuCheck { cls := .med, write := false, first := dramBase + (s.reg Reg.glbAperture * 2097152 + o.val),
                   last := dramBase + (s.reg Reg.glbAperture * 2097152 + o.val) + (n - 1) } = none →
      gives (.bar4Access t o false n []) s (fun w =>
        w = { s.at t with readData := leNat ((s.at t).dramRead (s.reg Reg.glbAperture * 2097152 + o.val) n) })) ∧
    (∀ (o : Fin 268435456) (n : Nat) (data : List (BitVec 8)) (a : Nat), s.up = true → data ≠ [] →
      a = s.reg Reg.glbAperture * 2097152 + o.val →
      s.mpuCheck { cls := .med, write := true, first := dramBase + a, last := dramBase + a + (data.length - 1) } = none →
      gives (.bar4Access t o true n data) s (fun w =>
        (∀ i : Nat, ∀ h : i < data.length, w.dramByte (a + i) = data[i]) ∧
        ∀ b : Nat, b < a ∨ a + data.length ≤ b → w.dramByte b = s.dramByte b)) ∧
    (∀ v : BitVec 32, s.up = true → v.toNat + 128 ≤ 512 * s.adm.memSize →
      gives (.apertureBaseWrite t v) s (fun w => w.glb.apertureNext = some v.toNat ∧ w.reg Reg.glbAperture = s.reg Reg.glbAperture)) ∧
    (∀ v : Nat, s.glb.apertureNext = some v →
      gives (.apertureBaseSwitch t) s (fun w => w.reg Reg.glbAperture = v ∧ w.glb.apertureNext = none))

/-- An access to a BAR0 offset that no block lists (R49): a read gives 0 and a write is dropped, both are counted, and the first
offset is kept until BAR_STRAY is read. -/
def Obligations.StrayAccessesAreCounted : Prop :=
  ∀ (t : Nat) (o : Fin 67108864) (s : State), s.mode.phase = .up → s.mode.mode ≠ .standby → barListed o.val = false →
    gives (.bar0StrayAccess t o false) s (fun w => w.readData = 0 ∧
      w.reg Reg.glbBarStray = satAdd32 (s.reg Reg.glbBarStray) 1 ∧ w.glb.straySeen = true ∧
      w.reg Reg.glbBarStrayOff = (if s.glb.straySeen then s.reg Reg.glbBarStrayOff else o.val)) ∧
    gives (.bar0StrayAccess t o true) s (fun w =>
      w.reg Reg.glbBarStray = satAdd32 (s.reg Reg.glbBarStray) 1 ∧ w.glb.straySeen = true ∧
      w.reg Reg.glbBarStrayOff = (if s.glb.straySeen then s.reg Reg.glbBarStrayOff else o.val) ∧
      (∀ a : Nat, a ≠ Reg.glbBarStray → a ≠ Reg.glbBarStrayOff → w.reg a = s.reg a) ∧
      w.readData = s.readData ∧ w.dram = s.dram ∧ w.heads = s.heads ∧ w.ctxs = s.ctxs) ∧
    (s.serves Reg.glbBarStray = true → gives (.registerReadClear t (.bar0 0x60)) s (fun w =>
      w.glb.straySeen = false ∧ w.reg Reg.glbBarStray = 0))

/-- Performance counters are selected, and the tally starts, stops and writes its records, or counts them as lost. -/
def Obligations.CountersAndTally : Prop :=
  ∀ (t : Nat) (s : State),
    (∀ (u : Fin 39) (i : Fin 8) (v : BitVec 32), gives (.pmcSelWrite t u i v) s (fun w =>
      w.reg (Reg.pmcSel u.val i.val) = v.toNat &&& 0x800000FF ∧ (Tab.get 0 w.progs (8 * u.val + i.val) : BitVec 48) = 0)) ∧
    (admits (.tallyStart t) s ((s.at t).setReg 0x90004 0)
      { by_ := .tallyRegs, received := (s.at t).now, changes := [.tallyStart (s.reg Reg.tallyOriginLo + s.reg Reg.tallyOriginHi * 2 ^ 32) (s.reg Reg.tallyPeriod)
          (s.reg Reg.tallyRingPages)] }
      (fun w => w.reg 0x90004 = 2 ^ 31 ∧ w.prot.tally.running = true ∧ w.prot.tally.period = s.reg Reg.tallyPeriod ∧
        w.prot.tally.origin = s.reg Reg.tallyOriginLo + s.reg Reg.tallyOriginHi * 2 ^ 32 ∧ w.prot.tally.seq = 0 ∧
        w.prot.tally.origin ≤ w.prot.tally.next)) ∧
    (∀ a rx origin period pages : Nat, 0 < period →
      (State.act a rx s (.tallyStart origin period pages)).prot.tally.running = true ∧
      origin ≤ (State.act a rx s (.tallyStart origin period pages)).prot.tally.next ∧
      a ≤ (State.act a rx s (.tallyStart origin period pages)).prot.tally.next ∧
      ((State.act a rx s (.tallyStart origin period pages)).prot.tally.next - origin) % (period * 1000) = 0) ∧
    gives (.tallyStop t) s (fun w => w.prot.tally.running = false ∧ w.adm.tally = [] ∧ w.reg 0x90004 = 2 ^ 31) ∧
    (s.prot.tally.running = true → s.prot.tally.next ≤ (s.at t).now → (s.at t).latchOwed s.prot.tally.next = false →
      (unread s.prot.tally.written (s.reg Reg.tallyRd) < s.tallyRoom →
        gives (.tallyEdge t) s (fun w => w.prot.tally.seq = (s.prot.tally.seq + 1) % 2 ^ 32 ∧
          w.prot.tally.written = (s.prot.tally.written + 1) % 2 ^ 32 ∧ w.prot.tally.lost = 0 ∧
          w.prot.tally.prev = s.prot.tally.next ∧ w.prot.tally.next = s.prot.tally.next + s.prot.tally.period * 1000)) ∧
      (s.tallyRoom ≤ unread s.prot.tally.written (s.reg Reg.tallyRd) →
        gives (.tallyEdge t) s (fun w => w.prot.tally.seq = (s.prot.tally.seq + 1) % 2 ^ 32 ∧
          w.prot.tally.written = s.prot.tally.written ∧ w.prot.tally.lost = s.prot.tally.lost + 1 ∧
          w.prot.tally.next = s.prot.tally.next + s.prot.tally.period * 1000 ∧ w.dram = s.dram)))

/-- Injectors, their log and margin scans act in PROVING alone; elsewhere the refusal is counted. -/
def Obligations.ProvingUnitActs : Prop :=
  ∀ (t : Nat) (s : State),
    (∀ (i : Fin 16) (v : BitVec 32), s.mode.mode = .proving → bit (v.toNat &&& 0x1F77) 0 = true →
      bits (v.toNat &&& 0x1F77) 2 1 ≠ 3 → bits (v.toNat &&& 0x1F77) 5 4 ≠ 3 → (s.injector i.val).armed = false →
      gives (.injectorArm t i v) s (fun w => (w.injector i.val).armed = true ∧ (w.injector i.val).target = bits (v.toNat &&& 0x1F77) 2 1 ∧
        (w.injector i.val).action = bits (v.toNat &&& 0x1F77) 5 4 ∧ w.reg (Reg.injCtrl i.val) = v.toNat &&& 0x1F77)) ∧
    (∀ (i : Fin 16) (v : BitVec 32), s.mode.mode = .proving → bit (v.toNat &&& 0x1F77) 0 = false →
      gives (.injectorArm t i v) s (fun w => (w.injector i.val).armed = false)) ∧
    (s.mode.mode ≠ .proving →
      (∀ (i : Fin 16) (v : BitVec 32), gives (.injectorArm t i v) s (fun w => w = (s.at t).count Reg.provRefused 1)) ∧
      gives (.marginScanStart t) s (fun w => w = (s.at t).count Reg.provRefused 1) ∧
      gives (.marginScanAbort t) s (fun w => w = (s.at t).count Reg.provRefused 1)) ∧
    (∀ (e : ProvLog) (l : List ProvLog), s.prov.log = e :: l →
      gives (.provLogPop t) s (fun w => w.prov.log = l ∧ w.prov.popped = some e ∧ w.readData = e.inj + e.action * 2 ^ 4 + 2 ^ 31)) ∧
    (s.prov.log = [] → gives (.provLogPop t) s (fun w => w.prov.popped = none ∧ w.readData = 0)) ∧
    (∀ c : Scan, s.mode.mode = .proving → s.prov.scan.busy = false → s.scanOk (s.reg Reg.scanCfg) = true →
      c = { busy := true, first := bits (s.reg Reg.scanCfg) 4 0, width := 2 ^ bits (s.reg Reg.scanCfg) 6 5,
            rate := bits (s.reg Reg.scanCfg) 9 8, dwell := bits (s.reg Reg.scanCfg) 27 16, txHold := bits (s.reg Reg.scanCfg) 31 28 } →
      gives (.marginScanStart t) s (fun w => w = ((s.at t).setScan c).scanTrain)) ∧
    (s.mode.mode = .proving → s.prov.scan.busy = false → s.scanOk (s.reg Reg.scanCfg) = false →
      gives (.marginScanStart t) s (fun w => w.prov.scan.fail = true)) ∧
    (s.mode.mode = .proving → s.prov.scan.busy = true → gives (.marginScanAbort t) s (fun w => w = (s.at t).scanRestore false)) ∧
    (∀ (errs : List (Nat × Nat)) (a : Nat), s.prov.scan.dwellFrom = some a → s.prov.scan.busy = true →
      a + s.prov.scan.dwell * 1000000 ≤ (s.at t).now →
      gives (.scanDwellEnd t errs) s (fun w => ∃ u : State, u = (s.at t).bondErrs s.prov.scan.first errs ∧
        w = u.scanNext (fun k => BitVec.ofNat 32 (min (Tab.get 0 u.prov.scan.errs k) 0xFFFFFFFF))))
end

