-- ==== Sys2Proof/Laws/Tab.lean ====
section
/-! SUPPORT. Sparse tables: read after write, and that every operation keeps the canonical form. -/

namespace Sys2Proof

/-! ## Read after write -/

theorem Tab.get_erase_self {α : Type} (d : α) (t : Tab α) (k : Nat) : Tab.get d (Tab.erase t k) k = d := by
  induction t with
  | nil => rfl
  | cons p t ih =>
    obtain ⟨j, w⟩ := p
    unfold Tab.erase
    split
    · exact ih
    · rename_i h
      simp only [Tab.get, h, if_false, ih]

theorem Tab.get_erase_other {α : Type} (d : α) (t : Tab α) (k m : Nat) (h : m ≠ k) :
    Tab.get d (Tab.erase t k) m = Tab.get d t m := by
  induction t with
  | nil => rfl
  | cons p t ih =>
    obtain ⟨j, w⟩ := p
    unfold Tab.erase
    split
    · rename_i hj
      have : j ≠ m := by omega
      simp only [Tab.get, this, if_false, ih]
    · simp only [Tab.get, ih]

/-- What was written is read back. -/
theorem Tab.get_set_self {α : Type} [DecidableEq α] (d : α) (t : Tab α) (k : Nat) (v : α) :
    Tab.get d (Tab.set d t k v) k = v := by
  induction t with
  | nil => by_cases h : v = d <;> simp [Tab.set, Tab.get, h]
  | cons p t ih =>
    obtain ⟨j, w⟩ := p
    unfold Tab.set
    split
    · split
      · rename_i h; rw [Tab.get_erase_self, h]
      · simp [Tab.get]
    · split
      · split
        · rename_i h; rw [Tab.get_erase_self, h]
        · simp [Tab.get]
      · rename_i h; simp only [Tab.get, h, if_false, ih]

/-- Every other key reads as before; the two defaults may differ, as they do for registers. -/
theorem Tab.get_set_other {α : Type} [DecidableEq α] (d e : α) (t : Tab α) (k m : Nat) (v : α) (h : m ≠ k) :
    Tab.get e (Tab.set d t k v) m = Tab.get e t m := by
  induction t with
  | nil =>
    have : k ≠ m := fun x => h x.symm
    by_cases hv : v = d <;> simp [Tab.set, Tab.get, hv, this]
  | cons p t ih =>
    obtain ⟨j, w⟩ := p
    have hk : k ≠ m := fun x => h x.symm
    unfold Tab.set
    split
    · split
      · rw [Tab.get_erase_other _ _ _ _ h]
      · simp [Tab.get, hk]
    · split
      · rename_i hj
        split
        · rw [Tab.get_erase_other _ _ _ _ h]; simp [Tab.get, hj, hk]
        · simp [Tab.get, hj, hk]
      · simp only [Tab.get, ih]

/-! ## The canonical form -/

theorem Tab.wfAbove_mono {α : Type} [DecidableEq α] (d : α) (t : Tab α) (lo hi : Nat) (h : lo ≤ hi)
    (w : Tab.wfAbove d hi t = true) : Tab.wfAbove d lo t = true := by
  cases t with
  | nil => rfl
  | cons p t =>
    simp only [Tab.wfAbove, Bool.and_eq_true, decide_eq_true_eq] at w ⊢
    exact ⟨⟨by omega, w.1.2⟩, w.2⟩

/-- A canonical table whose keys stand at or above `lo` lists no key below. -/
theorem Tab.erase_of_lt {α : Type} [DecidableEq α] (d : α) (t : Tab α) (lo k : Nat) (hk : k < lo)
    (h : Tab.wfAbove d lo t = true) : Tab.erase t k = t := by
  induction t generalizing lo with
  | nil => rfl
  | cons p t ih =>
    obtain ⟨j, w⟩ := p
    simp only [Tab.wfAbove, Bool.and_eq_true, decide_eq_true_eq] at h
    have : j ≠ k := by omega
    simp only [Tab.erase, this, if_false, ih (j + 1) (by omega) h.2]

theorem Tab.wfAbove_set {α : Type} [DecidableEq α] (d : α) (t : Tab α) (lo k : Nat) (v : α) (hk : lo ≤ k)
    (h : Tab.wfAbove d lo t = true) : Tab.wfAbove d lo (Tab.set d t k v) = true := by
  induction t generalizing lo with
  | nil => by_cases hv : v = d <;> simp [Tab.set, Tab.wfAbove, hv, hk]
  | cons p t ih =>
    obtain ⟨j, w⟩ := p
    have hw := h
    simp only [Tab.wfAbove, Bool.and_eq_true, decide_eq_true_eq] at h
    obtain ⟨⟨h1, h2⟩, h3⟩ := h
    unfold Tab.set
    split
    · rename_i hlt
      split
      · have : Tab.erase ((j, w) :: t) k = (j, w) :: t := by
          have : j ≠ k := by omega
          simp only [Tab.erase, this, if_false, Tab.erase_of_lt d t (j + 1) k (by omega) h3]
        rw [this]; exact hw
      · have : k + 1 ≤ j := by omega
        simp [Tab.wfAbove, *]
    · split
      · subst_vars
        split
        · rw [Tab.erase_of_lt d t (j + 1) j (by omega) h3]
          exact Tab.wfAbove_mono d t _ _ (by omega) h3
        · simp [Tab.wfAbove, *]
      · have hjk : j + 1 ≤ k := by omega
        simp [Tab.wfAbove, h1, h2, ih (j + 1) hjk h3]

/-- Setting an entry keeps the canonical form. -/
theorem Tab.wf_set {α : Type} [DecidableEq α] (d : α) (t : Tab α) (k : Nat) (v : α) (h : Tab.wf d t = true) :
    Tab.wf d (Tab.set d t k v) = true := Tab.wfAbove_set d t 0 k v (Nat.zero_le _) h

/-- Writing a list of entries keeps the canonical form. -/
theorem Tab.wf_zipWrite (l : List (Nat × Byte)) (d : List Host.Cell) (h : Tab.wf 0 d = true) :
    Tab.wf 0 (l.foldl (fun (d : List Host.Cell) (p : Nat × Byte) => Tab.set 0 d p.1 p.2) d) = true := by
  induction l generalizing d with
  | nil => exact h
  | cons p t ih => exact ih _ (Tab.wf_set 0 d p.1 p.2 h)

/-- Leaving entries out keeps the canonical form. -/
theorem Tab.wf_filter {α : Type} [DecidableEq α] (d : α) (f : Nat × α → Bool) (t : Tab α) (h : Tab.wf d t = true) :
    Tab.wf d (t.filter f) = true := by
  unfold Tab.wf at *
  generalize 0 = lo at *
  induction t generalizing lo with
  | nil => rfl
  | cons p t ih =>
    obtain ⟨j, w⟩ := p
    simp only [Tab.wfAbove, Bool.and_eq_true, decide_eq_true_eq] at h
    obtain ⟨⟨h1, h2⟩, h3⟩ := h
    simp only [List.filter_cons]
    split
    · simp only [Tab.wfAbove, Bool.and_eq_true, decide_eq_true_eq]
      exact ⟨⟨h1, h2⟩, ih _ h3⟩
    · exact Tab.wfAbove_mono d _ lo (j + 1) (by omega) (ih _ h3)

end Sys2Proof
end

