-- ==== Sys2Proof/Laws/Kept.lean ====
section
/-! SUPPORT. What no operation touches: the command queue, the part's fuses and, but for the few operations that write it, the
device memory. One lemma per operation says that it keeps them. -/

namespace Sys2Proof.Machine

/-- The command queue, the rollback fuses, the key store, the lifecycle and device memory. -/
structure Kept where
  pending : List Instr
  fuse : Nat
  keyStore : BitVec 8
  development : Bool
  dram : List Host.Cell

/-- What the frame lemmas speak of. -/
def State.kept (s : State) : Kept := ⟨s.pending, s.prot.fuse, s.prot.keyStore, s.prot.development, s.dram⟩

@[simp ↓] theorem kept_mk (x0 : TimeUnit) (x1 : ModeUnit) (x2 : Aon) (x3 : Tab Nat) (x4 : Tab Nat) (x5 : Nat) (x6 : List
    Host.Cell) (x7 : List Event) (x8 : Tab (BitVec 16)) (x9 : List Out) (x10 : Tab Chan) (x11 : Tab Ctx) (x12 : Tab Salvo)
    (x13 : Tab BondCfg) (x14 : Tab Lane) (x15 : BitVec 32) (x16 : Nat) (x17 : Tab Core) (x18 : Tab Slots) (x19 : List (Nat ×
    Nat × Nat)) (x20 : Tab (BitVec 48)) (x21 : Tab Head) (x22 : Tab Sheet) (x23 : Tab Engine) (x24 : WinTable) (x25 :
    Safelight) (x26 : Tab Inst) (x27 : Tab Surface) (x28 : Option (Nat × Nat)) (x29 : List (BitVec 20 × BitVec 64)) (x30 :
    Console) (x31 : Tab Rec) (x32 : Tab RecCore) (x33 : PairUnit) (x34 : Board) (x35 : Prov) (x36 : Glb) (x37 : Admitted) (x38
    : Dict) (x39 : SettingsStore) (x40 : Prot) (x41 : BitVec 16) (x42 : BitVec 4) (x43 : List Instr) :     State.kept ⟨x0, x1,
    x2, x3, x4, x5, x6, x7, x8, x9, x10, x11, x12, x13, x14, x15, x16, x17, x18, x19, x20, x21, x22, x23, x24, x25, x26, x27,
    x28, x29, x30, x31, x32, x33, x34, x35, x36, x37, x38, x39, x40, x41, x42, x43⟩ = ⟨x43, x40.fuse, x40.keyStore,
    x40.development, x6⟩ := rfl

@[simp ↓] theorem kept_eta (s : State) :
    Kept.mk s.pending s.prot.fuse s.prot.keyStore s.prot.development s.dram = s.kept := rfl

@[simp ↓] theorem kept_ite (c : Prop) [Decidable c] (a b : State) :
    (if c then a else b).kept = if c then a.kept else b.kept := by split <;> rfl

theorem foldl_same {σ β γ : Type} (p : σ → γ) (f : σ → β → σ) (h : ∀ s b, p (f s b) = p s) (l : List β) (s : σ) :
    p (l.foldl f s) = p s := by
  induction l generalizing s with
  | nil => rfl
  | cons a t ih => rw [List.foldl_cons, ih, h]

theorem kept_foldl {β : Type} (f : State → β → State) (h : ∀ s b, (f s b).kept = s.kept) (l : List β) (s : State) :
    (l.foldl f s).kept = s.kept := by
  induction l generalizing s with
  | nil => rfl
  | cons a t ih => rw [List.foldl_cons, ih, h]

/-- `b` has the queue and the key store of `a`; the rollback fuses have not fallen, a production part is still one, and device
memory is in canonical form if it was. -/
structure KeptRel (a b : Kept) : Prop where
  pending : b.pending = a.pending
  fuse : a.fuse ≤ b.fuse
  keyStore : b.keyStore = a.keyStore
  development : a.development = false → b.development = false
  dram : Tab.wf 0 a.dram = true → Tab.wf 0 b.dram = true

@[simp] theorem KeptRel.refl (a : Kept) : KeptRel a a := ⟨rfl, Nat.le_refl _, rfl, id, id⟩

theorem KeptRel.trans {a b c : Kept} (h : KeptRel a b) (g : KeptRel b c) : KeptRel a c :=
  ⟨g.pending.trans h.pending, Nat.le_trans h.fuse g.fuse, g.keyStore.trans h.keyStore,
    fun x => g.development (h.development x), fun x => g.dram (h.dram x)⟩

theorem KeptRel.wipe {k a : Kept} (h : KeptRel k a) : KeptRel k { a with dram := [] } :=
  ⟨h.pending, h.fuse, h.keyStore, h.development, fun _ => rfl⟩

theorem KeptRel.write {k a : Kept} (h : KeptRel k a) (p : Nat) (v : Byte) :
    KeptRel k { a with dram := Tab.set 0 a.dram p v } :=
  ⟨h.pending, h.fuse, h.keyStore, h.development, fun w => Tab.wf_set 0 a.dram p v (h.dram w)⟩

theorem KeptRel.promote {k a : Kept} (h : KeptRel k a) : KeptRel k { a with development := false } :=
  ⟨h.pending, h.fuse, h.keyStore, fun _ => rfl, h.dram⟩

theorem keptRel_ite {k : Kept} (c : Prop) [Decidable c] (a b : State) (ha : KeptRel k a.kept) (hb : KeptRel k b.kept) :
    KeptRel k (if c then a else b).kept := by split <;> assumption

theorem keptRel_foldl {β : Type} {k : Kept} (f : State → β → State)
    (h : ∀ s b, KeptRel k s.kept → KeptRel k (f s b).kept) (l : List β) (s : State) (hs : KeptRel k s.kept) :
    KeptRel k (l.foldl f s).kept := by
  induction l generalizing s with
  | nil => exact hs
  | cons a t ih => exact ih _ (h s a hs)

end Sys2Proof.Machine
end

