-- ==== Sys2Proof/Laws/Rest.lean ====
section
/-! SUPPORT. What the fitting of pools, the units' taking of admitted objects and a message to a partner leave alone: the settings,
the safety partition, the store, the time, the admitted configuration and the instances but for their event rings. One lemma per
operation; the last says it of `State.applyWaiting`. -/

namespace Sys2Proof.Machine

/-- What the units' taking of an accepted configuration leaves alone. -/
structure Rest where
  glb : Glb
  dict : Dict
  aon : Aon
  safe : Safelight
  store : SettingsStore
  time : TimeUnit
  board : Board
  udpPort : BitVec 16
  udpPorts : BitVec 4
  dram : List Host.Cell
  salvos : Tab Salvo
  pending : List Instr
  tally : TallyUnit
  genSeq : BitVec 16
  active : Bool
  open_ : Bool
  result : Nat
  done : Bool
  adm : Admitted
  inst : Nat → Inst
  mode : ModeUnit

/-- What the frame lemmas of this file speak of. -/
def State.rest (s : State) : Rest :=
  { glb := s.glb, dict := s.dict, aon := s.aon, safe := s.safe, store := s.store, time := s.time, board := s.board,
    udpPort := s.udpPort, udpPorts := s.udpPorts, dram := s.dram, salvos := s.salvos, pending := s.pending, tally := s.prot.tally,
    genSeq := s.win.genSeq, active := s.win.active, open_ := s.win.open_, result := s.win.result, done := s.win.done,
    adm := { s.adm with waiting := [], live := [], retention := [] },
    inst := fun n => { Tab.get {} s.insts n with evq := {}, vecPend := 0 },
    mode := { s.mode with tokHeld := [], tokPending := [], tokPeak := 0 } }

@[simp ↓] theorem rest_mk (x0 : TimeUnit) (x1 : ModeUnit) (x2 : Aon) (x3 : Tab Nat) (x4 : Tab Nat) (x5 : Nat) (x6 : List
    Host.Cell) (x7 : List Event) (x8 : Tab (BitVec 16)) (x9 : List Out) (x10 : Tab Chan) (x11 : Tab Ctx) (x12 : Tab Salvo)
    (x13 : Tab BondCfg) (x14 : Tab Lane) (x15 : BitVec 32) (x16 : Nat) (x17 : Tab Core) (x18 : Tab Slots) (x19 : List (Nat ×
    Nat × Nat)) (x20 : Tab (BitVec 48)) (x21 : Tab Head) (x22 : Tab Sheet) (x23 : Tab Engine) (x24 : WinTable) (x25 :
    Safelight) (x26 : Tab Inst) (x27 : Tab Surface) (x28 : Option (Nat × Nat)) (x29 : List (BitVec 20 × BitVec 64)) (x30 :
    Console) (x31 : Tab Rec) (x32 : Tab RecCore) (x33 : PairUnit) (x34 : Board) (x35 : Prov) (x36 : Glb) (x37 : Admitted) (x38
    : Dict) (x39 : SettingsStore) (x40 : Prot) (x41 : BitVec 16) (x42 : BitVec 4) (x43 : List Instr) :
    State.rest ⟨x0, x1, x2, x3, x4, x5, x6, x7, x8, x9, x10, x11, x12, x13, x14, x15, x16, x17, x18, x19, x20, x21,
    x22, x23, x24, x25, x26, x27, x28, x29, x30, x31, x32, x33, x34, x35, x36, x37, x38, x39, x40, x41, x42, x43⟩ =
    ({ glb := x36, dict := x38, aon := x2, safe := x25, store := x39, time := x0, board := x34,
       udpPort := x41, udpPorts := x42, dram := x6, salvos := x12, pending := x43, tally := x40.tally,
       genSeq := x24.genSeq, active := x24.active, open_ := x24.open_, result := x24.result, done := x24.done,
       adm := { x37 with waiting := [], live := [], retention := [] },
       inst := fun n => { Tab.get {} x26 n with evq := {}, vecPend := 0 },
       mode := { x1 with tokHeld := [], tokPending := [], tokPeak := 0 } } : Rest) := rfl

@[simp ↓] theorem rest_eta (s : State) :
    ({ glb := s.glb, dict := s.dict, aon := s.aon, safe := s.safe, store := s.store, time := s.time, board := s.board,
       udpPort := s.udpPort, udpPorts := s.udpPorts, dram := s.dram, salvos := s.salvos, pending := s.pending, tally := s.prot.tally,
       genSeq := s.win.genSeq, active := s.win.active, open_ := s.win.open_, result := s.win.result, done := s.win.done,
       adm := { s.adm with waiting := [], live := [], retention := [] },
       inst := fun n => { Tab.get {} s.insts n with evq := {}, vecPend := 0 },
       mode := { s.mode with tokHeld := [], tokPending := [], tokPeak := 0 } } : Rest) = s.rest := rfl

@[simp ↓] theorem rest_ite (c : Prop) [Decidable c] (a b : State) :
    (if c then a else b).rest = if c then a.rest else b.rest := by split <;> rfl

theorem rest_foldl {β : Type} (f : State → β → State) (h : ∀ s b, (f s b).rest = s.rest) (l : List β) (s : State) :
    (l.foldl f s).rest = s.rest := by
  induction l generalizing s with
  | nil => rfl
  | cons a t ih => rw [List.foldl_cons, ih, h]

/-- A write of an instance that touches its event ring and its held vectors alone. -/
@[simp] theorem State.setInst_rest (s : State) (n : Nat) (x : Inst)
    (h : ({ x with evq := {}, vecPend := 0 } : Inst) = { s.inst n with evq := {}, vecPend := 0 }) :
    (s.setInst n x).rest = s.rest := by
  have : (fun k => ({ Tab.get {} (s.setInst n x).insts k with evq := {}, vecPend := 0 } : Inst)) =
      fun k => { Tab.get {} s.insts k with evq := {}, vecPend := 0 } := by
    funext k
    by_cases e : k = n
    · subst e; simpa [State.setInst, Tab.get_set_self, State.inst] using h
    · simp [State.setInst, Tab.get_set_other _ _ _ _ _ _ e]
  simp only [State.rest, this]
  rfl

/-- A write of the mode unit that touches the power tokens alone. -/
@[simp] theorem State.setMode_rest (s : State) (m : ModeUnit)
    (h : { m with tokHeld := [], tokPending := [], tokPeak := 0 } = { s.mode with tokHeld := [], tokPending := [], tokPeak := 0 }) :
    (s.setMode m).rest = s.rest := by
  simp only [State.rest, State.setMode, h]

@[simp ↓] theorem State.setReg_rest (s : State) (off v : Nat) : (State.setReg s off v).rest = s.rest := by
  rfl

@[simp ↓] theorem State.count_rest (s : State) (off : Nat) (n : Nat) : (State.count s off n).rest = s.rest := by
  rfl

@[simp ↓] theorem State.orReg_rest (s : State) (off m : Nat) : (State.orReg s off m).rest = s.rest := by
  rfl

@[simp ↓] theorem State.chCount_rest (s : State) (c i n : Nat) : (State.chCount s c i n).rest = s.rest := by
  simp [State.chCount]

@[simp ↓] theorem State.headCount_rest (s : State) (h i n : Nat) : (State.headCount s h i n).rest = s.rest := by
  simp [State.headCount]

@[simp ↓] theorem State.setCtx_rest (s : State) (n : Nat) (x : Ctx) : (State.setCtx s n x).rest = s.rest := by
  rfl

@[simp ↓] theorem State.setChan_rest (s : State) (n : Nat) (x : Chan) : (State.setChan s n x).rest = s.rest := by
  rfl

@[simp ↓] theorem State.setLane_rest (s : State) (n : Nat) (x : Lane) : (State.setLane s n x).rest = s.rest := by
  rfl

@[simp ↓] theorem State.setCore_rest (s : State) (n : Nat) (x : Core) : (State.setCore s n x).rest = s.rest := by
  rfl

@[simp ↓] theorem State.setHead_rest (s : State) (n : Nat) (x : Head) : (State.setHead s n x).rest = s.rest := by
  rfl

@[simp ↓] theorem State.setSheet_rest (s : State) (n : Nat) (x : Sheet) : (State.setSheet s n x).rest = s.rest := by
  rfl

@[simp ↓] theorem State.setEngine_rest (s : State) (n : Nat) (x : Engine) : (State.setEngine s n x).rest = s.rest := by
  rfl

@[simp ↓] theorem State.setSlots_rest (s : State) (n : Nat) (x : Slots) : (State.setSlots s n x).rest = s.rest := by
  rfl

@[simp ↓] theorem State.setSurf_rest (s : State) (n : Nat) (x : Surface) : (State.setSurf s n x).rest = s.rest := by
  rfl

@[simp ↓] theorem State.send_rest (s : State) (o : Out) : (State.send s o).rest = s.rest := by
  rfl

@[simp ↓] theorem State.signalVec_rest (s : State) (n v : Nat) : (State.signalVec s n v).rest = s.rest := by
  simp [State.signalVec]

@[simp ↓] theorem State.evqSignal_rest (s : State) (n : Nat) : (State.evqSignal s n).rest = s.rest := by
  simp [State.evqSignal]

@[simp ↓] theorem State.medEmit_rest (s : State) (k : EvKind) (idx time : Nat) (payload : List Int) : (State.medEmit s k idx time payload).rest = s.rest := by
  rfl

@[simp ↓] theorem State.ringWrite_rest (s : State) (n : Nat) (k : EvKind) (idx time : Nat) (payload : List Int) : (State.ringWrite s n k idx time payload).rest = s.rest := by
  simp [State.ringWrite]

@[simp ↓] theorem State.payLost_rest (s : State) (n time : Nat) : (State.payLost s n time).rest = s.rest := by
  unfold State.payLost
  extract_lets e i s1
  split
  · rw [State.ringWrite_rest]
    exact (State.setInst_rest s1 n { i with evq := { i.evq with lostSince := 0 } } rfl).trans (State.medEmit_rest ..)
  · rfl

@[simp ↓] theorem State.ringEmit_rest (s : State) (n : Nat) (k : EvKind) (idx time : Nat) (payload : List Int) : (State.ringEmit s n k idx time payload).rest = s.rest := by
  simp [State.ringEmit]

@[simp ↓] theorem State.ringsEmit_rest (s : State) (k : EvKind) (idx time : Nat) (payload : List Int) (z0 : List Nat) : (State.ringsEmit s k idx time payload z0).rest = s.rest := by
  induction z0 generalizing s
  all_goals unfold State.ringsEmit
  repeat'
    first
      | rfl
      | assumption
      | (simp_all; done)
      | (simp [*]; done)
      | split
      | (refine (rest_foldl _ (fun _ _ => ?_) _ _).trans ?_)
      | (refine keptRel_foldl _ (fun _ _ _ => ?_) _ _ ?_)
      | (refine (laid_foldl_s _ (fun _ _ => ?_) _ _).trans ?_)
      | (refine (fitr_foldl_s _ (fun _ _ => ?_) _ _).trans ?_)
      | (refine (injected_foldl_s _ (fun _ _ => ?_) _ _).trans ?_)
      | (intro _ _)
      | (simp; split)
      | dsimp only
      | simp

@[simp ↓] theorem State.emitAt_rest (s : State) (k : EvKind) (idx time : Nat) (payload : List Int) : (State.emitAt s k idx time payload).rest = s.rest := by
  simp [State.emitAt]

@[simp ↓] theorem State.emit_rest (s : State) (k : EvKind) (idx : Nat) (payload : List Int) : (State.emit s k idx payload).rest = s.rest := by
  simp [State.emit]

@[simp ↓] theorem State.wakeTx_rest (s : State) (l : Nat) : (State.wakeTx s l).rest = s.rest := by
  unfold State.wakeTx
  repeat'
    first
      | rfl
      | assumption
      | (simp_all; done)
      | (simp [*]; done)
      | split
      | (refine (rest_foldl _ (fun _ _ => ?_) _ _).trans ?_)
      | (refine keptRel_foldl _ (fun _ _ _ => ?_) _ _ ?_)
      | (refine (laid_foldl_s _ (fun _ _ => ?_) _ _).trans ?_)
      | (refine (fitr_foldl_s _ (fun _ _ => ?_) _ _).trans ?_)
      | (refine (injected_foldl_s _ (fun _ _ => ?_) _ _).trans ?_)
      | (intro _ _)
      | (simp; split)
      | dsimp only
      | simp

@[simp ↓] theorem State.sendPacket_rest (s : State) (l n chan : Nat) (b : LuskoBody) (payload : List Byte) : (State.sendPacket s l n chan b payload).rest = s.rest := by
  rfl

@[simp ↓] theorem State.sendLusko_rest (s : State) (l chan : Nat) (b : LuskoBody) (payload : List Byte) : (State.sendLusko s l chan b payload).rest = s.rest := by
  unfold State.sendLusko
  repeat'
    first
      | rfl
      | assumption
      | (simp_all; done)
      | (simp [*]; done)
      | split
      | (refine (rest_foldl _ (fun _ _ => ?_) _ _).trans ?_)
      | (refine keptRel_foldl _ (fun _ _ _ => ?_) _ _ ?_)
      | (refine (laid_foldl_s _ (fun _ _ => ?_) _ _).trans ?_)
      | (refine (fitr_foldl_s _ (fun _ _ => ?_) _ _).trans ?_)
      | (refine (injected_foldl_s _ (fun _ _ => ?_) _ _).trans ?_)
      | (intro _ _)
      | (simp; split)
      | dsimp only
      | simp

@[simp ↓] theorem State.sendPairBytes_rest (s : State) (m : PairMsg) (payload : List Byte) : (State.sendPairBytes s m payload).rest = s.rest := by
  unfold State.sendPairBytes
  repeat'
    first
      | rfl
      | (simp; done)
      | split
      | simp only []
      | dsimp only

@[simp ↓] theorem State.sendPair_rest (s : State) (m : PairMsg) : (State.sendPair s m).rest = s.rest := by
  simp [State.sendPair]

@[simp ↓] theorem State.pairTo_rest (s : State) (x : PairState) : (State.pairTo s x).rest = s.rest := by
  simp [State.pairTo]

@[simp ↓] theorem State.unpair_rest (s : State) : (State.unpair s).rest = s.rest := by
  simp [State.unpair]

@[simp ↓] theorem State.sendManifest_rest (s : State) (m : Manifest) : (State.sendManifest s m).rest = s.rest := by
  simp [State.sendManifest]

@[simp ↓] theorem State.sendAction_rest (s : State) (ctx op code : Nat) : (State.sendAction s ctx op code).rest = s.rest := by
  simp [State.sendAction]

@[simp ↓] theorem State.gapBegin_rest (s : State) (k : Nat) : (State.gapBegin s k).rest = s.rest := by
  simp [State.gapBegin]

@[simp ↓] theorem State.gapEnd_rest (s : State) (k : Nat) : (State.gapEnd s k).rest = s.rest := by
  simp [State.gapEnd]

@[simp ↓] theorem State.joinSource_rest (s : State) (k : Nat) : (State.joinSource s k).rest = s.rest := by
  simp [State.joinSource]

@[simp ↓] theorem State.unitOvf_rest (s : State) (u n : Nat) : (State.unitOvf s u n).rest = s.rest := by
  rfl

@[simp ↓] theorem State.progAdd_rest (s : State) (u i n : Nat) : (State.progAdd s u i n).rest = s.rest := by
  simp [State.progAdd]

@[simp ↓] theorem State.pmc_rest (s : State) (u code n : Nat) : (State.pmc s u code n).rest = s.rest := by
  unfold State.pmc
  repeat'
    first
      | rfl
      | assumption
      | (simp_all; done)
      | (simp [*]; done)
      | split
      | (refine (rest_foldl _ (fun _ _ => ?_) _ _).trans ?_)
      | (refine keptRel_foldl _ (fun _ _ _ => ?_) _ _ ?_)
      | (refine (laid_foldl_s _ (fun _ _ => ?_) _ _).trans ?_)
      | (refine (fitr_foldl_s _ (fun _ _ => ?_) _ _).trans ?_)
      | (refine (injected_foldl_s _ (fun _ _ => ?_) _ _).trans ?_)
      | (intro _ _)
      | (simp; split)
      | dsimp only
      | simp

@[simp ↓] theorem State.addSlots_rest (s : State) (u : Nat) (c : SlotClass) (n : Nat) : (State.addSlots s u c n).rest = s.rest := by
  unfold State.addSlots
  repeat'
    first
      | rfl
      | (simp; done)
      | split
      | simp only []
      | dsimp only

@[simp ↓] theorem State.endWork_rest (s : State) (u : Nat) (retired : Bool) : (State.endWork s u retired).rest = s.rest := by
  simp [State.endWork]

@[simp ↓] theorem State.slotsTo_rest (s : State) (u : Nat) (c : SlotClass) (why : Nat) : (State.slotsTo s u c why).rest = s.rest := by
  simp [State.slotsTo]

@[simp ↓] theorem State.syncCore_rest (s : State) (k : Nat) : (State.syncCore s k).rest = s.rest := by
  simp [State.syncCore]

@[simp ↓] theorem State.syncEngine_rest (s : State) (e : Nat) : (State.syncEngine s e).rest = s.rest := by
  simp [State.syncEngine]

@[simp ↓] theorem State.setBufs_rest (s : State) (p : Pool) (b : Tab Frame) : (State.setBufs s p b).rest = s.rest := by
  unfold State.setBufs
  repeat'
    first
      | rfl
      | (simp; done)
      | split
      | simp only []
      | dsimp only

@[simp ↓] theorem State.setFrame_rest (s : State) (r : FrameRef) (f : Frame) : (State.setFrame s r f).rest = s.rest := by
  simp [State.setFrame]

@[simp ↓] theorem State.modFrame_rest (s : State) (r : FrameRef) (f : Frame → Frame) : (State.modFrame s r f).rest = s.rest := by
  simp [State.modFrame]

@[simp ↓] theorem State.setChecker_rest (s : State) (src : Source) (x : BlazeState) : (State.setChecker s src x).rest = s.rest := by
  unfold State.setChecker
  repeat'
    first
      | rfl
      | (simp; done)
      | split
      | simp only []
      | dsimp only

@[simp ↓] theorem State.verdictEvent_rest (s : State) (src : Source) (old new : BlazeVerdict) (arrv : BitVec 40) : (State.verdictEvent s src old new arrv).rest = s.rest := by
  unfold State.verdictEvent
  repeat'
    first
      | rfl
      | (simp; done)
      | split
      | simp only []
      | dsimp only

@[simp ↓] theorem State.resetChecker_rest (s : State) (src : Source) : (State.resetChecker s src).rest = s.rest := by
  unfold State.resetChecker
  repeat'
    first
      | rfl
      | (simp; done)
      | split
      | simp only []
      | dsimp only

@[simp ↓] theorem State.blazeTag_rest (s : State) (src : Source) (arrv : BitVec 40) : (State.blazeTag s src arrv).rest = s.rest := by
  simp [State.blazeTag]

@[simp ↓] theorem State.blazeHash_rest (s : State) (src : Source) (arrv : BitVec 40) (seq : BitVec 16) (h : BitVec 32) : (State.blazeHash s src arrv seq h).rest = s.rest := by
  simp [State.blazeHash]

@[simp ↓] theorem State.captImplausible_rest (s : State) (ch : Nat) (arrv capt : Nat) : (State.captImplausible s ch arrv capt).rest = s.rest := by
  simp [State.captImplausible]

@[simp ↓] theorem State.writeTag_rest (s : State) (w : Writer) (r : FrameRef) (v : BlazeVerdict) (p : Nat × Bool × Nat) : (State.writeTag s w r v p).rest = s.rest := by
  unfold State.writeTag
  repeat'
    first
      | rfl
      | (simp; done)
      | split
      | simp only []
      | dsimp only

@[simp ↓] theorem State.writeTags_rest (s : State) (w : Writer) (r : FrameRef) (v : BlazeVerdict) (l : List (Nat × Bool × Nat)) : (State.writeTags s w r v l).rest = s.rest := by
  unfold State.writeTags
  repeat'
    first
      | rfl
      | assumption
      | (simp_all; done)
      | (simp [*]; done)
      | split
      | (refine (rest_foldl _ (fun _ _ => ?_) _ _).trans ?_)
      | (refine keptRel_foldl _ (fun _ _ _ => ?_) _ _ ?_)
      | (refine (laid_foldl_s _ (fun _ _ => ?_) _ _).trans ?_)
      | (refine (fitr_foldl_s _ (fun _ _ => ?_) _ _).trans ?_)
      | (refine (injected_foldl_s _ (fun _ _ => ?_) _ _).trans ?_)
      | (intro _ _)
      | (simp; split)
      | dsimp only
      | simp

@[simp ↓] theorem State.writeStands_rest (s : State) (w : Writer) (r : FrameRef) (l : List (Nat × Bool × Nat)) : (State.writeStands s w r l).rest = s.rest := by
  simp [State.writeStands]

@[simp ↓] theorem State.chanTo_rest (s : State) (ch : Nat) (x : ChState) : (State.chanTo s ch x).rest = s.rest := by
  simp [State.chanTo]

@[simp ↓] theorem State.missFor_rest (s : State) (src : Source) : (State.missFor s src).rest = s.rest := by
  unfold State.missFor
  extract_lets s0 h0 s1
  have h : s1.rest = s.rest := rfl
  clear_value s1
  cases src <;> simp [h]

@[simp ↓] theorem State.makeEligible_rest (s : State) (src : Source) (r : FrameRef) : (State.makeEligible s src r).rest = s.rest := by
  unfold State.makeEligible
  repeat'
    first
      | rfl
      | (simp; done)
      | split
      | simp only []
      | dsimp only

@[simp ↓] theorem State.settlePending_rest (s : State) (src : Source) (r : FrameRef) : (State.settlePending s src r).rest = s.rest := by
  simp [State.settlePending]

@[simp ↓] theorem State.settleAll_rest (s : State) : (State.settleAll s).rest = s.rest := by
  unfold State.settleAll
  repeat'
    first
      | rfl
      | assumption
      | (simp_all; done)
      | (simp [*]; done)
      | split
      | (refine (rest_foldl _ (fun _ _ => ?_) _ _).trans ?_)
      | (refine keptRel_foldl _ (fun _ _ _ => ?_) _ _ ?_)
      | (refine (laid_foldl_s _ (fun _ _ => ?_) _ _).trans ?_)
      | (refine (fitr_foldl_s _ (fun _ _ => ?_) _ _).trans ?_)
      | (refine (injected_foldl_s _ (fun _ _ => ?_) _ _).trans ?_)
      | (intro _ _)
      | (simp; split)
      | dsimp only
      | simp

@[simp ↓] theorem State.prerollEligible_rest (s : State) (c : Nat) (r : FrameRef) : (State.prerollEligible s c r).rest = s.rest := by
  unfold State.prerollEligible
  repeat'
    first
      | rfl
      | assumption
      | (simp_all; done)
      | (simp [*]; done)
      | split
      | (refine (rest_foldl _ (fun _ _ => ?_) _ _).trans ?_)
      | (refine keptRel_foldl _ (fun _ _ _ => ?_) _ _ ?_)
      | (intro _ _)
      | (simp; split)
      | dsimp only
      | simp

@[simp ↓] theorem State.becomeEligible_rest (s : State) (src : Source) (r : FrameRef) : (State.becomeEligible s src r).rest = s.rest := by
  simp [State.becomeEligible]

@[simp ↓] theorem State.askToken_rest (s : State) (h : TokenHolder) (u : Nat) : (State.askToken s h u).rest = s.rest := by
  simp [State.askToken]

@[simp ↓] theorem State.dropToken_rest (s : State) (h : TokenHolder) (u : Nat) : (State.dropToken s h u).rest = s.rest := by
  rfl

@[simp ↓] theorem State.ctxTo_rest (s : State) (n : Nat) (x : CtxState) : (State.ctxTo s n x).rest = s.rest := by
  simp [State.ctxTo]

@[simp ↓] theorem State.restCore_rest (s : State) (k : Nat) : (State.restCore s k).rest = s.rest := by
  simp [State.restCore]

@[simp ↓] theorem State.freeCore_rest (s : State) (n k : Nat) : (State.freeCore s n k).rest = s.rest := by
  unfold State.freeCore
  repeat'
    first
      | rfl
      | (simp; done)
      | split
      | simp only []
      | dsimp only

@[simp ↓] theorem State.freeEngine_rest (s : State) (e : Nat) : (State.freeEngine s e).rest = s.rest := by
  simp [State.freeEngine]

@[simp ↓] theorem State.dropWork_rest (s : State) (n : Nat) : (State.dropWork s n).rest = s.rest := by
  unfold State.dropWork
  repeat'
    first
      | rfl
      | assumption
      | (simp_all; done)
      | (simp [*]; done)
      | split
      | (refine (rest_foldl _ (fun _ _ => ?_) _ _).trans ?_)
      | (refine keptRel_foldl _ (fun _ _ _ => ?_) _ _ ?_)
      | (refine (laid_foldl_s _ (fun _ _ => ?_) _ _).trans ?_)
      | (refine (fitr_foldl_s _ (fun _ _ => ?_) _ _).trans ?_)
      | (refine (injected_foldl_s _ (fun _ _ => ?_) _ _).trans ?_)
      | (intro _ _)
      | (simp; split)
      | dsimp only
      | simp

@[simp ↓] theorem State.dropPicture_rest (s : State) (n : Nat) : (State.dropPicture s n).rest = s.rest := by
  unfold State.dropPicture
  repeat'
    first
      | rfl
      | assumption
      | (simp_all; done)
      | (simp [*]; done)
      | split
      | (refine (rest_foldl _ (fun _ _ => ?_) _ _).trans ?_)
      | (refine keptRel_foldl _ (fun _ _ _ => ?_) _ _ ?_)
      | (refine (laid_foldl_s _ (fun _ _ => ?_) _ _).trans ?_)
      | (refine (fitr_foldl_s _ (fun _ _ => ?_) _ _).trans ?_)
      | (refine (injected_foldl_s _ (fun _ _ => ?_) _ _).trans ?_)
      | (intro _ _)
      | (simp; split)
      | dsimp only
      | simp

@[simp ↓] theorem State.dropBuffers_rest (s : State) (n : Nat) : (State.dropBuffers s n).rest = s.rest := by
  unfold State.dropBuffers
  repeat'
    first
      | rfl
      | assumption
      | (simp_all; done)
      | (simp [*]; done)
      | split
      | (refine (rest_foldl _ (fun _ _ => ?_) _ _).trans ?_)
      | (refine keptRel_foldl _ (fun _ _ _ => ?_) _ _ ?_)
      | (refine (laid_foldl_s _ (fun _ _ => ?_) _ _).trans ?_)
      | (refine (fitr_foldl_s _ (fun _ _ => ?_) _ _).trans ?_)
      | (refine (injected_foldl_s _ (fun _ _ => ?_) _ _).trans ?_)
      | (intro _ _)
      | (simp; split)
      | dsimp only
      | simp

@[simp ↓] theorem State.ctxResync_rest (s : State) (n : Nat) : (State.ctxResync s n).rest = s.rest := by
  simp [State.ctxResync]

@[simp ↓] theorem State.ctxFault_rest (s : State) (n : Nat) (x : CtxFault) : (State.ctxFault s n x).rest = s.rest := by
  unfold State.ctxFault
  repeat'
    first
      | rfl
      | assumption
      | (simp_all; done)
      | (simp [*]; done)
      | split
      | (refine (rest_foldl _ (fun _ _ => ?_) _ _).trans ?_)
      | (refine keptRel_foldl _ (fun _ _ _ => ?_) _ _ ?_)
      | (refine (laid_foldl_s _ (fun _ _ => ?_) _ _).trans ?_)
      | (refine (fitr_foldl_s _ (fun _ _ => ?_) _ _).trans ?_)
      | (refine (injected_foldl_s _ (fun _ _ => ?_) _ _).trans ?_)
      | (intro _ _)
      | (simp; split)
      | dsimp only
      | simp

@[simp ↓] theorem State.startCtx_rest (s : State) (n : Nat) (d : Decl) : (State.startCtx s n d).rest = s.rest := by
  unfold State.startCtx
  repeat'
    first
      | rfl
      | (simp; done)
      | split
      | simp only []
      | dsimp only

@[simp ↓] theorem State.stopCtx_rest (s : State) (n : Nat) : (State.stopCtx s n).rest = s.rest := by
  simp [State.stopCtx]

@[simp ↓] theorem State.chanStart_rest (s : State) (ch : Nat) : (State.chanStart s ch).rest = s.rest := by
  unfold State.chanStart
  repeat'
    first
      | rfl
      | (simp; done)
      | split
      | simp only []
      | dsimp only

@[simp ↓] theorem State.dropViews_rest (s : State) (g : Bool) (h : Nat) (tgt : Desc → Bool) : (State.dropViews s g h tgt).rest = s.rest := by
  rfl

@[simp ↓] theorem State.switchHead_rest (s : State) (h : Nat) : (State.switchHead s h).rest = s.rest := by
  simp [State.switchHead]

@[simp ↓] theorem State.switchSheet_rest (s : State) (n : Nat) : (State.switchSheet s n).rest = s.rest := by
  unfold State.switchSheet
  repeat'
    first
      | rfl
      | assumption
      | (simp_all; done)
      | (simp [*]; done)
      | split
      | (refine (rest_foldl _ (fun _ _ => ?_) _ _).trans ?_)
      | (refine keptRel_foldl _ (fun _ _ _ => ?_) _ _ ?_)
      | (refine (laid_foldl_s _ (fun _ _ => ?_) _ _).trans ?_)
      | (refine (fitr_foldl_s _ (fun _ _ => ?_) _ _).trans ?_)
      | (refine (injected_foldl_s _ (fun _ _ => ?_) _ _).trans ?_)
      | (intro _ _)
      | (simp; split)
      | dsimp only
      | simp

@[simp ↓] theorem State.finishSwitch_rest (s : State) : (State.finishSwitch s).rest = s.rest := by
  unfold State.finishSwitch
  split
  · exact (State.settleAll_rest _).trans rfl
  · rfl

@[simp ↓] theorem State.settleHead_rest (s : State) (h : Nat) : (State.settleHead s h).rest = s.rest := by
  simp [State.settleHead]

@[simp ↓] theorem State.setRecording_rest (s : State) (r : Nat) (x : Rec) : (State.setRecording s r x).rest = s.rest := by
  rfl

@[simp ↓] theorem State.setRecCore_rest (s : State) (k : Nat) (x : RecCore) : (State.setRecCore s k x).rest = s.rest := by
  rfl

@[simp ↓] theorem State.syncRec_rest (s : State) (k : Nat) : (State.syncRec s k).rest = s.rest := by
  simp [State.syncRec]

@[simp ↓] theorem State.restRec_rest (s : State) (k : Nat) : (State.restRec s k).rest = s.rest := by
  simp [State.restRec]

@[simp ↓] theorem State.recStart_rest (s : State) (r : Nat) : (State.recStart s r).rest = s.rest := by
  unfold State.recStart
  repeat'
    first
      | rfl
      | assumption
      | (simp_all; done)
      | (simp [*]; done)
      | split
      | (refine (rest_foldl _ (fun _ _ => ?_) _ _).trans ?_)
      | (refine keptRel_foldl _ (fun _ _ _ => ?_) _ _ ?_)
      | (refine (laid_foldl_s _ (fun _ _ => ?_) _ _).trans ?_)
      | (refine (fitr_foldl_s _ (fun _ _ => ?_) _ _).trans ?_)
      | (refine (injected_foldl_s _ (fun _ _ => ?_) _ _).trans ?_)
      | (intro _ _)
      | (simp; split)
      | dsimp only
      | simp

@[simp ↓] theorem State.recStop_rest (s : State) (r : Nat) : (State.recStop s r).rest = s.rest := by
  rfl

@[simp ↓] theorem State.entryApplied_rest (s : State) (m : Manifest) : (State.entryApplied s m).rest = s.rest := by
  rfl

@[simp ↓] theorem State.takeSsrc_rest (s : State) (n : Nat) (q : Option (BitVec 32)) : (State.takeSsrc s n q).rest = s.rest := by
  simp [State.takeSsrc]

@[simp ↓] theorem State.applyAction_rest (s : State) (m : Manifest) : (State.applyAction s m).rest = s.rest := by
  unfold State.applyAction
  repeat'
    first
      | rfl
      | (simp; done)
      | split
      | simp only []
      | dsimp only

@[simp ↓] theorem State.notePeak_rest (s : State) : (State.notePeak s).rest = s.rest := by
  rfl

@[simp ↓] theorem State.laneTo_rest (s : State) (l : Nat) (x : LaneState) : (State.laneTo s l x).rest = s.rest := by
  simp [State.laneTo]

@[simp ↓] theorem State.countInvalid_rest (s : State) (n k : Nat) : (State.countInvalid s n k).rest = s.rest := by
  unfold State.countInvalid
  repeat'
    first
      | rfl
      | (simp; done)
      | split
      | simp only []
      | dsimp only

@[simp ↓] theorem State.ctxEligible_rest (s : State) (n : Nat) (r : FrameRef) : (State.ctxEligible s n r).rest = s.rest := by
  unfold State.ctxEligible
  repeat'
    first
      | rfl
      | (simp; done)
      | split
      | simp only []
      | dsimp only

@[simp ↓] theorem State.finishCapture_rest (s : State) (n : Nat) (o : OpenFrame) : (State.finishCapture s n o).rest = s.rest := by
  unfold State.finishCapture
  repeat'
    first
      | rfl
      | (simp; done)
      | split
      | simp only []
      | dsimp only

@[simp ↓] theorem State.tagGroup_rest (s : State) (n : Nat) (o : OpenFrame) (g : Nat) (err : Bool) (arrv : Nat) : (State.tagGroup s n o g err arrv).rest = s.rest := by
  simp [State.tagGroup]

@[simp ↓] theorem State.applyCapture_rest (s : State) (n : Nat) (o : OpenFrame) (m : Manifest) : (State.applyCapture s n o m).rest = s.rest := by
  unfold State.applyCapture
  repeat'
    first
      | rfl
      | assumption
      | (simp_all; done)
      | (simp [*]; done)
      | split
      | (refine (rest_foldl _ (fun _ _ => ?_) _ _).trans ?_)
      | (refine keptRel_foldl _ (fun _ _ _ => ?_) _ _ ?_)
      | (intro _ _)
      | (simp; split)
      | dsimp only
      | simp

@[simp ↓] theorem State.runActions_rest (s : State) (n : Nat) (z0 : Nat) : (State.runActions s n z0).rest = s.rest := by
  induction z0 generalizing s
  all_goals unfold State.runActions
  repeat'
    first
      | rfl
      | assumption
      | (simp_all; done)
      | (simp [*]; done)
      | split
      | (refine (rest_foldl _ (fun _ _ => ?_) _ _).trans ?_)
      | (refine keptRel_foldl _ (fun _ _ _ => ?_) _ _ ?_)
      | (refine (laid_foldl_s _ (fun _ _ => ?_) _ _).trans ?_)
      | (refine (fitr_foldl_s _ (fun _ _ => ?_) _ _).trans ?_)
      | (refine (injected_foldl_s _ (fun _ _ => ?_) _ _).trans ?_)
      | (intro _ _)
      | (simp; split)
      | dsimp only
      | simp

@[simp ↓] theorem State.closeCapture_rest (s : State) (n : Nat) : (State.closeCapture s n).rest = s.rest := by
  unfold State.closeCapture
  repeat'
    first
      | rfl
      | assumption
      | (simp_all; done)
      | (simp [*]; done)
      | split
      | (refine (rest_foldl _ (fun _ _ => ?_) _ _).trans ?_)
      | (refine keptRel_foldl _ (fun _ _ _ => ?_) _ _ ?_)
      | (intro _ _)
      | (simp; split)
      | dsimp only
      | simp

@[simp ↓] theorem State.leaveUp_rest (s : State) (first : Nat) (role : BondRole) : (State.leaveUp s first role).rest = s.rest := by
  unfold State.leaveUp
  repeat'
    first
      | rfl
      | assumption
      | (simp_all; done)
      | (simp [*]; done)
      | split
      | (refine (rest_foldl _ (fun _ _ => ?_) _ _).trans ?_)
      | (refine keptRel_foldl _ (fun _ _ _ => ?_) _ _ ?_)
      | (refine (laid_foldl_s _ (fun _ _ => ?_) _ _).trans ?_)
      | (refine (fitr_foldl_s _ (fun _ _ => ?_) _ _).trans ?_)
      | (refine (injected_foldl_s _ (fun _ _ => ?_) _ _).trans ?_)
      | (intro _ _)
      | (simp; split)
      | dsimp only
      | simp

@[simp ↓] theorem State.bondTo_rest (s : State) (l : Nat) (x : Nat → LaneState) : (State.bondTo s l x).rest = s.rest := by
  unfold State.bondTo
  repeat'
    first
      | rfl
      | assumption
      | (simp_all; done)
      | (simp [*]; done)
      | split
      | (refine (rest_foldl _ (fun _ _ => ?_) _ _).trans ?_)
      | (refine keptRel_foldl _ (fun _ _ _ => ?_) _ _ ?_)
      | (refine (laid_foldl_s _ (fun _ _ => ?_) _ _).trans ?_)
      | (refine (fitr_foldl_s _ (fun _ _ => ?_) _ _).trans ?_)
      | (refine (injected_foldl_s _ (fun _ _ => ?_) _ _).trans ?_)
      | (intro _ _)
      | (simp; split)
      | dsimp only
      | simp

@[simp ↓] theorem State.headTo_rest (s : State) (h : Nat) (st : HeadState) : (State.headTo s h st).rest = s.rest := by
  simp [State.headTo]

@[simp ↓] theorem State.checkSink_rest (s : State) (h : Nat) (c : HeadCfg) : (State.checkSink s h c).rest = s.rest := by
  simp [State.checkSink]

@[simp ↓] theorem State.untrain_rest (s : State) (h : Nat) : (State.untrain s h).rest = s.rest := by
  simp [State.untrain]

@[simp ↓] theorem State.askTraining_rest (s : State) (h : Nat) : (State.askTraining s h).rest = s.rest := by
  simp [State.askTraining]

@[simp ↓] theorem fitr_ite_s (c : Prop) [Decidable c] (a b : Fit) :
    (if c then a else b).s = if c then a.s else b.s := by split <;> rfl

theorem fitr_foldl_s {β : Type} (f : Fit → β → Fit) (h : ∀ x b, (f x b).s.rest = x.s.rest) (l : List β) (x : Fit) :
    (l.foldl f x).s.rest = x.s.rest := foldl_same (fun x => x.s.rest) f h l x

@[simp ↓] theorem Fit.ctxBufs_rest (f : Fit) (n : Nat) (d : Decl) : (f.ctxBufs n d).s.rest = f.s.rest := by
  unfold Fit.ctxBufs
  extract_lets c need got
  clear_value got
  split
  · simp
  · split
    · rfl
    · split <;> rfl

@[simp ↓] theorem Fit.ctxPackets_rest (f : Fit) (n : Nat) (d : Decl) : (f.ctxPackets n d).s.rest = f.s.rest := by
  unfold Fit.ctxPackets
  dsimp only
  split <;> simp

@[simp ↓] theorem Fit.ctx_rest (grow : Bool) (f : Fit) (n : Nat) : (Fit.ctx grow f n).s.rest = f.s.rest := by
  unfold Fit.ctx
  dsimp only
  split
  · split <;> simp
  · split
    · rfl
    · rw [Fit.ctxPackets_rest, Fit.ctxBufs_rest]

@[simp ↓] theorem Fit.sheet_rest (grow : Bool) (f : Fit) (n : Nat) : (Fit.sheet grow f n).s.rest = f.s.rest := by
  unfold Fit.sheet
  dsimp only
  split
  · split <;> simp
  · split
    · rfl
    · split <;> simp

@[simp ↓] theorem Fit.recording_rest (grow : Bool) (f : Fit) (r : Nat) : (Fit.recording grow f r).s.rest = f.s.rest := by
  unfold Fit.recording
  extract_lets x
  clear_value x
  split
  · split
    · rfl
    · split
      · extract_lets s
        have h : s.rest = f.s.rest := State.setRecording_rest ..
        clear_value s
        split
        · exact (State.setRecording_rest ..).trans h
        · rfl
      · rfl
  · split
    · rfl
    · exact State.setRecording_rest ..

@[simp ↓] theorem Fit.surf_rest (grow : Bool) (f : Fit) (n : Nat) : (Fit.surf grow f n).s.rest = f.s.rest := by
  unfold Fit.surf
  dsimp only
  split
  · split
    · simp
    · split <;> rfl
  · rfl

@[simp ↓] theorem Fit.retention_rest (grow : Bool) (f : Fit) : (f.retention grow).s.rest = f.s.rest := by
  unfold Fit.retention
  dsimp only
  split
  · rfl
  · split <;> rfl

@[simp ↓] theorem State.fitPass_rest (s : State) (grow : Bool) : (s.fitPass grow).s.rest = s.rest := by
  unfold State.fitPass
  extract_lets f started stopped f1 f2 f3 f4
  have h1 : f1.s.rest = s.rest := fitr_foldl_s _ (fun x n => Fit.ctx_rest grow x n) _ _
  have h2 : f2.s.rest = f1.s.rest := fitr_foldl_s _ (fun x n => Fit.sheet_rest grow x n) _ _
  have h3 : f3.s.rest = f2.s.rest := fitr_foldl_s _ (fun x n => Fit.recording_rest grow x n) _ _
  have h4 : f4.s.rest = f3.s.rest := Fit.retention_rest grow f3
  exact (fitr_foldl_s _ (fun x n => Fit.surf_rest grow x n) _ _).trans (h4.trans (h3.trans (h2.trans h1)))

@[simp ↓] theorem State.fitPools_rest (s : State) : s.fitPools.s.rest = s.rest := by
  unfold State.fitPools
  rw [State.fitPass_rest, State.fitPass_rest]

@[simp ↓] theorem State.pairLeave_rest (s : State) : (State.pairLeave s).rest = s.rest := by
  simp [State.pairLeave]

@[simp ↓] theorem State.forgetSource_rest (s : State) (src : Source) : (State.forgetSource s src).rest = s.rest := by
  rfl

@[simp ↓] theorem State.reportPath_rest (s : State) (p : PathCfg) : (State.reportPath s p).rest = s.rest := by
  simp [State.reportPath]

@[simp ↓] theorem State.sendIdent_rest (s : State) (l : Nat) : (State.sendIdent s l).rest = s.rest := by
  rfl

@[simp ↓] theorem State.trainLane_rest (s : State) (l : Nat) : (State.trainLane s l).rest = s.rest := by
  simp [State.trainLane]

@[simp ↓] theorem State.liveCtx_rest (s : State) (touched : List Nat) (objs : Tab Obj) (n : Nat) :
    (s.liveCtx touched objs n).rest = s.rest := by
  unfold State.liveCtx
  split
  · rename_i d _
    extract_lets s1 s2
    have h1 : s1.rest = s.rest := by
      simp only [s1]
      split
      · rfl
      · rw [State.dropBuffers_rest, State.dropWork_rest]
    have h2 : s2.rest = s1.rest := State.startCtx_rest ..
    clear_value s1 s2
    rw [← h1, ← h2]
    cases d with
    | net x => dsimp only; rw [State.reportPath_rest, State.reportPath_rest]
    | lusko x => rfl
  · rfl

@[simp ↓] theorem State.feedCtx_rest (s : State) (objs : Tab Obj) (n : Nat) : (State.feedCtx s objs n).rest = s.rest := by
  rfl

@[simp ↓] theorem State.feedChan_rest (s : State) (c : Nat) (n : Option Nat) : (State.feedChan s c n).rest = s.rest := by
  simp [State.feedChan]

@[simp ↓] theorem State.setChanCfg_rest (s : State) (objs : Tab Obj) (c : Nat) : (State.setChanCfg s objs c).rest = s.rest := by
  simp [State.setChanCfg]

@[simp ↓] theorem State.wastePreroll_rest (s : State) (n : Nat) : (State.wastePreroll s n).rest = s.rest := by
  unfold State.wastePreroll
  repeat'
    first
      | rfl
      | assumption
      | (simp_all; done)
      | (simp [*]; done)
      | split
      | (refine (rest_foldl _ (fun _ _ => ?_) _ _).trans ?_)
      | (refine keptRel_foldl _ (fun _ _ _ => ?_) _ _ ?_)
      | (refine (laid_foldl_s _ (fun _ _ => ?_) _ _).trans ?_)
      | (refine (fitr_foldl_s _ (fun _ _ => ?_) _ _).trans ?_)
      | (refine (injected_foldl_s _ (fun _ _ => ?_) _ _).trans ?_)
      | (intro _ _)
      | (simp; split)
      | dsimp only
      | simp

@[simp ↓] theorem State.liveStop_rest (s : State) (cancelled : List Nat) (objs : Tab Obj) (n : Nat) : (State.liveStop s cancelled objs n).rest = s.rest := by
  simp [State.liveStop]

@[simp ↓] theorem State.liveIngest_rest (s : State) (touched cancelled : List Nat) (objs : Tab Obj) :
    (s.liveIngest touched cancelled objs).rest = s.rest := by
  unfold State.liveIngest
  extract_lets ns started s1 chs s2 s3 s4 s5 again s6
  have h1 : s1.rest = s.rest := rest_foldl _ (fun y n => State.liveCtx_rest ..) _ _
  have h2 : s2.rest = s1.rest := rest_foldl _ (fun y n => State.feedCtx_rest ..) _ _
  have h3 : s3.rest = s2.rest := rest_foldl _ (fun y n => State.feedChan_rest ..) _ _
  have h4 : s4.rest = s3.rest := rest_foldl _ (fun y n => State.setChanCfg_rest ..) _ _
  have h5 : s5.rest = s4.rest := rest_foldl _ (fun y n => State.liveStop_rest ..) _ _
  have h6 : s6.rest = s5.rest := rest_foldl _ (fun y n => State.chanStart_rest ..) _ _
  rw [State.settleAll_rest, h6, h5, h4, h3, h2, h1]

@[simp ↓] theorem State.disableBond_rest (s : State) (l : Nat) (b : BondCfg) : (State.disableBond s l b).rest = s.rest := by
  unfold State.disableBond
  repeat'
    first
      | rfl
      | assumption
      | (simp_all; done)
      | (simp [*]; done)
      | split
      | (refine (rest_foldl _ (fun _ _ => ?_) _ _).trans ?_)
      | (refine keptRel_foldl _ (fun _ _ _ => ?_) _ _ ?_)
      | (refine (laid_foldl_s _ (fun _ _ => ?_) _ _).trans ?_)
      | (refine (fitr_foldl_s _ (fun _ _ => ?_) _ _).trans ?_)
      | (refine (injected_foldl_s _ (fun _ _ => ?_) _ _).trans ?_)
      | (intro _ _)
      | (simp; split)
      | dsimp only
      | simp

@[simp ↓] theorem State.enableBond_rest (s : State) (l : Nat) (b : BondCfg) : (State.enableBond s l b).rest = s.rest := by
  unfold State.enableBond
  repeat'
    first
      | rfl
      | assumption
      | (simp_all; done)
      | (simp [*]; done)
      | split
      | (refine (rest_foldl _ (fun _ _ => ?_) _ _).trans ?_)
      | (refine keptRel_foldl _ (fun _ _ _ => ?_) _ _ ?_)
      | (refine (laid_foldl_s _ (fun _ _ => ?_) _ _).trans ?_)
      | (refine (fitr_foldl_s _ (fun _ _ => ?_) _ _).trans ?_)
      | (refine (injected_foldl_s _ (fun _ _ => ?_) _ _).trans ?_)
      | (intro _ _)
      | (simp; split)
      | dsimp only
      | simp

@[simp ↓] theorem State.liveBonds_rest (s : State) (objs : Tab Obj) : (State.liveBonds s objs).rest = s.rest := by
  unfold State.liveBonds
  repeat'
    first
      | rfl
      | assumption
      | (simp_all; done)
      | (simp [*]; done)
      | split
      | (refine (rest_foldl _ (fun _ _ => ?_) _ _).trans ?_)
      | (refine keptRel_foldl _ (fun _ _ _ => ?_) _ _ ?_)
      | (refine (laid_foldl_s _ (fun _ _ => ?_) _ _).trans ?_)
      | (refine (fitr_foldl_s _ (fun _ _ => ?_) _ _).trans ?_)
      | (refine (injected_foldl_s _ (fun _ _ => ?_) _ _).trans ?_)
      | (intro _ _)
      | (simp; split)
      | dsimp only
      | simp

@[simp ↓] theorem State.liveHead_rest (s : State) (a : Nat) (objs : Tab Obj) (h : Nat) : (State.liveHead s a objs h).rest = s.rest := by
  unfold State.liveHead
  repeat'
    first
      | rfl
      | (simp; done)
      | split
      | simp only []
      | dsimp only

@[simp ↓] theorem State.liveSheet_rest (s : State) (objs : Tab Obj) (n : Nat) : (s.liveSheet objs n).rest = s.rest := by
  unfold State.liveSheet
  extract_lets v x e free
  have hf : ∀ s : State, (free s).rest = s.rest := fun s => by
    refine rest_foldl _ (fun y k => ?_) _ _
    split
    · exact State.freeEngine_rest ..
    · rfl
  clear_value v x e free
  split
  · split
    · rw [State.finishSwitch_rest, State.setSheet_rest, State.forgetSource_rest, hf]
    · rfl
  · split
    · rw [State.setSheet_rest]
    · split
      · rw [State.setSheet_rest]
      · rw [State.settleAll_rest, State.setSheet_rest, hf]

@[simp ↓] theorem State.liveRec_rest (s : State) (old objs : Tab Obj) (r : Nat) : (State.liveRec s old objs r).rest = s.rest := by
  simp [State.liveRec]

@[simp ↓] theorem State.reseat_rest (s : State) (n : Nat) : (State.reseat s n).rest = s.rest := by
  unfold State.reseat
  repeat'
    first
      | rfl
      | (simp; done)
      | split
      | simp only []
      | dsimp only

@[simp ↓] theorem State.livePacking_rest (s : State) (objs : Tab Obj) : (State.livePacking s objs).rest = s.rest := by
  unfold State.livePacking
  repeat'
    first
      | rfl
      | assumption
      | (simp_all; done)
      | (simp [*]; done)
      | split
      | (refine (rest_foldl _ (fun _ _ => ?_) _ _).trans ?_)
      | (refine keptRel_foldl _ (fun _ _ _ => ?_) _ _ ?_)
      | (refine (laid_foldl_s _ (fun _ _ => ?_) _ _).trans ?_)
      | (refine (fitr_foldl_s _ (fun _ _ => ?_) _ _).trans ?_)
      | (refine (injected_foldl_s _ (fun _ _ => ?_) _ _).trans ?_)
      | (intro _ _)
      | (simp; split)
      | dsimp only
      | simp

@[simp ↓] theorem State.liveTouch_rest (s : State) (objs : Tab Obj) (p : Nat) : (State.liveTouch s objs p).rest = s.rest := by
  simp [State.liveTouch]

@[simp ↓] theorem State.liveKey_rest (s : State) (objs : Tab Obj) (k : Nat) : (State.liveKey s objs k).rest = s.rest := by
  simp [State.liveKey]

@[simp ↓] theorem State.liveConsole_rest (s : State) (objs : Tab Obj) : (s.liveConsole objs).rest = s.rest := by
  unfold State.liveConsole
  extract_lets s1 s2 o g rule
  have h1 : s1.rest = s.rest := rest_foldl _ (fun y n => State.liveTouch_rest ..) _ _
  have h2 : s2.rest = s1.rest := rest_foldl _ (fun y n => State.liveKey_rest ..) _ _
  clear_value s1 s2 g rule
  exact h2.trans h1

@[simp ↓] theorem State.livePair_rest (s : State) (objs : Tab Obj) : (State.livePair s objs).rest = s.rest := by
  simp [State.livePair]

@[simp ↓] theorem State.goLive_rest (s : State) (a : Nat) (touched cancelled : List Nat) (objs : Tab Obj) :
    (s.goLive a touched cancelled objs).rest = s.rest := by
  unfold State.goLive
  extract_lets old s1 s2 s3 s4 s5 s6
  have h1 : s1.rest = s.rest := State.liveIngest_rest ..
  have h2 : s2.rest = s1.rest := State.liveBonds_rest ..
  have h3 : s3.rest = s2.rest := rest_foldl _ (fun y n => State.liveHead_rest ..) _ _
  have h4 : s4.rest = s3.rest := rest_foldl _ (fun y n => State.liveSheet_rest ..) _ _
  have h5 : s5.rest = s4.rest := rest_foldl _ (fun y n => State.liveRec_rest ..) _ _
  have h6 : s6.rest = s5.rest := by
    simp only [s6, State.notePeak_rest, State.livePair_rest, State.liveConsole_rest, State.livePacking_rest]
  clear_value s1 s2 s3 s4 s5 s6
  exact h6.trans (by rw [h5, h4, h3, h2, h1])

@[simp ↓] theorem State.takeEffect_rest (s : State) (n : Nat) : (s.takeEffect n).rest = s.rest := by
  induction n generalizing s with
  | zero => rfl
  | succ n ih =>
    unfold State.takeEffect
    split
    · split
      · rw [ih, State.goLive_rest]; rfl
      · rfl
    · rfl

@[simp ↓] theorem State.applyWaiting_rest (s : State) : (State.applyWaiting s).rest = s.rest := by
  simp [State.applyWaiting]

/-- A generation accepted: the shadow becomes active, and its SEQ is the next (R203, R205). -/
theorem State.acceptGeneration_rest (s : State) (a : Nat) : (s.acceptGeneration a).rest =
    { s.rest with genSeq := s.win.seq + 1, active := !s.win.active, open_ := false } := by
  unfold State.acceptGeneration
  extract_lets w s1 s2 s3
  have h1 : s1.rest = { s.rest with genSeq := s.win.seq + 1, active := !s.win.active, open_ := false } := rfl
  have h2 : s2.rest = s1.rest := by
    refine rest_foldl _ (fun y h => ?_) _ _
    dsimp only
    split
    · exact State.setHead_rest ..
    · exact State.setHead_rest ..
    · exact State.switchHead_rest ..
  have h3 : s3.rest = s2.rest := by
    refine rest_foldl _ (fun y n => ?_) _ _
    dsimp only
    split <;> exact State.setSheet_rest ..
  exact (State.finishSwitch_rest s3).trans (h3.trans (h2.trans h1))

/-- As `State.acceptGeneration_rest`, of the admitted windows. -/
theorem State.commitGen_rest (s : State) (a : Nat) : (s.commitGen a).rest =
    { s.rest with genSeq := s.win.seq + 1, active := !s.win.active, open_ := false } := by
  unfold State.commitGen
  rw [State.acceptGeneration_rest]
  simp only [WinTable.setGen]
  split <;> rfl

end Sys2Proof.Machine
end

