-- ==== Sys2Proof/Laws/Admission.lean ====
section
/-! SUPPORT. A request that is judged at once and passes every check is admitted (R37, R38): the queue holds nothing else, so serving it
answers `Safety.admitted`. -/

namespace Sys2Proof.Machine

open Sys2Proof.Safety

theorem State.refuseForwarded_none (s : State) (h : s.adm.forwarded = []) : s.refuseForwarded = s := by
  unfold State.refuseForwarded
  split
  · rfl
  · have : ({ s with adm := { s.adm with forwarded := [] } } : State) = s := by rw [← h]
    rw [this, h]
    rfl

theorem State.applyWaiting_none (s : State) (h : s.adm.waiting = []) : s.applyWaiting = s := by
  unfold State.applyWaiting; rw [h]; rfl

theorem State.serveQueue_none (s : State) (n : Nat) (h : s.adm.queue = []) : s.serveQueue n = s := by
  cases n with
  | zero => rfl
  | succ n => unfold State.serveQueue; rw [h]; rfl

/-- With nothing waiting, running the queue leaves the state as it is. -/
theorem State.runQueue_quiet (s : State) (h : quietQueue s) : s.runQueue = s := by
  unfold State.runQueue
  split
  · rw [State.refuseForwarded_none s h.2.1, State.applyWaiting_none s h.2.2, State.serveQueue_none s _ h.1]
  · rfl

/-- What judging an admissible request answers. -/
theorem State.judgeFirst_admitted (s : State) (r : Request) (h : admissible s r) (hs : r.stored = false) :
    s.judgeFirst r = admitted s r := by
  unfold State.judgeFirst State.judge admitted
  have h : reasonCode (firstReason (s.lay s.acceptTime r).why) = 0 := h
  simp only [h, hs, if_true, and_true, true_or, if_false, Bool.false_eq_true]
  all_goals split <;> rfl

/-- Serving a queue that holds one request, judged at once and admissible. -/
theorem State.serveQueue_admitted (u : State) (r : Request) (n : Nat) (h : atOnce u r) (ha : admissible u r) :
    State.serveQueue { u with adm := { u.adm with queue := [r] } } (n + 1) = (admitted u r).serveQueue n := by
  obtain ⟨_, _, hp, hs, hq, _, _, hm, hr⟩ := h
  conv => lhs; unfold State.serveQueue
  have hm' : State.mayJudge { u with adm := { u.adm with queue := [r] } } r = true := hm
  have hb : State.blocked { u with adm := { u.adm with queue := [r] } } r = false := by
    unfold State.blocked
    have : (!({ u with adm := { u.adm with queue := [r] } } : State).win.ready) = false := by simpa using hr
    rw [this]; rfl
  have hu : ({ u with adm := { u.adm with queue := [] } } : State) = u := by rw [← hq]
  simp only [List.find?_cons, hm', hb]
  simp only [List.erase_cons_head, hu]
  rw [State.judgeFirst_admitted u r ha hs]
  rfl

/-- Placing a request that is judged at once and passes every check. -/
theorem State.place_admitted (u : State) (r : Request) (h : atOnce u r) (ha : admissible u r) :
    u.place r = (admitted u r).serveQueue 4 := by
  have h0 := h
  obtain ⟨hu, hf, hp, hs, hq, hw, ht, hm, hr⟩ := h
  have hv : u.enqueue r = { u with adm := { u.adm with queue := [r] } } := by unfold State.enqueue; rw [hq]; rfl
  have hx : State.up { u with adm := { u.adm with queue := [r] } } = true := hu
  have hy : State.runQueue { u with adm := { u.adm with queue := [r] } } = (admitted u r).serveQueue 4 := by
    unfold State.runQueue
    rw [if_pos hx, State.refuseForwarded_none { u with adm := { u.adm with queue := [r] } } hw,
      State.applyWaiting_none { u with adm := { u.adm with queue := [r] } } ht]
    exact State.serveQueue_admitted u r 4 h0 ha
  unfold State.place
  simp only [hu, hf, hp, hv, hy]
  rfl

/-- Placing an admissible request to the safety partition. -/
theorem State.place_safety (u : State) (r : Request) (hu : u.up = true) (hf : u.forwards r = false) (hp : Request.safety r = true)
    (hs : r.stored = false) (ha : admissible u r) : u.place r = admitted u r := by
  unfold State.place
  simp only [hu, hf, hp]
  simpa using State.judgeFirst_admitted u r ha hs

/-- A command that places an admissible request completes with `P`, where `P` holds of the admitted state and nothing is left in its
queue. -/
theorem admits_of (i : Instr) (s u : State) (r : Request) (P : State → Prop)
    (he : atOnce u r → admissible u r → exec i s = .next (u.place r))
    (hq : atOnce u r → admissible u r → (admitted u r).adm.queue = [])
    (hP : atOnce u r → admissible u r → P (admitted u r)) : admits i s u r P := by
  intro h ha
  refine ⟨_, he h ha, ?_⟩
  have : u.place r = admitted u r := by rw [State.place_admitted u r h ha, State.serveQueue_none _ 4 (hq h ha)]
  rw [this]
  exact ⟨rfl, hP h ha⟩

/-- The state that a request without a blob leaves for what its changes do at once: `l.s` with GLB dirty where it changes the
configuration, and a generation committed where windows change. -/
theorem State.accept_before (s : State) (a : Nat) (r : Request) (l : Laid) (hb : r.blob = none) :
    ∃ Y : State, s.accept a r l = (r.changes.foldl (State.act a r.received) Y).applyWaiting ∧
      ∃ X : Rest, X = { l.s.rest with glb := { l.s.glb with dirty := if r.changes.all Change.bare && !r.stored then l.s.glb.dirty else true } } ∧
        (Y.rest = X ∨ Y.rest = { X with genSeq := l.s.win.seq + 1, active := !l.s.win.active, open_ := false }) ∧
        (Request.gen r = true → Y.rest = { X with genSeq := l.s.win.seq + 1, active := !l.s.win.active, open_ := false }) := by
  unfold State.accept
  extract_lets new old fresh p0 new' cfg a0 s1 s2 s3 x0 y0
  refine ⟨s3, rfl, _, rfl, ?_⟩
  have e3 : s3 = s2 := by simp only [s3, hb]; rfl
  have hn : new'.rest = l.s.rest := rfl
  have e1 : s1.rest = { l.s.rest with glb := { l.s.glb with dirty := if r.changes.all Change.bare && !r.stored then l.s.glb.dirty else true } } ∧
      s1.win = l.s.win := by
    simp only [s1]
    by_cases hc : (r.changes.all Change.bare && !r.stored) = true
    · have hc' : cfg = false := by simp only [cfg, hb]; simpa using hc
      rw [hc', hc]
      exact ⟨rfl, rfl⟩
    · have hc' : cfg = true := by simp only [cfg, hb, Option.isNone_none, Bool.and_true, eq_false_of_ne_true hc, Bool.not_false]
      rw [hc', eq_false_of_ne_true hc]
      simp only [State.configured, hb]
      exact ⟨rfl, rfl⟩
  have eg : (s1.commitGen (s.genTime a r)).rest =
      { s1.rest with genSeq := l.s.win.seq + 1, active := !l.s.win.active, open_ := false } := by
    rw [State.commitGen_rest, e1.2]
  rw [e3]
  simp only [s2]
  refine ⟨?_, fun hg => ?_⟩
  · split
    · exact .inr (by rw [eg, e1.1])
    · exact .inl e1.1
  · have : commitsGen s new' r = true := by simp [commitsGen, hg]
    rw [if_pos this, eg, e1.1]

/-- An admitted request without a blob: what its changes do, the place taken, and the answer. -/
theorem admitted_before (s : State) (r : Request) (hb : r.blob = none) (hr : Request.resets r = false) :
    ∃ (Y V : State) (res : Nat), admitted s r = V.answer r 0 res ∧
      V.rest = { (r.changes.foldl (State.act s.acceptTime r.received) Y).rest with adm :=
        { (r.changes.foldl (State.act s.acceptTime r.received) Y).rest.adm with
          pos := (r.changes.foldl (State.act s.acceptTime r.received) Y).rest.adm.pos + 1 } } ∧
      ∃ (l : Laid) (X : Rest), l = s.lay s.acceptTime r ∧
        X = { l.s.rest with glb := { l.s.glb with dirty := if r.changes.all Change.bare && !r.stored then l.s.glb.dirty else true } } ∧
        (Y.rest = X ∨ Y.rest = { X with genSeq := l.s.win.seq + 1, active := !l.s.win.active, open_ := false }) ∧
        (Request.gen r = true → Y.rest = { X with genSeq := l.s.win.seq + 1, active := !l.s.win.active, open_ := false }) := by
  obtain ⟨Y, hY, X, hX, h1, h2⟩ := State.accept_before s s.acceptTime r (s.lay s.acceptTime r) hb
  unfold admitted
  simp only [hr, Bool.false_eq_true, if_false]
  refine ⟨Y, _, _, rfl, ?_, _, X, rfl, hX, h1, h2⟩
  have h : (s.accept s.acceptTime r (s.lay s.acceptTime r)).rest = (r.changes.foldl (State.act s.acceptTime r.received) Y).rest := by
    rw [hY, State.applyWaiting_rest]
  rw [← h]
  split
  · rw [State.sendPair_rest]; rfl
  · rfl

/-- A request that judges no configuration and lays nothing: its changes act on the state as it is. -/
theorem State.accept_bare (s : State) (a : Nat) (r : Request) (l : Laid) (hl : l.s = s) (hb : r.blob = none) (hs : r.stored = false)
    (hc : r.changes.all Change.bare = true) (hg : Request.gen r = false) :
    s.accept a r l = (r.changes.foldl (State.act a r.received) s).applyWaiting := by
  unfold State.accept
  extract_lets new old fresh p0 new' cfg a0 s1 s2 s3
  have hf : fresh = [] := by
    simp only [fresh, new, old, hl]
    exact List.filter_eq_nil_iff.mpr (fun p hp => by simpa using hp)
  have hn : new' = s := by
    have : new.prot.scrubbed.filter (fun e => !fresh.contains (e.1 / 512)) = new.prot.scrubbed := by rw [hf]; simp
    simp only [new', p0, this]
    exact hl
  have h1 : s1 = s := by
    have : cfg = false := by simp [cfg, hc, hb, hs]
    simp only [s1, this]
    exact hn
  have h2 : s2 = s := by
    have : commitsGen s new' r = false := by simp [commitsGen, hg, hn]
    simp only [s2, this]
    exact h1
  have h3 : s3 = s := by simp only [s3, hb]; exact h2
  rw [h3]

/-- Such a request admitted: what its changes do, the place taken, and the answer. -/
theorem admitted_bare (s : State) (r : Request) (hl : (s.lay s.acceptTime r).s = s) (hb : r.blob = none) (hs : r.stored = false)
    (hc : r.changes.all Change.bare = true) (hg : Request.gen r = false) (hr : Request.resets r = false) :
    ∃ (V : State) (res : Nat), admitted s r = V.answer r 0 res ∧
      V.rest = { (r.changes.foldl (State.act s.acceptTime r.received) s).rest with adm :=
        { (r.changes.foldl (State.act s.acceptTime r.received) s).rest.adm with
          pos := (r.changes.foldl (State.act s.acceptTime r.received) s).rest.adm.pos + 1 } } := by
  have h := State.accept_bare s s.acceptTime r _ hl hb hs hc hg
  unfold admitted
  simp only [hr, Bool.false_eq_true, if_false]
  refine ⟨_, _, rfl, ?_⟩
  have h : (s.accept s.acceptTime r (s.lay s.acceptTime r)).rest = (r.changes.foldl (State.act s.acceptTime r.received) s).rest := by
    rw [h, State.applyWaiting_rest]
  rw [← h]
  split
  · rw [State.sendPair_rest]; rfl
  · rfl

/-- A change of mode: the new mode, the one before it and its instant; nothing else of what `State.rest` holds. -/
theorem State.modeTo_rest (s : State) (m : Mode) (c : Nat) (h : s.mode.mode ≠ m) :
    (s.modeTo m c).rest = { s.rest with mode := { s.rest.mode with mode := m, prev := s.mode.mode, since := s.now } } := by
  unfold State.modeTo
  rw [if_neg h]
  dsimp only
  rw [State.emit_rest]
  split <;> rfl

/-- A change to the mode that the device is in is none. -/
theorem State.modeTo_same (s : State) (m : Mode) (c : Nat) (h : s.mode.mode = m) : s.modeTo m c = s := by
  unfold State.modeTo
  rw [if_pos h]

theorem State.startRecs_rest (s : State) : s.startRecs.rest = s.rest := by
  unfold State.startRecs
  refine rest_foldl _ (fun y r => ?_) _ _
  split
  · exact State.recStart_rest ..
  · rfl

theorem State.presentSafeHold_rest (s : State) (on : Bool) (a : Nat) :
    (s.presentSafeHold on a).rest = { s.rest with mode := { s.rest.mode with shAt := a } } := by
  unfold State.presentSafeHold
  refine (rest_foldl _ (fun y h => ?_) _ _).trans rfl
  dsimp only
  split <;> exact State.setHead_rest ..

/-- Entering RUN (R413). -/
theorem State.enterRun_rest (s : State) (c : Nat) : (s.enterRun c).rest = (s.modeTo .run c).rest := by
  unfold State.enterRun
  have h : ∀ x : State, x.raiseActOut.rest = x.rest := fun x => by unfold State.raiseActOut; split <;> rfl
  have g : ({ (s.modeTo .run c).raiseActOut.startRecs with
      pair := { (s.modeTo .run c).raiseActOut.startRecs.pair with shadow := false } } : State).rest = (s.modeTo .run c).rest := by
    rw [show ∀ x : State, ({ x with pair := { x.pair with shadow := false } } : State).rest = x.rest from fun _ => rfl,
      State.startRecs_rest, h]
  dsimp only
  split
  · rw [State.pairTo_rest]; exact g
  · exact g

/-- Entering SHADOW. -/
theorem State.enterShadow_rest (s : State) (c : Nat) : (s.enterShadow c).rest = (s.modeTo .shadow c).rest := by
  unfold State.enterShadow
  show ((s.modeTo .shadow c).dropActOut.startRecs).rest = _
  rw [State.startRecs_rest]; rfl

end Sys2Proof.Machine
end

