-- ==== Sys2Proof/Laws/State.lean ====
section
/-! SUPPORT. One lemma per field of the state per update of Machine/Ops.lean: what the update leaves alone, and what it writes. -/

namespace Sys2Proof.Machine

/-! ### setReg -/

@[simp] theorem State.setReg_regs (s : State) (o v : Nat) : (s.setReg o v).regs = Tab.set (regReset o) s.regs o v := (rfl)
@[simp] theorem State.setReg_time (s : State) (o v : Nat) : (s.setReg o v).time = s.time := (rfl)
@[simp] theorem State.setReg_mode (s : State) (o v : Nat) : (s.setReg o v).mode = s.mode := (rfl)
@[simp] theorem State.setReg_aon (s : State) (o v : Nat) : (s.setReg o v).aon = s.aon := (rfl)
@[simp] theorem State.setReg_latches (s : State) (o v : Nat) : (s.setReg o v).latches = s.latches := (rfl)
@[simp] theorem State.setReg_readData (s : State) (o v : Nat) : (s.setReg o v).readData = s.readData := (rfl)
@[simp] theorem State.setReg_dram (s : State) (o v : Nat) : (s.setReg o v).dram = s.dram := (rfl)
@[simp] theorem State.setReg_events (s : State) (o v : Nat) : (s.setReg o v).events = s.events := (rfl)
@[simp] theorem State.setReg_eventSeq (s : State) (o v : Nat) : (s.setReg o v).eventSeq = s.eventSeq := (rfl)
@[simp] theorem State.setReg_sent (s : State) (o v : Nat) : (s.setReg o v).sent = s.sent := (rfl)
@[simp] theorem State.setReg_chans (s : State) (o v : Nat) : (s.setReg o v).chans = s.chans := (rfl)
@[simp] theorem State.setReg_ctxs (s : State) (o v : Nat) : (s.setReg o v).ctxs = s.ctxs := (rfl)
@[simp] theorem State.setReg_salvos (s : State) (o v : Nat) : (s.setReg o v).salvos = s.salvos := (rfl)
@[simp] theorem State.setReg_bonds (s : State) (o v : Nat) : (s.setReg o v).bonds = s.bonds := (rfl)
@[simp] theorem State.setReg_lanes (s : State) (o v : Nat) : (s.setReg o v).lanes = s.lanes := (rfl)
@[simp] theorem State.setReg_cruiseSeq (s : State) (o v : Nat) : (s.setReg o v).cruiseSeq = s.cruiseSeq := (rfl)
@[simp] theorem State.setReg_cruiseLast (s : State) (o v : Nat) : (s.setReg o v).cruiseLast = s.cruiseLast := (rfl)
@[simp] theorem State.setReg_cores (s : State) (o v : Nat) : (s.setReg o v).cores = s.cores := (rfl)
@[simp] theorem State.setReg_slots (s : State) (o v : Nat) : (s.setReg o v).slots = s.slots := (rfl)
@[simp] theorem State.setReg_packing (s : State) (o v : Nat) : (s.setReg o v).packing = s.packing := (rfl)
@[simp] theorem State.setReg_progs (s : State) (o v : Nat) : (s.setReg o v).progs = s.progs := (rfl)
@[simp] theorem State.setReg_heads (s : State) (o v : Nat) : (s.setReg o v).heads = s.heads := (rfl)
@[simp] theorem State.setReg_sheets (s : State) (o v : Nat) : (s.setReg o v).sheets = s.sheets := (rfl)
@[simp] theorem State.setReg_engines (s : State) (o v : Nat) : (s.setReg o v).engines = s.engines := (rfl)
@[simp] theorem State.setReg_win (s : State) (o v : Nat) : (s.setReg o v).win = s.win := (rfl)
@[simp] theorem State.setReg_safe (s : State) (o v : Nat) : (s.setReg o v).safe = s.safe := (rfl)
@[simp] theorem State.setReg_insts (s : State) (o v : Nat) : (s.setReg o v).insts = s.insts := (rfl)
@[simp] theorem State.setReg_surfs (s : State) (o v : Nat) : (s.setReg o v).surfs = s.surfs := (rfl)
@[simp] theorem State.setReg_dma (s : State) (o v : Nat) : (s.setReg o v).dma = s.dma := (rfl)
@[simp] theorem State.setReg_atc (s : State) (o v : Nat) : (s.setReg o v).atc = s.atc := (rfl)
@[simp] theorem State.setReg_console (s : State) (o v : Nat) : (s.setReg o v).console = s.console := (rfl)
@[simp] theorem State.setReg_recs (s : State) (o v : Nat) : (s.setReg o v).recs = s.recs := (rfl)
@[simp] theorem State.setReg_recCores (s : State) (o v : Nat) : (s.setReg o v).recCores = s.recCores := (rfl)
@[simp] theorem State.setReg_pair (s : State) (o v : Nat) : (s.setReg o v).pair = s.pair := (rfl)
@[simp] theorem State.setReg_board (s : State) (o v : Nat) : (s.setReg o v).board = s.board := (rfl)
@[simp] theorem State.setReg_prov (s : State) (o v : Nat) : (s.setReg o v).prov = s.prov := (rfl)
@[simp] theorem State.setReg_glb (s : State) (o v : Nat) : (s.setReg o v).glb = s.glb := (rfl)
@[simp] theorem State.setReg_adm (s : State) (o v : Nat) : (s.setReg o v).adm = s.adm := (rfl)
@[simp] theorem State.setReg_dict (s : State) (o v : Nat) : (s.setReg o v).dict = s.dict := (rfl)
@[simp] theorem State.setReg_store (s : State) (o v : Nat) : (s.setReg o v).store = s.store := (rfl)
@[simp] theorem State.setReg_prot (s : State) (o v : Nat) : (s.setReg o v).prot = s.prot := (rfl)
@[simp] theorem State.setReg_udpPort (s : State) (o v : Nat) : (s.setReg o v).udpPort = s.udpPort := (rfl)
@[simp] theorem State.setReg_udpPorts (s : State) (o v : Nat) : (s.setReg o v).udpPorts = s.udpPorts := (rfl)
@[simp] theorem State.setReg_pending (s : State) (o v : Nat) : (s.setReg o v).pending = s.pending := (rfl)

/-! ### count -/

@[simp] theorem State.count_time (s : State) (o v : Nat) : (s.count o v).time = s.time := (rfl)
@[simp] theorem State.count_mode (s : State) (o v : Nat) : (s.count o v).mode = s.mode := (rfl)
@[simp] theorem State.count_aon (s : State) (o v : Nat) : (s.count o v).aon = s.aon := (rfl)
@[simp] theorem State.count_latches (s : State) (o v : Nat) : (s.count o v).latches = s.latches := (rfl)
@[simp] theorem State.count_readData (s : State) (o v : Nat) : (s.count o v).readData = s.readData := (rfl)
@[simp] theorem State.count_dram (s : State) (o v : Nat) : (s.count o v).dram = s.dram := (rfl)
@[simp] theorem State.count_events (s : State) (o v : Nat) : (s.count o v).events = s.events := (rfl)
@[simp] theorem State.count_eventSeq (s : State) (o v : Nat) : (s.count o v).eventSeq = s.eventSeq := (rfl)
@[simp] theorem State.count_sent (s : State) (o v : Nat) : (s.count o v).sent = s.sent := (rfl)
@[simp] theorem State.count_chans (s : State) (o v : Nat) : (s.count o v).chans = s.chans := (rfl)
@[simp] theorem State.count_ctxs (s : State) (o v : Nat) : (s.count o v).ctxs = s.ctxs := (rfl)
@[simp] theorem State.count_salvos (s : State) (o v : Nat) : (s.count o v).salvos = s.salvos := (rfl)
@[simp] theorem State.count_bonds (s : State) (o v : Nat) : (s.count o v).bonds = s.bonds := (rfl)
@[simp] theorem State.count_lanes (s : State) (o v : Nat) : (s.count o v).lanes = s.lanes := (rfl)
@[simp] theorem State.count_cruiseSeq (s : State) (o v : Nat) : (s.count o v).cruiseSeq = s.cruiseSeq := (rfl)
@[simp] theorem State.count_cruiseLast (s : State) (o v : Nat) : (s.count o v).cruiseLast = s.cruiseLast := (rfl)
@[simp] theorem State.count_cores (s : State) (o v : Nat) : (s.count o v).cores = s.cores := (rfl)
@[simp] theorem State.count_slots (s : State) (o v : Nat) : (s.count o v).slots = s.slots := (rfl)
@[simp] theorem State.count_packing (s : State) (o v : Nat) : (s.count o v).packing = s.packing := (rfl)
@[simp] theorem State.count_progs (s : State) (o v : Nat) : (s.count o v).progs = s.progs := (rfl)
@[simp] theorem State.count_heads (s : State) (o v : Nat) : (s.count o v).heads = s.heads := (rfl)
@[simp] theorem State.count_sheets (s : State) (o v : Nat) : (s.count o v).sheets = s.sheets := (rfl)
@[simp] theorem State.count_engines (s : State) (o v : Nat) : (s.count o v).engines = s.engines := (rfl)
@[simp] theorem State.count_win (s : State) (o v : Nat) : (s.count o v).win = s.win := (rfl)
@[simp] theorem State.count_safe (s : State) (o v : Nat) : (s.count o v).safe = s.safe := (rfl)
@[simp] theorem State.count_insts (s : State) (o v : Nat) : (s.count o v).insts = s.insts := (rfl)
@[simp] theorem State.count_surfs (s : State) (o v : Nat) : (s.count o v).surfs = s.surfs := (rfl)
@[simp] theorem State.count_dma (s : State) (o v : Nat) : (s.count o v).dma = s.dma := (rfl)
@[simp] theorem State.count_atc (s : State) (o v : Nat) : (s.count o v).atc = s.atc := (rfl)
@[simp] theorem State.count_console (s : State) (o v : Nat) : (s.count o v).console = s.console := (rfl)
@[simp] theorem State.count_recs (s : State) (o v : Nat) : (s.count o v).recs = s.recs := (rfl)
@[simp] theorem State.count_recCores (s : State) (o v : Nat) : (s.count o v).recCores = s.recCores := (rfl)
@[simp] theorem State.count_pair (s : State) (o v : Nat) : (s.count o v).pair = s.pair := (rfl)
@[simp] theorem State.count_board (s : State) (o v : Nat) : (s.count o v).board = s.board := (rfl)
@[simp] theorem State.count_prov (s : State) (o v : Nat) : (s.count o v).prov = s.prov := (rfl)
@[simp] theorem State.count_glb (s : State) (o v : Nat) : (s.count o v).glb = s.glb := (rfl)
@[simp] theorem State.count_adm (s : State) (o v : Nat) : (s.count o v).adm = s.adm := (rfl)
@[simp] theorem State.count_dict (s : State) (o v : Nat) : (s.count o v).dict = s.dict := (rfl)
@[simp] theorem State.count_store (s : State) (o v : Nat) : (s.count o v).store = s.store := (rfl)
@[simp] theorem State.count_prot (s : State) (o v : Nat) : (s.count o v).prot = s.prot := (rfl)
@[simp] theorem State.count_udpPort (s : State) (o v : Nat) : (s.count o v).udpPort = s.udpPort := (rfl)
@[simp] theorem State.count_udpPorts (s : State) (o v : Nat) : (s.count o v).udpPorts = s.udpPorts := (rfl)
@[simp] theorem State.count_pending (s : State) (o v : Nat) : (s.count o v).pending = s.pending := (rfl)

/-! ### countWrap -/

@[simp] theorem State.countWrap_time (s : State) (o v : Nat) : (s.countWrap o v).time = s.time := (rfl)
@[simp] theorem State.countWrap_mode (s : State) (o v : Nat) : (s.countWrap o v).mode = s.mode := (rfl)
@[simp] theorem State.countWrap_aon (s : State) (o v : Nat) : (s.countWrap o v).aon = s.aon := (rfl)
@[simp] theorem State.countWrap_latches (s : State) (o v : Nat) : (s.countWrap o v).latches = s.latches := (rfl)
@[simp] theorem State.countWrap_readData (s : State) (o v : Nat) : (s.countWrap o v).readData = s.readData := (rfl)
@[simp] theorem State.countWrap_dram (s : State) (o v : Nat) : (s.countWrap o v).dram = s.dram := (rfl)
@[simp] theorem State.countWrap_events (s : State) (o v : Nat) : (s.countWrap o v).events = s.events := (rfl)
@[simp] theorem State.countWrap_eventSeq (s : State) (o v : Nat) : (s.countWrap o v).eventSeq = s.eventSeq := (rfl)
@[simp] theorem State.countWrap_sent (s : State) (o v : Nat) : (s.countWrap o v).sent = s.sent := (rfl)
@[simp] theorem State.countWrap_chans (s : State) (o v : Nat) : (s.countWrap o v).chans = s.chans := (rfl)
@[simp] theorem State.countWrap_ctxs (s : State) (o v : Nat) : (s.countWrap o v).ctxs = s.ctxs := (rfl)
@[simp] theorem State.countWrap_salvos (s : State) (o v : Nat) : (s.countWrap o v).salvos = s.salvos := (rfl)
@[simp] theorem State.countWrap_bonds (s : State) (o v : Nat) : (s.countWrap o v).bonds = s.bonds := (rfl)
@[simp] theorem State.countWrap_lanes (s : State) (o v : Nat) : (s.countWrap o v).lanes = s.lanes := (rfl)
@[simp] theorem State.countWrap_cruiseSeq (s : State) (o v : Nat) : (s.countWrap o v).cruiseSeq = s.cruiseSeq := (rfl)
@[simp] theorem State.countWrap_cruiseLast (s : State) (o v : Nat) : (s.countWrap o v).cruiseLast = s.cruiseLast := (rfl)
@[simp] theorem State.countWrap_cores (s : State) (o v : Nat) : (s.countWrap o v).cores = s.cores := (rfl)
@[simp] theorem State.countWrap_slots (s : State) (o v : Nat) : (s.countWrap o v).slots = s.slots := (rfl)
@[simp] theorem State.countWrap_packing (s : State) (o v : Nat) : (s.countWrap o v).packing = s.packing := (rfl)
@[simp] theorem State.countWrap_progs (s : State) (o v : Nat) : (s.countWrap o v).progs = s.progs := (rfl)
@[simp] theorem State.countWrap_heads (s : State) (o v : Nat) : (s.countWrap o v).heads = s.heads := (rfl)
@[simp] theorem State.countWrap_sheets (s : State) (o v : Nat) : (s.countWrap o v).sheets = s.sheets := (rfl)
@[simp] theorem State.countWrap_engines (s : State) (o v : Nat) : (s.countWrap o v).engines = s.engines := (rfl)
@[simp] theorem State.countWrap_win (s : State) (o v : Nat) : (s.countWrap o v).win = s.win := (rfl)
@[simp] theorem State.countWrap_safe (s : State) (o v : Nat) : (s.countWrap o v).safe = s.safe := (rfl)
@[simp] theorem State.countWrap_insts (s : State) (o v : Nat) : (s.countWrap o v).insts = s.insts := (rfl)
@[simp] theorem State.countWrap_surfs (s : State) (o v : Nat) : (s.countWrap o v).surfs = s.surfs := (rfl)
@[simp] theorem State.countWrap_dma (s : State) (o v : Nat) : (s.countWrap o v).dma = s.dma := (rfl)
@[simp] theorem State.countWrap_atc (s : State) (o v : Nat) : (s.countWrap o v).atc = s.atc := (rfl)
@[simp] theorem State.countWrap_console (s : State) (o v : Nat) : (s.countWrap o v).console = s.console := (rfl)
@[simp] theorem State.countWrap_recs (s : State) (o v : Nat) : (s.countWrap o v).recs = s.recs := (rfl)
@[simp] theorem State.countWrap_recCores (s : State) (o v : Nat) : (s.countWrap o v).recCores = s.recCores := (rfl)
@[simp] theorem State.countWrap_pair (s : State) (o v : Nat) : (s.countWrap o v).pair = s.pair := (rfl)
@[simp] theorem State.countWrap_board (s : State) (o v : Nat) : (s.countWrap o v).board = s.board := (rfl)
@[simp] theorem State.countWrap_prov (s : State) (o v : Nat) : (s.countWrap o v).prov = s.prov := (rfl)
@[simp] theorem State.countWrap_glb (s : State) (o v : Nat) : (s.countWrap o v).glb = s.glb := (rfl)
@[simp] theorem State.countWrap_adm (s : State) (o v : Nat) : (s.countWrap o v).adm = s.adm := (rfl)
@[simp] theorem State.countWrap_dict (s : State) (o v : Nat) : (s.countWrap o v).dict = s.dict := (rfl)
@[simp] theorem State.countWrap_store (s : State) (o v : Nat) : (s.countWrap o v).store = s.store := (rfl)
@[simp] theorem State.countWrap_prot (s : State) (o v : Nat) : (s.countWrap o v).prot = s.prot := (rfl)
@[simp] theorem State.countWrap_udpPort (s : State) (o v : Nat) : (s.countWrap o v).udpPort = s.udpPort := (rfl)
@[simp] theorem State.countWrap_udpPorts (s : State) (o v : Nat) : (s.countWrap o v).udpPorts = s.udpPorts := (rfl)
@[simp] theorem State.countWrap_pending (s : State) (o v : Nat) : (s.countWrap o v).pending = s.pending := (rfl)

/-! ### orReg -/

@[simp] theorem State.orReg_time (s : State) (o v : Nat) : (s.orReg o v).time = s.time := (rfl)
@[simp] theorem State.orReg_mode (s : State) (o v : Nat) : (s.orReg o v).mode = s.mode := (rfl)
@[simp] theorem State.orReg_aon (s : State) (o v : Nat) : (s.orReg o v).aon = s.aon := (rfl)
@[simp] theorem State.orReg_latches (s : State) (o v : Nat) : (s.orReg o v).latches = s.latches := (rfl)
@[simp] theorem State.orReg_readData (s : State) (o v : Nat) : (s.orReg o v).readData = s.readData := (rfl)
@[simp] theorem State.orReg_dram (s : State) (o v : Nat) : (s.orReg o v).dram = s.dram := (rfl)
@[simp] theorem State.orReg_events (s : State) (o v : Nat) : (s.orReg o v).events = s.events := (rfl)
@[simp] theorem State.orReg_eventSeq (s : State) (o v : Nat) : (s.orReg o v).eventSeq = s.eventSeq := (rfl)
@[simp] theorem State.orReg_sent (s : State) (o v : Nat) : (s.orReg o v).sent = s.sent := (rfl)
@[simp] theorem State.orReg_chans (s : State) (o v : Nat) : (s.orReg o v).chans = s.chans := (rfl)
@[simp] theorem State.orReg_ctxs (s : State) (o v : Nat) : (s.orReg o v).ctxs = s.ctxs := (rfl)
@[simp] theorem State.orReg_salvos (s : State) (o v : Nat) : (s.orReg o v).salvos = s.salvos := (rfl)
@[simp] theorem State.orReg_bonds (s : State) (o v : Nat) : (s.orReg o v).bonds = s.bonds := (rfl)
@[simp] theorem State.orReg_lanes (s : State) (o v : Nat) : (s.orReg o v).lanes = s.lanes := (rfl)
@[simp] theorem State.orReg_cruiseSeq (s : State) (o v : Nat) : (s.orReg o v).cruiseSeq = s.cruiseSeq := (rfl)
@[simp] theorem State.orReg_cruiseLast (s : State) (o v : Nat) : (s.orReg o v).cruiseLast = s.cruiseLast := (rfl)
@[simp] theorem State.orReg_cores (s : State) (o v : Nat) : (s.orReg o v).cores = s.cores := (rfl)
@[simp] theorem State.orReg_slots (s : State) (o v : Nat) : (s.orReg o v).slots = s.slots := (rfl)
@[simp] theorem State.orReg_packing (s : State) (o v : Nat) : (s.orReg o v).packing = s.packing := (rfl)
@[simp] theorem State.orReg_progs (s : State) (o v : Nat) : (s.orReg o v).progs = s.progs := (rfl)
@[simp] theorem State.orReg_heads (s : State) (o v : Nat) : (s.orReg o v).heads = s.heads := (rfl)
@[simp] theorem State.orReg_sheets (s : State) (o v : Nat) : (s.orReg o v).sheets = s.sheets := (rfl)
@[simp] theorem State.orReg_engines (s : State) (o v : Nat) : (s.orReg o v).engines = s.engines := (rfl)
@[simp] theorem State.orReg_win (s : State) (o v : Nat) : (s.orReg o v).win = s.win := (rfl)
@[simp] theorem State.orReg_safe (s : State) (o v : Nat) : (s.orReg o v).safe = s.safe := (rfl)
@[simp] theorem State.orReg_insts (s : State) (o v : Nat) : (s.orReg o v).insts = s.insts := (rfl)
@[simp] theorem State.orReg_surfs (s : State) (o v : Nat) : (s.orReg o v).surfs = s.surfs := (rfl)
@[simp] theorem State.orReg_dma (s : State) (o v : Nat) : (s.orReg o v).dma = s.dma := (rfl)
@[simp] theorem State.orReg_atc (s : State) (o v : Nat) : (s.orReg o v).atc = s.atc := (rfl)
@[simp] theorem State.orReg_console (s : State) (o v : Nat) : (s.orReg o v).console = s.console := (rfl)
@[simp] theorem State.orReg_recs (s : State) (o v : Nat) : (s.orReg o v).recs = s.recs := (rfl)
@[simp] theorem State.orReg_recCores (s : State) (o v : Nat) : (s.orReg o v).recCores = s.recCores := (rfl)
@[simp] theorem State.orReg_pair (s : State) (o v : Nat) : (s.orReg o v).pair = s.pair := (rfl)
@[simp] theorem State.orReg_board (s : State) (o v : Nat) : (s.orReg o v).board = s.board := (rfl)
@[simp] theorem State.orReg_prov (s : State) (o v : Nat) : (s.orReg o v).prov = s.prov := (rfl)
@[simp] theorem State.orReg_glb (s : State) (o v : Nat) : (s.orReg o v).glb = s.glb := (rfl)
@[simp] theorem State.orReg_adm (s : State) (o v : Nat) : (s.orReg o v).adm = s.adm := (rfl)
@[simp] theorem State.orReg_dict (s : State) (o v : Nat) : (s.orReg o v).dict = s.dict := (rfl)
@[simp] theorem State.orReg_store (s : State) (o v : Nat) : (s.orReg o v).store = s.store := (rfl)
@[simp] theorem State.orReg_prot (s : State) (o v : Nat) : (s.orReg o v).prot = s.prot := (rfl)
@[simp] theorem State.orReg_udpPort (s : State) (o v : Nat) : (s.orReg o v).udpPort = s.udpPort := (rfl)
@[simp] theorem State.orReg_udpPorts (s : State) (o v : Nat) : (s.orReg o v).udpPorts = s.udpPorts := (rfl)
@[simp] theorem State.orReg_pending (s : State) (o v : Nat) : (s.orReg o v).pending = s.pending := (rfl)

/-! ### at -/

@[simp] theorem State.at_mode (s : State) (t : Nat) : (s.at t).mode = s.mode := (rfl)
@[simp] theorem State.at_aon (s : State) (t : Nat) : (s.at t).aon = s.aon := (rfl)
@[simp] theorem State.at_regs (s : State) (t : Nat) : (s.at t).regs = s.regs := (rfl)
@[simp] theorem State.at_latches (s : State) (t : Nat) : (s.at t).latches = s.latches := (rfl)
@[simp] theorem State.at_readData (s : State) (t : Nat) : (s.at t).readData = s.readData := (rfl)
@[simp] theorem State.at_dram (s : State) (t : Nat) : (s.at t).dram = s.dram := (rfl)
@[simp] theorem State.at_events (s : State) (t : Nat) : (s.at t).events = s.events := (rfl)
@[simp] theorem State.at_eventSeq (s : State) (t : Nat) : (s.at t).eventSeq = s.eventSeq := (rfl)
@[simp] theorem State.at_sent (s : State) (t : Nat) : (s.at t).sent = s.sent := (rfl)
@[simp] theorem State.at_chans (s : State) (t : Nat) : (s.at t).chans = s.chans := (rfl)
@[simp] theorem State.at_ctxs (s : State) (t : Nat) : (s.at t).ctxs = s.ctxs := (rfl)
@[simp] theorem State.at_salvos (s : State) (t : Nat) : (s.at t).salvos = s.salvos := (rfl)
@[simp] theorem State.at_bonds (s : State) (t : Nat) : (s.at t).bonds = s.bonds := (rfl)
@[simp] theorem State.at_lanes (s : State) (t : Nat) : (s.at t).lanes = s.lanes := (rfl)
@[simp] theorem State.at_cruiseSeq (s : State) (t : Nat) : (s.at t).cruiseSeq = s.cruiseSeq := (rfl)
@[simp] theorem State.at_cruiseLast (s : State) (t : Nat) : (s.at t).cruiseLast = s.cruiseLast := (rfl)
@[simp] theorem State.at_cores (s : State) (t : Nat) : (s.at t).cores = s.cores := (rfl)
@[simp] theorem State.at_slots (s : State) (t : Nat) : (s.at t).slots = s.slots := (rfl)
@[simp] theorem State.at_packing (s : State) (t : Nat) : (s.at t).packing = s.packing := (rfl)
@[simp] theorem State.at_progs (s : State) (t : Nat) : (s.at t).progs = s.progs := (rfl)
@[simp] theorem State.at_heads (s : State) (t : Nat) : (s.at t).heads = s.heads := (rfl)
@[simp] theorem State.at_sheets (s : State) (t : Nat) : (s.at t).sheets = s.sheets := (rfl)
@[simp] theorem State.at_engines (s : State) (t : Nat) : (s.at t).engines = s.engines := (rfl)
@[simp] theorem State.at_win (s : State) (t : Nat) : (s.at t).win = s.win := (rfl)
@[simp] theorem State.at_safe (s : State) (t : Nat) : (s.at t).safe = s.safe := (rfl)
@[simp] theorem State.at_insts (s : State) (t : Nat) : (s.at t).insts = s.insts := (rfl)
@[simp] theorem State.at_surfs (s : State) (t : Nat) : (s.at t).surfs = s.surfs := (rfl)
@[simp] theorem State.at_dma (s : State) (t : Nat) : (s.at t).dma = s.dma := (rfl)
@[simp] theorem State.at_atc (s : State) (t : Nat) : (s.at t).atc = s.atc := (rfl)
@[simp] theorem State.at_console (s : State) (t : Nat) : (s.at t).console = s.console := (rfl)
@[simp] theorem State.at_recs (s : State) (t : Nat) : (s.at t).recs = s.recs := (rfl)
@[simp] theorem State.at_recCores (s : State) (t : Nat) : (s.at t).recCores = s.recCores := (rfl)
@[simp] theorem State.at_pair (s : State) (t : Nat) : (s.at t).pair = s.pair := (rfl)
@[simp] theorem State.at_board (s : State) (t : Nat) : (s.at t).board = s.board := (rfl)
@[simp] theorem State.at_prov (s : State) (t : Nat) : (s.at t).prov = s.prov := (rfl)
@[simp] theorem State.at_glb (s : State) (t : Nat) : (s.at t).glb = s.glb := (rfl)
@[simp] theorem State.at_adm (s : State) (t : Nat) : (s.at t).adm = s.adm := (rfl)
@[simp] theorem State.at_dict (s : State) (t : Nat) : (s.at t).dict = s.dict := (rfl)
@[simp] theorem State.at_store (s : State) (t : Nat) : (s.at t).store = s.store := (rfl)
@[simp] theorem State.at_prot (s : State) (t : Nat) : (s.at t).prot = s.prot := (rfl)
@[simp] theorem State.at_udpPort (s : State) (t : Nat) : (s.at t).udpPort = s.udpPort := (rfl)
@[simp] theorem State.at_udpPorts (s : State) (t : Nat) : (s.at t).udpPorts = s.udpPorts := (rfl)
@[simp] theorem State.at_pending (s : State) (t : Nat) : (s.at t).pending = s.pending := (rfl)

/-! ### setCtx -/

@[simp] theorem State.setCtx_ctxs (s : State) (n : Nat) (x : Ctx) : (s.setCtx n x).ctxs = Tab.set {} s.ctxs n x := (rfl)
@[simp] theorem State.setCtx_time (s : State) (n : Nat) (x : Ctx) : (s.setCtx n x).time = s.time := (rfl)
@[simp] theorem State.setCtx_mode (s : State) (n : Nat) (x : Ctx) : (s.setCtx n x).mode = s.mode := (rfl)
@[simp] theorem State.setCtx_aon (s : State) (n : Nat) (x : Ctx) : (s.setCtx n x).aon = s.aon := (rfl)
@[simp] theorem State.setCtx_regs (s : State) (n : Nat) (x : Ctx) : (s.setCtx n x).regs = s.regs := (rfl)
@[simp] theorem State.setCtx_latches (s : State) (n : Nat) (x : Ctx) : (s.setCtx n x).latches = s.latches := (rfl)
@[simp] theorem State.setCtx_readData (s : State) (n : Nat) (x : Ctx) : (s.setCtx n x).readData = s.readData := (rfl)
@[simp] theorem State.setCtx_dram (s : State) (n : Nat) (x : Ctx) : (s.setCtx n x).dram = s.dram := (rfl)
@[simp] theorem State.setCtx_events (s : State) (n : Nat) (x : Ctx) : (s.setCtx n x).events = s.events := (rfl)
@[simp] theorem State.setCtx_eventSeq (s : State) (n : Nat) (x : Ctx) : (s.setCtx n x).eventSeq = s.eventSeq := (rfl)
@[simp] theorem State.setCtx_sent (s : State) (n : Nat) (x : Ctx) : (s.setCtx n x).sent = s.sent := (rfl)
@[simp] theorem State.setCtx_chans (s : State) (n : Nat) (x : Ctx) : (s.setCtx n x).chans = s.chans := (rfl)
@[simp] theorem State.setCtx_salvos (s : State) (n : Nat) (x : Ctx) : (s.setCtx n x).salvos = s.salvos := (rfl)
@[simp] theorem State.setCtx_bonds (s : State) (n : Nat) (x : Ctx) : (s.setCtx n x).bonds = s.bonds := (rfl)
@[simp] theorem State.setCtx_lanes (s : State) (n : Nat) (x : Ctx) : (s.setCtx n x).lanes = s.lanes := (rfl)
@[simp] theorem State.setCtx_cruiseSeq (s : State) (n : Nat) (x : Ctx) : (s.setCtx n x).cruiseSeq = s.cruiseSeq := (rfl)
@[simp] theorem State.setCtx_cruiseLast (s : State) (n : Nat) (x : Ctx) : (s.setCtx n x).cruiseLast = s.cruiseLast := (rfl)
@[simp] theorem State.setCtx_cores (s : State) (n : Nat) (x : Ctx) : (s.setCtx n x).cores = s.cores := (rfl)
@[simp] theorem State.setCtx_slots (s : State) (n : Nat) (x : Ctx) : (s.setCtx n x).slots = s.slots := (rfl)
@[simp] theorem State.setCtx_packing (s : State) (n : Nat) (x : Ctx) : (s.setCtx n x).packing = s.packing := (rfl)
@[simp] theorem State.setCtx_progs (s : State) (n : Nat) (x : Ctx) : (s.setCtx n x).progs = s.progs := (rfl)
@[simp] theorem State.setCtx_heads (s : State) (n : Nat) (x : Ctx) : (s.setCtx n x).heads = s.heads := (rfl)
@[simp] theorem State.setCtx_sheets (s : State) (n : Nat) (x : Ctx) : (s.setCtx n x).sheets = s.sheets := (rfl)
@[simp] theorem State.setCtx_engines (s : State) (n : Nat) (x : Ctx) : (s.setCtx n x).engines = s.engines := (rfl)
@[simp] theorem State.setCtx_win (s : State) (n : Nat) (x : Ctx) : (s.setCtx n x).win = s.win := (rfl)
@[simp] theorem State.setCtx_safe (s : State) (n : Nat) (x : Ctx) : (s.setCtx n x).safe = s.safe := (rfl)
@[simp] theorem State.setCtx_insts (s : State) (n : Nat) (x : Ctx) : (s.setCtx n x).insts = s.insts := (rfl)
@[simp] theorem State.setCtx_surfs (s : State) (n : Nat) (x : Ctx) : (s.setCtx n x).surfs = s.surfs := (rfl)
@[simp] theorem State.setCtx_dma (s : State) (n : Nat) (x : Ctx) : (s.setCtx n x).dma = s.dma := (rfl)
@[simp] theorem State.setCtx_atc (s : State) (n : Nat) (x : Ctx) : (s.setCtx n x).atc = s.atc := (rfl)
@[simp] theorem State.setCtx_console (s : State) (n : Nat) (x : Ctx) : (s.setCtx n x).console = s.console := (rfl)
@[simp] theorem State.setCtx_recs (s : State) (n : Nat) (x : Ctx) : (s.setCtx n x).recs = s.recs := (rfl)
@[simp] theorem State.setCtx_recCores (s : State) (n : Nat) (x : Ctx) : (s.setCtx n x).recCores = s.recCores := (rfl)
@[simp] theorem State.setCtx_pair (s : State) (n : Nat) (x : Ctx) : (s.setCtx n x).pair = s.pair := (rfl)
@[simp] theorem State.setCtx_board (s : State) (n : Nat) (x : Ctx) : (s.setCtx n x).board = s.board := (rfl)
@[simp] theorem State.setCtx_prov (s : State) (n : Nat) (x : Ctx) : (s.setCtx n x).prov = s.prov := (rfl)
@[simp] theorem State.setCtx_glb (s : State) (n : Nat) (x : Ctx) : (s.setCtx n x).glb = s.glb := (rfl)
@[simp] theorem State.setCtx_adm (s : State) (n : Nat) (x : Ctx) : (s.setCtx n x).adm = s.adm := (rfl)
@[simp] theorem State.setCtx_dict (s : State) (n : Nat) (x : Ctx) : (s.setCtx n x).dict = s.dict := (rfl)
@[simp] theorem State.setCtx_store (s : State) (n : Nat) (x : Ctx) : (s.setCtx n x).store = s.store := (rfl)
@[simp] theorem State.setCtx_prot (s : State) (n : Nat) (x : Ctx) : (s.setCtx n x).prot = s.prot := (rfl)
@[simp] theorem State.setCtx_udpPort (s : State) (n : Nat) (x : Ctx) : (s.setCtx n x).udpPort = s.udpPort := (rfl)
@[simp] theorem State.setCtx_udpPorts (s : State) (n : Nat) (x : Ctx) : (s.setCtx n x).udpPorts = s.udpPorts := (rfl)
@[simp] theorem State.setCtx_pending (s : State) (n : Nat) (x : Ctx) : (s.setCtx n x).pending = s.pending := (rfl)

/-! ### setChan -/

@[simp] theorem State.setChan_chans (s : State) (n : Nat) (x : Chan) : (s.setChan n x).chans = Tab.set {} s.chans n x := (rfl)
@[simp] theorem State.setChan_time (s : State) (n : Nat) (x : Chan) : (s.setChan n x).time = s.time := (rfl)
@[simp] theorem State.setChan_mode (s : State) (n : Nat) (x : Chan) : (s.setChan n x).mode = s.mode := (rfl)
@[simp] theorem State.setChan_aon (s : State) (n : Nat) (x : Chan) : (s.setChan n x).aon = s.aon := (rfl)
@[simp] theorem State.setChan_regs (s : State) (n : Nat) (x : Chan) : (s.setChan n x).regs = s.regs := (rfl)
@[simp] theorem State.setChan_latches (s : State) (n : Nat) (x : Chan) : (s.setChan n x).latches = s.latches := (rfl)
@[simp] theorem State.setChan_readData (s : State) (n : Nat) (x : Chan) : (s.setChan n x).readData = s.readData := (rfl)
@[simp] theorem State.setChan_dram (s : State) (n : Nat) (x : Chan) : (s.setChan n x).dram = s.dram := (rfl)
@[simp] theorem State.setChan_events (s : State) (n : Nat) (x : Chan) : (s.setChan n x).events = s.events := (rfl)
@[simp] theorem State.setChan_eventSeq (s : State) (n : Nat) (x : Chan) : (s.setChan n x).eventSeq = s.eventSeq := (rfl)
@[simp] theorem State.setChan_sent (s : State) (n : Nat) (x : Chan) : (s.setChan n x).sent = s.sent := (rfl)
@[simp] theorem State.setChan_ctxs (s : State) (n : Nat) (x : Chan) : (s.setChan n x).ctxs = s.ctxs := (rfl)
@[simp] theorem State.setChan_salvos (s : State) (n : Nat) (x : Chan) : (s.setChan n x).salvos = s.salvos := (rfl)
@[simp] theorem State.setChan_bonds (s : State) (n : Nat) (x : Chan) : (s.setChan n x).bonds = s.bonds := (rfl)
@[simp] theorem State.setChan_lanes (s : State) (n : Nat) (x : Chan) : (s.setChan n x).lanes = s.lanes := (rfl)
@[simp] theorem State.setChan_cruiseSeq (s : State) (n : Nat) (x : Chan) : (s.setChan n x).cruiseSeq = s.cruiseSeq := (rfl)
@[simp] theorem State.setChan_cruiseLast (s : State) (n : Nat) (x : Chan) : (s.setChan n x).cruiseLast = s.cruiseLast := (rfl)
@[simp] theorem State.setChan_cores (s : State) (n : Nat) (x : Chan) : (s.setChan n x).cores = s.cores := (rfl)
@[simp] theorem State.setChan_slots (s : State) (n : Nat) (x : Chan) : (s.setChan n x).slots = s.slots := (rfl)
@[simp] theorem State.setChan_packing (s : State) (n : Nat) (x : Chan) : (s.setChan n x).packing = s.packing := (rfl)
@[simp] theorem State.setChan_progs (s : State) (n : Nat) (x : Chan) : (s.setChan n x).progs = s.progs := (rfl)
@[simp] theorem State.setChan_heads (s : State) (n : Nat) (x : Chan) : (s.setChan n x).heads = s.heads := (rfl)
@[simp] theorem State.setChan_sheets (s : State) (n : Nat) (x : Chan) : (s.setChan n x).sheets = s.sheets := (rfl)
@[simp] theorem State.setChan_engines (s : State) (n : Nat) (x : Chan) : (s.setChan n x).engines = s.engines := (rfl)
@[simp] theorem State.setChan_win (s : State) (n : Nat) (x : Chan) : (s.setChan n x).win = s.win := (rfl)
@[simp] theorem State.setChan_safe (s : State) (n : Nat) (x : Chan) : (s.setChan n x).safe = s.safe := (rfl)
@[simp] theorem State.setChan_insts (s : State) (n : Nat) (x : Chan) : (s.setChan n x).insts = s.insts := (rfl)
@[simp] theorem State.setChan_surfs (s : State) (n : Nat) (x : Chan) : (s.setChan n x).surfs = s.surfs := (rfl)
@[simp] theorem State.setChan_dma (s : State) (n : Nat) (x : Chan) : (s.setChan n x).dma = s.dma := (rfl)
@[simp] theorem State.setChan_atc (s : State) (n : Nat) (x : Chan) : (s.setChan n x).atc = s.atc := (rfl)
@[simp] theorem State.setChan_console (s : State) (n : Nat) (x : Chan) : (s.setChan n x).console = s.console := (rfl)
@[simp] theorem State.setChan_recs (s : State) (n : Nat) (x : Chan) : (s.setChan n x).recs = s.recs := (rfl)
@[simp] theorem State.setChan_recCores (s : State) (n : Nat) (x : Chan) : (s.setChan n x).recCores = s.recCores := (rfl)
@[simp] theorem State.setChan_pair (s : State) (n : Nat) (x : Chan) : (s.setChan n x).pair = s.pair := (rfl)
@[simp] theorem State.setChan_board (s : State) (n : Nat) (x : Chan) : (s.setChan n x).board = s.board := (rfl)
@[simp] theorem State.setChan_prov (s : State) (n : Nat) (x : Chan) : (s.setChan n x).prov = s.prov := (rfl)
@[simp] theorem State.setChan_glb (s : State) (n : Nat) (x : Chan) : (s.setChan n x).glb = s.glb := (rfl)
@[simp] theorem State.setChan_adm (s : State) (n : Nat) (x : Chan) : (s.setChan n x).adm = s.adm := (rfl)
@[simp] theorem State.setChan_dict (s : State) (n : Nat) (x : Chan) : (s.setChan n x).dict = s.dict := (rfl)
@[simp] theorem State.setChan_store (s : State) (n : Nat) (x : Chan) : (s.setChan n x).store = s.store := (rfl)
@[simp] theorem State.setChan_prot (s : State) (n : Nat) (x : Chan) : (s.setChan n x).prot = s.prot := (rfl)
@[simp] theorem State.setChan_udpPort (s : State) (n : Nat) (x : Chan) : (s.setChan n x).udpPort = s.udpPort := (rfl)
@[simp] theorem State.setChan_udpPorts (s : State) (n : Nat) (x : Chan) : (s.setChan n x).udpPorts = s.udpPorts := (rfl)
@[simp] theorem State.setChan_pending (s : State) (n : Nat) (x : Chan) : (s.setChan n x).pending = s.pending := (rfl)

/-! ### setSalvo -/

@[simp] theorem State.setSalvo_salvos (s : State) (n : Nat) (x : Salvo) : (s.setSalvo n x).salvos = Tab.set {} s.salvos n x := (rfl)
@[simp] theorem State.setSalvo_time (s : State) (n : Nat) (x : Salvo) : (s.setSalvo n x).time = s.time := (rfl)
@[simp] theorem State.setSalvo_mode (s : State) (n : Nat) (x : Salvo) : (s.setSalvo n x).mode = s.mode := (rfl)
@[simp] theorem State.setSalvo_aon (s : State) (n : Nat) (x : Salvo) : (s.setSalvo n x).aon = s.aon := (rfl)
@[simp] theorem State.setSalvo_regs (s : State) (n : Nat) (x : Salvo) : (s.setSalvo n x).regs = s.regs := (rfl)
@[simp] theorem State.setSalvo_latches (s : State) (n : Nat) (x : Salvo) : (s.setSalvo n x).latches = s.latches := (rfl)
@[simp] theorem State.setSalvo_readData (s : State) (n : Nat) (x : Salvo) : (s.setSalvo n x).readData = s.readData := (rfl)
@[simp] theorem State.setSalvo_dram (s : State) (n : Nat) (x : Salvo) : (s.setSalvo n x).dram = s.dram := (rfl)
@[simp] theorem State.setSalvo_events (s : State) (n : Nat) (x : Salvo) : (s.setSalvo n x).events = s.events := (rfl)
@[simp] theorem State.setSalvo_eventSeq (s : State) (n : Nat) (x : Salvo) : (s.setSalvo n x).eventSeq = s.eventSeq := (rfl)
@[simp] theorem State.setSalvo_sent (s : State) (n : Nat) (x : Salvo) : (s.setSalvo n x).sent = s.sent := (rfl)
@[simp] theorem State.setSalvo_chans (s : State) (n : Nat) (x : Salvo) : (s.setSalvo n x).chans = s.chans := (rfl)
@[simp] theorem State.setSalvo_ctxs (s : State) (n : Nat) (x : Salvo) : (s.setSalvo n x).ctxs = s.ctxs := (rfl)
@[simp] theorem State.setSalvo_bonds (s : State) (n : Nat) (x : Salvo) : (s.setSalvo n x).bonds = s.bonds := (rfl)
@[simp] theorem State.setSalvo_lanes (s : State) (n : Nat) (x : Salvo) : (s.setSalvo n x).lanes = s.lanes := (rfl)
@[simp] theorem State.setSalvo_cruiseSeq (s : State) (n : Nat) (x : Salvo) : (s.setSalvo n x).cruiseSeq = s.cruiseSeq := (rfl)
@[simp] theorem State.setSalvo_cruiseLast (s : State) (n : Nat) (x : Salvo) : (s.setSalvo n x).cruiseLast = s.cruiseLast := (rfl)
@[simp] theorem State.setSalvo_cores (s : State) (n : Nat) (x : Salvo) : (s.setSalvo n x).cores = s.cores := (rfl)
@[simp] theorem State.setSalvo_slots (s : State) (n : Nat) (x : Salvo) : (s.setSalvo n x).slots = s.slots := (rfl)
@[simp] theorem State.setSalvo_packing (s : State) (n : Nat) (x : Salvo) : (s.setSalvo n x).packing = s.packing := (rfl)
@[simp] theorem State.setSalvo_progs (s : State) (n : Nat) (x : Salvo) : (s.setSalvo n x).progs = s.progs := (rfl)
@[simp] theorem State.setSalvo_heads (s : State) (n : Nat) (x : Salvo) : (s.setSalvo n x).heads = s.heads := (rfl)
@[simp] theorem State.setSalvo_sheets (s : State) (n : Nat) (x : Salvo) : (s.setSalvo n x).sheets = s.sheets := (rfl)
@[simp] theorem State.setSalvo_engines (s : State) (n : Nat) (x : Salvo) : (s.setSalvo n x).engines = s.engines := (rfl)
@[simp] theorem State.setSalvo_win (s : State) (n : Nat) (x : Salvo) : (s.setSalvo n x).win = s.win := (rfl)
@[simp] theorem State.setSalvo_safe (s : State) (n : Nat) (x : Salvo) : (s.setSalvo n x).safe = s.safe := (rfl)
@[simp] theorem State.setSalvo_insts (s : State) (n : Nat) (x : Salvo) : (s.setSalvo n x).insts = s.insts := (rfl)
@[simp] theorem State.setSalvo_surfs (s : State) (n : Nat) (x : Salvo) : (s.setSalvo n x).surfs = s.surfs := (rfl)
@[simp] theorem State.setSalvo_dma (s : State) (n : Nat) (x : Salvo) : (s.setSalvo n x).dma = s.dma := (rfl)
@[simp] theorem State.setSalvo_atc (s : State) (n : Nat) (x : Salvo) : (s.setSalvo n x).atc = s.atc := (rfl)
@[simp] theorem State.setSalvo_console (s : State) (n : Nat) (x : Salvo) : (s.setSalvo n x).console = s.console := (rfl)
@[simp] theorem State.setSalvo_recs (s : State) (n : Nat) (x : Salvo) : (s.setSalvo n x).recs = s.recs := (rfl)
@[simp] theorem State.setSalvo_recCores (s : State) (n : Nat) (x : Salvo) : (s.setSalvo n x).recCores = s.recCores := (rfl)
@[simp] theorem State.setSalvo_pair (s : State) (n : Nat) (x : Salvo) : (s.setSalvo n x).pair = s.pair := (rfl)
@[simp] theorem State.setSalvo_board (s : State) (n : Nat) (x : Salvo) : (s.setSalvo n x).board = s.board := (rfl)
@[simp] theorem State.setSalvo_prov (s : State) (n : Nat) (x : Salvo) : (s.setSalvo n x).prov = s.prov := (rfl)
@[simp] theorem State.setSalvo_glb (s : State) (n : Nat) (x : Salvo) : (s.setSalvo n x).glb = s.glb := (rfl)
@[simp] theorem State.setSalvo_adm (s : State) (n : Nat) (x : Salvo) : (s.setSalvo n x).adm = s.adm := (rfl)
@[simp] theorem State.setSalvo_dict (s : State) (n : Nat) (x : Salvo) : (s.setSalvo n x).dict = s.dict := (rfl)
@[simp] theorem State.setSalvo_store (s : State) (n : Nat) (x : Salvo) : (s.setSalvo n x).store = s.store := (rfl)
@[simp] theorem State.setSalvo_prot (s : State) (n : Nat) (x : Salvo) : (s.setSalvo n x).prot = s.prot := (rfl)
@[simp] theorem State.setSalvo_udpPort (s : State) (n : Nat) (x : Salvo) : (s.setSalvo n x).udpPort = s.udpPort := (rfl)
@[simp] theorem State.setSalvo_udpPorts (s : State) (n : Nat) (x : Salvo) : (s.setSalvo n x).udpPorts = s.udpPorts := (rfl)
@[simp] theorem State.setSalvo_pending (s : State) (n : Nat) (x : Salvo) : (s.setSalvo n x).pending = s.pending := (rfl)

/-! ### setLane -/

@[simp] theorem State.setLane_lanes (s : State) (n : Nat) (x : Lane) : (s.setLane n x).lanes = Tab.set {} s.lanes n x := (rfl)
@[simp] theorem State.setLane_time (s : State) (n : Nat) (x : Lane) : (s.setLane n x).time = s.time := (rfl)
@[simp] theorem State.setLane_mode (s : State) (n : Nat) (x : Lane) : (s.setLane n x).mode = s.mode := (rfl)
@[simp] theorem State.setLane_aon (s : State) (n : Nat) (x : Lane) : (s.setLane n x).aon = s.aon := (rfl)
@[simp] theorem State.setLane_regs (s : State) (n : Nat) (x : Lane) : (s.setLane n x).regs = s.regs := (rfl)
@[simp] theorem State.setLane_latches (s : State) (n : Nat) (x : Lane) : (s.setLane n x).latches = s.latches := (rfl)
@[simp] theorem State.setLane_readData (s : State) (n : Nat) (x : Lane) : (s.setLane n x).readData = s.readData := (rfl)
@[simp] theorem State.setLane_dram (s : State) (n : Nat) (x : Lane) : (s.setLane n x).dram = s.dram := (rfl)
@[simp] theorem State.setLane_events (s : State) (n : Nat) (x : Lane) : (s.setLane n x).events = s.events := (rfl)
@[simp] theorem State.setLane_eventSeq (s : State) (n : Nat) (x : Lane) : (s.setLane n x).eventSeq = s.eventSeq := (rfl)
@[simp] theorem State.setLane_sent (s : State) (n : Nat) (x : Lane) : (s.setLane n x).sent = s.sent := (rfl)
@[simp] theorem State.setLane_chans (s : State) (n : Nat) (x : Lane) : (s.setLane n x).chans = s.chans := (rfl)
@[simp] theorem State.setLane_ctxs (s : State) (n : Nat) (x : Lane) : (s.setLane n x).ctxs = s.ctxs := (rfl)
@[simp] theorem State.setLane_salvos (s : State) (n : Nat) (x : Lane) : (s.setLane n x).salvos = s.salvos := (rfl)
@[simp] theorem State.setLane_bonds (s : State) (n : Nat) (x : Lane) : (s.setLane n x).bonds = s.bonds := (rfl)
@[simp] theorem State.setLane_cruiseSeq (s : State) (n : Nat) (x : Lane) : (s.setLane n x).cruiseSeq = s.cruiseSeq := (rfl)
@[simp] theorem State.setLane_cruiseLast (s : State) (n : Nat) (x : Lane) : (s.setLane n x).cruiseLast = s.cruiseLast := (rfl)
@[simp] theorem State.setLane_cores (s : State) (n : Nat) (x : Lane) : (s.setLane n x).cores = s.cores := (rfl)
@[simp] theorem State.setLane_slots (s : State) (n : Nat) (x : Lane) : (s.setLane n x).slots = s.slots := (rfl)
@[simp] theorem State.setLane_packing (s : State) (n : Nat) (x : Lane) : (s.setLane n x).packing = s.packing := (rfl)
@[simp] theorem State.setLane_progs (s : State) (n : Nat) (x : Lane) : (s.setLane n x).progs = s.progs := (rfl)
@[simp] theorem State.setLane_heads (s : State) (n : Nat) (x : Lane) : (s.setLane n x).heads = s.heads := (rfl)
@[simp] theorem State.setLane_sheets (s : State) (n : Nat) (x : Lane) : (s.setLane n x).sheets = s.sheets := (rfl)
@[simp] theorem State.setLane_engines (s : State) (n : Nat) (x : Lane) : (s.setLane n x).engines = s.engines := (rfl)
@[simp] theorem State.setLane_win (s : State) (n : Nat) (x : Lane) : (s.setLane n x).win = s.win := (rfl)
@[simp] theorem State.setLane_safe (s : State) (n : Nat) (x : Lane) : (s.setLane n x).safe = s.safe := (rfl)
@[simp] theorem State.setLane_insts (s : State) (n : Nat) (x : Lane) : (s.setLane n x).insts = s.insts := (rfl)
@[simp] theorem State.setLane_surfs (s : State) (n : Nat) (x : Lane) : (s.setLane n x).surfs = s.surfs := (rfl)
@[simp] theorem State.setLane_dma (s : State) (n : Nat) (x : Lane) : (s.setLane n x).dma = s.dma := (rfl)
@[simp] theorem State.setLane_atc (s : State) (n : Nat) (x : Lane) : (s.setLane n x).atc = s.atc := (rfl)
@[simp] theorem State.setLane_console (s : State) (n : Nat) (x : Lane) : (s.setLane n x).console = s.console := (rfl)
@[simp] theorem State.setLane_recs (s : State) (n : Nat) (x : Lane) : (s.setLane n x).recs = s.recs := (rfl)
@[simp] theorem State.setLane_recCores (s : State) (n : Nat) (x : Lane) : (s.setLane n x).recCores = s.recCores := (rfl)
@[simp] theorem State.setLane_pair (s : State) (n : Nat) (x : Lane) : (s.setLane n x).pair = s.pair := (rfl)
@[simp] theorem State.setLane_board (s : State) (n : Nat) (x : Lane) : (s.setLane n x).board = s.board := (rfl)
@[simp] theorem State.setLane_prov (s : State) (n : Nat) (x : Lane) : (s.setLane n x).prov = s.prov := (rfl)
@[simp] theorem State.setLane_glb (s : State) (n : Nat) (x : Lane) : (s.setLane n x).glb = s.glb := (rfl)
@[simp] theorem State.setLane_adm (s : State) (n : Nat) (x : Lane) : (s.setLane n x).adm = s.adm := (rfl)
@[simp] theorem State.setLane_dict (s : State) (n : Nat) (x : Lane) : (s.setLane n x).dict = s.dict := (rfl)
@[simp] theorem State.setLane_store (s : State) (n : Nat) (x : Lane) : (s.setLane n x).store = s.store := (rfl)
@[simp] theorem State.setLane_prot (s : State) (n : Nat) (x : Lane) : (s.setLane n x).prot = s.prot := (rfl)
@[simp] theorem State.setLane_udpPort (s : State) (n : Nat) (x : Lane) : (s.setLane n x).udpPort = s.udpPort := (rfl)
@[simp] theorem State.setLane_udpPorts (s : State) (n : Nat) (x : Lane) : (s.setLane n x).udpPorts = s.udpPorts := (rfl)
@[simp] theorem State.setLane_pending (s : State) (n : Nat) (x : Lane) : (s.setLane n x).pending = s.pending := (rfl)

/-! ### setCore -/

@[simp] theorem State.setCore_cores (s : State) (n : Nat) (x : Core) : (s.setCore n x).cores = Tab.set {} s.cores n x := (rfl)
@[simp] theorem State.setCore_time (s : State) (n : Nat) (x : Core) : (s.setCore n x).time = s.time := (rfl)
@[simp] theorem State.setCore_mode (s : State) (n : Nat) (x : Core) : (s.setCore n x).mode = s.mode := (rfl)
@[simp] theorem State.setCore_aon (s : State) (n : Nat) (x : Core) : (s.setCore n x).aon = s.aon := (rfl)
@[simp] theorem State.setCore_regs (s : State) (n : Nat) (x : Core) : (s.setCore n x).regs = s.regs := (rfl)
@[simp] theorem State.setCore_latches (s : State) (n : Nat) (x : Core) : (s.setCore n x).latches = s.latches := (rfl)
@[simp] theorem State.setCore_readData (s : State) (n : Nat) (x : Core) : (s.setCore n x).readData = s.readData := (rfl)
@[simp] theorem State.setCore_dram (s : State) (n : Nat) (x : Core) : (s.setCore n x).dram = s.dram := (rfl)
@[simp] theorem State.setCore_events (s : State) (n : Nat) (x : Core) : (s.setCore n x).events = s.events := (rfl)
@[simp] theorem State.setCore_eventSeq (s : State) (n : Nat) (x : Core) : (s.setCore n x).eventSeq = s.eventSeq := (rfl)
@[simp] theorem State.setCore_sent (s : State) (n : Nat) (x : Core) : (s.setCore n x).sent = s.sent := (rfl)
@[simp] theorem State.setCore_chans (s : State) (n : Nat) (x : Core) : (s.setCore n x).chans = s.chans := (rfl)
@[simp] theorem State.setCore_ctxs (s : State) (n : Nat) (x : Core) : (s.setCore n x).ctxs = s.ctxs := (rfl)
@[simp] theorem State.setCore_salvos (s : State) (n : Nat) (x : Core) : (s.setCore n x).salvos = s.salvos := (rfl)
@[simp] theorem State.setCore_bonds (s : State) (n : Nat) (x : Core) : (s.setCore n x).bonds = s.bonds := (rfl)
@[simp] theorem State.setCore_lanes (s : State) (n : Nat) (x : Core) : (s.setCore n x).lanes = s.lanes := (rfl)
@[simp] theorem State.setCore_cruiseSeq (s : State) (n : Nat) (x : Core) : (s.setCore n x).cruiseSeq = s.cruiseSeq := (rfl)
@[simp] theorem State.setCore_cruiseLast (s : State) (n : Nat) (x : Core) : (s.setCore n x).cruiseLast = s.cruiseLast := (rfl)
@[simp] theorem State.setCore_slots (s : State) (n : Nat) (x : Core) : (s.setCore n x).slots = s.slots := (rfl)
@[simp] theorem State.setCore_packing (s : State) (n : Nat) (x : Core) : (s.setCore n x).packing = s.packing := (rfl)
@[simp] theorem State.setCore_progs (s : State) (n : Nat) (x : Core) : (s.setCore n x).progs = s.progs := (rfl)
@[simp] theorem State.setCore_heads (s : State) (n : Nat) (x : Core) : (s.setCore n x).heads = s.heads := (rfl)
@[simp] theorem State.setCore_sheets (s : State) (n : Nat) (x : Core) : (s.setCore n x).sheets = s.sheets := (rfl)
@[simp] theorem State.setCore_engines (s : State) (n : Nat) (x : Core) : (s.setCore n x).engines = s.engines := (rfl)
@[simp] theorem State.setCore_win (s : State) (n : Nat) (x : Core) : (s.setCore n x).win = s.win := (rfl)
@[simp] theorem State.setCore_safe (s : State) (n : Nat) (x : Core) : (s.setCore n x).safe = s.safe := (rfl)
@[simp] theorem State.setCore_insts (s : State) (n : Nat) (x : Core) : (s.setCore n x).insts = s.insts := (rfl)
@[simp] theorem State.setCore_surfs (s : State) (n : Nat) (x : Core) : (s.setCore n x).surfs = s.surfs := (rfl)
@[simp] theorem State.setCore_dma (s : State) (n : Nat) (x : Core) : (s.setCore n x).dma = s.dma := (rfl)
@[simp] theorem State.setCore_atc (s : State) (n : Nat) (x : Core) : (s.setCore n x).atc = s.atc := (rfl)
@[simp] theorem State.setCore_console (s : State) (n : Nat) (x : Core) : (s.setCore n x).console = s.console := (rfl)
@[simp] theorem State.setCore_recs (s : State) (n : Nat) (x : Core) : (s.setCore n x).recs = s.recs := (rfl)
@[simp] theorem State.setCore_recCores (s : State) (n : Nat) (x : Core) : (s.setCore n x).recCores = s.recCores := (rfl)
@[simp] theorem State.setCore_pair (s : State) (n : Nat) (x : Core) : (s.setCore n x).pair = s.pair := (rfl)
@[simp] theorem State.setCore_board (s : State) (n : Nat) (x : Core) : (s.setCore n x).board = s.board := (rfl)
@[simp] theorem State.setCore_prov (s : State) (n : Nat) (x : Core) : (s.setCore n x).prov = s.prov := (rfl)
@[simp] theorem State.setCore_glb (s : State) (n : Nat) (x : Core) : (s.setCore n x).glb = s.glb := (rfl)
@[simp] theorem State.setCore_adm (s : State) (n : Nat) (x : Core) : (s.setCore n x).adm = s.adm := (rfl)
@[simp] theorem State.setCore_dict (s : State) (n : Nat) (x : Core) : (s.setCore n x).dict = s.dict := (rfl)
@[simp] theorem State.setCore_store (s : State) (n : Nat) (x : Core) : (s.setCore n x).store = s.store := (rfl)
@[simp] theorem State.setCore_prot (s : State) (n : Nat) (x : Core) : (s.setCore n x).prot = s.prot := (rfl)
@[simp] theorem State.setCore_udpPort (s : State) (n : Nat) (x : Core) : (s.setCore n x).udpPort = s.udpPort := (rfl)
@[simp] theorem State.setCore_udpPorts (s : State) (n : Nat) (x : Core) : (s.setCore n x).udpPorts = s.udpPorts := (rfl)
@[simp] theorem State.setCore_pending (s : State) (n : Nat) (x : Core) : (s.setCore n x).pending = s.pending := (rfl)

/-! ### setHead -/

@[simp] theorem State.setHead_heads (s : State) (n : Nat) (x : Head) : (s.setHead n x).heads = Tab.set {} s.heads n x := (rfl)
@[simp] theorem State.setHead_time (s : State) (n : Nat) (x : Head) : (s.setHead n x).time = s.time := (rfl)
@[simp] theorem State.setHead_mode (s : State) (n : Nat) (x : Head) : (s.setHead n x).mode = s.mode := (rfl)
@[simp] theorem State.setHead_aon (s : State) (n : Nat) (x : Head) : (s.setHead n x).aon = s.aon := (rfl)
@[simp] theorem State.setHead_regs (s : State) (n : Nat) (x : Head) : (s.setHead n x).regs = s.regs := (rfl)
@[simp] theorem State.setHead_latches (s : State) (n : Nat) (x : Head) : (s.setHead n x).latches = s.latches := (rfl)
@[simp] theorem State.setHead_readData (s : State) (n : Nat) (x : Head) : (s.setHead n x).readData = s.readData := (rfl)
@[simp] theorem State.setHead_dram (s : State) (n : Nat) (x : Head) : (s.setHead n x).dram = s.dram := (rfl)
@[simp] theorem State.setHead_events (s : State) (n : Nat) (x : Head) : (s.setHead n x).events = s.events := (rfl)
@[simp] theorem State.setHead_eventSeq (s : State) (n : Nat) (x : Head) : (s.setHead n x).eventSeq = s.eventSeq := (rfl)
@[simp] theorem State.setHead_sent (s : State) (n : Nat) (x : Head) : (s.setHead n x).sent = s.sent := (rfl)
@[simp] theorem State.setHead_chans (s : State) (n : Nat) (x : Head) : (s.setHead n x).chans = s.chans := (rfl)
@[simp] theorem State.setHead_ctxs (s : State) (n : Nat) (x : Head) : (s.setHead n x).ctxs = s.ctxs := (rfl)
@[simp] theorem State.setHead_salvos (s : State) (n : Nat) (x : Head) : (s.setHead n x).salvos = s.salvos := (rfl)
@[simp] theorem State.setHead_bonds (s : State) (n : Nat) (x : Head) : (s.setHead n x).bonds = s.bonds := (rfl)
@[simp] theorem State.setHead_lanes (s : State) (n : Nat) (x : Head) : (s.setHead n x).lanes = s.lanes := (rfl)
@[simp] theorem State.setHead_cruiseSeq (s : State) (n : Nat) (x : Head) : (s.setHead n x).cruiseSeq = s.cruiseSeq := (rfl)
@[simp] theorem State.setHead_cruiseLast (s : State) (n : Nat) (x : Head) : (s.setHead n x).cruiseLast = s.cruiseLast := (rfl)
@[simp] theorem State.setHead_cores (s : State) (n : Nat) (x : Head) : (s.setHead n x).cores = s.cores := (rfl)
@[simp] theorem State.setHead_slots (s : State) (n : Nat) (x : Head) : (s.setHead n x).slots = s.slots := (rfl)
@[simp] theorem State.setHead_packing (s : State) (n : Nat) (x : Head) : (s.setHead n x).packing = s.packing := (rfl)
@[simp] theorem State.setHead_progs (s : State) (n : Nat) (x : Head) : (s.setHead n x).progs = s.progs := (rfl)
@[simp] theorem State.setHead_sheets (s : State) (n : Nat) (x : Head) : (s.setHead n x).sheets = s.sheets := (rfl)
@[simp] theorem State.setHead_engines (s : State) (n : Nat) (x : Head) : (s.setHead n x).engines = s.engines := (rfl)
@[simp] theorem State.setHead_win (s : State) (n : Nat) (x : Head) : (s.setHead n x).win = s.win := (rfl)
@[simp] theorem State.setHead_safe (s : State) (n : Nat) (x : Head) : (s.setHead n x).safe = s.safe := (rfl)
@[simp] theorem State.setHead_insts (s : State) (n : Nat) (x : Head) : (s.setHead n x).insts = s.insts := (rfl)
@[simp] theorem State.setHead_surfs (s : State) (n : Nat) (x : Head) : (s.setHead n x).surfs = s.surfs := (rfl)
@[simp] theorem State.setHead_dma (s : State) (n : Nat) (x : Head) : (s.setHead n x).dma = s.dma := (rfl)
@[simp] theorem State.setHead_atc (s : State) (n : Nat) (x : Head) : (s.setHead n x).atc = s.atc := (rfl)
@[simp] theorem State.setHead_console (s : State) (n : Nat) (x : Head) : (s.setHead n x).console = s.console := (rfl)
@[simp] theorem State.setHead_recs (s : State) (n : Nat) (x : Head) : (s.setHead n x).recs = s.recs := (rfl)
@[simp] theorem State.setHead_recCores (s : State) (n : Nat) (x : Head) : (s.setHead n x).recCores = s.recCores := (rfl)
@[simp] theorem State.setHead_pair (s : State) (n : Nat) (x : Head) : (s.setHead n x).pair = s.pair := (rfl)
@[simp] theorem State.setHead_board (s : State) (n : Nat) (x : Head) : (s.setHead n x).board = s.board := (rfl)
@[simp] theorem State.setHead_prov (s : State) (n : Nat) (x : Head) : (s.setHead n x).prov = s.prov := (rfl)
@[simp] theorem State.setHead_glb (s : State) (n : Nat) (x : Head) : (s.setHead n x).glb = s.glb := (rfl)
@[simp] theorem State.setHead_adm (s : State) (n : Nat) (x : Head) : (s.setHead n x).adm = s.adm := (rfl)
@[simp] theorem State.setHead_dict (s : State) (n : Nat) (x : Head) : (s.setHead n x).dict = s.dict := (rfl)
@[simp] theorem State.setHead_store (s : State) (n : Nat) (x : Head) : (s.setHead n x).store = s.store := (rfl)
@[simp] theorem State.setHead_prot (s : State) (n : Nat) (x : Head) : (s.setHead n x).prot = s.prot := (rfl)
@[simp] theorem State.setHead_udpPort (s : State) (n : Nat) (x : Head) : (s.setHead n x).udpPort = s.udpPort := (rfl)
@[simp] theorem State.setHead_udpPorts (s : State) (n : Nat) (x : Head) : (s.setHead n x).udpPorts = s.udpPorts := (rfl)
@[simp] theorem State.setHead_pending (s : State) (n : Nat) (x : Head) : (s.setHead n x).pending = s.pending := (rfl)

/-! ### setSheet -/

@[simp] theorem State.setSheet_sheets (s : State) (n : Nat) (x : Sheet) : (s.setSheet n x).sheets = Tab.set {} s.sheets n x := (rfl)
@[simp] theorem State.setSheet_time (s : State) (n : Nat) (x : Sheet) : (s.setSheet n x).time = s.time := (rfl)
@[simp] theorem State.setSheet_mode (s : State) (n : Nat) (x : Sheet) : (s.setSheet n x).mode = s.mode := (rfl)
@[simp] theorem State.setSheet_aon (s : State) (n : Nat) (x : Sheet) : (s.setSheet n x).aon = s.aon := (rfl)
@[simp] theorem State.setSheet_regs (s : State) (n : Nat) (x : Sheet) : (s.setSheet n x).regs = s.regs := (rfl)
@[simp] theorem State.setSheet_latches (s : State) (n : Nat) (x : Sheet) : (s.setSheet n x).latches = s.latches := (rfl)
@[simp] theorem State.setSheet_readData (s : State) (n : Nat) (x : Sheet) : (s.setSheet n x).readData = s.readData := (rfl)
@[simp] theorem State.setSheet_dram (s : State) (n : Nat) (x : Sheet) : (s.setSheet n x).dram = s.dram := (rfl)
@[simp] theorem State.setSheet_events (s : State) (n : Nat) (x : Sheet) : (s.setSheet n x).events = s.events := (rfl)
@[simp] theorem State.setSheet_eventSeq (s : State) (n : Nat) (x : Sheet) : (s.setSheet n x).eventSeq = s.eventSeq := (rfl)
@[simp] theorem State.setSheet_sent (s : State) (n : Nat) (x : Sheet) : (s.setSheet n x).sent = s.sent := (rfl)
@[simp] theorem State.setSheet_chans (s : State) (n : Nat) (x : Sheet) : (s.setSheet n x).chans = s.chans := (rfl)
@[simp] theorem State.setSheet_ctxs (s : State) (n : Nat) (x : Sheet) : (s.setSheet n x).ctxs = s.ctxs := (rfl)
@[simp] theorem State.setSheet_salvos (s : State) (n : Nat) (x : Sheet) : (s.setSheet n x).salvos = s.salvos := (rfl)
@[simp] theorem State.setSheet_bonds (s : State) (n : Nat) (x : Sheet) : (s.setSheet n x).bonds = s.bonds := (rfl)
@[simp] theorem State.setSheet_lanes (s : State) (n : Nat) (x : Sheet) : (s.setSheet n x).lanes = s.lanes := (rfl)
@[simp] theorem State.setSheet_cruiseSeq (s : State) (n : Nat) (x : Sheet) : (s.setSheet n x).cruiseSeq = s.cruiseSeq := (rfl)
@[simp] theorem State.setSheet_cruiseLast (s : State) (n : Nat) (x : Sheet) : (s.setSheet n x).cruiseLast = s.cruiseLast := (rfl)
@[simp] theorem State.setSheet_cores (s : State) (n : Nat) (x : Sheet) : (s.setSheet n x).cores = s.cores := (rfl)
@[simp] theorem State.setSheet_slots (s : State) (n : Nat) (x : Sheet) : (s.setSheet n x).slots = s.slots := (rfl)
@[simp] theorem State.setSheet_packing (s : State) (n : Nat) (x : Sheet) : (s.setSheet n x).packing = s.packing := (rfl)
@[simp] theorem State.setSheet_progs (s : State) (n : Nat) (x : Sheet) : (s.setSheet n x).progs = s.progs := (rfl)
@[simp] theorem State.setSheet_heads (s : State) (n : Nat) (x : Sheet) : (s.setSheet n x).heads = s.heads := (rfl)
@[simp] theorem State.setSheet_engines (s : State) (n : Nat) (x : Sheet) : (s.setSheet n x).engines = s.engines := (rfl)
@[simp] theorem State.setSheet_win (s : State) (n : Nat) (x : Sheet) : (s.setSheet n x).win = s.win := (rfl)
@[simp] theorem State.setSheet_safe (s : State) (n : Nat) (x : Sheet) : (s.setSheet n x).safe = s.safe := (rfl)
@[simp] theorem State.setSheet_insts (s : State) (n : Nat) (x : Sheet) : (s.setSheet n x).insts = s.insts := (rfl)
@[simp] theorem State.setSheet_surfs (s : State) (n : Nat) (x : Sheet) : (s.setSheet n x).surfs = s.surfs := (rfl)
@[simp] theorem State.setSheet_dma (s : State) (n : Nat) (x : Sheet) : (s.setSheet n x).dma = s.dma := (rfl)
@[simp] theorem State.setSheet_atc (s : State) (n : Nat) (x : Sheet) : (s.setSheet n x).atc = s.atc := (rfl)
@[simp] theorem State.setSheet_console (s : State) (n : Nat) (x : Sheet) : (s.setSheet n x).console = s.console := (rfl)
@[simp] theorem State.setSheet_recs (s : State) (n : Nat) (x : Sheet) : (s.setSheet n x).recs = s.recs := (rfl)
@[simp] theorem State.setSheet_recCores (s : State) (n : Nat) (x : Sheet) : (s.setSheet n x).recCores = s.recCores := (rfl)
@[simp] theorem State.setSheet_pair (s : State) (n : Nat) (x : Sheet) : (s.setSheet n x).pair = s.pair := (rfl)
@[simp] theorem State.setSheet_board (s : State) (n : Nat) (x : Sheet) : (s.setSheet n x).board = s.board := (rfl)
@[simp] theorem State.setSheet_prov (s : State) (n : Nat) (x : Sheet) : (s.setSheet n x).prov = s.prov := (rfl)
@[simp] theorem State.setSheet_glb (s : State) (n : Nat) (x : Sheet) : (s.setSheet n x).glb = s.glb := (rfl)
@[simp] theorem State.setSheet_adm (s : State) (n : Nat) (x : Sheet) : (s.setSheet n x).adm = s.adm := (rfl)
@[simp] theorem State.setSheet_dict (s : State) (n : Nat) (x : Sheet) : (s.setSheet n x).dict = s.dict := (rfl)
@[simp] theorem State.setSheet_store (s : State) (n : Nat) (x : Sheet) : (s.setSheet n x).store = s.store := (rfl)
@[simp] theorem State.setSheet_prot (s : State) (n : Nat) (x : Sheet) : (s.setSheet n x).prot = s.prot := (rfl)
@[simp] theorem State.setSheet_udpPort (s : State) (n : Nat) (x : Sheet) : (s.setSheet n x).udpPort = s.udpPort := (rfl)
@[simp] theorem State.setSheet_udpPorts (s : State) (n : Nat) (x : Sheet) : (s.setSheet n x).udpPorts = s.udpPorts := (rfl)
@[simp] theorem State.setSheet_pending (s : State) (n : Nat) (x : Sheet) : (s.setSheet n x).pending = s.pending := (rfl)

/-! ### setEngine -/

@[simp] theorem State.setEngine_engines (s : State) (n : Nat) (x : Engine) : (s.setEngine n x).engines = Tab.set {} s.engines n x := (rfl)
@[simp] theorem State.setEngine_time (s : State) (n : Nat) (x : Engine) : (s.setEngine n x).time = s.time := (rfl)
@[simp] theorem State.setEngine_mode (s : State) (n : Nat) (x : Engine) : (s.setEngine n x).mode = s.mode := (rfl)
@[simp] theorem State.setEngine_aon (s : State) (n : Nat) (x : Engine) : (s.setEngine n x).aon = s.aon := (rfl)
@[simp] theorem State.setEngine_regs (s : State) (n : Nat) (x : Engine) : (s.setEngine n x).regs = s.regs := (rfl)
@[simp] theorem State.setEngine_latches (s : State) (n : Nat) (x : Engine) : (s.setEngine n x).latches = s.latches := (rfl)
@[simp] theorem State.setEngine_readData (s : State) (n : Nat) (x : Engine) : (s.setEngine n x).readData = s.readData := (rfl)
@[simp] theorem State.setEngine_dram (s : State) (n : Nat) (x : Engine) : (s.setEngine n x).dram = s.dram := (rfl)
@[simp] theorem State.setEngine_events (s : State) (n : Nat) (x : Engine) : (s.setEngine n x).events = s.events := (rfl)
@[simp] theorem State.setEngine_eventSeq (s : State) (n : Nat) (x : Engine) : (s.setEngine n x).eventSeq = s.eventSeq := (rfl)
@[simp] theorem State.setEngine_sent (s : State) (n : Nat) (x : Engine) : (s.setEngine n x).sent = s.sent := (rfl)
@[simp] theorem State.setEngine_chans (s : State) (n : Nat) (x : Engine) : (s.setEngine n x).chans = s.chans := (rfl)
@[simp] theorem State.setEngine_ctxs (s : State) (n : Nat) (x : Engine) : (s.setEngine n x).ctxs = s.ctxs := (rfl)
@[simp] theorem State.setEngine_salvos (s : State) (n : Nat) (x : Engine) : (s.setEngine n x).salvos = s.salvos := (rfl)
@[simp] theorem State.setEngine_bonds (s : State) (n : Nat) (x : Engine) : (s.setEngine n x).bonds = s.bonds := (rfl)
@[simp] theorem State.setEngine_lanes (s : State) (n : Nat) (x : Engine) : (s.setEngine n x).lanes = s.lanes := (rfl)
@[simp] theorem State.setEngine_cruiseSeq (s : State) (n : Nat) (x : Engine) : (s.setEngine n x).cruiseSeq = s.cruiseSeq := (rfl)
@[simp] theorem State.setEngine_cruiseLast (s : State) (n : Nat) (x : Engine) : (s.setEngine n x).cruiseLast = s.cruiseLast := (rfl)
@[simp] theorem State.setEngine_cores (s : State) (n : Nat) (x : Engine) : (s.setEngine n x).cores = s.cores := (rfl)
@[simp] theorem State.setEngine_slots (s : State) (n : Nat) (x : Engine) : (s.setEngine n x).slots = s.slots := (rfl)
@[simp] theorem State.setEngine_packing (s : State) (n : Nat) (x : Engine) : (s.setEngine n x).packing = s.packing := (rfl)
@[simp] theorem State.setEngine_progs (s : State) (n : Nat) (x : Engine) : (s.setEngine n x).progs = s.progs := (rfl)
@[simp] theorem State.setEngine_heads (s : State) (n : Nat) (x : Engine) : (s.setEngine n x).heads = s.heads := (rfl)
@[simp] theorem State.setEngine_sheets (s : State) (n : Nat) (x : Engine) : (s.setEngine n x).sheets = s.sheets := (rfl)
@[simp] theorem State.setEngine_win (s : State) (n : Nat) (x : Engine) : (s.setEngine n x).win = s.win := (rfl)
@[simp] theorem State.setEngine_safe (s : State) (n : Nat) (x : Engine) : (s.setEngine n x).safe = s.safe := (rfl)
@[simp] theorem State.setEngine_insts (s : State) (n : Nat) (x : Engine) : (s.setEngine n x).insts = s.insts := (rfl)
@[simp] theorem State.setEngine_surfs (s : State) (n : Nat) (x : Engine) : (s.setEngine n x).surfs = s.surfs := (rfl)
@[simp] theorem State.setEngine_dma (s : State) (n : Nat) (x : Engine) : (s.setEngine n x).dma = s.dma := (rfl)
@[simp] theorem State.setEngine_atc (s : State) (n : Nat) (x : Engine) : (s.setEngine n x).atc = s.atc := (rfl)
@[simp] theorem State.setEngine_console (s : State) (n : Nat) (x : Engine) : (s.setEngine n x).console = s.console := (rfl)
@[simp] theorem State.setEngine_recs (s : State) (n : Nat) (x : Engine) : (s.setEngine n x).recs = s.recs := (rfl)
@[simp] theorem State.setEngine_recCores (s : State) (n : Nat) (x : Engine) : (s.setEngine n x).recCores = s.recCores := (rfl)
@[simp] theorem State.setEngine_pair (s : State) (n : Nat) (x : Engine) : (s.setEngine n x).pair = s.pair := (rfl)
@[simp] theorem State.setEngine_board (s : State) (n : Nat) (x : Engine) : (s.setEngine n x).board = s.board := (rfl)
@[simp] theorem State.setEngine_prov (s : State) (n : Nat) (x : Engine) : (s.setEngine n x).prov = s.prov := (rfl)
@[simp] theorem State.setEngine_glb (s : State) (n : Nat) (x : Engine) : (s.setEngine n x).glb = s.glb := (rfl)
@[simp] theorem State.setEngine_adm (s : State) (n : Nat) (x : Engine) : (s.setEngine n x).adm = s.adm := (rfl)
@[simp] theorem State.setEngine_dict (s : State) (n : Nat) (x : Engine) : (s.setEngine n x).dict = s.dict := (rfl)
@[simp] theorem State.setEngine_store (s : State) (n : Nat) (x : Engine) : (s.setEngine n x).store = s.store := (rfl)
@[simp] theorem State.setEngine_prot (s : State) (n : Nat) (x : Engine) : (s.setEngine n x).prot = s.prot := (rfl)
@[simp] theorem State.setEngine_udpPort (s : State) (n : Nat) (x : Engine) : (s.setEngine n x).udpPort = s.udpPort := (rfl)
@[simp] theorem State.setEngine_udpPorts (s : State) (n : Nat) (x : Engine) : (s.setEngine n x).udpPorts = s.udpPorts := (rfl)
@[simp] theorem State.setEngine_pending (s : State) (n : Nat) (x : Engine) : (s.setEngine n x).pending = s.pending := (rfl)

/-! ### setSlots -/

@[simp] theorem State.setSlots_slots (s : State) (n : Nat) (x : Slots) : (s.setSlots n x).slots = Tab.set {} s.slots n x := (rfl)
@[simp] theorem State.setSlots_time (s : State) (n : Nat) (x : Slots) : (s.setSlots n x).time = s.time := (rfl)
@[simp] theorem State.setSlots_mode (s : State) (n : Nat) (x : Slots) : (s.setSlots n x).mode = s.mode := (rfl)
@[simp] theorem State.setSlots_aon (s : State) (n : Nat) (x : Slots) : (s.setSlots n x).aon = s.aon := (rfl)
@[simp] theorem State.setSlots_regs (s : State) (n : Nat) (x : Slots) : (s.setSlots n x).regs = s.regs := (rfl)
@[simp] theorem State.setSlots_latches (s : State) (n : Nat) (x : Slots) : (s.setSlots n x).latches = s.latches := (rfl)
@[simp] theorem State.setSlots_readData (s : State) (n : Nat) (x : Slots) : (s.setSlots n x).readData = s.readData := (rfl)
@[simp] theorem State.setSlots_dram (s : State) (n : Nat) (x : Slots) : (s.setSlots n x).dram = s.dram := (rfl)
@[simp] theorem State.setSlots_events (s : State) (n : Nat) (x : Slots) : (s.setSlots n x).events = s.events := (rfl)
@[simp] theorem State.setSlots_eventSeq (s : State) (n : Nat) (x : Slots) : (s.setSlots n x).eventSeq = s.eventSeq := (rfl)
@[simp] theorem State.setSlots_sent (s : State) (n : Nat) (x : Slots) : (s.setSlots n x).sent = s.sent := (rfl)
@[simp] theorem State.setSlots_chans (s : State) (n : Nat) (x : Slots) : (s.setSlots n x).chans = s.chans := (rfl)
@[simp] theorem State.setSlots_ctxs (s : State) (n : Nat) (x : Slots) : (s.setSlots n x).ctxs = s.ctxs := (rfl)
@[simp] theorem State.setSlots_salvos (s : State) (n : Nat) (x : Slots) : (s.setSlots n x).salvos = s.salvos := (rfl)
@[simp] theorem State.setSlots_bonds (s : State) (n : Nat) (x : Slots) : (s.setSlots n x).bonds = s.bonds := (rfl)
@[simp] theorem State.setSlots_lanes (s : State) (n : Nat) (x : Slots) : (s.setSlots n x).lanes = s.lanes := (rfl)
@[simp] theorem State.setSlots_cruiseSeq (s : State) (n : Nat) (x : Slots) : (s.setSlots n x).cruiseSeq = s.cruiseSeq := (rfl)
@[simp] theorem State.setSlots_cruiseLast (s : State) (n : Nat) (x : Slots) : (s.setSlots n x).cruiseLast = s.cruiseLast := (rfl)
@[simp] theorem State.setSlots_cores (s : State) (n : Nat) (x : Slots) : (s.setSlots n x).cores = s.cores := (rfl)
@[simp] theorem State.setSlots_packing (s : State) (n : Nat) (x : Slots) : (s.setSlots n x).packing = s.packing := (rfl)
@[simp] theorem State.setSlots_progs (s : State) (n : Nat) (x : Slots) : (s.setSlots n x).progs = s.progs := (rfl)
@[simp] theorem State.setSlots_heads (s : State) (n : Nat) (x : Slots) : (s.setSlots n x).heads = s.heads := (rfl)
@[simp] theorem State.setSlots_sheets (s : State) (n : Nat) (x : Slots) : (s.setSlots n x).sheets = s.sheets := (rfl)
@[simp] theorem State.setSlots_engines (s : State) (n : Nat) (x : Slots) : (s.setSlots n x).engines = s.engines := (rfl)
@[simp] theorem State.setSlots_win (s : State) (n : Nat) (x : Slots) : (s.setSlots n x).win = s.win := (rfl)
@[simp] theorem State.setSlots_safe (s : State) (n : Nat) (x : Slots) : (s.setSlots n x).safe = s.safe := (rfl)
@[simp] theorem State.setSlots_insts (s : State) (n : Nat) (x : Slots) : (s.setSlots n x).insts = s.insts := (rfl)
@[simp] theorem State.setSlots_surfs (s : State) (n : Nat) (x : Slots) : (s.setSlots n x).surfs = s.surfs := (rfl)
@[simp] theorem State.setSlots_dma (s : State) (n : Nat) (x : Slots) : (s.setSlots n x).dma = s.dma := (rfl)
@[simp] theorem State.setSlots_atc (s : State) (n : Nat) (x : Slots) : (s.setSlots n x).atc = s.atc := (rfl)
@[simp] theorem State.setSlots_console (s : State) (n : Nat) (x : Slots) : (s.setSlots n x).console = s.console := (rfl)
@[simp] theorem State.setSlots_recs (s : State) (n : Nat) (x : Slots) : (s.setSlots n x).recs = s.recs := (rfl)
@[simp] theorem State.setSlots_recCores (s : State) (n : Nat) (x : Slots) : (s.setSlots n x).recCores = s.recCores := (rfl)
@[simp] theorem State.setSlots_pair (s : State) (n : Nat) (x : Slots) : (s.setSlots n x).pair = s.pair := (rfl)
@[simp] theorem State.setSlots_board (s : State) (n : Nat) (x : Slots) : (s.setSlots n x).board = s.board := (rfl)
@[simp] theorem State.setSlots_prov (s : State) (n : Nat) (x : Slots) : (s.setSlots n x).prov = s.prov := (rfl)
@[simp] theorem State.setSlots_glb (s : State) (n : Nat) (x : Slots) : (s.setSlots n x).glb = s.glb := (rfl)
@[simp] theorem State.setSlots_adm (s : State) (n : Nat) (x : Slots) : (s.setSlots n x).adm = s.adm := (rfl)
@[simp] theorem State.setSlots_dict (s : State) (n : Nat) (x : Slots) : (s.setSlots n x).dict = s.dict := (rfl)
@[simp] theorem State.setSlots_store (s : State) (n : Nat) (x : Slots) : (s.setSlots n x).store = s.store := (rfl)
@[simp] theorem State.setSlots_prot (s : State) (n : Nat) (x : Slots) : (s.setSlots n x).prot = s.prot := (rfl)
@[simp] theorem State.setSlots_udpPort (s : State) (n : Nat) (x : Slots) : (s.setSlots n x).udpPort = s.udpPort := (rfl)
@[simp] theorem State.setSlots_udpPorts (s : State) (n : Nat) (x : Slots) : (s.setSlots n x).udpPorts = s.udpPorts := (rfl)
@[simp] theorem State.setSlots_pending (s : State) (n : Nat) (x : Slots) : (s.setSlots n x).pending = s.pending := (rfl)

/-! ### setInst -/

@[simp] theorem State.setInst_insts (s : State) (n : Nat) (x : Inst) : (s.setInst n x).insts = Tab.set {} s.insts n x := (rfl)
@[simp] theorem State.setInst_time (s : State) (n : Nat) (x : Inst) : (s.setInst n x).time = s.time := (rfl)
@[simp] theorem State.setInst_mode (s : State) (n : Nat) (x : Inst) : (s.setInst n x).mode = s.mode := (rfl)
@[simp] theorem State.setInst_aon (s : State) (n : Nat) (x : Inst) : (s.setInst n x).aon = s.aon := (rfl)
@[simp] theorem State.setInst_regs (s : State) (n : Nat) (x : Inst) : (s.setInst n x).regs = s.regs := (rfl)
@[simp] theorem State.setInst_latches (s : State) (n : Nat) (x : Inst) : (s.setInst n x).latches = s.latches := (rfl)
@[simp] theorem State.setInst_readData (s : State) (n : Nat) (x : Inst) : (s.setInst n x).readData = s.readData := (rfl)
@[simp] theorem State.setInst_dram (s : State) (n : Nat) (x : Inst) : (s.setInst n x).dram = s.dram := (rfl)
@[simp] theorem State.setInst_events (s : State) (n : Nat) (x : Inst) : (s.setInst n x).events = s.events := (rfl)
@[simp] theorem State.setInst_eventSeq (s : State) (n : Nat) (x : Inst) : (s.setInst n x).eventSeq = s.eventSeq := (rfl)
@[simp] theorem State.setInst_sent (s : State) (n : Nat) (x : Inst) : (s.setInst n x).sent = s.sent := (rfl)
@[simp] theorem State.setInst_chans (s : State) (n : Nat) (x : Inst) : (s.setInst n x).chans = s.chans := (rfl)
@[simp] theorem State.setInst_ctxs (s : State) (n : Nat) (x : Inst) : (s.setInst n x).ctxs = s.ctxs := (rfl)
@[simp] theorem State.setInst_salvos (s : State) (n : Nat) (x : Inst) : (s.setInst n x).salvos = s.salvos := (rfl)
@[simp] theorem State.setInst_bonds (s : State) (n : Nat) (x : Inst) : (s.setInst n x).bonds = s.bonds := (rfl)
@[simp] theorem State.setInst_lanes (s : State) (n : Nat) (x : Inst) : (s.setInst n x).lanes = s.lanes := (rfl)
@[simp] theorem State.setInst_cruiseSeq (s : State) (n : Nat) (x : Inst) : (s.setInst n x).cruiseSeq = s.cruiseSeq := (rfl)
@[simp] theorem State.setInst_cruiseLast (s : State) (n : Nat) (x : Inst) : (s.setInst n x).cruiseLast = s.cruiseLast := (rfl)
@[simp] theorem State.setInst_cores (s : State) (n : Nat) (x : Inst) : (s.setInst n x).cores = s.cores := (rfl)
@[simp] theorem State.setInst_slots (s : State) (n : Nat) (x : Inst) : (s.setInst n x).slots = s.slots := (rfl)
@[simp] theorem State.setInst_packing (s : State) (n : Nat) (x : Inst) : (s.setInst n x).packing = s.packing := (rfl)
@[simp] theorem State.setInst_progs (s : State) (n : Nat) (x : Inst) : (s.setInst n x).progs = s.progs := (rfl)
@[simp] theorem State.setInst_heads (s : State) (n : Nat) (x : Inst) : (s.setInst n x).heads = s.heads := (rfl)
@[simp] theorem State.setInst_sheets (s : State) (n : Nat) (x : Inst) : (s.setInst n x).sheets = s.sheets := (rfl)
@[simp] theorem State.setInst_engines (s : State) (n : Nat) (x : Inst) : (s.setInst n x).engines = s.engines := (rfl)
@[simp] theorem State.setInst_win (s : State) (n : Nat) (x : Inst) : (s.setInst n x).win = s.win := (rfl)
@[simp] theorem State.setInst_safe (s : State) (n : Nat) (x : Inst) : (s.setInst n x).safe = s.safe := (rfl)
@[simp] theorem State.setInst_surfs (s : State) (n : Nat) (x : Inst) : (s.setInst n x).surfs = s.surfs := (rfl)
@[simp] theorem State.setInst_dma (s : State) (n : Nat) (x : Inst) : (s.setInst n x).dma = s.dma := (rfl)
@[simp] theorem State.setInst_atc (s : State) (n : Nat) (x : Inst) : (s.setInst n x).atc = s.atc := (rfl)
@[simp] theorem State.setInst_console (s : State) (n : Nat) (x : Inst) : (s.setInst n x).console = s.console := (rfl)
@[simp] theorem State.setInst_recs (s : State) (n : Nat) (x : Inst) : (s.setInst n x).recs = s.recs := (rfl)
@[simp] theorem State.setInst_recCores (s : State) (n : Nat) (x : Inst) : (s.setInst n x).recCores = s.recCores := (rfl)
@[simp] theorem State.setInst_pair (s : State) (n : Nat) (x : Inst) : (s.setInst n x).pair = s.pair := (rfl)
@[simp] theorem State.setInst_board (s : State) (n : Nat) (x : Inst) : (s.setInst n x).board = s.board := (rfl)
@[simp] theorem State.setInst_prov (s : State) (n : Nat) (x : Inst) : (s.setInst n x).prov = s.prov := (rfl)
@[simp] theorem State.setInst_glb (s : State) (n : Nat) (x : Inst) : (s.setInst n x).glb = s.glb := (rfl)
@[simp] theorem State.setInst_adm (s : State) (n : Nat) (x : Inst) : (s.setInst n x).adm = s.adm := (rfl)
@[simp] theorem State.setInst_dict (s : State) (n : Nat) (x : Inst) : (s.setInst n x).dict = s.dict := (rfl)
@[simp] theorem State.setInst_store (s : State) (n : Nat) (x : Inst) : (s.setInst n x).store = s.store := (rfl)
@[simp] theorem State.setInst_prot (s : State) (n : Nat) (x : Inst) : (s.setInst n x).prot = s.prot := (rfl)
@[simp] theorem State.setInst_udpPort (s : State) (n : Nat) (x : Inst) : (s.setInst n x).udpPort = s.udpPort := (rfl)
@[simp] theorem State.setInst_udpPorts (s : State) (n : Nat) (x : Inst) : (s.setInst n x).udpPorts = s.udpPorts := (rfl)
@[simp] theorem State.setInst_pending (s : State) (n : Nat) (x : Inst) : (s.setInst n x).pending = s.pending := (rfl)

/-! ### setSurf -/

@[simp] theorem State.setSurf_surfs (s : State) (n : Nat) (x : Surface) : (s.setSurf n x).surfs = Tab.set {} s.surfs n x := (rfl)
@[simp] theorem State.setSurf_time (s : State) (n : Nat) (x : Surface) : (s.setSurf n x).time = s.time := (rfl)
@[simp] theorem State.setSurf_mode (s : State) (n : Nat) (x : Surface) : (s.setSurf n x).mode = s.mode := (rfl)
@[simp] theorem State.setSurf_aon (s : State) (n : Nat) (x : Surface) : (s.setSurf n x).aon = s.aon := (rfl)
@[simp] theorem State.setSurf_regs (s : State) (n : Nat) (x : Surface) : (s.setSurf n x).regs = s.regs := (rfl)
@[simp] theorem State.setSurf_latches (s : State) (n : Nat) (x : Surface) : (s.setSurf n x).latches = s.latches := (rfl)
@[simp] theorem State.setSurf_readData (s : State) (n : Nat) (x : Surface) : (s.setSurf n x).readData = s.readData := (rfl)
@[simp] theorem State.setSurf_dram (s : State) (n : Nat) (x : Surface) : (s.setSurf n x).dram = s.dram := (rfl)
@[simp] theorem State.setSurf_events (s : State) (n : Nat) (x : Surface) : (s.setSurf n x).events = s.events := (rfl)
@[simp] theorem State.setSurf_eventSeq (s : State) (n : Nat) (x : Surface) : (s.setSurf n x).eventSeq = s.eventSeq := (rfl)
@[simp] theorem State.setSurf_sent (s : State) (n : Nat) (x : Surface) : (s.setSurf n x).sent = s.sent := (rfl)
@[simp] theorem State.setSurf_chans (s : State) (n : Nat) (x : Surface) : (s.setSurf n x).chans = s.chans := (rfl)
@[simp] theorem State.setSurf_ctxs (s : State) (n : Nat) (x : Surface) : (s.setSurf n x).ctxs = s.ctxs := (rfl)
@[simp] theorem State.setSurf_salvos (s : State) (n : Nat) (x : Surface) : (s.setSurf n x).salvos = s.salvos := (rfl)
@[simp] theorem State.setSurf_bonds (s : State) (n : Nat) (x : Surface) : (s.setSurf n x).bonds = s.bonds := (rfl)
@[simp] theorem State.setSurf_lanes (s : State) (n : Nat) (x : Surface) : (s.setSurf n x).lanes = s.lanes := (rfl)
@[simp] theorem State.setSurf_cruiseSeq (s : State) (n : Nat) (x : Surface) : (s.setSurf n x).cruiseSeq = s.cruiseSeq := (rfl)
@[simp] theorem State.setSurf_cruiseLast (s : State) (n : Nat) (x : Surface) : (s.setSurf n x).cruiseLast = s.cruiseLast := (rfl)
@[simp] theorem State.setSurf_cores (s : State) (n : Nat) (x : Surface) : (s.setSurf n x).cores = s.cores := (rfl)
@[simp] theorem State.setSurf_slots (s : State) (n : Nat) (x : Surface) : (s.setSurf n x).slots = s.slots := (rfl)
@[simp] theorem State.setSurf_packing (s : State) (n : Nat) (x : Surface) : (s.setSurf n x).packing = s.packing := (rfl)
@[simp] theorem State.setSurf_progs (s : State) (n : Nat) (x : Surface) : (s.setSurf n x).progs = s.progs := (rfl)
@[simp] theorem State.setSurf_heads (s : State) (n : Nat) (x : Surface) : (s.setSurf n x).heads = s.heads := (rfl)
@[simp] theorem State.setSurf_sheets (s : State) (n : Nat) (x : Surface) : (s.setSurf n x).sheets = s.sheets := (rfl)
@[simp] theorem State.setSurf_engines (s : State) (n : Nat) (x : Surface) : (s.setSurf n x).engines = s.engines := (rfl)
@[simp] theorem State.setSurf_win (s : State) (n : Nat) (x : Surface) : (s.setSurf n x).win = s.win := (rfl)
@[simp] theorem State.setSurf_safe (s : State) (n : Nat) (x : Surface) : (s.setSurf n x).safe = s.safe := (rfl)
@[simp] theorem State.setSurf_insts (s : State) (n : Nat) (x : Surface) : (s.setSurf n x).insts = s.insts := (rfl)
@[simp] theorem State.setSurf_dma (s : State) (n : Nat) (x : Surface) : (s.setSurf n x).dma = s.dma := (rfl)
@[simp] theorem State.setSurf_atc (s : State) (n : Nat) (x : Surface) : (s.setSurf n x).atc = s.atc := (rfl)
@[simp] theorem State.setSurf_console (s : State) (n : Nat) (x : Surface) : (s.setSurf n x).console = s.console := (rfl)
@[simp] theorem State.setSurf_recs (s : State) (n : Nat) (x : Surface) : (s.setSurf n x).recs = s.recs := (rfl)
@[simp] theorem State.setSurf_recCores (s : State) (n : Nat) (x : Surface) : (s.setSurf n x).recCores = s.recCores := (rfl)
@[simp] theorem State.setSurf_pair (s : State) (n : Nat) (x : Surface) : (s.setSurf n x).pair = s.pair := (rfl)
@[simp] theorem State.setSurf_board (s : State) (n : Nat) (x : Surface) : (s.setSurf n x).board = s.board := (rfl)
@[simp] theorem State.setSurf_prov (s : State) (n : Nat) (x : Surface) : (s.setSurf n x).prov = s.prov := (rfl)
@[simp] theorem State.setSurf_glb (s : State) (n : Nat) (x : Surface) : (s.setSurf n x).glb = s.glb := (rfl)
@[simp] theorem State.setSurf_adm (s : State) (n : Nat) (x : Surface) : (s.setSurf n x).adm = s.adm := (rfl)
@[simp] theorem State.setSurf_dict (s : State) (n : Nat) (x : Surface) : (s.setSurf n x).dict = s.dict := (rfl)
@[simp] theorem State.setSurf_store (s : State) (n : Nat) (x : Surface) : (s.setSurf n x).store = s.store := (rfl)
@[simp] theorem State.setSurf_prot (s : State) (n : Nat) (x : Surface) : (s.setSurf n x).prot = s.prot := (rfl)
@[simp] theorem State.setSurf_udpPort (s : State) (n : Nat) (x : Surface) : (s.setSurf n x).udpPort = s.udpPort := (rfl)
@[simp] theorem State.setSurf_udpPorts (s : State) (n : Nat) (x : Surface) : (s.setSurf n x).udpPorts = s.udpPorts := (rfl)
@[simp] theorem State.setSurf_pending (s : State) (n : Nat) (x : Surface) : (s.setSurf n x).pending = s.pending := (rfl)

/-! ### setTime -/

@[simp] theorem State.setTime_time (s : State) (u : TimeUnit) : (s.setTime u).time = u := (rfl)
@[simp] theorem State.setTime_mode (s : State) (u : TimeUnit) : (s.setTime u).mode = s.mode := (rfl)
@[simp] theorem State.setTime_aon (s : State) (u : TimeUnit) : (s.setTime u).aon = s.aon := (rfl)
@[simp] theorem State.setTime_regs (s : State) (u : TimeUnit) : (s.setTime u).regs = s.regs := (rfl)
@[simp] theorem State.setTime_latches (s : State) (u : TimeUnit) : (s.setTime u).latches = s.latches := (rfl)
@[simp] theorem State.setTime_readData (s : State) (u : TimeUnit) : (s.setTime u).readData = s.readData := (rfl)
@[simp] theorem State.setTime_dram (s : State) (u : TimeUnit) : (s.setTime u).dram = s.dram := (rfl)
@[simp] theorem State.setTime_events (s : State) (u : TimeUnit) : (s.setTime u).events = s.events := (rfl)
@[simp] theorem State.setTime_eventSeq (s : State) (u : TimeUnit) : (s.setTime u).eventSeq = s.eventSeq := (rfl)
@[simp] theorem State.setTime_sent (s : State) (u : TimeUnit) : (s.setTime u).sent = s.sent := (rfl)
@[simp] theorem State.setTime_chans (s : State) (u : TimeUnit) : (s.setTime u).chans = s.chans := (rfl)
@[simp] theorem State.setTime_ctxs (s : State) (u : TimeUnit) : (s.setTime u).ctxs = s.ctxs := (rfl)
@[simp] theorem State.setTime_salvos (s : State) (u : TimeUnit) : (s.setTime u).salvos = s.salvos := (rfl)
@[simp] theorem State.setTime_bonds (s : State) (u : TimeUnit) : (s.setTime u).bonds = s.bonds := (rfl)
@[simp] theorem State.setTime_lanes (s : State) (u : TimeUnit) : (s.setTime u).lanes = s.lanes := (rfl)
@[simp] theorem State.setTime_cruiseSeq (s : State) (u : TimeUnit) : (s.setTime u).cruiseSeq = s.cruiseSeq := (rfl)
@[simp] theorem State.setTime_cruiseLast (s : State) (u : TimeUnit) : (s.setTime u).cruiseLast = s.cruiseLast := (rfl)
@[simp] theorem State.setTime_cores (s : State) (u : TimeUnit) : (s.setTime u).cores = s.cores := (rfl)
@[simp] theorem State.setTime_slots (s : State) (u : TimeUnit) : (s.setTime u).slots = s.slots := (rfl)
@[simp] theorem State.setTime_packing (s : State) (u : TimeUnit) : (s.setTime u).packing = s.packing := (rfl)
@[simp] theorem State.setTime_progs (s : State) (u : TimeUnit) : (s.setTime u).progs = s.progs := (rfl)
@[simp] theorem State.setTime_heads (s : State) (u : TimeUnit) : (s.setTime u).heads = s.heads := (rfl)
@[simp] theorem State.setTime_sheets (s : State) (u : TimeUnit) : (s.setTime u).sheets = s.sheets := (rfl)
@[simp] theorem State.setTime_engines (s : State) (u : TimeUnit) : (s.setTime u).engines = s.engines := (rfl)
@[simp] theorem State.setTime_win (s : State) (u : TimeUnit) : (s.setTime u).win = s.win := (rfl)
@[simp] theorem State.setTime_safe (s : State) (u : TimeUnit) : (s.setTime u).safe = s.safe := (rfl)
@[simp] theorem State.setTime_insts (s : State) (u : TimeUnit) : (s.setTime u).insts = s.insts := (rfl)
@[simp] theorem State.setTime_surfs (s : State) (u : TimeUnit) : (s.setTime u).surfs = s.surfs := (rfl)
@[simp] theorem State.setTime_dma (s : State) (u : TimeUnit) : (s.setTime u).dma = s.dma := (rfl)
@[simp] theorem State.setTime_atc (s : State) (u : TimeUnit) : (s.setTime u).atc = s.atc := (rfl)
@[simp] theorem State.setTime_console (s : State) (u : TimeUnit) : (s.setTime u).console = s.console := (rfl)
@[simp] theorem State.setTime_recs (s : State) (u : TimeUnit) : (s.setTime u).recs = s.recs := (rfl)
@[simp] theorem State.setTime_recCores (s : State) (u : TimeUnit) : (s.setTime u).recCores = s.recCores := (rfl)
@[simp] theorem State.setTime_pair (s : State) (u : TimeUnit) : (s.setTime u).pair = s.pair := (rfl)
@[simp] theorem State.setTime_board (s : State) (u : TimeUnit) : (s.setTime u).board = s.board := (rfl)
@[simp] theorem State.setTime_prov (s : State) (u : TimeUnit) : (s.setTime u).prov = s.prov := (rfl)
@[simp] theorem State.setTime_glb (s : State) (u : TimeUnit) : (s.setTime u).glb = s.glb := (rfl)
@[simp] theorem State.setTime_adm (s : State) (u : TimeUnit) : (s.setTime u).adm = s.adm := (rfl)
@[simp] theorem State.setTime_dict (s : State) (u : TimeUnit) : (s.setTime u).dict = s.dict := (rfl)
@[simp] theorem State.setTime_store (s : State) (u : TimeUnit) : (s.setTime u).store = s.store := (rfl)
@[simp] theorem State.setTime_prot (s : State) (u : TimeUnit) : (s.setTime u).prot = s.prot := (rfl)
@[simp] theorem State.setTime_udpPort (s : State) (u : TimeUnit) : (s.setTime u).udpPort = s.udpPort := (rfl)
@[simp] theorem State.setTime_udpPorts (s : State) (u : TimeUnit) : (s.setTime u).udpPorts = s.udpPorts := (rfl)
@[simp] theorem State.setTime_pending (s : State) (u : TimeUnit) : (s.setTime u).pending = s.pending := (rfl)

/-! ### setMode -/

@[simp] theorem State.setMode_mode (s : State) (m : ModeUnit) : (s.setMode m).mode = m := (rfl)
@[simp] theorem State.setMode_time (s : State) (m : ModeUnit) : (s.setMode m).time = s.time := (rfl)
@[simp] theorem State.setMode_aon (s : State) (m : ModeUnit) : (s.setMode m).aon = s.aon := (rfl)
@[simp] theorem State.setMode_regs (s : State) (m : ModeUnit) : (s.setMode m).regs = s.regs := (rfl)
@[simp] theorem State.setMode_latches (s : State) (m : ModeUnit) : (s.setMode m).latches = s.latches := (rfl)
@[simp] theorem State.setMode_readData (s : State) (m : ModeUnit) : (s.setMode m).readData = s.readData := (rfl)
@[simp] theorem State.setMode_dram (s : State) (m : ModeUnit) : (s.setMode m).dram = s.dram := (rfl)
@[simp] theorem State.setMode_events (s : State) (m : ModeUnit) : (s.setMode m).events = s.events := (rfl)
@[simp] theorem State.setMode_eventSeq (s : State) (m : ModeUnit) : (s.setMode m).eventSeq = s.eventSeq := (rfl)
@[simp] theorem State.setMode_sent (s : State) (m : ModeUnit) : (s.setMode m).sent = s.sent := (rfl)
@[simp] theorem State.setMode_chans (s : State) (m : ModeUnit) : (s.setMode m).chans = s.chans := (rfl)
@[simp] theorem State.setMode_ctxs (s : State) (m : ModeUnit) : (s.setMode m).ctxs = s.ctxs := (rfl)
@[simp] theorem State.setMode_salvos (s : State) (m : ModeUnit) : (s.setMode m).salvos = s.salvos := (rfl)
@[simp] theorem State.setMode_bonds (s : State) (m : ModeUnit) : (s.setMode m).bonds = s.bonds := (rfl)
@[simp] theorem State.setMode_lanes (s : State) (m : ModeUnit) : (s.setMode m).lanes = s.lanes := (rfl)
@[simp] theorem State.setMode_cruiseSeq (s : State) (m : ModeUnit) : (s.setMode m).cruiseSeq = s.cruiseSeq := (rfl)
@[simp] theorem State.setMode_cruiseLast (s : State) (m : ModeUnit) : (s.setMode m).cruiseLast = s.cruiseLast := (rfl)
@[simp] theorem State.setMode_cores (s : State) (m : ModeUnit) : (s.setMode m).cores = s.cores := (rfl)
@[simp] theorem State.setMode_slots (s : State) (m : ModeUnit) : (s.setMode m).slots = s.slots := (rfl)
@[simp] theorem State.setMode_packing (s : State) (m : ModeUnit) : (s.setMode m).packing = s.packing := (rfl)
@[simp] theorem State.setMode_progs (s : State) (m : ModeUnit) : (s.setMode m).progs = s.progs := (rfl)
@[simp] theorem State.setMode_heads (s : State) (m : ModeUnit) : (s.setMode m).heads = s.heads := (rfl)
@[simp] theorem State.setMode_sheets (s : State) (m : ModeUnit) : (s.setMode m).sheets = s.sheets := (rfl)
@[simp] theorem State.setMode_engines (s : State) (m : ModeUnit) : (s.setMode m).engines = s.engines := (rfl)
@[simp] theorem State.setMode_win (s : State) (m : ModeUnit) : (s.setMode m).win = s.win := (rfl)
@[simp] theorem State.setMode_safe (s : State) (m : ModeUnit) : (s.setMode m).safe = s.safe := (rfl)
@[simp] theorem State.setMode_insts (s : State) (m : ModeUnit) : (s.setMode m).insts = s.insts := (rfl)
@[simp] theorem State.setMode_surfs (s : State) (m : ModeUnit) : (s.setMode m).surfs = s.surfs := (rfl)
@[simp] theorem State.setMode_dma (s : State) (m : ModeUnit) : (s.setMode m).dma = s.dma := (rfl)
@[simp] theorem State.setMode_atc (s : State) (m : ModeUnit) : (s.setMode m).atc = s.atc := (rfl)
@[simp] theorem State.setMode_console (s : State) (m : ModeUnit) : (s.setMode m).console = s.console := (rfl)
@[simp] theorem State.setMode_recs (s : State) (m : ModeUnit) : (s.setMode m).recs = s.recs := (rfl)
@[simp] theorem State.setMode_recCores (s : State) (m : ModeUnit) : (s.setMode m).recCores = s.recCores := (rfl)
@[simp] theorem State.setMode_pair (s : State) (m : ModeUnit) : (s.setMode m).pair = s.pair := (rfl)
@[simp] theorem State.setMode_board (s : State) (m : ModeUnit) : (s.setMode m).board = s.board := (rfl)
@[simp] theorem State.setMode_prov (s : State) (m : ModeUnit) : (s.setMode m).prov = s.prov := (rfl)
@[simp] theorem State.setMode_glb (s : State) (m : ModeUnit) : (s.setMode m).glb = s.glb := (rfl)
@[simp] theorem State.setMode_adm (s : State) (m : ModeUnit) : (s.setMode m).adm = s.adm := (rfl)
@[simp] theorem State.setMode_dict (s : State) (m : ModeUnit) : (s.setMode m).dict = s.dict := (rfl)
@[simp] theorem State.setMode_store (s : State) (m : ModeUnit) : (s.setMode m).store = s.store := (rfl)
@[simp] theorem State.setMode_prot (s : State) (m : ModeUnit) : (s.setMode m).prot = s.prot := (rfl)
@[simp] theorem State.setMode_udpPort (s : State) (m : ModeUnit) : (s.setMode m).udpPort = s.udpPort := (rfl)
@[simp] theorem State.setMode_udpPorts (s : State) (m : ModeUnit) : (s.setMode m).udpPorts = s.udpPorts := (rfl)
@[simp] theorem State.setMode_pending (s : State) (m : ModeUnit) : (s.setMode m).pending = s.pending := (rfl)

/-! ### send -/

@[simp] theorem State.send_sent (s : State) (o : Out) : (s.send o).sent = s.sent ++ [o] := (rfl)
@[simp] theorem State.send_time (s : State) (o : Out) : (s.send o).time = s.time := (rfl)
@[simp] theorem State.send_mode (s : State) (o : Out) : (s.send o).mode = s.mode := (rfl)
@[simp] theorem State.send_aon (s : State) (o : Out) : (s.send o).aon = s.aon := (rfl)
@[simp] theorem State.send_regs (s : State) (o : Out) : (s.send o).regs = s.regs := (rfl)
@[simp] theorem State.send_latches (s : State) (o : Out) : (s.send o).latches = s.latches := (rfl)
@[simp] theorem State.send_readData (s : State) (o : Out) : (s.send o).readData = s.readData := (rfl)
@[simp] theorem State.send_dram (s : State) (o : Out) : (s.send o).dram = s.dram := (rfl)
@[simp] theorem State.send_events (s : State) (o : Out) : (s.send o).events = s.events := (rfl)
@[simp] theorem State.send_eventSeq (s : State) (o : Out) : (s.send o).eventSeq = s.eventSeq := (rfl)
@[simp] theorem State.send_chans (s : State) (o : Out) : (s.send o).chans = s.chans := (rfl)
@[simp] theorem State.send_ctxs (s : State) (o : Out) : (s.send o).ctxs = s.ctxs := (rfl)
@[simp] theorem State.send_salvos (s : State) (o : Out) : (s.send o).salvos = s.salvos := (rfl)
@[simp] theorem State.send_bonds (s : State) (o : Out) : (s.send o).bonds = s.bonds := (rfl)
@[simp] theorem State.send_lanes (s : State) (o : Out) : (s.send o).lanes = s.lanes := (rfl)
@[simp] theorem State.send_cruiseSeq (s : State) (o : Out) : (s.send o).cruiseSeq = s.cruiseSeq := (rfl)
@[simp] theorem State.send_cruiseLast (s : State) (o : Out) : (s.send o).cruiseLast = s.cruiseLast := (rfl)
@[simp] theorem State.send_cores (s : State) (o : Out) : (s.send o).cores = s.cores := (rfl)
@[simp] theorem State.send_slots (s : State) (o : Out) : (s.send o).slots = s.slots := (rfl)
@[simp] theorem State.send_packing (s : State) (o : Out) : (s.send o).packing = s.packing := (rfl)
@[simp] theorem State.send_progs (s : State) (o : Out) : (s.send o).progs = s.progs := (rfl)
@[simp] theorem State.send_heads (s : State) (o : Out) : (s.send o).heads = s.heads := (rfl)
@[simp] theorem State.send_sheets (s : State) (o : Out) : (s.send o).sheets = s.sheets := (rfl)
@[simp] theorem State.send_engines (s : State) (o : Out) : (s.send o).engines = s.engines := (rfl)
@[simp] theorem State.send_win (s : State) (o : Out) : (s.send o).win = s.win := (rfl)
@[simp] theorem State.send_safe (s : State) (o : Out) : (s.send o).safe = s.safe := (rfl)
@[simp] theorem State.send_insts (s : State) (o : Out) : (s.send o).insts = s.insts := (rfl)
@[simp] theorem State.send_surfs (s : State) (o : Out) : (s.send o).surfs = s.surfs := (rfl)
@[simp] theorem State.send_dma (s : State) (o : Out) : (s.send o).dma = s.dma := (rfl)
@[simp] theorem State.send_atc (s : State) (o : Out) : (s.send o).atc = s.atc := (rfl)
@[simp] theorem State.send_console (s : State) (o : Out) : (s.send o).console = s.console := (rfl)
@[simp] theorem State.send_recs (s : State) (o : Out) : (s.send o).recs = s.recs := (rfl)
@[simp] theorem State.send_recCores (s : State) (o : Out) : (s.send o).recCores = s.recCores := (rfl)
@[simp] theorem State.send_pair (s : State) (o : Out) : (s.send o).pair = s.pair := (rfl)
@[simp] theorem State.send_board (s : State) (o : Out) : (s.send o).board = s.board := (rfl)
@[simp] theorem State.send_prov (s : State) (o : Out) : (s.send o).prov = s.prov := (rfl)
@[simp] theorem State.send_glb (s : State) (o : Out) : (s.send o).glb = s.glb := (rfl)
@[simp] theorem State.send_adm (s : State) (o : Out) : (s.send o).adm = s.adm := (rfl)
@[simp] theorem State.send_dict (s : State) (o : Out) : (s.send o).dict = s.dict := (rfl)
@[simp] theorem State.send_store (s : State) (o : Out) : (s.send o).store = s.store := (rfl)
@[simp] theorem State.send_prot (s : State) (o : Out) : (s.send o).prot = s.prot := (rfl)
@[simp] theorem State.send_udpPort (s : State) (o : Out) : (s.send o).udpPort = s.udpPort := (rfl)
@[simp] theorem State.send_udpPorts (s : State) (o : Out) : (s.send o).udpPorts = s.udpPorts := (rfl)
@[simp] theorem State.send_pending (s : State) (o : Out) : (s.send o).pending = s.pending := (rfl)

/-! ### chCount -/

@[simp] theorem State.chCount_time (s : State) (c i n : Nat) : (s.chCount c i n).time = s.time := by
  unfold State.chCount; dsimp only; split <;> rfl
@[simp] theorem State.chCount_mode (s : State) (c i n : Nat) : (s.chCount c i n).mode = s.mode := by
  unfold State.chCount; dsimp only; split <;> rfl
@[simp] theorem State.chCount_aon (s : State) (c i n : Nat) : (s.chCount c i n).aon = s.aon := by
  unfold State.chCount; dsimp only; split <;> rfl
@[simp] theorem State.chCount_latches (s : State) (c i n : Nat) : (s.chCount c i n).latches = s.latches := by
  unfold State.chCount; dsimp only; split <;> rfl
@[simp] theorem State.chCount_readData (s : State) (c i n : Nat) : (s.chCount c i n).readData = s.readData := by
  unfold State.chCount; dsimp only; split <;> rfl
@[simp] theorem State.chCount_dram (s : State) (c i n : Nat) : (s.chCount c i n).dram = s.dram := by
  unfold State.chCount; dsimp only; split <;> rfl
@[simp] theorem State.chCount_events (s : State) (c i n : Nat) : (s.chCount c i n).events = s.events := by
  unfold State.chCount; dsimp only; split <;> rfl
@[simp] theorem State.chCount_eventSeq (s : State) (c i n : Nat) : (s.chCount c i n).eventSeq = s.eventSeq := by
  unfold State.chCount; dsimp only; split <;> rfl
@[simp] theorem State.chCount_sent (s : State) (c i n : Nat) : (s.chCount c i n).sent = s.sent := by
  unfold State.chCount; dsimp only; split <;> rfl
@[simp] theorem State.chCount_chans (s : State) (c i n : Nat) : (s.chCount c i n).chans = s.chans := by
  unfold State.chCount; dsimp only; split <;> rfl
@[simp] theorem State.chCount_ctxs (s : State) (c i n : Nat) : (s.chCount c i n).ctxs = s.ctxs := by
  unfold State.chCount; dsimp only; split <;> rfl
@[simp] theorem State.chCount_salvos (s : State) (c i n : Nat) : (s.chCount c i n).salvos = s.salvos := by
  unfold State.chCount; dsimp only; split <;> rfl
@[simp] theorem State.chCount_bonds (s : State) (c i n : Nat) : (s.chCount c i n).bonds = s.bonds := by
  unfold State.chCount; dsimp only; split <;> rfl
@[simp] theorem State.chCount_lanes (s : State) (c i n : Nat) : (s.chCount c i n).lanes = s.lanes := by
  unfold State.chCount; dsimp only; split <;> rfl
@[simp] theorem State.chCount_cruiseSeq (s : State) (c i n : Nat) : (s.chCount c i n).cruiseSeq = s.cruiseSeq := by
  unfold State.chCount; dsimp only; split <;> rfl
@[simp] theorem State.chCount_cruiseLast (s : State) (c i n : Nat) : (s.chCount c i n).cruiseLast = s.cruiseLast := by
  unfold State.chCount; dsimp only; split <;> rfl
@[simp] theorem State.chCount_cores (s : State) (c i n : Nat) : (s.chCount c i n).cores = s.cores := by
  unfold State.chCount; dsimp only; split <;> rfl
@[simp] theorem State.chCount_slots (s : State) (c i n : Nat) : (s.chCount c i n).slots = s.slots := by
  unfold State.chCount; dsimp only; split <;> rfl
@[simp] theorem State.chCount_packing (s : State) (c i n : Nat) : (s.chCount c i n).packing = s.packing := by
  unfold State.chCount; dsimp only; split <;> rfl
@[simp] theorem State.chCount_progs (s : State) (c i n : Nat) : (s.chCount c i n).progs = s.progs := by
  unfold State.chCount; dsimp only; split <;> rfl
@[simp] theorem State.chCount_heads (s : State) (c i n : Nat) : (s.chCount c i n).heads = s.heads := by
  unfold State.chCount; dsimp only; split <;> rfl
@[simp] theorem State.chCount_sheets (s : State) (c i n : Nat) : (s.chCount c i n).sheets = s.sheets := by
  unfold State.chCount; dsimp only; split <;> rfl
@[simp] theorem State.chCount_engines (s : State) (c i n : Nat) : (s.chCount c i n).engines = s.engines := by
  unfold State.chCount; dsimp only; split <;> rfl
@[simp] theorem State.chCount_win (s : State) (c i n : Nat) : (s.chCount c i n).win = s.win := by
  unfold State.chCount; dsimp only; split <;> rfl
@[simp] theorem State.chCount_safe (s : State) (c i n : Nat) : (s.chCount c i n).safe = s.safe := by
  unfold State.chCount; dsimp only; split <;> rfl
@[simp] theorem State.chCount_insts (s : State) (c i n : Nat) : (s.chCount c i n).insts = s.insts := by
  unfold State.chCount; dsimp only; split <;> rfl
@[simp] theorem State.chCount_surfs (s : State) (c i n : Nat) : (s.chCount c i n).surfs = s.surfs := by
  unfold State.chCount; dsimp only; split <;> rfl
@[simp] theorem State.chCount_dma (s : State) (c i n : Nat) : (s.chCount c i n).dma = s.dma := by
  unfold State.chCount; dsimp only; split <;> rfl
@[simp] theorem State.chCount_atc (s : State) (c i n : Nat) : (s.chCount c i n).atc = s.atc := by
  unfold State.chCount; dsimp only; split <;> rfl
@[simp] theorem State.chCount_console (s : State) (c i n : Nat) : (s.chCount c i n).console = s.console := by
  unfold State.chCount; dsimp only; split <;> rfl
@[simp] theorem State.chCount_recs (s : State) (c i n : Nat) : (s.chCount c i n).recs = s.recs := by
  unfold State.chCount; dsimp only; split <;> rfl
@[simp] theorem State.chCount_recCores (s : State) (c i n : Nat) : (s.chCount c i n).recCores = s.recCores := by
  unfold State.chCount; dsimp only; split <;> rfl
@[simp] theorem State.chCount_pair (s : State) (c i n : Nat) : (s.chCount c i n).pair = s.pair := by
  unfold State.chCount; dsimp only; split <;> rfl
@[simp] theorem State.chCount_board (s : State) (c i n : Nat) : (s.chCount c i n).board = s.board := by
  unfold State.chCount; dsimp only; split <;> rfl
@[simp] theorem State.chCount_prov (s : State) (c i n : Nat) : (s.chCount c i n).prov = s.prov := by
  unfold State.chCount; dsimp only; split <;> rfl
@[simp] theorem State.chCount_glb (s : State) (c i n : Nat) : (s.chCount c i n).glb = s.glb := by
  unfold State.chCount; dsimp only; split <;> rfl
@[simp] theorem State.chCount_adm (s : State) (c i n : Nat) : (s.chCount c i n).adm = s.adm := by
  unfold State.chCount; dsimp only; split <;> rfl
@[simp] theorem State.chCount_dict (s : State) (c i n : Nat) : (s.chCount c i n).dict = s.dict := by
  unfold State.chCount; dsimp only; split <;> rfl
@[simp] theorem State.chCount_store (s : State) (c i n : Nat) : (s.chCount c i n).store = s.store := by
  unfold State.chCount; dsimp only; split <;> rfl
@[simp] theorem State.chCount_prot (s : State) (c i n : Nat) : (s.chCount c i n).prot = s.prot := by
  unfold State.chCount; dsimp only; split <;> rfl
@[simp] theorem State.chCount_udpPort (s : State) (c i n : Nat) : (s.chCount c i n).udpPort = s.udpPort := by
  unfold State.chCount; dsimp only; split <;> rfl
@[simp] theorem State.chCount_udpPorts (s : State) (c i n : Nat) : (s.chCount c i n).udpPorts = s.udpPorts := by
  unfold State.chCount; dsimp only; split <;> rfl
@[simp] theorem State.chCount_pending (s : State) (c i n : Nat) : (s.chCount c i n).pending = s.pending := by
  unfold State.chCount; dsimp only; split <;> rfl

/-! ### headCount -/

@[simp] theorem State.headCount_time (s : State) (h i n : Nat) : (s.headCount h i n).time = s.time := by
  unfold State.headCount; dsimp only; split <;> rfl
@[simp] theorem State.headCount_mode (s : State) (h i n : Nat) : (s.headCount h i n).mode = s.mode := by
  unfold State.headCount; dsimp only; split <;> rfl
@[simp] theorem State.headCount_aon (s : State) (h i n : Nat) : (s.headCount h i n).aon = s.aon := by
  unfold State.headCount; dsimp only; split <;> rfl
@[simp] theorem State.headCount_latches (s : State) (h i n : Nat) : (s.headCount h i n).latches = s.latches := by
  unfold State.headCount; dsimp only; split <;> rfl
@[simp] theorem State.headCount_readData (s : State) (h i n : Nat) : (s.headCount h i n).readData = s.readData := by
  unfold State.headCount; dsimp only; split <;> rfl
@[simp] theorem State.headCount_dram (s : State) (h i n : Nat) : (s.headCount h i n).dram = s.dram := by
  unfold State.headCount; dsimp only; split <;> rfl
@[simp] theorem State.headCount_events (s : State) (h i n : Nat) : (s.headCount h i n).events = s.events := by
  unfold State.headCount; dsimp only; split <;> rfl
@[simp] theorem State.headCount_eventSeq (s : State) (h i n : Nat) : (s.headCount h i n).eventSeq = s.eventSeq := by
  unfold State.headCount; dsimp only; split <;> rfl
@[simp] theorem State.headCount_sent (s : State) (h i n : Nat) : (s.headCount h i n).sent = s.sent := by
  unfold State.headCount; dsimp only; split <;> rfl
@[simp] theorem State.headCount_chans (s : State) (h i n : Nat) : (s.headCount h i n).chans = s.chans := by
  unfold State.headCount; dsimp only; split <;> rfl
@[simp] theorem State.headCount_ctxs (s : State) (h i n : Nat) : (s.headCount h i n).ctxs = s.ctxs := by
  unfold State.headCount; dsimp only; split <;> rfl
@[simp] theorem State.headCount_salvos (s : State) (h i n : Nat) : (s.headCount h i n).salvos = s.salvos := by
  unfold State.headCount; dsimp only; split <;> rfl
@[simp] theorem State.headCount_bonds (s : State) (h i n : Nat) : (s.headCount h i n).bonds = s.bonds := by
  unfold State.headCount; dsimp only; split <;> rfl
@[simp] theorem State.headCount_lanes (s : State) (h i n : Nat) : (s.headCount h i n).lanes = s.lanes := by
  unfold State.headCount; dsimp only; split <;> rfl
@[simp] theorem State.headCount_cruiseSeq (s : State) (h i n : Nat) : (s.headCount h i n).cruiseSeq = s.cruiseSeq := by
  unfold State.headCount; dsimp only; split <;> rfl
@[simp] theorem State.headCount_cruiseLast (s : State) (h i n : Nat) : (s.headCount h i n).cruiseLast = s.cruiseLast := by
  unfold State.headCount; dsimp only; split <;> rfl
@[simp] theorem State.headCount_cores (s : State) (h i n : Nat) : (s.headCount h i n).cores = s.cores := by
  unfold State.headCount; dsimp only; split <;> rfl
@[simp] theorem State.headCount_slots (s : State) (h i n : Nat) : (s.headCount h i n).slots = s.slots := by
  unfold State.headCount; dsimp only; split <;> rfl
@[simp] theorem State.headCount_packing (s : State) (h i n : Nat) : (s.headCount h i n).packing = s.packing := by
  unfold State.headCount; dsimp only; split <;> rfl
@[simp] theorem State.headCount_progs (s : State) (h i n : Nat) : (s.headCount h i n).progs = s.progs := by
  unfold State.headCount; dsimp only; split <;> rfl
@[simp] theorem State.headCount_heads (s : State) (h i n : Nat) : (s.headCount h i n).heads = s.heads := by
  unfold State.headCount; dsimp only; split <;> rfl
@[simp] theorem State.headCount_sheets (s : State) (h i n : Nat) : (s.headCount h i n).sheets = s.sheets := by
  unfold State.headCount; dsimp only; split <;> rfl
@[simp] theorem State.headCount_engines (s : State) (h i n : Nat) : (s.headCount h i n).engines = s.engines := by
  unfold State.headCount; dsimp only; split <;> rfl
@[simp] theorem State.headCount_win (s : State) (h i n : Nat) : (s.headCount h i n).win = s.win := by
  unfold State.headCount; dsimp only; split <;> rfl
@[simp] theorem State.headCount_safe (s : State) (h i n : Nat) : (s.headCount h i n).safe = s.safe := by
  unfold State.headCount; dsimp only; split <;> rfl
@[simp] theorem State.headCount_insts (s : State) (h i n : Nat) : (s.headCount h i n).insts = s.insts := by
  unfold State.headCount; dsimp only; split <;> rfl
@[simp] theorem State.headCount_surfs (s : State) (h i n : Nat) : (s.headCount h i n).surfs = s.surfs := by
  unfold State.headCount; dsimp only; split <;> rfl
@[simp] theorem State.headCount_dma (s : State) (h i n : Nat) : (s.headCount h i n).dma = s.dma := by
  unfold State.headCount; dsimp only; split <;> rfl
@[simp] theorem State.headCount_atc (s : State) (h i n : Nat) : (s.headCount h i n).atc = s.atc := by
  unfold State.headCount; dsimp only; split <;> rfl
@[simp] theorem State.headCount_console (s : State) (h i n : Nat) : (s.headCount h i n).console = s.console := by
  unfold State.headCount; dsimp only; split <;> rfl
@[simp] theorem State.headCount_recs (s : State) (h i n : Nat) : (s.headCount h i n).recs = s.recs := by
  unfold State.headCount; dsimp only; split <;> rfl
@[simp] theorem State.headCount_recCores (s : State) (h i n : Nat) : (s.headCount h i n).recCores = s.recCores := by
  unfold State.headCount; dsimp only; split <;> rfl
@[simp] theorem State.headCount_pair (s : State) (h i n : Nat) : (s.headCount h i n).pair = s.pair := by
  unfold State.headCount; dsimp only; split <;> rfl
@[simp] theorem State.headCount_board (s : State) (h i n : Nat) : (s.headCount h i n).board = s.board := by
  unfold State.headCount; dsimp only; split <;> rfl
@[simp] theorem State.headCount_prov (s : State) (h i n : Nat) : (s.headCount h i n).prov = s.prov := by
  unfold State.headCount; dsimp only; split <;> rfl
@[simp] theorem State.headCount_glb (s : State) (h i n : Nat) : (s.headCount h i n).glb = s.glb := by
  unfold State.headCount; dsimp only; split <;> rfl
@[simp] theorem State.headCount_adm (s : State) (h i n : Nat) : (s.headCount h i n).adm = s.adm := by
  unfold State.headCount; dsimp only; split <;> rfl
@[simp] theorem State.headCount_dict (s : State) (h i n : Nat) : (s.headCount h i n).dict = s.dict := by
  unfold State.headCount; dsimp only; split <;> rfl
@[simp] theorem State.headCount_store (s : State) (h i n : Nat) : (s.headCount h i n).store = s.store := by
  unfold State.headCount; dsimp only; split <;> rfl
@[simp] theorem State.headCount_prot (s : State) (h i n : Nat) : (s.headCount h i n).prot = s.prot := by
  unfold State.headCount; dsimp only; split <;> rfl
@[simp] theorem State.headCount_udpPort (s : State) (h i n : Nat) : (s.headCount h i n).udpPort = s.udpPort := by
  unfold State.headCount; dsimp only; split <;> rfl
@[simp] theorem State.headCount_udpPorts (s : State) (h i n : Nat) : (s.headCount h i n).udpPorts = s.udpPorts := by
  unfold State.headCount; dsimp only; split <;> rfl
@[simp] theorem State.headCount_pending (s : State) (h i n : Nat) : (s.headCount h i n).pending = s.pending := by
  unfold State.headCount; dsimp only; split <;> rfl

end Sys2Proof.Machine
end

