-- ==== Sys2Proof/Laws/Units.lean ====
section
/-! SUPPORT. Reading a unit or a register after an update: the one written reads as what was written, every other as before. -/

namespace Sys2Proof.Machine

@[simp] theorem State.setReg_ctx (s : State) (o v : Nat) (i : Nat) : (s.setReg o v).ctx i = s.ctx i := (rfl)
@[simp] theorem State.setReg_chan (s : State) (o v : Nat) (i : Nat) : (s.setReg o v).chan i = s.chan i := (rfl)
@[simp] theorem State.setReg_salvo (s : State) (o v : Nat) (i : Nat) : (s.setReg o v).salvo i = s.salvo i := (rfl)
@[simp] theorem State.setReg_lane (s : State) (o v : Nat) (i : Nat) : (s.setReg o v).lane i = s.lane i := (rfl)
@[simp] theorem State.setReg_core (s : State) (o v : Nat) (i : Nat) : (s.setReg o v).core i = s.core i := (rfl)
@[simp] theorem State.setReg_head (s : State) (o v : Nat) (i : Nat) : (s.setReg o v).head i = s.head i := (rfl)
@[simp] theorem State.setReg_sheet (s : State) (o v : Nat) (i : Nat) : (s.setReg o v).sheet i = s.sheet i := (rfl)
@[simp] theorem State.setReg_engine (s : State) (o v : Nat) (i : Nat) : (s.setReg o v).engine i = s.engine i := (rfl)
@[simp] theorem State.setReg_unitSlots (s : State) (o v : Nat) (i : Nat) : (s.setReg o v).unitSlots i = s.unitSlots i := (rfl)
@[simp] theorem State.setReg_inst (s : State) (o v : Nat) (i : Nat) : (s.setReg o v).inst i = s.inst i := (rfl)
@[simp] theorem State.setReg_surf (s : State) (o v : Nat) (i : Nat) : (s.setReg o v).surf i = s.surf i := (rfl)

@[simp] theorem State.count_ctx (s : State) (o v : Nat) (i : Nat) : (s.count o v).ctx i = s.ctx i := (rfl)
@[simp] theorem State.count_chan (s : State) (o v : Nat) (i : Nat) : (s.count o v).chan i = s.chan i := (rfl)
@[simp] theorem State.count_salvo (s : State) (o v : Nat) (i : Nat) : (s.count o v).salvo i = s.salvo i := (rfl)
@[simp] theorem State.count_lane (s : State) (o v : Nat) (i : Nat) : (s.count o v).lane i = s.lane i := (rfl)
@[simp] theorem State.count_core (s : State) (o v : Nat) (i : Nat) : (s.count o v).core i = s.core i := (rfl)
@[simp] theorem State.count_head (s : State) (o v : Nat) (i : Nat) : (s.count o v).head i = s.head i := (rfl)
@[simp] theorem State.count_sheet (s : State) (o v : Nat) (i : Nat) : (s.count o v).sheet i = s.sheet i := (rfl)
@[simp] theorem State.count_engine (s : State) (o v : Nat) (i : Nat) : (s.count o v).engine i = s.engine i := (rfl)
@[simp] theorem State.count_unitSlots (s : State) (o v : Nat) (i : Nat) : (s.count o v).unitSlots i = s.unitSlots i := (rfl)
@[simp] theorem State.count_inst (s : State) (o v : Nat) (i : Nat) : (s.count o v).inst i = s.inst i := (rfl)
@[simp] theorem State.count_surf (s : State) (o v : Nat) (i : Nat) : (s.count o v).surf i = s.surf i := (rfl)

@[simp] theorem State.countWrap_ctx (s : State) (o v : Nat) (i : Nat) : (s.countWrap o v).ctx i = s.ctx i := (rfl)
@[simp] theorem State.countWrap_chan (s : State) (o v : Nat) (i : Nat) : (s.countWrap o v).chan i = s.chan i := (rfl)
@[simp] theorem State.countWrap_salvo (s : State) (o v : Nat) (i : Nat) : (s.countWrap o v).salvo i = s.salvo i := (rfl)
@[simp] theorem State.countWrap_lane (s : State) (o v : Nat) (i : Nat) : (s.countWrap o v).lane i = s.lane i := (rfl)
@[simp] theorem State.countWrap_core (s : State) (o v : Nat) (i : Nat) : (s.countWrap o v).core i = s.core i := (rfl)
@[simp] theorem State.countWrap_head (s : State) (o v : Nat) (i : Nat) : (s.countWrap o v).head i = s.head i := (rfl)
@[simp] theorem State.countWrap_sheet (s : State) (o v : Nat) (i : Nat) : (s.countWrap o v).sheet i = s.sheet i := (rfl)
@[simp] theorem State.countWrap_engine (s : State) (o v : Nat) (i : Nat) : (s.countWrap o v).engine i = s.engine i := (rfl)
@[simp] theorem State.countWrap_unitSlots (s : State) (o v : Nat) (i : Nat) : (s.countWrap o v).unitSlots i = s.unitSlots i := (rfl)
@[simp] theorem State.countWrap_inst (s : State) (o v : Nat) (i : Nat) : (s.countWrap o v).inst i = s.inst i := (rfl)
@[simp] theorem State.countWrap_surf (s : State) (o v : Nat) (i : Nat) : (s.countWrap o v).surf i = s.surf i := (rfl)

@[simp] theorem State.orReg_ctx (s : State) (o v : Nat) (i : Nat) : (s.orReg o v).ctx i = s.ctx i := (rfl)
@[simp] theorem State.orReg_chan (s : State) (o v : Nat) (i : Nat) : (s.orReg o v).chan i = s.chan i := (rfl)
@[simp] theorem State.orReg_salvo (s : State) (o v : Nat) (i : Nat) : (s.orReg o v).salvo i = s.salvo i := (rfl)
@[simp] theorem State.orReg_lane (s : State) (o v : Nat) (i : Nat) : (s.orReg o v).lane i = s.lane i := (rfl)
@[simp] theorem State.orReg_core (s : State) (o v : Nat) (i : Nat) : (s.orReg o v).core i = s.core i := (rfl)
@[simp] theorem State.orReg_head (s : State) (o v : Nat) (i : Nat) : (s.orReg o v).head i = s.head i := (rfl)
@[simp] theorem State.orReg_sheet (s : State) (o v : Nat) (i : Nat) : (s.orReg o v).sheet i = s.sheet i := (rfl)
@[simp] theorem State.orReg_engine (s : State) (o v : Nat) (i : Nat) : (s.orReg o v).engine i = s.engine i := (rfl)
@[simp] theorem State.orReg_unitSlots (s : State) (o v : Nat) (i : Nat) : (s.orReg o v).unitSlots i = s.unitSlots i := (rfl)
@[simp] theorem State.orReg_inst (s : State) (o v : Nat) (i : Nat) : (s.orReg o v).inst i = s.inst i := (rfl)
@[simp] theorem State.orReg_surf (s : State) (o v : Nat) (i : Nat) : (s.orReg o v).surf i = s.surf i := (rfl)

@[simp] theorem State.at_ctx (s : State) (t : Nat) (i : Nat) : (s.at t).ctx i = s.ctx i := (rfl)
@[simp] theorem State.at_chan (s : State) (t : Nat) (i : Nat) : (s.at t).chan i = s.chan i := (rfl)
@[simp] theorem State.at_salvo (s : State) (t : Nat) (i : Nat) : (s.at t).salvo i = s.salvo i := (rfl)
@[simp] theorem State.at_lane (s : State) (t : Nat) (i : Nat) : (s.at t).lane i = s.lane i := (rfl)
@[simp] theorem State.at_core (s : State) (t : Nat) (i : Nat) : (s.at t).core i = s.core i := (rfl)
@[simp] theorem State.at_head (s : State) (t : Nat) (i : Nat) : (s.at t).head i = s.head i := (rfl)
@[simp] theorem State.at_sheet (s : State) (t : Nat) (i : Nat) : (s.at t).sheet i = s.sheet i := (rfl)
@[simp] theorem State.at_engine (s : State) (t : Nat) (i : Nat) : (s.at t).engine i = s.engine i := (rfl)
@[simp] theorem State.at_unitSlots (s : State) (t : Nat) (i : Nat) : (s.at t).unitSlots i = s.unitSlots i := (rfl)
@[simp] theorem State.at_inst (s : State) (t : Nat) (i : Nat) : (s.at t).inst i = s.inst i := (rfl)
@[simp] theorem State.at_surf (s : State) (t : Nat) (i : Nat) : (s.at t).surf i = s.surf i := (rfl)
@[simp] theorem State.at_reg (s : State) (t : Nat) (q : Nat) : (s.at t).reg q = s.reg q := (rfl)

@[simp] theorem State.setCtx_chan (s : State) (n : Nat) (x : Ctx) (i : Nat) : (s.setCtx n x).chan i = s.chan i := (rfl)
@[simp] theorem State.setCtx_salvo (s : State) (n : Nat) (x : Ctx) (i : Nat) : (s.setCtx n x).salvo i = s.salvo i := (rfl)
@[simp] theorem State.setCtx_lane (s : State) (n : Nat) (x : Ctx) (i : Nat) : (s.setCtx n x).lane i = s.lane i := (rfl)
@[simp] theorem State.setCtx_core (s : State) (n : Nat) (x : Ctx) (i : Nat) : (s.setCtx n x).core i = s.core i := (rfl)
@[simp] theorem State.setCtx_head (s : State) (n : Nat) (x : Ctx) (i : Nat) : (s.setCtx n x).head i = s.head i := (rfl)
@[simp] theorem State.setCtx_sheet (s : State) (n : Nat) (x : Ctx) (i : Nat) : (s.setCtx n x).sheet i = s.sheet i := (rfl)
@[simp] theorem State.setCtx_engine (s : State) (n : Nat) (x : Ctx) (i : Nat) : (s.setCtx n x).engine i = s.engine i := (rfl)
@[simp] theorem State.setCtx_unitSlots (s : State) (n : Nat) (x : Ctx) (i : Nat) : (s.setCtx n x).unitSlots i = s.unitSlots i := (rfl)
@[simp] theorem State.setCtx_inst (s : State) (n : Nat) (x : Ctx) (i : Nat) : (s.setCtx n x).inst i = s.inst i := (rfl)
@[simp] theorem State.setCtx_surf (s : State) (n : Nat) (x : Ctx) (i : Nat) : (s.setCtx n x).surf i = s.surf i := (rfl)
@[simp] theorem State.setCtx_reg (s : State) (n : Nat) (x : Ctx) (q : Nat) : (s.setCtx n x).reg q = s.reg q := (rfl)

@[simp] theorem State.setChan_ctx (s : State) (n : Nat) (x : Chan) (i : Nat) : (s.setChan n x).ctx i = s.ctx i := (rfl)
@[simp] theorem State.setChan_salvo (s : State) (n : Nat) (x : Chan) (i : Nat) : (s.setChan n x).salvo i = s.salvo i := (rfl)
@[simp] theorem State.setChan_lane (s : State) (n : Nat) (x : Chan) (i : Nat) : (s.setChan n x).lane i = s.lane i := (rfl)
@[simp] theorem State.setChan_core (s : State) (n : Nat) (x : Chan) (i : Nat) : (s.setChan n x).core i = s.core i := (rfl)
@[simp] theorem State.setChan_head (s : State) (n : Nat) (x : Chan) (i : Nat) : (s.setChan n x).head i = s.head i := (rfl)
@[simp] theorem State.setChan_sheet (s : State) (n : Nat) (x : Chan) (i : Nat) : (s.setChan n x).sheet i = s.sheet i := (rfl)
@[simp] theorem State.setChan_engine (s : State) (n : Nat) (x : Chan) (i : Nat) : (s.setChan n x).engine i = s.engine i := (rfl)
@[simp] theorem State.setChan_unitSlots (s : State) (n : Nat) (x : Chan) (i : Nat) : (s.setChan n x).unitSlots i = s.unitSlots i := (rfl)
@[simp] theorem State.setChan_inst (s : State) (n : Nat) (x : Chan) (i : Nat) : (s.setChan n x).inst i = s.inst i := (rfl)
@[simp] theorem State.setChan_surf (s : State) (n : Nat) (x : Chan) (i : Nat) : (s.setChan n x).surf i = s.surf i := (rfl)
@[simp] theorem State.setChan_reg (s : State) (n : Nat) (x : Chan) (q : Nat) : (s.setChan n x).reg q = s.reg q := (rfl)

@[simp] theorem State.setSalvo_ctx (s : State) (n : Nat) (x : Salvo) (i : Nat) : (s.setSalvo n x).ctx i = s.ctx i := (rfl)
@[simp] theorem State.setSalvo_chan (s : State) (n : Nat) (x : Salvo) (i : Nat) : (s.setSalvo n x).chan i = s.chan i := (rfl)
@[simp] theorem State.setSalvo_lane (s : State) (n : Nat) (x : Salvo) (i : Nat) : (s.setSalvo n x).lane i = s.lane i := (rfl)
@[simp] theorem State.setSalvo_core (s : State) (n : Nat) (x : Salvo) (i : Nat) : (s.setSalvo n x).core i = s.core i := (rfl)
@[simp] theorem State.setSalvo_head (s : State) (n : Nat) (x : Salvo) (i : Nat) : (s.setSalvo n x).head i = s.head i := (rfl)
@[simp] theorem State.setSalvo_sheet (s : State) (n : Nat) (x : Salvo) (i : Nat) : (s.setSalvo n x).sheet i = s.sheet i := (rfl)
@[simp] theorem State.setSalvo_engine (s : State) (n : Nat) (x : Salvo) (i : Nat) : (s.setSalvo n x).engine i = s.engine i := (rfl)
@[simp] theorem State.setSalvo_unitSlots (s : State) (n : Nat) (x : Salvo) (i : Nat) : (s.setSalvo n x).unitSlots i = s.unitSlots i := (rfl)
@[simp] theorem State.setSalvo_inst (s : State) (n : Nat) (x : Salvo) (i : Nat) : (s.setSalvo n x).inst i = s.inst i := (rfl)
@[simp] theorem State.setSalvo_surf (s : State) (n : Nat) (x : Salvo) (i : Nat) : (s.setSalvo n x).surf i = s.surf i := (rfl)
@[simp] theorem State.setSalvo_reg (s : State) (n : Nat) (x : Salvo) (q : Nat) : (s.setSalvo n x).reg q = s.reg q := (rfl)

@[simp] theorem State.setLane_ctx (s : State) (n : Nat) (x : Lane) (i : Nat) : (s.setLane n x).ctx i = s.ctx i := (rfl)
@[simp] theorem State.setLane_chan (s : State) (n : Nat) (x : Lane) (i : Nat) : (s.setLane n x).chan i = s.chan i := (rfl)
@[simp] theorem State.setLane_salvo (s : State) (n : Nat) (x : Lane) (i : Nat) : (s.setLane n x).salvo i = s.salvo i := (rfl)
@[simp] theorem State.setLane_core (s : State) (n : Nat) (x : Lane) (i : Nat) : (s.setLane n x).core i = s.core i := (rfl)
@[simp] theorem State.setLane_head (s : State) (n : Nat) (x : Lane) (i : Nat) : (s.setLane n x).head i = s.head i := (rfl)
@[simp] theorem State.setLane_sheet (s : State) (n : Nat) (x : Lane) (i : Nat) : (s.setLane n x).sheet i = s.sheet i := (rfl)
@[simp] theorem State.setLane_engine (s : State) (n : Nat) (x : Lane) (i : Nat) : (s.setLane n x).engine i = s.engine i := (rfl)
@[simp] theorem State.setLane_unitSlots (s : State) (n : Nat) (x : Lane) (i : Nat) : (s.setLane n x).unitSlots i = s.unitSlots i := (rfl)
@[simp] theorem State.setLane_inst (s : State) (n : Nat) (x : Lane) (i : Nat) : (s.setLane n x).inst i = s.inst i := (rfl)
@[simp] theorem State.setLane_surf (s : State) (n : Nat) (x : Lane) (i : Nat) : (s.setLane n x).surf i = s.surf i := (rfl)
@[simp] theorem State.setLane_reg (s : State) (n : Nat) (x : Lane) (q : Nat) : (s.setLane n x).reg q = s.reg q := (rfl)

@[simp] theorem State.setCore_ctx (s : State) (n : Nat) (x : Core) (i : Nat) : (s.setCore n x).ctx i = s.ctx i := (rfl)
@[simp] theorem State.setCore_chan (s : State) (n : Nat) (x : Core) (i : Nat) : (s.setCore n x).chan i = s.chan i := (rfl)
@[simp] theorem State.setCore_salvo (s : State) (n : Nat) (x : Core) (i : Nat) : (s.setCore n x).salvo i = s.salvo i := (rfl)
@[simp] theorem State.setCore_lane (s : State) (n : Nat) (x : Core) (i : Nat) : (s.setCore n x).lane i = s.lane i := (rfl)
@[simp] theorem State.setCore_head (s : State) (n : Nat) (x : Core) (i : Nat) : (s.setCore n x).head i = s.head i := (rfl)
@[simp] theorem State.setCore_sheet (s : State) (n : Nat) (x : Core) (i : Nat) : (s.setCore n x).sheet i = s.sheet i := (rfl)
@[simp] theorem State.setCore_engine (s : State) (n : Nat) (x : Core) (i : Nat) : (s.setCore n x).engine i = s.engine i := (rfl)
@[simp] theorem State.setCore_unitSlots (s : State) (n : Nat) (x : Core) (i : Nat) : (s.setCore n x).unitSlots i = s.unitSlots i := (rfl)
@[simp] theorem State.setCore_inst (s : State) (n : Nat) (x : Core) (i : Nat) : (s.setCore n x).inst i = s.inst i := (rfl)
@[simp] theorem State.setCore_surf (s : State) (n : Nat) (x : Core) (i : Nat) : (s.setCore n x).surf i = s.surf i := (rfl)
@[simp] theorem State.setCore_reg (s : State) (n : Nat) (x : Core) (q : Nat) : (s.setCore n x).reg q = s.reg q := (rfl)

@[simp] theorem State.setHead_ctx (s : State) (n : Nat) (x : Head) (i : Nat) : (s.setHead n x).ctx i = s.ctx i := (rfl)
@[simp] theorem State.setHead_chan (s : State) (n : Nat) (x : Head) (i : Nat) : (s.setHead n x).chan i = s.chan i := (rfl)
@[simp] theorem State.setHead_salvo (s : State) (n : Nat) (x : Head) (i : Nat) : (s.setHead n x).salvo i = s.salvo i := (rfl)
@[simp] theorem State.setHead_lane (s : State) (n : Nat) (x : Head) (i : Nat) : (s.setHead n x).lane i = s.lane i := (rfl)
@[simp] theorem State.setHead_core (s : State) (n : Nat) (x : Head) (i : Nat) : (s.setHead n x).core i = s.core i := (rfl)
@[simp] theorem State.setHead_sheet (s : State) (n : Nat) (x : Head) (i : Nat) : (s.setHead n x).sheet i = s.sheet i := (rfl)
@[simp] theorem State.setHead_engine (s : State) (n : Nat) (x : Head) (i : Nat) : (s.setHead n x).engine i = s.engine i := (rfl)
@[simp] theorem State.setHead_unitSlots (s : State) (n : Nat) (x : Head) (i : Nat) : (s.setHead n x).unitSlots i = s.unitSlots i := (rfl)
@[simp] theorem State.setHead_inst (s : State) (n : Nat) (x : Head) (i : Nat) : (s.setHead n x).inst i = s.inst i := (rfl)
@[simp] theorem State.setHead_surf (s : State) (n : Nat) (x : Head) (i : Nat) : (s.setHead n x).surf i = s.surf i := (rfl)
@[simp] theorem State.setHead_reg (s : State) (n : Nat) (x : Head) (q : Nat) : (s.setHead n x).reg q = s.reg q := (rfl)

@[simp] theorem State.setSheet_ctx (s : State) (n : Nat) (x : Sheet) (i : Nat) : (s.setSheet n x).ctx i = s.ctx i := (rfl)
@[simp] theorem State.setSheet_chan (s : State) (n : Nat) (x : Sheet) (i : Nat) : (s.setSheet n x).chan i = s.chan i := (rfl)
@[simp] theorem State.setSheet_salvo (s : State) (n : Nat) (x : Sheet) (i : Nat) : (s.setSheet n x).salvo i = s.salvo i := (rfl)
@[simp] theorem State.setSheet_lane (s : State) (n : Nat) (x : Sheet) (i : Nat) : (s.setSheet n x).lane i = s.lane i := (rfl)
@[simp] theorem State.setSheet_core (s : State) (n : Nat) (x : Sheet) (i : Nat) : (s.setSheet n x).core i = s.core i := (rfl)
@[simp] theorem State.setSheet_head (s : State) (n : Nat) (x : Sheet) (i : Nat) : (s.setSheet n x).head i = s.head i := (rfl)
@[simp] theorem State.setSheet_engine (s : State) (n : Nat) (x : Sheet) (i : Nat) : (s.setSheet n x).engine i = s.engine i := (rfl)
@[simp] theorem State.setSheet_unitSlots (s : State) (n : Nat) (x : Sheet) (i : Nat) : (s.setSheet n x).unitSlots i = s.unitSlots i := (rfl)
@[simp] theorem State.setSheet_inst (s : State) (n : Nat) (x : Sheet) (i : Nat) : (s.setSheet n x).inst i = s.inst i := (rfl)
@[simp] theorem State.setSheet_surf (s : State) (n : Nat) (x : Sheet) (i : Nat) : (s.setSheet n x).surf i = s.surf i := (rfl)
@[simp] theorem State.setSheet_reg (s : State) (n : Nat) (x : Sheet) (q : Nat) : (s.setSheet n x).reg q = s.reg q := (rfl)

@[simp] theorem State.setEngine_ctx (s : State) (n : Nat) (x : Engine) (i : Nat) : (s.setEngine n x).ctx i = s.ctx i := (rfl)
@[simp] theorem State.setEngine_chan (s : State) (n : Nat) (x : Engine) (i : Nat) : (s.setEngine n x).chan i = s.chan i := (rfl)
@[simp] theorem State.setEngine_salvo (s : State) (n : Nat) (x : Engine) (i : Nat) : (s.setEngine n x).salvo i = s.salvo i := (rfl)
@[simp] theorem State.setEngine_lane (s : State) (n : Nat) (x : Engine) (i : Nat) : (s.setEngine n x).lane i = s.lane i := (rfl)
@[simp] theorem State.setEngine_core (s : State) (n : Nat) (x : Engine) (i : Nat) : (s.setEngine n x).core i = s.core i := (rfl)
@[simp] theorem State.setEngine_head (s : State) (n : Nat) (x : Engine) (i : Nat) : (s.setEngine n x).head i = s.head i := (rfl)
@[simp] theorem State.setEngine_sheet (s : State) (n : Nat) (x : Engine) (i : Nat) : (s.setEngine n x).sheet i = s.sheet i := (rfl)
@[simp] theorem State.setEngine_unitSlots (s : State) (n : Nat) (x : Engine) (i : Nat) : (s.setEngine n x).unitSlots i = s.unitSlots i := (rfl)
@[simp] theorem State.setEngine_inst (s : State) (n : Nat) (x : Engine) (i : Nat) : (s.setEngine n x).inst i = s.inst i := (rfl)
@[simp] theorem State.setEngine_surf (s : State) (n : Nat) (x : Engine) (i : Nat) : (s.setEngine n x).surf i = s.surf i := (rfl)
@[simp] theorem State.setEngine_reg (s : State) (n : Nat) (x : Engine) (q : Nat) : (s.setEngine n x).reg q = s.reg q := (rfl)

@[simp] theorem State.setSlots_ctx (s : State) (n : Nat) (x : Slots) (i : Nat) : (s.setSlots n x).ctx i = s.ctx i := (rfl)
@[simp] theorem State.setSlots_chan (s : State) (n : Nat) (x : Slots) (i : Nat) : (s.setSlots n x).chan i = s.chan i := (rfl)
@[simp] theorem State.setSlots_salvo (s : State) (n : Nat) (x : Slots) (i : Nat) : (s.setSlots n x).salvo i = s.salvo i := (rfl)
@[simp] theorem State.setSlots_lane (s : State) (n : Nat) (x : Slots) (i : Nat) : (s.setSlots n x).lane i = s.lane i := (rfl)
@[simp] theorem State.setSlots_core (s : State) (n : Nat) (x : Slots) (i : Nat) : (s.setSlots n x).core i = s.core i := (rfl)
@[simp] theorem State.setSlots_head (s : State) (n : Nat) (x : Slots) (i : Nat) : (s.setSlots n x).head i = s.head i := (rfl)
@[simp] theorem State.setSlots_sheet (s : State) (n : Nat) (x : Slots) (i : Nat) : (s.setSlots n x).sheet i = s.sheet i := (rfl)
@[simp] theorem State.setSlots_engine (s : State) (n : Nat) (x : Slots) (i : Nat) : (s.setSlots n x).engine i = s.engine i := (rfl)
@[simp] theorem State.setSlots_inst (s : State) (n : Nat) (x : Slots) (i : Nat) : (s.setSlots n x).inst i = s.inst i := (rfl)
@[simp] theorem State.setSlots_surf (s : State) (n : Nat) (x : Slots) (i : Nat) : (s.setSlots n x).surf i = s.surf i := (rfl)
@[simp] theorem State.setSlots_reg (s : State) (n : Nat) (x : Slots) (q : Nat) : (s.setSlots n x).reg q = s.reg q := (rfl)

@[simp] theorem State.setInst_ctx (s : State) (n : Nat) (x : Inst) (i : Nat) : (s.setInst n x).ctx i = s.ctx i := (rfl)
@[simp] theorem State.setInst_chan (s : State) (n : Nat) (x : Inst) (i : Nat) : (s.setInst n x).chan i = s.chan i := (rfl)
@[simp] theorem State.setInst_salvo (s : State) (n : Nat) (x : Inst) (i : Nat) : (s.setInst n x).salvo i = s.salvo i := (rfl)
@[simp] theorem State.setInst_lane (s : State) (n : Nat) (x : Inst) (i : Nat) : (s.setInst n x).lane i = s.lane i := (rfl)
@[simp] theorem State.setInst_core (s : State) (n : Nat) (x : Inst) (i : Nat) : (s.setInst n x).core i = s.core i := (rfl)
@[simp] theorem State.setInst_head (s : State) (n : Nat) (x : Inst) (i : Nat) : (s.setInst n x).head i = s.head i := (rfl)
@[simp] theorem State.setInst_sheet (s : State) (n : Nat) (x : Inst) (i : Nat) : (s.setInst n x).sheet i = s.sheet i := (rfl)
@[simp] theorem State.setInst_engine (s : State) (n : Nat) (x : Inst) (i : Nat) : (s.setInst n x).engine i = s.engine i := (rfl)
@[simp] theorem State.setInst_unitSlots (s : State) (n : Nat) (x : Inst) (i : Nat) : (s.setInst n x).unitSlots i = s.unitSlots i := (rfl)
@[simp] theorem State.setInst_surf (s : State) (n : Nat) (x : Inst) (i : Nat) : (s.setInst n x).surf i = s.surf i := (rfl)
@[simp] theorem State.setInst_reg (s : State) (n : Nat) (x : Inst) (q : Nat) : (s.setInst n x).reg q = s.reg q := (rfl)

@[simp] theorem State.setSurf_ctx (s : State) (n : Nat) (x : Surface) (i : Nat) : (s.setSurf n x).ctx i = s.ctx i := (rfl)
@[simp] theorem State.setSurf_chan (s : State) (n : Nat) (x : Surface) (i : Nat) : (s.setSurf n x).chan i = s.chan i := (rfl)
@[simp] theorem State.setSurf_salvo (s : State) (n : Nat) (x : Surface) (i : Nat) : (s.setSurf n x).salvo i = s.salvo i := (rfl)
@[simp] theorem State.setSurf_lane (s : State) (n : Nat) (x : Surface) (i : Nat) : (s.setSurf n x).lane i = s.lane i := (rfl)
@[simp] theorem State.setSurf_core (s : State) (n : Nat) (x : Surface) (i : Nat) : (s.setSurf n x).core i = s.core i := (rfl)
@[simp] theorem State.setSurf_head (s : State) (n : Nat) (x : Surface) (i : Nat) : (s.setSurf n x).head i = s.head i := (rfl)
@[simp] theorem State.setSurf_sheet (s : State) (n : Nat) (x : Surface) (i : Nat) : (s.setSurf n x).sheet i = s.sheet i := (rfl)
@[simp] theorem State.setSurf_engine (s : State) (n : Nat) (x : Surface) (i : Nat) : (s.setSurf n x).engine i = s.engine i := (rfl)
@[simp] theorem State.setSurf_unitSlots (s : State) (n : Nat) (x : Surface) (i : Nat) : (s.setSurf n x).unitSlots i = s.unitSlots i := (rfl)
@[simp] theorem State.setSurf_inst (s : State) (n : Nat) (x : Surface) (i : Nat) : (s.setSurf n x).inst i = s.inst i := (rfl)
@[simp] theorem State.setSurf_reg (s : State) (n : Nat) (x : Surface) (q : Nat) : (s.setSurf n x).reg q = s.reg q := (rfl)

@[simp] theorem State.setTime_ctx (s : State) (u : TimeUnit) (i : Nat) : (s.setTime u).ctx i = s.ctx i := (rfl)
@[simp] theorem State.setTime_chan (s : State) (u : TimeUnit) (i : Nat) : (s.setTime u).chan i = s.chan i := (rfl)
@[simp] theorem State.setTime_salvo (s : State) (u : TimeUnit) (i : Nat) : (s.setTime u).salvo i = s.salvo i := (rfl)
@[simp] theorem State.setTime_lane (s : State) (u : TimeUnit) (i : Nat) : (s.setTime u).lane i = s.lane i := (rfl)
@[simp] theorem State.setTime_core (s : State) (u : TimeUnit) (i : Nat) : (s.setTime u).core i = s.core i := (rfl)
@[simp] theorem State.setTime_head (s : State) (u : TimeUnit) (i : Nat) : (s.setTime u).head i = s.head i := (rfl)
@[simp] theorem State.setTime_sheet (s : State) (u : TimeUnit) (i : Nat) : (s.setTime u).sheet i = s.sheet i := (rfl)
@[simp] theorem State.setTime_engine (s : State) (u : TimeUnit) (i : Nat) : (s.setTime u).engine i = s.engine i := (rfl)
@[simp] theorem State.setTime_unitSlots (s : State) (u : TimeUnit) (i : Nat) : (s.setTime u).unitSlots i = s.unitSlots i := (rfl)
@[simp] theorem State.setTime_inst (s : State) (u : TimeUnit) (i : Nat) : (s.setTime u).inst i = s.inst i := (rfl)
@[simp] theorem State.setTime_surf (s : State) (u : TimeUnit) (i : Nat) : (s.setTime u).surf i = s.surf i := (rfl)
@[simp] theorem State.setTime_reg (s : State) (u : TimeUnit) (q : Nat) : (s.setTime u).reg q = s.reg q := (rfl)

@[simp] theorem State.setMode_ctx (s : State) (m : ModeUnit) (i : Nat) : (s.setMode m).ctx i = s.ctx i := (rfl)
@[simp] theorem State.setMode_chan (s : State) (m : ModeUnit) (i : Nat) : (s.setMode m).chan i = s.chan i := (rfl)
@[simp] theorem State.setMode_salvo (s : State) (m : ModeUnit) (i : Nat) : (s.setMode m).salvo i = s.salvo i := (rfl)
@[simp] theorem State.setMode_lane (s : State) (m : ModeUnit) (i : Nat) : (s.setMode m).lane i = s.lane i := (rfl)
@[simp] theorem State.setMode_core (s : State) (m : ModeUnit) (i : Nat) : (s.setMode m).core i = s.core i := (rfl)
@[simp] theorem State.setMode_head (s : State) (m : ModeUnit) (i : Nat) : (s.setMode m).head i = s.head i := (rfl)
@[simp] theorem State.setMode_sheet (s : State) (m : ModeUnit) (i : Nat) : (s.setMode m).sheet i = s.sheet i := (rfl)
@[simp] theorem State.setMode_engine (s : State) (m : ModeUnit) (i : Nat) : (s.setMode m).engine i = s.engine i := (rfl)
@[simp] theorem State.setMode_unitSlots (s : State) (m : ModeUnit) (i : Nat) : (s.setMode m).unitSlots i = s.unitSlots i := (rfl)
@[simp] theorem State.setMode_inst (s : State) (m : ModeUnit) (i : Nat) : (s.setMode m).inst i = s.inst i := (rfl)
@[simp] theorem State.setMode_surf (s : State) (m : ModeUnit) (i : Nat) : (s.setMode m).surf i = s.surf i := (rfl)
@[simp] theorem State.setMode_reg (s : State) (m : ModeUnit) (q : Nat) : (s.setMode m).reg q = s.reg q := (rfl)

@[simp] theorem State.send_ctx (s : State) (o : Out) (i : Nat) : (s.send o).ctx i = s.ctx i := (rfl)
@[simp] theorem State.send_chan (s : State) (o : Out) (i : Nat) : (s.send o).chan i = s.chan i := (rfl)
@[simp] theorem State.send_salvo (s : State) (o : Out) (i : Nat) : (s.send o).salvo i = s.salvo i := (rfl)
@[simp] theorem State.send_lane (s : State) (o : Out) (i : Nat) : (s.send o).lane i = s.lane i := (rfl)
@[simp] theorem State.send_core (s : State) (o : Out) (i : Nat) : (s.send o).core i = s.core i := (rfl)
@[simp] theorem State.send_head (s : State) (o : Out) (i : Nat) : (s.send o).head i = s.head i := (rfl)
@[simp] theorem State.send_sheet (s : State) (o : Out) (i : Nat) : (s.send o).sheet i = s.sheet i := (rfl)
@[simp] theorem State.send_engine (s : State) (o : Out) (i : Nat) : (s.send o).engine i = s.engine i := (rfl)
@[simp] theorem State.send_unitSlots (s : State) (o : Out) (i : Nat) : (s.send o).unitSlots i = s.unitSlots i := (rfl)
@[simp] theorem State.send_inst (s : State) (o : Out) (i : Nat) : (s.send o).inst i = s.inst i := (rfl)
@[simp] theorem State.send_surf (s : State) (o : Out) (i : Nat) : (s.send o).surf i = s.surf i := (rfl)
@[simp] theorem State.send_reg (s : State) (o : Out) (q : Nat) : (s.send o).reg q = s.reg q := (rfl)

@[simp] theorem State.setCtx_self (s : State) (n : Nat) (x : Ctx) : (s.setCtx n x).ctx n = x := Tab.get_set_self ..
theorem State.setCtx_other (s : State) (n m : Nat) (x : Ctx) (h : m ≠ n) : (s.setCtx n x).ctx m = s.ctx m :=
  Tab.get_set_other _ _ _ _ _ _ h

@[simp] theorem State.setChan_self (s : State) (n : Nat) (x : Chan) : (s.setChan n x).chan n = x := Tab.get_set_self ..
theorem State.setChan_other (s : State) (n m : Nat) (x : Chan) (h : m ≠ n) : (s.setChan n x).chan m = s.chan m :=
  Tab.get_set_other _ _ _ _ _ _ h

@[simp] theorem State.setSalvo_self (s : State) (n : Nat) (x : Salvo) : (s.setSalvo n x).salvo n = x := Tab.get_set_self ..
theorem State.setSalvo_other (s : State) (n m : Nat) (x : Salvo) (h : m ≠ n) : (s.setSalvo n x).salvo m = s.salvo m :=
  Tab.get_set_other _ _ _ _ _ _ h

@[simp] theorem State.setLane_self (s : State) (n : Nat) (x : Lane) : (s.setLane n x).lane n = x := Tab.get_set_self ..
theorem State.setLane_other (s : State) (n m : Nat) (x : Lane) (h : m ≠ n) : (s.setLane n x).lane m = s.lane m :=
  Tab.get_set_other _ _ _ _ _ _ h

@[simp] theorem State.setCore_self (s : State) (n : Nat) (x : Core) : (s.setCore n x).core n = x := Tab.get_set_self ..
theorem State.setCore_other (s : State) (n m : Nat) (x : Core) (h : m ≠ n) : (s.setCore n x).core m = s.core m :=
  Tab.get_set_other _ _ _ _ _ _ h

@[simp] theorem State.setHead_self (s : State) (n : Nat) (x : Head) : (s.setHead n x).head n = x := Tab.get_set_self ..
theorem State.setHead_other (s : State) (n m : Nat) (x : Head) (h : m ≠ n) : (s.setHead n x).head m = s.head m :=
  Tab.get_set_other _ _ _ _ _ _ h

@[simp] theorem State.setSheet_self (s : State) (n : Nat) (x : Sheet) : (s.setSheet n x).sheet n = x := Tab.get_set_self ..
theorem State.setSheet_other (s : State) (n m : Nat) (x : Sheet) (h : m ≠ n) : (s.setSheet n x).sheet m = s.sheet m :=
  Tab.get_set_other _ _ _ _ _ _ h

@[simp] theorem State.setEngine_self (s : State) (n : Nat) (x : Engine) : (s.setEngine n x).engine n = x := Tab.get_set_self ..
theorem State.setEngine_other (s : State) (n m : Nat) (x : Engine) (h : m ≠ n) : (s.setEngine n x).engine m = s.engine m :=
  Tab.get_set_other _ _ _ _ _ _ h

@[simp] theorem State.setSlots_self (s : State) (n : Nat) (x : Slots) : (s.setSlots n x).unitSlots n = x := Tab.get_set_self ..
theorem State.setSlots_other (s : State) (n m : Nat) (x : Slots) (h : m ≠ n) : (s.setSlots n x).unitSlots m = s.unitSlots m :=
  Tab.get_set_other _ _ _ _ _ _ h

@[simp] theorem State.setInst_self (s : State) (n : Nat) (x : Inst) : (s.setInst n x).inst n = x := Tab.get_set_self ..
theorem State.setInst_other (s : State) (n m : Nat) (x : Inst) (h : m ≠ n) : (s.setInst n x).inst m = s.inst m :=
  Tab.get_set_other _ _ _ _ _ _ h

@[simp] theorem State.setSurf_self (s : State) (n : Nat) (x : Surface) : (s.setSurf n x).surf n = x := Tab.get_set_self ..
theorem State.setSurf_other (s : State) (n m : Nat) (x : Surface) (h : m ≠ n) : (s.setSurf n x).surf m = s.surf m :=
  Tab.get_set_other _ _ _ _ _ _ h

@[simp] theorem State.setReg_self (s : State) (o v : Nat) : (s.setReg o v).reg o = v := Tab.get_set_self ..
@[simp] theorem State.count_self (s : State) (o n : Nat) : (s.count o n).reg o = satAdd32 (s.reg o) n := Tab.get_set_self ..
end Sys2Proof.Machine
end

