-- ==== Sys2Proof/Laws/Emit.lean ====
section
/-! SUPPORT. Raising an event writes the event rings, the instances that own them and what is sent; nothing else. -/

namespace Sys2Proof.Machine

/-- `t` differs from `s` only in the events, their sequence numbers, the instances and what has been sent. -/
def EmitsOnly (s t : State) : Prop :=
  t = { s with events := t.events, eventSeq := t.eventSeq, insts := t.insts, sent := t.sent }

theorem EmitsOnly.refl (s : State) : EmitsOnly s s := (rfl)

theorem EmitsOnly.trans {a b c : State} (h : EmitsOnly a b) (g : EmitsOnly b c) : EmitsOnly a c := by
  unfold EmitsOnly at *
  rw [g, h]

theorem State.setInst_emits (s : State) (n : Nat) (x : Inst) : EmitsOnly s (s.setInst n x) := rfl
theorem State.send_emits (s : State) (o : Out) : EmitsOnly s (s.send o) := rfl
theorem State.medEmit_emits (s : State) (k : EvKind) (i t : Nat) (p : List Int) : EmitsOnly s (s.medEmit k i t p) := rfl

theorem State.signalVec_emits (s : State) (n v : Nat) : EmitsOnly s (s.signalVec n v) := by
  unfold State.signalVec
  dsimp only
  split
  · rfl
  · split
    · exact s.setInst_emits ..
    · exact s.send_emits ..

theorem State.evqSignal_emits (s : State) (n : Nat) : EmitsOnly s (s.evqSignal n) := by
  unfold State.evqSignal
  dsimp only
  split
  · exact (s.setInst_emits ..).trans (State.signalVec_emits ..)
  · rfl

theorem State.cqSignal_emits (s : State) (n : Nat) : EmitsOnly s (s.cqSignal n) := by
  unfold State.cqSignal
  dsimp only
  split
  · exact (s.setInst_emits ..).trans (State.signalVec_emits ..)
  · rfl

theorem State.ringWrite_emits (s : State) (n : Nat) (k : EvKind) (i t : Nat) (p : List Int) :
    EmitsOnly s (s.ringWrite n k i t p) := by
  unfold State.ringWrite
  extract_lets key q s1 j e
  have h : EmitsOnly s s1 := rfl
  clear_value s1
  split
  · exact (h.trans (s1.setInst_emits ..)).trans (State.evqSignal_emits ..)
  · exact h.trans (s1.setInst_emits ..)

theorem State.payLost_emits (s : State) (n t : Nat) : EmitsOnly s (s.payLost n t) := by
  unfold State.payLost
  dsimp only
  split
  · exact ((s.medEmit_emits ..).trans (State.setInst_emits ..)).trans (State.ringWrite_emits ..)
  · rfl

theorem State.ringsEmit_emits (s : State) (k : EvKind) (i t : Nat) (p : List Int) (l : List Nat) :
    EmitsOnly s (s.ringsEmit k i t p l) := by
  induction l generalizing s with
  | nil => rfl
  | cons n ns ih =>
    unfold State.ringsEmit
    split
    · exact ((s.payLost_emits ..).trans (State.ringWrite_emits ..)).trans (ih _)
    · exact ih s

/-- Raising an event leaves everything but the rings alone. -/
theorem State.emitAt_emits (s : State) (k : EvKind) (i t : Nat) (p : List Int) : EmitsOnly s (s.emitAt k i t p) :=
  (s.medEmit_emits ..).trans (State.ringsEmit_emits ..)

theorem State.emit_emits (s : State) (k : EvKind) (i : Nat) (p : List Int) : EmitsOnly s (s.emit k i p) :=
  s.emitAt_emits ..

@[simp] theorem State.emitAt_time (s : State) (k : EvKind) (i t : Nat) (p : List Int) : (s.emitAt k i t p).time = s.time := by rw [s.emitAt_emits k i t p]
@[simp] theorem State.emitAt_mode (s : State) (k : EvKind) (i t : Nat) (p : List Int) : (s.emitAt k i t p).mode = s.mode := by rw [s.emitAt_emits k i t p]
@[simp] theorem State.emitAt_aon (s : State) (k : EvKind) (i t : Nat) (p : List Int) : (s.emitAt k i t p).aon = s.aon := by rw [s.emitAt_emits k i t p]
@[simp] theorem State.emitAt_regs (s : State) (k : EvKind) (i t : Nat) (p : List Int) : (s.emitAt k i t p).regs = s.regs := by rw [s.emitAt_emits k i t p]
@[simp] theorem State.emitAt_latches (s : State) (k : EvKind) (i t : Nat) (p : List Int) : (s.emitAt k i t p).latches = s.latches := by rw [s.emitAt_emits k i t p]
@[simp] theorem State.emitAt_readData (s : State) (k : EvKind) (i t : Nat) (p : List Int) : (s.emitAt k i t p).readData = s.readData := by rw [s.emitAt_emits k i t p]
@[simp] theorem State.emitAt_dram (s : State) (k : EvKind) (i t : Nat) (p : List Int) : (s.emitAt k i t p).dram = s.dram := by rw [s.emitAt_emits k i t p]
@[simp] theorem State.emitAt_chans (s : State) (k : EvKind) (i t : Nat) (p : List Int) : (s.emitAt k i t p).chans = s.chans := by rw [s.emitAt_emits k i t p]
@[simp] theorem State.emitAt_ctxs (s : State) (k : EvKind) (i t : Nat) (p : List Int) : (s.emitAt k i t p).ctxs = s.ctxs := by rw [s.emitAt_emits k i t p]
@[simp] theorem State.emitAt_salvos (s : State) (k : EvKind) (i t : Nat) (p : List Int) : (s.emitAt k i t p).salvos = s.salvos := by rw [s.emitAt_emits k i t p]
@[simp] theorem State.emitAt_bonds (s : State) (k : EvKind) (i t : Nat) (p : List Int) : (s.emitAt k i t p).bonds = s.bonds := by rw [s.emitAt_emits k i t p]
@[simp] theorem State.emitAt_lanes (s : State) (k : EvKind) (i t : Nat) (p : List Int) : (s.emitAt k i t p).lanes = s.lanes := by rw [s.emitAt_emits k i t p]
@[simp] theorem State.emitAt_cruiseSeq (s : State) (k : EvKind) (i t : Nat) (p : List Int) : (s.emitAt k i t p).cruiseSeq = s.cruiseSeq := by rw [s.emitAt_emits k i t p]
@[simp] theorem State.emitAt_cruiseLast (s : State) (k : EvKind) (i t : Nat) (p : List Int) : (s.emitAt k i t p).cruiseLast = s.cruiseLast := by rw [s.emitAt_emits k i t p]
@[simp] theorem State.emitAt_cores (s : State) (k : EvKind) (i t : Nat) (p : List Int) : (s.emitAt k i t p).cores = s.cores := by rw [s.emitAt_emits k i t p]
@[simp] theorem State.emitAt_slots (s : State) (k : EvKind) (i t : Nat) (p : List Int) : (s.emitAt k i t p).slots = s.slots := by rw [s.emitAt_emits k i t p]
@[simp] theorem State.emitAt_packing (s : State) (k : EvKind) (i t : Nat) (p : List Int) : (s.emitAt k i t p).packing = s.packing := by rw [s.emitAt_emits k i t p]
@[simp] theorem State.emitAt_progs (s : State) (k : EvKind) (i t : Nat) (p : List Int) : (s.emitAt k i t p).progs = s.progs := by rw [s.emitAt_emits k i t p]
@[simp] theorem State.emitAt_heads (s : State) (k : EvKind) (i t : Nat) (p : List Int) : (s.emitAt k i t p).heads = s.heads := by rw [s.emitAt_emits k i t p]
@[simp] theorem State.emitAt_sheets (s : State) (k : EvKind) (i t : Nat) (p : List Int) : (s.emitAt k i t p).sheets = s.sheets := by rw [s.emitAt_emits k i t p]
@[simp] theorem State.emitAt_engines (s : State) (k : EvKind) (i t : Nat) (p : List Int) : (s.emitAt k i t p).engines = s.engines := by rw [s.emitAt_emits k i t p]
@[simp] theorem State.emitAt_win (s : State) (k : EvKind) (i t : Nat) (p : List Int) : (s.emitAt k i t p).win = s.win := by rw [s.emitAt_emits k i t p]
@[simp] theorem State.emitAt_safe (s : State) (k : EvKind) (i t : Nat) (p : List Int) : (s.emitAt k i t p).safe = s.safe := by rw [s.emitAt_emits k i t p]
@[simp] theorem State.emitAt_surfs (s : State) (k : EvKind) (i t : Nat) (p : List Int) : (s.emitAt k i t p).surfs = s.surfs := by rw [s.emitAt_emits k i t p]
@[simp] theorem State.emitAt_dma (s : State) (k : EvKind) (i t : Nat) (p : List Int) : (s.emitAt k i t p).dma = s.dma := by rw [s.emitAt_emits k i t p]
@[simp] theorem State.emitAt_atc (s : State) (k : EvKind) (i t : Nat) (p : List Int) : (s.emitAt k i t p).atc = s.atc := by rw [s.emitAt_emits k i t p]
@[simp] theorem State.emitAt_console (s : State) (k : EvKind) (i t : Nat) (p : List Int) : (s.emitAt k i t p).console = s.console := by rw [s.emitAt_emits k i t p]
@[simp] theorem State.emitAt_recs (s : State) (k : EvKind) (i t : Nat) (p : List Int) : (s.emitAt k i t p).recs = s.recs := by rw [s.emitAt_emits k i t p]
@[simp] theorem State.emitAt_recCores (s : State) (k : EvKind) (i t : Nat) (p : List Int) : (s.emitAt k i t p).recCores = s.recCores := by rw [s.emitAt_emits k i t p]
@[simp] theorem State.emitAt_pair (s : State) (k : EvKind) (i t : Nat) (p : List Int) : (s.emitAt k i t p).pair = s.pair := by rw [s.emitAt_emits k i t p]
@[simp] theorem State.emitAt_board (s : State) (k : EvKind) (i t : Nat) (p : List Int) : (s.emitAt k i t p).board = s.board := by rw [s.emitAt_emits k i t p]
@[simp] theorem State.emitAt_prov (s : State) (k : EvKind) (i t : Nat) (p : List Int) : (s.emitAt k i t p).prov = s.prov := by rw [s.emitAt_emits k i t p]
@[simp] theorem State.emitAt_glb (s : State) (k : EvKind) (i t : Nat) (p : List Int) : (s.emitAt k i t p).glb = s.glb := by rw [s.emitAt_emits k i t p]
@[simp] theorem State.emitAt_adm (s : State) (k : EvKind) (i t : Nat) (p : List Int) : (s.emitAt k i t p).adm = s.adm := by rw [s.emitAt_emits k i t p]
@[simp] theorem State.emitAt_dict (s : State) (k : EvKind) (i t : Nat) (p : List Int) : (s.emitAt k i t p).dict = s.dict := by rw [s.emitAt_emits k i t p]
@[simp] theorem State.emitAt_store (s : State) (k : EvKind) (i t : Nat) (p : List Int) : (s.emitAt k i t p).store = s.store := by rw [s.emitAt_emits k i t p]
@[simp] theorem State.emitAt_prot (s : State) (k : EvKind) (i t : Nat) (p : List Int) : (s.emitAt k i t p).prot = s.prot := by rw [s.emitAt_emits k i t p]
@[simp] theorem State.emitAt_udpPort (s : State) (k : EvKind) (i t : Nat) (p : List Int) : (s.emitAt k i t p).udpPort = s.udpPort := by rw [s.emitAt_emits k i t p]
@[simp] theorem State.emitAt_udpPorts (s : State) (k : EvKind) (i t : Nat) (p : List Int) : (s.emitAt k i t p).udpPorts = s.udpPorts := by rw [s.emitAt_emits k i t p]
@[simp] theorem State.emitAt_pending (s : State) (k : EvKind) (i t : Nat) (p : List Int) : (s.emitAt k i t p).pending = s.pending := by rw [s.emitAt_emits k i t p]
@[simp] theorem State.emitAt_ctx (s : State) (k : EvKind) (i t : Nat) (p : List Int) (j : Nat) : (s.emitAt k i t p).ctx j = s.ctx j := by
  rw [s.emitAt_emits k i t p]; rfl
@[simp] theorem State.emitAt_chan (s : State) (k : EvKind) (i t : Nat) (p : List Int) (j : Nat) : (s.emitAt k i t p).chan j = s.chan j := by
  rw [s.emitAt_emits k i t p]; rfl
@[simp] theorem State.emitAt_salvo (s : State) (k : EvKind) (i t : Nat) (p : List Int) (j : Nat) : (s.emitAt k i t p).salvo j = s.salvo j := by
  rw [s.emitAt_emits k i t p]; rfl
@[simp] theorem State.emitAt_lane (s : State) (k : EvKind) (i t : Nat) (p : List Int) (j : Nat) : (s.emitAt k i t p).lane j = s.lane j := by
  rw [s.emitAt_emits k i t p]; rfl
@[simp] theorem State.emitAt_core (s : State) (k : EvKind) (i t : Nat) (p : List Int) (j : Nat) : (s.emitAt k i t p).core j = s.core j := by
  rw [s.emitAt_emits k i t p]; rfl
@[simp] theorem State.emitAt_head (s : State) (k : EvKind) (i t : Nat) (p : List Int) (j : Nat) : (s.emitAt k i t p).head j = s.head j := by
  rw [s.emitAt_emits k i t p]; rfl
@[simp] theorem State.emitAt_sheet (s : State) (k : EvKind) (i t : Nat) (p : List Int) (j : Nat) : (s.emitAt k i t p).sheet j = s.sheet j := by
  rw [s.emitAt_emits k i t p]; rfl
@[simp] theorem State.emitAt_engine (s : State) (k : EvKind) (i t : Nat) (p : List Int) (j : Nat) : (s.emitAt k i t p).engine j = s.engine j := by
  rw [s.emitAt_emits k i t p]; rfl
@[simp] theorem State.emitAt_unitSlots (s : State) (k : EvKind) (i t : Nat) (p : List Int) (j : Nat) : (s.emitAt k i t p).unitSlots j = s.unitSlots j := by
  rw [s.emitAt_emits k i t p]; rfl
@[simp] theorem State.emitAt_surf (s : State) (k : EvKind) (i t : Nat) (p : List Int) (j : Nat) : (s.emitAt k i t p).surf j = s.surf j := by
  rw [s.emitAt_emits k i t p]; rfl
@[simp] theorem State.emitAt_reg (s : State) (k : EvKind) (i t : Nat) (p : List Int) (j : Nat) : (s.emitAt k i t p).reg j = s.reg j := by
  rw [s.emitAt_emits k i t p]; rfl

@[simp] theorem State.emit_time (s : State) (k : EvKind) (i : Nat) (p : List Int) : (s.emit k i p).time = s.time := by rw [s.emit_emits k i p]
@[simp] theorem State.emit_mode (s : State) (k : EvKind) (i : Nat) (p : List Int) : (s.emit k i p).mode = s.mode := by rw [s.emit_emits k i p]
@[simp] theorem State.emit_aon (s : State) (k : EvKind) (i : Nat) (p : List Int) : (s.emit k i p).aon = s.aon := by rw [s.emit_emits k i p]
@[simp] theorem State.emit_regs (s : State) (k : EvKind) (i : Nat) (p : List Int) : (s.emit k i p).regs = s.regs := by rw [s.emit_emits k i p]
@[simp] theorem State.emit_latches (s : State) (k : EvKind) (i : Nat) (p : List Int) : (s.emit k i p).latches = s.latches := by rw [s.emit_emits k i p]
@[simp] theorem State.emit_readData (s : State) (k : EvKind) (i : Nat) (p : List Int) : (s.emit k i p).readData = s.readData := by rw [s.emit_emits k i p]
@[simp] theorem State.emit_dram (s : State) (k : EvKind) (i : Nat) (p : List Int) : (s.emit k i p).dram = s.dram := by rw [s.emit_emits k i p]
@[simp] theorem State.emit_chans (s : State) (k : EvKind) (i : Nat) (p : List Int) : (s.emit k i p).chans = s.chans := by rw [s.emit_emits k i p]
@[simp] theorem State.emit_ctxs (s : State) (k : EvKind) (i : Nat) (p : List Int) : (s.emit k i p).ctxs = s.ctxs := by rw [s.emit_emits k i p]
@[simp] theorem State.emit_salvos (s : State) (k : EvKind) (i : Nat) (p : List Int) : (s.emit k i p).salvos = s.salvos := by rw [s.emit_emits k i p]
@[simp] theorem State.emit_bonds (s : State) (k : EvKind) (i : Nat) (p : List Int) : (s.emit k i p).bonds = s.bonds := by rw [s.emit_emits k i p]
@[simp] theorem State.emit_lanes (s : State) (k : EvKind) (i : Nat) (p : List Int) : (s.emit k i p).lanes = s.lanes := by rw [s.emit_emits k i p]
@[simp] theorem State.emit_cruiseSeq (s : State) (k : EvKind) (i : Nat) (p : List Int) : (s.emit k i p).cruiseSeq = s.cruiseSeq := by rw [s.emit_emits k i p]
@[simp] theorem State.emit_cruiseLast (s : State) (k : EvKind) (i : Nat) (p : List Int) : (s.emit k i p).cruiseLast = s.cruiseLast := by rw [s.emit_emits k i p]
@[simp] theorem State.emit_cores (s : State) (k : EvKind) (i : Nat) (p : List Int) : (s.emit k i p).cores = s.cores := by rw [s.emit_emits k i p]
@[simp] theorem State.emit_slots (s : State) (k : EvKind) (i : Nat) (p : List Int) : (s.emit k i p).slots = s.slots := by rw [s.emit_emits k i p]
@[simp] theorem State.emit_packing (s : State) (k : EvKind) (i : Nat) (p : List Int) : (s.emit k i p).packing = s.packing := by rw [s.emit_emits k i p]
@[simp] theorem State.emit_progs (s : State) (k : EvKind) (i : Nat) (p : List Int) : (s.emit k i p).progs = s.progs := by rw [s.emit_emits k i p]
@[simp] theorem State.emit_heads (s : State) (k : EvKind) (i : Nat) (p : List Int) : (s.emit k i p).heads = s.heads := by rw [s.emit_emits k i p]
@[simp] theorem State.emit_sheets (s : State) (k : EvKind) (i : Nat) (p : List Int) : (s.emit k i p).sheets = s.sheets := by rw [s.emit_emits k i p]
@[simp] theorem State.emit_engines (s : State) (k : EvKind) (i : Nat) (p : List Int) : (s.emit k i p).engines = s.engines := by rw [s.emit_emits k i p]
@[simp] theorem State.emit_win (s : State) (k : EvKind) (i : Nat) (p : List Int) : (s.emit k i p).win = s.win := by rw [s.emit_emits k i p]
@[simp] theorem State.emit_safe (s : State) (k : EvKind) (i : Nat) (p : List Int) : (s.emit k i p).safe = s.safe := by rw [s.emit_emits k i p]
@[simp] theorem State.emit_surfs (s : State) (k : EvKind) (i : Nat) (p : List Int) : (s.emit k i p).surfs = s.surfs := by rw [s.emit_emits k i p]
@[simp] theorem State.emit_dma (s : State) (k : EvKind) (i : Nat) (p : List Int) : (s.emit k i p).dma = s.dma := by rw [s.emit_emits k i p]
@[simp] theorem State.emit_atc (s : State) (k : EvKind) (i : Nat) (p : List Int) : (s.emit k i p).atc = s.atc := by rw [s.emit_emits k i p]
@[simp] theorem State.emit_console (s : State) (k : EvKind) (i : Nat) (p : List Int) : (s.emit k i p).console = s.console := by rw [s.emit_emits k i p]
@[simp] theorem State.emit_recs (s : State) (k : EvKind) (i : Nat) (p : List Int) : (s.emit k i p).recs = s.recs := by rw [s.emit_emits k i p]
@[simp] theorem State.emit_recCores (s : State) (k : EvKind) (i : Nat) (p : List Int) : (s.emit k i p).recCores = s.recCores := by rw [s.emit_emits k i p]
@[simp] theorem State.emit_pair (s : State) (k : EvKind) (i : Nat) (p : List Int) : (s.emit k i p).pair = s.pair := by rw [s.emit_emits k i p]
@[simp] theorem State.emit_board (s : State) (k : EvKind) (i : Nat) (p : List Int) : (s.emit k i p).board = s.board := by rw [s.emit_emits k i p]
@[simp] theorem State.emit_prov (s : State) (k : EvKind) (i : Nat) (p : List Int) : (s.emit k i p).prov = s.prov := by rw [s.emit_emits k i p]
@[simp] theorem State.emit_glb (s : State) (k : EvKind) (i : Nat) (p : List Int) : (s.emit k i p).glb = s.glb := by rw [s.emit_emits k i p]
@[simp] theorem State.emit_adm (s : State) (k : EvKind) (i : Nat) (p : List Int) : (s.emit k i p).adm = s.adm := by rw [s.emit_emits k i p]
@[simp] theorem State.emit_dict (s : State) (k : EvKind) (i : Nat) (p : List Int) : (s.emit k i p).dict = s.dict := by rw [s.emit_emits k i p]
@[simp] theorem State.emit_store (s : State) (k : EvKind) (i : Nat) (p : List Int) : (s.emit k i p).store = s.store := by rw [s.emit_emits k i p]
@[simp] theorem State.emit_prot (s : State) (k : EvKind) (i : Nat) (p : List Int) : (s.emit k i p).prot = s.prot := by rw [s.emit_emits k i p]
@[simp] theorem State.emit_udpPort (s : State) (k : EvKind) (i : Nat) (p : List Int) : (s.emit k i p).udpPort = s.udpPort := by rw [s.emit_emits k i p]
@[simp] theorem State.emit_udpPorts (s : State) (k : EvKind) (i : Nat) (p : List Int) : (s.emit k i p).udpPorts = s.udpPorts := by rw [s.emit_emits k i p]
@[simp] theorem State.emit_pending (s : State) (k : EvKind) (i : Nat) (p : List Int) : (s.emit k i p).pending = s.pending := by rw [s.emit_emits k i p]
@[simp] theorem State.emit_ctx (s : State) (k : EvKind) (i : Nat) (p : List Int) (j : Nat) : (s.emit k i p).ctx j = s.ctx j := by
  rw [s.emit_emits k i p]; rfl
@[simp] theorem State.emit_chan (s : State) (k : EvKind) (i : Nat) (p : List Int) (j : Nat) : (s.emit k i p).chan j = s.chan j := by
  rw [s.emit_emits k i p]; rfl
@[simp] theorem State.emit_salvo (s : State) (k : EvKind) (i : Nat) (p : List Int) (j : Nat) : (s.emit k i p).salvo j = s.salvo j := by
  rw [s.emit_emits k i p]; rfl
@[simp] theorem State.emit_lane (s : State) (k : EvKind) (i : Nat) (p : List Int) (j : Nat) : (s.emit k i p).lane j = s.lane j := by
  rw [s.emit_emits k i p]; rfl
@[simp] theorem State.emit_core (s : State) (k : EvKind) (i : Nat) (p : List Int) (j : Nat) : (s.emit k i p).core j = s.core j := by
  rw [s.emit_emits k i p]; rfl
@[simp] theorem State.emit_head (s : State) (k : EvKind) (i : Nat) (p : List Int) (j : Nat) : (s.emit k i p).head j = s.head j := by
  rw [s.emit_emits k i p]; rfl
@[simp] theorem State.emit_sheet (s : State) (k : EvKind) (i : Nat) (p : List Int) (j : Nat) : (s.emit k i p).sheet j = s.sheet j := by
  rw [s.emit_emits k i p]; rfl
@[simp] theorem State.emit_engine (s : State) (k : EvKind) (i : Nat) (p : List Int) (j : Nat) : (s.emit k i p).engine j = s.engine j := by
  rw [s.emit_emits k i p]; rfl
@[simp] theorem State.emit_unitSlots (s : State) (k : EvKind) (i : Nat) (p : List Int) (j : Nat) : (s.emit k i p).unitSlots j = s.unitSlots j := by
  rw [s.emit_emits k i p]; rfl
@[simp] theorem State.emit_surf (s : State) (k : EvKind) (i : Nat) (p : List Int) (j : Nat) : (s.emit k i p).surf j = s.surf j := by
  rw [s.emit_emits k i p]; rfl
@[simp] theorem State.emit_reg (s : State) (k : EvKind) (i : Nat) (p : List Int) (j : Nat) : (s.emit k i p).reg j = s.reg j := by
  rw [s.emit_emits k i p]; rfl

/-! ### The records -/

theorem State.signalVec_events (s : State) (n v : Nat) : (s.signalVec n v).events = s.events := by
  unfold State.signalVec
  dsimp only
  split
  · rfl
  · split <;> rfl

theorem State.evqSignal_events (s : State) (n : Nat) : (s.evqSignal n).events = s.events := by
  unfold State.evqSignal
  dsimp only
  split
  · rw [State.signalVec_events]; rfl
  · rfl

theorem State.ringWrite_events (s : State) (n : Nat) (k : EvKind) (i t : Nat) (p : List Int) :
    (s.ringWrite n k i t p).events = s.events := by
  unfold State.ringWrite
  extract_lets key q s1 j e
  have h : s1.events = s.events := rfl
  clear_value s1
  split
  · rw [State.evqSignal_events]; exact h
  · exact h

theorem State.ringEmit_events (s : State) (n : Nat) (k : EvKind) (i t : Nat) (p : List Int) :
    ∃ l, (s.ringEmit n k i t p).events = s.events ++ l := by
  unfold State.ringEmit State.payLost
  dsimp only
  rw [State.ringWrite_events]
  split
  · rw [State.ringWrite_events]; exact ⟨_, rfl⟩
  · exact ⟨[], by simp⟩

theorem State.ringsEmit_events (s : State) (k : EvKind) (i t : Nat) (p : List Int) (l : List Nat) :
    ∃ m, (s.ringsEmit k i t p l).events = s.events ++ m := by
  induction l generalizing s with
  | nil => exact ⟨[], by simp [State.ringsEmit]⟩
  | cons n ns ih =>
    unfold State.ringsEmit
    split
    · obtain ⟨a, ha⟩ := s.ringEmit_events n k i t p
      obtain ⟨b, hb⟩ := ih (s.ringEmit n k i t p)
      exact ⟨a ++ b, by rw [hb, ha, List.append_assoc]⟩
    · exact ih s

/-- Raising an event appends its record to the mediator's ring. -/
theorem State.emitAt_events (s : State) (k : EvKind) (i t : Nat) (p : List Int) :
    ∃ q l, (s.emitAt k i t p).events = s.events ++ ⟨k, i, q, t, p⟩ :: l := by
  unfold State.emitAt
  obtain ⟨m, hm⟩ := (s.medEmit k i t p).ringsEmit_events k i t p (keys s.insts)
  exact ⟨_, m, by rw [hm]; simp [State.medEmit]; rfl⟩

theorem State.emit_events (s : State) (k : EvKind) (i : Nat) (p : List Int) :
    ∃ q l, (s.emit k i p).events = s.events ++ ⟨k, i, q, s.now, p⟩ :: l := s.emitAt_events ..

end Sys2Proof.Machine
end

