-- ==== Sys2Proof/Laws/Counts.lean ====
section
/-! SUPPORT. Counting writes the counters' registers, the programmable counters and the slot counts; nothing else. -/

namespace Sys2Proof.Machine

/-- `t` differs from `s` only in the registers, the programmable counters and the slot counts. -/
def CountsOnly (s t : State) : Prop := t = { s with regs := t.regs, progs := t.progs, slots := t.slots }

theorem CountsOnly.refl (s : State) : CountsOnly s s := (rfl)

theorem CountsOnly.trans {a b c : State} (h : CountsOnly a b) (g : CountsOnly b c) : CountsOnly a c := by
  unfold CountsOnly at *
  rw [g, h]

theorem CountsOnly.ite {s a b : State} {c : Prop} [Decidable c] (h : CountsOnly s a) (g : CountsOnly s b) :
    CountsOnly s (if c then a else b) := by
  split <;> assumption

theorem State.setReg_counts (s : State) (o v : Nat) : CountsOnly s (s.setReg o v) := (rfl)
theorem State.setSlots_counts (s : State) (n : Nat) (x : Slots) : CountsOnly s (s.setSlots n x) := (rfl)
theorem State.unitOvf_counts (s : State) (u n : Nat) : CountsOnly s (s.unitOvf u n) := (rfl)

theorem State.chCount_counts (s : State) (c i n : Nat) : CountsOnly s (s.chCount c i n) := by
  unfold State.chCount
  exact .ite rfl rfl

theorem State.headCount_counts (s : State) (h i n : Nat) : CountsOnly s (s.headCount h i n) := by
  unfold State.headCount
  exact .ite rfl rfl

theorem State.progAdd_counts (s : State) (u i n : Nat) : CountsOnly s (s.progAdd u i n) := by
  unfold State.progAdd
  exact .ite rfl rfl

theorem State.pmc_counts (s : State) (u code n : Nat) : CountsOnly s (s.pmc u code n) := by
  unfold State.pmc
  generalize List.range 8 = l
  induction l generalizing s with
  | nil => rfl
  | cons i l ih =>
    rw [List.foldl_cons]
    exact .trans (.ite (s.progAdd_counts ..) (.refl _)) (ih _)

theorem State.addSlots_counts (s : State) (u : Nat) (c : SlotClass) (n : Nat) : CountsOnly s (s.addSlots u c n) := by
  cases c <;> simp only [State.addSlots]
  all_goals (repeat' split) <;> rfl

theorem State.endWork_counts (s : State) (u : Nat) (r : Bool) : CountsOnly s (s.endWork u r) := by
  simp only [State.endWork]
  (repeat' split) <;> rfl

theorem State.slotsTo_counts (s : State) (u : Nat) (c : SlotClass) (why : Nat) : CountsOnly s (s.slotsTo u c why) := by
  unfold State.slotsTo
  dsimp only
  have h := (s.setSlots_counts u { s.unitSlots u with since := s.time.lct }).trans
    (State.addSlots_counts _ u c (slotsUpTo u s.time.lct - slotsUpTo u (s.unitSlots u).since))
  exact .ite (h.trans (State.pmc_counts ..)) h

theorem State.stallSlots_counts (s : State) (u code n : Nat) : CountsOnly s (s.stallSlots u code n) :=
  ((s.setSlots_counts ..).trans (State.addSlots_counts ..)).trans (State.pmc_counts ..)

theorem State.syncCore_counts (s : State) (k : Nat) : CountsOnly s (s.syncCore k) := s.slotsTo_counts ..
theorem State.syncRec_counts (s : State) (k : Nat) : CountsOnly s (s.syncRec k) := s.slotsTo_counts ..
theorem State.syncEngine_counts (s : State) (k : Nat) : CountsOnly s (s.syncEngine k) := s.slotsTo_counts ..

theorem State.syncDma_counts (s : State) : CountsOnly s s.syncDma := by
  unfold State.syncDma
  exact .ite (s.slotsTo_counts ..) (.ite (s.slotsTo_counts ..) (s.slotsTo_counts ..))

theorem State.syncHead_counts (s : State) (h : Nat) : CountsOnly s (s.syncHead h) := by
  unfold State.syncHead
  extract_lets x c n cy s1 s2 f s3
  have h1 : CountsOnly s s1 := rfl
  have h2 : CountsOnly s s2 := .ite (h1.trans (s1.unitOvf_counts ..)) h1
  have h3 : CountsOnly s s3 := .ite (h2.trans (s2.pmc_counts ..)) h2
  exact .ite (h3.trans (s3.pmc_counts ..)) h3

theorem State.syncUnit_counts (s : State) (u : Nat) : CountsOnly s (s.syncUnit u) := by
  unfold State.syncUnit
  exact .ite (s.syncCore_counts ..) (.ite (s.syncEngine_counts ..) (.ite (s.syncRec_counts ..)
    (.ite (s.syncHead_counts ..) s.syncDma_counts)))

theorem State.stalls_counts (s : State) (u : Nat) (l : List (Nat × Nat)) :
    CountsOnly s (l.foldl (fun s p => s.stallSlots u p.1 p.2) s) := by
  induction l generalizing s with
  | nil => rfl
  | cons p l ih => exact .trans (s.stallSlots_counts ..) (ih _)

theorem State.blockSlots_counts (s : State) (l : List (Nat × Nat)) (rd wr : Nat) (kept : Bool) :
    CountsOnly s (s.blockSlots l rd wr kept) :=
  (((s.syncDma_counts.trans (State.stalls_counts ..)).trans (State.endWork_counts ..)).trans (State.pmc_counts ..)).trans
    (State.pmc_counts ..)

theorem State.recSlots_counts (s : State) (k : Nat) (l : List (Nat × Nat)) (w : Nat) : CountsOnly s (s.recSlots k l w) :=
  (((((s.syncRec_counts k).trans (State.stalls_counts ..)).trans (State.setSlots_counts ..)).trans (State.endWork_counts ..)).trans
    (State.setSlots_counts ..)).trans (State.endWork_counts ..)

@[simp] theorem State.pmc_time (s : State) (u c n : Nat) : (s.pmc u c n).time = s.time := by rw [s.pmc_counts u c n]
@[simp] theorem State.pmc_mode (s : State) (u c n : Nat) : (s.pmc u c n).mode = s.mode := by rw [s.pmc_counts u c n]
@[simp] theorem State.pmc_aon (s : State) (u c n : Nat) : (s.pmc u c n).aon = s.aon := by rw [s.pmc_counts u c n]
@[simp] theorem State.pmc_latches (s : State) (u c n : Nat) : (s.pmc u c n).latches = s.latches := by rw [s.pmc_counts u c n]
@[simp] theorem State.pmc_readData (s : State) (u c n : Nat) : (s.pmc u c n).readData = s.readData := by rw [s.pmc_counts u c n]
@[simp] theorem State.pmc_dram (s : State) (u c n : Nat) : (s.pmc u c n).dram = s.dram := by rw [s.pmc_counts u c n]
@[simp] theorem State.pmc_events (s : State) (u c n : Nat) : (s.pmc u c n).events = s.events := by rw [s.pmc_counts u c n]
@[simp] theorem State.pmc_eventSeq (s : State) (u c n : Nat) : (s.pmc u c n).eventSeq = s.eventSeq := by rw [s.pmc_counts u c n]
@[simp] theorem State.pmc_sent (s : State) (u c n : Nat) : (s.pmc u c n).sent = s.sent := by rw [s.pmc_counts u c n]
@[simp] theorem State.pmc_chans (s : State) (u c n : Nat) : (s.pmc u c n).chans = s.chans := by rw [s.pmc_counts u c n]
@[simp] theorem State.pmc_ctxs (s : State) (u c n : Nat) : (s.pmc u c n).ctxs = s.ctxs := by rw [s.pmc_counts u c n]
@[simp] theorem State.pmc_salvos (s : State) (u c n : Nat) : (s.pmc u c n).salvos = s.salvos := by rw [s.pmc_counts u c n]
@[simp] theorem State.pmc_bonds (s : State) (u c n : Nat) : (s.pmc u c n).bonds = s.bonds := by rw [s.pmc_counts u c n]
@[simp] theorem State.pmc_lanes (s : State) (u c n : Nat) : (s.pmc u c n).lanes = s.lanes := by rw [s.pmc_counts u c n]
@[simp] theorem State.pmc_cruiseSeq (s : State) (u c n : Nat) : (s.pmc u c n).cruiseSeq = s.cruiseSeq := by rw [s.pmc_counts u c n]
@[simp] theorem State.pmc_cruiseLast (s : State) (u c n : Nat) : (s.pmc u c n).cruiseLast = s.cruiseLast := by rw [s.pmc_counts u c n]
@[simp] theorem State.pmc_cores (s : State) (u c n : Nat) : (s.pmc u c n).cores = s.cores := by rw [s.pmc_counts u c n]
@[simp] theorem State.pmc_packing (s : State) (u c n : Nat) : (s.pmc u c n).packing = s.packing := by rw [s.pmc_counts u c n]
@[simp] theorem State.pmc_heads (s : State) (u c n : Nat) : (s.pmc u c n).heads = s.heads := by rw [s.pmc_counts u c n]
@[simp] theorem State.pmc_sheets (s : State) (u c n : Nat) : (s.pmc u c n).sheets = s.sheets := by rw [s.pmc_counts u c n]
@[simp] theorem State.pmc_engines (s : State) (u c n : Nat) : (s.pmc u c n).engines = s.engines := by rw [s.pmc_counts u c n]
@[simp] theorem State.pmc_win (s : State) (u c n : Nat) : (s.pmc u c n).win = s.win := by rw [s.pmc_counts u c n]
@[simp] theorem State.pmc_safe (s : State) (u c n : Nat) : (s.pmc u c n).safe = s.safe := by rw [s.pmc_counts u c n]
@[simp] theorem State.pmc_insts (s : State) (u c n : Nat) : (s.pmc u c n).insts = s.insts := by rw [s.pmc_counts u c n]
@[simp] theorem State.pmc_surfs (s : State) (u c n : Nat) : (s.pmc u c n).surfs = s.surfs := by rw [s.pmc_counts u c n]
@[simp] theorem State.pmc_dma (s : State) (u c n : Nat) : (s.pmc u c n).dma = s.dma := by rw [s.pmc_counts u c n]
@[simp] theorem State.pmc_atc (s : State) (u c n : Nat) : (s.pmc u c n).atc = s.atc := by rw [s.pmc_counts u c n]
@[simp] theorem State.pmc_console (s : State) (u c n : Nat) : (s.pmc u c n).console = s.console := by rw [s.pmc_counts u c n]
@[simp] theorem State.pmc_recs (s : State) (u c n : Nat) : (s.pmc u c n).recs = s.recs := by rw [s.pmc_counts u c n]
@[simp] theorem State.pmc_recCores (s : State) (u c n : Nat) : (s.pmc u c n).recCores = s.recCores := by rw [s.pmc_counts u c n]
@[simp] theorem State.pmc_pair (s : State) (u c n : Nat) : (s.pmc u c n).pair = s.pair := by rw [s.pmc_counts u c n]
@[simp] theorem State.pmc_board (s : State) (u c n : Nat) : (s.pmc u c n).board = s.board := by rw [s.pmc_counts u c n]
@[simp] theorem State.pmc_prov (s : State) (u c n : Nat) : (s.pmc u c n).prov = s.prov := by rw [s.pmc_counts u c n]
@[simp] theorem State.pmc_glb (s : State) (u c n : Nat) : (s.pmc u c n).glb = s.glb := by rw [s.pmc_counts u c n]
@[simp] theorem State.pmc_adm (s : State) (u c n : Nat) : (s.pmc u c n).adm = s.adm := by rw [s.pmc_counts u c n]
@[simp] theorem State.pmc_dict (s : State) (u c n : Nat) : (s.pmc u c n).dict = s.dict := by rw [s.pmc_counts u c n]
@[simp] theorem State.pmc_store (s : State) (u c n : Nat) : (s.pmc u c n).store = s.store := by rw [s.pmc_counts u c n]
@[simp] theorem State.pmc_prot (s : State) (u c n : Nat) : (s.pmc u c n).prot = s.prot := by rw [s.pmc_counts u c n]
@[simp] theorem State.pmc_udpPort (s : State) (u c n : Nat) : (s.pmc u c n).udpPort = s.udpPort := by rw [s.pmc_counts u c n]
@[simp] theorem State.pmc_udpPorts (s : State) (u c n : Nat) : (s.pmc u c n).udpPorts = s.udpPorts := by rw [s.pmc_counts u c n]
@[simp] theorem State.pmc_pending (s : State) (u c n : Nat) : (s.pmc u c n).pending = s.pending := by rw [s.pmc_counts u c n]
@[simp] theorem State.pmc_ctx (s : State) (u c n : Nat) (j : Nat) : (s.pmc u c n).ctx j = s.ctx j := by
  rw [s.pmc_counts u c n]; rfl
@[simp] theorem State.pmc_chan (s : State) (u c n : Nat) (j : Nat) : (s.pmc u c n).chan j = s.chan j := by
  rw [s.pmc_counts u c n]; rfl
@[simp] theorem State.pmc_salvo (s : State) (u c n : Nat) (j : Nat) : (s.pmc u c n).salvo j = s.salvo j := by
  rw [s.pmc_counts u c n]; rfl
@[simp] theorem State.pmc_lane (s : State) (u c n : Nat) (j : Nat) : (s.pmc u c n).lane j = s.lane j := by
  rw [s.pmc_counts u c n]; rfl
@[simp] theorem State.pmc_core (s : State) (u c n : Nat) (j : Nat) : (s.pmc u c n).core j = s.core j := by
  rw [s.pmc_counts u c n]; rfl
@[simp] theorem State.pmc_head (s : State) (u c n : Nat) (j : Nat) : (s.pmc u c n).head j = s.head j := by
  rw [s.pmc_counts u c n]; rfl
@[simp] theorem State.pmc_sheet (s : State) (u c n : Nat) (j : Nat) : (s.pmc u c n).sheet j = s.sheet j := by
  rw [s.pmc_counts u c n]; rfl
@[simp] theorem State.pmc_engine (s : State) (u c n : Nat) (j : Nat) : (s.pmc u c n).engine j = s.engine j := by
  rw [s.pmc_counts u c n]; rfl
@[simp] theorem State.pmc_inst (s : State) (u c n : Nat) (j : Nat) : (s.pmc u c n).inst j = s.inst j := by
  rw [s.pmc_counts u c n]; rfl
@[simp] theorem State.pmc_surf (s : State) (u c n : Nat) (j : Nat) : (s.pmc u c n).surf j = s.surf j := by
  rw [s.pmc_counts u c n]; rfl
@[simp] theorem State.endWork_time (s : State) (u : Nat) (r : Bool) : (s.endWork u r).time = s.time := by rw [s.endWork_counts u r]
@[simp] theorem State.endWork_mode (s : State) (u : Nat) (r : Bool) : (s.endWork u r).mode = s.mode := by rw [s.endWork_counts u r]
@[simp] theorem State.endWork_aon (s : State) (u : Nat) (r : Bool) : (s.endWork u r).aon = s.aon := by rw [s.endWork_counts u r]
@[simp] theorem State.endWork_latches (s : State) (u : Nat) (r : Bool) : (s.endWork u r).latches = s.latches := by rw [s.endWork_counts u r]
@[simp] theorem State.endWork_readData (s : State) (u : Nat) (r : Bool) : (s.endWork u r).readData = s.readData := by rw [s.endWork_counts u r]
@[simp] theorem State.endWork_dram (s : State) (u : Nat) (r : Bool) : (s.endWork u r).dram = s.dram := by rw [s.endWork_counts u r]
@[simp] theorem State.endWork_events (s : State) (u : Nat) (r : Bool) : (s.endWork u r).events = s.events := by rw [s.endWork_counts u r]
@[simp] theorem State.endWork_eventSeq (s : State) (u : Nat) (r : Bool) : (s.endWork u r).eventSeq = s.eventSeq := by rw [s.endWork_counts u r]
@[simp] theorem State.endWork_sent (s : State) (u : Nat) (r : Bool) : (s.endWork u r).sent = s.sent := by rw [s.endWork_counts u r]
@[simp] theorem State.endWork_chans (s : State) (u : Nat) (r : Bool) : (s.endWork u r).chans = s.chans := by rw [s.endWork_counts u r]
@[simp] theorem State.endWork_ctxs (s : State) (u : Nat) (r : Bool) : (s.endWork u r).ctxs = s.ctxs := by rw [s.endWork_counts u r]
@[simp] theorem State.endWork_salvos (s : State) (u : Nat) (r : Bool) : (s.endWork u r).salvos = s.salvos := by rw [s.endWork_counts u r]
@[simp] theorem State.endWork_bonds (s : State) (u : Nat) (r : Bool) : (s.endWork u r).bonds = s.bonds := by rw [s.endWork_counts u r]
@[simp] theorem State.endWork_lanes (s : State) (u : Nat) (r : Bool) : (s.endWork u r).lanes = s.lanes := by rw [s.endWork_counts u r]
@[simp] theorem State.endWork_cruiseSeq (s : State) (u : Nat) (r : Bool) : (s.endWork u r).cruiseSeq = s.cruiseSeq := by rw [s.endWork_counts u r]
@[simp] theorem State.endWork_cruiseLast (s : State) (u : Nat) (r : Bool) : (s.endWork u r).cruiseLast = s.cruiseLast := by rw [s.endWork_counts u r]
@[simp] theorem State.endWork_cores (s : State) (u : Nat) (r : Bool) : (s.endWork u r).cores = s.cores := by rw [s.endWork_counts u r]
@[simp] theorem State.endWork_packing (s : State) (u : Nat) (r : Bool) : (s.endWork u r).packing = s.packing := by rw [s.endWork_counts u r]
@[simp] theorem State.endWork_heads (s : State) (u : Nat) (r : Bool) : (s.endWork u r).heads = s.heads := by rw [s.endWork_counts u r]
@[simp] theorem State.endWork_sheets (s : State) (u : Nat) (r : Bool) : (s.endWork u r).sheets = s.sheets := by rw [s.endWork_counts u r]
@[simp] theorem State.endWork_engines (s : State) (u : Nat) (r : Bool) : (s.endWork u r).engines = s.engines := by rw [s.endWork_counts u r]
@[simp] theorem State.endWork_win (s : State) (u : Nat) (r : Bool) : (s.endWork u r).win = s.win := by rw [s.endWork_counts u r]
@[simp] theorem State.endWork_safe (s : State) (u : Nat) (r : Bool) : (s.endWork u r).safe = s.safe := by rw [s.endWork_counts u r]
@[simp] theorem State.endWork_insts (s : State) (u : Nat) (r : Bool) : (s.endWork u r).insts = s.insts := by rw [s.endWork_counts u r]
@[simp] theorem State.endWork_surfs (s : State) (u : Nat) (r : Bool) : (s.endWork u r).surfs = s.surfs := by rw [s.endWork_counts u r]
@[simp] theorem State.endWork_dma (s : State) (u : Nat) (r : Bool) : (s.endWork u r).dma = s.dma := by rw [s.endWork_counts u r]
@[simp] theorem State.endWork_atc (s : State) (u : Nat) (r : Bool) : (s.endWork u r).atc = s.atc := by rw [s.endWork_counts u r]
@[simp] theorem State.endWork_console (s : State) (u : Nat) (r : Bool) : (s.endWork u r).console = s.console := by rw [s.endWork_counts u r]
@[simp] theorem State.endWork_recs (s : State) (u : Nat) (r : Bool) : (s.endWork u r).recs = s.recs := by rw [s.endWork_counts u r]
@[simp] theorem State.endWork_recCores (s : State) (u : Nat) (r : Bool) : (s.endWork u r).recCores = s.recCores := by rw [s.endWork_counts u r]
@[simp] theorem State.endWork_pair (s : State) (u : Nat) (r : Bool) : (s.endWork u r).pair = s.pair := by rw [s.endWork_counts u r]
@[simp] theorem State.endWork_board (s : State) (u : Nat) (r : Bool) : (s.endWork u r).board = s.board := by rw [s.endWork_counts u r]
@[simp] theorem State.endWork_prov (s : State) (u : Nat) (r : Bool) : (s.endWork u r).prov = s.prov := by rw [s.endWork_counts u r]
@[simp] theorem State.endWork_glb (s : State) (u : Nat) (r : Bool) : (s.endWork u r).glb = s.glb := by rw [s.endWork_counts u r]
@[simp] theorem State.endWork_adm (s : State) (u : Nat) (r : Bool) : (s.endWork u r).adm = s.adm := by rw [s.endWork_counts u r]
@[simp] theorem State.endWork_dict (s : State) (u : Nat) (r : Bool) : (s.endWork u r).dict = s.dict := by rw [s.endWork_counts u r]
@[simp] theorem State.endWork_store (s : State) (u : Nat) (r : Bool) : (s.endWork u r).store = s.store := by rw [s.endWork_counts u r]
@[simp] theorem State.endWork_prot (s : State) (u : Nat) (r : Bool) : (s.endWork u r).prot = s.prot := by rw [s.endWork_counts u r]
@[simp] theorem State.endWork_udpPort (s : State) (u : Nat) (r : Bool) : (s.endWork u r).udpPort = s.udpPort := by rw [s.endWork_counts u r]
@[simp] theorem State.endWork_udpPorts (s : State) (u : Nat) (r : Bool) : (s.endWork u r).udpPorts = s.udpPorts := by rw [s.endWork_counts u r]
@[simp] theorem State.endWork_pending (s : State) (u : Nat) (r : Bool) : (s.endWork u r).pending = s.pending := by rw [s.endWork_counts u r]
@[simp] theorem State.endWork_ctx (s : State) (u : Nat) (r : Bool) (j : Nat) : (s.endWork u r).ctx j = s.ctx j := by
  rw [s.endWork_counts u r]; rfl
@[simp] theorem State.endWork_chan (s : State) (u : Nat) (r : Bool) (j : Nat) : (s.endWork u r).chan j = s.chan j := by
  rw [s.endWork_counts u r]; rfl
@[simp] theorem State.endWork_salvo (s : State) (u : Nat) (r : Bool) (j : Nat) : (s.endWork u r).salvo j = s.salvo j := by
  rw [s.endWork_counts u r]; rfl
@[simp] theorem State.endWork_lane (s : State) (u : Nat) (r : Bool) (j : Nat) : (s.endWork u r).lane j = s.lane j := by
  rw [s.endWork_counts u r]; rfl
@[simp] theorem State.endWork_core (s : State) (u : Nat) (r : Bool) (j : Nat) : (s.endWork u r).core j = s.core j := by
  rw [s.endWork_counts u r]; rfl
@[simp] theorem State.endWork_head (s : State) (u : Nat) (r : Bool) (j : Nat) : (s.endWork u r).head j = s.head j := by
  rw [s.endWork_counts u r]; rfl
@[simp] theorem State.endWork_sheet (s : State) (u : Nat) (r : Bool) (j : Nat) : (s.endWork u r).sheet j = s.sheet j := by
  rw [s.endWork_counts u r]; rfl
@[simp] theorem State.endWork_engine (s : State) (u : Nat) (r : Bool) (j : Nat) : (s.endWork u r).engine j = s.engine j := by
  rw [s.endWork_counts u r]; rfl
@[simp] theorem State.endWork_inst (s : State) (u : Nat) (r : Bool) (j : Nat) : (s.endWork u r).inst j = s.inst j := by
  rw [s.endWork_counts u r]; rfl
@[simp] theorem State.endWork_surf (s : State) (u : Nat) (r : Bool) (j : Nat) : (s.endWork u r).surf j = s.surf j := by
  rw [s.endWork_counts u r]; rfl
@[simp] theorem State.stallSlots_time (s : State) (u c n : Nat) : (s.stallSlots u c n).time = s.time := by rw [s.stallSlots_counts u c n]
@[simp] theorem State.stallSlots_mode (s : State) (u c n : Nat) : (s.stallSlots u c n).mode = s.mode := by rw [s.stallSlots_counts u c n]
@[simp] theorem State.stallSlots_aon (s : State) (u c n : Nat) : (s.stallSlots u c n).aon = s.aon := by rw [s.stallSlots_counts u c n]
@[simp] theorem State.stallSlots_latches (s : State) (u c n : Nat) : (s.stallSlots u c n).latches = s.latches := by rw [s.stallSlots_counts u c n]
@[simp] theorem State.stallSlots_readData (s : State) (u c n : Nat) : (s.stallSlots u c n).readData = s.readData := by rw [s.stallSlots_counts u c n]
@[simp] theorem State.stallSlots_dram (s : State) (u c n : Nat) : (s.stallSlots u c n).dram = s.dram := by rw [s.stallSlots_counts u c n]
@[simp] theorem State.stallSlots_events (s : State) (u c n : Nat) : (s.stallSlots u c n).events = s.events := by rw [s.stallSlots_counts u c n]
@[simp] theorem State.stallSlots_eventSeq (s : State) (u c n : Nat) : (s.stallSlots u c n).eventSeq = s.eventSeq := by rw [s.stallSlots_counts u c n]
@[simp] theorem State.stallSlots_sent (s : State) (u c n : Nat) : (s.stallSlots u c n).sent = s.sent := by rw [s.stallSlots_counts u c n]
@[simp] theorem State.stallSlots_chans (s : State) (u c n : Nat) : (s.stallSlots u c n).chans = s.chans := by rw [s.stallSlots_counts u c n]
@[simp] theorem State.stallSlots_ctxs (s : State) (u c n : Nat) : (s.stallSlots u c n).ctxs = s.ctxs := by rw [s.stallSlots_counts u c n]
@[simp] theorem State.stallSlots_salvos (s : State) (u c n : Nat) : (s.stallSlots u c n).salvos = s.salvos := by rw [s.stallSlots_counts u c n]
@[simp] theorem State.stallSlots_bonds (s : State) (u c n : Nat) : (s.stallSlots u c n).bonds = s.bonds := by rw [s.stallSlots_counts u c n]
@[simp] theorem State.stallSlots_lanes (s : State) (u c n : Nat) : (s.stallSlots u c n).lanes = s.lanes := by rw [s.stallSlots_counts u c n]
@[simp] theorem State.stallSlots_cruiseSeq (s : State) (u c n : Nat) : (s.stallSlots u c n).cruiseSeq = s.cruiseSeq := by rw [s.stallSlots_counts u c n]
@[simp] theorem State.stallSlots_cruiseLast (s : State) (u c n : Nat) : (s.stallSlots u c n).cruiseLast = s.cruiseLast := by rw [s.stallSlots_counts u c n]
@[simp] theorem State.stallSlots_cores (s : State) (u c n : Nat) : (s.stallSlots u c n).cores = s.cores := by rw [s.stallSlots_counts u c n]
@[simp] theorem State.stallSlots_packing (s : State) (u c n : Nat) : (s.stallSlots u c n).packing = s.packing := by rw [s.stallSlots_counts u c n]
@[simp] theorem State.stallSlots_heads (s : State) (u c n : Nat) : (s.stallSlots u c n).heads = s.heads := by rw [s.stallSlots_counts u c n]
@[simp] theorem State.stallSlots_sheets (s : State) (u c n : Nat) : (s.stallSlots u c n).sheets = s.sheets := by rw [s.stallSlots_counts u c n]
@[simp] theorem State.stallSlots_engines (s : State) (u c n : Nat) : (s.stallSlots u c n).engines = s.engines := by rw [s.stallSlots_counts u c n]
@[simp] theorem State.stallSlots_win (s : State) (u c n : Nat) : (s.stallSlots u c n).win = s.win := by rw [s.stallSlots_counts u c n]
@[simp] theorem State.stallSlots_safe (s : State) (u c n : Nat) : (s.stallSlots u c n).safe = s.safe := by rw [s.stallSlots_counts u c n]
@[simp] theorem State.stallSlots_insts (s : State) (u c n : Nat) : (s.stallSlots u c n).insts = s.insts := by rw [s.stallSlots_counts u c n]
@[simp] theorem State.stallSlots_surfs (s : State) (u c n : Nat) : (s.stallSlots u c n).surfs = s.surfs := by rw [s.stallSlots_counts u c n]
@[simp] theorem State.stallSlots_dma (s : State) (u c n : Nat) : (s.stallSlots u c n).dma = s.dma := by rw [s.stallSlots_counts u c n]
@[simp] theorem State.stallSlots_atc (s : State) (u c n : Nat) : (s.stallSlots u c n).atc = s.atc := by rw [s.stallSlots_counts u c n]
@[simp] theorem State.stallSlots_console (s : State) (u c n : Nat) : (s.stallSlots u c n).console = s.console := by rw [s.stallSlots_counts u c n]
@[simp] theorem State.stallSlots_recs (s : State) (u c n : Nat) : (s.stallSlots u c n).recs = s.recs := by rw [s.stallSlots_counts u c n]
@[simp] theorem State.stallSlots_recCores (s : State) (u c n : Nat) : (s.stallSlots u c n).recCores = s.recCores := by rw [s.stallSlots_counts u c n]
@[simp] theorem State.stallSlots_pair (s : State) (u c n : Nat) : (s.stallSlots u c n).pair = s.pair := by rw [s.stallSlots_counts u c n]
@[simp] theorem State.stallSlots_board (s : State) (u c n : Nat) : (s.stallSlots u c n).board = s.board := by rw [s.stallSlots_counts u c n]
@[simp] theorem State.stallSlots_prov (s : State) (u c n : Nat) : (s.stallSlots u c n).prov = s.prov := by rw [s.stallSlots_counts u c n]
@[simp] theorem State.stallSlots_glb (s : State) (u c n : Nat) : (s.stallSlots u c n).glb = s.glb := by rw [s.stallSlots_counts u c n]
@[simp] theorem State.stallSlots_adm (s : State) (u c n : Nat) : (s.stallSlots u c n).adm = s.adm := by rw [s.stallSlots_counts u c n]
@[simp] theorem State.stallSlots_dict (s : State) (u c n : Nat) : (s.stallSlots u c n).dict = s.dict := by rw [s.stallSlots_counts u c n]
@[simp] theorem State.stallSlots_store (s : State) (u c n : Nat) : (s.stallSlots u c n).store = s.store := by rw [s.stallSlots_counts u c n]
@[simp] theorem State.stallSlots_prot (s : State) (u c n : Nat) : (s.stallSlots u c n).prot = s.prot := by rw [s.stallSlots_counts u c n]
@[simp] theorem State.stallSlots_udpPort (s : State) (u c n : Nat) : (s.stallSlots u c n).udpPort = s.udpPort := by rw [s.stallSlots_counts u c n]
@[simp] theorem State.stallSlots_udpPorts (s : State) (u c n : Nat) : (s.stallSlots u c n).udpPorts = s.udpPorts := by rw [s.stallSlots_counts u c n]
@[simp] theorem State.stallSlots_pending (s : State) (u c n : Nat) : (s.stallSlots u c n).pending = s.pending := by rw [s.stallSlots_counts u c n]
@[simp] theorem State.stallSlots_ctx (s : State) (u c n : Nat) (j : Nat) : (s.stallSlots u c n).ctx j = s.ctx j := by
  rw [s.stallSlots_counts u c n]; rfl
@[simp] theorem State.stallSlots_chan (s : State) (u c n : Nat) (j : Nat) : (s.stallSlots u c n).chan j = s.chan j := by
  rw [s.stallSlots_counts u c n]; rfl
@[simp] theorem State.stallSlots_salvo (s : State) (u c n : Nat) (j : Nat) : (s.stallSlots u c n).salvo j = s.salvo j := by
  rw [s.stallSlots_counts u c n]; rfl
@[simp] theorem State.stallSlots_lane (s : State) (u c n : Nat) (j : Nat) : (s.stallSlots u c n).lane j = s.lane j := by
  rw [s.stallSlots_counts u c n]; rfl
@[simp] theorem State.stallSlots_core (s : State) (u c n : Nat) (j : Nat) : (s.stallSlots u c n).core j = s.core j := by
  rw [s.stallSlots_counts u c n]; rfl
@[simp] theorem State.stallSlots_head (s : State) (u c n : Nat) (j : Nat) : (s.stallSlots u c n).head j = s.head j := by
  rw [s.stallSlots_counts u c n]; rfl
@[simp] theorem State.stallSlots_sheet (s : State) (u c n : Nat) (j : Nat) : (s.stallSlots u c n).sheet j = s.sheet j := by
  rw [s.stallSlots_counts u c n]; rfl
@[simp] theorem State.stallSlots_engine (s : State) (u c n : Nat) (j : Nat) : (s.stallSlots u c n).engine j = s.engine j := by
  rw [s.stallSlots_counts u c n]; rfl
@[simp] theorem State.stallSlots_inst (s : State) (u c n : Nat) (j : Nat) : (s.stallSlots u c n).inst j = s.inst j := by
  rw [s.stallSlots_counts u c n]; rfl
@[simp] theorem State.stallSlots_surf (s : State) (u c n : Nat) (j : Nat) : (s.stallSlots u c n).surf j = s.surf j := by
  rw [s.stallSlots_counts u c n]; rfl
@[simp] theorem State.syncCore_time (s : State) (k : Nat) : (s.syncCore k).time = s.time := by rw [s.syncCore_counts k]
@[simp] theorem State.syncCore_mode (s : State) (k : Nat) : (s.syncCore k).mode = s.mode := by rw [s.syncCore_counts k]
@[simp] theorem State.syncCore_aon (s : State) (k : Nat) : (s.syncCore k).aon = s.aon := by rw [s.syncCore_counts k]
@[simp] theorem State.syncCore_latches (s : State) (k : Nat) : (s.syncCore k).latches = s.latches := by rw [s.syncCore_counts k]
@[simp] theorem State.syncCore_readData (s : State) (k : Nat) : (s.syncCore k).readData = s.readData := by rw [s.syncCore_counts k]
@[simp] theorem State.syncCore_dram (s : State) (k : Nat) : (s.syncCore k).dram = s.dram := by rw [s.syncCore_counts k]
@[simp] theorem State.syncCore_events (s : State) (k : Nat) : (s.syncCore k).events = s.events := by rw [s.syncCore_counts k]
@[simp] theorem State.syncCore_eventSeq (s : State) (k : Nat) : (s.syncCore k).eventSeq = s.eventSeq := by rw [s.syncCore_counts k]
@[simp] theorem State.syncCore_sent (s : State) (k : Nat) : (s.syncCore k).sent = s.sent := by rw [s.syncCore_counts k]
@[simp] theorem State.syncCore_chans (s : State) (k : Nat) : (s.syncCore k).chans = s.chans := by rw [s.syncCore_counts k]
@[simp] theorem State.syncCore_ctxs (s : State) (k : Nat) : (s.syncCore k).ctxs = s.ctxs := by rw [s.syncCore_counts k]
@[simp] theorem State.syncCore_salvos (s : State) (k : Nat) : (s.syncCore k).salvos = s.salvos := by rw [s.syncCore_counts k]
@[simp] theorem State.syncCore_bonds (s : State) (k : Nat) : (s.syncCore k).bonds = s.bonds := by rw [s.syncCore_counts k]
@[simp] theorem State.syncCore_lanes (s : State) (k : Nat) : (s.syncCore k).lanes = s.lanes := by rw [s.syncCore_counts k]
@[simp] theorem State.syncCore_cruiseSeq (s : State) (k : Nat) : (s.syncCore k).cruiseSeq = s.cruiseSeq := by rw [s.syncCore_counts k]
@[simp] theorem State.syncCore_cruiseLast (s : State) (k : Nat) : (s.syncCore k).cruiseLast = s.cruiseLast := by rw [s.syncCore_counts k]
@[simp] theorem State.syncCore_cores (s : State) (k : Nat) : (s.syncCore k).cores = s.cores := by rw [s.syncCore_counts k]
@[simp] theorem State.syncCore_packing (s : State) (k : Nat) : (s.syncCore k).packing = s.packing := by rw [s.syncCore_counts k]
@[simp] theorem State.syncCore_heads (s : State) (k : Nat) : (s.syncCore k).heads = s.heads := by rw [s.syncCore_counts k]
@[simp] theorem State.syncCore_sheets (s : State) (k : Nat) : (s.syncCore k).sheets = s.sheets := by rw [s.syncCore_counts k]
@[simp] theorem State.syncCore_engines (s : State) (k : Nat) : (s.syncCore k).engines = s.engines := by rw [s.syncCore_counts k]
@[simp] theorem State.syncCore_win (s : State) (k : Nat) : (s.syncCore k).win = s.win := by rw [s.syncCore_counts k]
@[simp] theorem State.syncCore_safe (s : State) (k : Nat) : (s.syncCore k).safe = s.safe := by rw [s.syncCore_counts k]
@[simp] theorem State.syncCore_insts (s : State) (k : Nat) : (s.syncCore k).insts = s.insts := by rw [s.syncCore_counts k]
@[simp] theorem State.syncCore_surfs (s : State) (k : Nat) : (s.syncCore k).surfs = s.surfs := by rw [s.syncCore_counts k]
@[simp] theorem State.syncCore_dma (s : State) (k : Nat) : (s.syncCore k).dma = s.dma := by rw [s.syncCore_counts k]
@[simp] theorem State.syncCore_atc (s : State) (k : Nat) : (s.syncCore k).atc = s.atc := by rw [s.syncCore_counts k]
@[simp] theorem State.syncCore_console (s : State) (k : Nat) : (s.syncCore k).console = s.console := by rw [s.syncCore_counts k]
@[simp] theorem State.syncCore_recs (s : State) (k : Nat) : (s.syncCore k).recs = s.recs := by rw [s.syncCore_counts k]
@[simp] theorem State.syncCore_recCores (s : State) (k : Nat) : (s.syncCore k).recCores = s.recCores := by rw [s.syncCore_counts k]
@[simp] theorem State.syncCore_pair (s : State) (k : Nat) : (s.syncCore k).pair = s.pair := by rw [s.syncCore_counts k]
@[simp] theorem State.syncCore_board (s : State) (k : Nat) : (s.syncCore k).board = s.board := by rw [s.syncCore_counts k]
@[simp] theorem State.syncCore_prov (s : State) (k : Nat) : (s.syncCore k).prov = s.prov := by rw [s.syncCore_counts k]
@[simp] theorem State.syncCore_glb (s : State) (k : Nat) : (s.syncCore k).glb = s.glb := by rw [s.syncCore_counts k]
@[simp] theorem State.syncCore_adm (s : State) (k : Nat) : (s.syncCore k).adm = s.adm := by rw [s.syncCore_counts k]
@[simp] theorem State.syncCore_dict (s : State) (k : Nat) : (s.syncCore k).dict = s.dict := by rw [s.syncCore_counts k]
@[simp] theorem State.syncCore_store (s : State) (k : Nat) : (s.syncCore k).store = s.store := by rw [s.syncCore_counts k]
@[simp] theorem State.syncCore_prot (s : State) (k : Nat) : (s.syncCore k).prot = s.prot := by rw [s.syncCore_counts k]
@[simp] theorem State.syncCore_udpPort (s : State) (k : Nat) : (s.syncCore k).udpPort = s.udpPort := by rw [s.syncCore_counts k]
@[simp] theorem State.syncCore_udpPorts (s : State) (k : Nat) : (s.syncCore k).udpPorts = s.udpPorts := by rw [s.syncCore_counts k]
@[simp] theorem State.syncCore_pending (s : State) (k : Nat) : (s.syncCore k).pending = s.pending := by rw [s.syncCore_counts k]
@[simp] theorem State.syncCore_ctx (s : State) (k : Nat) (j : Nat) : (s.syncCore k).ctx j = s.ctx j := by
  rw [s.syncCore_counts k]; rfl
@[simp] theorem State.syncCore_chan (s : State) (k : Nat) (j : Nat) : (s.syncCore k).chan j = s.chan j := by
  rw [s.syncCore_counts k]; rfl
@[simp] theorem State.syncCore_salvo (s : State) (k : Nat) (j : Nat) : (s.syncCore k).salvo j = s.salvo j := by
  rw [s.syncCore_counts k]; rfl
@[simp] theorem State.syncCore_lane (s : State) (k : Nat) (j : Nat) : (s.syncCore k).lane j = s.lane j := by
  rw [s.syncCore_counts k]; rfl
@[simp] theorem State.syncCore_core (s : State) (k : Nat) (j : Nat) : (s.syncCore k).core j = s.core j := by
  rw [s.syncCore_counts k]; rfl
@[simp] theorem State.syncCore_head (s : State) (k : Nat) (j : Nat) : (s.syncCore k).head j = s.head j := by
  rw [s.syncCore_counts k]; rfl
@[simp] theorem State.syncCore_sheet (s : State) (k : Nat) (j : Nat) : (s.syncCore k).sheet j = s.sheet j := by
  rw [s.syncCore_counts k]; rfl
@[simp] theorem State.syncCore_engine (s : State) (k : Nat) (j : Nat) : (s.syncCore k).engine j = s.engine j := by
  rw [s.syncCore_counts k]; rfl
@[simp] theorem State.syncCore_inst (s : State) (k : Nat) (j : Nat) : (s.syncCore k).inst j = s.inst j := by
  rw [s.syncCore_counts k]; rfl
@[simp] theorem State.syncCore_surf (s : State) (k : Nat) (j : Nat) : (s.syncCore k).surf j = s.surf j := by
  rw [s.syncCore_counts k]; rfl
@[simp] theorem State.syncRec_time (s : State) (k : Nat) : (s.syncRec k).time = s.time := by rw [s.syncRec_counts k]
@[simp] theorem State.syncRec_mode (s : State) (k : Nat) : (s.syncRec k).mode = s.mode := by rw [s.syncRec_counts k]
@[simp] theorem State.syncRec_aon (s : State) (k : Nat) : (s.syncRec k).aon = s.aon := by rw [s.syncRec_counts k]
@[simp] theorem State.syncRec_latches (s : State) (k : Nat) : (s.syncRec k).latches = s.latches := by rw [s.syncRec_counts k]
@[simp] theorem State.syncRec_readData (s : State) (k : Nat) : (s.syncRec k).readData = s.readData := by rw [s.syncRec_counts k]
@[simp] theorem State.syncRec_dram (s : State) (k : Nat) : (s.syncRec k).dram = s.dram := by rw [s.syncRec_counts k]
@[simp] theorem State.syncRec_events (s : State) (k : Nat) : (s.syncRec k).events = s.events := by rw [s.syncRec_counts k]
@[simp] theorem State.syncRec_eventSeq (s : State) (k : Nat) : (s.syncRec k).eventSeq = s.eventSeq := by rw [s.syncRec_counts k]
@[simp] theorem State.syncRec_sent (s : State) (k : Nat) : (s.syncRec k).sent = s.sent := by rw [s.syncRec_counts k]
@[simp] theorem State.syncRec_chans (s : State) (k : Nat) : (s.syncRec k).chans = s.chans := by rw [s.syncRec_counts k]
@[simp] theorem State.syncRec_ctxs (s : State) (k : Nat) : (s.syncRec k).ctxs = s.ctxs := by rw [s.syncRec_counts k]
@[simp] theorem State.syncRec_salvos (s : State) (k : Nat) : (s.syncRec k).salvos = s.salvos := by rw [s.syncRec_counts k]
@[simp] theorem State.syncRec_bonds (s : State) (k : Nat) : (s.syncRec k).bonds = s.bonds := by rw [s.syncRec_counts k]
@[simp] theorem State.syncRec_lanes (s : State) (k : Nat) : (s.syncRec k).lanes = s.lanes := by rw [s.syncRec_counts k]
@[simp] theorem State.syncRec_cruiseSeq (s : State) (k : Nat) : (s.syncRec k).cruiseSeq = s.cruiseSeq := by rw [s.syncRec_counts k]
@[simp] theorem State.syncRec_cruiseLast (s : State) (k : Nat) : (s.syncRec k).cruiseLast = s.cruiseLast := by rw [s.syncRec_counts k]
@[simp] theorem State.syncRec_cores (s : State) (k : Nat) : (s.syncRec k).cores = s.cores := by rw [s.syncRec_counts k]
@[simp] theorem State.syncRec_packing (s : State) (k : Nat) : (s.syncRec k).packing = s.packing := by rw [s.syncRec_counts k]
@[simp] theorem State.syncRec_heads (s : State) (k : Nat) : (s.syncRec k).heads = s.heads := by rw [s.syncRec_counts k]
@[simp] theorem State.syncRec_sheets (s : State) (k : Nat) : (s.syncRec k).sheets = s.sheets := by rw [s.syncRec_counts k]
@[simp] theorem State.syncRec_engines (s : State) (k : Nat) : (s.syncRec k).engines = s.engines := by rw [s.syncRec_counts k]
@[simp] theorem State.syncRec_win (s : State) (k : Nat) : (s.syncRec k).win = s.win := by rw [s.syncRec_counts k]
@[simp] theorem State.syncRec_safe (s : State) (k : Nat) : (s.syncRec k).safe = s.safe := by rw [s.syncRec_counts k]
@[simp] theorem State.syncRec_insts (s : State) (k : Nat) : (s.syncRec k).insts = s.insts := by rw [s.syncRec_counts k]
@[simp] theorem State.syncRec_surfs (s : State) (k : Nat) : (s.syncRec k).surfs = s.surfs := by rw [s.syncRec_counts k]
@[simp] theorem State.syncRec_dma (s : State) (k : Nat) : (s.syncRec k).dma = s.dma := by rw [s.syncRec_counts k]
@[simp] theorem State.syncRec_atc (s : State) (k : Nat) : (s.syncRec k).atc = s.atc := by rw [s.syncRec_counts k]
@[simp] theorem State.syncRec_console (s : State) (k : Nat) : (s.syncRec k).console = s.console := by rw [s.syncRec_counts k]
@[simp] theorem State.syncRec_recs (s : State) (k : Nat) : (s.syncRec k).recs = s.recs := by rw [s.syncRec_counts k]
@[simp] theorem State.syncRec_recCores (s : State) (k : Nat) : (s.syncRec k).recCores = s.recCores := by rw [s.syncRec_counts k]
@[simp] theorem State.syncRec_pair (s : State) (k : Nat) : (s.syncRec k).pair = s.pair := by rw [s.syncRec_counts k]
@[simp] theorem State.syncRec_board (s : State) (k : Nat) : (s.syncRec k).board = s.board := by rw [s.syncRec_counts k]
@[simp] theorem State.syncRec_prov (s : State) (k : Nat) : (s.syncRec k).prov = s.prov := by rw [s.syncRec_counts k]
@[simp] theorem State.syncRec_glb (s : State) (k : Nat) : (s.syncRec k).glb = s.glb := by rw [s.syncRec_counts k]
@[simp] theorem State.syncRec_adm (s : State) (k : Nat) : (s.syncRec k).adm = s.adm := by rw [s.syncRec_counts k]
@[simp] theorem State.syncRec_dict (s : State) (k : Nat) : (s.syncRec k).dict = s.dict := by rw [s.syncRec_counts k]
@[simp] theorem State.syncRec_store (s : State) (k : Nat) : (s.syncRec k).store = s.store := by rw [s.syncRec_counts k]
@[simp] theorem State.syncRec_prot (s : State) (k : Nat) : (s.syncRec k).prot = s.prot := by rw [s.syncRec_counts k]
@[simp] theorem State.syncRec_udpPort (s : State) (k : Nat) : (s.syncRec k).udpPort = s.udpPort := by rw [s.syncRec_counts k]
@[simp] theorem State.syncRec_udpPorts (s : State) (k : Nat) : (s.syncRec k).udpPorts = s.udpPorts := by rw [s.syncRec_counts k]
@[simp] theorem State.syncRec_pending (s : State) (k : Nat) : (s.syncRec k).pending = s.pending := by rw [s.syncRec_counts k]
@[simp] theorem State.syncRec_ctx (s : State) (k : Nat) (j : Nat) : (s.syncRec k).ctx j = s.ctx j := by
  rw [s.syncRec_counts k]; rfl
@[simp] theorem State.syncRec_chan (s : State) (k : Nat) (j : Nat) : (s.syncRec k).chan j = s.chan j := by
  rw [s.syncRec_counts k]; rfl
@[simp] theorem State.syncRec_salvo (s : State) (k : Nat) (j : Nat) : (s.syncRec k).salvo j = s.salvo j := by
  rw [s.syncRec_counts k]; rfl
@[simp] theorem State.syncRec_lane (s : State) (k : Nat) (j : Nat) : (s.syncRec k).lane j = s.lane j := by
  rw [s.syncRec_counts k]; rfl
@[simp] theorem State.syncRec_core (s : State) (k : Nat) (j : Nat) : (s.syncRec k).core j = s.core j := by
  rw [s.syncRec_counts k]; rfl
@[simp] theorem State.syncRec_head (s : State) (k : Nat) (j : Nat) : (s.syncRec k).head j = s.head j := by
  rw [s.syncRec_counts k]; rfl
@[simp] theorem State.syncRec_sheet (s : State) (k : Nat) (j : Nat) : (s.syncRec k).sheet j = s.sheet j := by
  rw [s.syncRec_counts k]; rfl
@[simp] theorem State.syncRec_engine (s : State) (k : Nat) (j : Nat) : (s.syncRec k).engine j = s.engine j := by
  rw [s.syncRec_counts k]; rfl
@[simp] theorem State.syncRec_inst (s : State) (k : Nat) (j : Nat) : (s.syncRec k).inst j = s.inst j := by
  rw [s.syncRec_counts k]; rfl
@[simp] theorem State.syncRec_surf (s : State) (k : Nat) (j : Nat) : (s.syncRec k).surf j = s.surf j := by
  rw [s.syncRec_counts k]; rfl
@[simp] theorem State.syncEngine_time (s : State) (k : Nat) : (s.syncEngine k).time = s.time := by rw [s.syncEngine_counts k]
@[simp] theorem State.syncEngine_mode (s : State) (k : Nat) : (s.syncEngine k).mode = s.mode := by rw [s.syncEngine_counts k]
@[simp] theorem State.syncEngine_aon (s : State) (k : Nat) : (s.syncEngine k).aon = s.aon := by rw [s.syncEngine_counts k]
@[simp] theorem State.syncEngine_latches (s : State) (k : Nat) : (s.syncEngine k).latches = s.latches := by rw [s.syncEngine_counts k]
@[simp] theorem State.syncEngine_readData (s : State) (k : Nat) : (s.syncEngine k).readData = s.readData := by rw [s.syncEngine_counts k]
@[simp] theorem State.syncEngine_dram (s : State) (k : Nat) : (s.syncEngine k).dram = s.dram := by rw [s.syncEngine_counts k]
@[simp] theorem State.syncEngine_events (s : State) (k : Nat) : (s.syncEngine k).events = s.events := by rw [s.syncEngine_counts k]
@[simp] theorem State.syncEngine_eventSeq (s : State) (k : Nat) : (s.syncEngine k).eventSeq = s.eventSeq := by rw [s.syncEngine_counts k]
@[simp] theorem State.syncEngine_sent (s : State) (k : Nat) : (s.syncEngine k).sent = s.sent := by rw [s.syncEngine_counts k]
@[simp] theorem State.syncEngine_chans (s : State) (k : Nat) : (s.syncEngine k).chans = s.chans := by rw [s.syncEngine_counts k]
@[simp] theorem State.syncEngine_ctxs (s : State) (k : Nat) : (s.syncEngine k).ctxs = s.ctxs := by rw [s.syncEngine_counts k]
@[simp] theorem State.syncEngine_salvos (s : State) (k : Nat) : (s.syncEngine k).salvos = s.salvos := by rw [s.syncEngine_counts k]
@[simp] theorem State.syncEngine_bonds (s : State) (k : Nat) : (s.syncEngine k).bonds = s.bonds := by rw [s.syncEngine_counts k]
@[simp] theorem State.syncEngine_lanes (s : State) (k : Nat) : (s.syncEngine k).lanes = s.lanes := by rw [s.syncEngine_counts k]
@[simp] theorem State.syncEngine_cruiseSeq (s : State) (k : Nat) : (s.syncEngine k).cruiseSeq = s.cruiseSeq := by rw [s.syncEngine_counts k]
@[simp] theorem State.syncEngine_cruiseLast (s : State) (k : Nat) : (s.syncEngine k).cruiseLast = s.cruiseLast := by rw [s.syncEngine_counts k]
@[simp] theorem State.syncEngine_cores (s : State) (k : Nat) : (s.syncEngine k).cores = s.cores := by rw [s.syncEngine_counts k]
@[simp] theorem State.syncEngine_packing (s : State) (k : Nat) : (s.syncEngine k).packing = s.packing := by rw [s.syncEngine_counts k]
@[simp] theorem State.syncEngine_heads (s : State) (k : Nat) : (s.syncEngine k).heads = s.heads := by rw [s.syncEngine_counts k]
@[simp] theorem State.syncEngine_sheets (s : State) (k : Nat) : (s.syncEngine k).sheets = s.sheets := by rw [s.syncEngine_counts k]
@[simp] theorem State.syncEngine_engines (s : State) (k : Nat) : (s.syncEngine k).engines = s.engines := by rw [s.syncEngine_counts k]
@[simp] theorem State.syncEngine_win (s : State) (k : Nat) : (s.syncEngine k).win = s.win := by rw [s.syncEngine_counts k]
@[simp] theorem State.syncEngine_safe (s : State) (k : Nat) : (s.syncEngine k).safe = s.safe := by rw [s.syncEngine_counts k]
@[simp] theorem State.syncEngine_insts (s : State) (k : Nat) : (s.syncEngine k).insts = s.insts := by rw [s.syncEngine_counts k]
@[simp] theorem State.syncEngine_surfs (s : State) (k : Nat) : (s.syncEngine k).surfs = s.surfs := by rw [s.syncEngine_counts k]
@[simp] theorem State.syncEngine_dma (s : State) (k : Nat) : (s.syncEngine k).dma = s.dma := by rw [s.syncEngine_counts k]
@[simp] theorem State.syncEngine_atc (s : State) (k : Nat) : (s.syncEngine k).atc = s.atc := by rw [s.syncEngine_counts k]
@[simp] theorem State.syncEngine_console (s : State) (k : Nat) : (s.syncEngine k).console = s.console := by rw [s.syncEngine_counts k]
@[simp] theorem State.syncEngine_recs (s : State) (k : Nat) : (s.syncEngine k).recs = s.recs := by rw [s.syncEngine_counts k]
@[simp] theorem State.syncEngine_recCores (s : State) (k : Nat) : (s.syncEngine k).recCores = s.recCores := by rw [s.syncEngine_counts k]
@[simp] theorem State.syncEngine_pair (s : State) (k : Nat) : (s.syncEngine k).pair = s.pair := by rw [s.syncEngine_counts k]
@[simp] theorem State.syncEngine_board (s : State) (k : Nat) : (s.syncEngine k).board = s.board := by rw [s.syncEngine_counts k]
@[simp] theorem State.syncEngine_prov (s : State) (k : Nat) : (s.syncEngine k).prov = s.prov := by rw [s.syncEngine_counts k]
@[simp] theorem State.syncEngine_glb (s : State) (k : Nat) : (s.syncEngine k).glb = s.glb := by rw [s.syncEngine_counts k]
@[simp] theorem State.syncEngine_adm (s : State) (k : Nat) : (s.syncEngine k).adm = s.adm := by rw [s.syncEngine_counts k]
@[simp] theorem State.syncEngine_dict (s : State) (k : Nat) : (s.syncEngine k).dict = s.dict := by rw [s.syncEngine_counts k]
@[simp] theorem State.syncEngine_store (s : State) (k : Nat) : (s.syncEngine k).store = s.store := by rw [s.syncEngine_counts k]
@[simp] theorem State.syncEngine_prot (s : State) (k : Nat) : (s.syncEngine k).prot = s.prot := by rw [s.syncEngine_counts k]
@[simp] theorem State.syncEngine_udpPort (s : State) (k : Nat) : (s.syncEngine k).udpPort = s.udpPort := by rw [s.syncEngine_counts k]
@[simp] theorem State.syncEngine_udpPorts (s : State) (k : Nat) : (s.syncEngine k).udpPorts = s.udpPorts := by rw [s.syncEngine_counts k]
@[simp] theorem State.syncEngine_pending (s : State) (k : Nat) : (s.syncEngine k).pending = s.pending := by rw [s.syncEngine_counts k]
@[simp] theorem State.syncEngine_ctx (s : State) (k : Nat) (j : Nat) : (s.syncEngine k).ctx j = s.ctx j := by
  rw [s.syncEngine_counts k]; rfl
@[simp] theorem State.syncEngine_chan (s : State) (k : Nat) (j : Nat) : (s.syncEngine k).chan j = s.chan j := by
  rw [s.syncEngine_counts k]; rfl
@[simp] theorem State.syncEngine_salvo (s : State) (k : Nat) (j : Nat) : (s.syncEngine k).salvo j = s.salvo j := by
  rw [s.syncEngine_counts k]; rfl
@[simp] theorem State.syncEngine_lane (s : State) (k : Nat) (j : Nat) : (s.syncEngine k).lane j = s.lane j := by
  rw [s.syncEngine_counts k]; rfl
@[simp] theorem State.syncEngine_core (s : State) (k : Nat) (j : Nat) : (s.syncEngine k).core j = s.core j := by
  rw [s.syncEngine_counts k]; rfl
@[simp] theorem State.syncEngine_head (s : State) (k : Nat) (j : Nat) : (s.syncEngine k).head j = s.head j := by
  rw [s.syncEngine_counts k]; rfl
@[simp] theorem State.syncEngine_sheet (s : State) (k : Nat) (j : Nat) : (s.syncEngine k).sheet j = s.sheet j := by
  rw [s.syncEngine_counts k]; rfl
@[simp] theorem State.syncEngine_engine (s : State) (k : Nat) (j : Nat) : (s.syncEngine k).engine j = s.engine j := by
  rw [s.syncEngine_counts k]; rfl
@[simp] theorem State.syncEngine_inst (s : State) (k : Nat) (j : Nat) : (s.syncEngine k).inst j = s.inst j := by
  rw [s.syncEngine_counts k]; rfl
@[simp] theorem State.syncEngine_surf (s : State) (k : Nat) (j : Nat) : (s.syncEngine k).surf j = s.surf j := by
  rw [s.syncEngine_counts k]; rfl
@[simp] theorem State.syncHead_time (s : State) (h : Nat) : (s.syncHead h).time = s.time := by rw [s.syncHead_counts h]
@[simp] theorem State.syncHead_mode (s : State) (h : Nat) : (s.syncHead h).mode = s.mode := by rw [s.syncHead_counts h]
@[simp] theorem State.syncHead_aon (s : State) (h : Nat) : (s.syncHead h).aon = s.aon := by rw [s.syncHead_counts h]
@[simp] theorem State.syncHead_latches (s : State) (h : Nat) : (s.syncHead h).latches = s.latches := by rw [s.syncHead_counts h]
@[simp] theorem State.syncHead_readData (s : State) (h : Nat) : (s.syncHead h).readData = s.readData := by rw [s.syncHead_counts h]
@[simp] theorem State.syncHead_dram (s : State) (h : Nat) : (s.syncHead h).dram = s.dram := by rw [s.syncHead_counts h]
@[simp] theorem State.syncHead_events (s : State) (h : Nat) : (s.syncHead h).events = s.events := by rw [s.syncHead_counts h]
@[simp] theorem State.syncHead_eventSeq (s : State) (h : Nat) : (s.syncHead h).eventSeq = s.eventSeq := by rw [s.syncHead_counts h]
@[simp] theorem State.syncHead_sent (s : State) (h : Nat) : (s.syncHead h).sent = s.sent := by rw [s.syncHead_counts h]
@[simp] theorem State.syncHead_chans (s : State) (h : Nat) : (s.syncHead h).chans = s.chans := by rw [s.syncHead_counts h]
@[simp] theorem State.syncHead_ctxs (s : State) (h : Nat) : (s.syncHead h).ctxs = s.ctxs := by rw [s.syncHead_counts h]
@[simp] theorem State.syncHead_salvos (s : State) (h : Nat) : (s.syncHead h).salvos = s.salvos := by rw [s.syncHead_counts h]
@[simp] theorem State.syncHead_bonds (s : State) (h : Nat) : (s.syncHead h).bonds = s.bonds := by rw [s.syncHead_counts h]
@[simp] theorem State.syncHead_lanes (s : State) (h : Nat) : (s.syncHead h).lanes = s.lanes := by rw [s.syncHead_counts h]
@[simp] theorem State.syncHead_cruiseSeq (s : State) (h : Nat) : (s.syncHead h).cruiseSeq = s.cruiseSeq := by rw [s.syncHead_counts h]
@[simp] theorem State.syncHead_cruiseLast (s : State) (h : Nat) : (s.syncHead h).cruiseLast = s.cruiseLast := by rw [s.syncHead_counts h]
@[simp] theorem State.syncHead_cores (s : State) (h : Nat) : (s.syncHead h).cores = s.cores := by rw [s.syncHead_counts h]
@[simp] theorem State.syncHead_packing (s : State) (h : Nat) : (s.syncHead h).packing = s.packing := by rw [s.syncHead_counts h]
@[simp] theorem State.syncHead_heads (s : State) (h : Nat) : (s.syncHead h).heads = s.heads := by rw [s.syncHead_counts h]
@[simp] theorem State.syncHead_sheets (s : State) (h : Nat) : (s.syncHead h).sheets = s.sheets := by rw [s.syncHead_counts h]
@[simp] theorem State.syncHead_engines (s : State) (h : Nat) : (s.syncHead h).engines = s.engines := by rw [s.syncHead_counts h]
@[simp] theorem State.syncHead_win (s : State) (h : Nat) : (s.syncHead h).win = s.win := by rw [s.syncHead_counts h]
@[simp] theorem State.syncHead_safe (s : State) (h : Nat) : (s.syncHead h).safe = s.safe := by rw [s.syncHead_counts h]
@[simp] theorem State.syncHead_insts (s : State) (h : Nat) : (s.syncHead h).insts = s.insts := by rw [s.syncHead_counts h]
@[simp] theorem State.syncHead_surfs (s : State) (h : Nat) : (s.syncHead h).surfs = s.surfs := by rw [s.syncHead_counts h]
@[simp] theorem State.syncHead_dma (s : State) (h : Nat) : (s.syncHead h).dma = s.dma := by rw [s.syncHead_counts h]
@[simp] theorem State.syncHead_atc (s : State) (h : Nat) : (s.syncHead h).atc = s.atc := by rw [s.syncHead_counts h]
@[simp] theorem State.syncHead_console (s : State) (h : Nat) : (s.syncHead h).console = s.console := by rw [s.syncHead_counts h]
@[simp] theorem State.syncHead_recs (s : State) (h : Nat) : (s.syncHead h).recs = s.recs := by rw [s.syncHead_counts h]
@[simp] theorem State.syncHead_recCores (s : State) (h : Nat) : (s.syncHead h).recCores = s.recCores := by rw [s.syncHead_counts h]
@[simp] theorem State.syncHead_pair (s : State) (h : Nat) : (s.syncHead h).pair = s.pair := by rw [s.syncHead_counts h]
@[simp] theorem State.syncHead_board (s : State) (h : Nat) : (s.syncHead h).board = s.board := by rw [s.syncHead_counts h]
@[simp] theorem State.syncHead_prov (s : State) (h : Nat) : (s.syncHead h).prov = s.prov := by rw [s.syncHead_counts h]
@[simp] theorem State.syncHead_glb (s : State) (h : Nat) : (s.syncHead h).glb = s.glb := by rw [s.syncHead_counts h]
@[simp] theorem State.syncHead_adm (s : State) (h : Nat) : (s.syncHead h).adm = s.adm := by rw [s.syncHead_counts h]
@[simp] theorem State.syncHead_dict (s : State) (h : Nat) : (s.syncHead h).dict = s.dict := by rw [s.syncHead_counts h]
@[simp] theorem State.syncHead_store (s : State) (h : Nat) : (s.syncHead h).store = s.store := by rw [s.syncHead_counts h]
@[simp] theorem State.syncHead_prot (s : State) (h : Nat) : (s.syncHead h).prot = s.prot := by rw [s.syncHead_counts h]
@[simp] theorem State.syncHead_udpPort (s : State) (h : Nat) : (s.syncHead h).udpPort = s.udpPort := by rw [s.syncHead_counts h]
@[simp] theorem State.syncHead_udpPorts (s : State) (h : Nat) : (s.syncHead h).udpPorts = s.udpPorts := by rw [s.syncHead_counts h]
@[simp] theorem State.syncHead_pending (s : State) (h : Nat) : (s.syncHead h).pending = s.pending := by rw [s.syncHead_counts h]
@[simp] theorem State.syncHead_ctx (s : State) (h : Nat) (j : Nat) : (s.syncHead h).ctx j = s.ctx j := by
  rw [s.syncHead_counts h]; rfl
@[simp] theorem State.syncHead_chan (s : State) (h : Nat) (j : Nat) : (s.syncHead h).chan j = s.chan j := by
  rw [s.syncHead_counts h]; rfl
@[simp] theorem State.syncHead_salvo (s : State) (h : Nat) (j : Nat) : (s.syncHead h).salvo j = s.salvo j := by
  rw [s.syncHead_counts h]; rfl
@[simp] theorem State.syncHead_lane (s : State) (h : Nat) (j : Nat) : (s.syncHead h).lane j = s.lane j := by
  rw [s.syncHead_counts h]; rfl
@[simp] theorem State.syncHead_core (s : State) (h : Nat) (j : Nat) : (s.syncHead h).core j = s.core j := by
  rw [s.syncHead_counts h]; rfl
@[simp] theorem State.syncHead_head (s : State) (h : Nat) (j : Nat) : (s.syncHead h).head j = s.head j := by
  rw [s.syncHead_counts h]; rfl
@[simp] theorem State.syncHead_sheet (s : State) (h : Nat) (j : Nat) : (s.syncHead h).sheet j = s.sheet j := by
  rw [s.syncHead_counts h]; rfl
@[simp] theorem State.syncHead_engine (s : State) (h : Nat) (j : Nat) : (s.syncHead h).engine j = s.engine j := by
  rw [s.syncHead_counts h]; rfl
@[simp] theorem State.syncHead_inst (s : State) (h : Nat) (j : Nat) : (s.syncHead h).inst j = s.inst j := by
  rw [s.syncHead_counts h]; rfl
@[simp] theorem State.syncHead_surf (s : State) (h : Nat) (j : Nat) : (s.syncHead h).surf j = s.surf j := by
  rw [s.syncHead_counts h]; rfl
@[simp] theorem State.syncDma_time (s : State) : s.syncDma.time = s.time := by rw [s.syncDma_counts ]
@[simp] theorem State.syncDma_mode (s : State) : s.syncDma.mode = s.mode := by rw [s.syncDma_counts ]
@[simp] theorem State.syncDma_aon (s : State) : s.syncDma.aon = s.aon := by rw [s.syncDma_counts ]
@[simp] theorem State.syncDma_latches (s : State) : s.syncDma.latches = s.latches := by rw [s.syncDma_counts ]
@[simp] theorem State.syncDma_readData (s : State) : s.syncDma.readData = s.readData := by rw [s.syncDma_counts ]
@[simp] theorem State.syncDma_dram (s : State) : s.syncDma.dram = s.dram := by rw [s.syncDma_counts ]
@[simp] theorem State.syncDma_events (s : State) : s.syncDma.events = s.events := by rw [s.syncDma_counts ]
@[simp] theorem State.syncDma_eventSeq (s : State) : s.syncDma.eventSeq = s.eventSeq := by rw [s.syncDma_counts ]
@[simp] theorem State.syncDma_sent (s : State) : s.syncDma.sent = s.sent := by rw [s.syncDma_counts ]
@[simp] theorem State.syncDma_chans (s : State) : s.syncDma.chans = s.chans := by rw [s.syncDma_counts ]
@[simp] theorem State.syncDma_ctxs (s : State) : s.syncDma.ctxs = s.ctxs := by rw [s.syncDma_counts ]
@[simp] theorem State.syncDma_salvos (s : State) : s.syncDma.salvos = s.salvos := by rw [s.syncDma_counts ]
@[simp] theorem State.syncDma_bonds (s : State) : s.syncDma.bonds = s.bonds := by rw [s.syncDma_counts ]
@[simp] theorem State.syncDma_lanes (s : State) : s.syncDma.lanes = s.lanes := by rw [s.syncDma_counts ]
@[simp] theorem State.syncDma_cruiseSeq (s : State) : s.syncDma.cruiseSeq = s.cruiseSeq := by rw [s.syncDma_counts ]
@[simp] theorem State.syncDma_cruiseLast (s : State) : s.syncDma.cruiseLast = s.cruiseLast := by rw [s.syncDma_counts ]
@[simp] theorem State.syncDma_cores (s : State) : s.syncDma.cores = s.cores := by rw [s.syncDma_counts ]
@[simp] theorem State.syncDma_packing (s : State) : s.syncDma.packing = s.packing := by rw [s.syncDma_counts ]
@[simp] theorem State.syncDma_heads (s : State) : s.syncDma.heads = s.heads := by rw [s.syncDma_counts ]
@[simp] theorem State.syncDma_sheets (s : State) : s.syncDma.sheets = s.sheets := by rw [s.syncDma_counts ]
@[simp] theorem State.syncDma_engines (s : State) : s.syncDma.engines = s.engines := by rw [s.syncDma_counts ]
@[simp] theorem State.syncDma_win (s : State) : s.syncDma.win = s.win := by rw [s.syncDma_counts ]
@[simp] theorem State.syncDma_safe (s : State) : s.syncDma.safe = s.safe := by rw [s.syncDma_counts ]
@[simp] theorem State.syncDma_insts (s : State) : s.syncDma.insts = s.insts := by rw [s.syncDma_counts ]
@[simp] theorem State.syncDma_surfs (s : State) : s.syncDma.surfs = s.surfs := by rw [s.syncDma_counts ]
@[simp] theorem State.syncDma_dma (s : State) : s.syncDma.dma = s.dma := by rw [s.syncDma_counts ]
@[simp] theorem State.syncDma_atc (s : State) : s.syncDma.atc = s.atc := by rw [s.syncDma_counts ]
@[simp] theorem State.syncDma_console (s : State) : s.syncDma.console = s.console := by rw [s.syncDma_counts ]
@[simp] theorem State.syncDma_recs (s : State) : s.syncDma.recs = s.recs := by rw [s.syncDma_counts ]
@[simp] theorem State.syncDma_recCores (s : State) : s.syncDma.recCores = s.recCores := by rw [s.syncDma_counts ]
@[simp] theorem State.syncDma_pair (s : State) : s.syncDma.pair = s.pair := by rw [s.syncDma_counts ]
@[simp] theorem State.syncDma_board (s : State) : s.syncDma.board = s.board := by rw [s.syncDma_counts ]
@[simp] theorem State.syncDma_prov (s : State) : s.syncDma.prov = s.prov := by rw [s.syncDma_counts ]
@[simp] theorem State.syncDma_glb (s : State) : s.syncDma.glb = s.glb := by rw [s.syncDma_counts ]
@[simp] theorem State.syncDma_adm (s : State) : s.syncDma.adm = s.adm := by rw [s.syncDma_counts ]
@[simp] theorem State.syncDma_dict (s : State) : s.syncDma.dict = s.dict := by rw [s.syncDma_counts ]
@[simp] theorem State.syncDma_store (s : State) : s.syncDma.store = s.store := by rw [s.syncDma_counts ]
@[simp] theorem State.syncDma_prot (s : State) : s.syncDma.prot = s.prot := by rw [s.syncDma_counts ]
@[simp] theorem State.syncDma_udpPort (s : State) : s.syncDma.udpPort = s.udpPort := by rw [s.syncDma_counts ]
@[simp] theorem State.syncDma_udpPorts (s : State) : s.syncDma.udpPorts = s.udpPorts := by rw [s.syncDma_counts ]
@[simp] theorem State.syncDma_pending (s : State) : s.syncDma.pending = s.pending := by rw [s.syncDma_counts ]
@[simp] theorem State.syncDma_ctx (s : State)  (j : Nat) : s.syncDma.ctx j = s.ctx j := by
  rw [s.syncDma_counts ]; rfl
@[simp] theorem State.syncDma_chan (s : State)  (j : Nat) : s.syncDma.chan j = s.chan j := by
  rw [s.syncDma_counts ]; rfl
@[simp] theorem State.syncDma_salvo (s : State)  (j : Nat) : s.syncDma.salvo j = s.salvo j := by
  rw [s.syncDma_counts ]; rfl
@[simp] theorem State.syncDma_lane (s : State)  (j : Nat) : s.syncDma.lane j = s.lane j := by
  rw [s.syncDma_counts ]; rfl
@[simp] theorem State.syncDma_core (s : State)  (j : Nat) : s.syncDma.core j = s.core j := by
  rw [s.syncDma_counts ]; rfl
@[simp] theorem State.syncDma_head (s : State)  (j : Nat) : s.syncDma.head j = s.head j := by
  rw [s.syncDma_counts ]; rfl
@[simp] theorem State.syncDma_sheet (s : State)  (j : Nat) : s.syncDma.sheet j = s.sheet j := by
  rw [s.syncDma_counts ]; rfl
@[simp] theorem State.syncDma_engine (s : State)  (j : Nat) : s.syncDma.engine j = s.engine j := by
  rw [s.syncDma_counts ]; rfl
@[simp] theorem State.syncDma_inst (s : State)  (j : Nat) : s.syncDma.inst j = s.inst j := by
  rw [s.syncDma_counts ]; rfl
@[simp] theorem State.syncDma_surf (s : State)  (j : Nat) : s.syncDma.surf j = s.surf j := by
  rw [s.syncDma_counts ]; rfl
@[simp] theorem State.syncUnit_time (s : State) (u : Nat) : (s.syncUnit u).time = s.time := by rw [s.syncUnit_counts u]
@[simp] theorem State.syncUnit_mode (s : State) (u : Nat) : (s.syncUnit u).mode = s.mode := by rw [s.syncUnit_counts u]
@[simp] theorem State.syncUnit_aon (s : State) (u : Nat) : (s.syncUnit u).aon = s.aon := by rw [s.syncUnit_counts u]
@[simp] theorem State.syncUnit_latches (s : State) (u : Nat) : (s.syncUnit u).latches = s.latches := by rw [s.syncUnit_counts u]
@[simp] theorem State.syncUnit_readData (s : State) (u : Nat) : (s.syncUnit u).readData = s.readData := by rw [s.syncUnit_counts u]
@[simp] theorem State.syncUnit_dram (s : State) (u : Nat) : (s.syncUnit u).dram = s.dram := by rw [s.syncUnit_counts u]
@[simp] theorem State.syncUnit_events (s : State) (u : Nat) : (s.syncUnit u).events = s.events := by rw [s.syncUnit_counts u]
@[simp] theorem State.syncUnit_eventSeq (s : State) (u : Nat) : (s.syncUnit u).eventSeq = s.eventSeq := by rw [s.syncUnit_counts u]
@[simp] theorem State.syncUnit_sent (s : State) (u : Nat) : (s.syncUnit u).sent = s.sent := by rw [s.syncUnit_counts u]
@[simp] theorem State.syncUnit_chans (s : State) (u : Nat) : (s.syncUnit u).chans = s.chans := by rw [s.syncUnit_counts u]
@[simp] theorem State.syncUnit_ctxs (s : State) (u : Nat) : (s.syncUnit u).ctxs = s.ctxs := by rw [s.syncUnit_counts u]
@[simp] theorem State.syncUnit_salvos (s : State) (u : Nat) : (s.syncUnit u).salvos = s.salvos := by rw [s.syncUnit_counts u]
@[simp] theorem State.syncUnit_bonds (s : State) (u : Nat) : (s.syncUnit u).bonds = s.bonds := by rw [s.syncUnit_counts u]
@[simp] theorem State.syncUnit_lanes (s : State) (u : Nat) : (s.syncUnit u).lanes = s.lanes := by rw [s.syncUnit_counts u]
@[simp] theorem State.syncUnit_cruiseSeq (s : State) (u : Nat) : (s.syncUnit u).cruiseSeq = s.cruiseSeq := by rw [s.syncUnit_counts u]
@[simp] theorem State.syncUnit_cruiseLast (s : State) (u : Nat) : (s.syncUnit u).cruiseLast = s.cruiseLast := by rw [s.syncUnit_counts u]
@[simp] theorem State.syncUnit_cores (s : State) (u : Nat) : (s.syncUnit u).cores = s.cores := by rw [s.syncUnit_counts u]
@[simp] theorem State.syncUnit_packing (s : State) (u : Nat) : (s.syncUnit u).packing = s.packing := by rw [s.syncUnit_counts u]
@[simp] theorem State.syncUnit_heads (s : State) (u : Nat) : (s.syncUnit u).heads = s.heads := by rw [s.syncUnit_counts u]
@[simp] theorem State.syncUnit_sheets (s : State) (u : Nat) : (s.syncUnit u).sheets = s.sheets := by rw [s.syncUnit_counts u]
@[simp] theorem State.syncUnit_engines (s : State) (u : Nat) : (s.syncUnit u).engines = s.engines := by rw [s.syncUnit_counts u]
@[simp] theorem State.syncUnit_win (s : State) (u : Nat) : (s.syncUnit u).win = s.win := by rw [s.syncUnit_counts u]
@[simp] theorem State.syncUnit_safe (s : State) (u : Nat) : (s.syncUnit u).safe = s.safe := by rw [s.syncUnit_counts u]
@[simp] theorem State.syncUnit_insts (s : State) (u : Nat) : (s.syncUnit u).insts = s.insts := by rw [s.syncUnit_counts u]
@[simp] theorem State.syncUnit_surfs (s : State) (u : Nat) : (s.syncUnit u).surfs = s.surfs := by rw [s.syncUnit_counts u]
@[simp] theorem State.syncUnit_dma (s : State) (u : Nat) : (s.syncUnit u).dma = s.dma := by rw [s.syncUnit_counts u]
@[simp] theorem State.syncUnit_atc (s : State) (u : Nat) : (s.syncUnit u).atc = s.atc := by rw [s.syncUnit_counts u]
@[simp] theorem State.syncUnit_console (s : State) (u : Nat) : (s.syncUnit u).console = s.console := by rw [s.syncUnit_counts u]
@[simp] theorem State.syncUnit_recs (s : State) (u : Nat) : (s.syncUnit u).recs = s.recs := by rw [s.syncUnit_counts u]
@[simp] theorem State.syncUnit_recCores (s : State) (u : Nat) : (s.syncUnit u).recCores = s.recCores := by rw [s.syncUnit_counts u]
@[simp] theorem State.syncUnit_pair (s : State) (u : Nat) : (s.syncUnit u).pair = s.pair := by rw [s.syncUnit_counts u]
@[simp] theorem State.syncUnit_board (s : State) (u : Nat) : (s.syncUnit u).board = s.board := by rw [s.syncUnit_counts u]
@[simp] theorem State.syncUnit_prov (s : State) (u : Nat) : (s.syncUnit u).prov = s.prov := by rw [s.syncUnit_counts u]
@[simp] theorem State.syncUnit_glb (s : State) (u : Nat) : (s.syncUnit u).glb = s.glb := by rw [s.syncUnit_counts u]
@[simp] theorem State.syncUnit_adm (s : State) (u : Nat) : (s.syncUnit u).adm = s.adm := by rw [s.syncUnit_counts u]
@[simp] theorem State.syncUnit_dict (s : State) (u : Nat) : (s.syncUnit u).dict = s.dict := by rw [s.syncUnit_counts u]
@[simp] theorem State.syncUnit_store (s : State) (u : Nat) : (s.syncUnit u).store = s.store := by rw [s.syncUnit_counts u]
@[simp] theorem State.syncUnit_prot (s : State) (u : Nat) : (s.syncUnit u).prot = s.prot := by rw [s.syncUnit_counts u]
@[simp] theorem State.syncUnit_udpPort (s : State) (u : Nat) : (s.syncUnit u).udpPort = s.udpPort := by rw [s.syncUnit_counts u]
@[simp] theorem State.syncUnit_udpPorts (s : State) (u : Nat) : (s.syncUnit u).udpPorts = s.udpPorts := by rw [s.syncUnit_counts u]
@[simp] theorem State.syncUnit_pending (s : State) (u : Nat) : (s.syncUnit u).pending = s.pending := by rw [s.syncUnit_counts u]
@[simp] theorem State.syncUnit_ctx (s : State) (u : Nat) (j : Nat) : (s.syncUnit u).ctx j = s.ctx j := by
  rw [s.syncUnit_counts u]; rfl
@[simp] theorem State.syncUnit_chan (s : State) (u : Nat) (j : Nat) : (s.syncUnit u).chan j = s.chan j := by
  rw [s.syncUnit_counts u]; rfl
@[simp] theorem State.syncUnit_salvo (s : State) (u : Nat) (j : Nat) : (s.syncUnit u).salvo j = s.salvo j := by
  rw [s.syncUnit_counts u]; rfl
@[simp] theorem State.syncUnit_lane (s : State) (u : Nat) (j : Nat) : (s.syncUnit u).lane j = s.lane j := by
  rw [s.syncUnit_counts u]; rfl
@[simp] theorem State.syncUnit_core (s : State) (u : Nat) (j : Nat) : (s.syncUnit u).core j = s.core j := by
  rw [s.syncUnit_counts u]; rfl
@[simp] theorem State.syncUnit_head (s : State) (u : Nat) (j : Nat) : (s.syncUnit u).head j = s.head j := by
  rw [s.syncUnit_counts u]; rfl
@[simp] theorem State.syncUnit_sheet (s : State) (u : Nat) (j : Nat) : (s.syncUnit u).sheet j = s.sheet j := by
  rw [s.syncUnit_counts u]; rfl
@[simp] theorem State.syncUnit_engine (s : State) (u : Nat) (j : Nat) : (s.syncUnit u).engine j = s.engine j := by
  rw [s.syncUnit_counts u]; rfl
@[simp] theorem State.syncUnit_inst (s : State) (u : Nat) (j : Nat) : (s.syncUnit u).inst j = s.inst j := by
  rw [s.syncUnit_counts u]; rfl
@[simp] theorem State.syncUnit_surf (s : State) (u : Nat) (j : Nat) : (s.syncUnit u).surf j = s.surf j := by
  rw [s.syncUnit_counts u]; rfl
@[simp] theorem State.blockSlots_time (s : State) (l : List (Nat × Nat)) (rd wr : Nat) (kept : Bool) : (s.blockSlots l rd wr kept).time = s.time := by rw [s.blockSlots_counts l rd wr kept]
@[simp] theorem State.blockSlots_mode (s : State) (l : List (Nat × Nat)) (rd wr : Nat) (kept : Bool) : (s.blockSlots l rd wr kept).mode = s.mode := by rw [s.blockSlots_counts l rd wr kept]
@[simp] theorem State.blockSlots_aon (s : State) (l : List (Nat × Nat)) (rd wr : Nat) (kept : Bool) : (s.blockSlots l rd wr kept).aon = s.aon := by rw [s.blockSlots_counts l rd wr kept]
@[simp] theorem State.blockSlots_latches (s : State) (l : List (Nat × Nat)) (rd wr : Nat) (kept : Bool) : (s.blockSlots l rd wr kept).latches = s.latches := by rw [s.blockSlots_counts l rd wr kept]
@[simp] theorem State.blockSlots_readData (s : State) (l : List (Nat × Nat)) (rd wr : Nat) (kept : Bool) : (s.blockSlots l rd wr kept).readData = s.readData := by rw [s.blockSlots_counts l rd wr kept]
@[simp] theorem State.blockSlots_dram (s : State) (l : List (Nat × Nat)) (rd wr : Nat) (kept : Bool) : (s.blockSlots l rd wr kept).dram = s.dram := by rw [s.blockSlots_counts l rd wr kept]
@[simp] theorem State.blockSlots_events (s : State) (l : List (Nat × Nat)) (rd wr : Nat) (kept : Bool) : (s.blockSlots l rd wr kept).events = s.events := by rw [s.blockSlots_counts l rd wr kept]
@[simp] theorem State.blockSlots_eventSeq (s : State) (l : List (Nat × Nat)) (rd wr : Nat) (kept : Bool) : (s.blockSlots l rd wr kept).eventSeq = s.eventSeq := by rw [s.blockSlots_counts l rd wr kept]
@[simp] theorem State.blockSlots_sent (s : State) (l : List (Nat × Nat)) (rd wr : Nat) (kept : Bool) : (s.blockSlots l rd wr kept).sent = s.sent := by rw [s.blockSlots_counts l rd wr kept]
@[simp] theorem State.blockSlots_chans (s : State) (l : List (Nat × Nat)) (rd wr : Nat) (kept : Bool) : (s.blockSlots l rd wr kept).chans = s.chans := by rw [s.blockSlots_counts l rd wr kept]
@[simp] theorem State.blockSlots_ctxs (s : State) (l : List (Nat × Nat)) (rd wr : Nat) (kept : Bool) : (s.blockSlots l rd wr kept).ctxs = s.ctxs := by rw [s.blockSlots_counts l rd wr kept]
@[simp] theorem State.blockSlots_salvos (s : State) (l : List (Nat × Nat)) (rd wr : Nat) (kept : Bool) : (s.blockSlots l rd wr kept).salvos = s.salvos := by rw [s.blockSlots_counts l rd wr kept]
@[simp] theorem State.blockSlots_bonds (s : State) (l : List (Nat × Nat)) (rd wr : Nat) (kept : Bool) : (s.blockSlots l rd wr kept).bonds = s.bonds := by rw [s.blockSlots_counts l rd wr kept]
@[simp] theorem State.blockSlots_lanes (s : State) (l : List (Nat × Nat)) (rd wr : Nat) (kept : Bool) : (s.blockSlots l rd wr kept).lanes = s.lanes := by rw [s.blockSlots_counts l rd wr kept]
@[simp] theorem State.blockSlots_cruiseSeq (s : State) (l : List (Nat × Nat)) (rd wr : Nat) (kept : Bool) : (s.blockSlots l rd wr kept).cruiseSeq = s.cruiseSeq := by rw [s.blockSlots_counts l rd wr kept]
@[simp] theorem State.blockSlots_cruiseLast (s : State) (l : List (Nat × Nat)) (rd wr : Nat) (kept : Bool) : (s.blockSlots l rd wr kept).cruiseLast = s.cruiseLast := by rw [s.blockSlots_counts l rd wr kept]
@[simp] theorem State.blockSlots_cores (s : State) (l : List (Nat × Nat)) (rd wr : Nat) (kept : Bool) : (s.blockSlots l rd wr kept).cores = s.cores := by rw [s.blockSlots_counts l rd wr kept]
@[simp] theorem State.blockSlots_packing (s : State) (l : List (Nat × Nat)) (rd wr : Nat) (kept : Bool) : (s.blockSlots l rd wr kept).packing = s.packing := by rw [s.blockSlots_counts l rd wr kept]
@[simp] theorem State.blockSlots_heads (s : State) (l : List (Nat × Nat)) (rd wr : Nat) (kept : Bool) : (s.blockSlots l rd wr kept).heads = s.heads := by rw [s.blockSlots_counts l rd wr kept]
@[simp] theorem State.blockSlots_sheets (s : State) (l : List (Nat × Nat)) (rd wr : Nat) (kept : Bool) : (s.blockSlots l rd wr kept).sheets = s.sheets := by rw [s.blockSlots_counts l rd wr kept]
@[simp] theorem State.blockSlots_engines (s : State) (l : List (Nat × Nat)) (rd wr : Nat) (kept : Bool) : (s.blockSlots l rd wr kept).engines = s.engines := by rw [s.blockSlots_counts l rd wr kept]
@[simp] theorem State.blockSlots_win (s : State) (l : List (Nat × Nat)) (rd wr : Nat) (kept : Bool) : (s.blockSlots l rd wr kept).win = s.win := by rw [s.blockSlots_counts l rd wr kept]
@[simp] theorem State.blockSlots_safe (s : State) (l : List (Nat × Nat)) (rd wr : Nat) (kept : Bool) : (s.blockSlots l rd wr kept).safe = s.safe := by rw [s.blockSlots_counts l rd wr kept]
@[simp] theorem State.blockSlots_insts (s : State) (l : List (Nat × Nat)) (rd wr : Nat) (kept : Bool) : (s.blockSlots l rd wr kept).insts = s.insts := by rw [s.blockSlots_counts l rd wr kept]
@[simp] theorem State.blockSlots_surfs (s : State) (l : List (Nat × Nat)) (rd wr : Nat) (kept : Bool) : (s.blockSlots l rd wr kept).surfs = s.surfs := by rw [s.blockSlots_counts l rd wr kept]
@[simp] theorem State.blockSlots_dma (s : State) (l : List (Nat × Nat)) (rd wr : Nat) (kept : Bool) : (s.blockSlots l rd wr kept).dma = s.dma := by rw [s.blockSlots_counts l rd wr kept]
@[simp] theorem State.blockSlots_atc (s : State) (l : List (Nat × Nat)) (rd wr : Nat) (kept : Bool) : (s.blockSlots l rd wr kept).atc = s.atc := by rw [s.blockSlots_counts l rd wr kept]
@[simp] theorem State.blockSlots_console (s : State) (l : List (Nat × Nat)) (rd wr : Nat) (kept : Bool) : (s.blockSlots l rd wr kept).console = s.console := by rw [s.blockSlots_counts l rd wr kept]
@[simp] theorem State.blockSlots_recs (s : State) (l : List (Nat × Nat)) (rd wr : Nat) (kept : Bool) : (s.blockSlots l rd wr kept).recs = s.recs := by rw [s.blockSlots_counts l rd wr kept]
@[simp] theorem State.blockSlots_recCores (s : State) (l : List (Nat × Nat)) (rd wr : Nat) (kept : Bool) : (s.blockSlots l rd wr kept).recCores = s.recCores := by rw [s.blockSlots_counts l rd wr kept]
@[simp] theorem State.blockSlots_pair (s : State) (l : List (Nat × Nat)) (rd wr : Nat) (kept : Bool) : (s.blockSlots l rd wr kept).pair = s.pair := by rw [s.blockSlots_counts l rd wr kept]
@[simp] theorem State.blockSlots_board (s : State) (l : List (Nat × Nat)) (rd wr : Nat) (kept : Bool) : (s.blockSlots l rd wr kept).board = s.board := by rw [s.blockSlots_counts l rd wr kept]
@[simp] theorem State.blockSlots_prov (s : State) (l : List (Nat × Nat)) (rd wr : Nat) (kept : Bool) : (s.blockSlots l rd wr kept).prov = s.prov := by rw [s.blockSlots_counts l rd wr kept]
@[simp] theorem State.blockSlots_glb (s : State) (l : List (Nat × Nat)) (rd wr : Nat) (kept : Bool) : (s.blockSlots l rd wr kept).glb = s.glb := by rw [s.blockSlots_counts l rd wr kept]
@[simp] theorem State.blockSlots_adm (s : State) (l : List (Nat × Nat)) (rd wr : Nat) (kept : Bool) : (s.blockSlots l rd wr kept).adm = s.adm := by rw [s.blockSlots_counts l rd wr kept]
@[simp] theorem State.blockSlots_dict (s : State) (l : List (Nat × Nat)) (rd wr : Nat) (kept : Bool) : (s.blockSlots l rd wr kept).dict = s.dict := by rw [s.blockSlots_counts l rd wr kept]
@[simp] theorem State.blockSlots_store (s : State) (l : List (Nat × Nat)) (rd wr : Nat) (kept : Bool) : (s.blockSlots l rd wr kept).store = s.store := by rw [s.blockSlots_counts l rd wr kept]
@[simp] theorem State.blockSlots_prot (s : State) (l : List (Nat × Nat)) (rd wr : Nat) (kept : Bool) : (s.blockSlots l rd wr kept).prot = s.prot := by rw [s.blockSlots_counts l rd wr kept]
@[simp] theorem State.blockSlots_udpPort (s : State) (l : List (Nat × Nat)) (rd wr : Nat) (kept : Bool) : (s.blockSlots l rd wr kept).udpPort = s.udpPort := by rw [s.blockSlots_counts l rd wr kept]
@[simp] theorem State.blockSlots_udpPorts (s : State) (l : List (Nat × Nat)) (rd wr : Nat) (kept : Bool) : (s.blockSlots l rd wr kept).udpPorts = s.udpPorts := by rw [s.blockSlots_counts l rd wr kept]
@[simp] theorem State.blockSlots_pending (s : State) (l : List (Nat × Nat)) (rd wr : Nat) (kept : Bool) : (s.blockSlots l rd wr kept).pending = s.pending := by rw [s.blockSlots_counts l rd wr kept]
@[simp] theorem State.blockSlots_ctx (s : State) (l : List (Nat × Nat)) (rd wr : Nat) (kept : Bool) (j : Nat) : (s.blockSlots l rd wr kept).ctx j = s.ctx j := by
  rw [s.blockSlots_counts l rd wr kept]; rfl
@[simp] theorem State.blockSlots_chan (s : State) (l : List (Nat × Nat)) (rd wr : Nat) (kept : Bool) (j : Nat) : (s.blockSlots l rd wr kept).chan j = s.chan j := by
  rw [s.blockSlots_counts l rd wr kept]; rfl
@[simp] theorem State.blockSlots_salvo (s : State) (l : List (Nat × Nat)) (rd wr : Nat) (kept : Bool) (j : Nat) : (s.blockSlots l rd wr kept).salvo j = s.salvo j := by
  rw [s.blockSlots_counts l rd wr kept]; rfl
@[simp] theorem State.blockSlots_lane (s : State) (l : List (Nat × Nat)) (rd wr : Nat) (kept : Bool) (j : Nat) : (s.blockSlots l rd wr kept).lane j = s.lane j := by
  rw [s.blockSlots_counts l rd wr kept]; rfl
@[simp] theorem State.blockSlots_core (s : State) (l : List (Nat × Nat)) (rd wr : Nat) (kept : Bool) (j : Nat) : (s.blockSlots l rd wr kept).core j = s.core j := by
  rw [s.blockSlots_counts l rd wr kept]; rfl
@[simp] theorem State.blockSlots_head (s : State) (l : List (Nat × Nat)) (rd wr : Nat) (kept : Bool) (j : Nat) : (s.blockSlots l rd wr kept).head j = s.head j := by
  rw [s.blockSlots_counts l rd wr kept]; rfl
@[simp] theorem State.blockSlots_sheet (s : State) (l : List (Nat × Nat)) (rd wr : Nat) (kept : Bool) (j : Nat) : (s.blockSlots l rd wr kept).sheet j = s.sheet j := by
  rw [s.blockSlots_counts l rd wr kept]; rfl
@[simp] theorem State.blockSlots_engine (s : State) (l : List (Nat × Nat)) (rd wr : Nat) (kept : Bool) (j : Nat) : (s.blockSlots l rd wr kept).engine j = s.engine j := by
  rw [s.blockSlots_counts l rd wr kept]; rfl
@[simp] theorem State.blockSlots_inst (s : State) (l : List (Nat × Nat)) (rd wr : Nat) (kept : Bool) (j : Nat) : (s.blockSlots l rd wr kept).inst j = s.inst j := by
  rw [s.blockSlots_counts l rd wr kept]; rfl
@[simp] theorem State.blockSlots_surf (s : State) (l : List (Nat × Nat)) (rd wr : Nat) (kept : Bool) (j : Nat) : (s.blockSlots l rd wr kept).surf j = s.surf j := by
  rw [s.blockSlots_counts l rd wr kept]; rfl
@[simp] theorem State.recSlots_time (s : State) (k : Nat) (l : List (Nat × Nat)) (w : Nat) : (s.recSlots k l w).time = s.time := by rw [s.recSlots_counts k l w]
@[simp] theorem State.recSlots_mode (s : State) (k : Nat) (l : List (Nat × Nat)) (w : Nat) : (s.recSlots k l w).mode = s.mode := by rw [s.recSlots_counts k l w]
@[simp] theorem State.recSlots_aon (s : State) (k : Nat) (l : List (Nat × Nat)) (w : Nat) : (s.recSlots k l w).aon = s.aon := by rw [s.recSlots_counts k l w]
@[simp] theorem State.recSlots_latches (s : State) (k : Nat) (l : List (Nat × Nat)) (w : Nat) : (s.recSlots k l w).latches = s.latches := by rw [s.recSlots_counts k l w]
@[simp] theorem State.recSlots_readData (s : State) (k : Nat) (l : List (Nat × Nat)) (w : Nat) : (s.recSlots k l w).readData = s.readData := by rw [s.recSlots_counts k l w]
@[simp] theorem State.recSlots_dram (s : State) (k : Nat) (l : List (Nat × Nat)) (w : Nat) : (s.recSlots k l w).dram = s.dram := by rw [s.recSlots_counts k l w]
@[simp] theorem State.recSlots_events (s : State) (k : Nat) (l : List (Nat × Nat)) (w : Nat) : (s.recSlots k l w).events = s.events := by rw [s.recSlots_counts k l w]
@[simp] theorem State.recSlots_eventSeq (s : State) (k : Nat) (l : List (Nat × Nat)) (w : Nat) : (s.recSlots k l w).eventSeq = s.eventSeq := by rw [s.recSlots_counts k l w]
@[simp] theorem State.recSlots_sent (s : State) (k : Nat) (l : List (Nat × Nat)) (w : Nat) : (s.recSlots k l w).sent = s.sent := by rw [s.recSlots_counts k l w]
@[simp] theorem State.recSlots_chans (s : State) (k : Nat) (l : List (Nat × Nat)) (w : Nat) : (s.recSlots k l w).chans = s.chans := by rw [s.recSlots_counts k l w]
@[simp] theorem State.recSlots_ctxs (s : State) (k : Nat) (l : List (Nat × Nat)) (w : Nat) : (s.recSlots k l w).ctxs = s.ctxs := by rw [s.recSlots_counts k l w]
@[simp] theorem State.recSlots_salvos (s : State) (k : Nat) (l : List (Nat × Nat)) (w : Nat) : (s.recSlots k l w).salvos = s.salvos := by rw [s.recSlots_counts k l w]
@[simp] theorem State.recSlots_bonds (s : State) (k : Nat) (l : List (Nat × Nat)) (w : Nat) : (s.recSlots k l w).bonds = s.bonds := by rw [s.recSlots_counts k l w]
@[simp] theorem State.recSlots_lanes (s : State) (k : Nat) (l : List (Nat × Nat)) (w : Nat) : (s.recSlots k l w).lanes = s.lanes := by rw [s.recSlots_counts k l w]
@[simp] theorem State.recSlots_cruiseSeq (s : State) (k : Nat) (l : List (Nat × Nat)) (w : Nat) : (s.recSlots k l w).cruiseSeq = s.cruiseSeq := by rw [s.recSlots_counts k l w]
@[simp] theorem State.recSlots_cruiseLast (s : State) (k : Nat) (l : List (Nat × Nat)) (w : Nat) : (s.recSlots k l w).cruiseLast = s.cruiseLast := by rw [s.recSlots_counts k l w]
@[simp] theorem State.recSlots_cores (s : State) (k : Nat) (l : List (Nat × Nat)) (w : Nat) : (s.recSlots k l w).cores = s.cores := by rw [s.recSlots_counts k l w]
@[simp] theorem State.recSlots_packing (s : State) (k : Nat) (l : List (Nat × Nat)) (w : Nat) : (s.recSlots k l w).packing = s.packing := by rw [s.recSlots_counts k l w]
@[simp] theorem State.recSlots_heads (s : State) (k : Nat) (l : List (Nat × Nat)) (w : Nat) : (s.recSlots k l w).heads = s.heads := by rw [s.recSlots_counts k l w]
@[simp] theorem State.recSlots_sheets (s : State) (k : Nat) (l : List (Nat × Nat)) (w : Nat) : (s.recSlots k l w).sheets = s.sheets := by rw [s.recSlots_counts k l w]
@[simp] theorem State.recSlots_engines (s : State) (k : Nat) (l : List (Nat × Nat)) (w : Nat) : (s.recSlots k l w).engines = s.engines := by rw [s.recSlots_counts k l w]
@[simp] theorem State.recSlots_win (s : State) (k : Nat) (l : List (Nat × Nat)) (w : Nat) : (s.recSlots k l w).win = s.win := by rw [s.recSlots_counts k l w]
@[simp] theorem State.recSlots_safe (s : State) (k : Nat) (l : List (Nat × Nat)) (w : Nat) : (s.recSlots k l w).safe = s.safe := by rw [s.recSlots_counts k l w]
@[simp] theorem State.recSlots_insts (s : State) (k : Nat) (l : List (Nat × Nat)) (w : Nat) : (s.recSlots k l w).insts = s.insts := by rw [s.recSlots_counts k l w]
@[simp] theorem State.recSlots_surfs (s : State) (k : Nat) (l : List (Nat × Nat)) (w : Nat) : (s.recSlots k l w).surfs = s.surfs := by rw [s.recSlots_counts k l w]
@[simp] theorem State.recSlots_dma (s : State) (k : Nat) (l : List (Nat × Nat)) (w : Nat) : (s.recSlots k l w).dma = s.dma := by rw [s.recSlots_counts k l w]
@[simp] theorem State.recSlots_atc (s : State) (k : Nat) (l : List (Nat × Nat)) (w : Nat) : (s.recSlots k l w).atc = s.atc := by rw [s.recSlots_counts k l w]
@[simp] theorem State.recSlots_console (s : State) (k : Nat) (l : List (Nat × Nat)) (w : Nat) : (s.recSlots k l w).console = s.console := by rw [s.recSlots_counts k l w]
@[simp] theorem State.recSlots_recs (s : State) (k : Nat) (l : List (Nat × Nat)) (w : Nat) : (s.recSlots k l w).recs = s.recs := by rw [s.recSlots_counts k l w]
@[simp] theorem State.recSlots_recCores (s : State) (k : Nat) (l : List (Nat × Nat)) (w : Nat) : (s.recSlots k l w).recCores = s.recCores := by rw [s.recSlots_counts k l w]
@[simp] theorem State.recSlots_pair (s : State) (k : Nat) (l : List (Nat × Nat)) (w : Nat) : (s.recSlots k l w).pair = s.pair := by rw [s.recSlots_counts k l w]
@[simp] theorem State.recSlots_board (s : State) (k : Nat) (l : List (Nat × Nat)) (w : Nat) : (s.recSlots k l w).board = s.board := by rw [s.recSlots_counts k l w]
@[simp] theorem State.recSlots_prov (s : State) (k : Nat) (l : List (Nat × Nat)) (w : Nat) : (s.recSlots k l w).prov = s.prov := by rw [s.recSlots_counts k l w]
@[simp] theorem State.recSlots_glb (s : State) (k : Nat) (l : List (Nat × Nat)) (w : Nat) : (s.recSlots k l w).glb = s.glb := by rw [s.recSlots_counts k l w]
@[simp] theorem State.recSlots_adm (s : State) (k : Nat) (l : List (Nat × Nat)) (w : Nat) : (s.recSlots k l w).adm = s.adm := by rw [s.recSlots_counts k l w]
@[simp] theorem State.recSlots_dict (s : State) (k : Nat) (l : List (Nat × Nat)) (w : Nat) : (s.recSlots k l w).dict = s.dict := by rw [s.recSlots_counts k l w]
@[simp] theorem State.recSlots_store (s : State) (k : Nat) (l : List (Nat × Nat)) (w : Nat) : (s.recSlots k l w).store = s.store := by rw [s.recSlots_counts k l w]
@[simp] theorem State.recSlots_prot (s : State) (k : Nat) (l : List (Nat × Nat)) (w : Nat) : (s.recSlots k l w).prot = s.prot := by rw [s.recSlots_counts k l w]
@[simp] theorem State.recSlots_udpPort (s : State) (k : Nat) (l : List (Nat × Nat)) (w : Nat) : (s.recSlots k l w).udpPort = s.udpPort := by rw [s.recSlots_counts k l w]
@[simp] theorem State.recSlots_udpPorts (s : State) (k : Nat) (l : List (Nat × Nat)) (w : Nat) : (s.recSlots k l w).udpPorts = s.udpPorts := by rw [s.recSlots_counts k l w]
@[simp] theorem State.recSlots_pending (s : State) (k : Nat) (l : List (Nat × Nat)) (w : Nat) : (s.recSlots k l w).pending = s.pending := by rw [s.recSlots_counts k l w]
@[simp] theorem State.recSlots_ctx (s : State) (k : Nat) (l : List (Nat × Nat)) (w : Nat) (j : Nat) : (s.recSlots k l w).ctx j = s.ctx j := by
  rw [s.recSlots_counts k l w]; rfl
@[simp] theorem State.recSlots_chan (s : State) (k : Nat) (l : List (Nat × Nat)) (w : Nat) (j : Nat) : (s.recSlots k l w).chan j = s.chan j := by
  rw [s.recSlots_counts k l w]; rfl
@[simp] theorem State.recSlots_salvo (s : State) (k : Nat) (l : List (Nat × Nat)) (w : Nat) (j : Nat) : (s.recSlots k l w).salvo j = s.salvo j := by
  rw [s.recSlots_counts k l w]; rfl
@[simp] theorem State.recSlots_lane (s : State) (k : Nat) (l : List (Nat × Nat)) (w : Nat) (j : Nat) : (s.recSlots k l w).lane j = s.lane j := by
  rw [s.recSlots_counts k l w]; rfl
@[simp] theorem State.recSlots_core (s : State) (k : Nat) (l : List (Nat × Nat)) (w : Nat) (j : Nat) : (s.recSlots k l w).core j = s.core j := by
  rw [s.recSlots_counts k l w]; rfl
@[simp] theorem State.recSlots_head (s : State) (k : Nat) (l : List (Nat × Nat)) (w : Nat) (j : Nat) : (s.recSlots k l w).head j = s.head j := by
  rw [s.recSlots_counts k l w]; rfl
@[simp] theorem State.recSlots_sheet (s : State) (k : Nat) (l : List (Nat × Nat)) (w : Nat) (j : Nat) : (s.recSlots k l w).sheet j = s.sheet j := by
  rw [s.recSlots_counts k l w]; rfl
@[simp] theorem State.recSlots_engine (s : State) (k : Nat) (l : List (Nat × Nat)) (w : Nat) (j : Nat) : (s.recSlots k l w).engine j = s.engine j := by
  rw [s.recSlots_counts k l w]; rfl
@[simp] theorem State.recSlots_inst (s : State) (k : Nat) (l : List (Nat × Nat)) (w : Nat) (j : Nat) : (s.recSlots k l w).inst j = s.inst j := by
  rw [s.recSlots_counts k l w]; rfl
@[simp] theorem State.recSlots_surf (s : State) (k : Nat) (l : List (Nat × Nat)) (w : Nat) (j : Nat) : (s.recSlots k l w).surf j = s.surf j := by
  rw [s.recSlots_counts k l w]; rfl
@[simp] theorem State.chCount_ctx (s : State) (c i n : Nat) (j : Nat) : (s.chCount c i n).ctx j = s.ctx j := by
  rw [s.chCount_counts c i n]; rfl
@[simp] theorem State.chCount_chan (s : State) (c i n : Nat) (j : Nat) : (s.chCount c i n).chan j = s.chan j := by
  rw [s.chCount_counts c i n]; rfl
@[simp] theorem State.chCount_salvo (s : State) (c i n : Nat) (j : Nat) : (s.chCount c i n).salvo j = s.salvo j := by
  rw [s.chCount_counts c i n]; rfl
@[simp] theorem State.chCount_lane (s : State) (c i n : Nat) (j : Nat) : (s.chCount c i n).lane j = s.lane j := by
  rw [s.chCount_counts c i n]; rfl
@[simp] theorem State.chCount_core (s : State) (c i n : Nat) (j : Nat) : (s.chCount c i n).core j = s.core j := by
  rw [s.chCount_counts c i n]; rfl
@[simp] theorem State.chCount_head (s : State) (c i n : Nat) (j : Nat) : (s.chCount c i n).head j = s.head j := by
  rw [s.chCount_counts c i n]; rfl
@[simp] theorem State.chCount_sheet (s : State) (c i n : Nat) (j : Nat) : (s.chCount c i n).sheet j = s.sheet j := by
  rw [s.chCount_counts c i n]; rfl
@[simp] theorem State.chCount_engine (s : State) (c i n : Nat) (j : Nat) : (s.chCount c i n).engine j = s.engine j := by
  rw [s.chCount_counts c i n]; rfl
@[simp] theorem State.chCount_inst (s : State) (c i n : Nat) (j : Nat) : (s.chCount c i n).inst j = s.inst j := by
  rw [s.chCount_counts c i n]; rfl
@[simp] theorem State.chCount_surf (s : State) (c i n : Nat) (j : Nat) : (s.chCount c i n).surf j = s.surf j := by
  rw [s.chCount_counts c i n]; rfl
@[simp] theorem State.headCount_ctx (s : State) (h i n : Nat) (j : Nat) : (s.headCount h i n).ctx j = s.ctx j := by
  rw [s.headCount_counts h i n]; rfl
@[simp] theorem State.headCount_chan (s : State) (h i n : Nat) (j : Nat) : (s.headCount h i n).chan j = s.chan j := by
  rw [s.headCount_counts h i n]; rfl
@[simp] theorem State.headCount_salvo (s : State) (h i n : Nat) (j : Nat) : (s.headCount h i n).salvo j = s.salvo j := by
  rw [s.headCount_counts h i n]; rfl
@[simp] theorem State.headCount_lane (s : State) (h i n : Nat) (j : Nat) : (s.headCount h i n).lane j = s.lane j := by
  rw [s.headCount_counts h i n]; rfl
@[simp] theorem State.headCount_core (s : State) (h i n : Nat) (j : Nat) : (s.headCount h i n).core j = s.core j := by
  rw [s.headCount_counts h i n]; rfl
@[simp] theorem State.headCount_head (s : State) (h i n : Nat) (j : Nat) : (s.headCount h i n).head j = s.head j := by
  rw [s.headCount_counts h i n]; rfl
@[simp] theorem State.headCount_sheet (s : State) (h i n : Nat) (j : Nat) : (s.headCount h i n).sheet j = s.sheet j := by
  rw [s.headCount_counts h i n]; rfl
@[simp] theorem State.headCount_engine (s : State) (h i n : Nat) (j : Nat) : (s.headCount h i n).engine j = s.engine j := by
  rw [s.headCount_counts h i n]; rfl
@[simp] theorem State.headCount_inst (s : State) (h i n : Nat) (j : Nat) : (s.headCount h i n).inst j = s.inst j := by
  rw [s.headCount_counts h i n]; rfl
@[simp] theorem State.headCount_surf (s : State) (h i n : Nat) (j : Nat) : (s.headCount h i n).surf j = s.surf j := by
  rw [s.headCount_counts h i n]; rfl

end Sys2Proof.Machine
end

