-- ==== Sys2Proof/Laws/Kept1.lean ====
section
/-! SUPPORT. What the operations of Machine/ keep (Laws/Kept.lean), in the order of their files: Ops, Packet, PairBase, Perf,
Tags. -/

namespace Sys2Proof.Machine

/-! ## Machine/Ops.lean -/

@[simp ↓] theorem State.setReg_kept (s : State) (off v : Nat) : (State.setReg s off v).kept = s.kept := by
  rfl

@[simp ↓] theorem State.count_kept (s : State) (off : Nat) (n : Nat) : (State.count s off n).kept = s.kept := by
  rfl

@[simp ↓] theorem State.countWrap_kept (s : State) (off : Nat) (n : Nat) : (State.countWrap s off n).kept = s.kept := by
  rfl

@[simp ↓] theorem State.orReg_kept (s : State) (off m : Nat) : (State.orReg s off m).kept = s.kept := by
  rfl

@[simp ↓] theorem State.chCount_kept (s : State) (c i n : Nat) : (State.chCount s c i n).kept = s.kept := by
  simp [State.chCount]

@[simp ↓] theorem State.headCount_kept (s : State) (h i n : Nat) : (State.headCount s h i n).kept = s.kept := by
  simp [State.headCount]

@[simp ↓] theorem State.at_kept (s : State) (t : Nat) : (State.at s t).kept = s.kept := by
  rfl

@[simp ↓] theorem State.setCtx_kept (s : State) (n : Nat) (x : Ctx) : (State.setCtx s n x).kept = s.kept := by
  rfl

@[simp ↓] theorem State.setChan_kept (s : State) (n : Nat) (x : Chan) : (State.setChan s n x).kept = s.kept := by
  rfl

@[simp ↓] theorem State.setSalvo_kept (s : State) (n : Nat) (x : Salvo) : (State.setSalvo s n x).kept = s.kept := by
  rfl

@[simp ↓] theorem State.setLane_kept (s : State) (n : Nat) (x : Lane) : (State.setLane s n x).kept = s.kept := by
  rfl

@[simp ↓] theorem State.setCore_kept (s : State) (n : Nat) (x : Core) : (State.setCore s n x).kept = s.kept := by
  rfl

@[simp ↓] theorem State.setHead_kept (s : State) (n : Nat) (x : Head) : (State.setHead s n x).kept = s.kept := by
  rfl

@[simp ↓] theorem State.setSheet_kept (s : State) (n : Nat) (x : Sheet) : (State.setSheet s n x).kept = s.kept := by
  rfl

@[simp ↓] theorem State.setEngine_kept (s : State) (n : Nat) (x : Engine) : (State.setEngine s n x).kept = s.kept := by
  rfl

@[simp ↓] theorem State.setSlots_kept (s : State) (n : Nat) (x : Slots) : (State.setSlots s n x).kept = s.kept := by
  rfl

@[simp ↓] theorem State.setInst_kept (s : State) (n : Nat) (x : Inst) : (State.setInst s n x).kept = s.kept := by
  rfl

@[simp ↓] theorem State.setSurf_kept (s : State) (n : Nat) (x : Surface) : (State.setSurf s n x).kept = s.kept := by
  rfl

@[simp ↓] theorem State.setTime_kept (s : State) (u : TimeUnit) : (State.setTime s u).kept = s.kept := by
  rfl

@[simp ↓] theorem State.setMode_kept (s : State) (m : ModeUnit) : (State.setMode s m).kept = s.kept := by
  rfl

@[simp ↓] theorem State.send_kept (s : State) (o : Out) : (State.send s o).kept = s.kept := by
  rfl

@[simp ↓] theorem State.signalVec_kept (s : State) (n v : Nat) : (State.signalVec s n v).kept = s.kept := by
  simp [State.signalVec]

@[simp ↓] theorem State.evqSignal_kept (s : State) (n : Nat) : (State.evqSignal s n).kept = s.kept := by
  simp [State.evqSignal]

@[simp ↓] theorem State.cqSignal_kept (s : State) (n : Nat) : (State.cqSignal s n).kept = s.kept := by
  simp [State.cqSignal]

@[simp ↓] theorem State.medEmit_kept (s : State) (k : EvKind) (idx time : Nat) (payload : List Int) : (State.medEmit s k idx time payload).kept = s.kept := by
  rfl

@[simp ↓] theorem State.ringWrite_kept (s : State) (n : Nat) (k : EvKind) (idx time : Nat) (payload : List Int) : (State.ringWrite s n k idx time payload).kept = s.kept := by
  simp [State.ringWrite]

@[simp ↓] theorem State.payLost_kept (s : State) (n time : Nat) : (State.payLost s n time).kept = s.kept := by
  simp [State.payLost]

@[simp ↓] theorem State.ringEmit_kept (s : State) (n : Nat) (k : EvKind) (idx time : Nat) (payload : List Int) : (State.ringEmit s n k idx time payload).kept = s.kept := by
  simp [State.ringEmit]

@[simp ↓] theorem State.ringsEmit_kept (s : State) (k : EvKind) (idx time : Nat) (payload : List Int) (z0 : List Nat) : (State.ringsEmit s k idx time payload z0).kept = s.kept := by
  induction z0 generalizing s
  all_goals unfold State.ringsEmit
  repeat'
    first
      | rfl
      | assumption
      | (simp_all; done)
      | (simp [*]; done)
      | split
      | (refine (kept_foldl _ (fun _ _ => ?_) _ _).trans ?_)
      | (refine keptRel_foldl _ (fun _ _ _ => ?_) _ _ ?_)
      | (refine (laid_foldl_s _ (fun _ _ => ?_) _ _).trans ?_)
      | (refine (fit_foldl_s _ (fun _ _ => ?_) _ _).trans ?_)
      | (refine (injected_foldl_s _ (fun _ _ => ?_) _ _).trans ?_)
      | (intro _ _)
      | (simp; split)
      | dsimp only
      | simp

@[simp ↓] theorem State.emitAt_kept (s : State) (k : EvKind) (idx time : Nat) (payload : List Int) : (State.emitAt s k idx time payload).kept = s.kept := by
  simp [State.emitAt]

@[simp ↓] theorem State.emit_kept (s : State) (k : EvKind) (idx : Nat) (payload : List Int) : (State.emit s k idx payload).kept = s.kept := by
  simp [State.emit]

@[simp ↓] theorem State.instFaultAt_kept (s : State) (n va unit : Nat) (write : Bool) : (State.instFaultAt s n va unit write).kept = s.kept := by
  simp [State.instFaultAt]

@[simp ↓] theorem State.engineFault_kept (s : State) (owner : Option Nat) (va unit : Nat) (write : Bool) : (State.engineFault s owner va unit write).kept = s.kept := by
  unfold State.engineFault
  repeat'
    first
      | rfl
      | (simp; done)
      | split
      | simp only []
      | dsimp only

@[simp ↓] theorem State.draw_kept (s : State) (n bytes : Nat) : (State.draw s n bytes).kept = s.kept := by
  rfl

@[simp ↓] theorem State.drawUrgent_kept (s : State) (n bytes : Nat) : (State.drawUrgent s n bytes).1.kept = s.kept := by
  rfl

@[simp] theorem State.dramWrite_kept (s : State) (a : Nat) (z0 : List Byte) (k0 : Kept) (hk : KeptRel k0 s.kept) :
    KeptRel k0 (s.dramWrite a z0).kept := by
  induction z0 generalizing s a with
  | nil => exact hk
  | cons b t ih =>
    unfold State.dramWrite
    exact ih _ _ (hk.write a b)

/-! ## Machine/Packet.lean -/

@[simp ↓] theorem State.wakeTx_kept (s : State) (l : Nat) : (State.wakeTx s l).kept = s.kept := by
  unfold State.wakeTx
  repeat'
    first
      | rfl
      | assumption
      | (simp_all; done)
      | (simp [*]; done)
      | split
      | (refine (kept_foldl _ (fun _ _ => ?_) _ _).trans ?_)
      | (refine keptRel_foldl _ (fun _ _ _ => ?_) _ _ ?_)
      | (refine (laid_foldl_s _ (fun _ _ => ?_) _ _).trans ?_)
      | (refine (fit_foldl_s _ (fun _ _ => ?_) _ _).trans ?_)
      | (refine (injected_foldl_s _ (fun _ _ => ?_) _ _).trans ?_)
      | (intro _ _)
      | (simp; split)
      | dsimp only
      | simp

@[simp ↓] theorem State.idleTx_kept (s : State) (l : Nat) : (State.idleTx s l).kept = s.kept := by
  rfl

@[simp ↓] theorem State.sendPacket_kept (s : State) (l n chan : Nat) (b : LuskoBody) (payload : List Byte) : (State.sendPacket s l n chan b payload).kept = s.kept := by
  rfl

@[simp ↓] theorem State.sendLusko_kept (s : State) (l chan : Nat) (b : LuskoBody) (payload : List Byte) : (State.sendLusko s l chan b payload).kept = s.kept := by
  unfold State.sendLusko
  repeat'
    first
      | rfl
      | assumption
      | (simp_all; done)
      | (simp [*]; done)
      | split
      | (refine (kept_foldl _ (fun _ _ => ?_) _ _).trans ?_)
      | (refine keptRel_foldl _ (fun _ _ _ => ?_) _ _ ?_)
      | (refine (laid_foldl_s _ (fun _ _ => ?_) _ _).trans ?_)
      | (refine (fit_foldl_s _ (fun _ _ => ?_) _ _).trans ?_)
      | (refine (injected_foldl_s _ (fun _ _ => ?_) _ _).trans ?_)
      | (intro _ _)
      | (simp; split)
      | dsimp only
      | simp

@[simp ↓] theorem State.sendTime_kept (s : State) (l chan : Nat) (mk : BitVec 64 → BitVec 32 → LuskoBody) : (State.sendTime s l chan mk).kept = s.kept := by
  simp [State.sendTime]

/-! ## Machine/PairBase.lean -/

@[simp ↓] theorem State.sendPairBytes_kept (s : State) (m : PairMsg) (payload : List Byte) : (State.sendPairBytes s m payload).kept = s.kept := by
  unfold State.sendPairBytes
  repeat'
    first
      | rfl
      | (simp; done)
      | split
      | simp only []
      | dsimp only

@[simp ↓] theorem State.sendPair_kept (s : State) (m : PairMsg) : (State.sendPair s m).kept = s.kept := by
  simp [State.sendPair]

@[simp ↓] theorem State.pairTo_kept (s : State) (x : PairState) : (State.pairTo s x).kept = s.kept := by
  simp [State.pairTo]

@[simp ↓] theorem State.unpair_kept (s : State) : (State.unpair s).kept = s.kept := by
  simp [State.unpair]

@[simp ↓] theorem State.sendManifest_kept (s : State) (m : Manifest) : (State.sendManifest s m).kept = s.kept := by
  simp [State.sendManifest]

@[simp ↓] theorem State.sendUnit_kept (s : State) (m : Manifest) (content : List Nal × List Byte) : (State.sendUnit s m content).kept = s.kept := by
  simp [State.sendUnit]

@[simp ↓] theorem State.sendAction_kept (s : State) (ctx op code : Nat) : (State.sendAction s ctx op code).kept = s.kept := by
  simp [State.sendAction]

@[simp ↓] theorem State.gapBegin_kept (s : State) (k : Nat) : (State.gapBegin s k).kept = s.kept := by
  simp [State.gapBegin]

@[simp ↓] theorem State.gapEnd_kept (s : State) (k : Nat) : (State.gapEnd s k).kept = s.kept := by
  simp [State.gapEnd]

@[simp ↓] theorem State.joinSource_kept (s : State) (k : Nat) : (State.joinSource s k).kept = s.kept := by
  simp [State.joinSource]

/-! ## Machine/Perf.lean -/

@[simp ↓] theorem State.unitOvf_kept (s : State) (u n : Nat) : (State.unitOvf s u n).kept = s.kept := by
  rfl

@[simp ↓] theorem State.progAdd_kept (s : State) (u i n : Nat) : (State.progAdd s u i n).kept = s.kept := by
  simp [State.progAdd]

@[simp ↓] theorem State.pmc_kept (s : State) (u code n : Nat) : (State.pmc s u code n).kept = s.kept := by
  unfold State.pmc
  repeat'
    first
      | rfl
      | assumption
      | (simp_all; done)
      | (simp [*]; done)
      | split
      | (refine (kept_foldl _ (fun _ _ => ?_) _ _).trans ?_)
      | (refine keptRel_foldl _ (fun _ _ _ => ?_) _ _ ?_)
      | (refine (laid_foldl_s _ (fun _ _ => ?_) _ _).trans ?_)
      | (refine (fit_foldl_s _ (fun _ _ => ?_) _ _).trans ?_)
      | (refine (injected_foldl_s _ (fun _ _ => ?_) _ _).trans ?_)
      | (intro _ _)
      | (simp; split)
      | dsimp only
      | simp

@[simp ↓] theorem State.addSlots_kept (s : State) (u : Nat) (c : SlotClass) (n : Nat) : (State.addSlots s u c n).kept = s.kept := by
  unfold State.addSlots
  repeat'
    first
      | rfl
      | (simp; done)
      | split
      | simp only []
      | dsimp only

@[simp ↓] theorem State.endWork_kept (s : State) (u : Nat) (retired : Bool) : (State.endWork s u retired).kept = s.kept := by
  simp [State.endWork]

@[simp ↓] theorem State.stallSlots_kept (s : State) (u code n : Nat) : (State.stallSlots s u code n).kept = s.kept := by
  simp [State.stallSlots]

@[simp ↓] theorem State.slotsTo_kept (s : State) (u : Nat) (c : SlotClass) (why : Nat) : (State.slotsTo s u c why).kept = s.kept := by
  simp [State.slotsTo]

@[simp ↓] theorem State.syncCore_kept (s : State) (k : Nat) : (State.syncCore s k).kept = s.kept := by
  simp [State.syncCore]

@[simp ↓] theorem State.syncEngine_kept (s : State) (e : Nat) : (State.syncEngine s e).kept = s.kept := by
  simp [State.syncEngine]

@[simp ↓] theorem State.syncHead_kept (s : State) (h : Nat) : (State.syncHead s h).kept = s.kept := by
  simp [State.syncHead]

/-! ## Machine/Tags.lean -/

@[simp ↓] theorem State.setBufs_kept (s : State) (p : Pool) (b : Tab Frame) : (State.setBufs s p b).kept = s.kept := by
  unfold State.setBufs
  repeat'
    first
      | rfl
      | (simp; done)
      | split
      | simp only []
      | dsimp only

@[simp ↓] theorem State.setFrame_kept (s : State) (r : FrameRef) (f : Frame) : (State.setFrame s r f).kept = s.kept := by
  simp [State.setFrame]

@[simp ↓] theorem State.modFrame_kept (s : State) (r : FrameRef) (f : Frame → Frame) : (State.modFrame s r f).kept = s.kept := by
  simp [State.modFrame]

@[simp ↓] theorem State.setChecker_kept (s : State) (src : Source) (x : BlazeState) : (State.setChecker s src x).kept = s.kept := by
  unfold State.setChecker
  repeat'
    first
      | rfl
      | (simp; done)
      | split
      | simp only []
      | dsimp only

@[simp ↓] theorem State.verdictEvent_kept (s : State) (src : Source) (old new : BlazeVerdict) (arrv : BitVec 40) : (State.verdictEvent s src old new arrv).kept = s.kept := by
  unfold State.verdictEvent
  repeat'
    first
      | rfl
      | (simp; done)
      | split
      | simp only []
      | dsimp only

@[simp ↓] theorem State.resetChecker_kept (s : State) (src : Source) : (State.resetChecker s src).kept = s.kept := by
  unfold State.resetChecker
  repeat'
    first
      | rfl
      | (simp; done)
      | split
      | simp only []
      | dsimp only

@[simp ↓] theorem State.blazeTag_kept (s : State) (src : Source) (arrv : BitVec 40) : (State.blazeTag s src arrv).kept = s.kept := by
  simp [State.blazeTag]

@[simp ↓] theorem State.blazeHash_kept (s : State) (src : Source) (arrv : BitVec 40) (seq : BitVec 16) (h : BitVec 32) : (State.blazeHash s src arrv seq h).kept = s.kept := by
  simp [State.blazeHash]

@[simp ↓] theorem State.captImplausible_kept (s : State) (ch : Nat) (arrv capt : Nat) : (State.captImplausible s ch arrv capt).kept = s.kept := by
  simp [State.captImplausible]

@[simp ↓] theorem State.writeTag_kept (s : State) (w : Writer) (r : FrameRef) (v : BlazeVerdict) (p : Nat × Bool × Nat) : (State.writeTag s w r v p).kept = s.kept := by
  unfold State.writeTag
  repeat'
    first
      | rfl
      | (simp; done)
      | split
      | simp only []
      | dsimp only

@[simp ↓] theorem State.writeTags_kept (s : State) (w : Writer) (r : FrameRef) (v : BlazeVerdict) (l : List (Nat × Bool × Nat)) : (State.writeTags s w r v l).kept = s.kept := by
  unfold State.writeTags
  repeat'
    first
      | rfl
      | assumption
      | (simp_all; done)
      | (simp [*]; done)
      | split
      | (refine (kept_foldl _ (fun _ _ => ?_) _ _).trans ?_)
      | (refine keptRel_foldl _ (fun _ _ _ => ?_) _ _ ?_)
      | (refine (laid_foldl_s _ (fun _ _ => ?_) _ _).trans ?_)
      | (refine (fit_foldl_s _ (fun _ _ => ?_) _ _).trans ?_)
      | (refine (injected_foldl_s _ (fun _ _ => ?_) _ _).trans ?_)
      | (intro _ _)
      | (simp; split)
      | dsimp only
      | simp

@[simp ↓] theorem State.writeStands_kept (s : State) (w : Writer) (r : FrameRef) (l : List (Nat × Bool × Nat)) : (State.writeStands s w r l).kept = s.kept := by
  simp [State.writeStands]

@[simp ↓] theorem State.chanTo_kept (s : State) (ch : Nat) (x : ChState) : (State.chanTo s ch x).kept = s.kept := by
  simp [State.chanTo]

@[simp ↓] theorem State.missFor_kept (s : State) (src : Source) : (State.missFor s src).kept = s.kept := by
  unfold State.missFor
  repeat'
    first
      | rfl
      | (simp; done)
      | split
      | simp only []
      | dsimp only

@[simp ↓] theorem State.makeEligible_kept (s : State) (src : Source) (r : FrameRef) : (State.makeEligible s src r).kept = s.kept := by
  unfold State.makeEligible
  repeat'
    first
      | rfl
      | (simp; done)
      | split
      | simp only []
      | dsimp only

end Sys2Proof.Machine
end

