-- ==== Sys2Proof/Laws/Kept2.lean ====
section
/-! SUPPORT. What the operations of Machine/ keep (Laws/Kept.lean), in the order of their files: Release, Token, CtxBase,
Inject, Evaluate, Latch, Rec, StepReset. -/

namespace Sys2Proof.Machine

/-! ## Machine/Release.lean -/

@[simp ↓] theorem State.settlePending_kept (s : State) (src : Source) (r : FrameRef) : (State.settlePending s src r).kept = s.kept := by
  simp [State.settlePending]

@[simp ↓] theorem State.settleAll_kept (s : State) : (State.settleAll s).kept = s.kept := by
  unfold State.settleAll
  repeat'
    first
      | rfl
      | assumption
      | (simp_all; done)
      | (simp [*]; done)
      | split
      | (refine (kept_foldl _ (fun _ _ => ?_) _ _).trans ?_)
      | (refine keptRel_foldl _ (fun _ _ _ => ?_) _ _ ?_)
      | (refine (laid_foldl_s _ (fun _ _ => ?_) _ _).trans ?_)
      | (refine (fit_foldl_s _ (fun _ _ => ?_) _ _).trans ?_)
      | (refine (injected_foldl_s _ (fun _ _ => ?_) _ _).trans ?_)
      | (intro _ _)
      | (simp; split)
      | dsimp only
      | simp

@[simp ↓] theorem State.giveFrame_kept (s : State) (c : Consumer) (src : Source) (r : FrameRef) : (State.giveFrame s c src r).kept = s.kept := by
  unfold State.giveFrame
  repeat'
    first
      | rfl
      | (simp; done)
      | split
      | simp only []
      | dsimp only

@[simp ↓] theorem State.countRelease_kept (s : State) (src : Source) (dropped : Nat) : (State.countRelease s src dropped).kept = s.kept := by
  unfold State.countRelease
  repeat'
    first
      | rfl
      | (simp; done)
      | split
      | simp only []
      | dsimp only

@[simp ↓] theorem State.prerollEligible_kept (s : State) (c : Nat) (r : FrameRef) : (State.prerollEligible s c r).kept = s.kept := by
  unfold State.prerollEligible
  repeat'
    first
      | rfl
      | assumption
      | (simp_all; done)
      | (simp [*]; done)
      | split
      | (refine (kept_foldl _ (fun _ _ => ?_) _ _).trans ?_)
      | (refine keptRel_foldl _ (fun _ _ _ => ?_) _ _ ?_)
      | (intro _ _)
      | (simp; split)
      | dsimp only
      | simp

@[simp ↓] theorem State.becomeEligible_kept (s : State) (src : Source) (r : FrameRef) : (State.becomeEligible s src r).kept = s.kept := by
  simp [State.becomeEligible]

@[simp ↓] theorem State.releaseSource_kept (s : State) (c : Consumer) (e : Nat) (src : Source) : (State.releaseSource s c e src).kept = s.kept := by
  unfold State.releaseSource
  repeat'
    first
      | rfl
      | assumption
      | (simp_all; done)
      | (simp [*]; done)
      | split
      | (refine (kept_foldl _ (fun _ _ => ?_) _ _).trans ?_)
      | (refine keptRel_foldl _ (fun _ _ _ => ?_) _ _ ?_)
      | (intro _ _)
      | (simp; split)
      | dsimp only
      | simp

@[simp ↓] theorem State.releaseAll_kept (s : State) (c : Consumer) (e : Nat) : (State.releaseAll s c e).kept = s.kept := by
  unfold State.releaseAll
  repeat'
    first
      | rfl
      | assumption
      | (simp_all; done)
      | (simp [*]; done)
      | split
      | (refine (kept_foldl _ (fun _ _ => ?_) _ _).trans ?_)
      | (refine keptRel_foldl _ (fun _ _ _ => ?_) _ _ ?_)
      | (refine (laid_foldl_s _ (fun _ _ => ?_) _ _).trans ?_)
      | (refine (fit_foldl_s _ (fun _ _ => ?_) _ _).trans ?_)
      | (refine (injected_foldl_s _ (fun _ _ => ?_) _ _).trans ?_)
      | (intro _ _)
      | (simp; split)
      | dsimp only
      | simp

@[simp ↓] theorem State.noteReady_kept (s : State) (n : Nat) : (State.noteReady s n).kept = s.kept := by
  simp [State.noteReady]

/-! ## Machine/Token.lean -/

@[simp ↓] theorem State.askToken_kept (s : State) (h : TokenHolder) (u : Nat) : (State.askToken s h u).kept = s.kept := by
  simp [State.askToken]

@[simp ↓] theorem State.dropToken_kept (s : State) (h : TokenHolder) (u : Nat) : (State.dropToken s h u).kept = s.kept := by
  rfl

/-! ## Machine/CtxBase.lean -/

@[simp ↓] theorem State.ctxTo_kept (s : State) (n : Nat) (x : CtxState) : (State.ctxTo s n x).kept = s.kept := by
  simp [State.ctxTo]

@[simp ↓] theorem State.restCore_kept (s : State) (k : Nat) : (State.restCore s k).kept = s.kept := by
  simp [State.restCore]

@[simp ↓] theorem State.freeCore_kept (s : State) (n k : Nat) : (State.freeCore s n k).kept = s.kept := by
  unfold State.freeCore
  repeat'
    first
      | rfl
      | (simp; done)
      | split
      | simp only []
      | dsimp only

@[simp ↓] theorem State.freeEngine_kept (s : State) (e : Nat) : (State.freeEngine s e).kept = s.kept := by
  simp [State.freeEngine]

@[simp ↓] theorem State.dropWork_kept (s : State) (n : Nat) : (State.dropWork s n).kept = s.kept := by
  unfold State.dropWork
  repeat'
    first
      | rfl
      | assumption
      | (simp_all; done)
      | (simp [*]; done)
      | split
      | (refine (kept_foldl _ (fun _ _ => ?_) _ _).trans ?_)
      | (refine keptRel_foldl _ (fun _ _ _ => ?_) _ _ ?_)
      | (refine (laid_foldl_s _ (fun _ _ => ?_) _ _).trans ?_)
      | (refine (fit_foldl_s _ (fun _ _ => ?_) _ _).trans ?_)
      | (refine (injected_foldl_s _ (fun _ _ => ?_) _ _).trans ?_)
      | (intro _ _)
      | (simp; split)
      | dsimp only
      | simp

@[simp ↓] theorem State.dropPicture_kept (s : State) (n : Nat) : (State.dropPicture s n).kept = s.kept := by
  unfold State.dropPicture
  repeat'
    first
      | rfl
      | assumption
      | (simp_all; done)
      | (simp [*]; done)
      | split
      | (refine (kept_foldl _ (fun _ _ => ?_) _ _).trans ?_)
      | (refine keptRel_foldl _ (fun _ _ _ => ?_) _ _ ?_)
      | (refine (laid_foldl_s _ (fun _ _ => ?_) _ _).trans ?_)
      | (refine (fit_foldl_s _ (fun _ _ => ?_) _ _).trans ?_)
      | (refine (injected_foldl_s _ (fun _ _ => ?_) _ _).trans ?_)
      | (intro _ _)
      | (simp; split)
      | dsimp only
      | simp

@[simp ↓] theorem State.dropBuffers_kept (s : State) (n : Nat) : (State.dropBuffers s n).kept = s.kept := by
  unfold State.dropBuffers
  repeat'
    first
      | rfl
      | assumption
      | (simp_all; done)
      | (simp [*]; done)
      | split
      | (refine (kept_foldl _ (fun _ _ => ?_) _ _).trans ?_)
      | (refine keptRel_foldl _ (fun _ _ _ => ?_) _ _ ?_)
      | (refine (laid_foldl_s _ (fun _ _ => ?_) _ _).trans ?_)
      | (refine (fit_foldl_s _ (fun _ _ => ?_) _ _).trans ?_)
      | (refine (injected_foldl_s _ (fun _ _ => ?_) _ _).trans ?_)
      | (intro _ _)
      | (simp; split)
      | dsimp only
      | simp

@[simp ↓] theorem State.ctxResync_kept (s : State) (n : Nat) : (State.ctxResync s n).kept = s.kept := by
  simp [State.ctxResync]

@[simp ↓] theorem State.ctxFault_kept (s : State) (n : Nat) (x : CtxFault) : (State.ctxFault s n x).kept = s.kept := by
  unfold State.ctxFault
  repeat'
    first
      | rfl
      | assumption
      | (simp_all; done)
      | (simp [*]; done)
      | split
      | (refine (kept_foldl _ (fun _ _ => ?_) _ _).trans ?_)
      | (refine keptRel_foldl _ (fun _ _ _ => ?_) _ _ ?_)
      | (refine (laid_foldl_s _ (fun _ _ => ?_) _ _).trans ?_)
      | (refine (fit_foldl_s _ (fun _ _ => ?_) _ _).trans ?_)
      | (refine (injected_foldl_s _ (fun _ _ => ?_) _ _).trans ?_)
      | (intro _ _)
      | (simp; split)
      | dsimp only
      | simp

@[simp ↓] theorem State.startCtx_kept (s : State) (n : Nat) (d : Decl) : (State.startCtx s n d).kept = s.kept := by
  unfold State.startCtx
  repeat'
    first
      | rfl
      | (simp; done)
      | split
      | simp only []
      | dsimp only

@[simp ↓] theorem State.stopCtx_kept (s : State) (n : Nat) : (State.stopCtx s n).kept = s.kept := by
  simp [State.stopCtx]

@[simp ↓] theorem State.releaseCtx_kept (s : State) (n : Nat) : (State.releaseCtx s n).kept = s.kept := by
  simp [State.releaseCtx]

@[simp ↓] theorem State.chanStart_kept (s : State) (ch : Nat) : (State.chanStart s ch).kept = s.kept := by
  unfold State.chanStart
  repeat'
    first
      | rfl
      | (simp; done)
      | split
      | simp only []
      | dsimp only

/-! ## Machine/Inject.lean -/

@[simp ↓] theorem injected_ite_s (c : Prop) [Decidable c] (a b : Injected) :
    (if c then a else b).s = if c then a.s else b.s := by split <;> rfl

theorem injected_foldl_s {β : Type} (f : Injected → β → Injected) (h : ∀ x b, (f x b).s.kept = x.s.kept) (l : List β) (x : Injected) :
    (l.foldl f x).s.kept = x.s.kept := foldl_same (fun x => x.s.kept) f h l x

@[simp ↓] theorem State.setInjector_kept (s : State) (i : Nat) (x : Injector) : (State.setInjector s i x).kept = s.kept := by
  rfl

@[simp ↓] theorem State.logInjection_kept (s : State) (i action number : Nat) : (State.logInjection s i action number).kept = s.kept := by
  simp [State.logInjection]

@[simp ↓] theorem injectOne_kept (o : Injected) (i : Nat) : (injectOne o i).s.kept = o.s.kept := by
  unfold injectOne
  repeat'
    first
      | rfl
      | (simp; done)
      | split
      | simp only []
      | dsimp only

@[simp ↓] theorem State.inject_kept (s : State) (hit : Injector → Bool) : (State.inject s hit).s.kept = s.kept := by
  unfold State.inject
  repeat'
    first
      | rfl
      | assumption
      | (simp_all; done)
      | (simp [*]; done)
      | split
      | (refine (kept_foldl _ (fun _ _ => ?_) _ _).trans ?_)
      | (refine keptRel_foldl _ (fun _ _ _ => ?_) _ _ ?_)
      | (refine (laid_foldl_s _ (fun _ _ => ?_) _ _).trans ?_)
      | (refine (fit_foldl_s _ (fun _ _ => ?_) _ _).trans ?_)
      | (refine (injected_foldl_s _ (fun _ _ => ?_) _ _).trans ?_)
      | (intro _ _)
      | (simp; split)
      | dsimp only
      | simp

@[simp ↓] theorem State.holdPacket_kept (s : State) (i : Nat) (r : RxPacket) : (State.holdPacket s i r).kept = s.kept := by
  rfl

@[simp ↓] theorem State.takeReleased_kept (s : State) : (State.takeReleased s).1.kept = s.kept := by
  rfl

/-! ## Machine/Evaluate.lean -/

@[simp ↓] theorem State.countEntry_kept (s : State) (h : Nat) (src : Source) (x : WinState) : (State.countEntry s h src x).kept = s.kept := by
  unfold State.countEntry
  repeat'
    first
      | rfl
      | (simp; done)
      | split
      | simp only []
      | dsimp only

@[simp ↓] theorem State.applyVerdict_kept (s : State) (h w tile e : Nat) (src : Source) (v : Verdict) : (State.applyVerdict s h w tile e src v).kept = s.kept := by
  simp [State.applyVerdict]

@[simp ↓] theorem State.runEvals_kept (s : State) (h e : Nat) (lu : BitVec 40) (bad : List Nat) (l : List Eval) : (State.runEvals s h e lu bad l).kept = s.kept := by
  unfold State.runEvals
  repeat'
    first
      | rfl
      | assumption
      | (simp_all; done)
      | (simp [*]; done)
      | split
      | (refine (kept_foldl _ (fun _ _ => ?_) _ _).trans ?_)
      | (refine keptRel_foldl _ (fun _ _ _ => ?_) _ _ ?_)
      | (refine (laid_foldl_s _ (fun _ _ => ?_) _ _).trans ?_)
      | (refine (fit_foldl_s _ (fun _ _ => ?_) _ _).trans ?_)
      | (refine (injected_foldl_s _ (fun _ _ => ?_) _ _).trans ?_)
      | (intro _ _)
      | (simp; split)
      | dsimp only
      | simp

@[simp ↓] theorem State.markStat_kept (s : State) (h : Nat) (l : List Eval) : (State.markStat s h l).kept = s.kept := by
  unfold State.markStat
  repeat'
    first
      | rfl
      | assumption
      | (simp_all; done)
      | (simp [*]; done)
      | split
      | (refine (kept_foldl _ (fun _ _ => ?_) _ _).trans ?_)
      | (refine keptRel_foldl _ (fun _ _ _ => ?_) _ _ ?_)
      | (refine (laid_foldl_s _ (fun _ _ => ?_) _ _).trans ?_)
      | (refine (fit_foldl_s _ (fun _ _ => ?_) _ _).trans ?_)
      | (refine (injected_foldl_s _ (fun _ _ => ?_) _ _).trans ?_)
      | (intro _ _)
      | (simp; split)
      | dsimp only
      | simp

/-! ## Machine/Latch.lean -/

@[simp ↓] theorem State.dropViews_kept (s : State) (g : Bool) (h : Nat) (tgt : Desc → Bool) : (State.dropViews s g h tgt).kept = s.kept := by
  rfl

@[simp ↓] theorem State.switchHead_kept (s : State) (h : Nat) : (State.switchHead s h).kept = s.kept := by
  simp [State.switchHead]

@[simp ↓] theorem State.switchSheet_kept (s : State) (n : Nat) : (State.switchSheet s n).kept = s.kept := by
  unfold State.switchSheet
  repeat'
    first
      | rfl
      | assumption
      | (simp_all; done)
      | (simp [*]; done)
      | split
      | (refine (kept_foldl _ (fun _ _ => ?_) _ _).trans ?_)
      | (refine keptRel_foldl _ (fun _ _ _ => ?_) _ _ ?_)
      | (refine (laid_foldl_s _ (fun _ _ => ?_) _ _).trans ?_)
      | (refine (fit_foldl_s _ (fun _ _ => ?_) _ _).trans ?_)
      | (refine (injected_foldl_s _ (fun _ _ => ?_) _ _).trans ?_)
      | (intro _ _)
      | (simp; split)
      | dsimp only
      | simp

@[simp ↓] theorem State.finishSwitch_kept (s : State) : (State.finishSwitch s).kept = s.kept := by
  simp [State.finishSwitch]

@[simp ↓] theorem State.settleHead_kept (s : State) (h : Nat) : (State.settleHead s h).kept = s.kept := by
  simp [State.settleHead]

@[simp ↓] theorem State.settleSheet_kept (s : State) (n : Nat) : (State.settleSheet s n).kept = s.kept := by
  simp [State.settleSheet]

@[simp ↓] theorem State.acceptGeneration_kept (s : State) (a : Nat) : (s.acceptGeneration a).kept = s.kept := by
  unfold State.acceptGeneration
  extract_lets w s1 s2 s3
  have h1 : s1.kept = s.kept := rfl
  have h2 : s2.kept = s1.kept := by
    refine kept_foldl _ (fun y h => ?_) _ _
    dsimp only
    split
    · exact State.setHead_kept ..
    · exact State.setHead_kept ..
    · exact State.switchHead_kept ..
  have h3 : s3.kept = s2.kept := by
    refine kept_foldl _ (fun y n => ?_) _ _
    dsimp only
    split <;> exact State.setSheet_kept ..
  exact (State.finishSwitch_kept s3).trans (h3.trans (h2.trans h1))

@[simp ↓] theorem State.headTurn_kept (s : State) (h e : Nat) : (State.headTurn s h e).kept = s.kept := by
  simp [State.headTurn]

@[simp ↓] theorem State.sheetTurn_kept (s : State) (n e : Nat) : (State.sheetTurn s n e).kept = s.kept := by
  simp [State.sheetTurn]

@[simp ↓] theorem State.fixFrames_kept (s : State) (h : Nat) : (State.fixFrames s h).kept = s.kept := by
  unfold State.fixFrames
  repeat'
    first
      | rfl
      | assumption
      | (simp_all; done)
      | (simp [*]; done)
      | split
      | (refine (kept_foldl _ (fun _ _ => ?_) _ _).trans ?_)
      | (refine keptRel_foldl _ (fun _ _ _ => ?_) _ _ ?_)
      | (refine (laid_foldl_s _ (fun _ _ => ?_) _ _).trans ?_)
      | (refine (fit_foldl_s _ (fun _ _ => ?_) _ _).trans ?_)
      | (refine (injected_foldl_s _ (fun _ _ => ?_) _ _).trans ?_)
      | (intro _ _)
      | (simp; split)
      | dsimp only
      | simp

@[simp ↓] theorem State.specDiscard_kept (s : State) (h : Nat) : (State.specDiscard s h).kept = s.kept := by
  simp [State.specDiscard]

@[simp ↓] theorem State.phaseAt_kept (s : State) (h : Nat) (e : Int) : (State.phaseAt s h e).kept = s.kept := by
  simp [State.phaseAt]

@[simp ↓] theorem State.settleGiven_kept (s : State) (h : Nat) : (State.settleGiven s h).kept = s.kept := by
  unfold State.settleGiven
  repeat'
    first
      | rfl
      | assumption
      | (simp_all; done)
      | (simp [*]; done)
      | split
      | (refine (kept_foldl _ (fun _ _ => ?_) _ _).trans ?_)
      | (refine keptRel_foldl _ (fun _ _ _ => ?_) _ _ ?_)
      | (refine (laid_foldl_s _ (fun _ _ => ?_) _ _).trans ?_)
      | (refine (fit_foldl_s _ (fun _ _ => ?_) _ _).trans ?_)
      | (refine (injected_foldl_s _ (fun _ _ => ?_) _ _).trans ?_)
      | (intro _ _)
      | (simp; split)
      | dsimp only
      | simp

@[simp ↓] theorem State.reportLate_kept (s : State) (h : Nat) (late : List Nat) (again : Bool) : (State.reportLate s h late again).kept = s.kept := by
  unfold State.reportLate
  repeat'
    first
      | rfl
      | assumption
      | (simp_all; done)
      | (simp [*]; done)
      | split
      | (refine (kept_foldl _ (fun _ _ => ?_) _ _).trans ?_)
      | (refine keptRel_foldl _ (fun _ _ _ => ?_) _ _ ?_)
      | (refine (laid_foldl_s _ (fun _ _ => ?_) _ _).trans ?_)
      | (refine (fit_foldl_s _ (fun _ _ => ?_) _ _).trans ?_)
      | (refine (injected_foldl_s _ (fun _ _ => ?_) _ _).trans ?_)
      | (intro _ _)
      | (simp; split)
      | dsimp only
      | simp

@[simp ↓] theorem State.takeShot_kept (s : State) (h : Nat) (evs : List Eval) (late : List Nat) : (State.takeShot s h evs late).kept = s.kept := by
  rfl

@[simp ↓] theorem State.armHead_kept (s : State) (h : Nat) : (State.armHead s h).kept = s.kept := by
  simp [State.armHead]

@[simp ↓] theorem State.latch_kept (s : State) (h e : Nat) (line : Option Nat) (bad : List Nat) : (State.latch s h e line bad).kept = s.kept := by
  simp [State.latch]

@[simp ↓] theorem State.latchLocked_kept (s : State) (h : Nat) (phase : Int) (bad : List Nat) : (State.latchLocked s h phase bad).kept = s.kept := by
  unfold State.latchLocked
  repeat'
    first
      | rfl
      | (simp; done)
      | split
      | simp only []
      | dsimp only

@[simp ↓] theorem State.latchReady_kept (s : State) (h : Nat) (line : Option Nat) (bad : List Nat) : (State.latchReady s h line bad).kept = s.kept := by
  simp [State.latchReady]

@[simp ↓] theorem State.latchForced_kept (s : State) (h : Nat) (bad : List Nat) : (State.latchForced s h bad).kept = s.kept := by
  simp [State.latchForced]

/-! ## Machine/Rec.lean -/

@[simp ↓] theorem State.setRecording_kept (s : State) (r : Nat) (x : Rec) : (State.setRecording s r x).kept = s.kept := by
  rfl

@[simp ↓] theorem State.setRecCore_kept (s : State) (k : Nat) (x : RecCore) : (State.setRecCore s k x).kept = s.kept := by
  rfl

@[simp ↓] theorem State.syncRec_kept (s : State) (k : Nat) : (State.syncRec s k).kept = s.kept := by
  simp [State.syncRec]

@[simp ↓] theorem State.recCapture_kept (s : State) (h : Nat) : (State.recCapture s h).kept = s.kept := by
  simp [State.recCapture]

@[simp ↓] theorem State.recUnderrun_kept (s : State) (h : Nat) : (State.recUnderrun s h).kept = s.kept := by
  unfold State.recUnderrun
  repeat'
    first
      | rfl
      | (simp; done)
      | split
      | simp only []
      | dsimp only

@[simp ↓] theorem State.restRec_kept (s : State) (k : Nat) : (State.restRec s k).kept = s.kept := by
  simp [State.restRec]

@[simp ↓] theorem State.beginRecPic_kept (s : State) (r : Nat) (p : RecPic) : (State.beginRecPic s r p).kept = s.kept := by
  rfl

@[simp ↓] theorem State.runRecPart_kept (s : State) (r part k : Nat) : (State.runRecPart s r part k).kept = s.kept := by
  unfold State.runRecPart
  repeat'
    first
      | rfl
      | (simp; done)
      | split
      | simp only []
      | dsimp only

@[simp] theorem State.ringBytes_kept (s : State) (pages : List Nat) (pos : Nat) (z0 : List Byte) (k0 : Kept) (hk : KeptRel k0 s.kept) : KeptRel k0 (State.ringBytes s pages pos z0).kept := by
  fun_induction State.ringBytes
  repeat'
    first
      | rfl
      | assumption
      | (simp_all; done)
      | (simp [*]; done)
      | split
      | (refine (kept_foldl _ (fun _ _ => ?_) _ _).trans ?_)
      | (refine keptRel_foldl _ (fun _ _ _ => ?_) _ _ ?_)
      | (refine (laid_foldl_s _ (fun _ _ => ?_) _ _).trans ?_)
      | (refine (fit_foldl_s _ (fun _ _ => ?_) _ _).trans ?_)
      | (refine (injected_foldl_s _ (fun _ _ => ?_) _ _).trans ?_)
      | (intro _ _)
      | (simp; split)
      | dsimp only
      | simp

@[simp] theorem State.recToRing_kept (s : State) (r : Nat) (p : RecPic) (unit : List Byte) (k0 : Kept) (hk : KeptRel k0 s.kept) : KeptRel k0 (State.recToRing s r p unit).1.kept := by
  unfold State.recToRing
  repeat'
    first
      | assumption
      | (simp_all; done)
      | split
      | (simp; split)

@[simp] theorem State.recToIndex_kept (s : State) (r : Nat) (e : RecEntry) (k0 : Kept) (hk : KeptRel k0 s.kept) :
    KeptRel k0 (s.recToIndex r e).kept := by
  unfold State.recToIndex
  extract_lets x cap s1 due s2
  have h1 : KeptRel k0 s1.kept := State.ringBytes_kept (hk := hk) ..
  have h2 : s2.kept = s.kept := State.setRecording_kept ..
  clear_value s1 due s2
  split
  · rw [State.setRecording_kept]; exact h1
  · split
    · rw [State.emit_kept, h2]; exact hk
    · rw [h2]; exact hk

@[simp] theorem State.recComplete_kept (s : State) (r : Nat) (p : RecPic) (body : List Byte) (k0 : Kept) (hk : KeptRel k0 s.kept) : KeptRel k0 (State.recComplete s r p body).kept := by
  simp_all [State.recComplete]

@[simp ↓] theorem State.recSlots_kept (s : State) (k : Nat) (stalls : List (Nat × Nat)) (wasted : Nat) : (State.recSlots s k stalls wasted).kept = s.kept := by
  unfold State.recSlots
  repeat'
    first
      | rfl
      | assumption
      | (simp_all; done)
      | (simp [*]; done)
      | split
      | (refine (kept_foldl _ (fun _ _ => ?_) _ _).trans ?_)
      | (refine keptRel_foldl _ (fun _ _ _ => ?_) _ _ ?_)
      | (intro _ _)
      | (simp; split)
      | dsimp only
      | simp

@[simp ↓] theorem State.idleRec_kept (s : State) (k : Nat) : (State.idleRec s k).kept = s.kept := by
  simp [State.idleRec]

@[simp] theorem State.recRow_kept (s : State) (k r part : Nat) (p : RecPic) (coded filler : Nat) (stalls : List (Nat × Nat)) (wasted rd wr : Nat) (body : List Byte) (k0 : Kept) (hk : KeptRel k0 s.kept) : KeptRel k0 (State.recRow s k r part p coded filler stalls wasted rd wr body).kept := by
  unfold State.recRow
  repeat'
    first
      | assumption
      | (simp_all; done)
      | split
      | (simp; split)

@[simp ↓] theorem State.sendRtp_kept (s : State) (c : RecCfg) (seq : BitVec 16) (ts : BitVec 32) (z0 : List (List Byte)) : (State.sendRtp s c seq ts z0).kept = s.kept := by
  fun_induction State.sendRtp
  repeat'
    first
      | rfl
      | assumption
      | (simp_all; done)
      | (simp [*]; done)
      | split
      | (refine (kept_foldl _ (fun _ _ => ?_) _ _).trans ?_)
      | (refine keptRel_foldl _ (fun _ _ _ => ?_) _ _ ?_)
      | (refine (laid_foldl_s _ (fun _ _ => ?_) _ _).trans ?_)
      | (refine (fit_foldl_s _ (fun _ _ => ?_) _ _).trans ?_)
      | (refine (injected_foldl_s _ (fun _ _ => ?_) _ _).trans ?_)
      | (intro _ _)
      | (simp; split)
      | dsimp only
      | simp

@[simp ↓] theorem State.recStart_kept (s : State) (r : Nat) : (State.recStart s r).kept = s.kept := by
  unfold State.recStart
  repeat'
    first
      | rfl
      | assumption
      | (simp_all; done)
      | (simp [*]; done)
      | split
      | (refine (kept_foldl _ (fun _ _ => ?_) _ _).trans ?_)
      | (refine keptRel_foldl _ (fun _ _ _ => ?_) _ _ ?_)
      | (refine (laid_foldl_s _ (fun _ _ => ?_) _ _).trans ?_)
      | (refine (fit_foldl_s _ (fun _ _ => ?_) _ _).trans ?_)
      | (refine (injected_foldl_s _ (fun _ _ => ?_) _ _).trans ?_)
      | (intro _ _)
      | (simp; split)
      | dsimp only
      | simp

@[simp ↓] theorem State.recStop_kept (s : State) (r : Nat) : (State.recStop s r).kept = s.kept := by
  rfl

/-! ## Machine/StepReset.lean -/

@[simp ↓] theorem State.emitCtxSync_kept (s : State) (z0 : List Nat) : (State.emitCtxSync s z0).kept = s.kept := by
  induction z0 generalizing s
  all_goals unfold State.emitCtxSync
  repeat'
    first
      | rfl
      | assumption
      | (simp_all; done)
      | (simp [*]; done)
      | split
      | (refine (kept_foldl _ (fun _ _ => ?_) _ _).trans ?_)
      | (refine keptRel_foldl _ (fun _ _ _ => ?_) _ _ ?_)
      | (refine (laid_foldl_s _ (fun _ _ => ?_) _ _).trans ?_)
      | (refine (fit_foldl_s _ (fun _ _ => ?_) _ _).trans ?_)
      | (refine (injected_foldl_s _ (fun _ _ => ?_) _ _).trans ?_)
      | (intro _ _)
      | (simp; split)
      | dsimp only
      | simp

@[simp ↓] theorem State.stepEffects_kept (s : State) : (State.stepEffects s).kept = s.kept := by
  unfold State.stepEffects
  repeat'
    first
      | rfl
      | assumption
      | (simp_all; done)
      | (simp [*]; done)
      | split
      | (refine (kept_foldl _ (fun _ _ => ?_) _ _).trans ?_)
      | (refine keptRel_foldl _ (fun _ _ _ => ?_) _ _ ?_)
      | (refine (laid_foldl_s _ (fun _ _ => ?_) _ _).trans ?_)
      | (refine (fit_foldl_s _ (fun _ _ => ?_) _ _).trans ?_)
      | (refine (injected_foldl_s _ (fun _ _ => ?_) _ _).trans ?_)
      | (intro _ _)
      | (simp; split)
      | dsimp only
      | simp

end Sys2Proof.Machine
end

