-- ==== Sys2Proof/Laws/Kept3.lean ====
section
/-! SUPPORT. What the operations of Machine/ keep (Laws/Kept.lean), in the order of their files: Servo, Ingest, Lusko, Decode,
Coef. -/

namespace Sys2Proof.Machine

/-! ## Machine/Servo.lean -/

@[simp ↓] theorem State.refreshTrace_kept (s : State) : (State.refreshTrace s).kept = s.kept := by
  rfl

@[simp ↓] theorem State.stepTime_kept (s : State) (d : Int) : (State.stepTime s d).kept = s.kept := by
  simp [State.stepTime]

@[simp ↓] theorem State.holdDifference_kept (s : State) (d : Int) : (State.holdDifference s d).kept = s.kept := by
  simp [State.holdDifference]

@[simp ↓] theorem State.correct_kept (s : State) (d r : Int) : (State.correct s d r).kept = s.kept := by
  unfold State.correct
  repeat'
    first
      | rfl
      | (simp; done)
      | split
      | simp only []
      | dsimp only

@[simp ↓] theorem State.servoTo_kept (s : State) (x : ServoState) : (State.servoTo s x).kept = s.kept := by
  simp [State.servoTo]

@[simp ↓] theorem State.enterHold_kept (s : State) (byLoss : Bool) : (State.enterHold s byLoss).kept = s.kept := by
  simp [State.enterHold]

@[simp ↓] theorem State.enterAcquire_kept (s : State) (d : Fin 2) : (State.enterAcquire s d).kept = s.kept := by
  simp [State.enterAcquire]

@[simp ↓] theorem State.switchDomain_kept (s : State) (d : Fin 2) : (State.switchDomain s d).kept = s.kept := by
  simp [State.switchDomain]

@[simp ↓] theorem State.runLoop_kept (s : State) : (State.runLoop s).kept = s.kept := by
  rfl

@[simp ↓] theorem State.recordSample_kept (s : State) (d : Fin 2) (off : Int) : (State.recordSample s d off).kept = s.kept := by
  rfl

@[simp ↓] theorem State.sampleAcquire_kept (s : State) (off : Int) : (State.sampleAcquire s off).kept = s.kept := by
  simp [State.sampleAcquire]

@[simp ↓] theorem State.sampleLocked_kept (s : State) (d : Fin 2) (off : Int) : (State.sampleLocked s d off).kept = s.kept := by
  simp [State.sampleLocked]

@[simp ↓] theorem State.servoSample_kept (s : State) (d : Fin 2) (off : Int) : (State.servoSample s d off).kept = s.kept := by
  unfold State.servoSample
  repeat'
    first
      | rfl
      | (simp; done)
      | split
      | simp only []
      | dsimp only

@[simp ↓] theorem State.dropHeld_kept (s : State) (d : Fin 2) (gm : BitVec 64) : (State.dropHeld s d gm).kept = s.kept := by
  simp [State.dropHeld]

@[simp ↓] theorem State.gmChange_kept (s : State) (d : Fin 2) : (State.gmChange s d).kept = s.kept := by
  simp [State.gmChange]

@[simp ↓] theorem State.loseDomain_kept (s : State) (d : Fin 2) : (State.loseDomain s d).kept = s.kept := by
  unfold State.loseDomain
  repeat'
    first
      | rfl
      | (simp; done)
      | split
      | simp only []
      | dsimp only

/-! ## Machine/Ingest.lean -/

@[simp ↓] theorem State.sourceTrace_kept (s : State) (n : Nat) (ok : Bool) (d : Option Nat) : (State.sourceTrace s n ok d).kept = s.kept := by
  simp [State.sourceTrace]

@[simp ↓] theorem State.queueUnit_kept (s : State) (n : Nat) (u : AccessUnit) : (State.queueUnit s n u).kept = s.kept := by
  simp [State.queueUnit]

@[simp ↓] theorem State.forwardUnit_kept (s : State) (n : Nat) (x : NetDecl) (u : AccessUnit) : (State.forwardUnit s n x u).kept = s.kept := by
  unfold State.forwardUnit
  repeat'
    first
      | rfl
      | (simp; done)
      | split
      | simp only []
      | dsimp only

@[simp ↓] theorem State.overrate_kept (s : State) (n num den : Nat) : (State.overrate s n num den).1.kept = s.kept := by
  rfl

@[simp ↓] theorem State.countUnit_kept (s : State) (n missing : Nat) (complete : Bool) : (State.countUnit s n missing complete).kept = s.kept := by
  unfold State.countUnit
  repeat'
    first
      | rfl
      | (simp; done)
      | split
      | simp only []
      | dsimp only

@[simp ↓] theorem State.emitUnit_kept (s : State) (n : Nat) (x : NetDecl) (u : HeadUnit) :
    (s.emitUnit n x u).kept = s.kept := by
  unfold State.emitUnit
  extract_lets r s1 c h0 ts first arrv missing rest s2 s3 cap s4
  have hr : r.1.kept = s.kept := State.overrate_kept ..
  have h2 : s2.kept = s1.kept := State.setCtx_kept ..
  have h3 : s3.kept = s2.kept := State.countUnit_kept ..
  have h4 : s4.kept = s3.kept := State.sourceTrace_kept ..
  have h1 : s1.kept = r.1.kept := rfl
  clear_value r s1 s2 s3 s4
  split
  · exact (State.ctxFault_kept ..).trans hr
  · exact (State.forwardUnit_kept ..).trans (by rw [h4, h3, h2, h1, hr])

@[simp ↓] theorem State.advance_kept (s : State) (n : Nat) (x : NetDecl) (z0 : Nat) : (State.advance s n x z0).kept = s.kept := by
  induction z0 generalizing s
  all_goals unfold State.advance
  repeat'
    first
      | rfl
      | assumption
      | (simp_all; done)
      | (simp [*]; done)
      | split
      | (refine (kept_foldl _ (fun _ _ => ?_) _ _).trans ?_)
      | (refine keptRel_foldl _ (fun _ _ _ => ?_) _ _ ?_)
      | (refine (laid_foldl_s _ (fun _ _ => ?_) _ _).trans ?_)
      | (refine (fit_foldl_s _ (fun _ _ => ?_) _ _).trans ?_)
      | (refine (injected_foldl_s _ (fun _ _ => ?_) _ _).trans ?_)
      | (intro _ _)
      | (simp; split)
      | dsimp only
      | simp

@[simp ↓] theorem State.entryApplied_kept (s : State) (m : Manifest) : (State.entryApplied s m).kept = s.kept := by
  rfl

@[simp ↓] theorem State.applyUnit_kept (s : State) (x : NetDecl) (m : Manifest) (part : Bool) (present : List Bool) (u : List Nal × List (BitVec 8)) : (State.applyUnit s x m part present u).kept = s.kept := by
  simp [State.applyUnit]

@[simp ↓] theorem State.takeSsrc_kept (s : State) (n : Nat) (q : Option (BitVec 32)) : (State.takeSsrc s n q).kept = s.kept := by
  simp [State.takeSsrc]

@[simp ↓] theorem State.applyAction_kept (s : State) (m : Manifest) : (State.applyAction s m).kept = s.kept := by
  unfold State.applyAction
  repeat'
    first
      | rfl
      | (simp; done)
      | split
      | simp only []
      | dsimp only

@[simp ↓] theorem State.runEntries_kept (s : State) (n : Nat) (x : NetDecl) (z0 : Nat) : (State.runEntries s n x z0).kept = s.kept := by
  induction z0 generalizing s
  all_goals unfold State.runEntries
  repeat'
    first
      | rfl
      | assumption
      | (simp_all; done)
      | (simp [*]; done)
      | split
      | (refine (kept_foldl _ (fun _ _ => ?_) _ _).trans ?_)
      | (refine keptRel_foldl _ (fun _ _ _ => ?_) _ _ ?_)
      | (refine (laid_foldl_s _ (fun _ _ => ?_) _ _).trans ?_)
      | (refine (fit_foldl_s _ (fun _ _ => ?_) _ _).trans ?_)
      | (refine (injected_foldl_s _ (fun _ _ => ?_) _ _).trans ?_)
      | (intro _ _)
      | (simp; split)
      | dsimp only
      | simp

@[simp ↓] theorem State.runIngest_kept (s : State) (n : Nat) (x : NetDecl) : (State.runIngest s n x).kept = s.kept := by
  simp [State.runIngest]

@[simp ↓] theorem State.notePeak_kept (s : State) : (State.notePeak s).kept = s.kept := by
  rfl

@[simp ↓] theorem State.discardPacket_kept (s : State) (n : Nat) : (State.discardPacket s n).kept = s.kept := by
  rfl

@[simp ↓] theorem State.resync_kept (s : State) (n : Nat) : (State.resync s n).kept = s.kept := by
  unfold State.resync
  repeat'
    first
      | rfl
      | (simp; done)
      | split
      | simp only []
      | dsimp only

@[simp ↓] theorem State.placePacket_kept (s : State) (n p : Nat) (x : NetDecl) (r : Rtp) (e : Int) (stamp : Nat) : (State.placePacket s n p x r e stamp).kept = s.kept := by
  unfold State.placePacket
  repeat'
    first
      | rfl
      | (simp; done)
      | split
      | simp only []
      | dsimp only

@[simp ↓] theorem State.pathAlive_kept (s : State) (n p : Nat) : (State.pathAlive s n p).kept = s.kept := by
  simp [State.pathAlive]

@[simp ↓] theorem State.checkSsrc_kept (s : State) (n : Nat) (x : NetDecl) (q : BitVec 32) : (State.checkSsrc s n x q).1.kept = s.kept := by
  unfold State.checkSsrc
  repeat'
    first
      | rfl
      | (simp; done)
      | split
      | simp only []
      | dsimp only

@[simp ↓] theorem State.rxRtp_kept (s : State) (n p : Nat) (x : NetDecl) (r : Rtp) (stamp : Nat) : (State.rxRtp s n p x r stamp).kept = s.kept := by
  simp [State.rxRtp]

@[simp ↓] theorem State.classify_kept (s : State) (port : Nat) (f : EthFrame) (stamp : Nat) : (State.classify s port f stamp).kept = s.kept := by
  unfold State.classify
  repeat'
    first
      | rfl
      | (simp; done)
      | split
      | simp only []
      | dsimp only

@[simp ↓] theorem State.rxEth_kept (s : State) (port : Nat) (f : EthFrame) (stamp : Nat) : (State.rxEth s port f stamp).kept = s.kept := by
  unfold State.rxEth
  repeat'
    first
      | rfl
      | (simp; done)
      | split
      | simp only []
      | dsimp only

/-! ## Machine/Lusko.lean -/

@[simp ↓] theorem State.laneTo_kept (s : State) (l : Nat) (x : LaneState) : (State.laneTo s l x).kept = s.kept := by
  simp [State.laneTo]

@[simp ↓] theorem State.countInvalid_kept (s : State) (n k : Nat) : (State.countInvalid s n k).kept = s.kept := by
  unfold State.countInvalid
  repeat'
    first
      | rfl
      | (simp; done)
      | split
      | simp only []
      | dsimp only

@[simp ↓] theorem State.ctxEligible_kept (s : State) (n : Nat) (r : FrameRef) : (State.ctxEligible s n r).kept = s.kept := by
  unfold State.ctxEligible
  repeat'
    first
      | rfl
      | (simp; done)
      | split
      | simp only []
      | dsimp only

@[simp ↓] theorem State.finishCapture_kept (s : State) (n : Nat) (o : OpenFrame) : (State.finishCapture s n o).kept = s.kept := by
  unfold State.finishCapture
  repeat'
    first
      | rfl
      | (simp; done)
      | split
      | simp only []
      | dsimp only

@[simp ↓] theorem State.tagGroup_kept (s : State) (n : Nat) (o : OpenFrame) (g : Nat) (err : Bool) (arrv : Nat) : (State.tagGroup s n o g err arrv).kept = s.kept := by
  simp [State.tagGroup]

@[simp ↓] theorem State.finishIfTagged_kept (s : State) (n : Nat) : (State.finishIfTagged s n).kept = s.kept := by
  unfold State.finishIfTagged
  repeat'
    first
      | rfl
      | (simp; done)
      | split
      | simp only []
      | dsimp only

@[simp ↓] theorem State.applyCapture_kept (s : State) (n : Nat) (o : OpenFrame) (m : Manifest) : (State.applyCapture s n o m).kept = s.kept := by
  unfold State.applyCapture
  repeat'
    first
      | rfl
      | assumption
      | (simp_all; done)
      | (simp [*]; done)
      | split
      | (refine (kept_foldl _ (fun _ _ => ?_) _ _).trans ?_)
      | (refine keptRel_foldl _ (fun _ _ _ => ?_) _ _ ?_)
      | (intro _ _)
      | (simp; split)
      | dsimp only
      | simp

@[simp ↓] theorem State.runActions_kept (s : State) (n : Nat) (z0 : Nat) : (State.runActions s n z0).kept = s.kept := by
  induction z0 generalizing s
  all_goals unfold State.runActions
  repeat'
    first
      | rfl
      | assumption
      | (simp_all; done)
      | (simp [*]; done)
      | split
      | (refine (kept_foldl _ (fun _ _ => ?_) _ _).trans ?_)
      | (refine keptRel_foldl _ (fun _ _ _ => ?_) _ _ ?_)
      | (refine (laid_foldl_s _ (fun _ _ => ?_) _ _).trans ?_)
      | (refine (fit_foldl_s _ (fun _ _ => ?_) _ _).trans ?_)
      | (refine (injected_foldl_s _ (fun _ _ => ?_) _ _).trans ?_)
      | (intro _ _)
      | (simp; split)
      | dsimp only
      | simp

@[simp ↓] theorem State.closeCapture_kept (s : State) (n : Nat) : (State.closeCapture s n).kept = s.kept := by
  unfold State.closeCapture
  repeat'
    first
      | rfl
      | assumption
      | (simp_all; done)
      | (simp [*]; done)
      | split
      | (refine (kept_foldl _ (fun _ _ => ?_) _ _).trans ?_)
      | (refine keptRel_foldl _ (fun _ _ _ => ?_) _ _ ?_)
      | (intro _ _)
      | (simp; split)
      | dsimp only
      | simp

@[simp ↓] theorem State.leaveUp_kept (s : State) (first : Nat) (role : BondRole) : (State.leaveUp s first role).kept = s.kept := by
  unfold State.leaveUp
  repeat'
    first
      | rfl
      | assumption
      | (simp_all; done)
      | (simp [*]; done)
      | split
      | (refine (kept_foldl _ (fun _ _ => ?_) _ _).trans ?_)
      | (refine keptRel_foldl _ (fun _ _ _ => ?_) _ _ ?_)
      | (refine (laid_foldl_s _ (fun _ _ => ?_) _ _).trans ?_)
      | (refine (fit_foldl_s _ (fun _ _ => ?_) _ _).trans ?_)
      | (refine (injected_foldl_s _ (fun _ _ => ?_) _ _).trans ?_)
      | (intro _ _)
      | (simp; split)
      | dsimp only
      | simp

@[simp ↓] theorem State.bondTo_kept (s : State) (l : Nat) (x : Nat → LaneState) : (State.bondTo s l x).kept = s.kept := by
  unfold State.bondTo
  repeat'
    first
      | rfl
      | assumption
      | (simp_all; done)
      | (simp [*]; done)
      | split
      | (refine (kept_foldl _ (fun _ _ => ?_) _ _).trans ?_)
      | (refine keptRel_foldl _ (fun _ _ _ => ?_) _ _ ?_)
      | (refine (laid_foldl_s _ (fun _ _ => ?_) _ _).trans ?_)
      | (refine (fit_foldl_s _ (fun _ _ => ?_) _ _).trans ?_)
      | (refine (injected_foldl_s _ (fun _ _ => ?_) _ _).trans ?_)
      | (intro _ _)
      | (simp; split)
      | dsimp only
      | simp

@[simp ↓] theorem State.bondDown_kept (s : State) (l : Nat) : (State.bondDown s l).kept = s.kept := by
  unfold State.bondDown
  repeat'
    first
      | rfl
      | assumption
      | (simp_all; done)
      | (simp [*]; done)
      | split
      | (refine (kept_foldl _ (fun _ _ => ?_) _ _).trans ?_)
      | (refine keptRel_foldl _ (fun _ _ _ => ?_) _ _ ?_)
      | (refine (laid_foldl_s _ (fun _ _ => ?_) _ _).trans ?_)
      | (refine (fit_foldl_s _ (fun _ _ => ?_) _ _).trans ?_)
      | (refine (injected_foldl_s _ (fun _ _ => ?_) _ _).trans ?_)
      | (intro _ _)
      | (simp; split)
      | dsimp only
      | simp

@[simp ↓] theorem State.capturePacket_kept (s : State) (n : Nat) (d : LuskoDecl) (b : LuskoBody) : (State.capturePacket s n d b).kept = s.kept := by
  unfold State.capturePacket
  repeat'
    first
      | rfl
      | (simp; done)
      | split
      | simp only []
      | dsimp only

@[simp ↓] theorem State.strayPacket_kept (s : State) (n : Nat) (frame : BitVec 16) : (State.strayPacket s n frame).kept = s.kept := by
  unfold State.strayPacket
  repeat'
    first
      | rfl
      | (simp; done)
      | split
      | simp only []
      | dsimp only

@[simp ↓] theorem State.rxFrameStart_kept (s : State) (n : Nat) (d : LuskoDecl) (f : FrameStart) (stamp : Nat) : (State.rxFrameStart s n d f stamp).kept = s.kept := by
  unfold State.rxFrameStart
  repeat'
    first
      | rfl
      | assumption
      | (simp_all; done)
      | (simp [*]; done)
      | split
      | (refine (kept_foldl _ (fun _ _ => ?_) _ _).trans ?_)
      | (refine keptRel_foldl _ (fun _ _ _ => ?_) _ _ ?_)
      | (refine (laid_foldl_s _ (fun _ _ => ?_) _ _).trans ?_)
      | (refine (fit_foldl_s _ (fun _ _ => ?_) _ _).trans ?_)
      | (refine (injected_foldl_s _ (fun _ _ => ?_) _ _).trans ?_)
      | (intro _ _)
      | (simp; split)
      | dsimp only
      | simp

@[simp ↓] theorem State.rxVideoLine_kept (s : State) (n : Nat) (d : LuskoDecl) (frame : BitVec 16) (line : Nat) (px : List (BitVec 8)) (stamp : Nat) : (State.rxVideoLine s n d frame line px stamp).kept = s.kept := by
  unfold State.rxVideoLine
  repeat'
    first
      | rfl
      | (simp; done)
      | split
      | simp only []
      | dsimp only

@[simp ↓] theorem State.rxFrameEnd_kept (s : State) (n : Nat) (frame : BitVec 16) : (State.rxFrameEnd s n frame).kept = s.kept := by
  unfold State.rxFrameEnd
  repeat'
    first
      | rfl
      | (simp; done)
      | split
      | simp only []
      | dsimp only

/-! ## Machine/Decode.lean -/

@[simp ↓] theorem State.outputFrame_kept (s : State) (n b : Nat) : (State.outputFrame s n b).kept = s.kept := by
  simp [State.outputFrame]

@[simp ↓] theorem State.applyDpb_kept (s : State) (n : Nat) (a : DpbAction) : (State.applyDpb s n a).kept = s.kept := by
  unfold State.applyDpb
  repeat'
    first
      | rfl
      | assumption
      | (simp_all; done)
      | (simp [*]; done)
      | split
      | (refine (kept_foldl _ (fun _ _ => ?_) _ _).trans ?_)
      | (refine keptRel_foldl _ (fun _ _ _ => ?_) _ _ ?_)
      | (refine (laid_foldl_s _ (fun _ _ => ?_) _ _).trans ?_)
      | (refine (fit_foldl_s _ (fun _ _ => ?_) _ _).trans ?_)
      | (refine (injected_foldl_s _ (fun _ _ => ?_) _ _).trans ?_)
      | (intro _ _)
      | (simp; split)
      | dsimp only
      | simp

@[simp ↓] theorem State.standIn_kept (s : State) (n : Nat) (x : NetDecl) : (State.standIn s n x).kept = s.kept := by
  unfold State.standIn
  repeat'
    first
      | rfl
      | (simp; done)
      | split
      | simp only []
      | dsimp only

@[simp ↓] theorem State.standIns_kept (s : State) (n : Nat) (x : NetDecl) (z0 : Nat) : (State.standIns s n x z0).kept = s.kept := by
  induction z0 generalizing s
  all_goals unfold State.standIns
  repeat'
    first
      | rfl
      | assumption
      | (simp_all; done)
      | (simp [*]; done)
      | split
      | (refine (kept_foldl _ (fun _ _ => ?_) _ _).trans ?_)
      | (refine keptRel_foldl _ (fun _ _ _ => ?_) _ _ ?_)
      | (refine (laid_foldl_s _ (fun _ _ => ?_) _ _).trans ?_)
      | (refine (fit_foldl_s _ (fun _ _ => ?_) _ _).trans ?_)
      | (refine (injected_foldl_s _ (fun _ _ => ?_) _ _).trans ?_)
      | (intro _ _)
      | (simp; split)
      | dsimp only
      | simp

@[simp ↓] theorem State.decError_kept (s : State) (n : Nat) (p : Picture) (seq : BitVec 16) : (State.decError s n p seq).kept = s.kept := by
  unfold State.decError
  repeat'
    first
      | rfl
      | (simp; done)
      | split
      | simp only []
      | dsimp only

@[simp ↓] theorem State.passUnit_kept (s : State) (n : Nat) (u : AccessUnit) : (State.passUnit s n u).kept = s.kept := by
  rfl

@[simp ↓] theorem State.beginPicture_kept (s : State) (n : Nat) (x : NetDecl) (u : AccessUnit) (p : PicStart) (b : Nat) : (State.beginPicture s n x u p b).kept = s.kept := by
  simp [State.beginPicture]

@[simp ↓] theorem State.runPart_kept (s : State) (n part k : Nat) : (State.runPart s n part k).kept = s.kept := by
  unfold State.runPart
  repeat'
    first
      | rfl
      | (simp; done)
      | split
      | simp only []
      | dsimp only

@[simp ↓] theorem State.jobStart_kept (s : State) (n part : Nat) (x : NetDecl) (start : PicStart) (dpb : DpbAction) : (State.jobStart s n part x start dpb).kept = s.kept := by
  unfold State.jobStart
  repeat'
    first
      | rfl
      | (simp; done)
      | split
      | simp only []
      | dsimp only

@[simp ↓] theorem State.invalidBegin_kept (s : State) (n : Nat) (bad : Nat) : (State.invalidBegin s n bad).kept = s.kept := by
  simp [State.invalidBegin]

@[simp ↓] theorem State.tagPicture_kept (s : State) (n : Nat) (p : Picture) (l : List (Nat × Bool)) : (State.tagPicture s n p l).kept = s.kept := by
  simp [State.tagPicture]

@[simp ↓] theorem State.completePicture_kept (s : State) (n : Nat) (p : Picture) (dpb : DpbAction) : (State.completePicture s n p dpb).kept = s.kept := by
  simp [State.completePicture]

@[simp ↓] theorem State.heal_kept (s : State) (n : Nat) (p : Picture) : (State.heal s n p).kept = s.kept := by
  simp [State.heal]

@[simp ↓] theorem State.idleCore_kept (s : State) (k : Nat) : (State.idleCore s k).kept = s.kept := by
  simp [State.idleCore]

@[simp ↓] theorem State.retireRow_kept (s : State) (n k : Nat) (stalls : List (Nat × Nat)) : (State.retireRow s n k stalls).kept = s.kept := by
  unfold State.retireRow
  repeat'
    first
      | rfl
      | assumption
      | (simp_all; done)
      | (simp [*]; done)
      | split
      | (refine (kept_foldl _ (fun _ _ => ?_) _ _).trans ?_)
      | (refine keptRel_foldl _ (fun _ _ _ => ?_) _ _ ?_)
      | (intro _ _)
      | (simp; split)
      | dsimp only
      | simp

@[simp ↓] theorem State.rowComplete_kept (s : State) (k n part : Nat) (p : Picture) (d : RowDone) : (State.rowComplete s k n part p d).kept = s.kept := by
  simp [State.rowComplete]

@[simp ↓] theorem State.preempt_kept (s : State) (k n part : Nat) : (State.preempt s k n part).kept = s.kept := by
  unfold State.preempt
  repeat'
    first
      | rfl
      | (simp; done)
      | split
      | simp only []
      | dsimp only

/-! ## Machine/Coef.lean -/

@[simp ↓] theorem State.refuseWin_kept (s : State) : (State.refuseWin s).kept = s.kept := by
  rfl

@[simp ↓] theorem State.restoreShadow_kept (s : State) : (State.restoreShadow s).kept = s.kept := by
  simp [State.restoreShadow]

@[simp ↓] theorem State.copyShadow_kept (s : State) : (State.copyShadow s).kept = s.kept := by
  rfl

@[simp ↓] theorem State.writeShadow_kept (s : State) (l : List (Nat × BitVec 512)) : (State.writeShadow s l).kept = s.kept := by
  rfl

@[simp ↓] theorem State.salvoGeneration_kept (s : State) (a : Nat) (l : List (Nat × BitVec 512)) : (State.salvoGeneration s a l).kept = s.kept := by
  simp [State.salvoGeneration]

@[simp ↓] theorem State.setBanks_kept (s : State) (u : CoefUnit) (b : Banks) : (State.setBanks s u b).kept = s.kept := by
  unfold State.setBanks
  repeat'
    first
      | rfl
      | (simp; done)
      | split
      | simp only []
      | dsimp only

@[simp ↓] theorem State.refuseCoef_kept (s : State) (z0 : CoefUnit) : (State.refuseCoef s z0).kept = s.kept := by
  unfold State.refuseCoef
  repeat'
    first
      | rfl
      | (simp; done)
      | split
      | simp only []
      | dsimp only

@[simp ↓] theorem State.applyDue_kept (s : State) (h e : Nat) : (State.applyDue s h e).kept = s.kept := by
  simp [State.applyDue]

end Sys2Proof.Machine
end

