-- ==== Sys2Proof/Laws/Kept4.lean ====
section
/-! SUPPORT. What the operations of Machine/ keep (Laws/Kept.lean), in the order of their files: Fetch, Scanout, AdmCfg,
AdmPool, ModeBase, PairOps, HostBase, Sheets. -/

namespace Sys2Proof.Machine

/-! ## Machine/Fetch.lean -/

@[simp ↓] theorem State.fetchLine_kept (s : State) (h pipe : Nat) (l : Bool × Nat × Nat) : (State.fetchLine s h pipe l).kept = s.kept := by
  unfold State.fetchLine
  repeat'
    first
      | rfl
      | (simp; done)
      | split
      | simp only []
      | dsimp only

@[simp ↓] theorem State.prefetchLines_kept (s : State) (h w : Nat) (d : Desc) (r : FrameRef) (n : Nat) : (State.prefetchLines s h w d r n).kept = s.kept := by
  simp [State.prefetchLines]

@[simp ↓] theorem State.specFault_kept (s : State) (h w : Nat) : (State.specFault s h w).kept = s.kept := by
  simp [State.specFault]

@[simp ↓] theorem State.countOverrun_kept (s : State) (h i n : Nat) : (State.countOverrun s h i n).kept = s.kept := by
  simp [State.countOverrun]

@[simp ↓] theorem State.fetched_kept (s : State) (h level i n : Nat) : (State.fetched s h level i n).kept = s.kept := by
  simp [State.fetched]

/-! ## Machine/Scanout.lean -/

@[simp ↓] theorem State.moveDisplay_kept (s : State) (h : Nat) (old new : List FrameRef) : (State.moveDisplay s h old new).kept = s.kept := by
  unfold State.moveDisplay
  repeat'
    first
      | rfl
      | assumption
      | (simp_all; done)
      | (simp [*]; done)
      | split
      | (refine (kept_foldl _ (fun _ _ => ?_) _ _).trans ?_)
      | (refine keptRel_foldl _ (fun _ _ _ => ?_) _ _ ?_)
      | (refine (laid_foldl_s _ (fun _ _ => ?_) _ _).trans ?_)
      | (refine (fit_foldl_s _ (fun _ _ => ?_) _ _).trans ?_)
      | (refine (injected_foldl_s _ (fun _ _ => ?_) _ _).trans ?_)
      | (intro _ _)
      | (simp; split)
      | dsimp only
      | simp

@[simp ↓] theorem State.tagLate_kept (s : State) (h : Nat) (late : List Nat) : (State.tagLate s h late).kept = s.kept := by
  unfold State.tagLate
  repeat'
    first
      | rfl
      | assumption
      | (simp_all; done)
      | (simp [*]; done)
      | split
      | (refine (kept_foldl _ (fun _ _ => ?_) _ _).trans ?_)
      | (refine keptRel_foldl _ (fun _ _ _ => ?_) _ _ ?_)
      | (intro _ _)
      | (simp; split)
      | dsimp only
      | simp

@[simp ↓] theorem State.underrunPixel_kept (s : State) (h pipe x y : Nat) : (State.underrunPixel s h pipe x y).kept = s.kept := by
  simp [State.underrunPixel]

@[simp ↓] theorem State.headTo_kept (s : State) (h : Nat) (st : HeadState) : (State.headTo s h st).kept = s.kept := by
  simp [State.headTo]

@[simp ↓] theorem State.checkSink_kept (s : State) (h : Nat) (c : HeadCfg) : (State.checkSink s h c).kept = s.kept := by
  simp [State.checkSink]

@[simp ↓] theorem State.untrain_kept (s : State) (h : Nat) : (State.untrain s h).kept = s.kept := by
  simp [State.untrain]

@[simp ↓] theorem State.askTraining_kept (s : State) (h : Nat) : (State.askTraining s h).kept = s.kept := by
  simp [State.askTraining]

@[simp ↓] theorem State.enableStream_kept (s : State) (h : Nat) : (State.enableStream s h).kept = s.kept := by
  simp [State.enableStream]

@[simp ↓] theorem State.linkUp_kept (s : State) (h rate lanes : Nat) : (State.linkUp s h rate lanes).kept = s.kept := by
  simp [State.linkUp]

@[simp ↓] theorem State.trainFail_kept (s : State) (h : Nat) : (State.trainFail s h).kept = s.kept := by
  simp [State.trainFail]

@[simp ↓] theorem State.syncedPorts_kept (s : State) (h : Nat) (f : Touch → Touch) : (State.syncedPorts s h f).kept = s.kept := by
  rfl

@[simp ↓] theorem State.stopRaster_kept (s : State) (h : Nat) : (s.stopRaster h).kept = s.kept := by
  unfold State.stopRaster
  extract_lets s1 x bit s2 y s3 ports s4
  have h1 : s1.kept = s.kept := State.syncHead_kept ..
  have h2 : s2.kept = s1.kept := kept_foldl _ (fun y r => State.modFrame_kept ..) _ _
  have h3 : s3.kept = s2.kept := State.setHead_kept ..
  have h4 : s4.kept = s3.kept := State.syncedPorts_kept ..
  exact (State.settleAll_kept _).trans ((kept_foldl _ (fun y r => State.emit_kept ..) _ _).trans (by rw [h4, h3, h2, h1]))

/-! ## Machine/AdmCfg.lean -/

@[simp ↓] theorem State.setObj_kept (s : State) (i : Nat) (o : Obj) : (State.setObj s i o).kept = s.kept := by
  rfl

/-! ## Machine/AdmPool.lean -/

@[simp ↓] theorem fit_ite_s (c : Prop) [Decidable c] (a b : Fit) :
    (if c then a else b).s = if c then a.s else b.s := by split <;> rfl

theorem fit_foldl_s {β : Type} (f : Fit → β → Fit) (h : ∀ x b, (f x b).s.kept = x.s.kept) (l : List β) (x : Fit) :
    (l.foldl f x).s.kept = x.s.kept := foldl_same (fun x => x.s.kept) f h l x

@[simp ↓] theorem Fit.ctxBufs_kept (f : Fit) (n : Nat) (d : Decl) : (f.ctxBufs n d).s.kept = f.s.kept := by
  unfold Fit.ctxBufs
  extract_lets c need got
  clear_value got
  split
  · simp
  · split
    · rfl
    · split <;> rfl

@[simp ↓] theorem Fit.ctxPackets_kept (f : Fit) (n : Nat) (d : Decl) : (f.ctxPackets n d).s.kept = f.s.kept := by
  unfold Fit.ctxPackets
  dsimp only
  split <;> simp

@[simp ↓] theorem Fit.ctx_kept (grow : Bool) (f : Fit) (n : Nat) : (Fit.ctx grow f n).s.kept = f.s.kept := by
  unfold Fit.ctx
  dsimp only
  split
  · split <;> simp
  · split
    · rfl
    · rw [Fit.ctxPackets_kept, Fit.ctxBufs_kept]

@[simp ↓] theorem Fit.sheet_kept (grow : Bool) (f : Fit) (n : Nat) : (Fit.sheet grow f n).s.kept = f.s.kept := by
  unfold Fit.sheet
  dsimp only
  split
  · split <;> simp
  · split
    · rfl
    · split <;> simp

@[simp ↓] theorem Fit.recording_kept (grow : Bool) (f : Fit) (r : Nat) : (Fit.recording grow f r).s.kept = f.s.kept := by
  unfold Fit.recording
  extract_lets x
  clear_value x
  split
  · split
    · rfl
    · split
      · extract_lets s
        have h : s.kept = f.s.kept := State.setRecording_kept ..
        clear_value s
        split
        · exact (State.setRecording_kept ..).trans h
        · rfl
      · rfl
  · split
    · rfl
    · exact State.setRecording_kept ..

@[simp ↓] theorem Fit.surf_kept (grow : Bool) (f : Fit) (n : Nat) : (Fit.surf grow f n).s.kept = f.s.kept := by
  unfold Fit.surf
  dsimp only
  split
  · split
    · simp
    · split <;> rfl
  · rfl

@[simp ↓] theorem Fit.retention_kept (grow : Bool) (f : Fit) : (f.retention grow).s.kept = f.s.kept := by
  unfold Fit.retention
  dsimp only
  split
  · rfl
  · split <;> rfl

@[simp ↓] theorem State.fitPass_kept (s : State) (grow : Bool) : (s.fitPass grow).s.kept = s.kept := by
  unfold State.fitPass
  extract_lets f started stopped f1 f2 f3 f4
  have h1 : f1.s.kept = s.kept := fit_foldl_s _ (fun x n => Fit.ctx_kept grow x n) _ _
  have h2 : f2.s.kept = f1.s.kept := fit_foldl_s _ (fun x n => Fit.sheet_kept grow x n) _ _
  have h3 : f3.s.kept = f2.s.kept := fit_foldl_s _ (fun x n => Fit.recording_kept grow x n) _ _
  have h4 : f4.s.kept = f3.s.kept := Fit.retention_kept grow f3
  exact (fit_foldl_s _ (fun x n => Fit.surf_kept grow x n) _ _).trans (h4.trans (h3.trans (h2.trans h1)))

@[simp ↓] theorem State.fitPools_kept (s : State) : s.fitPools.s.kept = s.kept := by
  unfold State.fitPools
  rw [State.fitPass_kept, State.fitPass_kept]

/-! ## Machine/ModeBase.lean -/

@[simp ↓] theorem State.modeTo_kept (s : State) (m : Mode) (cause : Nat) : (State.modeTo s m cause).kept = s.kept := by
  simp [State.modeTo]

@[simp ↓] theorem State.raiseActOut_kept (s : State) : (State.raiseActOut s).kept = s.kept := by
  simp [State.raiseActOut]

@[simp ↓] theorem State.dropActOut_kept (s : State) : (State.dropActOut s).kept = s.kept := by
  rfl

@[simp ↓] theorem State.startRecs_kept (s : State) : (State.startRecs s).kept = s.kept := by
  unfold State.startRecs
  repeat'
    first
      | rfl
      | assumption
      | (simp_all; done)
      | (simp [*]; done)
      | split
      | (refine (kept_foldl _ (fun _ _ => ?_) _ _).trans ?_)
      | (refine keptRel_foldl _ (fun _ _ _ => ?_) _ _ ?_)
      | (refine (laid_foldl_s _ (fun _ _ => ?_) _ _).trans ?_)
      | (refine (fit_foldl_s _ (fun _ _ => ?_) _ _).trans ?_)
      | (refine (injected_foldl_s _ (fun _ _ => ?_) _ _).trans ?_)
      | (intro _ _)
      | (simp; split)
      | dsimp only
      | simp

@[simp ↓] theorem State.enterRun_kept (s : State) (cause : Nat) : (State.enterRun s cause).kept = s.kept := by
  simp [State.enterRun]

@[simp ↓] theorem State.enterShadow_kept (s : State) (cause : Nat) : (State.enterShadow s cause).kept = s.kept := by
  simp [State.enterShadow]

@[simp ↓] theorem State.presentSafeHold_kept (s : State) (on : Bool) (a : Nat) : (s.presentSafeHold on a).kept = s.kept := by
  unfold State.presentSafeHold
  extract_lets m1 s1
  have h1 : s1.kept = s.kept := State.setMode_kept ..
  refine (kept_foldl _ (fun y h => ?_) _ _).trans h1
  dsimp only
  split <;> exact State.setHead_kept ..

@[simp ↓] theorem State.enterSafeHold_kept (s : State) (c : ShCause) (a : Nat) : (State.enterSafeHold s c a).kept = s.kept := by
  simp [State.enterSafeHold]

@[simp ↓] theorem State.ownSafeHold_kept (s : State) (c : ShCause) : (State.ownSafeHold s c).kept = s.kept := by
  simp [State.ownSafeHold]

@[simp ↓] theorem State.leaveSafeHold_kept (s : State) (a : Nat) : (s.leaveSafeHold a).kept = s.kept := by
  unfold State.leaveSafeHold
  split
  · extract_lets m1 a1 s1 p s2 s3
    have h1 : s1.kept = s.kept := rfl
    have h2 : s2.kept = s1.kept := by
      simp only [s2]
      split
      · exact (State.startRecs_kept _).trans (State.modeTo_kept ..)
      · generalize p = q
        cases q
        all_goals first
          | exact State.enterRun_kept ..
          | exact State.enterShadow_kept ..
          | exact State.modeTo_kept ..
    have h3 : s3.kept = s2.kept := by
      simp only [s3]
      split
      · exact State.raiseActOut_kept ..
      · rfl
    exact (State.presentSafeHold_kept ..).trans (h3.trans (h2.trans h1))
  · rfl

@[simp ↓] theorem State.takeRole_kept (s : State) : (State.takeRole s).kept = s.kept := by
  unfold State.takeRole
  repeat'
    first
      | rfl
      | (simp; done)
      | split
      | simp only []
      | dsimp only

@[simp ↓] theorem State.giveRole_kept (s : State) : (State.giveRole s).kept = s.kept := by
  unfold State.giveRole
  repeat'
    first
      | rfl
      | (simp; done)
      | split
      | simp only []
      | dsimp only

/-! ## Machine/PairOps.lean -/

@[simp ↓] theorem State.joinFail_kept (s : State) (check : Nat) : (State.joinFail s check).kept = s.kept := by
  simp [State.joinFail]

@[simp ↓] theorem State.pairJoin_kept (s : State) : (State.pairJoin s).kept = s.kept := by
  simp [State.pairJoin]

@[simp ↓] theorem State.joinAsShadow_kept (s : State) : (State.joinAsShadow s).kept = s.kept := by
  simp [State.joinAsShadow]

@[simp ↓] theorem State.provePair_kept (s : State) : (State.provePair s).kept = s.kept := by
  simp [State.provePair]

@[simp ↓] theorem State.joinBegin_kept (s : State) : (State.joinBegin s).kept = s.kept := by
  rfl

@[simp ↓] theorem State.rxJoin_kept (s : State) (f : JoinFacts) : (State.rxJoin s f).kept = s.kept := by
  unfold State.rxJoin
  repeat'
    first
      | rfl
      | (simp; done)
      | split
      | simp only []
      | dsimp only

@[simp ↓] theorem State.takeInsts_kept (s : State) (x : JoinTransfer) : (State.takeInsts s x).kept = s.kept := by
  unfold State.takeInsts
  repeat'
    first
      | rfl
      | assumption
      | (simp_all; done)
      | (simp [*]; done)
      | split
      | (refine (kept_foldl _ (fun _ _ => ?_) _ _).trans ?_)
      | (refine keptRel_foldl _ (fun _ _ _ => ?_) _ _ ?_)
      | (refine (laid_foldl_s _ (fun _ _ => ?_) _ _).trans ?_)
      | (refine (fit_foldl_s _ (fun _ _ => ?_) _ _).trans ?_)
      | (refine (injected_foldl_s _ (fun _ _ => ?_) _ _).trans ?_)
      | (intro _ _)
      | (simp; split)
      | dsimp only
      | simp

@[simp ↓] theorem State.takeTransfer_kept (s : State) (x : JoinTransfer) : (State.takeTransfer s x).kept = s.kept := by
  unfold State.takeTransfer
  repeat'
    first
      | rfl
      | assumption
      | (simp_all; done)
      | (simp [*]; done)
      | split
      | (refine (kept_foldl _ (fun _ _ => ?_) _ _).trans ?_)
      | (refine keptRel_foldl _ (fun _ _ _ => ?_) _ _ ?_)
      | (refine (laid_foldl_s _ (fun _ _ => ?_) _ _).trans ?_)
      | (refine (fit_foldl_s _ (fun _ _ => ?_) _ _).trans ?_)
      | (refine (injected_foldl_s _ (fun _ _ => ?_) _ _).trans ?_)
      | (intro _ _)
      | (simp; split)
      | dsimp only
      | simp

@[simp ↓] theorem State.pairLeave_kept (s : State) : (State.pairLeave s).kept = s.kept := by
  simp [State.pairLeave]

@[simp ↓] theorem State.planTakeover_kept (s : State) (from_ : Nat) : (State.planTakeover s from_).kept = s.kept := by
  simp [State.planTakeover]

@[simp ↓] theorem State.takeoverEpoch_kept (s : State) : (State.takeoverEpoch s).kept = s.kept := by
  unfold State.takeoverEpoch
  repeat'
    first
      | rfl
      | assumption
      | (simp_all; done)
      | (simp [*]; done)
      | split
      | (refine (kept_foldl _ (fun _ _ => ?_) _ _).trans ?_)
      | (refine keptRel_foldl _ (fun _ _ _ => ?_) _ _ ?_)
      | (intro _ _)
      | (simp; split)
      | dsimp only
      | simp

@[simp ↓] theorem State.actInRise_kept (s : State) : (State.actInRise s).kept = s.kept := by
  simp [State.actInRise]

@[simp ↓] theorem State.rxSync_kept (s : State) (v : BitVec 64) (stamp : Nat) : (State.rxSync s v stamp).kept = s.kept := by
  rfl

@[simp ↓] theorem State.rxHealth_kept (s : State) (h : Health) : (State.rxHealth s h).kept = s.kept := by
  simp [State.rxHealth]

@[simp ↓] theorem State.setHeadCmp_kept (s : State) (h : Nat) (x : HeadCmp) : (State.setHeadCmp s h x).kept = s.kept := by
  rfl

@[simp ↓] theorem State.rxSignature_kept (s : State) (b : SigBlock) : (State.rxSignature s b).kept = s.kept := by
  rfl

@[simp ↓] theorem State.diverge_kept (s : State) (v : Divergence) (code : Nat) : (State.diverge s v code).kept = s.kept := by
  simp [State.diverge]

@[simp ↓] theorem State.cmpResult_kept (s : State) (h : Nat) (r : CmpResult) (own partner : Bool) : (State.cmpResult s h r own partner).kept = s.kept := by
  rfl

@[simp ↓] theorem State.compareBlocks_kept (s : State) (d : Nat) (a b : SigBlock) : (State.compareBlocks s d a b).kept = s.kept := by
  simp [State.compareBlocks]

@[simp ↓] theorem State.dropBlocks_kept (s : State) (h e : Nat) : (State.dropBlocks s h e).kept = s.kept := by
  rfl

@[simp ↓] theorem State.dropCompared_kept (s : State) (b : SigBlock) : (State.dropCompared s b).kept = s.kept := by
  rfl

@[simp ↓] theorem State.missingBlock_kept (s : State) (h : Nat) (own partner : Bool) : (State.missingBlock s h own partner).kept = s.kept := by
  simp [State.missingBlock]

@[simp ↓] theorem State.attribute_kept (s : State) (v : Divergence) : (State.attribute s v).kept = s.kept := by
  simp [State.attribute]

@[simp ↓] theorem State.rxFillReq_kept (s : State) (c mseq : Nat) (share : Bool) : (State.rxFillReq s c mseq share).kept = s.kept := by
  simp [State.rxFillReq]

/-! ## Machine/HostBase.lean -/

@[simp ↓] theorem State.setWork_kept (s : State) (n : Nat) (w : Work) : (State.setWork s n w).kept = s.kept := by
  rfl

@[simp ↓] theorem State.complete_kept (s : State) (n id status reason result : Nat) : (State.complete s n id status reason result).kept = s.kept := by
  unfold State.complete
  repeat'
    first
      | rfl
      | (simp; done)
      | split
      | simp only []
      | dsimp only

@[simp ↓] theorem State.mpuCount_kept (s : State) : (State.mpuCount s).kept = s.kept := by
  rfl

@[simp ↓] theorem State.postNotice_kept (s : State) (who : Nat) : (State.postNotice s who).kept = s.kept := by
  simp [State.postNotice]

@[simp ↓] theorem State.postedRefused_kept (s : State) (who kind : Nat) : (State.postedRefused s who kind).kept = s.kept := by
  simp [State.postedRefused]

/-! ## Machine/Sheets.lean -/

@[simp ↓] theorem State.setComposing_kept (s : State) (n : Nat) (c : Composing) : (State.setComposing s n c).kept = s.kept := by
  rfl

@[simp ↓] theorem State.sheetMarks_kept (s : State) (n : Nat) (refs : List FrameRef) : (State.sheetMarks s n refs).kept = s.kept := by
  unfold State.sheetMarks
  repeat'
    first
      | rfl
      | assumption
      | (simp_all; done)
      | (simp [*]; done)
      | split
      | (refine (kept_foldl _ (fun _ _ => ?_) _ _).trans ?_)
      | (refine keptRel_foldl _ (fun _ _ _ => ?_) _ _ ?_)
      | (refine (laid_foldl_s _ (fun _ _ => ?_) _ _).trans ?_)
      | (refine (fit_foldl_s _ (fun _ _ => ?_) _ _).trans ?_)
      | (refine (injected_foldl_s _ (fun _ _ => ?_) _ _).trans ?_)
      | (intro _ _)
      | (simp; split)
      | dsimp only
      | simp

@[simp ↓] theorem State.finishSheet_kept (s : State) (n : Nat) (c : Composing) : (State.finishSheet s n c).kept = s.kept := by
  simp [State.finishSheet]

@[simp ↓] theorem State.waitEngine_kept (s : State) (e : Nat) : (State.waitEngine s e).kept = s.kept := by
  simp [State.waitEngine]

@[simp ↓] theorem State.startEngine_kept (s : State) (e : Nat) (z0 : Nat) : (State.startEngine s e z0).kept = s.kept := by
  induction z0 generalizing s
  all_goals unfold State.startEngine
  repeat'
    first
      | rfl
      | assumption
      | (simp_all; done)
      | (simp [*]; done)
      | split
      | (refine (kept_foldl _ (fun _ _ => ?_) _ _).trans ?_)
      | (refine keptRel_foldl _ (fun _ _ _ => ?_) _ _ ?_)
      | (refine (laid_foldl_s _ (fun _ _ => ?_) _ _).trans ?_)
      | (refine (fit_foldl_s _ (fun _ _ => ?_) _ _).trans ?_)
      | (refine (injected_foldl_s _ (fun _ _ => ?_) _ _).trans ?_)
      | (intro _ _)
      | (simp; split)
      | dsimp only
      | simp

@[simp ↓] theorem State.runEngine_kept (s : State) (e : Nat) : (State.runEngine s e).kept = s.kept := by
  simp [State.runEngine]

@[simp ↓] theorem State.restEngine_kept (s : State) (e : Nat) : (State.restEngine s e).kept = s.kept := by
  simp [State.restEngine]

@[simp ↓] theorem State.beginSheet_kept (s : State) (n e : Nat) : (State.beginSheet s n e).kept = s.kept := by
  unfold State.beginSheet
  repeat'
    first
      | rfl
      | (simp; done)
      | split
      | simp only []
      | dsimp only

@[simp ↓] theorem State.tileDone_kept (s : State) (n : Nat) (c : Composing) (w : Nat) (d : Desc) (src : Option FrameRef) (t : List (Nat × BitVec 512 × Option FrameRef)) : (State.tileDone s n c w d src t).kept = s.kept := by
  unfold State.tileDone
  repeat'
    first
      | rfl
      | (simp; done)
      | split
      | simp only []
      | dsimp only

@[simp ↓] theorem State.preemptSheet_kept (s : State) (e n : Nat) : (State.preemptSheet s e n).kept = s.kept := by
  unfold State.preemptSheet
  repeat'
    first
      | rfl
      | (simp; done)
      | split
      | simp only []
      | dsimp only

end Sys2Proof.Machine
end

