-- ==== Sys2Proof/Laws/Kept5.lean ====
section
/-! SUPPORT. What the operations of Machine/ keep (Laws/Kept.lean), in the order of their files: Power, SafeReq, AdmLay,
HostOps, IngestOps, LuskoOps. -/

namespace Sys2Proof.Machine

/-! ## Machine/Power.lean -/

@[simp ↓] theorem State.setRtc_kept (s : State) (v : Nat) : (State.setRtc s v).kept = s.kept := by
  rfl

@[simp] theorem State.wiped_kept (s : State) (ph : Phase) (m : Mode) (k0 : Kept) (hk : KeptRel k0 s.kept) :
    KeptRel k0 (s.wiped ph m).kept := hk.wipe

@[simp] theorem State.deviceReset_kept (s : State) (c : ResetCause) (k0 : Kept) (hk : KeptRel k0 s.kept) : KeptRel k0 (State.deviceReset s c).kept := by
  simp_all [State.deviceReset]

@[simp] theorem State.raiseRail_kept (s : State) (n : Nat) (k0 : Kept) (hk : KeptRel k0 s.kept) : KeptRel k0 (State.raiseRail s n).kept := by
  unfold State.raiseRail
  repeat'
    first
      | assumption
      | (simp_all; done)
      | split
      | (simp; split)

@[simp] theorem State.beginRailUp_kept (s : State) (c : ResetCause) (k0 : Kept) (hk : KeptRel k0 s.kept) : KeptRel k0 (State.beginRailUp s c).kept := by
  unfold State.beginRailUp
  repeat'
    first
      | assumption
      | (simp_all; done)
      | split
      | (simp; split)

@[simp ↓] theorem State.lowerRail_kept (s : State) : (State.lowerRail s).kept = s.kept := by
  unfold State.lowerRail
  repeat'
    first
      | rfl
      | (simp; done)
      | split
      | simp only []
      | dsimp only

@[simp ↓] theorem State.quiet_kept (s : State) : (State.quiet s).kept = s.kept := by
  unfold State.quiet
  repeat'
    first
      | rfl
      | assumption
      | (simp_all; done)
      | (simp [*]; done)
      | split
      | (refine (kept_foldl _ (fun _ _ => ?_) _ _).trans ?_)
      | (refine keptRel_foldl _ (fun _ _ _ => ?_) _ _ ?_)
      | (refine (laid_foldl_s _ (fun _ _ => ?_) _ _).trans ?_)
      | (refine (fit_foldl_s _ (fun _ _ => ?_) _ _).trans ?_)
      | (refine (injected_foldl_s _ (fun _ _ => ?_) _ _).trans ?_)
      | (intro _ _)
      | (simp; split)
      | dsimp only
      | simp

@[simp ↓] theorem State.sleep_kept (s : State) : (State.sleep s).kept = s.kept := by
  simp [State.sleep]

@[simp ↓] theorem State.powerFail_kept (s : State) (c : ResetCause) (rail : Nat) : (State.powerFail s c rail).kept = s.kept := by
  simp [State.powerFail]

@[simp] theorem State.actOnWake_kept (s : State) (k0 : Kept) (hk : KeptRel k0 s.kept) : KeptRel k0 (State.actOnWake s).kept := by
  unfold State.actOnWake
  repeat'
    first
      | assumption
      | (simp_all; done)
      | split
      | (simp; split)

@[simp] theorem State.wake_kept (s : State) (k : Nat) (k0 : Kept) (hk : KeptRel k0 s.kept) : KeptRel k0 (State.wake s k).kept := by
  unfold State.wake
  repeat'
    first
      | assumption
      | (simp_all; done)
      | split
      | (simp; split)

@[simp ↓] theorem State.setSlot_kept (s : State) (b : Bool) (x : Slot) : (State.setSlot s b x).kept = s.kept := by
  simp [State.setSlot]

@[simp ↓] theorem State.markBad_kept (s : State) (b : Bool) : (State.markBad s b).kept = s.kept := by
  simp [State.markBad]

@[simp ↓] theorem State.failTrial_kept (s : State) : (State.failTrial s).kept = s.kept := by
  simp [State.failTrial]

@[simp ↓] theorem State.romChoose_kept (s : State) (okA okB : Bool) (z0 : Nat) : (State.romChoose s okA okB z0).1.kept = s.kept := by
  induction z0 generalizing s
  all_goals unfold State.romChoose
  repeat'
    first
      | rfl
      | assumption
      | (simp_all; done)
      | (simp [*]; done)
      | split
      | (refine (kept_foldl _ (fun _ _ => ?_) _ _).trans ?_)
      | (refine keptRel_foldl _ (fun _ _ _ => ?_) _ _ ?_)
      | (refine (laid_foldl_s _ (fun _ _ => ?_) _ _).trans ?_)
      | (refine (fit_foldl_s _ (fun _ _ => ?_) _ _).trans ?_)
      | (refine (injected_foldl_s _ (fun _ _ => ?_) _ _).trans ?_)
      | (intro _ _)
      | (simp; split)
      | dsimp only
      | simp

@[simp ↓] theorem State.retireTrials_kept (s : State) : (State.retireTrials s).kept = s.kept := by
  simp [State.retireTrials]

@[simp ↓] theorem State.granted_kept (s : State) (r : TokenReq) : (State.granted s r).kept = s.kept := by
  unfold State.granted
  repeat'
    first
      | rfl
      | (simp; done)
      | split
      | simp only []
      | dsimp only

@[simp ↓] theorem State.grant_kept (s : State) (r : TokenReq) : (State.grant s r).kept = s.kept := by
  unfold State.grant
  repeat'
    first
      | rfl
      | assumption
      | (simp_all; done)
      | (simp [*]; done)
      | split
      | (refine (kept_foldl _ (fun _ _ => ?_) _ _).trans ?_)
      | (refine keptRel_foldl _ (fun _ _ _ => ?_) _ _ ?_)
      | (refine (laid_foldl_s _ (fun _ _ => ?_) _ _).trans ?_)
      | (refine (fit_foldl_s _ (fun _ _ => ?_) _ _).trans ?_)
      | (refine (injected_foldl_s _ (fun _ _ => ?_) _ _).trans ?_)
      | (intro _ _)
      | (simp; split)
      | dsimp only
      | simp

@[simp ↓] theorem State.grantSlot_kept (s : State) (left : Nat) (fresh : Bool) (z0 : List TokenReq) : (State.grantSlot s left fresh z0).kept = s.kept := by
  fun_induction State.grantSlot
  repeat'
    first
      | rfl
      | assumption
      | (simp_all; done)
      | (simp [*]; done)
      | split
      | (refine (kept_foldl _ (fun _ _ => ?_) _ _).trans ?_)
      | (refine keptRel_foldl _ (fun _ _ _ => ?_) _ _ ?_)
      | (refine (laid_foldl_s _ (fun _ _ => ?_) _ _).trans ?_)
      | (refine (fit_foldl_s _ (fun _ _ => ?_) _ _).trans ?_)
      | (refine (injected_foldl_s _ (fun _ _ => ?_) _ _).trans ?_)
      | (intro _ _)
      | (simp; split)
      | dsimp only
      | simp

@[simp ↓] theorem State.clock_kept (s : State) (h : TokenHolder) (u : Nat) (on : Bool) : (State.clock s h u on).kept = s.kept := by
  unfold State.clock
  repeat'
    first
      | rfl
      | (simp; done)
      | split
      | simp only []
      | dsimp only

/-! ## Machine/SafeReq.lean -/

@[simp ↓] theorem State.safeQueue_kept (s : State) (p : SafePending) : (State.safeQueue s p).kept = s.kept := by
  rfl

@[simp ↓] theorem State.safeInst_kept (s : State) (at_ n : Nat) (r : SafeRequest) : (State.safeInst s at_ n r).kept = s.kept := by
  rfl

@[simp ↓] theorem State.safeField_kept (s : State) (at_ : Nat) (r : SafeRequest) : (State.safeField s at_ r).kept = s.kept := by
  rfl

@[simp ↓] theorem State.safeRefuse_kept (s : State) (n : Int) : (State.safeRefuse s n).kept = s.kept := by
  simp [State.safeRefuse]

@[simp ↓] theorem State.setPattern_kept (s : State) (q : Nat) (p : AlarmPattern) : (State.setPattern s q p).kept = s.kept := by
  rfl

@[simp ↓] theorem State.safetyApply_kept (s : State) (at_ : Nat) (w : SafetyWrite) : (State.safetyApply s at_ w).kept = s.kept := by
  unfold State.safetyApply
  repeat'
    first
      | rfl
      | (simp; done)
      | split
      | simp only []
      | dsimp only

/-! ## Machine/AdmLay.lean -/

@[simp ↓] theorem laid_ite_s (c : Prop) [Decidable c] (a b : Laid) :
    (if c then a else b).s = if c then a.s else b.s := by split <;> rfl

theorem laid_foldl_s {β : Type} (f : Laid → β → Laid) (h : ∀ x b, (f x b).s.kept = x.s.kept) (l : List β) (x : Laid) :
    (l.foldl f x).s.kept = x.s.kept := foldl_same (fun x => x.s.kept) f h l x

@[simp ↓] theorem Laid.bad_kept (l : Laid) (b : Bool) (c d : Nat) : (Laid.bad l b c d).s.kept = l.s.kept := by
  rfl

@[simp ↓] theorem Laid.put_kept (l : Laid) (s : State) : (l.put s).s.kept = s.kept := rfl

@[simp ↓] theorem State.switched_kept (s : State) (k : Nat) : (State.switched s k).kept = s.kept := by
  rfl

@[simp ↓] theorem State.dropSalvo_kept (s : State) (k : Nat) (keep : Nat → Bool) : (State.dropSalvo s k keep).kept = s.kept := by
  rfl

@[simp ↓] theorem Laid.context_kept (l : Laid) (n : Nat) (x : Settings) : (Laid.context l n x).s.kept = l.s.kept := by
  rfl

@[simp ↓] theorem Laid.apply_kept (l : Laid) (idx : Nat) (set : Settings) : (Laid.apply l idx set).s.kept = l.s.kept := by
  unfold Laid.apply
  repeat'
    first
      | rfl
      | (simp; done)
      | split
      | simp only []
      | dsimp only

@[simp ↓] theorem Laid.stop_kept (l : Laid) (idx : Nat) : (Laid.stop l idx).s.kept = l.s.kept := by
  unfold Laid.stop
  repeat'
    first
      | rfl
      | (simp; done)
      | split
      | simp only []
      | dsimp only

@[simp ↓] theorem State.startListed_kept (s : State) (bs : List (Nat × Nat)) (decls : List (Nat × Settings)) : (State.startListed s bs decls).kept = s.kept := by
  rfl

@[simp ↓] theorem Laid.prepare_kept (l : Laid) (k : Nat) (bs : List (Nat × Nat)) (gen : Option (List (Nat × BitVec 512))) (decls : List (Nat × Settings)) : (Laid.prepare l k bs gen decls).s.kept = l.s.kept := by
  simp [Laid.prepare]

@[simp ↓] theorem Laid.commit_kept (l : Laid) (k c a : Nat) : (Laid.commit l k c a).s.kept = l.s.kept := by
  simp [Laid.commit]

@[simp ↓] theorem Laid.cancel_kept (l : Laid) (k : Nat) : (Laid.cancel l k).s.kept = l.s.kept := by
  simp [Laid.cancel]

@[simp ↓] theorem State.layWins_kept (s : State) (e : List (Nat × BitVec 512)) : (State.layWins s e).kept = s.kept := by
  rfl

@[simp ↓] theorem Laid.winCommit_kept (l : Laid) : (Laid.winCommit l).s.kept = l.s.kept := by
  rfl

@[simp ↓] theorem Laid.winBatch_kept (l : Laid) (owner : Option Nat) (e : List (Nat × BitVec 512)) : (Laid.winBatch l owner e).s.kept = l.s.kept := by
  unfold Laid.winBatch
  repeat'
    first
      | rfl
      | (simp; done)
      | split
      | simp only []
      | dsimp only

@[simp ↓] theorem State.setGrants_kept (s : State) (n : Nat) (g : Option Grants) : (State.setGrants s n g).kept = s.kept := by
  rfl

@[simp ↓] theorem Laid.generation_kept (l : Laid) (e : List (Nat × BitVec 512)) : (Laid.generation l e).s.kept = l.s.kept := by
  simp [Laid.generation]

@[simp ↓] theorem Laid.inst_kept (l : Laid) (n : Nat) (op : InstOp) : (Laid.inst l n op).s.kept = l.s.kept := by
  unfold Laid.inst
  repeat'
    first
      | rfl
      | assumption
      | (simp_all; done)
      | (simp [*]; done)
      | split
      | (refine (kept_foldl _ (fun _ _ => ?_) _ _).trans ?_)
      | (refine keptRel_foldl _ (fun _ _ _ => ?_) _ _ ?_)
      | (refine (laid_foldl_s _ (fun _ _ => ?_) _ _).trans ?_)
      | (refine (fit_foldl_s _ (fun _ _ => ?_) _ _).trans ?_)
      | (refine (injected_foldl_s _ (fun _ _ => ?_) _ _).trans ?_)
      | (intro _ _)
      | (simp; split)
      | dsimp only
      | simp

@[simp ↓] theorem Laid.map_kept (l : Laid) (n vpn ppn count : Nat) : (Laid.map l n vpn ppn count).s.kept = l.s.kept := by
  rfl

@[simp ↓] theorem Laid.surfCreate_kept (l : Laid) (n format w h rate : Nat) : (Laid.surfCreate l n format w h rate).s.kept = l.s.kept := by
  unfold Laid.surfCreate
  repeat'
    first
      | rfl
      | (simp; done)
      | split
      | simp only []
      | dsimp only

@[simp ↓] theorem Laid.tally_kept (l : Laid) (period pages : Nat) : (Laid.tally l period pages).s.kept = l.s.kept := by
  unfold Laid.tally
  repeat'
    first
      | rfl
      | (simp; done)
      | split
      | simp only []
      | dsimp only

@[simp ↓] theorem Laid.change_kept (a : Nat) (l : Laid) (c : Change) : (Laid.change a l c).s.kept = l.s.kept := by
  unfold Laid.change
  repeat'
    first
      | rfl
      | (simp; done)
      | split
      | simp only []
      | dsimp only

@[simp ↓] theorem State.defaults_kept (s : State) : (State.defaults s).kept = s.kept := by
  rfl

/-! ## Machine/HostOps.lean -/

@[simp ↓] theorem State.instTo_kept (s : State) (n : Nat) (x : InstState) : (State.instTo s n x).kept = s.kept := by
  simp [State.instTo]

@[simp ↓] theorem State.forgetSource_kept (s : State) (src : Source) : (State.forgetSource s src).kept = s.kept := by
  rfl

@[simp ↓] theorem State.dropSurf_kept (s : State) (k : Nat) : (State.dropSurf s k).kept = s.kept := by
  rfl

@[simp ↓] theorem State.dropSurfs_kept (s : State) (n : Nat) : (State.dropSurfs s n).kept = s.kept := by
  unfold State.dropSurfs
  repeat'
    first
      | rfl
      | assumption
      | (simp_all; done)
      | (simp [*]; done)
      | split
      | (refine (kept_foldl _ (fun _ _ => ?_) _ _).trans ?_)
      | (refine keptRel_foldl _ (fun _ _ _ => ?_) _ _ ?_)
      | (refine (laid_foldl_s _ (fun _ _ => ?_) _ _).trans ?_)
      | (refine (fit_foldl_s _ (fun _ _ => ?_) _ _).trans ?_)
      | (refine (injected_foldl_s _ (fun _ _ => ?_) _ _).trans ?_)
      | (intro _ _)
      | (simp; split)
      | dsimp only
      | simp

@[simp ↓] theorem State.syncDma_kept (s : State) : (State.syncDma s).kept = s.kept := by
  simp [State.syncDma]

@[simp ↓] theorem State.runDma_kept (s : State) : (State.runDma s).kept = s.kept := by
  simp [State.runDma]

@[simp ↓] theorem State.switchDma_kept (s : State) : (State.switchDma s).kept = s.kept := by
  unfold State.switchDma
  repeat'
    first
      | rfl
      | (simp; done)
      | split
      | simp only []
      | dsimp only

@[simp ↓] theorem State.freeDma_kept (s : State) (n id : Nat) : (State.freeDma s n id).kept = s.kept := by
  simp [State.freeDma]

@[simp ↓] theorem State.beginCommit_kept (s : State) (n : Nat) (w : Work) (k b rw rh : Nat) : (State.beginCommit s n w k b rw rh).kept = s.kept := by
  simp [State.beginCommit]

@[simp ↓] theorem State.endCommit_kept (s : State) (w : Work) (k : Nat) (hold ok : Bool) : (State.endCommit s w k hold ok).kept = s.kept := by
  simp [State.endCommit]

@[simp ↓] theorem State.sendGroup_kept (s : State) (n : Nat) (w : Work) : (State.sendGroup s n w).kept = s.kept := by
  simp [State.sendGroup]

@[simp ↓] theorem State.nextGroup_kept (s : State) (n : Nat) : (State.nextGroup s n).kept = s.kept := by
  unfold State.nextGroup
  repeat'
    first
      | rfl
      | (simp; done)
      | split
      | simp only []
      | dsimp only

@[simp ↓] theorem State.tagFailed_kept (s : State) (w : Work) (k b : Nat) (hold : Bool) : (State.tagFailed s w k b hold).kept = s.kept := by
  simp [State.tagFailed]

@[simp ↓] theorem State.failCommit_kept (s : State) (n : Nat) (w : Work) (k : Nat) (hold : Bool) : (State.failCommit s n w k hold).kept = s.kept := by
  unfold State.failCommit
  repeat'
    first
      | rfl
      | (simp; done)
      | split
      | simp only []
      | dsimp only

@[simp ↓] theorem State.failWork_kept (s : State) (n : Nat) (w : Work) : (s.failWork n w).kept = s.kept := by
  unfold State.failWork
  extract_lets s1 s2 i1 s3
  have h1 : s1.kept = s.kept := State.freeDma_kept ..
  have h2 : s2.kept = s1.kept := by
    simp only [s2]
    split
    · exact State.failCommit_kept ..
    · rfl
  have h3 : s3.kept = s2.kept := State.setInst_kept ..
  rw [State.nextGroup_kept, State.complete_kept, h3, h2, h1]

@[simp ↓] theorem State.failCommits_kept (s : State) (k : Nat) : (State.failCommits s k).kept = s.kept := by
  unfold State.failCommits
  repeat'
    first
      | rfl
      | assumption
      | (simp_all; done)
      | (simp [*]; done)
      | split
      | (refine (kept_foldl _ (fun _ _ => ?_) _ _).trans ?_)
      | (refine keptRel_foldl _ (fun _ _ _ => ?_) _ _ ?_)
      | (refine (laid_foldl_s _ (fun _ _ => ?_) _ _).trans ?_)
      | (refine (fit_foldl_s _ (fun _ _ => ?_) _ _).trans ?_)
      | (refine (injected_foldl_s _ (fun _ _ => ?_) _ _).trans ?_)
      | (intro _ _)
      | (simp; split)
      | dsimp only
      | simp

@[simp ↓] theorem State.wakePages_kept (s : State) (n : Nat) : (State.wakePages s n).kept = s.kept := by
  simp [State.wakePages]

@[simp ↓] theorem State.squashWork_kept (s : State) (n : Nat) (w : Work) : (State.squashWork s n w).kept = s.kept := by
  unfold State.squashWork
  repeat'
    first
      | rfl
      | (simp; done)
      | split
      | simp only []
      | dsimp only

@[simp ↓] theorem State.squash_kept (s : State) (n : Nat) : (State.squash s n).kept = s.kept := by
  unfold State.squash
  repeat'
    first
      | rfl
      | assumption
      | (simp_all; done)
      | (simp [*]; done)
      | split
      | (refine (kept_foldl _ (fun _ _ => ?_) _ _).trans ?_)
      | (refine keptRel_foldl _ (fun _ _ _ => ?_) _ _ ?_)
      | (refine (laid_foldl_s _ (fun _ _ => ?_) _ _).trans ?_)
      | (refine (fit_foldl_s _ (fun _ _ => ?_) _ _).trans ?_)
      | (refine (injected_foldl_s _ (fun _ _ => ?_) _ _).trans ?_)
      | (intro _ _)
      | (simp; split)
      | dsimp only
      | simp

@[simp ↓] theorem State.beginReset_kept (s : State) (n : Nat) (squash clear destroy : Bool) : (State.beginReset s n squash clear destroy).kept = s.kept := by
  simp [State.beginReset]

/-! ## Machine/IngestOps.lean -/

@[simp ↓] theorem State.reportPath_kept (s : State) (p : PathCfg) : (State.reportPath s p).kept = s.kept := by
  simp [State.reportPath]

/-! ## Machine/LuskoOps.lean -/

@[simp ↓] theorem State.sendIdent_kept (s : State) (l : Nat) : (State.sendIdent s l).kept = s.kept := by
  rfl

@[simp ↓] theorem State.trainLane_kept (s : State) (l : Nat) : (State.trainLane s l).kept = s.kept := by
  simp [State.trainLane]

@[simp ↓] theorem State.laneErrs_kept (s : State) (l code disp : Nat) : (State.laneErrs s l code disp).kept = s.kept := by
  simp [State.laneErrs]

@[simp ↓] theorem State.bondErrs_kept (s : State) (l : Nat) (e : List (Nat × Nat)) : (State.bondErrs s l e).kept = s.kept := by
  unfold State.bondErrs
  repeat'
    first
      | rfl
      | assumption
      | (simp_all; done)
      | (simp [*]; done)
      | split
      | (refine (kept_foldl _ (fun _ _ => ?_) _ _).trans ?_)
      | (refine keptRel_foldl _ (fun _ _ _ => ?_) _ _ ?_)
      | (refine (laid_foldl_s _ (fun _ _ => ?_) _ _).trans ?_)
      | (refine (fit_foldl_s _ (fun _ _ => ?_) _ _).trans ?_)
      | (refine (injected_foldl_s _ (fun _ _ => ?_) _ _).trans ?_)
      | (intro _ _)
      | (simp; split)
      | dsimp only
      | simp

@[simp ↓] theorem State.scanTrain_kept (s : State) : (State.scanTrain s).kept = s.kept := by
  unfold State.scanTrain
  repeat'
    first
      | rfl
      | assumption
      | (simp_all; done)
      | (simp [*]; done)
      | split
      | (refine (kept_foldl _ (fun _ _ => ?_) _ _).trans ?_)
      | (refine keptRel_foldl _ (fun _ _ _ => ?_) _ _ ?_)
      | (refine (laid_foldl_s _ (fun _ _ => ?_) _ _).trans ?_)
      | (refine (fit_foldl_s _ (fun _ _ => ?_) _ _).trans ?_)
      | (refine (injected_foldl_s _ (fun _ _ => ?_) _ _).trans ?_)
      | (intro _ _)
      | (simp; split)
      | dsimp only
      | simp

@[simp ↓] theorem State.scanRestore_kept (s : State) (done : Bool) : (State.scanRestore s done).kept = s.kept := by
  unfold State.scanRestore
  repeat'
    first
      | rfl
      | assumption
      | (simp_all; done)
      | (simp [*]; done)
      | split
      | (refine (kept_foldl _ (fun _ _ => ?_) _ _).trans ?_)
      | (refine keptRel_foldl _ (fun _ _ _ => ?_) _ _ ?_)
      | (refine (laid_foldl_s _ (fun _ _ => ?_) _ _).trans ?_)
      | (refine (fit_foldl_s _ (fun _ _ => ?_) _ _).trans ?_)
      | (refine (injected_foldl_s _ (fun _ _ => ?_) _ _).trans ?_)
      | (intro _ _)
      | (simp; split)
      | dsimp only
      | simp

@[simp ↓] theorem State.scanNext_kept (s : State) (v : Nat → BitVec 32) : (State.scanNext s v).kept = s.kept := by
  simp [State.scanNext]

@[simp ↓] theorem State.bondUp_kept (s : State) (l : Nat) : (State.bondUp s l).kept = s.kept := by
  unfold State.bondUp
  repeat'
    first
      | rfl
      | assumption
      | (simp_all; done)
      | (simp [*]; done)
      | split
      | (refine (kept_foldl _ (fun _ _ => ?_) _ _).trans ?_)
      | (refine keptRel_foldl _ (fun _ _ _ => ?_) _ _ ?_)
      | (refine (laid_foldl_s _ (fun _ _ => ?_) _ _).trans ?_)
      | (refine (fit_foldl_s _ (fun _ _ => ?_) _ _).trans ?_)
      | (refine (injected_foldl_s _ (fun _ _ => ?_) _ _).trans ?_)
      | (intro _ _)
      | (simp; split)
      | dsimp only
      | simp

@[simp ↓] theorem State.rxIdent_kept (s : State) (l : Nat) (i : Ident) (stamp : Nat) : (State.rxIdent s l i stamp).kept = s.kept := by
  unfold State.rxIdent
  repeat'
    first
      | rfl
      | (simp; done)
      | split
      | simp only []
      | dsimp only

@[simp ↓] theorem State.bondDeep_kept (s : State) (l : Nat) : (State.bondDeep s l).kept = s.kept := by
  unfold State.bondDeep
  repeat'
    first
      | rfl
      | assumption
      | (simp_all; done)
      | (simp [*]; done)
      | split
      | (refine (kept_foldl _ (fun _ _ => ?_) _ _).trans ?_)
      | (refine keptRel_foldl _ (fun _ _ _ => ?_) _ _ ?_)
      | (intro _ _)
      | (simp; split)
      | dsimp only
      | simp

@[simp ↓] theorem State.sendLinkCtrl_kept (s : State) (l op : Nat) : (State.sendLinkCtrl s l op).kept = s.kept := by
  simp [State.sendLinkCtrl]

@[simp ↓] theorem State.rxLinkCtrl_kept (s : State) (l op : Nat) : (State.rxLinkCtrl s l op).kept = s.kept := by
  unfold State.rxLinkCtrl
  repeat'
    first
      | rfl
      | (simp; done)
      | split
      | simp only []
      | dsimp only

@[simp ↓] theorem State.luskoBad_kept (s : State) (l : Nat) (why : LuskoBad) : (State.luskoBad s l why).kept = s.kept := by
  unfold State.luskoBad
  repeat'
    first
      | rfl
      | (simp; done)
      | split
      | simp only []
      | dsimp only

@[simp ↓] theorem State.luskoSeq_kept (s : State) (f chan : Nat) (q : BitVec 16) (n : Nat) : (State.luskoSeq s f chan q n).kept = s.kept := by
  unfold State.luskoSeq
  repeat'
    first
      | rfl
      | assumption
      | (simp_all; done)
      | (simp [*]; done)
      | split
      | (refine (kept_foldl _ (fun _ _ => ?_) _ _).trans ?_)
      | (refine keptRel_foldl _ (fun _ _ _ => ?_) _ _ ?_)
      | (refine (laid_foldl_s _ (fun _ _ => ?_) _ _).trans ?_)
      | (refine (fit_foldl_s _ (fun _ _ => ?_) _ _).trans ?_)
      | (refine (injected_foldl_s _ (fun _ _ => ?_) _ _).trans ?_)
      | (intro _ _)
      | (simp; split)
      | dsimp only
      | simp

@[simp ↓] theorem State.identSeq_kept (s : State) (l : Nat) (q : BitVec 16) : (State.identSeq s l q).kept = s.kept := by
  simp [State.identSeq]

@[simp ↓] theorem State.rxCapture_kept (s : State) (f chan : Nat) (b : LuskoBody) (stamp : Nat) : (State.rxCapture s f chan b stamp).kept = s.kept := by
  unfold State.rxCapture
  repeat'
    first
      | rfl
      | (simp; done)
      | split
      | simp only []
      | dsimp only

@[simp ↓] theorem State.askWake_kept (s : State) (l : Nat) : (State.askWake s l).kept = s.kept := by
  unfold State.askWake
  repeat'
    first
      | rfl
      | assumption
      | (simp_all; done)
      | (simp [*]; done)
      | split
      | (refine (kept_foldl _ (fun _ _ => ?_) _ _).trans ?_)
      | (refine keptRel_foldl _ (fun _ _ _ => ?_) _ _ ?_)
      | (refine (laid_foldl_s _ (fun _ _ => ?_) _ _).trans ?_)
      | (refine (fit_foldl_s _ (fun _ _ => ?_) _ _).trans ?_)
      | (refine (injected_foldl_s _ (fun _ _ => ?_) _ _).trans ?_)
      | (intro _ _)
      | (simp; split)
      | dsimp only
      | simp

end Sys2Proof.Machine
end

