-- ==== Sys2Proof/Laws/Kept6.lean ====
section
/-! SUPPORT. What the operations of Machine/ keep (Laws/Kept.lean), in the order of their files: AdmLive, Update, Admit,
Audio, Boot, DictVal, DictOps. -/

namespace Sys2Proof.Machine

/-! ## Machine/AdmLive.lean -/

@[simp ↓] theorem State.viewing_kept (s : State) (objs : Tab Obj) : (State.viewing s objs).kept = s.kept := by
  rfl

@[simp ↓] theorem State.liveCtx_kept (s : State) (touched : List Nat) (objs : Tab Obj) (n : Nat) :
    (s.liveCtx touched objs n).kept = s.kept := by
  unfold State.liveCtx
  split
  · rename_i d _
    extract_lets s1 s2
    have h1 : s1.kept = s.kept := by
      simp only [s1]
      split
      · rfl
      · rw [State.dropBuffers_kept, State.dropWork_kept]
    have h2 : s2.kept = s1.kept := State.startCtx_kept ..
    clear_value s1 s2
    rw [← h1, ← h2]
    cases d with
    | net x => dsimp only; rw [State.reportPath_kept, State.reportPath_kept]
    | lusko x => rfl
  · rfl

@[simp ↓] theorem State.feedCtx_kept (s : State) (objs : Tab Obj) (n : Nat) : (State.feedCtx s objs n).kept = s.kept := by
  rfl

@[simp ↓] theorem State.feedChan_kept (s : State) (c : Nat) (n : Option Nat) : (State.feedChan s c n).kept = s.kept := by
  simp [State.feedChan]

@[simp ↓] theorem State.setChanCfg_kept (s : State) (objs : Tab Obj) (c : Nat) : (State.setChanCfg s objs c).kept = s.kept := by
  simp [State.setChanCfg]

@[simp ↓] theorem State.wastePreroll_kept (s : State) (n : Nat) : (State.wastePreroll s n).kept = s.kept := by
  unfold State.wastePreroll
  repeat'
    first
      | rfl
      | assumption
      | (simp_all; done)
      | (simp [*]; done)
      | split
      | (refine (kept_foldl _ (fun _ _ => ?_) _ _).trans ?_)
      | (refine keptRel_foldl _ (fun _ _ _ => ?_) _ _ ?_)
      | (refine (laid_foldl_s _ (fun _ _ => ?_) _ _).trans ?_)
      | (refine (fit_foldl_s _ (fun _ _ => ?_) _ _).trans ?_)
      | (refine (injected_foldl_s _ (fun _ _ => ?_) _ _).trans ?_)
      | (intro _ _)
      | (simp; split)
      | dsimp only
      | simp

@[simp ↓] theorem State.liveStop_kept (s : State) (cancelled : List Nat) (objs : Tab Obj) (n : Nat) : (State.liveStop s cancelled objs n).kept = s.kept := by
  simp [State.liveStop]

@[simp ↓] theorem State.liveIngest_kept (s : State) (touched cancelled : List Nat) (objs : Tab Obj) :
    (s.liveIngest touched cancelled objs).kept = s.kept := by
  unfold State.liveIngest
  extract_lets ns started s1 chs s2 s3 s4 s5 again s6
  have h1 : s1.kept = s.kept := kept_foldl _ (fun y n => State.liveCtx_kept ..) _ _
  have h2 : s2.kept = s1.kept := kept_foldl _ (fun y n => State.feedCtx_kept ..) _ _
  have h3 : s3.kept = s2.kept := kept_foldl _ (fun y n => State.feedChan_kept ..) _ _
  have h4 : s4.kept = s3.kept := kept_foldl _ (fun y n => State.setChanCfg_kept ..) _ _
  have h5 : s5.kept = s4.kept := kept_foldl _ (fun y n => State.liveStop_kept ..) _ _
  have h6 : s6.kept = s5.kept := kept_foldl _ (fun y n => State.chanStart_kept ..) _ _
  rw [State.settleAll_kept, h6, h5, h4, h3, h2, h1]

@[simp ↓] theorem State.disableBond_kept (s : State) (l : Nat) (b : BondCfg) : (State.disableBond s l b).kept = s.kept := by
  unfold State.disableBond
  repeat'
    first
      | rfl
      | assumption
      | (simp_all; done)
      | (simp [*]; done)
      | split
      | (refine (kept_foldl _ (fun _ _ => ?_) _ _).trans ?_)
      | (refine keptRel_foldl _ (fun _ _ _ => ?_) _ _ ?_)
      | (refine (laid_foldl_s _ (fun _ _ => ?_) _ _).trans ?_)
      | (refine (fit_foldl_s _ (fun _ _ => ?_) _ _).trans ?_)
      | (refine (injected_foldl_s _ (fun _ _ => ?_) _ _).trans ?_)
      | (intro _ _)
      | (simp; split)
      | dsimp only
      | simp

@[simp ↓] theorem State.enableBond_kept (s : State) (l : Nat) (b : BondCfg) : (State.enableBond s l b).kept = s.kept := by
  unfold State.enableBond
  repeat'
    first
      | rfl
      | assumption
      | (simp_all; done)
      | (simp [*]; done)
      | split
      | (refine (kept_foldl _ (fun _ _ => ?_) _ _).trans ?_)
      | (refine keptRel_foldl _ (fun _ _ _ => ?_) _ _ ?_)
      | (refine (laid_foldl_s _ (fun _ _ => ?_) _ _).trans ?_)
      | (refine (fit_foldl_s _ (fun _ _ => ?_) _ _).trans ?_)
      | (refine (injected_foldl_s _ (fun _ _ => ?_) _ _).trans ?_)
      | (intro _ _)
      | (simp; split)
      | dsimp only
      | simp

@[simp ↓] theorem State.liveBonds_kept (s : State) (objs : Tab Obj) : (State.liveBonds s objs).kept = s.kept := by
  unfold State.liveBonds
  repeat'
    first
      | rfl
      | assumption
      | (simp_all; done)
      | (simp [*]; done)
      | split
      | (refine (kept_foldl _ (fun _ _ => ?_) _ _).trans ?_)
      | (refine keptRel_foldl _ (fun _ _ _ => ?_) _ _ ?_)
      | (refine (laid_foldl_s _ (fun _ _ => ?_) _ _).trans ?_)
      | (refine (fit_foldl_s _ (fun _ _ => ?_) _ _).trans ?_)
      | (refine (injected_foldl_s _ (fun _ _ => ?_) _ _).trans ?_)
      | (intro _ _)
      | (simp; split)
      | dsimp only
      | simp

@[simp ↓] theorem State.liveHead_kept (s : State) (a : Nat) (objs : Tab Obj) (h : Nat) : (State.liveHead s a objs h).kept = s.kept := by
  unfold State.liveHead
  repeat'
    first
      | rfl
      | (simp; done)
      | split
      | simp only []
      | dsimp only

@[simp ↓] theorem State.liveSheet_kept (s : State) (objs : Tab Obj) (n : Nat) : (s.liveSheet objs n).kept = s.kept := by
  unfold State.liveSheet
  extract_lets v x e free
  have hf : ∀ s : State, (free s).kept = s.kept := fun s => by
    refine kept_foldl _ (fun y k => ?_) _ _
    split
    · exact State.freeEngine_kept ..
    · rfl
  clear_value v x e free
  split
  · split
    · rw [State.finishSwitch_kept, State.setSheet_kept, State.forgetSource_kept, hf]
    · rfl
  · split
    · rw [State.setSheet_kept]
    · split
      · rw [State.setSheet_kept]
      · rw [State.settleAll_kept, State.setSheet_kept, hf]

@[simp ↓] theorem State.liveRec_kept (s : State) (old objs : Tab Obj) (r : Nat) : (State.liveRec s old objs r).kept = s.kept := by
  simp [State.liveRec]

@[simp ↓] theorem State.reseat_kept (s : State) (n : Nat) : (State.reseat s n).kept = s.kept := by
  unfold State.reseat
  repeat'
    first
      | rfl
      | (simp; done)
      | split
      | simp only []
      | dsimp only

@[simp ↓] theorem State.livePacking_kept (s : State) (objs : Tab Obj) : (State.livePacking s objs).kept = s.kept := by
  unfold State.livePacking
  repeat'
    first
      | rfl
      | assumption
      | (simp_all; done)
      | (simp [*]; done)
      | split
      | (refine (kept_foldl _ (fun _ _ => ?_) _ _).trans ?_)
      | (refine keptRel_foldl _ (fun _ _ _ => ?_) _ _ ?_)
      | (refine (laid_foldl_s _ (fun _ _ => ?_) _ _).trans ?_)
      | (refine (fit_foldl_s _ (fun _ _ => ?_) _ _).trans ?_)
      | (refine (injected_foldl_s _ (fun _ _ => ?_) _ _).trans ?_)
      | (intro _ _)
      | (simp; split)
      | dsimp only
      | simp

@[simp ↓] theorem State.liveTouch_kept (s : State) (objs : Tab Obj) (p : Nat) : (State.liveTouch s objs p).kept = s.kept := by
  simp [State.liveTouch]

@[simp ↓] theorem State.liveKey_kept (s : State) (objs : Tab Obj) (k : Nat) : (State.liveKey s objs k).kept = s.kept := by
  simp [State.liveKey]

@[simp ↓] theorem State.liveConsole_kept (s : State) (objs : Tab Obj) : (s.liveConsole objs).kept = s.kept := by
  unfold State.liveConsole
  extract_lets s1 s2 o g rule
  have h1 : s1.kept = s.kept := kept_foldl _ (fun y n => State.liveTouch_kept ..) _ _
  have h2 : s2.kept = s1.kept := kept_foldl _ (fun y n => State.liveKey_kept ..) _ _
  clear_value s1 s2 g rule
  exact h2.trans h1

@[simp ↓] theorem State.livePair_kept (s : State) (objs : Tab Obj) : (State.livePair s objs).kept = s.kept := by
  simp [State.livePair]

@[simp ↓] theorem State.goLive_kept (s : State) (a : Nat) (touched cancelled : List Nat) (objs : Tab Obj) :
    (s.goLive a touched cancelled objs).kept = s.kept := by
  unfold State.goLive
  extract_lets old s1 s2 s3 s4 s5 s6
  have h1 : s1.kept = s.kept := State.liveIngest_kept ..
  have h2 : s2.kept = s1.kept := State.liveBonds_kept ..
  have h3 : s3.kept = s2.kept := kept_foldl _ (fun y n => State.liveHead_kept ..) _ _
  have h4 : s4.kept = s3.kept := kept_foldl _ (fun y n => State.liveSheet_kept ..) _ _
  have h5 : s5.kept = s4.kept := kept_foldl _ (fun y n => State.liveRec_kept ..) _ _
  have h6 : s6.kept = s5.kept := by
    simp only [s6, State.notePeak_kept, State.livePair_kept, State.liveConsole_kept, State.livePacking_kept]
  clear_value s1 s2 s3 s4 s5 s6
  exact h6.trans (by rw [h5, h4, h3, h2, h1])

@[simp ↓] theorem State.takeEffect_kept (s : State) (z0 : Nat) : (State.takeEffect s z0).kept = s.kept := by
  induction z0 generalizing s
  all_goals unfold State.takeEffect
  repeat'
    first
      | rfl
      | assumption
      | (simp_all; done)
      | (simp [*]; done)
      | split
      | (refine (kept_foldl _ (fun _ _ => ?_) _ _).trans ?_)
      | (refine keptRel_foldl _ (fun _ _ _ => ?_) _ _ ?_)
      | (refine (laid_foldl_s _ (fun _ _ => ?_) _ _).trans ?_)
      | (refine (fit_foldl_s _ (fun _ _ => ?_) _ _).trans ?_)
      | (refine (injected_foldl_s _ (fun _ _ => ?_) _ _).trans ?_)
      | (intro _ _)
      | (simp; split)
      | dsimp only
      | simp

@[simp ↓] theorem State.applyWaiting_kept (s : State) : (State.applyWaiting s).kept = s.kept := by
  simp [State.applyWaiting]

@[simp ↓] theorem State.domWrite_kept (s : State) (d : Fin 2) (v : Nat) : (State.domWrite s d v).kept = s.kept := by
  simp [State.domWrite]

/-! ## Machine/Update.lean -/

@[simp ↓] theorem State.setUpdSource_kept (s : State) (k : Nat) (x : UpdSource) : (State.setUpdSource s k x).kept = s.kept := by
  rfl

@[simp ↓] theorem State.endClaim_kept (s : State) (k : Nat) : (State.endClaim s k).kept = s.kept := by
  simp [State.endClaim]

@[simp ↓] theorem State.updRefuse_kept (s : State) (k status : Nat) : (State.updRefuse s k status).kept = s.kept := by
  simp [State.updRefuse]

@[simp ↓] theorem State.flashWrite_kept (s : State) (a : Nat) (l : List (BitVec 8)) : (State.flashWrite s a l).kept = s.kept := by
  rfl

@[simp ↓] theorem State.updStart_kept (s : State) (k : Nat) (len : Option Nat) : (State.updStart s k len).kept = s.kept := by
  simp [State.updStart]

@[simp ↓] theorem State.updChunk_kept (s : State) (k off : Nat) (data : List (BitVec 8)) : (State.updChunk s k off data).1.kept = s.kept := by
  unfold State.updChunk
  repeat'
    first
      | rfl
      | (simp; done)
      | split
      | simp only []
      | dsimp only

@[simp] theorem State.updHeader_kept (s : State) (k : Nat) (k0 : Kept) (hk : KeptRel k0 s.kept) :
    KeptRel k0 (s.updHeader k).1.kept := by
  unfold State.updHeader
  extract_lets x v h p1 b s1 p2 s2 s3
  have h1 : s1.kept = s.kept := State.setSlot_kept ..
  have h2 : s2.kept = s1.kept := rfl
  have h3 : s3.kept = s2.kept := by
    simp only [s3]
    rw [State.setUpdSource_kept, State.flashWrite_kept]
  clear_value s1 s2 s3
  split
  · exact hk
  · split
    · rw [State.updRefuse_kept]; exact hk
    · split
      · exact State.deviceReset_kept _ _ k0 hk.promote
      · rw [State.emit_kept, h3, h2, h1]; exact hk

@[simp ↓] theorem State.updPayload_kept (s : State) (k : Nat) (readBack : Bool) : (State.updPayload s k readBack).1.kept = s.kept := by
  unfold State.updPayload
  repeat'
    first
      | rfl
      | (simp; done)
      | split
      | simp only []
      | dsimp only

@[simp ↓] theorem State.updAbort_kept (s : State) (k : Nat) : (State.updAbort s k).kept = s.kept := by
  simp [State.updAbort]

@[simp ↓] theorem State.updAnswer_kept (s : State) (k status : Nat) : (State.updAnswer s k status).kept = s.kept := by
  unfold State.updAnswer
  repeat'
    first
      | rfl
      | (simp; done)
      | split
      | simp only []
      | dsimp only

/-! ## Machine/Admit.lean -/

@[simp ↓] theorem State.fitChecks_kept (s v : State) : (s.fitChecks v).1.kept = v.kept := by
  unfold State.fitChecks
  exact State.fitPools_kept _

@[simp ↓] theorem salvoChecks_kept (old : State) (z0 : State) (z1 : List Nat) : (salvoChecks old z0 z1).1.kept = z0.kept := by
  induction z1 generalizing z0 with
  | nil => rfl
  | cons k t ih => exact (ih _).trans ((State.fitChecks_kept ..).trans (State.switched_kept ..))

@[simp ↓] theorem State.lay_kept (s : State) (a : Nat) (r : Request) : (s.lay a r).s.kept = s.kept := by
  unfold State.lay
  extract_lets base l own v
  have hb : base.kept = s.kept := by
    simp only [base]
    split
    · exact State.defaults_kept s
    · rfl
  have hl : l.s.kept = base.kept := laid_foldl_s _ (fun x b => Laid.change_kept ..) _ _
  have hv : v.1.kept = l.s.kept := State.fitChecks_kept ..
  clear_value base l own v
  split
  · exact hl.trans hb
  · exact hv.trans (hl.trans hb)

@[simp ↓] theorem State.latchedHold_kept (s : State) (p : Mode) : (State.latchedHold s p).kept = s.kept := by
  simp [State.latchedHold]

@[simp ↓] theorem State.enterGo_kept (s : State) (toShadow : Bool) : (State.enterGo s toShadow).kept = s.kept := by
  simp [State.enterGo]

@[simp ↓] theorem State.goChange_kept (s : State) (w : GoWait) : (State.goChange s w).kept = s.kept := by
  simp [State.goChange]

@[simp ↓] theorem State.tryGo_kept (s : State) : (State.tryGo s).kept = s.kept := by
  unfold State.tryGo
  repeat'
    first
      | rfl
      | (simp; done)
      | split
      | simp only []
      | dsimp only

@[simp ↓] theorem State.acceptGo_kept (s : State) (proving : Bool) : (State.acceptGo s proving).kept = s.kept := by
  simp [State.acceptGo]

@[simp] theorem State.actMode_kept (s : State) (a : Nat) (z0 : ModeCmd) (k0 : Kept) (hk : KeptRel k0 s.kept) : KeptRel k0 (State.actMode s a z0).kept := by
  unfold State.actMode
  repeat'
    first
      | assumption
      | (simp_all; done)
      | split
      | (simp; split)

@[simp ↓] theorem State.actPair_kept (s : State) (a op : Nat) : (State.actPair s a op).kept = s.kept := by
  simp [State.actPair]

@[simp ↓] theorem State.setArea_kept (s : State) (b : Bool) (x : StoreArea) : (State.setArea s b x).kept = s.kept := by
  simp [State.setArea]

@[simp ↓] theorem State.beginStore_kept (s : State) : (State.beginStore s).kept = s.kept := by
  simp [State.beginStore]

@[simp ↓] theorem State.actInst_kept (s : State) (a n : Nat) (op : InstOp) : (State.actInst s a n op).kept = s.kept := by
  unfold State.actInst
  repeat'
    first
      | rfl
      | (simp; done)
      | split
      | simp only []
      | dsimp only

@[simp ↓] theorem State.plainDefaults_kept (s : State) (cs : List Change) : (State.plainDefaults s cs).kept = s.kept := by
  simp [State.plainDefaults]

@[simp ↓] theorem State.actPlain_kept (s : State) (idx sub v : Nat) : (State.actPlain s idx sub v).kept = s.kept := by
  simp [State.actPlain]

@[simp] theorem State.act_kept (a rx : Nat) (s : State) (c : Change) (k0 : Kept) (hk : KeptRel k0 s.kept) : KeptRel k0 (State.act a rx s c).kept := by
  unfold State.act
  repeat'
    first
      | assumption
      | (simp_all; done)
      | split
      | (simp; split)

@[simp ↓] theorem State.commitGen_kept (s : State) (a : Nat) : (State.commitGen s a).kept = s.kept := by
  simp [State.commitGen]

@[simp ↓] theorem State.configured_kept (s : State) (r : Request) : (State.configured s r).kept = s.kept := by
  unfold State.configured
  repeat'
    first
      | rfl
      | (simp; done)
      | split
      | simp only []
      | dsimp only

@[simp] theorem State.accept_kept (s : State) (a : Nat) (r : Request) (l : Laid) (k0 : Kept) (hk : KeptRel k0 l.s.kept) :
    KeptRel k0 (s.accept a r l).kept := by
  unfold State.accept
  extract_lets new old fresh p1 new2 cfg a1 s1 s2 s3
  have h0 : new2.kept = l.s.kept := rfl
  have h1 : s1.kept = new2.kept := by
    simp only [s1]
    split
    · exact State.configured_kept ..
    · rfl
  have h2 : s2.kept = s1.kept := by
    simp only [s2]
    split
    · exact State.commitGen_kept ..
    · rfl
  have h3 : s3.kept = s2.kept := by
    simp only [s3]
    split
    · exact State.plainDefaults_kept ..
    · rfl
  have h4 : KeptRel k0 s3.kept := by rw [h3, h2, h1, h0]; exact hk
  rw [State.applyWaiting_kept]
  exact keptRel_foldl _ (fun y c hy => State.act_kept (hk := hy) ..) _ _ h4

@[simp ↓] theorem State.setResult_kept (s : State) (off reason : Nat) : (State.setResult s off reason).kept = s.kept := by
  rfl

@[simp ↓] theorem State.tell_kept (s : State) (who : Asker) (reason result : Nat) : (State.tell s who reason result).kept = s.kept := by
  unfold State.tell
  repeat'
    first
      | rfl
      | (simp; done)
      | split
      | simp only []
      | dsimp only

@[simp ↓] theorem State.answer_kept (s : State) (r : Request) (reason result : Nat) : (State.answer s r reason result).kept = s.kept := by
  unfold State.answer
  repeat'
    first
      | rfl
      | (simp; done)
      | split
      | simp only []
      | dsimp only

@[simp ↓] theorem State.settingsLoaded_kept (s : State) (cause : Nat) : (State.settingsLoaded s cause).kept = s.kept := by
  simp [State.settingsLoaded]

@[simp ↓] theorem State.autorun_kept (s : State) : (State.autorun s).kept = s.kept := by
  simp [State.autorun]

@[simp] theorem State.judge_kept (s : State) (a : Nat) (r : Request) (k0 : Kept) (hk : KeptRel k0 s.kept) :
    KeptRel k0 (s.judge a r).1.kept := by
  unfold State.judge
  extract_lets l reason t batch s1
  have ht : KeptRel k0 t.kept := State.accept_kept (hk := by rw [State.lay_kept]; exact hk) ..
  have h1 : s1.kept = s.kept := by
    simp only [s1]
    split
    · exact State.safeRefuse_kept ..
    · rfl
  clear_value l reason t batch s1
  split
  · exact ht
  · dsimp only
    split
    · rw [State.restoreShadow_kept, h1]; exact hk
    · rw [h1]; exact hk

@[simp] theorem State.judgeFirst_kept (s : State) (r : Request) (k0 : Kept) (hk : KeptRel k0 s.kept) : KeptRel k0 (State.judgeFirst s r).kept := by
  simp_all [State.judgeFirst]

@[simp] theorem State.serveQueue_kept (s : State) (z0 : Nat) (k0 : Kept) (hk : KeptRel k0 s.kept) :
    KeptRel k0 (s.serveQueue z0).kept := by
  induction z0 generalizing s with
  | zero => exact hk
  | succ f ih =>
    unfold State.serveQueue
    split
    · exact hk
    · split
      · exact hk
      · exact ih _ (State.judgeFirst_kept _ _ _ hk)

@[simp ↓] theorem State.refuseForwarded_kept (s : State) : (State.refuseForwarded s).kept = s.kept := by
  unfold State.refuseForwarded
  repeat'
    first
      | rfl
      | assumption
      | (simp_all; done)
      | (simp [*]; done)
      | split
      | (refine (kept_foldl _ (fun _ _ => ?_) _ _).trans ?_)
      | (refine keptRel_foldl _ (fun _ _ _ => ?_) _ _ ?_)
      | (refine (laid_foldl_s _ (fun _ _ => ?_) _ _).trans ?_)
      | (refine (fit_foldl_s _ (fun _ _ => ?_) _ _).trans ?_)
      | (refine (injected_foldl_s _ (fun _ _ => ?_) _ _).trans ?_)
      | (intro _ _)
      | (simp; split)
      | dsimp only
      | simp

@[simp] theorem State.runQueue_kept (s : State) (k0 : Kept) (hk : KeptRel k0 s.kept) : KeptRel k0 (State.runQueue s).kept := by
  unfold State.runQueue
  repeat'
    first
      | assumption
      | (simp_all; done)
      | split
      | (simp; split)

@[simp ↓] theorem State.enqueue_kept (s : State) (r : Request) : (State.enqueue s r).kept = s.kept := by
  rfl

@[simp] theorem State.place_kept (s : State) (r : Request) (k0 : Kept) (hk : KeptRel k0 s.kept) : KeptRel k0 (State.place s r).kept := by
  unfold State.place
  repeat'
    first
      | assumption
      | (simp_all; done)
      | split
      | (simp; split)

@[simp] theorem State.request_kept (s : State) (who : Asker) (cs : List Change) (k0 : Kept) (hk : KeptRel k0 s.kept) : KeptRel k0 (State.request s who cs).kept := by
  simp_all [State.request]

/-! ## Machine/Audio.lean -/

@[simp ↓] theorem State.alarmOff_kept (s : State) (q : Nat) : (State.alarmOff s q).kept = s.kept := by
  simp [State.alarmOff]

@[simp ↓] theorem State.applyAlarm_kept (s : State) (q v : Nat) : (State.applyAlarm s q v).kept = s.kept := by
  simp [State.applyAlarm]

@[simp ↓] theorem State.startTone_kept (s : State) : (State.startTone s).kept = s.kept := by
  unfold State.startTone
  repeat'
    first
      | rfl
      | (simp; done)
      | split
      | simp only []
      | dsimp only

/-! ## Machine/Boot.lean -/

@[simp ↓] theorem State.takeBoard_kept (s : State) (b : Board) : (s.takeBoard b).kept = s.kept := by
  unfold State.takeBoard
  extract_lets s1 s2 s3 a1 s4 node s5
  have h2 : s2.kept = s1.kept := kept_foldl _ (fun y l => State.setLane_kept ..) _ _
  have h3 : s3.kept = s2.kept := kept_foldl _ (fun y p => by simp) _ _
  clear_value s3 s2
  have h4 : s4.kept = s3.kept := rfl
  have hn : ∀ (s : State) n v, (node s n v).kept = s.kept := fun s n v => by
    simp only [node]
    split <;> rfl
  have h5 : s5.kept = s4.kept := (hn _ _ _).trans (hn _ _ _)
  clear_value node s4 s5
  rw [State.liveBonds_kept, h5, h4, h3, h2]
  rfl

@[simp ↓] theorem State.lssOnly_kept (s : State) : (State.lssOnly s).kept = s.kept := by
  unfold State.lssOnly
  repeat'
    first
      | rfl
      | assumption
      | (simp_all; done)
      | (simp [*]; done)
      | split
      | (refine (kept_foldl _ (fun _ _ => ?_) _ _).trans ?_)
      | (refine keptRel_foldl _ (fun _ _ _ => ?_) _ _ ?_)
      | (refine (laid_foldl_s _ (fun _ _ => ?_) _ _).trans ?_)
      | (refine (fit_foldl_s _ (fun _ _ => ?_) _ _).trans ?_)
      | (refine (injected_foldl_s _ (fun _ _ => ?_) _ _).trans ?_)
      | (intro _ _)
      | (simp; split)
      | dsimp only
      | simp

/-! ## Machine/DictVal.lean -/

@[simp ↓] theorem State.setSession_kept (s : State) (k : Nat) (x : Session) : (State.setSession s k x).kept = s.kept := by
  rfl

/-! ## Machine/DictOps.lean -/

@[simp] theorem State.dictRequest_kept (s : State) (p : DictPort) (idx sub : Nat) (cs : List Change) (k0 : Kept) (hk : KeptRel k0 s.kept) : KeptRel k0 (State.dictRequest s p idx sub cs).1.kept := by
  unfold State.dictRequest
  repeat'
    first
      | rfl
      | assumption
      | (simp_all; done)
      | (simp [*]; done)
      | split
      | (refine (kept_foldl _ (fun _ _ => ?_) _ _).trans ?_)
      | (refine keptRel_foldl _ (fun _ _ _ => ?_) _ _ ?_)
      | (refine (laid_foldl_s _ (fun _ _ => ?_) _ _).trans ?_)
      | (refine (fit_foldl_s _ (fun _ _ => ?_) _ _).trans ?_)
      | (refine (injected_foldl_s _ (fun _ _ => ?_) _ _).trans ?_)
      | (intro _ _)
      | (simp; split)
      | dsimp only
      | simp

@[simp] theorem State.safeWrite_kept (s : State) (p : DictPort) (idx sub : Nat) (v : List (BitVec 8)) (k0 : Kept) (hk : KeptRel k0 s.kept) : KeptRel k0 (State.safeWrite s p idx sub v).1.kept := by
  unfold State.safeWrite
  repeat'
    first
      | assumption
      | (simp_all; done)
      | split
      | (simp; split)

@[simp] theorem State.plainWrite_kept (s : State) (p : DictPort) (idx sub : Nat) (v : List (BitVec 8)) (k0 : Kept) (hk : KeptRel k0 s.kept) : KeptRel k0 (State.plainWrite s p idx sub v).1.kept := by
  unfold State.plainWrite
  repeat'
    first
      | rfl
      | assumption
      | (simp_all; done)
      | (simp [*]; done)
      | split
      | (refine (kept_foldl _ (fun _ _ => ?_) _ _).trans ?_)
      | (refine keptRel_foldl _ (fun _ _ _ => ?_) _ _ ?_)
      | (refine (laid_foldl_s _ (fun _ _ => ?_) _ _).trans ?_)
      | (refine (fit_foldl_s _ (fun _ _ => ?_) _ _).trans ?_)
      | (refine (injected_foldl_s _ (fun _ _ => ?_) _ _).trans ?_)
      | (intro _ _)
      | (simp; split)
      | dsimp only
      | simp

@[simp] theorem State.dictSet_kept (s : State) (p : DictPort) (idx sub : Nat) (e : Entry) (v : List (BitVec 8)) (k0 : Kept) (hk : KeptRel k0 s.kept) : KeptRel k0 (State.dictSet s p idx sub e v).1.kept := by
  unfold State.dictSet
  repeat'
    first
      | rfl
      | assumption
      | (simp_all; done)
      | (simp [*]; done)
      | split
      | (refine (kept_foldl _ (fun _ _ => ?_) _ _).trans ?_)
      | (refine keptRel_foldl _ (fun _ _ _ => ?_) _ _ ?_)
      | (refine (laid_foldl_s _ (fun _ _ => ?_) _ _).trans ?_)
      | (refine (fit_foldl_s _ (fun _ _ => ?_) _ _).trans ?_)
      | (refine (injected_foldl_s _ (fun _ _ => ?_) _ _).trans ?_)
      | (intro _ _)
      | (simp; split)
      | dsimp only
      | simp

@[simp] theorem State.imageWrite_kept (s : State) (p : DictPort) (off : Nat) (data : List (BitVec 8)) (k0 : Kept) (hk : KeptRel k0 s.kept) : KeptRel k0 (State.imageWrite s p off data).1.kept := by
  unfold State.imageWrite
  repeat'
    first
      | assumption
      | (simp_all; done)
      | split
      | (simp; split)

@[simp] theorem State.dictWrite_kept (s : State) (p : DictPort) (idx sub off : Nat) (last : Bool) (data : List (BitVec 8)) (k0 : Kept) (hk : KeptRel k0 s.kept) : KeptRel k0 (State.dictWrite s p idx sub off last data).1.kept := by
  unfold State.dictWrite
  repeat'
    first
      | assumption
      | (simp_all; done)
      | split
      | (simp; split)

@[simp ↓] theorem State.cacheAnswer_kept (s : State) (peer tid status reason : Nat) (data : List (BitVec 8)) : (State.cacheAnswer s peer tid status reason data).kept = s.kept := by
  rfl

@[simp ↓] theorem State.mailboxData_kept (s : State) (v : List (BitVec 8)) : (State.mailboxData s v).kept = s.kept := by
  unfold State.mailboxData
  repeat'
    first
      | rfl
      | assumption
      | (simp_all; done)
      | (simp [*]; done)
      | split
      | (refine (kept_foldl _ (fun _ _ => ?_) _ _).trans ?_)
      | (refine keptRel_foldl _ (fun _ _ _ => ?_) _ _ ?_)
      | (refine (laid_foldl_s _ (fun _ _ => ?_) _ _).trans ?_)
      | (refine (fit_foldl_s _ (fun _ _ => ?_) _ _).trans ?_)
      | (refine (injected_foldl_s _ (fun _ _ => ?_) _ _).trans ?_)
      | (intro _ _)
      | (simp; split)
      | dsimp only
      | simp

@[simp ↓] theorem State.dictAnswer_kept (s : State) (p : DictPort) (idx sub abort reason : Nat) (data : List (BitVec 8)) : (State.dictAnswer s p idx sub abort reason data).kept = s.kept := by
  unfold State.dictAnswer
  repeat'
    first
      | rfl
      | (simp; done)
      | split
      | simp only []
      | dsimp only

@[simp] theorem State.dictWriteAnswer_kept (s : State) (p : DictPort) (idx sub off : Nat) (last : Bool) (data : List (BitVec 8)) (k0 : Kept) (hk : KeptRel k0 s.kept) : KeptRel k0 (State.dictWriteAnswer s p idx sub off last data).kept := by
  unfold State.dictWriteAnswer
  repeat'
    first
      | assumption
      | (simp_all; done)
      | split
      | (simp; split)

@[simp ↓] theorem State.dictRead_kept (s : State) (p : DictPort) (idx sub off len : Nat) : (State.dictRead s p idx sub off len).kept = s.kept := by
  simp [State.dictRead]

end Sys2Proof.Machine
end

