-- ==== Sys2Proof/Laws/Kept7.lean ====
section
/-! SUPPORT. What the operations of Machine/ keep (Laws/Kept.lean), in the order of their files: Mpu, Host, Glb, Flr,
HostInst, Isolate, Prov, PairRx, Rx, Time. -/

namespace Sys2Proof.Machine

/-! ## Machine/Mpu.lean -/

@[simp ↓] theorem State.mpuLatch_kept (s : State) (a : Access) (c : MpuCause) : (State.mpuLatch s a c).kept = s.kept := by
  simp [State.mpuLatch]

@[simp ↓] theorem State.mpuRefuse_kept (s : State) (a : Access) (c : MpuCause) : (State.mpuRefuse s a c).kept = s.kept := by
  unfold State.mpuRefuse
  repeat'
    first
      | rfl
      | (simp; done)
      | split
      | simp only []
      | dsimp only

@[simp ↓] theorem State.checkedRead_kept (s : State) (a : Access) : (State.checkedRead s a).1.kept = s.kept := by
  unfold State.checkedRead
  repeat'
    first
      | rfl
      | (simp; done)
      | split
      | simp only []
      | dsimp only

@[simp ↓] theorem State.regionWrite_kept (s : State) (cls : BusClass) (i j : Nat) (v : BitVec 32) : (State.regionWrite s cls i j v).kept = s.kept := by
  unfold State.regionWrite
  repeat'
    first
      | rfl
      | (simp; done)
      | split
      | simp only []
      | dsimp only

@[simp ↓] theorem State.debugProbed_kept (s : State) : (State.debugProbed s).kept = s.kept := by
  simp [State.debugProbed]

/-! ## Machine/Host.lean -/

@[simp ↓] theorem State.setQueue_kept (s : State) (n q : Nat) (x : WorkQueue) : (State.setQueue s n q x).kept = s.kept := by
  rfl

@[simp ↓] theorem State.pageRefused_kept (s : State) (n : Nat) : (State.pageRefused s n).kept = s.kept := by
  simp [State.pageRefused]

@[simp ↓] theorem State.tailWrite_kept (s : State) (n q v : Nat) : (State.tailWrite s n q v).kept = s.kept := by
  simp [State.tailWrite]

@[simp ↓] theorem State.cqHead_kept (s : State) (n v : Nat) : (State.cqHead s n v).kept = s.kept := by
  simp [State.cqHead]

@[simp ↓] theorem State.evqRd_kept (s : State) (n v : Nat) : (State.evqRd s n v).kept = s.kept := by
  simp [State.evqRd]

@[simp ↓] theorem State.flushVecs_kept (s : State) (n : Nat) : (State.flushVecs s n).kept = s.kept := by
  unfold State.flushVecs
  repeat'
    first
      | rfl
      | assumption
      | (simp_all; done)
      | (simp [*]; done)
      | split
      | (refine (kept_foldl _ (fun _ _ => ?_) _ _).trans ?_)
      | (refine keptRel_foldl _ (fun _ _ _ => ?_) _ _ ?_)
      | (refine (laid_foldl_s _ (fun _ _ => ?_) _ _).trans ?_)
      | (refine (fit_foldl_s _ (fun _ _ => ?_) _ _).trans ?_)
      | (refine (injected_foldl_s _ (fun _ _ => ?_) _ _).trans ?_)
      | (intro _ _)
      | (simp; split)
      | dsimp only
      | simp

@[simp ↓] theorem State.vecMaskWrite_kept (s : State) (n : Nat) (hi : Bool) (v : BitVec 32) : (State.vecMaskWrite s n hi v).kept = s.kept := by
  simp [State.vecMaskWrite]

@[simp ↓] theorem State.queueWrite_kept (s : State) (n q o : Nat) (v : BitVec 32) : (State.queueWrite s n q o v).kept = s.kept := by
  simp [State.queueWrite]

@[simp ↓] theorem State.ringFieldWrite_kept (s : State) (n o : Nat) (v : BitVec 32) : (State.ringFieldWrite s n o v).kept = s.kept := by
  simp [State.ringFieldWrite]

@[simp ↓] theorem State.pageWrite_kept (s : State) (n o : Nat) (v : BitVec 32) : (State.pageWrite s n o v).kept = s.kept := by
  simp [State.pageWrite]

@[simp ↓] theorem State.stage_kept (s : State) (n o v : Nat) : (State.stage s n o v).kept = s.kept := by
  rfl

@[simp ↓] theorem State.takeOrder_kept (s : State) (n q : Nat) (o : WorkOrder) : (State.takeOrder s n q o).kept = s.kept := by
  unfold State.takeOrder
  repeat'
    first
      | rfl
      | (simp; done)
      | split
      | simp only []
      | dsimp only

@[simp] theorem State.workRequest_kept (s : State) (n : Nat) (w : Work) (c : Change) (k0 : Kept) (hk : KeptRel k0 s.kept) : KeptRel k0 (State.workRequest s n w c).kept := by
  simp_all [State.workRequest]

@[simp ↓] theorem State.tryCommit_kept (s : State) (n : Nat) (w : Work) (k rw rh : Nat) : (State.tryCommit s n w k rw rh).kept = s.kept := by
  unfold State.tryCommit
  repeat'
    first
      | rfl
      | (simp; done)
      | split
      | simp only []
      | dsimp only

@[simp ↓] theorem State.blockSlots_kept (s : State) (stalls : List (Nat × Nat)) (rd wr : Nat) (kept : Bool) : (State.blockSlots s stalls rd wr kept).kept = s.kept := by
  unfold State.blockSlots
  repeat'
    first
      | rfl
      | assumption
      | (simp_all; done)
      | (simp [*]; done)
      | split
      | (refine (kept_foldl _ (fun _ _ => ?_) _ _).trans ?_)
      | (refine keptRel_foldl _ (fun _ _ _ => ?_) _ _ ?_)
      | (intro _ _)
      | (simp; split)
      | dsimp only
      | simp

@[simp ↓] theorem State.stopTransfer_kept (s : State) (n : Nat) (w : Work) : (State.stopTransfer s n w).kept = s.kept := by
  simp [State.stopTransfer]

@[simp ↓] theorem State.finishTransfer_kept (s : State) (n : Nat) (w : Work) : (s.finishTransfer n w).kept = s.kept := by
  unfold State.finishTransfer
  extract_lets p s1 s2
  have h1 : s1.kept = s.kept := State.pmc_kept ..
  have h2 : s2.kept = s1.kept := by
    simp only [s2]
    clear_value s1
    split
    · rw [State.complete_kept, State.endCommit_kept]
    · rw [State.complete_kept, State.pmc_kept]
    · rfl
  rw [State.runDma_kept, h2, h1]

@[simp ↓] theorem State.blockDone_kept (s : State) (n : Nat) (w : Work) (pages : List (BitVec 64)) : (State.blockDone s n w pages).kept = s.kept := by
  simp [State.blockDone]

@[simp] theorem State.copyData_kept (s : State) (n : Nat) (w : Work) (toHost : Bool) (ring : Option Nat) (dva : Nat)
    (hva : BitVec 64) (pages : List (BitVec 64)) (bytes : List Byte) (k0 : Kept) (hk : KeptRel k0 s.kept) :
    KeptRel k0 (s.copyData n w toHost ring dva hva pages bytes).kept := by
  unfold State.copyData
  extract_lets m dst
  split
  · rw [State.blockDone_kept, State.send_kept]; exact hk
  · split
    · rw [State.stopTransfer_kept, State.instFaultAt_kept]; exact hk
    · extract_lets bad
      clear_value bad
      split
      · rw [State.failWork_kept, State.mpuRefuse_kept]; exact hk
      · split
        · rw [State.blockDone_kept, State.send_kept]; exact hk
        · rw [State.blockDone_kept]
          exact ⟨hk.pending, hk.fuse, hk.keyStore, hk.development, fun w => Tab.wf_zipWrite _ _ (hk.dram w)⟩

@[simp ↓] theorem State.groupEnds_kept (s : State) (n : Nat) (g : PageGroup) (ok : Bool) : (State.groupEnds s n g ok).kept = s.kept := by
  unfold State.groupEnds
  repeat'
    first
      | rfl
      | (simp; done)
      | split
      | simp only []
      | dsimp only

/-! ## Machine/Glb.lean -/

@[simp] theorem State.modeCommand_kept (s : State) (c : ModeCmd) (key : Nat) (k0 : Kept) (hk : KeptRel k0 s.kept) : KeptRel k0 (State.modeCommand s c key).kept := by
  unfold State.modeCommand
  repeat'
    first
      | rfl
      | assumption
      | (simp_all; done)
      | (simp [*]; done)
      | split
      | (refine (kept_foldl _ (fun _ _ => ?_) _ _).trans ?_)
      | (refine keptRel_foldl _ (fun _ _ _ => ?_) _ _ ?_)
      | (refine (laid_foldl_s _ (fun _ _ => ?_) _ _).trans ?_)
      | (refine (fit_foldl_s _ (fun _ _ => ?_) _ _).trans ?_)
      | (refine (injected_foldl_s _ (fun _ _ => ?_) _ _).trans ?_)
      | (intro _ _)
      | (simp; split)
      | dsimp only
      | simp

@[simp] theorem State.pairCommand_kept (s : State) (op : Nat) (k0 : Kept) (hk : KeptRel k0 s.kept) : KeptRel k0 (State.pairCommand s op).kept := by
  unfold State.pairCommand
  repeat'
    first
      | rfl
      | assumption
      | (simp_all; done)
      | (simp [*]; done)
      | split
      | (refine (kept_foldl _ (fun _ _ => ?_) _ _).trans ?_)
      | (refine keptRel_foldl _ (fun _ _ _ => ?_) _ _ ?_)
      | (refine (laid_foldl_s _ (fun _ _ => ?_) _ _).trans ?_)
      | (refine (fit_foldl_s _ (fun _ _ => ?_) _ _).trans ?_)
      | (refine (injected_foldl_s _ (fun _ _ => ?_) _ _).trans ?_)
      | (intro _ _)
      | (simp; split)
      | dsimp only
      | simp

/-! ## Machine/Flr.lean -/

@[simp ↓] theorem State.flrInst_kept (s : State) (n : Nat) : (State.flrInst s n).kept = s.kept := by
  unfold State.flrInst
  repeat'
    first
      | rfl
      | assumption
      | (simp_all; done)
      | (simp [*]; done)
      | split
      | (refine (kept_foldl _ (fun _ _ => ?_) _ _).trans ?_)
      | (refine keptRel_foldl _ (fun _ _ _ => ?_) _ _ ?_)
      | (refine (laid_foldl_s _ (fun _ _ => ?_) _ _).trans ?_)
      | (refine (fit_foldl_s _ (fun _ _ => ?_) _ _).trans ?_)
      | (refine (injected_foldl_s _ (fun _ _ => ?_) _ _).trans ?_)
      | (intro _ _)
      | (simp; split)
      | dsimp only
      | simp

@[simp ↓] theorem State.flr_kept (s : State) : (State.flr s).kept = s.kept := by
  unfold State.flr
  repeat'
    first
      | rfl
      | assumption
      | (simp_all; done)
      | (simp [*]; done)
      | split
      | (refine (kept_foldl _ (fun _ _ => ?_) _ _).trans ?_)
      | (refine keptRel_foldl _ (fun _ _ _ => ?_) _ _ ?_)
      | (intro _ _)
      | (simp; split)
      | dsimp only
      | simp

/-! ## Machine/HostInst.lean -/

@[simp] theorem State.instOp_kept (s : State) (n : Nat) (op : InstOp) (k0 : Kept) (hk : KeptRel k0 s.kept) : KeptRel k0 (State.instOp s n op).kept := by
  unfold State.instOp
  repeat'
    first
      | rfl
      | assumption
      | (simp_all; done)
      | (simp [*]; done)
      | split
      | (refine (kept_foldl _ (fun _ _ => ?_) _ _).trans ?_)
      | (refine keptRel_foldl _ (fun _ _ _ => ?_) _ _ ?_)
      | (refine (laid_foldl_s _ (fun _ _ => ?_) _ _).trans ?_)
      | (refine (fit_foldl_s _ (fun _ _ => ?_) _ _).trans ?_)
      | (refine (injected_foldl_s _ (fun _ _ => ?_) _ _).trans ?_)
      | (intro _ _)
      | (simp; split)
      | dsimp only
      | simp

@[simp ↓] theorem State.revokePages_kept (s : State) (n vpn count : Nat) : (State.revokePages s n vpn count).kept = s.kept := by
  simp [State.revokePages]

@[simp ↓] theorem State.takeChange_kept (s : State) (n : Nat) (c : PendingChange) : (State.takeChange s n c).kept = s.kept := by
  unfold State.takeChange
  repeat'
    first
      | rfl
      | assumption
      | (simp_all; done)
      | (simp [*]; done)
      | split
      | (refine (kept_foldl _ (fun _ _ => ?_) _ _).trans ?_)
      | (refine keptRel_foldl _ (fun _ _ _ => ?_) _ _ ?_)
      | (refine (laid_foldl_s _ (fun _ _ => ?_) _ _).trans ?_)
      | (refine (fit_foldl_s _ (fun _ _ => ?_) _ _).trans ?_)
      | (refine (injected_foldl_s _ (fun _ _ => ?_) _ _).trans ?_)
      | (intro _ _)
      | (simp; split)
      | dsimp only
      | simp

@[simp ↓] theorem State.takeChanges_kept (s : State) (n : Nat) (z0 : List (PendingChange × Nat)) : (State.takeChanges s n z0).kept = s.kept := by
  induction z0 generalizing s
  all_goals unfold State.takeChanges
  repeat'
    first
      | rfl
      | assumption
      | (simp_all; done)
      | (simp [*]; done)
      | split
      | (refine (kept_foldl _ (fun _ _ => ?_) _ _).trans ?_)
      | (refine keptRel_foldl _ (fun _ _ _ => ?_) _ _ ?_)
      | (refine (laid_foldl_s _ (fun _ _ => ?_) _ _).trans ?_)
      | (refine (fit_foldl_s _ (fun _ _ => ?_) _ _).trans ?_)
      | (refine (injected_foldl_s _ (fun _ _ => ?_) _ _).trans ?_)
      | (intro _ _)
      | (simp; split)
      | dsimp only
      | simp

/-! ## Machine/Isolate.lean -/

@[simp ↓] theorem State.unseat_kept (s : State) (k n : Nat) : (State.unseat s k n).kept = s.kept := by
  unfold State.unseat
  repeat'
    first
      | rfl
      | (simp; done)
      | split
      | simp only []
      | dsimp only

@[simp ↓] theorem State.stopDec_kept (s : State) (k : Nat) : (State.stopDec s k).kept = s.kept := by
  unfold State.stopDec
  repeat'
    first
      | rfl
      | assumption
      | (simp_all; done)
      | (simp [*]; done)
      | split
      | (refine (kept_foldl _ (fun _ _ => ?_) _ _).trans ?_)
      | (refine keptRel_foldl _ (fun _ _ _ => ?_) _ _ ?_)
      | (intro _ _)
      | (simp; split)
      | dsimp only
      | simp

@[simp ↓] theorem State.stopEngine_kept (s : State) (e : Nat) : (State.stopEngine s e).kept = s.kept := by
  unfold State.stopEngine
  repeat'
    first
      | rfl
      | assumption
      | (simp_all; done)
      | (simp [*]; done)
      | split
      | (refine (kept_foldl _ (fun _ _ => ?_) _ _).trans ?_)
      | (refine keptRel_foldl _ (fun _ _ _ => ?_) _ _ ?_)
      | (refine (laid_foldl_s _ (fun _ _ => ?_) _ _).trans ?_)
      | (refine (fit_foldl_s _ (fun _ _ => ?_) _ _).trans ?_)
      | (refine (injected_foldl_s _ (fun _ _ => ?_) _ _).trans ?_)
      | (intro _ _)
      | (simp; split)
      | dsimp only
      | simp

@[simp ↓] theorem State.stopRecCore_kept (s : State) (k : Nat) : (State.stopRecCore s k).kept = s.kept := by
  unfold State.stopRecCore
  repeat'
    first
      | rfl
      | assumption
      | (simp_all; done)
      | (simp [*]; done)
      | split
      | (refine (kept_foldl _ (fun _ _ => ?_) _ _).trans ?_)
      | (refine keptRel_foldl _ (fun _ _ _ => ?_) _ _ ?_)
      | (refine (laid_foldl_s _ (fun _ _ => ?_) _ _).trans ?_)
      | (refine (fit_foldl_s _ (fun _ _ => ?_) _ _).trans ?_)
      | (refine (injected_foldl_s _ (fun _ _ => ?_) _ _).trans ?_)
      | (intro _ _)
      | (simp; split)
      | dsimp only
      | simp

@[simp ↓] theorem State.stopHead_kept (s : State) (h : Nat) : (State.stopHead s h).kept = s.kept := by
  simp [State.stopHead]

@[simp ↓] theorem State.stopLane_kept (s : State) (l : Nat) : (State.stopLane s l).kept = s.kept := by
  simp [State.stopLane]

@[simp ↓] theorem State.shedObj_kept (s : State) (idx : Nat) : (State.shedObj s idx).kept = s.kept := by
  rfl

@[simp ↓] theorem State.shedCtxs_kept (s : State) (z0 : Nat) : (State.shedCtxs s z0).1.kept = s.kept := by
  induction z0 generalizing s
  all_goals unfold State.shedCtxs
  repeat'
    first
      | rfl
      | assumption
      | (simp_all; done)
      | (simp [*]; done)
      | split
      | (refine (kept_foldl _ (fun _ _ => ?_) _ _).trans ?_)
      | (refine keptRel_foldl _ (fun _ _ _ => ?_) _ _ ?_)
      | (refine (laid_foldl_s _ (fun _ _ => ?_) _ _).trans ?_)
      | (refine (fit_foldl_s _ (fun _ _ => ?_) _ _).trans ?_)
      | (refine (injected_foldl_s _ (fun _ _ => ?_) _ _).trans ?_)
      | (intro _ _)
      | (simp; split)
      | dsimp only
      | simp

@[simp ↓] theorem State.shedSheets_kept (s : State) (z0 : Nat) : (s.shedSheets z0).kept = s.kept := by
  induction z0 generalizing s with
  | zero => rfl
  | succ f ih =>
    unfold State.shedSheets
    split
    · rfl
    · split
      · rfl
      · rename_i n _
        extract_lets s1 x refs s2 y
        have h1 : s1.kept = s.kept := by
          refine kept_foldl _ (fun y e => ?_) _ _
          split
          · exact State.freeEngine_kept ..
          · rfl
        have h2 : s2.kept = s1.kept := kept_foldl _ (fun y e => State.modFrame_kept ..) _ _
        clear_value s1 s2
        rw [ih, State.emit_kept, State.settleSheet_kept, State.sheetMarks_kept, State.setSheet_kept, h2, h1]

@[simp ↓] theorem State.shedRecs_kept (s : State) (z0 : Nat) : (State.shedRecs s z0).1.kept = s.kept := by
  induction z0 generalizing s
  all_goals unfold State.shedRecs
  repeat'
    first
      | rfl
      | assumption
      | (simp_all; done)
      | (simp [*]; done)
      | split
      | (refine (kept_foldl _ (fun _ _ => ?_) _ _).trans ?_)
      | (refine keptRel_foldl _ (fun _ _ _ => ?_) _ _ ?_)
      | (refine (laid_foldl_s _ (fun _ _ => ?_) _ _).trans ?_)
      | (refine (fit_foldl_s _ (fun _ _ => ?_) _ _).trans ?_)
      | (refine (injected_foldl_s _ (fun _ _ => ?_) _ _).trans ?_)
      | (intro _ _)
      | (simp; split)
      | dsimp only
      | simp

@[simp ↓] theorem State.repack_kept (s : State) : s.repack.kept = s.kept := by
  unfold State.repack
  extract_lets a b s1 live s2 s3
  have ha : a.1.kept = s.kept := State.shedCtxs_kept ..
  have hb : b.1.kept = a.1.kept := (State.shedRecs_kept ..).trans (State.shedSheets_kept ..)
  have h2 : s2.kept = s1.kept := (State.goLive_kept ..).trans (State.fitPools_kept ..)
  have h3 : s3.kept = s2.kept := by
    refine kept_foldl _ (fun y n => ?_) _ _
    dsimp only
    split
    · exact State.setCtx_kept ..
    · rfl
  refine (kept_foldl _ (fun y e => State.runEngine_kept ..) _ _).trans ?_
  rw [h3, h2]
  exact hb.trans ha

@[simp ↓] theorem State.markIsolated_kept (s : State) (u : IsoUnit) : (State.markIsolated s u).kept = s.kept := by
  unfold State.markIsolated
  repeat'
    first
      | rfl
      | (simp; done)
      | split
      | simp only []
      | dsimp only

@[simp ↓] theorem State.stopUnit_kept (s : State) (z0 : IsoUnit) : (State.stopUnit s z0).kept = s.kept := by
  unfold State.stopUnit
  repeat'
    first
      | rfl
      | (simp; done)
      | split
      | simp only []
      | dsimp only

@[simp ↓] theorem State.isolate_kept (s : State) (u : IsoUnit) : (State.isolate s u).kept = s.kept := by
  simp [State.isolate]

@[simp ↓] theorem State.setHealth_kept (s : State) (h : HealthUnit) : (State.setHealth s h).kept = s.kept := by
  rfl

@[simp ↓] theorem State.testRan_kept (s : State) (u : Nat) : (State.testRan s u).kept = s.kept := by
  rfl

@[simp ↓] theorem State.testFailed_kept (s : State) (u : Nat) : (State.testFailed s u).kept = s.kept := by
  unfold State.testFailed
  repeat'
    first
      | rfl
      | (simp; done)
      | split
      | simp only []
      | dsimp only

/-! ## Machine/Prov.lean -/

@[simp ↓] theorem State.syncUnit_kept (s : State) (u : Nat) : (State.syncUnit s u).kept = s.kept := by
  unfold State.syncUnit
  repeat'
    first
      | rfl
      | assumption
      | (simp_all; done)
      | (simp [*]; done)
      | split
      | (refine (kept_foldl _ (fun _ _ => ?_) _ _).trans ?_)
      | (refine keptRel_foldl _ (fun _ _ _ => ?_) _ _ ?_)
      | (refine (laid_foldl_s _ (fun _ _ => ?_) _ _).trans ?_)
      | (refine (fit_foldl_s _ (fun _ _ => ?_) _ _).trans ?_)
      | (refine (injected_foldl_s _ (fun _ _ => ?_) _ _).trans ?_)
      | (intro _ _)
      | (simp; split)
      | dsimp only
      | simp

@[simp ↓] theorem State.provRefuse_kept (s : State) : (State.provRefuse s).kept = s.kept := by
  rfl

@[simp ↓] theorem State.setScan_kept (s : State) (c : Scan) : (State.setScan s c).kept = s.kept := by
  rfl

/-! ## Machine/PairRx.lean -/

@[simp ↓] theorem State.captureMissing_kept (s : State) (n : Nat) (d : LuskoDecl) (m : Manifest) : (State.captureMissing s n d m).kept = s.kept := by
  unfold State.captureMissing
  repeat'
    first
      | rfl
      | (simp; done)
      | split
      | simp only []
      | dsimp only

@[simp ↓] theorem State.dropClosed_kept (s : State) (n : Nat) (l : List OpenFrame) : (State.dropClosed s n l).kept = s.kept := by
  unfold State.dropClosed
  repeat'
    first
      | rfl
      | assumption
      | (simp_all; done)
      | (simp [*]; done)
      | split
      | (refine (kept_foldl _ (fun _ _ => ?_) _ _).trans ?_)
      | (refine keptRel_foldl _ (fun _ _ _ => ?_) _ _ ?_)
      | (refine (laid_foldl_s _ (fun _ _ => ?_) _ _).trans ?_)
      | (refine (fit_foldl_s _ (fun _ _ => ?_) _ _).trans ?_)
      | (refine (injected_foldl_s _ (fun _ _ => ?_) _ _).trans ?_)
      | (intro _ _)
      | (simp; split)
      | dsimp only
      | simp

@[simp ↓] theorem State.captureEntryRx_kept (s : State) (n : Nat) (d : LuskoDecl) (m : Manifest) : (State.captureEntryRx s n d m).kept = s.kept := by
  unfold State.captureEntryRx
  repeat'
    first
      | rfl
      | (simp; done)
      | split
      | simp only []
      | dsimp only

@[simp ↓] theorem State.runCommits_kept (s : State) (k : Nat) (z0 : Nat) : (State.runCommits s k z0).kept = s.kept := by
  induction z0 generalizing s
  all_goals unfold State.runCommits
  repeat'
    first
      | rfl
      | assumption
      | (simp_all; done)
      | (simp [*]; done)
      | split
      | (refine (kept_foldl _ (fun _ _ => ?_) _ _).trans ?_)
      | (refine keptRel_foldl _ (fun _ _ _ => ?_) _ _ ?_)
      | (refine (laid_foldl_s _ (fun _ _ => ?_) _ _).trans ?_)
      | (refine (fit_foldl_s _ (fun _ _ => ?_) _ _).trans ?_)
      | (refine (injected_foldl_s _ (fun _ _ => ?_) _ _).trans ?_)
      | (intro _ _)
      | (simp; split)
      | dsimp only
      | simp

@[simp ↓] theorem State.rxManifest_kept (s : State) (m : Manifest) : (State.rxManifest s m).kept = s.kept := by
  unfold State.rxManifest
  repeat'
    first
      | rfl
      | (simp; done)
      | split
      | simp only []
      | dsimp only

@[simp ↓] theorem State.rxFillData_kept (s : State) (c mseq : Nat) (content : Option (List Nal × List (BitVec 8))) : (State.rxFillData s c mseq content).kept = s.kept := by
  unfold State.rxFillData
  repeat'
    first
      | rfl
      | (simp; done)
      | split
      | simp only []
      | dsimp only

@[simp ↓] theorem State.rxSurfData_kept (s : State) (k mseq : Nat) (complete : Bool) (px : List Sample) : (State.rxSurfData s k mseq complete px).kept = s.kept := by
  simp [State.rxSurfData]

@[simp] theorem State.rxCommand_kept (s : State) (z0 : PairCmd) (k0 : Kept) (hk : KeptRel k0 s.kept) : KeptRel k0 (State.rxCommand s z0).kept := by
  unfold State.rxCommand
  repeat'
    first
      | assumption
      | (simp_all; done)
      | split
      | (simp; split)

@[simp] theorem State.rxReqFwd_kept (s : State) (k : Nat) (r : Request) (k0 : Kept) (hk : KeptRel k0 s.kept) : KeptRel k0 (State.rxReqFwd s k r).kept := by
  unfold State.rxReqFwd
  repeat'
    first
      | assumption
      | (simp_all; done)
      | split
      | (simp; split)

@[simp ↓] theorem State.rxJoined_kept (s : State) (ok : Bool) : (State.rxJoined s ok).kept = s.kept := by
  simp [State.rxJoined]

@[simp ↓] theorem State.joinRefuse_kept (s : State) : (State.joinRefuse s).kept = s.kept := by
  simp [State.joinRefuse]

@[simp] theorem State.rxTransfer_kept (s : State) (j : Nat) (x : JoinTransfer) (k0 : Kept) (hk : KeptRel k0 s.kept) :
    KeptRel k0 (s.rxTransfer j x).kept := by
  unfold State.rxTransfer
  split
  · exact hk
  · extract_lets v s1 s2 s3
    have hv : KeptRel k0 v.1.kept := State.judge_kept (hk := by rw [State.takeInsts_kept]; exact hk) ..
    have h2 : s2.kept = s1.kept := by
      refine kept_foldl _ (fun y n => ?_) _ _
      split
      · rfl
      · rw [State.ctxTo_kept, State.ctxResync_kept]
    have h3 : s3.kept = s2.kept := State.takeTransfer_kept ..
    have h4 : KeptRel k0 s3.kept := by rw [h3, h2]; exact hv
    clear_value s2 s3
    split
    · rw [State.joinRefuse_kept]; exact hk
    · split
      · rw [State.sendPair_kept, State.pairTo_kept]; exact h4
      · rw [State.joinRefuse_kept]; exact h4

@[simp] theorem State.rxControl_kept (s : State) (z0 : PairControl) (k0 : Kept) (hk : KeptRel k0 s.kept) : KeptRel k0 (State.rxControl s z0).kept := by
  unfold State.rxControl
  repeat'
    first
      | assumption
      | (simp_all; done)
      | split
      | (simp; split)

@[simp] theorem State.rxPair_kept (s : State) (m : PairMsg) (stamp : Nat) (k0 : Kept) (hk : KeptRel k0 s.kept) : KeptRel k0 (State.rxPair s m stamp).kept := by
  unfold State.rxPair
  repeat'
    first
      | assumption
      | (simp_all; done)
      | split
      | (simp; split)

/-! ## Machine/Rx.lean -/

@[simp] theorem State.rxLusko_kept (s : State) (l chan : Nat) (q : BitVec 16) (b : LuskoBody) (stamp : Nat) (k0 : Kept) (hk : KeptRel k0 s.kept) : KeptRel k0 (State.rxLusko s l chan q b stamp).kept := by
  unfold State.rxLusko
  repeat'
    first
      | rfl
      | assumption
      | (simp_all; done)
      | (simp [*]; done)
      | split
      | (refine (kept_foldl _ (fun _ _ => ?_) _ _).trans ?_)
      | (refine keptRel_foldl _ (fun _ _ _ => ?_) _ _ ?_)
      | (refine (laid_foldl_s _ (fun _ _ => ?_) _ _).trans ?_)
      | (refine (fit_foldl_s _ (fun _ _ => ?_) _ _).trans ?_)
      | (refine (injected_foldl_s _ (fun _ _ => ?_) _ _).trans ?_)
      | (intro _ _)
      | (simp; split)
      | dsimp only
      | simp

@[simp] theorem State.deliver_kept (s : State) (z0 : RxPacket) (k0 : Kept) (hk : KeptRel k0 s.kept) : KeptRel k0 (State.deliver s z0).kept := by
  unfold State.deliver
  repeat'
    first
      | rfl
      | assumption
      | (simp_all; done)
      | (simp [*]; done)
      | split
      | (refine (kept_foldl _ (fun _ _ => ?_) _ _).trans ?_)
      | (refine keptRel_foldl _ (fun _ _ _ => ?_) _ _ ?_)
      | (refine (laid_foldl_s _ (fun _ _ => ?_) _ _).trans ?_)
      | (refine (fit_foldl_s _ (fun _ _ => ?_) _ _).trans ?_)
      | (refine (injected_foldl_s _ (fun _ _ => ?_) _ _).trans ?_)
      | (intro _ _)
      | (simp; split)
      | dsimp only
      | simp

@[simp] theorem State.arrive_kept (s : State) (hit : Injector → Bool) (clean pre post : RxPacket) (k0 : Kept)
    (hk : KeptRel k0 s.kept) : KeptRel k0 (s.arrive hit clean pre post).kept := by
  unfold State.arrive
  extract_lets o p s1 r
  have ho : o.s.kept = s.kept := State.inject_kept ..
  have h1 : KeptRel k0 s1.kept := by
    simp only [s1]
    split
    · exact State.deliver_kept (hk := by rw [ho]; exact hk) ..
    · rw [ho]; exact hk
    · rw [State.holdPacket_kept, ho]; exact hk
  have hr : r.1.kept = s1.kept := State.takeReleased_kept ..
  exact keptRel_foldl _ (fun y c hy => State.deliver_kept (hk := hy) ..) _ _ (by rw [hr]; exact h1)

@[simp] theorem State.luskoArrive_kept (s : State) (l chan : Nat) (q : BitVec 16) (b alt : LuskoBody) (k0 : Kept) (hk : KeptRel k0 s.kept) : KeptRel k0 (State.luskoArrive s l chan q b alt).kept := by
  unfold State.luskoArrive
  repeat'
    first
      | assumption
      | (simp_all; done)
      | split
      | (simp; split)

@[simp] theorem State.pairArrive_kept (s : State) (q : BitVec 16) (m : PairMsg) (alt : LuskoBody) (k0 : Kept) (hk : KeptRel k0 s.kept) : KeptRel k0 (State.pairArrive s q m alt).kept := by
  unfold State.pairArrive
  repeat'
    first
      | assumption
      | (simp_all; done)
      | split
      | (simp; split)

/-! ## Machine/Time.lean -/

@[simp ↓] theorem State.refuseTimeWrite_kept (s : State) : (State.refuseTimeWrite s).kept = s.kept := by
  simp [State.refuseTimeWrite]

@[simp ↓] theorem State.rxAnnounce_kept (s : State) (port : Nat) (d : Fin 2) (a : Announce) : (State.rxAnnounce s port d a).kept = s.kept := by
  unfold State.rxAnnounce
  repeat'
    first
      | rfl
      | (simp; done)
      | split
      | simp only []
      | dsimp only

@[simp ↓] theorem State.completeSync_kept (s : State) (port : Nat) (d : Fin 2) (t1 t2 corr : Int) : (State.completeSync s port d t1 t2 corr).kept = s.kept := by
  unfold State.completeSync
  repeat'
    first
      | rfl
      | (simp; done)
      | split
      | simp only []
      | dsimp only

@[simp ↓] theorem State.pushTxq_kept (s : State) (port : Nat) (e : TxEntry) : (State.pushTxq s port e).kept = s.kept := by
  simp [State.pushTxq]

@[simp ↓] theorem State.setTto_kept (s : State) (n : Nat) (x : Tto) : (State.setTto s n x).kept = s.kept := by
  rfl

@[simp ↓] theorem State.armTto_kept (s : State) (n : Nat) (start : BitVec 64) : (State.armTto s n start).kept = s.kept := by
  unfold State.armTto
  repeat'
    first
      | rfl
      | (simp; done)
      | split
      | simp only []
      | dsimp only

@[simp ↓] theorem State.ttoEdge_kept (s : State) (n : Nat) : (State.ttoEdge s n).kept = s.kept := by
  unfold State.ttoEdge
  repeat'
    first
      | rfl
      | (simp; done)
      | split
      | simp only []
      | dsimp only

@[simp ↓] theorem State.setTci_kept (s : State) (n : Nat) (x : Tci) : (State.setTci s n x).kept = s.kept := by
  rfl

@[simp ↓] theorem State.tciLoss_kept (s : State) (n off : Nat) : (State.tciLoss s n off).kept = s.kept := by
  simp [State.tciLoss]

end Sys2Proof.Machine
end

