-- ==== Sys2Proof/Laws/Kept8.lean ====
section
/-! SUPPORT. What the operations of Machine/ keep (Laws/Kept.lean), in the order of their files: Regs, Debug, Dict,
EngineFaults, Touch, Step. -/

namespace Sys2Proof.Machine

/-! ## Machine/Regs.lean -/

@[simp ↓] theorem State.latchHigh_kept (s : State) (o : Nat) : (State.latchHigh s o).kept = s.kept := by
  unfold State.latchHigh
  repeat'
    first
      | rfl
      | assumption
      | (simp_all; done)
      | (simp [*]; done)
      | split
      | (refine (kept_foldl _ (fun _ _ => ?_) _ _).trans ?_)
      | (refine keptRel_foldl _ (fun _ _ _ => ?_) _ _ ?_)
      | (refine (laid_foldl_s _ (fun _ _ => ?_) _ _).trans ?_)
      | (refine (fit_foldl_s _ (fun _ _ => ?_) _ _).trans ?_)
      | (refine (injected_foldl_s _ (fun _ _ => ?_) _ _).trans ?_)
      | (intro _ _)
      | (simp; split)
      | dsimp only
      | simp

@[simp ↓] theorem State.readClear_kept (s : State) (o : Nat) : (State.readClear s o).kept = s.kept := by
  unfold State.readClear
  repeat'
    first
      | rfl
      | (simp; done)
      | split
      | simp only []
      | dsimp only

@[simp ↓] theorem State.barRead_kept (s : State) (o : Nat) : (State.barRead s o).kept = s.kept := by
  unfold State.barRead
  repeat'
    first
      | rfl
      | (simp; done)
      | split
      | simp only []
      | dsimp only

@[simp ↓] theorem State.pageRead_kept (s : State) (n o : Nat) : (State.pageRead s n o).kept = s.kept := by
  simp [State.pageRead]

@[simp ↓] theorem State.mapWrite_kept (s : State) (r : RegRow) (o v : Nat) : (State.mapWrite s r o v).kept = s.kept := by
  unfold State.mapWrite
  repeat'
    first
      | rfl
      | (simp; done)
      | split
      | simp only []
      | dsimp only

@[simp ↓] theorem State.ringCtrlWrite_kept (s : State) (o v : Nat) : (State.ringCtrlWrite s o v).kept = s.kept := by
  rfl

@[simp] theorem State.barWrite_kept (s : State) (o v : Nat) (k0 : Kept) (hk : KeptRel k0 s.kept) :
    KeptRel k0 (s.barWrite o v).kept := by
  unfold State.barWrite
  refine keptRel_ite _ _ _ hk (keptRel_ite _ _ _ hk (keptRel_ite _ _ _ hk (keptRel_ite _ _ _ ?_ (keptRel_ite _ _ _ ?_
    (keptRel_ite _ _ _ ?_ (keptRel_ite _ _ _ (keptRel_ite _ _ _ hk hk) (keptRel_ite _ _ _ ?_ ?_)))))))
  · rw [State.domWrite_kept]; exact hk
  · rw [State.domWrite_kept]; exact hk
  · rw [State.postedRefused_kept]; exact hk
  · rw [State.ringCtrlWrite_kept]; exact hk
  · split
    · extract_lets q
      split
      · rw [State.setTime_kept]; exact hk
      · exact hk
    · split
      · exact State.instOp_kept (hk := hk) ..
      · exact hk
    · extract_lets x
      split
      · rw [State.setRecording_kept]; exact hk
      · exact hk
    · split
      · exact hk
      · extract_lets s1
        have h1 : s1.kept = s.kept := State.mapWrite_kept ..
        clear_value s1
        split
        · split
          · rw [State.setInst_kept, h1]; exact hk
          · rw [h1]; exact hk
        · rw [h1]; exact hk

/-! ## Machine/Debug.lean -/

@[simp ↓] theorem State.safePut_kept (s : State) (o : Nat) (b : Byte) : (State.safePut s o b).kept = s.kept := by
  simp [State.safePut]

@[simp] theorem State.devicePut_kept (s : State) (a : Nat) (b : Byte) (k0 : Kept) (hk : KeptRel k0 s.kept) : KeptRel k0 (State.devicePut s a b).kept := by
  unfold State.devicePut
  repeat'
    first
      | assumption
      | (simp_all; done)
      | split
      | (simp; split)

@[simp] theorem State.debugRegWrite_kept (s : State) (o : Nat) (v : BitVec 32) (k0 : Kept) (hk : KeptRel k0 s.kept) :
    KeptRel k0 (s.debugRegWrite o v).kept := by
  unfold State.debugRegWrite
  extract_lets locked
  clear_value locked
  split
  · rw [State.mpuRefuse_kept]; exact hk
  · split
    · rw [State.regionWrite_kept]; exact hk
    · split
      · exact hk
      · exact State.barWrite_kept (hk := hk) ..

@[simp] theorem State.debugRegWrites_kept (s : State) (o : Nat) (z0 : List (BitVec 32)) (k0 : Kept) (hk : KeptRel k0 s.kept) : KeptRel k0 (State.debugRegWrites s o z0).kept := by
  fun_induction State.debugRegWrites
  repeat'
    first
      | rfl
      | assumption
      | (simp_all; done)
      | (simp [*]; done)
      | split
      | (refine (kept_foldl _ (fun _ _ => ?_) _ _).trans ?_)
      | (refine keptRel_foldl _ (fun _ _ _ => ?_) _ _ ?_)
      | (refine (laid_foldl_s _ (fun _ _ => ?_) _ _).trans ?_)
      | (refine (fit_foldl_s _ (fun _ _ => ?_) _ _).trans ?_)
      | (refine (injected_foldl_s _ (fun _ _ => ?_) _ _).trans ?_)
      | (intro _ _)
      | (simp; split)
      | dsimp only
      | simp

@[simp ↓] theorem State.debugRegReads_kept (s : State) (o z0 : Nat) : (s.debugRegReads o z0).1.kept = s.kept := by
  induction z0 generalizing s o with
  | zero => rfl
  | succ k ih =>
    unfold State.debugRegReads
    refine (ih _ _).trans ?_
    split
    · rfl
    · exact State.barRead_kept ..

@[simp] theorem State.debugLet_kept (s : State) (write : Bool) (a n : Nat) (data : List (BitVec 8)) (k0 : Kept) (hk : KeptRel k0 s.kept) : KeptRel k0 (State.debugLet s write a n data).kept := by
  unfold State.debugLet
  repeat'
    first
      | rfl
      | assumption
      | (simp_all; done)
      | (simp [*]; done)
      | split
      | (refine (kept_foldl _ (fun _ _ => ?_) _ _).trans ?_)
      | (refine keptRel_foldl _ (fun _ _ _ => ?_) _ _ ?_)
      | (refine (laid_foldl_s _ (fun _ _ => ?_) _ _).trans ?_)
      | (refine (fit_foldl_s _ (fun _ _ => ?_) _ _).trans ?_)
      | (refine (injected_foldl_s _ (fun _ _ => ?_) _ _).trans ?_)
      | (intro _ _)
      | (simp; split)
      | dsimp only
      | simp

/-! ## Machine/Dict.lean -/

@[simp ↓] theorem State.setCan_kept (s : State) (n : Nat) (c : CanNode) : (State.setCan s n c).kept = s.kept := by
  rfl

@[simp ↓] theorem State.autostart_kept (s : State) (n : Nat) : (State.autostart s n).kept = s.kept := by
  simp [State.autostart]

@[simp ↓] theorem State.nmtReset_kept (s : State) (n : Nat) : (State.nmtReset s n).kept = s.kept := by
  simp [State.nmtReset]

@[simp ↓] theorem State.udpDiscard_kept (s : State) : (State.udpDiscard s).kept = s.kept := by
  rfl

@[simp ↓] theorem State.udpRate_kept (s : State) (peer : Nat) : (State.udpRate s peer).1.kept = s.kept := by
  unfold State.udpRate
  repeat'
    first
      | rfl
      | (simp; done)
      | split
      | simp only []
      | dsimp only

@[simp ↓] theorem State.udpAccept_kept (s : State) (m : UdpMsg) : (State.udpAccept s m).1.kept = s.kept := by
  unfold State.udpAccept
  repeat'
    first
      | rfl
      | (simp; done)
      | split
      | simp only []
      | dsimp only

@[simp] theorem State.mailboxTake_kept (s : State) (f : Nat → Nat → Nat → Nat → State → State) (k0 : Kept)
    (hk : KeptRel k0 s.kept) (hf : ∀ a b c d x, KeptRel k0 x.kept → KeptRel k0 (f a b c d x).kept) :
    KeptRel k0 (s.mailboxTake f).kept := by
  unfold State.mailboxTake
  split
  · exact hk
  · split
    · rw [State.count_kept]; exact hk
    · exact hf _ _ _ _ _ hk

@[simp] theorem State.portWrite_kept (s : State) (p : DictPort) (idx sub : Nat) (data : List (BitVec 8)) (k0 : Kept) (hk : KeptRel k0 s.kept) : KeptRel k0 (State.portWrite s p idx sub data).kept := by
  unfold State.portWrite
  repeat'
    first
      | assumption
      | (simp_all; done)
      | split
      | (simp; split)

/-! ## Machine/EngineFaults.lean -/

@[simp ↓] theorem State.engineRefused_kept (s : State) (r : Access × MpuCause) (owner : Option Nat) : (State.engineRefused s r owner).kept = s.kept := by
  unfold State.engineRefused
  repeat'
    first
      | rfl
      | (simp; done)
      | split
      | simp only []
      | dsimp only

@[simp ↓] theorem State.discardTile_kept (s : State) (e : Nat) : (State.discardTile s e).kept = s.kept := by
  simp [State.discardTile]

@[simp ↓] theorem State.recAbandon_kept (s : State) (r : Nat) : (State.recAbandon s r).kept = s.kept := by
  unfold State.recAbandon
  repeat'
    first
      | rfl
      | (simp; done)
      | split
      | simp only []
      | dsimp only

@[simp ↓] theorem State.fetchFault_kept (s : State) (h : Nat) (z0 : FetchFault) : (State.fetchFault s h z0).kept = s.kept := by
  unfold State.fetchFault
  repeat'
    first
      | rfl
      | (simp; done)
      | split
      | simp only []
      | dsimp only

/-! ## Machine/Touch.lean -/

@[simp ↓] theorem State.fireRules_kept (s : State) (key edge : Nat) : (State.fireRules s key edge).kept = s.kept := by
  rfl

@[simp ↓] theorem State.fireOutput_kept (s : State) (b : Nat) (l : List HapFire) (n : Nat) : (State.fireOutput s b l n).kept = s.kept := by
  unfold State.fireOutput
  repeat'
    first
      | rfl
      | (simp; done)
      | split
      | simp only []
      | dsimp only

@[simp ↓] theorem State.setTouch_kept (s : State) (p : Nat) (x : Touch) : (State.setTouch s p x).kept = s.kept := by
  rfl

@[simp ↓] theorem State.setKey_kept (s : State) (k : Nat) (x : Key) : (State.setKey s k x).kept = s.kept := by
  rfl

@[simp ↓] theorem State.touchSync_kept (s : State) (p : Nat) : (State.touchSync s p).kept = s.kept := by
  simp [State.touchSync]

@[simp ↓] theorem State.keyTo_kept (s : State) (k e : Nat) (x : KeyState) (ev : EvKind) (edge : Nat) : (State.keyTo s k e x ev edge).kept = s.kept := by
  simp [State.keyTo]

@[simp ↓] theorem State.keyDebounce_kept (s : State) (k e : Nat) (d : Int) : (State.keyDebounce s k e d).kept = s.kept := by
  unfold State.keyDebounce
  repeat'
    first
      | rfl
      | (simp; done)
      | split
      | simp only []
      | dsimp only

@[simp ↓] theorem State.keyMeasure_kept (s : State) (p k e raw : Nat) (busy : Bool) : (State.keyMeasure s p k e raw busy).kept = s.kept := by
  simp [State.keyMeasure]

@[simp ↓] theorem State.keyTest_kept (s : State) (p k e raw : Nat) (fresh : Bool) : (State.keyTest s p k e raw fresh).kept = s.kept := by
  unfold State.keyTest
  dsimp only
  split <;> simp

@[simp ↓] theorem State.touchStart_kept (s : State) (p : Nat) : (State.touchStart s p).kept = s.kept := by
  unfold State.touchStart
  repeat'
    first
      | rfl
      | assumption
      | (simp_all; done)
      | (simp [*]; done)
      | split
      | (refine (kept_foldl _ (fun _ _ => ?_) _ _).trans ?_)
      | (refine keptRel_foldl _ (fun _ _ _ => ?_) _ _ ?_)
      | (refine (laid_foldl_s _ (fun _ _ => ?_) _ _).trans ?_)
      | (refine (fit_foldl_s _ (fun _ _ => ?_) _ _).trans ?_)
      | (refine (injected_foldl_s _ (fun _ _ => ?_) _ _).trans ?_)
      | (intro _ _)
      | (simp; split)
      | dsimp only
      | simp

@[simp ↓] theorem State.touchLift_kept (s : State) (p : Nat) (isMutual : Bool) : (State.touchLift s p isMutual).kept = s.kept := by
  unfold State.touchLift
  repeat'
    first
      | rfl
      | assumption
      | (simp_all; done)
      | (simp [*]; done)
      | split
      | (refine (kept_foldl _ (fun _ _ => ?_) _ _).trans ?_)
      | (refine keptRel_foldl _ (fun _ _ _ => ?_) _ _ ?_)
      | (refine (laid_foldl_s _ (fun _ _ => ?_) _ _).trans ?_)
      | (refine (fit_foldl_s _ (fun _ _ => ?_) _ _).trans ?_)
      | (refine (injected_foldl_s _ (fun _ _ => ?_) _ _).trans ?_)
      | (intro _ _)
      | (simp; split)
      | dsimp only
      | simp

@[simp ↓] theorem State.touchTrack_kept (s : State) (p : Nat) (isMutual : Bool) : (State.touchTrack s p isMutual).kept = s.kept := by
  simp [State.touchTrack]

@[simp ↓] theorem State.touchTest_kept (s : State) (p : Nat) (m x : List (Nat × Nat)) : (State.touchTest s p m x).kept = s.kept := by
  unfold State.touchTest
  repeat'
    first
      | rfl
      | assumption
      | (simp_all; done)
      | (simp [*]; done)
      | split
      | (refine (kept_foldl _ (fun _ _ => ?_) _ _).trans ?_)
      | (refine keptRel_foldl _ (fun _ _ _ => ?_) _ _ ?_)
      | (refine (laid_foldl_s _ (fun _ _ => ?_) _ _).trans ?_)
      | (refine (fit_foldl_s _ (fun _ _ => ?_) _ _).trans ?_)
      | (refine (injected_foldl_s _ (fun _ _ => ?_) _ _).trans ?_)
      | (intro _ _)
      | (simp; split)
      | dsimp only
      | simp

@[simp ↓] theorem State.touchReport_kept (s : State) (p e : Nat) (kind : ScanKind) (cs : List Contact) : (State.touchReport s p e kind cs).kept = s.kept := by
  unfold State.touchReport
  repeat'
    first
      | rfl
      | (simp; done)
      | split
      | simp only []
      | dsimp only

@[simp ↓] theorem State.touchEvaluate_kept (s : State) (p e : Nat) (kind : ScanKind) : (State.touchEvaluate s p e kind).kept = s.kept := by
  simp [State.touchEvaluate]

/-! ## Machine/Step.lean -/

@[simp ↓] theorem tick_kept (s : State) : (tick s).kept = s.kept := by
  unfold tick
  repeat'
    first
      | rfl
      | (simp; done)
      | split
      | simp only []
      | dsimp only

@[simp ↓] theorem State.withFetchWord_kept (s : State) (nbits w : Nat) : (State.withFetchWord s nbits w).kept = s.kept := by
  rfl

end Sys2Proof.Machine
end

