-- ==== Sys2Proof/Laws/Memory.lean ====
section
/-! SUPPORT. Device memory: reset has the canonical form, every operation that stores into it keeps that form, a read after a write gives
the byte written, and a write leaves every other byte. -/

namespace Sys2Proof.Machine

theorem reset_memory_wf : Memory.wf State.reset.dram = true := rfl

theorem Memory.wf_nil : Memory.wf [] = true := rfl

theorem Memory.wf_set (m : List Host.Cell) (a : Nat) (b : Byte) (h : Memory.wf m = true) : Memory.wf (Tab.set 0 m a b) = true :=
  Tab.wf_set 0 m a b h

theorem Memory.wf_filter (m : List Host.Cell) (f : Nat × Byte → Bool) (h : Memory.wf m = true) : Memory.wf (m.filter f) = true :=
  Tab.wf_filter 0 f m h

theorem State.dramWrite_wf (s : State) (a : Nat) (l : List Byte) (h : Memory.wf s.dram = true) :
    Memory.wf (s.dramWrite a l).dram = true := by
  induction l generalizing s a with
  | nil => exact h
  | cons b t ih => exact ih _ _ (Memory.wf_set _ _ _ h)

theorem State.ringBytes_wf (s : State) (pages : List Nat) (pos : Nat) (l : List Byte) (h : Memory.wf s.dram = true) :
    Memory.wf (s.ringBytes pages pos l).dram = true := by
  induction l generalizing s pos with
  | nil => exact h
  | cons b t ih => exact ih _ _ (State.dramWrite_wf _ _ _ h)

/-- A write of bytes leaves every byte below and above them. -/
theorem State.dramWrite_other (s : State) (a : Nat) (l : List Byte) (b : Nat) (h : b < a ∨ a + l.length ≤ b) :
    (s.dramWrite a l).dramByte b = s.dramByte b := by
  induction l generalizing s a with
  | nil => rfl
  | cons x t ih =>
    rw [State.dramWrite, ih _ _ (by rw [List.length_cons] at h; omega)]
    exact Tab.get_set_other 0 0 s.dram a b x (by rw [List.length_cons] at h; omega)

/-- A write of bytes is read back. -/
theorem State.dramWrite_read (s : State) (a : Nat) (l : List Byte) (i : Nat) (h : i < l.length) :
    (s.dramWrite a l).dramByte (a + i) = l[i] := by
  induction l generalizing s a i with
  | nil => simp at h
  | cons x t ih =>
    cases i with
    | zero =>
      exact (State.dramWrite_other _ _ t _ (.inl (Nat.lt_succ_self a))).trans (Tab.get_set_self 0 s.dram a x)
    | succ j =>
      rw [State.dramWrite, show a + (j + 1) = a + 1 + j by omega]
      exact ih _ _ _ (by simpa using h)

/-- A write of bytes changes device memory and nothing else. -/
theorem State.dramWrite_only (s : State) (a : Nat) (l : List Byte) : s.dramWrite a l = { s with dram := (s.dramWrite a l).dram } := by
  induction l generalizing s a with
  | nil => rfl
  | cons b t ih => rw [State.dramWrite]; exact ih _ _

end Sys2Proof.Machine
end

