-- ==== Sys2Proof/Laws/PerInstr.lean ====
section
/-! SUPPORT. The per-command family NoWord: no word of the opcode table spells a command, for no row of the table gives bits; commands come
from outside through the queue (log entry 1). -/

/-- No word, of any number of bits, spells command `i`. -/
def Sys2Proof.Laws.NoWord.Statement (i : Sys2Proof.Instr) : Prop :=
  ∀ nbits w : Nat, Sys2Proof.decodeTableWord nbits w ≠ some i

open Sys2Proof

theorem Sys2Proof.Laws.NoWord.admissionRequestJudge (x0 : Nat) :
    Sys2Proof.Laws.NoWord.Statement (.admissionRequestJudge x0) := fun _ _ h => nomatch h

theorem Sys2Proof.Laws.NoWord.blobApply (x0 : Nat) : Sys2Proof.Laws.NoWord.Statement (.blobApply x0) := fun _ _ h => nomatch h

theorem Sys2Proof.Laws.NoWord.blobReadComplete (x0 : Nat) (x1 : List (BitVec 8)) :
    Sys2Proof.Laws.NoWord.Statement (.blobReadComplete x0 x1) := fun _ _ h => nomatch h

theorem Sys2Proof.Laws.NoWord.eccZonesWrite (x0 : Nat) (x1 : BitVec 32) :
    Sys2Proof.Laws.NoWord.Statement (.eccZonesWrite x0 x1) := fun _ _ h => nomatch h

theorem Sys2Proof.Laws.NoWord.apertureBaseWrite (x0 : Nat) (x1 : BitVec 32) :
    Sys2Proof.Laws.NoWord.Statement (.apertureBaseWrite x0 x1) := fun _ _ h => nomatch h

theorem Sys2Proof.Laws.NoWord.apertureBaseSwitch (x0 : Nat) :
    Sys2Proof.Laws.NoWord.Statement (.apertureBaseSwitch x0) := fun _ _ h => nomatch h

theorem Sys2Proof.Laws.NoWord.bar0StrayAccess (x0 : Nat) (x1 : Fin 67108864) (x2 : Bool) :
    Sys2Proof.Laws.NoWord.Statement (.bar0StrayAccess x0 x1 x2) := fun _ _ h => nomatch h

theorem Sys2Proof.Laws.NoWord.bar4Access (x0 : Nat) (x1 : Fin 268435456) (x2 : Bool) (x3 : Nat) (x4 : List (BitVec 8)) :
    Sys2Proof.Laws.NoWord.Statement (.bar4Access x0 x1 x2 x3 x4) := fun _ _ h => nomatch h

theorem Sys2Proof.Laws.NoWord.registerWrite (x0 : Nat) (x1 : RegAt) (x2 : BitVec 32) :
    Sys2Proof.Laws.NoWord.Statement (.registerWrite x0 x1 x2) := fun _ _ h => nomatch h

theorem Sys2Proof.Laws.NoWord.registerReadClear (x0 : Nat) (x1 : RegAt) :
    Sys2Proof.Laws.NoWord.Statement (.registerReadClear x0 x1) := fun _ _ h => nomatch h

theorem Sys2Proof.Laws.NoWord.frameRelease (x0 : Nat) (x1 : Consumer) :
    Sys2Proof.Laws.NoWord.Statement (.frameRelease x0 x1) := fun _ _ h => nomatch h

theorem Sys2Proof.Laws.NoWord.latch (x0 : Nat) (x1 : Fin 16) (x2 : Int) (x3 : List Nat) :
    Sys2Proof.Laws.NoWord.Statement (.latch x0 x1 x2 x3) := fun _ _ h => nomatch h

theorem Sys2Proof.Laws.NoWord.generationSwitch (x0 : Nat) (x1 : Consumer) :
    Sys2Proof.Laws.NoWord.Statement (.generationSwitch x0 x1) := fun _ _ h => nomatch h

theorem Sys2Proof.Laws.NoWord.genShadowCopyComplete (x0 : Nat) :
    Sys2Proof.Laws.NoWord.Statement (.genShadowCopyComplete x0) := fun _ _ h => nomatch h

theorem Sys2Proof.Laws.NoWord.pairComparison (x0 : Nat) (x1 : Fin 16) :
    Sys2Proof.Laws.NoWord.Statement (.pairComparison x0 x1) := fun _ _ h => nomatch h

theorem Sys2Proof.Laws.NoWord.touchScanStart (x0 : Nat) (x1 : Fin 2) :
    Sys2Proof.Laws.NoWord.Statement (.touchScanStart x0 x1) := fun _ _ h => nomatch h

theorem Sys2Proof.Laws.NoWord.tallyEdge (x0 : Nat) : Sys2Proof.Laws.NoWord.Statement (.tallyEdge x0) := fun _ _ h => nomatch h

theorem Sys2Proof.Laws.NoWord.timeRateWrite (x0 : Nat) (x1 : BitVec 32) :
    Sys2Proof.Laws.NoWord.Statement (.timeRateWrite x0 x1) := fun _ _ h => nomatch h

theorem Sys2Proof.Laws.NoWord.timeAdjCommit (x0 : Nat) (x1 : BitVec 32) :
    Sys2Proof.Laws.NoWord.Statement (.timeAdjCommit x0 x1) := fun _ _ h => nomatch h

theorem Sys2Proof.Laws.NoWord.servoHold (x0 : Nat) : Sys2Proof.Laws.NoWord.Statement (.servoHold x0) := fun _ _ h => nomatch h

theorem Sys2Proof.Laws.NoWord.servoRelease (x0 : Nat) :
    Sys2Proof.Laws.NoWord.Statement (.servoRelease x0) := fun _ _ h => nomatch h

theorem Sys2Proof.Laws.NoWord.timeSnapshot (x0 : Nat) (x1 : BitVec 32) :
    Sys2Proof.Laws.NoWord.Statement (.timeSnapshot x0 x1) := fun _ _ h => nomatch h

theorem Sys2Proof.Laws.NoWord.ptpMessageRx (x0 : Nat) (x1 : Fin 4) (x2 : BitVec 8) (x3 : PtpMsg) :
    Sys2Proof.Laws.NoWord.Statement (.ptpMessageRx x0 x1 x2 x3) := fun _ _ h => nomatch h

theorem Sys2Proof.Laws.NoWord.delayReqSend (x0 : Nat) (x1 : Fin 4) (x2 : Fin 2) (x3 : BitVec 16) (x4 : BitVec 16) :
    Sys2Proof.Laws.NoWord.Statement (.delayReqSend x0 x1 x2 x3 x4) := fun _ _ h => nomatch h

theorem Sys2Proof.Laws.NoWord.domainLost (x0 : Nat) (x1 : Fin 2) :
    Sys2Proof.Laws.NoWord.Statement (.domainLost x0 x1) := fun _ _ h => nomatch h

theorem Sys2Proof.Laws.NoWord.slewComplete (x0 : Nat) :
    Sys2Proof.Laws.NoWord.Statement (.slewComplete x0) := fun _ _ h => nomatch h

theorem Sys2Proof.Laws.NoWord.traceTolReached (x0 : Nat) :
    Sys2Proof.Laws.NoWord.Statement (.traceTolReached x0) := fun _ _ h => nomatch h

theorem Sys2Proof.Laws.NoWord.holdoverExpire (x0 : Nat) :
    Sys2Proof.Laws.NoWord.Statement (.holdoverExpire x0) := fun _ _ h => nomatch h

theorem Sys2Proof.Laws.NoWord.domainRevert (x0 : Nat) :
    Sys2Proof.Laws.NoWord.Statement (.domainRevert x0) := fun _ _ h => nomatch h

theorem Sys2Proof.Laws.NoWord.lockWaitExpire (x0 : Nat) :
    Sys2Proof.Laws.NoWord.Statement (.lockWaitExpire x0) := fun _ _ h => nomatch h

theorem Sys2Proof.Laws.NoWord.goModeChange (x0 : Nat) :
    Sys2Proof.Laws.NoWord.Statement (.goModeChange x0) := fun _ _ h => nomatch h

theorem Sys2Proof.Laws.NoWord.txqPop (x0 : Nat) (x1 : Fin 4) :
    Sys2Proof.Laws.NoWord.Statement (.txqPop x0 x1) := fun _ _ h => nomatch h

theorem Sys2Proof.Laws.NoWord.ltbEpochCommit (x0 : Nat) (x1 : Fin 4) (x2 : BitVec 32) :
    Sys2Proof.Laws.NoWord.Statement (.ltbEpochCommit x0 x1 x2) := fun _ _ h => nomatch h

theorem Sys2Proof.Laws.NoWord.ttoArm (x0 : Nat) (x1 : Fin 8) (x2 : BitVec 32) :
    Sys2Proof.Laws.NoWord.Statement (.ttoArm x0 x1 x2) := fun _ _ h => nomatch h

theorem Sys2Proof.Laws.NoWord.ttoCtrlWrite (x0 : Nat) (x1 : Fin 8) (x2 : BitVec 32) :
    Sys2Proof.Laws.NoWord.Statement (.ttoCtrlWrite x0 x1 x2) := fun _ _ h => nomatch h

theorem Sys2Proof.Laws.NoWord.ttoEdge (x0 : Nat) (x1 : Fin 8) :
    Sys2Proof.Laws.NoWord.Statement (.ttoEdge x0 x1) := fun _ _ h => nomatch h

theorem Sys2Proof.Laws.NoWord.ppsOutEdge (x0 : Nat) : Sys2Proof.Laws.NoWord.Statement (.ppsOutEdge x0) := fun _ _ h => nomatch h

theorem Sys2Proof.Laws.NoWord.tciEdge (x0 : Nat) (x1 : Fin 5) (x2 : Bool) :
    Sys2Proof.Laws.NoWord.Statement (.tciEdge x0 x1 x2) := fun _ _ h => nomatch h

theorem Sys2Proof.Laws.NoWord.tciStampPop (x0 : Nat) (x1 : Fin 5) :
    Sys2Proof.Laws.NoWord.Statement (.tciStampPop x0 x1) := fun _ _ h => nomatch h

theorem Sys2Proof.Laws.NoWord.expirySweepVisit (x0 : Nat) (x1 : FrameRef) :
    Sys2Proof.Laws.NoWord.Statement (.expirySweepVisit x0 x1) := fun _ _ h => nomatch h

theorem Sys2Proof.Laws.NoWord.sheetEpoch (x0 : Nat) (x1 : Fin 32) :
    Sys2Proof.Laws.NoWord.Statement (.sheetEpoch x0 x1) := fun _ _ h => nomatch h

theorem Sys2Proof.Laws.NoWord.sheetTileComplete (x0 : Nat) (x1 : Fin 2) (x2 : List (Nat × Nat)) (x3 : Nat) (x4 : Nat) :
    Sys2Proof.Laws.NoWord.Statement (.sheetTileComplete x0 x1 x2 x3 x4) := fun _ _ h => nomatch h

theorem Sys2Proof.Laws.NoWord.sheetPageFault (x0 : Nat) (x1 : UnitFault 2) :
    Sys2Proof.Laws.NoWord.Statement (.sheetPageFault x0 x1) := fun _ _ h => nomatch h

theorem Sys2Proof.Laws.NoWord.sheetFaultResume (x0 : Nat) (x1 : Fin 32) :
    Sys2Proof.Laws.NoWord.Statement (.sheetFaultResume x0 x1) := fun _ _ h => nomatch h

theorem Sys2Proof.Laws.NoWord.ethDatagramRx (x0 : Nat) (x1 : Fin 4) (x2 : EthFrame) (x3 : UdpPayload) :
    Sys2Proof.Laws.NoWord.Statement (.ethDatagramRx x0 x1 x2 x3) := fun _ _ h => nomatch h

theorem Sys2Proof.Laws.NoWord.membershipReportSend (x0 : Nat) :
    Sys2Proof.Laws.NoWord.Statement (.membershipReportSend x0) := fun _ _ h => nomatch h

theorem Sys2Proof.Laws.NoWord.pathDownTimeout (x0 : Nat) (x1 : Fin 160) (x2 : Fin 2) :
    Sys2Proof.Laws.NoWord.Statement (.pathDownTimeout x0 x1 x2) := fun _ _ h => nomatch h

theorem Sys2Proof.Laws.NoWord.auDeadline (x0 : Nat) (x1 : Fin 160) :
    Sys2Proof.Laws.NoWord.Statement (.auDeadline x0 x1) := fun _ _ h => nomatch h

theorem Sys2Proof.Laws.NoWord.contextRetry (x0 : Nat) (x1 : Fin 160) :
    Sys2Proof.Laws.NoWord.Statement (.contextRetry x0 x1) := fun _ _ h => nomatch h

theorem Sys2Proof.Laws.NoWord.channelSilence (x0 : Nat) (x1 : Fin 128) :
    Sys2Proof.Laws.NoWord.Statement (.channelSilence x0 x1) := fun _ _ h => nomatch h

theorem Sys2Proof.Laws.NoWord.rtcpSrRx (x0 : Nat) (x1 : Fin 160) (x2 : BitVec 64) (x3 : BitVec 32) :
    Sys2Proof.Laws.NoWord.Statement (.rtcpSrRx x0 x1 x2 x3) := fun _ _ h => nomatch h

theorem Sys2Proof.Laws.NoWord.srAgeExpire (x0 : Nat) (x1 : Fin 160) :
    Sys2Proof.Laws.NoWord.Statement (.srAgeExpire x0 x1) := fun _ _ h => nomatch h

theorem Sys2Proof.Laws.NoWord.salvoPrepare (x0 : Nat) (x1 : DictPort) (x2 : Fin 8) :
    Sys2Proof.Laws.NoWord.Statement (.salvoPrepare x0 x1 x2) := fun _ _ h => nomatch h

theorem Sys2Proof.Laws.NoWord.salvoCommit (x0 : Nat) (x1 : DictPort) (x2 : Fin 8) :
    Sys2Proof.Laws.NoWord.Statement (.salvoCommit x0 x1 x2) := fun _ _ h => nomatch h

theorem Sys2Proof.Laws.NoWord.salvoCancel (x0 : Nat) (x1 : DictPort) (x2 : Fin 8) :
    Sys2Proof.Laws.NoWord.Statement (.salvoCancel x0 x1 x2) := fun _ _ h => nomatch h

theorem Sys2Proof.Laws.NoWord.salvoSwitch (x0 : Nat) (x1 : Fin 8) :
    Sys2Proof.Laws.NoWord.Statement (.salvoSwitch x0 x1) := fun _ _ h => nomatch h

theorem Sys2Proof.Laws.NoWord.cruiseSweep (x0 : Nat) :
    Sys2Proof.Laws.NoWord.Statement (.cruiseSweep x0) := fun _ _ h => nomatch h

theorem Sys2Proof.Laws.NoWord.laneTrainComplete (x0 : Nat) (x1 : TrainedBond) :
    Sys2Proof.Laws.NoWord.Statement (.laneTrainComplete x0 x1) := fun _ _ h => nomatch h

theorem Sys2Proof.Laws.NoWord.laneTrainTimeout (x0 : Nat) (x1 : Fin 32) :
    Sys2Proof.Laws.NoWord.Statement (.laneTrainTimeout x0 x1) := fun _ _ h => nomatch h

theorem Sys2Proof.Laws.NoWord.laneSlip (x0 : Nat) (x1 : Fin 32) (x2 : Bool) :
    Sys2Proof.Laws.NoWord.Statement (.laneSlip x0 x1 x2) := fun _ _ h => nomatch h

theorem Sys2Proof.Laws.NoWord.laneAlignLoss (x0 : Nat) (x1 : Fin 32) (x2 : Nat × Nat) (x3 : Bool) :
    Sys2Proof.Laws.NoWord.Statement (.laneAlignLoss x0 x1 x2 x3) := fun _ _ h => nomatch h

theorem Sys2Proof.Laws.NoWord.identRx (x0 : Nat) (x1 : Fin 32) (x2 : IdentPacket) (x3 : LuskoBody) :
    Sys2Proof.Laws.NoWord.Statement (.identRx x0 x1 x2 x3) := fun _ _ h => nomatch h

theorem Sys2Proof.Laws.NoWord.linkCtrlRx (x0 : Nat) (x1 : Fin 32) (x2 : BitVec 8) (x3 : BitVec 16) (x4 : Nat) (x5 : LuskoBody) :
    Sys2Proof.Laws.NoWord.Statement (.linkCtrlRx x0 x1 x2 x3 x4 x5) := fun _ _ h => nomatch h

theorem Sys2Proof.Laws.NoWord.frameStartRx (x0 : Nat) (x1 : Fin 32) (x2 : BitVec 8) (x3 : BitVec 16) (x4 : FrameStart) (x5 : LuskoBody) :
    Sys2Proof.Laws.NoWord.Statement (.frameStartRx x0 x1 x2 x3 x4 x5) := fun _ _ h => nomatch h

theorem Sys2Proof.Laws.NoWord.videoLineRx (x0 : Nat) (x1 : Fin 32) (x2 : BitVec 8) (x3 : BitVec 16) (x4 : BitVec 16) (x5 : Nat) (x6 : List (BitVec 8)) (x7 : LuskoBody) :
    Sys2Proof.Laws.NoWord.Statement (.videoLineRx x0 x1 x2 x3 x4 x5 x6 x7) := fun _ _ h => nomatch h

theorem Sys2Proof.Laws.NoWord.frameEndRx (x0 : Nat) (x1 : Fin 32) (x2 : BitVec 8) (x3 : BitVec 16) (x4 : BitVec 16) (x5 : Nat) (x6 : LuskoBody) :
    Sys2Proof.Laws.NoWord.Statement (.frameEndRx x0 x1 x2 x3 x4 x5 x6) := fun _ _ h => nomatch h

theorem Sys2Proof.Laws.NoWord.luskoBadPacketRx (x0 : Nat) (x1 : Fin 32) (x2 : BitVec 8) (x3 : LuskoBad) (x4 : List (Nat × Nat)) :
    Sys2Proof.Laws.NoWord.Statement (.luskoBadPacketRx x0 x1 x2 x3 x4) := fun _ _ h => nomatch h

theorem Sys2Proof.Laws.NoWord.fixturePacketRx (x0 : Nat) (x1 : Fin 32) (x2 : BitVec 8) (x3 : BitVec 16) (x4 : LuskoBody) :
    Sys2Proof.Laws.NoWord.Statement (.fixturePacketRx x0 x1 x2 x3 x4) := fun _ _ h => nomatch h

theorem Sys2Proof.Laws.NoWord.luskoTimeSend (x0 : Nat) :
    Sys2Proof.Laws.NoWord.Statement (.luskoTimeSend x0) := fun _ _ h => nomatch h

theorem Sys2Proof.Laws.NoWord.captureFrameTimeout (x0 : Nat) (x1 : Fin 160) :
    Sys2Proof.Laws.NoWord.Statement (.captureFrameTimeout x0 x1) := fun _ _ h => nomatch h

theorem Sys2Proof.Laws.NoWord.fastIdleEntry (x0 : Nat) (x1 : Fin 32) (x2 : Bool) :
    Sys2Proof.Laws.NoWord.Statement (.fastIdleEntry x0 x1 x2) := fun _ _ h => nomatch h

theorem Sys2Proof.Laws.NoWord.fastIdleExit (x0 : Nat) (x1 : Fin 32) (x2 : Bool) (x3 : Bool) :
    Sys2Proof.Laws.NoWord.Statement (.fastIdleExit x0 x1 x2 x3) := fun _ _ h => nomatch h

theorem Sys2Proof.Laws.NoWord.deepOffRequest (x0 : Nat) (x1 : Fin 32) :
    Sys2Proof.Laws.NoWord.Statement (.deepOffRequest x0 x1) := fun _ _ h => nomatch h

theorem Sys2Proof.Laws.NoWord.deepWakeRequest (x0 : Nat) (x1 : Fin 32) :
    Sys2Proof.Laws.NoWord.Statement (.deepWakeRequest x0 x1) := fun _ _ h => nomatch h

theorem Sys2Proof.Laws.NoWord.squelchActivity (x0 : Nat) (x1 : Fin 32) (x2 : Nat) :
    Sys2Proof.Laws.NoWord.Statement (.squelchActivity x0 x1 x2) := fun _ _ h => nomatch h

theorem Sys2Proof.Laws.NoWord.laneWakeAligned (x0 : Nat) (x1 : Fin 32) :
    Sys2Proof.Laws.NoWord.Statement (.laneWakeAligned x0 x1) := fun _ _ h => nomatch h

theorem Sys2Proof.Laws.NoWord.deepWakeTimeout (x0 : Nat) (x1 : Fin 32) :
    Sys2Proof.Laws.NoWord.Statement (.deepWakeTimeout x0 x1) := fun _ _ h => nomatch h

theorem Sys2Proof.Laws.NoWord.decodeJobStart (x0 : Nat) (x1 : Fin 160) (x2 : Fin 4) (x3 : PicStart) (x4 : DpbAction) :
    Sys2Proof.Laws.NoWord.Statement (.decodeJobStart x0 x1 x2 x3 x4) := fun _ _ h => nomatch h

theorem Sys2Proof.Laws.NoWord.decodeRowComplete (x0 : Nat) (x1 : Fin 16) (x2 : RowDone) :
    Sys2Proof.Laws.NoWord.Statement (.decodeRowComplete x0 x1 x2) := fun _ _ h => nomatch h

theorem Sys2Proof.Laws.NoWord.decodePageFault (x0 : Nat) (x1 : UnitFault 16) :
    Sys2Proof.Laws.NoWord.Statement (.decodePageFault x0 x1) := fun _ _ h => nomatch h

theorem Sys2Proof.Laws.NoWord.decodeFaultResume (x0 : Nat) (x1 : Fin 160) (x2 : Fin 4) :
    Sys2Proof.Laws.NoWord.Statement (.decodeFaultResume x0 x1 x2) := fun _ _ h => nomatch h

theorem Sys2Proof.Laws.NoWord.decodePoolTimeout (x0 : Nat) (x1 : Fin 160) :
    Sys2Proof.Laws.NoWord.Statement (.decodePoolTimeout x0 x1) := fun _ _ h => nomatch h

theorem Sys2Proof.Laws.NoWord.winGenOpen (x0 : Nat) : Sys2Proof.Laws.NoWord.Statement (.winGenOpen x0) := fun _ _ h => nomatch h

theorem Sys2Proof.Laws.NoWord.winGenCommit (x0 : Nat) :
    Sys2Proof.Laws.NoWord.Statement (.winGenCommit x0) := fun _ _ h => nomatch h

theorem Sys2Proof.Laws.NoWord.winGenAbandon (x0 : Nat) :
    Sys2Proof.Laws.NoWord.Statement (.winGenAbandon x0) := fun _ _ h => nomatch h

theorem Sys2Proof.Laws.NoWord.windowDescriptorWrite (x0 : Nat) (x1 : Bool) (x2 : Fin 8192) (x3 : Fin 16) (x4 : BitVec 32) :
    Sys2Proof.Laws.NoWord.Statement (.windowDescriptorWrite x0 x1 x2 x3 x4) := fun _ _ h => nomatch h

theorem Sys2Proof.Laws.NoWord.coefOpen (x0 : Nat) (x1 : CoefUnit) (x2 : Fin 4) :
    Sys2Proof.Laws.NoWord.Statement (.coefOpen x0 x1 x2) := fun _ _ h => nomatch h

theorem Sys2Proof.Laws.NoWord.coefSeal (x0 : Nat) (x1 : CoefUnit) (x2 : Fin 4) :
    Sys2Proof.Laws.NoWord.Statement (.coefSeal x0 x1 x2) := fun _ _ h => nomatch h

theorem Sys2Proof.Laws.NoWord.coefWrite (x0 : Nat) (x1 : CoefUnit) (x2 : Fin 4) (x3 : Fin 1024) (x4 : BitVec 32) :
    Sys2Proof.Laws.NoWord.Statement (.coefWrite x0 x1 x2 x3 x4) := fun _ _ h => nomatch h

theorem Sys2Proof.Laws.NoWord.bgColorWrite (x0 : Nat) (x1 : Fin 16) (x2 : BitVec 32) :
    Sys2Proof.Laws.NoWord.Statement (.bgColorWrite x0 x1 x2) := fun _ _ h => nomatch h

theorem Sys2Proof.Laws.NoWord.safelightApply (x0 : Nat) (x1 : Fin 16) :
    Sys2Proof.Laws.NoWord.Statement (.safelightApply x0 x1) := fun _ _ h => nomatch h

theorem Sys2Proof.Laws.NoWord.glyphCrcRefresh (x0 : Nat) :
    Sys2Proof.Laws.NoWord.Statement (.glyphCrcRefresh x0) := fun _ _ h => nomatch h

theorem Sys2Proof.Laws.NoWord.readyDrivenLatch (x0 : Nat) (x1 : Fin 16) (x2 : Option Nat) (x3 : List Nat) :
    Sys2Proof.Laws.NoWord.Statement (.readyDrivenLatch x0 x1 x2 x3) := fun _ _ h => nomatch h

theorem Sys2Proof.Laws.NoWord.forcedLatch (x0 : Nat) (x1 : Fin 16) (x2 : List Nat) :
    Sys2Proof.Laws.NoWord.Statement (.forcedLatch x0 x1 x2) := fun _ _ h => nomatch h

theorem Sys2Proof.Laws.NoWord.scanoutStart (x0 : Nat) (x1 : Fin 16) (x2 : List Nat) :
    Sys2Proof.Laws.NoWord.Statement (.scanoutStart x0 x1 x2) := fun _ _ h => nomatch h

theorem Sys2Proof.Laws.NoWord.signatureBlockSend (x0 : Nat) (x1 : Fin 16) (x2 : Nat) (x3 : Nat) :
    Sys2Proof.Laws.NoWord.Statement (.signatureBlockSend x0 x1 x2 x3) := fun _ _ h => nomatch h

theorem Sys2Proof.Laws.NoWord.prefetchStart (x0 : Nat) (x1 : Fin 16) (x2 : Fin 8192) (x3 : PrefetchRun) :
    Sys2Proof.Laws.NoWord.Statement (.prefetchStart x0 x1 x2 x3) := fun _ _ h => nomatch h

theorem Sys2Proof.Laws.NoWord.underrunPixel (x0 : Nat) (x1 : Fin 16) (x2 : Fin 8) (x3 : Nat) (x4 : Nat) (x5 : Option FetchFault) :
    Sys2Proof.Laws.NoWord.Statement (.underrunPixel x0 x1 x2 x3 x4 x5) := fun _ _ h => nomatch h

theorem Sys2Proof.Laws.NoWord.fetchLevelChange (x0 : Nat) (x1 : Fin 16) (x2 : Fin 8) (x3 : List (Bool × Nat × Nat)) (x4 : List (Nat × Nat)) :
    Sys2Proof.Laws.NoWord.Statement (.fetchLevelChange x0 x1 x2 x3 x4) := fun _ _ h => nomatch h

theorem Sys2Proof.Laws.NoWord.headRasterStart (x0 : Nat) (x1 : Fin 16) :
    Sys2Proof.Laws.NoWord.Statement (.headRasterStart x0 x1) := fun _ _ h => nomatch h

theorem Sys2Proof.Laws.NoWord.headRasterStop (x0 : Nat) (x1 : Fin 16) :
    Sys2Proof.Laws.NoWord.Statement (.headRasterStop x0 x1) := fun _ _ h => nomatch h

theorem Sys2Proof.Laws.NoWord.hpdPresent (x0 : Nat) (x1 : Fin 16) (x2 : SinkRead) :
    Sys2Proof.Laws.NoWord.Statement (.hpdPresent x0 x1 x2) := fun _ _ h => nomatch h

theorem Sys2Proof.Laws.NoWord.hpdGone (x0 : Nat) (x1 : Fin 16) :
    Sys2Proof.Laws.NoWord.Statement (.hpdGone x0 x1) := fun _ _ h => nomatch h

theorem Sys2Proof.Laws.NoWord.irqHpd (x0 : Nat) (x1 : Fin 16) (x2 : Bool) :
    Sys2Proof.Laws.NoWord.Statement (.irqHpd x0 x1 x2) := fun _ _ h => nomatch h

theorem Sys2Proof.Laws.NoWord.linkTrainingAttempt (x0 : Nat) (x1 : Fin 16) :
    Sys2Proof.Laws.NoWord.Statement (.linkTrainingAttempt x0 x1) := fun _ _ h => nomatch h

theorem Sys2Proof.Laws.NoWord.linkTrainingDone (x0 : Nat) (x1 : Fin 16) (x2 : Bool) :
    Sys2Proof.Laws.NoWord.Statement (.linkTrainingDone x0 x1 x2) := fun _ _ h => nomatch h

theorem Sys2Proof.Laws.NoWord.linkRetry (x0 : Nat) (x1 : Fin 16) :
    Sys2Proof.Laws.NoWord.Statement (.linkRetry x0 x1) := fun _ _ h => nomatch h

theorem Sys2Proof.Laws.NoWord.recPictureStart (x0 : Nat) (x1 : Fin 16) (x2 : Fin 4) :
    Sys2Proof.Laws.NoWord.Statement (.recPictureStart x0 x1 x2) := fun _ _ h => nomatch h

theorem Sys2Proof.Laws.NoWord.recRowComplete (x0 : Nat) (x1 : Fin 4) (x2 : Nat) (x3 : Nat) (x4 : List (Nat × Nat)) (x5 : Nat) (x6 : Nat) (x7 : Nat) (x8 : List (BitVec 8)) :
    Sys2Proof.Laws.NoWord.Statement (.recRowComplete x0 x1 x2 x3 x4 x5 x6 x7 x8) := fun _ _ h => nomatch h

theorem Sys2Proof.Laws.NoWord.recPageFault (x0 : Nat) (x1 : UnitFault 4) :
    Sys2Proof.Laws.NoWord.Statement (.recPageFault x0 x1) := fun _ _ h => nomatch h

theorem Sys2Proof.Laws.NoWord.recFaultResume (x0 : Nat) (x1 : Fin 16) (x2 : Fin 4) :
    Sys2Proof.Laws.NoWord.Statement (.recFaultResume x0 x1 x2) := fun _ _ h => nomatch h

theorem Sys2Proof.Laws.NoWord.bsRdWrite (x0 : Nat) (x1 : Fin 16) (x2 : BitVec 32) :
    Sys2Proof.Laws.NoWord.Statement (.bsRdWrite x0 x1 x2) := fun _ _ h => nomatch h

theorem Sys2Proof.Laws.NoWord.recRtpTransmit (x0 : Nat) (x1 : Fin 16) (x2 : Nat) (x3 : Nat) :
    Sys2Proof.Laws.NoWord.Statement (.recRtpTransmit x0 x1 x2 x3) := fun _ _ h => nomatch h

theorem Sys2Proof.Laws.NoWord.pairJoin (x0 : Nat) : Sys2Proof.Laws.NoWord.Statement (.pairJoin x0) := fun _ _ h => nomatch h

theorem Sys2Proof.Laws.NoWord.pairLeave (x0 : Nat) : Sys2Proof.Laws.NoWord.Statement (.pairLeave x0) := fun _ _ h => nomatch h

theorem Sys2Proof.Laws.NoWord.pairSwitchover (x0 : Nat) :
    Sys2Proof.Laws.NoWord.Statement (.pairSwitchover x0) := fun _ _ h => nomatch h

theorem Sys2Proof.Laws.NoWord.pairActInRise (x0 : Nat) :
    Sys2Proof.Laws.NoWord.Statement (.pairActInRise x0) := fun _ _ h => nomatch h

theorem Sys2Proof.Laws.NoWord.pairActInLost (x0 : Nat) :
    Sys2Proof.Laws.NoWord.Statement (.pairActInLost x0) := fun _ _ h => nomatch h

theorem Sys2Proof.Laws.NoWord.sideBGoTimeout (x0 : Nat) :
    Sys2Proof.Laws.NoWord.Statement (.sideBGoTimeout x0) := fun _ _ h => nomatch h

theorem Sys2Proof.Laws.NoWord.joinRetry (x0 : Nat) : Sys2Proof.Laws.NoWord.Statement (.joinRetry x0) := fun _ _ h => nomatch h

theorem Sys2Proof.Laws.NoWord.joinEpoch (x0 : Nat) : Sys2Proof.Laws.NoWord.Statement (.joinEpoch x0) := fun _ _ h => nomatch h

theorem Sys2Proof.Laws.NoWord.joinMaxExpire (x0 : Nat) :
    Sys2Proof.Laws.NoWord.Statement (.joinMaxExpire x0) := fun _ _ h => nomatch h

theorem Sys2Proof.Laws.NoWord.pairSyncSend (x0 : Nat) :
    Sys2Proof.Laws.NoWord.Statement (.pairSyncSend x0) := fun _ _ h => nomatch h

theorem Sys2Proof.Laws.NoWord.pairSyncRx (x0 : Nat) (x1 : BitVec 16) (x2 : PairSync) (x3 : LuskoBody) :
    Sys2Proof.Laws.NoWord.Statement (.pairSyncRx x0 x1 x2 x3) := fun _ _ h => nomatch h

theorem Sys2Proof.Laws.NoWord.manifestRx (x0 : Nat) (x1 : BitVec 16) (x2 : Manifest) (x3 : LuskoBody) :
    Sys2Proof.Laws.NoWord.Statement (.manifestRx x0 x1 x2 x3) := fun _ _ h => nomatch h

theorem Sys2Proof.Laws.NoWord.commandRx (x0 : Nat) (x1 : BitVec 16) (x2 : PairCmd) (x3 : LuskoBody) :
    Sys2Proof.Laws.NoWord.Statement (.commandRx x0 x1 x2 x3) := fun _ _ h => nomatch h

theorem Sys2Proof.Laws.NoWord.reqFwdRx (x0 : Nat) (x1 : BitVec 16) (x2 : Nat) (x3 : Request) (x4 : LuskoBody) :
    Sys2Proof.Laws.NoWord.Statement (.reqFwdRx x0 x1 x2 x3 x4) := fun _ _ h => nomatch h

theorem Sys2Proof.Laws.NoWord.fillReqRx (x0 : Nat) (x1 : BitVec 16) (x2 : Fin 160) (x3 : Nat) (x4 : Bool) (x5 : LuskoBody) :
    Sys2Proof.Laws.NoWord.Statement (.fillReqRx x0 x1 x2 x3 x4 x5) := fun _ _ h => nomatch h

theorem Sys2Proof.Laws.NoWord.fillDataRx (x0 : Nat) (x1 : BitVec 16) (x2 : Fin 160) (x3 : Nat) (x4 : Option (List Nal × List (BitVec 8))) (x5 : LuskoBody) :
    Sys2Proof.Laws.NoWord.Statement (.fillDataRx x0 x1 x2 x3 x4 x5) := fun _ _ h => nomatch h

theorem Sys2Proof.Laws.NoWord.surfDataRx (x0 : Nat) (x1 : BitVec 16) (x2 : Fin 256) (x3 : Nat) (x4 : Bool) (x5 : List Sample) (x6 : LuskoBody) :
    Sys2Proof.Laws.NoWord.Statement (.surfDataRx x0 x1 x2 x3 x4 x5 x6) := fun _ _ h => nomatch h

theorem Sys2Proof.Laws.NoWord.signatureRx (x0 : Nat) (x1 : BitVec 16) (x2 : SigBlock) (x3 : LuskoBody) :
    Sys2Proof.Laws.NoWord.Statement (.signatureRx x0 x1 x2 x3) := fun _ _ h => nomatch h

theorem Sys2Proof.Laws.NoWord.healthRx (x0 : Nat) (x1 : BitVec 16) (x2 : Health) (x3 : LuskoBody) :
    Sys2Proof.Laws.NoWord.Statement (.healthRx x0 x1 x2 x3) := fun _ _ h => nomatch h

theorem Sys2Proof.Laws.NoWord.controlRx (x0 : Nat) (x1 : BitVec 16) (x2 : PairControl) (x3 : LuskoBody) :
    Sys2Proof.Laws.NoWord.Statement (.controlRx x0 x1 x2 x3) := fun _ _ h => nomatch h

theorem Sys2Proof.Laws.NoWord.pairSkewTimeout (x0 : Nat) :
    Sys2Proof.Laws.NoWord.Statement (.pairSkewTimeout x0) := fun _ _ h => nomatch h

theorem Sys2Proof.Laws.NoWord.fillTimeout (x0 : Nat) (x1 : Fin 160) :
    Sys2Proof.Laws.NoWord.Statement (.fillTimeout x0 x1) := fun _ _ h => nomatch h

theorem Sys2Proof.Laws.NoWord.fillRetentionExpire (x0 : Nat) :
    Sys2Proof.Laws.NoWord.Statement (.fillRetentionExpire x0) := fun _ _ h => nomatch h

theorem Sys2Proof.Laws.NoWord.attributionDecide (x0 : Nat) :
    Sys2Proof.Laws.NoWord.Statement (.attributionDecide x0) := fun _ _ h => nomatch h

theorem Sys2Proof.Laws.NoWord.takeoverEpoch (x0 : Nat) :
    Sys2Proof.Laws.NoWord.Statement (.takeoverEpoch x0) := fun _ _ h => nomatch h

theorem Sys2Proof.Laws.NoWord.takeoverSwitch (x0 : Nat) :
    Sys2Proof.Laws.NoWord.Statement (.takeoverSwitch x0) := fun _ _ h => nomatch h

theorem Sys2Proof.Laws.NoWord.functionLevelReset (x0 : Nat) :
    Sys2Proof.Laws.NoWord.Statement (.functionLevelReset x0) := fun _ _ h => nomatch h

theorem Sys2Proof.Laws.NoWord.pcieLinkDown (x0 : Nat) :
    Sys2Proof.Laws.NoWord.Statement (.pcieLinkDown x0) := fun _ _ h => nomatch h

theorem Sys2Proof.Laws.NoWord.d3hotEntry (x0 : Nat) : Sys2Proof.Laws.NoWord.Statement (.d3hotEntry x0) := fun _ _ h => nomatch h

theorem Sys2Proof.Laws.NoWord.instCreate (x0 : Nat) (x1 : Fin 32) :
    Sys2Proof.Laws.NoWord.Statement (.instCreate x0 x1) := fun _ _ h => nomatch h

theorem Sys2Proof.Laws.NoWord.instChange (x0 : Nat) (x1 : Fin 32) :
    Sys2Proof.Laws.NoWord.Statement (.instChange x0 x1) := fun _ _ h => nomatch h

theorem Sys2Proof.Laws.NoWord.instReset (x0 : Nat) (x1 : Fin 32) (x2 : Bool) (x3 : Bool) :
    Sys2Proof.Laws.NoWord.Statement (.instReset x0 x1 x2 x3) := fun _ _ h => nomatch h

theorem Sys2Proof.Laws.NoWord.instFreeze (x0 : Nat) (x1 : Fin 32) :
    Sys2Proof.Laws.NoWord.Statement (.instFreeze x0 x1) := fun _ _ h => nomatch h

theorem Sys2Proof.Laws.NoWord.instSave (x0 : Nat) (x1 : Fin 32) (x2 : Nat) :
    Sys2Proof.Laws.NoWord.Statement (.instSave x0 x1 x2) := fun _ _ h => nomatch h

theorem Sys2Proof.Laws.NoWord.instRestore (x0 : Nat) (x1 : Fin 32) (x2 : RestoreData) :
    Sys2Proof.Laws.NoWord.Statement (.instRestore x0 x1 x2) := fun _ _ h => nomatch h

theorem Sys2Proof.Laws.NoWord.instThaw (x0 : Nat) (x1 : Fin 32) :
    Sys2Proof.Laws.NoWord.Statement (.instThaw x0 x1) := fun _ _ h => nomatch h

theorem Sys2Proof.Laws.NoWord.instDestroy (x0 : Nat) (x1 : Fin 32) :
    Sys2Proof.Laws.NoWord.Statement (.instDestroy x0 x1) := fun _ _ h => nomatch h

theorem Sys2Proof.Laws.NoWord.instChangeEpoch (x0 : Nat) (x1 : Fin 32) :
    Sys2Proof.Laws.NoWord.Statement (.instChangeEpoch x0 x1) := fun _ _ h => nomatch h

theorem Sys2Proof.Laws.NoWord.instDrainTimeout (x0 : Nat) (x1 : Fin 32) :
    Sys2Proof.Laws.NoWord.Statement (.instDrainTimeout x0 x1) := fun _ _ h => nomatch h

theorem Sys2Proof.Laws.NoWord.resetDrainComplete (x0 : Nat) (x1 : Fin 32) :
    Sys2Proof.Laws.NoWord.Statement (.resetDrainComplete x0 x1) := fun _ _ h => nomatch h

theorem Sys2Proof.Laws.NoWord.freezeComplete (x0 : Nat) (x1 : Fin 32) :
    Sys2Proof.Laws.NoWord.Statement (.freezeComplete x0 x1) := fun _ _ h => nomatch h

theorem Sys2Proof.Laws.NoWord.saveComplete (x0 : Nat) (x1 : Fin 32) :
    Sys2Proof.Laws.NoWord.Statement (.saveComplete x0 x1) := fun _ _ h => nomatch h

theorem Sys2Proof.Laws.NoWord.restoreComplete (x0 : Nat) (x1 : Fin 32) :
    Sys2Proof.Laws.NoWord.Statement (.restoreComplete x0 x1) := fun _ _ h => nomatch h

theorem Sys2Proof.Laws.NoWord.mmuMap (x0 : Nat) (x1 : Fin 32) :
    Sys2Proof.Laws.NoWord.Statement (.mmuMap x0 x1) := fun _ _ h => nomatch h

theorem Sys2Proof.Laws.NoWord.mmuRevoke (x0 : Nat) (x1 : Fin 32) :
    Sys2Proof.Laws.NoWord.Statement (.mmuRevoke x0 x1) := fun _ _ h => nomatch h

theorem Sys2Proof.Laws.NoWord.doorbellTailWrite (x0 : Nat) (x1 : Fin 32) (x2 : Fin 4) (x3 : BitVec 32) :
    Sys2Proof.Laws.NoWord.Statement (.doorbellTailWrite x0 x1 x2 x3) := fun _ _ h => nomatch h

theorem Sys2Proof.Laws.NoWord.doorbellPageWrite (x0 : Nat) (x1 : Fin 32) (x2 : Fin 65536) (x3 : BitVec 32) :
    Sys2Proof.Laws.NoWord.Statement (.doorbellPageWrite x0 x1 x2 x3) := fun _ _ h => nomatch h

theorem Sys2Proof.Laws.NoWord.workOrderRead (x0 : Nat) (x1 : Fin 32) (x2 : Fin 4) (x3 : OrderRead) :
    Sys2Proof.Laws.NoWord.Statement (.workOrderRead x0 x1 x2 x3) := fun _ _ h => nomatch h

theorem Sys2Proof.Laws.NoWord.nop (x0 : Nat) (x1 : Fin 32) (x2 : Nat) :
    Sys2Proof.Laws.NoWord.Statement (.nop x0 x1 x2) := fun _ _ h => nomatch h

theorem Sys2Proof.Laws.NoWord.surfCreate (x0 : Nat) (x1 : Fin 32) (x2 : Nat) :
    Sys2Proof.Laws.NoWord.Statement (.surfCreate x0 x1 x2) := fun _ _ h => nomatch h

theorem Sys2Proof.Laws.NoWord.surfDestroy (x0 : Nat) (x1 : Fin 32) (x2 : Nat) :
    Sys2Proof.Laws.NoWord.Statement (.surfDestroy x0 x1 x2) := fun _ _ h => nomatch h

theorem Sys2Proof.Laws.NoWord.surfCommit (x0 : Nat) (x1 : Fin 32) (x2 : Nat) :
    Sys2Proof.Laws.NoWord.Statement (.surfCommit x0 x1 x2) := fun _ _ h => nomatch h

theorem Sys2Proof.Laws.NoWord.surfCommitBufferAcquire (x0 : Nat) (x1 : Fin 32) (x2 : Nat) :
    Sys2Proof.Laws.NoWord.Statement (.surfCommitBufferAcquire x0 x1 x2) := fun _ _ h => nomatch h

theorem Sys2Proof.Laws.NoWord.winBatch (x0 : Nat) (x1 : Fin 32) (x2 : Nat) :
    Sys2Proof.Laws.NoWord.Statement (.winBatch x0 x1 x2) := fun _ _ h => nomatch h

theorem Sys2Proof.Laws.NoWord.safeReq (x0 : Nat) (x1 : Fin 32) (x2 : Nat) :
    Sys2Proof.Laws.NoWord.Statement (.safeReq x0 x1 x2) := fun _ _ h => nomatch h

theorem Sys2Proof.Laws.NoWord.blazeSet (x0 : Nat) (x1 : Fin 32) (x2 : Nat) :
    Sys2Proof.Laws.NoWord.Statement (.blazeSet x0 x1 x2) := fun _ _ h => nomatch h

theorem Sys2Proof.Laws.NoWord.copy (x0 : Nat) (x1 : Fin 32) (x2 : Nat) :
    Sys2Proof.Laws.NoWord.Statement (.copy x0 x1 x2) := fun _ _ h => nomatch h

theorem Sys2Proof.Laws.NoWord.badOp (x0 : Nat) (x1 : Fin 32) (x2 : Nat) :
    Sys2Proof.Laws.NoWord.Statement (.badOp x0 x1 x2) := fun _ _ h => nomatch h

theorem Sys2Proof.Laws.NoWord.dmaBlockComplete (x0 : Nat) (x1 : DmaBlock) (x2 : List (Nat × Nat)) (x3 : Nat) (x4 : Nat) :
    Sys2Proof.Laws.NoWord.Statement (.dmaBlockComplete x0 x1 x2 x3 x4) := fun _ _ h => nomatch h

theorem Sys2Proof.Laws.NoWord.priResponseRx (x0 : Nat) (x1 : Fin 32) (x2 : Nat) (x3 : Bool) :
    Sys2Proof.Laws.NoWord.Statement (.priResponseRx x0 x1 x2 x3) := fun _ _ h => nomatch h

theorem Sys2Proof.Laws.NoWord.priTimeout (x0 : Nat) (x1 : Fin 32) (x2 : Nat) :
    Sys2Proof.Laws.NoWord.Statement (.priTimeout x0 x1 x2) := fun _ _ h => nomatch h

theorem Sys2Proof.Laws.NoWord.atsInvalidateRx (x0 : Nat) (x1 : Fin 32) (x2 : BitVec 64) (x3 : Nat) :
    Sys2Proof.Laws.NoWord.Statement (.atsInvalidateRx x0 x1 x2 x3) := fun _ _ h => nomatch h

theorem Sys2Proof.Laws.NoWord.cqHeadWrite (x0 : Nat) (x1 : Fin 32) (x2 : BitVec 32) :
    Sys2Proof.Laws.NoWord.Statement (.cqHeadWrite x0 x1 x2) := fun _ _ h => nomatch h

theorem Sys2Proof.Laws.NoWord.evqRdWrite (x0 : Nat) (x1 : Fin 32) (x2 : BitVec 32) :
    Sys2Proof.Laws.NoWord.Statement (.evqRdWrite x0 x1 x2) := fun _ _ h => nomatch h

theorem Sys2Proof.Laws.NoWord.vectorHoldExpire (x0 : Nat) (x1 : Fin 32) (x2 : Bool) :
    Sys2Proof.Laws.NoWord.Statement (.vectorHoldExpire x0 x1 x2) := fun _ _ h => nomatch h

theorem Sys2Proof.Laws.NoWord.vecMaskWrite (x0 : Nat) (x1 : Fin 32) (x2 : VecMask) :
    Sys2Proof.Laws.NoWord.Statement (.vecMaskWrite x0 x1 x2) := fun _ _ h => nomatch h

theorem Sys2Proof.Laws.NoWord.touchScanComplete (x0 : Nat) (x1 : Fin 2) (x2 : List (Nat × Nat)) (x3 : List (Nat × Nat)) :
    Sys2Proof.Laws.NoWord.Statement (.touchScanComplete x0 x1 x2 x3) := fun _ _ h => nomatch h

theorem Sys2Proof.Laws.NoWord.keyGroupEnd (x0 : Nat) (x1 : Fin 2) (x2 : List (Nat × Nat)) :
    Sys2Proof.Laws.NoWord.Statement (.keyGroupEnd x0 x1 x2) := fun _ _ h => nomatch h

theorem Sys2Proof.Laws.NoWord.touchRebase (x0 : Nat) (x1 : Fin 2) :
    Sys2Proof.Laws.NoWord.Statement (.touchRebase x0 x1) := fun _ _ h => nomatch h

theorem Sys2Proof.Laws.NoWord.hapPlay (x0 : Nat) (x1 : BitVec 32) :
    Sys2Proof.Laws.NoWord.Statement (.hapPlay x0 x1) := fun _ _ h => nomatch h

theorem Sys2Proof.Laws.NoWord.hapticWaveformStart (x0 : Nat) :
    Sys2Proof.Laws.NoWord.Statement (.hapticWaveformStart x0) := fun _ _ h => nomatch h

theorem Sys2Proof.Laws.NoWord.hapticWaveformEnd (x0 : Nat) (x1 : Fin 8) :
    Sys2Proof.Laws.NoWord.Statement (.hapticWaveformEnd x0 x1) := fun _ _ h => nomatch h

theorem Sys2Proof.Laws.NoWord.alarmSegmentEnd (x0 : Nat) :
    Sys2Proof.Laws.NoWord.Statement (.alarmSegmentEnd x0) := fun _ _ h => nomatch h

theorem Sys2Proof.Laws.NoWord.alarmRequestActivate (x0 : Nat) :
    Sys2Proof.Laws.NoWord.Statement (.alarmRequestActivate x0) := fun _ _ h => nomatch h

theorem Sys2Proof.Laws.NoWord.usdoDownload (x0 : Nat) (x1 : Fin 2) (x2 : BitVec 16) (x3 : BitVec 8) (x4 : Bool) (x5 : Bool) (x6 : List (BitVec 8)) :
    Sys2Proof.Laws.NoWord.Statement (.usdoDownload x0 x1 x2 x3 x4 x5 x6) := fun _ _ h => nomatch h

theorem Sys2Proof.Laws.NoWord.usdoUpload (x0 : Nat) (x1 : Fin 2) (x2 : BitVec 16) (x3 : BitVec 8) :
    Sys2Proof.Laws.NoWord.Statement (.usdoUpload x0 x1 x2 x3) := fun _ _ h => nomatch h

theorem Sys2Proof.Laws.NoWord.udpRead (x0 : Nat) (x1 : UdpMsg) :
    Sys2Proof.Laws.NoWord.Statement (.udpRead x0 x1) := fun _ _ h => nomatch h

theorem Sys2Proof.Laws.NoWord.udpWrite (x0 : Nat) (x1 : UdpMsg) :
    Sys2Proof.Laws.NoWord.Statement (.udpWrite x0 x1) := fun _ _ h => nomatch h

theorem Sys2Proof.Laws.NoWord.mbxRead (x0 : Nat) (x1 : BitVec 32) :
    Sys2Proof.Laws.NoWord.Statement (.mbxRead x0 x1) := fun _ _ h => nomatch h

theorem Sys2Proof.Laws.NoWord.mbxWrite (x0 : Nat) (x1 : BitVec 32) :
    Sys2Proof.Laws.NoWord.Statement (.mbxWrite x0 x1) := fun _ _ h => nomatch h

theorem Sys2Proof.Laws.NoWord.objectApply (x0 : Nat) (x1 : DictPort) (x2 : BitVec 16) :
    Sys2Proof.Laws.NoWord.Statement (.objectApply x0 x1 x2) := fun _ _ h => nomatch h

theorem Sys2Proof.Laws.NoWord.objectStop (x0 : Nat) (x1 : DictPort) (x2 : BitVec 16) :
    Sys2Proof.Laws.NoWord.Statement (.objectStop x0 x1 x2) := fun _ _ h => nomatch h

theorem Sys2Proof.Laws.NoWord.windowBatchCommit (x0 : Nat) (x1 : DictPort) :
    Sys2Proof.Laws.NoWord.Statement (.windowBatchCommit x0 x1) := fun _ _ h => nomatch h

theorem Sys2Proof.Laws.NoWord.sessionStageTimeout (x0 : Nat) (x1 : Fin 11) :
    Sys2Proof.Laws.NoWord.Statement (.sessionStageTimeout x0 x1) := fun _ _ h => nomatch h

theorem Sys2Proof.Laws.NoWord.nmtStart (x0 : Nat) (x1 : Fin 2) :
    Sys2Proof.Laws.NoWord.Statement (.nmtStart x0 x1) := fun _ _ h => nomatch h

theorem Sys2Proof.Laws.NoWord.nmtStop (x0 : Nat) (x1 : Fin 2) :
    Sys2Proof.Laws.NoWord.Statement (.nmtStop x0 x1) := fun _ _ h => nomatch h

theorem Sys2Proof.Laws.NoWord.nmtResetCommunication (x0 : Nat) (x1 : Fin 2) :
    Sys2Proof.Laws.NoWord.Statement (.nmtResetCommunication x0 x1) := fun _ _ h => nomatch h

theorem Sys2Proof.Laws.NoWord.nmtResetNode (x0 : Nat) (x1 : Fin 2) :
    Sys2Proof.Laws.NoWord.Statement (.nmtResetNode x0 x1) := fun _ _ h => nomatch h

theorem Sys2Proof.Laws.NoWord.heartbeatSend (x0 : Nat) (x1 : Fin 2) :
    Sys2Proof.Laws.NoWord.Statement (.heartbeatSend x0 x1) := fun _ _ h => nomatch h

theorem Sys2Proof.Laws.NoWord.tpdoTransmit (x0 : Nat) (x1 : Fin 2) (x2 : Fin 3) :
    Sys2Proof.Laws.NoWord.Statement (.tpdoTransmit x0 x1 x2) := fun _ _ h => nomatch h

theorem Sys2Proof.Laws.NoWord.busOffEntry (x0 : Nat) (x1 : Fin 2) :
    Sys2Proof.Laws.NoWord.Statement (.busOffEntry x0 x1) := fun _ _ h => nomatch h

theorem Sys2Proof.Laws.NoWord.busOffRecovery (x0 : Nat) (x1 : Fin 2) :
    Sys2Proof.Laws.NoWord.Statement (.busOffRecovery x0 x1) := fun _ _ h => nomatch h

theorem Sys2Proof.Laws.NoWord.lssSwitchStateSelective (x0 : Nat) (x1 : Fin 2) (x2 : BitVec 32) (x3 : BitVec 32) (x4 : BitVec 32) (x5 : BitVec 32) :
    Sys2Proof.Laws.NoWord.Statement (.lssSwitchStateSelective x0 x1 x2 x3 x4 x5) := fun _ _ h => nomatch h

theorem Sys2Proof.Laws.NoWord.lssConfigureNodeId (x0 : Nat) (x1 : Fin 2) (x2 : BitVec 8) :
    Sys2Proof.Laws.NoWord.Statement (.lssConfigureNodeId x0 x1 x2) := fun _ _ h => nomatch h

theorem Sys2Proof.Laws.NoWord.lssConfigureBitTiming (x0 : Nat) (x1 : Fin 2) (x2 : BitVec 8) (x3 : BitVec 8) :
    Sys2Proof.Laws.NoWord.Statement (.lssConfigureBitTiming x0 x1 x2 x3) := fun _ _ h => nomatch h

theorem Sys2Proof.Laws.NoWord.lssStoreConfiguration (x0 : Nat) (x1 : Fin 2) :
    Sys2Proof.Laws.NoWord.Statement (.lssStoreConfiguration x0 x1) := fun _ _ h => nomatch h

theorem Sys2Proof.Laws.NoWord.storeAll (x0 : Nat) (x1 : DictPort) (x2 : BitVec 32) :
    Sys2Proof.Laws.NoWord.Statement (.storeAll x0 x1 x2) := fun _ _ h => nomatch h

theorem Sys2Proof.Laws.NoWord.storeComplete (x0 : Nat) :
    Sys2Proof.Laws.NoWord.Statement (.storeComplete x0) := fun _ _ h => nomatch h

theorem Sys2Proof.Laws.NoWord.restoreDefaults (x0 : Nat) (x1 : DictPort) (x2 : BitVec 32) :
    Sys2Proof.Laws.NoWord.Statement (.restoreDefaults x0 x1 x2) := fun _ _ h => nomatch h

theorem Sys2Proof.Laws.NoWord.settingsLoad (x0 : Nat) :
    Sys2Proof.Laws.NoWord.Statement (.settingsLoad x0) := fun _ _ h => nomatch h

theorem Sys2Proof.Laws.NoWord.glyphBitmapRequest (x0 : Nat) (x1 : DictPort) (x2 : List (BitVec 8)) :
    Sys2Proof.Laws.NoWord.Statement (.glyphBitmapRequest x0 x1 x2) := fun _ _ h => nomatch h

theorem Sys2Proof.Laws.NoWord.paletteEntriesRequest (x0 : Nat) (x1 : DictPort) (x2 : List (BitVec 8)) :
    Sys2Proof.Laws.NoWord.Statement (.paletteEntriesRequest x0 x1 x2) := fun _ _ h => nomatch h

theorem Sys2Proof.Laws.NoWord.cellFillRequest (x0 : Nat) (x1 : DictPort) :
    Sys2Proof.Laws.NoWord.Statement (.cellFillRequest x0 x1) := fun _ _ h => nomatch h

theorem Sys2Proof.Laws.NoWord.alarmRequestWrite (x0 : Nat) (x1 : DictPort) (x2 : Fin 16) (x3 : BitVec 16) :
    Sys2Proof.Laws.NoWord.Statement (.alarmRequestWrite x0 x1 x2 x3) := fun _ _ h => nomatch h

theorem Sys2Proof.Laws.NoWord.mpuRegionWrite (x0 : Nat) (x1 : Fin 256) (x2 : Fin 4) (x3 : BitVec 32) :
    Sys2Proof.Laws.NoWord.Statement (.mpuRegionWrite x0 x1 x2 x3) := fun _ _ h => nomatch h

theorem Sys2Proof.Laws.NoWord.evidenceScrub (x0 : Nat) (x1 : Fin 8388608) (x2 : List (FrameRef × Nat)) :
    Sys2Proof.Laws.NoWord.Statement (.evidenceScrub x0 x1 x2) := fun _ _ h => nomatch h

theorem Sys2Proof.Laws.NoWord.postedNoticeWindow (x0 : Nat) :
    Sys2Proof.Laws.NoWord.Statement (.postedNoticeWindow x0) := fun _ _ h => nomatch h

theorem Sys2Proof.Laws.NoWord.debugAccess (x0 : Nat) (x1 : Bool) (x2 : DbgTarget) (x3 : Nat) (x4 : List (BitVec 8)) :
    Sys2Proof.Laws.NoWord.Statement (.debugAccess x0 x1 x2 x3 x4) := fun _ _ h => nomatch h

theorem Sys2Proof.Laws.NoWord.updBegin (x0 : Nat) : Sys2Proof.Laws.NoWord.Statement (.updBegin x0) := fun _ _ h => nomatch h

theorem Sys2Proof.Laws.NoWord.updAbort (x0 : Nat) (x1 : Fin 13) :
    Sys2Proof.Laws.NoWord.Statement (.updAbort x0 x1) := fun _ _ h => nomatch h

theorem Sys2Proof.Laws.NoWord.imageChunkRx (x0 : Nat) (x1 : Fin 13) (x2 : List (BitVec 8)) :
    Sys2Proof.Laws.NoWord.Statement (.imageChunkRx x0 x1 x2) := fun _ _ h => nomatch h

theorem Sys2Proof.Laws.NoWord.imageHeaderComplete (x0 : Nat) (x1 : Fin 13) :
    Sys2Proof.Laws.NoWord.Statement (.imageHeaderComplete x0 x1) := fun _ _ h => nomatch h

theorem Sys2Proof.Laws.NoWord.imagePayloadComplete (x0 : Nat) (x1 : Fin 13) (x2 : Bool) (x3 : Bool) :
    Sys2Proof.Laws.NoWord.Statement (.imagePayloadComplete x0 x1 x2 x3) := fun _ _ h => nomatch h

theorem Sys2Proof.Laws.NoWord.updateIdleTimeout (x0 : Nat) :
    Sys2Proof.Laws.NoWord.Statement (.updateIdleTimeout x0) := fun _ _ h => nomatch h

theorem Sys2Proof.Laws.NoWord.romBoot (x0 : Nat) (x1 : Bool) (x2 : Bool) (x3 : Bool) (x4 : Bool) :
    Sys2Proof.Laws.NoWord.Statement (.romBoot x0 x1 x2 x3 x4) := fun _ _ h => nomatch h

theorem Sys2Proof.Laws.NoWord.trialConfirm (x0 : Nat) :
    Sys2Proof.Laws.NoWord.Statement (.trialConfirm x0) := fun _ _ h => nomatch h

theorem Sys2Proof.Laws.NoWord.go (x0 : Nat) : Sys2Proof.Laws.NoWord.Statement (.go x0) := fun _ _ h => nomatch h

theorem Sys2Proof.Laws.NoWord.goProving (x0 : Nat) : Sys2Proof.Laws.NoWord.Statement (.goProving x0) := fun _ _ h => nomatch h

theorem Sys2Proof.Laws.NoWord.safeHold (x0 : Nat) : Sys2Proof.Laws.NoWord.Statement (.safeHold x0) := fun _ _ h => nomatch h

theorem Sys2Proof.Laws.NoWord.leaveSafeHold (x0 : Nat) :
    Sys2Proof.Laws.NoWord.Statement (.leaveSafeHold x0) := fun _ _ h => nomatch h

theorem Sys2Proof.Laws.NoWord.sleep (x0 : Nat) (x1 : BitVec 16) :
    Sys2Proof.Laws.NoWord.Statement (.sleep x0 x1) := fun _ _ h => nomatch h

theorem Sys2Proof.Laws.NoWord.reset (x0 : Nat) (x1 : BitVec 16) :
    Sys2Proof.Laws.NoWord.Statement (.reset x0 x1) := fun _ _ h => nomatch h

theorem Sys2Proof.Laws.NoWord.safeHoldApply (x0 : Nat) (x1 : Fin 16) :
    Sys2Proof.Laws.NoWord.Statement (.safeHoldApply x0 x1) := fun _ _ h => nomatch h

theorem Sys2Proof.Laws.NoWord.watchdogKick (x0 : Nat) :
    Sys2Proof.Laws.NoWord.Statement (.watchdogKick x0) := fun _ _ h => nomatch h

theorem Sys2Proof.Laws.NoWord.watchdogWarn (x0 : Nat) :
    Sys2Proof.Laws.NoWord.Statement (.watchdogWarn x0) := fun _ _ h => nomatch h

theorem Sys2Proof.Laws.NoWord.watchdogExpire (x0 : Nat) :
    Sys2Proof.Laws.NoWord.Statement (.watchdogExpire x0) := fun _ _ h => nomatch h

theorem Sys2Proof.Laws.NoWord.lockstepMismatch (x0 : Nat) :
    Sys2Proof.Laws.NoWord.Statement (.lockstepMismatch x0) := fun _ _ h => nomatch h

theorem Sys2Proof.Laws.NoWord.wakePin (x0 : Nat) (x1 : Fin 4) :
    Sys2Proof.Laws.NoWord.Statement (.wakePin x0 x1) := fun _ _ h => nomatch h

theorem Sys2Proof.Laws.NoWord.rtcAlarm (x0 : Nat) : Sys2Proof.Laws.NoWord.Statement (.rtcAlarm x0) := fun _ _ h => nomatch h

theorem Sys2Proof.Laws.NoWord.vddAonRise (x0 : Nat) : Sys2Proof.Laws.NoWord.Statement (.vddAonRise x0) := fun _ _ h => nomatch h

theorem Sys2Proof.Laws.NoWord.aonPorRelease (x0 : Nat) :
    Sys2Proof.Laws.NoWord.Statement (.aonPorRelease x0) := fun _ _ h => nomatch h

theorem Sys2Proof.Laws.NoWord.railPgRise (x0 : Nat) (x1 : Fin 12) :
    Sys2Proof.Laws.NoWord.Statement (.railPgRise x0 x1) := fun _ _ h => nomatch h

theorem Sys2Proof.Laws.NoWord.railSettleDone (x0 : Nat) :
    Sys2Proof.Laws.NoWord.Statement (.railSettleDone x0) := fun _ _ h => nomatch h

theorem Sys2Proof.Laws.NoWord.railPgTimeout (x0 : Nat) :
    Sys2Proof.Laws.NoWord.Statement (.railPgTimeout x0) := fun _ _ h => nomatch h

theorem Sys2Proof.Laws.NoWord.railPgLoss (x0 : Nat) (x1 : Fin 12) :
    Sys2Proof.Laws.NoWord.Statement (.railPgLoss x0 x1) := fun _ _ h => nomatch h

theorem Sys2Proof.Laws.NoWord.thermalTrip (x0 : Nat) :
    Sys2Proof.Laws.NoWord.Statement (.thermalTrip x0) := fun _ _ h => nomatch h

theorem Sys2Proof.Laws.NoWord.railRetry (x0 : Nat) : Sys2Proof.Laws.NoWord.Statement (.railRetry x0) := fun _ _ h => nomatch h

theorem Sys2Proof.Laws.NoWord.powerDownComplete (x0 : Nat) :
    Sys2Proof.Laws.NoWord.Statement (.powerDownComplete x0) := fun _ _ h => nomatch h

theorem Sys2Proof.Laws.NoWord.resetPin (x0 : Nat) : Sys2Proof.Laws.NoWord.Statement (.resetPin x0) := fun _ _ h => nomatch h

theorem Sys2Proof.Laws.NoWord.bootComplete (x0 : Nat) (x1 : Nat) (x2 : Nat) (x3 : Nat) (x4 : Tab (BitVec 8)) :
    Sys2Proof.Laws.NoWord.Statement (.bootComplete x0 x1 x2 x3 x4) := fun _ _ h => nomatch h

theorem Sys2Proof.Laws.NoWord.rtcSet (x0 : Nat) : Sys2Proof.Laws.NoWord.Statement (.rtcSet x0) := fun _ _ h => nomatch h

theorem Sys2Proof.Laws.NoWord.tokenRequest (x0 : Nat) (x1 : TokenHolder) (x2 : Nat) :
    Sys2Proof.Laws.NoWord.Statement (.tokenRequest x0 x1 x2) := fun _ _ h => nomatch h

theorem Sys2Proof.Laws.NoWord.tokenSlot (x0 : Nat) : Sys2Proof.Laws.NoWord.Statement (.tokenSlot x0) := fun _ _ h => nomatch h

theorem Sys2Proof.Laws.NoWord.engineClockGate (x0 : Nat) (x1 : TokenHolder) (x2 : Nat) :
    Sys2Proof.Laws.NoWord.Statement (.engineClockGate x0 x1 x2) := fun _ _ h => nomatch h

theorem Sys2Proof.Laws.NoWord.pmcSelWrite (x0 : Nat) (x1 : Fin 39) (x2 : Fin 8) (x3 : BitVec 32) :
    Sys2Proof.Laws.NoWord.Statement (.pmcSelWrite x0 x1 x2 x3) := fun _ _ h => nomatch h

theorem Sys2Proof.Laws.NoWord.tallyStart (x0 : Nat) : Sys2Proof.Laws.NoWord.Statement (.tallyStart x0) := fun _ _ h => nomatch h

theorem Sys2Proof.Laws.NoWord.tallyStop (x0 : Nat) : Sys2Proof.Laws.NoWord.Statement (.tallyStop x0) := fun _ _ h => nomatch h

theorem Sys2Proof.Laws.NoWord.selftestRun (x0 : Nat) (x1 : Fin 42) (x2 : Bool) :
    Sys2Proof.Laws.NoWord.Statement (.selftestRun x0 x1 x2) := fun _ _ h => nomatch h

theorem Sys2Proof.Laws.NoWord.healthReport (x0 : Nat) (x1 : BitVec 16) (x2 : Nat) :
    Sys2Proof.Laws.NoWord.Statement (.healthReport x0 x1 x2) := fun _ _ h => nomatch h

theorem Sys2Proof.Laws.NoWord.injectorArm (x0 : Nat) (x1 : Fin 16) (x2 : BitVec 32) :
    Sys2Proof.Laws.NoWord.Statement (.injectorArm x0 x1 x2) := fun _ _ h => nomatch h

theorem Sys2Proof.Laws.NoWord.reorderRelease (x0 : Nat) :
    Sys2Proof.Laws.NoWord.Statement (.reorderRelease x0) := fun _ _ h => nomatch h

theorem Sys2Proof.Laws.NoWord.provLogPop (x0 : Nat) : Sys2Proof.Laws.NoWord.Statement (.provLogPop x0) := fun _ _ h => nomatch h

theorem Sys2Proof.Laws.NoWord.marginScanStart (x0 : Nat) :
    Sys2Proof.Laws.NoWord.Statement (.marginScanStart x0) := fun _ _ h => nomatch h

theorem Sys2Proof.Laws.NoWord.marginScanAbort (x0 : Nat) :
    Sys2Proof.Laws.NoWord.Statement (.marginScanAbort x0) := fun _ _ h => nomatch h

theorem Sys2Proof.Laws.NoWord.scanDwellEnd (x0 : Nat) (x1 : List (Nat × Nat)) :
    Sys2Proof.Laws.NoWord.Statement (.scanDwellEnd x0 x1) := fun _ _ h => nomatch h

theorem Sys2Proof.Laws.NoWord.recoveryNHigh (x0 : Nat) :
    Sys2Proof.Laws.NoWord.Statement (.recoveryNHigh x0) := fun _ _ h => nomatch h

theorem Sys2Proof.Laws.NoWord.vddAonRemoval (x0 : Nat) :
    Sys2Proof.Laws.NoWord.Statement (.vddAonRemoval x0) := fun _ _ h => nomatch h

theorem Sys2Proof.Laws.NoWord.usdoProtocolTimeout (x0 : Nat) (x1 : Fin 2) :
    Sys2Proof.Laws.NoWord.Statement (.usdoProtocolTimeout x0 x1) := fun _ _ h => nomatch h

theorem Sys2Proof.Laws.NoWord.selftestStarved (x0 : Nat) (x1 : Fin 41) :
    Sys2Proof.Laws.NoWord.Statement (.selftestStarved x0 x1) := fun _ _ h => nomatch h

theorem Sys2Proof.Laws.NoWord.pllMonitorFail (x0 : Nat) :
    Sys2Proof.Laws.NoWord.Statement (.pllMonitorFail x0) := fun _ _ h => nomatch h

theorem Sys2Proof.Laws.NoWord.uncorrectableError (x0 : Nat) (x1 : EccSite) :
    Sys2Proof.Laws.NoWord.Statement (.uncorrectableError x0 x1) := fun _ _ h => nomatch h

theorem Sys2Proof.Laws.NoWord.audioFrame (x0 : Nat) (x1 : List Int) :
    Sys2Proof.Laws.NoWord.Statement (.audioFrame x0 x1) := fun _ _ h => nomatch h

theorem Sys2Proof.Laws.NoWord.shadowRestoreComplete (x0 : Nat) :
    Sys2Proof.Laws.NoWord.Statement (.shadowRestoreComplete x0) := fun _ _ h => nomatch h

theorem Sys2Proof.Laws.NoWord.railOffHoldEnd (x0 : Nat) :
    Sys2Proof.Laws.NoWord.Statement (.railOffHoldEnd x0) := fun _ _ h => nomatch h

theorem Sys2Proof.Laws.NoWord.junctionCooled (x0 : Nat) :
    Sys2Proof.Laws.NoWord.Statement (.junctionCooled x0) := fun _ _ h => nomatch h
end

