-- ==== Sys2Proof/Laws/Steps.lean ====
section
/-! SUPPORT. What the statements' vocabulary comes to: a command gives what holds of the state it answers, and raising an event raises it. -/

namespace Sys2Proof.Safety

open Sys2Proof.Machine

theorem gives_of_next {i : Instr} {s w : State} {P : State → Prop} (h : exec i s = .next w) (p : P w) : gives i s P := ⟨w, h, p⟩

theorem gives_next {i : Instr} {s w : State} {P : State → Prop} (h : exec i s = .next w) : gives i s P ↔ P w := by
  constructor
  · rintro ⟨u, e, p⟩
    rw [h] at e
    cases e
    exact p
  · exact gives_of_next h

theorem leaves_next {i : Instr} {s w : State} {P : State → Prop} (h : exec i s = .next w) : leaves i s P ↔ P w := by
  constructor
  · intro g
    exact g w h
  · intro p u e
    rw [h] at e
    cases e
    exact p

/-- An event raised after others is raised. -/
theorem raises_emitAt (k : EvKind) (i t : Nat) (p : List Int) (s u : State) (h : ∃ l, u.events = s.events ++ l) :
    raises k i p s (u.emitAt k i t p) := by
  obtain ⟨l, h⟩ := h
  obtain ⟨q, m, e⟩ := State.emitAt_events u k i t p
  exact ⟨l ++ ⟨k, i, q, t, p⟩ :: m, ⟨k, i, q, t, p⟩, by rw [e, h]; simp, by simp, rfl, rfl, rfl⟩

theorem raises_emit (k : EvKind) (i : Nat) (p : List Int) (s u : State) (h : ∃ l, u.events = s.events ++ l) :
    raises k i p s (u.emit k i p) := raises_emitAt k i u.now p s u h

theorem raises_emit_self (k : EvKind) (i : Nat) (p : List Int) (s u : State) (h : u.events = s.events) :
    raises k i p s (u.emit k i p) := raises_emit k i p s u ⟨[], by simpa using h⟩

end Sys2Proof.Safety
end

