-- ==== Sys2Proof/WellFormed.lean ====
section
/-! DEFINITION. Well-formed commands: the operands whose type is wider than what the hardware can carry lie in their range. A command's
meaning is total; what a sender can send is well-formed. -/

namespace Sys2Proof

/-- A window index (R199). -/
def windowIndex (w : Nat) : Bool := decide (w < 8192)

/-- A lane with a count of errors (R150). -/
def laneCount (p : Nat × Nat) : Bool := decide (p.1 < 32)

/-- How many units of a kind ask for power tokens (R429). -/
def holderUnits : TokenHolder → Nat
  | .retrain | .lane => 32
  | .decode | .training => 16
  | .sheet => 2
  | .recorder => 4

/-- The operands of a command lie in their ranges. -/
def Instr.wf : Instr → Bool
  | .admissionRequestJudge _ => true
  | .blobApply _ => true
  | .blobReadComplete _ _ => true
  | .eccZonesWrite _ _ => true
  | .apertureBaseWrite _ _ => true
  | .apertureBaseSwitch _ => true
  | .bar0StrayAccess _ _ _ => true
  | .bar4Access _ o write n data =>
    if write then !data.isEmpty && decide (o.val + data.length ≤ 268435456) else decide (0 < n) && decide (o.val + n ≤ 268435456)
  | .registerWrite _ _ _ => true
  | .registerReadClear _ _ => true
  | .frameRelease _ _ => true
  | .latch _ _ _ bad => bad.all windowIndex
  | .generationSwitch _ _ => true
  | .genShadowCopyComplete _ => true
  | .pairComparison _ _ => true
  | .touchScanStart _ _ => true
  | .tallyEdge _ => true
  | .timeRateWrite _ _ => true
  | .timeAdjCommit _ _ => true
  | .servoHold _ => true
  | .servoRelease _ => true
  | .timeSnapshot _ _ => true
  | .ptpMessageRx _ _ _ _ => true
  | .delayReqSend _ _ _ _ _ => true
  | .domainLost _ _ => true
  | .slewComplete _ => true
  | .traceTolReached _ => true
  | .holdoverExpire _ => true
  | .domainRevert _ => true
  | .lockWaitExpire _ => true
  | .goModeChange _ => true
  | .txqPop _ _ => true
  | .ltbEpochCommit _ _ _ => true
  | .ttoArm _ _ _ => true
  | .ttoCtrlWrite _ _ _ => true
  | .ttoEdge _ _ => true
  | .ppsOutEdge _ => true
  | .tciEdge _ _ _ => true
  | .tciStampPop _ _ => true
  | .expirySweepVisit _ _ => true
  | .sheetEpoch _ _ => true
  | .sheetTileComplete _ _ _ _ _ => true
  | .sheetPageFault _ _ => true
  | .sheetFaultResume _ _ => true
  | .ethDatagramRx _ _ _ _ => true
  | .membershipReportSend _ => true
  | .pathDownTimeout _ _ _ => true
  | .auDeadline _ _ => true
  | .contextRetry _ _ => true
  | .channelSilence _ _ => true
  | .rtcpSrRx _ _ _ _ => true
  | .srAgeExpire _ _ => true
  | .salvoPrepare _ _ _ => true
  | .salvoCommit _ _ _ => true
  | .salvoCancel _ _ _ => true
  | .salvoSwitch _ _ => true
  | .cruiseSweep _ => true
  | .laneTrainComplete _ _ => true
  | .laneTrainTimeout _ _ => true
  | .laneSlip _ _ _ => true
  | .laneAlignLoss _ _ _ _ => true
  | .identRx _ _ _ _ => true
  | .linkCtrlRx _ _ _ _ op _ => decide (op < 256)
  | .frameStartRx _ _ _ _ _ _ => true
  | .videoLineRx _ _ _ _ _ line _ _ => decide (line < 65536)
  | .frameEndRx _ _ _ _ _ lines _ => decide (lines < 65536)
  | .luskoBadPacketRx _ _ _ _ errs => errs.all laneCount
  | .fixturePacketRx _ _ _ _ _ => true
  | .luskoTimeSend _ => true
  | .captureFrameTimeout _ _ => true
  | .fastIdleEntry _ _ _ => true
  | .fastIdleExit _ _ _ _ => true
  | .deepOffRequest _ _ => true
  | .deepWakeRequest _ _ => true
  | .squelchActivity _ _ _ => true
  | .laneWakeAligned _ _ => true
  | .deepWakeTimeout _ _ => true
  | .decodeJobStart _ _ _ _ _ => true
  | .decodeRowComplete _ _ _ => true
  | .decodePageFault _ _ => true
  | .decodeFaultResume _ _ _ => true
  | .decodePoolTimeout _ _ => true
  | .winGenOpen _ => true
  | .winGenCommit _ => true
  | .winGenAbandon _ => true
  | .windowDescriptorWrite _ _ _ _ _ => true
  | .coefOpen _ _ _ => true
  | .coefSeal _ _ _ => true
  | .coefWrite _ _ _ _ _ => true
  | .bgColorWrite _ _ _ => true
  | .safelightApply _ _ => true
  | .glyphCrcRefresh _ => true
  | .readyDrivenLatch _ _ _ bad => bad.all windowIndex
  | .forcedLatch _ _ bad => bad.all windowIndex
  | .scanoutStart _ _ late => late.all windowIndex
  | .signatureBlockSend _ _ _ _ => true
  | .prefetchStart _ _ _ _ => true
  | .underrunPixel _ _ _ _ _ _ => true
  | .fetchLevelChange _ _ _ _ _ => true
  | .headRasterStart _ _ => true
  | .headRasterStop _ _ => true
  | .hpdPresent _ _ _ => true
  | .hpdGone _ _ => true
  | .irqHpd _ _ _ => true
  | .linkTrainingAttempt _ _ => true
  | .linkTrainingDone _ _ _ => true
  | .linkRetry _ _ => true
  | .recPictureStart _ _ _ => true
  | .recRowComplete _ _ _ _ _ _ _ _ _ => true
  | .recPageFault _ _ => true
  | .recFaultResume _ _ _ => true
  | .bsRdWrite _ _ _ => true
  | .recRtpTransmit _ _ _ _ => true
  | .pairJoin _ => true
  | .pairLeave _ => true
  | .pairSwitchover _ => true
  | .pairActInRise _ => true
  | .pairActInLost _ => true
  | .sideBGoTimeout _ => true
  | .joinRetry _ => true
  | .joinEpoch _ => true
  | .joinMaxExpire _ => true
  | .pairSyncSend _ => true
  | .pairSyncRx _ _ _ _ => true
  | .manifestRx _ _ _ _ => true
  | .commandRx _ _ _ _ => true
  | .reqFwdRx _ _ _ _ _ => true
  | .fillReqRx _ _ _ _ _ _ => true
  | .fillDataRx _ _ _ _ _ _ => true
  | .surfDataRx _ _ _ _ _ _ _ => true
  | .signatureRx _ _ _ _ => true
  | .healthRx _ _ _ _ => true
  | .controlRx _ _ _ _ => true
  | .pairSkewTimeout _ => true
  | .fillTimeout _ _ => true
  | .fillRetentionExpire _ => true
  | .attributionDecide _ => true
  | .takeoverEpoch _ => true
  | .takeoverSwitch _ => true
  | .functionLevelReset _ => true
  | .pcieLinkDown _ => true
  | .d3hotEntry _ => true
  | .instCreate _ _ => true
  | .instChange _ _ => true
  | .instReset _ _ _ _ => true
  | .instFreeze _ _ => true
  | .instSave _ _ _ => true
  | .instRestore _ _ _ => true
  | .instThaw _ _ => true
  | .instDestroy _ _ => true
  | .instChangeEpoch _ _ => true
  | .instDrainTimeout _ _ => true
  | .resetDrainComplete _ _ => true
  | .freezeComplete _ _ => true
  | .saveComplete _ _ => true
  | .restoreComplete _ _ => true
  | .mmuMap _ _ => true
  | .mmuRevoke _ _ => true
  | .doorbellTailWrite _ _ _ _ => true
  | .doorbellPageWrite _ _ _ _ => true
  | .workOrderRead _ _ _ _ => true
  | .nop _ _ _ => true
  | .surfCreate _ _ _ => true
  | .surfDestroy _ _ _ => true
  | .surfCommit _ _ _ => true
  | .surfCommitBufferAcquire _ _ _ => true
  | .winBatch _ _ _ => true
  | .safeReq _ _ _ => true
  | .blazeSet _ _ _ => true
  | .copy _ _ _ => true
  | .badOp _ _ _ => true
  | .dmaBlockComplete _ _ _ _ _ => true
  | .priResponseRx _ _ _ _ => true
  | .priTimeout _ _ _ => true
  | .atsInvalidateRx _ _ _ len => decide (0 < len)
  | .cqHeadWrite _ _ _ => true
  | .evqRdWrite _ _ _ => true
  | .vectorHoldExpire _ _ _ => true
  | .vecMaskWrite _ _ _ => true
  | .touchScanComplete _ _ _ _ => true
  | .keyGroupEnd _ _ raws => raws.all (fun r => decide (r.1 < 128))
  | .touchRebase _ _ => true
  | .hapPlay _ _ => true
  | .hapticWaveformStart _ => true
  | .hapticWaveformEnd _ _ => true
  | .alarmSegmentEnd _ => true
  | .alarmRequestActivate _ => true
  | .usdoDownload _ _ _ _ _ _ _ => true
  | .usdoUpload _ _ _ _ => true
  | .udpRead _ _ => true
  | .udpWrite _ _ => true
  | .mbxRead _ _ => true
  | .mbxWrite _ _ => true
  | .objectApply _ _ _ => true
  | .objectStop _ _ _ => true
  | .windowBatchCommit _ _ => true
  | .sessionStageTimeout _ _ => true
  | .nmtStart _ _ => true
  | .nmtStop _ _ => true
  | .nmtResetCommunication _ _ => true
  | .nmtResetNode _ _ => true
  | .heartbeatSend _ _ => true
  | .tpdoTransmit _ _ _ => true
  | .busOffEntry _ _ => true
  | .busOffRecovery _ _ => true
  | .lssSwitchStateSelective _ _ _ _ _ _ => true
  | .lssConfigureNodeId _ _ _ => true
  | .lssConfigureBitTiming _ _ _ _ => true
  | .lssStoreConfiguration _ _ => true
  | .storeAll _ _ _ => true
  | .storeComplete _ => true
  | .restoreDefaults _ _ _ => true
  | .settingsLoad _ => true
  | .glyphBitmapRequest _ _ _ => true
  | .paletteEntriesRequest _ _ data => decide (data.length % 4 = 0)
  | .cellFillRequest _ _ => true
  | .alarmRequestWrite _ _ _ _ => true
  | .mpuRegionWrite _ _ _ _ => true
  | .evidenceScrub _ _ _ => true
  | .postedNoticeWindow _ => true
  | .debugAccess _ write _ n data => if write then !data.isEmpty else decide (0 < n)
  | .updBegin _ => true
  | .updAbort _ _ => true
  | .imageChunkRx _ _ data => !data.isEmpty
  | .imageHeaderComplete _ _ => true
  | .imagePayloadComplete _ _ _ _ => true
  | .updateIdleTimeout _ => true
  | .romBoot _ _ _ _ _ => true
  | .trialConfirm _ => true
  | .go _ => true
  | .goProving _ => true
  | .safeHold _ => true
  | .leaveSafeHold _ => true
  | .sleep _ _ => true
  | .reset _ _ => true
  | .safeHoldApply _ _ => true
  | .watchdogKick _ => true
  | .watchdogWarn _ => true
  | .watchdogExpire _ => true
  | .lockstepMismatch _ => true
  | .wakePin _ _ => true
  | .rtcAlarm _ => true
  | .vddAonRise _ => true
  | .aonPorRelease _ => true
  | .railPgRise _ _ => true
  | .railSettleDone _ => true
  | .railPgTimeout _ => true
  | .railPgLoss _ _ => true
  | .thermalTrip _ => true
  | .railRetry _ => true
  | .powerDownComplete _ => true
  | .resetPin _ => true
  | .bootComplete _ _ _ _ r => Tab.wf 0 r && r.all (fun p => decide (p.1 < 65536))
  | .rtcSet _ => true
  | .tokenRequest _ h u => decide (u < holderUnits h)
  | .tokenSlot _ => true
  | .engineClockGate _ h u => decide (u < holderUnits h)
  | .pmcSelWrite _ _ _ _ => true
  | .tallyStart _ => true
  | .tallyStop _ => true
  | .selftestRun _ _ _ => true
  | .healthReport _ _ _ => true
  | .injectorArm _ _ _ => true
  | .reorderRelease _ => true
  | .provLogPop _ => true
  | .marginScanStart _ => true
  | .marginScanAbort _ => true
  | .scanDwellEnd _ errs => errs.all laneCount
  | .recoveryNHigh _ => true
  | .vddAonRemoval _ => true
  | .usdoProtocolTimeout _ _ => true
  | .selftestStarved _ _ => true
  | .pllMonitorFail _ => true
  | .uncorrectableError _ _ => true
  | .audioFrame _ ins => decide (ins.length ≤ 32)
  | .shadowRestoreComplete _ => true
  | .railOffHoldEnd _ => true
  | .junctionCooled _ => true

end Sys2Proof
end

