-- ==== Sys2Proof/Tests/Slice0.lean ====
section
/-! SUPPORT.  Tests of the model: a concrete state and operands for the hypotheses of each
obligation, an ill-formed command for every check of `Instr.wf`, and single steps whose
expected results were read or worked out by hand from the section of `spec/` each one names. -/

namespace Sys2Proof.Tests

set_option Elab.async false

open Sys2Proof Sys2Proof.Machine Sys2Proof.Safety

/-- Booted, in CONFIGURE. -/
def up : State := { mode := { phase := .up } }

/-- Booted, in RUN. -/
def running : State := { mode := { phase := .up, mode := .run } }

/-- Booted, in PROVING. -/
def proving : State := { mode := { phase := .up, mode := .proving } }

/-- One head, number 0. -/
def headState (x : Head) : State := { up with heads := [(0, x)] }

/-- One context, number 0. -/
def ctxState (x : Ctx) : State := { running with ctxs := [(0, x)] }

/-! ## Witnesses: states and operands that meet the hypotheses of each statement, clause by clause -/

/-- A servo in a state, with domain 1 followed, and domain 0 enabled or not and stable for two seconds. -/
def servoState (v : ServoState) (en : Nat) : State :=
  { running with
    time := { servo := v, domain := 1, offset := 3000000000, domA := { stableSince := some 1000000000 }, slewRate := 1 },
    regs := [(0x30048, 2), (0x40100, en)] }

theorem test_witness_servo :
    (servoState .hold 0).time.servo = .hold ∧ State.reset.time.servo ≠ .hold ∧
    ((servoState .locked 0).at 0).time.slewRate ≠ 0 ∧
      slewResidual ((servoState .locked 0).at 0).time ((servoState .locked 0).at 0).time.lct = 0 ∧
    (servoState .locked 0).time.servo = .locked ∧ (servoState .locked 0).time.domain = 1 ∧
      (servoState .locked 0).domEn (otherDom 1) = false ∧
    (servoState .locked 1).domEn 0 = true ∧ (servoState .locked 1).reg Reg.timeRevertHold ≠ 0 ∧
      (servoState .locked 1).time.domA.stableSince = some 1000000000 ∧
      1000000000 + (servoState .locked 1).reg Reg.timeRevertHold * 1000000000 ≤ ((servoState .locked 1).at 3000000000).time.lct ∧
      (servoState .locked 1).mode.mode ≠ .configure := by decide +kernel

theorem test_witness_adjustment :
    (servoState .hold 0).mode.mode ≠ .configure ∧ State.reset.mode.mode = .configure ∧
    (sext 64 ((0 : BitVec 32).toNat * 2 ^ 32 + (servoState .hold 0).reg Reg.timeAdjLo)).natAbs ≤ (servoState .hold 0).slewCap ∧
    (1 : BitVec 32).getLsbD 0 = true := by decide +kernel

/-- Domain 0 enabled for domain number 0 on port 0, with a Sync taken and a Delay_Req in flight. -/
def ptpState : State :=
  { up with time := { domA := { lastSync := some (0, 10, 0), delayReq := some (7, 20) } }, regs := [(0x40100, 1 + 2 ^ 24)] }

theorem test_witness_ptp :
    ptpState.domOf 0 0 = some 0 ∧ (TimeUnit.dom ptpState.time 0).port = 0 ∧
    (TimeUnit.dom ptpState.time 0).delayReq = some (7, 20) ∧ (TimeUnit.dom ptpState.time 0).lastSync = some (0, 10, 0) ∧
    (ptpState.domOf 0 (BitVec.ofNat 8 (bits (ptpState.reg (Reg.ptpDomCfg 0)) 15 8))).isSome = true ∧
    (Tab.get {} ptpState.time.txq 0 : TxQueue).entries.length < 64 := by decide +kernel

/-- Output 7 in mode 3, output 0 in mode 0 and due, PPS_OUT on, capture 4 on for both edges. -/
def pulseState : State :=
  { up with
    time := { tto := [(0, { armed := true })], offset := 1000000000 },
    regs := [(0x302E0, 3), (0x30380, 3), (0x303C0, 1)] }

theorem test_witness_pulses :
    pulseState.ttoMode 7 = 3 ∧ (0x80000000 : BitVec 32).getLsbD 31 = true ∧ pulseState.ttoMode 0 = 0 ∧
    (pulseState.tto 0).armed = true ∧ (pulseState.tto 0).level = false ∧ (pulseState.tto 0).next ≤ (pulseState.at 0).now ∧
    (nativeAt pulseState.time ((pulseState.at 1000000000).time.lct - 1)).toNat / 1000000000 <
      (pulseState.at 1000000000).now / 1000000000 ∧ bit (pulseState.reg Reg.ppsOutCtrl) 0 = true ∧
    bit (pulseState.reg Reg.ppsOutCtrl) 1 = false ∧ bits (pulseState.reg (Reg.tciCtrl 4)) 1 0 = 3 ∧
    (pulseState.tci 4).lastEdge = none ∧ (pulseState.tci 4).queue.length < 16 := by decide +kernel

/-- Head 0 in RUN, its generation switch, its SAFE-HOLD and its next shot due, with an eligible frame of channel 0 and window 0 showing it. -/
def showState : State :=
  { running with
    heads := [(0, { state := .run, switchDue := true, safeHoldDue := some true, shotDue := true, cur := { frameNo := 1 },
                    cfg := { period := 1000000, vMax := 10 } })],
    sheets := [(31, { created := true, switchDue := true })],
    chans := [(0, { ctx := some 0 })],
    ctxs := [(0, { bufs := [(0, { inUse := true, eligible := some 0, markPending := true })] })],
    win := { genA := [(0, 1)] } }

/-- Head 15 ready-driven and in RUN, with its ready instants; and the same with an eligible frame that its window 0 shows. -/
def readyState (r : List Nat) : State :=
  { running with heads := [(15, { state := .run, readyAt := r, cfg := { mode := 1, lead := 2, vMax := 10 } })] }

def readyFrame : State :=
  { readyState [] with
    chans := [(0, { ctx := some 0 })],
    ctxs := [(0, { bufs := [(0, { inUse := true, eligible := some 0, markPending := true })] })],
    win := { genA := [(0, 1 + 15 * 2 ^ 8)] } }

theorem test_witness_release :
    (showState.head 0).state = .run ∧ (showState.head 0).cfg.ready = false ∧ (showState.sheet 31).created = true ∧
    (readyFrame.head 15).cfg.ready = true ∧ Source.ch 0 ∈ (readyFrame.at 0).consumerSources (.head 15) ∧
      (readyFrame.at 0).dueFrames (.head 15) (.ch 0) (readyFrame.at 0).now ≠ [] ∧
    showState.latestOf (showState.dueFrames (.head 0) (.ch 0) 5000000) = some ⟨.ctx 0, 0⟩ ∧
    (showState.head 0).switchDue = true ∧ showState.win.acceptedAt ≤ (showState.at 0).headEpoch 0 ∧
    (showState.sheet 31).switchDue = true ∧ showState.win.acceptedAt ≤ (showState.at 0).sheetEpoch 31 ∧
    (showState.head 0).safeHoldDue = some true ∧ showState.mode.shAt ≤ (showState.at 0).headEpoch 0 ∧
    (showState.frame ⟨.ctx 0, 0⟩).inUse = true := by decide +kernel

theorem test_witness_prefetch :
    (Desc.en (Tab.get 0 (showState.win.gen (showState.head 0).gen) 0) = true ∧
      Desc.isTile (Tab.get 0 (showState.win.gen (showState.head 0).gen) 0) = false ∧
      Desc.tgt (Tab.get 0 (showState.win.gen (showState.head 0).gen) 0) = 0) ∧
    (showState.at 9999999).prefetchTime 0 = true ∧ (showState.head 0).specFaults.contains 0 = false ∧
    (showState.at 9999999).candidate 0 (Desc.source (Tab.get 0 (showState.win.gen (showState.head 0).gen) 0)) =
      some ⟨.ctx 0, 0⟩ := by decide +kernel

theorem test_witness_latch :
    (showState.head 0).cfg.ready = false ∧
    epochAtOrBefore (showState.head 0).cfg.t0 (showState.head 0).cfg.period (showState.at 0).now = some 0 ∧
    (showState.head 0).lastEpoch ≠ some 0 ∧ (showState.head 0).admittedAt ≤ 0 ∧
    ((readyState [0]).head 15).state = .run ∧ ((readyState [0]).head 15).cfg.ready = true ∧
      ((readyState [0]).head 15).readyAt = [0] ∧ 0 ≤ ((readyState [0]).at 0).now ∧
      8 + ((readyState [0]).head 15).cfg.lead ≤ ((readyState [0]).head 15).cfg.vBlankMax ∧
    ((readyState [9]).at 0).isReady 15 = false ∧ ((readyState []).head 15).cfg.lead ≤ ((readyState []).head 15).cfg.vBlankMax ∧
    (showState.head 0).shotDue = true ∧ (showState.head 0).blank = false ∧ (showState.head 0).cur ≠ {} := by decide +kernel

/-- Head 0 wired, with a sink and its link training. -/
def linkState (k : Link) : State :=
  { running with
    board := { wiring := [0x80] }, heads := [(0, { link := k })],
    mode := { phase := .up, mode := .run, tokHeld := [(.training, 0, 1)] }, time := { offset := 1000000000 } }

theorem test_witness_link :
    (linkState {}).wired 0 = true ∧ ((linkState {}).head 0).link.hpd = false ∧
    ((linkState { hpd := true, trained := true }).head 0).link.hpd = true ∧
      ((linkState { hpd := true, trained := true }).head 0).link.trained = true ∧
    (linkState { tries := [(0, 1)] }).hasToken .training 0 = true ∧
      ((linkState { tries := [(0, 1)] }).head 0).link.training = false ∧ ((linkState { tries := [(0, 1)] }).head 0).link.tries ≠ [] ∧
    ((linkState { training := true, tries := [(3, 4)] }).head 0).link.training = true ∧
      ((linkState { training := true, tries := [(3, 4)] }).head 0).link.tries = [(3, 4)] ∧
    ((linkState { hpd := true, down := true }).head 0).link.down = true ∧
      ((linkState { hpd := true, down := true }).head 0).link.training = false ∧
      ((linkState { hpd := true, down := true }).head 0).link.askedAt + 1000000000 ≤
        ((linkState { hpd := true, down := true }).at 0).now := by decide +kernel

theorem test_witness_raster :
    ((headState { state := .starting, cfg := { period := 1000000 } }).head 0).state = .starting ∧
    (((headState { state := .starting, cfg := { period := 1000000 } }).head 0).cfg.ready = false ∧
      epochAtOrAfter 0 1000000 (0 + 2000000) ≤ ((headState { state := .starting }).at 2000000).now) ∧
    (((headState { state := .starting, cfg := { mode := 1 } }).head 0).cfg.ready = true ∧
      ceilDiv (0 + 2000000) 1000 * 1000 ≤ ((headState { state := .starting }).at 2000000).now) ∧
    ((headState { state := .run, nextCfg := some {} }).head 0).nextCfg = some {} ∧
    ((headState { state := .run }).head 0).admitted = false ∧ ((headState { state := .run }).head 0).nextCfg = none ∧
    pipeWins ((headState {}).head 0).cur 7 = [] ∧ ((headState {}).head 0).shotDue = false ∧
    ((headState {}).head 0).state ≠ .run := by decide +kernel

/-- A window table and head 0's coefficient bank 3 in a state, with four taps of its first phase written. -/
def tableState (w : WinTable) (b : BankState) (v : BitVec 16) : State :=
  { running with
    win := w,
    heads := [(0, { banks := { state := [(3, b)], mem := (List.range 4).map (fun i => (0x3000 + 2 * i, some v)) } })] }

theorem test_witness_window_table :
    ((tableState {} .open_ 0).win.ready = true ∧ (tableState {} .open_ 0).salvoGen = false) ∧
    (tableState { open_ := true } .open_ 0).win.open_ = true ∧
    ((tableState { copying := true } .open_ 0).win.copying = true ∧ (tableState { copying := true } .open_ 0).win.queued = []) ∧
    ((tableState { restoring := true } .open_ 0).win.restoring = true ∧ (tableState { restoring := true } .open_ 0).win.queued = []) ∧
    (tableState {} .valid 0).openRefused (.head 0) 3 = false ∧
    Tab.get .valid ((tableState {} .open_ 0).banksOf (.head 0)).state 3 = .open_ ∧
    ¬ (0xA00 ≤ 4 * 639 ∨ (0x400 ≤ 4 * 639 ∧ 4 * 639 < 0x800 ∧ 12 ≤ 4 * 639 % 16)) ∧
    Tab.get .valid ((tableState {} .open_ 0).banksOf (.head 0)).state 3 ≠ .valid ∧
    firstBadPhase ((tableState {} .open_ 600).banksOf (.head 0)) 3 = some (0, 0) := by decide +kernel

/-- Bank 0 written whole, each phase with two taps of 256. -/
def wholeBank : Banks :=
  { state := [(0, .open_)],
    mem := (List.range' 0 1280).map (fun i => (2 * i, some (if i % (if i < 1024 then 8 else 4) < 2 then 256 else 0))) }

theorem get_range (f : Nat → BitVec 16) (n a k : Nat) (h : a ≤ k) (g : k < a + n) :
    Tab.get none ((List.range' a n).map (fun i => (2 * i, some (f i)))) (2 * k) = some (f k) := by
  induction n generalizing a with
  | zero => omega
  | succ n ih =>
    rw [List.range'_succ, List.map_cons]
    by_cases e : a = k
    · subst e
      simp [Tab.get]
    · have : ¬ 2 * a = 2 * k := by omega
      simp only [Tab.get]
      rw [if_neg (by simpa using this)]
      exact ih _ (by omega) (by omega)

theorem wholeBank_coef (t p i : Nat) (ht : t < 3) (hp : p < 64) (hi : i < tapCount t) :
    bankCoef wholeBank 0 t p i = if i < 2 then 256 else 0 := by
  obtain ⟨k, hk, h1, h2⟩ : ∃ k, 0x1000 * 0 + coefOffset t p i = 2 * k ∧ k < 1280 ∧ k % (if k < 1024 then 8 else 4) = i := by
    match t, ht with
    | 0, _ => exact ⟨8 * p + i, by simp [coefOffset]; omega, by simp [tapCount] at hi; omega, by simp [tapCount] at hi; split <;> omega⟩
    | 1, _ => exact ⟨512 + 8 * p + i, by simp [coefOffset]; omega, by simp [tapCount] at hi; omega, by simp [tapCount] at hi; split <;> omega⟩
    | 2, _ => exact ⟨1024 + 4 * p + i, by simp [coefOffset]; omega, by simp [tapCount] at hi; omega, by simp [tapCount] at hi; split <;> omega⟩
  rw [bankCoef, hk, wholeBank, get_range _ _ _ _ (Nat.zero_le _) (by omega)]
  simp only [h2]
  split <;> rfl

theorem test_witness_coef_seal : firstBadPhase wholeBank 0 = none ∧ Tab.get .valid wholeBank.state 0 ≠ .valid := by
  refine ⟨?_, by decide⟩
  rw [firstBadPhase, List.find?_eq_none]
  intro q hq
  simp only [List.mem_flatMap, List.mem_map, List.mem_range] at hq
  obtain ⟨t, ht, p, hp, rfl⟩ := hq
  have : phaseTaps wholeBank 0 t p = (List.range (tapCount t)).map (fun i => if i < 2 then 256 else 0) := by
    rw [phaseTaps]
    exact List.map_congr_left (fun i hi => wholeBank_coef t p i ht hp (List.mem_range.mp hi))
  rw [this]
  match t, ht with
  | 0, _ => decide
  | 1, _ => decide
  | 2, _ => decide

/-- A network context in a state: path 0 up, an old sender report. -/
def netCtx (v : CtxState) : Ctx :=
  { decl := some (.net {}), state := v, pathA := { up := true }, sr := some (0, 0, 0) }

/-- The same at 11 s of device time. -/
def netState (v : CtxState) : State :=
  { running with
    time := { offset := 11000000000 }, ctxs := [(159, netCtx v)],
    chans := [(127, { state := .flowing, lastEligible := some 0 })] }

theorem test_witness_ingest :
    (netState .decode).netDecl 159 = some {} ∧ (Ctx.path ((netState .decode).ctx 159) 0).up = true ∧
    (Ctx.path ((netState .decode).ctx 159) 0).lastAccept + (200 : Nat) * 1000000 ≤ ((netState .decode).at 0).now ∧
    ((netState .fault).ctx 159).state = .fault ∧ declRetry ((netState .fault).ctx 159).decl ≠ 0 ∧
      ((netState .fault).ctx 159).faultAt + declRetry ((netState .fault).ctx 159).decl * 1000000 ≤ ((netState .fault).at 0).now ∧
    ((netState .idle).chan 127).state = .flowing ∧ ((netState .idle).chan 127).lastEligible = some 0 ∧
      0 + ((netState .idle).chan 127).silenceMs * 1000000 ≤ ((netState .idle).at 0).now ∧
    ((netState .decode).ctx 159).sr = some (0, 0, 0) ∧ 0 + 10 * 1000000000 < ((netState .decode).at 0).now := by decide +kernel

/-- An access unit with one slice. -/
def sliceUnit : AccessUnit :=
  { arrv := 0, capt := 0, srcTrace := false, partial_ := false, nals := [.slice true], bytes := [], first := 0, present := [],
    traceFixed := none }

/-- What the stream says of a plain picture. -/
def plainPic : PicStart :=
  { irap := true, idr := true, frameNum := 0, maxFrameNum := 16, poc := 0, cleanIrap := true, shortRef := true, longRef := false, noOutput := false,
    skipped := false, width := 16, height := 16, tileColumns := 1, wavefront := false, missingRefs := 0, gapAllowed := false,
    refs := [], ahead := 0, primaries := 1, transfer := 1, matrix := 1, fullRange := false }

/-- Context 0 in DECODE with part 0 of a picture in a state, on core 15. -/
def decodeState (v : PartState) : State :=
  { ctxState { decl := some (.net {}), state := .decode, jobs := [sliceUnit],
               picture := some { au := sliceUnit, buf := 0, start := plainPic, parts := [{ part := 0, core := 15, row := 0, state := v, vpn := 1 }] } } with
    cores := [(15, { state := .run, job := some (0, 0) })], time := { offset := 1000000 } }

/-- The same with the context's channel granted to instance 31, which has no page mapped. -/
def hostedDecode : State :=
  { decodeState .page with
    insts := [(31, { grants := { chGrant := 1 } })], ctxs := [(0, { (decodeState .page).ctx 0 with ch := some 0 })] }

theorem test_witness_decode :
    ((decodeState .running).ctx 0).state = .decode ∧ ((decodeState .running).ctx 0).decl = some (.net {}) ∧
    ((decodeState .running).ctx 0).picture.isSome = true ∧
    ((decodeState .running).core 15).job = some (0, 0) ∧ ((decodeState .running).core 15).state = .run ∧
    (((decodeState .running).ctx 0).picture.map (fun p => p.parts.any (fun q => q.part == 0 &&
      wppReady (Ctx.net ((decodeState .running).ctx 0)) p q))) = some true ∧
    (((decodeState .page).ctx 0).picture.bind (fun p => p.parts.find? (fun q => q.part == 0))) =
      some { part := 0, core := 15, row := 0, state := .page, vpn := 1 } ∧ (decodeState .page).vpnMapped ((decodeState .page).poolHost 0) 1 = true ∧
    hostedDecode.vpnMapped (hostedDecode.poolHost 0) 1 = false ∧ ((hostedDecode.ctx 0).picture.map (fun p => p.parts.map (fun q => q.vpn))) = some [1] ∧
    ((ctxState { state := .decode, jobs := [sliceUnit] }).ctx 0).picture = none ∧
      ((ctxState { state := .decode, jobs := [sliceUnit] }).ctx 0).jobs = [sliceUnit] ∧ sliceUnit.hasSlice = true ∧
      freeBufs ((ctxState { state := .decode, jobs := [sliceUnit] }).ctx 0) <
        ((ctxState { state := .decode, jobs := [sliceUnit] }).ctx 0).poolNeed ∧
      ((ctxState { state := .decode, jobs := [sliceUnit] }).at 0).dueOf 0 sliceUnit ≤
        ((ctxState { state := .decode, jobs := [sliceUnit] }).at 0).now := by decide +kernel

/-- An IDENT of a capture bridge on lane 0. -/
def bridge : Ident :=
  { kind := 1, lane := 0, bondW := 1, rates := 7, channels := 1, version := 1, serial := 5, txT := 0, echo := 0, turn := 0 }

/-- Lane 31, a bond of its own, in a state, three milliseconds on. -/
def laneState (v : LaneState) (late : Nat) : State :=
  { running with
    time := { offset := BitVec.ofNat 64 late },
    lanes := [(31, { state := v, first := 31, latency := some 10, ident := some bridge, identNew := true })],
    regs := [(0x60000, 0)] }

theorem test_witness_lanes :
    ((laneState .train 0).lane 31).state = .train ∧
    ((laneState .train 0).bondLanes 31).all ((laneState .train 0).at 0).laneReady = true ∧ (laneState .train 0).scans 31 = false ∧
    31 ∈ (laneState .train 0).bondLanes 31 ∧
    ((laneState .train 2000000).lane 31).trainAt + 2000000 ≤ ((laneState .train 2000000).at 0).now ∧
    ((laneState .train 0).lane 31).state ≠ .up ∧ ((laneState .up 0).lane 31).slipEvt = none ∧
      ((laneState .up 0).lane 31).state = .up ∧ 16 ≤ 15 + 1 := by decide +kernel

/-- Lane 31 UP with both directions in fast idle. -/
def idleLane : State := { running with lanes := [(31, { state := .up, first := 31, txEidle := true, rxEidle := true })] }

theorem test_witness_lanes_idle :
    31 ∈ (laneState .up 0).bondLanes 31 ∧
    (31 ∈ idleLane.bondLanes 31 ∧ (idleLane.lane 31).state = .up ∧ (idleLane.lane 31).rxEidle = true ∧
      (idleLane.lane (idleLane.lane 31).first).txEidle = true ∧ 31 ∈ idleLane.bondLanes (idleLane.lane 31).first) ∧
    ((laneState .up 0).lane ((laneState .up 0).lane 31).first).state = .up ∧
      (laneState .up 0).refusesDeep ((laneState .up 0).lane 31).first = false ∧
      ((laneState .up 0).lane ((laneState .up 0).lane 31).first).deepAsked = false ∧
    ((laneState .deep 0).lane 31).state = .deep ∧
    (∀ k ∈ (laneState .wake 0).bondLanes 31, ((laneState .wake 0).lane k).state = .wake ∧
      ((laneState .wake 0).at 0).now ≤ ((laneState .wake 0).lane k).wakeAt + 200000) ∧
    ((laneState .wake 200000).lane 31).wakeAt + 200000 ≤ ((laneState .wake 200000).at 0).now ∧
    ((laneState .up 0).lane 31).first = 31 ∧ ((laneState .up 0).lane 31).role = .capture ∧
      ((laneState .up 0).lane 31).ident = some bridge ∧ bridge.kind = 1 ∧ ((laneState .up 0).lane 31).txEidle = false := by decide +kernel

/-- A capture declaration at 60 Hz, a FRAME_START that matches it, and the frame it opens. -/
def capture : LuskoDecl := { num := 60, den := 1 }
def captureStart : FrameStart :=
  { frame := 0xFFFF, format := 0, width := 0, height := 0, capt := 0, rateNum := 60, rateDen := 1, trace := false, hold := false }
def captureFrame : OpenFrame := { frame := 0xFFFF, buf := 0, at_ := 0, start := captureStart, srcTrace := false }

/-- Context 0 a capture context, with a frame open or none, at 40 ms; a cruise sweep every 100 ms is due at 100 ms. -/
def captureState (o : Option OpenFrame) : State :=
  { ctxState { decl := some (.lusko capture), state := .decode, open_ := o, nBufs := 2 } with
    time := { offset := 40000000 }, regs := [(Reg.cruisePeriod, 100)] }

theorem test_witness_capture :
    (captureState (some captureFrame)).luskoDecl 0 = some capture ∧ ((captureState (some captureFrame)).ctx 0).open_ = some captureFrame ∧
    captureFrame.at_ * capture.num + 2 * capture.den * 1000000000 ≤ ((captureState (some captureFrame)).at 0).now * capture.num ∧
    (captureState none).cruiseMs ≠ 0 ∧
      (captureState none).cruiseLast < ((captureState none).at 60000000).now / ((captureState none).cruiseMs * 1000000) *
        ((captureState none).cruiseMs * 1000000) := by
  decide +kernel

/-- Booted in RUN with lane 31 UP; the pair's bond is on it. -/
def pairState (p : PairUnit) : State :=
  { running with
    pair := p, bonds := [(31, { en := true, role := .pair })],
    lanes := [(31, { state := .up, first := 31, role := .pair })], time := { offset := 20000000000 } }

theorem test_witness_packets :
    (pairState {}).mode.mode ≠ .proving ∧ ((pairState {}).lane 31).state = .up ∧ (pairState {}).pairLane = some 31 ∧
    ((pairState {}).lane 31).rxEidle = false ∧ ((pairState {}).lane 31).txEidle = false ∧ idleLane.mode.mode ≠ .proving ∧
    (pairState {}).mode.phase = .up ∧ (pairState {}).mode.mode ≠ .standby := by decide +kernel

/-- Port 3 enabled by an interface address. -/
def portState : State := { running with udpPorts := 0xF }

theorem test_witness_port : portState.mode.phase = .up ∧ portState.portEnabled 3 = true := by decide +kernel

theorem test_witness_lusko :
    ((laneState .train 0).lane 31).state = .train ∧ ((laneState .train 0).lane 31).serialUp = none ∧
    ({ laneState .up 0 with lanes := [(31, { state := .up, first := 31, role := .pair })] } : State).refusesDeep 31 = true ∧
    ((laneState .up 0).lane 31).deepAsked = false ∧
    (captureState none).luskoDecl 0 = some capture ∧ startMatches capture captureStart = true ∧
      ((captureState none).ctx 0).open_ = none ∧ ((captureState none).ctx 0).state = .decode ∧
      ((captureState none).overrate 0 60 1).2 = false ∧
      freeBuf ((captureState none).ctx 0).bufs ((captureState none).ctx 0).nBufs 0 = some 0 ∧
    ((captureState (some captureFrame)).ctx 0).open_ = some captureFrame ∧ captureFrame.frame = 0xFFFF ∧
    ((captureState none).ctx 0).noBuffer ≠ some 0 := by decide +kernel

theorem test_witness_pair_messages :
    (pairState { en := true, state := .paired }).pairActive = true ∧ (pairState { en := true, state := .paired }).pairSends = true ∧
    (pairState { en := true, state := .paired }).pair.retained = [] ∧ (pairState {}).pairFollows = false ∧
    (0 : BitVec 32).getLsbD 4 = false ∧
    (pairState { en := true, shadow := true, joined := true, state := .paired }).pairFollows = true := by decide +kernel

/-- Head 0's signature block at an epoch. -/
def block : SigBlock :=
  { head := 0, miss := false, gap := false, safeHold := false, lines := 1, key := 0, epoch := 0, frameCrc := 0, sigs := [] }

/-- A shadow about to ask again to join, its partner a W128 that drives PAIR_ACT_OUT. -/
def joining : State :=
  { pairState { en := true, shadow := true, state := .unpaired, retryAt := some 1, actIn := true } with
    lanes := [(31, { state := .up, first := 31, role := .pair, ident := some { bridge with kind := 2 } })] }

theorem test_witness_pair_roles :
    (pairState { en := true, state := .unpaired, joinEpoch := some 20000000000 }).pair.joinEpoch = some 20000000000 ∧
      20000000000 ≤ ((pairState {}).at 0).now ∧
      (pairState { en := true, state := .unpaired, joinEpoch := some 20000000000 }).pairActive = true ∧
      (pairState { en := true, state := .unpaired, joinEpoch := some 20000000000 }).pair.joined = false ∧
      (pairState { en := true, state := .unpaired, joinEpoch := some 20000000000 }).pairUp = true ∧
    (pairState { shadow := true, state := .unpaired, retryAt := some 1 }).pair.retryAt = some 1 ∧
      (pairState { shadow := true, state := .unpaired, retryAt := some 1 }).pair.shadow = true ∧
      (joining.pair.retryAt = some 1 ∧ 1 ≤ (joining.at 0).now ∧ joining.pair.state = .unpaired ∧ joining.pair.shadow = true ∧
        joining.pair.en = true ∧ joining.pair.actOut = false ∧ joining.pair.actIn = true ∧ joining.pairUp = true ∧
        joining.partnerW128 = true) ∧
    (pairState { state := .joining }).pair.joinAt + (pairState { state := .joining }).pair.joinMax * 1000000 ≤
      ((pairState { state := .joining }).at 0).now ∧
    (pairState { takeover := some (5, false, 9) }).pair.takeover = some (5, false, 9) ∧ 9 ≤ ((pairState {}).at 0).now ∧
    (pairState { takeover := some (5, true, 9) }).pair.takeover = some (5, true, 9) ∧
    (pairState { en := true, shadow := true, state := .paired }).pair.takeover = none ∧
      (pairState { en := true, shadow := true, state := .paired }).pair.state = .paired ∧
      (pairState { en := true, shadow := true, state := .paired }).mode.mode ≠ .proving ∧
    (pairState { en := true }).pair.actOut = false ∧ (pairState { en := true }).mode.sideBWait = none := by decide +kernel

/-- Side B waiting for PAIR_ACT_IN after a GO at 1 s. -/
def sideB : State :=
  { pairState {} with mode := { phase := .up, mode := .run, sideBWait := some 1000000000 } }

theorem test_witness_side_b :
    sideB.mode.sideBWait.isSome = true ∧ sideB.pair.actOut = false ∧ quietQueue sideB ∧ sideB.mode.sideBWait = some 1000000000 ∧
    1000000000 + 1000000000 ≤ (sideB.at 0).now ∧ sideB.pair.actIn = false := by
  unfold quietQueue
  decide +kernel

/-- The pair in lock step, with a block of each device for head 0, a divergence to decide and skew beyond its limit since 1 s. -/
def comparing : State :=
  pairState { state := .paired, armed := 1, ownBlocks := [block], partnerBlocks := [block], skewBad := some 1000000000,
              pendingDiv := some { d := 0, head := 0, result := .mismatch, line := 0, keyOwn := 0, keyPartner := 0, lag := 0,
                                   excusedMore := none } }

theorem test_witness_comparison :
    comparing.pairLane = some 31 ∧ (comparing.lane 31).state = .up ∧ comparing.pair.skewBad = some 1000000000 ∧
    1000000000 + 100000000 ≤ (comparing.at 0).now ∧ comparing.pair.skewSaid = false ∧
    comparing.pair.ownBlocks = [block] ∧ block.epoch + comparing.pair.cmpDelay * 1000 ≤ (comparing.at 0).now ∧
    comparing.pair.armed.getLsbD 0 = true ∧ comparing.pair.state = .paired ∧ comparing.partnerOf block = some block ∧
    (comparing.pair.pendingDiv.map (fun v => decide (v.d + 100000000 ≤ (comparing.at 0).now))) = some true := by decide +kernel

/-- A manifest entry of context 159, and a shadow that waits for its fill. -/
def entry : Manifest :=
  { kind := 0, partial_ := false, srcTrace := false, traceOk := false, hold := false, index := 159, mseq := 1, arrv := 0, capt := 0,
    first := 0, count := 1, present := [], groups := [], digest := 0, op := 0, code := 0 }

def filling : State :=
  { pairState { en := true, shadow := true, joined := true, state := .paired, fills := [{ entry := entry, deadline := 1 }] } with
    ctxs := [(159, netCtx .decode)] }

theorem test_witness_fill :
    filling.pair.fills = [{ entry := entry, deadline := 1 }] ∧ entry.kind = 0 ∧ entry.index = 159 ∧
    filling.netDecl 159 = some {} ∧ 1 ≤ (filling.at 0).now ∧ filling.pairFollows = true := by decide +kernel

/-- A recorded picture of one part, to start, saved or waiting for a page. -/
def recPic (waiting saved page : List Nat) : RecPic :=
  { shot := {}, seq := 0, missed := false, idr := true, ltr := false, underrun := false, input := some 0, started := true, due := 0,
    recon := 0, bp := 0, qp := 30, rows := [], used := [], exhausted := [], notUpdated := [], waiting := waiting, saved := saved,
    waitPage := page }

/-- A coded unit of one NAL unit of a hundred bytes, an IDR picture. -/
def recUnit : RecUnit :=
  { idr := true, poc := 0, refs := [], slices := 1, light := 0, bytes := [0, 0, 0, 1] ++ List.replicate 100 0x42 }

/-- Recording 15 with a picture, on core 3; the core idle or at work. -/
def recState (p : RecPic) (job : Option (Nat × Nat)) (st : Nat) : State :=
  { running with
    recs := [(15, { pics := [p], cores := [(0, 3)], bsWr := 1000, rtpQueue := [recUnit] })],
    recCores := [(3, { state := st, job := job })],
    mode := { phase := .up, mode := .run, tokHeld := [(.recorder, 3, 1)] } }

theorem test_witness_recorder :
    ((recState (recPic [0] [] []) none 0).recording 15).pics = [recPic [0] [] []] ∧
      (recState (recPic [0] [] []) none 0).recCoreOf 15 0 = some 3 ∧ ((recState (recPic [0] [] []) none 0).recCore 3).state ≠ 3 ∧
      ((recState (recPic [0] [] []) none 0).recCore 3).job = none ∧
      ((recPic [0] [] []).waiting ++ (recPic [0] [] []).saved).contains 0 = true ∧
      (recState (recPic [0] [] []) none 0).recEarlier 3 15 (recPic [0] [] []).due = false ∧ (recState (recPic [0] [] []) none 0).hasToken .recorder 3 = true ∧
    ((recState (recPic [] [] []) (some (15, 0)) 1).recCore 3).job = some (15, 0) ∧
      ((recState (recPic [] [] []) (some (15, 0)) 1).recCore 3).state = 1 ∧
    ((recPic [] [] [0]).waitPage.contains 0 = true ∧ (recState (recPic [] [] [0]) none 0).recCoreOf 15 0 = some 3 ∧
      (recState (recPic [] [] [0]) none 0).vpnMapped ((recState (recPic [] [] [0]) none 0).recHost 15) 0 = true) ∧
    ((recState (recPic [] [] []) none 0).recording 15).bsWr.toNat <
        (1 : BitVec 32).toNat * 2 ^ 32 + (recState (recPic [] [] []) none 0).reg (Reg.recBsRdLo 15) ∧
    ((recState (recPic [] [] []) none 0).recording 15).bsRd.toNat ≤
        (0 : BitVec 32).toNat * 2 ^ 32 + (recState (recPic [] [] []) none 0).reg (Reg.recBsRdLo 15) ∧
      (0 : BitVec 32).toNat * 2 ^ 32 + (recState (recPic [] [] []) none 0).reg (Reg.recBsRdLo 15) ≤
        ((recState (recPic [] [] []) none 0).recording 15).bsWr.toNat ∧
    ((recState (recPic [] [] []) none 0).recording 15).rtpQueue = [recUnit] ∧
      ((recState (recPic [] [] []) none 0).recording 15).rtpAt ≤ ((recState (recPic [] [] []) none 0).at 0).now ∧
      (unitPayloads ((recState (recPic [] [] []) none 0).recording 15).cfg.mtu recUnit).length = 1 ∧
      ((unitPayloads ((recState (recPic [] [] []) none 0).recording 15).cfg.mtu recUnit).map List.length).sum = 100 ∧
      (recState (recPic [] [] []) none 0).mode.isoCore.getLsbD (22 + 0) = false ∧
      (recState (recPic [] [] []) none 0).mode.mode ≠ .shadow ∧ ({ mode := { phase := .up, mode := .shadow } } : State).mode.mode = .shadow := by decide +kernel

/-- A sheet frame in composition on engine 1, and sheet 31 at its epoch. -/
def frameAtWork (page : Bool) : Composing := { epoch := 0, seq := 0, buf := 0, engine := 1, todo := [(0, 0, none)], waitPage := page }

def sheetState (page : Bool) : State :=
  { running with
    sheets := [(31, { created := true, cfg := { period := 1000000 }, composing := [frameAtWork page] })],
    engines := [(1, { state := 1, sheet := some 31 })] }

theorem test_witness_sheets :
    epochAtOrBefore ((sheetState false).sheet 31).cfg.t0 ((sheetState false).sheet 31).cfg.period ((sheetState false).at 0).now =
      some 0 ∧ ((sheetState false).sheet 31).created = true ∧ ((sheetState false).sheet 31).stopped = false ∧
      ((sheetState false).sheet 31).lastEpoch ≠ some 0 ∧ ((sheetState false).sheet 31).switchDue = false ∧
    freeBuf (State.reset.sheet 0).bufs 0 0 = none ∧
    ((sheetState false).engine 1).state = 1 ∧ ((sheetState false).engine 1).sheet = some 31 ∧
      ((sheetState false).sheet 31).composing = [frameAtWork false] ∧ (frameAtWork false).todo = [(0, 0, none)] ∧
    Desc.source (0 : Desc) = .ch 0 ∧
    ((sheetState true).sheet 31).composing = [frameAtWork true] ∧ (frameAtWork true).waitPage = true ∧
      (sheetState true).vpnMapped ((sheetState true).tileHost (frameAtWork true)) (frameAtWork true).vpn = true := by decide +kernel

/-- A tone of two segments of 10 ms, an alarm request waiting, a fire due on output 7. -/
def twoTones : AlarmPattern := { segments := [⟨1000, 10, 50, false⟩, ⟨2000, 10, 50, false⟩], repeat_ := 0 }
def soundState : State :=
  { running with
    time := { offset := 20000000 },
    console := {
      alarmWait := [(15, 0x8001, 0)], tone := some { req := 0, pattern := 0, prio := 0, content := twoTones, segStart := 0 },
      fires := [⟨0, 0, 0, 0, 0x80⟩], outs := [(0, { wave := some 0 })] } }

theorem test_witness_sound :
    soundState.console.alarmWait = [(15, 0x8001, 0)] ∧ 0 + 2000000 ≤ (soundState.at 0).now ∧ bit 0x8001 15 = true ∧
    (soundState.console.tone.map (fun x => (x.content.segments[x.segment]?).map (fun g =>
      decide (x.segStart + g.ms * 1000000 ≤ (soundState.at 0).now ∧ x.segment + 1 < x.content.segments.length)))) =
      some (some true) ∧
    soundState.up = true ∧
    soundState.console.fires = [⟨0, 0, 0, 0, 0x80⟩] ∧ (0x80 : BitVec 8) = BitVec.ofNat 8 (2 ^ 7) ∧
      (Tab.get {} soundState.console.outs 7 : HapOut).wave = none ∧
    (Tab.get {} soundState.console.outs 0 : HapOut).wave = some 0 ∧
      (Tab.get {} soundState.console.outs 0 : HapOut).start + soundState.waveNs 0 ≤ (soundState.at 0).now := by decide +kernel

/-- Touch port 1, enabled, free-running, with key 127 on it, in a scan or between scans. -/
def touchState (scan : Option (Nat × ScanKind)) : State :=
  { running with
    console := { ports := [(1, { cfg := { en := true, head := 15 }, state := .free, scan := scan })],
                 keys := [(127, { cfg := { en := true, port := 1 } })] } }

/-- Touch port 1 following head 15 in RUN. -/
def syncedTouch : State :=
  { running with
    heads := [(15, { state := .run })],
    console := { ports := [(1, { cfg := { en := true, head := 15, div := 1 }, state := .synced })] } }

theorem test_witness_touch :
    (touchState none).up = true ∧ ((touchState none).touch 1).cfg.en = true ∧ ((touchState none).touch 1).scan = none ∧
    ((touchState none).touch 1).state = .free ∧ ((touchState none).head ((touchState none).touch 1).cfg.head).state ≠ .run ∧
    ((touchState none).touch 1).lastScan + ((touchState none).touch 1).freePeriod ≤ ((touchState none).at 0).now ∧
    ((touchState none).at 0).scanEpoch 1 ≤ ((touchState none).at 0).now ∧
    (syncedTouch.up = true ∧ (syncedTouch.touch 1).cfg.en = true ∧ (syncedTouch.touch 1).scan = none ∧
      (syncedTouch.touch 1).state = .synced ∧ (syncedTouch.head (syncedTouch.touch 1).cfg.head).state = .run ∧
      (syncedTouch.at 0).scanEpoch 1 ≤ (syncedTouch.at 0).now ∧ (syncedTouch.touch 1).frameAt ≠ some ((syncedTouch.at 0).scanEpoch 1) ∧
      (syncedTouch.touch 1).cfg.div ≤ (syncedTouch.touch 1).frames + 1) ∧
    0 + Touch.groupNs ((touchState (some (0, .test))).touch 1) ≤ ((touchState (some (0, .test))).at 1000000000).now ∧
    0 + Touch.scanNs ((touchState (some (0, .mutualScan))).touch 1) .mutualScan ≤ ((touchState (some (0, .mutualScan))).at 1000000000).now ∧
    ((touchState (some (0, .test))).touch 1).scan = some (0, .test) ∧ 127 ∈ (touchState (some (0, .test))).portKeys 1 ∧
    ((touchState (some (0, .mutualScan))).touch 1).scan = some (0, .mutualScan) ∧
      ((touchState (some (0, .mutualScan))).touch 1).startScans < 3 := by decide +kernel

/-- 1 GiB installed, and region 0 open to the mediator and the debug port over the first 4 KiB of DRAM. -/
def guarded : State :=
  { up with
    adm := { memSize := 1 },
    prot := { regions := [(0, (BitVec.ofNat 128 (2 ^ 32 - 1) <<< 96) ||| (BitVec.ofNat 128 (0xFC0 / 64) <<< 70) |||
      BitVec.ofNat 128 (0x800000000 + 8 * 2 ^ 40 + 2 ^ 48))] } }

theorem test_witness_protection :
    regionLocked (Tab.get 0 up.prot.regions 255) = false ∧ up.locked = false ∧ (∀ q ∈ up.prot.regions, q.1 ≠ 255 → False) ∧
    regionLocked (BitVec.ofNat 128 (2 ^ 49)) = true ∧
    (∀ p ∈ ([] : List (FrameRef × Nat)), (up.frame p.1).isFree = true) ∧
    ({ up with prot := { posted := [(32, { first := 0 })] } } : State).prot.posted = [(32, { first := 0 })] ∧
    (0 / 1000000 + 1) * 1000000 ≤ (up.at 1000000).now ∧
    dramBase ≤ dramBase ∧
    (guarded.mpuCheck { cls := .dbg, write := true, first := dramBase, last := dramBase + (4096 - 1) }).isNone = true ∧
    (guarded.mpuCheck { cls := .dbg, write := false, first := dramBase, last := dramBase + (4096 - 1) }).isNone = true ∧
    0x84 < 0x4000000 ∧ (guarded.mpuCheck { cls := .dbg, write := true, first := 0x10000000 + 0x84, last := 0x10000003 + 0x84 }).isNone = true ∧
    guarded.locked = false := by
  decide +kernel

theorem test_witness_health :
    up.mode.phase = .up ∧ up.up = true ∧ holdable running.mode.mode = true ∧ running.up = true ∧ up.isolated (.eth 3) = false ∧
    up.testable 41 = true ∧ up.testIdle 41 = true ∧ up.testable 0 = true ∧
    up.prot.health.pending.contains 41 = false ∧ up.prot.health.starved.contains 40 = false ∧
    max (Tab.get 0 up.prot.health.lastRun 40) up.prot.health.bootAt + 10 * up.testPeriod 40 ≤ (up.at 864000000000000).now := by
  decide +kernel

/-- A source with a header of zeros received, and one whose image is all received; both slots can be written. -/
def updating (m : Mode) : State :=
  { State.reset with
    mode := { phase := .up, mode := m },
    prot := {
      sources := [(12, { status := 1, received := 4096, head := List.replicate 4096 0 })],
      slotA := { state := .trial, rollback := 1 }, recoveryDone := true } }

def zeroHeader : ImageHeader :=
  { magic := 0, hdrVersion := 1, hdrLen := 4096, imageLen := 4096, stepping := 0xA1, fwVersion := 0, modelVersion := 0, layout := 0,
    rollback := 0, keyId := 0, targets := 1, payloadHash := sha256 [], reservedZero := true }

def claimed : State :=
  { updating .configure with
    prot := { (updating .configure).prot with claim := some { owner := 12, target := 1, header := zeroHeader, lastData := 0 } } }

theorem test_witness_update :
    (updating .configure).mode.mode ≠ .standby ∧ ((updating .configure).updSource 12).status = 1 ∧
    (updating .configure).prot.claim = none ∧ ((updating .configure).updSource 12).received ≠ 0 ∧
    (updating .configure).claimBy 12 = false ∧ 4096 ≤ ((updating .configure).updSource 12).head.length ∧
    bit (headerOf ((updating .configure).updSource 12).head).targets 7 = false ∧
    claimed.updAll 12 = true ∧ claimed.mode.mode ≠ .recovery ∧ (claimed.updSource 12).owed = none ∧
    (0 : Nat) + claimed.reg Reg.updIdleS * 1000000000 ≤ (claimed.at 1000000000000).now ∧
    (updating .run).up = true ∧ ((updating .run).slot (updating .run).prot.runB).state = .trial ∧
      (updating .run).confirmMin * 60000000000 ≤ ((updating .run).at 600000000000).trialTime ∧
    (updating .recovery).mode.mode = .recovery ∧ (updating .recovery).prot.recoveryDone = true := by decide +kernel

theorem test_witness_payload :
    sha256 ((claimed.flashRead (slotBase true) zeroHeader.imageLen).drop 4096) = zeroHeader.payloadHash := by
  have h : (claimed.flashRead (slotBase true) zeroHeader.imageLen).length = 4096 := by
    simp [State.flashRead, zeroHeader]
  rw [List.drop_eq_nil_of_le (by omega)]
  rfl

/-- Instance 31 active, with rings, one work order (number 5) in a stage and one command of queue 3 to read. -/
def work (o : WorkOp) (g : WorkStage) : Work :=
  { id := 5, queue := 3, order := { op := o, fence := false, irq := false, tag := 7 }, acceptedAt := 0, stage := g }

def hostState (x : Inst) : State :=
  { running with insts := [(31, x)], adm := { memSize := 1, memRate := 6400 }, time := { offset := 1000000000 } }

def working (o : WorkOp) (g : WorkStage) : State :=
  hostState {
    state := .active, works := [work o g], queues := [(3, { en := true, tail := 1 })], cq := { en := true },
    pages := [(0, 101), (1, 102), (2, 103), (3, 104)],
    grants := { surfQuota := 4, pageQuota := 16, winCount := 8, bwShare := 1000 } }

theorem test_witness_pages :
    ((working .nop .waiting).inst 31).state ≠ .resetting ∧
    unread (16 : BitVec 32).toNat ((working .nop .waiting).queue 31 3).head ≤ 2 ^ ((working .nop .waiting).queue 31 3).size ∧
    2 ^ ((working .nop .waiting).queue 31 3).size < unread (17 : BitVec 32).toNat ((working .nop .waiting).queue 31 3).head ∧
    (0x40 * 3 + 0x14 < 65536) ∧ (3 : BitVec 32).getLsbD 1 = true := by decide +kernel

/-- An event and a completion at time 0 in the rings of instance 31. -/
def heldRings : State :=
  hostState {
    evq := { en := true, records := [{ kind := .headLinkUp, idx := 0, seq := 0, time := 0, payload := [] }] },
    cq := { en := true, records := [{ tag := 0, queue := 0, status := 0, reason := 0, result := 0, time := 0 }] } }

theorem test_witness_rings :
    (heldRings.inst 31).evq.en = true ∧ (heldRings.inst 31).evq.signalled = false ∧
    ((heldRings.inst 31).evq.records.head?.map (fun r => decide (r.time + (heldRings.inst 31).evq.holdUs * 16000 ≤ (heldRings.at 0).now))) =
      some true ∧
    (heldRings.inst 31).cq.en = true ∧ (heldRings.inst 31).cq.signalled = false ∧
    ((heldRings.inst 31).cq.records.head?.map (fun r => decide (r.time + (heldRings.inst 31).evq.holdUs * 16000 ≤ (heldRings.at 0).now))) =
      some true := by decide +kernel

theorem test_witness_work_orders :
    (working .nop .waiting).canRead 31 3 = true ∧ ((working .nop .waiting).at 0).startable 31 5 = some (work .nop .waiting) ∧
    ((working (.bad 0xFF) .waiting).at 0).startable 31 5 = some (work (.bad 0xFF) .waiting) ∧
    ((working (.copy true none 0 0 64) .waiting).at 0).startable 31 5 = some (work (.copy true none 0 0 64) .waiting) ∧
    (working (.surfCommit 255 false 0 0 1 1 0 4) .needBuffer).work 31 5 = some (work (.surfCommit 255 false 0 0 1 1 0 4) .needBuffer) ∧
    (work (.surfCommit 255 false 0 0 1 1 0 4) .needBuffer).stage = .needBuffer ∧
    ({ hostState {} with surfs := [(255, { created := true, owner := 31 })] } : State).ownsSurf 31 255 = true ∧
    freeBuf (({ hostState {} with surfs := [(255, { created := true, owner := 31 })] } : State).surf 255).bufs 0 0 = none ∧
    (work .nop .waiting).order.irq = false := by decide +kernel

/-- A work order of instance 31, surface 255 created; the state in which the order waits in the admission queue, and its request. -/
def orderState (o : WorkOp) : State :=
  { working o .waiting with surfs := [(255, { created := true, owner := 31, w := 64, h := 64, maxRate := 60, pool := [2] })] }

def queuedOrder (o : WorkOp) : State := ((orderState o).at 0).setWork 31 { work o .waiting with stage := .queued }

def orderRequest (c : Change) : Request := { by_ := .work 31 5, received := 0, changes := [c] }

theorem test_witness_startable :
    ([.surfCreate 0 64 64 60, .surfDestroy 255, .winBatch [(0, 0)], .blazeSet 255 0 0 0 0 0].all
      (fun o => ((orderState o).at 0).startable 31 5 == some (work o .waiting))) = true := by decide +kernel

theorem test_witness_surf_create :
    atOnce (queuedOrder (.surfCreate 0 64 64 60)) (orderRequest (.surfCreate 31 0 64 64 60)) ∧
    admissible (queuedOrder (.surfCreate 0 64 64 60)) (orderRequest (.surfCreate 31 0 64 64 60)) := by
  unfold atOnce admissible
  decide +kernel

theorem test_witness_work_requests :
    (atOnce (queuedOrder (.surfDestroy 255)) (orderRequest (.surfDestroy 31 255)) ∧
      admissible (queuedOrder (.surfDestroy 255)) (orderRequest (.surfDestroy 31 255))) ∧
    (atOnce (queuedOrder (.winBatch [(0, 0)])) (orderRequest (.winBatch (some 31) [(0, 0)])) ∧
      admissible (queuedOrder (.winBatch [(0, 0)])) (orderRequest (.winBatch (some 31) [(0, 0)]))) ∧
    (atOnce (queuedOrder (.blazeSet 255 0 0 0 0 0)) (orderRequest (.blazeSet 31 255 0 0 0 0 0)) ∧
      admissible (queuedOrder (.blazeSet 255 0 0 0 0 0)) (orderRequest (.blazeSet 31 255 0 0 0 0 0))) := by
  unfold atOnce admissible
  decide +kernel

/-- Instance 31 in a state, its registers written for an operation; the memory of a running device. -/
def instOp (x : Inst) : State :=
  { running with
    insts := [(31, x)], adm := { memSize := 1, memRate := 6400 },
    regs := [(0x51F008, 8), (0x51F00C, 16), (Reg.instBlobLen 31, 65536)] }

def instAsk (o : InstOp) : Request := { by_ := .instRegs 31, received := 0, changes := [.inst 31 o] }
def noInst : State := instOp {}
def live : State := instOp { state := .active, grants := { pageQuota := 16 } }
def frozen : State := instOp { state := .frozen, grants := { pageQuota := 16 } }
def blob0 : RestoreBlob :=
  { formed := true, stepping := 0xA1, fwMajor := 0, memSize := 1, grants := {}, vpns := [], queues := [], cq := {}, evq := {},
    vecMask := 0, vecPend := 0, surfs := [], wins := [], glyphs := [], cells := [] }

theorem test_witness_inst_create :
    atOnce noInst (instAsk (.create (noInst.stagedGrants 31))) ∧ admissible noInst (instAsk (.create (noInst.stagedGrants 31))) := by
  unfold atOnce admissible
  decide +kernel

theorem test_witness_inst_change :
    atOnce live (instAsk (.change (live.stagedGrants 31))) ∧ admissible live (instAsk (.change (live.stagedGrants 31))) := by
  unfold atOnce admissible
  decide +kernel

theorem test_witness_inst_reset :
    (atOnce live (instAsk (.reset true true)) ∧ admissible live (instAsk (.reset true true))) ∧
    (atOnce live (instAsk .freeze) ∧ admissible live (instAsk .freeze)) ∧
    (atOnce live (instAsk .destroy) ∧ admissible live (instAsk .destroy)) := by
  unfold atOnce admissible
  decide +kernel

theorem test_witness_inst_frozen :
    (atOnce frozen (instAsk .thaw) ∧ admissible frozen (instAsk .thaw)) ∧
    (atOnce frozen (instAsk (.save 4096 (frozen.blobAddr 31) (frozen.reg (Reg.instBlobLen 31)))) ∧
      admissible frozen (instAsk (.save 4096 (frozen.blobAddr 31) (frozen.reg (Reg.instBlobLen 31))))) := by
  unfold atOnce admissible
  decide +kernel

/-- The header of a blob without sections, of this stepping, firmware and memory size. -/
def blobBytes : List (BitVec 8) :=
  let h : List (BitVec 8) := leBytes 4 0x5731494E ++ leBytes 2 1 ++ [0xA1, 0, 1, 0] ++ [0, 0] ++ leBytes 4 64
  h ++ leBytes 4 (crcOf (h ++ leBytes 4 0 ++ List.replicate 44 0)) ++ List.replicate 44 0

/-- The restore that instance 31 asks for with that blob. -/
def restoreAsk : Request :=
  instAsk (.restore (noInst.stagedGrants 31).pasid (noInst.stagedGrants 31).msgs (readBlob (noInst.reg (Reg.instBlobLen 31)) blobBytes blob0))

theorem test_witness_inst_restore : atOnce noInst restoreAsk ∧ admissible noInst restoreAsk := by
  unfold atOnce admissible
  decide +kernel

/-- An active instance 31 with page 0 mapped. -/
def mapped : State :=
  { running with
    insts := [(31, { state := .active, pages := [(0, 102)], grants := { pageQuota := 16 } })],
    adm := { memSize := 2, memRate := 6400, grants := [(31, some { pageQuota := 16 })] },
    regs := [(Reg.mmuPpn 31, 512), (Reg.mmuCount 31, 1)] }

/-- The same, to map its last page. -/
def mapping : State := { mapped with regs := [(Reg.mmuVpn 31, 16383), (Reg.mmuPpn 31, 512), (Reg.mmuCount 31, 1)] }

def mmuAsk (c : Change) : Request := { by_ := .mmuRegs 31, received := 0, changes := [c] }

theorem test_witness_mmu :
    (atOnce mapping (mmuAsk (.map 31 (mapping.reg (Reg.mmuVpn 31)) (mapping.reg (Reg.mmuPpn 31)) (mapping.reg (Reg.mmuCount 31)))) ∧
      admissible mapping (mmuAsk (.map 31 (mapping.reg (Reg.mmuVpn 31)) (mapping.reg (Reg.mmuPpn 31)) (mapping.reg (Reg.mmuCount 31))))) ∧
    (atOnce mapped (mmuAsk (.revoke 31 (mapped.reg (Reg.mmuVpn 31)) (mapped.reg (Reg.mmuCount 31)))) ∧
      admissible mapped (mmuAsk (.revoke 31 (mapped.reg (Reg.mmuVpn 31)) (mapped.reg (Reg.mmuCount 31))))) := by
  unfold atOnce admissible
  decide +kernel

/-- Instance 31 with a change due, a drain or squash in progress, a save or a restore in progress. -/
theorem test_witness_inst_changes :
    ((instOp { changes := [(.create {}, 0)] }).inst 31).changes = [(.create {}, 0)] ∧ 0 ≤ ((instOp {}).at 0).now ∧
    ((instOp { changes := [(.freeze, 0)] }).inst 31).changes = [(.freeze, 0)] ∧
    ((instOp { draining := true, freezing := true, works := [work .nop .waiting] }).inst 31).draining = true ∧
      ((instOp { draining := true, freezing := true, works := [work .nop .waiting] }).inst 31).works ≠ [] ∧
      ((instOp { draining := true, freezing := true, works := [work .nop .waiting] }).inst 31).freezing = true ∧
      0 + ((instOp {}).inst 31).grants.drainMs * 1000000 ≤ ((instOp {}).at 100000000).now ∧
    ((instOp { draining := true, works := [work .nop .waiting] }).inst 31).freezing = false ∧
    ((instOp { state := .resetting }).inst 31).state = .resetting ∧ ((instOp { state := .resetting }).inst 31).works = [] ∧
      ((instOp { state := .resetting }).inst 31).destroying = false ∧
      ((instOp { state := .resetting, destroying := true }).inst 31).destroying = true ∧
    ((instOp { freezing := true }).inst 31).freezing = true ∧ ((instOp { freezing := true }).inst 31).groups = [] ∧
    ((instOp { saving := some 4096 }).inst 31).saving = some 4096 ∧
    ((instOp { state := .restoring, restoring := some blob0 }).inst 31).restoring = some blob0 ∧
      ((instOp { state := .restoring, restoring := some blob0 }).inst 31).state = .restoring := by decide +kernel

/-- A transfer of instance 31's COPY on the host DMA, with a page request open since 0. -/
def moving : State :=
  { working (.copy false none 0 0 4096) .copying with
    dma := some (31, 5),
    insts := [(31, { state := .active, works := [work (.copy false none 0 0 4096) .copying],
                     groups := [{ id := 9, work := 5, page := 0, sentAt := 0 }] })] }

theorem test_witness_transfers :
    moving.dma = some (31, 5) ∧ moving.work 31 5 = some (work (.copy false none 0 0 4096) .copying) ∧
    moving.pagesOk 31 (work (.copy false none 0 0 4096) .copying) = false ∧
    (moving.inst 31).groups.find? (fun y => y.id == 9) = some { id := 9, work := 5, page := 0, sentAt := 0 } ∧
    0 + 10000000 ≤ (moving.at 0).now := by decide +kernel

/-- A request of the safety partition that shows nothing, by an instance; it waits in no queue. -/
def safeAsk : SafeRequest := { heads := 0, glyphs := [], palette := [], cells := [] }

theorem test_witness_safe_req :
    ((working (.safeReq safeAsk) .waiting).at 0).startable 31 5 = some (work (.safeReq safeAsk) .waiting) ∧
    (queuedOrder (.safeReq safeAsk)).up = true ∧
    (queuedOrder (.safeReq safeAsk)).adm.waiting = [] ∧ (work (.safeReq safeAsk) .waiting).order.lost = false ∧
    (queuedOrder (.safeReq safeAsk)).forwards (orderRequest (.safety (.inst 31 safeAsk))) = false ∧
    admissible (queuedOrder (.safeReq safeAsk)) (orderRequest (.safety (.inst 31 safeAsk))) := by
  unfold admissible
  decide +kernel

/-! ### Dictionary -/

/-- A running device whose settings are loaded, with node 1 on CAN 0, the watch on SLEEP allowed and a prepared salvo 7. -/
def served (m : Mode) : State :=
  { State.reset with
    mode := { phase := .up, mode := m, boardOk := true, strap := true }, adm := { memSize := 2, memRate := 6400 },
    dict := { loaded := true, can := [(0, { nodeId := 1 }), (1, { nodeId := 2, nmt := 1 })] }, aon := { wakeEn := 1 },
    salvos := [(7, { prepared := true })] }

/-- The request of the mailbox for a change of an object. -/
def boxAsk (s : State) (c : Change) : Request := portRequest (opened s (.mailbox none)) (.mailbox none) 0x7300 0x40 [c]

/-- A value fits a dictionary entry, the entry's limit included. -/
def fits (idx sub : Nat) (data : List (BitVec 8)) : Bool :=
  match entryOf idx sub with
  | some e => valueFits idx sub e data && (e.domain || decide (leNat data < e.limit))
  | none => false

/-- What `writable` asks, but for the entry itself. -/
def mayWrite (p : DictPort) (idx sub : Nat) : Bool :=
  (served .run).portUp p && writeAbort p idx sub == 0 && idx != 0x2030 && idx != 0x2060 && ((served .run).oboReason p idx).isNone

theorem writable_of (p : DictPort) (idx sub : Nat) (data : List (BitVec 8)) (h : mayWrite p idx sub = true) (g : fits idx sub data = true) :
    writable (served .run) p idx sub data := by
  simp only [mayWrite, Bool.and_eq_true, bne_iff_ne, beq_iff_eq, Option.isNone_iff_eq_none] at h
  obtain ⟨⟨⟨⟨h1, h2⟩, h3⟩, h4⟩, h5⟩ := h
  refine ⟨h1, h2, h3, h4, h5, ?_⟩
  unfold fits at g
  split at g
  next e he =>
    simp only [Bool.and_eq_true, Bool.or_eq_true, decide_eq_true_eq] at g
    exact ⟨e, he, g.1, g.2⟩
  next => exact absurd g (by decide)

theorem test_witness_dictionary_writes :
    writable (served .run) (.mailbox none) 0x7300 0x40 [1] ∧ writable (served .run) (.mailbox none) 0x7300 0x40 [2] ∧
    writable (served .run) (.mailbox none) 0x5100 3 [1] ∧ writable (served .run) (.mailbox none) 0x4207 0x40 [1] ∧
    writable (served .run) (.mailbox none) 0x4207 0x40 [2] ∧ writable (served .run) (.mailbox none) 0x4207 0x40 [3] ∧
    writable (served .run) (.can 0) 0x6000 2 (List.replicate 512 0) ∧ writable (served .run) (.can 0) 0x6001 3 (List.replicate 64 0) ∧
    writable (served .run) (.can 0) 0x6002 0x10 [1] ∧ writable (served .run) (.can 0) 0x6020 16 (leBytes 2 0) ∧
    writable (served .run) (.mailbox none) 0x1010 1 (leBytes 4 0x65766173) ∧
    writable (served .run) (.mailbox none) 0x1011 1 (leBytes 4 0x64616F6C) := by
  refine ⟨?_, ?_, ?_, ?_, ?_, ?_, ?_, ?_, ?_, ?_, ?_, ?_⟩ <;> exact writable_of _ _ _ _ (by decide +kernel) (by decide +kernel)

theorem test_witness_objects :
    objKind 0x7300 = some .console ∧ (∀ n, ObjKind.console ≠ .salvo n) ∧
    (atOnce (opened (served .run) (.mailbox none)) (boxAsk (served .run) (.apply 0x7300 [])) ∧
      admissible (opened (served .run) (.mailbox none)) (boxAsk (served .run) (.apply 0x7300 []))) ∧
    (atOnce (opened (served .run) (.mailbox none)) (boxAsk (served .run) (.stop 0x7300)) ∧
      admissible (opened (served .run) (.mailbox none)) (boxAsk (served .run) (.stop 0x7300))) ∧
    (atOnce (opened (served .run) (.mailbox none)) (boxAsk (served .run) (.winBatch none [])) ∧
      admissible (opened (served .run) (.mailbox none)) (boxAsk (served .run) (.winBatch none []))) := by
  unfold atOnce admissible
  refine ⟨rfl, fun _ h => ObjKind.noConfusion h, ?_⟩
  decide +kernel

theorem test_witness_salvos :
    (atOnce (opened (served .run) (.mailbox none)) (boxAsk (served .run) (.prepare 7 [] none [])) ∧
      admissible (opened (served .run) (.mailbox none)) (boxAsk (served .run) (.prepare 7 [] none []))) ∧
    (atOnce (opened (served .run) (.mailbox none)) (boxAsk (served .run) (.commit 7 0)) ∧
      admissible (opened (served .run) (.mailbox none)) (boxAsk (served .run) (.commit 7 0))) ∧
    (atOnce (opened (served .run) (.mailbox none)) (boxAsk (served .run) (.cancel 7)) ∧
      admissible (opened (served .run) (.mailbox none)) (boxAsk (served .run) (.cancel 7))) := by
  unfold atOnce admissible
  decide +kernel

/-- CAN 0's session with glyph 1, head 0 and a fill of one cell staged. -/
def stagedSafety : State :=
  { served .run with
    dict := { (served .run).dict with
      sessions := [(0, { safe := [(0x6000, [(1, [1, 0])]), (0x6001, [(1, [1, 0])]), (0x6002, [(1, [1, 0]), (4, [1]), (5, [1])])] })] } }

def fieldAsk (w : SafetyWrite) : Request := portRequest (opened stagedSafety (.can 0)) (.can 0) 0x6002 0x10 [.safety w]

/-- A request of the safety partition passes in the state in which CAN 0's write has been taken. -/
def fieldPasses (w : SafetyWrite) : Prop :=
  (opened stagedSafety (.can 0)).forwards (fieldAsk w) = false ∧ (opened stagedSafety (.can 0)).adm.waiting = [] ∧ admissible (opened stagedSafety (.can 0)) (fieldAsk w)

theorem test_witness_safety_requests :
    (opened stagedSafety (.can 0)).up = true ∧ safeVal (stagedSafety.session 0) 0x6000 1 = 1 ∧
    safeVal (stagedSafety.session 0) 0x6002 4 * safeVal (stagedSafety.session 0) 0x6002 5 = 1 ∧
    fieldPasses (.field { heads := 0, glyphs := [(1, glyphPixels (List.replicate 512 0))], palette := [], cells := [] }) ∧
    fieldPasses (.field { heads := 1, glyphs := [], palette := [(0, 0, 0)], cells := [] }) ∧
    fieldPasses (.field { heads := 1, glyphs := [], palette := [], cells := stagedCells (stagedSafety.session 0) }) ∧
    stagedCells (stagedSafety.session 0) = [(0, 0, false, 0, 0)] ∧
    fieldPasses (.request 15 0) ∧ (0 : BitVec 16).toNat &&& 0x78F0 = 0 := by
  unfold fieldPasses admissible
  decide +kernel

/-- A device before its settings are loaded, and one with a store in progress into an area. -/
def unloaded (a : StoreArea) : State := { State.reset with mode := { phase := .up }, store := { a := a } }
def storing (b : Bool) : State := { served .configure with dict := { storing := some (b, .erased) } }

theorem test_witness_settings :
    (served .run).dict.storing = none ∧ (storing false).dict.storing = some (false, .erased) ∧
    (storing true).dict.storing = some (true, .erased) ∧
    ((served .run).session 10).lastWrite + 10000000000 ≤ ((served .run).at 10000000000).now ∧
    (unloaded .erased).mode.mode = .configure ∧ (unloaded .erased).dict.loaded = false ∧ (unloaded .erased).store.restore = false ∧
      (unloaded .erased).store.a = .erased ∧ (unloaded .erased).store.b = .erased ∧
    (unloaded (.copy 1 0 [] [] [] [])).newerCopy = some (.copy 1 0 [] [] [] []) ∧
      (unloaded (.copy 1 0 [] [] [] [])).runLayout = 0 := by decide +kernel

theorem test_witness_can :
    (served .run).nodeUp 0 = true ∧ (served .run).canUp 1 = true ∧ (served .run).usdoUp 0 = true ∧
    (0 < ({ served .run with adm := { plain := [(0x1017 * 256, 1001)] } } : State).plain 0x1017 0 1000) ∧
    (((served .run).canNode 0).heartbeatAt + (served .run).plain 0x1017 0 1000 * 1000000 ≤ ((served .run).at 1000000000).now) ∧
    ((served .run).canNode 1).nmt = 1 ∧ Tab.get ([], 0) ((served .run).canNode 1).tpdo 2 = ([], 0) ∧
    ((served .run).at 0).tpdoContent 0 ≠ [] ∧
    ({ served .run with dict := { can := [(1, { bus := 2 })] } } : State).dict.can = [(1, { bus := 2 })] ∧
    readAbort (.can 0) 0x1000 0 = 0 ∧ writeAbort (.can 0) 0x6000 1 = 0 ∧
    (({ served .run with dict := { can := [(0, { transfer := some (0x1000, 0, 0) })] } } : State).canNode 0).transfer =
      some (0x1000, 0, 0) ∧ 0 + 8000000000 ≤ ((served .run).at 8000000000).now := by decide +kernel

theorem test_witness_lss :
    (served .run).canUp 0 = true ∧ (0 : BitVec 32) = BitVec.ofNat 32 (served .run).board.serial.toNat ∧
    (({ served .run with dict := { can := [(1, { lss := true })] } } : State).canNode 1).lss = true ∧
    ((1 ≤ (127 : BitVec 8).toNat ∧ (127 : BitVec 8).toNat ≤ 127) ∨ (127 : BitVec 8) = 0xFF) ∧ (3 : BitVec 8).toNat < 4 := by
  decide +kernel

/-- A message of the field network from an address on the allowlist. -/
def udpMsg : UdpMsg :=
  { port := 3, ipv6 := false, src := 0x0A000001, udpPort := 4770, formed := true, tid := 1, index := 0x1000, sub := 0, offset := 0,
    len := 4, data := [] }

def listed : State :=
  { served .run with udpPorts := 8, dict := { loaded := true, allow := [(0, mappedAddr false 0x0A000001)] } }

/-- The mailbox's registers set for a write of 1 to subindex 1 of context object 0. -/
def boxed : State :=
  { served .run with regs := [(Reg.mbxAddr, 0x4100 + 2 ^ 16), (Reg.mbxLen, 1), (Reg.mbxData 0, 1)] }

theorem test_witness_udp :
    ((listed.at 0).udpAccept udpMsg).2 = some (.udp 0 1) ∧ readAbort (.udp 0 1) 0x1000 0 = 0 ∧
    ((listed.at 0).udpAccept { udpMsg with index := 0x4100, sub := 1, data := [1] }).2 = some (.udp 0 1) ∧
    (boxed.up = true ∧ boxed.dict.mbxBusy = false ∧ boxed.reg Reg.mbxLen = 1 ∧ boxed.reg Reg.mbxOffset = 0 ∧
      bits (boxed.reg Reg.mbxAddr) 15 0 = 0x4100 ∧ bits (boxed.reg Reg.mbxAddr) 23 16 = 1 ∧ boxed.mailboxBytes 1 = [1]) ∧
    (served .run).dict.mbxBusy = false ∧ (served .run).reg Reg.mbxLen ≤ 1024 := by decide +kernel

def modeAsk (c : ModeCmd) (key : Nat) : Request := { by_ := .modeRegs, received := 0, changes := [.mode c key] }

/-- A request is judged at once and passes. -/
def passes (s : State) (r : Request) : Prop := atOnce s r ∧ admissible s r

/-- A mode command's own checks pass, and its request would be judged at once. -/
def mayCommand (s : State) (c : ModeCmd) (key : Nat) : Prop :=
  s.modeWhy c key = [] ∧ atOnce ((s.at 0).setReg 0x10008 0) (modeAsk c key)

/-- In CONFIGURE, the strap set and the board record good, a domain enabled; the servo locked or not. -/
def readyToGo (v : ServoState) : State :=
  { served .configure with time := { servo := v, firstEnabled := some 0 }, regs := [(Reg.timeLockWait, 60)] }

theorem test_witness_mode_commands :
    (mayCommand (readyToGo .locked) .go 0 ∧ mayCommand (readyToGo .locked) .goProving 0 ∧ (readyToGo .locked).time.servo = .locked ∧
      (readyToGo .locked).pair.en = false ∧ (readyToGo .locked).aon.shLatch = false) ∧
    (mayCommand (readyToGo .free) .go 0 ∧ (readyToGo .free).time.servo ≠ .locked ∧ (readyToGo .free).lockWait ≠ 0 ∧
      (readyToGo .free).time.firstEnabled = some 0 ∧ ((readyToGo .free).at 0).time.lct < 0 + (readyToGo .free).lockWait) := by
  unfold mayCommand atOnce
  decide +kernel

theorem test_witness_hold_sleep_reset :
    mayCommand (served .run) .safeHold 0 ∧ (mayCommand (served .safeHold) .leaveSafeHold 0 ∧ (served .safeHold).anyIsolated = false) ∧
    (mayCommand { served .run with mode := { (served .run).mode with railEn := 0xFFF } } .sleep 0x5AFE) ∧
    mayCommand (served .run) .reset 0x5AFE := by
  unfold mayCommand atOnce
  decide +kernel

/-- The active device of a pair in RUN, its partner on lane 31. -/
def paired : State :=
  { served .run with
    pair := { en := true, state := .paired, actOut := true }, bonds := [(31, { en := true, role := .pair })],
    lanes := [(31, { state := .up, first := 31, role := .pair })] }

/-- A device that left its pair, beside a partner that drives PAIR_ACT_OUT. -/
def alone : State :=
  { paired with
    pair := { en := true, state := .alone, actIn := true },
    lanes := [(31, { state := .up, first := 31, role := .pair, ident := some { bridge with kind := 2 } })] }

def pairAsk (op : Nat) : Request := { by_ := .device, received := 0, changes := [.pairOp op] }

theorem test_witness_pair_requests :
    (atOnce alone (pairAsk 1) ∧ alone.up = true ∧ alone.pair.en = true ∧ alone.pair.actOut = false ∧ alone.pair.actIn = true ∧
      alone.pair.state = .alone ∧ alone.pairUp = true ∧ alone.partnerW128 = true) ∧
    atOnce (served .run) (pairAsk 2) ∧
    (atOnce paired (pairAsk 3) ∧ paired.pairActive = true ∧ paired.pair.state = .paired) := by
  unfold atOnce
  decide +kernel

/-- A GO that waits for lock, the first domain enabled at 0. -/
def waitingGo : State :=
  { served .configure with
    mode := { phase := .up, mode := .configure, boardOk := true, goWait := some { proving := false, expired := false, acceptedAt := 0 } },
    time := { firstEnabled := some 0 } }

/-- A GO_PROVING whose wait has ended; and side B of a pair, PAIR_ACT_IN low. -/
def goneExpired : State :=
  { waitingGo with mode := { waitingGo.mode with goWait := some { proving := true, expired := true, acceptedAt := 0 } } }
def secondary : State := { waitingGo with pair := { en := true }, board := { sideB := true } }

theorem test_witness_go :
    waitingGo.mode.goWait = some { proving := false, expired := false, acceptedAt := 0 } ∧ waitingGo.time.firstEnabled = some 0 ∧
    0 + waitingGo.lockWait ≤ (waitingGo.at 3600000000000).time.lct ∧ quietQueue waitingGo ∧ waitingGo.mode.mode = .configure ∧
    waitingGo.time.servo ≠ .locked ∧ waitingGo.lockWait ≠ 0 ∧
    waitingGo.time.lct < 0 + waitingGo.lockWait ∧ waitingGo.pair.en = false ∧ waitingGo.aon.shLatch = false ∧
    waitingGo.mode.mode ≠ .proving ∧ waitingGo.up = true ∧ (readyToGo .locked).time.servo = .locked ∧
    ({ waitingGo with aon := { shLatch := true } } : State).aon.shLatch = true ∧
    (goneExpired.mode.goWait = some { proving := true, expired := true, acceptedAt := 0 } ∧ quietQueue goneExpired ∧
      goneExpired.pair.en = false ∧ goneExpired.mode.mode = .configure) ∧
    (secondary.pair.en = true ∧ secondary.board.sideB = true ∧ secondary.pair.actIn = false) := by
  unfold quietQueue
  decide +kernel

/-- A write of GLB.ECC_ZONES, one that waits in the queue, a tally ring on the first page of zone 1, and the tally's registers set for a ring of one page. -/
def eccAsk (v : BitVec 32) : Request := { by_ := .eccRegs, received := 0, changes := [.eccZones v] }
def eccQueue : State := { served .configure with adm := { (served .configure).adm with queue := [eccAsk 0] } }
def tallyRing : State := { served .run with adm := { (served .run).adm with tally := [512] } }
def tallySet : State := { served .run with regs := [(Reg.tallyPeriod, 1000), (Reg.tallyRingPages, 1)] }

theorem test_witness_global_requests :
    (served .configure).up = true ∧ (served .configure).glb.blobReading = false ∧ (served .configure).locked = false ∧
    (served .configure).up = true ∧ passes ((served .configure).setReg 0x54 0) (eccAsk 0) ∧
    (eccQueue.adm.queue = [eccAsk 0] ∧ passes { eccQueue with adm := { eccQueue.adm with queue := [] } } (eccAsk 0)) ∧
    (atOnce tallyRing (eccAsk 2) ∧ ¬ admissible tallyRing (eccAsk 2)) ∧
    passes { served .run with win := { open_ := true } } { by_ := .winRegs, received := 0, changes := [.winCommit] } ∧
    passes (tallySet.setReg 0x90004 0) { by_ := .tallyRegs, received := 0, changes := [.tallyStart
      (tallySet.reg Reg.tallyOriginLo + tallySet.reg Reg.tallyOriginHi * 2 ^ 32) (tallySet.reg Reg.tallyPeriod) (tallySet.reg Reg.tallyRingPages)] } ∧
    (({ served .run with salvos := [(7, { prepared := true, commitAt := some 0 })] } : State).salvo 7).commitAt = some 0 ∧
    (({ served .run with salvos := [(7, { prepared := true, commitAt := some 0 })] } : State).salvo 7).hasGen = false := by
  unfold passes atOnce admissible
  decide +kernel

/-- A configuration blob with no record. -/
def emptyBlob : List (BitVec 8) :=
  leBytes 4 0x57314346 ++ leBytes 2 1 ++ leBytes 2 128 ++ leBytes 4 128 ++ leBytes 4 0 ++ [0xA1, 0, 0, 0] ++ leBytes 4 0 ++
    List.replicate 8 0 ++ shaBytes [] ++ List.replicate 64 0

/-- The device while it has read that blob. -/
def blobRead : State := { served .configure with glb := { blobReading := true }, regs := [(Reg.glbBlobLen, 128)] }

theorem test_witness_blob :
    blobRead.up = true ∧ blobRead.glb.blobReading = true ∧
    passes { blobRead with glb := { blobReading := false } }
      (({ blobRead with glb := { blobReading := false } } : State).blobRequest .blobRegs (blobRead.reg Reg.glbBlobLen) emptyBlob) := by
  unfold passes atOnce admissible
  decide +kernel

/-! ### Power, boot, registers, counters, proving -/

/-- The power sequencer in a phase, every rail enabled and monitored. -/
def inPhase (p : Phase) : State := { State.reset with mode := { phase := p, mode := .standby, railEn := 0xFFF } }

theorem test_witness_rails :
    (inPhase (.railUp 11 false)).mode.phase = .railUp 11 false ∧ (inPhase (.railUp 11 true)).mode.phase = .railUp 11 true ∧
    (inPhase (.railDown 0)).mode.phase = .railDown 0 ∧
    up.powered = true ∧ (inPhase .boot).railMon 11 = true ∧ (inPhase .boot).mode.railEn.getLsbD 11 = true ∧
      (inPhase .boot).powered = true ∧
    ({ State.reset with mode := { phase := .standby, retryDue := true } } : State).mode.retryDue = true ∧
    ({ State.reset with mode := { phase := .standby, upWaiting := true } } : State).mode.upWaiting = true ∧
    (up.mode.upWaiting = false ∧ up.mode.railEn = 0 ∧ up.mode.downCause ≠ some .rail ∧ up.mode.wakeLatched = 0) ∧
    (inPhase .off).mode.phase = .off ∧ (inPhase .aonReset).mode.phase = .aonReset := by decide +kernel

/-- The alarm at 1 s, the watchdog warned of nothing. -/
def alarmed : State := { up with aon := { rtcAlarm := 1, wakeEn := 0xF }, regs := [(Reg.modeWdCfg, 0x00C80064)] }

/-- A way down in progress, and STANDBY with a wake latched, the wake pins enabled. -/
def goingDown (p : Phase) : State :=
  { inPhase p with aon := { wakeEn := 0xF, rtcAlarm := 1 }, mode := { (inPhase p).mode with wakeLatched := 8, discharged := false } }

theorem test_witness_wakes :
    ((goingDown (.railDown 0)).aon.wakeEn.getLsbD 3 = true ∧ (goingDown (.railDown 0)).mode.phase = .railDown 0 ∧
      (goingDown (.railDown 0)).aon.wakeEn.getLsbD 2 = true ∧
      (goingDown (.railDown 0)).aon.rtcAlarm.toNat ≤ ((goingDown (.railDown 0)).at 1000000000).rtcNow / 32768) ∧
    ((goingDown .standby).mode.phase = .standby ∧ (goingDown .standby).mode.hot = false ∧ (goingDown .standby).mode.upWaiting = false ∧
      (goingDown .standby).mode.discharged = false ∧
      (goingDown .standby).mode.wakeLatched &&& (goingDown .standby).aon.wakeEn ≠ 0) ∧
    (3 : Nat) ≠ 2 ∧ alarmed.aon.wakeEn.getLsbD 3 = true ∧ alarmed.aon.rtcAlarm ≠ 0 ∧
    alarmed.aon.rtcAlarm.toNat ≤ (alarmed.at 1000000000).rtcNow / 32768 ∧ alarmed.mode.phase ≠ .standby ∧
    (inPhase .standby).mode.phase = .standby ∧ alarmed.mode.warned = false ∧
    alarmed.mode.lastKick + bits (alarmed.reg Reg.modeWdCfg) 15 0 * 1000000 < (alarmed.at 100000001).now ∧
    alarmed.mode.lastKick + bits (alarmed.reg Reg.modeWdCfg) 31 16 * 1000000 < (alarmed.at 200000001).now := by decide +kernel

/-- R427: the fields of a board record by their offsets; R428: one with another MAGIC does not pass, whatever its signature. -/
theorem test_board_record :
    (boardOf [(7, 1), (0x0F, 0x80), (0x14, 5), (0x16, 120), (0x18, 4), (0x19, 3), (0xA3, 0x80), (0xD0, 0x1B), (0x105, 0xB3)]).autorun = true ∧
    (boardOf [(0x0F, 0x80)]).serial = 0x8000000000000000 ∧ (boardOf [(0x16, 120), (0x17, 1)]).coreBudget = 376 ∧
    (boardOf [(0x19, 2)]).pairEn = false ∧ (boardOf [(0x19, 2)]).sideB = true ∧ (boardOf [(0xA3, 0x80)]).ptp.head? = some (-2147483648, 0, 0) ∧
    (boardOf [(0x105, 0xB3)]).wiring[5]? = some 0xB3 ∧ up.recordPasses [(0, 0x57), (4, 1)] = false ∧
    recordZero [(0x1A, 1)] = false ∧ recordZero [(0xD0, 0x20)] = false ∧ recordZero [(0x30BF, 1), (0xFFA0, 1)] = true := by decide +kernel

/-- A good firmware in slot A. -/
def goodSlot : State := { State.reset with prot := { slotA := { state := .good } } }

theorem test_witness_boot :
    State.reset.mode.phase = .boot ∧ State.reset.prot.slotA.state = .empty ∧ State.reset.prot.slotB.state = .empty ∧
    goodSlot.prot.slotA.state = .good ∧ goodSlot.prot.slotB.state = .empty ∧ goodSlot.prot.trialFailed = false ∧
    ({ State.reset with mode := { phase := .starting } } : State).mode.phase = .starting ∧
    (({ up with time := { servo := .locked, offset := 1000000000 } } : State).at 0).time.traceOk = true ∧
    (({ up with time := { servo := .locked, offset := 1000000000 } } : State).at 0).now % 1000000000 = 0 := by decide +kernel

theorem test_witness_tokens :
    (∀ p ∈ up.mode.tokPending, ¬ (p.holder = .recorder ∧ p.unit = 3)) ∧ (∀ p ∈ up.mode.tokHeld, ¬ (p.1 = .recorder ∧ p.2.1 = 3)) ∧
    ({ up with mode := { tokPending := [⟨.lane, 31, 1, 0⟩] } } : State).mode.tokPending = [⟨.lane, 31, 1, 0⟩] ∧ 1 ≤ up.board.step ∧
    (up.core 15).job = none ∧ (up.engine 1).sheet = none ∧ (up.recCore 3).job = none := by decide +kernel

/-- An access of `n` bytes through the aperture at offset `o`. -/
def apertureAccess (write : Bool) (o n : Nat) : Access :=
  { cls := .med, write := write, first := dramBase + (guarded.reg Reg.glbAperture * 2097152 + o),
    last := dramBase + (guarded.reg Reg.glbAperture * 2097152 + o) + (n - 1) }

theorem test_witness_registers :
    up.serves 0 = true ∧ ownRead 0 = false ∧ counterUnit 0 = none ∧
    (up.serves 0x71000 = true ∧ ownRead 0x71000 = false ∧ counterUnit 0x71000 = some 0) ∧
    up.serves 0x20000 = true ∧ up.serves 0x20014 = true ∧ up.serves Reg.glbBarStray = true ∧
    guarded.up = true ∧
    (guarded.mpuCheck (apertureAccess false 0 8)).isNone = true ∧ (guarded.mpuCheck (apertureAccess true 4088 8)).isNone = true ∧
    (384 : BitVec 32).toNat + 128 ≤ 512 * guarded.adm.memSize ∧
    ({ up with glb := { apertureNext := some 1 } } : State).glb.apertureNext = some 1 ∧
    barListed 67108863 = false ∧ up.mode.phase = .up ∧ up.mode.mode ≠ .standby := by decide +kernel

/-- A tally running since 0, with a page of ring for its records or none. -/
def tallying (pages : List Nat) : State :=
  { up with prot := { tally := { running := true } }, adm := { tally := pages } }

theorem test_witness_tally :
    (tallying [512]).prot.tally.running = true ∧
    (tallying [512]).prot.tally.next ≤ ((tallying [512]).at 0).now ∧
    ((tallying [512]).at 0).latchOwed (tallying [512]).prot.tally.next = false ∧
    unread (tallying [512]).prot.tally.written ((tallying [512]).reg Reg.tallyRd) < (tallying [512]).tallyRoom ∧
    (tallying []).tallyRoom ≤ unread (tallying []).prot.tally.written ((tallying []).reg Reg.tallyRd) ∧ 0 < 1 := by decide +kernel

/-- An IDENT of a fixture. -/
def fixture : Ident :=
  { kind := 3, lane := 0, bondW := 1, rates := 7, channels := 0, version := 1, serial := 0, txT := 0, echo := 0, turn := 0 }

/-- A scan of a fixture bond on lane 31: set up or running, its dwell since 0. -/
def scanning (b : Bool) : State :=
  { proving with
    prov := { scan := { busy := b, dwellFrom := some 0 }, log := [⟨15, 1, 0, 0⟩] },
    bonds := [(31, { en := true, role := .fixture })],
    lanes := [(31, { first := 31, ident := some fixture })],
    regs := [(Reg.scanCfg, 31 + 10 * 2 ^ 16)] }

theorem test_witness_proving :
    (scanning false).mode.mode = .proving ∧ bit ((0x1F55 : BitVec 32).toNat &&& 0x1F77) 0 = true ∧
    bits ((0x1F55 : BitVec 32).toNat &&& 0x1F77) 2 1 ≠ 3 ∧ bits ((0x1F55 : BitVec 32).toNat &&& 0x1F77) 5 4 ≠ 3 ∧
    ((scanning false).injector 15).armed = false ∧ bit ((0 : BitVec 32).toNat &&& 0x1F77) 0 = false ∧ running.mode.mode ≠ .proving ∧
    (scanning false).prov.log = [⟨15, 1, 0, 0⟩] ∧ proving.prov.log = [] ∧
    ((scanning false).prov.scan.busy = false ∧ (scanning false).scanOk ((scanning false).reg Reg.scanCfg) = true) ∧
    proving.scanOk (proving.reg Reg.scanCfg) = false ∧ (scanning true).prov.scan.busy = true ∧
    (scanning true).prov.scan.dwellFrom = some 0 ∧ 0 + (scanning true).prov.scan.dwell * 1000000 ≤ ((scanning true).at 100000000).now := by
  decide +kernel

/-! ### Steps, memory, time -/

theorem test_witness_core :
    ({ up with pending := [.glyphCrcRefresh 0] } : State).pending = [.glyphCrcRefresh 0] ∧ up.pending = [] ∧ up.mode.phase = .up ∧
    (inPhase .standby).mode.phase = .standby ∧ Memory.wf up.dram = true ∧
    ({ up with prot := { fuse := 3, development := false } } : State).prot.development = false ∧
    storesBytes (.glyphCrcRefresh 0) = false ∧
    ((recState (recPic [] [] []) (some (15, 0)) 1).recCore 3).job = some (15, 0) ∧
    moving.dma = some (31, 5) ∧ (work (.copy false none 0 0 4096) .copying).order.op = .copy false none 0 0 4096 ∧
    wantedRate { freq := 5 } ≠ ({ freq := 5 } : TimeUnit).rate ∧ (up.at 0).time.lct < 2 ^ 64 ∧
    (Tab.get {} (showState.head 0).views 0 : WinView).state = .none := by decide +kernel

/-! ## Well-formedness: an ill-formed command for each check -/

theorem test_wf_bar4 : Instr.wf (.bar4Access 0 268435455 false 2 []) = false ∧ Instr.wf (.bar4Access 0 0 true 0 []) = false ∧
    Instr.wf (.bar4Access 0 0 false 0 []) = false ∧ Instr.wf (.bar4Access 0 268435454 false 2 []) = true := by decide
theorem test_wf_boot : Instr.wf (.bootComplete 0 16 6400 0 [(65536, 1)]) = false ∧ Instr.wf (.bootComplete 0 16 6400 0 [(65535, 1)]) = true ∧
    Instr.wf (.bootComplete 0 16 6400 0 [(1, 1), (0, 1)]) = false := by decide
theorem test_wf_debug : Instr.wf (.debugAccess 0 true (.mem 0) 0 []) = false ∧ Instr.wf (.debugAccess 0 false (.mem 0) 0 []) = false := by decide
theorem test_wf_latch : Instr.wf (.latch 0 0 0 [8192]) = false ∧ Instr.wf (.latch 0 0 0 [8191]) = true := by decide
theorem test_wf_ready_latch : Instr.wf (.readyDrivenLatch 0 0 none [8192]) = false ∧ Instr.wf (.forcedLatch 0 0 [8192]) = false := by decide
theorem test_wf_scanout : Instr.wf (.scanoutStart 0 0 [8192]) = false := by decide
theorem test_wf_link_ctrl : Instr.wf (.linkCtrlRx 0 0 0 0 256 .fixture) = false := by decide
theorem test_wf_video_line : Instr.wf (.videoLineRx 0 0 0 0 0 65536 [] .fixture) = false := by decide
theorem test_wf_frame_end : Instr.wf (.frameEndRx 0 0 0 0 0 65536 .fixture) = false := by decide
theorem test_wf_bad_packet : Instr.wf (.luskoBadPacketRx 0 0 0 .crc [(32, 1)]) = false := by decide
theorem test_wf_scan_dwell : Instr.wf (.scanDwellEnd 0 [(32, 1)]) = false := by decide
theorem test_wf_token : Instr.wf (.tokenRequest 0 .recorder 4) = false ∧ Instr.wf (.engineClockGate 0 .sheet 2) = false ∧
    Instr.wf (.tokenRequest 0 .lane 31) = true := by decide
theorem test_wf_audio : Instr.wf (.audioFrame 0 (List.replicate 33 0)) = false := by decide
theorem test_wf_palette : Instr.wf (.paletteEntriesRequest 0 (.can 0) [0]) = false := by decide
theorem test_wf_key_group : Instr.wf (.keyGroupEnd 0 0 [(128, 0)]) = false := by decide
theorem test_wf_image_chunk : Instr.wf (.imageChunkRx 0 0 []) = false := by decide
theorem test_wf_ats : Instr.wf (.atsInvalidateRx 0 0 0 0) = false := by decide

/-! ## Single steps; the expected values are the rules' own -/

/-- What a field of the next state is, if there is one. -/
def next {α : Type} (o : Host.Outcome State Fault Refusal) (f : State → α) : Option α :=
  match o with
  | .next s => some (f s)
  | _ => none

/-- R53: one SYS cycle is 625/24 ns, 26 and 1/24. -/
theorem test_tick : next (step up) (fun w => (w.time.lct, w.time.frac)) = some (26, 1) := by decide +kernel
/-- R80: LCT stands still in STANDBY. -/
theorem test_tick_standby : next (step (inPhase .standby)) (fun w => w.time.lct) = some 0 := by decide +kernel
/-- The command at the front runs, the rest waits. -/
theorem test_step : next (step { up with pending := [.watchdogKick 5, .watchdogKick 9] }) (fun w => (w.mode.lastKick, w.pending)) =
    some (5, [.watchdogKick 9]) := by decide +kernel
/-- R54: RATE is clamped to 500 ppm, 549,755,814 of 2^-40. -/
theorem test_rate_clamp : next (exec (.timeRateWrite 0 0x7FFFFFFF) (servoState .hold 0)) (fun w => w.time.freq) = some 549755814 := by
  decide +kernel
/-- R59: outside HOLD the write is discarded and counted in TIME.WR_REFUSED. -/
theorem test_rate_refused : next (exec (.timeRateWrite 0 5) up) (fun w => (w.time.rate, w.reg Reg.timeWrRefused)) = some (0, 1) := by
  decide +kernel
/-- R60: SNAP_SEQ counts snapshots. -/
theorem test_snapshot : next (exec (.timeSnapshot 7 1) up) (fun w => (w.time.snapSeq, w.time.snap.length)) = some (1, 8) := by
  decide +kernel
/-- R49: a stray read gives 0, is counted, and its offset is kept. -/
theorem test_stray : next (exec (.bar0StrayAccess 0 67108863 false) up)
    (fun w => (w.readData, w.reg Reg.glbBarStray, w.reg Reg.glbBarStrayOff)) = some (0, 1, 67108863) := by decide +kernel
/-- R50: a base beyond installed memory is ignored. -/
theorem test_aperture : next (exec (.apertureBaseWrite 0 385) guarded) (fun w => w.glb.apertureNext) = some none := by decide +kernel
/-- R102: a failure shows at once; RECOVER 3 needs three clean verdicts. -/
theorem test_window_state : nextState .live 15 3 .stale = (.stale, 0) ∧ nextState .stale 1 3 .live = (.stale, 2) ∧
    nextState .stale 2 3 .live = (.live, 3) ∧ nextState .snag 5 1 .never = (.never, 0) := by decide
/-- R112: the CRC-32 of IEEE 802.3; its published check value is over the digits 1 to 9. -/
theorem test_crc32 : crc32 [0x31, 0x32, 0x33, 0x34, 0x35, 0x36, 0x37, 0x38, 0x39] = 0xCBF43926 := by decide +kernel
/-- R398: SHA-256; the published digest of the three letters a, b, c. -/
theorem test_sha256 : (sha256 [0x61, 0x62, 0x63]).head? = some 0xBA7816BF := by decide +kernel
/-- R314: work queues take at most their size. -/
theorem test_doorbell : next (exec (.doorbellTailWrite 0 31 3 17) (working .nop .waiting))
    (fun w => ((w.queue 31 3).err, (w.queue 31 3).errCode)) = some (true, 1) := by decide +kernel
/-- R324, R325: an order of a reserved operation completes with status 4; the completion's bytes at 1 s. -/
theorem test_bad_op : next (exec (.badOp 0 31 5) (working (.bad 0xFF) .waiting)) (fun w => w.sent) =
    some [.completion 31 0 [7, 0, 3, 4, 0, 0, 0, 0, 0x00, 0xCA, 0x9A, 0x3B, 0, 0, 0, 0]] := by decide +kernel
/-- R450: outside PROVING an injector is not armed, and the write is counted. -/
theorem test_injector_refused : next (exec (.injectorArm 0 15 1) running) (fun w => ((w.injector 15).armed, w.reg Reg.provRefused)) =
    some (false, 1) := by decide +kernel
/-- R457: an empty log reads 0. -/
theorem test_log_empty : next (exec (.provLogPop 0) proving) (fun w => w.readData) = some 0 := by decide +kernel
/-- R378: NMT stop puts the node in STOPPED. -/
theorem test_nmt_stop : next (exec (.nmtStop 0 1) (served .run)) (fun w => ((w.canNode 1).nmt, (w.canNode 0).nmt)) = some (2, 0) := by
  decide +kernel
/-- R155: TRAIN ends in DOWN after 2 ms. -/
theorem test_train_timeout : next (exec (.laneTrainTimeout 0 31) (laneState .train 2000000)) (fun w => (w.lane 31).state) = some .down := by
  decide +kernel
/-- R140, R141: a context in FAULT is ARMED again after its retry time. -/
theorem test_retry : next (exec (.contextRetry 0 159) (netState .fault)) (fun w => (w.ctx 159).state) = some .armed := by decide +kernel
/-- R142: a channel without an eligible frame for its silence time is SILENT. -/
theorem test_silence : next (exec (.channelSilence 0 127) (netState .decode)) (fun w => (w.chan 127).state) = some .silent := by decide +kernel
/-- R217: an open bank that does not sum to 512 fails its SEAL at table 0, phase 0. -/
theorem test_seal : next (exec (.coefSeal 0 (.head 0) 3) (tableState {} .open_ 600))
    (fun w => Tab.get .valid (w.head 0).banks.state 3) = some .sealFailed := by decide +kernel
/-- R425: a thermal trip latches HOT and starts the way down. -/
theorem test_trip : next (exec (.thermalTrip 0) up) (fun w => (w.mode.trip, w.mode.hot, w.mode.downCause)) =
    some (true, true, some .thermal) := by decide +kernel
/-- R414: without firmware the ROM comes up in RECOVERY. -/
theorem test_recovery : next (exec (.romBoot 0 true false true true) State.reset) (fun w => w.mode.mode) = some .recovery := by
  decide +kernel
/-- R426: a software reset leaves DRAM empty and the cause SOFTWARE. -/
theorem test_reset : next (exec (.reset 0 0x5AFE) { served .run with dram := [(0, 1)] }) (fun w => (w.dram, w.aon.resetCause)) =
    some ([], .software) := by decide +kernel
/-- R50: bytes written through the aperture are read back, the first at the lowest address (R17). -/
theorem test_aperture_bytes : next (exec (.bar4Access 0 0 true 0 [0x34, 0x12]) guarded) (fun w => leNat [w.dramByte 0, w.dramByte 1]) = some 0x1234 := by
  decide +kernel
/-- An unlisted byte of memory that is written with what it reads as stays unlisted. -/
theorem test_memory_form : (Tab.set 0 [(4, 1)] 4 0 : List Host.Cell) = [] ∧ (Tab.set 0 [(4, 1)] 2 7 : List Host.Cell) = [(2, 7), (4, 1)] := by
  decide
/-- No word spells a command. -/
theorem test_decode : decodeTableWord 32 0xFFFFFFFF = none ∧ up.withFetchWord 32 1 = up := ⟨rfl, rfl⟩

end Sys2Proof.Tests
end

section
/-! Which frame of a source a head is released at an epoch, and what becomes of the others (R31, R34, R185). -/

namespace Sys2Proof.Machine

/-! ## Reading a buffer after an update -/

@[simp] theorem State.setBufs_bufs_self (s : State) (p : Pool) (b : Tab Frame) : (s.setBufs p b).bufs p = b := by
  cases p <;> simp [State.setBufs, State.bufs]

theorem State.setBufs_bufs_other (s : State) (p q : Pool) (b : Tab Frame) (h : q ≠ p) : (s.setBufs p b).bufs q = s.bufs q := by
  cases p <;> cases q <;> simp only [State.setBufs, State.bufs, State.setCtx_surf, State.setCtx_sheet, State.setSurf_ctx,
    State.setSurf_sheet, State.setSheet_ctx, State.setSheet_surf]
  case ctx.ctx => rw [State.setCtx_other _ _ _ _ (by simpa using h)]
  case surf.surf => rw [State.setSurf_other _ _ _ _ (by simpa using h)]
  case sheet.sheet => rw [State.setSheet_other _ _ _ _ (by simpa using h)]

theorem State.setFrame_frame_self (s : State) (r : FrameRef) (f : Frame) :
    (s.setFrame r f).frame r = if f.isFree then {} else f := by
  simp only [State.setFrame, State.frame, State.setBufs_bufs_self, Tab.get_set_self]

theorem State.setFrame_frame_other (s : State) (r q : FrameRef) (f : Frame) (h : q ≠ r) :
    (s.setFrame r f).frame q = s.frame q := by
  simp only [State.setFrame, State.frame]
  by_cases hp : q.pool = r.pool
  · have hb : q.buf ≠ r.buf := fun hb => h (by cases q; cases r; simp_all)
    rw [hp, State.setBufs_bufs_self, Tab.get_set_other _ _ _ _ _ _ hb]
  · rw [State.setBufs_bufs_other _ _ _ _ hp]

@[simp] theorem State.setFrame_heads (s : State) (r : FrameRef) (f : Frame) : (s.setFrame r f).heads = s.heads := by
  unfold State.setFrame State.setBufs
  split <;> simp

@[simp] theorem State.setFrame_regs (s : State) (r : FrameRef) (f : Frame) : (s.setFrame r f).regs = s.regs := by
  unfold State.setFrame State.setBufs
  split <;> simp

@[simp] theorem State.settlePending_heads (s : State) (src : Source) (r : FrameRef) :
    (s.settlePending src r).heads = s.heads := by
  simp only [State.settlePending]
  split <;> simp

@[simp] theorem State.settlePending_regs (s : State) (src : Source) (r : FrameRef) :
    (s.settlePending src r).regs = s.regs := by
  simp only [State.settlePending]
  split <;> simp

/-! ## The latest of several frames -/

theorem State.latestOf_eq_none (s : State) (l : List FrameRef) : s.latestOf l = none ↔ l = [] := by
  cases l with
  | nil => simp [State.latestOf]
  | cons a t =>
    simp only [State.latestOf]
    split
    · split <;> simp
    · simp

theorem State.latestOf_mem (s : State) (l : List FrameRef) (r : FrameRef) (h : s.latestOf l = some r) : r ∈ l := by
  induction l generalizing r with
  | nil => simp [State.latestOf] at h
  | cons a t ih =>
    simp only [State.latestOf] at h
    split at h
    case h_1 q hq =>
      split at h
      · obtain rfl : a = r := by simpa using h
        exact List.mem_cons_self
      · obtain rfl : q = r := by simpa using h
        exact List.mem_cons_of_mem a (ih q hq)
    case h_2 =>
      obtain rfl : a = r := by simpa using h
      exact List.mem_cons_self

theorem State.refUs_le_latestOf (s : State) (l : List FrameRef) (r : FrameRef) (h : s.latestOf l = some r) :
    ∀ q ∈ l, (s.frame q).refUs ≤ (s.frame r).refUs := by
  induction l generalizing r with
  | nil => simp
  | cons a t ih =>
    simp only [State.latestOf] at h
    rw [List.forall_mem_cons]
    split at h
    case h_1 q hq =>
      split at h
      case isTrue hlt =>
        obtain rfl : a = r := by simpa using h
        exact ⟨Int.le_refl _, fun x hx => Int.le_trans (ih q hq x hx) (Int.le_of_lt hlt)⟩
      case isFalse hlt =>
        obtain rfl : q = r := by simpa using h
        exact ⟨Int.not_lt.mp hlt, ih q hq⟩
    case h_2 hn =>
      obtain rfl : a = r := by simpa using h
      simp [(s.latestOf_eq_none t).mp hn]

/-! ## Frames a consumer is through with -/

/-- A consumer is through with a frame: it was given the frame or passed it over, or the frame keeps no PENDING mark (R34, R185). -/
def through (c : Consumer) (f : Frame) : Bool := consumerDone c f || !f.markPending

theorem State.isDue_of_through (s : State) (c : Consumer) (src : Source) (e : Nat) (f : Frame) (h : through c f = true) :
    s.isDue c src e f = false := by
  unfold State.isDue
  cases hd : consumerDone c f
  · have hp : f.markPending = false := by simpa [through, hd] using h
    simp [hp]
  · simp

theorem through_markDone (n : Fin 16) (f : Frame) : through (.head n) (consumerMarkDone (.head n) f) = true := by
  have hb : ∀ m : Fin 16, (BitVec.ofNat 16 (2 ^ m.val)).getLsbD m.val = true := by decide
  simp only [through, consumerDone, consumerMarkDone, BitVec.getLsbD_or, hb n, Bool.or_true, Bool.true_or]

theorem State.through_setFrame_self (s : State) (c : Consumer) (r : FrameRef) (f : Frame) (hf : through c f = true) :
    through c ((s.setFrame r f).frame r) = true := by
  rw [State.setFrame_frame_self]
  split
  · simp [through]
  · exact hf

/-- A buffer written with a frame the consumer is through with reopens no frame. -/
theorem State.through_setFrame (s : State) (c : Consumer) (r q : FrameRef) (f : Frame) (hf : through c f = true)
    (hq : through c (s.frame q) = true) : through c ((s.setFrame r f).frame q) = true := by
  by_cases h : q = r
  · subst h
    exact s.through_setFrame_self c q f hf
  · rwa [State.setFrame_frame_other _ _ _ _ h]

theorem State.through_settlePending (s : State) (c : Consumer) (src : Source) (r q : FrameRef)
    (hq : through c (s.frame q) = true) : through c ((s.settlePending src r).frame q) = true := by
  simp only [State.settlePending]
  split
  · exact s.through_setFrame c r q _ (by simp [through]) hq
  · exact hq

/-! ## The three parts of a release -/

/-- The consumer is through with every frame of `due`. -/
def State.markDone (s : State) (c : Consumer) (due : List FrameRef) : State :=
  due.foldl (fun s q => s.setFrame q (consumerMarkDone c (s.frame q))) s

/-- The frames of `due` but the released one give up PENDING where nobody else needs it. -/
def State.settleOthers (s : State) (src : Source) (r : FrameRef) (due : List FrameRef) : State :=
  due.foldl (fun s q => if q = r then s else s.settlePending src q) s

/-- A release marks every due frame, gives and counts the latest one, and settles the others. -/
theorem State.releaseSource_of_latest (s : State) (c : Consumer) (e : Nat) (src : Source) (r : FrameRef)
    (h : s.latestOf (s.dueFrames c src e) = some r) :
    s.releaseSource c e src =
      ((((s.markDone c (s.dueFrames c src e)).giveFrame c src r).countRelease src ((s.dueFrames c src e).length - 1)).settleOthers
        src r (s.dueFrames c src e)) := by
  simp only [State.releaseSource, h, State.markDone, State.settleOthers]

@[simp] theorem State.markDone_regs (s : State) (c : Consumer) (due : List FrameRef) : (s.markDone c due).regs = s.regs :=
  foldl_same State.regs _ (fun _ _ => State.setFrame_regs ..) due s

/-- Marking reopens no frame that the head is already through with. -/
theorem State.through_markDone_of_through (s : State) (n : Fin 16) (due : List FrameRef) (q : FrameRef)
    (hq : through (.head n) (s.frame q) = true) : through (.head n) ((s.markDone (.head n) due).frame q) = true :=
  List.foldlRecOn (motive := fun u : State => through (.head n) (u.frame q) = true) due _ hq
    fun u hu x _ => u.through_setFrame _ x q _ (through_markDone n _) hu

theorem State.through_markDone_of_mem (s : State) (n : Fin 16) (due : List FrameRef) (q : FrameRef) (hq : q ∈ due) :
    through (.head n) ((s.markDone (.head n) due).frame q) = true := by
  induction due generalizing s with
  | nil => simp at hq
  | cons a t ih =>
    rcases List.mem_cons.mp hq with rfl | ht
    · exact State.through_markDone_of_through _ n t q (s.through_setFrame_self _ q _ (through_markDone n _))
    · exact ih _ ht

@[simp] theorem State.settleOthers_heads (s : State) (src : Source) (r : FrameRef) (due : List FrameRef) :
    (s.settleOthers src r due).heads = s.heads :=
  foldl_same State.heads _ (fun u q => by split <;> simp) due s

@[simp] theorem State.settleOthers_regs (s : State) (src : Source) (r : FrameRef) (due : List FrameRef) :
    (s.settleOthers src r due).regs = s.regs :=
  foldl_same State.regs _ (fun u q => by split <;> simp) due s

theorem State.through_settleOthers (s : State) (c : Consumer) (src : Source) (r q : FrameRef) (due : List FrameRef)
    (hq : through c (s.frame q) = true) : through c ((s.settleOthers src r due).frame q) = true := by
  refine List.foldlRecOn (motive := fun u : State => through c (u.frame q) = true) due _ hq fun u hu x _ => ?_
  split
  · exact hu
  · exact u.through_settlePending c src x q hu

@[simp] theorem State.giveFrame_head_frame (s : State) (n : Nat) (src : Source) (r q : FrameRef) :
    (s.giveFrame (.head n) src r).frame q = s.frame q := by
  cases hp : q.pool <;> simp [State.frame, State.bufs, State.giveFrame, hp]

@[simp] theorem State.giveFrame_head_regs (s : State) (n : Nat) (src : Source) (r : FrameRef) :
    (s.giveFrame (.head n) src r).regs = s.regs := by
  simp [State.giveFrame]

/-- The head holds the frame it has just been given. -/
theorem State.giveFrame_released (s : State) (n : Nat) (src : Source) (r : FrameRef) :
    Tab.get none ((s.giveFrame (.head n) src r).head n).released src.key = some r := by
  simp only [State.giveFrame, State.setHead_self, Tab.get_set_self]

@[simp] theorem State.countRelease_heads (s : State) (src : Source) (d : Nat) : (s.countRelease src d).heads = s.heads := by
  cases src <;> simp [State.countRelease]

@[simp] theorem State.countRelease_frame (s : State) (src : Source) (d : Nat) (q : FrameRef) :
    (s.countRelease src d).frame q = s.frame q := by
  cases src <;> cases hp : q.pool <;> simp [State.countRelease, State.frame, State.bufs, hp]

/-! ## Channel counters (R437, R439) -/

theorem State.setReg_reg_other (s : State) (o q v : Nat) (h : q ≠ o) : (s.setReg o v).reg q = s.reg q :=
  Tab.get_set_other _ _ _ _ _ _ h

theorem State.chCount_reg_other (s : State) (c i n q : Nat) (hq : q ≠ Reg.chCount c i) (ho : q ≠ Reg.chOvf c) :
    (s.chCount c i n).reg q = s.reg q := by
  simp only [State.chCount]
  split
  · exact State.setReg_reg_other _ _ _ _ hq
  · rw [State.orReg, State.setReg_reg_other _ _ _ _ ho, State.setReg_reg_other _ _ _ _ hq]

/-- A channel counter wraps at 32 bits; the overflow register lies behind the 24 counters. -/
theorem State.chCount_reg_self (s : State) (c i n : Nat) (hi : i < 24) :
    (s.chCount c i n).reg (Reg.chCount c i) = (s.reg (Reg.chCount c i) + n) % 2 ^ 32 := by
  have ho : Reg.chCount c i ≠ Reg.chOvf c := by unfold Reg.chCount Reg.chOvf; omega
  simp only [State.chCount]
  split
  · exact State.setReg_self ..
  · rw [State.orReg, State.setReg_reg_other _ _ _ _ ho, State.setReg_self]

/-- Counter 2 of a channel counts the frames dropped; counter 1, the frames released, lies beside it. -/
theorem State.countRelease_dropped (s : State) (c d : Nat) :
    (s.countRelease (.ch c) d).reg (Reg.chCount c 2) = (s.reg (Reg.chCount c 2) + d) % 2 ^ 32 := by
  have h1 : Reg.chCount c 2 ≠ Reg.chCount c 1 := by unfold Reg.chCount; omega
  have ho : Reg.chCount c 2 ≠ Reg.chOvf c := by unfold Reg.chCount Reg.chOvf; omega
  rw [State.countRelease, State.chCount_reg_self _ _ _ _ (by omega), State.chCount_reg_other _ _ _ _ _ h1 ho]

/-! ## What a release leaves -/

section
variable (s : State) (n : Fin 16) (e : Nat) (src : Source) (r : FrameRef)
  (h : s.latestOf (s.dueFrames (.head n) src e) = some r)
include h

theorem State.releaseSource_released :
    Tab.get none ((s.releaseSource (.head n) e src).head n.val).released src.key = some r := by
  rw [s.releaseSource_of_latest _ _ _ _ h]
  simpa [State.head] using (s.markDone (.head n) (s.dueFrames (.head n) src e)).giveFrame_released n src r

theorem State.releaseSource_through (q : FrameRef) (hq : q ∈ s.dueFrames (.head n) src e) :
    through (.head n) ((s.releaseSource (.head n) e src).frame q) = true := by
  rw [s.releaseSource_of_latest _ _ _ _ h]
  apply State.through_settleOthers
  simpa using s.through_markDone_of_mem n _ q hq

end

theorem State.releaseSource_dropped (s : State) (n : Fin 16) (e c : Nat) (r : FrameRef)
    (h : s.latestOf (s.dueFrames (.head n) (.ch c) e) = some r) :
    (s.releaseSource (.head n) e (.ch c)).reg (Reg.chCount c 2) =
      (s.reg (Reg.chCount c 2) + ((s.dueFrames (.head n) (.ch c) e).length - 1)) % 2 ^ 32 := by
  rw [s.releaseSource_of_latest _ _ _ _ h]
  simpa [State.reg] using State.countRelease_dropped
    ((s.markDone (.head n) (s.dueFrames (.head n) (.ch c) e)).giveFrame (.head n) (.ch c) r) c _

/-- Settles O8: a release marks every due frame as done with on the head before it gives the latest one. -/
theorem onlyTheLatestDueFrameIsReleased : Obligations.OnlyTheLatestDueFrameIsReleased := by
  intro s n e src r h
  refine ⟨s.latestOf_mem _ r h, s.refUs_le_latestOf _ r h, s.releaseSource_released n e src r h, ?_, ?_⟩
  · exact fun q hq e' => State.isDue_of_through _ _ _ _ _ (s.releaseSource_through n e src r h q hq)
  · rintro c rfl
    exact s.releaseSource_dropped n e c r h

end Sys2Proof.Machine
end

section
/-! Accesses to BAR0 space that no block lists (R49). -/

namespace Sys2Proof.Machine

/-! ## The access -/

/-- A stray access at offset `o` is counted, and its offset kept if it is the first since BAR_STRAY was read. -/
def State.noteStray (s : State) (o : Nat) : State :=
  (if s.glb.straySeen then s
    else { s with glb := { s.glb with straySeen := true } }.setReg Reg.glbBarStrayOff o).count Reg.glbBarStray 1

theorem exec_bar0StrayAccess (t : Nat) (o : Fin 67108864) (write : Bool) (s : State) (hup : s.mode.phase = .up)
    (hs : s.mode.mode ≠ .standby) (ho : barListed o.val = false) :
    exec (.bar0StrayAccess t o write) s =
      .next (if write then (s.at t).noteStray o else { (s.at t).noteStray o with readData := 0 }) := by
  have hc : (s.at t).mode.phase = .up ∧ (s.at t).mode.mode ≠ .standby ∧ ¬ barListed o.val := by simp [hup, hs, ho]
  simp only [exec, execBar0StrayAccess, if_pos hc]
  rfl

theorem State.noteStray_barStray (s : State) (o : Nat) :
    (s.noteStray o).reg Reg.glbBarStray = satAdd32 (s.reg Reg.glbBarStray) 1 := by
  unfold State.noteStray
  split
  · exact State.count_self ..
  · rw [State.count_self, State.setReg_reg_other _ _ _ _ (by decide)]
    rfl

theorem State.noteStray_barStrayOff (s : State) (o : Nat) :
    (s.noteStray o).reg Reg.glbBarStrayOff = if s.glb.straySeen then s.reg Reg.glbBarStrayOff else o := by
  unfold State.noteStray State.count
  rw [State.setReg_reg_other _ _ _ _ (by decide)]
  split
  · rfl
  · exact State.setReg_self ..

theorem State.noteStray_reg_other (s : State) (o a : Nat) (h : a ≠ Reg.glbBarStray) (h' : a ≠ Reg.glbBarStrayOff) :
    (s.noteStray o).reg a = s.reg a := by
  unfold State.noteStray State.count
  rw [State.setReg_reg_other _ _ _ _ h]
  split
  · rfl
  · exact State.setReg_reg_other _ _ _ _ h'

theorem State.noteStray_straySeen (s : State) (o : Nat) : (s.noteStray o).glb.straySeen = true := by
  unfold State.noteStray
  split
  case isTrue h => exact h
  case isFalse => rfl

/-- Apart from the registers and the note in GLB, a stray access leaves the state as it was. -/
theorem State.noteStray_leaves (s : State) (o : Nat) :
    s.noteStray o = { s with glb := (s.noteStray o).glb, regs := (s.noteStray o).regs } := by
  unfold State.noteStray
  split <;> rfl

@[simp] theorem State.noteStray_readData (s : State) (o : Nat) : (s.noteStray o).readData = s.readData := by
  rw [s.noteStray_leaves o]
@[simp] theorem State.noteStray_dram (s : State) (o : Nat) : (s.noteStray o).dram = s.dram := by rw [s.noteStray_leaves o]
@[simp] theorem State.noteStray_heads (s : State) (o : Nat) : (s.noteStray o).heads = s.heads := by rw [s.noteStray_leaves o]
@[simp] theorem State.noteStray_ctxs (s : State) (o : Nat) : (s.noteStray o).ctxs = s.ctxs := by rw [s.noteStray_leaves o]

/-! ## The read that clears BAR_STRAY -/

theorem regRow_barStray : regRow? Reg.glbBarStray = some ⟨0x60, 1, 0x0, 1, 0x0, .rc, 0xFFFFFFFF, 0x0, 0x0⟩ := by decide

theorem State.readClear_barStray (s : State) : s.readClear Reg.glbBarStray =
    { s.setReg Reg.glbBarStray 0 with glb := { s.glb with straySeen := false } } := by
  simp [State.readClear, regRow_barStray]

/-- No other register and no latch goes with a read of BAR_STRAY. -/
theorem State.barRead_barStray (s : State) (h : s.serves Reg.glbBarStray = true) : s.barRead Reg.glbBarStray =
    { s.readClear Reg.glbBarStray with readData := s.readValue Reg.glbBarStray } := by
  have hown : ownRead Reg.glbBarStray = false := by decide
  have hcount : counterUnit Reg.glbBarStray = none := by decide
  have hlatch : latchedBy Reg.glbBarStray = [] := by decide
  simp [State.barRead, State.latchHigh, h, hown, hcount, hlatch]

theorem exec_registerReadClear_barStray (t : Nat) (s : State) (h : s.serves Reg.glbBarStray = true) :
    exec (.registerReadClear t (.bar0 0x60)) s =
      .next { (s.at t).readClear Reg.glbBarStray with readData := (s.at t).readValue Reg.glbBarStray } :=
  congrArg Host.Outcome.next ((s.at t).barRead_barStray h)

/-- Settles O58: a stray access only notes itself in BAR_STRAY and BAR_STRAY_OFF, and a read of BAR_STRAY clears the note. -/
theorem strayAccessesAreCounted : Obligations.StrayAccessesAreCounted := by
  intro t o s hup hs ho
  let u := s.at t
  have hstray := u.noteStray_barStray o
  have hoff := u.noteStray_barStrayOff o
  have hseen := u.noteStray_straySeen o
  refine ⟨⟨_, exec_bar0StrayAccess t o false s hup hs ho, rfl, hstray, hseen, hoff⟩,
    ⟨_, exec_bar0StrayAccess t o true s hup hs ho, hstray, hseen, hoff, u.noteStray_reg_other o,
      u.noteStray_readData o, u.noteStray_dram o, u.noteStray_heads o, u.noteStray_ctxs o⟩,
    fun h => ⟨_, exec_registerReadClear_barStray t s h, ?_, ?_⟩⟩
  · rw [State.readClear_barStray]
  · rw [State.readClear_barStray]
    exact State.setReg_self ..

end Sys2Proof.Machine
end

section
/-! Re-anchoring at a change of RATE, and native time across it (R54, R55). -/

namespace Sys2Proof.Machine

open Sys2Proof.Safety

/-! ## What the instant of a command keeps of the time unit -/

theorem State.at_time (s : State) (t : Nat) : (s.at t).time =
    { s.time with lct := (s.at t).time.lct, frac := (s.at t).time.frac, traceOk := (s.at t).time.traceOk } := by
  simp only [State.at]
  split <;> rfl

@[simp] theorem State.at_time_offset (s : State) (t : Nat) : (s.at t).time.offset = s.time.offset := by rw [s.at_time t]
@[simp] theorem State.at_time_anchor (s : State) (t : Nat) : (s.at t).time.anchor = s.time.anchor := by rw [s.at_time t]
@[simp] theorem State.at_time_rate (s : State) (t : Nat) : (s.at t).time.rate = s.time.rate := by rw [s.at_time t]
@[simp] theorem State.at_time_servo (s : State) (t : Nat) : (s.at t).time.servo = s.time.servo := by rw [s.at_time t]

/-! ## Native time -/

/-- OFFSET, ANCHOR and RATE alone make native time (R54). -/
theorem nativeAt_congr {u w : TimeUnit} (ho : w.offset = u.offset) (ha : w.anchor = u.anchor) (hr : w.rate = u.rate)
    (l : Nat) : nativeAt w l = nativeAt u l := by
  simp only [nativeAt, ho, ha, hr]

/-- At its ANCHOR no rate has run yet: native time is OFFSET and the count. -/
theorem nativeAt_anchor {u : TimeUnit} {l : Nat} (h : u.anchor.toNat = l) : nativeAt u l = u.offset + BitVec.ofInt 64 l := by
  simp [nativeAt, h]

/-- OFFSET takes exactly the floor that native time had run up, so re-anchoring moves no time (R55). -/
theorem nativeAt_reanchor (u : TimeUnit) (r : Int) (h : u.lct < 2 ^ 64) :
    nativeAt (reanchor u r) u.lct = nativeAt u u.lct := by
  have hanchor : (reanchor u r).anchor.toNat = u.lct := (BitVec.toNat_ofNat _ _).trans (Nat.mod_eq_of_lt h)
  rw [nativeAt_anchor hanchor]
  simp only [reanchor, nativeAt, BitVec.ofInt_add]
  rw [BitVec.add_assoc, BitVec.add_comm (BitVec.ofInt 64 _)]

/-! ## Applying the rate wanted -/

theorem applyRate_of_eq {u : TimeUnit} (h : wantedRate u = u.rate) : applyRate u = u := if_pos h

theorem applyRate_of_ne {u : TimeUnit} (h : wantedRate u ≠ u.rate) : applyRate u = reanchor u (wantedRate u) := if_neg h

theorem nativeAt_applyRate (u : TimeUnit) (h : u.lct < 2 ^ 64) : nativeAt (applyRate u) u.lct = nativeAt u u.lct := by
  by_cases hw : wantedRate u = u.rate
  · rw [applyRate_of_eq hw]
  · rw [applyRate_of_ne hw]
    exact nativeAt_reanchor u _ h

/-- Time unit `w` is `u` re-anchored at local count `l`, and native time there is the same in both (R55). -/
def Reanchored (u : TimeUnit) (l : Nat) (w : TimeUnit) : Prop :=
  w.offset = u.offset + BitVec.ofInt 64 (((l : Int) - (u.anchor.toNat : Int)) * u.rate / (2 ^ 40 : Nat)) ∧
    w.anchor = BitVec.ofNat 64 l ∧ nativeAt w l = nativeAt u l

/-- A command that sets what the servo wants and applies it re-anchors wherever RATE changes: it sets nothing native time is made of
(`ho`, `ha`, `hr`) before `applyRate` does. -/
theorem applyRate_reanchored {u v : TimeUnit} (ho : v.offset = u.offset) (ha : v.anchor = u.anchor) (hr : v.rate = u.rate)
    (hl : v.lct < 2 ^ 64) (hne : (applyRate v).rate ≠ u.rate) : Reanchored u v.lct (applyRate v) := by
  have hw : wantedRate v ≠ v.rate := by
    intro h
    rw [applyRate_of_eq h] at hne
    exact hne hr
  have hnative : nativeAt (applyRate v) v.lct = nativeAt u v.lct :=
    (nativeAt_applyRate v hl).trans (nativeAt_congr ho ha hr _)
  refine ⟨?_, ?_, hnative⟩
  · rw [applyRate_of_ne hw, ← ho, ← ha, ← hr]
    rfl
  · rw [applyRate_of_ne hw]
    rfl

/-! ## The commands -/

/-- TRACE_OK is no part of R55. -/
theorem Reanchored.refreshTrace {u : TimeUnit} {l : Nat} {s : State} (h : Reanchored u l s.time) :
    Reanchored u l s.refreshTrace.time := h

theorem exec_timeRateWrite_hold (t : Nat) (v : BitVec 32) (s : State) (h : s.time.servo = .hold) :
    exec (.timeRateWrite t v) s = .next ((s.at t).setTime (applyRate { foldSlew (s.at t).time with
      freq := clampI (-rateClamp) rateClamp v.toInt, freqs := [clampI (-rateClamp) rateClamp v.toInt], corr := 0 })).refreshTrace :=
  if_pos (by rw [State.at_time_servo, h])

theorem exec_slewComplete (t : Nat) (s : State) : exec (.slewComplete t) s =
    if (s.at t).time.slewRate ≠ 0 ∧ slewResidual (s.at t).time (s.at t).time.lct = 0 then
      .next ((s.at t).setTime (endSlew (s.at t).time)).refreshTrace
    else .next (s.at t) := rfl

theorem timeRateWrite_reanchored (t : Nat) (v : BitVec 32) (s : State) (hhold : s.time.servo = .hold)
    (hl : (s.at t).time.lct < 2 ^ 64) : gives (.timeRateWrite t v) s
      (fun w => w.time.rate ≠ s.time.rate → Reanchored s.time (s.at t).time.lct w.time) := by
  refine gives_of_next (exec_timeRateWrite_hold t v s hhold) fun hne => Reanchored.refreshTrace ?_
  exact applyRate_reanchored (s.at_time_offset t) (s.at_time_anchor t) (s.at_time_rate t) hl hne

theorem slewComplete_reanchored (t : Nat) (s : State) (hl : (s.at t).time.lct < 2 ^ 64) : gives (.slewComplete t) s
    (fun w => w.time.rate ≠ s.time.rate → Reanchored s.time (s.at t).time.lct w.time) := by
  by_cases hend : (s.at t).time.slewRate ≠ 0 ∧ slewResidual (s.at t).time (s.at t).time.lct = 0
  · refine gives_of_next ((exec_slewComplete t s).trans (if_pos hend)) fun hne => Reanchored.refreshTrace ?_
    exact applyRate_reanchored (s.at_time_offset t) (s.at_time_anchor t) (s.at_time_rate t) hl hne
  · exact gives_of_next ((exec_slewComplete t s).trans (if_neg hend)) fun hne => absurd (s.at_time_rate t) hne

/-- Settles O7: both commands change RATE through `applyRate` alone, and a re-anchored OFFSET holds what the old rate had run up. -/
theorem rateChangesReanchor : Obligations.RateChangesReanchor := by
  refine ⟨fun u hw => ?_, nativeAt_applyRate, timeRateWrite_reanchored, slewComplete_reanchored⟩
  rw [applyRate_of_ne hw]
  exact ⟨rfl, rfl, rfl, rfl⟩

end Sys2Proof.Machine
end

section
/-! Every command answers a next state, which keeps the queue of waiting commands, the fuses, the key store, the lifecycle of a production
part and the canonical form of device memory. -/

namespace Sys2Proof.Machine

open Sys2Proof.Safety

/-- A command's outcome is a next state that keeps what `KeptRel` names. -/
def Keeps (s : State) (o : Host.Outcome State Fault Refusal) : Prop := ∃ w, o = .next w ∧ KeptRel s.kept w.kept

@[simp] theorem keeps_next (s w : State) : Keeps s (.next w) ↔ KeptRel s.kept w.kept := by
  constructor
  · rintro ⟨u, e, p⟩
    cases e
    exact p
  · exact fun p => ⟨w, rfl, p⟩

@[simp] theorem keeps_ite (s : State) (c : Prop) [Decidable c] (a b : Host.Outcome State Fault Refusal) :
    Keeps s (if c then a else b) ↔ if c then Keeps s a else Keeps s b := by split <;> rfl

/-! ## One lemma per command -/

@[simp] theorem execAdmissionRequestJudge_keeps (t) (s : State) : Keeps s (execAdmissionRequestJudge t s) := by
  unfold execAdmissionRequestJudge
  simp

@[simp] theorem execBlobApply_keeps (t) (s : State) : Keeps s (execBlobApply t s) := by
  unfold execBlobApply
  simp

@[simp] theorem execBlobReadComplete_keeps (t data) (s : State) : Keeps s (execBlobReadComplete t data s) := by
  unfold execBlobReadComplete
  dsimp only
  split
  · exact (keeps_next ..).mpr (State.place_kept _ _ _ (by simp))
  · simp

@[simp] theorem execEccZonesWrite_keeps (t v) (s : State) : Keeps s (execEccZonesWrite t v s) := by
  unfold execEccZonesWrite
  simp

@[simp] theorem execApertureBaseWrite_keeps (t v) (s : State) : Keeps s (execApertureBaseWrite t v s) := by
  unfold execApertureBaseWrite
  simp

@[simp] theorem execApertureBaseSwitch_keeps (t) (s : State) : Keeps s (execApertureBaseSwitch t s) := by
  unfold execApertureBaseSwitch
  dsimp only
  repeat' split
  all_goals simp

@[simp] theorem execBar0StrayAccess_keeps (t o write) (s : State) : Keeps s (execBar0StrayAccess t o write s) := by
  unfold execBar0StrayAccess
  simp

@[simp] theorem execBar4Access_keeps (t o write n data) (s : State) : Keeps s (execBar4Access t o write n data s) := by
  unfold execBar4Access
  dsimp only
  repeat' split
  all_goals simp

@[simp] theorem execRegisterWrite_keeps (t a v) (s : State) : Keeps s (execRegisterWrite t a v s) := by
  unfold execRegisterWrite
  split <;> simp

@[simp] theorem execRegisterReadClear_keeps (t a) (s : State) : Keeps s (execRegisterReadClear t a s) := by
  unfold execRegisterReadClear
  split <;> simp

@[simp] theorem execFrameRelease_keeps (t c) (s : State) : Keeps s (execFrameRelease t c s) := by
  unfold execFrameRelease
  split <;> simp

@[simp] theorem execLatch_keeps (t h phase bad) (s : State) : Keeps s (execLatch t h phase bad s) := by
  unfold execLatch
  simp

@[simp] theorem execGenerationSwitch_keeps (t c) (s : State) : Keeps s (execGenerationSwitch t c s) := by
  unfold execGenerationSwitch
  split <;> simp

@[simp] theorem execGenShadowCopyComplete_keeps (t) (s : State) : Keeps s (execGenShadowCopyComplete t s) := by
  unfold execGenShadowCopyComplete
  dsimp only
  repeat' split
  all_goals simp

@[simp] theorem execPairComparison_keeps (t h) (s : State) : Keeps s (execPairComparison t h s) := by
  unfold execPairComparison
  dsimp only
  repeat' split
  all_goals simp

@[simp] theorem execTouchScanStart_keeps (t p) (s : State) : Keeps s (execTouchScanStart t p s) := by
  unfold execTouchScanStart
  simp

@[simp] theorem execTallyEdge_keeps (t) (s : State) : Keeps s (execTallyEdge t s) := by
  have hsync : ((List.range 39).foldl State.syncUnit (s.at t)).kept = s.kept := by simp [kept_foldl]
  unfold execTallyEdge
  extract_lets u y edge after v put base x due c d
  have hput : ∀ (k : Kept) (a : State) (z : TallyUnit), KeptRel k a.kept → KeptRel k (put a z).kept := fun _ _ _ h => h
  have hv : KeptRel s.kept v.kept := by rw [show v.kept = s.kept from hsync]; exact KeptRel.refl _
  simp only [keeps_ite, keeps_next]
  split
  · split
    · exact hput _ _ _ (State.dramWrite_kept _ _ _ _ hv)
    · have hd : KeptRel s.kept d.kept := hput _ _ _ (by rw [State.count_kept]; exact hv)
      split
      · rw [State.emit_kept]
        exact hd
      · exact hd
  · simp [u]

@[simp] theorem execTimeRateWrite_keeps (t v) (s : State) : Keeps s (execTimeRateWrite t v s) := by
  unfold execTimeRateWrite
  simp

@[simp] theorem execTimeAdjCommit_keeps (t hi) (s : State) : Keeps s (execTimeAdjCommit t hi s) := by
  unfold execTimeAdjCommit
  simp

@[simp] theorem execServoHold_keeps (t) (s : State) : Keeps s (execServoHold t s) := by
  unfold execServoHold
  simp

@[simp] theorem execServoRelease_keeps (t) (s : State) : Keeps s (execServoRelease t s) := by
  unfold execServoRelease
  simp

@[simp] theorem execTimeSnapshot_keeps (t v) (s : State) : Keeps s (execTimeSnapshot t v s) := by
  unfold execTimeSnapshot
  simp

@[simp] theorem execPtpMessageRx_keeps (t port domain msg) (s : State) : Keeps s (execPtpMessageRx t port domain msg s) := by
  unfold execPtpMessageRx
  dsimp only
  repeat' split
  all_goals simp

@[simp] theorem execDelayReqSend_keeps (t port d seq tag) (s : State) : Keeps s (execDelayReqSend t port d seq tag s) := by
  unfold execDelayReqSend
  simp

@[simp] theorem execDomainLost_keeps (t d) (s : State) : Keeps s (execDomainLost t d s) := by
  unfold execDomainLost
  simp

@[simp] theorem execSlewComplete_keeps (t) (s : State) : Keeps s (execSlewComplete t s) := by
  unfold execSlewComplete
  simp

@[simp] theorem execTraceTolReached_keeps (t) (s : State) : Keeps s (execTraceTolReached t s) := by
  unfold execTraceTolReached
  simp

@[simp] theorem execHoldoverExpire_keeps (t) (s : State) : Keeps s (execHoldoverExpire t s) := by
  unfold execHoldoverExpire
  simp

@[simp] theorem execDomainRevert_keeps (t) (s : State) : Keeps s (execDomainRevert t s) := by
  unfold execDomainRevert
  dsimp only
  repeat' split
  all_goals simp

@[simp] theorem execLockWaitExpire_keeps (t) (s : State) : Keeps s (execLockWaitExpire t s) := by
  unfold execLockWaitExpire
  dsimp only
  repeat' split
  all_goals simp

@[simp] theorem execGoModeChange_keeps (t) (s : State) : Keeps s (execGoModeChange t s) := by
  unfold execGoModeChange
  simp

@[simp] theorem execTxqPop_keeps (t port) (s : State) : Keeps s (execTxqPop t port s) := by
  unfold execTxqPop
  simp

@[simp] theorem execLtbEpochCommit_keeps (t n hi) (s : State) : Keeps s (execLtbEpochCommit t n hi s) := by
  unfold execLtbEpochCommit
  simp

@[simp] theorem execTtoArm_keeps (t n hi) (s : State) : Keeps s (execTtoArm t n hi s) := by
  unfold execTtoArm
  simp

@[simp] theorem execTtoCtrlWrite_keeps (t n v) (s : State) : Keeps s (execTtoCtrlWrite t n v s) := by
  unfold execTtoCtrlWrite
  simp

@[simp] theorem execTtoEdge_keeps (t n) (s : State) : Keeps s (execTtoEdge t n s) := by
  unfold execTtoEdge
  simp

@[simp] theorem execPpsOutEdge_keeps (t) (s : State) : Keeps s (execPpsOutEdge t s) := by
  unfold execPpsOutEdge
  simp

@[simp] theorem execTciEdge_keeps (t n rising) (s : State) : Keeps s (execTciEdge t n rising s) := by
  unfold execTciEdge
  simp

@[simp] theorem execTciStampPop_keeps (t n) (s : State) : Keeps s (execTciStampPop t n s) := by
  unfold execTciStampPop
  simp

@[simp] theorem execExpirySweepVisit_keeps (t r) (s : State) : Keeps s (execExpirySweepVisit t r s) := by
  unfold execExpirySweepVisit
  simp

@[simp] theorem execSheetEpoch_keeps (t n) (s : State) : Keeps s (execSheetEpoch t n s) := by
  unfold execSheetEpoch
  dsimp only
  repeat' split
  all_goals simp [kept_foldl]

@[simp] theorem execSheetTileComplete_keeps (t e stalls rd wr) (s : State) :
    Keeps s (execSheetTileComplete t e stalls rd wr s) := by
  unfold execSheetTileComplete
  dsimp only
  repeat' split
  all_goals simp [kept_foldl]

@[simp] theorem execSheetPageFault_keeps (t u) (s : State) : Keeps s (execSheetPageFault t u s) := by
  unfold execSheetPageFault
  dsimp only
  repeat' split
  all_goals simp

@[simp] theorem execSheetFaultResume_keeps (t n) (s : State) : Keeps s (execSheetFaultResume t n s) := by
  unfold execSheetFaultResume
  dsimp only
  repeat' split
  all_goals simp

@[simp] theorem execEthDatagramRx_keeps (t port f alt) (s : State) : Keeps s (execEthDatagramRx t port f alt s) := by
  unfold execEthDatagramRx
  simp

@[simp] theorem execMembershipReportSend_keeps (t) (s : State) : Keeps s (execMembershipReportSend t s) := by
  refine (keeps_next ..).mpr ?_
  rw [kept_foldl]
  · simp
  · intro x n
    dsimp only
    split <;> simp

@[simp] theorem execPathDownTimeout_keeps (t n p) (s : State) : Keeps s (execPathDownTimeout t n p s) := by
  unfold execPathDownTimeout
  dsimp only
  repeat' split
  all_goals simp

@[simp] theorem execAuDeadline_keeps (t n) (s : State) : Keeps s (execAuDeadline t n s) := by
  unfold execAuDeadline
  dsimp only
  repeat' split
  all_goals simp

@[simp] theorem execContextRetry_keeps (t n) (s : State) : Keeps s (execContextRetry t n s) := by
  unfold execContextRetry
  dsimp only
  repeat' split
  all_goals simp

@[simp] theorem execChannelSilence_keeps (t ch) (s : State) : Keeps s (execChannelSilence t ch s) := by
  unfold execChannelSilence
  dsimp only
  repeat' split
  all_goals simp

@[simp] theorem execRtcpSrRx_keeps (t n ntp rtp) (s : State) : Keeps s (execRtcpSrRx t n ntp rtp s) := by
  unfold execRtcpSrRx
  dsimp only
  repeat' split
  all_goals simp

@[simp] theorem execSrAgeExpire_keeps (t n) (s : State) : Keeps s (execSrAgeExpire t n s) := by
  unfold execSrAgeExpire
  dsimp only
  repeat' split
  all_goals simp

@[simp] theorem execSalvoPrepare_keeps (t p k) (s : State) : Keeps s (execSalvoPrepare t p k s) := by
  unfold execSalvoPrepare
  simp

@[simp] theorem execSalvoCommit_keeps (t p k) (s : State) : Keeps s (execSalvoCommit t p k s) := by
  unfold execSalvoCommit
  simp

@[simp] theorem execSalvoCancel_keeps (t p k) (s : State) : Keeps s (execSalvoCancel t p k s) := by
  unfold execSalvoCancel
  simp

@[simp] theorem execSalvoSwitch_keeps (t k) (s : State) : Keeps s (execSalvoSwitch t k s) := by
  unfold execSalvoSwitch
  dsimp only
  repeat' split
  all_goals simp [kept_foldl]

@[simp] theorem execCruiseSweep_keeps (t) (s : State) : Keeps s (execCruiseSweep t s) := by
  unfold execCruiseSweep
  dsimp only
  repeat' split
  all_goals simp [kept_foldl]

@[simp] theorem execLaneTrainComplete_keeps (t b) (s : State) : Keeps s (execLaneTrainComplete t b s) := by
  unfold execLaneTrainComplete
  simp

@[simp] theorem execLaneTrainTimeout_keeps (t l) (s : State) : Keeps s (execLaneTrainTimeout t l s) := by
  unfold execLaneTrainTimeout
  dsimp only
  repeat' split
  all_goals simp [kept_foldl]

@[simp] theorem execLaneSlip_keeps (t l full) (s : State) : Keeps s (execLaneSlip t l full s) := by
  unfold execLaneSlip
  simp

@[simp] theorem execLaneAlignLoss_keeps (t l errs aln) (s : State) : Keeps s (execLaneAlignLoss t l errs aln s) := by
  unfold execLaneAlignLoss
  simp

@[simp] theorem execIdentRx_keeps (t l d alt) (s : State) : Keeps s (execIdentRx t l d alt s) := by
  unfold execIdentRx
  simp

@[simp] theorem execLinkCtrlRx_keeps (t l chan q op alt) (s : State) : Keeps s (execLinkCtrlRx t l chan q op alt s) := by
  unfold execLinkCtrlRx
  simp

@[simp] theorem execFrameStartRx_keeps (t l chan q f alt) (s : State) : Keeps s (execFrameStartRx t l chan q f alt s) := by
  unfold execFrameStartRx
  simp

@[simp] theorem execVideoLineRx_keeps (t l chan q frame line px alt) (s : State) :
    Keeps s (execVideoLineRx t l chan q frame line px alt s) := by
  unfold execVideoLineRx
  simp

@[simp] theorem execFrameEndRx_keeps (t l chan q frame lines alt) (s : State) :
    Keeps s (execFrameEndRx t l chan q frame lines alt s) := by
  unfold execFrameEndRx
  simp

@[simp] theorem execLuskoBadPacketRx_keeps (t l chan why errs) (s : State) :
    Keeps s (execLuskoBadPacketRx t l chan why errs s) := by
  unfold execLuskoBadPacketRx
  simp

@[simp] theorem execFixturePacketRx_keeps (t l chan q alt) (s : State) : Keeps s (execFixturePacketRx t l chan q alt s) := by
  unfold execFixturePacketRx
  simp

@[simp] theorem execLuskoTimeSend_keeps (t) (s : State) : Keeps s (execLuskoTimeSend t s) := by
  unfold execLuskoTimeSend
  simp [kept_foldl]

@[simp] theorem execCaptureFrameTimeout_keeps (t n) (s : State) : Keeps s (execCaptureFrameTimeout t n s) := by
  unfold execCaptureFrameTimeout
  dsimp only
  repeat' split
  all_goals simp

@[simp] theorem execFastIdleEntry_keeps (t l tx) (s : State) : Keeps s (execFastIdleEntry t l tx s) := by
  unfold execFastIdleEntry
  dsimp only
  repeat' split
  all_goals simp [kept_foldl]

@[simp] theorem execFastIdleExit_keeps (t l tx aligned) (s : State) : Keeps s (execFastIdleExit t l tx aligned s) := by
  unfold execFastIdleExit
  dsimp only
  repeat' split
  all_goals simp [kept_foldl]

@[simp] theorem execDeepOffRequest_keeps (t l) (s : State) : Keeps s (execDeepOffRequest t l s) := by
  unfold execDeepOffRequest
  simp

@[simp] theorem execDeepWakeRequest_keeps (t l) (s : State) : Keeps s (execDeepWakeRequest t l s) := by
  unfold execDeepWakeRequest
  simp

@[simp] theorem execSquelchActivity_keeps (t l ns) (s : State) : Keeps s (execSquelchActivity t l ns s) := by
  unfold execSquelchActivity
  simp

@[simp] theorem execLaneWakeAligned_keeps (t l) (s : State) : Keeps s (execLaneWakeAligned t l s) := by
  unfold execLaneWakeAligned
  simp

@[simp] theorem execDeepWakeTimeout_keeps (t l) (s : State) : Keeps s (execDeepWakeTimeout t l s) := by
  unfold execDeepWakeTimeout
  simp

@[simp] theorem execDecodeJobStart_keeps (t n part start dpb) (s : State) :
    Keeps s (execDecodeJobStart t n part start dpb s) := by
  unfold execDecodeJobStart
  dsimp only
  repeat' split
  all_goals simp

@[simp] theorem execDecodeRowComplete_keeps (t k d) (s : State) : Keeps s (execDecodeRowComplete t k d s) := by
  unfold execDecodeRowComplete
  dsimp only
  repeat' split
  all_goals simp

@[simp] theorem execDecodePageFault_keeps (t u) (s : State) : Keeps s (execDecodePageFault t u s) := by
  unfold execDecodePageFault
  dsimp only
  repeat' split
  all_goals simp

@[simp] theorem execDecodeFaultResume_keeps (t n part) (s : State) : Keeps s (execDecodeFaultResume t n part s) := by
  unfold execDecodeFaultResume
  dsimp only
  repeat' split
  all_goals simp

@[simp] theorem execDecodePoolTimeout_keeps (t n) (s : State) : Keeps s (execDecodePoolTimeout t n s) := by
  unfold execDecodePoolTimeout
  dsimp only
  repeat' split
  all_goals simp

@[simp] theorem execWinGenOpen_keeps (t) (s : State) : Keeps s (execWinGenOpen t s) := by
  unfold execWinGenOpen
  simp

@[simp] theorem execWinGenCommit_keeps (t) (s : State) : Keeps s (execWinGenCommit t s) := by
  unfold execWinGenCommit
  dsimp only
  split
  · simp
  · split
    · exact (keeps_next ..).mpr (State.request_kept _ _ _ _ (by simp))
    · simp

@[simp] theorem execWinGenAbandon_keeps (t) (s : State) : Keeps s (execWinGenAbandon t s) := by
  unfold execWinGenAbandon
  simp

@[simp] theorem execWindowDescriptorWrite_keeps (t g w k v) (s : State) : Keeps s (execWindowDescriptorWrite t g w k v s) := by
  unfold execWindowDescriptorWrite
  simp

@[simp] theorem execCoefOpen_keeps (t u b) (s : State) : Keeps s (execCoefOpen t u b s) := by
  unfold execCoefOpen
  simp

@[simp] theorem execCoefSeal_keeps (t u b) (s : State) : Keeps s (execCoefSeal t u b s) := by
  unfold execCoefSeal
  dsimp only
  repeat' split
  all_goals simp

@[simp] theorem execCoefWrite_keeps (t u b k v) (s : State) : Keeps s (execCoefWrite t u b k v s) := by
  unfold execCoefWrite
  simp

@[simp] theorem execBgColorWrite_keeps (t h v) (s : State) : Keeps s (execBgColorWrite t h v s) := by
  unfold execBgColorWrite
  simp

@[simp] theorem execSafelightApply_keeps (t h) (s : State) : Keeps s (execSafelightApply t h s) := by
  unfold execSafelightApply
  simp

@[simp] theorem execGlyphCrcRefresh_keeps (t) (s : State) : Keeps s (execGlyphCrcRefresh t s) := by
  unfold execGlyphCrcRefresh
  simp

@[simp] theorem execReadyDrivenLatch_keeps (t h line bad) (s : State) : Keeps s (execReadyDrivenLatch t h line bad s) := by
  unfold execReadyDrivenLatch
  simp

@[simp] theorem execForcedLatch_keeps (t h bad) (s : State) : Keeps s (execForcedLatch t h bad s) := by
  unfold execForcedLatch
  simp

@[simp] theorem execScanoutStart_keeps (t h late) (s : State) : Keeps s (execScanoutStart t h late s) := by
  unfold execScanoutStart
  simp

@[simp] theorem execSignatureBlockSend_keeps (t h fetched latent) (s : State) :
    Keeps s (execSignatureBlockSend t h fetched latent s) := by
  unfold execSignatureBlockSend
  dsimp only
  repeat' split
  all_goals simp

@[simp] theorem execPrefetchStart_keeps (t h w p) (s : State) : Keeps s (execPrefetchStart t h w p s) := by
  unfold execPrefetchStart
  dsimp only
  repeat' split
  all_goals simp

@[simp] theorem execUnderrunPixel_keeps (t h pipe x y fault) (s : State) :
    Keeps s (execUnderrunPixel t h pipe x y fault s) := by
  unfold execUnderrunPixel
  split <;> simp

@[simp] theorem execFetchLevelChange_keeps (t h pipe lines spans) (s : State) :
    Keeps s (execFetchLevelChange t h pipe lines spans s) := by
  unfold execFetchLevelChange
  dsimp only
  repeat' split
  all_goals simp [kept_foldl]

@[simp] theorem execHeadRasterStart_keeps (t h) (s : State) : Keeps s (execHeadRasterStart t h s) := by
  unfold execHeadRasterStart
  simp

@[simp] theorem execHeadRasterStop_keeps (t h) (s : State) : Keeps s (execHeadRasterStop t h s) := by
  unfold execHeadRasterStop
  dsimp only
  repeat' split
  all_goals simp

@[simp] theorem execHpdPresent_keeps (t h r) (s : State) : Keeps s (execHpdPresent t h r s) := by
  unfold execHpdPresent
  simp

@[simp] theorem execHpdGone_keeps (t h) (s : State) : Keeps s (execHpdGone t h s) := by
  unfold execHpdGone
  simp

@[simp] theorem execIrqHpd_keeps (t h ok) (s : State) : Keeps s (execIrqHpd t h ok s) := by
  unfold execIrqHpd
  simp

@[simp] theorem execLinkTrainingAttempt_keeps (t h) (s : State) : Keeps s (execLinkTrainingAttempt t h s) := by
  unfold execLinkTrainingAttempt
  extract_lets u x v k spread dpcd w
  have hv : v.kept = s.kept := by simp only [v]; split <;> simp [u]
  split
  · cases k.tries.head? <;> simp [w, hv]
  · simp [u]

@[simp] theorem execLinkTrainingDone_keeps (t h ok) (s : State) : Keeps s (execLinkTrainingDone t h ok s) := by
  unfold execLinkTrainingDone
  dsimp only
  repeat' split
  all_goals simp

@[simp] theorem execLinkRetry_keeps (t h) (s : State) : Keeps s (execLinkRetry t h s) := by
  unfold execLinkRetry
  simp

@[simp] theorem execRecPictureStart_keeps (t r part) (s : State) : Keeps s (execRecPictureStart t r part s) := by
  unfold execRecPictureStart
  dsimp only
  repeat' split
  all_goals simp

@[simp] theorem execRecRowComplete_keeps (t k coded filler stalls wasted rd wr body) (s : State) :
    Keeps s (execRecRowComplete t k coded filler stalls wasted rd wr body s) := by
  unfold execRecRowComplete
  dsimp only
  repeat' split
  all_goals simp

@[simp] theorem execRecPageFault_keeps (t u) (s : State) : Keeps s (execRecPageFault t u s) := by
  unfold execRecPageFault
  dsimp only
  repeat' split
  all_goals simp

@[simp] theorem execRecFaultResume_keeps (t r part) (s : State) : Keeps s (execRecFaultResume t r part s) := by
  unfold execRecFaultResume
  dsimp only
  repeat' split
  all_goals simp

@[simp] theorem execBsRdWrite_keeps (t r hi) (s : State) : Keeps s (execBsRdWrite t r hi s) := by
  unfold execBsRdWrite
  simp

@[simp] theorem execRecRtpTransmit_keeps (t r packets bytes) (s : State) :
    Keeps s (execRecRtpTransmit t r packets bytes s) := by
  unfold execRecRtpTransmit
  dsimp only
  repeat' split
  all_goals simp

@[simp] theorem execPairJoin_keeps (t) (s : State) : Keeps s (execPairJoin t s) := by
  unfold execPairJoin
  simp

@[simp] theorem execPairLeave_keeps (t) (s : State) : Keeps s (execPairLeave t s) := by
  unfold execPairLeave
  simp

@[simp] theorem execPairSwitchover_keeps (t) (s : State) : Keeps s (execPairSwitchover t s) := by
  unfold execPairSwitchover
  simp

@[simp] theorem execPairActInRise_keeps (t) (s : State) : Keeps s (execPairActInRise t s) := by
  unfold execPairActInRise
  simp

@[simp] theorem execPairActInLost_keeps (t) (s : State) : Keeps s (execPairActInLost t s) := by
  unfold execPairActInLost
  simp

@[simp] theorem execSideBGoTimeout_keeps (t) (s : State) : Keeps s (execSideBGoTimeout t s) := by
  unfold execSideBGoTimeout
  dsimp only
  repeat' split
  all_goals simp

@[simp] theorem execJoinRetry_keeps (t) (s : State) : Keeps s (execJoinRetry t s) := by
  unfold execJoinRetry
  dsimp only
  repeat' split
  all_goals simp

@[simp] theorem execJoinEpoch_keeps (t) (s : State) : Keeps s (execJoinEpoch t s) := by
  unfold execJoinEpoch
  dsimp only
  repeat' split
  all_goals simp

@[simp] theorem execJoinMaxExpire_keeps (t) (s : State) : Keeps s (execJoinMaxExpire t s) := by
  unfold execJoinMaxExpire
  simp

@[simp] theorem execPairSyncSend_keeps (t) (s : State) : Keeps s (execPairSyncSend t s) := by
  unfold execPairSyncSend
  dsimp only
  repeat' split
  all_goals simp

@[simp] theorem execPairSyncRx_keeps (t q v alt) (s : State) : Keeps s (execPairSyncRx t q v alt s) := by
  unfold execPairSyncRx
  simp

@[simp] theorem execManifestRx_keeps (t q m alt) (s : State) : Keeps s (execManifestRx t q m alt s) := by
  unfold execManifestRx
  simp

@[simp] theorem execCommandRx_keeps (t q c alt) (s : State) : Keeps s (execCommandRx t q c alt s) := by
  unfold execCommandRx
  simp

@[simp] theorem execReqFwdRx_keeps (t q k r alt) (s : State) : Keeps s (execReqFwdRx t q k r alt s) := by
  unfold execReqFwdRx
  simp

@[simp] theorem execFillReqRx_keeps (t q c mseq share alt) (s : State) : Keeps s (execFillReqRx t q c mseq share alt s) := by
  unfold execFillReqRx
  simp

@[simp] theorem execFillDataRx_keeps (t q c mseq content alt) (s : State) :
    Keeps s (execFillDataRx t q c mseq content alt s) := by
  unfold execFillDataRx
  simp

@[simp] theorem execSurfDataRx_keeps (t q k mseq complete px alt) (s : State) :
    Keeps s (execSurfDataRx t q k mseq complete px alt s) := by
  unfold execSurfDataRx
  simp

@[simp] theorem execSignatureRx_keeps (t q b alt) (s : State) : Keeps s (execSignatureRx t q b alt s) := by
  unfold execSignatureRx
  simp

@[simp] theorem execHealthRx_keeps (t q h alt) (s : State) : Keeps s (execHealthRx t q h alt s) := by
  unfold execHealthRx
  simp

@[simp] theorem execControlRx_keeps (t q c alt) (s : State) : Keeps s (execControlRx t q c alt s) := by
  unfold execControlRx
  simp

@[simp] theorem execPairSkewTimeout_keeps (t) (s : State) : Keeps s (execPairSkewTimeout t s) := by
  unfold execPairSkewTimeout
  dsimp only
  repeat' split
  all_goals simp

@[simp] theorem execFillTimeout_keeps (t c) (s : State) : Keeps s (execFillTimeout t c s) := by
  unfold execFillTimeout
  dsimp only
  repeat' split
  all_goals simp

@[simp] theorem execFillRetentionExpire_keeps (t) (s : State) : Keeps s (execFillRetentionExpire t s) := by
  unfold execFillRetentionExpire
  simp

@[simp] theorem execAttributionDecide_keeps (t) (s : State) : Keeps s (execAttributionDecide t s) := by
  unfold execAttributionDecide
  dsimp only
  repeat' split
  all_goals simp

@[simp] theorem execTakeoverEpoch_keeps (t) (s : State) : Keeps s (execTakeoverEpoch t s) := by
  unfold execTakeoverEpoch
  dsimp only
  repeat' split
  all_goals simp

@[simp] theorem execTakeoverSwitch_keeps (t) (s : State) : Keeps s (execTakeoverSwitch t s) := by
  unfold execTakeoverSwitch
  dsimp only
  repeat' split
  all_goals simp

@[simp] theorem execFunctionLevelReset_keeps (t) (s : State) : Keeps s (execFunctionLevelReset t s) := by
  unfold execFunctionLevelReset
  simp

@[simp] theorem execPcieLinkDown_keeps (t) (s : State) : Keeps s (execPcieLinkDown t s) := by
  unfold execPcieLinkDown
  simp

@[simp] theorem execD3hotEntry_keeps (t) (s : State) : Keeps s (execD3hotEntry t s) := by
  unfold execD3hotEntry
  simp

@[simp] theorem execInstCreate_keeps (t n) (s : State) : Keeps s (execInstCreate t n s) := by
  unfold execInstCreate
  simp

@[simp] theorem execInstChange_keeps (t n) (s : State) : Keeps s (execInstChange t n s) := by
  unfold execInstChange
  simp

@[simp] theorem execInstReset_keeps (t n squash clear) (s : State) : Keeps s (execInstReset t n squash clear s) := by
  unfold execInstReset
  simp

@[simp] theorem execInstFreeze_keeps (t n) (s : State) : Keeps s (execInstFreeze t n s) := by
  unfold execInstFreeze
  simp

@[simp] theorem execInstSave_keeps (t n need) (s : State) : Keeps s (execInstSave t n need s) := by
  unfold execInstSave
  simp

@[simp] theorem execInstRestore_keeps (t n b) (s : State) : Keeps s (execInstRestore t n b s) := by
  unfold execInstRestore
  simp

@[simp] theorem execInstThaw_keeps (t n) (s : State) : Keeps s (execInstThaw t n s) := by
  unfold execInstThaw
  simp

@[simp] theorem execInstDestroy_keeps (t n) (s : State) : Keeps s (execInstDestroy t n s) := by
  unfold execInstDestroy
  simp

@[simp] theorem execInstChangeEpoch_keeps (t n) (s : State) : Keeps s (execInstChangeEpoch t n s) := by
  unfold execInstChangeEpoch
  simp

@[simp] theorem execInstDrainTimeout_keeps (t n) (s : State) : Keeps s (execInstDrainTimeout t n s) := by
  unfold execInstDrainTimeout
  simp

@[simp] theorem execResetDrainComplete_keeps (t n) (s : State) : Keeps s (execResetDrainComplete t n s) := by
  unfold execResetDrainComplete
  simp

@[simp] theorem execFreezeComplete_keeps (t n) (s : State) : Keeps s (execFreezeComplete t n s) := by
  unfold execFreezeComplete
  simp

@[simp] theorem execSaveComplete_keeps (t n) (s : State) : Keeps s (execSaveComplete t n s) := by
  unfold execSaveComplete
  dsimp only
  repeat' split
  all_goals simp

@[simp] theorem execRestoreComplete_keeps (t n) (s : State) : Keeps s (execRestoreComplete t n s) := by
  unfold execRestoreComplete
  dsimp only
  repeat' split
  all_goals simp

@[simp] theorem execMmuMap_keeps (t n) (s : State) : Keeps s (execMmuMap t n s) := by
  unfold execMmuMap
  simp

@[simp] theorem execMmuRevoke_keeps (t n) (s : State) : Keeps s (execMmuRevoke t n s) := by
  unfold execMmuRevoke
  simp

@[simp] theorem execDoorbellTailWrite_keeps (t n q v) (s : State) : Keeps s (execDoorbellTailWrite t n q v s) := by
  unfold execDoorbellTailWrite
  simp

@[simp] theorem execDoorbellPageWrite_keeps (t n o v) (s : State) : Keeps s (execDoorbellPageWrite t n o v s) := by
  unfold execDoorbellPageWrite
  simp

@[simp] theorem execWorkOrderRead_keeps (t n q x) (s : State) : Keeps s (execWorkOrderRead t n q x s) := by
  unfold execWorkOrderRead
  split <;> simp

@[simp] theorem execNop_keeps (t n id) (s : State) : Keeps s (execNop t n id s) := by
  unfold execNop
  dsimp only
  repeat' split
  all_goals simp

@[simp] theorem execSurfCreate_keeps (t n id) (s : State) : Keeps s (execSurfCreate t n id s) := by
  unfold execSurfCreate
  dsimp only
  repeat' split
  all_goals simp

@[simp] theorem execSurfDestroy_keeps (t n id) (s : State) : Keeps s (execSurfDestroy t n id s) := by
  unfold execSurfDestroy
  dsimp only
  repeat' split
  all_goals simp

@[simp] theorem execSurfCommit_keeps (t n id) (s : State) : Keeps s (execSurfCommit t n id s) := by
  unfold execSurfCommit
  dsimp only
  repeat' split
  all_goals simp

@[simp] theorem execSurfCommitBufferAcquire_keeps (t n id) (s : State) : Keeps s (execSurfCommitBufferAcquire t n id s) := by
  unfold execSurfCommitBufferAcquire
  dsimp only
  repeat' split
  all_goals simp

@[simp] theorem execWinBatch_keeps (t n id) (s : State) : Keeps s (execWinBatch t n id s) := by
  unfold execWinBatch
  dsimp only
  repeat' split
  all_goals simp

@[simp] theorem execSafeReq_keeps (t n id) (s : State) : Keeps s (execSafeReq t n id s) := by
  unfold execSafeReq
  dsimp only
  repeat' split
  all_goals simp

@[simp] theorem execBlazeSet_keeps (t n id) (s : State) : Keeps s (execBlazeSet t n id s) := by
  unfold execBlazeSet
  dsimp only
  repeat' split
  all_goals simp

@[simp] theorem execCopy_keeps (t n id) (s : State) : Keeps s (execCopy t n id s) := by
  unfold execCopy
  dsimp only
  repeat' split
  all_goals simp

@[simp] theorem execBadOp_keeps (t n id) (s : State) : Keeps s (execBadOp t n id s) := by
  unfold execBadOp
  dsimp only
  repeat' split
  all_goals simp

@[simp] theorem execDmaBlockComplete_keeps (t b stalls rd wr) (s : State) :
    Keeps s (execDmaBlockComplete t b stalls rd wr s) := by
  unfold execDmaBlockComplete
  dsimp only
  repeat' split
  all_goals simp

@[simp] theorem execPriResponseRx_keeps (t n g ok) (s : State) : Keeps s (execPriResponseRx t n g ok s) := by
  unfold execPriResponseRx
  dsimp only
  repeat' split
  all_goals simp

@[simp] theorem execPriTimeout_keeps (t n g) (s : State) : Keeps s (execPriTimeout t n g s) := by
  unfold execPriTimeout
  dsimp only
  repeat' split
  all_goals simp

@[simp] theorem execAtsInvalidateRx_keeps (t n page len) (s : State) : Keeps s (execAtsInvalidateRx t n page len s) := by
  unfold execAtsInvalidateRx
  simp

@[simp] theorem execCqHeadWrite_keeps (t n v) (s : State) : Keeps s (execCqHeadWrite t n v s) := by
  unfold execCqHeadWrite
  simp

@[simp] theorem execEvqRdWrite_keeps (t n v) (s : State) : Keeps s (execEvqRdWrite t n v s) := by
  unfold execEvqRdWrite
  simp

@[simp] theorem execVectorHoldExpire_keeps (t n ev) (s : State) : Keeps s (execVectorHoldExpire t n ev s) := by
  unfold execVectorHoldExpire
  simp

@[simp] theorem execVecMaskWrite_keeps (t n m) (s : State) : Keeps s (execVecMaskWrite t n m s) := by
  unfold execVecMaskWrite
  split <;> simp

@[simp] theorem execTouchScanComplete_keeps (t p nodes lines) (s : State) :
    Keeps s (execTouchScanComplete t p nodes lines s) := by
  unfold execTouchScanComplete
  dsimp only
  repeat' split
  all_goals simp

@[simp] theorem execKeyGroupEnd_keeps (t p raws) (s : State) : Keeps s (execKeyGroupEnd t p raws s) := by
  unfold execKeyGroupEnd
  dsimp only
  repeat' split
  all_goals simp [kept_foldl]

@[simp] theorem execTouchRebase_keeps (t p) (s : State) : Keeps s (execTouchRebase t p s) := by
  unfold execTouchRebase
  dsimp only
  repeat' split
  all_goals simp [kept_foldl]

@[simp] theorem execHapPlay_keeps (t v) (s : State) : Keeps s (execHapPlay t v s) := by
  unfold execHapPlay
  simp

@[simp] theorem execHapticWaveformStart_keeps (t) (s : State) : Keeps s (execHapticWaveformStart t s) := by
  unfold execHapticWaveformStart
  dsimp only
  repeat' split
  all_goals simp [kept_foldl]

@[simp] theorem execHapticWaveformEnd_keeps (t n) (s : State) : Keeps s (execHapticWaveformEnd t n s) := by
  unfold execHapticWaveformEnd
  dsimp only
  repeat' split
  all_goals simp

@[simp] theorem execAlarmSegmentEnd_keeps (t) (s : State) : Keeps s (execAlarmSegmentEnd t s) := by
  unfold execAlarmSegmentEnd
  dsimp only
  repeat' split
  all_goals simp

@[simp] theorem execAlarmRequestActivate_keeps (t) (s : State) : Keeps s (execAlarmRequestActivate t s) := by
  unfold execAlarmRequestActivate
  simp [kept_foldl]

@[simp] theorem execUsdoDownload_keeps (t n idx sub first last data) (s : State) :
    Keeps s (execUsdoDownload t n idx sub first last data s) := by
  unfold execUsdoDownload
  dsimp only
  repeat' split
  all_goals simp

@[simp] theorem execUsdoUpload_keeps (t n idx sub) (s : State) : Keeps s (execUsdoUpload t n idx sub s) := by
  unfold execUsdoUpload
  simp

@[simp] theorem execUdpRead_keeps (t m) (s : State) : Keeps s (execUdpRead t m s) := by
  have hk := State.udpAccept_kept (s.at t) m
  unfold execUdpRead
  dsimp only
  split <;>
  · rename_i heq
    rw [heq] at hk
    have hx := hk.trans (State.at_kept s t)
    simp [hx]

@[simp] theorem execUdpWrite_keeps (t m) (s : State) : Keeps s (execUdpWrite t m s) := by
  have hk := State.udpAccept_kept (s.at t) m
  unfold execUdpWrite
  dsimp only
  split <;>
  · rename_i heq
    rw [heq] at hk
    have hx := hk.trans (State.at_kept s t)
    simp [hx]

@[simp] theorem execMbxRead_keeps (t cmd) (s : State) : Keeps s (execMbxRead t cmd s) := by
  unfold execMbxRead
  simp

@[simp] theorem execMbxWrite_keeps (t cmd) (s : State) : Keeps s (execMbxWrite t cmd s) := by
  refine (keeps_next ..).mpr (State.mailboxTake_kept _ _ _ (by simp) fun a b c d x hx => ?_)
  split
  · simp [hx]
  · exact State.dictWriteAnswer_kept _ _ _ _ _ _ _ _ hx

@[simp] theorem execObjectApply_keeps (t p idx) (s : State) : Keeps s (execObjectApply t p idx s) := by
  unfold execObjectApply
  simp

@[simp] theorem execObjectStop_keeps (t p idx) (s : State) : Keeps s (execObjectStop t p idx s) := by
  unfold execObjectStop
  simp

@[simp] theorem execWindowBatchCommit_keeps (t p) (s : State) : Keeps s (execWindowBatchCommit t p s) := by
  unfold execWindowBatchCommit
  simp

@[simp] theorem execSessionStageTimeout_keeps (t k) (s : State) : Keeps s (execSessionStageTimeout t k s) := by
  unfold execSessionStageTimeout
  simp

@[simp] theorem execNmtStart_keeps (t n) (s : State) : Keeps s (execNmtStart t n s) := by
  unfold execNmtStart
  simp

@[simp] theorem execNmtStop_keeps (t n) (s : State) : Keeps s (execNmtStop t n s) := by
  unfold execNmtStop
  simp

@[simp] theorem execNmtResetCommunication_keeps (t n) (s : State) : Keeps s (execNmtResetCommunication t n s) := by
  unfold execNmtResetCommunication
  simp

@[simp] theorem execNmtResetNode_keeps (t n) (s : State) : Keeps s (execNmtResetNode t n s) := by
  unfold execNmtResetNode
  simp

@[simp] theorem execHeartbeatSend_keeps (t n) (s : State) : Keeps s (execHeartbeatSend t n s) := by
  unfold execHeartbeatSend
  simp

@[simp] theorem execTpdoTransmit_keeps (t n k) (s : State) : Keeps s (execTpdoTransmit t n k s) := by
  unfold execTpdoTransmit
  simp

@[simp] theorem execBusOffEntry_keeps (t n) (s : State) : Keeps s (execBusOffEntry t n s) := by
  unfold execBusOffEntry
  simp

@[simp] theorem execBusOffRecovery_keeps (t n) (s : State) : Keeps s (execBusOffRecovery t n s) := by
  unfold execBusOffRecovery
  simp

@[simp] theorem execLssSwitchStateSelective_keeps (t n vendor product revision serial) (s : State) :
    Keeps s (execLssSwitchStateSelective t n vendor product revision serial s) := by
  unfold execLssSwitchStateSelective
  simp

@[simp] theorem execLssConfigureNodeId_keeps (t n id) (s : State) : Keeps s (execLssConfigureNodeId t n id s) := by
  unfold execLssConfigureNodeId
  simp

@[simp] theorem execLssConfigureBitTiming_keeps (t n nominal data) (s : State) :
    Keeps s (execLssConfigureBitTiming t n nominal data s) := by
  unfold execLssConfigureBitTiming
  simp

@[simp] theorem execLssStoreConfiguration_keeps (t n) (s : State) : Keeps s (execLssStoreConfiguration t n s) := by
  unfold execLssStoreConfiguration
  simp

@[simp] theorem execStoreAll_keeps (t p v) (s : State) : Keeps s (execStoreAll t p v s) := by
  unfold execStoreAll
  simp

@[simp] theorem execStoreComplete_keeps (t) (s : State) : Keeps s (execStoreComplete t s) := by
  unfold execStoreComplete
  dsimp only
  repeat' split
  all_goals simp

@[simp] theorem execRestoreDefaults_keeps (t p v) (s : State) : Keeps s (execRestoreDefaults t p v s) := by
  unfold execRestoreDefaults
  simp

@[simp] theorem execSettingsLoad_keeps (t) (s : State) : Keeps s (execSettingsLoad t s) := by
  unfold execSettingsLoad
  dsimp only
  repeat' split
  all_goals simp

@[simp] theorem execGlyphBitmapRequest_keeps (t p data) (s : State) : Keeps s (execGlyphBitmapRequest t p data s) := by
  unfold execGlyphBitmapRequest
  simp

@[simp] theorem execPaletteEntriesRequest_keeps (t p data) (s : State) : Keeps s (execPaletteEntriesRequest t p data s) := by
  unfold execPaletteEntriesRequest
  simp

@[simp] theorem execCellFillRequest_keeps (t p) (s : State) : Keeps s (execCellFillRequest t p s) := by
  unfold execCellFillRequest
  simp

@[simp] theorem execAlarmRequestWrite_keeps (t p q v) (s : State) : Keeps s (execAlarmRequestWrite t p q v s) := by
  unfold execAlarmRequestWrite
  simp

@[simp] theorem execMpuRegionWrite_keeps (t n j v) (s : State) : Keeps s (execMpuRegionWrite t n j v s) := by
  unfold execMpuRegionWrite
  simp

@[simp] theorem execEvidenceScrub_keeps (t g tags) (s : State) : Keeps s (execEvidenceScrub t g tags s) := by
  unfold execEvidenceScrub
  dsimp only
  split
  · simp
  · refine (keeps_next ..).mpr ?_
    rw [kept_foldl _ (fun x p => by simp)]
    have hk : (s.at t).kept = s.kept := State.at_kept s t
    exact hk ▸ ⟨rfl, Nat.le_refl _, rfl, id, Tab.wf_filter 0 _ _⟩

@[simp] theorem execPostedNoticeWindow_keeps (t) (s : State) : Keeps s (execPostedNoticeWindow t s) := by
  unfold execPostedNoticeWindow
  simp [kept_foldl]

@[simp] theorem execDebugAccess_keeps (t write target n data) (s : State) :
    Keeps s (execDebugAccess t write target n data s) := by
  unfold execDebugAccess
  dsimp only
  repeat' split
  all_goals simp

@[simp] theorem execUpdBegin_keeps (t) (s : State) : Keeps s (execUpdBegin t s) := by
  unfold execUpdBegin
  simp

@[simp] theorem execUpdAbort_keeps (t k) (s : State) : Keeps s (execUpdAbort t k s) := by
  unfold execUpdAbort
  simp

@[simp] theorem execImageChunkRx_keeps (t k data) (s : State) : Keeps s (execImageChunkRx t k data s) := by
  unfold execImageChunkRx
  simp

@[simp] theorem execImageHeaderComplete_keeps (t k) (s : State) : Keeps s (execImageHeaderComplete t k s) := by
  unfold execImageHeaderComplete
  simp

@[simp] theorem execImagePayloadComplete_keeps (t k readBack recoveryN) (s : State) :
    Keeps s (execImagePayloadComplete t k readBack recoveryN s) := by
  unfold execImagePayloadComplete
  simp

@[simp] theorem execUpdateIdleTimeout_keeps (t) (s : State) : Keeps s (execUpdateIdleTimeout t s) := by
  unfold execUpdateIdleTimeout
  dsimp only
  repeat' split
  all_goals simp

@[simp] theorem execRomBoot_keeps (t recoveryN provingEn okA okB) (s : State) : Keeps s (execRomBoot t recoveryN provingEn okA okB s) := by
  unfold execRomBoot
  extract_lets u m v enter r
  have henter : ∀ x : State, (enter x).kept = x.kept := fun x => by simp [enter]
  have hr : r.1.kept = s.kept := by simp [r, v, u]
  have hv : v.kept = s.kept := by simp [v, u]
  split
  · simp [u]
  · split
    · simp [henter, hv]
    · clear_value r
      obtain ⟨x, b⟩ := r
      cases b with
      | none => simp_all
      | some b =>
        dsimp only
        refine (keeps_next ..).mpr ?_
        have hx : x.kept = s.kept := hr
        rw [State.setMode_kept]
        repeat' split
        all_goals simp [hx]

@[simp] theorem execTrialConfirm_keeps (t) (s : State) : Keeps s (execTrialConfirm t s) := by
  unfold execTrialConfirm
  extract_lets u b x v p w y
  have hv : v.kept = s.kept := by simp [v, u]
  simp only [keeps_ite, keeps_next]
  split
  · split
    · rename_i hlt
      have hw : KeptRel s.kept w.kept := hv ▸ ⟨rfl, Nat.le_of_lt hlt, rfl, id, id⟩
      split <;> simpa
    · simp [hv]
  · simp [u]

@[simp] theorem execGo_keeps (t) (s : State) : Keeps s (execGo t s) := by
  unfold execGo
  simp

@[simp] theorem execGoProving_keeps (t) (s : State) : Keeps s (execGoProving t s) := by
  unfold execGoProving
  simp

@[simp] theorem execSafeHold_keeps (t) (s : State) : Keeps s (execSafeHold t s) := by
  unfold execSafeHold
  simp

@[simp] theorem execLeaveSafeHold_keeps (t) (s : State) : Keeps s (execLeaveSafeHold t s) := by
  unfold execLeaveSafeHold
  simp

@[simp] theorem execSleep_keeps (t key) (s : State) : Keeps s (execSleep t key s) := by
  unfold execSleep
  simp

@[simp] theorem execReset_keeps (t key) (s : State) : Keeps s (execReset t key s) := by
  unfold execReset
  simp

@[simp] theorem execSafeHoldApply_keeps (t h) (s : State) : Keeps s (execSafeHoldApply t h s) := by
  unfold execSafeHoldApply
  dsimp only
  repeat' split
  all_goals simp

@[simp] theorem execWatchdogKick_keeps (t) (s : State) : Keeps s (execWatchdogKick t s) := by
  unfold execWatchdogKick
  simp

@[simp] theorem execWatchdogWarn_keeps (t) (s : State) : Keeps s (execWatchdogWarn t s) := by
  unfold execWatchdogWarn
  simp

@[simp] theorem execWatchdogExpire_keeps (t) (s : State) : Keeps s (execWatchdogExpire t s) := by
  unfold execWatchdogExpire
  simp

@[simp] theorem execLockstepMismatch_keeps (t) (s : State) : Keeps s (execLockstepMismatch t s) := by
  unfold execLockstepMismatch
  simp

@[simp] theorem execWakePin_keeps (t k) (s : State) : Keeps s (execWakePin t k s) := by
  unfold execWakePin
  simp

@[simp] theorem execRtcAlarm_keeps (t) (s : State) : Keeps s (execRtcAlarm t s) := by
  unfold execRtcAlarm
  simp

@[simp] theorem execVddAonRise_keeps (t) (s : State) : Keeps s (execVddAonRise t s) := by
  unfold execVddAonRise
  simp

@[simp] theorem execAonPorRelease_keeps (t) (s : State) : Keeps s (execAonPorRelease t s) := by
  unfold execAonPorRelease
  simp

@[simp] theorem execRailPgRise_keeps (t n) (s : State) : Keeps s (execRailPgRise t n s) := by
  unfold execRailPgRise
  dsimp only
  repeat' split
  all_goals simp

@[simp] theorem execRailSettleDone_keeps (t) (s : State) : Keeps s (execRailSettleDone t s) := by
  unfold execRailSettleDone
  dsimp only
  repeat' split
  all_goals simp

@[simp] theorem execRailPgTimeout_keeps (t) (s : State) : Keeps s (execRailPgTimeout t s) := by
  unfold execRailPgTimeout
  dsimp only
  repeat' split
  all_goals simp

@[simp] theorem execRailPgLoss_keeps (t n) (s : State) : Keeps s (execRailPgLoss t n s) := by
  unfold execRailPgLoss
  simp

@[simp] theorem execThermalTrip_keeps (t) (s : State) : Keeps s (execThermalTrip t s) := by
  unfold execThermalTrip
  dsimp only
  repeat' split
  all_goals simp

@[simp] theorem execRailRetry_keeps (t) (s : State) : Keeps s (execRailRetry t s) := by
  unfold execRailRetry
  simp

@[simp] theorem execPowerDownComplete_keeps (t) (s : State) : Keeps s (execPowerDownComplete t s) := by
  unfold execPowerDownComplete
  dsimp only
  repeat' split
  all_goals simp

@[simp] theorem execResetPin_keeps (t) (s : State) : Keeps s (execResetPin t s) := by
  unfold execResetPin
  dsimp only
  repeat' split
  all_goals simp

@[simp] theorem execBootComplete_keeps (t memSize memRate ticks record) (s : State) :
    Keeps s (execBootComplete t memSize memRate ticks record s) := by
  unfold execBootComplete
  extract_lets u x cause s1 m1 g1 a1 s2 s3 s4 s5 m5 s6 p6 h6 s7 p7 h7 s8 p8 s9 m9 p9 h9 s10
  have h3 : s3.kept = s.kept := by simp [s3, s2, s1, u]
  have h4 : s4.kept = s.kept := by simp only [s4]; split <;> simp [h3]
  have h5 : s5.kept = s.kept := by
    simp only [s5]
    split
    · simp [h4]
    · simp [h4]
    · split <;> simp [h4]
  have h6 : s6.kept = s.kept := by simp [s6, h5]
  have h7 : s7.kept = s.kept := by simp only [s7]; split <;> exact h6
  have h9 : s9.kept = s.kept := h7
  have h10 : s10.kept = s.kept := h7
  split
  · simp [u]
  · split
    · simp [h9]
    · simp [h10]

@[simp] theorem execRtcSet_keeps (t) (s : State) : Keeps s (execRtcSet t s) := by
  unfold execRtcSet
  simp

@[simp] theorem execTokenRequest_keeps (t h u) (s : State) : Keeps s (execTokenRequest t h u s) := by
  unfold execTokenRequest
  split <;> simp

@[simp] theorem execTokenSlot_keeps (t) (s : State) : Keeps s (execTokenSlot t s) := by
  unfold execTokenSlot
  dsimp only
  repeat' split
  all_goals simp

@[simp] theorem execEngineClockGate_keeps (t h u) (s : State) : Keeps s (execEngineClockGate t h u s) := by
  unfold execEngineClockGate
  simp

@[simp] theorem execPmcSelWrite_keeps (t u n v) (s : State) : Keeps s (execPmcSelWrite t u n v s) := by
  unfold execPmcSelWrite
  simp

@[simp] theorem execTallyStart_keeps (t) (s : State) : Keeps s (execTallyStart t s) := by
  unfold execTallyStart
  simp

@[simp] theorem execTallyStop_keeps (t) (s : State) : Keeps s (execTallyStop t s) := by
  unfold execTallyStop
  simp

@[simp] theorem execSelftestRun_keeps (t u pass) (s : State) : Keeps s (execSelftestRun t u pass s) := by
  unfold execSelftestRun
  simp

@[simp] theorem execHealthReport_keeps (t temp ce) (s : State) : Keeps s (execHealthReport t temp ce s) := by
  unfold execHealthReport
  simp

@[simp] theorem execInjectorArm_keeps (t n v) (s : State) : Keeps s (execInjectorArm t n v s) := by
  unfold execInjectorArm
  simp

@[simp] theorem execReorderRelease_keeps (t) (s : State) : Keeps s (execReorderRelease t s) := by
  refine (keeps_next ..).mpr ?_
  exact keptRel_foldl _ (fun x p hx => State.deliver_kept _ _ _ hx) _ _ (by simp)

@[simp] theorem execProvLogPop_keeps (t) (s : State) : Keeps s (execProvLogPop t s) := by
  unfold execProvLogPop
  dsimp only
  repeat' split
  all_goals simp

@[simp] theorem execMarginScanStart_keeps (t) (s : State) : Keeps s (execMarginScanStart t s) := by
  unfold execMarginScanStart
  simp

@[simp] theorem execMarginScanAbort_keeps (t) (s : State) : Keeps s (execMarginScanAbort t s) := by
  unfold execMarginScanAbort
  simp

@[simp] theorem execScanDwellEnd_keeps (t errs) (s : State) : Keeps s (execScanDwellEnd t errs s) := by
  unfold execScanDwellEnd
  dsimp only
  repeat' split
  all_goals simp

@[simp] theorem execRecoveryNHigh_keeps (t) (s : State) : Keeps s (execRecoveryNHigh t s) := by
  unfold execRecoveryNHigh
  simp

@[simp] theorem execVddAonRemoval_keeps (t) (s : State) : Keeps s (execVddAonRemoval t s) := by
  unfold execVddAonRemoval
  simp

@[simp] theorem execUsdoProtocolTimeout_keeps (t n) (s : State) : Keeps s (execUsdoProtocolTimeout t n s) := by
  unfold execUsdoProtocolTimeout
  dsimp only
  repeat' split
  all_goals simp

@[simp] theorem execSelftestStarved_keeps (t u) (s : State) : Keeps s (execSelftestStarved t u s) := by
  unfold execSelftestStarved
  simp

@[simp] theorem execPllMonitorFail_keeps (t) (s : State) : Keeps s (execPllMonitorFail t s) := by
  unfold execPllMonitorFail
  simp

@[simp] theorem execUncorrectableError_keeps (t w) (s : State) : Keeps s (execUncorrectableError t w s) := by
  unfold execUncorrectableError
  split <;> simp

@[simp] theorem execAudioFrame_keeps (t ins) (s : State) : Keeps s (execAudioFrame t ins s) := by
  unfold execAudioFrame
  simp

@[simp] theorem execShadowRestoreComplete_keeps (t) (s : State) : Keeps s (execShadowRestoreComplete t s) := by
  unfold execShadowRestoreComplete
  dsimp only
  repeat' split
  all_goals simp

@[simp] theorem execRailOffHoldEnd_keeps (t) (s : State) : Keeps s (execRailOffHoldEnd t s) := by
  unfold execRailOffHoldEnd
  simp

@[simp] theorem execJunctionCooled_keeps (t) (s : State) : Keeps s (execJunctionCooled t s) := by
  unfold execJunctionCooled
  simp

/-! ## Every command, every step -/

theorem exec_keeps (c : Instr) (s : State) : Keeps s (exec c s) := by
  cases c <;> simp [exec]

/-- A step takes one command off the queue, if one waits, and keeps the rest. -/
theorem step_kept {s w : State} (h : step s = .next w) : KeptRel { s.kept with pending := s.pending.tail } w.kept := by
  unfold step at h
  split at h
  · rename_i hp
    cases h
    rw [tick_kept, hp]
    exact ⟨hp, Nat.le_refl _, rfl, id, id⟩
  · rename_i c rest hp
    obtain ⟨u, hu, hk⟩ := exec_keeps c { s with pending := rest }
    cases hu.symm.trans h
    rw [hp]
    exact hk

/-- Settles O3: each operation leaves the queue to the step. -/
theorem everyCommandCompletes : Obligations.EveryCommandCompletes := by
  intro c s
  obtain ⟨w, hw, hk⟩ := exec_keeps c s
  exact ⟨w, hw, hk.pending⟩

/-- Settles O4: every command writes device memory through the operations that keep its form, or clears it. -/
theorem stepKeepsMemoryForm : Obligations.StepKeepsMemoryForm := fun _ _ hm h => (step_kept h).dram hm

/-- Settles O5: every command keeps the key store and can only raise the fuses or end development. -/
theorem stepKeepsFusesAndKeys : Obligations.StepKeepsFusesAndKeys := fun _ _ _ hn hd h =>
  ⟨Nat.le_trans hn (step_kept h).fuse, (step_kept h).development hd, (step_kept h).keyStore⟩

end Sys2Proof.Machine
end

section
/-! The step on an empty queue, the state after reset, and the verdicts of windows (R53, R80, R102, R104). -/

namespace Sys2Proof.Machine

open Sys2Proof.Safety

/-! ## One SYS cycle -/

theorem tick_of_stopped {s : State} (h : s.timeStopped = true) : tick s = s := if_pos h

theorem tick_of_running {s : State} (h : s.timeStopped = false) : tick s =
    { s with time := { s.time with lct := s.time.lct + (s.time.frac + 625) / 24, frac := (s.time.frac + 625) % 24 } } :=
  if_neg (by simp [h])

/-- Settles O1: the accumulator carries what the 24ths of a cycle leave over. -/
theorem stepRunsTheFrontCommand : Obligations.StepRunsTheFrontCommand := by
  refine ⟨fun c rest s hp => ?_, fun s hp => ?_, fun s hup => ?_, fun s hoff => ?_⟩
  · unfold step
    rw [hp]
  · unfold step
    rw [hp]
  · rw [tick_of_running (by simp [State.timeStopped, hup])]
    refine ⟨?_, ?_, rfl⟩ <;> dsimp only <;> omega
  · exact tick_of_stopped (by rcases hoff with h | h | h <;> simp [State.timeStopped, h])

/-- Settles O2: each part of the reset state is given by its definition. -/
theorem resetMeetsTheInvariants : Obligations.ResetMeetsTheInvariants :=
  ⟨reset_memory_wf, rfl, rfl, rfl, rfl, fun _ => rfl, rfl, rfl⟩

/-! ## A verdict at a latch -/

theorem nextState_never (cur : WinState) (c r : Nat) : nextState cur c r .never = (.never, 0) := rfl

theorem nextState_failure {v : WinState} (h : isFailure v = true) (cur : WinState) (c r : Nat) : nextState cur c r v = (v, 0) := by
  have hv : v ≠ .never := by rintro rfl; exact absurd h (by decide)
  simp [nextState, h, hv]

theorem nextState_clean {cur v : WinState} (h : isFailure v = false) (hv : v ≠ .never) (hc : isFailure cur = false) (c r : Nat) :
    nextState cur c r v = (v, min (c + 1) 15) := by
  simp [nextState, h, hv, hc]

/-- A RECOVER of 0 counts as 1, and the count is at least 1 here. -/
theorem nextState_recovering {cur v : WinState} (h : isFailure v = false) (hv : v ≠ .never) (hc : isFailure cur = true) (c r : Nat) :
    nextState cur c r v = (if r ≤ min (c + 1) 15 then v else cur, min (c + 1) 15) := by
  have hr : max r 1 ≤ min (c + 1) 15 ↔ r ≤ min (c + 1) 15 := by omega
  rw [nextState, if_neg hv, if_neg (by simp [h]), if_pos hc]
  simp only [hr]
  split <;> rfl

theorem nextState_count_le (cur : WinState) (c r : Nat) (v : WinState) : (nextState cur c r v).2 ≤ 15 := by
  unfold nextState
  dsimp only
  repeat' split
  all_goals (dsimp only; omega)

@[simp] theorem State.countEntry_heads (s : State) (h : Nat) (src : Source) (x : WinState) : (s.countEntry h src x).heads = s.heads := by
  unfold State.countEntry
  cases src <;> cases x <;> simp

@[simp] theorem State.countEntry_head (s : State) (h : Nat) (src : Source) (x : WinState) (k : Nat) :
    (s.countEntry h src x).head k = s.head k := by
  simp [State.head]

@[simp] theorem State.countEntry_events (s : State) (h : Nat) (src : Source) (x : WinState) : (s.countEntry h src x).events = s.events := by
  unfold State.countEntry
  cases src <;> cases x <;> simp

/-- The window's view after verdict `v`: the next state and count of R102, and what the verdict says. -/
def viewAfter (old : WinView) (recover : Nat) (v : Verdict) : WinView :=
  let n := nextState old.state old.count recover v.state
  ⟨n.1, n.2, v.state, v.why, v.hold, v.transit, decide (v.hold = ageOver)⟩

theorem State.applyVerdict_head (s : State) (h w tile e : Nat) (src : Source) (v : Verdict) :
    (s.applyVerdict h w tile e src v).head h = { s.head h with
      views := Tab.set {} (s.head h).views w (viewAfter (Tab.get {} (s.head h).views w) (s.recover h) v) } := by
  unfold State.applyVerdict viewAfter
  extract_lets x old n u
  split
  · exact State.setHead_self ..
  · rw [State.emitAt_head, State.countEntry_head]
    exact State.setHead_self ..

theorem State.applyVerdict_changed (s : State) (h w tile e : Nat) (src : Source) (v : Verdict) (old : WinView)
    (hold : old = Tab.get {} (s.head h).views w) (hne : (viewAfter old (s.recover h) v).state ≠ old.state) :
    raises .headWinState h [w, tile, old.state.code, (viewAfter old (s.recover h) v).state.code, age32 v.hold, age32 v.transit] s
      (s.applyVerdict h w tile e src v) := by
  subst hold
  unfold State.applyVerdict
  refine (congrArg _ (if_neg hne)).mpr ?_
  exact raises_emitAt _ _ _ _ _ _ ⟨[], by simp [State.countEntry_events]⟩

theorem State.applyVerdict_unchanged (s : State) (h w tile e : Nat) (src : Source) (v : Verdict) (old : WinView)
    (hold : old = Tab.get {} (s.head h).views w) (heq : (viewAfter old (s.recover h) v).state = old.state) :
    silent s (s.applyVerdict h w tile e src v) := by
  subst hold
  unfold State.applyVerdict
  exact (congrArg _ (if_pos heq)).mpr rfl

/-- Settles O9: the table of R102 row by row, and the one event of R104. -/
theorem windowStatesFollowVerdicts : Obligations.WindowStatesFollowVerdicts := by
  intro s h k tile e src v old new hold hnew _
  have hnew : new = viewAfter old (s.recover h) v := by
    rw [hnew, s.applyVerdict_head, hold]
    exact Tab.get_set_self ..
  have hstate : new.state = (nextState old.state old.count (s.recover h) v.state).1 := by rw [hnew]; rfl
  have hcount : new.count = (nextState old.state old.count (s.recover h) v.state).2 := by rw [hnew]; rfl
  refine ⟨fun hv => ?_, fun hf => ?_, fun hc hv ho => ?_, fun hc hv ho => ?_, ?_, fun j hj => ?_, fun hne => ?_, fun heq => ?_⟩
  · rw [hstate, hv, nextState_never]
  · rw [hstate, hcount, nextState_failure hf]
    exact ⟨rfl, rfl⟩
  · rw [hstate, nextState_clean hc hv ho]
  · rw [hstate, hcount, nextState_recovering hc hv ho]
    exact ⟨rfl, rfl⟩
  · rw [hcount]
    exact nextState_count_le ..
  · rw [s.applyVerdict_head]
    exact Tab.get_set_other _ _ _ _ _ _ hj
  · rw [hnew] at hne ⊢
    exact s.applyVerdict_changed h k tile e src v old hold hne
  · rw [hnew] at heq
    exact s.applyVerdict_unchanged h k tile e src v old hold heq

end Sys2Proof.Machine
end

section
/-! What an operation leaves: a mask names the parts of the state that may change, and an operation leaves the state outside a mask alone when
every part it writes is in the mask. One lemma per operation; the frames of the commands are assembled from them. -/

namespace Sys2Proof.Machine

/-- Parts of the state that may change. -/
structure Mask where
  time : Bool := false
  mode : Bool := false
  aon : Bool := false
  regs : Bool := false
  latches : Bool := false
  readData : Bool := false
  dram : Bool := false
  events : Bool := false
  eventSeq : Bool := false
  sent : Bool := false
  chans : Bool := false
  ctxs : Bool := false
  salvos : Bool := false
  bonds : Bool := false
  lanes : Bool := false
  cruiseSeq : Bool := false
  cruiseLast : Bool := false
  cores : Bool := false
  slots : Bool := false
  packing : Bool := false
  progs : Bool := false
  heads : Bool := false
  sheets : Bool := false
  engines : Bool := false
  win : Bool := false
  safe : Bool := false
  insts : Bool := false
  surfs : Bool := false
  dma : Bool := false
  atc : Bool := false
  console : Bool := false
  recs : Bool := false
  recCores : Bool := false
  pair : Bool := false
  board : Bool := false
  prov : Bool := false
  glb : Bool := false
  adm : Bool := false
  dict : Bool := false
  store : Bool := false
  prot : Bool := false
  udpPort : Bool := false
  udpPorts : Bool := false

/-- The state with the parts of a mask put back to what they are at reset: what is left of it outside the mask. -/
def State.outside (m : Mask) (s : State) : State where
  time := bif m.time then State.reset.time else s.time
  mode := bif m.mode then State.reset.mode else s.mode
  aon := bif m.aon then State.reset.aon else s.aon
  regs := bif m.regs then State.reset.regs else s.regs
  latches := bif m.latches then State.reset.latches else s.latches
  readData := bif m.readData then State.reset.readData else s.readData
  dram := bif m.dram then State.reset.dram else s.dram
  events := bif m.events then State.reset.events else s.events
  eventSeq := bif m.eventSeq then State.reset.eventSeq else s.eventSeq
  sent := bif m.sent then State.reset.sent else s.sent
  chans := bif m.chans then State.reset.chans else s.chans
  ctxs := bif m.ctxs then State.reset.ctxs else s.ctxs
  salvos := bif m.salvos then State.reset.salvos else s.salvos
  bonds := bif m.bonds then State.reset.bonds else s.bonds
  lanes := bif m.lanes then State.reset.lanes else s.lanes
  cruiseSeq := bif m.cruiseSeq then State.reset.cruiseSeq else s.cruiseSeq
  cruiseLast := bif m.cruiseLast then State.reset.cruiseLast else s.cruiseLast
  cores := bif m.cores then State.reset.cores else s.cores
  slots := bif m.slots then State.reset.slots else s.slots
  packing := bif m.packing then State.reset.packing else s.packing
  progs := bif m.progs then State.reset.progs else s.progs
  heads := bif m.heads then State.reset.heads else s.heads
  sheets := bif m.sheets then State.reset.sheets else s.sheets
  engines := bif m.engines then State.reset.engines else s.engines
  win := bif m.win then State.reset.win else s.win
  safe := bif m.safe then State.reset.safe else s.safe
  insts := bif m.insts then State.reset.insts else s.insts
  surfs := bif m.surfs then State.reset.surfs else s.surfs
  dma := bif m.dma then State.reset.dma else s.dma
  atc := bif m.atc then State.reset.atc else s.atc
  console := bif m.console then State.reset.console else s.console
  recs := bif m.recs then State.reset.recs else s.recs
  recCores := bif m.recCores then State.reset.recCores else s.recCores
  pair := bif m.pair then State.reset.pair else s.pair
  board := bif m.board then State.reset.board else s.board
  prov := bif m.prov then State.reset.prov else s.prov
  glb := bif m.glb then State.reset.glb else s.glb
  adm := bif m.adm then State.reset.adm else s.adm
  dict := bif m.dict then State.reset.dict else s.dict
  store := bif m.store then State.reset.store else s.store
  prot := bif m.prot then State.reset.prot else s.prot
  udpPort := bif m.udpPort then State.reset.udpPort else s.udpPort
  udpPorts := bif m.udpPorts then State.reset.udpPorts else s.udpPorts
  pending := s.pending

@[simp ↓] theorem outside_update (m : Mask) (u : State) (time_ : TimeUnit) (mode_ : ModeUnit) (aon_ : Aon) (regs_ : (Tab Nat)) (latches_ :
    (Tab Nat)) (readData_ : Nat) (dram_ : (List Host.Cell)) (events_ : (List Event)) (eventSeq_ : (Tab (BitVec 16))) (sent_ :
    (List Out)) (chans_ : (Tab Chan)) (ctxs_ : (Tab Ctx)) (salvos_ : (Tab Salvo)) (bonds_ : (Tab BondCfg)) (lanes_ : (Tab Lane))
    (cruiseSeq_ : (BitVec 32)) (cruiseLast_ : Nat) (cores_ : (Tab Core)) (slots_ : (Tab Slots)) (packing_ : (List (Nat × Nat ×
    Nat))) (progs_ : (Tab (BitVec 48))) (heads_ : (Tab Head)) (sheets_ : (Tab Sheet)) (engines_ : (Tab Engine)) (win_ : WinTable)
    (safe_ : Safelight) (insts_ : (Tab Inst)) (surfs_ : (Tab Surface)) (dma_ : (Option (Nat × Nat))) (atc_ : (List (BitVec 20 ×
    BitVec 64))) (console_ : Console) (recs_ : (Tab Rec)) (recCores_ : (Tab RecCore)) (pair_ : PairUnit) (board_ : Board) (prov_ :
    Prov) (glb_ : Glb) (adm_ : Admitted) (dict_ : Dict) (store_ : SettingsStore) (prot_ : Prot) (udpPort_ : (BitVec 16))
    (udpPorts_ : (BitVec 4)) (h : (time_ = u.time ∨ m.time) ∧ (mode_ = u.mode ∨ m.mode) ∧ (aon_ = u.aon ∨ m.aon) ∧ (regs_ = u.regs
    ∨ m.regs) ∧ (latches_ = u.latches ∨ m.latches) ∧ (readData_ = u.readData ∨ m.readData) ∧ (dram_ = u.dram ∨ m.dram) ∧ (events_
    = u.events ∨ m.events) ∧ (eventSeq_ = u.eventSeq ∨ m.eventSeq) ∧ (sent_ = u.sent ∨ m.sent) ∧ (chans_ = u.chans ∨ m.chans) ∧
    (ctxs_ = u.ctxs ∨ m.ctxs) ∧ (salvos_ = u.salvos ∨ m.salvos) ∧ (bonds_ = u.bonds ∨ m.bonds) ∧ (lanes_ = u.lanes ∨ m.lanes) ∧
    (cruiseSeq_ = u.cruiseSeq ∨ m.cruiseSeq) ∧ (cruiseLast_ = u.cruiseLast ∨ m.cruiseLast) ∧ (cores_ = u.cores ∨ m.cores) ∧
    (slots_ = u.slots ∨ m.slots) ∧ (packing_ = u.packing ∨ m.packing) ∧ (progs_ = u.progs ∨ m.progs) ∧ (heads_ = u.heads ∨
    m.heads) ∧ (sheets_ = u.sheets ∨ m.sheets) ∧ (engines_ = u.engines ∨ m.engines) ∧ (win_ = u.win ∨ m.win) ∧ (safe_ = u.safe ∨
    m.safe) ∧ (insts_ = u.insts ∨ m.insts) ∧ (surfs_ = u.surfs ∨ m.surfs) ∧ (dma_ = u.dma ∨ m.dma) ∧ (atc_ = u.atc ∨ m.atc) ∧
    (console_ = u.console ∨ m.console) ∧ (recs_ = u.recs ∨ m.recs) ∧ (recCores_ = u.recCores ∨ m.recCores) ∧ (pair_ = u.pair ∨
    m.pair) ∧ (board_ = u.board ∨ m.board) ∧ (prov_ = u.prov ∨ m.prov) ∧ (glb_ = u.glb ∨ m.glb) ∧ (adm_ = u.adm ∨ m.adm) ∧ (dict_
    = u.dict ∨ m.dict) ∧ (store_ = u.store ∨ m.store) ∧ (prot_ = u.prot ∨ m.prot) ∧ (udpPort_ = u.udpPort ∨ m.udpPort) ∧
    (udpPorts_ = u.udpPorts ∨ m.udpPorts)) : State.outside m ⟨time_, mode_, aon_, regs_, latches_, readData_, dram_, events_,
    eventSeq_, sent_, chans_, ctxs_, salvos_, bonds_, lanes_, cruiseSeq_, cruiseLast_, cores_, slots_, packing_, progs_, heads_,
    sheets_, engines_, win_, safe_, insts_, surfs_, dma_, atc_, console_, recs_, recCores_, pair_, board_, prov_, glb_, adm_,
    dict_, store_, prot_, udpPort_, udpPorts_, u.pending⟩ = u.outside m := by
  have pick : ∀ {α : Type} (b : Bool) (d x y : α), x = y ∨ b = true → (bif b then d else x) = bif b then d else y := by
    intro α b d x y h
    rcases h with rfl | rfl <;> rfl
  revert h
  simp only [State.outside, State.mk.injEq, and_true]
  iterate 42 refine And.imp (pick _ _ _ _) ?_
  exact pick _ _ _ _

@[simp ↓] theorem outside_ite (m : Mask) (c : Prop) [Decidable c] (a b : State) :
    (if c then a else b).outside m = if c then a.outside m else b.outside m := by split <;> rfl

theorem outside_foldl {β : Type} (m : Mask) (f : State → β → State) (h : ∀ s b, (f s b).outside m = s.outside m) (l : List β) (s : State) :
    (l.foldl f s).outside m = s.outside m := foldl_same (State.outside m) f h l s

/-- Two states alike outside a mask differ in its parts alone. -/
theorem eq_of_outside {m : Mask} {w u : State} (h : w.outside m = u.outside m) : w = { u with
    time := bif m.time then w.time else u.time,
    mode := bif m.mode then w.mode else u.mode,
    aon := bif m.aon then w.aon else u.aon,
    regs := bif m.regs then w.regs else u.regs,
    latches := bif m.latches then w.latches else u.latches,
    readData := bif m.readData then w.readData else u.readData,
    dram := bif m.dram then w.dram else u.dram,
    events := bif m.events then w.events else u.events,
    eventSeq := bif m.eventSeq then w.eventSeq else u.eventSeq,
    sent := bif m.sent then w.sent else u.sent,
    chans := bif m.chans then w.chans else u.chans,
    ctxs := bif m.ctxs then w.ctxs else u.ctxs,
    salvos := bif m.salvos then w.salvos else u.salvos,
    bonds := bif m.bonds then w.bonds else u.bonds,
    lanes := bif m.lanes then w.lanes else u.lanes,
    cruiseSeq := bif m.cruiseSeq then w.cruiseSeq else u.cruiseSeq,
    cruiseLast := bif m.cruiseLast then w.cruiseLast else u.cruiseLast,
    cores := bif m.cores then w.cores else u.cores,
    slots := bif m.slots then w.slots else u.slots,
    packing := bif m.packing then w.packing else u.packing,
    progs := bif m.progs then w.progs else u.progs,
    heads := bif m.heads then w.heads else u.heads,
    sheets := bif m.sheets then w.sheets else u.sheets,
    engines := bif m.engines then w.engines else u.engines,
    win := bif m.win then w.win else u.win,
    safe := bif m.safe then w.safe else u.safe,
    insts := bif m.insts then w.insts else u.insts,
    surfs := bif m.surfs then w.surfs else u.surfs,
    dma := bif m.dma then w.dma else u.dma,
    atc := bif m.atc then w.atc else u.atc,
    console := bif m.console then w.console else u.console,
    recs := bif m.recs then w.recs else u.recs,
    recCores := bif m.recCores then w.recCores else u.recCores,
    pair := bif m.pair then w.pair else u.pair,
    board := bif m.board then w.board else u.board,
    prov := bif m.prov then w.prov else u.prov,
    glb := bif m.glb then w.glb else u.glb,
    adm := bif m.adm then w.adm else u.adm,
    dict := bif m.dict then w.dict else u.dict,
    store := bif m.store then w.store else u.store,
    prot := bif m.prot then w.prot else u.prot,
    udpPort := bif m.udpPort then w.udpPort else u.udpPort,
    udpPorts := bif m.udpPorts then w.udpPorts else u.udpPorts } := by
  have keep : ∀ {α : Type} (b : Bool) (d x y : α), (bif b then d else x) = (bif b then d else y) → x = bif b then x else y := by
    intro α b d x y h
    cases b <;> simpa using h
  revert h
  obtain ⟨⟩ := w
  obtain ⟨⟩ := u
  simp only [State.outside, State.mk.injEq]
  iterate 43 refine And.imp (keep _ _ _ _) ?_
  exact id

/-- Every part of the state. -/
def Mask.full : Mask where
  time := true
  mode := true
  aon := true
  regs := true
  latches := true
  readData := true
  dram := true
  events := true
  eventSeq := true
  sent := true
  chans := true
  ctxs := true
  salvos := true
  bonds := true
  lanes := true
  cruiseSeq := true
  cruiseLast := true
  cores := true
  slots := true
  packing := true
  progs := true
  heads := true
  sheets := true
  engines := true
  win := true
  safe := true
  insts := true
  surfs := true
  dma := true
  atc := true
  console := true
  recs := true
  recCores := true
  pair := true
  board := true
  prov := true
  glb := true
  adm := true
  dict := true
  store := true
  prot := true
  udpPort := true
  udpPorts := true

end Sys2Proof.Machine
end

section
/-! What each operation leaves, in the order of the model. -/

namespace Sys2Proof.Machine

/-! ## Machine/Ops.lean -/

@[simp ↓] theorem State.setReg_outside (M : Mask) (s : State) (off v : Nat) (hM : M.regs) : (State.setReg s off v).outside M =
    s.outside M := by
  simp [State.setReg, hM]

@[simp ↓] theorem State.count_outside (M : Mask) (s : State) (off : Nat) (n : Nat) (hM : M.regs) : (State.count s off n).outside M =
    s.outside M := by
  simp [State.count, hM]

@[simp ↓] theorem State.orReg_outside (M : Mask) (s : State) (off m : Nat) (hM : M.regs) : (State.orReg s off m).outside M = s.outside
    M := by
  simp [State.orReg, hM]

@[simp ↓] theorem State.chCount_outside (M : Mask) (s : State) (c i n : Nat) (hM : M.regs) : (State.chCount s c i n).outside M =
    s.outside M := by
  simp [State.chCount, hM]

@[simp ↓] theorem State.headCount_outside (M : Mask) (s : State) (h i n : Nat) (hM : M.regs) : (State.headCount s h i n).outside M =
    s.outside M := by
  simp [State.headCount, hM]

@[simp ↓] theorem State.setCtx_outside (M : Mask) (s : State) (n : Nat) (x : Ctx) (hM : M.ctxs) : (State.setCtx s n x).outside M =
    s.outside M := by
  simp [State.setCtx, hM]

@[simp ↓] theorem State.setChan_outside (M : Mask) (s : State) (n : Nat) (x : Chan) (hM : M.chans) : (State.setChan s n x).outside M =
    s.outside M := by
  simp [State.setChan, hM]

@[simp ↓] theorem State.setLane_outside (M : Mask) (s : State) (n : Nat) (x : Lane) (hM : M.lanes) : (State.setLane s n x).outside M =
    s.outside M := by
  simp [State.setLane, hM]

@[simp ↓] theorem State.setCore_outside (M : Mask) (s : State) (n : Nat) (x : Core) (hM : M.cores) : (State.setCore s n x).outside M =
    s.outside M := by
  simp [State.setCore, hM]

@[simp ↓] theorem State.setHead_outside (M : Mask) (s : State) (n : Nat) (x : Head) (hM : M.heads) : (State.setHead s n x).outside M =
    s.outside M := by
  simp [State.setHead, hM]

@[simp ↓] theorem State.setSheet_outside (M : Mask) (s : State) (n : Nat) (x : Sheet) (hM : M.sheets) : (State.setSheet s n x).outside
    M = s.outside M := by
  simp [State.setSheet, hM]

@[simp ↓] theorem State.setEngine_outside (M : Mask) (s : State) (n : Nat) (x : Engine) (hM : M.engines) : (State.setEngine s n
    x).outside M = s.outside M := by
  simp [State.setEngine, hM]

@[simp ↓] theorem State.setSlots_outside (M : Mask) (s : State) (n : Nat) (x : Slots) (hM : M.slots) : (State.setSlots s n x).outside M
    = s.outside M := by
  simp [State.setSlots, hM]

@[simp ↓] theorem State.setInst_outside (M : Mask) (s : State) (n : Nat) (x : Inst) (hM : M.insts) : (State.setInst s n x).outside M =
    s.outside M := by
  simp [State.setInst, hM]

@[simp ↓] theorem State.setSurf_outside (M : Mask) (s : State) (n : Nat) (x : Surface) (hM : M.surfs) : (State.setSurf s n x).outside M
    = s.outside M := by
  simp [State.setSurf, hM]

@[simp ↓] theorem State.setTime_outside (M : Mask) (s : State) (u : TimeUnit) (hM : M.time) : (State.setTime s u).outside M = s.outside
    M := by
  simp [State.setTime, hM]

@[simp ↓] theorem State.setMode_outside (M : Mask) (s : State) (m : ModeUnit) (hM : M.mode) : (State.setMode s m).outside M = s.outside
    M := by
  simp [State.setMode, hM]

@[simp ↓] theorem State.send_outside (M : Mask) (s : State) (o : Out) (hM : M.sent) : (State.send s o).outside M = s.outside M := by
  simp [State.send, hM]

@[simp ↓] theorem State.signalVec_outside (M : Mask) (s : State) (n v : Nat) (hM : M.sent ∧ M.insts) : (State.signalVec s n v).outside
    M = s.outside M := by
  simp [State.signalVec, hM]

@[simp ↓] theorem State.evqSignal_outside (M : Mask) (s : State) (n : Nat) (hM : M.sent ∧ M.insts) : (State.evqSignal s n).outside M =
    s.outside M := by
  simp [State.evqSignal, hM]

@[simp ↓] theorem State.cqSignal_outside (M : Mask) (s : State) (n : Nat) (hM : M.sent ∧ M.insts) : (State.cqSignal s n).outside M =
    s.outside M := by
  simp [State.cqSignal, hM]

@[simp ↓] theorem State.medEmit_outside (M : Mask) (s : State) (k : EvKind) (idx time : Nat) (payload : List Int) (hM : M.events ∧
    M.eventSeq) : (State.medEmit s k idx time payload).outside M = s.outside M := by
  simp [State.medEmit, hM]

@[simp ↓] theorem State.ringWrite_outside (M : Mask) (s : State) (n : Nat) (k : EvKind) (idx time : Nat) (payload : List Int) (hM :
    M.eventSeq ∧ M.sent ∧ M.insts) : (State.ringWrite s n k idx time payload).outside M = s.outside M := by
  simp [State.ringWrite, hM]

@[simp ↓] theorem State.payLost_outside (M : Mask) (s : State) (n time : Nat) (hM : M.events ∧ M.eventSeq ∧ M.sent ∧ M.insts) :
    (State.payLost s n time).outside M = s.outside M := by
  simp [State.payLost, hM]

@[simp ↓] theorem State.ringEmit_outside (M : Mask) (s : State) (n : Nat) (k : EvKind) (idx time : Nat) (payload : List Int) (hM :
    M.events ∧ M.eventSeq ∧ M.sent ∧ M.insts) : (State.ringEmit s n k idx time payload).outside M = s.outside M := by
  simp [State.ringEmit, hM]

@[simp ↓] theorem State.ringsEmit_outside (M : Mask) (s : State) (k : EvKind) (idx time : Nat) (payload : List Int) (z0 : List Nat) (hM
    : M.events ∧ M.eventSeq ∧ M.sent ∧ M.insts) : (State.ringsEmit s k idx time payload z0).outside M = s.outside M := by
  induction z0 generalizing s with
  | nil => rfl
  | cons n ns ih =>
    rw [State.ringsEmit, ih]
    split <;> simp [hM]

@[simp ↓] theorem State.emitAt_outside (M : Mask) (s : State) (k : EvKind) (idx time : Nat) (payload : List Int) (hM : M.events ∧
    M.eventSeq ∧ M.sent ∧ M.insts) : (State.emitAt s k idx time payload).outside M = s.outside M := by
  simp [State.emitAt, hM]

@[simp ↓] theorem State.emit_outside (M : Mask) (s : State) (k : EvKind) (idx : Nat) (payload : List Int) (hM : M.events ∧ M.eventSeq ∧
    M.sent ∧ M.insts) : (State.emit s k idx payload).outside M = s.outside M := by
  simp [State.emit, hM]

@[simp ↓] theorem State.instFaultAt_outside (M : Mask) (s : State) (n va unit : Nat) (write : Bool) (hM : M.events ∧ M.eventSeq ∧
    M.sent ∧ M.insts) : (State.instFaultAt s n va unit write).outside M = s.outside M := by
  simp [State.instFaultAt, hM]

@[simp ↓] theorem State.engineFault_outside (M : Mask) (s : State) (owner : Option Nat) (va unit : Nat) (write : Bool) (hM : M.events ∧
    M.eventSeq ∧ M.sent ∧ M.insts) : (State.engineFault s owner va unit write).outside M = s.outside M := by
  unfold State.engineFault
  split <;> simp [hM]

@[simp ↓] theorem State.draw_outside (M : Mask) (s : State) (n bytes : Nat) (hM : M.insts) : (State.draw s n bytes).outside M =
    s.outside M := by
  simp [State.draw, hM]

@[simp ↓] theorem State.drawUrgent_outside (M : Mask) (s : State) (n bytes : Nat) (hM : M.insts) : (State.drawUrgent s n
    bytes).1.outside M = s.outside M := by
  simp [State.drawUrgent, hM]

@[simp ↓] theorem State.dramWrite_outside (M : Mask) (s : State) (a : Nat) (z0 : List Byte) (hM : M.dram) : (s.dramWrite a z0).outside
    M = s.outside M := by
  induction z0 generalizing s a with
  | nil => rfl
  | cons b t ih =>
    simp [State.dramWrite, ih, hM]

/-! ## Machine/Packet.lean -/

@[simp ↓] theorem State.wakeTx_outside (M : Mask) (s : State) (l : Nat) (hM : M.sent ∧ M.lanes) : (State.wakeTx s l).outside M =
    s.outside M := by
  simp [State.wakeTx, hM, outside_foldl]

@[simp ↓] theorem State.idleTx_outside (M : Mask) (s : State) (l : Nat) (hM : M.sent ∧ M.lanes) : (State.idleTx s l).outside M =
    s.outside M := by
  simp [State.idleTx, hM]

@[simp ↓] theorem State.sendPacket_outside (M : Mask) (s : State) (l n chan : Nat) (b : LuskoBody) (payload : List Byte) (hM : M.sent ∧
    M.lanes) : (State.sendPacket s l n chan b payload).outside M = s.outside M := by
  simp [State.sendPacket, hM]

@[simp ↓] theorem State.sendLusko_outside (M : Mask) (s : State) (l chan : Nat) (b : LuskoBody) (payload : List Byte) (hM : M.sent ∧
    M.lanes) : (State.sendLusko s l chan b payload).outside M = s.outside M := by
  simp [State.sendLusko, hM, outside_foldl]

@[simp ↓] theorem State.sendTime_outside (M : Mask) (s : State) (l chan : Nat) (mk : BitVec 64 → BitVec 32 → LuskoBody) (hM : M.sent ∧
    M.lanes) : (State.sendTime s l chan mk).outside M = s.outside M := by
  simp [State.sendTime, hM]

/-! ## Machine/PairBase.lean -/

@[simp ↓] theorem State.sendPairBytes_outside (M : Mask) (s : State) (m : PairMsg) (payload : List Byte) (hM : M.sent ∧ M.lanes) :
    (State.sendPairBytes s m payload).outside M = s.outside M := by
  unfold State.sendPairBytes
  split <;> simp [hM]

@[simp ↓] theorem State.sendPair_outside (M : Mask) (s : State) (m : PairMsg) (hM : M.sent ∧ M.lanes) : (State.sendPair s m).outside M
    = s.outside M := by
  simp [State.sendPair, hM]

@[simp ↓] theorem State.pairTo_outside (M : Mask) (s : State) (x : PairState) (hM : M.events ∧ M.eventSeq ∧ M.sent ∧ M.insts ∧ M.pair)
    : (State.pairTo s x).outside M = s.outside M := by
  simp [State.pairTo, hM]

@[simp ↓] theorem State.unpair_outside (M : Mask) (s : State) (hM : M.events ∧ M.eventSeq ∧ M.sent ∧ M.insts ∧ M.pair) : (State.unpair
    s).outside M = s.outside M := by
  simp [State.unpair, hM]

@[simp ↓] theorem State.sendManifest_outside (M : Mask) (s : State) (m : Manifest) (hM : M.sent ∧ M.lanes ∧ M.pair) :
    (State.sendManifest s m).outside M = s.outside M := by
  simp [State.sendManifest, hM]

@[simp ↓] theorem State.sendUnit_outside (M : Mask) (s : State) (m : Manifest) (content : List Nal × List Byte) (hM : M.sent ∧ M.lanes
    ∧ M.pair) : (State.sendUnit s m content).outside M = s.outside M := by
  simp [State.sendUnit, hM]

@[simp ↓] theorem State.sendAction_outside (M : Mask) (s : State) (ctx op code : Nat) (hM : M.sent ∧ M.lanes ∧ M.pair) :
    (State.sendAction s ctx op code).outside M = s.outside M := by
  simp [State.sendAction, hM]

@[simp ↓] theorem State.gapBegin_outside (M : Mask) (s : State) (k : Nat) (hM : M.regs ∧ M.events ∧ M.eventSeq ∧ M.sent ∧ M.insts ∧
    M.pair) : (State.gapBegin s k).outside M = s.outside M := by
  simp [State.gapBegin, hM]

@[simp ↓] theorem State.gapEnd_outside (M : Mask) (s : State) (k : Nat) (hM : M.events ∧ M.eventSeq ∧ M.sent ∧ M.insts ∧ M.pair) :
    (State.gapEnd s k).outside M = s.outside M := by
  simp [State.gapEnd, hM]

@[simp ↓] theorem State.joinSource_outside (M : Mask) (s : State) (k : Nat) (hM : M.pair) : (State.joinSource s k).outside M =
    s.outside M := by
  simp [State.joinSource, hM]

/-! ## Machine/Perf.lean -/

@[simp ↓] theorem State.unitOvf_outside (M : Mask) (s : State) (u n : Nat) (hM : M.regs) : (State.unitOvf s u n).outside M = s.outside
    M := by
  simp [State.unitOvf, hM]

@[simp ↓] theorem State.progAdd_outside (M : Mask) (s : State) (u i n : Nat) (hM : M.regs ∧ M.progs) : (State.progAdd s u i n).outside
    M = s.outside M := by
  simp [State.progAdd, hM]

@[simp ↓] theorem State.pmc_outside (M : Mask) (s : State) (u code n : Nat) (hM : M.regs ∧ M.progs) : (State.pmc s u code n).outside M
    = s.outside M := by
  simp [State.pmc, hM, outside_foldl]

@[simp ↓] theorem State.addSlots_outside (M : Mask) (s : State) (u : Nat) (c : SlotClass) (n : Nat) (hM : M.regs ∧ M.slots) :
    (State.addSlots s u c n).outside M = s.outside M := by
  unfold State.addSlots
  split <;> simp [hM]

@[simp ↓] theorem State.endWork_outside (M : Mask) (s : State) (u : Nat) (retired : Bool) (hM : M.regs ∧ M.slots) : (State.endWork s u
    retired).outside M = s.outside M := by
  simp [State.endWork, hM]

@[simp ↓] theorem State.stallSlots_outside (M : Mask) (s : State) (u code n : Nat) (hM : M.regs ∧ M.slots ∧ M.progs) :
    (State.stallSlots s u code n).outside M = s.outside M := by
  simp [State.stallSlots, hM]

@[simp ↓] theorem State.slotsTo_outside (M : Mask) (s : State) (u : Nat) (c : SlotClass) (why : Nat) (hM : M.regs ∧ M.slots ∧ M.progs)
    : (State.slotsTo s u c why).outside M = s.outside M := by
  simp [State.slotsTo, hM]

@[simp ↓] theorem State.syncCore_outside (M : Mask) (s : State) (k : Nat) (hM : M.regs ∧ M.slots ∧ M.progs) : (State.syncCore s
    k).outside M = s.outside M := by
  simp [State.syncCore, hM]

@[simp ↓] theorem State.syncEngine_outside (M : Mask) (s : State) (e : Nat) (hM : M.regs ∧ M.slots ∧ M.progs) : (State.syncEngine s
    e).outside M = s.outside M := by
  simp [State.syncEngine, hM]

@[simp ↓] theorem State.syncHead_outside (M : Mask) (s : State) (h : Nat) (hM : M.regs ∧ M.slots ∧ M.progs) : (State.syncHead s
    h).outside M = s.outside M := by
  simp [State.syncHead, hM]

/-! ## Machine/Tags.lean -/

@[simp ↓] theorem State.setBufs_outside (M : Mask) (s : State) (p : Pool) (b : Tab Frame) (hM : M.ctxs ∧ M.sheets ∧ M.surfs) :
    (State.setBufs s p b).outside M = s.outside M := by
  unfold State.setBufs
  split <;> simp [hM]

@[simp ↓] theorem State.setFrame_outside (M : Mask) (s : State) (r : FrameRef) (f : Frame) (hM : M.ctxs ∧ M.sheets ∧ M.surfs) :
    (State.setFrame s r f).outside M = s.outside M := by
  simp [State.setFrame, hM]

@[simp ↓] theorem State.modFrame_outside (M : Mask) (s : State) (r : FrameRef) (f : Frame → Frame) (hM : M.ctxs ∧ M.sheets ∧ M.surfs) :
    (State.modFrame s r f).outside M = s.outside M := by
  simp [State.modFrame, hM]

@[simp ↓] theorem State.setChecker_outside (M : Mask) (s : State) (src : Source) (x : BlazeState) (hM : M.chans ∧ M.surfs) :
    (State.setChecker s src x).outside M = s.outside M := by
  unfold State.setChecker
  split <;> simp [hM]

@[simp ↓] theorem State.verdictEvent_outside (M : Mask) (s : State) (src : Source) (old new : BlazeVerdict) (arrv : BitVec 40) (hM :
    M.regs ∧ M.events ∧ M.eventSeq ∧ M.sent ∧ M.insts ∧ M.surfs) : (State.verdictEvent s src old new arrv).outside M = s.outside M := by
  unfold State.verdictEvent
  split <;> simp [hM]

@[simp ↓] theorem State.resetChecker_outside (M : Mask) (s : State) (src : Source) (hM : M.chans ∧ M.ctxs ∧ M.sheets ∧ M.surfs) :
    (State.resetChecker s src).outside M = s.outside M := by
  unfold State.resetChecker
  dsimp only
  repeat' split
  all_goals simp [hM]

@[simp ↓] theorem State.blazeTag_outside (M : Mask) (s : State) (src : Source) (arrv : BitVec 40) (hM : M.regs ∧ M.events ∧ M.eventSeq
    ∧ M.sent ∧ M.chans ∧ M.insts ∧ M.surfs) : (State.blazeTag s src arrv).outside M = s.outside M := by
  simp [State.blazeTag, hM]

@[simp ↓] theorem State.blazeHash_outside (M : Mask) (s : State) (src : Source) (arrv : BitVec 40) (seq : BitVec 16) (h : BitVec 32)
    (hM : M.regs ∧ M.events ∧ M.eventSeq ∧ M.sent ∧ M.chans ∧ M.insts ∧ M.surfs) : (State.blazeHash s src arrv seq h).outside M =
    s.outside M := by
  simp [State.blazeHash, hM]

@[simp ↓] theorem State.captImplausible_outside (M : Mask) (s : State) (ch : Nat) (arrv capt : Nat) (hM : M.regs ∧ M.events ∧
    M.eventSeq ∧ M.sent ∧ M.chans ∧ M.insts) : (State.captImplausible s ch arrv capt).outside M = s.outside M := by
  simp [State.captImplausible, hM]

@[simp ↓] theorem State.writeTag_outside (M : Mask) (s : State) (w : Writer) (r : FrameRef) (v : BlazeVerdict) (p : Nat × Bool × Nat)
    (hM : M.regs ∧ M.events ∧ M.eventSeq ∧ M.sent ∧ M.chans ∧ M.ctxs ∧ M.sheets ∧ M.insts ∧ M.surfs) : (State.writeTag s w r v
    p).outside M = s.outside M := by
  unfold State.writeTag
  split <;> simp [hM]

@[simp ↓] theorem State.writeTags_outside (M : Mask) (s : State) (w : Writer) (r : FrameRef) (v : BlazeVerdict) (l : List (Nat × Bool ×
    Nat)) (hM : M.regs ∧ M.events ∧ M.eventSeq ∧ M.sent ∧ M.chans ∧ M.ctxs ∧ M.sheets ∧ M.insts ∧ M.surfs) : (State.writeTags s w r v
    l).outside M = s.outside M := by
  simp [State.writeTags, hM, outside_foldl]

@[simp ↓] theorem State.writeStands_outside (M : Mask) (s : State) (w : Writer) (r : FrameRef) (l : List (Nat × Bool × Nat)) (hM :
    M.regs ∧ M.events ∧ M.eventSeq ∧ M.sent ∧ M.chans ∧ M.ctxs ∧ M.sheets ∧ M.insts ∧ M.surfs) : (State.writeStands s w r l).outside M
    = s.outside M := by
  simp [State.writeStands, hM]

@[simp ↓] theorem State.chanTo_outside (M : Mask) (s : State) (ch : Nat) (x : ChState) (hM : M.regs ∧ M.events ∧ M.eventSeq ∧ M.sent ∧
    M.chans ∧ M.insts) : (State.chanTo s ch x).outside M = s.outside M := by
  simp [State.chanTo, hM]

@[simp ↓] theorem State.missFor_outside (M : Mask) (s : State) (src : Source) (hM : M.regs ∧ M.events ∧ M.eventSeq ∧ M.sent ∧ M.sheets
    ∧ M.insts ∧ M.surfs ∧ M.prot) : (State.missFor s src).outside M = s.outside M := by
  unfold State.missFor
  split <;> simp [hM]

@[simp ↓] theorem State.makeEligible_outside (M : Mask) (s : State) (src : Source) (r : FrameRef) (hM : M.regs ∧ M.events ∧ M.eventSeq
    ∧ M.sent ∧ M.chans ∧ M.ctxs ∧ M.sheets ∧ M.insts ∧ M.surfs ∧ M.prot) : (State.makeEligible s src r).outside M = s.outside M := by
  unfold State.makeEligible
  split <;> simp [hM]

/-! ## Machine/Release.lean -/

@[simp ↓] theorem State.settlePending_outside (M : Mask) (s : State) (src : Source) (r : FrameRef) (hM : M.ctxs ∧ M.sheets ∧ M.surfs) :
    (State.settlePending s src r).outside M = s.outside M := by
  simp [State.settlePending, hM]

@[simp ↓] theorem State.settleAll_outside (M : Mask) (s : State) (hM : M.ctxs ∧ M.sheets ∧ M.surfs) : (State.settleAll s).outside M =
    s.outside M := outside_foldl M _ (fun _ _ => outside_foldl M _ (fun _ _ => by simp [hM]) _ _) _ _

@[simp ↓] theorem State.giveFrame_outside (M : Mask) (s : State) (c : Consumer) (src : Source) (r : FrameRef) (hM : M.ctxs ∧ M.heads ∧
    M.sheets ∧ M.surfs) : (State.giveFrame s c src r).outside M = s.outside M := by
  unfold State.giveFrame
  dsimp only
  repeat' split
  all_goals simp [hM]

@[simp ↓] theorem State.countRelease_outside (M : Mask) (s : State) (src : Source) (dropped : Nat) (hM : M.regs) : (State.countRelease
    s src dropped).outside M = s.outside M := by
  unfold State.countRelease
  split <;> simp [hM]

@[simp ↓] theorem State.prerollEligible_outside (M : Mask) (s : State) (c : Nat) (r : FrameRef) (hM : M.ctxs ∧ M.sheets ∧ M.surfs) :
    (State.prerollEligible s c r).outside M = s.outside M := by
  simp [State.prerollEligible, hM, outside_foldl]

@[simp ↓] theorem State.becomeEligible_outside (M : Mask) (s : State) (src : Source) (r : FrameRef) (hM : M.regs ∧ M.events ∧
    M.eventSeq ∧ M.sent ∧ M.chans ∧ M.ctxs ∧ M.sheets ∧ M.insts ∧ M.surfs ∧ M.prot) : (State.becomeEligible s src r).outside M =
    s.outside M := by
  simp [State.becomeEligible, hM]

@[simp ↓] theorem State.releaseSource_outside (M : Mask) (s : State) (c : Consumer) (e : Nat) (src : Source) (hM : M.regs ∧ M.ctxs ∧
    M.heads ∧ M.sheets ∧ M.surfs) : (State.releaseSource s c e src).outside M = s.outside M := by
  unfold State.releaseSource
  dsimp only
  repeat' split
  all_goals simp [hM, outside_foldl]

@[simp ↓] theorem State.releaseAll_outside (M : Mask) (s : State) (c : Consumer) (e : Nat) (hM : M.regs ∧ M.ctxs ∧ M.heads ∧ M.sheets ∧
    M.surfs) : (State.releaseAll s c e).outside M = s.outside M := by
  simp [State.releaseAll, hM, outside_foldl]

@[simp ↓] theorem State.noteReady_outside (M : Mask) (s : State) (n : Nat) (hM : M.heads) : (State.noteReady s n).outside M = s.outside
    M := by
  simp [State.noteReady, hM]

/-! ## Machine/Token.lean -/

@[simp ↓] theorem State.askToken_outside (M : Mask) (s : State) (h : TokenHolder) (u : Nat) (hM : M.mode) : (State.askToken s h
    u).outside M = s.outside M := by
  simp [State.askToken, hM]

@[simp ↓] theorem State.dropToken_outside (M : Mask) (s : State) (h : TokenHolder) (u : Nat) (hM : M.mode) : (State.dropToken s h
    u).outside M = s.outside M := by
  simp [State.dropToken, hM]

/-! ## Machine/CtxBase.lean -/

@[simp ↓] theorem State.ctxTo_outside (M : Mask) (s : State) (n : Nat) (x : CtxState) (hM : M.events ∧ M.eventSeq ∧ M.sent ∧ M.ctxs ∧
    M.insts) : (State.ctxTo s n x).outside M = s.outside M := by
  simp [State.ctxTo, hM]

@[simp ↓] theorem State.restCore_outside (M : Mask) (s : State) (k : Nat) (hM : M.regs ∧ M.cores ∧ M.slots ∧ M.progs) : (State.restCore
    s k).outside M = s.outside M := by
  simp [State.restCore, hM]

@[simp ↓] theorem State.freeCore_outside (M : Mask) (s : State) (n k : Nat) (hM : M.mode ∧ M.regs ∧ M.cores ∧ M.slots ∧ M.progs) :
    (State.freeCore s n k).outside M = s.outside M := by
  unfold State.freeCore
  dsimp only
  repeat' split
  all_goals simp [hM]

@[simp ↓] theorem State.freeEngine_outside (M : Mask) (s : State) (e : Nat) (hM : M.mode ∧ M.regs ∧ M.slots ∧ M.progs ∧ M.engines) :
    (State.freeEngine s e).outside M = s.outside M := by
  simp [State.freeEngine, hM]

@[simp ↓] theorem State.dropWork_outside (M : Mask) (s : State) (n : Nat) (hM : M.mode ∧ M.regs ∧ M.ctxs ∧ M.cores ∧ M.slots ∧ M.progs
    ∧ M.sheets ∧ M.surfs) : (State.dropWork s n).outside M = s.outside M := by
  unfold State.dropWork
  dsimp only
  rw [outside_foldl M _ (fun _ _ => by simp [hM]), State.setCtx_outside M _ _ _ (by simp [hM]),
    outside_foldl M _ (fun _ _ => by simp [hM]), outside_foldl M _ (fun _ _ => by simp [hM])]

@[simp ↓] theorem State.dropPicture_outside (M : Mask) (s : State) (n : Nat) (hM : M.mode ∧ M.regs ∧ M.ctxs ∧ M.cores ∧ M.slots ∧
    M.progs ∧ M.sheets ∧ M.surfs) : (State.dropPicture s n).outside M = s.outside M := by
  unfold State.dropPicture
  dsimp only
  repeat' split
  all_goals simp [hM, outside_foldl]

@[simp ↓] theorem State.ctxResync_outside (M : Mask) (s : State) (n : Nat) (hM : M.events ∧ M.eventSeq ∧ M.sent ∧ M.ctxs ∧ M.insts) :
    (State.ctxResync s n).outside M = s.outside M := by
  simp [State.ctxResync, hM]

@[simp ↓] theorem State.ctxFault_outside (M : Mask) (s : State) (n : Nat) (x : CtxFault) (hM : M.mode ∧ M.regs ∧ M.events ∧ M.eventSeq
    ∧ M.sent ∧ M.chans ∧ M.ctxs ∧ M.lanes ∧ M.cores ∧ M.slots ∧ M.progs ∧ M.sheets ∧ M.insts ∧ M.surfs ∧ M.pair) : (State.ctxFault s n
    x).outside M = s.outside M := by
  unfold State.ctxFault
  dsimp only
  repeat' split
  all_goals simp [hM]

@[simp ↓] theorem State.chanStart_outside (M : Mask) (s : State) (ch : Nat) (hM : M.regs ∧ M.events ∧ M.eventSeq ∧ M.sent ∧ M.chans ∧
    M.insts) : (State.chanStart s ch).outside M = s.outside M := by
  unfold State.chanStart
  split
  · simp [hM]
  · split
    · simp [hM]
    · split <;> simp [hM]

/-! ## Machine/Inject.lean -/

@[simp ↓] theorem State.setInjector_outside (M : Mask) (s : State) (i : Nat) (x : Injector) (hM : M.prov) : (State.setInjector s i
    x).outside M = s.outside M := by
  simp [State.setInjector, hM]

/-! ## Machine/Evaluate.lean -/

@[simp ↓] theorem State.countEntry_outside (M : Mask) (s : State) (h : Nat) (src : Source) (x : WinState) (hM : M.regs) :
    (State.countEntry s h src x).outside M = s.outside M := by
  unfold State.countEntry
  dsimp only
  repeat' split
  all_goals simp [hM]

@[simp ↓] theorem State.applyVerdict_outside (M : Mask) (s : State) (h w tile e : Nat) (src : Source) (v : Verdict) (hM : M.regs ∧
    M.events ∧ M.eventSeq ∧ M.sent ∧ M.heads ∧ M.insts) : (State.applyVerdict s h w tile e src v).outside M = s.outside M := by
  simp [State.applyVerdict, hM]

@[simp ↓] theorem State.runEvals_outside (M : Mask) (s : State) (h e : Nat) (lu : BitVec 40) (bad : List Nat) (l : List Eval) (hM :
    M.regs ∧ M.events ∧ M.eventSeq ∧ M.sent ∧ M.heads ∧ M.insts) : (State.runEvals s h e lu bad l).outside M = s.outside M := by
  simp [State.runEvals, hM, outside_foldl]

@[simp ↓] theorem State.markStat_outside (M : Mask) (s : State) (h : Nat) (l : List Eval) (hM : M.regs ∧ M.heads) : (State.markStat s h
    l).outside M = s.outside M := by
  simp [State.markStat, hM, outside_foldl]

/-! ## Machine/Latch.lean -/

@[simp ↓] theorem State.dropViews_outside (M : Mask) (s : State) (g : Bool) (h : Nat) (tgt : Desc → Bool) (hM : M.heads) :
    (State.dropViews s g h tgt).outside M = s.outside M := by
  simp [State.dropViews, hM]

@[simp ↓] theorem State.switchHead_outside (M : Mask) (s : State) (h : Nat) (hM : M.regs ∧ M.events ∧ M.eventSeq ∧ M.sent ∧ M.heads ∧
    M.insts) : (State.switchHead s h).outside M = s.outside M := by
  simp [State.switchHead, hM]

@[simp ↓] theorem State.switchSheet_outside (M : Mask) (s : State) (n : Nat) (hM : M.heads ∧ M.sheets) : (State.switchSheet s
    n).outside M = s.outside M := by
  simp [State.switchSheet, hM, outside_foldl]

@[simp ↓] theorem State.finishSwitch_outside (M : Mask) (s : State) (hM : M.ctxs ∧ M.sheets ∧ M.win ∧ M.surfs) : (State.finishSwitch
    s).outside M = s.outside M := by
  simp [State.finishSwitch, hM]

@[simp ↓] theorem State.settleHead_outside (M : Mask) (s : State) (h : Nat) (hM : M.regs ∧ M.events ∧ M.eventSeq ∧ M.sent ∧ M.ctxs ∧
    M.heads ∧ M.sheets ∧ M.win ∧ M.insts ∧ M.surfs) : (State.settleHead s h).outside M = s.outside M := by
  simp [State.settleHead, hM]

@[simp ↓] theorem State.acceptGeneration_outside (M : Mask) (s : State) (a : Nat) (hM : M.regs ∧ M.events ∧ M.eventSeq ∧ M.sent ∧
    M.ctxs ∧ M.heads ∧ M.sheets ∧ M.win ∧ M.insts ∧ M.surfs) : (s.acceptGeneration a).outside M = s.outside M := by
  unfold State.acceptGeneration
  extract_lets w u v x
  have hv : v.outside M = u.outside M := by
    refine outside_foldl M _ (fun y h => ?_) _ _
    dsimp only
    split <;> simp [hM]
  have hx : x.outside M = v.outside M := by
    refine outside_foldl M _ (fun y n => ?_) _ _
    dsimp only
    split <;> simp [hM]
  rw [State.finishSwitch_outside M _ (by simp [hM]), hx, hv]
  simp [u, hM]

@[simp ↓] theorem State.headTurn_outside (M : Mask) (s : State) (h e : Nat) (hM : M.regs ∧ M.events ∧ M.eventSeq ∧ M.sent ∧ M.ctxs ∧
    M.heads ∧ M.sheets ∧ M.win ∧ M.insts ∧ M.surfs) : (State.headTurn s h e).outside M = s.outside M := by
  simp [State.headTurn, hM]

@[simp ↓] theorem State.sheetTurn_outside (M : Mask) (s : State) (n e : Nat) (hM : M.regs ∧ M.ctxs ∧ M.heads ∧ M.sheets ∧ M.win ∧
    M.surfs) : (State.sheetTurn s n e).outside M = s.outside M := by
  simp [State.sheetTurn, hM]

@[simp ↓] theorem State.fixFrames_outside (M : Mask) (s : State) (h : Nat) (hM : M.ctxs ∧ M.heads ∧ M.sheets ∧ M.surfs) :
    (State.fixFrames s h).outside M = s.outside M := by
  simp [State.fixFrames, hM, outside_foldl]

@[simp ↓] theorem State.specDiscard_outside (M : Mask) (s : State) (h : Nat) (hM : M.regs ∧ M.progs ∧ M.heads) : (State.specDiscard s
    h).outside M = s.outside M := by
  simp [State.specDiscard, hM]

@[simp ↓] theorem State.phaseAt_outside (M : Mask) (s : State) (h : Nat) (e : Int) (hM : M.regs ∧ M.events ∧ M.eventSeq ∧ M.sent ∧
    M.heads ∧ M.insts) : (State.phaseAt s h e).outside M = s.outside M := by
  simp [State.phaseAt, hM]

@[simp ↓] theorem State.settleGiven_outside (M : Mask) (s : State) (h : Nat) (hM : M.ctxs ∧ M.heads ∧ M.sheets ∧ M.surfs) :
    (State.settleGiven s h).outside M = s.outside M := by
  unfold State.settleGiven
  dsimp only
  rw [outside_foldl M _ (fun _ _ => outside_foldl M _ (fun _ _ => by simp [hM]) _ _)]
  simp [hM]

@[simp ↓] theorem State.reportLate_outside (M : Mask) (s : State) (h : Nat) (late : List Nat) (again : Bool) (hM : M.regs ∧ M.events ∧
    M.eventSeq ∧ M.sent ∧ M.insts) : (State.reportLate s h late again).outside M = s.outside M := by
  simp [State.reportLate, hM, outside_foldl]

@[simp ↓] theorem State.takeShot_outside (M : Mask) (s : State) (h : Nat) (evs : List Eval) (late : List Nat) (hM : M.heads) :
    (State.takeShot s h evs late).outside M = s.outside M := by
  simp [State.takeShot, hM]

@[simp ↓] theorem State.armHead_outside (M : Mask) (s : State) (h : Nat) (hM : M.events ∧ M.eventSeq ∧ M.sent ∧ M.insts ∧ M.pair) :
    (State.armHead s h).outside M = s.outside M := by
  simp [State.armHead, hM]

@[simp ↓] theorem State.latch_outside (M : Mask) (s : State) (h e : Nat) (line : Option Nat) (bad : List Nat) (hM : M.regs ∧ M.events ∧
    M.eventSeq ∧ M.sent ∧ M.ctxs ∧ M.progs ∧ M.heads ∧ M.sheets ∧ M.insts ∧ M.surfs ∧ M.pair) : (State.latch s h e line bad).outside M
    = s.outside M := by
  simp [State.latch, hM]

@[simp ↓] theorem State.latchLocked_outside (M : Mask) (s : State) (h : Nat) (phase : Int) (bad : List Nat) (hM : M.regs ∧ M.events ∧
    M.eventSeq ∧ M.sent ∧ M.ctxs ∧ M.progs ∧ M.heads ∧ M.sheets ∧ M.win ∧ M.insts ∧ M.surfs ∧ M.pair) : (State.latchLocked s h phase
    bad).outside M = s.outside M := by
  unfold State.latchLocked
  dsimp only
  repeat' split
  all_goals simp [hM]

@[simp ↓] theorem State.latchReady_outside (M : Mask) (s : State) (h : Nat) (line : Option Nat) (bad : List Nat) (hM : M.regs ∧
    M.events ∧ M.eventSeq ∧ M.sent ∧ M.ctxs ∧ M.progs ∧ M.heads ∧ M.sheets ∧ M.win ∧ M.insts ∧ M.surfs ∧ M.pair) : (State.latchReady s
    h line bad).outside M = s.outside M := by
  simp [State.latchReady, hM]

@[simp ↓] theorem State.latchForced_outside (M : Mask) (s : State) (h : Nat) (bad : List Nat) (hM : M.regs ∧ M.events ∧ M.eventSeq ∧
    M.sent ∧ M.ctxs ∧ M.progs ∧ M.heads ∧ M.sheets ∧ M.insts ∧ M.surfs ∧ M.pair) : (State.latchForced s h bad).outside M = s.outside M := by
  simp [State.latchForced, hM]

/-! ## Machine/Rec.lean -/

@[simp ↓] theorem State.setRecording_outside (M : Mask) (s : State) (r : Nat) (x : Rec) (hM : M.recs) : (State.setRecording s r
    x).outside M = s.outside M := by
  simp [State.setRecording, hM]

@[simp ↓] theorem State.setRecCore_outside (M : Mask) (s : State) (k : Nat) (x : RecCore) (hM : M.recCores) : (State.setRecCore s k
    x).outside M = s.outside M := by
  simp [State.setRecCore, hM]

@[simp ↓] theorem State.syncRec_outside (M : Mask) (s : State) (k : Nat) (hM : M.regs ∧ M.slots ∧ M.progs) : (State.syncRec s
    k).outside M = s.outside M := by
  simp [State.syncRec, hM]

@[simp ↓] theorem State.recCapture_outside (M : Mask) (s : State) (h : Nat) (hM : M.events ∧ M.eventSeq ∧ M.sent ∧ M.insts ∧ M.recs) :
    (State.recCapture s h).outside M = s.outside M := by
  simp [State.recCapture, hM]

@[simp ↓] theorem State.recUnderrun_outside (M : Mask) (s : State) (h : Nat) (hM : M.recs) : (State.recUnderrun s h).outside M =
    s.outside M := by
  unfold State.recUnderrun
  dsimp only
  repeat' split
  all_goals simp [hM]

@[simp ↓] theorem State.restRec_outside (M : Mask) (s : State) (k : Nat) (hM : M.regs ∧ M.slots ∧ M.progs ∧ M.recCores) :
    (State.restRec s k).outside M = s.outside M := by
  simp [State.restRec, hM]

@[simp ↓] theorem State.beginRecPic_outside (M : Mask) (s : State) (r : Nat) (p : RecPic) (hM : M.recs) : (State.beginRecPic s r
    p).outside M = s.outside M := by
  simp [State.beginRecPic, hM]

@[simp ↓] theorem State.runRecPart_outside (M : Mask) (s : State) (r part k : Nat) (hM : M.regs ∧ M.slots ∧ M.progs ∧ M.recs ∧
    M.recCores) : (State.runRecPart s r part k).outside M = s.outside M := by
  unfold State.runRecPart
  dsimp only
  repeat' split
  all_goals simp [hM]

@[simp ↓] theorem State.ringBytes_outside (M : Mask) (s : State) (pages : List Nat) (pos : Nat) (z0 : List Byte) (hM : M.dram) :
    (State.ringBytes s pages pos z0).outside M = s.outside M := by
  induction z0 generalizing s pos with
  | nil => rfl
  | cons b t ih =>
    simp [State.ringBytes, ih, hM]

@[simp ↓] theorem State.recToRing_outside (M : Mask) (s : State) (r : Nat) (p : RecPic) (unit : List Byte) (hM : M.dram ∧ M.events ∧
    M.eventSeq ∧ M.sent ∧ M.insts ∧ M.recs) : (State.recToRing s r p unit).1.outside M = s.outside M := by
  unfold State.recToRing
  dsimp only
  repeat' split
  all_goals simp [hM]

@[simp ↓] theorem State.recToIndex_outside (M : Mask) (s : State) (r : Nat) (e : RecEntry) (hM : M.dram ∧ M.events ∧ M.eventSeq ∧
    M.sent ∧ M.insts ∧ M.recs) : (s.recToIndex r e).outside M = s.outside M := by
  simp [State.recToIndex, hM]

@[simp ↓] theorem State.recComplete_outside (M : Mask) (s : State) (r : Nat) (p : RecPic) (body : List Byte) (hM : M.dram ∧ M.events ∧
    M.eventSeq ∧ M.sent ∧ M.insts ∧ M.recs) : (State.recComplete s r p body).outside M = s.outside M := by
  simp [State.recComplete, hM]

@[simp ↓] theorem State.recSlots_outside (M : Mask) (s : State) (k : Nat) (stalls : List (Nat × Nat)) (wasted : Nat) (hM : M.regs ∧
    M.slots ∧ M.progs) : (State.recSlots s k stalls wasted).outside M = s.outside M := by
  simp [State.recSlots, hM, outside_foldl]

@[simp ↓] theorem State.idleRec_outside (M : Mask) (s : State) (k : Nat) (hM : M.regs ∧ M.slots ∧ M.progs ∧ M.recCores) :
    (State.idleRec s k).outside M = s.outside M := by
  simp [State.idleRec, hM]

@[simp ↓] theorem State.recRow_outside (M : Mask) (s : State) (k r part : Nat) (p : RecPic) (coded filler : Nat) (stalls : List (Nat ×
    Nat)) (wasted rd wr : Nat) (body : List Byte) (hM : M.mode ∧ M.regs ∧ M.dram ∧ M.events ∧ M.eventSeq ∧ M.sent ∧ M.slots ∧ M.progs ∧
    M.insts ∧ M.recs ∧ M.recCores) : (State.recRow s k r part p coded filler stalls wasted rd wr body).outside M = s.outside M := by
  simp [State.recRow, hM]

@[simp ↓] theorem State.sendRtp_outside (M : Mask) (s : State) (c : RecCfg) (seq : BitVec 16) (ts : BitVec 32) (z0 : List (List Byte))
    (hM : M.sent) : (State.sendRtp s c seq ts z0).outside M = s.outside M := by
  induction z0 generalizing s seq with
  | nil => rfl
  | cons b t ih =>
    simp [State.sendRtp, ih, hM]

@[simp ↓] theorem State.recStart_outside (M : Mask) (s : State) (r : Nat) (hM : M.mode ∧ M.regs ∧ M.slots ∧ M.progs ∧ M.recs ∧
    M.recCores) : (State.recStart s r).outside M = s.outside M := by
  unfold State.recStart
  dsimp only
  rw [outside_foldl M _ (fun _ _ => by simp [hM]), State.setReg_outside M _ _ _ (by simp [hM]),
    State.setRecording_outside M _ _ _ (by simp [hM]), outside_foldl]
  intro u k
  split
  · split <;> simp [hM]
  · simp [hM]

/-! ## Machine/StepReset.lean -/

@[simp ↓] theorem State.emitCtxSync_outside (M : Mask) (s : State) (z0 : List Nat) (hM : M.events ∧ M.eventSeq ∧ M.sent ∧ M.insts) :
    (State.emitCtxSync s z0).outside M = s.outside M := by
  induction z0 generalizing s with
  | nil => rfl
  | cons c t ih =>
    rw [State.emitCtxSync, ih]
    split <;> simp [hM]

@[simp ↓] theorem State.stepEffects_outside (M : Mask) (s : State) (hM : M.mode ∧ M.regs ∧ M.events ∧ M.eventSeq ∧ M.sent ∧ M.chans ∧
    M.ctxs ∧ M.cruiseLast ∧ M.cores ∧ M.slots ∧ M.progs ∧ M.heads ∧ M.sheets ∧ M.engines ∧ M.insts ∧ M.surfs ∧ M.recs ∧ M.recCores ∧
    M.prot) : (State.stepEffects s).outside M = s.outside M := by
  simp [State.stepEffects, hM, outside_foldl]

/-! ## Machine/Servo.lean -/

@[simp ↓] theorem State.refreshTrace_outside (M : Mask) (s : State) (hM : M.time) : (State.refreshTrace s).outside M = s.outside M := by
  simp [State.refreshTrace, hM]

@[simp ↓] theorem State.stepTime_outside (M : Mask) (s : State) (d : Int) (hM : M.time ∧ M.mode ∧ M.regs ∧ M.events ∧ M.eventSeq ∧
    M.sent ∧ M.chans ∧ M.ctxs ∧ M.cruiseLast ∧ M.cores ∧ M.slots ∧ M.progs ∧ M.heads ∧ M.sheets ∧ M.engines ∧ M.insts ∧ M.surfs ∧
    M.recs ∧ M.recCores ∧ M.prot) : (State.stepTime s d).outside M = s.outside M := by
  simp [State.stepTime, hM]

@[simp ↓] theorem State.holdDifference_outside (M : Mask) (s : State) (d : Int) (hM : M.time ∧ M.events ∧ M.eventSeq ∧ M.sent ∧
    M.insts) : (State.holdDifference s d).outside M = s.outside M := by
  simp [State.holdDifference, hM]

@[simp ↓] theorem State.correct_outside (M : Mask) (s : State) (d r : Int) (hM : M.time ∧ M.mode ∧ M.regs ∧ M.events ∧ M.eventSeq ∧
    M.sent ∧ M.chans ∧ M.ctxs ∧ M.cruiseLast ∧ M.cores ∧ M.slots ∧ M.progs ∧ M.heads ∧ M.sheets ∧ M.engines ∧ M.insts ∧ M.surfs ∧
    M.recs ∧ M.recCores ∧ M.prot) : (State.correct s d r).outside M = s.outside M := by
  simp [State.correct, hM]

@[simp ↓] theorem State.servoTo_outside (M : Mask) (s : State) (x : ServoState) (hM : M.time ∧ M.events ∧ M.eventSeq ∧ M.sent ∧
    M.insts) : (State.servoTo s x).outside M = s.outside M := by
  simp [State.servoTo, hM]

@[simp ↓] theorem State.enterHold_outside (M : Mask) (s : State) (byLoss : Bool) (hM : M.time ∧ M.events ∧ M.eventSeq ∧ M.sent ∧
    M.insts) : (State.enterHold s byLoss).outside M = s.outside M := by
  simp [State.enterHold, hM]

@[simp ↓] theorem State.enterAcquire_outside (M : Mask) (s : State) (d : Fin 2) (hM : M.time ∧ M.events ∧ M.eventSeq ∧ M.sent ∧
    M.insts) : (State.enterAcquire s d).outside M = s.outside M := by
  simp [State.enterAcquire, hM]

@[simp ↓] theorem State.switchDomain_outside (M : Mask) (s : State) (d : Fin 2) (hM : M.time ∧ M.mode ∧ M.regs ∧ M.events ∧ M.eventSeq
    ∧ M.sent ∧ M.chans ∧ M.ctxs ∧ M.cruiseLast ∧ M.cores ∧ M.slots ∧ M.progs ∧ M.heads ∧ M.sheets ∧ M.engines ∧ M.insts ∧ M.surfs ∧
    M.recs ∧ M.recCores ∧ M.prot) : (State.switchDomain s d).outside M = s.outside M := by
  simp [State.switchDomain, hM]

@[simp ↓] theorem State.runLoop_outside (M : Mask) (s : State) (hM : M.time) : (State.runLoop s).outside M = s.outside M := by
  simp [State.runLoop, hM]

@[simp ↓] theorem State.recordSample_outside (M : Mask) (s : State) (d : Fin 2) (off : Int) (hM : M.time) : (State.recordSample s d
    off).outside M = s.outside M := by
  simp [State.recordSample, hM]

@[simp ↓] theorem State.sampleAcquire_outside (M : Mask) (s : State) (off : Int) (hM : M.time ∧ M.mode ∧ M.regs ∧ M.events ∧ M.eventSeq
    ∧ M.sent ∧ M.chans ∧ M.ctxs ∧ M.cruiseLast ∧ M.cores ∧ M.slots ∧ M.progs ∧ M.heads ∧ M.sheets ∧ M.engines ∧ M.insts ∧ M.surfs ∧
    M.recs ∧ M.recCores ∧ M.prot) : (State.sampleAcquire s off).outside M = s.outside M := by
  simp [State.sampleAcquire, hM]

@[simp ↓] theorem State.sampleLocked_outside (M : Mask) (s : State) (d : Fin 2) (off : Int) (hM : M.time ∧ M.mode ∧ M.regs ∧ M.events ∧
    M.eventSeq ∧ M.sent ∧ M.chans ∧ M.ctxs ∧ M.cruiseLast ∧ M.cores ∧ M.slots ∧ M.progs ∧ M.heads ∧ M.sheets ∧ M.engines ∧ M.insts ∧
    M.surfs ∧ M.recs ∧ M.recCores ∧ M.prot) : (State.sampleLocked s d off).outside M = s.outside M := by
  simp [State.sampleLocked, hM]

@[simp ↓] theorem State.servoSample_outside (M : Mask) (s : State) (d : Fin 2) (off : Int) (hM : M.time ∧ M.mode ∧ M.regs ∧ M.events ∧
    M.eventSeq ∧ M.sent ∧ M.chans ∧ M.ctxs ∧ M.cruiseLast ∧ M.cores ∧ M.slots ∧ M.progs ∧ M.heads ∧ M.sheets ∧ M.engines ∧ M.insts ∧
    M.surfs ∧ M.recs ∧ M.recCores ∧ M.prot) : (State.servoSample s d off).outside M = s.outside M := by
  unfold State.servoSample
  dsimp only
  repeat' split
  all_goals simp [hM]

@[simp ↓] theorem State.dropHeld_outside (M : Mask) (s : State) (d : Fin 2) (gm : BitVec 64) (hM : M.time) : (State.dropHeld s d
    gm).outside M = s.outside M := by
  simp [State.dropHeld, hM]

@[simp ↓] theorem State.gmChange_outside (M : Mask) (s : State) (d : Fin 2) (hM : M.time ∧ M.mode ∧ M.regs ∧ M.events ∧ M.eventSeq ∧
    M.sent ∧ M.chans ∧ M.ctxs ∧ M.cruiseLast ∧ M.cores ∧ M.slots ∧ M.progs ∧ M.heads ∧ M.sheets ∧ M.engines ∧ M.insts ∧ M.surfs ∧
    M.recs ∧ M.recCores ∧ M.prot) : (State.gmChange s d).outside M = s.outside M := by
  simp [State.gmChange, hM]

@[simp ↓] theorem State.loseDomain_outside (M : Mask) (s : State) (d : Fin 2) (hM : M.time ∧ M.mode ∧ M.regs ∧ M.events ∧ M.eventSeq ∧
    M.sent ∧ M.chans ∧ M.ctxs ∧ M.cruiseLast ∧ M.cores ∧ M.slots ∧ M.progs ∧ M.heads ∧ M.sheets ∧ M.engines ∧ M.insts ∧ M.surfs ∧
    M.recs ∧ M.recCores ∧ M.prot) : (State.loseDomain s d).outside M = s.outside M := by
  unfold State.loseDomain
  dsimp only
  repeat' split
  all_goals simp [hM]

/-! ## Machine/Ingest.lean -/

@[simp ↓] theorem State.sourceTrace_outside (M : Mask) (s : State) (n : Nat) (ok : Bool) (d : Option Nat) (hM : M.events ∧ M.eventSeq ∧
    M.sent ∧ M.ctxs ∧ M.insts) : (State.sourceTrace s n ok d).outside M = s.outside M := by
  simp [State.sourceTrace, hM]

@[simp ↓] theorem State.queueUnit_outside (M : Mask) (s : State) (n : Nat) (u : AccessUnit) (hM : M.sent ∧ M.ctxs ∧ M.lanes ∧ M.pair) :
    (State.queueUnit s n u).outside M = s.outside M := by
  simp [State.queueUnit, hM]

@[simp ↓] theorem State.forwardUnit_outside (M : Mask) (s : State) (n : Nat) (x : NetDecl) (u : AccessUnit) (hM : M.mode ∧ M.regs ∧
    M.events ∧ M.eventSeq ∧ M.sent ∧ M.chans ∧ M.ctxs ∧ M.lanes ∧ M.cores ∧ M.slots ∧ M.progs ∧ M.sheets ∧ M.insts ∧ M.surfs ∧ M.pair)
    : (State.forwardUnit s n x u).outside M = s.outside M := by
  unfold State.forwardUnit
  split <;> simp [hM]

@[simp ↓] theorem State.overrate_outside (M : Mask) (s : State) (n num den : Nat) (hM : M.ctxs) : (State.overrate s n num
    den).1.outside M = s.outside M := by
  simp [State.overrate, hM]

@[simp ↓] theorem State.countUnit_outside (M : Mask) (s : State) (n missing : Nat) (complete : Bool) (hM : M.regs ∧ M.ctxs) :
    (State.countUnit s n missing complete).outside M = s.outside M := by
  unfold State.countUnit
  dsimp only
  repeat' split
  all_goals simp [hM]

@[simp ↓] theorem State.emitUnit_outside (M : Mask) (s : State) (n : Nat) (x : NetDecl) (u : HeadUnit) (hM : M.mode ∧ M.regs ∧ M.events
    ∧ M.eventSeq ∧ M.sent ∧ M.chans ∧ M.ctxs ∧ M.lanes ∧ M.cores ∧ M.slots ∧ M.progs ∧ M.sheets ∧ M.insts ∧ M.surfs ∧ M.pair) :
    (s.emitUnit n x u).outside M = s.outside M := by
  simp [State.emitUnit, hM]

@[simp ↓] theorem State.advance_outside (M : Mask) (s : State) (n : Nat) (x : NetDecl) (z0 : Nat) (hM : M.mode ∧ M.regs ∧ M.events ∧
    M.eventSeq ∧ M.sent ∧ M.chans ∧ M.ctxs ∧ M.lanes ∧ M.cores ∧ M.slots ∧ M.progs ∧ M.sheets ∧ M.insts ∧ M.surfs ∧ M.pair) :
    (State.advance s n x z0).outside M = s.outside M := by
  induction z0 generalizing s with
  | zero => rfl
  | succ k ih =>
    rw [State.advance]
    dsimp only
    split
    · split
      · rfl
      · split <;> simp [ih, hM]
    · rfl

@[simp ↓] theorem State.entryApplied_outside (M : Mask) (s : State) (m : Manifest) (hM : M.pair) : (State.entryApplied s m).outside M =
    s.outside M := by
  simp [State.entryApplied, hM]

@[simp ↓] theorem State.applyUnit_outside (M : Mask) (s : State) (x : NetDecl) (m : Manifest) (part : Bool) (present : List Bool) (u :
    List Nal × List (BitVec 8)) (hM : M.mode ∧ M.regs ∧ M.events ∧ M.eventSeq ∧ M.sent ∧ M.chans ∧ M.ctxs ∧ M.lanes ∧ M.cores ∧ M.slots
    ∧ M.progs ∧ M.sheets ∧ M.insts ∧ M.surfs ∧ M.pair) : (State.applyUnit s x m part present u).outside M = s.outside M := by
  simp [State.applyUnit, hM]

@[simp ↓] theorem State.takeSsrc_outside (M : Mask) (s : State) (n : Nat) (q : Option (BitVec 32)) (hM : M.events ∧ M.eventSeq ∧ M.sent
    ∧ M.ctxs ∧ M.insts) : (State.takeSsrc s n q).outside M = s.outside M := by
  simp [State.takeSsrc, hM]

@[simp ↓] theorem State.applyAction_outside (M : Mask) (s : State) (m : Manifest) (hM : M.mode ∧ M.regs ∧ M.events ∧ M.eventSeq ∧
    M.sent ∧ M.chans ∧ M.ctxs ∧ M.lanes ∧ M.cores ∧ M.slots ∧ M.progs ∧ M.sheets ∧ M.insts ∧ M.surfs ∧ M.pair) : (State.applyAction s
    m).outside M = s.outside M := by
  unfold State.applyAction
  split <;> simp [hM]

@[simp ↓] theorem State.runEntries_outside (M : Mask) (s : State) (n : Nat) (x : NetDecl) (z0 : Nat) (hM : M.mode ∧ M.regs ∧ M.events ∧
    M.eventSeq ∧ M.sent ∧ M.chans ∧ M.ctxs ∧ M.lanes ∧ M.cores ∧ M.slots ∧ M.progs ∧ M.sheets ∧ M.insts ∧ M.surfs ∧ M.pair) :
    (State.runEntries s n x z0).outside M = s.outside M := by
  induction z0 generalizing s with
  | zero => rfl
  | succ k ih =>
    rw [State.runEntries]
    split
    · rfl
    · split
      · simp [ih, hM]
      · dsimp only
        split <;> simp [ih, hM]

@[simp ↓] theorem State.runIngest_outside (M : Mask) (s : State) (n : Nat) (x : NetDecl) (hM : M.mode ∧ M.regs ∧ M.events ∧ M.eventSeq
    ∧ M.sent ∧ M.chans ∧ M.ctxs ∧ M.lanes ∧ M.cores ∧ M.slots ∧ M.progs ∧ M.sheets ∧ M.insts ∧ M.surfs ∧ M.pair) : (State.runIngest s n
    x).outside M = s.outside M := by
  simp [State.runIngest, hM]

@[simp ↓] theorem State.notePeak_outside (M : Mask) (s : State) (hM : M.mode) : (State.notePeak s).outside M = s.outside M := by
  simp [State.notePeak, hM]

/-! ## Machine/Lusko.lean -/

@[simp ↓] theorem State.laneTo_outside (M : Mask) (s : State) (l : Nat) (x : LaneState) (hM : M.events ∧ M.eventSeq ∧ M.sent ∧ M.lanes
    ∧ M.insts) : (State.laneTo s l x).outside M = s.outside M := by
  simp [State.laneTo, hM]

@[simp ↓] theorem State.countInvalid_outside (M : Mask) (s : State) (n k : Nat) (hM : M.regs) : (State.countInvalid s n k).outside M =
    s.outside M := by
  unfold State.countInvalid
  split <;> simp [hM]

@[simp ↓] theorem State.ctxEligible_outside (M : Mask) (s : State) (n : Nat) (r : FrameRef) (hM : M.regs ∧ M.events ∧ M.eventSeq ∧
    M.sent ∧ M.chans ∧ M.ctxs ∧ M.sheets ∧ M.insts ∧ M.surfs ∧ M.prot) : (State.ctxEligible s n r).outside M = s.outside M := by
  unfold State.ctxEligible
  split <;> simp [hM]

@[simp ↓] theorem State.finishCapture_outside (M : Mask) (s : State) (n : Nat) (o : OpenFrame) (hM : M.regs ∧ M.events ∧ M.eventSeq ∧
    M.sent ∧ M.chans ∧ M.ctxs ∧ M.lanes ∧ M.sheets ∧ M.insts ∧ M.surfs ∧ M.pair ∧ M.prot) : (State.finishCapture s n o).outside M =
    s.outside M := by
  unfold State.finishCapture
  dsimp only
  repeat' split
  all_goals simp [hM]

@[simp ↓] theorem State.tagGroup_outside (M : Mask) (s : State) (n : Nat) (o : OpenFrame) (g : Nat) (err : Bool) (arrv : Nat) (hM :
    M.regs ∧ M.events ∧ M.eventSeq ∧ M.sent ∧ M.chans ∧ M.ctxs ∧ M.sheets ∧ M.insts ∧ M.surfs) : (State.tagGroup s n o g err
    arrv).outside M = s.outside M := by
  simp [State.tagGroup, hM]

@[simp ↓] theorem State.applyCapture_outside (M : Mask) (s : State) (n : Nat) (o : OpenFrame) (m : Manifest) (hM : M.regs ∧ M.events ∧
    M.eventSeq ∧ M.sent ∧ M.chans ∧ M.ctxs ∧ M.lanes ∧ M.sheets ∧ M.insts ∧ M.surfs ∧ M.pair ∧ M.prot) : (State.applyCapture s n o
    m).outside M = s.outside M := by
  simp [State.applyCapture, hM, outside_foldl]

@[simp ↓] theorem State.runActions_outside (M : Mask) (s : State) (n : Nat) (z0 : Nat) (hM : M.mode ∧ M.regs ∧ M.events ∧ M.eventSeq ∧
    M.sent ∧ M.chans ∧ M.ctxs ∧ M.lanes ∧ M.cores ∧ M.slots ∧ M.progs ∧ M.sheets ∧ M.insts ∧ M.surfs ∧ M.pair) : (State.runActions s n
    z0).outside M = s.outside M := by
  induction z0 generalizing s with
  | zero => rfl
  | succ k ih =>
    rw [State.runActions]
    split
    · split <;> simp [ih, hM]
    · rfl

@[simp ↓] theorem State.closeCapture_outside (M : Mask) (s : State) (n : Nat) (hM : M.mode ∧ M.regs ∧ M.events ∧ M.eventSeq ∧ M.sent ∧
    M.chans ∧ M.ctxs ∧ M.lanes ∧ M.cores ∧ M.slots ∧ M.progs ∧ M.sheets ∧ M.insts ∧ M.surfs ∧ M.pair ∧ M.prot) : (State.closeCapture s
    n).outside M = s.outside M := by
  unfold State.closeCapture
  dsimp only
  repeat' split
  all_goals simp [hM, outside_foldl]

@[simp ↓] theorem State.leaveUp_outside (M : Mask) (s : State) (first : Nat) (role : BondRole) (hM : M.mode ∧ M.regs ∧ M.events ∧
    M.eventSeq ∧ M.sent ∧ M.chans ∧ M.ctxs ∧ M.lanes ∧ M.cores ∧ M.slots ∧ M.progs ∧ M.sheets ∧ M.insts ∧ M.surfs ∧ M.pair ∧ M.prot) :
    (State.leaveUp s first role).outside M = s.outside M := by
  simp [State.leaveUp, hM, outside_foldl]

@[simp ↓] theorem State.bondTo_outside (M : Mask) (s : State) (l : Nat) (x : Nat → LaneState) (hM : M.mode ∧ M.regs ∧ M.events ∧
    M.eventSeq ∧ M.sent ∧ M.chans ∧ M.ctxs ∧ M.lanes ∧ M.cores ∧ M.slots ∧ M.progs ∧ M.sheets ∧ M.insts ∧ M.surfs ∧ M.pair ∧ M.prot) :
    (State.bondTo s l x).outside M = s.outside M := by
  simp [State.bondTo, hM, outside_foldl]

@[simp ↓] theorem State.bondDown_outside (M : Mask) (s : State) (l : Nat) (hM : M.mode ∧ M.regs ∧ M.events ∧ M.eventSeq ∧ M.sent ∧
    M.chans ∧ M.ctxs ∧ M.lanes ∧ M.cores ∧ M.slots ∧ M.progs ∧ M.sheets ∧ M.insts ∧ M.surfs ∧ M.pair ∧ M.prot) : (State.bondDown s
    l).outside M = s.outside M := by
  simp [State.bondDown, hM]

/-! ## Machine/Decode.lean -/

@[simp ↓] theorem State.outputFrame_outside (M : Mask) (s : State) (n b : Nat) (hM : M.regs ∧ M.events ∧ M.eventSeq ∧ M.sent ∧ M.chans
    ∧ M.ctxs ∧ M.sheets ∧ M.insts ∧ M.surfs ∧ M.prot) : (State.outputFrame s n b).outside M = s.outside M := by
  simp [State.outputFrame, hM]

@[simp ↓] theorem State.applyDpb_outside (M : Mask) (s : State) (n : Nat) (a : DpbAction) (hM : M.regs ∧ M.events ∧ M.eventSeq ∧ M.sent
    ∧ M.chans ∧ M.ctxs ∧ M.sheets ∧ M.insts ∧ M.surfs ∧ M.prot) : (State.applyDpb s n a).outside M = s.outside M := by
  simp [State.applyDpb, hM, outside_foldl]

@[simp ↓] theorem State.standIn_outside (M : Mask) (s : State) (n : Nat) (x : NetDecl) (hM : M.ctxs ∧ M.sheets ∧ M.surfs) :
    (State.standIn s n x).outside M = s.outside M := by
  unfold State.standIn
  dsimp only
  repeat' split
  all_goals simp [hM]

@[simp ↓] theorem State.standIns_outside (M : Mask) (s : State) (n : Nat) (x : NetDecl) (z0 : Nat) (hM : M.ctxs ∧ M.sheets ∧ M.surfs) :
    (State.standIns s n x z0).outside M = s.outside M := by
  induction z0 generalizing s with
  | zero => rfl
  | succ k ih => simp [State.standIns, ih, hM]

@[simp ↓] theorem State.decError_outside (M : Mask) (s : State) (n : Nat) (p : Picture) (seq : BitVec 16) (hM : M.events ∧ M.eventSeq ∧
    M.sent ∧ M.ctxs ∧ M.insts) : (State.decError s n p seq).outside M = s.outside M := by
  unfold State.decError
  split <;> simp [hM]

@[simp ↓] theorem State.passUnit_outside (M : Mask) (s : State) (n : Nat) (u : AccessUnit) (hM : M.ctxs) : (State.passUnit s n
    u).outside M = s.outside M := by
  simp [State.passUnit, hM]

@[simp ↓] theorem State.beginPicture_outside (M : Mask) (s : State) (n : Nat) (x : NetDecl) (u : AccessUnit) (p : PicStart) (b : Nat)
    (hM : M.events ∧ M.eventSeq ∧ M.sent ∧ M.ctxs ∧ M.sheets ∧ M.insts ∧ M.surfs) : (State.beginPicture s n x u p b).outside M =
    s.outside M := by
  simp [State.beginPicture, hM]

@[simp ↓] theorem State.runPart_outside (M : Mask) (s : State) (n part k : Nat) (hM : M.regs ∧ M.ctxs ∧ M.cores ∧ M.slots ∧ M.progs) :
    (State.runPart s n part k).outside M = s.outside M := by
  unfold State.runPart
  dsimp only
  repeat' split
  all_goals simp [hM]

@[simp ↓] theorem State.jobStart_outside (M : Mask) (s : State) (n part : Nat) (x : NetDecl) (start : PicStart) (dpb : DpbAction) (hM :
    M.mode ∧ M.regs ∧ M.events ∧ M.eventSeq ∧ M.sent ∧ M.chans ∧ M.ctxs ∧ M.lanes ∧ M.cores ∧ M.slots ∧ M.progs ∧ M.sheets ∧ M.insts ∧
    M.surfs ∧ M.pair ∧ M.prot) : (State.jobStart s n part x start dpb).outside M = s.outside M := by
  unfold State.jobStart
  dsimp only
  repeat' split
  all_goals simp [hM]

@[simp ↓] theorem State.invalidBegin_outside (M : Mask) (s : State) (n : Nat) (bad : Nat) (hM : M.events ∧ M.eventSeq ∧ M.sent ∧ M.ctxs
    ∧ M.insts) : (State.invalidBegin s n bad).outside M = s.outside M := by
  simp [State.invalidBegin, hM]

@[simp ↓] theorem State.tagPicture_outside (M : Mask) (s : State) (n : Nat) (p : Picture) (l : List (Nat × Bool)) (hM : M.regs ∧
    M.events ∧ M.eventSeq ∧ M.sent ∧ M.chans ∧ M.ctxs ∧ M.sheets ∧ M.insts ∧ M.surfs) : (State.tagPicture s n p l).outside M =
    s.outside M := by
  simp [State.tagPicture, hM]

@[simp ↓] theorem State.completePicture_outside (M : Mask) (s : State) (n : Nat) (p : Picture) (dpb : DpbAction) (hM : M.regs ∧
    M.events ∧ M.eventSeq ∧ M.sent ∧ M.chans ∧ M.ctxs ∧ M.sheets ∧ M.insts ∧ M.surfs ∧ M.prot) : (State.completePicture s n p
    dpb).outside M = s.outside M := by
  simp [State.completePicture, hM]

@[simp ↓] theorem State.heal_outside (M : Mask) (s : State) (n : Nat) (p : Picture) (hM : M.events ∧ M.eventSeq ∧ M.sent ∧ M.ctxs ∧
    M.insts ∧ M.pair) : (State.heal s n p).outside M = s.outside M := by
  simp [State.heal, hM]

@[simp ↓] theorem State.idleCore_outside (M : Mask) (s : State) (k : Nat) (hM : M.mode ∧ M.regs ∧ M.cores ∧ M.slots ∧ M.progs) :
    (State.idleCore s k).outside M = s.outside M := by
  simp [State.idleCore, hM]

@[simp ↓] theorem State.retireRow_outside (M : Mask) (s : State) (n k : Nat) (stalls : List (Nat × Nat)) (hM : M.regs ∧ M.ctxs ∧
    M.slots ∧ M.progs) : (State.retireRow s n k stalls).outside M = s.outside M := by
  simp [State.retireRow, hM, outside_foldl]

@[simp ↓] theorem State.rowComplete_outside (M : Mask) (s : State) (k n part : Nat) (p : Picture) (d : RowDone) (hM : M.mode ∧ M.regs ∧
    M.events ∧ M.eventSeq ∧ M.sent ∧ M.chans ∧ M.ctxs ∧ M.cores ∧ M.slots ∧ M.progs ∧ M.sheets ∧ M.insts ∧ M.surfs ∧ M.pair ∧ M.prot) :
    (State.rowComplete s k n part p d).outside M = s.outside M := by
  simp [State.rowComplete, hM]

@[simp ↓] theorem State.preempt_outside (M : Mask) (s : State) (k n part : Nat) (hM : M.mode ∧ M.regs ∧ M.ctxs ∧ M.cores ∧ M.slots ∧
    M.progs) : (State.preempt s k n part).outside M = s.outside M := by
  unfold State.preempt
  split <;> simp [hM]

/-! ## Machine/Coef.lean -/

@[simp ↓] theorem State.refuseWin_outside (M : Mask) (s : State) (hM : M.regs) : (State.refuseWin s).outside M = s.outside M := by
  simp [State.refuseWin, hM]

@[simp ↓] theorem State.restoreShadow_outside (M : Mask) (s : State) (hM : M.win) : (State.restoreShadow s).outside M = s.outside M := by
  simp [State.restoreShadow, hM]

@[simp ↓] theorem State.copyShadow_outside (M : Mask) (s : State) (hM : M.win) : (State.copyShadow s).outside M = s.outside M := by
  simp [State.copyShadow, hM]

@[simp ↓] theorem State.writeShadow_outside (M : Mask) (s : State) (l : List (Nat × BitVec 512)) (hM : M.win) : (State.writeShadow s
    l).outside M = s.outside M := by
  simp [State.writeShadow, hM]

@[simp ↓] theorem State.salvoGeneration_outside (M : Mask) (s : State) (a : Nat) (l : List (Nat × BitVec 512)) (hM : M.regs ∧ M.events
    ∧ M.eventSeq ∧ M.sent ∧ M.ctxs ∧ M.heads ∧ M.sheets ∧ M.win ∧ M.insts ∧ M.surfs) : (State.salvoGeneration s a l).outside M =
    s.outside M := by
  simp [State.salvoGeneration, hM]

@[simp ↓] theorem State.setBanks_outside (M : Mask) (s : State) (u : CoefUnit) (b : Banks) (hM : M.heads ∧ M.engines) : (State.setBanks
    s u b).outside M = s.outside M := by
  unfold State.setBanks
  split <;> simp [hM]

@[simp ↓] theorem State.refuseCoef_outside (M : Mask) (s : State) (z0 : CoefUnit) (hM : M.regs) : (State.refuseCoef s z0).outside M =
    s.outside M := by
  unfold State.refuseCoef
  split <;> simp [hM]

@[simp ↓] theorem State.applyDue_outside (M : Mask) (s : State) (h e : Nat) (hM : M.regs ∧ M.safe) : (State.applyDue s h e).outside M =
    s.outside M := by
  simp [State.applyDue, hM]

/-! ## Machine/Fetch.lean -/

@[simp ↓] theorem State.fetchLine_outside (M : Mask) (s : State) (h pipe : Nat) (l : Bool × Nat × Nat) (hM : M.heads) :
    (State.fetchLine s h pipe l).outside M = s.outside M := by
  unfold State.fetchLine
  dsimp only
  repeat' split
  all_goals simp [hM]

@[simp ↓] theorem State.prefetchLines_outside (M : Mask) (s : State) (h w : Nat) (d : Desc) (r : FrameRef) (n : Nat) (hM : M.regs ∧
    M.progs ∧ M.heads) : (State.prefetchLines s h w d r n).outside M = s.outside M := by
  simp [State.prefetchLines, hM]

@[simp ↓] theorem State.specFault_outside (M : Mask) (s : State) (h w : Nat) (hM : M.regs ∧ M.events ∧ M.eventSeq ∧ M.sent ∧ M.progs ∧
    M.heads ∧ M.insts) : (State.specFault s h w).outside M = s.outside M := by
  simp [State.specFault, hM]

@[simp ↓] theorem State.countOverrun_outside (M : Mask) (s : State) (h i n : Nat) (hM : M.regs ∧ M.progs ∧ M.heads ∧ M.insts) :
    (State.countOverrun s h i n).outside M = s.outside M := by
  simp [State.countOverrun, hM]

@[simp ↓] theorem State.fetched_outside (M : Mask) (s : State) (h level i n : Nat) (hM : M.regs ∧ M.progs ∧ M.heads ∧ M.insts) :
    (State.fetched s h level i n).outside M = s.outside M := by
  simp [State.fetched, hM]

/-! ## Machine/Scanout.lean -/

@[simp ↓] theorem State.moveDisplay_outside (M : Mask) (s : State) (h : Nat) (old new : List FrameRef) (hM : M.ctxs ∧ M.sheets ∧
    M.surfs) : (State.moveDisplay s h old new).outside M = s.outside M := by
  simp [State.moveDisplay, hM, outside_foldl]

@[simp ↓] theorem State.tagLate_outside (M : Mask) (s : State) (h : Nat) (late : List Nat) (hM : M.regs ∧ M.events ∧ M.eventSeq ∧
    M.sent ∧ M.heads ∧ M.insts) : (State.tagLate s h late).outside M = s.outside M := by
  simp [State.tagLate, hM, outside_foldl]

@[simp ↓] theorem State.underrunPixel_outside (M : Mask) (s : State) (h pipe x y : Nat) (hM : M.regs ∧ M.progs ∧ M.heads ∧ M.recs) :
    (State.underrunPixel s h pipe x y).outside M = s.outside M := by
  simp [State.underrunPixel, hM]

@[simp ↓] theorem State.headTo_outside (M : Mask) (s : State) (h : Nat) (st : HeadState) (hM : M.events ∧ M.eventSeq ∧ M.sent ∧ M.heads
    ∧ M.insts) : (State.headTo s h st).outside M = s.outside M := by
  simp [State.headTo, hM]

@[simp ↓] theorem State.checkSink_outside (M : Mask) (s : State) (h : Nat) (c : HeadCfg) (hM : M.events ∧ M.eventSeq ∧ M.sent ∧ M.heads
    ∧ M.insts) : (State.checkSink s h c).outside M = s.outside M := by
  simp [State.checkSink, hM]

@[simp ↓] theorem State.untrain_outside (M : Mask) (s : State) (h : Nat) (hM : M.regs ∧ M.heads) : (State.untrain s h).outside M =
    s.outside M := by
  simp [State.untrain, hM]

@[simp ↓] theorem State.askTraining_outside (M : Mask) (s : State) (h : Nat) (hM : M.mode ∧ M.events ∧ M.eventSeq ∧ M.sent ∧ M.heads ∧
    M.insts) : (State.askTraining s h).outside M = s.outside M := by
  simp [State.askTraining, hM]

@[simp ↓] theorem State.enableStream_outside (M : Mask) (s : State) (h : Nat) (hM : M.events ∧ M.eventSeq ∧ M.sent ∧ M.heads ∧ M.insts)
    : (State.enableStream s h).outside M = s.outside M := by
  simp [State.enableStream, hM]

@[simp ↓] theorem State.linkUp_outside (M : Mask) (s : State) (h rate lanes : Nat) (hM : M.events ∧ M.eventSeq ∧ M.sent ∧ M.heads ∧
    M.insts) : (State.linkUp s h rate lanes).outside M = s.outside M := by
  simp [State.linkUp, hM]

@[simp ↓] theorem State.trainFail_outside (M : Mask) (s : State) (h : Nat) (hM : M.mode ∧ M.events ∧ M.eventSeq ∧ M.sent ∧ M.heads ∧
    M.insts) : (State.trainFail s h).outside M = s.outside M := by
  simp [State.trainFail, hM]

@[simp ↓] theorem State.syncedPorts_outside (M : Mask) (s : State) (h : Nat) (f : Touch → Touch) (hM : M.console) : (State.syncedPorts
    s h f).outside M = s.outside M := by
  simp [State.syncedPorts, hM]

@[simp ↓] theorem State.stopRaster_outside (M : Mask) (s : State) (h : Nat) (hM : M.regs ∧ M.events ∧ M.eventSeq ∧ M.sent ∧ M.ctxs ∧
    M.slots ∧ M.progs ∧ M.heads ∧ M.sheets ∧ M.insts ∧ M.surfs ∧ M.console) : (s.stopRaster h).outside M = s.outside M := by
  simp [State.stopRaster, hM, outside_foldl]

/-! ## Machine/ModeBase.lean -/

@[simp ↓] theorem State.modeTo_outside (M : Mask) (s : State) (m : Mode) (cause : Nat) (hM : M.mode ∧ M.events ∧ M.eventSeq ∧ M.sent ∧
    M.insts ∧ M.prot) : (State.modeTo s m cause).outside M = s.outside M := by
  simp [State.modeTo, hM]

@[simp ↓] theorem State.raiseActOut_outside (M : Mask) (s : State) (hM : M.pair) : (State.raiseActOut s).outside M = s.outside M := by
  simp [State.raiseActOut, hM]

@[simp ↓] theorem State.dropActOut_outside (M : Mask) (s : State) (hM : M.pair) : (State.dropActOut s).outside M = s.outside M := by
  simp [State.dropActOut, hM]

@[simp ↓] theorem State.startRecs_outside (M : Mask) (s : State) (hM : M.mode ∧ M.regs ∧ M.slots ∧ M.progs ∧ M.recs ∧ M.recCores) :
    (State.startRecs s).outside M = s.outside M := by
  simp [State.startRecs, hM, outside_foldl]

@[simp ↓] theorem State.enterRun_outside (M : Mask) (s : State) (cause : Nat) (hM : M.mode ∧ M.regs ∧ M.events ∧ M.eventSeq ∧ M.sent ∧
    M.slots ∧ M.progs ∧ M.insts ∧ M.recs ∧ M.recCores ∧ M.pair ∧ M.prot) : (State.enterRun s cause).outside M = s.outside M := by
  simp [State.enterRun, hM]

@[simp ↓] theorem State.takeRole_outside (M : Mask) (s : State) (hM : M.mode ∧ M.regs ∧ M.events ∧ M.eventSeq ∧ M.sent ∧ M.slots ∧
    M.progs ∧ M.insts ∧ M.recs ∧ M.recCores ∧ M.pair ∧ M.prot) : (State.takeRole s).outside M = s.outside M := by
  unfold State.takeRole
  dsimp only
  repeat' split
  all_goals simp [hM]

/-! ## Machine/PairOps.lean -/

@[simp ↓] theorem State.joinFail_outside (M : Mask) (s : State) (check : Nat) (hM : M.events ∧ M.eventSeq ∧ M.sent ∧ M.insts ∧ M.pair)
    : (State.joinFail s check).outside M = s.outside M := by
  simp [State.joinFail, hM]

@[simp ↓] theorem State.pairJoin_outside (M : Mask) (s : State) (hM : M.events ∧ M.eventSeq ∧ M.sent ∧ M.lanes ∧ M.insts ∧ M.pair) :
    (State.pairJoin s).outside M = s.outside M := by
  simp [State.pairJoin, hM]

@[simp ↓] theorem State.planTakeover_outside (M : Mask) (s : State) (from_ : Nat) (hM : M.pair) : (State.planTakeover s from_).outside
    M = s.outside M := by
  simp [State.planTakeover, hM]

@[simp ↓] theorem State.takeoverEpoch_outside (M : Mask) (s : State) (hM : M.regs ∧ M.events ∧ M.eventSeq ∧ M.sent ∧ M.ctxs ∧ M.lanes ∧
    M.insts ∧ M.pair) : (State.takeoverEpoch s).outside M = s.outside M := by
  unfold State.takeoverEpoch
  dsimp only
  repeat' split
  all_goals simp [hM, outside_foldl]

@[simp ↓] theorem State.setHeadCmp_outside (M : Mask) (s : State) (h : Nat) (x : HeadCmp) (hM : M.pair) : (State.setHeadCmp s h
    x).outside M = s.outside M := by
  simp [State.setHeadCmp, hM]

@[simp ↓] theorem State.diverge_outside (M : Mask) (s : State) (v : Divergence) (code : Nat) (hM : M.events ∧ M.eventSeq ∧ M.sent ∧
    M.insts ∧ M.pair ∧ M.prot) : (State.diverge s v code).outside M = s.outside M := by
  simp [State.diverge, hM]

@[simp ↓] theorem State.cmpResult_outside (M : Mask) (s : State) (h : Nat) (r : CmpResult) (own partner : Bool) (hM : M.regs ∧ M.pair)
    : (State.cmpResult s h r own partner).outside M = s.outside M := by
  simp [State.cmpResult, hM]

@[simp ↓] theorem State.compareBlocks_outside (M : Mask) (s : State) (d : Nat) (a b : SigBlock) (hM : M.regs ∧ M.events ∧ M.eventSeq ∧
    M.sent ∧ M.insts ∧ M.pair ∧ M.prot) : (State.compareBlocks s d a b).outside M = s.outside M := by
  simp [State.compareBlocks, hM]

@[simp ↓] theorem State.dropBlocks_outside (M : Mask) (s : State) (h e : Nat) (hM : M.pair) : (State.dropBlocks s h e).outside M =
    s.outside M := by
  simp [State.dropBlocks, hM]

@[simp ↓] theorem State.dropCompared_outside (M : Mask) (s : State) (b : SigBlock) (hM : M.pair) : (State.dropCompared s b).outside M =
    s.outside M := by
  simp [State.dropCompared, hM]

@[simp ↓] theorem State.missingBlock_outside (M : Mask) (s : State) (h : Nat) (own partner : Bool) (hM : M.regs ∧ M.events ∧ M.eventSeq
    ∧ M.sent ∧ M.insts ∧ M.pair) : (State.missingBlock s h own partner).outside M = s.outside M := by
  simp [State.missingBlock, hM]

@[simp ↓] theorem State.attribute_outside (M : Mask) (s : State) (v : Divergence) (hM : M.regs ∧ M.events ∧ M.eventSeq ∧ M.sent ∧
    M.insts ∧ M.pair) : (State.attribute s v).outside M = s.outside M := by
  simp [State.attribute, hM]

/-! ## Machine/HostBase.lean -/

@[simp ↓] theorem State.setWork_outside (M : Mask) (s : State) (n : Nat) (w : Work) (hM : M.insts) : (State.setWork s n w).outside M =
    s.outside M := by
  simp [State.setWork, hM]

@[simp ↓] theorem State.complete_outside (M : Mask) (s : State) (n id status reason result : Nat) (hM : M.regs ∧ M.sent ∧ M.insts) :
    (State.complete s n id status reason result).outside M = s.outside M := by
  unfold State.complete
  split <;> simp [hM]

@[simp ↓] theorem State.mpuCount_outside (M : Mask) (s : State) (hM : M.regs ∧ M.prot) : (State.mpuCount s).outside M = s.outside M := by
  simp [State.mpuCount, hM]

@[simp ↓] theorem State.postNotice_outside (M : Mask) (s : State) (who : Nat) (hM : M.regs ∧ M.events ∧ M.eventSeq ∧ M.sent ∧ M.insts ∧
    M.prot) : (State.postNotice s who).outside M = s.outside M := by
  simp [State.postNotice, hM]

@[simp ↓] theorem State.postedRefused_outside (M : Mask) (s : State) (who kind : Nat) (hM : M.regs ∧ M.events ∧ M.eventSeq ∧ M.sent ∧
    M.insts ∧ M.prot) : (State.postedRefused s who kind).outside M = s.outside M := by
  simp [State.postedRefused, hM]

/-! ## Machine/SafeReq.lean -/

@[simp ↓] theorem State.safeQueue_outside (M : Mask) (s : State) (p : SafePending) (hM : M.safe) : (State.safeQueue s p).outside M =
    s.outside M := by
  simp [State.safeQueue, hM]

/-! ## Machine/Audio.lean -/

@[simp ↓] theorem State.alarmOff_outside (M : Mask) (s : State) (q : Nat) (hM : M.events ∧ M.eventSeq ∧ M.sent ∧ M.insts ∧ M.console) :
    (State.alarmOff s q).outside M = s.outside M := by
  simp [State.alarmOff, hM]

@[simp ↓] theorem State.applyAlarm_outside (M : Mask) (s : State) (q v : Nat) (hM : M.events ∧ M.eventSeq ∧ M.sent ∧ M.insts ∧
    M.console) : (State.applyAlarm s q v).outside M = s.outside M := by
  simp [State.applyAlarm, hM]

@[simp ↓] theorem State.startTone_outside (M : Mask) (s : State) (hM : M.console) : (State.startTone s).outside M = s.outside M := by
  unfold State.startTone
  dsimp only
  repeat' split
  all_goals simp [hM]

/-! ## Machine/Sheets.lean -/

@[simp ↓] theorem State.setComposing_outside (M : Mask) (s : State) (n : Nat) (c : Composing) (hM : M.sheets) : (State.setComposing s n
    c).outside M = s.outside M := by
  simp [State.setComposing, hM]

@[simp ↓] theorem State.sheetMarks_outside (M : Mask) (s : State) (n : Nat) (refs : List FrameRef) (hM : M.ctxs ∧ M.sheets ∧ M.surfs) :
    (State.sheetMarks s n refs).outside M = s.outside M := by
  simp [State.sheetMarks, hM, outside_foldl]

@[simp ↓] theorem State.finishSheet_outside (M : Mask) (s : State) (n : Nat) (c : Composing) (hM : M.regs ∧ M.events ∧ M.eventSeq ∧
    M.sent ∧ M.chans ∧ M.ctxs ∧ M.progs ∧ M.sheets ∧ M.insts ∧ M.surfs ∧ M.prot) : (State.finishSheet s n c).outside M = s.outside M := by
  simp [State.finishSheet, hM]

@[simp ↓] theorem State.waitEngine_outside (M : Mask) (s : State) (e : Nat) (hM : M.regs ∧ M.slots ∧ M.progs ∧ M.engines) :
    (State.waitEngine s e).outside M = s.outside M := by
  simp [State.waitEngine, hM]

@[simp ↓] theorem State.startEngine_outside (M : Mask) (s : State) (e : Nat) (z0 : Nat) (hM : M.mode ∧ M.regs ∧ M.events ∧ M.eventSeq ∧
    M.sent ∧ M.chans ∧ M.ctxs ∧ M.slots ∧ M.progs ∧ M.sheets ∧ M.engines ∧ M.insts ∧ M.surfs ∧ M.prot) : (State.startEngine s e
    z0).outside M = s.outside M := by
  induction z0 generalizing s with
  | zero => rfl
  | succ k ih =>
    rw [State.startEngine]
    dsimp only
    split
    · rfl
    · split
      · simp [hM]
      · split
        · simp [hM]
        · split
          · simp [ih, hM]
          · simp [hM]

@[simp ↓] theorem State.runEngine_outside (M : Mask) (s : State) (e : Nat) (hM : M.mode ∧ M.regs ∧ M.events ∧ M.eventSeq ∧ M.sent ∧
    M.chans ∧ M.ctxs ∧ M.slots ∧ M.progs ∧ M.sheets ∧ M.engines ∧ M.insts ∧ M.surfs ∧ M.prot) : (State.runEngine s e).outside M =
    s.outside M := by
  simp [State.runEngine, hM]

@[simp ↓] theorem State.restEngine_outside (M : Mask) (s : State) (e : Nat) (hM : M.mode ∧ M.regs ∧ M.slots ∧ M.progs ∧ M.engines) :
    (State.restEngine s e).outside M = s.outside M := by
  simp [State.restEngine, hM]

@[simp ↓] theorem State.beginSheet_outside (M : Mask) (s : State) (n e : Nat) (hM : M.mode ∧ M.regs ∧ M.events ∧ M.eventSeq ∧ M.sent ∧
    M.chans ∧ M.ctxs ∧ M.slots ∧ M.progs ∧ M.sheets ∧ M.engines ∧ M.insts ∧ M.surfs ∧ M.prot) : (State.beginSheet s n e).outside M =
    s.outside M := by
  unfold State.beginSheet
  dsimp only
  repeat' split
  all_goals simp [hM]

@[simp ↓] theorem State.tileDone_outside (M : Mask) (s : State) (n : Nat) (c : Composing) (w : Nat) (d : Desc) (src : Option FrameRef)
    (t : List (Nat × BitVec 512 × Option FrameRef)) (hM : M.mode ∧ M.regs ∧ M.events ∧ M.eventSeq ∧ M.sent ∧ M.chans ∧ M.ctxs ∧ M.slots
    ∧ M.progs ∧ M.sheets ∧ M.engines ∧ M.insts ∧ M.surfs ∧ M.prot) : (State.tileDone s n c w d src t).outside M = s.outside M := by
  unfold State.tileDone
  dsimp only
  repeat' split
  all_goals simp [hM]

@[simp ↓] theorem State.preemptSheet_outside (M : Mask) (s : State) (e n : Nat) (hM : M.mode ∧ M.regs ∧ M.events ∧ M.eventSeq ∧ M.sent
    ∧ M.chans ∧ M.ctxs ∧ M.slots ∧ M.progs ∧ M.sheets ∧ M.engines ∧ M.insts ∧ M.surfs ∧ M.prot) : (State.preemptSheet s e n).outside M
    = s.outside M := by
  unfold State.preemptSheet
  split <;> simp [hM]

/-! ## Machine/Power.lean -/

@[simp ↓] theorem State.setRtc_outside (M : Mask) (s : State) (v : Nat) (hM : M.aon) : (State.setRtc s v).outside M = s.outside M := by
  simp [State.setRtc, hM]

@[simp ↓] theorem State.lowerRail_outside (M : Mask) (s : State) (hM : M.mode) : (State.lowerRail s).outside M = s.outside M := by
  unfold State.lowerRail
  dsimp only
  repeat' split
  all_goals simp [hM]

@[simp ↓] theorem State.powerFail_outside (M : Mask) (s : State) (c : ResetCause) (rail : Nat) (hM : M.mode ∧ M.pair) :
    (State.powerFail s c rail).outside M = s.outside M := by
  simp [State.powerFail, hM]

@[simp ↓] theorem State.setSlot_outside (M : Mask) (s : State) (b : Bool) (x : Slot) (hM : M.prot) : (State.setSlot s b x).outside M =
    s.outside M := by
  simp [State.setSlot, hM]

@[simp ↓] theorem State.markBad_outside (M : Mask) (s : State) (b : Bool) (hM : M.prot) : (State.markBad s b).outside M = s.outside M := by
  simp [State.markBad, hM]

@[simp ↓] theorem State.failTrial_outside (M : Mask) (s : State) (hM : M.events ∧ M.eventSeq ∧ M.sent ∧ M.insts ∧ M.prot) :
    (State.failTrial s).outside M = s.outside M := by
  simp [State.failTrial, hM]

@[simp ↓] theorem State.romChoose_outside (M : Mask) (s : State) (okA okB : Bool) (z0 : Nat) (hM : M.prot) : (State.romChoose s okA okB
    z0).1.outside M = s.outside M := by
  induction z0 generalizing s with
  | zero => rfl
  | succ k ih =>
    unfold State.romChoose
    split
    · rfl
    · simp [apply_ite Prod.fst, ih, hM]

@[simp ↓] theorem State.retireTrials_outside (M : Mask) (s : State) (hM : M.prot) : (State.retireTrials s).outside M = s.outside M := by
  simp [State.retireTrials, hM]

@[simp ↓] theorem State.granted_outside (M : Mask) (s : State) (r : TokenReq) (hM : M.mode ∧ M.regs ∧ M.events ∧ M.eventSeq ∧ M.sent ∧
    M.chans ∧ M.ctxs ∧ M.lanes ∧ M.slots ∧ M.progs ∧ M.sheets ∧ M.engines ∧ M.insts ∧ M.surfs ∧ M.prot) : (State.granted s r).outside M
    = s.outside M := by
  unfold State.granted
  split <;> simp [hM]

@[simp ↓] theorem State.grant_outside (M : Mask) (s : State) (r : TokenReq) (hM : M.mode ∧ M.regs ∧ M.events ∧ M.eventSeq ∧ M.sent ∧
    M.chans ∧ M.ctxs ∧ M.lanes ∧ M.slots ∧ M.progs ∧ M.sheets ∧ M.engines ∧ M.insts ∧ M.surfs ∧ M.prot) : (State.grant s r).outside M =
    s.outside M := by
  simp [State.grant, hM]

@[simp ↓] theorem State.grantSlot_outside (M : Mask) (s : State) (left : Nat) (fresh : Bool) (z0 : List TokenReq) (hM : M.mode ∧ M.regs
    ∧ M.events ∧ M.eventSeq ∧ M.sent ∧ M.chans ∧ M.ctxs ∧ M.lanes ∧ M.slots ∧ M.progs ∧ M.sheets ∧ M.engines ∧ M.insts ∧ M.surfs ∧
    M.prot) : (State.grantSlot s left fresh z0).outside M = s.outside M := by
  induction z0 generalizing s left fresh with
  | nil => rfl
  | cons r t ih =>
    rw [State.grantSlot]
    split
    · simp [ih, hM]
    · split <;> simp [hM]

@[simp ↓] theorem State.clock_outside (M : Mask) (s : State) (h : TokenHolder) (u : Nat) (on : Bool) (hM : M.cores ∧ M.engines ∧
    M.recCores) : (State.clock s h u on).outside M = s.outside M := by
  unfold State.clock
  split <;> simp [hM]

/-! ## Machine/HostOps.lean -/

@[simp ↓] theorem State.instTo_outside (M : Mask) (s : State) (n : Nat) (x : InstState) (hM : M.events ∧ M.eventSeq ∧ M.sent ∧ M.insts)
    : (State.instTo s n x).outside M = s.outside M := by
  simp [State.instTo, hM]

@[simp ↓] theorem State.forgetSource_outside (M : Mask) (s : State) (src : Source) (hM : M.heads ∧ M.sheets) : (State.forgetSource s
    src).outside M = s.outside M := by
  simp [State.forgetSource, hM]

@[simp ↓] theorem State.dropSurf_outside (M : Mask) (s : State) (k : Nat) (hM : M.heads ∧ M.sheets ∧ M.surfs) : (State.dropSurf s
    k).outside M = s.outside M := by
  simp [State.dropSurf, hM]

@[simp ↓] theorem State.dropSurfs_outside (M : Mask) (s : State) (n : Nat) (hM : M.heads ∧ M.sheets ∧ M.surfs) : (State.dropSurfs s
    n).outside M = s.outside M := by
  simp [State.dropSurfs, hM, outside_foldl]

@[simp ↓] theorem State.syncDma_outside (M : Mask) (s : State) (hM : M.regs ∧ M.slots ∧ M.progs) : (State.syncDma s).outside M =
    s.outside M := by
  simp [State.syncDma, hM]

@[simp ↓] theorem State.runDma_outside (M : Mask) (s : State) (hM : M.regs ∧ M.slots ∧ M.progs ∧ M.dma) : (State.runDma s).outside M =
    s.outside M := by
  simp [State.runDma, hM]

@[simp ↓] theorem State.switchDma_outside (M : Mask) (s : State) (hM : M.regs ∧ M.slots ∧ M.progs ∧ M.dma) : (State.switchDma
    s).outside M = s.outside M := by
  unfold State.switchDma
  dsimp only
  repeat' split
  all_goals simp [hM]

@[simp ↓] theorem State.freeDma_outside (M : Mask) (s : State) (n id : Nat) (hM : M.regs ∧ M.slots ∧ M.progs ∧ M.dma) : (State.freeDma
    s n id).outside M = s.outside M := by
  simp [State.freeDma, hM]

@[simp ↓] theorem State.beginCommit_outside (M : Mask) (s : State) (n : Nat) (w : Work) (k b rw rh : Nat) (hM : M.regs ∧ M.slots ∧
    M.progs ∧ M.insts ∧ M.surfs ∧ M.dma) : (State.beginCommit s n w k b rw rh).outside M = s.outside M := by
  simp [State.beginCommit, hM]

@[simp ↓] theorem State.endCommit_outside (M : Mask) (s : State) (w : Work) (k : Nat) (hold ok : Bool) (hM : M.regs ∧ M.events ∧
    M.eventSeq ∧ M.sent ∧ M.chans ∧ M.ctxs ∧ M.lanes ∧ M.sheets ∧ M.insts ∧ M.surfs ∧ M.pair ∧ M.prot) : (State.endCommit s w k hold
    ok).outside M = s.outside M := by
  simp [State.endCommit, hM]

@[simp ↓] theorem State.sendGroup_outside (M : Mask) (s : State) (n : Nat) (w : Work) (hM : M.regs ∧ M.sent ∧ M.progs ∧ M.insts) :
    (State.sendGroup s n w).outside M = s.outside M := by
  simp [State.sendGroup, hM]

@[simp ↓] theorem State.nextGroup_outside (M : Mask) (s : State) (n : Nat) (hM : M.regs ∧ M.sent ∧ M.progs ∧ M.insts) :
    (State.nextGroup s n).outside M = s.outside M := by
  unfold State.nextGroup
  dsimp only
  repeat' split
  all_goals simp [hM]

@[simp ↓] theorem State.tagFailed_outside (M : Mask) (s : State) (w : Work) (k b : Nat) (hold : Bool) (hM : M.regs ∧ M.events ∧
    M.eventSeq ∧ M.sent ∧ M.chans ∧ M.ctxs ∧ M.lanes ∧ M.sheets ∧ M.insts ∧ M.surfs ∧ M.pair ∧ M.prot) : (State.tagFailed s w k b
    hold).outside M = s.outside M := by
  simp [State.tagFailed, hM]

@[simp ↓] theorem State.failCommit_outside (M : Mask) (s : State) (n : Nat) (w : Work) (k : Nat) (hold : Bool) (hM : M.regs ∧ M.events
    ∧ M.eventSeq ∧ M.sent ∧ M.chans ∧ M.ctxs ∧ M.lanes ∧ M.sheets ∧ M.insts ∧ M.surfs ∧ M.pair ∧ M.prot) : (State.failCommit s n w k
    hold).outside M = s.outside M := by
  unfold State.failCommit
  dsimp only
  repeat' split
  all_goals simp [hM]

@[simp ↓] theorem State.failWork_outside (M : Mask) (s : State) (n : Nat) (w : Work) (hM : M.regs ∧ M.events ∧ M.eventSeq ∧ M.sent ∧
    M.chans ∧ M.ctxs ∧ M.lanes ∧ M.slots ∧ M.progs ∧ M.sheets ∧ M.insts ∧ M.surfs ∧ M.dma ∧ M.pair ∧ M.prot) : (s.failWork n w).outside
    M = s.outside M := by
  unfold State.failWork
  split <;> simp [hM]

@[simp ↓] theorem State.squashWork_outside (M : Mask) (s : State) (n : Nat) (w : Work) (hM : M.regs ∧ M.events ∧ M.eventSeq ∧ M.sent ∧
    M.chans ∧ M.ctxs ∧ M.lanes ∧ M.slots ∧ M.progs ∧ M.sheets ∧ M.insts ∧ M.surfs ∧ M.dma ∧ M.pair ∧ M.prot) : (State.squashWork s n
    w).outside M = s.outside M := by
  unfold State.squashWork
  split <;> simp [hM]

@[simp ↓] theorem State.squash_outside (M : Mask) (s : State) (n : Nat) (hM : M.regs ∧ M.events ∧ M.eventSeq ∧ M.sent ∧ M.chans ∧
    M.ctxs ∧ M.lanes ∧ M.slots ∧ M.progs ∧ M.sheets ∧ M.insts ∧ M.surfs ∧ M.dma ∧ M.pair ∧ M.adm ∧ M.prot) : (State.squash s n).outside
    M = s.outside M := by
  simp [State.squash, hM, outside_foldl]

@[simp ↓] theorem State.beginReset_outside (M : Mask) (s : State) (n : Nat) (squash clear destroy : Bool) (hM : M.regs ∧ M.events ∧
    M.eventSeq ∧ M.sent ∧ M.chans ∧ M.ctxs ∧ M.lanes ∧ M.slots ∧ M.progs ∧ M.sheets ∧ M.insts ∧ M.surfs ∧ M.dma ∧ M.pair ∧ M.adm ∧
    M.prot) : (State.beginReset s n squash clear destroy).outside M = s.outside M := by
  simp [State.beginReset, hM]

/-! ## Machine/IngestOps.lean -/

@[simp ↓] theorem State.reportPath_outside (M : Mask) (s : State) (p : PathCfg) (hM : M.sent) : (State.reportPath s p).outside M =
    s.outside M := by
  simp [State.reportPath, hM]

/-! ## Machine/LuskoOps.lean -/

@[simp ↓] theorem State.sendIdent_outside (M : Mask) (s : State) (l : Nat) (hM : M.sent ∧ M.lanes) : (State.sendIdent s l).outside M =
    s.outside M := by
  simp [State.sendIdent, hM]

@[simp ↓] theorem State.trainLane_outside (M : Mask) (s : State) (l : Nat) (hM : M.regs ∧ M.events ∧ M.eventSeq ∧ M.sent ∧ M.lanes ∧
    M.insts) : (State.trainLane s l).outside M = s.outside M := by
  simp [State.trainLane, hM]

@[simp ↓] theorem State.laneErrs_outside (M : Mask) (s : State) (l code disp : Nat) (hM : M.regs ∧ M.prov) : (State.laneErrs s l code
    disp).outside M = s.outside M := by
  simp [State.laneErrs, hM]

@[simp ↓] theorem State.bondErrs_outside (M : Mask) (s : State) (l : Nat) (e : List (Nat × Nat)) (hM : M.regs ∧ M.prov) :
    (State.bondErrs s l e).outside M = s.outside M := by
  simp [State.bondErrs, hM, outside_foldl]

@[simp ↓] theorem State.scanTrain_outside (M : Mask) (s : State) (hM : M.mode ∧ M.regs ∧ M.events ∧ M.eventSeq ∧ M.sent ∧ M.chans ∧
    M.ctxs ∧ M.lanes ∧ M.cores ∧ M.slots ∧ M.progs ∧ M.sheets ∧ M.insts ∧ M.surfs ∧ M.pair ∧ M.prov ∧ M.prot) : (State.scanTrain
    s).outside M = s.outside M := by
  simp [State.scanTrain, hM, outside_foldl]

@[simp ↓] theorem State.scanRestore_outside (M : Mask) (s : State) (done : Bool) (hM : M.mode ∧ M.regs ∧ M.events ∧ M.eventSeq ∧ M.sent
    ∧ M.chans ∧ M.ctxs ∧ M.lanes ∧ M.cores ∧ M.slots ∧ M.progs ∧ M.sheets ∧ M.insts ∧ M.surfs ∧ M.pair ∧ M.prov ∧ M.prot) :
    (State.scanRestore s done).outside M = s.outside M := by
  simp [State.scanRestore, hM, outside_foldl]

@[simp ↓] theorem State.scanNext_outside (M : Mask) (s : State) (v : Nat → BitVec 32) (hM : M.mode ∧ M.regs ∧ M.events ∧ M.eventSeq ∧
    M.sent ∧ M.chans ∧ M.ctxs ∧ M.lanes ∧ M.cores ∧ M.slots ∧ M.progs ∧ M.sheets ∧ M.insts ∧ M.surfs ∧ M.pair ∧ M.prov ∧ M.prot) :
    (State.scanNext s v).outside M = s.outside M := by
  simp [State.scanNext, hM]

@[simp ↓] theorem State.bondUp_outside (M : Mask) (s : State) (l : Nat) (hM : M.mode ∧ M.events ∧ M.eventSeq ∧ M.sent ∧ M.lanes ∧
    M.insts) : (State.bondUp s l).outside M = s.outside M := by
  simp [State.bondUp, hM, outside_foldl]

@[simp ↓] theorem State.sendLinkCtrl_outside (M : Mask) (s : State) (l op : Nat) (hM : M.sent ∧ M.lanes) : (State.sendLinkCtrl s l
    op).outside M = s.outside M := by
  simp [State.sendLinkCtrl, hM]

@[simp ↓] theorem State.askWake_outside (M : Mask) (s : State) (l : Nat) (hM : M.mode ∧ M.lanes) : (State.askWake s l).outside M =
    s.outside M := by
  simp [State.askWake, hM, outside_foldl]

/-! ## Machine/Update.lean -/

@[simp ↓] theorem State.setUpdSource_outside (M : Mask) (s : State) (k : Nat) (x : UpdSource) (hM : M.prot) : (State.setUpdSource s k
    x).outside M = s.outside M := by
  simp [State.setUpdSource, hM]

@[simp ↓] theorem State.endClaim_outside (M : Mask) (s : State) (k : Nat) (hM : M.prot) : (State.endClaim s k).outside M = s.outside M := by
  simp [State.endClaim, hM]

@[simp ↓] theorem State.updRefuse_outside (M : Mask) (s : State) (k status : Nat) (hM : M.regs ∧ M.events ∧ M.eventSeq ∧ M.sent ∧
    M.insts ∧ M.prot) : (State.updRefuse s k status).outside M = s.outside M := by
  simp [State.updRefuse, hM]

@[simp ↓] theorem State.flashWrite_outside (M : Mask) (s : State) (a : Nat) (l : List (BitVec 8)) (hM : M.prot) : (State.flashWrite s a
    l).outside M = s.outside M := by
  simp [State.flashWrite, hM]

@[simp ↓] theorem State.updStart_outside (M : Mask) (s : State) (k : Nat) (len : Option Nat) (hM : M.prot) : (State.updStart s k
    len).outside M = s.outside M := by
  simp [State.updStart, hM]

@[simp ↓] theorem State.updChunk_outside (M : Mask) (s : State) (k off : Nat) (data : List (BitVec 8)) (hM : M.regs ∧ M.events ∧
    M.eventSeq ∧ M.sent ∧ M.insts ∧ M.prot) : (State.updChunk s k off data).1.outside M = s.outside M := by
  unfold State.updChunk
  dsimp only
  repeat' split
  all_goals simp [hM]

@[simp ↓] theorem State.updAbort_outside (M : Mask) (s : State) (k : Nat) (hM : M.prot) : (State.updAbort s k).outside M = s.outside M := by
  simp [State.updAbort, hM]

/-! ## Machine/Admit.lean -/

@[simp ↓] theorem State.setArea_outside (M : Mask) (s : State) (b : Bool) (x : StoreArea) (hM : M.store) : (State.setArea s b
    x).outside M = s.outside M := by
  simp [State.setArea, hM]

@[simp ↓] theorem State.setResult_outside (M : Mask) (s : State) (off reason : Nat) (hM : M.regs) : (State.setResult s off
    reason).outside M = s.outside M := by
  simp [State.setResult, hM]

/-! ## Machine/DictVal.lean -/

@[simp ↓] theorem State.setSession_outside (M : Mask) (s : State) (k : Nat) (x : Session) (hM : M.dict) : (State.setSession s k
    x).outside M = s.outside M := by
  simp [State.setSession, hM]

/-! ## Machine/DictOps.lean -/

@[simp ↓] theorem State.cacheAnswer_outside (M : Mask) (s : State) (peer tid status reason : Nat) (data : List (BitVec 8)) (hM :
    M.dict) : (State.cacheAnswer s peer tid status reason data).outside M = s.outside M := by
  simp [State.cacheAnswer, hM]

@[simp ↓] theorem State.mailboxData_outside (M : Mask) (s : State) (v : List (BitVec 8)) (hM : M.regs) : (State.mailboxData s
    v).outside M = s.outside M := by
  simp [State.mailboxData, hM, outside_foldl]

@[simp ↓] theorem State.dictAnswer_outside (M : Mask) (s : State) (p : DictPort) (idx sub abort reason : Nat) (data : List (BitVec 8))
    (hM : M.regs ∧ M.sent ∧ M.dict) : (State.dictAnswer s p idx sub abort reason data).outside M = s.outside M := by
  unfold State.dictAnswer
  split <;> simp [hM]

@[simp ↓] theorem State.dictRead_outside (M : Mask) (s : State) (p : DictPort) (idx sub off len : Nat) (hM : M.regs ∧ M.sent ∧ M.dict)
    : (State.dictRead s p idx sub off len).outside M = s.outside M := by
  simp [State.dictRead, hM]

/-! ## Machine/Mpu.lean -/

@[simp ↓] theorem State.mpuLatch_outside (M : Mask) (s : State) (a : Access) (c : MpuCause) (hM : M.regs ∧ M.prot) : (State.mpuLatch s
    a c).outside M = s.outside M := by
  simp [State.mpuLatch, hM]

@[simp ↓] theorem State.mpuRefuse_outside (M : Mask) (s : State) (a : Access) (c : MpuCause) (hM : M.regs ∧ M.events ∧ M.eventSeq ∧
    M.sent ∧ M.insts ∧ M.prot) : (State.mpuRefuse s a c).outside M = s.outside M := by
  unfold State.mpuRefuse
  split <;> simp [hM]

@[simp ↓] theorem State.regionWrite_outside (M : Mask) (s : State) (cls : BusClass) (i j : Nat) (v : BitVec 32) (hM : M.regs ∧ M.events
    ∧ M.eventSeq ∧ M.sent ∧ M.insts ∧ M.prot) : (State.regionWrite s cls i j v).outside M = s.outside M := by
  unfold State.regionWrite
  dsimp only
  repeat' split
  all_goals simp [hM]

/-! ## Machine/Host.lean -/

@[simp ↓] theorem State.setQueue_outside (M : Mask) (s : State) (n q : Nat) (x : WorkQueue) (hM : M.insts) : (State.setQueue s n q
    x).outside M = s.outside M := by
  simp [State.setQueue, hM]

@[simp ↓] theorem State.pageRefused_outside (M : Mask) (s : State) (n : Nat) (hM : M.regs ∧ M.events ∧ M.eventSeq ∧ M.sent ∧ M.insts ∧
    M.prot) : (State.pageRefused s n).outside M = s.outside M := by
  simp [State.pageRefused, hM]

@[simp ↓] theorem State.tailWrite_outside (M : Mask) (s : State) (n q v : Nat) (hM : M.events ∧ M.eventSeq ∧ M.sent ∧ M.insts) :
    (State.tailWrite s n q v).outside M = s.outside M := by
  simp [State.tailWrite, hM]

@[simp ↓] theorem State.cqHead_outside (M : Mask) (s : State) (n v : Nat) (hM : M.sent ∧ M.insts) : (State.cqHead s n v).outside M =
    s.outside M := by
  simp [State.cqHead, hM]

@[simp ↓] theorem State.evqRd_outside (M : Mask) (s : State) (n v : Nat) (hM : M.events ∧ M.eventSeq ∧ M.sent ∧ M.insts) : (State.evqRd
    s n v).outside M = s.outside M := by
  simp [State.evqRd, hM]

@[simp ↓] theorem State.flushVecs_outside (M : Mask) (s : State) (n : Nat) (hM : M.sent ∧ M.insts) : (State.flushVecs s n).outside M =
    s.outside M := by
  simp [State.flushVecs, hM, outside_foldl]

@[simp ↓] theorem State.vecMaskWrite_outside (M : Mask) (s : State) (n : Nat) (hi : Bool) (v : BitVec 32) (hM : M.sent ∧ M.insts) :
    (State.vecMaskWrite s n hi v).outside M = s.outside M := by
  simp [State.vecMaskWrite, hM]

@[simp ↓] theorem State.queueWrite_outside (M : Mask) (s : State) (n q o : Nat) (v : BitVec 32) (hM : M.regs ∧ M.events ∧ M.eventSeq ∧
    M.sent ∧ M.insts ∧ M.prot) : (State.queueWrite s n q o v).outside M = s.outside M := by
  simp [State.queueWrite, hM]

@[simp ↓] theorem State.ringFieldWrite_outside (M : Mask) (s : State) (n o : Nat) (v : BitVec 32) (hM : M.regs ∧ M.events ∧ M.eventSeq
    ∧ M.sent ∧ M.insts ∧ M.prot) : (State.ringFieldWrite s n o v).outside M = s.outside M := by
  simp [State.ringFieldWrite, hM]

@[simp ↓] theorem State.pageWrite_outside (M : Mask) (s : State) (n o : Nat) (v : BitVec 32) (hM : M.regs ∧ M.events ∧ M.eventSeq ∧
    M.sent ∧ M.insts ∧ M.prot) : (State.pageWrite s n o v).outside M = s.outside M := by
  simp [State.pageWrite, hM]

@[simp ↓] theorem State.stage_outside (M : Mask) (s : State) (n o v : Nat) (hM : M.regs ∧ M.insts) : (State.stage s n o v).outside M =
    s.outside M := by
  simp [State.stage, hM]

@[simp ↓] theorem State.takeOrder_outside (M : Mask) (s : State) (n q : Nat) (o : WorkOrder) (hM : M.regs ∧ M.sent ∧ M.insts ∧ M.surfs)
    : (State.takeOrder s n q o).outside M = s.outside M := by
  unfold State.takeOrder
  split <;> simp [hM]

@[simp ↓] theorem State.tryCommit_outside (M : Mask) (s : State) (n : Nat) (w : Work) (k rw rh : Nat) (hM : M.regs ∧ M.events ∧
    M.eventSeq ∧ M.sent ∧ M.chans ∧ M.ctxs ∧ M.lanes ∧ M.slots ∧ M.progs ∧ M.sheets ∧ M.insts ∧ M.surfs ∧ M.dma ∧ M.pair ∧ M.prot) :
    (State.tryCommit s n w k rw rh).outside M = s.outside M := by
  unfold State.tryCommit
  split
  · simp [hM]
  · split <;> simp [hM]

@[simp ↓] theorem State.blockSlots_outside (M : Mask) (s : State) (stalls : List (Nat × Nat)) (rd wr : Nat) (kept : Bool) (hM : M.regs
    ∧ M.slots ∧ M.progs) : (State.blockSlots s stalls rd wr kept).outside M = s.outside M := by
  simp [State.blockSlots, hM, outside_foldl]

@[simp ↓] theorem State.stopTransfer_outside (M : Mask) (s : State) (n : Nat) (w : Work) (hM : M.regs ∧ M.slots ∧ M.progs ∧ M.insts ∧
    M.dma) : (State.stopTransfer s n w).outside M = s.outside M := by
  simp [State.stopTransfer, hM]

@[simp ↓] theorem State.finishTransfer_outside (M : Mask) (s : State) (n : Nat) (w : Work) (hM : M.regs ∧ M.events ∧ M.eventSeq ∧
    M.sent ∧ M.chans ∧ M.ctxs ∧ M.lanes ∧ M.slots ∧ M.progs ∧ M.sheets ∧ M.insts ∧ M.surfs ∧ M.dma ∧ M.pair ∧ M.prot) :
    (s.finishTransfer n w).outside M = s.outside M := by
  unfold State.finishTransfer
  split <;> simp [hM]

@[simp ↓] theorem State.blockDone_outside (M : Mask) (s : State) (n : Nat) (w : Work) (pages : List (BitVec 64)) (hM : M.regs ∧
    M.events ∧ M.eventSeq ∧ M.sent ∧ M.chans ∧ M.ctxs ∧ M.lanes ∧ M.slots ∧ M.progs ∧ M.sheets ∧ M.insts ∧ M.surfs ∧ M.dma ∧ M.atc ∧
    M.pair ∧ M.prot) : (State.blockDone s n w pages).outside M = s.outside M := by
  simp [State.blockDone, hM]

@[simp ↓] theorem State.copyData_outside (M : Mask) (s : State) (n : Nat) (w : Work) (toHost : Bool) (ring : Option Nat) (dva : Nat)
    (hva : BitVec 64) (pages : List (BitVec 64)) (bytes : List Byte) (hM : M.regs ∧ M.dram ∧ M.events ∧ M.eventSeq ∧ M.sent ∧ M.chans ∧
    M.ctxs ∧ M.lanes ∧ M.slots ∧ M.progs ∧ M.sheets ∧ M.insts ∧ M.surfs ∧ M.dma ∧ M.atc ∧ M.pair ∧ M.prot) : (s.copyData n w toHost
    ring dva hva pages bytes).outside M = s.outside M := by
  unfold State.copyData
  dsimp only
  repeat' split
  all_goals simp [hM]

@[simp ↓] theorem State.groupEnds_outside (M : Mask) (s : State) (n : Nat) (g : PageGroup) (ok : Bool) (hM : M.regs ∧ M.events ∧
    M.eventSeq ∧ M.sent ∧ M.chans ∧ M.ctxs ∧ M.lanes ∧ M.slots ∧ M.progs ∧ M.sheets ∧ M.insts ∧ M.surfs ∧ M.dma ∧ M.pair ∧ M.prot) :
    (State.groupEnds s n g ok).outside M = s.outside M := by
  unfold State.groupEnds
  dsimp only
  repeat' split
  all_goals simp [hM]

/-! ## Machine/Flr.lean -/

@[simp ↓] theorem State.flrInst_outside (M : Mask) (s : State) (n : Nat) (hM : M.regs ∧ M.events ∧ M.eventSeq ∧ M.sent ∧ M.chans ∧
    M.ctxs ∧ M.lanes ∧ M.slots ∧ M.progs ∧ M.sheets ∧ M.insts ∧ M.surfs ∧ M.dma ∧ M.pair ∧ M.adm ∧ M.prot) : (State.flrInst s
    n).outside M = s.outside M := by
  unfold State.flrInst
  split <;> simp [hM]

@[simp ↓] theorem State.flr_outside (M : Mask) (s : State) (hM : M.regs ∧ M.events ∧ M.eventSeq ∧ M.sent ∧ M.chans ∧ M.ctxs ∧ M.lanes ∧
    M.slots ∧ M.progs ∧ M.sheets ∧ M.insts ∧ M.surfs ∧ M.dma ∧ M.pair ∧ M.glb ∧ M.adm ∧ M.dict ∧ M.prot) : (State.flr s).outside M =
    s.outside M := by
  simp [State.flr, hM, outside_foldl]

/-! ## Machine/HostInst.lean -/

@[simp ↓] theorem State.revokePages_outside (M : Mask) (s : State) (n vpn count : Nat) (hM : M.events ∧ M.eventSeq ∧ M.sent ∧ M.insts)
    : (State.revokePages s n vpn count).outside M = s.outside M := by
  simp [State.revokePages, hM]

@[simp ↓] theorem State.takeChange_outside (M : Mask) (s : State) (n : Nat) (c : PendingChange) (hM : M.events ∧ M.eventSeq ∧ M.sent ∧
    M.insts) : (State.takeChange s n c).outside M = s.outside M := by
  unfold State.takeChange
  split <;> simp [hM]

@[simp ↓] theorem State.takeChanges_outside (M : Mask) (s : State) (n : Nat) (z0 : List (PendingChange × Nat)) (hM : M.events ∧
    M.eventSeq ∧ M.sent ∧ M.insts) : (State.takeChanges s n z0).outside M = s.outside M := by
  induction z0 generalizing s with
  | nil => rfl
  | cons p t ih =>
    obtain ⟨c, e⟩ := p
    rw [State.takeChanges]
    split <;> simp [ih, hM]

/-! ## Machine/Isolate.lean -/

@[simp ↓] theorem State.setHealth_outside (M : Mask) (s : State) (h : HealthUnit) (hM : M.prot) : (State.setHealth s h).outside M =
    s.outside M := by
  simp [State.setHealth, hM]

/-! ## Machine/Prov.lean -/

@[simp ↓] theorem State.syncUnit_outside (M : Mask) (s : State) (u : Nat) (hM : M.regs ∧ M.slots ∧ M.progs) : (State.syncUnit s
    u).outside M = s.outside M := by
  simp [State.syncUnit, hM]

@[simp ↓] theorem State.provRefuse_outside (M : Mask) (s : State) (hM : M.regs) : (State.provRefuse s).outside M = s.outside M := by
  simp [State.provRefuse, hM]

@[simp ↓] theorem State.setScan_outside (M : Mask) (s : State) (c : Scan) (hM : M.prov) : (State.setScan s c).outside M = s.outside M := by
  simp [State.setScan, hM]

/-! ## Machine/Time.lean -/

@[simp ↓] theorem State.refuseTimeWrite_outside (M : Mask) (s : State) (hM : M.regs ∧ M.events ∧ M.eventSeq ∧ M.sent ∧ M.insts) :
    (State.refuseTimeWrite s).outside M = s.outside M := by
  simp [State.refuseTimeWrite, hM]

@[simp ↓] theorem State.rxAnnounce_outside (M : Mask) (s : State) (port : Nat) (d : Fin 2) (a : Announce) (hM : M.time ∧ M.mode ∧
    M.regs ∧ M.events ∧ M.eventSeq ∧ M.sent ∧ M.chans ∧ M.ctxs ∧ M.cruiseLast ∧ M.cores ∧ M.slots ∧ M.progs ∧ M.heads ∧ M.sheets ∧
    M.engines ∧ M.insts ∧ M.surfs ∧ M.recs ∧ M.recCores ∧ M.prot) : (State.rxAnnounce s port d a).outside M = s.outside M := by
  unfold State.rxAnnounce
  dsimp only
  repeat' split
  all_goals simp [hM]

@[simp ↓] theorem State.completeSync_outside (M : Mask) (s : State) (port : Nat) (d : Fin 2) (t1 t2 corr : Int) (hM : M.time ∧ M.mode ∧
    M.regs ∧ M.events ∧ M.eventSeq ∧ M.sent ∧ M.chans ∧ M.ctxs ∧ M.cruiseLast ∧ M.cores ∧ M.slots ∧ M.progs ∧ M.heads ∧ M.sheets ∧
    M.engines ∧ M.insts ∧ M.surfs ∧ M.recs ∧ M.recCores ∧ M.prot) : (State.completeSync s port d t1 t2 corr).outside M = s.outside M := by
  unfold State.completeSync
  dsimp only
  repeat' split
  all_goals simp [hM]

@[simp ↓] theorem State.pushTxq_outside (M : Mask) (s : State) (port : Nat) (e : TxEntry) (hM : M.time ∧ M.regs ∧ M.events ∧ M.eventSeq
    ∧ M.sent ∧ M.insts) : (State.pushTxq s port e).outside M = s.outside M := by
  simp [State.pushTxq, hM]

@[simp ↓] theorem State.setTto_outside (M : Mask) (s : State) (n : Nat) (x : Tto) (hM : M.time) : (State.setTto s n x).outside M =
    s.outside M := by
  simp [State.setTto, hM]

@[simp ↓] theorem State.armTto_outside (M : Mask) (s : State) (n : Nat) (start : BitVec 64) (hM : M.time ∧ M.events ∧ M.eventSeq ∧
    M.sent ∧ M.insts) : (State.armTto s n start).outside M = s.outside M := by
  unfold State.armTto
  split <;> simp [hM]

@[simp ↓] theorem State.ttoEdge_outside (M : Mask) (s : State) (n : Nat) (hM : M.time) : (State.ttoEdge s n).outside M = s.outside M := by
  unfold State.ttoEdge
  dsimp only
  repeat' split
  all_goals simp [hM]

@[simp ↓] theorem State.setTci_outside (M : Mask) (s : State) (n : Nat) (x : Tci) (hM : M.time) : (State.setTci s n x).outside M =
    s.outside M := by
  simp [State.setTci, hM]

@[simp ↓] theorem State.tciLoss_outside (M : Mask) (s : State) (n off : Nat) (hM : M.regs ∧ M.events ∧ M.eventSeq ∧ M.sent ∧ M.insts) :
    (State.tciLoss s n off).outside M = s.outside M := by
  simp [State.tciLoss, hM]

/-! ## Machine/Regs.lean -/

@[simp ↓] theorem State.latchHigh_outside (M : Mask) (s : State) (o : Nat) (hM : M.latches) : (State.latchHigh s o).outside M =
    s.outside M := by
  simp [State.latchHigh, hM, outside_foldl]

@[simp ↓] theorem State.readClear_outside (M : Mask) (s : State) (o : Nat) (hM : M.mode ∧ M.regs ∧ M.lanes ∧ M.insts ∧ M.glb ∧ M.prot)
    : (State.readClear s o).outside M = s.outside M := by
  unfold State.readClear
  dsimp only
  repeat' split
  all_goals simp [hM]

@[simp ↓] theorem State.barRead_outside (M : Mask) (s : State) (o : Nat) (hM : M.mode ∧ M.regs ∧ M.latches ∧ M.readData ∧ M.lanes ∧
    M.slots ∧ M.progs ∧ M.insts ∧ M.glb ∧ M.prot) : (State.barRead s o).outside M = s.outside M := by
  unfold State.barRead
  dsimp only
  repeat' split
  all_goals simp [hM]

@[simp ↓] theorem State.pageRead_outside (M : Mask) (s : State) (n o : Nat) (hM : M.readData ∧ M.insts) : (State.pageRead s n
    o).outside M = s.outside M := by
  simp [State.pageRead, hM]

/-! ## Machine/Dict.lean -/

@[simp ↓] theorem State.setCan_outside (M : Mask) (s : State) (n : Nat) (c : CanNode) (hM : M.dict) : (State.setCan s n c).outside M =
    s.outside M := by
  simp [State.setCan, hM]

@[simp ↓] theorem State.autostart_outside (M : Mask) (s : State) (n : Nat) (hM : M.dict) : (State.autostart s n).outside M = s.outside
    M := by
  simp [State.autostart, hM]

@[simp ↓] theorem State.nmtReset_outside (M : Mask) (s : State) (n : Nat) (hM : M.dict) : (State.nmtReset s n).outside M = s.outside M := by
  simp [State.nmtReset, hM]

@[simp ↓] theorem State.udpDiscard_outside (M : Mask) (s : State) (hM : M.dict) : (State.udpDiscard s).outside M = s.outside M := by
  simp [State.udpDiscard, hM]

@[simp ↓] theorem State.udpRate_outside (M : Mask) (s : State) (peer : Nat) (hM : M.dict) : (State.udpRate s peer).1.outside M =
    s.outside M := by
  unfold State.udpRate
  dsimp only
  repeat' split
  all_goals simp [hM]

@[simp ↓] theorem State.udpAccept_outside (M : Mask) (s : State) (m : UdpMsg) (hM : M.sent ∧ M.dict) : (State.udpAccept s m).1.outside
    M = s.outside M := by
  unfold State.udpAccept
  dsimp only
  repeat' split
  all_goals simp [hM]

@[simp ↓] theorem State.mailboxTake_outside (M : Mask) (s : State) (f : Nat → Nat → Nat → Nat → State → State) (hf : ∀ a b c d x, (f a
    b c d x).outside M = x.outside M) (hM : M.regs ∧ M.dict) : (s.mailboxTake f).outside M = s.outside M := by
  unfold State.mailboxTake
  split
  · rfl
  · split
    · simp [hM]
    · simp [hf, hM]

/-! ## Machine/EngineFaults.lean -/

@[simp ↓] theorem State.engineRefused_outside (M : Mask) (s : State) (r : Access × MpuCause) (owner : Option Nat) (hM : M.regs ∧
    M.events ∧ M.eventSeq ∧ M.sent ∧ M.insts ∧ M.prot) : (State.engineRefused s r owner).outside M = s.outside M := by
  unfold State.engineRefused
  split <;> simp [hM]

@[simp ↓] theorem State.discardTile_outside (M : Mask) (s : State) (e : Nat) (hM : M.regs ∧ M.slots ∧ M.progs) : (State.discardTile s
    e).outside M = s.outside M := by
  simp [State.discardTile, hM]

@[simp ↓] theorem State.recAbandon_outside (M : Mask) (s : State) (r : Nat) (hM : M.events ∧ M.eventSeq ∧ M.sent ∧ M.insts ∧ M.recs) :
    (State.recAbandon s r).outside M = s.outside M := by
  unfold State.recAbandon
  dsimp only
  repeat' split
  all_goals simp [hM]

@[simp ↓] theorem State.fetchFault_outside (M : Mask) (s : State) (h : Nat) (z0 : FetchFault) (hM : M.regs ∧ M.events ∧ M.eventSeq ∧
    M.sent ∧ M.insts ∧ M.prot) : (State.fetchFault s h z0).outside M = s.outside M := by
  unfold State.fetchFault
  dsimp only
  repeat' split
  all_goals simp [hM]

/-! ## Machine/Touch.lean -/

@[simp ↓] theorem State.fireRules_outside (M : Mask) (s : State) (key edge : Nat) (hM : M.console) : (State.fireRules s key
    edge).outside M = s.outside M := by
  simp [State.fireRules, hM]

@[simp ↓] theorem State.fireOutput_outside (M : Mask) (s : State) (b : Nat) (l : List HapFire) (n : Nat) (hM : M.regs ∧ M.console) :
    (State.fireOutput s b l n).outside M = s.outside M := by
  unfold State.fireOutput
  dsimp only
  repeat' split
  all_goals simp [hM]

@[simp ↓] theorem State.setTouch_outside (M : Mask) (s : State) (p : Nat) (x : Touch) (hM : M.console) : (State.setTouch s p x).outside
    M = s.outside M := by
  simp [State.setTouch, hM]

@[simp ↓] theorem State.setKey_outside (M : Mask) (s : State) (k : Nat) (x : Key) (hM : M.console) : (State.setKey s k x).outside M =
    s.outside M := by
  simp [State.setKey, hM]

@[simp ↓] theorem State.touchSync_outside (M : Mask) (s : State) (p : Nat) (hM : M.events ∧ M.eventSeq ∧ M.sent ∧ M.insts ∧ M.console)
    : (State.touchSync s p).outside M = s.outside M := by
  simp [State.touchSync, hM]

@[simp ↓] theorem State.keyTo_outside (M : Mask) (s : State) (k e : Nat) (x : KeyState) (ev : EvKind) (edge : Nat) (hM : M.events ∧
    M.eventSeq ∧ M.sent ∧ M.insts ∧ M.console) : (State.keyTo s k e x ev edge).outside M = s.outside M := by
  simp [State.keyTo, hM]

@[simp ↓] theorem State.keyDebounce_outside (M : Mask) (s : State) (k e : Nat) (d : Int) (hM : M.events ∧ M.eventSeq ∧ M.sent ∧ M.insts
    ∧ M.console) : (State.keyDebounce s k e d).outside M = s.outside M := by
  unfold State.keyDebounce
  dsimp only
  repeat' split
  all_goals simp [hM]

@[simp ↓] theorem State.keyMeasure_outside (M : Mask) (s : State) (p k e raw : Nat) (busy : Bool) (hM : M.events ∧ M.eventSeq ∧ M.sent
    ∧ M.insts ∧ M.console) : (State.keyMeasure s p k e raw busy).outside M = s.outside M := by
  simp [State.keyMeasure, hM]

@[simp ↓] theorem State.keyTest_outside (M : Mask) (s : State) (p k e raw : Nat) (fresh : Bool) (hM : M.events ∧ M.eventSeq ∧ M.sent ∧
    M.insts ∧ M.console) : (State.keyTest s p k e raw fresh).outside M = s.outside M := by
  unfold State.keyTest
  dsimp only
  repeat' split
  all_goals simp [hM]

@[simp ↓] theorem State.touchStart_outside (M : Mask) (s : State) (p : Nat) (hM : M.events ∧ M.eventSeq ∧ M.sent ∧ M.insts ∧ M.console)
    : (State.touchStart s p).outside M = s.outside M := by
  simp [State.touchStart, hM, outside_foldl]

@[simp ↓] theorem State.touchLift_outside (M : Mask) (s : State) (p : Nat) (isMutual : Bool) (hM : M.events ∧ M.eventSeq ∧ M.sent ∧
    M.insts ∧ M.console) : (State.touchLift s p isMutual).outside M = s.outside M := by
  simp [State.touchLift, hM, outside_foldl]

@[simp ↓] theorem State.touchTrack_outside (M : Mask) (s : State) (p : Nat) (isMutual : Bool) (hM : M.console) : (State.touchTrack s p
    isMutual).outside M = s.outside M := by
  simp [State.touchTrack, hM]

@[simp ↓] theorem State.touchTest_outside (M : Mask) (s : State) (p : Nat) (m x : List (Nat × Nat)) (hM : M.events ∧ M.eventSeq ∧
    M.sent ∧ M.insts ∧ M.console) : (State.touchTest s p m x).outside M = s.outside M := by
  simp [State.touchTest, hM, outside_foldl]

@[simp ↓] theorem State.touchReport_outside (M : Mask) (s : State) (p e : Nat) (kind : ScanKind) (cs : List Contact) (hM : M.regs ∧
    M.events ∧ M.eventSeq ∧ M.sent ∧ M.insts ∧ M.console) : (State.touchReport s p e kind cs).outside M = s.outside M := by
  unfold State.touchReport
  dsimp only
  repeat' split
  all_goals simp [hM]

@[simp ↓] theorem State.touchEvaluate_outside (M : Mask) (s : State) (p e : Nat) (kind : ScanKind) (hM : M.regs ∧ M.events ∧ M.eventSeq
    ∧ M.sent ∧ M.insts ∧ M.console) : (State.touchEvaluate s p e kind).outside M = s.outside M := by
  simp [State.touchEvaluate, hM]

end Sys2Proof.Machine
end

section
/-! What each command leaves: its frame, assembled from the frames of the operations it is made of. -/

namespace Sys2Proof.Machine

open Sys2Proof.Safety

/-- Whatever next state outcome `o` is, it is state `u` outside a mask. -/
def LeavesOutside (M : Mask) (u : State) (o : Host.Outcome State Fault Refusal) : Prop := ∀ w, o = .next w → w.outside M = u.outside M

@[simp ↓] theorem leavesOutside_next (M : Mask) (u w : State) : LeavesOutside M u (.next w) ↔ w.outside M = u.outside M := by
  constructor
  · exact fun h => h w rfl
  · rintro h v ⟨⟩
    exact h

@[simp ↓] theorem leavesOutside_ite (M : Mask) (u : State) (c : Prop) [Decidable c] (a b : Host.Outcome State Fault Refusal) :
    LeavesOutside M u (if c then a else b) ↔ if c then LeavesOutside M u a else LeavesOutside M u b := by split <;> rfl

/-- An outcome that leaves everything outside a mask differs from the state it began in in the mask's parts alone. -/
theorem LeavesOutside.eq {M : Mask} {u : State} {o : Host.Outcome State Fault Refusal} (h : LeavesOutside M u o) :
    ∀ w, o = .next w → w = { u with
      time := bif M.time then w.time else u.time,
      mode := bif M.mode then w.mode else u.mode,
      aon := bif M.aon then w.aon else u.aon,
      regs := bif M.regs then w.regs else u.regs,
      latches := bif M.latches then w.latches else u.latches,
      readData := bif M.readData then w.readData else u.readData,
      dram := bif M.dram then w.dram else u.dram,
      events := bif M.events then w.events else u.events,
      eventSeq := bif M.eventSeq then w.eventSeq else u.eventSeq,
      sent := bif M.sent then w.sent else u.sent,
      chans := bif M.chans then w.chans else u.chans,
      ctxs := bif M.ctxs then w.ctxs else u.ctxs,
      salvos := bif M.salvos then w.salvos else u.salvos,
      bonds := bif M.bonds then w.bonds else u.bonds,
      lanes := bif M.lanes then w.lanes else u.lanes,
      cruiseSeq := bif M.cruiseSeq then w.cruiseSeq else u.cruiseSeq,
      cruiseLast := bif M.cruiseLast then w.cruiseLast else u.cruiseLast,
      cores := bif M.cores then w.cores else u.cores,
      slots := bif M.slots then w.slots else u.slots,
      packing := bif M.packing then w.packing else u.packing,
      progs := bif M.progs then w.progs else u.progs,
      heads := bif M.heads then w.heads else u.heads,
      sheets := bif M.sheets then w.sheets else u.sheets,
      engines := bif M.engines then w.engines else u.engines,
      win := bif M.win then w.win else u.win,
      safe := bif M.safe then w.safe else u.safe,
      insts := bif M.insts then w.insts else u.insts,
      surfs := bif M.surfs then w.surfs else u.surfs,
      dma := bif M.dma then w.dma else u.dma,
      atc := bif M.atc then w.atc else u.atc,
      console := bif M.console then w.console else u.console,
      recs := bif M.recs then w.recs else u.recs,
      recCores := bif M.recCores then w.recCores else u.recCores,
      pair := bif M.pair then w.pair else u.pair,
      board := bif M.board then w.board else u.board,
      prov := bif M.prov then w.prov else u.prov,
      glb := bif M.glb then w.glb else u.glb,
      adm := bif M.adm then w.adm else u.adm,
      dict := bif M.dict then w.dict else u.dict,
      store := bif M.store then w.store else u.store,
      prot := bif M.prot then w.prot else u.prot,
      udpPort := bif M.udpPort then w.udpPort else u.udpPort,
      udpPorts := bif M.udpPorts then w.udpPorts else u.udpPorts } :=
  fun w hw => eq_of_outside (h w hw)

/-! ## One lemma per command -/

theorem execBlobApply_outside (t) (s : State) : LeavesOutside { regs := true, glb := true } (s.at t) (execBlobApply t s) := by
  unfold execBlobApply
  simp

theorem execApertureBaseWrite_outside (t v) (s : State) : LeavesOutside
    { glb := true }
    (s.at t) (execApertureBaseWrite t v s) := by
  unfold execApertureBaseWrite
  simp

theorem execApertureBaseSwitch_outside (t) (s : State) : LeavesOutside
    { regs := true, glb := true }
    (s.at t) (execApertureBaseSwitch t s) := by
  unfold execApertureBaseSwitch
  dsimp only
  repeat' split
  all_goals simp

theorem execBar0StrayAccess_outside (t o write) (s : State) : LeavesOutside
    { regs := true, readData := true, glb := true }
    (s.at t) (execBar0StrayAccess t o write s) := by
  unfold execBar0StrayAccess
  simp

theorem execFrameRelease_outside (t c) (s : State) : LeavesOutside
    { regs := true, ctxs := true, heads := true, sheets := true, surfs := true }
    (s.at t) (execFrameRelease t c s) := by
  unfold execFrameRelease
  split <;> simp

theorem execPairComparison_outside (t h) (s : State) : LeavesOutside
    { regs := true, events := true, eventSeq := true, sent := true, insts := true, pair := true, prot := true }
    (s.at t) (execPairComparison t h s) := by
  unfold execPairComparison
  dsimp only
  repeat' split
  all_goals simp

theorem execTouchScanStart_outside (t p) (s : State) : LeavesOutside
    { events := true, eventSeq := true, sent := true, insts := true, console := true }
    (s.at t) (execTouchScanStart t p s) := by
  simp [execTouchScanStart]

theorem execTimeRateWrite_outside (t v) (s : State) : LeavesOutside
    { time := true, regs := true, events := true, eventSeq := true, sent := true, insts := true }
    (s.at t) (execTimeRateWrite t v s) := by
  simp [execTimeRateWrite]

theorem execServoHold_outside (t) (s : State) : LeavesOutside
    { time := true, events := true, eventSeq := true, sent := true, insts := true }
    (s.at t) (execServoHold t s) := by
  simp [execServoHold]

theorem execServoRelease_outside (t) (s : State) : LeavesOutside
    { time := true, events := true, eventSeq := true, sent := true, insts := true }
    (s.at t) (execServoRelease t s) := by
  simp [execServoRelease]

theorem execTimeSnapshot_outside (t v) (s : State) : LeavesOutside { time := true } (s.at t) (execTimeSnapshot t v s) := by
  simp [execTimeSnapshot]

theorem execDelayReqSend_outside (t port d seq tag) (s : State) : LeavesOutside
    { time := true, regs := true, events := true, eventSeq := true, sent := true, insts := true }
    (s.at t) (execDelayReqSend t port d seq tag s) := by
  simp [execDelayReqSend]

theorem execSlewComplete_outside (t) (s : State) : LeavesOutside { time := true } (s.at t) (execSlewComplete t s) := by
  simp [execSlewComplete]

theorem execTraceTolReached_outside (t) (s : State) : LeavesOutside { time := true } (s.at t) (execTraceTolReached t s) := by
  simp [execTraceTolReached]

theorem execHoldoverExpire_outside (t) (s : State) : LeavesOutside { time := true } (s.at t) (execHoldoverExpire t s) := by
  simp [execHoldoverExpire]

theorem execTxqPop_outside (t port) (s : State) : LeavesOutside
    { time := true, readData := true }
    (s.at t) (execTxqPop t port s) := by
  unfold execTxqPop
  simp

theorem execLtbEpochCommit_outside (t n hi) (s : State) : LeavesOutside
    { time := true }
    (s.at t) (execLtbEpochCommit t n hi s) := by
  simp [execLtbEpochCommit]

theorem execTtoArm_outside (t n hi) (s : State) : LeavesOutside
    { time := true, regs := true, events := true, eventSeq := true, sent := true, insts := true }
    (s.at t) (execTtoArm t n hi s) := by
  simp [execTtoArm]

theorem execTtoCtrlWrite_outside (t n v) (s : State) : LeavesOutside
    { time := true, regs := true }
    (s.at t) (execTtoCtrlWrite t n v s) := by
  simp [execTtoCtrlWrite]

theorem execTtoEdge_outside (t n) (s : State) : LeavesOutside { time := true } (s.at t) (execTtoEdge t n s) := by
  simp [execTtoEdge]

theorem execPpsOutEdge_outside (t) (s : State) : LeavesOutside { time := true } (s.at t) (execPpsOutEdge t s) := by
  simp [execPpsOutEdge]

theorem execTciEdge_outside (t n rising) (s : State) : LeavesOutside
    { time := true, regs := true, events := true, eventSeq := true, sent := true, insts := true }
    (s.at t) (execTciEdge t n rising s) := by
  simp [execTciEdge]

theorem execTciStampPop_outside (t n) (s : State) : LeavesOutside
    { time := true, readData := true }
    (s.at t) (execTciStampPop t n s) := by
  simp [execTciStampPop]

theorem execExpirySweepVisit_outside (t r) (s : State) : LeavesOutside
    { ctxs := true, sheets := true, surfs := true }
    (s.at t) (execExpirySweepVisit t r s) := by
  simp [execExpirySweepVisit]

theorem execMembershipReportSend_outside (t) (s : State) : LeavesOutside
    { sent := true }
    (s.at t) (execMembershipReportSend t s) := by
  refine (leavesOutside_next ..).mpr (outside_foldl _ _ (fun u n => ?_) _ _)
  dsimp only
  split <;> simp

theorem execPathDownTimeout_outside (t n p) (s : State) : LeavesOutside
    { regs := true, events := true, eventSeq := true, sent := true, ctxs := true, insts := true }
    (s.at t) (execPathDownTimeout t n p s) := by
  unfold execPathDownTimeout
  dsimp only
  repeat' split
  all_goals simp

theorem execChannelSilence_outside (t ch) (s : State) : LeavesOutside
    { regs := true, events := true, eventSeq := true, sent := true, chans := true, insts := true }
    (s.at t) (execChannelSilence t ch s) := by
  unfold execChannelSilence
  dsimp only
  repeat' split
  all_goals simp

theorem execRtcpSrRx_outside (t n ntp rtp) (s : State) : LeavesOutside
    { ctxs := true }
    (s.at t) (execRtcpSrRx t n ntp rtp s) := by
  unfold execRtcpSrRx
  dsimp only
  repeat' split
  all_goals simp

theorem execSrAgeExpire_outside (t n) (s : State) : LeavesOutside { ctxs := true } (s.at t) (execSrAgeExpire t n s) := by
  unfold execSrAgeExpire
  dsimp only
  repeat' split
  all_goals simp

theorem execLaneTrainComplete_outside (t b) (s : State) : LeavesOutside
    { mode := true, events := true, eventSeq := true, sent := true, lanes := true, insts := true, prov := true }
    (s.at t) (execLaneTrainComplete t b s) := by
  simp [execLaneTrainComplete]

theorem execLuskoTimeSend_outside (t) (s : State) : LeavesOutside
    { sent := true, lanes := true }
    (s.at t) (execLuskoTimeSend t s) := by
  unfold execLuskoTimeSend
  dsimp only
  simp [outside_foldl]

theorem execFastIdleEntry_outside (t l tx) (s : State) : LeavesOutside
    { sent := true, lanes := true }
    (s.at t) (execFastIdleEntry t l tx s) := by
  unfold execFastIdleEntry
  dsimp only
  repeat' split
  all_goals simp [outside_foldl]

theorem execDeepOffRequest_outside (t l) (s : State) : LeavesOutside
    { sent := true, lanes := true }
    (s.at t) (execDeepOffRequest t l s) := by
  simp [execDeepOffRequest]

theorem execDeepWakeRequest_outside (t l) (s : State) : LeavesOutside
    { mode := true, lanes := true }
    (s.at t) (execDeepWakeRequest t l s) := by
  simp [execDeepWakeRequest]

theorem execSquelchActivity_outside (t l ns) (s : State) : LeavesOutside
    { mode := true, lanes := true }
    (s.at t) (execSquelchActivity t l ns s) := by
  simp [execSquelchActivity]

theorem execLaneWakeAligned_outside (t l) (s : State) : LeavesOutside
    { mode := true, events := true, eventSeq := true, sent := true, lanes := true, insts := true }
    (s.at t) (execLaneWakeAligned t l s) := by
  simp [execLaneWakeAligned]

theorem execDecodeFaultResume_outside (t n part) (s : State) : LeavesOutside
    { regs := true, ctxs := true, cores := true, slots := true, progs := true }
    (s.at t) (execDecodeFaultResume t n part s) := by
  unfold execDecodeFaultResume
  dsimp only
  repeat' split
  all_goals simp

theorem execWinGenOpen_outside (t) (s : State) : LeavesOutside { regs := true, win := true } (s.at t) (execWinGenOpen t s) := by
  unfold execWinGenOpen
  simp

theorem execWinGenAbandon_outside (t) (s : State) : LeavesOutside
    { regs := true, win := true }
    (s.at t) (execWinGenAbandon t s) := by
  simp [execWinGenAbandon]

theorem execWindowDescriptorWrite_outside (t g w k v) (s : State) : LeavesOutside
    { regs := true, win := true }
    (s.at t) (execWindowDescriptorWrite t g w k v s) := by
  simp [execWindowDescriptorWrite]

theorem execCoefOpen_outside (t u b) (s : State) : LeavesOutside
    { regs := true, heads := true, engines := true }
    (s.at t) (execCoefOpen t u b s) := by
  simp [execCoefOpen]

theorem execCoefSeal_outside (t u b) (s : State) : LeavesOutside
    { heads := true, engines := true }
    (s.at t) (execCoefSeal t u b s) := by
  unfold execCoefSeal
  dsimp only
  repeat' split
  all_goals simp

theorem execCoefWrite_outside (t u b k v) (s : State) : LeavesOutside
    { regs := true, heads := true, engines := true }
    (s.at t) (execCoefWrite t u b k v s) := by
  simp [execCoefWrite]

theorem execBgColorWrite_outside (t h v) (s : State) : LeavesOutside { heads := true } (s.at t) (execBgColorWrite t h v s) := by
  simp [execBgColorWrite]

theorem execSafelightApply_outside (t h) (s : State) : LeavesOutside
    { regs := true, heads := true, safe := true }
    (s.at t) (execSafelightApply t h s) := by
  simp [execSafelightApply]

theorem execGlyphCrcRefresh_outside (t) (s : State) : LeavesOutside { safe := true } (s.at t) (execGlyphCrcRefresh t s) := by
  unfold execGlyphCrcRefresh
  simp

theorem execFetchLevelChange_outside (t h pipe lines spans) (s : State) : LeavesOutside
    { regs := true, slots := true, progs := true, heads := true, insts := true }
    (s.at t) (execFetchLevelChange t h pipe lines spans s) := by
  unfold execFetchLevelChange
  dsimp only
  repeat' split
  all_goals simp [outside_foldl]

theorem execHpdPresent_outside (t h r) (s : State) : LeavesOutside
    { mode := true, events := true, eventSeq := true, sent := true, heads := true, insts := true }
    (s.at t) (execHpdPresent t h r s) := by
  simp [execHpdPresent]

theorem execHpdGone_outside (t h) (s : State) : LeavesOutside
    { mode := true, regs := true, events := true, eventSeq := true, sent := true, heads := true, insts := true }
    (s.at t) (execHpdGone t h s) := by
  simp [execHpdGone]

theorem execIrqHpd_outside (t h ok) (s : State) : LeavesOutside
    { mode := true, regs := true, events := true, eventSeq := true, sent := true, heads := true, insts := true }
    (s.at t) (execIrqHpd t h ok s) := by
  simp [execIrqHpd]

theorem execLinkTrainingAttempt_outside (t h) (s : State) : LeavesOutside
    { regs := true, sent := true, progs := true, heads := true }
    (s.at t) (execLinkTrainingAttempt t h s) := by
  unfold execLinkTrainingAttempt
  generalize s.at t = u
  dsimp only
  cases (u.head h.val).link.tries.head? <;> simp

theorem execLinkTrainingDone_outside (t h ok) (s : State) : LeavesOutside
    { mode := true, regs := true, events := true, eventSeq := true, sent := true, heads := true, insts := true }
    (s.at t) (execLinkTrainingDone t h ok s) := by
  unfold execLinkTrainingDone
  dsimp only
  repeat' split
  all_goals simp

theorem execLinkRetry_outside (t h) (s : State) : LeavesOutside
    { mode := true, events := true, eventSeq := true, sent := true, heads := true, insts := true }
    (s.at t) (execLinkRetry t h s) := by
  simp [execLinkRetry]

theorem execRecPictureStart_outside (t r part) (s : State) : LeavesOutside
    { regs := true, slots := true, progs := true, recs := true, recCores := true }
    (s.at t) (execRecPictureStart t r part s) := by
  unfold execRecPictureStart
  dsimp only
  repeat' split
  all_goals simp

theorem execRecFaultResume_outside (t r part) (s : State) : LeavesOutside
    { regs := true, slots := true, progs := true, recs := true, recCores := true }
    (s.at t) (execRecFaultResume t r part s) := by
  unfold execRecFaultResume
  dsimp only
  repeat' split
  all_goals simp

theorem execBsRdWrite_outside (t r hi) (s : State) : LeavesOutside
    { regs := true, recs := true }
    (s.at t) (execBsRdWrite t r hi s) := by
  simp [execBsRdWrite]

theorem execRecRtpTransmit_outside (t r packets bytes) (s : State) : LeavesOutside
    { sent := true, recs := true }
    (s.at t) (execRecRtpTransmit t r packets bytes s) := by
  unfold execRecRtpTransmit
  dsimp only
  repeat' split
  all_goals simp

theorem execPairActInLost_outside (t) (s : State) : LeavesOutside { pair := true } (s.at t) (execPairActInLost t s) := by
  unfold execPairActInLost
  simp

theorem execJoinRetry_outside (t) (s : State) : LeavesOutside
    { events := true, eventSeq := true, sent := true, lanes := true, insts := true, pair := true }
    (s.at t) (execJoinRetry t s) := by
  unfold execJoinRetry
  dsimp only
  repeat' split
  all_goals simp

theorem execJoinEpoch_outside (t) (s : State) : LeavesOutside
    { sent := true, lanes := true, pair := true }
    (s.at t) (execJoinEpoch t s) := by
  unfold execJoinEpoch
  dsimp only
  repeat' split
  all_goals simp

theorem execJoinMaxExpire_outside (t) (s : State) : LeavesOutside
    { events := true, eventSeq := true, sent := true, insts := true, pair := true }
    (s.at t) (execJoinMaxExpire t s) := by
  unfold execJoinMaxExpire
  simp

theorem execPairSyncSend_outside (t) (s : State) : LeavesOutside
    { sent := true, lanes := true }
    (s.at t) (execPairSyncSend t s) := by
  unfold execPairSyncSend
  dsimp only
  repeat' split
  all_goals simp

theorem execPairSkewTimeout_outside (t) (s : State) : LeavesOutside
    { events := true, eventSeq := true, sent := true, insts := true, pair := true }
    (s.at t) (execPairSkewTimeout t s) := by
  unfold execPairSkewTimeout
  dsimp only
  repeat' split
  all_goals simp

theorem execFillRetentionExpire_outside (t) (s : State) : LeavesOutside
    { pair := true }
    (s.at t) (execFillRetentionExpire t s) := by
  unfold execFillRetentionExpire
  simp

theorem execAttributionDecide_outside (t) (s : State) : LeavesOutside
    { regs := true, events := true, eventSeq := true, sent := true, insts := true, pair := true }
    (s.at t) (execAttributionDecide t s) := by
  unfold execAttributionDecide
  dsimp only
  repeat' split
  all_goals simp

theorem execInstChangeEpoch_outside (t n) (s : State) : LeavesOutside
    { events := true, eventSeq := true, sent := true, insts := true }
    (s.at t) (execInstChangeEpoch t n s) := by
  simp [execInstChangeEpoch]

theorem execResetDrainComplete_outside (t n) (s : State) : LeavesOutside
    { events := true, eventSeq := true, sent := true, heads := true, sheets := true, insts := true, surfs := true }
    (s.at t) (execResetDrainComplete t n s) := by
  simp [execResetDrainComplete]

theorem execFreezeComplete_outside (t n) (s : State) : LeavesOutside
    { events := true, eventSeq := true, sent := true, insts := true }
    (s.at t) (execFreezeComplete t n s) := by
  simp [execFreezeComplete]

theorem execSaveComplete_outside (t n) (s : State) : LeavesOutside
    { regs := true, sent := true, insts := true }
    (s.at t) (execSaveComplete t n s) := by
  unfold execSaveComplete
  dsimp only
  repeat' split
  all_goals simp

theorem execRestoreComplete_outside (t n) (s : State) : LeavesOutside
    { events := true, eventSeq := true, sent := true, safe := true, insts := true }
    (s.at t) (execRestoreComplete t n s) := by
  unfold execRestoreComplete
  dsimp only
  repeat' split
  all_goals simp

theorem execDoorbellTailWrite_outside (t n q v) (s : State) : LeavesOutside
    { regs := true, events := true, eventSeq := true, sent := true, insts := true, prot := true }
    (s.at t) (execDoorbellTailWrite t n q v s) := by
  simp [execDoorbellTailWrite]

theorem execDoorbellPageWrite_outside (t n o v) (s : State) : LeavesOutside
    { regs := true, events := true, eventSeq := true, sent := true, insts := true, prot := true }
    (s.at t) (execDoorbellPageWrite t n o v s) := by
  simp [execDoorbellPageWrite]

theorem execWorkOrderRead_outside (t n q x) (s : State) : LeavesOutside
    { regs := true, events := true, eventSeq := true, sent := true, insts := true, surfs := true }
    (s.at t) (execWorkOrderRead t n q x s) := by
  unfold execWorkOrderRead
  split <;> simp

theorem execNop_outside (t n id) (s : State) : LeavesOutside
    { regs := true, sent := true, insts := true }
    (s.at t) (execNop t n id s) := by
  unfold execNop
  dsimp only
  repeat' split
  all_goals simp

theorem execCopy_outside (t n id) (s : State) : LeavesOutside
    { regs := true, slots := true, progs := true, insts := true, dma := true }
    (s.at t) (execCopy t n id s) := by
  unfold execCopy
  dsimp only
  repeat' split
  all_goals simp

theorem execBadOp_outside (t n id) (s : State) : LeavesOutside
    { regs := true, sent := true, insts := true }
    (s.at t) (execBadOp t n id s) := by
  unfold execBadOp
  dsimp only
  repeat' split
  all_goals simp

theorem execAtsInvalidateRx_outside (t n page len) (s : State) : LeavesOutside
    { sent := true, atc := true }
    (s.at t) (execAtsInvalidateRx t n page len s) := by
  unfold execAtsInvalidateRx
  simp

theorem execCqHeadWrite_outside (t n v) (s : State) : LeavesOutside
    { regs := true, events := true, eventSeq := true, sent := true, insts := true, prot := true }
    (s.at t) (execCqHeadWrite t n v s) := by
  simp [execCqHeadWrite]

theorem execEvqRdWrite_outside (t n v) (s : State) : LeavesOutside
    { regs := true, events := true, eventSeq := true, sent := true, insts := true, prot := true }
    (s.at t) (execEvqRdWrite t n v s) := by
  simp [execEvqRdWrite]

theorem execVectorHoldExpire_outside (t n ev) (s : State) : LeavesOutside
    { sent := true, insts := true }
    (s.at t) (execVectorHoldExpire t n ev s) := by
  simp [execVectorHoldExpire]

theorem execVecMaskWrite_outside (t n m) (s : State) : LeavesOutside
    { regs := true, events := true, eventSeq := true, sent := true, insts := true, prot := true }
    (s.at t) (execVecMaskWrite t n m s) := by
  unfold execVecMaskWrite
  split <;> simp

theorem execTouchScanComplete_outside (t p nodes lines) (s : State) : LeavesOutside
    { regs := true, events := true, eventSeq := true, sent := true, insts := true, console := true }
    (s.at t) (execTouchScanComplete t p nodes lines s) := by
  unfold execTouchScanComplete
  dsimp only
  repeat' split
  all_goals simp

theorem execKeyGroupEnd_outside (t p raws) (s : State) : LeavesOutside
    { events := true, eventSeq := true, sent := true, insts := true, console := true }
    (s.at t) (execKeyGroupEnd t p raws s) := by
  unfold execKeyGroupEnd
  dsimp only
  repeat' split
  all_goals simp [outside_foldl]

theorem execTouchRebase_outside (t p) (s : State) : LeavesOutside { console := true } (s.at t) (execTouchRebase t p s) := by
  unfold execTouchRebase
  dsimp only
  repeat' split
  all_goals simp [outside_foldl]

theorem execHapPlay_outside (t v) (s : State) : LeavesOutside { console := true } (s.at t) (execHapPlay t v s) := by
  unfold execHapPlay
  simp

theorem execHapticWaveformStart_outside (t) (s : State) : LeavesOutside
    { regs := true, console := true }
    (s.at t) (execHapticWaveformStart t s) := by
  unfold execHapticWaveformStart
  generalize s.at t = u
  dsimp only
  repeat' split
  all_goals simp [↓outside_foldl]

theorem execHapticWaveformEnd_outside (t n) (s : State) : LeavesOutside
    { console := true }
    (s.at t) (execHapticWaveformEnd t n s) := by
  unfold execHapticWaveformEnd
  dsimp only
  repeat' split
  all_goals simp

theorem execAlarmSegmentEnd_outside (t) (s : State) : LeavesOutside
    { events := true, eventSeq := true, sent := true, insts := true, console := true }
    (s.at t) (execAlarmSegmentEnd t s) := by
  unfold execAlarmSegmentEnd
  dsimp only
  repeat' split
  all_goals simp

theorem execAlarmRequestActivate_outside (t) (s : State) : LeavesOutside
    { events := true, eventSeq := true, sent := true, insts := true, console := true }
    (s.at t) (execAlarmRequestActivate t s) := by
  unfold execAlarmRequestActivate
  generalize s.at t = u
  dsimp only
  simp [↓outside_foldl]

theorem execUsdoUpload_outside (t n idx sub) (s : State) : LeavesOutside
    { regs := true, sent := true, dict := true }
    (s.at t) (execUsdoUpload t n idx sub s) := by
  simp [execUsdoUpload]

theorem execUdpRead_outside (t m) (s : State) : LeavesOutside
    { regs := true, sent := true, dict := true }
    (s.at t) (execUdpRead t m s) := by
  have hu := State.udpAccept_outside { regs := true, sent := true, dict := true } (s.at t) m (by simp)
  unfold execUdpRead
  dsimp only
  split <;>
  · rename_i heq
    rw [heq] at hu
    simpa using hu

theorem execMbxRead_outside (t cmd) (s : State) : LeavesOutside
    { regs := true, sent := true, dict := true }
    (s.at t) (execMbxRead t cmd s) := by
  simp [execMbxRead]

theorem execSessionStageTimeout_outside (t k) (s : State) : LeavesOutside
    { dict := true }
    (s.at t) (execSessionStageTimeout t k s) := by
  simp [execSessionStageTimeout]

theorem execNmtStart_outside (t n) (s : State) : LeavesOutside { dict := true } (s.at t) (execNmtStart t n s) := by
  simp [execNmtStart]

theorem execNmtStop_outside (t n) (s : State) : LeavesOutside { dict := true } (s.at t) (execNmtStop t n s) := by
  simp [execNmtStop]

theorem execNmtResetCommunication_outside (t n) (s : State) : LeavesOutside
    { dict := true }
    (s.at t) (execNmtResetCommunication t n s) := by
  simp [execNmtResetCommunication]

theorem execNmtResetNode_outside (t n) (s : State) : LeavesOutside { dict := true } (s.at t) (execNmtResetNode t n s) := by
  simp [execNmtResetNode]

theorem execHeartbeatSend_outside (t n) (s : State) : LeavesOutside
    { sent := true, dict := true }
    (s.at t) (execHeartbeatSend t n s) := by
  simp [execHeartbeatSend]

theorem execTpdoTransmit_outside (t n k) (s : State) : LeavesOutside
    { sent := true, dict := true }
    (s.at t) (execTpdoTransmit t n k s) := by
  simp [execTpdoTransmit]

theorem execBusOffEntry_outside (t n) (s : State) : LeavesOutside
    { events := true, eventSeq := true, sent := true, insts := true, dict := true }
    (s.at t) (execBusOffEntry t n s) := by
  simp [execBusOffEntry]

theorem execBusOffRecovery_outside (t n) (s : State) : LeavesOutside
    { events := true, eventSeq := true, sent := true, insts := true, dict := true }
    (s.at t) (execBusOffRecovery t n s) := by
  simp [execBusOffRecovery]

theorem execLssSwitchStateSelective_outside (t n vendor product revision serial) (s : State) : LeavesOutside
    { sent := true, dict := true }
    (s.at t) (execLssSwitchStateSelective t n vendor product revision serial s) := by
  simp [execLssSwitchStateSelective]

theorem execLssConfigureNodeId_outside (t n id) (s : State) : LeavesOutside
    { sent := true, dict := true }
    (s.at t) (execLssConfigureNodeId t n id s) := by
  simp [execLssConfigureNodeId]

theorem execLssConfigureBitTiming_outside (t n nominal data) (s : State) : LeavesOutside
    { sent := true, dict := true }
    (s.at t) (execLssConfigureBitTiming t n nominal data s) := by
  simp [execLssConfigureBitTiming]

theorem execLssStoreConfiguration_outside (t n) (s : State) : LeavesOutside
    { sent := true, store := true }
    (s.at t) (execLssStoreConfiguration t n s) := by
  unfold execLssStoreConfiguration
  simp

theorem execStoreComplete_outside (t) (s : State) : LeavesOutside
    { dict := true, store := true }
    (s.at t) (execStoreComplete t s) := by
  unfold execStoreComplete
  dsimp only
  repeat' split
  all_goals simp

theorem execMpuRegionWrite_outside (t n j v) (s : State) : LeavesOutside
    { regs := true, events := true, eventSeq := true, sent := true, insts := true, prot := true }
    (s.at t) (execMpuRegionWrite t n j v s) := by
  simp [execMpuRegionWrite]

theorem execEvidenceScrub_outside (t g tags) (s : State) : LeavesOutside
    { regs := true, dram := true, ctxs := true, sheets := true, surfs := true, prot := true }
    (s.at t) (execEvidenceScrub t g tags s) := by
  unfold execEvidenceScrub
  generalize s.at t = u
  dsimp only
  repeat' split
  all_goals simp [↓outside_foldl]

theorem execPostedNoticeWindow_outside (t) (s : State) : LeavesOutside
    { regs := true, events := true, eventSeq := true, sent := true, insts := true, prot := true }
    (s.at t) (execPostedNoticeWindow t s) := by
  unfold execPostedNoticeWindow
  dsimp only
  simp [outside_foldl]

theorem execUpdBegin_outside (t) (s : State) : LeavesOutside { prot := true } (s.at t) (execUpdBegin t s) := by
  simp [execUpdBegin]

theorem execUpdAbort_outside (t k) (s : State) : LeavesOutside { prot := true } (s.at t) (execUpdAbort t k s) := by
  simp [execUpdAbort]

theorem execImageChunkRx_outside (t k data) (s : State) : LeavesOutside
    { regs := true, events := true, eventSeq := true, sent := true, insts := true, prot := true }
    (s.at t) (execImageChunkRx t k data s) := by
  simp [execImageChunkRx]

theorem execUpdateIdleTimeout_outside (t) (s : State) : LeavesOutside { prot := true } (s.at t) (execUpdateIdleTimeout t s) := by
  unfold execUpdateIdleTimeout
  dsimp only
  repeat' split
  all_goals simp

theorem execRomBoot_outside (t recoveryN provingEn okA okB) (s : State) : LeavesOutside
    { mode := true, events := true, eventSeq := true, sent := true, insts := true, prot := true }
    (s.at t) (execRomBoot t recoveryN provingEn okA okB s) := by
  unfold execRomBoot
  generalize s.at t = u
  extract_lets w m v enter r
  have henter : ∀ x : State, (enter x).outside { mode := true, events := true, eventSeq := true, sent := true, insts := true, prot := true } =
      x.outside { mode := true, events := true, eventSeq := true, sent := true, insts := true, prot := true } := fun x => by simp [enter]
  split
  · simp [w]
  · split
    · simp [henter, v, w]
    · have hr : r.1.outside { mode := true, events := true, eventSeq := true, sent := true, insts := true, prot := true } =
          u.outside { mode := true, events := true, eventSeq := true, sent := true, insts := true, prot := true } := by simp [r, v, w]
      clear_value r
      obtain ⟨x, b⟩ := r
      cases b with
      | none => simpa [henter] using hr
      | some b =>
        dsimp only at hr ⊢
        repeat' split
        all_goals simpa using hr

theorem execTrialConfirm_outside (t) (s : State) : LeavesOutside
    { events := true, eventSeq := true, sent := true, insts := true, prot := true }
    (s.at t) (execTrialConfirm t s) := by
  simp [execTrialConfirm]

theorem execSafeHoldApply_outside (t h) (s : State) : LeavesOutside { heads := true } (s.at t) (execSafeHoldApply t h s) := by
  unfold execSafeHoldApply
  dsimp only
  repeat' split
  all_goals simp

theorem execWatchdogKick_outside (t) (s : State) : LeavesOutside { mode := true } (s.at t) (execWatchdogKick t s) := by
  simp [execWatchdogKick]

theorem execWatchdogWarn_outside (t) (s : State) : LeavesOutside
    { mode := true, regs := true, events := true, eventSeq := true, sent := true, insts := true, prot := true }
    (s.at t) (execWatchdogWarn t s) := by
  unfold execWatchdogWarn
  simp

theorem execVddAonRise_outside (t) (s : State) : LeavesOutside { mode := true } (s.at t) (execVddAonRise t s) := by
  simp [execVddAonRise]

theorem execRailPgRise_outside (t n) (s : State) : LeavesOutside { mode := true } (s.at t) (execRailPgRise t n s) := by
  unfold execRailPgRise
  dsimp only
  repeat' split
  all_goals simp

theorem execRailPgTimeout_outside (t) (s : State) : LeavesOutside
    { mode := true, pair := true }
    (s.at t) (execRailPgTimeout t s) := by
  unfold execRailPgTimeout
  dsimp only
  repeat' split
  all_goals simp

theorem execRailPgLoss_outside (t n) (s : State) : LeavesOutside
    { mode := true, pair := true }
    (s.at t) (execRailPgLoss t n s) := by
  simp [execRailPgLoss]

theorem execThermalTrip_outside (t) (s : State) : LeavesOutside
    { mode := true, pair := true }
    (s.at t) (execThermalTrip t s) := by
  unfold execThermalTrip
  dsimp only
  repeat' split
  all_goals simp

theorem execRtcSet_outside (t) (s : State) : LeavesOutside { aon := true } (s.at t) (execRtcSet t s) := by
  simp [execRtcSet]

theorem execTokenRequest_outside (t h u) (s : State) : LeavesOutside
    { mode := true, regs := true, cores := true, slots := true, progs := true, engines := true, recCores := true }
    (s.at t) (execTokenRequest t h u s) := by
  unfold execTokenRequest
  split <;> simp

theorem execEngineClockGate_outside (t h u) (s : State) : LeavesOutside
    { cores := true, engines := true, recCores := true }
    (s.at t) (execEngineClockGate t h u s) := by
  simp [execEngineClockGate]

theorem execPmcSelWrite_outside (t u n v) (s : State) : LeavesOutside
    { regs := true, slots := true, progs := true }
    (s.at t) (execPmcSelWrite t u n v s) := by
  unfold execPmcSelWrite
  simp

theorem execTallyStop_outside (t) (s : State) : LeavesOutside
    { regs := true, adm := true, prot := true }
    (s.at t) (execTallyStop t s) := by
  unfold execTallyStop
  simp

theorem execHealthReport_outside (t temp ce) (s : State) : LeavesOutside
    { events := true, eventSeq := true, sent := true, lanes := true, insts := true, pair := true, prot := true }
    (s.at t) (execHealthReport t temp ce s) := by
  simp [execHealthReport]

theorem execInjectorArm_outside (t n v) (s : State) : LeavesOutside
    { regs := true, prov := true }
    (s.at t) (execInjectorArm t n v s) := by
  simp [execInjectorArm]

theorem execProvLogPop_outside (t) (s : State) : LeavesOutside
    { readData := true, prov := true }
    (s.at t) (execProvLogPop t s) := by
  unfold execProvLogPop
  dsimp only
  repeat' split
  all_goals simp

theorem execUsdoProtocolTimeout_outside (t n) (s : State) : LeavesOutside
    { regs := true, sent := true, dict := true }
    (s.at t) (execUsdoProtocolTimeout t n s) := by
  unfold execUsdoProtocolTimeout
  dsimp only
  repeat' split
  all_goals simp

theorem execSelftestStarved_outside (t u) (s : State) : LeavesOutside
    { events := true, eventSeq := true, sent := true, insts := true, prot := true }
    (s.at t) (execSelftestStarved t u s) := by
  simp [execSelftestStarved]

theorem execAudioFrame_outside (t ins) (s : State) : LeavesOutside
    { regs := true, console := true }
    (s.at t) (execAudioFrame t ins s) := by
  simp [execAudioFrame]

theorem execBar4Access_outside (t o write n data) (s : State) : LeavesOutside
    { regs := true, readData := true, dram := true, events := true, eventSeq := true, sent := true, insts := true,
      prot := true }
    (s.at t) (execBar4Access t o write n data s) := by
  unfold execBar4Access
  dsimp only
  repeat' split
  all_goals simp

theorem execRegisterReadClear_outside (t a) (s : State) : LeavesOutside
    { mode := true, regs := true, latches := true, readData := true, lanes := true, slots := true, progs := true,
      insts := true, glb := true, prot := true }
    (s.at t) (execRegisterReadClear t a s) := by
  unfold execRegisterReadClear
  split <;> simp

theorem execLatch_outside (t h phase bad) (s : State) : LeavesOutside
    { regs := true, events := true, eventSeq := true, sent := true, ctxs := true, progs := true, heads := true,
      sheets := true, win := true, insts := true, surfs := true, pair := true }
    (s.at t) (execLatch t h phase bad s) := by
  simp [execLatch]

theorem execGenerationSwitch_outside (t c) (s : State) : LeavesOutside
    { regs := true, events := true, eventSeq := true, sent := true, ctxs := true, heads := true, sheets := true,
      win := true, insts := true, surfs := true }
    (s.at t) (execGenerationSwitch t c s) := by
  unfold execGenerationSwitch
  split <;> simp

theorem execGenShadowCopyComplete_outside (t) (s : State) : LeavesOutside
    { regs := true, events := true, eventSeq := true, sent := true, ctxs := true, heads := true, sheets := true,
      win := true, insts := true, surfs := true }
    (s.at t) (execGenShadowCopyComplete t s) := by
  unfold execGenShadowCopyComplete
  dsimp only
  repeat' split
  all_goals simp

theorem execTallyEdge_outside (t) (s : State) : LeavesOutside
    { regs := true, dram := true, events := true, eventSeq := true, sent := true, slots := true, progs := true,
      insts := true, prot := true }
    (s.at t) (execTallyEdge t s) := by
  unfold execTallyEdge
  dsimp only
  repeat' split
  all_goals simp [outside_foldl]

theorem execTimeAdjCommit_outside (t hi) (s : State) : LeavesOutside
    { time := true, mode := true, regs := true, events := true, eventSeq := true, sent := true, chans := true,
      ctxs := true, cruiseLast := true, cores := true, slots := true, progs := true, heads := true, sheets := true,
      engines := true, insts := true, surfs := true, recs := true, recCores := true, prot := true }
    (s.at t) (execTimeAdjCommit t hi s) := by
  simp [execTimeAdjCommit]

theorem execPtpMessageRx_outside (t port domain msg) (s : State) : LeavesOutside
    { time := true, mode := true, regs := true, events := true, eventSeq := true, sent := true, chans := true,
      ctxs := true, cruiseLast := true, cores := true, slots := true, progs := true, heads := true, sheets := true,
      engines := true, insts := true, surfs := true, recs := true, recCores := true, prot := true }
    (s.at t) (execPtpMessageRx t port domain msg s) := by
  unfold execPtpMessageRx
  dsimp only
  repeat' split
  all_goals simp

theorem execDomainLost_outside (t d) (s : State) : LeavesOutside
    { time := true, mode := true, regs := true, events := true, eventSeq := true, sent := true, chans := true,
      ctxs := true, cruiseLast := true, cores := true, slots := true, progs := true, heads := true, sheets := true,
      engines := true, insts := true, surfs := true, recs := true, recCores := true, prot := true }
    (s.at t) (execDomainLost t d s) := by
  simp [execDomainLost]

theorem execDomainRevert_outside (t) (s : State) : LeavesOutside
    { time := true, mode := true, regs := true, events := true, eventSeq := true, sent := true, chans := true,
      ctxs := true, cruiseLast := true, cores := true, slots := true, progs := true, heads := true, sheets := true,
      engines := true, insts := true, surfs := true, recs := true, recCores := true, prot := true }
    (s.at t) (execDomainRevert t s) := by
  unfold execDomainRevert
  dsimp only
  repeat' split
  all_goals simp

theorem execSheetEpoch_outside (t n) (s : State) : LeavesOutside
    { mode := true, regs := true, events := true, eventSeq := true, sent := true, chans := true, ctxs := true,
      slots := true, progs := true, heads := true, sheets := true, engines := true, win := true, insts := true,
      surfs := true, prot := true }
    (s.at t) (execSheetEpoch t n s) := by
  have hsettle : ∀ (M : Mask) (x : State) (src : Source), M.regs ∧ M.ctxs ∧ M.sheets ∧ M.surfs →
      ((x.sourceFrames src).foldl (fun y r => y.settlePending src r) x).outside M = x.outside M :=
    fun M x src hM => outside_foldl M _ (fun _ _ => by simp [hM]) _ _
  unfold execSheetEpoch
  generalize s.at t = u
  dsimp only
  repeat' split
  · rw [leavesOutside_next, outside_foldl _ _ fun _ _ => hsettle _ _ _ (by simp)]
    simp
  · simp
  · simp

theorem execSheetTileComplete_outside (t e stalls rd wr) (s : State) : LeavesOutside
    { mode := true, regs := true, events := true, eventSeq := true, sent := true, chans := true, ctxs := true,
      slots := true, progs := true, sheets := true, engines := true, insts := true, surfs := true, prot := true }
    (s.at t) (execSheetTileComplete t e stalls rd wr s) := by
  unfold execSheetTileComplete
  dsimp only
  repeat' split
  all_goals simp [outside_foldl]

theorem execSheetPageFault_outside (t u) (s : State) : LeavesOutside
    { mode := true, regs := true, events := true, eventSeq := true, sent := true, chans := true, ctxs := true,
      slots := true, progs := true, sheets := true, engines := true, insts := true, surfs := true, prot := true }
    (s.at t) (execSheetPageFault t u s) := by
  unfold execSheetPageFault
  dsimp only
  repeat' split
  all_goals simp

theorem execSheetFaultResume_outside (t n) (s : State) : LeavesOutside
    { mode := true, regs := true, events := true, eventSeq := true, sent := true, chans := true, ctxs := true,
      slots := true, progs := true, sheets := true, engines := true, insts := true, surfs := true, prot := true }
    (s.at t) (execSheetFaultResume t n s) := by
  unfold execSheetFaultResume
  dsimp only
  repeat' split
  all_goals simp

theorem execAuDeadline_outside (t n) (s : State) : LeavesOutside
    { mode := true, regs := true, events := true, eventSeq := true, sent := true, chans := true, ctxs := true,
      lanes := true, cores := true, slots := true, progs := true, sheets := true, insts := true, surfs := true,
      pair := true }
    (s.at t) (execAuDeadline t n s) := by
  unfold execAuDeadline
  dsimp only
  repeat' split
  all_goals simp

theorem execContextRetry_outside (t n) (s : State) : LeavesOutside
    { regs := true, events := true, eventSeq := true, sent := true, chans := true, ctxs := true, sheets := true,
      insts := true, surfs := true }
    (s.at t) (execContextRetry t n s) := by
  unfold execContextRetry
  dsimp only
  repeat' split
  all_goals simp

theorem execCruiseSweep_outside (t) (s : State) : LeavesOutside
    { regs := true, events := true, eventSeq := true, sent := true, lanes := true, cruiseSeq := true,
      cruiseLast := true, insts := true }
    (s.at t) (execCruiseSweep t s) := by
  unfold execCruiseSweep
  generalize s.at t = u
  dsimp only
  repeat' split
  all_goals simp [↓outside_foldl]

theorem execLaneTrainTimeout_outside (t l) (s : State) : LeavesOutside
    { mode := true, regs := true, events := true, eventSeq := true, sent := true, chans := true, ctxs := true,
      lanes := true, cores := true, slots := true, progs := true, sheets := true, insts := true, surfs := true,
      pair := true, prov := true, prot := true }
    (s.at t) (execLaneTrainTimeout t l s) := by
  unfold execLaneTrainTimeout
  dsimp only
  repeat' split
  all_goals simp [outside_foldl]

theorem execLaneSlip_outside (t l full) (s : State) : LeavesOutside
    { mode := true, regs := true, events := true, eventSeq := true, sent := true, chans := true, ctxs := true,
      lanes := true, cores := true, slots := true, progs := true, sheets := true, insts := true, surfs := true,
      pair := true, prot := true }
    (s.at t) (execLaneSlip t l full s) := by
  simp [execLaneSlip]

theorem execLaneAlignLoss_outside (t l errs aln) (s : State) : LeavesOutside
    { mode := true, regs := true, events := true, eventSeq := true, sent := true, chans := true, ctxs := true,
      lanes := true, cores := true, slots := true, progs := true, sheets := true, insts := true, surfs := true,
      pair := true, prov := true, prot := true }
    (s.at t) (execLaneAlignLoss t l errs aln s) := by
  simp [execLaneAlignLoss]

theorem execCaptureFrameTimeout_outside (t n) (s : State) : LeavesOutside
    { mode := true, regs := true, events := true, eventSeq := true, sent := true, chans := true, ctxs := true,
      lanes := true, cores := true, slots := true, progs := true, sheets := true, insts := true, surfs := true,
      pair := true, prot := true }
    (s.at t) (execCaptureFrameTimeout t n s) := by
  unfold execCaptureFrameTimeout
  dsimp only
  repeat' split
  all_goals simp

theorem execFastIdleExit_outside (t l tx aligned) (s : State) : LeavesOutside
    { mode := true, regs := true, events := true, eventSeq := true, sent := true, chans := true, ctxs := true,
      lanes := true, cores := true, slots := true, progs := true, sheets := true, insts := true, surfs := true,
      pair := true, prot := true }
    (s.at t) (execFastIdleExit t l tx aligned s) := by
  unfold execFastIdleExit
  dsimp only
  repeat' split
  all_goals simp [outside_foldl]

theorem execDeepWakeTimeout_outside (t l) (s : State) : LeavesOutside
    { mode := true, regs := true, events := true, eventSeq := true, sent := true, chans := true, ctxs := true,
      lanes := true, cores := true, slots := true, progs := true, sheets := true, insts := true, surfs := true,
      pair := true, prot := true }
    (s.at t) (execDeepWakeTimeout t l s) := by
  simp [execDeepWakeTimeout]

theorem execDecodeJobStart_outside (t n part start dpb) (s : State) : LeavesOutside
    { mode := true, regs := true, events := true, eventSeq := true, sent := true, chans := true, ctxs := true,
      lanes := true, cores := true, slots := true, progs := true, sheets := true, insts := true, surfs := true,
      pair := true, prot := true }
    (s.at t) (execDecodeJobStart t n part start dpb s) := by
  unfold execDecodeJobStart
  dsimp only
  repeat' split
  all_goals simp

theorem execDecodeRowComplete_outside (t k d) (s : State) : LeavesOutside
    { mode := true, regs := true, events := true, eventSeq := true, sent := true, chans := true, ctxs := true,
      cores := true, slots := true, progs := true, sheets := true, insts := true, surfs := true, pair := true,
      prot := true }
    (s.at t) (execDecodeRowComplete t k d s) := by
  unfold execDecodeRowComplete
  dsimp only
  repeat' split
  all_goals simp

theorem execDecodePageFault_outside (t u) (s : State) : LeavesOutside
    { mode := true, regs := true, events := true, eventSeq := true, sent := true, ctxs := true, cores := true,
      slots := true, progs := true, sheets := true, insts := true, surfs := true, prot := true }
    (s.at t) (execDecodePageFault t u s) := by
  unfold execDecodePageFault
  dsimp only
  repeat' split
  all_goals simp

theorem execDecodePoolTimeout_outside (t n) (s : State) : LeavesOutside
    { mode := true, regs := true, events := true, eventSeq := true, sent := true, chans := true, ctxs := true,
      lanes := true, cores := true, slots := true, progs := true, sheets := true, insts := true, surfs := true,
      pair := true }
    (s.at t) (execDecodePoolTimeout t n s) := by
  unfold execDecodePoolTimeout
  dsimp only
  repeat' split
  all_goals simp

theorem execReadyDrivenLatch_outside (t h line bad) (s : State) : LeavesOutside
    { regs := true, events := true, eventSeq := true, sent := true, ctxs := true, progs := true, heads := true,
      sheets := true, win := true, insts := true, surfs := true, pair := true }
    (s.at t) (execReadyDrivenLatch t h line bad s) := by
  simp [execReadyDrivenLatch]

theorem execForcedLatch_outside (t h bad) (s : State) : LeavesOutside
    { regs := true, events := true, eventSeq := true, sent := true, ctxs := true, progs := true, heads := true,
      sheets := true, insts := true, surfs := true, pair := true }
    (s.at t) (execForcedLatch t h bad s) := by
  simp [execForcedLatch]

theorem execScanoutStart_outside (t h late) (s : State) : LeavesOutside
    { regs := true, events := true, eventSeq := true, sent := true, ctxs := true, heads := true, sheets := true,
      insts := true, surfs := true, recs := true }
    (s.at t) (execScanoutStart t h late s) := by
  simp [execScanoutStart]

theorem execSignatureBlockSend_outside (t h fetched latent) (s : State) : LeavesOutside
    { regs := true, events := true, eventSeq := true, sent := true, lanes := true, progs := true, heads := true,
      insts := true, pair := true }
    (s.at t) (execSignatureBlockSend t h fetched latent s) := by
  unfold execSignatureBlockSend
  dsimp only
  repeat' split
  all_goals simp

theorem execPrefetchStart_outside (t h w p) (s : State) : LeavesOutside
    { regs := true, events := true, eventSeq := true, sent := true, progs := true, heads := true, insts := true,
      prot := true }
    (s.at t) (execPrefetchStart t h w p s) := by
  unfold execPrefetchStart
  dsimp only
  repeat' split
  all_goals simp

theorem execUnderrunPixel_outside (t h pipe x y fault) (s : State) : LeavesOutside
    { regs := true, events := true, eventSeq := true, sent := true, progs := true, heads := true, insts := true,
      recs := true, prot := true }
    (s.at t) (execUnderrunPixel t h pipe x y fault s) := by
  unfold execUnderrunPixel
  split <;> simp

theorem execHeadRasterStart_outside (t h) (s : State) : LeavesOutside
    { mode := true, regs := true, events := true, eventSeq := true, sent := true, slots := true, progs := true,
      heads := true, insts := true, console := true }
    (s.at t) (execHeadRasterStart t h s) := by
  simp [execHeadRasterStart]

theorem execHeadRasterStop_outside (t h) (s : State) : LeavesOutside
    { mode := true, regs := true, events := true, eventSeq := true, sent := true, ctxs := true, slots := true,
      progs := true, heads := true, sheets := true, win := true, insts := true, surfs := true, console := true }
    (s.at t) (execHeadRasterStop t h s) := by
  unfold execHeadRasterStop
  dsimp only
  repeat' split
  all_goals simp

theorem execRecRowComplete_outside (t k coded filler stalls wasted rd wr body) (s : State) : LeavesOutside
    { mode := true, regs := true, dram := true, events := true, eventSeq := true, sent := true, slots := true,
      progs := true, insts := true, recs := true, recCores := true }
    (s.at t) (execRecRowComplete t k coded filler stalls wasted rd wr body s) := by
  unfold execRecRowComplete
  dsimp only
  repeat' split
  all_goals simp

theorem execRecPageFault_outside (t u) (s : State) : LeavesOutside
    { mode := true, regs := true, events := true, eventSeq := true, sent := true, slots := true, progs := true,
      insts := true, recs := true, recCores := true, prot := true }
    (s.at t) (execRecPageFault t u s) := by
  unfold execRecPageFault
  dsimp only
  repeat' split
  all_goals simp

theorem execFillTimeout_outside (t c) (s : State) : LeavesOutside
    { mode := true, regs := true, events := true, eventSeq := true, sent := true, chans := true, ctxs := true,
      lanes := true, cores := true, slots := true, progs := true, sheets := true, insts := true, surfs := true,
      pair := true }
    (s.at t) (execFillTimeout t c s) := by
  unfold execFillTimeout
  dsimp only
  repeat' split
  all_goals simp

theorem execTakeoverEpoch_outside (t) (s : State) : LeavesOutside
    { regs := true, events := true, eventSeq := true, sent := true, ctxs := true, lanes := true, insts := true,
      pair := true }
    (s.at t) (execTakeoverEpoch t s) := by
  unfold execTakeoverEpoch
  dsimp only
  repeat' split
  all_goals simp

theorem execTakeoverSwitch_outside (t) (s : State) : LeavesOutside
    { mode := true, regs := true, events := true, eventSeq := true, sent := true, slots := true, progs := true,
      insts := true, recs := true, recCores := true, pair := true, prot := true }
    (s.at t) (execTakeoverSwitch t s) := by
  unfold execTakeoverSwitch
  dsimp only
  repeat' split
  all_goals simp

theorem execFunctionLevelReset_outside (t) (s : State) : LeavesOutside
    { regs := true, events := true, eventSeq := true, sent := true, chans := true, ctxs := true, lanes := true,
      slots := true, progs := true, sheets := true, insts := true, surfs := true, dma := true, pair := true,
      glb := true, adm := true, dict := true, prot := true }
    (s.at t) (execFunctionLevelReset t s) := by
  simp [execFunctionLevelReset]

theorem execPcieLinkDown_outside (t) (s : State) : LeavesOutside
    { regs := true, events := true, eventSeq := true, sent := true, chans := true, ctxs := true, lanes := true,
      slots := true, progs := true, sheets := true, insts := true, surfs := true, dma := true, pair := true,
      glb := true, adm := true, dict := true, prot := true }
    (s.at t) (execPcieLinkDown t s) := by
  simp [execPcieLinkDown]

theorem execD3hotEntry_outside (t) (s : State) : LeavesOutside
    { regs := true, events := true, eventSeq := true, sent := true, chans := true, ctxs := true, lanes := true,
      slots := true, progs := true, sheets := true, insts := true, surfs := true, dma := true, pair := true,
      glb := true, adm := true, dict := true, prot := true }
    (s.at t) (execD3hotEntry t s) := by
  simp [execD3hotEntry]

theorem execInstDrainTimeout_outside (t n) (s : State) : LeavesOutside
    { regs := true, events := true, eventSeq := true, sent := true, chans := true, ctxs := true, lanes := true,
      slots := true, progs := true, sheets := true, insts := true, surfs := true, dma := true, pair := true,
      adm := true, prot := true }
    (s.at t) (execInstDrainTimeout t n s) := by
  simp [execInstDrainTimeout]

theorem execSurfCommit_outside (t n id) (s : State) : LeavesOutside
    { regs := true, events := true, eventSeq := true, sent := true, chans := true, ctxs := true, lanes := true,
      slots := true, progs := true, sheets := true, insts := true, surfs := true, dma := true, pair := true,
      prot := true }
    (s.at t) (execSurfCommit t n id s) := by
  unfold execSurfCommit
  dsimp only
  repeat' split
  all_goals simp

theorem execSurfCommitBufferAcquire_outside (t n id) (s : State) : LeavesOutside
    { regs := true, events := true, eventSeq := true, sent := true, chans := true, ctxs := true, lanes := true,
      slots := true, progs := true, sheets := true, insts := true, surfs := true, dma := true, pair := true,
      prot := true }
    (s.at t) (execSurfCommitBufferAcquire t n id s) := by
  unfold execSurfCommitBufferAcquire
  dsimp only
  repeat' split
  all_goals simp

theorem execDmaBlockComplete_outside (t b stalls rd wr) (s : State) : LeavesOutside
    { regs := true, dram := true, events := true, eventSeq := true, sent := true, chans := true, ctxs := true,
      lanes := true, slots := true, progs := true, sheets := true, insts := true, surfs := true, dma := true,
      atc := true, pair := true, prot := true }
    (s.at t) (execDmaBlockComplete t b stalls rd wr s) := by
  unfold execDmaBlockComplete
  dsimp only
  repeat' split
  all_goals simp

theorem execPriResponseRx_outside (t n g ok) (s : State) : LeavesOutside
    { regs := true, events := true, eventSeq := true, sent := true, chans := true, ctxs := true, lanes := true,
      slots := true, progs := true, sheets := true, insts := true, surfs := true, dma := true, pair := true,
      prot := true }
    (s.at t) (execPriResponseRx t n g ok s) := by
  unfold execPriResponseRx
  dsimp only
  repeat' split
  all_goals simp

theorem execPriTimeout_outside (t n g) (s : State) : LeavesOutside
    { regs := true, events := true, eventSeq := true, sent := true, chans := true, ctxs := true, lanes := true,
      slots := true, progs := true, sheets := true, insts := true, surfs := true, dma := true, pair := true,
      prot := true }
    (s.at t) (execPriTimeout t n g s) := by
  unfold execPriTimeout
  dsimp only
  repeat' split
  all_goals simp

@[simp ↓] theorem State.debugProbed_outside (M : Mask) (s : State)
    (hM : M.aon ∧ M.regs ∧ M.events ∧ M.eventSeq ∧ M.sent ∧ M.insts) : s.debugProbed.outside M = s.outside M := by
  simp [State.debugProbed, hM]

@[simp ↓] theorem State.safePut_outside (M : Mask) (s : State) (o : Nat) (b : Byte) (hM : M.safe) :
    (s.safePut o b).outside M = s.outside M := by
  simp [State.safePut, hM]

@[simp ↓] theorem State.devicePut_outside (M : Mask) (s : State) (a : Nat) (b : Byte) (hM : M.dram ∧ M.win ∧ M.safe) :
    (State.devicePut s a b).outside M = s.outside M := by
  simp [State.devicePut, hM]

/-- A debug access outside the registers' space. -/
theorem State.debugLet_outside (M : Mask) (s : State) (write : Bool) (a n : Nat) (data : List (BitVec 8))
    (ha : a < 0x10000000 ∨ 0x14000000 ≤ a) (hM : M.dram ∧ M.win ∧ M.safe ∧ M.readData) :
    (s.debugLet write a n data).outside M = s.outside M := by
  unfold State.debugLet
  rw [if_neg (by omega)]
  split
  · exact outside_foldl M _ (fun _ _ => by simp [hM]) _ _
  · simp [hM]

theorem execDebugAccess_outside (t write target n data) (s : State) (h : ∀ a : Nat, target = .mem a → a < 0x10000000 ∨ 0x14000000 ≤ a) :
    LeavesOutside
    { aon := true, regs := true, readData := true, dram := true, events := true, eventSeq := true, win := true, safe := true,
      sent := true, insts := true, prot := true }
    (s.at t) (execDebugAccess t write target n data s) := by
  unfold execDebugAccess
  generalize s.at t = u
  cases target with
  | keyStore => simp
  | mem a =>
    dsimp only
    split
    · simp
    · rw [leavesOutside_next]
      exact State.debugLet_outside _ _ _ _ _ _ (h a rfl) (by simp)

theorem execTokenSlot_outside (t) (s : State) : LeavesOutside
    { mode := true, regs := true, events := true, eventSeq := true, sent := true, chans := true, ctxs := true,
      lanes := true, slots := true, progs := true, sheets := true, engines := true, insts := true, surfs := true,
      prot := true }
    (s.at t) (execTokenSlot t s) := by
  unfold execTokenSlot
  dsimp only
  repeat' split
  all_goals simp

theorem execMarginScanStart_outside (t) (s : State) : LeavesOutside
    { mode := true, regs := true, events := true, eventSeq := true, sent := true, chans := true, ctxs := true,
      lanes := true, cores := true, slots := true, progs := true, sheets := true, insts := true, surfs := true,
      pair := true, prov := true, prot := true }
    (s.at t) (execMarginScanStart t s) := by
  simp [execMarginScanStart]

theorem execMarginScanAbort_outside (t) (s : State) : LeavesOutside
    { mode := true, regs := true, events := true, eventSeq := true, sent := true, chans := true, ctxs := true,
      lanes := true, cores := true, slots := true, progs := true, sheets := true, insts := true, surfs := true,
      pair := true, prov := true, prot := true }
    (s.at t) (execMarginScanAbort t s) := by
  simp [execMarginScanAbort]

theorem execScanDwellEnd_outside (t errs) (s : State) : LeavesOutside
    { mode := true, regs := true, events := true, eventSeq := true, sent := true, chans := true, ctxs := true,
      lanes := true, cores := true, slots := true, progs := true, sheets := true, insts := true, surfs := true,
      pair := true, prov := true, prot := true }
    (s.at t) (execScanDwellEnd t errs s) := by
  unfold execScanDwellEnd
  dsimp only
  repeat' split
  all_goals simp

theorem execShadowRestoreComplete_outside (t) (s : State) : LeavesOutside
    { regs := true, events := true, eventSeq := true, sent := true, ctxs := true, heads := true, sheets := true,
      win := true, insts := true, surfs := true }
    (s.at t) (execShadowRestoreComplete t s) := by
  unfold execShadowRestoreComplete
  dsimp only
  repeat' split
  all_goals simp

/-- Settles O10: each clause is the frame of its command. -/
theorem commandsLeaveOtherUnits : Obligations.CommandsLeaveOtherUnits := fun t s =>
  ⟨(execBlobApply_outside t s).eq,
    fun v => (execApertureBaseWrite_outside t v s).eq,
    (execApertureBaseSwitch_outside t s).eq,
    fun o write => (execBar0StrayAccess_outside t o write s).eq,
    fun c => (execFrameRelease_outside t c s).eq,
    fun h => (execPairComparison_outside t h s).eq,
    fun p => (execTouchScanStart_outside t p s).eq,
    fun v => (execTimeRateWrite_outside t v s).eq,
    (execServoHold_outside t s).eq,
    (execServoRelease_outside t s).eq,
    fun v => (execTimeSnapshot_outside t v s).eq,
    fun port d seq tag => (execDelayReqSend_outside t port d seq tag s).eq,
    (execSlewComplete_outside t s).eq,
    (execTraceTolReached_outside t s).eq,
    (execHoldoverExpire_outside t s).eq,
    fun port => (execTxqPop_outside t port s).eq,
    fun n hi => (execLtbEpochCommit_outside t n hi s).eq,
    fun n hi => (execTtoArm_outside t n hi s).eq,
    fun n v => (execTtoCtrlWrite_outside t n v s).eq,
    fun n => (execTtoEdge_outside t n s).eq,
    (execPpsOutEdge_outside t s).eq,
    fun n rising => (execTciEdge_outside t n rising s).eq,
    fun n => (execTciStampPop_outside t n s).eq,
    fun r => (execExpirySweepVisit_outside t r s).eq,
    (execMembershipReportSend_outside t s).eq,
    fun n p => (execPathDownTimeout_outside t n p s).eq,
    fun ch => (execChannelSilence_outside t ch s).eq,
    fun n ntp rtp => (execRtcpSrRx_outside t n ntp rtp s).eq,
    fun n => (execSrAgeExpire_outside t n s).eq,
    fun b => (execLaneTrainComplete_outside t b s).eq,
    (execLuskoTimeSend_outside t s).eq,
    fun l tx => (execFastIdleEntry_outside t l tx s).eq,
    fun l => (execDeepOffRequest_outside t l s).eq,
    fun l => (execDeepWakeRequest_outside t l s).eq,
    fun l ns => (execSquelchActivity_outside t l ns s).eq,
    fun l => (execLaneWakeAligned_outside t l s).eq,
    fun n part => (execDecodeFaultResume_outside t n part s).eq,
    (execWinGenOpen_outside t s).eq,
    (execWinGenAbandon_outside t s).eq,
    fun g w1 k v => (execWindowDescriptorWrite_outside t g w1 k v s).eq,
    fun u b => (execCoefOpen_outside t u b s).eq,
    fun u b => (execCoefSeal_outside t u b s).eq,
    fun u b k v => (execCoefWrite_outside t u b k v s).eq,
    fun h v => (execBgColorWrite_outside t h v s).eq,
    fun h => (execSafelightApply_outside t h s).eq,
    (execGlyphCrcRefresh_outside t s).eq,
    fun h pipe lines spans => (execFetchLevelChange_outside t h pipe lines spans s).eq,
    fun h r => (execHpdPresent_outside t h r s).eq,
    fun h => (execHpdGone_outside t h s).eq,
    fun h ok => (execIrqHpd_outside t h ok s).eq,
    fun h => (execLinkTrainingAttempt_outside t h s).eq,
    fun h ok => (execLinkTrainingDone_outside t h ok s).eq,
    fun h => (execLinkRetry_outside t h s).eq,
    fun r part => (execRecPictureStart_outside t r part s).eq,
    fun r part => (execRecFaultResume_outside t r part s).eq,
    fun r hi => (execBsRdWrite_outside t r hi s).eq,
    fun r packets bytes => (execRecRtpTransmit_outside t r packets bytes s).eq,
    (execPairActInLost_outside t s).eq,
    (execJoinRetry_outside t s).eq,
    (execJoinEpoch_outside t s).eq,
    (execJoinMaxExpire_outside t s).eq,
    (execPairSyncSend_outside t s).eq,
    (execPairSkewTimeout_outside t s).eq,
    (execFillRetentionExpire_outside t s).eq,
    (execAttributionDecide_outside t s).eq,
    fun n => (execInstChangeEpoch_outside t n s).eq,
    fun n => (execResetDrainComplete_outside t n s).eq,
    fun n => (execFreezeComplete_outside t n s).eq,
    fun n => (execSaveComplete_outside t n s).eq,
    fun n => (execRestoreComplete_outside t n s).eq,
    fun n q v => (execDoorbellTailWrite_outside t n q v s).eq,
    fun n o v => (execDoorbellPageWrite_outside t n o v s).eq,
    fun n q x => (execWorkOrderRead_outside t n q x s).eq,
    fun n id => (execNop_outside t n id s).eq,
    fun n id => (execCopy_outside t n id s).eq,
    fun n id => (execBadOp_outside t n id s).eq,
    fun n page len => (execAtsInvalidateRx_outside t n page len s).eq,
    fun n v => (execCqHeadWrite_outside t n v s).eq,
    fun n v => (execEvqRdWrite_outside t n v s).eq,
    fun n ev => (execVectorHoldExpire_outside t n ev s).eq,
    fun n m => (execVecMaskWrite_outside t n m s).eq,
    fun p nodes lines => (execTouchScanComplete_outside t p nodes lines s).eq,
    fun p raws => (execKeyGroupEnd_outside t p raws s).eq,
    fun p => (execTouchRebase_outside t p s).eq,
    fun v => (execHapPlay_outside t v s).eq,
    (execHapticWaveformStart_outside t s).eq,
    fun n => (execHapticWaveformEnd_outside t n s).eq,
    (execAlarmSegmentEnd_outside t s).eq,
    (execAlarmRequestActivate_outside t s).eq,
    fun n idx sub => (execUsdoUpload_outside t n idx sub s).eq,
    fun m => (execUdpRead_outside t m s).eq,
    fun cmd => (execMbxRead_outside t cmd s).eq,
    fun k => (execSessionStageTimeout_outside t k s).eq,
    fun n => (execNmtStart_outside t n s).eq,
    fun n => (execNmtStop_outside t n s).eq,
    fun n => (execNmtResetCommunication_outside t n s).eq,
    fun n => (execNmtResetNode_outside t n s).eq,
    fun n => (execHeartbeatSend_outside t n s).eq,
    fun n k => (execTpdoTransmit_outside t n k s).eq,
    fun n => (execBusOffEntry_outside t n s).eq,
    fun n => (execBusOffRecovery_outside t n s).eq,
    fun n vendor product revision serial => (execLssSwitchStateSelective_outside t n vendor product revision serial s).eq,
    fun n id => (execLssConfigureNodeId_outside t n id s).eq,
    fun n nominal data => (execLssConfigureBitTiming_outside t n nominal data s).eq,
    fun n => (execLssStoreConfiguration_outside t n s).eq,
    (execStoreComplete_outside t s).eq,
    fun n j v => (execMpuRegionWrite_outside t n j v s).eq,
    fun g tags => (execEvidenceScrub_outside t g tags s).eq,
    (execPostedNoticeWindow_outside t s).eq,
    (execUpdBegin_outside t s).eq,
    fun k => (execUpdAbort_outside t k s).eq,
    fun k data => (execImageChunkRx_outside t k data s).eq,
    (execUpdateIdleTimeout_outside t s).eq,
    fun recoveryN provingEn okA okB => (execRomBoot_outside t recoveryN provingEn okA okB s).eq,
    (execTrialConfirm_outside t s).eq,
    fun h => (execSafeHoldApply_outside t h s).eq,
    (execWatchdogKick_outside t s).eq,
    (execWatchdogWarn_outside t s).eq,
    (execVddAonRise_outside t s).eq,
    fun n => (execRailPgRise_outside t n s).eq,
    (execRailPgTimeout_outside t s).eq,
    fun n => (execRailPgLoss_outside t n s).eq,
    (execThermalTrip_outside t s).eq,
    (execRtcSet_outside t s).eq,
    fun h u => (execTokenRequest_outside t h u s).eq,
    fun h u => (execEngineClockGate_outside t h u s).eq,
    fun u n v => (execPmcSelWrite_outside t u n v s).eq,
    (execTallyStop_outside t s).eq,
    fun temp ce => (execHealthReport_outside t temp ce s).eq,
    fun n v => (execInjectorArm_outside t n v s).eq,
    (execProvLogPop_outside t s).eq,
    fun n => (execUsdoProtocolTimeout_outside t n s).eq,
    fun u => (execSelftestStarved_outside t u s).eq,
    fun ins => (execAudioFrame_outside t ins s).eq⟩

/-- Settles O11: as for the narrower commands; a debug access outside the registers writes memory alone. -/
theorem wideCommandsLeaveOtherUnits : Obligations.WideCommandsLeaveOtherUnits := fun t s =>
  ⟨fun o write n data => (execBar4Access_outside t o write n data s).eq,
    fun a1 => (execRegisterReadClear_outside t a1 s).eq,
    fun h phase bad => (execLatch_outside t h phase bad s).eq,
    fun c => (execGenerationSwitch_outside t c s).eq,
    (execGenShadowCopyComplete_outside t s).eq,
    (execTallyEdge_outside t s).eq,
    fun hi => (execTimeAdjCommit_outside t hi s).eq,
    fun port domain msg => (execPtpMessageRx_outside t port domain msg s).eq,
    fun d => (execDomainLost_outside t d s).eq,
    (execDomainRevert_outside t s).eq,
    fun n => (execSheetEpoch_outside t n s).eq,
    fun e stalls rd wr => (execSheetTileComplete_outside t e stalls rd wr s).eq,
    fun u => (execSheetPageFault_outside t u s).eq,
    fun n => (execSheetFaultResume_outside t n s).eq,
    fun n => (execAuDeadline_outside t n s).eq,
    fun n => (execContextRetry_outside t n s).eq,
    (execCruiseSweep_outside t s).eq,
    fun l => (execLaneTrainTimeout_outside t l s).eq,
    fun l full => (execLaneSlip_outside t l full s).eq,
    fun l errs aln => (execLaneAlignLoss_outside t l errs aln s).eq,
    fun n => (execCaptureFrameTimeout_outside t n s).eq,
    fun l tx aligned => (execFastIdleExit_outside t l tx aligned s).eq,
    fun l => (execDeepWakeTimeout_outside t l s).eq,
    fun n part start dpb => (execDecodeJobStart_outside t n part start dpb s).eq,
    fun k d => (execDecodeRowComplete_outside t k d s).eq,
    fun u => (execDecodePageFault_outside t u s).eq,
    fun n => (execDecodePoolTimeout_outside t n s).eq,
    fun h line bad => (execReadyDrivenLatch_outside t h line bad s).eq,
    fun h bad => (execForcedLatch_outside t h bad s).eq,
    fun h late => (execScanoutStart_outside t h late s).eq,
    fun h fetched latent => (execSignatureBlockSend_outside t h fetched latent s).eq,
    fun h w1 p => (execPrefetchStart_outside t h w1 p s).eq,
    fun h pipe x y fault => (execUnderrunPixel_outside t h pipe x y fault s).eq,
    fun h => (execHeadRasterStart_outside t h s).eq,
    fun h => (execHeadRasterStop_outside t h s).eq,
    fun k coded filler stalls wasted rd wr body => (execRecRowComplete_outside t k coded filler stalls wasted rd wr body s).eq,
    fun u => (execRecPageFault_outside t u s).eq,
    fun c => (execFillTimeout_outside t c s).eq,
    (execTakeoverEpoch_outside t s).eq,
    (execTakeoverSwitch_outside t s).eq,
    (execFunctionLevelReset_outside t s).eq,
    (execPcieLinkDown_outside t s).eq,
    (execD3hotEntry_outside t s).eq,
    fun n => (execInstDrainTimeout_outside t n s).eq,
    fun n id => (execSurfCommit_outside t n id s).eq,
    fun n id => (execSurfCommitBufferAcquire_outside t n id s).eq,
    fun b stalls rd wr => (execDmaBlockComplete_outside t b stalls rd wr s).eq,
    fun n g ok => (execPriResponseRx_outside t n g ok s).eq,
    fun n g => (execPriTimeout_outside t n g s).eq,
    fun write target n data h => (execDebugAccess_outside t write target n data s h).eq,
    (execTokenSlot_outside t s).eq,
    (execMarginScanStart_outside t s).eq,
    (execMarginScanAbort_outside t s).eq,
    fun errs => (execScanDwellEnd_outside t errs s).eq,
    (execShadowRestoreComplete_outside t s).eq⟩

end Sys2Proof.Machine
end

section
/-! The time unit's commands take their effect: the servo, adjustments, PTP messages, time-stamps, outputs and captures (R55 to R79). -/

namespace Sys2Proof.Machine

open Sys2Proof.Safety

/-! ## What the instant of a command keeps of the time unit -/

@[simp] theorem State.at_time_domain (s : State) (t : Nat) : (s.at t).time.domain = s.time.domain := by rw [s.at_time t]
@[simp] theorem State.at_time_domA (s : State) (t : Nat) : (s.at t).time.domA = s.time.domA := by rw [s.at_time t]
@[simp] theorem State.at_time_domB (s : State) (t : Nat) : (s.at t).time.domB = s.time.domB := by rw [s.at_time t]
@[simp] theorem State.at_time_slewResid (s : State) (t : Nat) : (s.at t).time.slewResid = s.time.slewResid := by rw [s.at_time t]
@[simp] theorem State.at_time_slewRate (s : State) (t : Nat) : (s.at t).time.slewRate = s.time.slewRate := by rw [s.at_time t]
@[simp] theorem State.at_time_slewStart (s : State) (t : Nat) : (s.at t).time.slewStart = s.time.slewStart := by rw [s.at_time t]
@[simp] theorem State.at_time_freq (s : State) (t : Nat) : (s.at t).time.freq = s.time.freq := by rw [s.at_time t]
@[simp] theorem State.at_time_adjCommitted (s : State) (t : Nat) : (s.at t).time.adjCommitted = s.time.adjCommitted := by rw [s.at_time t]
@[simp] theorem State.at_time_stepCount (s : State) (t : Nat) : (s.at t).time.stepCount = s.time.stepCount := by rw [s.at_time t]
@[simp] theorem State.at_time_snap (s : State) (t : Nat) : (s.at t).time.snap = s.time.snap := by rw [s.at_time t]
@[simp] theorem State.at_time_snapSeq (s : State) (t : Nat) : (s.at t).time.snapSeq = s.time.snapSeq := by rw [s.at_time t]
@[simp] theorem State.at_time_ltbEpoch (s : State) (t : Nat) : (s.at t).time.ltbEpoch = s.time.ltbEpoch := by rw [s.at_time t]
@[simp] theorem State.at_time_txq (s : State) (t : Nat) : (s.at t).time.txq = s.time.txq := by rw [s.at_time t]
@[simp] theorem State.at_time_tto (s : State) (t : Nat) : (s.at t).time.tto = s.time.tto := by rw [s.at_time t]
@[simp] theorem State.at_time_tci (s : State) (t : Nat) : (s.at t).time.tci = s.time.tci := by rw [s.at_time t]
@[simp] theorem State.at_time_ppsOut (s : State) (t : Nat) : (s.at t).time.ppsOut = s.time.ppsOut := by rw [s.at_time t]
@[simp] theorem State.at_time_ppsUntil (s : State) (t : Nat) : (s.at t).time.ppsUntil = s.time.ppsUntil := by rw [s.at_time t]
@[simp] theorem State.at_time_dom (s : State) (t : Nat) (d : Fin 2) : TimeUnit.dom (s.at t).time d = TimeUnit.dom s.time d := by
  simp [TimeUnit.dom]

/-! ## Applying a rate, refreshing TRACE_OK -/

theorem applyRate_only (u : TimeUnit) : applyRate u =
    { u with offset := (applyRate u).offset, anchor := (applyRate u).anchor, rate := (applyRate u).rate } := by
  unfold applyRate
  split <;> rfl

@[simp] theorem applyRate_servo (u : TimeUnit) : (applyRate u).servo = u.servo := by rw [applyRate_only]
@[simp] theorem applyRate_domain (u : TimeUnit) : (applyRate u).domain = u.domain := by rw [applyRate_only]
@[simp] theorem applyRate_domA (u : TimeUnit) : (applyRate u).domA = u.domA := by rw [applyRate_only]
@[simp] theorem applyRate_domB (u : TimeUnit) : (applyRate u).domB = u.domB := by rw [applyRate_only]
@[simp] theorem applyRate_freq (u : TimeUnit) : (applyRate u).freq = u.freq := by rw [applyRate_only]
@[simp] theorem applyRate_holdByLoss (u : TimeUnit) : (applyRate u).holdByLoss = u.holdByLoss := by rw [applyRate_only]
@[simp] theorem applyRate_slewRate (u : TimeUnit) : (applyRate u).slewRate = u.slewRate := by rw [applyRate_only]
@[simp] theorem applyRate_slewResid (u : TimeUnit) : (applyRate u).slewResid = u.slewResid := by rw [applyRate_only]
@[simp] theorem applyRate_stepCount (u : TimeUnit) : (applyRate u).stepCount = u.stepCount := by rw [applyRate_only]
@[simp] theorem applyRate_adjCommitted (u : TimeUnit) : (applyRate u).adjCommitted = u.adjCommitted := by rw [applyRate_only]

/-- TRACE_OK is all that `refreshTrace` writes. -/
theorem State.refreshTrace_time (s : State) : s.refreshTrace.time =
    { s.time with traceOk := traceCond s.time (s.reg Reg.timeTraceTol) (s.reg Reg.timeHoldoverMax) } := rfl

@[simp] theorem TimeUnit.dom_refreshTrace (s : State) (d : Fin 2) : TimeUnit.dom s.refreshTrace.time d = TimeUnit.dom s.time d := rfl

/-- What a state of the servo's domain reads, an index at a time. -/
theorem TimeUnit.dom_setDom (u : TimeUnit) (d : Fin 2) (x : Domain) : TimeUnit.dom (TimeUnit.setDom u d x) d = x := by
  unfold TimeUnit.dom TimeUnit.setDom
  split <;> simp_all

/-! ## The servo's states -/

theorem State.servoTo_time (s : State) (x : ServoState) (h : s.time.servo ≠ x) : (s.servoTo x).time =
    { s.time with servo := x, lockRun := 0, unlockRun := 0, everLocked := s.time.everLocked || x == .locked } := by
  unfold State.servoTo
  rw [if_neg h]
  exact State.emit_time ..

theorem State.enterHold_time (s : State) (byLoss : Bool) (h : s.time.servo ≠ .hold) :
    (s.enterHold byLoss).time.servo = .hold ∧ (s.enterHold byLoss).time.holdByLoss = byLoss ∧
      (s.enterHold byLoss).time.domA = s.time.domA ∧ (s.enterHold byLoss).time.domB = s.time.domB := by
  unfold State.enterHold
  dsimp only
  rw [State.servoTo_time]
  · simp [foldSlew]
  · simpa [foldSlew] using h

theorem State.enterAcquire_servo (s : State) (d : Fin 2) (h : s.time.servo ≠ .acquire) : (s.enterAcquire d).time.servo = .acquire := by
  unfold State.enterAcquire
  dsimp only
  rw [State.servoTo_time]
  exact h

/-- Outside CONFIGURE a correction slews or holds the difference; the servo's state and its domain stay (R65). -/
theorem State.correct_time (s : State) (d r : Int) (h : s.mode.mode ≠ .configure) :
    (s.correct d r).time.servo = s.time.servo ∧ (s.correct d r).time.domain = s.time.domain := by
  unfold State.correct
  rw [if_neg h]
  dsimp only
  split
  · simp [beginSlew]
  · simp [State.holdDifference, endSlew]

theorem State.switchDomain_time (s : State) (d : Fin 2) (h : s.mode.mode ≠ .configure) :
    (s.switchDomain d).time.servo = s.time.servo ∧ (s.switchDomain d).time.domain = d := by
  unfold State.switchDomain
  extract_lets diff v u
  have hmode : (u.emit .ptpDomainSwitch 0 [diff]).mode.mode ≠ .configure := by simpa [u] using h
  obtain ⟨hservo, hdomain⟩ := State.correct_time _ diff u.switchSlew hmode
  exact ⟨hservo.trans (by simp [u, v]), hdomain.trans (by simp [u])⟩

/-- The followed domain is lost in LOCKED and the other is disabled: HOLD by loss (R63, R64). -/
theorem State.loseDomain_locked (s : State) (d : Fin 2) (hl : s.time.servo = .locked) (hd : s.time.domain = d)
    (ho : s.domEn (otherDom d) = false) : (s.loseDomain d).time.servo = .hold ∧ (s.loseDomain d).time.holdByLoss = true ∧
      (TimeUnit.dom (s.loseDomain d).time d).valid = false := by
  unfold State.loseDomain
  extract_lets x ms u o otherValid v
  have hu : u.time.servo = .locked ∧ u.time.domain = d ∧ (TimeUnit.dom u.time d).valid = false := by
    refine ⟨?_, ?_, ?_⟩
    · simp only [u, State.setTime_time, TimeUnit.setDom]
      split <;> exact hl
    · simp only [u, State.setTime_time, TimeUnit.setDom]
      split <;> exact hd
    · simp only [u, State.setTime_time, TimeUnit.dom_setDom]
  obtain ⟨hul, hud, huv⟩ := hu
  have hoff : u.domEn o = false := ho
  have hv : v = u.enterHold true := by simp [v, hul, hud, hoff, otherValid]
  obtain ⟨hs, hb, ha, hbB⟩ := u.enterHold_time true (by simp [hul])
  rw [hv]
  refine ⟨hs, hb, ?_⟩
  rw [TimeUnit.dom_refreshTrace]
  unfold TimeUnit.dom at huv ⊢
  rw [ha, hbB]
  exact huv

/-- Settles O14: each command through the operation of the servo that it is. -/
theorem servoCommandsTakeEffect : Obligations.ServoCommandsTakeEffect := by
  intro t s
  refine ⟨fun v hh => ?_, fun hh => ?_, fun hh => ?_, fun hr hz => ?_, fun d hl hd ho => ?_, fun since hl hd he hr hs hp hm => ?_⟩
  · refine gives_of_next (exec_timeRateWrite_hold t v s hh) ?_
    simp [State.refreshTrace_time, foldSlew, hh]
  · refine gives_of_next (w := ((s.at t).enterHold false).refreshTrace) (if_neg (by simpa using hh)) ?_
    obtain ⟨hservo, hloss, _⟩ := (s.at t).enterHold_time false (by simpa using hh)
    exact ⟨hservo, hloss⟩
  · by_cases hv : (s.domEn 0 && s.time.domA.valid) || (s.domEn 1 && s.time.domB.valid)
    · refine gives_of_next (w := ((s.at t).enterAcquire (s.at t).acquireChoice).refreshTrace) ?_ ?_
      · exact (if_neg (by simp [hh])).trans (if_pos (by simpa [State.domEn] using hv))
      · rw [if_pos hv]
        exact State.enterAcquire_servo _ _ (by simp [hh])
    · refine gives_of_next (w := ((s.at t).servoTo .free).refreshTrace) ?_ ?_
      · exact (if_neg (by simp [hh])).trans (if_neg (by simpa [State.domEn] using hv))
      · rw [if_neg hv, State.refreshTrace_time, State.servoTo_time _ _ (by simp [hh])]
  · refine gives_of_next ((exec_slewComplete t s).trans (if_pos ⟨hr, hz⟩)) ?_
    simp [State.refreshTrace_time, endSlew]
  · exact gives_of_next rfl (State.loseDomain_locked (s.at t) d (by simpa using hl) (by simpa using hd) ho)
  · have hstable : (s.at t).time.domA.stableSince = some since := by simpa using hs
    refine gives_of_next (w := ((s.at t).switchDomain 0).refreshTrace) ?_ ?_
    · show execDomainRevert t s = _
      unfold execDomainRevert
      dsimp only
      rw [hstable]
      exact if_pos ⟨by simpa using hl, by simpa using hd, hr, he, hp⟩
    · obtain ⟨hservo, hdomain⟩ := (s.at t).switchDomain_time 0 (by simpa using hm)
      exact ⟨hdomain, hservo.trans (by simpa using hl)⟩

end Sys2Proof.Machine
end

section
/-! Adjustments and snapshots, PTP messages and time-stamps, outputs and captures take their effect (R59 to R61, R67, R68, R72 to R79). -/

namespace Sys2Proof.Machine

open Sys2Proof.Safety

/-! ## Steps and slews -/

/-- What a step of device time releases and resets elsewhere is no part of the time unit. -/
theorem State.stepEffects_time (s : State) : s.stepEffects.time = s.time :=
  (congrArg State.time (State.stepEffects_outside { Mask.full with time := false } s (by simp [Mask.full])) :)

theorem State.stepTime_time (s : State) (d : Int) : (s.stepTime d).time.stepCount = s.time.stepCount + 1 ∧
    (s.stepTime d).time.slewRate = 0 := by
  unfold State.stepTime
  simp [State.stepEffects_time]

theorem exec_timeAdjCommit_slew (t : Nat) (hi : BitVec 32) (s : State) (hh : s.time.servo = .hold) (hm : s.mode.mode ≠ .configure)
    (hc : (sext 64 (hi.toNat * 2 ^ 32 + s.reg Reg.timeAdjLo)).natAbs ≤ s.slewCap) :
    exec (.timeAdjCommit t hi) s = .next (((s.at t).setReg timeAdjHi hi.toNat).setTime
      (beginSlew { foldSlew (s.at t).time with adjCommitted := true }
        ((foldSlew (s.at t).time).slewResid - sext 64 (hi.toNat * 2 ^ 32 + s.reg Reg.timeAdjLo)) rateClamp)).refreshTrace := by
  show execTimeAdjCommit t hi s = _
  unfold execTimeAdjCommit
  dsimp only
  rw [if_neg (by simp [hh]), if_neg (by simpa using hm), if_neg (by simpa [State.slewCap] using hc)]
  rfl

/-- Settles O15: the mode names whether a commit steps or slews; the flag is set by the operation that evaluates its condition. -/
theorem timeAdjustmentAndSnapshot : Obligations.TimeAdjustmentAndSnapshot := by
  intro t s
  refine ⟨fun hi hh hm => ?_, fun hi hh hm hc => ?_, fun v hv => ?_, gives_of_next rfl rfl, gives_of_next rfl rfl⟩
  · refine gives_of_next ((if_neg (by simp [hh])).trans (if_pos (by simpa using hm))) ?_
    simp [State.refreshTrace_time, State.stepTime_time]
  · refine gives_of_next (exec_timeAdjCommit_slew t hi s hh hm hc) ?_
    simp [State.refreshTrace_time, beginSlew, foldSlew]
  · refine gives_of_next (if_pos hv) ?_
    simp

/-! ## PTP messages and the time-stamp queue -/

theorem State.domOf_at (s : State) (t port : Nat) (n : BitVec 8) : (s.at t).domOf port n = s.domOf port n := by
  simp [State.domOf]

theorem State.rxLat_at (s : State) (t port : Nat) : (s.at t).rxLat port = s.rxLat port := by simp [State.rxLat]

theorem State.txLat_at (s : State) (t port : Nat) : (s.at t).txLat port = s.txLat port := by simp [State.txLat]

/-- A queue that is not full takes the entry at its end. -/
theorem State.pushTxq_room (s : State) (port : Nat) (e : TxEntry) (q : TxQueue) (hq : q = Tab.get {} s.time.txq port)
    (h : q.entries.length < 64) : s.pushTxq port e = s.setTime { s.time with
      txq := Tab.set {} s.time.txq port { q with entries := q.entries ++ [e], ovf := q.ovf || q.entries.length == 62 } } := by
  subst hq
  exact if_pos h

@[simp] theorem TimeUnit.setDom_txq (u : TimeUnit) (d : Fin 2) (x : Domain) : (TimeUnit.setDom u d x).txq = u.txq := by
  unfold TimeUnit.setDom
  split <;> rfl

theorem TimeUnit.dom_txq (u : TimeUnit) (d : Fin 2) (x : Tab TxQueue) : TimeUnit.dom { u with txq := x } d = TimeUnit.dom u d := rfl

theorem exec_ptpMessageRx (t : Nat) (port : Fin 4) (n : BitVec 8) (m : PtpMsg) (s : State) :
    exec (.ptpMessageRx t port n m) s = execPtpMessageRx t port n m s := rfl

/-- Settles O16: each message is stored, or answered from what is stored, at its own domain or port. -/
theorem ptpMessagesTakeEffect : Obligations.PtpMessagesTakeEffect := by
  intro t port s
  refine ⟨fun n d q t1 c hd hp => ?_, fun n d q t4 c t1 t2 c0 t3 hd hq hl => ?_, fun d q tag hd hlen => ?_, ?_⟩
  · refine gives_of_next (w := (s.at t).setTime (TimeUnit.setDom (s.at t).time d { TimeUnit.dom (s.at t).time d with
      pendingSync := some (q, ((s.at t).now : Int) - (s.at t).rxLat port.val, c) })) ?_ ?_
    · rw [exec_ptpMessageRx]
      simp [execPtpMessageRx, State.domOf_at, hd, hp]
    · simp [TimeUnit.dom_setDom, State.rxLat_at]
  · refine gives_of_next (w := (s.at t).setTime (TimeUnit.setDom (s.at t).time d { TimeUnit.dom (s.at t).time d with
      delayReq := none, meanPath := some (((t2 - t1) + ((t4.toNat : Int) - t3) - (c0 + c)) / 2) })) ?_ ?_
    · rw [exec_ptpMessageRx]
      simp [execPtpMessageRx, State.domOf_at, hd, hq, hl]
    · simp [TimeUnit.dom_setDom]
  · have hsome : (s.at t).domOf port.val (BitVec.ofNat 8 (bits ((s.at t).reg (Reg.ptpDomCfg d.val)) 15 8)) ≠ none := by
      rw [State.domOf_at, State.at_reg]
      exact Option.isSome_iff_ne_none.mp hd
    refine gives_of_next (if_neg hsome) ?_
    rw [State.pushTxq_room _ _ _ (Tab.get {} s.time.txq port.val) (by simp) hlen]
    refine ⟨by simp, by simp [TimeUnit.dom_txq, TimeUnit.dom_setDom, State.txLat_at], _,
      congrArg TxQueue.entries (Tab.get_set_self ..), rfl, rfl⟩
  · refine gives_of_next rfl ⟨?_, ?_⟩
    · simp [Tab.get_set_self]
    · simp only [State.at_time_txq]
      cases (Tab.get {} s.time.txq port.val : TxQueue).entries <;> rfl

end Sys2Proof.Machine
end

section
/-! Legacy time bases, time-triggered outputs, PPS_OUT and the capture inputs take their effect (R74 to R79). -/

namespace Sys2Proof.Machine

open Sys2Proof.Safety

@[simp] theorem State.tto_at (s : State) (t n : Nat) : (s.at t).tto n = s.tto n := by simp [State.tto]

@[simp] theorem State.tci_at (s : State) (t n : Nat) : (s.at t).tci n = s.tci n := by simp [State.tci]

theorem State.ttoMode_at (s : State) (t n : Nat) : (s.at t).ttoMode n = s.ttoMode n := by simp [State.ttoMode]

/-- An output reads as it was set, with its ball at its level, which CTRL.POL inverts. -/
@[simp] theorem State.setTto_self (s : State) (n : Nat) (x : Tto) :
    (s.setTto n x).tto n = { x with pin := x.level != bit (s.reg (Reg.ttoCtrl n)) 4 } := Tab.get_set_self ..

theorem State.setTto_other (s : State) (n k : Nat) (x : Tto) (h : k ≠ n) : (s.setTto n x).tto k = s.tto k :=
  Tab.get_set_other _ _ _ _ _ _ h

@[simp] theorem State.setTci_self (s : State) (n : Nat) (x : Tci) : (s.setTci n x).tci n = x := Tab.get_set_self ..

theorem State.setTci_other (s : State) (n k : Nat) (x : Tci) (h : k ≠ n) : (s.setTci n x).tci k = s.tci k :=
  Tab.get_set_other _ _ _ _ _ _ h

/-- An EPOCH output waits for its head's epochs, so its start is never late (R75). -/
theorem State.armTto_epoch (s : State) (n : Nat) (start : BitVec 64) (h : s.ttoMode n = 3) : s.armTto n start =
    s.setTto n { s.tto n with start := start, armed := true, level := false, next := start.toNat, index := 0, emitted := 0 } := by
  unfold State.armTto
  dsimp only
  rw [h]
  rfl

/-- An armed LEVEL output goes active at its start (R75). -/
theorem State.ttoEdge_level (s : State) (n : Nat) (h : s.ttoMode n = 0) (ha : (s.tto n).armed = true) (hl : (s.tto n).level = false)
    (hn : (s.tto n).next ≤ s.now) : s.ttoEdge n = s.setTto n { s.tto n with level := true } := by
  unfold State.ttoEdge
  dsimp only
  rw [h]
  exact if_pos ⟨ha, by simp [hl], hn⟩

theorem exec_tciEdge_taken (t : Nat) (n : Fin 5) (rising : Bool) (s : State) (hsel : bits (s.reg (Reg.tciCtrl n.val)) 1 0 = 3)
    (hlast : (s.tci n.val).lastEdge = none) (hroom : (s.tci n.val).queue.length < 16) :
    exec (.tciEdge t n rising) s = .next ((s.at t).setTci n.val { s.tci n.val with
      lastEdge := some (s.at t).time.lct, seq := (s.tci n.val).seq + 1,
      queue := (s.tci n.val).queue ++ [{ t := BitVec.ofNat 64 (s.at t).now, rising := rising, seq := (s.tci n.val).seq + 1 }] }) := by
  show execTciEdge t n rising s = _
  simp [execTciEdge, hsel, hlast, hroom]

/-- Settles O17: each output, base and input has its own entry, so what the command sets is what it reads. -/
theorem timeOutputsAndCaptures : Obligations.TimeOutputsAndCaptures := by
  intro t s
  refine ⟨fun n hi => ?_, fun n hi hm => ?_, fun n v => ?_, fun n hm ha hl hn => ?_, fun hsec hen hgate => ?_,
    fun n rising hsel hlast hroom => ?_, fun n => ?_⟩
  · exact gives_of_next rfl (Tab.get_set_self ..)
  · have hctrl : ((s.at t).setReg (0x30208 + 0x20 * n.val) hi.toNat).ttoMode n.val = 3 := by
      have hreg := State.setReg_reg_other (s.at t) (0x30208 + 0x20 * n.val) (Reg.ttoCtrl n.val) hi.toNat
        (by simp only [Reg.ttoCtrl]; omega)
      simpa [State.ttoMode, hreg] using hm
    have hlo := State.setReg_reg_other (s.at t) (0x30208 + 0x20 * n.val) (Reg.ttoStartLo n.val) hi.toNat
      (by simp only [Reg.ttoStartLo]; omega)
    refine gives_of_next rfl ?_
    rw [State.armTto_epoch _ _ _ hctrl, hlo]
    simp
  · refine gives_of_next rfl ⟨?_, ?_, ?_⟩
    · exact State.setReg_self ..
    · intro hv
      simp [hv]
    · intro hm
      simp [State.ttoMode_at, hm]
  · refine gives_of_next rfl ?_
    rw [State.ttoEdge_level _ _ (by rw [State.ttoMode_at, hm]) (by simpa using ha) (by simpa using hl) (by simpa using hn)]
    simp
  · have hwhole : (s.at t).wholeSecond = true := by
      have hn := nativeAt_congr (s.at_time_offset t) (s.at_time_anchor t) (s.at_time_rate t) ((s.at t).time.lct - 1)
      exact decide_eq_true (by rw [hn]; exact hsec)
    exact gives_of_next (if_pos ⟨hwhole, by simp [hen, hgate]⟩) ⟨rfl, rfl⟩
  · exact gives_of_next (exec_tciEdge_taken t n rising s hsel hlast hroom) (by simp)
  · exact gives_of_next rfl (by simp [State.tci, State.setTci, Tab.get_set_self])

end Sys2Proof.Machine
end

section
/-! Frames and their consumers: the expiry sweep frees a buffer that carries no mark (R92, R185). -/

namespace Sys2Proof.Machine

open Sys2Proof.Safety

/-- Buffer 0 of context 0 holds a frame in use with one tag and without a mark: R185's free buffer. -/
def unmarkedFrame : State :=
  { State.reset with ctxs := [(0, { bufs := [(0, { inUse := true, tags := [(0, { src := 1 })] })] })] }

/-- The sweep stores a frame without marks as a free buffer, so none of its tags is left (R185). -/
theorem expirySweepVisit_unmarked (t : Nat) (r : FrameRef) (s : State) (hu : (s.frame r).inUse = true) (hf : (s.frame r).isFree = true) :
    ∃ w, exec (.expirySweepVisit t r) s = .next w ∧ w.frame r = {} := by
  refine ⟨_, if_pos hu, ?_⟩
  rw [State.setFrame_frame_self]
  exact if_pos hf

/-- Refutes O18: a visit to a frame in use that carries no mark empties the buffer, where the statement keeps the swept tags. -/
theorem not_framesReachConsumers : ¬ Obligations.FramesReachConsumers := by
  intro h
  obtain ⟨-, -, -, -, -, -, -, -, -, hsweep⟩ := h 0 unmarkedFrame
  obtain ⟨w, hw, htags, -⟩ := hsweep ⟨.ctx 0, 0⟩ rfl
  obtain ⟨u, hu, hfree⟩ := expirySweepVisit_unmarked 0 ⟨.ctx 0, 0⟩ unmarkedFrame rfl rfl
  obtain rfl : u = w := by simpa [hu] using hw
  rw [hfree] at htags
  exact absurd htags (by decide)

end Sys2Proof.Machine
end

section
/-! A head's latches, scan-out and signature block (R243 to R245, R305, R306), and its link: hot-plug, attention and training (R258 to R262). -/

namespace Sys2Proof.Machine

open Sys2Proof.Safety

/-! ## Events raised earlier stay raised -/

theorem raises_of_prefix {k : EvKind} {i : Nat} {p : List Int} {s u w : State} (h : raises k i p s u) (e : u.events <+: w.events) :
    raises k i p s w := by
  obtain ⟨l, x, hl, hx, rest⟩ := h
  obtain ⟨m, hm⟩ := e
  exact ⟨l ++ m, x, by rw [← hm, hl, List.append_assoc], List.mem_append_left m hx, rest⟩

theorem raises_of_events {k : EvKind} {i : Nat} {p : List Int} {s u w : State} (h : raises k i p s u) (e : w.events = u.events) :
    raises k i p s w := raises_of_prefix h (e ▸ List.prefix_rfl)

theorem State.emit_prefix {s u : State} (k : EvKind) (i : Nat) (p : List Int) (h : s.events <+: u.events) :
    s.events <+: (u.emit k i p).events := by
  obtain ⟨q, l, e⟩ := u.emit_events k i p
  exact h.trans ⟨_, e.symm⟩

/-! ## The latches -/

theorem State.isReady_of_mem (s : State) (h r : Nat) (hr : r ∈ (s.head h).readyAt) (hn : r ≤ s.now) : s.isReady h = true := by
  refine List.any_eq_true.mpr ⟨r, ?_, by simpa using hn⟩
  unfold State.noteReady
  split
  · rw [State.setHead_self]
    exact List.mem_append_left _ hr
  · exact hr

theorem State.latchLocked_epoch (s : State) (h e : Nat) (phase : Int) (bad : List Nat) (hr : (s.head h).state = .run)
    (hc : (s.head h).cfg.ready = false) (he : epochAtOrBefore (s.head h).cfg.t0 (s.head h).cfg.period s.now = some e)
    (hl : (s.head h).lastEpoch ≠ some e) (ha : (s.head h).admittedAt ≤ e) :
    s.latchLocked h phase bad = ((s.headTurn h e).latch h e none bad).phaseAt h phase := by
  unfold State.latchLocked
  dsimp only
  rw [he]
  exact if_pos ⟨hr, by simp [hc], hl, ha⟩

theorem State.latchReady_fits (s : State) (h : Nat) (line : Option Nat) (bad : List Nat) (hr : (s.head h).state = .run)
    (hc : (s.head h).cfg.ready = true) (hi : s.isReady h = true)
    (hf : ∀ j, line = some j → j + (s.head h).cfg.lead ≤ (s.head h).cfg.vBlankMax) :
    s.latchReady h line bad = (s.headTurn h s.now).latch h s.now line bad := by
  unfold State.latchReady
  refine if_pos ⟨hr, hc, hi, ?_⟩
  cases line with
  | none => rfl
  | some j => exact decide_eq_true (hf j rfl)

theorem State.latchForced_late (s : State) (h : Nat) (bad : List Nat) (hr : (s.head h).state = .run) (hc : (s.head h).cfg.ready = true)
    (hi : s.isReady h = false) (hl : (s.head h).cfg.lead ≤ (s.head h).cfg.vBlankMax) : s.latchForced h bad =
      (s.latch h s.now (some ((s.head h).cfg.vBlankMax - (s.head h).cfg.lead)) bad).headCount h 14 1 := by
  unfold State.latchForced
  dsimp only
  rw [if_pos ⟨hr, hc, by simp [hi]⟩, forcedLine, if_pos hl]

/-! ## Scan-out and the signature block -/

@[simp] theorem State.modFrame_heads (s : State) (r : FrameRef) (f : Frame → Frame) : (State.modFrame s r f).heads = s.heads :=
  (congrArg State.heads (State.modFrame_outside { Mask.full with heads := false } s r f (by simp [Mask.full])) :)
@[simp] theorem State.modFrame_head (s : State) (r : FrameRef) (f : Frame → Frame) (i : Nat) :
    (State.modFrame s r f).head i = s.head i := by
  simp [State.head]
@[simp] theorem State.recCapture_heads (s : State) (h : Nat) : (State.recCapture s h).heads = s.heads :=
  (congrArg State.heads (State.recCapture_outside { Mask.full with heads := false } s h (by simp [Mask.full])) :)
@[simp] theorem State.recCapture_head (s : State) (h : Nat) (i : Nat) : (State.recCapture s h).head i = s.head i := by
  simp [State.head]
@[simp] theorem State.sendPair_heads (s : State) (m : PairMsg) : (State.sendPair s m).heads = s.heads :=
  (congrArg State.heads (State.sendPair_outside { Mask.full with heads := false } s m (by simp [Mask.full])) :)
@[simp] theorem State.sendPair_head (s : State) (m : PairMsg) (i : Nat) : (State.sendPair s m).head i = s.head i := by
  simp [State.head]

@[simp] theorem State.moveDisplay_heads (s : State) (h : Nat) (old new : List FrameRef) : (s.moveDisplay h old new).heads = s.heads := by
  unfold State.moveDisplay
  refine (foldl_same State.heads _ (fun u r => State.modFrame_heads ..) _ _).trans ?_
  exact foldl_same State.heads _ (fun u r => State.modFrame_heads ..) _ _

@[simp] theorem State.moveDisplay_head (s : State) (h : Nat) (old new : List FrameRef) (i : Nat) :
    (s.moveDisplay h old new).head i = s.head i := by simp [State.head]

theorem State.tagLate_nil (s : State) (h : Nat) : s.tagLate h [] = s := by simp [State.tagLate]

@[simp] theorem State.sendPair_pair (s : State) (m : PairMsg) : (State.sendPair s m).pair = s.pair :=
  (congrArg State.pair (State.sendPair_outside { Mask.full with pair := false } s m (by simp [Mask.full])) :)

/-! ## The sink and the training of a link -/

theorem sinkTakes_congr (c : HeadCfg) {j k : Link} (ht : j.timings = k.timings) (hr : j.ranges = k.ranges) : sinkTakes c j = sinkTakes c k := by
  simp only [sinkTakes, ht, hr]

/-- The sink is compared with a timing only while one is there and the head is admitted (R258). -/
theorem State.checkSink_head (s : State) (h : Nat) (c : HeadCfg) (hh : (s.head h).link.hpd = true)
    (hm : (s.head h).link.sinkMismatch = false) : (s.checkSink h c).head h =
      { s.head h with link := { (s.head h).link with sinkMismatch := (s.head h).admitted && !sinkTakes c (s.head h).link } } := by
  unfold State.checkSink
  dsimp only
  by_cases ha : (s.head h).admitted = true
  · rw [if_neg (by simp [hh, ha])]
    split <;> simp [ha]
  · have hkeep : ((s.head h).admitted && !sinkTakes c (s.head h).link) = (s.head h).link.sinkMismatch := by simp [ha, hm]
    rw [if_pos (by simp [ha]), hkeep]

theorem State.checkSink_prefix (s : State) (h : Nat) (c : HeadCfg) : s.events <+: (s.checkSink h c).events := by
  unfold State.checkSink
  dsimp only
  split
  · exact List.prefix_rfl
  · split
    · exact State.emit_prefix _ _ _ (by simp)
    · exact List.prefix_rfl

@[simp] theorem State.askToken_heads (s : State) (h : TokenHolder) (u : Nat) : (State.askToken s h u).heads = s.heads :=
  (congrArg State.heads (State.askToken_outside { Mask.full with heads := false } s h u (by simp [Mask.full])) :)
@[simp] theorem State.askToken_head (s : State) (h : TokenHolder) (u : Nat) (i : Nat) :
    (State.askToken s h u).head i = s.head i := by
  simp [State.head]
@[simp] theorem State.dropToken_heads (s : State) (h : TokenHolder) (u : Nat) : (State.dropToken s h u).heads = s.heads :=
  (congrArg State.heads (State.dropToken_outside { Mask.full with heads := false } s h u (by simp [Mask.full])) :)
@[simp] theorem State.dropToken_head (s : State) (h : TokenHolder) (u : Nat) (i : Nat) :
    (State.dropToken s h u).head i = s.head i := by
  simp [State.head]
@[simp] theorem State.askToken_events (s : State) (h : TokenHolder) (u : Nat) : (State.askToken s h u).events = s.events :=
  (congrArg State.events (State.askToken_outside { Mask.full with events := false } s h u (by simp [Mask.full])) :)
@[simp] theorem State.dropToken_events (s : State) (h : TokenHolder) (u : Nat) : (State.dropToken s h u).events = s.events :=
  (congrArg State.events (State.dropToken_outside { Mask.full with events := false } s h u (by simp [Mask.full])) :)
@[simp] theorem State.dropToken_regs (s : State) (h : TokenHolder) (u : Nat) : (State.dropToken s h u).regs = s.regs :=
  (congrArg State.regs (State.dropToken_outside { Mask.full with regs := false } s h u (by simp [Mask.full])) :)
@[simp] theorem State.dropToken_reg (s : State) (h : TokenHolder) (u : Nat) (i : Nat) :
    (State.dropToken s h u).reg i = s.reg i := by
  simp [State.reg]
@[simp] theorem State.askToken_regs (s : State) (h : TokenHolder) (u : Nat) : (State.askToken s h u).regs = s.regs :=
  (congrArg State.regs (State.askToken_outside { Mask.full with regs := false } s h u (by simp [Mask.full])) :)
@[simp] theorem State.askToken_reg (s : State) (h : TokenHolder) (u : Nat) (i : Nat) :
    (State.askToken s h u).reg i = s.reg i := by
  simp [State.reg]

/-- Asking for training writes of the head's link only what is tried, since when, and that no mode was found. -/
theorem State.askTraining_head (s : State) (h : Nat) : ∃ tries askedAt insufficient, (s.askTraining h).head h =
    { s.head h with link := { (s.head h).link with tries := tries, askedAt := askedAt, insufficient := insufficient } } := by
  unfold State.askTraining
  dsimp only
  split
  · exact ⟨_, _, _, rfl⟩
  · split
    · exact ⟨(s.head h).link.tries, (s.head h).link.askedAt, true, by simp⟩
    · exact ⟨linkTries (s.head h).cfg (s.head h).link.dpcd, s.now, (s.head h).link.insufficient, by simp⟩

theorem State.askTraining_prefix (s : State) (h : Nat) : s.events <+: (s.askTraining h).events := by
  unfold State.askTraining
  dsimp only
  split
  · exact List.prefix_rfl
  · split
    · exact State.emit_prefix _ _ _ (by simp)
    · simp

@[simp] theorem State.askTraining_regs (s : State) (h : Nat) : (State.askTraining s h).regs = s.regs :=
  (congrArg State.regs (State.askTraining_outside { Mask.full with regs := false } s h (by simp [Mask.full])) :)
@[simp] theorem State.askTraining_reg (s : State) (h : Nat) (i : Nat) : (State.askTraining s h).reg i = s.reg i := by
  simp [State.reg]

/-- An untrained link: not trained, not enabled, not in training. -/
theorem State.untrain_head (s : State) (h : Nat) : (s.untrain h).head h =
    { s.head h with link := { (s.head h).link with trained := false, enabled := false, training := false } } := by
  unfold State.untrain
  dsimp only
  split <;> simp

@[simp] theorem State.untrain_events (s : State) (h : Nat) : (State.untrain s h).events = s.events :=
  (congrArg State.events (State.untrain_outside { Mask.full with events := false } s h (by simp [Mask.full])) :)

theorem State.untrain_reg (s : State) (h a : Nat) (hc : a ≠ Reg.headCount h 13) (ho : a ≠ Reg.headOvf h) :
    (s.untrain h).reg a = s.reg a := by
  unfold State.untrain
  dsimp only
  split
  · simp only [State.headCount]
    split
    · exact (State.setReg_reg_other _ _ _ _ hc).trans (by simp)
    · rw [State.orReg, State.setReg_reg_other _ _ _ _ ho, State.setReg_reg_other _ _ _ _ hc, State.setHead_reg]
  · rfl

theorem State.linkUp_link (s : State) (h rate lanes : Nat) : ((s.linkUp h rate lanes).head h).link.trained = true ∧
    ((s.linkUp h rate lanes).head h).link.rate = rate ∧ ((s.linkUp h rate lanes).head h).link.lanes = lanes := by
  unfold State.linkUp State.enableStream
  dsimp only
  split <;> simp

theorem State.enableStream_prefix (s : State) (h : Nat) : s.events <+: (s.enableStream h).events := by
  unfold State.enableStream
  dsimp only
  split
  · exact State.emit_prefix _ _ _ (by simp)
  · exact List.prefix_rfl

theorem State.linkUp_raises (s : State) (h rate lanes : Nat) : raises .headLinkUp h [] s (s.linkUp h rate lanes) := by
  unfold State.linkUp
  refine raises_of_prefix ?_ (State.enableStream_prefix _ h)
  exact raises_emit_self _ _ _ _ _ rfl

/-- An attempt that failed ends the training and leaves the link as trained as it was. -/
theorem State.trainFail_link (s : State) (h : Nat) : ((s.trainFail h).head h).link.training = false ∧
    ((s.trainFail h).head h).link.trained = (s.head h).link.trained := by
  unfold State.trainFail
  extract_lets x k fails k'
  split
  · simp [k', k, x]
  · split
    · simp [k', k, x]
    · split
      · obtain ⟨a, b, c, e⟩ := (s.setHead h { x with link := k' }).askTraining_head h
        rw [e]
        simp [k', k, x]
      · split <;> simp [k', k, x]

/-! ## The commands -/

theorem scanoutStart_due (t : Nat) (h : Fin 16) (s : State) (hr : (s.head h.val).state = .run) (hd : (s.head h.val).shotDue = true) :
    gives (.scanoutStart t h []) s (fun w => (w.head h.val).cur = (s.head h.val).next ∧ (w.head h.val).shotDue = false ∧
      (w.head h.val).underruns = [] ∧ (w.head h.val).blank = false) := by
  refine gives_of_next (if_pos ⟨hr, hd⟩) ?_
  simp [State.tagLate_nil]

theorem signatureBlockSend_shown (t : Nat) (h : Fin 16) (fetched latent : Nat) (s : State) (hr : (s.head h.val).state = .run)
    (hb : (s.head h.val).blank = false) (hc : (s.head h.val).cur ≠ {}) :
    gives (.signatureBlockSend t h fetched latent) s (fun w => (w.head h.val).blank = true ∧
      (w.head h.val).signature.length = (s.head h.val).cfg.vActive ∧
      w.pair.ownBlocks.length = s.pair.ownBlocks.length + (if s.pair.armed.getLsbD h.val then 1 else 0)) := by
  show ∃ w, execSignatureBlockSend t h fetched latent s = .next w ∧ _
  unfold execSignatureBlockSend
  extract_lets u x unit counted reported sigs carried y blanked z block p compared
  have hrep : reported.heads = s.heads ∧ reported.pair = s.pair := by
    simp only [reported]
    split <;> simp [counted, u]
  have hcar : carried.heads = s.heads ∧ carried.pair = s.pair := by
    simp only [carried]
    split <;> simp [hrep]
  have hlen : sigs.length = (s.head h.val).cfg.vActive := by simp [sigs, State.signatures, State.head, hrep]
  rw [if_neg (fun g => hc g.2.2), if_pos ⟨hr, by simp [x, u, hb]⟩]
  have hself : blanked.head h.val = { y with blank := true, signature := sigs } := State.setHead_self ..
  have hsent : (compared.sendPair (.signature block)).head h.val = blanked.head h.val := State.sendPair_head ..
  have hpair : blanked.pair = s.pair := hcar.2
  split
  next ha =>
    have harm : s.pair.armed.getLsbD h.val = true := hpair ▸ ha
    refine ⟨_, rfl, ?_, ?_, ?_⟩
    · rw [hsent, hself]
    · rw [hsent, hself]
      exact hlen
    · rw [State.sendPair_pair, if_pos harm]
      simp [compared, hpair]
  next ha =>
    have harm : ¬ s.pair.armed.getLsbD h.val = true := hpair ▸ ha
    refine ⟨_, rfl, ?_, ?_, ?_⟩
    · rw [hself]
    · rw [hself]
      exact hlen
    · rw [if_neg harm, hpair]
      rfl

/-- The head's link as a sink found leaves it, before it is compared and training is asked for (R258). -/
def foundLink (k : Link) (r : SinkRead) : Link :=
  { k with
    hpd := true, dpcd := r.dpcd.foldl (fun t p => Tab.set 0 t p.1 p.2) [], edid := r.edid, timings := r.timings,
    ranges := r.ranges, sinkMismatch := false, down := false, insufficient := false, retrain := false, fails := [] }

theorem hpdPresent_found (t : Nat) (h : Fin 16) (r : SinkRead) (s : State) (hw : s.wired h.val = true)
    (hh : (s.head h.val).link.hpd = false) :
    gives (.hpdPresent t h r) s (fun w => (w.head h.val).link.hpd = true ∧ (w.head h.val).link.edid = r.edid ∧
      (w.head h.val).link.sinkMismatch = ((s.head h.val).admitted &&
        !sinkTakes ((s.head h.val).nextCfg.getD (s.head h.val).cfg)
          { (s.head h.val).link with timings := r.timings, ranges := r.ranges }) ∧ raises .headHpd h.val [1] s w) := by
  have hnone : ¬ (¬ (s.at t).wired h.val = true ∨ ((s.at t).head h.val).link.hpd = true) := by
    rw [show (s.at t).wired h.val = true from hw, State.at_head, hh]
    simp
  show ∃ w, execHpdPresent t h r s = .next w ∧ _
  unfold execHpdPresent
  extract_lets u x changed k found told known checked k'
  rw [if_neg hnone]
  refine ⟨_, rfl, ?_⟩
  have hknown : known.head h.val = { s.head h.val with link := foundLink (s.head h.val).link r } := by
    simp only [known]
    split <;> simp [told, found, x, k, u, foundLink]
  have hraise : raises .headHpd h.val [1] s known := by
    have htold : raises .headHpd h.val [1] s told := raises_emit_self _ _ _ _ _ rfl
    simp only [known]
    split
    · exact raises_of_prefix htold (State.emit_prefix _ _ _ List.prefix_rfl)
    · exact htold
  have hchecked := known.checkSink_head h.val (x.nextCfg.getD x.cfg) (by rw [hknown]; rfl) (by rw [hknown]; rfl)
  obtain ⟨a, b, c, hw⟩ := checked.askTraining_head h.val
  have hpre : known.events <+: (checked.askTraining h.val).events :=
    (State.checkSink_prefix ..).trans (State.askTraining_prefix ..)
  rw [hw, hchecked, hknown]
  exact ⟨rfl, rfl, rfl, raises_of_prefix hraise hpre⟩

theorem hpdGone_forgets (t : Nat) (h : Fin 16) (s : State) (hh : (s.head h.val).link.hpd = true) :
    gives (.hpdGone t h) s (fun w => (w.head h.val).link.hpd = false ∧ (w.head h.val).link.trained = false ∧
      (w.head h.val).link.tries = [] ∧ raises .headHpd h.val [0] s w) := by
  refine gives_of_next (if_pos hh) ⟨by simp, ?_, by simp, raises_emit_self _ _ _ _ _ (by simp)⟩
  simp [State.untrain_head]

theorem irqHpd_failed (t : Nat) (h : Fin 16) (s : State) (hh : (s.head h.val).link.hpd = true) (ht : (s.head h.val).link.trained = true) :
    gives (.irqHpd t h false) s (fun w => (w.head h.val).link.trained = false ∧ (w.head h.val).link.retrain = true ∧
      w.reg (Reg.headHpdIrqs h.val) = satAdd32 (s.reg (Reg.headHpdIrqs h.val)) 1) := by
  refine gives_of_next ((if_pos hh).trans (if_pos ⟨by simp, by simpa using ht⟩)) ?_
  obtain ⟨a, b, c, hw⟩ := ((((s.at t).count (Reg.headHpdIrqs h.val) 1).untrain h.val).setHead h.val _).askTraining_head h.val
  rw [hw, State.askTraining_reg, State.setHead_self, State.setHead_reg]
  simp only [State.untrain_head]
  refine ⟨trivial, trivial, ?_⟩
  rw [State.untrain_reg _ _ _ (by simp only [Reg.headHpdIrqs, Reg.headCount]; omega) (by simp only [Reg.headHpdIrqs, Reg.headOvf]; omega)]
  simp

theorem linkTrainingAttempt_tries (t : Nat) (h : Fin 16) (s : State) (hk : s.hasToken .training h.val = true)
    (ht : (s.head h.val).link.training = false) (hq : (s.head h.val).link.tries ≠ []) :
    gives (.linkTrainingAttempt t h) s (fun w => (w.head h.val).link.training = true) := by
  show ∃ w, execLinkTrainingAttempt t h s = .next w ∧ _
  unfold execLinkTrainingAttempt
  extract_lets u x waited k spread dpcd begun
  have hbegun : (begun.head h.val).link.training = true := by simp [begun]
  rw [if_pos ⟨hk, by simpa [x, u] using ht, by simpa [x, u] using hq⟩]
  refine ⟨_, rfl, ?_⟩
  cases k.tries.head? with
  | none => exact hbegun
  | some q => simpa using hbegun

theorem linkTrainingDone_try (t : Nat) (h : Fin 16) (ok : Bool) (s : State) (rate lanes : Nat) (l : List (Nat × Nat))
    (ht : (s.head h.val).link.training = true) (hq : (s.head h.val).link.tries = (rate, lanes) :: l) :
    exec (.linkTrainingDone t h ok) s =
      if ok then .next (((s.at t).dropToken .training h.val).linkUp h.val rate lanes)
      else .next ((((s.at t).dropToken .training h.val).count (Reg.headLinkFails h.val) 1).trainFail h.val) := by
  show execLinkTrainingDone t h ok s = _
  unfold execLinkTrainingDone
  simp only [State.at_head, ht, hq]

/-- Settles O19: each latch is the shot of its epoch; the rest reads the head and the pair after the frame that was shown. -/
theorem latchesTakeShots : Obligations.LatchesTakeShots := by
  intro t h s hr
  refine ⟨fun phase bad e hc he hl ha => ?_, fun line bad hc hm hf => ?_, fun bad hc hi hl => ?_, fun hd => scanoutStart_due t h s hr hd,
    fun fetched latent hb hc => signatureBlockSend_shown t h fetched latent s hr hb hc⟩
  · exact gives_of_next rfl ((s.at t).latchLocked_epoch h.val e phase bad hr hc he hl ha)
  · obtain ⟨r, hm, hn⟩ := hm
    exact gives_of_next rfl ((s.at t).latchReady_fits h.val line bad hr hc ((s.at t).isReady_of_mem h.val r hm hn) hf)
  · exact gives_of_next rfl ((s.at t).latchForced_late h.val bad hr hc hi hl)

/-- Settles O20: the link of the head is written by the command's own update, and training asks for nothing but its tries. -/
theorem headLinksTrain : Obligations.HeadLinksTrain := by
  intro t h s
  refine ⟨fun r hw hh => ?_, fun hh => ?_, fun hh => ?_, fun hh ht => ?_, fun hk ht hq => ?_, fun rate lanes l ht hq => ?_,
    fun hd hh ht ha => ?_⟩
  · exact hpdPresent_found t h r s hw hh
  · exact hpdGone_forgets t h s hh
  · refine gives_of_next (w := (s.at t).count (Reg.headHpdIrqs h.val) 1) ?_ rfl
    exact (if_pos hh).trans (if_neg (by simp))
  · exact irqHpd_failed t h s hh ht
  · exact linkTrainingAttempt_tries t h s hk ht hq
  · constructor
    · refine gives_of_next (linkTrainingDone_try t h true s rate lanes l ht hq) ?_
      obtain ⟨h1, h2, h3⟩ := ((s.at t).dropToken .training h.val).linkUp_link h.val rate lanes
      exact ⟨h1, h2, h3, ((s.at t).dropToken .training h.val).linkUp_raises h.val rate lanes⟩
    · refine gives_of_next (linkTrainingDone_try t h false s rate lanes l ht hq) ?_
      simpa using (((s.at t).dropToken .training h.val).count (Reg.headLinkFails h.val) 1).trainFail_link h.val
  · exact gives_of_next (if_pos ⟨hd, hh, by simpa using ht, ha⟩) rfl

end Sys2Proof.Machine
end

section
/-! A head's raster, fetch levels, background and safelight planes (R219 to R223, R243, R250, R251); the mediator's window generation and
the coefficient banks (R202, R205, R216). -/

namespace Sys2Proof.Machine

open Sys2Proof.Safety

/-! ## The raster -/

theorem State.headTo_head (s : State) (h : Nat) (st : HeadState) : (s.headTo h st).head h = { s.head h with state := st } := by
  unfold State.headTo
  dsimp only
  split
  next he => rw [← he]
  · simp

theorem State.headTo_raises (s : State) (h : Nat) (st : HeadState) (hs : (s.head h).state ≠ st) :
    raises .headState h [(s.head h).state.code, st.code] s (s.headTo h st) := by
  unfold State.headTo
  rw [if_neg hs]
  exact raises_emit_self _ _ _ _ _ (by simp)

@[simp] theorem State.syncedPorts_heads (s : State) (h : Nat) (f : Touch → Touch) : (s.syncedPorts h f).heads = s.heads := rfl
@[simp] theorem State.syncedPorts_events (s : State) (h : Nat) (f : Touch → Touch) : (s.syncedPorts h f).events = s.events := rfl
@[simp] theorem State.syncedPorts_head (s : State) (h : Nat) (f : Touch → Touch) (i : Nat) : (s.syncedPorts h f).head i = s.head i := rfl

@[simp] theorem State.settleAll_heads (s : State) : (State.settleAll s).heads = s.heads :=
  (congrArg State.heads (State.settleAll_outside { Mask.full with heads := false } s (by simp [Mask.full])) :)
@[simp] theorem State.settleAll_head (s : State) (i : Nat) : (State.settleAll s).head i = s.head i := by
  simp [State.head]
@[simp] theorem State.finishSwitch_heads (s : State) : (State.finishSwitch s).heads = s.heads :=
  (congrArg State.heads (State.finishSwitch_outside { Mask.full with heads := false } s (by simp [Mask.full])) :)
@[simp] theorem State.finishSwitch_head (s : State) (i : Nat) : (State.finishSwitch s).head i = s.head i := by
  simp [State.head]

/-- A head but for its link. -/
theorem State.enableStream_linkOnly (s : State) (h : Nat) : ∃ k, (s.enableStream h).head h = { s.head h with link := k } := by
  unfold State.enableStream
  extract_lets x noAsync dpcd k u
  have hu : ∃ k, u.head h = { s.head h with link := k } := ⟨_, State.setHead_self ..⟩
  split
  · simpa using hu
  · exact hu

/-- The stream that a raster starts or the training it asks for changes the head's link alone. -/
theorem State.retrain_linkOnly (s : State) (h : Nat) : ∃ k, ((s.untrain h).askTraining h).head h = { s.head h with link := k } := by
  obtain ⟨a, b, c, hw⟩ := (s.untrain h).askTraining_head h
  rw [hw, State.untrain_head]
  exact ⟨_, rfl⟩

theorem State.retrain_prefix (s : State) (h : Nat) : s.events <+: ((s.untrain h).askTraining h).events := by
  simpa using (s.untrain h).askTraining_prefix h

theorem headRasterStart_due (t : Nat) (h : Fin 16) (s : State) (hs : (s.head h.val).state = .starting)
    (hd : (if (s.head h.val).cfg.ready then ceilDiv ((s.head h.val).admittedAt + 2000000) 1000 * 1000
      else epochAtOrAfter (s.head h.val).cfg.t0 (s.head h.val).cfg.period ((s.head h.val).admittedAt + 2000000)) ≤ (s.at t).now) :
    gives (.headRasterStart t h) s (fun w => (w.head h.val).state = .run ∧ (w.head h.val).frames = 0 ∧
      (w.head h.val).cur = {} ∧ raises .headState h.val [HeadState.starting.code, HeadState.run.code] s w) := by
  show ∃ w, execHeadRasterStart t h s = .next w ∧ _
  unfold execHeadRasterStart
  extract_lets u x a due synced y begun running k
  have hbegun : begun.head h.val = { (synced.setHead h.val _).head h.val with state := .run } := State.headTo_head ..
  rw [State.setHead_self] at hbegun
  have hraise : raises .headState h.val [HeadState.starting.code, HeadState.run.code] s begun := by
    have h0 := State.headTo_raises (synced.setHead h.val { y with
      frames := 0, lastEpoch := none, shotDue := false, latched := false, blank := false, phaseOk := true, phase := 0,
      readyAt := if x.cfg.ready then [synced.now] else [], pipes := [], cur := {}, next := {} }) h.val .run
      (by simp [y, synced, u, hs])
    obtain ⟨l, e, hl, he⟩ := h0
    exact ⟨l, e, hl.trans (by simp [synced, u]), by simpa [y, synced, u, hs] using he⟩
  have hrun : running.head h.val = begun.head h.val := State.syncedPorts_head ..
  have hraised := raises_of_events hraise (w := running) (State.syncedPorts_events ..)
  rw [hbegun] at hrun
  rw [if_pos ⟨hs, hd⟩]
  clear_value running
  split
  · obtain ⟨k', hw⟩ := running.enableStream_linkOnly h.val
    refine ⟨_, rfl, ?_⟩
    rw [hw, hrun]
    exact ⟨rfl, rfl, rfl, raises_of_prefix hraised (State.enableStream_prefix running h.val)⟩
  · obtain ⟨k', hw⟩ := running.retrain_linkOnly h.val
    refine ⟨_, rfl, ?_⟩
    rw [hw, hrun]
    exact ⟨rfl, rfl, rfl, raises_of_prefix hraised (State.retrain_prefix running h.val)⟩

/-- Stopping the raster keeps the head's state, its timings and whether it is admitted. -/
theorem State.stopRaster_head (s : State) (h : Nat) : ((s.stopRaster h).head h).state = (s.head h).state ∧
    ((s.stopRaster h).head h).cfg = (s.head h).cfg ∧ ((s.stopRaster h).head h).nextCfg = (s.head h).nextCfg := by
  unfold State.stopRaster
  extract_lets synced x bit cleared y bare ports ended
  have hc : cleared.heads = s.heads := by
    refine (foldl_same State.heads _ (fun u r => State.modFrame_heads ..) _ _).trans ?_
    simp [synced]
  have he : (ports.foldl (fun u p => u.emit .tchSyncLost p []) ended).settleAll.heads = bare.heads :=
    (State.settleAll_heads _).trans
      ((foldl_same State.heads _ (fun u p => State.emit_heads ..) ports ended).trans (State.syncedPorts_heads ..))
  have hb : bare.head h = { y with
      views := [], prefetch := [], levels := [], cur := {}, next := {}, shotDue := false, latched := false,
      readyAt := [], pipes := [], released := [], given := [] } := State.setHead_self ..
  have hy : y = s.head h := by simp only [y, State.head, hc]
  simp only [State.head] at hb hy ⊢
  rw [he, hb, hy]
  exact ⟨rfl, rfl, rfl⟩

theorem headRasterStop_next (t : Nat) (h : Fin 16) (s : State) (c : HeadCfg) (hs : (s.head h.val).state = .run)
    (hn : (s.head h.val).nextCfg = some c) :
    gives (.headRasterStop t h) s (fun w => (w.head h.val).state = .starting ∧ (w.head h.val).cfg = c ∧
      (w.head h.val).nextCfg = none) := by
  refine gives_of_next (w := (((s.at t).stopRaster h.val).setHead h.val
    { ((s.at t).stopRaster h.val).head h.val with cfg := c, nextCfg := none }).headTo h.val .starting) ?_ ?_
  · show execHeadRasterStop t h s = _
    unfold execHeadRasterStop
    dsimp only
    rw [if_pos ⟨hs, by simp [hn]⟩]
    simp only [State.at_head, hn]
  · simp [State.headTo_head]

/-- A head keeps its state and its timings when a generation switch that waits for it is settled. -/
theorem State.settleHead_cfg (s : State) (h : Nat) : ((s.settleHead h).head h).state = (s.head h).state ∧
    ((s.settleHead h).head h).cfg = (s.head h).cfg := by
  unfold State.settleHead
  split
  · simp [State.switchHead, State.dropViews]
  · exact ⟨rfl, rfl⟩

theorem headRasterStop_off (t : Nat) (h : Fin 16) (s : State) (hs : (s.head h.val).state = .run)
    (hn : (s.head h.val).nextCfg = none) (ha : (s.head h.val).admitted = false) :
    gives (.headRasterStop t h) s (fun w => (w.head h.val).state = .off ∧ (w.head h.val).cfg = {}) := by
  refine gives_of_next (w := ((((((s.at t).stopRaster h.val).setHead h.val
    { ((s.at t).stopRaster h.val).head h.val with cfg := {} }).headTo h.val .off).untrain h.val).dropToken .training
      h.val).settleHead h.val) ?_ ?_
  · show execHeadRasterStop t h s = _
    unfold execHeadRasterStop
    dsimp only
    rw [if_pos ⟨hs, by simp [ha]⟩]
    simp only [State.at_head, hn]
  · rw [(State.settleHead_cfg ..).1, (State.settleHead_cfg ..).2, State.dropToken_head, State.untrain_head, State.headTo_head]
    simp

/-! ## Fetch levels -/

theorem State.firstMissing_setLevels (s : State) (h p : Nat) (l : Tab Nat) (z : Shot) (b : List BufLine) :
    (s.setHead h { s.head h with levels := l }).firstMissing h p z b = s.firstMissing h p z b := by
  have hneeds : (s.setHead h { s.head h with levels := l }).needs = s.needs := rfl
  have hahead : ∀ d, (s.setHead h { s.head h with levels := l }).rowsAhead h z d = s.rowsAhead h z d := by
    intro d
    simp only [State.rowsAhead, State.visibleRows, State.visible, State.activeRect, State.setHead_self]
    rfl
  simp only [State.firstMissing, hahead, hneeds]

/-- The level that a pipe's queues ask for does not depend on the levels noted. -/
theorem State.pipeLevel_setLevels (s : State) (h p : Nat) (l : Tab Nat) :
    (s.setHead h { s.head h with levels := l }).pipeLevel h p = s.pipeLevel h p := by
  simp only [State.pipeLevel, State.lookahead, State.setHead_self, State.firstMissing_setLevels, State.setHead_reg]
  rfl

theorem State.pipeLevel_idle (s : State) (h p : Nat) (hw : pipeWins (s.head h).cur p = []) (hd : (s.head h).shotDue = false) :
    s.pipeLevel h p = 0 := by
  simp [State.pipeLevel, hw, hd]

@[simp] theorem State.recUnderrun_heads (s : State) (h : Nat) : (State.recUnderrun s h).heads = s.heads :=
  (congrArg State.heads (State.recUnderrun_outside { Mask.full with heads := false } s h (by simp [Mask.full])) :)
@[simp] theorem State.recUnderrun_head (s : State) (h : Nat) (i : Nat) : (State.recUnderrun s h).head i = s.head i := by
  simp [State.head]

/-! ## Safelight -/

theorem applySafe_queue (x : Safelight) (p : SafePending) (h : Nat) : (applySafe x p h).queue = x.queue := by
  unfold applySafe
  extract_lets y
  have hy : y.queue = x.queue := by
    simp only [y]
    split
    · rfl
    · exact foldl_same (f := fun (x : Safelight) (g : Nat × List (BitVec 4)) => { x with
        glyphs := (g.2.zip (List.range 1024)).foldl (fun t q => Tab.set 0 t (1024 * g.1 + q.2) q.1) x.glyphs })
        Safelight.queue (fun _ _ => rfl) _ _
  exact hy

/-- Once a head's requests are applied, none of them is due at it. -/
theorem State.applyDue_none (s : State) (h : Fin 16) (e : Nat) :
    (s.applyDue h.val e).safe.queue.all (fun p => !safeDue p h.val e) = true := by
  have hbit : ∀ k : Fin 16, (~~~(BitVec.ofNat 16 (2 ^ k.val))).getLsbD k.val = false := by decide
  rw [List.all_eq_true]
  intro p hp
  simp only [State.applyDue, State.count_safe, State.headCount_safe, List.mem_filter, List.mem_map] at hp
  obtain ⟨⟨q, hq, rfl⟩, -⟩ := hp
  split
  · simp only [safeDue, BitVec.getLsbD_and, hbit h, Bool.and_false, Bool.false_and, Bool.not_false]
  next hd => simpa using hd

/-- Settles O21: the raster's commands write the head, and what follows them (training, a switch) leaves its state and timings. -/
theorem headRasterAndOverlays : Obligations.HeadRasterAndOverlays := by
  intro t h s
  refine ⟨fun hs hd => headRasterStart_due t h s hs hd, fun c hs hn => headRasterStop_next t h s c hs hn,
    fun hs hn ha => headRasterStop_off t h s hs hn ha, fun pipe lines spans => ?_, fun pipe hw hd => ?_, fun pipe x y hs => ?_,
    fun v hs => ?_, ?_, ?_⟩
  · refine gives_of_next rfl ?_
    rw [State.setHead_self, State.pipeLevel_setLevels]
    exact Tab.get_set_self ..
  · refine gives_of_next rfl ?_
    rw [State.setHead_self]
    simp only [Tab.get_set_self, List.any_nil, Bool.and_false, Bool.false_eq_true, if_false, List.foldl_nil]
    exact State.pipeLevel_idle _ _ _ (by simpa using hw) (by simpa using hd)
  · refine gives_of_next (if_pos hs) ?_
    unfold State.underrunPixel
    extract_lets a first k marked counted
    split <;> simp [counted, marked, a]
  · refine gives_of_next rfl ?_
    rw [State.setHead_self]
    simp [hs]
  · refine gives_of_next rfl ⟨?_, ?_⟩
    · rw [State.setHead_self]
      rfl
    · exact (s.at t).applyDue_none h _
  · exact gives_of_next rfl rfl

end Sys2Proof.Machine
end

section
/-! The mediator's window generation and the coefficient banks (R202, R205, R216). -/

namespace Sys2Proof.Machine

open Sys2Proof.Safety

/-! ## The two generations -/

theorem WinTable.gen_setGen_self (w : WinTable) (g : Bool) (x : Tab (BitVec 512)) : WinTable.gen (WinTable.setGen w g x) g = x := by
  cases g <;> rfl

theorem WinTable.gen_setGen_not (w : WinTable) (g : Bool) (x : Tab (BitVec 512)) :
    WinTable.gen (WinTable.setGen w (!g) x) g = WinTable.gen w g := by
  cases g <;> rfl

theorem WinTable.queued_setGen (w : WinTable) (g : Bool) (x : Tab (BitVec 512)) : (WinTable.setGen w g x).queued = w.queued := by
  cases g <;> rfl

theorem State.copyShadow_gen (s : State) :
    WinTable.gen s.copyShadow.win (!s.win.active) = WinTable.gen s.win s.win.active :=
  WinTable.gen_setGen_self s.win (!s.win.active) _

/-- Word `j` of a descriptor as a write of one word leaves it, with `m` the word's mask. -/
theorem extract_word_write (d : BitVec 512) (v : BitVec 32) (i j : Fin 16) :
    ((d &&& ~~~(BitVec.ofNat 512 (0xFFFFFFFF * 2 ^ (32 * j.val)))) ||| BitVec.ofNat 512 (v.toNat * 2 ^ (32 * j.val))).extractLsb'
      (32 * i.val) 32 = if i = j then v else d.extractLsb' (32 * i.val) 32 := by
  have hmask : ∀ p : Nat, Nat.testBit (0xFFFFFFFF * 2 ^ (32 * j.val)) p = (decide (32 * j.val ≤ p) && decide (p - 32 * j.val < 32)) :=
    fun p => by rw [show 0xFFFFFFFF = 2 ^ 32 - 1 from rfl, Nat.testBit_mul_two_pow, Nat.testBit_two_pow_sub_one]
  have hword : ∀ p : Nat, Nat.testBit (v.toNat * 2 ^ (32 * j.val)) p = (decide (32 * j.val ≤ p) && v.getLsbD (p - 32 * j.val)) :=
    fun p => by rw [Nat.testBit_mul_two_pow, BitVec.testBit_toNat]
  refine BitVec.eq_of_getLsbD_eq fun b hb => ?_
  have hlt : 32 * i.val + b < 512 := by omega
  simp only [BitVec.getLsbD_extractLsb', BitVec.getLsbD_or, BitVec.getLsbD_and, BitVec.getLsbD_not, BitVec.getLsbD_ofNat, hmask, hword,
    hlt, hb, decide_true, Bool.true_and]
  by_cases hij : i = j
  · subst hij
    simp [hb]
  · have hne : i.val ≠ j.val := fun h => hij (Fin.ext h)
    rw [if_neg hij, BitVec.getLsbD_extractLsb']
    rcases Nat.lt_or_ge (32 * i.val + b) (32 * j.val) with h | h
    · simp [hb, Nat.not_le.mpr h]
    · have hout : 32 ≤ 32 * i.val + b - 32 * j.val := by omega
      simp [hb, h, Nat.not_lt.mpr hout, BitVec.getLsbD_of_ge _ _ hout]

theorem State.writeShadow_word (s : State) (k : Nat) (x : BitVec 512) :
    Tab.get 0 (WinTable.gen (s.writeShadow [(k, x)]).win (!s.win.active)) k = x := by
  simp only [State.writeShadow, WinTable.gen_setGen_self, List.foldl_cons, List.foldl_nil, Tab.get_set_self]

theorem State.writeShadow_active (s : State) (l : List (Nat × BitVec 512)) :
    WinTable.gen (s.writeShadow l).win s.win.active = WinTable.gen s.win s.win.active :=
  WinTable.gen_setGen_not ..

/-! ## Coefficient banks -/

@[simp] theorem State.banksOf_setBanks (s : State) (u : CoefUnit) (b : Banks) : (s.setBanks u b).banksOf u = b := by
  cases u <;> simp [State.setBanks, State.banksOf]

@[simp] theorem State.banksOf_at (s : State) (t : Nat) (u : CoefUnit) : (s.at t).banksOf u = s.banksOf u := by
  cases u <;> rfl

theorem openRefused_at (s : State) (t : Nat) (u : CoefUnit) (b : Nat) : (s.at t).openRefused u b = s.openRefused u b := rfl

/-- Settles O22: the shadow is the generation that is not active, and a bank's tables are kept half-word by half-word. -/
theorem windowTableAndBanks : Obligations.WindowTableAndBanks := by
  intro t s
  refine ⟨fun hr hs => ?_, fun ho => ?_, fun hc hq => ?_, fun hc hq => ?_, fun k j v ho => ?_, fun u b h => ?_, fun u b k v ho hk => ?_,
    fun u b hv hp => ?_, fun u b q hv hp => ?_⟩
  · exact gives_of_next (if_pos ⟨hr, by rw [show (s.at t).salvoGen = s.salvoGen from rfl, hs]; simp⟩) rfl
  · refine gives_of_next (if_pos ho) ?_
    unfold State.restoreShadow
    split
    next h => exact (if_pos h).symm
    next h => exact (if_neg h).symm
  · refine gives_of_next (w := (s.at t).copyShadow) ?_ ⟨rfl, rfl, (s.at t).copyShadow_gen⟩
    show execGenShadowCopyComplete t s = _
    simp [execGenShadowCopyComplete, hc, State.copyShadow, WinTable.queued_setGen, hq]
  · refine gives_of_next (w := (s.at t).copyShadow) ?_ ⟨rfl, rfl, (s.at t).copyShadow_gen⟩
    show execShadowRestoreComplete t s = _
    simp [execShadowRestoreComplete, hc, State.copyShadow, WinTable.queued_setGen, hq]
  · refine gives_of_next (if_neg (by simp [ho])) ⟨?_, fun i hi => ?_, (s.at t).writeShadow_active _⟩
    · rw [show s.win = (s.at t).win from rfl, State.writeShadow_word, extract_word_write, if_pos rfl]
    · rw [show s.win = (s.at t).win from rfl, State.writeShadow_word, extract_word_write, if_neg hi]
  · refine gives_of_next (if_neg (by simp [openRefused_at, h])) ?_
    simp [Tab.get_set_self]
  · refine gives_of_next ((if_pos (by simpa using ho)).trans (if_neg hk)) ?_
    rw [State.banksOf_setBanks]
    refine ⟨?_, Tab.get_set_self ..⟩
    rw [Tab.get_set_other _ _ _ _ _ _ (by omega), Tab.get_set_self]
  · refine gives_of_next (w := (s.at t).setBanks u { s.banksOf u with
      state := Tab.set .valid (s.banksOf u).state b.val .valid,
      hash := Tab.set none (s.banksOf u).hash b.val (some (bankHash (s.banksOf u) b.val)) }) ?_ ?_
    · show execCoefSeal t u b s = _
      simp [execCoefSeal, hv, hp]
    · simp [Tab.get_set_self]
  · refine gives_of_next (w := (s.at t).setBanks u { s.banksOf u with
      state := Tab.set .valid (s.banksOf u).state b.val .sealFailed, errTable := q.1, errPhase := q.2 }) ?_ ?_
    · show execCoefSeal t u b s = _
      simp [execCoefSeal, hv, hp]
    · simp [Tab.get_set_self]

end Sys2Proof.Machine
end

section
/-! Decode parts start, advance row by row, wait on a page and resume; a starved job faults its context (R180 to R184). -/

namespace Sys2Proof.Machine

open Sys2Proof.Safety

/-! ## Cores -/

@[simp] theorem State.at_corePart (s : State) (t k : Nat) : (s.at t).corePart k = s.corePart k := rfl
@[simp] theorem State.at_poolHost (s : State) (t n : Nat) : (s.at t).poolHost n = s.poolHost n := rfl
@[simp] theorem State.at_vpnMapped (s : State) (t : Nat) (o : Option Nat) (v : Nat) : (s.at t).vpnMapped o v = s.vpnMapped o v := rfl

theorem State.corePart_some (s : State) (k n part : Nat) (p : Picture) (hj : (s.core k).job = some (n, part))
    (hp : (s.ctx n).picture = some p) : s.corePart k = some (n, part, p) := by
  simp [State.corePart, hj, hp]

@[simp] theorem State.restCore_ctxs (s : State) (k : Nat) : (State.restCore s k).ctxs = s.ctxs :=
  (congrArg State.ctxs (State.restCore_outside { Mask.full with ctxs := false } s k (by simp [Mask.full])) :)
@[simp] theorem State.restCore_ctx (s : State) (k : Nat) (i : Nat) : (State.restCore s k).ctx i = s.ctx i := by
  simp [State.ctx]
@[simp] theorem State.engineFault_ctxs (s : State) (owner : Option Nat) (va unit : Nat) (write : Bool) :
    (State.engineFault s owner va unit write).ctxs = s.ctxs :=
  (congrArg State.ctxs (State.engineFault_outside { Mask.full with ctxs := false } s owner va unit write (by simp [Mask.full])) :)
@[simp] theorem State.engineFault_ctx (s : State) (owner : Option Nat) (va unit : Nat) (write : Bool) (i : Nat) :
    (State.engineFault s owner va unit write).ctx i = s.ctx i := by
  simp [State.ctx]
@[simp] theorem State.engineFault_cores (s : State) (owner : Option Nat) (va unit : Nat) (write : Bool) :
    (State.engineFault s owner va unit write).cores = s.cores :=
  (congrArg State.cores (State.engineFault_outside { Mask.full with cores := false } s owner va unit write
    (by simp [Mask.full])) :)
@[simp] theorem State.engineFault_core (s : State) (owner : Option Nat) (va unit : Nat) (write : Bool) (i : Nat) :
    (State.engineFault s owner va unit write).core i = s.core i := by
  simp [State.core]
@[simp] theorem State.dropToken_cores (s : State) (h : TokenHolder) (u : Nat) : (State.dropToken s h u).cores = s.cores :=
  (congrArg State.cores (State.dropToken_outside { Mask.full with cores := false } s h u (by simp [Mask.full])) :)
@[simp] theorem State.dropToken_core (s : State) (h : TokenHolder) (u : Nat) (i : Nat) :
    (State.dropToken s h u).core i = s.core i := by
  simp [State.core]
@[simp] theorem State.idleCore_ctxs (s : State) (k : Nat) : (State.idleCore s k).ctxs = s.ctxs :=
  (congrArg State.ctxs (State.idleCore_outside { Mask.full with ctxs := false } s k (by simp [Mask.full])) :)
@[simp] theorem State.idleCore_ctx (s : State) (k : Nat) (i : Nat) : (State.idleCore s k).ctx i = s.ctx i := by
  simp [State.ctx]

/-- A part put on a core runs there. -/
theorem State.runPart_core (s : State) (n part k : Nat) : ((s.runPart n part k).core k).state = .run ∧
    ((s.runPart n part k).core k).job = some (n, part) := by
  unfold State.runPart
  extract_lets u x v
  split <;> simp [v]

/-- The part that is put on a core is the picture's running part there. -/
theorem State.runPart_picture (s : State) (n part k : Nat) (p : Picture) (hp : (s.ctx n).picture = some p) :
    ((s.runPart n part k).ctx n).picture = some { p with
      parts := p.parts.map (fun q => if q.part = part then { q with core := k, state := .running } else q) } := by
  unfold State.runPart
  extract_lets u x v
  have hv : (v.ctx n).picture = some p := by simpa [v, u] using hp
  rw [hv]
  simp

/-- A core without work and not isolated rests: it does not run, and keeps the pictures saved on it. -/
theorem State.restCore_core (s : State) (k : Nat) (hj : (s.core k).job = none) (hi : (s.core k).state ≠ .isolated) :
    ((s.restCore k).core k).state ≠ .run ∧ ((s.restCore k).core k).job = none ∧ ((s.restCore k).core k).saved = (s.core k).saved := by
  unfold State.restCore
  extract_lets u c page token
  have hc : c = s.core k := State.syncCore_core ..
  rw [if_neg (by simp [hc, hj, hi])]
  split
  · simp [hc, hj]
  · split <;> simp [hc, hj]

theorem State.idleCore_core (s : State) (k : Nat) (hi : (s.core k).state ≠ .isolated) :
    ((s.idleCore k).core k).state ≠ .run ∧ ((s.idleCore k).core k).job = none ∧ ((s.idleCore k).core k).saved = (s.core k).saved := by
  unfold State.idleCore
  extract_lets u x
  obtain ⟨h1, h2, h3⟩ := (u.setCore k { x with job := none }).restCore_core k (by simp) (by simpa [x, u] using hi)
  exact ⟨h1, h2, by simpa [x, u] using h3⟩

/-! ## The commands -/

theorem decodeRowComplete_ready (t : Nat) (k : Fin 16) (n part : Nat) (p : Picture) (d : RowDone) (s : State)
    (hj : (s.core k.val).job = some (n, part)) (hp : (s.ctx n).picture = some p) (hr : (s.core k.val).state = .run)
    (hw : p.parts.any (fun q => q.part == part && wppReady (Ctx.net (s.ctx n)) p q) = true) :
    exec (.decodeRowComplete t k d) s = .next (if d.last then (s.at t).rowComplete k.val n part p d
      else ((s.at t).rowComplete k.val n part p d).preempt k.val n part) := by
  show execDecodeRowComplete t k d s = _
  simp only [execDecodeRowComplete, State.at_corePart, s.corePart_some k.val n part p hj hp]
  exact if_pos ⟨hr, hw⟩

theorem decodePageFault_page (t : Nat) (k : Fin 16) (n part va : Nat) (p : Picture) (s : State)
    (hj : (s.core k.val).job = some (n, part)) (hp : (s.ctx n).picture = some p) (hr : (s.core k.val).state = .run) :
    gives (.decodePageFault t ⟨k, .page va⟩) s (fun w => (w.core k.val).state ≠ .run ∧ (w.core k.val).job = none ∧
      (w.core k.val).saved = n :: (s.core k.val).saved ∧ ∃ q, (w.ctx n).picture = some q ∧
        ∀ y ∈ q.parts, y.part = part → y.state = .page ∧ y.vpn = va / 2097152) := by
  show ∃ w, execDecodePageFault t ⟨k, .page va⟩ s = .next w ∧ _
  simp only [execDecodePageFault, State.at_corePart, s.corePart_some k.val n part p hj hp]
  refine ⟨_, if_pos hr, ?_⟩
  rw [State.engineFault_core, State.engineFault_ctx, State.idleCore_ctx]
  refine ⟨(State.idleCore_core _ k.val (by simp [hr])).1, (State.idleCore_core _ k.val (by simp [hr])).2.1,
    (State.idleCore_core _ k.val (by simp [hr])).2.2.trans (by simp), _, by simp; rfl, ?_⟩
  intro z hz hpart
  simp only [List.mem_map] at hz
  obtain ⟨x, -, rfl⟩ := hz
  split at hpart <;> simp_all

theorem decodeFaultResume_mapped (t : Nat) (n : Fin 160) (part : Fin 4) (p : Picture) (y : PicPart) (s : State)
    (hp : (s.ctx n.val).picture = some p) (hy : p.parts.find? (fun q => q.part == part.val) = some y) (hs : y.state = .page)
    (hm : s.vpnMapped (s.poolHost n.val) y.vpn = true) :
    gives (.decodeFaultResume t n part) s (fun w => ∃ z, (w.ctx n.val).picture = some z ∧ ∀ v ∈ z.parts, v.part = part.val →
      v.state = .saved ∨ (v.state = .running ∧ (w.core y.core).job = some (n.val, part.val))) := by
  show ∃ w, execDecodeFaultResume t n part s = .next w ∧ _
  simp only [execDecodeFaultResume, State.at_ctx, hp, hy]
  rw [if_pos ⟨hs, hm⟩]
  split
  · refine ⟨_, rfl, ?_⟩
    rw [(State.runPart_core _ n.val part.val y.core).2]
    refine ⟨_, State.runPart_picture _ _ _ _ _ (by simp; rfl), fun v hv hpart => .inr ⟨?_, rfl⟩⟩
    simp only [List.mem_map] at hv
    obtain ⟨x, -, rfl⟩ := hv
    split at hpart <;> simp_all
  · refine ⟨_, rfl, _, by simp; rfl, fun v hv hpart => .inl ?_⟩
    simp only [List.mem_map] at hv
    obtain ⟨x, -, rfl⟩ := hv
    split at hpart <;> simp_all

/-- Settles O24: a part's core and picture are written by the command itself; what follows (rest, events, slots) leaves them. -/
theorem decodeJobsAdvance : Obligations.DecodeJobsAdvance := by
  intro t s
  refine ⟨fun n part d x b hs hd => ?_, fun n part k _ => s.runPart_core n part k, fun k n part p d hj hp hr hw => ?_,
    fun k n part va p hj hp hr => decodePageFault_page t k n part va p s hj hp hr,
    fun n part p y hp hy hs => ⟨fun hm => decodeFaultResume_mapped t n part p y s hp hy hs hm, fun hm => ?_⟩,
    fun n u l hp hj hu hf hd hs => ?_⟩
  · refine gives_of_next ?_ rfl
    show execDecodeJobStart t n part x b s = _
    simp only [execDecodeJobStart, State.at_ctx, hs, hd]
  · exact gives_of_next (decodeRowComplete_ready t k n part p d s hj hp hr hw) rfl
  · refine gives_of_next ?_ rfl
    show execDecodeFaultResume t n part s = _
    simp only [execDecodeFaultResume, State.at_ctx, hp, hy]
    exact if_neg (by simp [hm])
  · refine gives_of_next ?_ rfl
    show execDecodePoolTimeout t n s = _
    simp only [execDecodePoolTimeout, State.at_ctx, hp, hj]
    exact if_pos ⟨hu, hf, hd⟩

end Sys2Proof.Machine
end

section
/-! Lanes train, come up, time out, slip and lose alignment (R151 to R157). -/

namespace Sys2Proof.Machine

open Sys2Proof.Safety

/-! ## Updates of the lanes of a bond, one after another -/

section
variable {f : State → Nat → State}

theorem foldl_lane_other (h : ∀ s k j, j ≠ k → (f s k).lane j = s.lane j) (l : List Nat) (s : State) (j : Nat) (hj : j ∉ l) :
    (l.foldl f s).lane j = s.lane j := by
  induction l generalizing s with
  | nil => rfl
  | cons a t ih =>
    rw [List.mem_cons, not_or] at hj
    rw [List.foldl_cons, ih _ hj.2, h _ _ _ hj.1]

/-- A property of one lane that its own update gives, and that its own update keeps, holds once the bond's lanes are done. -/
theorem foldl_lane_mem (h : ∀ s k j, j ≠ k → (f s k).lane j = s.lane j) (l : List Nat) (s : State) (j : Nat) (hj : j ∈ l) (P : Lane → Prop)
    (hgive : ∀ u, u.lane j = s.lane j → P ((f u j).lane j)) (hkeep : ∀ u, P (u.lane j) → P ((f u j).lane j)) :
    P ((l.foldl f s).lane j) := by
  obtain ⟨a, b, rfl, ha⟩ := List.eq_append_cons_of_mem hj
  rw [List.foldl_append, List.foldl_cons]
  refine List.foldlRecOn (motive := fun u : State => P (u.lane j)) b f (hgive _ (foldl_lane_other h a s j ha)) fun u hu k _ => ?_
  by_cases hk : j = k
  · subst hk
    exact hkeep u hu
  · rwa [h u k j hk]

theorem foldl_lane_keeps (l : List Nat) (s : State) (j : Nat) (P : Lane → Prop) (hP : P (s.lane j))
    (hkeep : ∀ u k, P (u.lane j) → P ((f u k).lane j)) : P ((l.foldl f s).lane j) :=
  List.foldlRecOn (motive := fun u : State => P (u.lane j)) l f hP fun u hu k _ => hkeep u k hu

theorem foldl_prefix (h : ∀ s k, s.events <+: (f s k).events) (l : List Nat) (s : State) : s.events <+: (l.foldl f s).events :=
  List.foldlRecOn (motive := fun u : State => s.events <+: u.events) l f List.prefix_rfl fun u hu k _ => hu.trans (h u k)

end

theorem raises_of_prior {k : EvKind} {i : Nat} {p : List Int} {s u w : State} (e : s.events <+: u.events) (h : raises k i p u w) :
    raises k i p s w := by
  obtain ⟨l, x, hl, hx, rest⟩ := h
  obtain ⟨m, hm⟩ := e
  exact ⟨m ++ l, x, by rw [hl, ← hm, List.append_assoc], List.mem_append_right m hx, rest⟩

@[simp] theorem State.dropToken_lanes (s : State) (h : TokenHolder) (u : Nat) : (State.dropToken s h u).lanes = s.lanes :=
  (congrArg State.lanes (State.dropToken_outside { Mask.full with lanes := false } s h u (by simp [Mask.full])) :)
@[simp] theorem State.dropToken_lane (s : State) (h : TokenHolder) (u : Nat) (i : Nat) :
    (State.dropToken s h u).lane i = s.lane i := by
  simp [State.lane]
@[simp] theorem State.askToken_lanes (s : State) (h : TokenHolder) (u : Nat) : (State.askToken s h u).lanes = s.lanes :=
  (congrArg State.lanes (State.askToken_outside { Mask.full with lanes := false } s h u (by simp [Mask.full])) :)
@[simp] theorem State.askToken_lane (s : State) (h : TokenHolder) (u : Nat) (i : Nat) :
    (State.askToken s h u).lane i = s.lane i := by
  simp [State.lane]

theorem State.laneTo_lane_self (s : State) (l : Nat) (x : LaneState) : (s.laneTo l x).lane l = { s.lane l with state := x } := by
  unfold State.laneTo
  dsimp only
  split
  next h => rw [← h]
  · simp

theorem State.laneTo_lane_other (s : State) (l j : Nat) (x : LaneState) (h : j ≠ l) : (s.laneTo l x).lane j = s.lane j := by
  unfold State.laneTo
  dsimp only
  split
  · rfl
  · rw [State.emit_lane, State.setLane_other _ _ _ _ h]

theorem State.laneTo_prefix (s : State) (l : Nat) (x : LaneState) : s.events <+: (s.laneTo l x).events := by
  unfold State.laneTo
  dsimp only
  split
  · exact List.prefix_rfl
  · exact State.emit_prefix _ _ _ (by simp)

theorem State.laneTo_raises (s : State) (l : Nat) (x : LaneState) (h : (s.lane l).state ≠ x) :
    raises .laneState l [(s.lane l).state.code, x.code] s (s.laneTo l x) := by
  unfold State.laneTo
  rw [if_neg h]
  exact raises_emit_self _ _ _ _ _ (by simp)

/-! ## A bond comes up -/

/-- One lane of a bond that comes up (R155). -/
def State.laneUp (s : State) (k : Nat) : State :=
  ((s.setLane k { (s.lane k).txStart s.time.lct 0 with
    serialUp := (s.lane k).ident.map (fun i => i.serial), rxSeq := [], rxSeqSeen := [], lastTime := none, timeGapOk := true,
    wakeAsked := false, deepAsked := false, txEidle := false, rxEidle := false }).laneTo k .up).dropToken .lane k

theorem State.bondUp_laneUp (s : State) (l : Nat) : s.bondUp l = (s.bondLanes l).foldl State.laneUp s := rfl

theorem State.laneUp_lane_other (s : State) (k j : Nat) (h : j ≠ k) : (s.laneUp k).lane j = s.lane j := by
  rw [State.laneUp, State.dropToken_lane, State.laneTo_lane_other _ _ _ _ h, State.setLane_other _ _ _ _ h]

theorem State.laneUp_state (s : State) (k : Nat) : ((s.laneUp k).lane k).state = .up := by
  rw [State.laneUp, State.dropToken_lane, State.laneTo_lane_self]

theorem State.laneUp_first (s : State) (k j : Nat) : ((s.laneUp k).lane j).first = (s.lane j).first := by
  by_cases h : j = k
  · subst h
    rw [State.laneUp, State.dropToken_lane, State.laneTo_lane_self, State.setLane_self]
    rfl
  · rw [State.laneUp_lane_other _ _ _ h]

theorem State.laneUp_prefix (s : State) (k : Nat) : s.events <+: (s.laneUp k).events := by
  rw [State.laneUp, State.dropToken_events]
  exact State.laneTo_prefix (s.setLane k _) k .up

theorem State.laneUp_raises (s : State) (k : Nat) (h : (s.lane k).state = .train) :
    raises .laneState k [LaneState.train.code, LaneState.up.code] s (s.laneUp k) := by
  have h0 := State.laneTo_raises (s.setLane k { (s.lane k).txStart s.time.lct 0 with
    serialUp := (s.lane k).ident.map (fun i => i.serial), rxSeq := [], rxSeqSeen := [], lastTime := none, timeGapOk := true,
    wakeAsked := false, deepAsked := false, txEidle := false, rxEidle := false }) k .up (by simp [Lane.txStart, h])
  rw [State.setLane_self, show ∀ y : Lane, (y.txStart s.time.lct 0).state = y.state from fun _ => rfl, h] at h0
  exact raises_of_events (raises_of_prior (by simp) h0) (State.dropToken_events ..)

theorem State.bondUp_state (s : State) (l : Nat) (h : l ∈ s.bondLanes l) : ((s.bondUp l).lane l).state = .up := by
  rw [State.bondUp_laneUp]
  exact foldl_lane_mem (P := fun y => y.state = .up) (fun u k j h => u.laneUp_lane_other k j h) _ s l h
    (fun u _ => u.laneUp_state l) (fun u _ => u.laneUp_state l)

theorem State.bondUp_raises (s : State) (l : Nat) (h : l ∈ s.bondLanes l) (ht : (s.lane l).state = .train) :
    raises .laneState l [LaneState.train.code, LaneState.up.code] s (s.bondUp l) := by
  rw [State.bondUp_laneUp]
  obtain ⟨a, b, hab, ha⟩ := List.eq_append_cons_of_mem h
  rw [hab, List.foldl_append, List.foldl_cons]
  refine raises_of_prefix ?_ (foldl_prefix State.laneUp_prefix b _)
  refine raises_of_prior (foldl_prefix State.laneUp_prefix a s) (State.laneUp_raises _ l ?_)
  rw [foldl_lane_other (fun u k j h => u.laneUp_lane_other k j h) a s l ha, ht]

@[simp] theorem State.bondUp_prov (s : State) (l : Nat) : (State.bondUp s l).prov = s.prov :=
  (congrArg State.prov (State.bondUp_outside { Mask.full with prov := false } s l (by simp [Mask.full])) :)

theorem State.bondUp_first (s : State) (l : Nat) : ((s.bondUp l).lane l).first = (s.lane l).first := by
  rw [State.bondUp_laneUp]
  exact foldl_lane_keeps _ s l (fun y => y.first = (s.lane l).first) rfl fun u k hu => (u.laneUp_first k l).trans hu

theorem State.bondUp_scans (s : State) (l : Nat) : (s.bondUp l).scans l = s.scans l := by
  simp only [State.scans, State.bondUp_prov, State.bondUp_first]

@[simp] theorem State.at_scans (s : State) (t l : Nat) : (s.at t).scans l = s.scans l := rfl
@[simp] theorem State.at_bondLanes (s : State) (t l : Nat) : (s.at t).bondLanes l = s.bondLanes l := rfl

/-! ## A bond that does not come up in time -/

/-- One lane of a bond whose training has timed out. -/
def State.laneTimedOut (s : State) (k : Nat) : State :=
  if (s.lane k).state = .train then (s.count (Reg.laneTrainFail k) 1).laneTo k .down else s

theorem State.laneTimedOut_lane_other (s : State) (k j : Nat) (h : j ≠ k) : (s.laneTimedOut k).lane j = s.lane j := by
  unfold State.laneTimedOut
  split
  · rw [State.laneTo_lane_other _ _ _ _ h, State.count_lane]
  · rfl

theorem State.laneTimedOut_lane_self (s : State) (k : Nat) (h : (s.lane k).state = .train) :
    (s.laneTimedOut k).lane k = { s.lane k with state := .down } := by
  rw [State.laneTimedOut, if_pos h, State.laneTo_lane_self, State.count_lane]

theorem State.laneTimedOut_first (s : State) (k j : Nat) : ((s.laneTimedOut k).lane j).first = (s.lane j).first := by
  by_cases h : j = k
  · subst h
    by_cases ht : (s.lane j).state = .train
    · rw [State.laneTimedOut_lane_self _ _ ht]
    · rw [State.laneTimedOut, if_neg ht]
  · rw [State.laneTimedOut_lane_other _ _ _ h]

@[simp] theorem State.laneTo_prov (s : State) (l : Nat) (x : LaneState) : (State.laneTo s l x).prov = s.prov :=
  (congrArg State.prov (State.laneTo_outside { Mask.full with prov := false } s l x (by simp [Mask.full])) :)

@[simp] theorem State.laneTimedOut_prov (s : State) (k : Nat) : (s.laneTimedOut k).prov = s.prov := by
  unfold State.laneTimedOut
  split <;> simp

theorem laneTrainTimeout_due (t : Nat) (l : Fin 32) (s : State) (hm : l.val ∈ s.bondLanes l.val) (ht : (s.lane l.val).state = .train)
    (hd : (s.lane l.val).trainAt + 2000000 ≤ (s.at t).now) (hs : s.scans l.val = false) :
    gives (.laneTrainTimeout t l) s (fun w => (w.lane l.val).state = .down) := by
  have hscans : (((s.at t).bondLanes l.val).foldl State.laneTimedOut (s.at t)).scans l.val = false := by
    rw [State.scans, foldl_same State.prov _ State.laneTimedOut_prov]
    have hfirst := foldl_lane_keeps (f := State.laneTimedOut) ((s.at t).bondLanes l.val) (s.at t) l.val
      (fun y => y.first = (s.lane l.val).first) rfl fun u k hu => (u.laneTimedOut_first k l.val).trans hu
    rw [hfirst]
    exact hs
  refine gives_of_next (w := ((s.at t).bondLanes l.val).foldl State.laneTimedOut (s.at t)) ?_ ?_
  · exact (if_pos ⟨ht, hd⟩).trans (congrArg _ (if_neg (by rw [Bool.not_eq_true]; exact hscans)))
  · refine foldl_lane_mem (P := fun y => y.state = .down) (fun u k j h => u.laneTimedOut_lane_other k j h) _ (s.at t) l.val hm
      (fun u hu => ?_) (fun u hu => ?_)
    · rw [State.laneTimedOut_lane_self _ _ (by rw [hu]; exact ht)]
    · rw [State.laneTimedOut, if_neg (by simp [hu]), hu]

/-! ## Slips and loss of alignment -/

theorem State.laneErrs_reg (s : State) (l code disp a : Nat) : (s.laneErrs l code disp).reg a =
    ((s.count (Reg.laneCodeErr l) code).count (Reg.laneDispErr l) disp).reg a := by
  unfold State.laneErrs
  dsimp only
  split <;> rfl

theorem State.laneErrs_lane (s : State) (l code disp j : Nat) : (s.laneErrs l code disp).lane j = s.lane j := by
  unfold State.laneErrs
  dsimp only
  split <;> rfl

theorem State.count_reg_other (s : State) (o n a : Nat) (h : a ≠ o) : (s.count o n).reg a = s.reg a := State.setReg_reg_other _ _ _ _ h

theorem laneAlignLoss_up (t : Nat) (l : Fin 32) (s : State) (code disp : Nat) (aln : Bool) (hu : (s.lane l.val).state = .up)
    (ha : aln = true ∨ 16 ≤ code + disp) :
    gives (.laneAlignLoss t l (code, disp) aln) s (fun w => ∃ u : State, w = u.bondDown l.val ∧
      u.reg (Reg.laneAlignLoss l.val) = satAdd32 (s.reg (Reg.laneAlignLoss l.val)) 1 ∧
      u.reg (Reg.laneCodeErr l.val) = satAdd32 (s.reg (Reg.laneCodeErr l.val)) code ∧
      u.reg (Reg.laneDispErr l.val) = satAdd32 (s.reg (Reg.laneDispErr l.val)) disp) := by
  have h1 : Reg.laneAlignLoss l.val ≠ Reg.laneCodeErr l.val := by simp only [Reg.laneAlignLoss, Reg.laneCodeErr]; omega
  have h2 : Reg.laneAlignLoss l.val ≠ Reg.laneDispErr l.val := by simp only [Reg.laneAlignLoss, Reg.laneDispErr]; omega
  have h3 : Reg.laneCodeErr l.val ≠ Reg.laneDispErr l.val := by simp only [Reg.laneCodeErr, Reg.laneDispErr]; omega
  refine gives_of_next (if_pos ⟨by rw [State.laneErrs_lane]; exact hu, ha⟩) ⟨_, rfl, ?_, ?_, ?_⟩
  · rw [State.count_self, State.laneErrs_reg, State.count_reg_other _ _ _ _ h2, State.count_reg_other _ _ _ _ h1, State.at_reg]
  · rw [State.count_reg_other _ _ _ _ h1.symm, State.laneErrs_reg, State.count_reg_other _ _ _ _ h3, State.count_self, State.at_reg]
  · rw [State.count_reg_other _ _ _ _ h2.symm, State.laneErrs_reg, State.count_self, State.count_reg_other _ _ _ _ h3.symm, State.at_reg]

theorem laneSlip_up (t : Nat) (l : Fin 32) (s : State) (full : Bool) (hu : (s.lane l.val).state = .up) :
    gives (.laneSlip t l full) s (fun w => ∃ u : State, w = u.bondDown l.val ∧
      u.reg (Reg.laneSlips l.val) = satAdd32 (s.reg (Reg.laneSlips l.val)) 1 ∧
      ((s.lane l.val).slipEvt = none → raises .laneSlip l.val [] s u) ∧
      (u.lane l.val).fill = if full then 32 else 0) := by
  refine gives_of_next (if_neg (by simp [hu])) ⟨_, rfl, ?_, fun hn => ?_, ?_⟩
  · split
    · split <;> simp
    · simp
  · have hdue : ((s.at t).lane l.val).slipEvt = none := hn
    rw [hdue]
    exact raises_emit_self _ _ _ _ _ (by simp)
  · split
    · split <;> simp
    · simp

/-! ## The cruise -/

@[simp] theorem State.trainLane_cruiseSeq (s : State) (l : Nat) : (State.trainLane s l).cruiseSeq = s.cruiseSeq :=
  (congrArg State.cruiseSeq (State.trainLane_outside { Mask.full with cruiseSeq := false } s l (by simp [Mask.full])) :)
@[simp] theorem State.trainLane_cruiseLast (s : State) (l : Nat) : (State.trainLane s l).cruiseLast = s.cruiseLast :=
  (congrArg State.cruiseLast (State.trainLane_outside { Mask.full with cruiseLast := false } s l (by simp [Mask.full])) :)

theorem cruiseSweep_due (t : Nat) (s : State) (hp : s.cruiseMs ≠ 0)
    (hd : s.cruiseLast < (s.at t).now / (s.cruiseMs * 1000000) * (s.cruiseMs * 1000000)) :
    gives (.cruiseSweep t) s (fun w => w.cruiseSeq = s.cruiseSeq + 1 ∧
      w.cruiseLast = (s.at t).now / (s.cruiseMs * 1000000) * (s.cruiseMs * 1000000)) := by
  have hms : (s.at t).cruiseMs = s.cruiseMs := rfl
  refine gives_of_next (if_neg (by rw [hms, State.at_cruiseLast]; omega)) ⟨?_, ?_⟩
  · dsimp only
    rw [foldl_same State.cruiseSeq _ (fun u l => by split <;> simp)]
    rfl
  · dsimp only
    rw [foldl_same State.cruiseLast _ (fun u l => by split <;> simp)]
    rfl

/-- Settles O25: a bond's lanes are written one after another, and no lane but the one written changes. -/
theorem lanesTrainAndFail : Obligations.LanesTrainAndFail := by
  intro t l s
  refine ⟨fun hp hd => cruiseSweep_due t s hp hd, fun com skew aln ht hr hc hk ha hs => ?_,
    fun hm ht => ⟨(s.at t).bondUp_state l.val hm, (s.at t).bondUp_raises l.val hm ht⟩,
    fun hm ht hd hs => laneTrainTimeout_due t l s hm ht hd hs, fun full hu => gives_of_next (if_pos hu) rfl,
    fun full hu => laneSlip_up t l s full hu, fun code disp aln hu ha => laneAlignLoss_up t l s code disp aln hu ha⟩
  refine gives_of_next ((if_pos ⟨hc, hk, ha, hr, ht⟩).trans (congrArg _ (if_neg ?_))) rfl
  rw [Bool.not_eq_true, State.bondUp_scans]
  exact hs

end Sys2Proof.Machine
end

section
/-! Lanes go idle, into DEEP and back, send LUSKO time; a capture frame closes after two periods (R163, R164, R170, R171). -/

namespace Sys2Proof

/-- The lane's partner is a bridge (R152). -/
def Lane.isBridge (y : Lane) : Bool :=
  match y.ident with
  | some i => i.kind == 1
  | none => false

/-- A lane that notes the sending of LUSKO time at instant `now` (R163). -/
def Lane.timed (y : Lane) (now : Nat) : Lane :=
  { y with
    lastTime := some now,
    timeGapOk := y.timeGapOk && !(match y.lastTime with
      | some p => decide (p + 2000000 < now)
      | none => false) }

end Sys2Proof

namespace Sys2Proof.Machine

open Sys2Proof.Safety

theorem setLane_fold_other (g : Lane → Lane) (s : State) (k j : Nat) (h : j ≠ k) : (s.setLane k (g (s.lane k))).lane j = s.lane j :=
  State.setLane_other _ _ _ _ h

/-- One update of each lane of a list writes exactly the lanes of the list. -/
theorem foldl_setLane_mem (g : Lane → Lane) (P : Lane → Prop) (l : List Nat) (s : State) (j : Nat) (hj : j ∈ l)
    (hgive : P (g (s.lane j))) (hkeep : ∀ y, P y → P (g y)) :
    P ((l.foldl (fun (u : State) (k : Nat) => u.setLane k (g (u.lane k))) s).lane j) :=
  foldl_lane_mem (P := P) (fun u k j h => setLane_fold_other g u k j h) l s j hj
    (fun u hu => by rw [State.setLane_self, hu]; exact hgive) (fun u hu => by rw [State.setLane_self]; exact hkeep _ hu)

/-! ## Fast idle -/

theorem State.idleTx_state (s : State) (k j : Nat) : ((s.idleTx k).lane j).state = (s.lane j).state := by
  unfold State.idleTx
  dsimp only
  rw [State.send_lane]
  by_cases h : j = k
  · subst h
    rw [State.setLane_self]
  · rw [State.setLane_other _ _ _ _ h]

theorem State.idleTx_place (s : State) (k j : Nat) : ((s.idleTx k).lane j).first = (s.lane j).first ∧
    ((s.idleTx k).lane j).width = (s.lane j).width := by
  unfold State.idleTx
  dsimp only
  rw [State.send_lane]
  by_cases h : j = k
  · subst h
    rw [State.setLane_self]
    exact ⟨rfl, rfl⟩
  · rw [State.setLane_other _ _ _ _ h]
    exact ⟨rfl, rfl⟩

theorem State.idleTx_bondLanes (s : State) (k l : Nat) : (s.idleTx k).bondLanes l = s.bondLanes l := by
  obtain ⟨hf, hw⟩ := s.idleTx_place k l
  simp only [State.bondLanes, hf, hw]

theorem fastIdleEntry_tx (t : Nat) (l : Fin 32) (s : State) (hm : l.val ∈ s.bondLanes l.val) (hu : (s.lane l.val).state = .up) :
    gives (.fastIdleEntry t l true) s (fun w => (w.lane l.val).txEidle = true ∧ (w.lane l.val).state = .up) := by
  refine gives_of_next (if_pos hu) ?_
  refine foldl_setLane_mem (fun y => { y with txEidle := true }) (fun y => y.txEidle = true ∧ y.state = .up) _ _ l.val ?_ ⟨rfl, ?_⟩
    (fun y hy => ⟨rfl, hy.2⟩)
  · split
    · rw [State.idleTx_bondLanes]
      exact hm
    · exact hm
  · split
    · rw [State.idleTx_state]
      exact hu
    · exact hu

theorem fastIdleEntry_rx (t : Nat) (l : Fin 32) (s : State) (hm : l.val ∈ s.bondLanes l.val) (hu : (s.lane l.val).state = .up) :
    gives (.fastIdleEntry t l false) s (fun w => (w.lane l.val).rxEidle = true ∧ (w.lane l.val).state = .up) := by
  refine gives_of_next (if_pos hu) ?_
  exact foldl_setLane_mem (fun y => { y with rxEidle := true }) (fun y => y.rxEidle = true ∧ y.state = .up) _ (s.at t) l.val hm ⟨rfl, hu⟩
    (fun y hy => ⟨rfl, hy.2⟩)

/-- The bond after electrical idle of the receive direction has ended. -/
def State.rxWoken (s : State) (l : Nat) : State :=
  (s.bondLanes l).foldl (fun (u : State) (k : Nat) => u.setLane k { u.lane k with rxEidle := false }) s

theorem fastIdleExit_rx (t : Nat) (l : Fin 32) (aligned : Bool) (s : State) (hu : (s.lane l.val).state = .up)
    (hr : (s.lane l.val).rxEidle = true) : exec (.fastIdleExit t l false aligned) s =
      if !aligned then .next ((((s.at t).rxWoken l.val).count (Reg.laneAlignLoss l.val) 1).bondDown l.val)
      else .next ((s.at t).rxWoken l.val) := by
  refine (if_neg (by simp)).trans ((if_pos ⟨hu, hr⟩).trans rfl)

@[simp] theorem State.rxWoken_regs (s : State) (l : Nat) : (s.rxWoken l).regs = s.regs :=
  foldl_same (f := fun (u : State) (k : Nat) => u.setLane k { u.lane k with rxEidle := false }) State.regs (fun _ _ => rfl) _ s

/-- The end of a transmitter's idle writes of each lane only the idle mark and where its columns stand. -/
theorem State.wakeTx_lane (s : State) (k j : Nat) : ∃ e f n, (s.wakeTx k).lane j = { s.lane j with txEidle := e, txFree := f, alnNext := n } := by
  unfold State.wakeTx
  extract_lets y c woken z
  have hw : ∀ i, ∃ e, woken.lane i = { s.lane i with txEidle := e } := fun i =>
    foldl_lane_keeps _ s i (fun z => ∃ e, z = { s.lane i with txEidle := e }) ⟨_, rfl⟩ fun u k' ⟨e, hu⟩ => by
      by_cases h : i = k'
      · subst h
        rw [State.setLane_self, hu]
        exact ⟨_, rfl⟩
      · rw [State.setLane_other _ _ _ _ h]
        exact ⟨e, hu⟩
  obtain ⟨e, he⟩ := hw j
  split
  · rw [State.send_lane]
    by_cases h : j = k
    · subst h
      rw [State.setLane_self]
      exact ⟨false, c + 273, c + 272 + 1024, by rw [show z = _ from he]⟩
    · rw [State.setLane_other _ _ _ _ h, he]
      exact ⟨_, _, _, rfl⟩
  · exact ⟨_, _, _, rfl⟩

theorem State.wakeTx_state (s : State) (k j : Nat) : ((s.wakeTx k).lane j).state = (s.lane j).state := by
  obtain ⟨e, f, n, h⟩ := s.wakeTx_lane k j
  rw [h]

/-- Ending the idle of a bond's transmitter ends it on each of its lanes. -/
theorem State.wakeTx_txEidle (s : State) (k j : Nat) (he : (s.lane k).txEidle = true) (hj : j ∈ s.bondLanes k) :
    ((s.wakeTx k).lane j).txEidle = false := by
  unfold State.wakeTx
  extract_lets y c woken
  have hw : (woken.lane j).txEidle = false :=
    foldl_setLane_mem (fun z => { z with txEidle := false }) (fun z => z.txEidle = false) _ s j hj rfl (fun _ _ => rfl)
  rw [if_pos he, State.send_lane]
  by_cases h : j = k
  · subst h
    rw [State.setLane_self]
  · rw [State.setLane_other _ _ _ _ h, hw]

/-! ## DEEP -/

/-- One lane of a bond that is asked to wake. -/
def State.laneAskWake (s : State) (k : Nat) : State :=
  if (s.lane k).state = .deep then (s.setLane k { s.lane k with wakeAsked := true }).askToken .lane k else s

theorem State.laneAskWake_other (s : State) (k j : Nat) (h : j ≠ k) : (s.laneAskWake k).lane j = s.lane j := by
  unfold State.laneAskWake
  split
  · rw [State.askToken_lane, State.setLane_other _ _ _ _ h]
  · rfl

theorem State.laneAskWake_self (s : State) (k : Nat) (h : (s.lane k).state = .deep) :
    (s.laneAskWake k).lane k = { s.lane k with wakeAsked := true } := by
  rw [State.laneAskWake, if_pos h, State.askToken_lane, State.setLane_self]

theorem State.askWake_asked (s : State) (l : Nat) (hm : l ∈ s.bondLanes l) (hd : (s.lane l).state = .deep) :
    ((s.askWake l).lane l).wakeAsked = true := by
  have h : ((s.askWake l).lane l).wakeAsked = true ∧ ((s.askWake l).lane l).state = .deep := by
    refine foldl_lane_mem (f := State.laneAskWake) (P := fun y => y.wakeAsked = true ∧ y.state = .deep)
      (fun u k j h => u.laneAskWake_other k j h) _ s l hm (fun u hu => ?_) (fun u hu => ?_)
    · rw [State.laneAskWake_self _ _ (by rw [hu]; exact hd)]
      exact ⟨rfl, by rw [hu]; exact hd⟩
    · rw [State.laneAskWake_self _ _ hu.2]
      exact ⟨rfl, hu.2⟩
  exact h.1

/-- One lane of a bond that goes down. -/
def State.laneGoesDown (s : State) (k : Nat) : State :=
  if (s.lane k).state = .off ∨ (s.lane k).state = .down then s
  else ((s.setLane k { s.lane k with txEidle := false, rxEidle := false, wakeAsked := false, deepAsked := false }).laneTo k .down).dropToken
    .lane k

theorem State.bondDown_idle (s : State) (l : Nat) (h : (s.lane l).state ≠ .up) :
    s.bondDown l = (s.bondLanes l).foldl State.laneGoesDown s := by
  unfold State.bondDown State.bondTo
  exact if_neg h

theorem State.laneGoesDown_other (s : State) (k j : Nat) (h : j ≠ k) : (s.laneGoesDown k).lane j = s.lane j := by
  unfold State.laneGoesDown
  split
  · rfl
  · rw [State.dropToken_lane, State.laneTo_lane_other _ _ _ _ h, State.setLane_other _ _ _ _ h]

theorem State.laneGoesDown_state (s : State) (k : Nat) (h : (s.lane k).state ≠ .off) : ((s.laneGoesDown k).lane k).state = .down := by
  unfold State.laneGoesDown
  split
  next hd => exact hd.resolve_left h
  · rw [State.dropToken_lane, State.laneTo_lane_self]

theorem State.bondDown_state (s : State) (l : Nat) (hm : l ∈ s.bondLanes l) (hu : (s.lane l).state ≠ .up) (ho : (s.lane l).state ≠ .off) :
    ((s.bondDown l).lane l).state = .down := by
  rw [State.bondDown_idle _ _ hu]
  exact foldl_lane_mem (P := fun y => y.state = .down) (fun u k j h => u.laneGoesDown_other k j h) _ s l hm
    (fun u hl => u.laneGoesDown_state l (by rw [hl]; exact ho)) (fun u hl => u.laneGoesDown_state l (by rw [hl]; decide))

/-! ## Packets sent -/

theorem State.wakeTx_awake (s : State) (l : Nat) (h : (s.lane l).txEidle = false) : s.wakeTx l = s := by
  unfold State.wakeTx
  exact if_neg (by simp [h])

theorem State.sendPacket_sent (s : State) (l n chan : Nat) (b : LuskoBody) (p : List Byte) : (s.sendPacket l n chan b p).sent =
    s.sent ++ [.lusko l chan (Tab.get 0 (s.lane l).txSeq chan) ((s.lane l).sopCol s.time.lct) b p] := rfl

theorem pieces_linkCtrl (op : Nat) : pieces (LuskoBody.linkCtrl op).payload = [(LuskoBody.linkCtrl op).payload] := by
  have hlen : (LuskoBody.linkCtrl op).payload.length = 4 := rfl
  simp only [pieces, hlen]
  exact congrArg (fun p => [p]) (List.take_of_length_le (by rw [List.drop_zero, hlen]; decide))

theorem State.wakeTx_sent (s : State) (l : Nat) : ∃ pre, (s.wakeTx l).sent = s.sent ++ pre := by
  unfold State.wakeTx
  extract_lets y c woken
  have hw : woken.sent = s.sent :=
    foldl_same (f := fun (u : State) (k : Nat) => u.setLane k { u.lane k with txEidle := false }) State.sent (fun _ _ => rfl) _ s
  split
  · exact ⟨[_], by rw [State.send_sent, State.setLane_sent, hw]⟩
  · exact ⟨[], (List.append_nil _).symm⟩

theorem State.sendPacket_lane_self (s : State) (l n chan : Nat) (b : LuskoBody) (p : List Byte) : (s.sendPacket l n chan b p).lane l =
    { (s.lane l).occupied n p.length ((s.lane l).sopCol s.time.lct) with
      txSeq := Tab.set 0 (s.lane l).txSeq chan (Tab.get 0 (s.lane l).txSeq chan + 1) } := by
  simp only [State.sendPacket, State.send_lane, State.setLane_self]

theorem State.sendPacket_lane_other (s : State) (l n chan j : Nat) (b : LuskoBody) (p : List Byte) (h : j ≠ l) :
    (s.sendPacket l n chan b p).lane j = s.lane j := by
  simp only [State.sendPacket, State.send_lane, State.setLane_other _ _ _ _ h]

theorem Lane.occupied_only (y : Lane) (n p c : Nat) : ∃ f a, y.occupied n p c = { y with txFree := f, alnNext := a } := by
  simp only [Lane.occupied]
  split <;> exact ⟨_, _, rfl⟩

theorem State.sendLinkCtrl_packet (s : State) (l op : Nat) :
    s.sendLinkCtrl l op = (s.wakeTx l).sendPacket l ((s.wakeTx l).lane l).width 0 (.linkCtrl op) (LuskoBody.linkCtrl op).payload := by
  simp only [State.sendLinkCtrl, State.sendLusko, pieces_linkCtrl, List.foldl_cons, List.foldl_nil]

/-- A LINK_CTRL is the bond's next packet, after the burst that ends an idle. -/
theorem State.sendLinkCtrl_sent (s : State) (l op : Nat) : ∃ pre col, (s.sendLinkCtrl l op).sent = s.sent ++ pre ++
    [.lusko l 0 (Tab.get 0 (s.lane l).txSeq 0) col (.linkCtrl op) (LuskoBody.linkCtrl op).payload] := by
  obtain ⟨e, f, n, hl⟩ := s.wakeTx_lane l l
  obtain ⟨pre, hp⟩ := s.wakeTx_sent l
  rw [State.sendLinkCtrl_packet, State.sendPacket_sent, hp, hl]
  exact ⟨pre, _, rfl⟩

theorem State.sendLinkCtrl_deepAsked (s : State) (l op : Nat) : ((s.sendLinkCtrl l op).lane l).deepAsked = (s.lane l).deepAsked := by
  obtain ⟨e, f, n, hl⟩ := s.wakeTx_lane l l
  rw [State.sendLinkCtrl_packet, State.sendPacket_lane_self]
  obtain ⟨f', a, ho⟩ := Lane.occupied_only ((s.wakeTx l).lane l) ((s.wakeTx l).lane l).width (LuskoBody.linkCtrl op).payload.length
    (((s.wakeTx l).lane l).sopCol (s.wakeTx l).time.lct)
  rw [ho, hl]

/-! ## LUSKO time to bridges -/

/-- One lane's part of sending LUSKO time (R163). -/
def State.laneTime (s : State) (l : Nat) : State :=
  if (s.lane l).state = .up ∧ (s.lane l).first = l ∧ (s.lane l).role = .capture ∧ (s.lane l).isBridge then
    (s.setLane l ((s.lane l).timed s.now)).sendTime l 0 (fun v rate => .time v rate)
  else s

theorem luskoTimeSend_lanes (t : Nat) (s : State) :
    exec (.luskoTimeSend t) s = .next ((List.range 32).foldl State.laneTime (s.at t)) := rfl

@[simp] theorem State.wakeTx_time (s : State) (l : Nat) : (State.wakeTx s l).time = s.time :=
  (congrArg State.time (State.wakeTx_outside { Mask.full with time := false } s l (by simp [Mask.full])) :)
@[simp] theorem State.sendPacket_time (s : State) (l n chan : Nat) (b : LuskoBody) (payload : List Byte) :
    (State.sendPacket s l n chan b payload).time = s.time :=
  (congrArg State.time (State.sendPacket_outside { Mask.full with time := false } s l n chan b payload (by simp [Mask.full])) :)
@[simp] theorem State.sendTime_time (s : State) (l chan : Nat) (mk : BitVec 64 → BitVec 32 → LuskoBody) :
    (State.sendTime s l chan mk).time = s.time :=
  (congrArg State.time (State.sendTime_outside { Mask.full with time := false } s l chan mk (by simp [Mask.full])) :)

@[simp] theorem State.laneTime_time (s : State) (k : Nat) : (s.laneTime k).time = s.time := by
  unfold State.laneTime
  split <;> simp

/-- A lane whose transmitter is awake is not written while another bond ends its idle. -/
theorem State.wakeTx_lane_other (s : State) (k j : Nat) (h : j ≠ k) (he : (s.lane j).txEidle = false) : (s.wakeTx k).lane j = s.lane j := by
  unfold State.wakeTx
  extract_lets y c woken
  have hw : woken.lane j = s.lane j :=
    foldl_lane_keeps _ s j (fun z => z = s.lane j) rfl fun u k' hu => by
      by_cases h : j = k'
      · subst h
        rw [State.setLane_self, hu, ← he]
      · rw [State.setLane_other _ _ _ _ h, hu]
  split
  · rw [State.send_lane, State.setLane_other _ _ _ _ h, hw]
  · rfl

theorem State.sendTime_lane_other (s : State) (k chan j : Nat) (mk : BitVec 64 → BitVec 32 → LuskoBody) (h : j ≠ k)
    (he : (s.lane j).txEidle = false) : (s.sendTime k chan mk).lane j = s.lane j := by
  unfold State.sendTime
  dsimp only
  rw [State.sendPacket_lane_other _ _ _ _ _ _ _ h, State.wakeTx_lane_other _ _ _ h he]

theorem State.laneTime_lane_other (s : State) (k j : Nat) (h : j ≠ k) (he : (s.lane j).txEidle = false) :
    (s.laneTime k).lane j = s.lane j := by
  unfold State.laneTime
  split
  · rw [State.sendTime_lane_other _ _ _ _ _ h (by rw [State.setLane_other _ _ _ _ h]; exact he), State.setLane_other _ _ _ _ h]
  · rfl

theorem State.laneTime_of_bridge (s : State) (l : Nat) (hu : (s.lane l).state = .up) (hf : (s.lane l).first = l)
    (hr : (s.lane l).role = .capture) (hb : (s.lane l).isBridge = true) :
    s.laneTime l = (s.setLane l ((s.lane l).timed s.now)).sendTime l 0 (fun v rate => .time v rate) :=
  if_pos ⟨hu, hf, hr, hb⟩

theorem State.sendTime_awake (s : State) (l chan : Nat) (mk : BitVec 64 → BitVec 32 → LuskoBody) (h : (s.lane l).txEidle = false) :
    s.sendTime l chan mk = s.sendPacket l (s.lane l).width chan
      (mk (BitVec.ofNat 64 (s.colTime l ((s.lane l).sopCol s.time.lct) + (s.lane l).latency.getD 0 / 2)) (BitVec.ofInt 32 s.time.rate))
      (timeBytes (BitVec.ofNat 64 (s.colTime l ((s.lane l).sopCol s.time.lct) + (s.lane l).latency.getD 0 / 2))
        (BitVec.ofInt 32 s.time.rate)) := by
  unfold State.sendTime
  rw [State.wakeTx_awake _ _ h]

/-- The packet of a lane's LUSKO time, sent at the lane's next SOP. -/
def State.timePacket (s : State) (l : Nat) : Out :=
  let y := s.lane l
  let c := y.sopCol s.time.lct
  let v := BitVec.ofNat 64 (s.colTime l c + y.latency.getD 0 / 2)
  .lusko l 0 (Tab.get 0 y.txSeq 0) c (.time v (BitVec.ofInt 32 s.time.rate)) (timeBytes v (BitVec.ofInt 32 s.time.rate))

/-- A time packet depends on its lane and the time alone. -/
theorem State.timePacket_congr {s u : State} {l : Nat} (hl : u.lane l = s.lane l) (ht : u.time = s.time) :
    u.timePacket l = s.timePacket l := by
  simp only [State.timePacket, State.colTime, State.now, hl, ht]

theorem State.timePacket_timed (s : State) (l now : Nat) : (s.setLane l ((s.lane l).timed now)).timePacket l = s.timePacket l := by
  simp only [State.timePacket, State.colTime, State.now, State.setLane_self, State.setLane_time]
  rfl

theorem State.laneTime_sends (s : State) (l : Nat) (hu : (s.lane l).state = .up) (hf : (s.lane l).first = l)
    (hr : (s.lane l).role = .capture) (hb : (s.lane l).isBridge = true) (he : (s.lane l).txEidle = false) :
    s.timePacket l ∈ (s.laneTime l).sent := by
  rw [State.laneTime_of_bridge s l hu hf hr hb, State.sendTime_awake _ _ _ _ (by rw [State.setLane_self]; exact he),
    State.sendPacket_sent, ← State.timePacket_timed s l s.now]
  exact List.mem_append_right _ (List.mem_singleton.mpr rfl)

theorem State.laneTime_self (s : State) (l : Nat) (he : (s.lane l).txEidle = false) : ((s.laneTime l).lane l).txEidle = false ∧
    ((s.laneTime l).lane l).lastTime = if (s.lane l).state = .up ∧ (s.lane l).first = l ∧ (s.lane l).role = .capture ∧
      (s.lane l).isBridge then some s.now else (s.lane l).lastTime := by
  unfold State.laneTime
  split
  · rw [State.sendTime_awake _ _ _ _ (by rw [State.setLane_self]; exact he), State.sendPacket_lane_self, State.setLane_self]
    obtain ⟨f, a, ho⟩ := Lane.occupied_only ((s.lane l).timed s.now) _ _ _
    rw [ho]
    exact ⟨he, rfl⟩
  · exact ⟨he, rfl⟩

theorem State.laneTime_sent_mem (s : State) (k : Nat) {o : Out} (h : o ∈ s.sent) : o ∈ (s.laneTime k).sent := by
  unfold State.laneTime
  split
  · obtain ⟨pre, hp⟩ := (s.setLane k ((s.lane k).timed s.now)).wakeTx_sent k
    unfold State.sendTime
    dsimp only
    rw [State.sendPacket_sent, hp]
    exact List.mem_append_left _ (List.mem_append_left _ h)
  · exact h

theorem luskoTimeSend_bridge (t : Nat) (l : Fin 32) (s : State) (hu : (s.lane l.val).state = .up) (hf : (s.lane l.val).first = l.val)
    (hr : (s.lane l.val).role = .capture) (hb : (s.lane l.val).isBridge = true) (he : (s.lane l.val).txEidle = false) :
    gives (.luskoTimeSend t) s (fun w => (w.lane l.val).lastTime = some (s.at t).now ∧ (s.at t).timePacket l.val ∈ w.sent) := by
  obtain ⟨a, b, hab, ha⟩ := List.eq_append_cons_of_mem (List.mem_range.mpr l.isLt)
  have hbefore : (a.foldl State.laneTime (s.at t)).lane l.val = s.lane l.val ∧ (a.foldl State.laneTime (s.at t)).time = (s.at t).time := by
    refine List.foldlRecOn (motive := fun u : State => u.lane l.val = s.lane l.val ∧ u.time = (s.at t).time) a State.laneTime ⟨rfl, rfl⟩
      fun u hu k hk => ?_
    have hne : l.val ≠ k := fun h => ha (h ▸ hk)
    exact ⟨(State.laneTime_lane_other u k l.val hne (by rw [hu.1]; exact he)).trans hu.1, (State.laneTime_time u k).trans hu.2⟩
  refine gives_of_next (luskoTimeSend_lanes t s) ?_
  rw [hab, List.foldl_append, List.foldl_cons]
  generalize a.foldl State.laneTime (s.at t) = u at hbefore
  obtain ⟨hl, ht⟩ := hbefore
  have hnow : u.now = (s.at t).now := by simp only [State.now, ht]
  have hafter := List.foldlRecOn (motive := fun v : State => (v.lane l.val).txEidle = false ∧ (v.lane l.val).lastTime = some u.now ∧
    v.time = u.time ∧ u.timePacket l.val ∈ v.sent) b State.laneTime (b := u.laneTime l.val) ?_ ?_
  · obtain ⟨-, hlast, -, hsent⟩ := hafter
    rw [← hnow, ← State.timePacket_congr (s := s.at t) hl ht]
    exact ⟨hlast, hsent⟩
  · obtain ⟨he', hlast⟩ := u.laneTime_self l.val (by rw [hl]; exact he)
    rw [if_pos (by rw [hl]; exact ⟨hu, hf, hr, hb⟩)] at hlast
    exact ⟨he', hlast, u.laneTime_time l.val, u.laneTime_sends l.val (by rw [hl]; exact hu) (by rw [hl]; exact hf) (by rw [hl]; exact hr)
      (by rw [hl]; exact hb) (by rw [hl]; exact he)⟩
  · intro v ⟨hve, hvl, hvt, hvs⟩ k _
    by_cases hk : l.val = k
    · subst hk
      obtain ⟨he', hlast⟩ := v.laneTime_self l.val hve
      refine ⟨he', ?_, (v.laneTime_time _).trans hvt, v.laneTime_sent_mem _ hvs⟩
      rw [hlast]
      split
      · simp only [State.now, hvt]
      · exact hvl
    · rw [State.laneTime_lane_other v k l.val hk hve]
      exact ⟨hve, hvl, (v.laneTime_time _).trans hvt, v.laneTime_sent_mem _ hvs⟩

/-- Settles O26: a command that writes a bond's lanes writes each once its turn has come, and a time packet leaves its lane's own column. -/
theorem lanesIdleAndWake : Obligations.LanesIdleAndWake := by
  intro t l s
  refine ⟨fun hm hu => ⟨fastIdleEntry_tx t l s hm hu, fastIdleEntry_rx t l s hm hu, fun hr => ⟨?_, ?_⟩⟩, fun aligned hu he hm => ?_,
    fun hu hd ha => ?_, fun hm hd => ⟨?_, fun ns hn => ?_⟩, fun hm hw => ?_, fun hm hw hd => ?_,
    fun i c v r hu hf hr hi hk he hc hv hrate => ?_, fun n d o hd ho ht => ?_⟩
  · refine gives_of_next (fastIdleExit_rx t l true s hu hr) ?_
    exact foldl_setLane_mem (fun y => { y with rxEidle := false }) (fun y => y.rxEidle = false ∧ y.state = .up) _ (s.at t) l.val hm
      ⟨rfl, hu⟩ (fun y hy => ⟨rfl, hy.2⟩)
  · refine gives_of_next (fastIdleExit_rx t l false s hu hr) ⟨_, rfl, ?_⟩
    rw [State.count_self, State.reg, State.rxWoken_regs]
    rfl
  · refine gives_of_next (if_pos ⟨hu, rfl⟩) ⟨(s.at t).wakeTx_txEidle _ l.val he hm, ?_⟩
    rw [State.wakeTx_state]
    exact hu
  · refine gives_of_next (if_pos ⟨hu, by rw [show (s.at t).refusesDeep _ = s.refusesDeep _ from rfl]; simp [hd], by simp [ha]⟩) ⟨?_, ?_⟩
    · exact (State.sendLinkCtrl_deepAsked _ (s.lane l.val).first 1).trans (by rw [State.at_lane, State.setLane_self])
    · obtain ⟨pre, col, h⟩ := ((s.at t).setLane (s.lane l.val).first { s.lane (s.lane l.val).first with deepAsked := true }).sendLinkCtrl_sent
        (s.lane l.val).first 1
      rw [State.setLane_self] at h
      exact ⟨pre, col, h⟩
  · exact gives_of_next rfl ((s.at t).askWake_asked l.val hm hd)
  · exact gives_of_next (if_pos ⟨hn, hd⟩) ((s.at t).askWake_asked l.val hm hd)
  · refine gives_of_next (if_pos ⟨?_, (hw _ hm).1⟩) ((s.at t).bondUp_state l.val hm)
    exact List.all_eq_true.mpr fun k hk => by simpa using hw k hk
  · exact gives_of_next (if_pos ⟨hw, hd⟩) ((s.at t).bondDown_state l.val hm (by simp [hw]) (by simp [hw]))
  · have hb : (s.lane l.val).isBridge = true := by simp [Lane.isBridge, hi, hk]
    obtain ⟨w, hx, hlast, hsent⟩ := luskoTimeSend_bridge t l s hu hf hr hb he
    subst hc hv hrate
    exact ⟨w, hx, hlast, by simpa [State.timePacket] using hsent⟩
  · refine gives_of_next ?_ rfl
    show execCaptureFrameTimeout t n s = _
    have hdecl : (s.at t).luskoDecl n.val = some d := hd
    simp only [execCaptureFrameTimeout, hdecl, State.at_ctx, ho]
    exact if_pos ht

end Sys2Proof.Machine
end

section
/-! What IDENT, LINK_CTRL, FRAME_START, FRAME_END, VIDEO_LINE and bad packets do at their receiver (R161, R162, R164, R171). -/

namespace Sys2Proof.Machine

open Sys2Proof.Safety

/-! ## IDENT -/

/-- The order of IDENT numbers that a receiver in TRAIN keeps writes neither its training nor its partner. -/
theorem State.identSeq_train (s : State) (l : Nat) (q : BitVec 16) (ht : (s.lane l).state = .train) :
    ((s.identSeq l q).lane l).state = .train ∧ ((s.identSeq l q).lane l).serialUp = (s.lane l).serialUp := by
  unfold State.identSeq
  dsimp only
  rw [if_neg (by simp [ht]), State.setLane_self]
  split
  · rw [State.count_lane]
    exact ⟨ht, rfl⟩
  · exact ⟨ht, rfl⟩

theorem State.sendIdent_ident (s : State) (l : Nat) : ((s.sendIdent l).lane l).ident = (s.lane l).ident ∧
    ((s.sendIdent l).lane l).identAt = (s.lane l).identAt := by
  unfold State.sendIdent
  extract_lets y i
  rw [State.sendPacket_lane_self, State.setLane_self]
  obtain ⟨f, a, ho⟩ := Lane.occupied_only { y with identTx := i.txT :: y.identTx } 1 (identBytes i).length
    (({ y with identTx := i.txT :: y.identTx } : Lane).sopCol (s.setLane l { y with identTx := i.txT :: y.identTx }).time.lct)
  rw [ho]
  exact ⟨rfl, rfl⟩

theorem State.rxIdent_train (s : State) (l : Nat) (i : Ident) (stamp : Nat) (ht : (s.lane l).state = .train)
    (hs : (s.lane l).serialUp = none) :
    ((s.rxIdent l i stamp).lane l).ident = some i ∧ ((s.rxIdent l i stamp).lane l).identAt = stamp := by
  unfold State.rxIdent
  simp only [ht, hs, Bool.false_and, Bool.false_eq_true, if_false]
  have hkept : ∀ v : State, (v.lane l).ident = some i ∧ (v.lane l).identAt = stamp → ∀ c : Prop, [Decidable c] →
      ((if c then v.sendIdent l else v).lane l).ident = some i ∧ ((if c then v.sendIdent l else v).lane l).identAt = stamp := by
    intro v hv c _
    split
    · rw [(v.sendIdent_ident l).1, (v.sendIdent_ident l).2]
      exact hv
    · exact hv
  refine hkept _ ?_ _
  split <;> simp

/-! ## LINK_CTRL -/

theorem State.rxLinkCtrl_refused (s : State) (l : Nat) (hr : s.refusesDeep l = true) (hu : (s.lane l).state = .up)
    (ha : (s.lane l).deepAsked = false) : s.rxLinkCtrl l 1 = s.sendLinkCtrl l 3 := by
  unfold State.rxLinkCtrl
  dsimp only
  rw [if_neg (by simp [hu]), if_neg (by simp [ha]), if_pos hr]
  rfl

theorem State.sendLinkCtrl_state (s : State) (l op : Nat) : ((s.sendLinkCtrl l op).lane l).state = (s.lane l).state := by
  obtain ⟨e, f, n, hl⟩ := s.wakeTx_lane l l
  rw [State.sendLinkCtrl_packet, State.sendPacket_lane_self]
  obtain ⟨f', a, ho⟩ := Lane.occupied_only ((s.wakeTx l).lane l) ((s.wakeTx l).lane l).width (LuskoBody.linkCtrl op).payload.length
    (((s.wakeTx l).lane l).sopCol (s.wakeTx l).time.lct)
  rw [ho, hl]

theorem State.rxLinkCtrl_refusal (s : State) (l : Nat) (hu : (s.lane l).state = .up) :
    s.rxLinkCtrl l 3 = s.setLane l { s.lane l with deepAsked := false } := by
  unfold State.rxLinkCtrl
  exact if_neg (by simp [hu])

/-! ## Captured frames -/

theorem State.closeCapture_closed (s : State) (n : Nat) (h : (s.ctx n).open_ = none) : s.closeCapture n = s := by
  unfold State.closeCapture
  rw [h]

/-- A FRAME_START that the context takes opens its frame in the first free buffer. -/
theorem State.rxFrameStart_opens (s : State) (n b : Nat) (d : LuskoDecl) (f : FrameStart) (stamp : Nat) (hm : startMatches d f = true)
    (ho : (s.ctx n).open_ = none) (hd : (s.ctx n).state = .decode) (hr : (s.overrate n d.num d.den).2 = false)
    (hb : freeBuf (s.ctx n).bufs (s.ctx n).nBufs 0 = some b) :
    ∃ o, ((s.rxFrameStart n d f stamp).ctx n).open_ = some o ∧ o.frame = f.frame ∧ o.buf = b ∧ o.at_ = stamp := by
  unfold State.rxFrameStart
  rw [State.closeCapture_closed s n ho]
  extract_lets s0 x cleared y r taken ready z full trace traced frame stored last
  have hy : y = { s.ctx n with noBuffer := none } := State.setCtx_self ..
  have hrate : r.2 = false := by
    simp only [r, State.overrate] at hr ⊢
    rw [show cleared.ctx n = y from rfl, hy]
    exact hr
  have htaken : taken.ctx n = { y with rateSecond := (taken.ctx n).rateSecond, rateCount := (taken.ctx n).rateCount } := by
    simp only [taken, r, State.overrate, State.setCtx_self]
    rfl
  have hstate : (taken.ctx n).state = .decode := by rw [htaken, hy]; exact hd
  have hready : ready = taken := if_neg (by simp [hstate])
  have hfree : freeBuf (ready.ctx n).bufs (ready.ctx n).nBufs 0 = some b := by
    rw [hready, htaken, hy]
    exact hb
  rw [if_neg (by rw [hy]; simp [hd]), if_neg (by simp [hm]), if_neg (by simp [hrate]), hfree]
  exact ⟨_, by rw [State.setCtx_self], rfl, rfl, rfl⟩

/-- Settles O28: a packet's own update of its lane or context is the last that the receiver makes of what the statement reads. -/
theorem luskoPacketsTakeEffect : Obligations.LuskoPacketsTakeEffect := by
  intro s l stamp
  refine ⟨fun i q ht hs => ?_, fun hr hu ha => ?_, fun hu => ?_, fun n b d f _ hm ho hd hr hb => s.rxFrameStart_opens n b d f stamp hm ho hd hr hb,
    fun n fr o ho hf => ?_, fun n d fr line px ho => ?_, fun n fr h => if_neg h, ?_, ?_⟩
  · obtain ⟨h1, h2⟩ := s.identSeq_train l q ht
    exact (s.identSeq l q).rxIdent_train l i stamp h1 (h2.trans hs)
  · rw [State.rxLinkCtrl_refused s l hr hu ha, State.sendLinkCtrl_state]
    exact ⟨hu, s.sendLinkCtrl_sent l 3⟩
  · rw [State.rxLinkCtrl_refusal s l hu, State.setLane_self]
  · unfold State.rxFrameEnd
    rw [ho]
    exact if_pos hf
  · unfold State.rxVideoLine
    rw [ho]
  · exact State.count_self ..
  · exact State.count_self ..

end Sys2Proof.Machine
end

section
/-! Outside PROVING a message of the pair reaches its receiver as it stands (R296, R451), and what it does there (R297 to R313). -/

namespace Sys2Proof.Machine

open Sys2Proof.Safety

/-! ## Arrival -/

/-- No injector acts outside PROVING (R451). -/
theorem State.inject_outside_proving (s : State) (hit : Injector → Bool) (h : s.mode.mode ≠ .proving) :
    s.inject hit = ⟨s, .pass, false, false⟩ := by
  unfold State.inject
  exact if_neg h

theorem State.arrive_outside_proving (s : State) (hit : Injector → Bool) (clean pre post : RxPacket) (h : s.mode.mode ≠ .proving) :
    s.arrive hit clean pre post = received s clean := by
  unfold State.arrive
  rw [s.inject_outside_proving hit h]
  rfl

theorem State.pairArrive_received (s : State) (q : BitVec 16) (m : PairMsg) (alt : LuskoBody) (l : Nat) (h : s.mode.mode ≠ .proving)
    (hl : s.pairLane = some l) (hs : (s.lane l).state = .train ∨ (s.lane l).state = .up) (he : (s.lane l).rxEidle = false) :
    s.pairArrive q m alt = received s (.lusko l m.chan q (.pair m) s.now) := by
  have harrive : s.luskoArrive l m.chan q (.pair m) alt = received s (.lusko l m.chan q (.pair m) s.now) := by
    unfold State.luskoArrive
    rcases hs with hs | hs <;>
    · rw [hs]
      exact (if_neg (by simp [he])).trans (s.arrive_outside_proving _ _ _ _ h)
  unfold State.pairArrive
  rw [hl]
  exact harrive

/-- Settles O29: every message takes the one way in, which no injector touches outside PROVING. -/
theorem pairMessagesReachTheirUnit : Obligations.PairMessagesReachTheirUnit := by
  intro t q alt s l hm hl hs he
  have h : ∀ m : PairMsg, (s.at t).pairArrive q m alt = received (s.at t) (.lusko l m.chan q (.pair m) (s.at t).now) := fun m =>
    (s.at t).pairArrive_received q m alt l hm hl hs he
  refine ⟨fun v r => ?_, fun m => ?_, fun c => ?_, fun k r => ?_, fun c m share => ?_, fun c m x => ?_, fun k m ok px => ?_, fun b => ?_,
    fun x => ?_, fun c => ?_⟩
  · exact gives_of_next rfl (h (.sync v r))
  · exact gives_of_next rfl (h (.manifest m))
  · exact gives_of_next rfl (h (.command c))
  · exact gives_of_next rfl (h (.reqFwd k r))
  · exact gives_of_next rfl (h (.fillReq c.val m share))
  · exact gives_of_next rfl (h (.fillData c.val m x))
  · exact gives_of_next rfl (h (.surfData k.val m ok px))
  · exact gives_of_next rfl (h (.signature b))
  · exact gives_of_next rfl (h (.health x))
  · exact gives_of_next rfl (h (.control c))

/-! ## What a message does -/

theorem State.rxFillReq_none (s : State) (c m : Nat) (share : Bool) (hs : s.pairSends = true) (hr : s.pair.retained = []) :
    s.rxFillReq c m share = s.sendPair (.fillData c m none) := by
  unfold State.rxFillReq
  rw [if_pos hs, hr]
  simp

theorem State.rxFillData_unfilled (s : State) (c m : Nat) (hf : s.pairFollows = false) : (s.rxFillData c m none).reg Reg.pairFills =
    s.reg Reg.pairFills % 2 ^ 16 + min (s.reg Reg.pairFills / 2 ^ 16 + 1) 0xFFFF * 2 ^ 16 := by
  unfold State.rxFillData
  extract_lets v lo hi counted
  have hfollows : counted.pairFollows = false := hf
  rw [if_pos (by simp [hfollows])]
  exact State.setReg_self ..

/-- A device outside PROVING does not pair by PROVING. -/
theorem State.provePair_outside (s : State) (h : s.mode.mode ≠ .proving) : s.provePair = s := by
  unfold State.provePair
  exact if_neg fun g => by simp [State.bothProving, h] at g

theorem State.rxHealth_report (s : State) (h : Health) (hf : h.faults.getLsbD 4 = false) (hm : s.mode.mode ≠ .proving) :
    s.rxHealth h = { s with
      pair := { s.pair with
        partnerHealth := (s.pair.partnerHealth.filter (fun (p : Health) => decide (s.now ≤ p.time + 1000000000))) ++ [h],
        excl := s.pair.excl ||| h.isoHead, armed := s.pair.armed &&& ~~~h.isoHead } } := by
  unfold State.rxHealth
  extract_lets was p kept proved own
  have hproved : proved = kept := kept.provePair_outside hm
  exact (if_neg fun g => absurd g.1 (by rw [hf]; decide)).trans hproved

/-- Settles O30: each message is the receiver's own update of the pair unit or the request it carries. -/
theorem pairMessagesTakeEffect : Obligations.PairMessagesTakeEffect := by
  intro s stamp
  refine ⟨fun v r => rfl, fun k r h => if_pos h, fun c m share hs hr => s.rxFillReq_none c m share hs hr,
    fun c m hf => s.rxFillData_unfilled c m hf, fun b => rfl, fun h hf hm => ?_, fun a hf hs => ?_, fun a => rfl⟩
  · have hreport : s.rxPair (.health h) stamp = _ := s.rxHealth_report h hf hm
    rw [hreport]
    exact ⟨rfl, rfl, List.getLast?_concat ..⟩
  · exact if_pos (by rcases hs with hs | hs <;> simp [hf, hs])

end Sys2Proof.Machine
end

section
/-! A pair joins, takes over and changes roles (R295, R298, R301 to R303, R311 to R313). -/

namespace Sys2Proof.Machine

open Sys2Proof.Safety

/-! ## What is sent to the partner -/

theorem State.sendPacket_mem (s : State) (l n chan : Nat) (b : LuskoBody) (p : List Byte) {o : Out} (h : o ∈ s.sent) :
    o ∈ (s.sendPacket l n chan b p).sent := by
  rw [State.sendPacket_sent]
  exact List.mem_append_left _ h

theorem pieces_ne_nil (p : List Byte) : ∃ a l, pieces p = a :: l := by
  unfold pieces
  obtain ⟨n, hn⟩ : ∃ n, max 1 (ceilDiv p.length 16384) = n + 1 := ⟨max 1 (ceilDiv p.length 16384) - 1, by omega⟩
  rw [hn, List.range_succ_eq_map]
  exact ⟨_, _, rfl⟩

/-- A message of the pair leaves on the pair's lane while that is UP (R296). -/
theorem State.sendPair_sent (s : State) (m : PairMsg) (hu : s.pairUp = true) :
    ∃ l q c p, .lusko l m.chan q c (.pair m) p ∈ (s.sendPair m).sent := by
  unfold State.pairUp at hu
  split at hu
  next l hl =>
    have hup : (s.lane l).state = .up := by simpa using hu
    obtain ⟨a, t, hp⟩ := pieces_ne_nil m.payload
    refine ⟨l, Tab.get 0 ((s.wakeTx l).lane l).txSeq m.chan, ((s.wakeTx l).lane l).sopCol (s.wakeTx l).time.lct, a, ?_⟩
    unfold State.sendPair State.sendPairBytes
    rw [hl]
    dsimp only
    rw [if_pos hup, State.sendLusko, hp, List.foldl_cons]
    refine List.foldlRecOn (motive := fun u : State => _ ∈ u.sent) t _ ?_ fun u hu _ _ => State.sendPacket_mem u _ _ _ _ _ hu
    rw [State.sendPacket_sent]
    exact List.mem_append_right _ (List.mem_singleton.mpr rfl)
  · exact absurd hu (by simp)

/-! ## The pair's state -/

/-- A change of the pair's state writes the state, and the armed heads unless it is JOINING or PAIRED. -/
theorem State.pairTo_pair (s : State) (x : PairState) (h : s.pair.state ≠ x) : (s.pairTo x).pair = { s.pair with
    state := x, armed := if x = .joining ∨ x = .paired then s.pair.armed else 0 } := by
  unfold State.pairTo
  dsimp only
  rw [if_neg h, State.emit_pair]
  cases x <;> rfl

theorem State.pairTo_same (s : State) (x : PairState) (h : s.pair.state = x) : s.pairTo x = s := by
  unfold State.pairTo
  exact if_pos h

theorem State.pairTo_only (s : State) (x : PairState) : ∃ a, (s.pairTo x).pair = { s.pair with state := x, armed := a } := by
  by_cases h : s.pair.state = x
  · rw [State.pairTo_same _ _ h, ← h]
    exact ⟨_, rfl⟩
  · exact ⟨_, State.pairTo_pair _ _ h⟩

theorem State.pairTo_prefix (s : State) (x : PairState) : s.events <+: (s.pairTo x).events := by
  unfold State.pairTo
  dsimp only
  split
  · exact List.prefix_rfl
  · exact State.emit_prefix _ _ _ List.prefix_rfl

theorem State.pairTo_disarmed (s : State) (x : PairState) (h : s.pair.armed = 0) : (s.pairTo x).pair.armed = 0 := by
  by_cases hx : s.pair.state = x
  · rw [State.pairTo_same _ _ hx, h]
  · rw [State.pairTo_pair _ _ hx]
    split
    · exact h
    · rfl

theorem State.joinFail_only (s : State) (k : Nat) : ∃ a b c d e, (s.joinFail k).pair =
    { s.pair with joinCheck := a, joinAsked := b, joinEpoch := c, joined := d, retryAt := e } := by
  unfold State.joinFail
  extract_lets p cleared told q
  have htold : told.pair = { s.pair with joinCheck := k, joinAsked := false, joinEpoch := none, joined := false } := State.emit_pair ..
  split
  · simp only [show q = _ from htold]
    exact ⟨_, _, _, _, _, rfl⟩
  · rw [htold]
    exact ⟨_, _, _, _, _, rfl⟩

/-- Asking to join writes only what the attempt keeps. -/
theorem State.pairJoin_only (s : State) : ∃ a b c d e, s.pairJoin.pair =
    { s.pair with joinCheck := a, joinAsked := b, joinEpoch := c, joined := d, retryAt := e } := by
  unfold State.pairJoin
  extract_lets p asked x
  split
  · split
    · rw [State.sendPair_pair]
      exact ⟨_, _, _, _, _, rfl⟩
    · obtain ⟨a, b, c, d, e, h⟩ := asked.joinFail_only 1
      rw [h]
      exact ⟨_, _, _, _, _, rfl⟩
  · exact ⟨_, _, _, _, _, rfl⟩

theorem State.pairJoin_asks (s : State) (he : s.pair.en = true) (ho : s.pair.actOut = false) (hi : s.pair.actIn = true)
    (hs : s.pair.state = .unpaired) (hu : s.pairUp = true) (hp : s.partnerW128 = true) :
    s.pairJoin = { s with pair := { s.pair with retryAt := none, joinAsked := true } }.sendPair (.control (.join s.joinFacts)) := by
  unfold State.pairJoin
  extract_lets p asked x
  have hup : asked.pairUp = true := hu
  have hw : asked.partnerW128 = true := hp
  rw [if_pos (by simp [p, he, ho, hi, hs]), if_pos (by rw [hup, hw]; rfl)]
  rfl

/-! ## Modes -/

@[simp] theorem State.modeTo_pair (s : State) (m : Mode) (cause : Nat) : (State.modeTo s m cause).pair = s.pair :=
  (congrArg State.pair (State.modeTo_outside { Mask.full with pair := false } s m cause (by simp [Mask.full])) :)
@[simp] theorem State.startRecs_pair (s : State) : (State.startRecs s).pair = s.pair :=
  (congrArg State.pair (State.startRecs_outside { Mask.full with pair := false } s (by simp [Mask.full])) :)
@[simp] theorem State.modeTo_adm (s : State) (m : Mode) (cause : Nat) : (State.modeTo s m cause).adm = s.adm :=
  (congrArg State.adm (State.modeTo_outside { Mask.full with adm := false } s m cause (by simp [Mask.full])) :)
@[simp] theorem State.startRecs_adm (s : State) : (State.startRecs s).adm = s.adm :=
  (congrArg State.adm (State.startRecs_outside { Mask.full with adm := false } s (by simp [Mask.full])) :)
@[simp] theorem State.pairTo_adm (s : State) (x : PairState) : (State.pairTo s x).adm = s.adm :=
  (congrArg State.adm (State.pairTo_outside { Mask.full with adm := false } s x (by simp [Mask.full])) :)
@[simp] theorem State.pairJoin_adm (s : State) : (State.pairJoin s).adm = s.adm :=
  (congrArg State.adm (State.pairJoin_outside { Mask.full with adm := false } s (by simp [Mask.full])) :)
@[simp] theorem State.pairTo_mode (s : State) (x : PairState) : (State.pairTo s x).mode = s.mode :=
  (congrArg State.mode (State.pairTo_outside { Mask.full with mode := false } s x (by simp [Mask.full])) :)
@[simp] theorem State.pairJoin_mode (s : State) : (State.pairJoin s).mode = s.mode :=
  (congrArg State.mode (State.pairJoin_outside { Mask.full with mode := false } s (by simp [Mask.full])) :)

theorem State.mode_of_rest_eq {u : State} {r : Rest} (h : u.rest = r) : u.mode.mode = r.mode.mode ∧ u.mode.sideBWait = r.mode.sideBWait := by
  subst h
  exact ⟨rfl, rfl⟩

theorem State.mode_of_rest {s u : State} (h : u.rest = s.rest) : u.mode.mode = s.mode.mode ∧ u.mode.sideBWait = s.mode.sideBWait := by
  obtain ⟨h1, h2⟩ := State.mode_of_rest_eq h
  exact ⟨h1, h2⟩

theorem State.modeTo_mode (s : State) (m : Mode) (c : Nat) : (s.modeTo m c).mode.mode = m ∧
    (s.modeTo m c).mode.sideBWait = s.mode.sideBWait := by
  by_cases h : s.mode.mode = m
  · rw [State.modeTo_same _ _ _ h]
    exact ⟨h, rfl⟩
  · exact State.mode_of_rest_eq (s.modeTo_rest m c h)

@[simp] theorem State.presentSafeHold_pair (s : State) (on : Bool) (a : Nat) : (s.presentSafeHold on a).pair = s.pair := by
  unfold State.presentSafeHold
  refine (foldl_same State.pair _ (fun u h => ?_) _ _).trans rfl
  dsimp only
  split <;> rfl

@[simp] theorem State.presentSafeHold_adm (s : State) (on : Bool) (a : Nat) : (s.presentSafeHold on a).adm = s.adm := by
  unfold State.presentSafeHold
  refine (foldl_same State.adm _ (fun u h => ?_) _ _).trans rfl
  dsimp only
  split <;> rfl

theorem State.presentSafeHold_mode (s : State) (on : Bool) (a : Nat) : (s.presentSafeHold on a).mode.mode = s.mode.mode ∧
    (s.presentSafeHold on a).mode.sideBWait = s.mode.sideBWait := by
  obtain ⟨h1, h2⟩ := State.mode_of_rest_eq (s.presentSafeHold_rest on a)
  exact ⟨h1, h2⟩

/-- Under the latch a device enters SAFE-HOLD, keeping the role that it was to take (R415). -/
theorem State.latchedHold_only (s : State) (m : Mode) : (s.latchedHold m).mode.mode = .safeHold ∧
    (s.latchedHold m).mode.sideBWait = s.mode.sideBWait ∧ (s.latchedHold m).pair = { s.pair with shadow := m == .shadow } ∧
    (s.latchedHold m).adm = s.adm := by
  unfold State.latchedHold
  extract_lets held x latched q shadowed
  obtain ⟨hm, hb⟩ := s.modeTo_mode .safeHold ShCause.latched.code
  obtain ⟨h1, h2⟩ := State.mode_of_rest (State.startRecs_rest (shadowed.presentSafeHold true shadowed.now))
  obtain ⟨h3, h4⟩ := shadowed.presentSafeHold_mode true shadowed.now
  have hmode : shadowed.mode.mode = .safeHold := hm
  have hwait : shadowed.mode.sideBWait = s.mode.sideBWait := hb
  have hpair : shadowed.pair = { s.pair with shadow := m == .shadow } :=
    congrArg (fun p : PairUnit => { p with shadow := m == Mode.shadow }) (s.modeTo_pair .safeHold ShCause.latched.code)
  have hadm : shadowed.adm = s.adm := s.modeTo_adm ..
  clear_value shadowed
  refine ⟨h1.trans (h3.trans hmode), h2.trans (h4.trans hwait), ?_, ?_⟩
  · rw [State.startRecs_pair, State.presentSafeHold_pair, hpair]
  · rw [State.startRecs_adm, State.presentSafeHold_adm, hadm]

theorem State.raiseActOut_only (s : State) : ∃ a b, s.raiseActOut = { s with pair := { s.pair with actOut := a, outsel := b } } := by
  unfold State.raiseActOut
  split <;> exact ⟨_, _, rfl⟩

theorem State.enterShadow_only (s : State) (c : Nat) : (s.enterShadow c).mode.mode = .shadow ∧
    (s.enterShadow c).mode.sideBWait = s.mode.sideBWait ∧
    (s.enterShadow c).pair = { s.pair with actOut := false, outsel := false, shadow := true } ∧ (s.enterShadow c).adm = s.adm := by
  unfold State.enterShadow
  extract_lets started
  obtain ⟨hm, hb⟩ := s.modeTo_mode .shadow c
  obtain ⟨h1, h2⟩ := State.mode_of_rest (State.startRecs_rest (s.modeTo .shadow c).dropActOut)
  have hpair : started.pair = { s.pair with actOut := false, outsel := false } := by
    simp only [started, State.startRecs_pair, State.dropActOut, State.modeTo_pair]
  have hadm : started.adm = s.adm := by simp only [started, State.startRecs_adm, State.dropActOut, State.modeTo_adm]
  have hmode : started.mode.mode = .shadow := h1.trans hm
  have hwait : started.mode.sideBWait = s.mode.sideBWait := h2.trans hb
  exact ⟨hmode, hwait, congrArg (fun p : PairUnit => { p with shadow := true }) hpair, hadm⟩

/-- Entering RUN writes the mode, and of the pair the role, its pins and, where it was ALONE, its state. -/
theorem State.enterRun_only (s : State) (c : Nat) : (s.enterRun c).mode.mode = .run ∧
    (s.enterRun c).mode.sideBWait = s.mode.sideBWait ∧ (s.enterRun c).adm = s.adm ∧
    ∃ a b x y, (s.enterRun c).pair = { s.pair with actOut := a, outsel := b, shadow := false, state := x, armed := y } ∧
      (s.pair.armed = 0 → y = 0) := by
  unfold State.enterRun
  extract_lets started p active
  obtain ⟨hm, hb⟩ := s.modeTo_mode .run c
  obtain ⟨a, b, hr⟩ := (s.modeTo .run c).raiseActOut_only
  have hpair : started.pair = { s.pair with actOut := a, outsel := b } := by
    simp only [started, State.startRecs_pair, hr, State.modeTo_pair]
  have hadm : started.adm = s.adm := by simp only [started, State.startRecs_adm, hr, State.modeTo_adm]
  obtain ⟨h1, h2⟩ := State.mode_of_rest (State.startRecs_rest (s.modeTo .run c).raiseActOut)
  have hmode : started.mode.mode = .run := h1.trans (by rw [hr]; exact hm)
  have hwait : started.mode.sideBWait = s.mode.sideBWait := h2.trans (by rw [hr]; exact hb)
  have hactive : active.pair = { s.pair with actOut := a, outsel := b, shadow := false } := by simp only [active, p, hpair]
  split
  · obtain ⟨y, hy⟩ := active.pairTo_only .unpaired
    obtain ⟨h3, h4⟩ := State.mode_of_rest (State.pairTo_rest active .unpaired)
    refine ⟨h3.trans hmode, h4.trans hwait, (State.pairTo_adm ..).trans hadm, a, b, .unpaired, y, by rw [hy, hactive], fun h0 => ?_⟩
    have hzero := active.pairTo_disarmed .unpaired (by rw [hactive]; exact h0)
    rw [hy] at hzero
    exact hzero
  · exact ⟨hmode, hwait, hadm, a, b, s.pair.state, s.pair.armed, hactive, id⟩

theorem State.joinAsShadow_mode (s : State) : s.joinAsShadow.mode = s.mode :=
  (State.pairJoin_mode (s.pairTo .unpaired)).trans (State.pairTo_mode s .unpaired)

theorem State.joinAsShadow_adm (s : State) : s.joinAsShadow.adm = s.adm :=
  (State.pairJoin_adm (s.pairTo .unpaired)).trans (State.pairTo_adm s .unpaired)

theorem State.joinAsShadow_pair (s : State) : s.joinAsShadow.pair.shadow = s.pair.shadow ∧ s.joinAsShadow.pair.actIn = s.pair.actIn := by
  unfold State.joinAsShadow
  obtain ⟨y, hy⟩ := s.pairTo_only .unpaired
  obtain ⟨a, b, c, d, e, hj⟩ := (s.pairTo .unpaired).pairJoin_only
  rw [hj, hy]
  exact ⟨rfl, rfl⟩

theorem State.enterGo_shadow (s : State) : (s.enterGo true).mode.mode = (if s.aon.shLatch then .safeHold else .shadow) ∧
    (s.enterGo true).mode.sideBWait = s.mode.sideBWait ∧ (s.enterGo true).adm = s.adm ∧ (s.enterGo true).pair.shadow = true ∧
    (s.enterGo true).pair.actIn = s.pair.actIn := by
  have hgo : s.enterGo true = if s.aon.shLatch then s.latchedHold .shadow else (s.enterShadow 0).joinAsShadow := by
    simp only [State.enterGo, if_true]
  rw [hgo]
  split
  · obtain ⟨h1, h2, h3, h4⟩ := s.latchedHold_only .shadow
    exact ⟨h1, h2, h4, by rw [h3]; rfl, by rw [h3]⟩
  · obtain ⟨h1, h2, h3, h4⟩ := s.enterShadow_only 0
    obtain ⟨j3, j4⟩ := (s.enterShadow 0).joinAsShadow_pair
    rw [State.joinAsShadow_mode, State.joinAsShadow_adm, j3, j4, h3]
    exact ⟨h1, h2, h4, rfl, rfl⟩

theorem State.enterGo_run (s : State) : (s.enterGo false).mode.mode = (if s.aon.shLatch then .safeHold else .run) ∧
    (s.enterGo false).mode.sideBWait = s.mode.sideBWait ∧ (s.enterGo false).adm = s.adm ∧ (s.enterGo false).pair.shadow = false := by
  have hgo : s.enterGo false = if s.aon.shLatch then s.latchedHold .run else s.enterRun 0 := by
    simp only [State.enterGo, Bool.false_eq_true, if_false]
  rw [hgo]
  split
  · obtain ⟨h1, h2, h3, h4⟩ := s.latchedHold_only .run
    exact ⟨h1, h2, h4, by rw [h3]; rfl⟩
  · obtain ⟨h1, h2, h4, a, b, x, y, h3, -⟩ := s.enterRun_only 0
    exact ⟨h1, h2, h4, by rw [h3]⟩

/-- Taking the role keeps that no takeover runs and that no head is armed. -/
theorem State.takeRole_only (s : State) : s.takeRole.pair.takeover = s.pair.takeover ∧ s.takeRole.pair.shadow = false ∧
    (s.pair.armed = 0 → s.takeRole.pair.armed = 0) := by
  unfold State.takeRole
  extract_lets p active mode prev
  have hraise : ∀ u : State, u.pair = active.pair → u.raiseActOut.pair.takeover = s.pair.takeover ∧ u.raiseActOut.pair.shadow = false ∧
      (s.pair.armed = 0 → u.raiseActOut.pair.armed = 0) := by
    intro u hu
    obtain ⟨a, b, hr⟩ := u.raiseActOut_only
    rw [hr, hu]
    exact ⟨rfl, rfl, id⟩
  split
  · obtain ⟨-, -, -, a, b, x, y, h, h0⟩ := active.enterRun_only 0
    rw [h]
    exact ⟨rfl, rfl, h0⟩
  · refine hraise _ ?_
    simp only [prev]
    split <;> rfl
  · exact hraise active rfl
  · exact ⟨rfl, rfl, id⟩

/-! ## The commands -/

theorem joinEpoch_due (t : Nat) (s : State) (j : Nat) (hj : s.pair.joinEpoch = some j) (hd : j ≤ (s.at t).now)
    (hn : s.pair.joined = false) (ha : s.pairActive = true) (hu : s.pairUp = true) :
    gives (.joinEpoch t) s (fun w => w.pair.joined = true ∧ w.pair.joinAt = (s.at t).now ∧
      w.pair.state = s.pair.state ∧ ∃ l q c x p, .lusko l 10 q c (.pair (.control (.transfer j x))) p ∈ w.sent) := by
  have hepoch : (s.at t).pair.joinEpoch = some j := hj
  show ∃ w, execJoinEpoch t s = .next w ∧ _
  unfold execJoinEpoch
  dsimp only
  split
  case h_2 hnone => exact absurd (hepoch.symm.trans hnone) (by simp)
  next k hk =>
  obtain rfl : j = k := Option.some.inj (hepoch.symm.trans hk)
  rw [if_pos ⟨hd, by simp [hn]⟩]
  generalize hm : ({ s.at t with pair := { (s.at t).pair with joined := true, joinAt := (s.at t).now } } : State) = u
  have hpair : u.pair = { (s.at t).pair with joined := true, joinAt := (s.at t).now } := by rw [← hm]
  have hactive : u.pairActive = true := by rw [← hm]; exact ha
  have hup : u.pairUp = true := by rw [← hm]; exact hu
  obtain ⟨l, q, c, p, hsent⟩ := u.sendPair_sent (.control (.transfer j u.transferOut)) hup
  refine ⟨_, if_pos hactive, ?_, ?_, ?_, l, q, c, u.transferOut, p, hsent⟩
  · rw [State.sendPair_pair, hpair]
  · rw [State.sendPair_pair, hpair]
  · rw [State.sendPair_pair, hpair]
    rfl

theorem joinRetry_due (t : Nat) (s : State) (a : Nat) (ha : s.pair.retryAt = some a) (hd : a ≤ (s.at t).now)
    (hs : s.pair.state = .unpaired) (hr : s.pair.shadow = true) : exec (.joinRetry t) s = .next (s.at t).pairJoin := by
  show execJoinRetry t s = _
  unfold execJoinRetry
  dsimp only
  rw [State.at_pair, ha]
  exact if_pos ⟨hd, hs, hr⟩

@[simp] theorem State.sendPair_regs (s : State) (m : PairMsg) : (State.sendPair s m).regs = s.regs :=
  (congrArg State.regs (State.sendPair_outside { Mask.full with regs := false } s m (by simp [Mask.full])) :)
@[simp] theorem State.sendPair_reg (s : State) (m : PairMsg) (i : Nat) : (State.sendPair s m).reg i = s.reg i := by
  simp [State.reg]

/-- A bit for each head of a list, taken together. -/
theorem getLsbD_headMask (l : List Nat) (a : BitVec 16) (h : Nat) (hh : h < 16) (hm : h ∈ l ∨ a.getLsbD h = true) :
    (l.foldl (fun (b : BitVec 16) k => b ||| BitVec.ofNat 16 (2 ^ k)) a).getLsbD h = true := by
  have hbit : ∀ k : Fin 16, (BitVec.ofNat 16 (2 ^ k.val)).getLsbD k.val = true := by decide
  induction l generalizing a with
  | nil => exact hm.resolve_left List.not_mem_nil
  | cons k t ih =>
    refine ih _ ?_
    rcases hm with hm | hm
    · rcases List.mem_cons.mp hm with rfl | hm
      · exact .inr (by rw [BitVec.getLsbD_or, hbit ⟨h, hh⟩, Bool.or_true])
      · exact .inl hm
    · exact .inr (by rw [BitVec.getLsbD_or, hm, Bool.true_or])

theorem joinMaxExpire_due (t : Nat) (s : State) (hs : s.pair.state = .joining)
    (hd : s.pair.joinAt + s.pair.joinMax * 1000000 ≤ (s.at t).now) :
    gives (.joinMaxExpire t) s (fun w => w.pair.state = .paired ∧
      ∀ h ∈ s.pairHeads, h < 16 → w.pair.armed.getLsbD h = true ∨ w.pair.excl.getLsbD h = true) := by
  refine gives_of_next (if_pos ⟨hs, hd⟩) ?_
  rw [State.pairTo_pair _ _ (by simp [hs])]
  refine ⟨rfl, fun h hm hh => ?_⟩
  by_cases ha : s.pair.armed.getLsbD h = true
  · exact .inl ha
  · refine .inr ?_
    dsimp only
    rw [BitVec.getLsbD_or, Bool.or_eq_true]
    exact .inr (getLsbD_headMask _ 0 h hh (.inl (List.mem_filter.mpr ⟨hm, by simp [ha]⟩)))

theorem takeoverEpoch_due (t : Nat) (s : State) (x sw : Nat) (hk : s.pair.takeover = some (x, false, sw)) (hx : x ≤ (s.at t).now) :
    gives (.takeoverEpoch t) s (fun w => w.pair.takeover = some (x, true, sw) ∧ w.pair.fills = [] ∧
      w.reg Reg.pairTakeovers = satAdd32 (s.reg Reg.pairTakeovers) 1) := by
  refine gives_of_next (w := (s.at t).takeoverEpoch) ?_ ?_
  · show execTakeoverEpoch t s = _
    unfold execTakeoverEpoch
    dsimp only
    rw [State.at_pair, hk]
    exact if_pos hx
  · unfold State.takeoverEpoch
    rw [State.at_pair, hk]
    dsimp only
    rw [State.emitAt_pair, State.count_pair, State.sendPair_pair, State.emitAt_reg, State.count_self]
    have hkeep : ∀ (l : List Nat) (u : State), (l.foldl (fun (v : State) c => v.setCtx c { v.ctx c with entries := [] }) u).pair = u.pair :=
      fun l u =>
        foldl_same (f := fun (v : State) c => v.setCtx c { v.ctx c with entries := [] }) State.pair (fun _ _ => rfl) l u
    have hregs : ∀ (l : List Nat) (u : State), (l.foldl (fun (v : State) c => v.setCtx c { v.ctx c with entries := [] }) u).regs = u.regs :=
      fun l u =>
        foldl_same (f := fun (v : State) c => v.setCtx c { v.ctx c with entries := [] }) State.regs (fun _ _ => rfl) l u
    rw [hkeep]
    refine ⟨rfl, rfl, ?_⟩
    rw [State.sendPair_reg, State.reg, hregs]
    rfl

theorem takeoverSwitch_due (t : Nat) (s : State) (x sw : Nat) (hk : s.pair.takeover = some (x, true, sw)) (hx : sw ≤ (s.at t).now) :
    exec (.takeoverSwitch t) s = .next ((State.takeRole { s.at t with
      pair := { s.pair with takeover := none, switchAt := none, armed := 0, joinAt := (s.at t).now } }).pairTo
        (if s.pair.switchAt.isSome then .joining else .unpaired)) := by
  show execTakeoverSwitch t s = _
  unfold execTakeoverSwitch
  dsimp only
  rw [State.at_pair, hk]
  exact if_pos ⟨rfl, hx⟩

/-- Without a role to give, the rise of ACT_IN ends the loss and no more. -/
theorem State.actInRise_silent (s : State) (h : s.pair.actOut = false) :
    s.actInRise = { s with pair := { s.pair with actIn := true, actInLow := none, outsel := false } } := by
  unfold State.actInRise
  exact if_neg fun g => by simp [h] at g

theorem State.planTakeover_some (s : State) (x : Nat) (hk : s.pair.takeover = none) (hm : s.mode.mode ≠ .proving) :
    (s.planTakeover x).pair.takeover.isSome = true ∧ (s.planTakeover x).pair.actIn = s.pair.actIn := by
  unfold State.planTakeover
  rw [if_neg (by simp [hk, hm])]
  exact ⟨rfl, rfl⟩

/-- Settles O31: a change of role writes the mode and the pair's own fields, and a quiet queue stays as it is. -/
theorem pairRolesChange : Obligations.PairRolesChange := by
  intro t s
  refine ⟨fun j hj hd hn ha hu => joinEpoch_due t s j hj hd hn ha hu, fun a ha hd hs hr => ⟨?_, fun he ho hi hu hp => ?_⟩,
    fun hs hd => joinMaxExpire_due t s hs hd, fun x sw hk hx => takeoverEpoch_due t s x sw hk hx, fun x sw hk hx => ?_,
    fun he hr hy hal hk hm => ?_, fun he ho hw => ?_, fun hw ho hq hwait hf => ?_, fun a hw hd hi hq hwait hf => ?_⟩
  · exact gives_of_next (joinRetry_due t s a ha hd hs hr) rfl
  · refine gives_of_next (joinRetry_due t s a ha hd hs hr) ?_
    rw [(s.at t).pairJoin_asks he ho hi hs hu hp]
    obtain ⟨l, q, c, p, hsent⟩ := State.sendPair_sent { s.at t with pair := { (s.at t).pair with retryAt := none, joinAsked := true } }
      (.control (.join (s.at t).joinFacts)) hu
    exact ⟨by rw [State.sendPair_pair], by rw [State.sendPair_pair], l, q, c, _, p, hsent⟩
  · refine gives_of_next (takeoverSwitch_due t s x sw hk hx) ⟨rfl, ?_⟩
    generalize hu : ({ s.at t with
      pair := { s.pair with takeover := none, switchAt := none, armed := 0, joinAt := (s.at t).now } } : State) = u
    obtain ⟨h1, h2, h3⟩ := u.takeRole_only
    obtain ⟨y, hy⟩ := u.takeRole.pairTo_only (if s.pair.switchAt.isSome then .joining else .unpaired)
    refine ⟨by rw [hy, h1, ← hu], by rw [hy, h2], State.pairTo_disarmed _ _ (h3 (by rw [← hu])), by rw [hy]⟩
  · refine gives_of_next (if_pos ⟨he, hr, hy, hal⟩) ?_
    obtain ⟨h1, h2⟩ := State.planTakeover_some { s.at t with pair := { s.pair with actIn := false, actInLow := some (s.at t).now } }
      (s.at t).now hk hm
    exact ⟨h2, h1⟩
  · refine gives_of_next (w := (s.at t).actInRise) ?_ ?_
    · refine if_neg ?_
      rw [(s.at t).actInRise_silent ho]
      simp [hw]
    · rw [(s.at t).actInRise_silent ho]
      exact ⟨rfl, rfl, rfl⟩
  · refine gives_of_next (if_pos (by rw [(s.at t).actInRise_silent ho]; exact hw)) ?_
    rw [(s.at t).actInRise_silent ho]
    generalize hu : (State.setMode { s.at t with pair := { (s.at t).pair with actIn := true, actInLow := none, outsel := false } }
      { s.mode with sideBWait := none }) = u
    obtain ⟨h1, h2, h3, h4, h5⟩ := u.enterGo_shadow
    have hquiet : quietQueue (u.enterGo true) := by
      rw [quietQueue, h3, ← hu]
      exact ⟨hq, hf, hwait⟩
    dsimp only
    rw [show State.setMode { s.at t with pair := { (s.at t).pair with actIn := true, actInLow := none, outsel := false } }
      { (s.at t).mode with sideBWait := none } = u from hu]
    rw [State.runQueue_quiet _ hquiet]
    rw [h1, h2, h4, h5, ← hu]
    exact ⟨rfl, rfl, rfl, rfl⟩
  · refine gives_of_next (w := (((s.at t).setMode { s.mode with sideBWait := none }).enterGo false).runQueue) ?_ ?_
    · show execSideBGoTimeout t s = _
      unfold execSideBGoTimeout
      dsimp only
      rw [State.at_mode, hw]
      exact if_pos ⟨hd, by rw [State.at_pair, hi]; simp⟩
    · obtain ⟨h1, h2, h3, h4⟩ := ((s.at t).setMode { s.mode with sideBWait := none }).enterGo_run
      rw [State.runQueue_quiet _ (by rw [quietQueue, h3]; exact ⟨hq, hf, hwait⟩)]
      exact ⟨h2, h4, h1⟩

end Sys2Proof.Machine
end

section
/-! Signature blocks are compared, divergences attributed, retention and fill waits end, and PAIR_SYNC is sent (R296, R304, R307, R309). -/

namespace Sys2Proof.Machine

open Sys2Proof.Safety

theorem pairSyncSend_up (t : Nat) (s : State) (l : Nat) (hl : s.pairLane = some l) (hu : (s.lane l).state = .up) :
    exec (.pairSyncSend t) s = .next ((s.at t).sendTime l 1 (fun v rate => .pair (.sync v rate))) := by
  show execPairSyncSend t s = _
  have hlane : (s.at t).pairLane = some l := hl
  simp only [execPairSyncSend, hlane]
  exact if_pos hu

theorem pairSkewTimeout_due (t : Nat) (s : State) (a : Nat) (hb : s.pair.skewBad = some a) (hd : a + 100000000 ≤ (s.at t).now)
    (hn : s.pair.skewSaid = false) :
    gives (.pairSkewTimeout t) s (fun w => w.pair.skewSaid = true ∧ raises .pairSkew 0 [s.pair.skew] s w ∧
      w.pair.state = (if s.pair.state = .paired then .unpaired else s.pair.state)) := by
  generalize hsaid : ({ s.at t with pair := { s.pair with skewSaid := true } } : State).emit .pairSkew 0 [s.pair.skew] = told
  have hx : exec (.pairSkewTimeout t) s = .next (if told.pair.state = .paired then told.pairTo .unpaired else told) := by
    rw [← hsaid]
    show execPairSkewTimeout t s = _
    simp only [execPairSkewTimeout, State.at_pair, hb]
    exact if_pos ⟨hd, by simp [hn]⟩
  have htold : told.pair = { s.pair with skewSaid := true } := by rw [← hsaid, State.emit_pair]
  have hraised : raises .pairSkew 0 [s.pair.skew] s told := by
    rw [← hsaid]
    exact raises_emit_self _ _ _ _ _ rfl
  refine gives_of_next hx ?_
  by_cases hs : s.pair.state = .paired
  · obtain ⟨y, hy⟩ := told.pairTo_only .unpaired
    rw [if_pos (by rw [htold]; exact hs), if_pos hs, hy, htold]
    exact ⟨rfl, raises_of_prefix hraised (State.pairTo_prefix ..), rfl⟩
  · rw [if_neg (by rw [htold]; exact hs), if_neg hs, htold]
    exact ⟨rfl, hraised, rfl⟩

theorem pairComparison_due (t : Nat) (h : Fin 16) (s : State) (a b : SigBlock) (ho : s.pair.ownBlocks = [a]) (hh : a.head = h.val)
    (hd : a.epoch + s.pair.cmpDelay * 1000 ≤ (s.at t).now) (ha : s.pair.armed.getLsbD h.val = true) (hs : s.pair.state = .paired)
    (hp : s.partnerOf a = some b) : exec (.pairComparison t h) s =
      .next (((State.compareBlocks (s.at t) (a.epoch + s.pair.cmpDelay * 1000) a b).dropCompared b).dropBlocks h.val a.epoch) := by
  have hpartner : (s.at t).partnerOf a = some b := hp
  have hfind : s.pair.ownBlocks.find? (fun b => b.head == h.val && decide (b.epoch + s.pair.cmpDelay * 1000 ≤ (s.at t).now)) = some a := by
    rw [ho]
    simp [hh, hd]
  show execPairComparison t h s = _
  unfold execPairComparison
  simp only [State.at_pair, hfind, hpartner]
  exact if_pos (by rw [ha, hs]; rfl)

@[simp] theorem State.gapBegin_ctxs (s : State) (k : Nat) : (State.gapBegin s k).ctxs = s.ctxs :=
  (congrArg State.ctxs (State.gapBegin_outside { Mask.full with ctxs := false } s k (by simp [Mask.full])) :)
@[simp] theorem State.gapBegin_ctx (s : State) (k : Nat) (i : Nat) : (State.gapBegin s k).ctx i = s.ctx i := by
  simp [State.ctx]

theorem fillTimeout_due (t : Nat) (c : Fin 160) (s : State) (f : FillWait) (x : NetDecl) (hf : s.pair.fills = [f]) (hk : f.entry.kind = 0)
    (hi : f.entry.index = c.val) (hx : s.netDecl c.val = some x) (hd : f.deadline ≤ (s.at t).now) (hp : s.pairFollows = true) :
    gives (.fillTimeout t c) s (fun w => ∃ held, w = (State.applyUnit ((s.at t).gapBegin c.val) x f.entry true held
      (entryNals (s.ctx c.val) f.entry)).runIngest c.val x) := by
  have hfind : s.pair.fills.find? (fun w => w.entry.kind != 2 && w.entry.index == c.val) = some f := by
    rw [hf]
    simp [hk, hi]
  have hdecl : (s.at t).netDecl c.val = some x := hx
  have hfollows : (s.at t).pairFollows = true := hp
  show ∃ w, execFillTimeout t c s = .next w ∧ _
  simp only [execFillTimeout, State.at_pair, hfind, hdecl, State.gapBegin_ctx, State.at_ctx]
  exact ⟨_, if_pos ⟨hk, hd, hfollows⟩, _, rfl⟩

/-- Settles O32: the block, the wait or the skew that is due is the one that the command finds. -/
theorem pairComparesAndFills : Obligations.PairComparesAndFills := by
  intro t s
  refine ⟨fun l hl hu he => ?_, fun a hb hd hn => pairSkewTimeout_due t s a hb hd hn,
    fun h a b ho hh hd ha hs hp => gives_of_next (pairComparison_due t h s a b ho hh hd ha hs hp) rfl, fun v hv hd => ?_,
    gives_of_next rfl rfl, fun c f x hf hk hi hx hd hp => fillTimeout_due t c s f x hf hk hi hx hd hp⟩
  · refine gives_of_next (pairSyncSend_up t s l hl hu) ⟨_, _, _, rfl, rfl, rfl, ?_⟩
    rw [State.sendTime_awake (s.at t) l 1 _ he, State.sendPacket_sent, State.at_time_rate]
    rfl
  · refine gives_of_next (w := (s.at t).attribute v) ?_ rfl
    show execAttributionDecide t s = _
    simp only [execAttributionDecide, State.at_pair, hv]
    exact if_pos (by rw [Bool.or_eq_true]; exact .inr (decide_eq_true hd))

end Sys2Proof.Machine
end

section
/-! Which plain registers and counters an operation writes: a set of registers, and that all others read as before (R437, R439). -/

namespace Sys2Proof.Machine

/-- The registers outside a set, as a table gives them. -/
def offRegs (K : Nat → Prop) (r : Tab Nat) : { a : Nat // ¬ K a } → Nat := fun a => Tab.get (regReset a) r a

theorem reg_of_offRegs {K : Nat → Prop} {s w : State} (h : offRegs K w.regs = offRegs K s.regs) (a : Nat) (ha : ¬ K a) :
    w.reg a = s.reg a := congrFun h ⟨a, ha⟩

@[simp] theorem offRegs_set (K : Nat → Prop) (r : Tab Nat) (d o v : Nat) (h : K o) : offRegs K (Tab.set d r o v) = offRegs K r := by
  funext a
  exact Tab.get_set_other _ _ _ _ _ _ fun e => a.property (e ▸ h)

section
variable (K : Nat → Prop)

theorem offRegs_foldl {β : Type} (f : State → β → State) (h : ∀ s b, offRegs K (f s b).regs = offRegs K s.regs) (l : List β) (s : State) :
    offRegs K (l.foldl f s).regs = offRegs K s.regs := foldl_same (fun u => offRegs K u.regs) f h l s

/-- A choice between two states leaves the registers that both leave. -/
@[simp] theorem offRegs_ite (c : Prop) [Decidable c] (x y : State) : offRegs K (if c then x else y).regs =
    if c then offRegs K x.regs else offRegs K y.regs := by
  split <;> rfl

@[simp] theorem State.orReg_offRegs (s : State) (o v : Nat) (h : K o) : offRegs K (s.orReg o v).regs = offRegs K s.regs := by
  simp [State.orReg, h]

@[simp] theorem State.unitOvf_offRegs (s : State) (u n : Nat) (h : K (Reg.pmcOvf u)) :
    offRegs K (s.unitOvf u n).regs = offRegs K s.regs := by
  simp [State.unitOvf, h]

@[simp] theorem State.progAdd_offRegs (s : State) (u i n : Nat) (h : K (Reg.pmcOvf u)) :
    offRegs K (s.progAdd u i n).regs = offRegs K s.regs := by
  unfold State.progAdd
  dsimp only
  split <;> simp [h]

@[simp] theorem State.pmc_offRegs (s : State) (u c n : Nat) (h : K (Reg.pmcOvf u)) : offRegs K (s.pmc u c n).regs = offRegs K s.regs := by
  unfold State.pmc
  refine offRegs_foldl K _ (fun v i => ?_) _ _
  dsimp only
  split <;> simp [h]

@[simp] theorem State.addSlots_offRegs (s : State) (u : Nat) (c : SlotClass) (n : Nat) (h : K (Reg.pmcOvf u)) :
    offRegs K (s.addSlots u c n).regs = offRegs K s.regs := by
  unfold State.addSlots
  cases c with
  | work => simp
  | front =>
    dsimp only
    split <;> split <;> simp [h]
  | back =>
    dsimp only
    split <;> split <;> simp [h]

@[simp] theorem State.slotsTo_offRegs (s : State) (u : Nat) (c : SlotClass) (why : Nat) (h : K (Reg.pmcOvf u)) :
    offRegs K (s.slotsTo u c why).regs = offRegs K s.regs := by
  unfold State.slotsTo
  dsimp only
  split <;> simp [h]

@[simp] theorem State.endWork_offRegs (s : State) (u : Nat) (r : Bool) (h : K (Reg.pmcOvf u)) :
    offRegs K (s.endWork u r).regs = offRegs K s.regs := by
  simp [State.endWork, h]

@[simp] theorem State.stallSlots_offRegs (s : State) (u c n : Nat) (h : K (Reg.pmcOvf u)) :
    offRegs K (s.stallSlots u c n).regs = offRegs K s.regs := by
  unfold State.stallSlots
  simp [h]

@[simp] theorem State.headCount_offRegs (s : State) (x i n : Nat) (h : K (Reg.headCount x i)) (ho : K (Reg.headOvf x)) :
    offRegs K (s.headCount x i n).regs = offRegs K s.regs := by
  unfold State.headCount
  dsimp only
  split <;> simp [h, ho]

@[simp] theorem State.chCount_offRegs (s : State) (c i n : Nat) (h : K (Reg.chCount c i)) (ho : K (Reg.chOvf c)) :
    offRegs K (s.chCount c i n).regs = offRegs K s.regs := by
  unfold State.chCount
  dsimp only
  split <;> simp [h, ho]

@[simp] theorem State.syncEngine_offRegs (s : State) (e : Nat) (h : K (Reg.pmcOvf (unitEngine e))) :
    offRegs K (s.syncEngine e).regs = offRegs K s.regs := by
  simp [State.syncEngine, h]

end

/-! ## Sheet engines -/

@[simp] theorem State.discardTile_surfs (s : State) (e : Nat) : (State.discardTile s e).surfs = s.surfs :=
  (congrArg State.surfs (State.discardTile_outside { Mask.full with surfs := false } s e (by simp [Mask.full])) :)
@[simp] theorem State.discardTile_surf (s : State) (e : Nat) (i : Nat) : (State.discardTile s e).surf i = s.surf i := by
  simp [State.surf]

theorem State.discardTile_restarts (s : State) (e : Nat) (he : e < 2) :
    (s.discardTile e).reg (Reg.sheetTileRestarts e) = satAdd32 (s.reg (Reg.sheetTileRestarts e)) 1 := by
  have hne : Reg.sheetTileRestarts e ≠ Reg.pmcOvf (unitEngine e) := by
    simp only [Reg.sheetTileRestarts, Reg.pmcOvf, unitEngine]
    omega
  unfold State.discardTile
  dsimp only
  have hpmc : ∀ u : State, (u.pmc (unitEngine e) 4 1).reg (Reg.sheetTileRestarts e) = u.reg (Reg.sheetTileRestarts e) := fun u =>
    reg_of_offRegs (K := fun a => a = Reg.pmcOvf (unitEngine e)) (by simp) _ hne
  have hend : ((s.syncEngine e).endWork (unitEngine e) false).reg (Reg.sheetTileRestarts e) = s.reg (Reg.sheetTileRestarts e) :=
    reg_of_offRegs (K := fun a => a = Reg.pmcOvf (unitEngine e)) (by simp) _ hne
  rw [hpmc, State.count_self, hend]

end Sys2Proof.Machine
end

section
/-! Sheets begin at their epochs, are composed tile by tile, wait on pages and resume (R225 to R227). -/

namespace Sys2Proof

/-- A sheet but for the frames that it holds and shows. -/
def Sheet.bare (x : Sheet) : Sheet := { x with released := [], bufs := [] }

end Sys2Proof

namespace Sys2Proof.Machine

open Sys2Proof.Safety

/-! ## What a release leaves of a sheet -/

theorem State.setFrame_sheet_bare (s : State) (r : FrameRef) (f : Frame) (n : Nat) :
    ((s.setFrame r f).sheet n).bare = (s.sheet n).bare := by
  unfold State.setFrame State.setBufs
  split
  · simp
  · simp
  next m _ =>
    by_cases h : n = m
    · subst h
      simp [Sheet.bare]
    · simp [State.setSheet_other _ _ _ _ h]

theorem State.giveFrame_sheet_bare (s : State) (c : Consumer) (src : Source) (r : FrameRef) (n : Nat) :
    ((s.giveFrame c src r).sheet n).bare = (s.sheet n).bare := by
  cases c with
  | head m => simp [State.giveFrame]
  | sheet m =>
    simp only [State.giveFrame]
    have hset : ∀ (u : State) (x : Sheet), x.bare = (u.sheet m).bare → ((u.setSheet m x).sheet n).bare = (u.sheet n).bare := by
      intro u x hx
      by_cases h : n = m
      · subst h
        simpa using hx
      · rw [State.setSheet_other _ _ _ _ h]
    refine (hset _ _ (by simp [Sheet.bare])).trans ((State.setFrame_sheet_bare ..).trans ?_)
    split
    · exact State.setFrame_sheet_bare ..
    · rfl

theorem State.settlePending_sheet_bare (s : State) (src : Source) (r : FrameRef) (n : Nat) :
    ((s.settlePending src r).sheet n).bare = (s.sheet n).bare := by
  unfold State.settlePending
  dsimp only
  split
  · exact State.setFrame_sheet_bare ..
  · rfl

@[simp] theorem State.countRelease_sheet (s : State) (src : Source) (d n : Nat) : (s.countRelease src d).sheet n = s.sheet n := by
  cases src <;> simp [State.countRelease]

theorem State.markDone_sheet_bare (s : State) (c : Consumer) (due : List FrameRef) (n : Nat) :
    ((s.markDone c due).sheet n).bare = (s.sheet n).bare :=
  foldl_same (fun u => (u.sheet n).bare) _ (fun _ _ => State.setFrame_sheet_bare ..) due s

theorem State.settleOthers_sheet_bare (s : State) (src : Source) (r : FrameRef) (due : List FrameRef) (n : Nat) :
    ((s.settleOthers src r due).sheet n).bare = (s.sheet n).bare := by
  refine foldl_same (fun u => (u.sheet n).bare) _ (fun u q => ?_) due s
  split
  · rfl
  · exact State.settlePending_sheet_bare ..

theorem State.releaseSource_sheet_bare (s : State) (c : Consumer) (e : Nat) (src : Source) (n : Nat) :
    ((s.releaseSource c e src).sheet n).bare = (s.sheet n).bare := by
  cases h : s.latestOf (s.dueFrames c src e) with
  | none => simp [State.releaseSource, h]
  | some r =>
    rw [s.releaseSource_of_latest c e src r h, State.settleOthers_sheet_bare, State.countRelease_sheet, State.giveFrame_sheet_bare,
      State.markDone_sheet_bare]

/-- A release writes only the frames that a sheet holds and shows. -/
theorem State.releaseAll_sheet_bare (s : State) (c : Consumer) (e n : Nat) : ((s.releaseAll c e).sheet n).bare = (s.sheet n).bare :=
  foldl_same (fun u => (u.sheet n).bare) _ (fun u src => u.releaseSource_sheet_bare c e src n) _ s

theorem State.sheetTurn_settled (s : State) (n e : Nat) (h : (s.sheet n).switchDue = false) :
    s.sheetTurn n e = s.releaseAll (.sheet n) e := by
  have hd : ((s.releaseAll (.sheet n) e).sheet n).switchDue = false :=
    (congrArg Sheet.switchDue (s.releaseAll_sheet_bare (.sheet n) e n) :).trans h
  exact if_neg fun g => by rw [hd] at g; exact absurd g.1 (by decide)

@[simp] theorem State.discardTile_insts (s : State) (e : Nat) : (State.discardTile s e).insts = s.insts :=
  (congrArg State.insts (State.discardTile_outside { Mask.full with insts := false } s e (by simp [Mask.full])) :)
@[simp] theorem State.discardTile_inst (s : State) (e : Nat) (i : Nat) : (State.discardTile s e).inst i = s.inst i := by
  simp [State.inst]

/-! ## The commands -/

theorem sheetEpoch_due (t : Nat) (s : State) (n : Fin 32) (e : Nat)
    (he : epochAtOrBefore (s.sheet n.val).cfg.t0 (s.sheet n.val).cfg.period (s.at t).now = some e) (hc : (s.sheet n.val).created = true)
    (hs : (s.sheet n.val).stopped = false) (hl : (s.sheet n.val).lastEpoch ≠ some e) (hd : (s.sheet n.val).switchDue = false) :
    gives (.sheetEpoch t n) s (fun w => ∃ u v : State, u = (s.at t).releaseAll (.sheet n.val) e ∧
      v = State.beginSheet (u.setSheet n.val { u.sheet n.val with
        engine := (u.sheet n.val).nextEngine, lastEpoch := some e }) n.val e ∧
      w = (v.consumerSources (.sheet n.val)).foldl (fun x src =>
        (x.sourceFrames src).foldl (fun x r => x.settlePending src r) x) v) := by
  show ∃ w, execSheetEpoch t n s = .next w ∧ _
  simp only [execSheetEpoch, State.at_sheet, he, (s.at t).sheetTurn_settled n.val e hd]
  exact ⟨_, if_pos ⟨hc, by simp [hs], hl⟩, _, _, rfl, rfl, rfl⟩

theorem State.beginSheet_missed (s : State) (n e : Nat) (h : freeBuf (s.sheet n).bufs (s.sheet n).nBufs 0 = none) :
    s.beginSheet n e = (s.setSheet n { s.sheet n with seq := (s.sheet n).seq + 1 }).missFor (.sheet n) := by
  simp only [State.beginSheet, h]

/-- What the counting of a tile's work may change. -/
def tileCounts : Mask := { regs := true, progs := true, slots := true, insts := true }

/-- A tile's work as engine `e` counts it. -/
def State.countTile (s : State) (e : Nat) (stalls : List (Nat × Nat)) (rd wr : Nat) : State :=
  (((stalls.foldl (fun s q => s.stallSlots (unitEngine e) q.1 q.2) (s.syncEngine e)).endWork (unitEngine e) true).pmc (unitEngine e) 5 rd).pmc
    (unitEngine e) 6 wr

theorem State.countTile_outside (s : State) (e : Nat) (stalls : List (Nat × Nat)) (rd wr : Nat) :
    (s.countTile e stalls rd wr).outside tileCounts = s.outside tileCounts := by
  simp [State.countTile, tileCounts, outside_foldl]

theorem sheetTileComplete_tile (t : Nat) (s : State) (e : Fin 2) (n : Nat) (c : Composing) (cs : List Composing) (w : Nat) (d : BitVec 512)
    (src : Option FrameRef) (l : List (Nat × BitVec 512 × Option FrameRef)) (stalls : List (Nat × Nat)) (rd wr : Nat)
    (hg : (s.engine e.val).state = 1) (hn : (s.engine e.val).sheet = some n) (hc : (s.sheet n).composing = c :: cs)
    (ht : c.todo = (w, d, src) :: l) (hf : ∀ k, Desc.source d = .surf k → (s.at t).funded (s.surf k).owner = true) :
    gives (.sheetTileComplete t e stalls rd wr) s (fun x => ∃ u : State,
      u = { s.at t with regs := u.regs, progs := u.progs, slots := u.slots, insts := u.insts } ∧
      x = if l.isEmpty then (u.tileDone n c w d src l).runEngine e.val else (u.tileDone n c w d src l).preemptSheet e.val n) := by
  show ∃ x, execSheetTileComplete t e stalls rd wr s = .next x ∧ _
  simp only [execSheetTileComplete, State.at_engine, hg, hn, State.at_sheet, hc, ht, State.at_surf]
  have hend : ∀ v : State, v.outside tileCounts = (s.at t).outside tileCounts → ∃ x,
      (if l.isEmpty = true then Host.Outcome.next (((v.countTile e.val stalls rd wr).tileDone n c w d src l).runEngine e.val)
        else .next (((v.countTile e.val stalls rd wr).tileDone n c w d src l).preemptSheet e.val n)) =
        (.next x : Host.Outcome State Fault Refusal) ∧ ∃ u : State,
      u = { s.at t with regs := u.regs, progs := u.progs, slots := u.slots, insts := u.insts } ∧
      x = if l.isEmpty then (u.tileDone n c w d src l).runEngine e.val else (u.tileDone n c w d src l).preemptSheet e.val n := by
    intro v hv
    have hu := eq_of_outside ((v.countTile_outside e.val stalls rd wr).trans hv)
    split
    · exact ⟨_, rfl, _, hu, rfl⟩
    · exact ⟨_, rfl, _, hu, rfl⟩
  cases hsrc : Desc.source d with
  | surf k =>
    simp only [Option.any_some, hf k hsrc, Bool.not_true, Bool.false_eq_true, if_false]
    exact hend _ (State.draw_outside _ _ _ _ rfl)
  | ch k => exact hend _ rfl
  | sheet k => exact hend _ rfl

theorem sheetPageFault_page (t : Nat) (s : State) (e : Fin 2) (n va : Nat) (c : Composing) (cs : List Composing)
    (hg : (s.engine e.val).state = 1) (hn : (s.engine e.val).sheet = some n) (hc : (s.sheet n).composing = c :: cs) :
    gives (.sheetPageFault t ⟨e, .page va⟩) s (fun w => ∃ u : State, u = { s.at t with regs := u.regs, progs := u.progs, slots := u.slots } ∧
      u.reg (Reg.sheetTileRestarts e.val) = satAdd32 (s.reg (Reg.sheetTileRestarts e.val)) 1 ∧
      w = (((u.setComposing n { c with waitPage := true, vpn := va / 2097152 }).restEngine e.val).runEngine e.val).engineFault
        (s.tileHost c) va 2 false) := by
  have houtside := State.discardTile_outside { regs := true, progs := true, slots := true } (s.at t) e.val (by simp)
  show ∃ w, execSheetPageFault t ⟨e, .page va⟩ s = .next w ∧ _
  simp only [execSheetPageFault, State.at_engine, hg, hn, State.at_sheet, hc]
  refine ⟨_, rfl, (s.at t).discardTile e.val, eq_of_outside houtside, (s.at t).discardTile_restarts e.val e.isLt, ?_⟩
  have hhost : ((s.at t).discardTile e.val).tileHost c = s.tileHost c := by
    simp only [State.tileHost, State.pageOwner, State.grantee, State.discardTile_insts, State.discardTile_surf, State.at_insts, State.at_surf]
  rw [← hhost]
  rfl

/-- Settles O34: at its epoch a sheet is released, begun and settled in that order; a tile's counting leaves the picture's own data. -/
theorem sheetsCompose : Obligations.SheetsCompose := by
  intro t s
  refine ⟨fun n e he hc hs hl hd => sheetEpoch_due t s n e he hc hs hl hd, fun n e h => s.beginSheet_missed n e h,
    fun e n c cs w d src l stalls rd wr hg hn hc ht hf => sheetTileComplete_tile t s e n c cs w d src l stalls rd wr hg hn hc ht hf,
    fun e n va c cs hg hn hc => sheetPageFault_page t s e n va c cs hg hn hc, fun n c cs hc hw hm => ?_⟩
  refine gives_of_next (w := ((s.at t).setComposing n.val { c with waitPage := false }).runEngine c.engine) ?_ rfl
  show execSheetFaultResume t n s = _
  simp only [execSheetFaultResume, State.at_sheet, hc]
  exact if_pos ⟨hw, hm⟩

end Sys2Proof.Machine
end

section
/-! Alarm requests become active, tones walk their segments, audio is mixed and haptic fires start at their boundaries (R360 to R364, R385). -/

namespace Sys2Proof.Machine

open Sys2Proof.Safety

/-! ## Alarms and audio -/

theorem State.alarmOff_console (s : State) (q : Nat) : ∃ l d, (s.alarmOff q).console = { s.console with alarms := l, toneDue := d } := by
  unfold State.alarmOff
  dsimp only
  split
  · rw [State.emit_console]
    exact ⟨_, _, rfl⟩
  · exact ⟨_, _, rfl⟩

theorem State.alarmOff_prefix (s : State) (q : Nat) : s.events <+: (s.alarmOff q).events := by
  unfold State.alarmOff
  dsimp only
  split
  · exact State.emit_prefix _ _ _ List.prefix_rfl
  · exact List.prefix_rfl

/-- A request that turns an alarm on adds it to the active ones and asks for its tone (R385). -/
theorem State.applyAlarm_on (s : State) (q v : Nat) (hv : bit v 15 = true) : ((s.applyAlarm q v).console.alarmWait = s.console.alarmWait ∧
    (q, v % 16, bits v 10 8) ∈ (s.applyAlarm q v).console.alarms ∧ (s.applyAlarm q v).console.toneDue = true) ∧
    raises .safeAlarmOn 0 [q] s (s.applyAlarm q v) := by
  unfold State.applyAlarm
  dsimp only
  rw [if_pos hv, State.emit_console]
  obtain ⟨l, d, h⟩ := s.alarmOff_console q
  refine ⟨⟨?_, List.mem_append_right _ (List.mem_singleton.mpr rfl), rfl⟩,
    raises_of_prior (s.alarmOff_prefix q) (raises_emit_self _ _ _ _ _ rfl)⟩
  rw [h]

theorem alarmSegmentEnd_next (t : Nat) (s : State) (x : Tone) (g : AlarmSegment) (hx : s.console.tone = some x)
    (hg : x.content.segments[x.segment]? = some g) (hd : x.segStart + g.ms * 1000000 ≤ (s.at t).now)
    (hn : x.segment + 1 < x.content.segments.length) :
    gives (.alarmSegmentEnd t) s (fun w => w.console.tone = some { x with
      segment := x.segment + 1, segStart := x.segStart + g.ms * 1000000 }) := by
  show ∃ w, execAlarmSegmentEnd t s = .next w ∧ _
  simp only [execAlarmSegmentEnd, State.at_console, hx, hg]
  exact ⟨_, (if_pos hd).trans (if_pos hn), rfl⟩

/-- The tone chosen for the alarms leaves the mixer alone. -/
theorem State.startTone_console (s : State) : ∃ x d, s.startTone.console = { s.console with tone := x, toneDue := d } := by
  unfold State.startTone
  dsimp only
  split
  · exact ⟨_, _, rfl⟩
  · split
    · split
      · exact ⟨_, _, rfl⟩
      · exact ⟨_, _, rfl⟩
    · exact ⟨_, _, rfl⟩

theorem audioFrame_up (t : Nat) (s : State) (ins : List Int) (hu : s.up = true) :
    gives (.audioFrame t ins) s (fun w => w.console.audioFrames = s.console.audioFrames + 1 ∧ w.console.audioOut.length = 32 ∧
      w.console.ins.head? = some ((List.range 32).map (fun i => if s.console.portEn.getLsbD (i / 8) then sat24 (ins.getD i 0) else 0))) := by
  have hup : (s.at t).up = true := hu
  obtain ⟨x, d, h⟩ := (s.at t).startTone_console
  refine gives_of_next (if_neg (by simp [hup])) ?_
  by_cases htone : (s.at t).console.toneDue = true
  · simp only [if_pos htone, h]
    exact ⟨rfl, by rw [List.length_map, List.length_map, List.length_range], rfl⟩
  · simp only [if_neg htone]
    exact ⟨rfl, by rw [List.length_map, List.length_map, List.length_range], rfl⟩

/-! ## Haptic fires -/

theorem State.fireOutput_other (s : State) (b n : Nat) (f : HapFire) (h : f.out.getLsbD n = false) : s.fireOutput b [f] n = s := by
  unfold State.fireOutput
  have hmine : [f].filter (fun f => f.out.getLsbD n) = [] := by
    rw [List.filter_cons_of_neg (by rw [h]; decide)]
    rfl
  dsimp only
  rw [hmine]
  rfl

theorem State.fireOutput_idle (s : State) (b n : Nat) (f : HapFire) (h : f.out.getLsbD n = true)
    (hw : (Tab.get {} s.console.outs n : HapOut).wave = none) : (s.fireOutput b [f] n).console = { s.console with
      outs := Tab.set {} s.console.outs n { wave := some f.wave, prio := f.prio, start := b } } := by
  unfold State.fireOutput
  have hmine : [f].filter (fun f => f.out.getLsbD n) = [f] := by
    simp only [List.filter_cons, h, List.filter_nil, if_true]
  have hbest : bestFire [f] = some f := rfl
  dsimp only
  rw [hmine, hbest]
  dsimp only
  rw [if_neg (by simp [hw])]
  rfl

/-- A fire of one output starts on that output alone. -/
theorem foldl_fireOutput (s : State) (b : Nat) (f : HapFire) (n : Fin 8) (hf : f.out = BitVec.ofNat 8 (2 ^ n.val)) :
    (List.range 8).foldl (fun u k => u.fireOutput b [f] k) s = s.fireOutput b [f] n.val := by
  have hbit : ∀ n k : Fin 8, n ≠ k → (BitVec.ofNat 8 (2 ^ n.val)).getLsbD k.val = false := by decide
  have hskip : ∀ (l : List Nat), (∀ k ∈ l, k < 8 ∧ k ≠ n.val) → ∀ u : State, l.foldl (fun u k => u.fireOutput b [f] k) u = u := by
    intro l hl
    induction l with
    | nil => intro u; rfl
    | cons k l ih =>
      intro u
      obtain ⟨hk, hne⟩ := hl k List.mem_cons_self
      rw [List.foldl_cons, State.fireOutput_other u b k f (by rw [hf]; exact hbit n ⟨k, hk⟩ fun e => hne (congrArg Fin.val e).symm)]
      exact ih (fun j hj => hl j (List.mem_cons_of_mem k hj)) u
  obtain ⟨x, y, hxy, hx⟩ := List.eq_append_cons_of_mem (List.mem_range.mpr n.isLt)
  have hlt : ∀ k ∈ x ++ n.val :: y, k < 8 := fun k hk => List.mem_range.mp (hxy ▸ hk)
  have hnodup : (x ++ n.val :: y).Nodup := hxy ▸ List.nodup_range
  have hy : n.val ∉ y := (List.nodup_cons.mp (List.nodup_append.mp hnodup).2.1).1
  rw [hxy, List.foldl_append, List.foldl_cons, hskip x fun k hk => ⟨hlt k (List.mem_append_left _ hk), fun e => hx (e ▸ hk)⟩]
  exact hskip y (fun k hk => ⟨hlt k (List.mem_append_right _ (List.mem_cons_of_mem _ hk)), fun e => hy (e ▸ hk)⟩) _

theorem hapticWaveformStart_due (t : Nat) (s : State) (f : HapFire) (n : Fin 8) (hf : s.console.fires = [f]) (hd : f.due ≤ (s.at t).now)
    (ho : f.out = BitVec.ofNat 8 (2 ^ n.val)) (hw : (Tab.get {} s.console.outs n.val : HapOut).wave = none) :
    gives (.hapticWaveformStart t) s (fun w => w.console.fires = [] ∧ (Tab.get {} w.console.outs n.val : HapOut).wave = some f.wave ∧
      (Tab.get {} w.console.outs n.val : HapOut).start = f.due) := by
  have hbit : ∀ n : Fin 8, (BitVec.ofNat 8 (2 ^ n.val)).getLsbD n.val = true := by decide
  have hx : exec (.hapticWaveformStart t) s = .next ((List.range 8).foldl (fun u k => u.fireOutput f.due [f] k)
      { s.at t with console := { s.console with fires := [] } }) := by
    show execHapticWaveformStart t s = _
    have hfirst : firstDue [f] = some f.due := rfl
    simp only [execHapticWaveformStart, State.at_console, hf, hfirst]
    rw [if_pos hd]
    simp
  refine gives_of_next hx ?_
  rw [foldl_fireOutput _ _ f n ho,
    State.fireOutput_idle { s.at t with console := { s.console with fires := [] } } f.due n.val f (by rw [ho]; exact hbit n) hw]
  simp [Tab.get_set_self]

/-- Settles O35: what is due at the instant is the one request, segment or fire that the command takes. -/
theorem audioAndHaptics : Obligations.AudioAndHaptics := by
  intro t s
  refine ⟨fun q v at_ hq hd hv => ?_, fun x g hx hg hd hn => alarmSegmentEnd_next t s x g hx hg hd hn,
    fun ins hu => audioFrame_up t s ins hu, fun v hu => gives_of_next (if_pos hu) ⟨_, rfl, rfl, rfl⟩,
    fun f n hf hd ho hw => hapticWaveformStart_due t s f n hf hd ho hw, fun n x hx hd => ?_⟩
  · refine gives_of_next (w := State.applyAlarm { s.at t with console := { s.console with alarmWait := [] } } q v) ?_ ?_
    · show execAlarmRequestActivate t s = _
      simp [execAlarmRequestActivate, hq, hd]
    · obtain ⟨⟨h1, h2, h3⟩, h4⟩ := State.applyAlarm_on { s.at t with console := { s.console with alarmWait := [] } } q v hv
      exact ⟨h1, h2, h3, h4⟩
  · show ∃ w, execHapticWaveformEnd t n s = .next w ∧ _
    simp only [execHapticWaveformEnd, State.at_console, hx]
    exact ⟨_, if_pos hd, by simp [Tab.get_set_self]⟩

end Sys2Proof.Machine
end

section
/-! Touch ports begin their scans, start over, take their key groups and complete their first scans (R348 to R358). -/

namespace Sys2Proof.Machine

open Sys2Proof.Safety

theorem State.touch_setTouch_self (s : State) (p : Nat) (x : Touch) : (s.setTouch p x).touch p = x := Tab.get_set_self _ _ _ _

/-- The keys are stored beside the ports. -/
theorem State.setKey_touch (s : State) (k : Nat) (x : Key) (p : Nat) : (s.setKey k x).touch p = s.touch p := rfl

theorem foldl_setKey_touch (l : List Nat) (f : State → Nat → Key) (s : State) (p : Nat) :
    (l.foldl (fun s k => s.setKey k (f s k)) s).touch p = s.touch p :=
  foldl_same (fun u : State => u.touch p) (fun s k => s.setKey k (f s k)) (fun u k => State.setKey_touch u k _ p) l s

/-- A port whose state already says whether its head runs is not changed by the synchronisation (R348). -/
theorem State.touchSync_settled (s : State) (p : Nat) (h : ((s.touch p).state = .free ∧ (s.head (s.touch p).cfg.head).state ≠ .run) ∨
    ((s.touch p).state = .synced ∧ (s.head (s.touch p).cfg.head).state = .run)) : s.touchSync p = s := by
  unfold State.touchSync
  dsimp only
  rcases h with ⟨hf, hr⟩ | ⟨hf, hr⟩
  · rw [if_neg fun c => hr c.1, if_neg fun c => by rw [hf] at c; exact absurd c.2 (by decide)]
  · rw [if_neg fun c => by rw [hf] at c; exact absurd c.2 (by decide), if_neg fun c => c.1 hr]

theorem Touch.nextKind_frameSeen (x : Touch) (ready : Bool) (e n : Nat) : Touch.nextKind (Touch.frameSeen x ready e) n = Touch.nextKind x n := by
  unfold Touch.frameSeen
  split <;> rfl

theorem touchScanStart_due (t : Nat) (p : Fin 2) (s : State) (e : Nat) (hu : s.up = true) (hen : (s.touch p.val).cfg.en = true)
    (hn : (s.touch p.val).scan = none) (he : e = (s.at t).scanEpoch p.val) (hle : e ≤ (s.at t).now)
    (hd : ((s.touch p.val).state = .free ∧ (s.head (s.touch p.val).cfg.head).state ≠ .run ∧
        (s.touch p.val).lastScan + (s.touch p.val).freePeriod ≤ (s.at t).now) ∨
      ((s.touch p.val).state = .synced ∧ (s.head (s.touch p.val).cfg.head).state = .run ∧ (s.touch p.val).frameAt ≠ some e ∧
        (s.touch p.val).cfg.div ≤ (s.touch p.val).frames + 1)) :
    gives (.touchScanStart t p) s (fun w => (w.touch p.val).scan = some (e, Touch.nextKind (s.touch p.val) e) ∧
      (w.touch p.val).lastScan = e) := by
  have htouch : (s.at t).touch p.val = s.touch p.val := rfl
  have hsync : (s.at t).touchSync p.val = s.at t := State.touchSync_settled _ _ (by
    rw [htouch, State.at_head]
    exact hd.imp (fun h => ⟨h.1, h.2.1⟩) fun h => ⟨h.1, h.2.1⟩)
  show ∃ w, execTouchScanStart t p s = .next w ∧ _
  unfold execTouchScanStart
  dsimp only
  rw [if_pos ⟨hu, hen⟩, hsync, htouch, ← he]
  have hfree : ¬((s.touch p.val).scan.isSome = true ∨ (s.at t).now < e ∨
      ((s.touch p.val).state = .synced ∧ (s.touch p.val).frameAt = some e)) := by
    rintro (h | h | ⟨hs, hf⟩)
    · rw [hn] at h; exact absurd h (by decide)
    · exact absurd hle (Nat.not_le.mpr h)
    · rcases hd with ⟨hf', -⟩ | ⟨-, -, hne, -⟩
      · rw [hf'] at hs; exact absurd hs (by decide)
      · exact hne hf
  rw [if_neg hfree]
  refine ⟨_, if_pos ?_, ?_⟩
  · rcases hd with ⟨hs, -, hper⟩ | ⟨hs, -, -, hdiv⟩
    · rw [if_neg (by rw [hs]; decide)]
      exact decide_eq_true hper
    · rw [if_pos hs]
      exact decide_eq_true hdiv
  · rw [State.touch_setTouch_self, Touch.nextKind_frameSeen]
    exact ⟨rfl, rfl⟩

theorem touchRebase_enabled (t : Nat) (p : Fin 2) (s : State) (hen : (s.touch p.val).cfg.en = true) :
    gives (.touchRebase t p) s (fun w => (w.touch p.val).tested = false ∧ (w.touch p.val).startScans = 0 ∧
      (w.touch p.val).suspectNodes = [] ∧ (w.touch p.val).suspectSelf = []) := by
  have hen' : ((s.at t).touch p.val).cfg.en = true := hen
  refine gives_of_next (if_pos hen') ?_
  rw [foldl_setKey_touch, State.touch_setTouch_self]
  exact ⟨rfl, rfl, rfl, rfl⟩

/-- Of one key's raw value a key group handles that key alone. -/
theorem keyGroup_own (s : State) (p k raw : Nat) (hk : k ∈ s.portKeys p) :
    [(k, raw)].filter (fun r => (s.portKeys p).contains r.1) = [(k, raw)] :=
  List.filter_cons_of_pos (List.contains_iff_mem.mpr hk)

theorem keyGroupEnd_test (t : Nat) (p : Fin 2) (s : State) (e k raw : Nat) (hs : (s.touch p.val).scan = some (e, .test))
    (hk : k ∈ s.portKeys p.val) (hd : e + Touch.groupNs (s.touch p.val) ≤ (s.at t).now) :
    gives (.keyGroupEnd t p [(k, raw)]) s (fun w => w = (s.at t).keyTest p.val k e raw (!(s.touch p.val).tested)) := by
  have htouch : (s.at t).touch p.val = s.touch p.val := rfl
  show ∃ w, execKeyGroupEnd t p [(k, raw)] s = .next w ∧ _
  simp only [execKeyGroupEnd, htouch, hs]
  rw [if_neg (Nat.not_lt.mpr hd), keyGroup_own (s.at t) p.val k raw hk]
  exact ⟨_, rfl, rfl⟩

theorem keyGroupEnd_measure (t : Nat) (p : Fin 2) (s : State) (e k raw : Nat) (hs : (s.touch p.val).scan = some (e, .mutualScan))
    (hk : k ∈ s.portKeys p.val) (hd : e + Touch.groupNs (s.touch p.val) ≤ (s.at t).now) :
    gives (.keyGroupEnd t p [(k, raw)]) s (fun w => w = (s.at t).keyMeasure p.val k e raw (s.portBusy p.val)) := by
  have htouch : (s.at t).touch p.val = s.touch p.val := rfl
  show ∃ w, execKeyGroupEnd t p [(k, raw)] s = .next w ∧ _
  simp only [execKeyGroupEnd, htouch, hs]
  rw [if_neg (Nat.not_lt.mpr hd), keyGroup_own (s.at t) p.val k raw hk]
  exact ⟨_, rfl, rfl⟩

/-- One of the first three mutual scans is only added to the start-up sums (R351). -/
theorem touchScanComplete_start (t : Nat) (p : Fin 2) (s : State) (e : Nat) (nodes lines : List (Nat × Nat))
    (hs : (s.touch p.val).scan = some (e, .mutualScan)) (hn : (s.touch p.val).startScans < 3)
    (hd : e + Touch.scanNs (s.touch p.val) .mutualScan ≤ (s.at t).now) :
    gives (.touchScanComplete t p nodes lines) s (fun w => (w.touch p.val).scan = none ∧
      (w.touch p.val).startScans = (s.touch p.val).startScans + 1 ∧ (w.touch p.val).mutualScans = (s.touch p.val).mutualScans + 1) := by
  have htouch : (s.at t).touch p.val = s.touch p.val := rfl
  show ∃ w, execTouchScanComplete t p nodes lines s = .next w ∧ _
  simp only [execTouchScanComplete, htouch, hs]
  rw [if_neg (Nat.not_lt.mpr hd)]
  simp only [State.touch_setTouch_self, beq_self_eq_true, if_true]
  rw [if_pos (by omega), if_neg (by omega)]
  exact ⟨_, rfl, by simp only [State.touch_setTouch_self, and_self]⟩

/-- Settles O36: each clause names the port's own scan, and the commands write that port back. -/
theorem touchPortsScan : Obligations.TouchPortsScan :=
  fun t p s => ⟨fun e hu hen hn he hle hd => touchScanStart_due t p s e hu hen hn he hle hd, touchRebase_enabled t p s,
    fun e k raw hs hk hd => keyGroupEnd_test t p s e k raw hs hk hd, fun e k raw hs hk hd => keyGroupEnd_measure t p s e k raw hs hk hd,
    fun e nodes lines hs hn hd => touchScanComplete_start t p s e nodes lines hs hn hd⟩

end Sys2Proof.Machine
end

section
/-! A posted refusal's notice (R397), and a held entry that counts no refusal. -/

namespace Sys2Proof.Machine

open Sys2Proof.Safety

/-- A requester whose entry counts no posted refusal is reported in no notice. -/
theorem State.postNotice_empty (s : State) (k : Nat) (h : (Tab.get {} s.prot.posted k : Posted).count = 0) : s.postNotice k = s :=
  if_neg fun c => c.1 h

theorem postedNoticeWindow_empty (t : Nat) (s : State) (k : Nat) (x : Posted) (hp : s.prot.posted = [(k, x)]) (hx : x.count = 0) :
    exec (.postedNoticeWindow t) s = .next (s.at t) := by
  have hget : (Tab.get {} (s.at t).prot.posted k : Posted) = x := by
    show (Tab.get {} s.prot.posted k : Posted) = x
    rw [hp]
    simp [Tab.get]
  have hkeys : keys (s.at t).prot.posted = [k] := by
    show keys s.prot.posted = [k]
    rw [hp]
    rfl
  show Host.Outcome.next ((keys (s.at t).prot.posted).foldl State.postNotice (s.at t)) = _
  rw [hkeys, List.foldl_cons, List.foldl_nil, State.postNotice_empty _ _ (by rw [hget, hx])]

/-- One second after the reset, requester 0 holds an entry that counts no refusal. -/
def emptyPosted : State := { State.reset with
  time := { State.reset.time with offset := 1000000000 }, prot := { State.reset.prot with posted := [(0, {})] } }

theorem emptyPosted_due : (({} : Posted).first / 1000000 + 1) * 1000000 ≤ (emptyPosted.at 0).now := by decide

theorem emptyPosted_notices : (emptyPosted.at 0).reg Reg.mpuNotices = 0 := by decide

/-- Refutes O37: at the end of its window an entry that counts no posted refusal is reported nowhere, and no notice is counted. -/
theorem not_protectionUnitActs : ¬ Obligations.ProtectionUnitActs := by
  intro h
  obtain ⟨-, -, -, hnotice, -⟩ := h 0 emptyPosted
  obtain ⟨w, hw, hreg, -⟩ := hnotice 0 {} rfl emptyPosted_due
  rw [postedNoticeWindow_empty 0 emptyPosted 0 {} rfl rfl] at hw
  obtain rfl : emptyPosted.at 0 = w := by simpa using hw
  rw [emptyPosted_notices] at hreg
  exact absurd hreg (by decide)

end Sys2Proof.Machine
end

section
/-! Rails rise, settle, fail and go down; wakes and resets act (R423 to R426, R416 to R419). -/

namespace Sys2Proof.Machine

open Sys2Proof.Safety

/-! ## Rails -/

theorem BitVec.getLsbD_or_twoPow {n : Nat} (x : BitVec n) (i : Fin n) : (x ||| BitVec.ofNat n (2 ^ i.val)).getLsbD i.val = true := by
  rw [BitVec.getLsbD_or, BitVec.getLsbD_ofNat, Nat.testBit_two_pow_self]
  simp [i.isLt]

theorem BitVec.getLsbD_and_not_twoPow {n : Nat} (x : BitVec n) (i : Nat) : (x &&& ~~~(BitVec.ofNat n (2 ^ i))).getLsbD i = false := by
  rw [BitVec.getLsbD_and, BitVec.getLsbD_not, BitVec.getLsbD_ofNat, Nat.testBit_two_pow_self]
  by_cases h : i < n
  · simp [h]
  · simp [h, BitVec.getLsbD_of_ge]

/-- Lowering the next rail clears power-good bits and sets none. -/
theorem State.lowerRail_mode (s : State) : ∃ e g p d, s.lowerRail.mode = { s.mode with railEn := e, railPg := s.mode.railPg &&& g, phase := p, discharged := d } := by
  unfold State.lowerRail
  dsimp only
  split
  · exact ⟨_, _, _, _, rfl⟩
  · exact ⟨s.mode.railEn, BitVec.allOnes 12, s.mode.phase, s.mode.discharged, by rw [BitVec.and_allOnes]⟩

/-- A failure takes the rails down and is reported (R424). -/
theorem State.powerFail_mode (s : State) (c : ResetCause) (rail : Nat) : ∃ e g p d, (s.powerFail c rail).mode = { s.mode with
    railEn := e, railPg := s.mode.railPg &&& g, phase := p, discharged := d, downCause := some c, failReport := some c,
    railFail := c == .rail, trip := c == .thermal, failRail := if c = .rail then BitVec.ofNat 4 rail else 0,
    hot := c == .thermal || s.mode.hot } := by
  unfold State.powerFail
  dsimp only
  by_cases hz : s.mode.railEn = 0
  · rw [if_pos (by exact hz)]
    exact ⟨s.mode.railEn, BitVec.allOnes 12, _, s.mode.discharged, by rw [BitVec.and_allOnes]; rfl⟩
  · rw [if_neg (by exact hz)]
    exact State.lowerRail_mode _

theorem State.powered_iff {s : State} : s.powered = true ↔ s.mode.phase = .boot ∨ s.mode.phase = .starting ∨ s.mode.phase = .up := by
  unfold State.powered
  cases s.mode.phase <;> simp

theorem railPgRise_awaited (t : Nat) (n : Fin 12) (s : State) (h : s.mode.phase = .railUp n.val false) :
    gives (.railPgRise t n) s (fun w => w.mode.phase = .railUp n.val true ∧ w.mode.railPg.getLsbD n.val = true) := by
  show ∃ w, execRailPgRise t n s = .next w ∧ _
  simp only [execRailPgRise, State.at_mode, h, if_true]
  exact ⟨_, rfl, rfl, BitVec.getLsbD_or_twoPow _ _⟩

theorem railPgLoss_monitored (t : Nat) (n : Fin 12) (s : State) (hp : s.powered = true) (hm : s.railMon n.val = true)
    (he : s.mode.railEn.getLsbD n.val = true) :
    gives (.railPgLoss t n) s (fun w => w.mode.railPg.getLsbD n.val = false ∧ w.mode.railFail = true ∧
      w.mode.failRail = BitVec.ofNat 4 n.val ∧ w.mode.downCause = some .rail) := by
  let down := (s.at t).setMode { s.mode with railPg := s.mode.railPg &&& ~~~(BitVec.ofNat 12 (2 ^ n.val)) }
  have hpow : down.powered = true := hp
  have hx : exec (.railPgLoss t n) s = .next (down.powerFail .rail n.val) := by
    show execRailPgLoss t n s = _
    unfold execRailPgLoss
    refine if_pos ⟨he, hm, ?_⟩
    have hrise : (match down.mode.phase with
        | .railUp i settled => decide (n.val < i) || (i == n.val && settled)
        | _ => down.powered) = true := by
      rcases State.powered_iff.mp hpow with h | h | h
      · rw [h]; exact hpow
      · rw [h]; exact hpow
      · rw [h]; exact hpow
    exact hrise
  refine gives_of_next hx ?_
  obtain ⟨e, g, p, d, hmode⟩ := down.powerFail_mode .rail n.val
  rw [hmode]
  refine ⟨?_, rfl, rfl, rfl⟩
  show ((s.mode.railPg &&& ~~~(BitVec.ofNat 12 (2 ^ n.val))) &&& g).getLsbD n.val = false
  rw [BitVec.getLsbD_and, BitVec.getLsbD_and_not_twoPow, Bool.false_and]

theorem thermalTrip_powered (t : Nat) (s : State) (hp : s.powered = true) :
    gives (.thermalTrip t) s (fun w => w.mode.trip = true ∧ w.mode.hot = true ∧ w.mode.downCause = some .thermal) := by
  have hx : exec (.thermalTrip t) s = .next ((s.at t).powerFail .thermal 0) := by
    show execThermalTrip t s = _
    unfold execThermalTrip
    rcases State.powered_iff.mp hp with h | h | h
    · simp only [State.at_mode, h]
    · simp only [State.at_mode, h]
    · simp only [State.at_mode, h]
  refine gives_of_next hx ?_
  obtain ⟨e, g, p, d, hmode⟩ := (s.at t).powerFail_mode .thermal 0
  rw [hmode]
  exact ⟨rfl, rfl, rfl⟩

/-- With no wake latched nothing is acted on. -/
theorem State.actOnWake_none (s : State) (h : s.mode.wakeLatched = 0) : s.actOnWake = s :=
  if_pos (.inl (by rw [h]; exact BitVec.zero_and))

theorem powerDownComplete_last (t : Nat) (s : State) (i : Nat) (hp : s.mode.phase = .railDown i) (he : s.mode.railEn = 0)
    (hd : s.mode.downCause ≠ some .rail) (hw : s.mode.wakeLatched = 0) :
    gives (.powerDownComplete t) s (fun w => w.mode.phase = .standby ∧ w.mode.mode = .standby ∧ w.mode.retryDue = false) := by
  have hfail : (s.mode.downCause == some .rail) = false := beq_eq_false_iff_ne.mpr hd
  show ∃ w, execPowerDownComplete t s = .next w ∧ _
  simp only [execPowerDownComplete, State.at_mode, hp, he, hfail, if_true]
  rw [State.actOnWake_none _ (by exact hw)]
  exact ⟨_, rfl, rfl, rfl, rfl⟩

/-- Settles O54: the phase of the rails names the branch of each command, and a failure goes through `powerFail`. -/
theorem powerRailsSequence : Obligations.PowerRailsSequence := by
  intro t s
  refine ⟨fun n h => railPgRise_awaited t n s h, fun i h => gives_of_next ?_ rfl, fun i h => gives_of_next ?_ rfl,
    fun i h => gives_of_next ?_ rfl, fun n hp hm he => railPgLoss_monitored t n s hp hm he, thermalTrip_powered t s,
    fun hp hr => gives_of_next (if_pos ⟨hp, hr⟩) rfl, fun hu hp => gives_of_next (if_pos ⟨hu, hp⟩) rfl,
    fun hu => gives_of_next (if_neg ?_) rfl, fun i hp he hd hw => powerDownComplete_last t s i hp he hd hw,
    fun h => gives_of_next (if_pos h) rfl, fun h => gives_of_next (if_pos h) rfl, gives_of_next rfl ⟨rfl, rfl, rfl, rfl⟩⟩
  · show execRailSettleDone t s = _
    simp only [execRailSettleDone, State.at_mode, h]
  · show execRailSettleDone t s = _
    simp only [execRailSettleDone, State.at_mode, h]
  · show execRailPgTimeout t s = _
    simp only [execRailPgTimeout, State.at_mode, h]
  · rintro ⟨h, -⟩
    rw [show s.mode.upWaiting = true from h] at hu
    exact absurd hu (by decide)

end Sys2Proof.Machine
end

section
/-! Wakes, resets and the watchdog act (R416 to R419, R425, R427). -/

namespace Sys2Proof.Machine

open Sys2Proof.Safety

/-! ## Wakes -/

theorem BitVec.and_ne_zero_of_bit {n : Nat} {x y : BitVec n} (i : Nat) (hx : x.getLsbD i = true) (hy : y.getLsbD i = true) : x &&& y ≠ 0 := by
  intro h
  have hb : (x &&& y).getLsbD i = true := by rw [BitVec.getLsbD_and, hx, hy]; rfl
  rw [h, show (0 : BitVec n) = 0#n from rfl, BitVec.getLsbD_zero] at hb
  exact absurd hb (by decide)

/-- A wake before the rails are discharged waits for them (R425). -/
theorem State.actOnWake_waits (s : State) (hw : s.mode.wakeLatched &&& s.aon.wakeEn ≠ 0) (hh : s.mode.hot = false)
    (hu : s.mode.upWaiting = false) (hd : s.mode.discharged = false) : s.actOnWake.mode = { s.mode with
      wakeSrc := s.mode.wakeLatched &&& s.aon.wakeEn, wakeLatched := 0, retries := 0, upCause := s.bootCause, retryDue := false,
      upWaiting := true } := by
  unfold State.actOnWake
  dsimp only
  have hgo : ¬ (s.mode.wakeLatched &&& s.aon.wakeEn = 0 ∨ s.mode.hot = true ∨ s.mode.upWaiting = true) := fun h =>
    h.elim hw fun h => h.elim (ne_true_of_eq_false hh) (ne_true_of_eq_false hu)
  rw [if_neg hgo]
  unfold State.beginRailUp
  dsimp only
  rw [if_neg (by exact ne_true_of_eq_false hd)]
  simp [hd]

theorem State.wake_railDown (s : State) (k i : Nat) (he : s.aon.wakeEn.getLsbD k = true) (hp : s.mode.phase = .railDown i) :
    s.wake k = s.setMode { s.mode with wakeLatched := s.mode.wakeLatched ||| BitVec.ofNat 4 (2 ^ k) } := by
  unfold State.wake
  rw [if_pos he, hp]

theorem State.wake_standby (s : State) (k : Nat) (he : s.aon.wakeEn.getLsbD k = true) (hp : s.mode.phase = .standby) :
    s.wake k = (s.setMode { s.mode with wakeLatched := s.mode.wakeLatched ||| BitVec.ofNat 4 (2 ^ k) }).actOnWake := by
  unfold State.wake
  rw [if_pos he, hp]

theorem wakePin_wakes (t : Nat) (k : Fin 4) (s : State) (h2 : k.val ≠ 2) : exec (.wakePin t k) s = .next ((s.at t).wake k.val) := if_neg h2

theorem wakePin_standby (t : Nat) (k : Fin 4) (s : State) (h2 : k.val ≠ 2) (he : s.aon.wakeEn.getLsbD k.val = true)
    (hp : s.mode.phase = .standby) (hh : s.mode.hot = false) (hu : s.mode.upWaiting = false) (hd : s.mode.discharged = false) :
    gives (.wakePin t k) s (fun w => w.mode.wakeSrc = (s.mode.wakeLatched ||| BitVec.ofNat 4 (2 ^ k.val)) &&& s.aon.wakeEn ∧
      w.mode.wakeLatched = 0 ∧ w.mode.upWaiting = true ∧ w.mode.phase = .standby) := by
  refine gives_of_next (wakePin_wakes t k s h2) ?_
  have hw : (s.mode.wakeLatched ||| BitVec.ofNat 4 (2 ^ k.val)) &&& s.aon.wakeEn ≠ 0 :=
    BitVec.and_ne_zero_of_bit k.val (BitVec.getLsbD_or_twoPow _ k) he
  rw [State.wake_standby _ _ (by exact he) (by exact hp), State.actOnWake_waits _ (by exact hw) (by exact hh) (by exact hu) (by exact hd)]
  exact ⟨rfl, rfl, rfl, hp⟩

theorem rtcAlarm_due (t : Nat) (s : State) (ha : s.aon.rtcAlarm ≠ 0) (hd : s.aon.rtcAlarm.toNat ≤ (s.at t).rtcNow / 32768) :
    exec (.rtcAlarm t) s = .next ((s.at t).wake 2) := by
  have ha' : ¬ (s.at t).aon.rtcAlarm = 0 := ha
  have hd' : ¬ (s.at t).rtcNow / 32768 < (s.at t).aon.rtcAlarm.toNat := Nat.not_lt.mpr hd
  refine (if_neg ha').trans ?_
  rw [if_neg hd']

theorem junctionCooled_standby (t : Nat) (s : State) (hp : s.mode.phase = .standby) (hw : s.mode.wakeLatched &&& s.aon.wakeEn ≠ 0)
    (hu : s.mode.upWaiting = false) (hd : s.mode.discharged = false) :
    gives (.junctionCooled t) s (fun w => w.mode.hot = false ∧ w.mode.wakeLatched = 0 ∧ w.mode.upWaiting = true ∧
      w.mode.wakeSrc = s.mode.wakeLatched &&& s.aon.wakeEn) := by
  refine gives_of_next (if_pos hp) ?_
  rw [State.actOnWake_waits _ (by exact hw) rfl (by exact hu) (by exact hd)]
  exact ⟨rfl, rfl, rfl, rfl⟩

/-! ## Resets and the watchdog -/

/-- What a device reset leaves and clears (R416). -/
theorem State.deviceReset_clears (s : State) (c : ResetCause) : (s.deviceReset c).mode.phase = .boot ∧ (s.deviceReset c).mode.mode = .configure ∧
    (s.deviceReset c).aon.resetCause = c ∧ (s.deviceReset c).ctxs = [] ∧ (s.deviceReset c).heads = [] ∧ (s.deviceReset c).regs = [] ∧
    (s.deviceReset c).dram = [] ∧ (s.deviceReset c).store = s.store ∧ (s.deviceReset c).pending = s.pending :=
  ⟨rfl, rfl, rfl, rfl, rfl, rfl, rfl, rfl, rfl⟩

theorem resetPin_powered (t : Nat) (s : State) (hp : s.powered = true) : exec (.resetPin t) s = .next ((s.at t).deviceReset .pin) := by
  show execResetPin t s = _
  unfold execResetPin
  rcases State.powered_iff.mp hp with h | h | h
  · simp only [State.at_mode, h]
  · simp only [State.at_mode, h]
  · simp only [State.at_mode, h]

@[simp] theorem State.markBad_mode (s : State) (b : Bool) : (State.markBad s b).mode = s.mode :=
  (congrArg State.mode (State.markBad_outside { Mask.full with mode := false } s b (by simp [Mask.full])) :)
@[simp] theorem State.markBad_events (s : State) (b : Bool) : (State.markBad s b).events = s.events :=
  (congrArg State.events (State.markBad_outside { Mask.full with events := false } s b (by simp [Mask.full])) :)
@[simp] theorem State.markBad_regs (s : State) (b : Bool) : (State.markBad s b).regs = s.regs :=
  (congrArg State.regs (State.markBad_outside { Mask.full with regs := false } s b (by simp [Mask.full])) :)
@[simp] theorem State.markBad_reg (s : State) (b : Bool) (i : Nat) : (State.markBad s b).reg i = s.reg i := by
  simp [State.reg]

/-- A trial slot that is given up leaves the mode and the registers alone, and only adds an event. -/
theorem State.failTrial_leaves (s : State) : s.failTrial.mode = s.mode ∧ s.failTrial.regs = s.regs ∧ s.events <+: s.failTrial.events := by
  unfold State.failTrial
  split
  · exact ⟨by simp, by simp, State.emit_prefix _ _ _ ((s.markBad_events s.prot.runB).symm ▸ List.prefix_rfl)⟩
  · exact ⟨rfl, rfl, List.prefix_rfl⟩

theorem watchdogWarn_due (t : Nat) (s : State) (hu : s.up = true) (hw : s.mode.warned = false)
    (hk : s.mode.lastKick + bits (s.reg Reg.modeWdCfg) 15 0 * 1000000 < (s.at t).now) :
    gives (.watchdogWarn t) s (fun w => w.mode.warned = true ∧ w.reg Reg.modeWdWarns = satAdd32 (s.reg Reg.modeWdWarns) 1 ∧
      raises .modeWdWarn 0 [] s w) := by
  refine gives_of_next (if_pos ⟨hu, ne_true_of_eq_false hw, hk⟩) ?_
  obtain ⟨hmode, hregs, hevents⟩ := State.failTrial_leaves _
  refine ⟨?_, ?_, raises_of_prefix (raises_emit_self _ _ _ _ _ (by simp)) hevents⟩
  · rw [hmode, State.emit_mode]
    simp
  · have hreg : ∀ u v : State, u.regs = v.regs → u.reg Reg.modeWdWarns = v.reg Reg.modeWdWarns := fun u v h => by rw [State.reg, State.reg, h]
    rw [hreg _ _ hregs]
    rw [State.emit_reg]
    exact Tab.get_set_self _ _ _ _

/-- Settles O55: wakes act through `wake` and `actOnWake`, resets through `deviceReset`, whose state is written out. -/
theorem wakesAndResets : Obligations.WakesAndResets := by
  intro t s
  refine ⟨fun k h2 he => ⟨fun i hp => ?_, fun hp hh hu hd => wakePin_standby t k s h2 he hp hh hu hd⟩,
    fun k h2 => gives_of_next (wakePin_wakes t k s h2) rfl,
    fun ha hd => ⟨gives_of_next (rtcAlarm_due t s ha hd) rfl, fun i he hp => ?_⟩, fun hp => gives_of_next (if_neg hp) rfl,
    fun hp hw hu hd => junctionCooled_standby t s hp hw hu hd, ?_, gives_of_next rfl ⟨rfl, rfl⟩, watchdogWarn_due t s,
    fun c => ?_⟩
  · refine gives_of_next (wakePin_wakes t k s h2) ?_
    rw [State.wake_railDown (s.at t) k.val i (by exact he) (by exact hp)]
    exact ⟨rfl, hp⟩
  · refine gives_of_next (rtcAlarm_due t s ha hd) ?_
    rw [State.wake_railDown (s.at t) 2 i (by exact he) (by exact hp)]
    rfl
  · rintro P rfl
    exact ⟨fun hp => ⟨gives_of_next (resetPin_powered t s hp) ⟨rfl, State.deviceReset_clears _ _⟩,
        gives_of_next (if_pos hp) ⟨rfl, State.deviceReset_clears _ _⟩⟩,
      fun hu hk => gives_of_next (if_pos ⟨hu, hk⟩) ⟨rfl, State.deviceReset_clears _ _⟩⟩
  · obtain ⟨hph, hm, hc, hx, hh, hr, hd, -, -⟩ := s.deviceReset_clears c
    exact ⟨hph, hm, hc, hx, hh, hr, hd⟩

end Sys2Proof.Machine
end

section
/-! What taking the board record leaves (R407). -/

namespace Sys2Proof.Machine

open Sys2Proof.Safety

/-! ## Taking the board record leaves the stored one -/

@[simp] theorem State.applyAction_prot (s : State) (m : Manifest) : (State.applyAction s m).prot = s.prot :=
  (congrArg State.prot (State.applyAction_outside { Mask.full with prot := false } s m (by simp [Mask.full])) :)
@[simp] theorem State.dropToken_prot (s : State) (h : TokenHolder) (u : Nat) : (State.dropToken s h u).prot = s.prot :=
  (congrArg State.prot (State.dropToken_outside { Mask.full with prot := false } s h u (by simp [Mask.full])) :)
@[simp] theorem State.joinSource_prot (s : State) (k : Nat) : (State.joinSource s k).prot = s.prot :=
  (congrArg State.prot (State.joinSource_outside { Mask.full with prot := false } s k (by simp [Mask.full])) :)
@[simp] theorem State.tagGroup_prot (s : State) (n : Nat) (o : OpenFrame) (g : Nat) (err : Bool) (arrv : Nat) :
    (State.tagGroup s n o g err arrv).prot = s.prot :=
  (congrArg State.prot (State.tagGroup_outside { Mask.full with prot := false } s n o g err arrv (by simp [Mask.full])) :)
@[simp] theorem State.unpair_prot (s : State) : (State.unpair s).prot = s.prot :=
  (congrArg State.prot (State.unpair_outside { Mask.full with prot := false } s (by simp [Mask.full])) :)
@[simp] theorem State.ctxTo_prot (s : State) (n : Nat) (x : CtxState) : (State.ctxTo s n x).prot = s.prot :=
  (congrArg State.prot (State.ctxTo_outside { Mask.full with prot := false } s n x (by simp [Mask.full])) :)
@[simp] theorem State.gapEnd_prot (s : State) (k : Nat) : (State.gapEnd s k).prot = s.prot :=
  (congrArg State.prot (State.gapEnd_outside { Mask.full with prot := false } s k (by simp [Mask.full])) :)
@[simp] theorem State.laneTo_prot (s : State) (l : Nat) (x : LaneState) : (State.laneTo s l x).prot = s.prot :=
  (congrArg State.prot (State.laneTo_outside { Mask.full with prot := false } s l x (by simp [Mask.full])) :)
@[simp] theorem State.modFrame_prot (s : State) (r : FrameRef) (f : Frame → Frame) : (State.modFrame s r f).prot = s.prot :=
  (congrArg State.prot (State.modFrame_outside { Mask.full with prot := false } s r f (by simp [Mask.full])) :)
@[simp] theorem State.setFrame_prot (s : State) (r : FrameRef) (f : Frame) : (State.setFrame s r f).prot = s.prot :=
  (congrArg State.prot (State.setFrame_outside { Mask.full with prot := false } s r f (by simp [Mask.full])) :)
@[simp] theorem State.prerollEligible_prot (s : State) (c : Nat) (r : FrameRef) : (State.prerollEligible s c r).prot = s.prot :=
  (congrArg State.prot (State.prerollEligible_outside { Mask.full with prot := false } s c r (by simp [Mask.full])) :)
@[simp] theorem State.runActions_prot (s : State) (n : Nat) (z0 : Nat) : (State.runActions s n z0).prot = s.prot :=
  (congrArg State.prot (State.runActions_outside { Mask.full with prot := false } s n z0 (by simp [Mask.full])) :)
@[simp] theorem State.settlePending_prot (s : State) (src : Source) (r : FrameRef) :
    (State.settlePending s src r).prot = s.prot :=
  (congrArg State.prot (State.settlePending_outside { Mask.full with prot := false } s src r (by simp [Mask.full])) :)
@[simp] theorem State.settleAll_prot (s : State) : (State.settleAll s).prot = s.prot :=
  (congrArg State.prot (State.settleAll_outside { Mask.full with prot := false } s (by simp [Mask.full])) :)
@[simp] theorem State.trainLane_prot (s : State) (l : Nat) : (State.trainLane s l).prot = s.prot :=
  (congrArg State.prot (State.trainLane_outside { Mask.full with prot := false } s l (by simp [Mask.full])) :)
@[simp] theorem State.sendManifest_prot (s : State) (m : Manifest) : (State.sendManifest s m).prot = s.prot :=
  (congrArg State.prot (State.sendManifest_outside { Mask.full with prot := false } s m (by simp [Mask.full])) :)
@[simp] theorem State.entryApplied_prot (s : State) (m : Manifest) : (State.entryApplied s m).prot = s.prot :=
  (congrArg State.prot (State.entryApplied_outside { Mask.full with prot := false } s m (by simp [Mask.full])) :)
@[simp] theorem State.setRecording_prot (s : State) (r : Nat) (x : Rec) : (State.setRecording s r x).prot = s.prot :=
  (congrArg State.prot (State.setRecording_outside { Mask.full with prot := false } s r x (by simp [Mask.full])) :)
@[simp] theorem State.gapBegin_prot (s : State) (k : Nat) : (State.gapBegin s k).prot = s.prot :=
  (congrArg State.prot (State.gapBegin_outside { Mask.full with prot := false } s k (by simp [Mask.full])) :)
@[simp] theorem State.chanTo_prot (s : State) (ch : Nat) (x : ChState) : (State.chanTo s ch x).prot = s.prot :=
  (congrArg State.prot (State.chanTo_outside { Mask.full with prot := false } s ch x (by simp [Mask.full])) :)

theorem ite_keeps {α : Type} (p : State → α) {c : Prop} [Decidable c] {u v : State} (h : p u = p v) : p (if c then u else v) = p v := by
  split
  · exact h
  · rfl

theorem State.missFor_boardArea (s : State) (src : Source) : (s.missFor src).prot.boardArea = s.prot.boardArea := by
  unfold State.missFor
  cases src with
  | ch n => simp
  | sheet n => simp
  | surf n => simp

theorem State.makeEligible_boardArea (s : State) (src : Source) (r : FrameRef) : (s.makeEligible src r).prot.boardArea = s.prot.boardArea := by
  unfold State.makeEligible
  extract_lets f late u v
  have hv : v.prot.boardArea = s.prot.boardArea := by
    show (if late then u.missFor src else u).prot.boardArea = _
    split
    · rw [State.missFor_boardArea]
      exact congrArg Prot.boardArea (State.setFrame_prot ..)
    · exact congrArg Prot.boardArea (State.setFrame_prot ..)
  clear_value v
  rw [← hv]
  cases src with
  | ch n => dsimp only; split <;> split <;> simp
  | sheet n => rfl
  | surf n => simp

theorem State.ctxEligible_boardArea (s : State) (n : Nat) (r : FrameRef) : (s.ctxEligible n r).prot.boardArea = s.prot.boardArea := by
  unfold State.ctxEligible
  split
  · rw [State.becomeEligible, State.settlePending_prot, State.makeEligible_boardArea]
  · rw [State.prerollEligible_prot]

theorem State.finishCapture_boardArea (s : State) (n : Nat) (o : OpenFrame) : (s.finishCapture n o).prot.boardArea = s.prot.boardArea := by
  unfold State.finishCapture
  extract_lets r f groups u v w x c
  have hv : v.prot = s.prot := by
    show (match (u.ctx n).ch with
      | some ch => if o.start.hold then u.chCount ch 6 1 else u
      | none => u).prot = _
    have hu : u.prot = s.prot := State.sendManifest_prot ..
    split
    · split <;> simp [hu]
    · exact hu
  have hx : x.prot = s.prot := by
    show (if o.crcs.length = groups then (w.gapEnd n).joinSource n else w).prot = _
    have hw : w.prot = s.prot := (State.modFrame_prot ..).trans hv
    split <;> simp [hw]
  rw [State.ctxEligible_boardArea, State.setCtx_prot, hx]

theorem State.applyCapture_boardArea (s : State) (n : Nat) (o : OpenFrame) (m : Manifest) :
    (s.applyCapture n o m).prot.boardArea = s.prot.boardArea := by
  unfold State.applyCapture
  extract_lets r arrv capt u o' v
  have hv : v.prot = u.prot := foldl_same State.prot _ (fun y g => by
    rw [State.tagGroup_prot]
    exact ite_keeps State.prot (State.gapBegin_prot y n)) _ _
  rw [State.finishCapture_boardArea, State.entryApplied_prot, hv]
  exact congrArg Prot.boardArea (State.modFrame_prot ..)

theorem State.closeCapture_boardArea (s : State) (n : Nat) : (s.closeCapture n).prot.boardArea = s.prot.boardArea := by
  unfold State.closeCapture
  split
  · rfl
  next o _ =>
    dsimp only
    split
    · rw [State.setCtx_prot]
    · split
      · split
        · rw [State.runActions_prot, State.applyCapture_boardArea, State.setCtx_prot]
        · rw [State.setCtx_prot]
      · rw [State.finishCapture_boardArea, State.setCtx_prot]
        exact congrArg Prot.boardArea (foldl_same State.prot _ (fun y g => by split <;> simp) _ _)

theorem State.leaveUp_boardArea (s : State) (first : Nat) (role : BondRole) : (s.leaveUp first role).prot.boardArea = s.prot.boardArea := by
  unfold State.leaveUp
  extract_lets u
  have hu : u.prot.boardArea = s.prot.boardArea := foldl_same (fun x : State => x.prot.boardArea) _ (fun y n => by
    dsimp only
    split
    · rw [State.ctxTo_prot, State.closeCapture_boardArea]
    · rw [State.closeCapture_boardArea]) _ _
  split
  · rw [State.unpair_prot, hu]
  · exact hu

theorem State.bondTo_boardArea (s : State) (l : Nat) (x : Nat → LaneState) : (s.bondTo l x).prot.boardArea = s.prot.boardArea := by
  unfold State.bondTo
  extract_lets y u
  have hu : u.prot = s.prot := foldl_same State.prot _ (fun y n => by dsimp only; split <;> simp) _ _
  split
  · rw [State.leaveUp_boardArea, hu]
  · rw [hu]

theorem State.disableBond_boardArea (s : State) (l : Nat) (b : BondCfg) : (s.disableBond l b).prot.boardArea = s.prot.boardArea := by
  unfold State.disableBond
  exact (foldl_same (fun x : State => x.prot.boardArea) _ (fun y k => by rw [State.setLane_prot]) _ _).trans (s.bondTo_boardArea l _)

theorem State.enableBond_prot (s : State) (l : Nat) (b : BondCfg) : (s.enableBond l b).prot = s.prot := by
  unfold State.enableBond
  extract_lets ls u v
  have hu : u.prot = s.prot := foldl_same State.prot _ (fun y k => by rw [State.setLane_prot]) _ _
  split
  · exact hu
  · exact (foldl_same State.prot _ (fun y k => State.trainLane_prot y k) _ _).trans
      ((foldl_same State.prot _ (fun y k => State.laneTo_prot y k .down) _ _).trans hu)

theorem State.liveBonds_boardArea (s : State) (objs : Tab Obj) : (s.liveBonds objs).prot.boardArea = s.prot.boardArea := by
  unfold State.liveBonds
  extract_lets new old u v
  have hu : u.prot.boardArea = s.prot.boardArea :=
    foldl_same (fun x : State => x.prot.boardArea) _ (fun y (p : Nat × BondCfg) => y.disableBond_boardArea p.1 p.2) _ _
  exact (foldl_same (fun x : State => x.prot.boardArea) _ (fun y p => by rw [State.enableBond_prot]) _ _).trans hu

/-- What taking the board record changes: the record and what it sets, not the mode, the admitted memory or the stored record (R407). -/
theorem State.takeBoard_leaves (s : State) (b : Board) : (s.takeBoard b).prot.boardArea = s.prot.boardArea ∧ (s.takeBoard b).board = b ∧
    (s.takeBoard b).mode.phase = s.mode.phase ∧ (s.takeBoard b).mode.mode = s.mode.mode ∧ (s.takeBoard b).mode.boardOk = s.mode.boardOk ∧
    (s.takeBoard b).adm.memSize = s.adm.memSize ∧ (s.takeBoard b).adm.memRate = s.adm.memRate := by
  unfold State.takeBoard
  extract_lets u1 u2 u3 a1 u4 node u5
  have h2 : u2.rest = u1.rest := rest_foldl _ (fun y k => State.setLane_rest ..) _ _
  have h3 : u3.rest = u2.rest := rest_foldl _ (fun y p => by simp) _ _
  have hp2 : u2.prot = s.prot := foldl_same State.prot _ (fun y k => State.setLane_prot ..) _ _
  have hp3 : u3.prot = u2.prot := foldl_same State.prot _ (fun y p => by simp only [State.setReg_prot]) _ _
  clear_value u2 u3
  have hn : ∀ (x : State) n v, (node x n v).rest = { x.rest with dict := (node x n v).dict } ∧ (node x n v).prot = x.prot := by
    intro x n v
    dsimp only [node]
    split
    · exact ⟨rfl, rfl⟩
    · exact ⟨rfl, rfl⟩
  obtain ⟨hr, hp⟩ := hn (node u4 0 b.can0Node) 1 b.can1Node
  obtain ⟨hr', hp'⟩ := hn u4 0 b.can0Node
  clear_value node
  have h5 : u5.rest = { u1.rest with dict := u5.dict, aon := u4.aon } := by
    rw [hr, hr', ← h2, ← h3]
    rfl
  have hlive := (u5.liveBonds_rest u5.adm.objs).trans h5
  have harea : (u5.liveBonds u5.adm.objs).prot.boardArea = s.prot.boardArea := by
    rw [State.liveBonds_boardArea, hp, hp', show u4.prot = u3.prot from rfl, hp3, hp2]
  generalize u5.liveBonds u5.adm.objs = w at hlive harea ⊢
  exact ⟨harea, (congrArg Rest.board hlive :), (congrArg (fun r : Rest => r.mode.phase) hlive :),
    (congrArg (fun r : Rest => r.mode.mode) hlive :), (congrArg (fun r : Rest => r.mode.boardOk) hlive :),
    (congrArg (fun r : Rest => r.adm.memSize) hlive :), (congrArg (fun r : Rest => r.adm.memRate) hlive :)⟩

end Sys2Proof.Machine
end

section
/-! The boot ROM and the firmware start, the RTC, tokens and clocks (R407, R428, R430, R432). -/

namespace Sys2Proof.Machine

open Sys2Proof.Safety

/-! ## A step of device time while the firmware starts -/

theorem State.emitCtxSync_rest (s : State) (l : List Nat) : (s.emitCtxSync l).rest = s.rest := by
  induction l generalizing s with
  | nil => rfl
  | cons c l ih =>
    rw [State.emitCtxSync, ih]
    split
    · exact State.emit_rest ..
    · rfl

theorem State.emitCtxSync_prefix (s : State) (l : List Nat) : s.events <+: (s.emitCtxSync l).events := by
  induction l generalizing s with
  | nil => exact List.prefix_rfl
  | cons c l ih =>
    rw [State.emitCtxSync]
    refine List.IsPrefix.trans ?_ (ih _)
    split
    · exact State.emit_prefix _ _ _ List.prefix_rfl
    · exact List.prefix_rfl

@[simp] theorem State.dropWork_events (s : State) (n : Nat) : (State.dropWork s n).events = s.events :=
  (congrArg State.events (State.dropWork_outside { Mask.full with events := false } s n (by simp [Mask.full])) :)
@[simp] theorem State.freeEngine_events (s : State) (e : Nat) : (State.freeEngine s e).events = s.events :=
  (congrArg State.events (State.freeEngine_outside { Mask.full with events := false } s e (by simp [Mask.full])) :)
@[simp] theorem State.recStart_events (s : State) (r : Nat) : (State.recStart s r).events = s.events :=
  (congrArg State.events (State.recStart_outside { Mask.full with events := false } s r (by simp [Mask.full])) :)

/-- What a step of device time leaves: the admitted configuration and the mode, but for the power tokens; it only adds events. -/
theorem State.stepEffects_leaves (s : State) : (s.stepEffects.mode.phase = s.mode.phase ∧ s.stepEffects.mode.mode = s.mode.mode ∧
    s.stepEffects.adm.memSize = s.adm.memSize ∧ s.stepEffects.adm.memRate = s.adm.memRate) ∧ s.events <+: s.stepEffects.events := by
  unfold State.stepEffects
  extract_lets u1 u2 u3 u4 now
  have h1 : u1.rest = s.rest := State.emitCtxSync_rest ..
  have e1 : s.events <+: u1.events := State.emitCtxSync_prefix ..
  have h2 : u2.rest = u1.rest := rest_foldl _ (fun y n => State.dropWork_rest ..) _ _
  have e2 : u2.events = u1.events := foldl_same State.events _ (fun y n => State.dropWork_events ..) _ _
  have h3 : u3.rest = u2.rest := rest_foldl _ (fun y n => State.freeEngine_rest ..) _ _
  have e3 : u3.events = u2.events := foldl_same State.events _ (fun y n => State.freeEngine_events ..) _ _
  have h4 : u4.rest = u3.rest := rest_foldl _ (fun y r => by
    split
    · exact State.recStart_rest ..
    · rfl) _ _
  have e4 : u4.events = u3.events := foldl_same State.events _ (fun y r => ite_keeps State.events (State.recStart_events ..)) _ _
  have hrest : u4.rest = s.rest := by rw [h4, h3, h2, h1]
  have hevents : s.events <+: u4.events := by rw [e4, e3, e2]; exact e1
  clear_value u4
  exact ⟨⟨(congrArg (fun r : Rest => r.mode.phase) hrest :), (congrArg (fun r : Rest => r.mode.mode) hrest :),
    (congrArg (fun r : Rest => r.adm.memSize) hrest :), (congrArg (fun r : Rest => r.adm.memRate) hrest :)⟩, hevents⟩

/-- A state of the firmware's start: CONFIGURE is entered with the memory found, under the keys and the lifecycle of the state before, whose
events stand. -/
structure Started (s : State) (m r : Nat) (u : State) : Prop where
  phase : u.mode.phase = .up
  mode : u.mode.mode = .configure
  memSize : u.adm.memSize = m
  memRate : u.adm.memRate = r
  keyStore : u.prot.keyStore = s.prot.keyStore
  development : u.prot.development = s.prot.development
  events : s.events <+: u.events

theorem Started.emit {s u : State} {m r : Nat} (h : Started s m r u) (k : EvKind) (i : Nat) (p : List Int) : Started s m r (u.emit k i p) :=
  ⟨by rw [State.emit_mode]; exact h.phase, by rw [State.emit_mode]; exact h.mode, by rw [State.emit_adm]; exact h.memSize,
    by rw [State.emit_adm]; exact h.memRate, by rw [State.emit_prot]; exact h.keyStore, by rw [State.emit_prot]; exact h.development,
    State.emit_prefix _ _ _ h.events⟩

theorem Started.stepEffects {s u : State} {m r : Nat} (h : Started s m r u) : Started s m r u.stepEffects := by
  have hkept := u.stepEffects_kept
  obtain ⟨⟨hph, hm, hs, hr⟩, he⟩ := u.stepEffects_leaves
  exact ⟨hph.trans h.phase, hm.trans h.mode, hs.trans h.memSize, hr.trans h.memRate, (congrArg Kept.keyStore hkept).trans h.keyStore,
    (congrArg Kept.development hkept).trans h.development, h.events.trans he⟩

theorem Started.setTime {s u : State} {m r : Nat} (h : Started s m r u) (x : TimeUnit) : Started s m r (u.setTime x) :=
  ⟨h.phase, h.mode, h.memSize, h.memRate, h.keyStore, h.development, h.events⟩

theorem Started.stepTime {s u : State} {m r : Nat} (h : Started s m r u) (d : Int) : Started s m r (u.stepTime d) :=
  (((h.setTime _).setTime _).emit _ _ _).stepEffects

theorem Started.recordPasses {s u : State} {m r : Nat} (h : Started s m r u) (b : Tab (BitVec 8)) : u.recordPasses b = s.recordPasses b := by
  unfold State.recordPasses State.keyOk
  rw [h.keyStore, h.development]

/-- CONFIGURE with the memory found, before the time of the RTC is taken. -/
def State.bootFound (s : State) (m r k : Nat) : State :=
  let u := s.setRtc (s.rtcNow + k)
  let u := { u with
    glb := { u.glb with fwVersion := s.runSlot.fwVersion, modelVersion := s.runSlot.modelVersion },
    adm := { u.adm with memSize := m, memRate := r },
    mode := { u.mode with phase := .up, mode := .configure, since := u.now, lastKick := u.now, warned := false } }
  u.emit .modeState 0 [(u.mode.prev.code : Int), 2, (s.aon.resetCause.code : Int)]

/-- The RTC's time taken and what made the device start reported. -/
def State.bootReported (s : State) (cause : ResetCause) : State :=
  let u := if s.aon.rtcSet then s.stepTime ((s.rtcNow * 1000000000 / 32768 : Nat) - (s.now : Int)) else s
  match u.mode.failReport with
  | some .rail => u.emit .pwrRailFail 0 [(u.mode.failRail.toNat : Int)]
  | some .thermal => u.emit .pwrThermalTrip 0 []
  | _ => if cause = ResetCause.wake then u.emit .pwrWake 0 [(u.mode.wakeSrc.toNat : Int)] else u

/-- The start noted in the mode and health units, and the board record kept. -/
def State.bootNoted (s : State) (cause : ResetCause) (record : Tab (BitVec 8)) : State :=
  let u := s.setMode { s.mode with failReport := none, retries := 0 }
  let u := if cause = .lockstep then { u with prot := { u.prot with health := { u.prot.health with lockstepAt := some u.now } } } else u
  let u := { u with prot := { u.prot with health := { u.prot.health with bootAt := u.now } } }
  { u with prot := { u.prot with boardArea := record } }

/-- The board record in force, or marked invalid. -/
def State.bootBoard (s : State) (record : Tab (BitVec 8)) : State :=
  if s.recordPasses record then (s.setMode { s.mode with boardOk := true }).takeBoard (boardOf record)
  else
    let u := { s with prot := { s.prot with health := { s.prot.health with boardInvalid := true } } }
    u.lssOnly.emit .modeBoardInvalid 0 []

theorem bootComplete_stages (t m r k : Nat) (b : Tab (BitVec 8)) (s : State) (hp : s.mode.phase = .starting) :
    exec (.bootComplete t m r k b) s = .next (((((s.at t).bootFound m r k).bootReported s.aon.resetCause).bootNoted s.aon.resetCause b).bootBoard b) := by
  have hphase : ¬ (s.at t).mode.phase ≠ .starting := fun c => c hp
  refine (if_neg hphase).trans ?_
  unfold State.bootBoard
  exact (apply_ite Host.Outcome.next _ _ _).symm

theorem State.bootFound_started (s : State) (m r k : Nat) : Started s m r (s.bootFound m r k) := by
  unfold State.bootFound
  refine Started.emit ?_ _ _ _
  exact ⟨rfl, rfl, rfl, rfl, rfl, rfl, List.prefix_rfl⟩

theorem Started.bootReported {s u : State} {m r : Nat} (h : Started s m r u) (cause : ResetCause) : Started s m r (u.bootReported cause) := by
  unfold State.bootReported
  extract_lets v
  have hv : Started s m r v := by
    show Started s m r (if _ then State.stepTime _ _ else _)
    split
    · exact h.stepTime _
    · exact h
  clear_value v
  split
  · exact hv.emit _ _ _
  · exact hv.emit _ _ _
  · split
    · exact hv.emit _ _ _
    · exact hv

theorem Started.bootNoted {s u : State} {m r : Nat} (h : Started s m r u) (cause : ResetCause) (b : Tab (BitVec 8)) :
    Started s m r (u.bootNoted cause b) := by
  unfold State.bootNoted
  by_cases hc : cause = .lockstep
  · simp only [if_pos hc]
    exact ⟨h.phase, h.mode, h.memSize, h.memRate, h.keyStore, h.development, h.events⟩
  · simp only [if_neg hc]
    exact ⟨h.phase, h.mode, h.memSize, h.memRate, h.keyStore, h.development, h.events⟩

/-- Without a board record only the CAN nodes take what LSS stored. -/
theorem State.lssOnly_only (s : State) : ∃ d, s.lssOnly = { s with dict := d } := by
  have hfold : ∀ (l : List Nat) (x : State) (d : Dict), ∃ d', l.foldl (fun s n =>
      match Tab.get none s.store.lss n with
      | some x => { s with
          dict := { s.dict with
          can := Tab.set {} s.dict.can n { (Tab.get {} s.dict.can n : CanNode) with nodeId := x.1, nominal := x.2.1, data := x.2.2 } } }
      | none => s) { x with dict := d } = { x with dict := d' } := by
    intro l x
    induction l with
    | nil => exact fun d => ⟨d, rfl⟩
    | cons n l ih =>
      intro d
      rw [List.foldl_cons]
      dsimp only
      split
      · exact ih _
      · exact ih d
  exact hfold [0, 1] s s.dict

theorem Started.bootBoard {s u : State} {m r : Nat} (h : Started s m r u) (b : Tab (BitVec 8)) (ha : u.prot.boardArea = b) :
    (u.bootBoard b).mode.phase = .up ∧ (u.bootBoard b).mode.mode = .configure ∧ (u.bootBoard b).adm.memSize = m ∧
      (u.bootBoard b).adm.memRate = r ∧ (u.bootBoard b).prot.boardArea = b ∧
      if s.recordPasses b = true then (u.bootBoard b).mode.boardOk = true ∧ (u.bootBoard b).board = boardOf b
      else (u.bootBoard b).prot.health.boardInvalid = true ∧ raises .modeBoardInvalid 0 [] s (u.bootBoard b) := by
  have hpasses : u.recordPasses b = s.recordPasses b := h.recordPasses b
  unfold State.bootBoard
  by_cases hrec : s.recordPasses b = true
  · rw [if_pos (hpasses.trans hrec), if_pos hrec]
    obtain ⟨harea, hboard, hph, hm, hok, hs, hr⟩ := State.takeBoard_leaves (u.setMode { u.mode with boardOk := true }) (boardOf b)
    exact ⟨hph.trans h.phase, hm.trans h.mode, hs.trans h.memSize, hr.trans h.memRate, harea.trans ha, hok, hboard⟩
  · rw [if_neg (fun c => hrec (hpasses.symm.trans c)), if_neg hrec]
    obtain ⟨d, hlss⟩ := State.lssOnly_only { u with prot := { u.prot with health := { u.prot.health with boardInvalid := true } } }
    dsimp only
    rw [hlss, State.emit_mode, State.emit_adm, State.emit_prot]
    exact ⟨h.phase, h.mode, h.memSize, h.memRate, ha, rfl, raises_of_prior h.events (raises_emit_self _ _ _ _ _ rfl)⟩

theorem bootComplete_starting (t m r k : Nat) (b : Tab (BitVec 8)) (s : State) (hp : s.mode.phase = .starting) :
    gives (.bootComplete t m r k b) s (fun w => w.mode.phase = .up ∧ w.mode.mode = .configure ∧ w.adm.memSize = m ∧
      w.adm.memRate = r ∧ w.prot.boardArea = b ∧ if s.recordPasses b = true then w.mode.boardOk = true ∧ w.board = boardOf b
      else w.prot.health.boardInvalid = true ∧ raises .modeBoardInvalid 0 [] s w) := by
  refine gives_of_next (bootComplete_stages t m r k b s hp) ?_
  have h := (((s.at t).bootFound_started m r k).bootReported s.aon.resetCause).bootNoted s.aon.resetCause b
  exact Started.bootBoard ⟨h.phase, h.mode, h.memSize, h.memRate, h.keyStore, h.development, h.events⟩ b rfl

end Sys2Proof.Machine
end

section
/-! The boot ROM, the RTC, tokens and clocks (R407, R430, R432). -/

namespace Sys2Proof.Machine

open Sys2Proof.Safety

/-! ## The boot ROM -/

/-- With no trial slot the boot ROM retires none. -/
theorem State.retireTrials_none (s : State) (ha : s.prot.slotA.state ≠ .trial) (hb : s.prot.slotB.state ≠ .trial) : s.retireTrials = s := by
  unfold State.retireTrials
  have h0 : (s.slot false).state ≠ .trial := ha
  have h1 : (s.slot true).state ≠ .trial := hb
  simp only [List.foldl_cons, List.foldl_nil, h0, h1, false_and, if_false]

theorem State.romPick_empty (s : State) (ha : s.prot.slotA.state ≠ .pending ∧ s.prot.slotA.state ≠ .trial ∧ s.prot.slotA.state ≠ .good)
    (hb : s.prot.slotB.state = .empty) : s.romPick = none := by
  obtain ⟨hp, ht, hg⟩ := ha
  unfold State.romPick
  simp [hp, ht, hg, hb]

theorem State.romPick_goodA (s : State) (ha : s.prot.slotA.state = .good) (hb : s.prot.slotB.state = .empty) :
    s.romPick = some (false, s.prot.slotA) := by
  unfold State.romPick
  simp [ha, hb, State.slot]

theorem State.romChoose_none (s : State) (okA okB : Bool) (n : Nat) (h : s.romPick = none) : s.romChoose okA okB n = (s, none) := by
  cases n with
  | zero => rfl
  | succ n => rw [State.romChoose, h]

/-- With slot A GOOD and slot B EMPTY the boot ROM takes slot A where it passes, and else marks it BAD and takes none (R407). -/
theorem State.romChoose_goodA (s : State) (okA okB : Bool) (ha : s.prot.slotA.state = .good) (hb : s.prot.slotB.state = .empty) :
    s.romChoose okA okB 3 = if s.slotPasses false okA then (s, some false) else (s.markBad false, none) := by
  rw [State.romChoose, s.romPick_goodA ha hb]
  simp only [Bool.false_eq_true, if_false]
  by_cases hp : s.slotPasses false okA = true
  · rw [if_pos hp, if_pos hp]
    rfl
  · rw [if_neg hp, if_neg hp]
    have hslot : (s.slot false).state ≠ .trial := by rw [State.slot]; simp [ha]
    have hbad : s.markBad false = s.setSlot false { s.slot false with state := .bad } := by
      unfold State.markBad
      exact if_neg hslot
    rw [hbad]
    exact State.romChoose_none _ _ _ _ (State.romPick_empty _
      ⟨show SlotState.bad ≠ .pending by decide, show SlotState.bad ≠ .trial by decide, show SlotState.bad ≠ .good by decide⟩ hb)

/-- The boot ROM's way into RECOVERY. -/
def State.romRecovery (s : State) : State :=
  (s.setMode { s.mode with phase := .up, mode := .recovery, since := s.now }).emit .modeState 0
    [(s.mode.prev.code : Int), 1, (s.aon.resetCause.code : Int)]

theorem State.romRecovery_mode (s : State) : s.romRecovery.mode.phase = .up ∧ s.romRecovery.mode.mode = .recovery ∧
    s.romRecovery.mode.strap = s.mode.strap ∧ s.romRecovery.prot = s.prot := by
  unfold State.romRecovery
  rw [State.emit_mode, State.emit_prot]
  exact ⟨rfl, rfl, rfl, rfl⟩

theorem romBoot_recovery (t : Nat) (s : State) (a b c : Bool) (hp : s.mode.phase = .boot) :
    exec (.romBoot t false a b c) s = .next ((s.at t).setMode { s.mode with strap := a }).romRecovery := by
  have hphase : ¬ (s.at t).mode.phase ≠ .boot := fun k => k hp
  exact if_neg hphase

theorem romBoot_chosen_none (t : Nat) (s u : State) (a b c : Bool) (hp : s.mode.phase = .boot)
    (h : (State.retireTrials ((s.at t).setMode { s.mode with strap := a })).romChoose b c 3 = (u, none)) :
    exec (.romBoot t true a b c) s = .next u.romRecovery := by
  have hphase : ¬ (s.at t).mode.phase ≠ .boot := fun k => k hp
  refine (if_neg hphase).trans ?_
  show (match (State.retireTrials ((s.at t).setMode { s.mode with strap := a })).romChoose b c 3 with
    | (s, none) => _
    | (s, some b) => _ : Host.Outcome State Fault Refusal) = _
  rw [h]
  rfl

/-- The boot ROM's start of a slot. -/
def State.romStart (s : State) (b : Bool) : State :=
  let u := { s with prot := { s.prot with runB := b } }
  let v := if u.prot.trialFailed ∧ (u.slot (!b)).state = .bad then
      ({ u with prot := { u.prot with trialFailed := false } }).emit .updFallback 0
        [((u.slot (!b)).fwVersion.toNat : Int), ((u.slot b).fwVersion.toNat : Int)]
    else { u with prot := { u.prot with trialFailed := false } }
  let w := if (v.slot b).state = .trial then v.emit .updTrialBoot 0 [] else v
  w.setMode { w.mode with phase := .starting }

theorem State.romStart_starts (s : State) (b : Bool) (hf : s.prot.trialFailed = false) :
    (s.romStart b).mode.phase = .starting ∧ (s.romStart b).prot.runB = b := by
  unfold State.romStart
  extract_lets c u p v w
  refine ⟨rfl, ?_⟩
  have hv : v = { u with prot := { u.prot with trialFailed := false } } :=
    if_neg fun h => absurd (hf.symm.trans h.1) (by decide)
  have hw : w.prot = v.prot := ite_keeps State.prot (State.emit_prot ..)
  show w.prot.runB = b
  rw [hw, hv]

theorem romBoot_chosen (t : Nat) (s u : State) (a b c d : Bool) (hp : s.mode.phase = .boot)
    (h : (State.retireTrials ((s.at t).setMode { s.mode with strap := a })).romChoose b c 3 = (u, some d)) :
    exec (.romBoot t true a b c) s = .next (u.romStart d) := by
  have hphase : ¬ (s.at t).mode.phase ≠ .boot := fun k => k hp
  refine (if_neg hphase).trans ?_
  show (match (State.retireTrials ((s.at t).setMode { s.mode with strap := a })).romChoose b c 3 with
    | (s, none) => _
    | (s, some b) => _ : Host.Outcome State Fault Refusal) = _
  rw [h]
  rfl

theorem State.markBad_state (s : State) (b : Bool) : ((s.markBad b).slot b).state = .bad := by
  unfold State.markBad
  dsimp only
  cases b with
  | false => split <;> rfl
  | true => split <;> rfl

theorem romBoot_goodA (t : Nat) (s : State) (a b c : Bool) (hp : s.mode.phase = .boot) (ha : s.prot.slotA.state = .good)
    (hb : s.prot.slotB.state = .empty) (hf : s.prot.trialFailed = false) :
    gives (.romBoot t true a b c) s (fun w => if s.slotPasses false b = true then w.mode.phase = .starting ∧ w.prot.runB = false
      else w.mode.phase = .up ∧ w.mode.mode = .recovery ∧ w.prot.slotA.state = .bad) := by
  have hphase : ¬ (s.at t).mode.phase ≠ .boot := fun k => k hp
  have hretire : State.retireTrials ((s.at t).setMode { s.mode with strap := a }) = (s.at t).setMode { s.mode with strap := a } :=
    State.retireTrials_none _ (by exact ha ▸ by decide) (by exact hb ▸ by decide)
  have hchoose := State.romChoose_goodA ((s.at t).setMode { s.mode with strap := a }) b c ha hb
  have hsame : ((s.at t).setMode { s.mode with strap := a }).slotPasses false b = s.slotPasses false b := rfl
  rw [hsame] at hchoose
  by_cases hpass : s.slotPasses false b = true
  · simp only [if_pos hpass] at hchoose ⊢
    refine gives_of_next (romBoot_chosen t s _ a b c false hp (by rw [hretire, hchoose])) ?_
    exact State.romStart_starts ((s.at t).setMode { s.mode with strap := a }) false hf
  · simp only [if_neg hpass] at hchoose ⊢
    refine gives_of_next (romBoot_chosen_none t s _ a b c hp (by rw [hretire, hchoose])) ?_
    obtain ⟨h1, h2, -, h4⟩ := State.romRecovery_mode (State.markBad ((s.at t).setMode { s.mode with strap := a }) false)
    refine ⟨h1, h2, ?_⟩
    rw [h4]
    exact State.markBad_state ((s.at t).setMode { s.mode with strap := a }) false

theorem romBoot_empty (t : Nat) (s : State) (a b c : Bool) (hp : s.mode.phase = .boot) (ha : s.prot.slotA.state = .empty)
    (hb : s.prot.slotB.state = .empty) : gives (.romBoot t true a b c) s (fun w => w.mode.phase = .up ∧ w.mode.mode = .recovery) := by
  have hretire : State.retireTrials ((s.at t).setMode { s.mode with strap := a }) = (s.at t).setMode { s.mode with strap := a } :=
    State.retireTrials_none _ (by exact ha ▸ by decide) (by exact hb ▸ by decide)
  have hpick : State.romPick ((s.at t).setMode { s.mode with strap := a }) = none :=
    State.romPick_empty _ ⟨by exact ha ▸ by decide, by exact ha ▸ by decide, by exact ha ▸ by decide⟩ hb
  refine gives_of_next (romBoot_chosen_none t s _ a b c hp (by rw [hretire, State.romChoose_none _ _ _ _ hpick])) ?_
  obtain ⟨h1, h2, -, -⟩ := State.romRecovery_mode ((s.at t).setMode { s.mode with strap := a })
  exact ⟨h1, h2⟩

/-! ## Tokens and clocks -/

theorem State.askToken_new (s : State) (h : TokenHolder) (u : Nat) (hp : ∀ p ∈ s.mode.tokPending, ¬ (p.holder = h ∧ p.unit = u))
    (hh : ∀ p ∈ s.mode.tokHeld, ¬ (p.1 = h ∧ p.2.1 = u)) : s.askToken h u = s.setMode { s.mode with
      tokPending := s.mode.tokPending ++ [⟨h, u, TokenHolder.size h, s.now⟩] } := by
  refine if_neg ?_
  rw [Bool.not_eq_true, Bool.or_eq_false_iff, List.any_eq_false, List.any_eq_false]
  exact ⟨fun p m c => hp p m (by simpa using c), fun p m c => hh p m (by simpa using c)⟩

@[simp] theorem State.restCore_mode (s : State) (k : Nat) : (State.restCore s k).mode = s.mode :=
  (congrArg State.mode (State.restCore_outside { Mask.full with mode := false } s k (by simp [Mask.full])) :)
@[simp] theorem State.restRec_mode (s : State) (k : Nat) : (State.restRec s k).mode = s.mode :=
  (congrArg State.mode (State.restRec_outside { Mask.full with mode := false } s k (by simp [Mask.full])) :)

theorem State.clock_mode (s : State) (h : TokenHolder) (u : Nat) (on : Bool) : (s.clock h u on).mode = s.mode := by
  unfold State.clock
  split <;> rfl

theorem tokenRequest_new (t : Nat) (h : TokenHolder) (u : Nat) (s : State) (hp : ∀ p ∈ s.mode.tokPending, ¬ (p.holder = h ∧ p.unit = u))
    (hh : ∀ p ∈ s.mode.tokHeld, ¬ (p.1 = h ∧ p.2.1 = u)) :
    gives (.tokenRequest t h u) s (fun w => ∃ r, w.mode.tokPending = s.mode.tokPending ++ [r] ∧ r.holder = h ∧ r.unit = u ∧
      r.left = TokenHolder.size h ∧ r.since = (s.at t).now) := by
  have hmode : ((s.at t).askToken h u).mode.tokPending = s.mode.tokPending ++ [⟨h, u, TokenHolder.size h, (s.at t).now⟩] := by
    rw [(s.at t).askToken_new h u hp hh]
    rfl
  show ∃ w, execTokenRequest t h u s = .next w ∧ _
  unfold execTokenRequest
  cases h with
  | decode => exact ⟨_, rfl, _, by rw [State.restCore_mode, State.clock_mode, hmode], rfl, rfl, rfl, rfl⟩
  | recorder => exact ⟨_, rfl, _, by rw [State.restRec_mode, State.clock_mode, hmode], rfl, rfl, rfl, rfl⟩
  | _ => exact ⟨_, rfl, _, by rw [State.clock_mode, hmode], rfl, rfl, rfl, rfl⟩

theorem tokenSlot_lone (t : Nat) (s : State) (r : TokenReq) (hp : s.mode.tokPending = [r]) (hl : r.left ≤ s.board.step) :
    gives (.tokenSlot t) s (fun w => w = (s.at t).grant r) := by
  have hsort : [r].foldr insertToken [] = [r] := rfl
  show ∃ w, execTokenSlot t s = .next w ∧ _
  simp only [execTokenSlot, State.at_mode, hp, hsort]
  split
  · exact ⟨_, rfl, rfl⟩
  · refine ⟨_, rfl, ?_⟩
    have hl' : r.left ≤ (s.at t).board.step := hl
    rw [State.grantSlot, if_pos hl']
    rfl

/-- Settles O56: the firmware's start is followed stage by stage; the other commands name their branch. -/
theorem bootRtcTokensAndClocks : Obligations.BootRtcTokensAndClocks := by
  intro t s
  refine ⟨fun a b c hp => ?_, fun a b c hp ha hb => romBoot_empty t s a b c hp ha hb,
    fun a b c hp ha hb hf => romBoot_goodA t s a b c hp ha hb hf, fun m r k b hp => bootComplete_starting t m r k b s hp,
    fun hu ht hn => gives_of_next (if_pos ⟨hu, ht, hn⟩) ⟨rfl, ?_, ?_⟩, fun h u hp hh => tokenRequest_new t h u s hp hh,
    fun r hp hl => tokenSlot_lone t s r hp hl, fun u hj => ?_, fun u hj => ?_, fun u hj => ?_⟩
  · refine gives_of_next (romBoot_recovery t s a b c hp) ?_
    obtain ⟨h1, h2, h3, -⟩ := State.romRecovery_mode ((s.at t).setMode { s.mode with strap := a })
    exact ⟨h1, h2, h3⟩
  · show (s.at t).now / 1000000000 * 32768 / 32768 % 2 ^ 32 = _
    rw [Nat.mul_div_cancel _ (by decide)]
  · exact Nat.mul_mod_left _ _
  · exact gives_of_next (if_pos (by exact Option.isNone_iff_eq_none.mpr hj)) (by simp [State.clock])
  · exact gives_of_next (if_pos (by exact Option.isNone_iff_eq_none.mpr hj)) (by simp [State.clock])
  · exact gives_of_next (if_pos (by exact Option.isNone_iff_eq_none.mpr hj)) (by simp [State.clock, State.recCore, State.setRecCore, Tab.get_set_self])

end Sys2Proof.Machine
end

section
/-! Register reads and writes on BAR0 and the pages, the DRAM aperture and its base. -/

namespace Sys2Proof.Machine

open Sys2Proof.Safety

/-- Latching the high halves of a register leaves the registers alone. -/
theorem State.latchHigh_reg (s : State) (o k : Nat) : (s.latchHigh o).reg k = s.reg k :=
  foldl_same (fun u : State => u.reg k) (fun (x : State) h => { x with latches := Tab.set 0 x.latches h (s.view h) }) (fun _ _ => rfl) _ s

theorem State.readClear_reg (s : State) (o k : Nat) (h : k ≠ o) : (s.readClear o).reg k = s.reg k := by
  unfold State.readClear
  extract_lets u
  have hu : u.reg k = s.reg k := by
    unfold u
    split
    · split
      · exact Tab.get_set_other _ _ _ _ _ _ h
      · rfl
    · rfl
  rw [← hu]
  split
  · rfl
  · split
    · rfl
    · split
      · rfl
      · split
        · rfl
        · split <;> rfl

theorem barRead_plain (s : State) (o : Nat) (hs : s.serves o = true) (ho : ownRead o = false) (hc : counterUnit o = none) :
    s.barRead o = { (s.latchHigh o).readClear o with readData := s.readValue o } := by
  unfold State.barRead
  simp [hs, ho, hc]

theorem registerReadClear_counter (t : Nat) (s : State) (o : Fin 67108864) (u : Nat) (hs : s.serves (o.val / 4 * 4) = true)
    (ho : ownRead (o.val / 4 * 4) = false) (hc : counterUnit (o.val / 4 * 4) = some u) :
    gives (.registerReadClear t (.bar0 o)) s (fun w => w.readData = ((s.at t).syncUnit u).readValue (o.val / 4 * 4)) := by
  refine gives_of_next (w := (s.at t).barRead (o.val / 4 * 4)) rfl ?_
  have hs' : (s.at t).serves (o.val / 4 * 4) = true := hs
  unfold State.barRead
  simp [hs', ho, hc]

/-- The protection check does not read device time. -/
theorem State.at_mpuCheck (s : State) (t : Nat) (a : Access) : (s.at t).mpuCheck a = s.mpuCheck a := rfl

theorem bar4Access_write (t : Nat) (s : State) (o : Fin 268435456) (n : Nat) (data : List (BitVec 8)) (a : Nat) (hu : s.up = true)
    (hd : data ≠ []) (ha : a = s.reg Reg.glbAperture * 2097152 + o.val)
    (hc : s.mpuCheck { cls := .med, write := true, first := dramBase + a, last := dramBase + a + (data.length - 1) } = none) :
    exec (.bar4Access t o true n data) s = .next ((s.at t).dramWrite a data) := by
  subst ha
  have hlen : ¬ ((!(s.at t).up || data.length == 0) = true) := by
    have : (s.at t).up = true := hu
    simp [this, hd]
  show execBar4Access t o true n data s = _
  unfold execBar4Access
  simp only [if_true]
  rw [if_neg hlen]
  rw [show (s.at t).reg Reg.glbAperture = s.reg Reg.glbAperture from rfl, State.at_mpuCheck, hc]

theorem bar4Access_read (t : Nat) (s : State) (o : Fin 268435456) (n : Nat) (hu : s.up = true) (hn : n ≠ 0)
    (hc : s.mpuCheck { cls := .med, write := false, first := dramBase + (s.reg Reg.glbAperture * 2097152 + o.val),
                       last := dramBase + (s.reg Reg.glbAperture * 2097152 + o.val) + (n - 1) } = none) :
    exec (.bar4Access t o false n []) s = .next { s.at t with
      readData := leNat ((s.at t).dramRead (s.reg Reg.glbAperture * 2097152 + o.val) n) } := by
  have hlen : ¬ ((!(s.at t).up || n == 0) = true) := by
    have : (s.at t).up = true := hu
    simp [this, hn]
  show execBar4Access t o false n [] s = _
  unfold execBar4Access
  simp only [Bool.false_eq_true, if_false]
  rw [if_neg hlen]
  rw [show (s.at t).reg Reg.glbAperture = s.reg Reg.glbAperture from rfl, State.at_mpuCheck, hc]

/-- Settles O57: a read gives the value its map spells, a write goes through its map, and the aperture writes exactly its bytes. -/
theorem barAccessesTakeEffect : Obligations.BarAccessesTakeEffect := by
  intro t s
  refine ⟨fun o hs ho hc => gives_of_next (w := (s.at t).barRead (o.val / 4 * 4)) rfl (by rw [barRead_plain (s.at t) _ hs ho hc]),
    fun o u hs ho hc => registerReadClear_counter t s o u hs ho hc, fun n o hu => gives_of_next (w := (s.at t).pageRead n.val (o.val / 4 * 4)) rfl ?_,
    fun hs => gives_of_next (w := (s.at t).barRead 0x60) rfl ?_, fun v hs => gives_of_next (w := (s.at t).barWrite 0x20000 v.toNat) rfl ?_,
    fun v hs => gives_of_next (w := (s.at t).barWrite 0x20014 v.toNat) rfl ?_, fun n o v => gives_of_next rfl rfl, fun o v => gives_of_next rfl rfl,
    fun o n hu hn hc => gives_of_next (bar4Access_read t s o n hu hn hc) rfl,
    fun o n data a hu hd ha hc => gives_of_next (bar4Access_write t s o n data a hu hd ha hc) ⟨?_, ?_⟩,
    fun v hu hv => gives_of_next (if_pos ⟨hu, hv⟩) ⟨rfl, rfl⟩, fun v hv => ?_⟩
  · have hup : (s.at t).up = true := hu
    unfold State.pageRead
    rw [if_pos hup]
  · rw [barRead_plain (s.at t) 0x60 hs (by decide) (by decide)]
    show ((State.latchHigh (s.at t) 0x60).readClear 0x60).reg Reg.glbBarStrayOff = _
    rw [State.readClear_reg _ _ _ (by decide), State.latchHigh_reg]
    rfl
  · have hs' : (s.at t).serves 0x20000 = true := hs
    unfold State.barWrite
    rw [if_neg (by simp [hs']), if_pos rfl]
  · have hs' : (s.at t).serves 0x20014 = true := hs
    unfold State.barWrite
    rw [if_neg (by simp [hs']), if_neg (by decide), if_pos rfl]
    exact BitVec.ofNat_toNat _ _
  · exact fun i h => State.dramWrite_read _ _ _ _ h
  · exact fun b h => State.dramWrite_other _ _ _ _ h
  · show ∃ w, execApertureBaseSwitch t s = .next w ∧ _
    have hv' : (s.at t).glb.apertureNext = some v := hv
    simp only [execApertureBaseSwitch, hv']
    exact ⟨_, rfl, Tab.get_set_self _ _ _ _, rfl⟩

end Sys2Proof.Machine
end

section
/-! Writes to an instance's doorbell page reach its queues, rings and vectors (R325 to R329). -/

namespace Sys2Proof.Machine

open Sys2Proof.Safety

theorem State.queue_setQueue_self (s : State) (n q : Nat) (x : WorkQueue) : (s.setQueue n q x).queue n q = x := by
  simp [State.queue, State.setQueue, Tab.get_set_self]

/-- An event changes an instance's event ring and held vectors alone. -/
theorem State.emit_queue (s : State) (k : EvKind) (i : Nat) (p : List Int) (n q : Nat) : (s.emit k i p).queue n q = s.queue n q :=
  (congrArg (fun r : Rest => (Tab.get {} (r.inst n).queues q : WorkQueue)) (s.emit_rest k i p) :)

/-- Signalling a vector changes no ring. -/
theorem State.signalVec_rings (s : State) (n v : Nat) : ((s.signalVec n v).inst n).evq = (s.inst n).evq ∧ ((s.signalVec n v).inst n).cq = (s.inst n).cq := by
  unfold State.signalVec
  dsimp only
  split
  · exact ⟨rfl, rfl⟩
  · split
    · simp
    · exact ⟨rfl, rfl⟩

/-- A queue's offset on the page names the queue and its register. -/
theorem pageWrite_queue (s : State) (n q o : Nat) (v : BitVec 32) (hs : (s.inst n).state ≠ .resetting) (hq : q < 4) (ho : o < 0x40) :
    s.pageWrite n (0x40 * q + o) v = s.queueWrite n q o v := by
  unfold State.pageWrite
  rw [if_neg hs, if_pos (by omega), show (0x40 * q + o) / 0x40 = q by omega, show (0x40 * q + o) % 0x40 = o by omega]

theorem pageWrite_ring (s : State) (n o : Nat) (v : BitVec 32) (hs : (s.inst n).state ≠ .resetting) (ho : 0x100 ≤ o) :
    s.pageWrite n o v = s.ringFieldWrite n o v := by
  unfold State.pageWrite
  rw [if_neg hs, if_neg (Nat.not_lt.mpr ho)]

theorem doorbellTailWrite_tail (t : Nat) (n : Fin 32) (q : Fin 4) (v : BitVec 32) (s : State) (hs : (s.inst n.val).state ≠ .resetting) :
    exec (.doorbellTailWrite t n q v) s = .next ((s.at t).tailWrite n.val q.val v.toNat) := by
  show Host.Outcome.next (State.pageWrite (s.at t) n.val (0x40 * q.val + 0xC) v) = _
  rw [pageWrite_queue (s.at t) n.val q.val 0xC v hs q.isLt (by decide)]
  simp [State.queueWrite]

theorem doorbellTailWrite_within (t : Nat) (n : Fin 32) (q : Fin 4) (v : BitVec 32) (s : State) (hs : (s.inst n.val).state ≠ .resetting)
    (h : unread v.toNat (s.queue n.val q.val).head ≤ 2 ^ (s.queue n.val q.val).size) :
    gives (.doorbellTailWrite t n q v) s (fun w => (w.queue n.val q.val).tail = v.toNat ∧
      (w.queue n.val q.val).err = (s.queue n.val q.val).err) := by
  refine gives_of_next (doorbellTailWrite_tail t n q v s hs) ?_
  have hfits : ¬ 2 ^ ((s.at t).queue n.val q.val).size < unread v.toNat ((s.at t).queue n.val q.val).head := Nat.not_lt.mpr h
  unfold State.tailWrite
  dsimp only
  rw [if_neg hfits, State.queue_setQueue_self]
  exact ⟨rfl, rfl⟩

theorem doorbellTailWrite_beyond (t : Nat) (n : Fin 32) (q : Fin 4) (v : BitVec 32) (s : State) (hs : (s.inst n.val).state ≠ .resetting)
    (h : 2 ^ (s.queue n.val q.val).size < unread v.toNat (s.queue n.val q.val).head) :
    gives (.doorbellTailWrite t n q v) s (fun w => (w.queue n.val q.val).err = true ∧ (w.queue n.val q.val).errCode = 1 ∧
      raises .instQueueErr n.val [q.val, 1] s w) := by
  refine gives_of_next (doorbellTailWrite_tail t n q v s hs) ?_
  have hbeyond : 2 ^ ((s.at t).queue n.val q.val).size < unread v.toNat ((s.at t).queue n.val q.val).head := h
  unfold State.tailWrite
  dsimp only
  rw [if_pos hbeyond, State.emit_queue, State.queue_setQueue_self]
  exact ⟨rfl, rfl, raises_emit_self _ _ _ _ _ rfl⟩

theorem vectorHoldExpire_event (t : Nat) (n : Fin 32) (s : State) (r : Event) (he : (s.inst n.val).evq.en = true)
    (hs : (s.inst n.val).evq.signalled = false) (hr : (s.inst n.val).evq.records.head? = some r)
    (hd : r.time + (s.inst n.val).evq.holdUs * 16000 ≤ (s.at t).now) :
    gives (.vectorHoldExpire t n true) s (fun w => (w.inst n.val).evq.signalled = true) := by
  have hinst : (s.at t).inst n.val = s.inst n.val := rfl
  show ∃ w, execVectorHoldExpire t n true s = .next w ∧ _
  simp only [execVectorHoldExpire, hinst, if_true]
  refine ⟨_, if_pos ?_, ?_⟩
  · simp [he, hs, hr, hd]
  · rw [(State.signalVec_rings _ _ _).1]
    simp

theorem vectorHoldExpire_completion (t : Nat) (n : Fin 32) (s : State) (r : Completion) (he : (s.inst n.val).cq.en = true)
    (hs : (s.inst n.val).cq.signalled = false) (hr : (s.inst n.val).cq.records.head? = some r)
    (hd : r.time + (s.inst n.val).evq.holdUs * 16000 ≤ (s.at t).now) :
    gives (.vectorHoldExpire t n false) s (fun w => (w.inst n.val).cq.signalled = true) := by
  have hinst : (s.at t).inst n.val = s.inst n.val := rfl
  show ∃ w, execVectorHoldExpire t n false s = .next w ∧ _
  simp only [execVectorHoldExpire, hinst, Bool.false_eq_true, if_false]
  refine ⟨_, if_pos ?_, ?_⟩
  · simp [he, hs, hr, hd]
  · rw [(State.signalVec_rings _ _ _).2]
    simp

theorem ringFieldWrite_mask (s : State) (n : Nat) (hi : Bool) (v : BitVec 32) :
    s.ringFieldWrite n (if hi then 0x30C else 0x308) v = s.vecMaskWrite n hi v := by
  cases hi with
  | false => rfl
  | true => rfl

/-- Settles O40: an instance that is not resetting takes the write through its page map. -/
theorem instancePageWritesTakeEffect : Obligations.InstancePageWritesTakeEffect := by
  intro t n s hs
  have hs' : ((s.at t).inst n.val).state ≠ .resetting := hs
  refine ⟨fun q v h => doorbellTailWrite_within t n q v s hs h, fun q v h => doorbellTailWrite_beyond t n q v s hs h,
    fun q v o ho hv => gives_of_next (w := (s.at t).pageWrite n.val o.val v) rfl ?_, fun v => gives_of_next rfl ?_, fun v => gives_of_next rfl ?_,
    fun r he hg hr hd => vectorHoldExpire_event t n s r he hg hr hd, fun r he hg hr hd => vectorHoldExpire_completion t n s r he hg hr hd,
    fun v => ⟨gives_of_next rfl ?_, gives_of_next rfl ?_⟩, fun v x => gives_of_next rfl ?_, fun v x => gives_of_next rfl ?_⟩
  · rw [ho, pageWrite_queue (s.at t) n.val q.val 0x14 v hs' q.isLt (by decide)]
    simp only [State.queueWrite, hv, if_true]
    simp [State.queue_setQueue_self]
  · exact pageWrite_ring _ _ _ _ hs' (by decide)
  · exact pageWrite_ring _ _ _ _ hs' (by decide)
  · exact (pageWrite_ring _ _ _ _ hs' (by decide)).trans (ringFieldWrite_mask (s.at t) n.val false v)
  · exact (pageWrite_ring _ _ _ _ hs' (by decide)).trans (ringFieldWrite_mask (s.at t) n.val true v)
  · have hreg : 0x500000 + 0x1000 * n.val + (0x40C + 0x10 * v.val) = Reg.instMsgCtrl n.val v.val := by
      unfold Reg.instMsgCtrl
      omega
    show (State.setReg (s.at t) (0x500000 + 0x1000 * n.val + (0x40C + 0x10 * v.val)) _).reg (Reg.instMsgCtrl n.val v.val) = _
    rw [hreg]
    exact State.setReg_self _ _ _
  · exact Tab.get_set_self _ _ _ _

end Sys2Proof.Machine
end

section
/-! Work orders are read, started and completed (R325, R326, R329). -/

namespace Sys2Proof.Machine

open Sys2Proof.Safety

/-! ## Completion -/

/-- Signalling a vector changes its instance's held vectors alone. -/
theorem State.signalVec_works (s : State) (n v k : Nat) : ((s.signalVec n v).inst k).works = (s.inst k).works :=
  (congrArg (fun r : Rest => (r.inst k).works) (s.signalVec_rest n v) :)

theorem State.signalVec_sent (s : State) (n v : Nat) : s.sent <+: (s.signalVec n v).sent := by
  unfold State.signalVec
  dsimp only
  split
  · exact List.prefix_rfl
  · split
    · exact List.prefix_rfl
    · exact List.prefix_append _ _

theorem State.cqSignal_work (s : State) (n id : Nat) : (s.cqSignal n).work n id = s.work n id := by
  unfold State.cqSignal State.work
  dsimp only
  split
  · rw [State.signalVec_works]
    simp
  · rfl

theorem State.cqSignal_sent (s : State) (n : Nat) : s.sent <+: (s.cqSignal n).sent := by
  unfold State.cqSignal
  dsimp only
  split
  · exact State.signalVec_sent (s.setInst n _) n _
  · exact List.prefix_rfl

theorem find?_filter_id (l : List Work) (id : Nat) : (l.filter (fun x => x.id != id)).find? (fun w => w.id == id) = none := by
  rw [List.find?_eq_none]
  intro x hx
  have h := (List.mem_filter.mp hx).2
  simpa using h

/-- An order that is complete leaves its instance, and its completion record is written (R326). -/
theorem complete_writes (s : State) (n id status reason result : Nat) (w : Work) (hw : s.work n id = some w) (hi : w.order.irq = false)
    (hs : status ≠ 1) : (s.complete n id status reason result).work n id = none ∧
      .completion n (ringPlace (s.inst n).cq.base (s.inst n).cq.size 16 (s.inst n).cq.tail) (Completion.bytes
        { tag := w.order.tag, queue := w.queue, status := status, reason := 0, result := result % 65536, time := s.now }) ∈
        (s.complete n id status reason result).sent := by
  unfold State.complete
  simp only [hw, hi, if_neg hs, Bool.false_and, Bool.false_eq_true, if_false]
  refine ⟨?_, (State.cqSignal_sent _ _).subset (List.mem_append_right _ (List.mem_singleton.mpr rfl))⟩
  rw [State.cqSignal_work]
  simp only [State.work, State.send_inst, State.setInst_self]
  exact find?_filter_id _ _

/-! ## Reading and starting -/

theorem takeOrder_nop (s : State) (n q : Nat) (o : WorkOrder) (ho : o.op = .nop) :
    ((s.takeOrder n q o).inst n).works = (s.inst n).works ++ [{ id := (s.inst n).nextWork, queue := q, order := o, acceptedAt := s.now }] ∧
    ((s.takeOrder n q o).queue n q).head = ((s.queue n q).head + 1) % 2 ^ 32 := by
  have hwhy : s.orderWhy n .nop = [] := rfl
  unfold State.takeOrder
  simp only [ho, hwhy, ne_eq, not_true_eq_false, if_false]
  simp [State.queue, Tab.get_set_self]

theorem workOrderRead_unreadable (t : Nat) (n : Fin 32) (q : Fin 4) (o : OrderData) (s : State) (h : s.canRead n.val q.val = true) :
    gives (.workOrderRead t n q ⟨none, o⟩) s (fun w => (w.queue n.val q.val).err = true ∧ (w.queue n.val q.val).errCode = 2 ∧
      raises .instQueueErr n.val [q.val, 2] s w) := by
  have h' : (s.at t).canRead n.val q.val = true := h
  refine gives_of_next (if_pos h') ?_
  rw [State.emit_queue, State.queue_setQueue_self]
  exact ⟨rfl, rfl, raises_emit_self _ _ _ _ _ rfl⟩

/-- Settles O41: an order that is waiting names the branch of its command by its operation. -/
theorem workOrdersRun : Obligations.WorkOrdersRun := by
  intro t n s
  refine ⟨fun q b o h => ⟨gives_of_next (if_pos (by exact h)) rfl, workOrderRead_unreadable t n q o s h⟩,
    fun q o ho => takeOrder_nop s n.val q.val o ho,
    fun id w hw => ⟨fun ho => ?_, fun c ho => ?_, fun h r d a len ho => ?_, fun k h x y rw rh a p ho => ?_⟩,
    fun id w hw hst k h x y rw rh a p ho => ?_, fun w k rw rh ho hb => ?_,
    fun id status reason result w c hw hi hs hc => hc ▸ complete_writes s n.val id status reason result w hw hi hs⟩
  · show ∃ x, execNop t n id s = .next x ∧ _
    simp only [execNop, hw, ho]
    exact ⟨_, rfl, rfl⟩
  · show ∃ x, execBadOp t n id s = .next x ∧ _
    simp only [execBadOp, hw, ho]
    exact ⟨_, rfl, rfl⟩
  · show ∃ x, execCopy t n id s = .next x ∧ _
    simp only [execCopy, hw, ho]
    exact ⟨_, rfl, rfl⟩
  · show ∃ z, execSurfCommit t n id s = .next z ∧ _
    simp only [execSurfCommit, hw, ho]
    exact ⟨_, rfl, rfl⟩
  · have hw' : (s.at t).work n.val id = some w := hw
    show ∃ z, execSurfCommitBufferAcquire t n id s = .next z ∧ _
    simp only [execSurfCommitBufferAcquire, hw', ho, hst]
    exact ⟨_, rfl, rfl⟩
  · unfold State.tryCommit
    simp [ho, hb]

end Sys2Proof.Machine
end

section
/-! Transfers move block by block; the host's answers and invalidations are taken (R330 to R334). -/

namespace Sys2Proof.Machine

open Sys2Proof.Safety

/-- A transfer that runs is not chosen again. -/
theorem State.runDma_busy (s : State) (h : s.dma.isSome = true) : s.runDma = s := if_pos h

theorem State.at_pagesOk (s : State) (t n : Nat) (w : Work) : (s.at t).pagesOk n w = s.pagesOk n w := rfl

theorem State.at_work (s : State) (t n id : Nat) : (s.at t).work n id = s.work n id := rfl

section
variable (t : Nat) (s : State) (n id : Nat) (w : Work) (stalls : List (Nat × Nat)) (rd wr : Nat)
  (hd : s.dma = some (n, id)) (hw : s.work n id = some w)
include hd hw

theorem dmaBlockComplete_data (h : Bool) (r : Option Nat) (d : BitVec 64) (a : BitVec 64) (len : Nat) (pages : List (BitVec 64)) (bytes : List Byte)
    (ho : w.order.op = .copy h r d a len) : exec (.dmaBlockComplete t (.data pages bytes) stalls rd wr) s =
      .next (((s.at t).blockSlots stalls rd wr true).copyData n w h r d.toNat a pages bytes) := by
  have hrun : (s.at t).runDma = s.at t := State.runDma_busy _ (by rw [State.at_dma, hd]; rfl)
  show execDmaBlockComplete t (.data pages bytes) stalls rd wr s = _
  simp only [execDmaBlockComplete, hrun, State.at_dma, hd, State.at_work, hw, ho]

theorem dmaBlockComplete_noTranslation (page : BitVec 64) : exec (.dmaBlockComplete t (.noTranslation page) stalls rd wr) s =
    .next ((((s.at t).blockSlots stalls rd wr false).sendGroup n { w with waitPri := true, priPage := page }).stopTransfer n
      { w with waitPri := true, priPage := page }) := by
  have hrun : (s.at t).runDma = s.at t := State.runDma_busy _ (by rw [State.at_dma, hd]; rfl)
  show execDmaBlockComplete t (.noTranslation page) stalls rd wr s = _
  simp only [execDmaBlockComplete, hrun, State.at_dma, hd, State.at_work, hw]

theorem dmaBlockComplete_deviceFault (va : BitVec 36) (hp : s.pagesOk n w = false) :
    exec (.dmaBlockComplete t (.deviceFault va) stalls rd wr) s = .next ((((s.at t).blockSlots stalls rd wr false).instFaultAt n va.toNat 0
      (writesDevice w.order.op)).stopTransfer n { w with waitPage := true }) := by
  have hrun : (s.at t).runDma = s.at t := State.runDma_busy _ (by rw [State.at_dma, hd]; rfl)
  show execDmaBlockComplete t (.deviceFault va) stalls rd wr s = _
  simp only [execDmaBlockComplete, hrun, State.at_dma, hd, State.at_work, hw, State.at_pagesOk, hp, Bool.false_eq_true, if_false]

end

theorem priTimeout_due (t : Nat) (n : Fin 32) (g : Nat) (x : PageGroup) (s : State)
    (hx : (s.inst n.val).groups.find? (fun y => y.id == g) = some x) (hd : x.sentAt + 10000000 ≤ (s.at t).now) :
    gives (.priTimeout t n g) s (fun w => ∃ u : State, w = u.groupEnds n.val x false ∧
      u.reg (Reg.instPriTimeouts n.val) = satAdd32 (s.reg (Reg.instPriTimeouts n.val)) 1 ∧
      raises .instPriTimeout n.val [(s.inst n.val).grants.pasid.toNat, x.page.toNat] s u) := by
  have hinst : (s.at t).inst n.val = s.inst n.val := rfl
  show ∃ w, execPriTimeout t n g s = .next w ∧ _
  simp only [execPriTimeout, hinst, hx]
  refine ⟨_, if_pos hd, _, rfl, ?_, raises_emit_self _ _ _ _ _ rfl⟩
  rw [State.emit_reg]
  exact State.count_self _ _ _

theorem atsInvalidateRx_range (t : Nat) (n : Fin 32) (page : BitVec 64) (len : Nat) (s : State) :
    gives (.atsInvalidateRx t n page len) s (fun w => w.sent = s.sent ++ [.atsComplete n.val] ∧
      (∀ q ∈ w.atc, q.1 = (s.inst n.val).grants.pasid → q.2.toNat < page.toNat ∨ page.toNat + len ≤ q.2.toNat) ∧
      (∀ q ∈ s.atc, q.1 ≠ (s.inst n.val).grants.pasid → q ∈ w.atc)) := by
  refine gives_of_next rfl ⟨rfl, fun q hq hp => ?_, fun q hq hp => List.mem_filter.mpr ⟨hq, ?_⟩⟩
  · have h := (List.mem_filter.mp hq).2
    simpa [show q.1 = ((s.at t).inst n.val).grants.pasid from hp] using h
  · have hne : (q.1 != ((s.at t).inst n.val).grants.pasid) = true := bne_iff_ne.mpr hp
    rw [hne]
    rfl

/-- Settles O43: the transfer under way names its order, and a page group is found by its number. -/
theorem transfersAdvance : Obligations.TransfersAdvance := by
  intro t s
  refine ⟨fun n id w stalls rd wr hd hw => ⟨fun h r d a len pages bytes ho =>
      gives_of_next (dmaBlockComplete_data t s n id w stalls rd wr hd hw h r d a len pages bytes ho) rfl,
      fun page => gives_of_next (dmaBlockComplete_noTranslation t s n id w stalls rd wr hd hw page) rfl,
      fun va hp => gives_of_next (dmaBlockComplete_deviceFault t s n id w stalls rd wr hd hw va hp) rfl⟩,
    fun n g ok x hx => ?_, fun n g x hx hd => priTimeout_due t n g x s hx hd, fun n page len => atsInvalidateRx_range t n page len s⟩
  have hinst : (s.at t).inst n.val = s.inst n.val := rfl
  show ∃ w, execPriResponseRx t n g ok s = .next w ∧ _
  simp only [execPriResponseRx, hinst, hx]
  exact ⟨_, rfl, rfl⟩

end Sys2Proof.Machine
end

section
/-! A write of a dictionary entry (R372, R374, R383): a whole value that fits is judged in the session it opens. -/

namespace Sys2Proof.Machine

open Sys2Proof.Safety

/-! ## Sessions -/

theorem Tab.erase_erase {α : Type} (t : Tab α) (k : Nat) : Tab.erase (Tab.erase t k) k = Tab.erase t k := by
  induction t with
  | nil => rfl
  | cons p t ih =>
    obtain ⟨j, w⟩ := p
    by_cases h : j = k <;> simp [Tab.erase, h, ih]

theorem Tab.set_default_erase {α : Type} [DecidableEq α] (d : α) (t : Tab α) (k : Nat) : Tab.set d (Tab.erase t k) k d = Tab.erase t k := by
  induction t with
  | nil => simp [Tab.erase, Tab.set]
  | cons p t ih =>
    obtain ⟨j, w⟩ := p
    by_cases h : j = k
    · simp [Tab.erase, h, ih]
    · simp [Tab.erase, Tab.set, h, ih, Tab.erase_erase]

/-- The second of two writes of one key stands, where it writes the default if the first did. -/
theorem Tab.set_set {α : Type} [DecidableEq α] (d : α) (t : Tab α) (k : Nat) (a b : α) (h : a = d → b = d) :
    Tab.set d (Tab.set d t k a) k b = Tab.set d t k b := by
  induction t with
  | nil =>
    by_cases ha : a = d
    · simp [Tab.set, ha]
    · simp [Tab.set, Tab.erase, ha]
  | cons p t ih =>
    obtain ⟨j, w⟩ := p
    rcases Nat.lt_trichotomy k j with hlt | rfl | hgt
    · by_cases ha : a = d
      · have hb := h ha
        simp only [Tab.set, hlt, if_true, ha, hb, Tab.set_default_erase]
      · simp only [Tab.set, hlt, if_true, ha, if_false, Nat.lt_irrefl]
    · by_cases ha : a = d
      · have hb := h ha
        simp only [Tab.set, Nat.lt_irrefl, if_true, if_false, ha, hb, Tab.set_default_erase]
      · simp only [Tab.set, Nat.lt_irrefl, if_true, if_false, ha]
    · have hj : j ≠ k := by omega
      simp only [Tab.set, Nat.not_lt.mpr (Nat.le_of_lt hgt), hj, if_false, ih]

theorem State.setSession_twice (s : State) (k : Nat) (x y : Session) (h : x = {} → y = {}) :
    (s.setSession k x).setSession k y = s.setSession k y := by
  unfold State.setSession
  dsimp only
  rw [Tab.set_set _ _ _ _ _ h]

theorem State.session_setSession_self (s : State) (k : Nat) (x : Session) : (s.setSession k x).session k = x := Tab.get_set_self _ _ _ _

/-! ## A whole value -/

/-- A value that fits is whole: it is as long as its entry says, or of a free length within it. -/
theorem valueFits_whole (idx sub : Nat) (e : Entry) (v : List (BitVec 8)) (hv : valueFits idx sub e v = true) :
    v.length ≤ e.bytes ∧ ((e.domain && !(valueFits idx sub e (v.take 1))) = true → v.length = e.bytes) := by
  unfold valueFits at hv ⊢
  extract_lets free at hv ⊢
  by_cases hf : free = true
  · rw [if_pos hf] at hv ⊢
    simp only [Bool.and_eq_true, decide_eq_true_eq, bne_iff_ne] at hv
    obtain ⟨hle, hne⟩ := hv
    refine ⟨hle, fun h => absurd h ?_⟩
    cases v with
    | nil => exact absurd rfl hne
    | cons b v =>
      have hpos : 1 ≤ e.bytes := Nat.le_trans (Nat.succ_le_succ (Nat.zero_le _)) hle
      simp [hpos]
  · rw [if_neg hf] at hv
    have hlen := beq_iff_eq.mp hv
    exact ⟨Nat.le_of_eq hlen, fun _ => hlen⟩

theorem dictWrite_whole (s : State) (p : DictPort) (idx sub : Nat) (e : Entry) (v : List (BitVec 8)) (he : entryOf idx sub = some e)
    (ha : writeAbort p idx sub = 0) (h2030 : idx ≠ 0x2030) (h2060 : idx ≠ 0x2060) (hv : valueFits idx sub e v = true) :
    s.dictWrite p idx sub 0 true v = (opened s p).dictSet p idx sub e v := by
  obtain ⟨hle, hfix⟩ := valueFits_whole idx sub e v hv
  have hlen : declaredLen idx e v = some e.bytes := if_neg h2060
  have hopen : (s.setSession (DictPort.session p) { s.session (DictPort.session p) with lastWrite := s.now }).setSession (DictPort.session p)
      { s.session (DictPort.session p) with domain := none, lastWrite := s.now } = opened s p := by
    refine State.setSession_twice _ _ _ _ fun h => ?_
    rw [Session.mk.injEq] at h ⊢
    obtain ⟨h1, h2, h3, h4, h5, -⟩ := h
    exact ⟨h1, h2, h3, h4, h5, rfl⟩
  have hexcess : decide (e.bytes < v.length) = false := decide_eq_false (Nat.not_lt.mpr hle)
  have hwhole : ∀ can : Bool, (if can = true ∨ ¬ (e.domain && !(valueFits idx sub e (v.take 1))) = true then true
      else some e.bytes == some v.length) = true := by
    intro can
    split
    · rfl
    · next h =>
      rw [hfix (by simpa using (not_or.mp h).2)]
      exact beq_self_eq_true _
  unfold State.dictWrite
  simp only [he, ha, ne_eq, not_true_eq_false, if_false, h2030, false_and, if_true, List.nil_append, hlen, hexcess, Bool.false_eq_true,
    State.session_setSession_self, hopen]
  rw [if_pos (hwhole _), if_neg (fun c => h2060 c.1)]

/-- What a whole value that fits comes to: an entry with an ACTION, a value staged, the safety partition, or a plain entry. -/
theorem dictSet_fits (s : State) (p : DictPort) (idx sub : Nat) (e : Entry) (v : List (BitVec 8)) (h2060 : idx ≠ 0x2060)
    (hv : valueFits idx sub e v = true) (hl : e.domain = true ∨ leNat v < e.limit) (ho : s.oboReason p idx = none) :
    s.dictSet p idx sub e v =
      if (objKind idx).isSome ∨ idx = 0x5100 then
        if sub = actionSub idx then
          match actionChanges (s.session (DictPort.session p)) (DictPort.obo p) idx (leNat v) with
          | some cs => s.dictRequest p idx sub cs
          | none => (s, some (0x06090030, 0))
        else if idx = 0x5100 ∧ sub = 2 ∧ (Tab.get none (s.session (DictPort.session p)).wins (s.session (DictPort.session p)).winIndex).isNone ∧
            1024 ≤ (stagedWins (s.session (DictPort.session p))).length then (s, some (0x08000022, 0))
        else (s.setSession (DictPort.session p) { Session.stage (s.session (DictPort.session p)) idx sub v with lastWrite := s.now }, some (0, 0))
      else if 0x6000 ≤ idx ∧ idx < 0x7000 then s.safeWrite p idx sub v
      else s.plainWrite p idx sub v := by
  have hlimit : (!e.domain && decide (e.limit ≤ leNat v)) = false := by
    rcases hl with hd | hlt
    · rw [hd]; rfl
    · rw [decide_eq_false (Nat.not_le.mpr hlt), Bool.and_false]
  unfold State.dictSet
  simp only [hv, hlimit, ho, Bool.not_true, Bool.false_eq_true, if_false, Option.isSome_none, h2060] <;> rfl

/-- The answer to a write, where it is judged at once. -/
def State.answered (r : State × Option (Nat × Nat)) (p : DictPort) (idx sub : Nat) : State :=
  match r.2 with
  | some (a, w) => r.1.dictAnswer p idx sub a w []
  | none => r.1

/-- A port that may write the entry a value that fits writes it in the session it opens. -/
theorem portWrite_writable (s : State) (t : Nat) (p : DictPort) (idx sub : Nat) (v : List (BitVec 8)) (h : writable s p idx sub v) :
    ∃ e, valueFits idx sub e v = true ∧ (e.domain = true ∨ leNat v < e.limit) ∧
      (s.at t).portWrite p idx sub v = State.answered ((opened (s.at t) p).dictSet p idx sub e v) p idx sub := by
  obtain ⟨hup, ha, h2030, h2060, ho, e, he, hv, hl⟩ := h
  have hup' : (s.at t).portUp p = true := hup
  refine ⟨e, hv, hl, ?_⟩
  unfold State.portWrite State.dictWriteAnswer
  rw [if_pos hup', dictWrite_whole (s.at t) p idx sub e v he ha h2030 h2060 hv]
  rfl

theorem opened_oboReason (s : State) (t : Nat) (p : DictPort) (idx : Nat) : (opened (s.at t) p).oboReason p idx = s.oboReason p idx := rfl

/-- A write to a plain entry. -/
theorem portWrite_plain (s : State) (t : Nat) (p : DictPort) (idx sub : Nat) (v : List (BitVec 8)) (h : writable s p idx sub v)
    (hk : objKind idx = none) (h5100 : idx ≠ 0x5100) (h6000 : ¬ (0x6000 ≤ idx ∧ idx < 0x7000)) :
    (s.at t).portWrite p idx sub v = State.answered ((opened (s.at t) p).plainWrite p idx sub v) p idx sub := by
  obtain ⟨e, hv, hl, hw⟩ := portWrite_writable s t p idx sub v h
  obtain ⟨-, -, -, h2060, ho, -⟩ := h
  have hkind : ¬ ((objKind idx).isSome = true ∨ idx = 0x5100) := by
    rw [hk]
    rintro (c | c)
    · exact absurd c (by decide)
    · exact h5100 c
  rw [hw, dictSet_fits (opened (s.at t) p) p idx sub e v h2060 hv hl ho, if_neg hkind, if_neg h6000]

theorem portWrite_safety (s : State) (t : Nat) (p : DictPort) (idx sub : Nat) (v : List (BitVec 8)) (h : writable s p idx sub v)
    (hk : objKind idx = none) (h5100 : idx ≠ 0x5100) (h6000 : 0x6000 ≤ idx ∧ idx < 0x7000) :
    (s.at t).portWrite p idx sub v = State.answered ((opened (s.at t) p).safeWrite p idx sub v) p idx sub := by
  obtain ⟨e, hv, hl, hw⟩ := portWrite_writable s t p idx sub v h
  obtain ⟨-, -, -, h2060, ho, -⟩ := h
  have hkind : ¬ ((objKind idx).isSome = true ∨ idx = 0x5100) := by
    rw [hk]
    rintro (c | c)
    · exact absurd c (by decide)
    · exact h5100 c
  rw [hw, dictSet_fits (opened (s.at t) p) p idx sub e v h2060 hv hl ho, if_neg hkind, if_pos h6000]

/-- An ACTION write places the changes it names. -/
theorem portWrite_action (s : State) (t : Nat) (p : DictPort) (idx : Nat) (v : List (BitVec 8)) (cs : List Change)
    (h : writable s p idx (actionSub idx) v) (hk : (objKind idx).isSome ∨ idx = 0x5100)
    (hc : actionChanges ((opened (s.at t) p).session (DictPort.session p)) (DictPort.obo p) idx (leNat v) = some cs) :
    (s.at t).portWrite p idx (actionSub idx) v = (opened (s.at t) p).place (portRequest (opened (s.at t) p) p idx (actionSub idx) cs) := by
  obtain ⟨e, hv, hl, hw⟩ := portWrite_writable s t p idx (actionSub idx) v h
  obtain ⟨-, -, h2030, h2060, ho, -⟩ := h
  rw [hw, dictSet_fits (opened (s.at t) p) p idx (actionSub idx) e v h2060 hv hl ho, if_pos hk, if_pos rfl, hc]
  unfold State.dictRequest
  simp only [if_neg h2030]
  rfl

/-! ## Answers -/

/-- An answer without bytes and without a refusal changes the sessions, the settings store and what is being stored of no port. -/
theorem State.dictAnswer_keeps (s : State) (p : DictPort) (idx sub : Nat) : (s.dictAnswer p idx sub 0 0 []).store = s.store ∧
    (s.dictAnswer p idx sub 0 0 []).dict.storing = s.dict.storing ∧ (s.dictAnswer p idx sub 0 0 []).dict.sessions = s.dict.sessions := by
  unfold State.dictAnswer
  cases p with
  | can n => exact ⟨rfl, rfl, rfl⟩
  | udp k tid => exact ⟨rfl, rfl, rfl⟩
  | mailbox o => exact ⟨rfl, rfl, rfl⟩
  | rom a tid => exact ⟨rfl, rfl, rfl⟩

end Sys2Proof.Machine
end

section
/-! The settings store and the sessions (R374, R387). -/

namespace Sys2Proof.Machine

open Sys2Proof.Safety

theorem storeAll_begins (t : Nat) (p : DictPort) (s : State) (h : writable s p 0x1010 1 (leBytes 4 0x65766173)) (hs : s.dict.storing = none) :
    gives (.storeAll t p 0x65766173) s (fun w => w.dict.storing.isSome = true ∧ (w.store.a = .corrupt ∨ w.store.b = .corrupt)) := by
  refine gives_of_next (w := (s.at t).portWrite p 0x1010 1 (leBytes 4 0x65766173)) rfl ?_
  have hplain : (opened (s.at t) p).plainWrite p 0x1010 1 (leBytes 4 0x65766173) = ((opened (s.at t) p).beginStore, some (0, 0)) := by
    have hnone : (opened (s.at t) p).dict.storing.isSome = false := by
      show s.dict.storing.isSome = false
      rw [hs]; rfl
    unfold State.plainWrite
    simp only [if_true, hnone, Bool.false_eq_true, if_false]
    exact if_neg (by decide)
  rw [portWrite_plain s t p 0x1010 1 _ h rfl (by decide) (by decide), hplain]
  obtain ⟨hstore, hstoring, -⟩ := (opened (s.at t) p).beginStore.dictAnswer_keeps p 0x1010 1
  show (State.dictAnswer _ p 0x1010 1 0 0 []).dict.storing.isSome = true ∧ _
  unfold State.answered
  dsimp only
  rw [hstore, hstoring]
  unfold State.beginStore State.setArea
  dsimp only
  split
  · exact ⟨rfl, .inr rfl⟩
  · exact ⟨rfl, .inl rfl⟩

theorem restoreDefaults_marks (t : Nat) (p : DictPort) (s : State) (h : writable s p 0x1011 1 (leBytes 4 0x64616F6C)) :
    gives (.restoreDefaults t p 0x64616F6C) s (fun w => w.store.restore = true) := by
  refine gives_of_next (w := (s.at t).portWrite p 0x1011 1 (leBytes 4 0x64616F6C)) rfl ?_
  have hplain : (opened (s.at t) p).plainWrite p 0x1011 1 (leBytes 4 0x64616F6C) =
      ({ opened (s.at t) p with store := { (opened (s.at t) p).store with restore := true } }, some (0, 0)) := by
    unfold State.plainWrite
    exact if_neg (by decide)
  rw [portWrite_plain s t p 0x1011 1 _ h rfl (by decide) (by decide), hplain]
  unfold State.answered
  dsimp only
  rw [(State.dictAnswer_keeps _ p 0x1011 1).1]

theorem storeComplete_area (t : Nat) (s : State) (b : Bool) (x : StoreArea) (hs : s.dict.storing = some (b, x)) :
    gives (.storeComplete t) s (fun w => (if b then w.store.b = x ∧ w.store.a = s.store.a else w.store.a = x ∧ w.store.b = s.store.b) ∧
      w.dict.storing = none ∧ w.store.stores = s.store.stores + 1) := by
  have hs' : (s.at t).dict.storing = some (b, x) := hs
  show ∃ w, execStoreComplete t s = .next w ∧ _
  simp only [execStoreComplete, hs']
  cases b with
  | false => exact ⟨_, rfl, ⟨rfl, rfl⟩, rfl, rfl⟩
  | true => exact ⟨_, rfl, ⟨rfl, rfl⟩, rfl, rfl⟩

/-- The settings are loaded once, in CONFIGURE. -/
theorem settingsLoad_branch (t : Nat) (s : State) (hp : s.mode.phase = .up) (hm : s.mode.mode = .configure) (hl : s.dict.loaded = false) :
    ¬ ((s.at t).mode.phase ≠ .up ∨ (s.at t).mode.mode ≠ .configure ∨ (s.at t).dict.loaded = true) := by
  rintro (h | h | h)
  · exact h hp
  · exact h hm
  · rw [show (s.at t).dict.loaded = false from hl] at h
    exact absurd h (by decide)

theorem settingsLoad_erased (t : Nat) (s : State) (hp : s.mode.phase = .up) (hm : s.mode.mode = .configure) (hl : s.dict.loaded = false)
    (hr : s.store.restore = false) (ha : s.store.a = .erased) (hb : s.store.b = .erased) :
    exec (.settingsLoad t) s = .next (((State.runQueue ((s.at t).settingsLoaded 5).autorun).autostart 0).autostart 1) := by
  have hcopy : (s.at t).newerCopy = none := by
    unfold State.newerCopy
    rw [show (s.at t).store = s.store from rfl, ha, hb]
  refine (if_neg (settingsLoad_branch t s hp hm hl)).trans ?_
  rw [if_neg (by exact ne_true_of_eq_false hr), hcopy]
  have hboth : (s.at t).store.a = .erased ∧ (s.at t).store.b = .erased := ⟨ha, hb⟩
  simp only [if_pos hboth]

theorem settingsLoad_copy (t : Nat) (s : State) (q l : Nat) (o : Tab Obj) (ws : Tab (BitVec 512)) (pl : Tab Nat) (al : Tab (BitVec 128))
    (hp : s.mode.phase = .up) (hm : s.mode.mode = .configure) (hl : s.dict.loaded = false)
    (hr : s.store.restore = false) (hc : s.newerCopy = some (.copy q l o ws pl al)) (hy : l = s.runLayout) :
    exec (.settingsLoad t) s = .next (((State.runQueue ((s.at t).enqueue ((s.at t).storedRequest o ws pl))).autostart 0).autostart 1) := by
  refine (if_neg (settingsLoad_branch t s hp hm hl)).trans ?_
  have hc' : (s.at t).newerCopy = some (.copy q l o ws pl al) := hc
  have hy' : ¬ l ≠ (s.at t).runLayout := fun c => c hy
  rw [if_neg (by exact ne_true_of_eq_false hr), hc']
  exact if_neg hy'

/-- Settles O48: a writable port reaches the plain entries, and the store's own commands name their area. -/
theorem settingsStoreWorks : Obligations.SettingsStoreWorks := by
  intro t s
  refine ⟨fun p h hs => storeAll_begins t p s h hs, fun p h => restoreDefaults_marks t p s h, fun x hx => ?_, fun x hx => ?_,
    fun k hk => gives_of_next (if_pos hk) (State.session_setSession_self _ _ _),
    fun hp hm hl hr ha hb => gives_of_next (settingsLoad_erased t s hp hm hl hr ha hb) rfl,
    fun q l o ws pl al hp hm hl hr hc hy => gives_of_next (settingsLoad_copy t s q l o ws pl al hp hm hl hr hc hy) rfl⟩
  · obtain ⟨w, hw, ⟨h1, h2⟩, h3, h4⟩ := storeComplete_area t s false x hx
    exact ⟨w, hw, h1, h2, h3, h4⟩
  · obtain ⟨w, hw, ⟨h1, h2⟩, h3, h4⟩ := storeComplete_area t s true x hx
    exact ⟨w, hw, h1, h2, h3, h4⟩

end Sys2Proof.Machine
end

section
/-! CAN nodes follow NMT; LSS, UDP and the mailbox reach the dictionary (R377 to R382). -/

namespace Sys2Proof.Machine

open Sys2Proof.Safety

/-! ## CAN nodes -/

theorem State.canNode_setCan_self (s : State) (n : Nat) (c : CanNode) : (s.setCan n c).canNode n = c := Tab.get_set_self _ _ _ _

theorem State.emit_canNode (s : State) (k : EvKind) (i : Nat) (p : List Int) (n : Nat) : (s.emit k i p).canNode n = s.canNode n := by
  unfold State.canNode
  rw [State.emit_dict]

theorem State.at_canNode (s : State) (t n : Nat) : (s.at t).canNode n = s.canNode n := rfl

/-- A read answers the entry's bytes where it may be read. -/
theorem dictRead_can (s : State) (n : Fin 2) (idx sub off len : Nat) (ha : readAbort (.can n) idx sub = 0) :
    (s.dictRead (.can n) idx sub off len).sent = s.sent ++ [.usdo n.val idx sub 0 (bytesAt (s.dictValue (.can n) idx sub) off len)] := by
  unfold State.dictRead
  rw [ha]
  rfl

theorem tpdoTransmit_changed (t : Nat) (n : Fin 2) (k : Fin 3) (s : State) (hn : s.nodeUp n.val = true) (ho : (s.canNode n.val).nmt = 1)
    (hl : Tab.get ([], 0) (s.canNode n.val).tpdo k.val = ([], 0)) (hc : (s.at t).tpdoContent k.val ≠ []) :
    gives (.tpdoTransmit t n k) s (fun w => w.sent = s.sent ++ [.tpdo n.val (k.val + 1) ((s.at t).tpdoContent k.val)] ∧
      Tab.get ([], 0) (w.canNode n.val).tpdo k.val = ((s.at t).tpdoContent k.val, (s.at t).now)) := by
  have hn' : (s.at t).nodeUp n.val = true := hn
  have hbne : (([] : List (BitVec 8)) != (s.at t).tpdoContent k.val) = true := bne_iff_ne.mpr (Ne.symm hc)
  show ∃ w, execTpdoTransmit t n k s = .next w ∧ _
  simp only [execTpdoTransmit, State.at_canNode, hl]
  refine ⟨_, if_pos ⟨hn', ho, by rw [hbne]; rfl, .inl trivial⟩, rfl, ?_⟩
  show Tab.get ([], 0) (State.canNode (State.setCan (s.at t) n.val _) n.val).tpdo k.val = _
  rw [State.canNode_setCan_self, Tab.get_set_self]

theorem leNat_lt (l : List (BitVec 8)) : leNat l < 256 ^ l.length := by
  induction l with
  | nil => exact Nat.one_pos
  | cons b l ih =>
    have hb := b.isLt
    rw [leNat, List.length_cons, Nat.pow_succ]
    omega

/-- A download of a safety field as a whole stages it in the node's session (R384). -/
theorem usdoDownload_glyph (t : Nat) (n : Fin 2) (idx : BitVec 16) (sub : BitVec 8) (data : List (BitVec 8)) (s : State)
    (hu : s.usdoUp n.val = true) (ha : writeAbort (.can n) idx.toNat sub.toNat = 0) (hi : idx.toNat = 0x6000) (hj : sub.toNat = 1)
    (hd : data.length = 2) : gives (.usdoDownload t n idx sub true true data) s (fun w =>
      Tab.get [] (Tab.get [] (w.session n.val).safe 0x6000) 1 = data ∧ .usdo n.val 0x6000 1 0 [] ∈ w.sent) := by
  rw [hi, hj] at ha
  let u := (s.at t).setCan n.val { s.canNode n.val with transfer := none }
  have hfits : valueFits 0x6000 1 (eField 2 65536) data = true := by
    show (data.length == 2) = true
    rw [hd]; rfl
  have hlimit : leNat data < 65536 := by
    have h := leNat_lt data
    rw [hd] at h
    exact h
  have hwrite : u.dictWrite (.can n) 0x6000 1 0 true data = ((opened u (.can n)).setSession n.val
      { (opened u (.can n)).session n.val with
        safe := Tab.set [] ((opened u (.can n)).session n.val).safe 0x6000
          (Tab.set [] (Tab.get [] ((opened u (.can n)).session n.val).safe 0x6000) 1 data), lastWrite := (opened u (.can n)).now }, some (0, 0)) := by
    rw [dictWrite_whole u (.can n) 0x6000 1 (eField 2 65536) data rfl ha (by decide) (by decide) hfits,
      dictSet_fits _ _ _ _ _ _ (by decide) hfits (.inr hlimit) rfl]
    rfl
  have hup : (s.at t).usdoUp n.val = true := hu
  show ∃ w, execUsdoDownload t n idx sub true true data s = .next w ∧ _
  simp only [execUsdoDownload, hup, if_true, hi, hj, State.at_canNode]
  rw [show (s.at t).setCan n.val { s.canNode n.val with transfer := none } = u from rfl, hwrite]
  refine ⟨_, if_neg (fun c => c.2 trivial), ?_, List.mem_append_right _ (List.mem_singleton.mpr rfl)⟩
  show Tab.get [] (Tab.get [] (State.session (State.setSession (opened u (.can n)) n.val _) n.val).safe 0x6000) 1 = data
  rw [State.session_setSession_self, Tab.get_set_self, Tab.get_set_self]

/-- Settles O49: a node that is up takes the command, and its node record and the frames sent are read off. -/
theorem canNodesFollowNmt : Obligations.CanNodesFollowNmt := by
  intro t n s
  refine ⟨fun hn => ⟨gives_of_next (if_pos hn) ?_, gives_of_next (if_pos hn) ?_, gives_of_next (if_pos hn) rfl, gives_of_next (if_pos hn) rfl⟩,
    fun hn hp hh => gives_of_next (if_pos ⟨hn, hp, hh⟩) ⟨rfl, ?_⟩, fun k hn ho hl hc => tpdoTransmit_changed t n k s hn ho hl hc,
    fun hc => gives_of_next (if_pos hc) ⟨?_, raises_emit_self _ _ _ _ _ rfl⟩, fun hu hb => gives_of_next (if_pos ⟨hu, hb⟩) ⟨?_, ?_, raises_emit_self _ _ _ _ _ rfl⟩,
    fun idx sub hu ha => gives_of_next (if_pos hu) (dictRead_can (s.at t) n _ _ _ _ ha),
    fun idx sub data hu ha hi hj hd => usdoDownload_glyph t n idx sub data s hu ha hi hj hd, fun i j a ht hu hd => ?_⟩
  · rw [State.canNode_setCan_self]
  · rw [State.canNode_setCan_self]
  · show (State.canNode (State.setCan (s.at t) n.val _) n.val).heartbeatAt = _
    rw [State.canNode_setCan_self]
  · rw [State.emit_canNode, State.canNode_setCan_self]
  · rw [State.emit_canNode, State.canNode_setCan_self]
  · rw [State.emit_canNode, State.canNode_setCan_self]
  · have hup : (s.at t).up = true := hu
    show ∃ w, execUsdoProtocolTimeout t n s = .next w ∧ _
    simp only [execUsdoProtocolTimeout, State.at_canNode, ht]
    refine ⟨_, if_pos ⟨hup, hd⟩, ?_, rfl⟩
    exact congrArg CanNode.transfer (State.canNode_setCan_self (s.at t) n.val { s.canNode n.val with transfer := none })

end Sys2Proof.Machine
end

section
/-! LSS, UDP and the mailbox (R378, R380 to R382). -/

namespace Sys2Proof.Machine

open Sys2Proof.Safety

/-! ## UDP -/

theorem udpRead_accepted (t : Nat) (m : UdpMsg) (s : State) (p : DictPort) (h : ((s.at t).udpAccept m).2 = some p) :
    exec (.udpRead t m) s = .next (((s.at t).udpAccept m).1.dictRead p m.index.toNat m.sub.toNat m.offset.toNat (min m.len.toNat 1024)) := by
  show execUdpRead t m s = _
  unfold execUdpRead
  dsimp only
  generalize (s.at t).udpAccept m = r at h ⊢
  obtain ⟨u, q⟩ := r
  obtain rfl : q = some p := h
  rfl

theorem udpWrite_accepted (t : Nat) (m : UdpMsg) (s : State) (p : DictPort) (h : ((s.at t).udpAccept m).2 = some p) :
    exec (.udpWrite t m) s = .next (((s.at t).udpAccept m).1.dictWriteAnswer p m.index.toNat m.sub.toNat m.offset.toNat true m.data) := by
  show execUdpWrite t m s = _
  unfold execUdpWrite
  dsimp only
  generalize (s.at t).udpAccept m = r at h ⊢
  obtain ⟨u, q⟩ := r
  obtain rfl : q = some p := h
  rfl

theorem dictRead_udp (s : State) (k : Fin 8) (tid idx sub off len : Nat) (ha : readAbort (.udp k tid) idx sub = 0) :
    (s.dictRead (.udp k tid) idx sub off len).sent =
      s.sent ++ [.udp k.val 0 0 (bytesAt (s.dictValue (.udp k tid) idx sub) off len)] := by
  unfold State.dictRead
  rw [ha]
  rfl

/-- The value of an object's subindex staged in the session that a write opens (R374). -/
def State.staged (s : State) (p : DictPort) (idx sub : Nat) (v : List (BitVec 8)) : State :=
  (opened s p).setSession (DictPort.session p)
    { Session.stage ((opened s p).session (DictPort.session p)) idx sub v with lastWrite := (opened s p).now }

theorem State.staged_value (s : State) (p : DictPort) (idx sub : Nat) (v : List (BitVec 8)) (h : idx ≠ 0x5100) :
    Tab.get [] (Tab.get [] ((s.staged p idx sub v).session (DictPort.session p)).objs idx) sub = v := by
  unfold State.staged Session.stage
  rw [State.session_setSession_self]
  simp only [if_neg h]
  rw [Tab.get_set_self, Tab.get_set_self]

/-- Subindex 1 of context object 0 takes 0 or 1, and stages it in the session of the port. -/
theorem dictWriteAnswer_ctxEnable (s : State) (p : DictPort) (v : List (BitVec 8)) (hw : writeAbort p 0x4100 1 = 0) (ho : s.oboReason p 0x4100 = none)
    (hv : v = [0] ∨ v = [1]) : s.dictWriteAnswer p 0x4100 1 0 true v = (s.staged p 0x4100 1 v).dictAnswer p 0x4100 1 0 0 [] := by
  have hfits : ∃ e, entryOf 0x4100 1 = some e ∧ valueFits 0x4100 1 e v = true ∧ (e.domain = true ∨ leNat v < e.limit) := by
    refine ⟨_, rfl, ?_⟩
    rcases hv with rfl | rfl
    · exact ⟨by decide, by decide⟩
    · exact ⟨by decide, by decide⟩
  obtain ⟨e, he, hf, hl⟩ := hfits
  unfold State.dictWriteAnswer
  rw [dictWrite_whole s p 0x4100 1 e v he hw (by decide) (by decide) hf,
    dictSet_fits (opened s p) p 0x4100 1 e v (by decide) hf hl ho, if_pos (.inl rfl), if_neg (by decide), if_neg (fun c => absurd c.1 (by decide))]
  rfl

theorem udpWrite_ctxEnable (u : State) (k : Fin 8) (tid : Nat) (v : List (BitVec 8)) (hv : v = [0] ∨ v = [1]) :
    Tab.get [] (Tab.get [] ((u.dictWriteAnswer (.udp k tid) 0x4100 1 0 true v).session (2 + k.val)).objs 0x4100) 1 = v ∧
      (u.dictWriteAnswer (.udp k tid) 0x4100 1 0 true v).sent = u.sent ++ [.udp k.val 0 0 []] := by
  rw [dictWriteAnswer_ctxEnable u (.udp k tid) v rfl rfl hv]
  exact ⟨State.staged_value u (.udp k tid) 0x4100 1 v (by decide), rfl⟩

/-! ## The mailbox -/

theorem mailboxTake_idle (s : State) (f : Nat → Nat → Nat → Nat → State → State) (hu : s.up = true) (hb : s.dict.mbxBusy = false) :
    s.mailboxTake f = f (bits (s.reg Reg.mbxAddr) 15 0) (bits (s.reg Reg.mbxAddr) 23 16) (s.reg Reg.mbxOffset) (s.reg Reg.mbxLen)
      { s with dict := { s.dict with mbxBusy := true, mbxDone := false } } := by
  unfold State.mailboxTake
  simp only [hu, hb, Bool.not_true, Bool.false_eq_true, if_false]

/-- The answer through the mailbox ends the access with DONE (R382). -/
theorem dictAnswer_mailbox (s : State) (o : Option (Fin 32)) (idx sub abort reason : Nat) (data : List (BitVec 8)) :
    (s.dictAnswer (.mailbox o) idx sub abort reason data).dict.mbxBusy = false ∧
      (s.dictAnswer (.mailbox o) idx sub abort reason data).dict.mbxDone = true ∧
      (s.dictAnswer (.mailbox o) idx sub abort reason data).dict.mbxAbort = abort := ⟨rfl, rfl, rfl⟩

theorem dictRead_mailbox (s : State) (cmd : BitVec 32) (idx sub off len : Nat) : (s.dictRead (mailboxPort cmd) idx sub off len).dict.mbxBusy = false ∧
    (s.dictRead (mailboxPort cmd) idx sub off len).dict.mbxDone = true ∧
    (s.dictRead (mailboxPort cmd) idx sub off len).dict.mbxAbort = readAbort (mailboxPort cmd) idx sub := ⟨rfl, rfl, rfl⟩

theorem mailboxPort_own (cmd : BitVec 32) (h : cmd.getLsbD 15 = false) : mailboxPort cmd = .mailbox none := by
  unfold mailboxPort
  rw [h]
  rfl

theorem mbxWrite_access (t : Nat) (cmd : BitVec 32) (s : State) (hu : s.up = true) (hb : s.dict.mbxBusy = false) (hl : s.reg Reg.mbxLen ≤ 1024) :
    exec (.mbxWrite t cmd) s = .next (State.dictWriteAnswer { s.at t with dict := { s.dict with mbxBusy := true, mbxDone := false } }
      (mailboxPort cmd) (bits (s.reg Reg.mbxAddr) 15 0) (bits (s.reg Reg.mbxAddr) 23 16) (s.reg Reg.mbxOffset) true
      (s.mailboxBytes (s.reg Reg.mbxLen))) := by
  refine congrArg Host.Outcome.next ((mailboxTake_idle (s.at t) _ hu hb).trans ?_)
  exact if_neg (Nat.not_lt.mpr hl)

theorem mbxWrite_ctxEnable (t : Nat) (cmd : BitVec 32) (s : State) (hu : s.up = true) (hb : s.dict.mbxBusy = false) (hc : cmd.getLsbD 15 = false)
    (hl : s.reg Reg.mbxLen = 1) (ho : s.reg Reg.mbxOffset = 0) (hi : bits (s.reg Reg.mbxAddr) 15 0 = 0x4100)
    (hj : bits (s.reg Reg.mbxAddr) 23 16 = 1) (hv : s.mailboxBytes 1 = [0] ∨ s.mailboxBytes 1 = [1]) :
    gives (.mbxWrite t cmd) s (fun w => Tab.get [] (Tab.get [] (w.session 10).objs 0x4100) 1 = s.mailboxBytes 1 ∧
      w.dict.mbxBusy = false ∧ w.dict.mbxDone = true ∧ w.dict.mbxAbort = 0) := by
  refine gives_of_next (mbxWrite_access t cmd s hu hb (by omega)) ?_
  rw [hi, hj, ho, hl, mailboxPort_own cmd hc, dictWriteAnswer_ctxEnable _ (.mailbox none) _ rfl rfl hv]
  obtain ⟨h1, h2, h3⟩ := dictAnswer_mailbox (State.staged { s.at t with dict := { s.dict with mbxBusy := true, mbxDone := false } }
    (.mailbox none) 0x4100 1 (s.mailboxBytes 1)) none 0x4100 1 0 0 []
  exact ⟨State.staged_value _ (.mailbox none) 0x4100 1 _ (by decide), h1, h2, h3⟩

/-- Settles O50: LSS names its node; a message accepted and an idle mailbox make the access of their port. -/
theorem lssUdpAndMailbox : Obligations.LssUdpAndMailbox := by
  intro t s
  refine ⟨fun n q hc hq => gives_of_next (if_pos ⟨hc, rfl, rfl, rfl, hq⟩) ⟨?_, rfl⟩,
    fun n id hc hl hid => gives_of_next ((if_pos ⟨hc, hl⟩).trans (if_pos hid)) ⟨?_, rfl⟩,
    fun n a b hc hl ha hb => gives_of_next ((if_pos ⟨hc, hl⟩).trans (if_pos ⟨ha, hb⟩)) ⟨?_, ?_, rfl⟩,
    fun n hc hl => gives_of_next (if_pos ⟨hc, hl⟩) ⟨Tab.get_set_self _ _ _ _, rfl⟩, fun m k tid u hu hp => ?_, fun cmd u idx sub hu hb hi hj hu' => ?_⟩
  · exact congrArg CanNode.lss (State.canNode_setCan_self (s.at t) n.val _)
  · exact congrArg CanNode.nodeId (State.canNode_setCan_self (s.at t) n.val _)
  · exact congrArg CanNode.nominal (State.canNode_setCan_self (s.at t) n.val _)
  · exact congrArg CanNode.data (State.canNode_setCan_self (s.at t) n.val _)
  · subst hu
    refine ⟨gives_of_next (udpRead_accepted t m s _ hp) rfl, fun ha => gives_of_next (udpRead_accepted t m s _ hp) (dictRead_udp _ k tid _ _ _ _ ha),
      gives_of_next (udpWrite_accepted t m s _ hp) rfl, fun hi hj ho hv => gives_of_next (udpWrite_accepted t m s _ hp) ?_⟩
    rw [ho, hi, hj]
    exact udpWrite_ctxEnable _ k tid m.data hv
  · subst hu' hi hj
    refine ⟨gives_of_next (congrArg Host.Outcome.next (mailboxTake_idle (s.at t) _ hu hb)) ⟨rfl, dictRead_mailbox _ cmd _ _ _ _⟩,
      fun hl => gives_of_next (mbxWrite_access t cmd s hu hb hl) rfl, fun hc hl ho hi hj hv => mbxWrite_ctxEnable t cmd s hu hb hc hl ho hi hj hv⟩

end Sys2Proof.Machine
end

section
/-! Injectors, their log and margin scans (R450, R452, R454, R457). -/

namespace Sys2Proof.Machine

open Sys2Proof.Safety

theorem State.injector_setInjector_self (s : State) (i : Nat) (x : Injector) : (s.setInjector i x).injector i = x := Tab.get_set_self _ _ _ _

theorem injectorArm_arms (t : Nat) (i : Fin 16) (v : BitVec 32) (s : State) (hm : s.mode.mode = .proving) (h0 : bit (v.toNat &&& 0x1F77) 0 = true)
    (h1 : bits (v.toNat &&& 0x1F77) 2 1 ≠ 3) (h2 : bits (v.toNat &&& 0x1F77) 5 4 ≠ 3) (ha : (s.injector i.val).armed = false) :
    gives (.injectorArm t i v) s (fun w => (w.injector i.val).armed = true ∧ (w.injector i.val).target = bits (v.toNat &&& 0x1F77) 2 1 ∧
      (w.injector i.val).action = bits (v.toNat &&& 0x1F77) 5 4 ∧ w.reg (Reg.injCtrl i.val) = v.toNat &&& 0x1F77) := by
  have hx : exec (.injectorArm t i v) s = .next (((s.at t).setReg (Reg.injCtrl i.val) (v.toNat &&& 0x1F77)).setInjector i.val
      (State.armed ((s.at t).setReg (Reg.injCtrl i.val) (v.toNat &&& 0x1F77)) i.val (v.toNat &&& 0x1F77))) := by
    refine (if_pos (by exact hm)).trans ((if_pos ⟨h0, h1, h2⟩).trans ?_)
    rw [if_neg (by exact ne_true_of_eq_false ha)]
  refine gives_of_next hx ?_
  rw [State.injector_setInjector_self]
  exact ⟨rfl, rfl, rfl, State.setReg_self _ _ _⟩

theorem injectorArm_disarms (t : Nat) (i : Fin 16) (v : BitVec 32) (s : State) (hm : s.mode.mode = .proving)
    (h0 : bit (v.toNat &&& 0x1F77) 0 = false) : gives (.injectorArm t i v) s (fun w => (w.injector i.val).armed = false) := by
  refine gives_of_next ((if_pos (by exact hm)).trans (if_neg fun c => ?_)) ?_
  · rw [h0] at c
    exact absurd c.1 (by decide)
  · rw [State.injector_setInjector_self]

theorem marginScanStart_allowed (t : Nat) (s : State) (hm : s.mode.mode = .proving) (hb : s.prov.scan.busy = false) :
    exec (.marginScanStart t) s = if s.scanOk (s.reg Reg.scanCfg) then .next (((s.at t).setScan
      { busy := true, first := bits (s.reg Reg.scanCfg) 4 0, width := 2 ^ bits (s.reg Reg.scanCfg) 6 5,
        rate := bits (s.reg Reg.scanCfg) 9 8, dwell := bits (s.reg Reg.scanCfg) 27 16, txHold := bits (s.reg Reg.scanCfg) 31 28 }).scanTrain)
      else .next ((s.at t).setScan { s.prov.scan with fail := true }) :=
  (if_neg (fun c => c hm)).trans (if_neg (by exact ne_true_of_eq_false hb))

theorem scanDwellEnd_due (t : Nat) (s : State) (errs : List (Nat × Nat)) (a : Nat) (hd : s.prov.scan.dwellFrom = some a)
    (hb : s.prov.scan.busy = true) (hn : a + s.prov.scan.dwell * 1000000 ≤ (s.at t).now) :
    exec (.scanDwellEnd t errs) s = .next (((s.at t).bondErrs s.prov.scan.first errs).scanNext
      (fun k => BitVec.ofNat 32 (min (Tab.get 0 ((s.at t).bondErrs s.prov.scan.first errs).prov.scan.errs k) 0xFFFFFFFF))) := by
  have hprov : (s.at t).prov = s.prov := rfl
  show execScanDwellEnd t errs s = _
  simp only [execScanDwellEnd, hprov, hd]
  exact if_pos ⟨hb, hn⟩

/-- Settles O60: PROVING names the branch of each command, and the scan's own configuration what it begins. -/
theorem provingUnitActs : Obligations.ProvingUnitActs := by
  intro t s
  refine ⟨fun i v hm h0 h1 h2 ha => injectorArm_arms t i v s hm h0 h1 h2 ha, fun i v hm h0 => injectorArm_disarms t i v s hm h0,
    fun hm => ⟨fun i v => gives_of_next (if_neg hm) rfl, gives_of_next (if_pos hm) rfl, gives_of_next (if_pos hm) rfl⟩,
    fun e l hl => ?_, fun hl => ?_, fun c hm hb ho hc => gives_of_next ((marginScanStart_allowed t s hm hb).trans (if_pos ho)) (hc ▸ rfl),
    fun hm hb ho => gives_of_next ((marginScanStart_allowed t s hm hb).trans (if_neg (ne_true_of_eq_false ho))) rfl,
    fun hm hb => gives_of_next ((if_neg (fun c => c hm)).trans (if_pos hb)) rfl,
    fun errs a hd hb hn => gives_of_next (scanDwellEnd_due t s errs a hd hb hn) ⟨_, rfl, rfl⟩⟩
  · have hprov : (s.at t).prov = s.prov := rfl
    show ∃ w, execProvLogPop t s = .next w ∧ _
    simp only [execProvLogPop, hprov, hl]
    exact ⟨_, rfl, rfl, rfl, rfl⟩
  · have hprov : (s.at t).prov = s.prov := rfl
    show ∃ w, execProvLogPop t s = .next w ∧ _
    simp only [execProvLogPop, hprov, hl]
    exact ⟨_, rfl, rfl, rfl⟩

end Sys2Proof.Machine
end

section
/-! Firmware update: begun, fed, judged, timed out, confirmed and left (R401 to R408). -/

namespace Sys2Proof.Machine

open Sys2Proof.Safety

/-! ## Sources, slots and the claim -/

theorem State.updSource_setUpdSource_self (s : State) (k : Nat) (x : UpdSource) : (s.setUpdSource k x).updSource k = x := Tab.get_set_self _ _ _ _

theorem State.emit_updSource (s : State) (e : EvKind) (i : Nat) (p : List Int) (k : Nat) : (s.emit e i p).updSource k = s.updSource k := by
  unfold State.updSource
  rw [State.emit_prot]

theorem State.slot_setSlot_self (s : State) (b : Bool) (x : Slot) : (s.setSlot b x).slot b = x := by
  cases b <;> rfl

theorem State.slot_setSlot_other (s : State) (b : Bool) (x : Slot) : (s.setSlot (!b) x).slot b = s.slot b := by
  cases b <;> rfl

theorem State.endClaim_updSource (s : State) (k j : Nat) : (s.endClaim k).updSource j = s.updSource j := by
  unfold State.endClaim
  split <;> rfl

theorem State.endClaim_own (s : State) (k : Nat) (h : s.claimBy k = true) : (s.endClaim k).prot.claim = none := by
  unfold State.endClaim
  rw [if_pos h]

theorem State.endClaim_other (s : State) (k : Nat) (h : s.claimBy k = false) : s.endClaim k = s := if_neg (ne_true_of_eq_false h)

theorem State.endClaim_claimBy (s : State) (k : Nat) : (s.endClaim k).claimBy k = false := by
  by_cases h : s.claimBy k = true
  · unfold State.claimBy
    rw [State.endClaim_own s k h]
    rfl
  · rw [State.endClaim_other s k (eq_false_of_ne_true h)]
    exact eq_false_of_ne_true h

theorem State.updServed_of (s : State) (t : Nat) (hp : s.mode.phase = .up) (hm : s.mode.mode ≠ .standby) : (s.at t).updServed = true := by
  unfold State.updServed
  rw [State.at_mode]
  simp [hp, hm]

/-! ## Commands -/

theorem updAbort_running (t : Nat) (k : Fin 13) (s : State) (hp : s.mode.phase = .up) (hm : s.mode.mode ≠ .standby)
    (hs : (s.updSource k.val).status = 1) :
    gives (.updAbort t k) s (fun w => (w.updSource k.val).status = 13 ∧ w.claimBy k.val = false) := by
  refine gives_of_next (if_pos (s.updServed_of t hp hm)) ?_
  unfold State.updAbort
  rw [if_pos (by exact hs), State.updSource_setUpdSource_self]
  exact ⟨rfl, State.endClaim_claimBy (s.at t) k.val⟩

/-- A chunk of an image whose header is not complete is kept with the header's bytes. -/
theorem updChunk_header (s : State) (k : Nat) (data : List (BitVec 8)) (hs : (s.updSource k).status = 1) (hc : s.prot.claim = none) :
    ((s.updSource k).received ≠ 0 →
      (s.updChunk k (s.updSource k).received data).1 = s.setUpdSource k { s.updSource k with
        received := (s.updSource k).received + data.length, head := (s.updSource k).head ++ data }) := by
  intro hr
  unfold State.updChunk
  simp [hs, hc, hr]

/-- The first chunk begins the header (R403). -/
theorem updChunk_first (s : State) (k : Nat) (data : List (BitVec 8)) (hs : (s.updSource k).status = 1) (hc : s.prot.claim = none) :
    (s.updChunk k 0 data).1 = (s.updStart k (if k = 1 then (s.updSource k).len else none)).setUpdSource k
      { (s.updStart k (if k = 1 then (s.updSource k).len else none)).updSource k with received := data.length, head := data } := by
  have hend : s.endClaim k = s := s.endClaim_other k (by rw [State.claimBy, hc]; rfl)
  have hstart : ∀ len, (s.updStart k len).updSource k = { status := 1, len := len } := fun len => State.updSource_setUpdSource_self _ _ _
  have hclaim : ∀ len, (s.updStart k len).prot.claim = none := fun len => by
    unfold State.updStart
    rw [hend]
    exact hc
  unfold State.updChunk
  simp [hs, hc, hstart, hclaim]

theorem imageHeaderComplete_claims (s : State) (k : Nat) (hs : (s.updSource k).status = 1) (hc : s.claimBy k = false)
    (hl : 4096 ≤ (s.updSource k).head.length) (hp : bit (headerOf (s.updSource k).head).targets 7 = false)
    (hv : s.headerStatus k (s.updSource k).len (s.updSource k).head = 0) :
    ((s.updHeader k).1.updSource k).head = [] ∧ ((s.updHeader k).1.updSource k).status = 1 ∧ raises .updClaimed 0 [k] s (s.updHeader k).1 ∧
      ∃ c, (s.updHeader k).1.prot.claim = some c ∧ c.owner = k ∧ c.lastData = s.now := by
  have hgo : ¬ ((s.updSource k).status ≠ 1 ∨ s.claimBy k = true ∨ (s.updSource k).head.length < 4096) := by
    rintro (h | h | h)
    · exact h hs
    · rw [hc] at h; exact absurd h (by decide)
    · omega
  unfold State.updHeader
  dsimp only
  rw [if_neg hgo, if_neg (fun c => c hv), if_neg (by rw [ImageHeader.promote]; exact ne_true_of_eq_false hp)]
  dsimp only
  rw [State.emit_updSource, State.updSource_setUpdSource_self, State.emit_prot]
  refine ⟨rfl, hs, raises_emit_self _ _ _ _ _ ?_, _, rfl, rfl, ?_⟩
  · unfold State.setSlot
    split <;> rfl
  · unfold State.setSlot
    split <;> rfl

theorem imageHeaderComplete_refuses (s : State) (k v : Nat) (hs : (s.updSource k).status = 1) (hc : s.claimBy k = false)
    (hl : 4096 ≤ (s.updSource k).head.length) (hv : v = s.headerStatus k (s.updSource k).len (s.updSource k).head) (hne : v ≠ 0) :
    (s.updHeader k).1 = s.updRefuse k v := by
  have hgo : ¬ ((s.updSource k).status ≠ 1 ∨ s.claimBy k = true ∨ (s.updSource k).head.length < 4096) := by
    rintro (h | h | h)
    · exact h hs
    · rw [hc] at h; exact absurd h (by decide)
    · omega
  unfold State.updHeader
  dsimp only
  rw [if_neg hgo, ← hv, if_pos hne]

theorem State.updRefuse_source (s : State) (k v : Nat) : ((s.updRefuse k v).updSource k).head = [] ∧ ((s.updRefuse k v).updSource k).status = v ∧
    (s.updRefuse k v).prot.claim = s.prot.claim ∧ raises .updRefused 0 [k, v] s (s.updRefuse k v) := by
  unfold State.updRefuse
  rw [State.emit_updSource, State.emit_prot]
  have h : (State.count (s.setUpdSource k { s.updSource k with status := v, head := [] }) Reg.updRefused 1).updSource k =
      { s.updSource k with status := v, head := [] } := State.updSource_setUpdSource_self _ _ _
  rw [h]
  exact ⟨rfl, rfl, rfl, raises_emit_self _ _ _ _ _ rfl⟩

/-- An image whose hash is the header's leaves its slot PENDING (R405). -/
theorem updPayload_complete (s : State) (k : Nat) (c : Claim) (hc : s.prot.claim = some c) (ha : s.updAll k = true)
    (hh : sha256 ((s.flashRead (slotBase (c.target == 1)) c.header.imageLen).drop 4096) = c.header.payloadHash) :
    (s.updPayload k true).2 = 0 ∧ (s.updPayload k true).1.prot.claim = none ∧ ((s.updPayload k true).1.updSource k) = { s.updSource k with status := 2 } ∧
      ((s.updPayload k true).1.slot (c.target == 1)).state = .pending ∧ ((s.updPayload k true).1.slot (c.target == 1)).rollback = c.header.rollback ∧
      (s.updPayload k true).1.mode = s.mode ∧ raises .updComplete 0 [] s (s.updPayload k true).1 := by
  have hall : ¬ ((!s.updAll k) = true) := by rw [ha]; decide
  unfold State.updPayload
  simp only [hc]
  rw [if_neg hall]
  simp only [ne_eq, hh, not_true_eq_false, if_false, if_true]
  have hslot : ∀ (u : State) (e : EvKind) (i : Nat) (p : List Int) (b : Bool), (u.emit e i p).slot b = u.slot b := by
    intro u e i p b
    unfold State.slot
    rw [State.emit_prot]
  rw [State.emit_updSource, State.emit_prot, State.emit_mode, hslot]
  generalize (c.target == 1) = b
  cases b with
  | false =>
    exact ⟨trivial, rfl, State.updSource_setUpdSource_self _ _ _, rfl, rfl, rfl, raises_emit_self _ _ _ _ _ rfl⟩
  | true =>
    exact ⟨trivial, rfl, State.updSource_setUpdSource_self _ _ _, rfl, rfl, rfl, raises_emit_self _ _ _ _ _ rfl⟩

theorem imagePayloadComplete_whole (t : Nat) (k : Fin 13) (c : Claim) (rn : Bool) (s : State) (hp : s.mode.phase = .up)
    (hm : s.mode.mode ≠ .standby) (hc : s.prot.claim = some c) (ha : s.updAll k.val = true) (hr : s.mode.mode ≠ .recovery)
    (ho : (s.updSource k.val).owed = none)
    (hh : sha256 ((s.flashRead (slotBase (c.target == 1)) c.header.imageLen).drop 4096) = c.header.payloadHash) :
    gives (.imagePayloadComplete t k true rn) s (fun w => w.prot.claim = none ∧ (w.updSource k.val).status = 2 ∧
      (w.slot (c.target == 1)).state = .pending ∧ (w.slot (c.target == 1)).rollback = c.header.rollback ∧ raises .updComplete 0 [] s w) := by
  obtain ⟨hv, h1, h2, h3, h4, h5, h6⟩ := updPayload_complete (s.at t) k.val c hc ha hh
  have hanswer : ((s.at t).updPayload k.val true).1.updAnswer k.val ((s.at t).updPayload k.val true).2 = ((s.at t).updPayload k.val true).1 := by
    have howed : (((s.at t).updPayload k.val true).1.updSource k.val).owed = none := by rw [h2]; exact ho
    unfold State.updAnswer
    rw [howed]
  have hx : exec (.imagePayloadComplete t k true rn) s = .next ((s.at t).updPayload k.val true).1 := by
    refine (if_pos ⟨s.updServed_of t hp hm, ha⟩).trans ?_
    rw [hanswer]
    exact if_neg fun c => hr (h5 ▸ c.1)
  exact gives_of_next hx ⟨h1, by rw [h2], h3, h4, h6⟩

theorem trialConfirm_due (t : Nat) (s : State) (hu : s.up = true) (ht : (s.slot s.prot.runB).state = .trial)
    (hd : s.confirmMin * 60000000000 ≤ (s.at t).trialTime) :
    gives (.trialConfirm t) s (fun w => (w.slot s.prot.runB).state = .good ∧
      w.prot.fuse = max s.prot.fuse (s.slot s.prot.runB).rollback ∧ raises .updConfirmed 0 [] s w) := by
  let x := s.slot s.prot.runB
  let u := ((s.at t).setSlot s.prot.runB { x with state := .good }).emit .updConfirmed 0 []
  have hslot : u.slot s.prot.runB = { x with state := .good } := by
    unfold u State.slot
    rw [State.emit_prot]
    exact State.slot_setSlot_self (s.at t) s.prot.runB { x with state := .good }
  have hfuse : u.prot.fuse = s.prot.fuse := by
    unfold u
    rw [State.emit_prot]
    unfold State.setSlot
    split <;> rfl
  have hraise : raises .updConfirmed 0 [] s u := raises_emit_self _ _ _ _ _ (by unfold State.setSlot; split <;> rfl)
  by_cases hlt : s.prot.fuse < x.rollback
  · have hmax : max s.prot.fuse x.rollback = x.rollback := Nat.max_eq_right (Nat.le_of_lt hlt)
    let v : State := { u with prot := { u.prot with fuse := x.rollback } }
    have hx : exec (.trialConfirm t) s = .next (if (v.slot (!s.prot.runB)).state ≠ .empty ∧ (v.slot (!s.prot.runB)).rollback < v.prot.fuse then
        v.setSlot (!s.prot.runB) { v.slot (!s.prot.runB) with state := .bad } else v) :=
      (if_pos ⟨hu, ht, hd⟩).trans (if_pos (by exact hfuse ▸ hlt))
    refine gives_of_next hx ?_
    have hv : (v.slot s.prot.runB).state = .good ∧ v.prot.fuse = max s.prot.fuse x.rollback ∧ raises .updConfirmed 0 [] s v :=
      ⟨by rw [show v.slot s.prot.runB = u.slot s.prot.runB from rfl, hslot], hmax.symm, hraise⟩
    obtain ⟨h1, h2, h3⟩ := hv
    split
    · refine ⟨by rw [State.slot_setSlot_other]; exact h1, Eq.trans ?_ h2, ?_⟩
      · unfold State.setSlot
        split <;> rfl
      · refine raises_of_events h3 ?_
        unfold State.setSlot
        split <;> rfl
    · exact ⟨h1, h2, h3⟩
  · have hx : exec (.trialConfirm t) s = .next u := (if_pos ⟨hu, ht, hd⟩).trans (if_neg (by exact hfuse ▸ hlt))
    refine gives_of_next hx ⟨by rw [hslot], ?_, hraise⟩
    rw [hfuse, Nat.max_eq_left (Nat.le_of_not_lt hlt)]

/-- Settles O39: the source's own record and the claim name what each command does. -/
theorem updateProceeds : Obligations.UpdateProceeds := by
  intro t s
  refine ⟨fun hp hm => ⟨gives_of_next (if_pos (s.updServed_of t hp hm)) ?_, fun k hs => updAbort_running t k s hp hm hs,
      fun k data hs hc hr => ?_, fun k data hs hc hr => ?_, fun k v hs hc hl hpr hv => ?_,
      fun k c rn hc ha hr ho hh => imagePayloadComplete_whole t k c rn s hp hm hc ha hr ho hh⟩,
    fun c hc hd => ?_, fun hu ht hd => trialConfirm_due t s hu ht hd, fun hp hm hr => gives_of_next (if_pos ⟨hp, hm, hr⟩) ⟨rfl, rfl, rfl, rfl, rfl, rfl, rfl⟩⟩
  · unfold State.updStart
    rw [State.updSource_setUpdSource_self]
    exact ⟨rfl, rfl, rfl⟩
  · refine gives_of_next (if_pos ⟨s.updServed_of t hp hm, hs, hr⟩) ?_
    rw [updChunk_header (s.at t) k.val data hs hc hr, State.updSource_setUpdSource_self]
    exact ⟨rfl, rfl⟩
  · refine gives_of_next ((if_neg fun c => c.2.2 hr).trans (if_pos ⟨s.updServed_of t hp hm, hs⟩)) ?_
    rw [updChunk_first (s.at t) k.val data hs hc, State.updSource_setUpdSource_self]
    exact ⟨rfl, rfl⟩
  · refine gives_of_next (if_pos (s.updServed_of t hp hm)) ?_
    split
    next h0 =>
      obtain ⟨h1, h2, h3, h4⟩ := imageHeaderComplete_claims (s.at t) k.val hs hc hl hpr (hv ▸ h0)
      exact ⟨h1, h2, h3, h4⟩
    next h0 =>
      rw [imageHeaderComplete_refuses (s.at t) k.val v hs hc hl hv h0]
      obtain ⟨h1, h2, h3, h4⟩ := (s.at t).updRefuse_source k.val v
      exact ⟨h1, h2, h3, h4⟩
  · have hclaim : (s.at t).prot.claim = some c := hc
    show ∃ w, execUpdateIdleTimeout t s = .next w ∧ _
    simp only [execUpdateIdleTimeout, hclaim]
    refine ⟨_, if_pos hd, State.endClaim_own (s.at t) c.owner ?_, ?_⟩
    · rw [State.claimBy, hclaim]
      exact beq_self_eq_true _
    · rw [State.updSource_setUpdSource_self]

end Sys2Proof.Machine
end

section
/-! What accepted instance operations do, at once or at their change epoch (R319, R320, R336 to R340). -/

namespace Sys2Proof.Machine

open Sys2Proof.Safety

/-! ## What an event leaves of an instance -/

/-- An operation that changes no more of an instance than its event ring and held vectors. -/
theorem inst_of_rest {s u : State} (h : u.rest = s.rest) (n : Nat) : u.inst n = { s.inst n with evq := (u.inst n).evq, vecPend := (u.inst n).vecPend } := by
  have hn : ({ u.inst n with evq := {}, vecPend := 0 } : Inst) = { s.inst n with evq := {}, vecPend := 0 } := congrFun (congrArg Rest.inst h) n
  exact congrArg (fun i : Inst => { i with evq := (u.inst n).evq, vecPend := (u.inst n).vecPend }) hn

theorem State.emit_inst_only (s : State) (k : EvKind) (i : Nat) (p : List Int) (n : Nat) :
    (s.emit k i p).inst n = { s.inst n with evq := ((s.emit k i p).inst n).evq, vecPend := ((s.emit k i p).inst n).vecPend } :=
  inst_of_rest (State.emit_rest ..) n

/-- A change of an instance's state leaves the rest of it but for its event ring and held vectors. -/
theorem State.instTo_inst (s : State) (n : Nat) (x : InstState) : ∃ e v, (s.instTo n x).inst n = { s.inst n with state := x, evq := e, vecPend := v } := by
  unfold State.instTo
  dsimp only
  split
  next h => exact ⟨(s.inst n).evq, (s.inst n).vecPend, by rw [← h]⟩
  next => exact ⟨_, _, (State.emit_inst_only _ _ _ _ n).trans (by rw [State.setInst_self])⟩

theorem State.instTo_prefix (s : State) (n : Nat) (x : InstState) : s.events <+: (s.instTo n x).events := by
  unfold State.instTo
  dsimp only
  split
  · exact List.prefix_rfl
  · exact State.emit_prefix _ _ _ List.prefix_rfl

theorem State.flushVecs_rest (s : State) (n : Nat) : (s.flushVecs n).rest = s.rest := by
  refine rest_foldl _ (fun u v => ?_) _ _
  dsimp only
  split
  · rw [State.signalVec_rest]
    exact State.setInst_rest _ _ _ rfl
  · rfl

/-! ## Operations as they are accepted -/

theorem beginReset_inst (s : State) (n : Nat) (clear destroy : Bool) : ∃ e v, (s.beginReset n false clear destroy).inst n = { s.inst n with
    draining := true, freezing := false, saving := none, restoring := none, resetClear := clear, destroying := destroy, drainStart := s.now,
    state := .resetting, evq := e, vecPend := v } := by
  unfold State.beginReset
  obtain ⟨e, v, h⟩ := State.instTo_inst (s.setInst n { s.inst n with
    draining := true, freezing := false, saving := none, restoring := none, resetClear := clear, destroying := destroy,
    drainStart := s.now }) n .resetting
  refine ⟨e, v, Eq.trans h ?_⟩
  rw [State.setInst_self]

/-! ## Change epochs -/

theorem takeChanges_lone (s : State) (n : Nat) (c : PendingChange) (e : Nat) (hc : (s.inst n).changes = [(c, e)]) (he : e ≤ s.now) :
    s.takeChanges n (s.inst n).changes = (s.setInst n { s.inst n with changes := [] }).takeChange n c := by
  rw [hc, State.takeChanges, if_pos he]
  dsimp only
  rw [hc, List.erase_cons_head]
  rfl

theorem instChangeEpoch_create (t : Nat) (n : Fin 32) (g : Grants) (e : Nat) (s : State) (hc : (s.inst n.val).changes = [(.create g, e)])
    (he : e ≤ (s.at t).now) : gives (.instChangeEpoch t n) s (fun w => (w.inst n.val).state = .active ∧ (w.inst n.val).grants = g ∧
      (w.inst n.val).changes = []) := by
  refine gives_of_next (congrArg Host.Outcome.next (takeChanges_lone (s.at t) n.val (.create g) e hc he)) ?_
  unfold State.takeChange
  dsimp only
  rw [inst_of_rest (State.flushVecs_rest _ _) n.val]
  obtain ⟨e, v, h⟩ := State.instTo_inst (State.setInst (State.setInst (s.at t) n.val { (s.at t).inst n.val with changes := [] }) n.val
    { (State.setInst (s.at t) n.val { (s.at t).inst n.val with changes := [] }).inst n.val with
      grants := g, credit := 0, creditAt := (State.setInst (s.at t) n.val { (s.at t).inst n.val with changes := [] }).time.lct }) n.val .active
  rw [h, State.setInst_self, State.setInst_self]
  exact ⟨rfl, rfl, rfl⟩

theorem instChangeEpoch_freeze (t : Nat) (n : Fin 32) (e : Nat) (s : State) (hc : (s.inst n.val).changes = [(.freeze, e)])
    (he : e ≤ (s.at t).now) : gives (.instChangeEpoch t n) s (fun w => (w.inst n.val).freezing = true ∧ (w.inst n.val).draining = true ∧
      (w.inst n.val).drainStart = (s.at t).now) := by
  refine gives_of_next (congrArg Host.Outcome.next (takeChanges_lone (s.at t) n.val .freeze e hc he)) ?_
  unfold State.takeChange
  dsimp only
  rw [State.setInst_self]
  exact ⟨rfl, rfl, rfl⟩

/-! ## Drains and completions -/

theorem instDrainTimeout_left (t : Nat) (n : Fin 32) (s : State) (hd : (s.inst n.val).draining = true) (hw : (s.inst n.val).works ≠ [])
    (he : (s.inst n.val).drainStart + (s.inst n.val).grants.drainMs * 1000000 ≤ (s.at t).now) :
    exec (.instDrainTimeout t n) s = if (s.inst n.val).freezing then .next ((s.at t).setInst n.val { s.inst n.val with
      freezing := false, draining := false, result := reasonCode (cMode, 0x43), done := true }) else .next ((s.at t).squash n.val) := by
  have hempty : (s.inst n.val).works.isEmpty = false := by
    rw [List.isEmpty_eq_false_iff]
    exact hw
  have hgo : ((s.inst n.val).draining && (!(s.inst n.val).works.isEmpty || !(s.inst n.val).groups.isEmpty) &&
      decide ((s.inst n.val).drainStart + (s.inst n.val).grants.drainMs * 1000000 ≤ (s.at t).now)) = true := by
    rw [hd, hempty, decide_eq_true he]
    rfl
  exact if_pos hgo

@[simp] theorem State.dropSurfs_events (s : State) (n : Nat) : (State.dropSurfs s n).events = s.events :=
  (congrArg State.events (State.dropSurfs_outside { Mask.full with events := false } s n (by simp [Mask.full])) :)
@[simp] theorem State.dropSurfs_insts (s : State) (n : Nat) : (State.dropSurfs s n).insts = s.insts :=
  (congrArg State.insts (State.dropSurfs_outside { Mask.full with insts := false } s n (by simp [Mask.full])) :)
@[simp] theorem State.dropSurfs_inst (s : State) (n : Nat) (i : Nat) : (State.dropSurfs s n).inst i = s.inst i := by
  simp [State.inst]

theorem resetDrainComplete_active (t : Nat) (n : Fin 32) (s : State) (hs : (s.inst n.val).state = .resetting) (hw : (s.inst n.val).works = [])
    (hd : (s.inst n.val).destroying = false) :
    gives (.resetDrainComplete t n) s (fun w => (w.inst n.val).state = .active ∧ raises .instResetDone n.val [] s w) := by
  let u := if (s.inst n.val).resetClear then (s.at t).dropSurfs n.val else s.at t
  have hu : u.events = s.events := ite_keeps State.events (State.dropSurfs_events (s.at t) n.val)
  have hx : exec (.resetDrainComplete t n) s =
      .next (((u.setInst n.val (Inst.stopped (u.inst n.val))).emit .instResetDone n.val []).instTo n.val .active) :=
    (if_pos ⟨hs, hw⟩).trans (if_neg (by exact ne_true_of_eq_false hd))
  refine gives_of_next hx ⟨?_, ?_⟩
  · obtain ⟨e, v, h⟩ := State.instTo_inst ((u.setInst n.val (Inst.stopped (u.inst n.val))).emit .instResetDone n.val []) n.val .active
    rw [h]
  · have hr : raises .instResetDone n.val [] s ((u.setInst n.val (Inst.stopped (u.inst n.val))).emit .instResetDone n.val []) :=
      raises_emit_self _ _ _ _ _ hu
    exact raises_of_prefix hr
      (State.instTo_prefix ((u.setInst n.val (Inst.stopped (u.inst n.val))).emit .instResetDone n.val []) n.val .active)

theorem resetDrainComplete_free (t : Nat) (n : Fin 32) (s : State) (hs : (s.inst n.val).state = .resetting) (hw : (s.inst n.val).works = [])
    (hd : (s.inst n.val).destroying = true) :
    gives (.resetDrainComplete t n) s (fun w => (w.inst n.val).state = .free ∧ (w.inst n.val).queues = [] ∧ (w.inst n.val).grants = {}) := by
  refine gives_of_next ((if_pos ⟨hs, hw⟩).trans (if_pos (by exact hd))) ?_
  rw [State.setInst_self]
  exact ⟨rfl, rfl, rfl⟩

theorem freezeComplete_drained (t : Nat) (n : Fin 32) (s : State) (hf : (s.inst n.val).freezing = true) (hw : (s.inst n.val).works = [])
    (hg : (s.inst n.val).groups = []) : gives (.freezeComplete t n) s (fun w => (w.inst n.val).state = .frozen ∧
      (w.inst n.val).freezing = false ∧ raises .instFrozen n.val [] s w) := by
  refine gives_of_next (if_pos ⟨hf, hw, hg⟩) ?_
  rw [State.emit_inst_only]
  obtain ⟨e, v, h⟩ := State.instTo_inst ((s.at t).setInst n.val { s.inst n.val with freezing := false, draining := false }) n.val .frozen
  refine ⟨congrArg Inst.state h, ?_, raises_of_prior (State.instTo_prefix ((s.at t).setInst n.val _) n.val .frozen) (raises_emit_self _ _ _ _ _ rfl)⟩
  refine (congrArg Inst.freezing h).trans ?_
  rw [State.setInst_self]

theorem saveComplete_writes (t len : Nat) (n : Fin 32) (s : State) (h : (s.inst n.val).saving = some len) :
    gives (.saveComplete t n) s (fun w => (w.inst n.val).saving = none ∧ w.reg (Reg.instBlobLen n.val) = len ∧
      w.sent = s.sent ++ [.saveBlob n.val (s.blobAddr n.val) ((s.at t).saveBytes ((s.at t).savedInst n.val) len)]) := by
  have h' : ((s.at t).inst n.val).saving = some len := h
  show ∃ w, execSaveComplete t n s = .next w ∧ _
  simp only [execSaveComplete, h']
  refine ⟨_, rfl, ?_, State.setReg_self _ _ _, rfl⟩
  exact congrArg Inst.saving (State.setInst_self (s.at t) n.val _)

/-- The end of a restore, from the state `v` in which its queues stand and its request may be queued. -/
theorem frozen_again (n : Nat) (s v : State) (hv : (v.inst n).restoring = none) (he : v.events = s.events) :
    (((v.instTo n .frozen).emit .instRestored n []).inst n).state = .frozen ∧
      (((v.instTo n .frozen).emit .instRestored n []).inst n).restoring = none ∧
      raises .instRestored n [] s ((v.instTo n .frozen).emit .instRestored n []) := by
  rw [State.emit_inst_only]
  obtain ⟨e, m, h⟩ := State.instTo_inst v n .frozen
  refine ⟨congrArg Inst.state h, (congrArg Inst.restoring h).trans hv, ?_⟩
  exact raises_of_prior (he ▸ State.instTo_prefix v n .frozen) (raises_emit_self _ _ _ _ _ rfl)

theorem restoreComplete_frozen (t : Nat) (n : Fin 32) (b : RestoreBlob) (s : State) (h : (s.inst n.val).restoring = some b) :
    gives (.restoreComplete t n) s (fun w => (w.inst n.val).state = .frozen ∧ (w.inst n.val).restoring = none ∧
      raises .instRestored n.val [] s w) := by
  have h' : ((s.at t).inst n.val).restoring = some b := h
  show ∃ w, execRestoreComplete t n s = .next w ∧ _
  simp only [execRestoreComplete, h']
  refine ⟨_, rfl, frozen_again n.val s _ ?_ ?_⟩
  · split <;> exact congrArg Inst.restoring (State.setInst_self (s.at t) n.val _)
  · split <;> rfl

/-- Settles O45: what an accepted operation writes in its instance is read off, a step of its life through `instTo`. -/
theorem instanceOperationsTakeEffect : Obligations.InstanceOperationsTakeEffect := by
  intro t a rx n s
  refine ⟨fun g => ?_, ?_, fun clear => ?_, fun need len adr => ?_, fun p m b => ?_, fun g e hc he => instChangeEpoch_create t n g e s hc he,
    fun e hc he => instChangeEpoch_freeze t n e s hc he, fun hd hw hf he => ?_, fun hd hw hf he => ?_,
    fun hs hw hd => resetDrainComplete_active t n s hs hw hd, fun hs hw hd => resetDrainComplete_free t n s hs hw hd,
    fun hf hw hg => freezeComplete_drained t n s hf hw hg, fun len h => saveComplete_writes t len n s h, fun b h _ => restoreComplete_frozen t n b s h⟩
  · exact congrArg Inst.changes (State.setInst_self s n.val _)
  · exact congrArg Inst.changes (State.setInst_self s n.val _)
  · obtain ⟨e, v, h⟩ := beginReset_inst s n.val clear false
    exact ⟨congrArg Inst.state h, congrArg Inst.draining h⟩
  · exact congrArg Inst.saving (State.setInst_self s n.val _)
  · obtain ⟨e, v, h⟩ := State.instTo_inst (s.setInst n.val { s.inst n.val with
      grants := { b.grants with pasid := p, msgs := m }, restoring := some b, credit := 0, creditAt := s.time.lct }) n.val .restoring
    exact ⟨congrArg Inst.state h, (congrArg Inst.grants h).trans (congrArg Inst.grants (State.setInst_self s n.val _))⟩
  · refine gives_of_next ((instDrainTimeout_left t n s hd hw he).trans (if_pos hf)) ?_
    rw [State.setInst_self]
    exact ⟨rfl, rfl, rfl, rfl⟩
  · exact gives_of_next ((instDrainTimeout_left t n s hd hw he).trans (if_neg (ne_true_of_eq_false hf))) rfl

end Sys2Proof.Machine
end

section
/-! What accepted mode commands do (R414 to R417, R421). -/

namespace Sys2Proof.Machine

open Sys2Proof.Safety

/-- A GO accepted before the lock and before its wait is over is remembered and nothing else. -/
theorem acceptGo_waits (s : State) (proving : Bool) (f : Nat) (hl : s.time.servo ≠ .locked) (hw : s.lockWait ≠ 0)
    (hf : s.time.firstEnabled = some f) (hx : s.time.lct < f + s.lockWait) :
    s.acceptGo proving = s.setMode { s.mode with goWait := some { proving := proving, acceptedAt := s.now, expired := false } } := by
  have hexcess : (s.lockWait == 0 || decide (f + s.lockWait ≤ s.time.lct)) = false := by
    simp [hw, hx]
  simp only [State.acceptGo, hf, hexcess]
  exact if_neg fun h => h.elim Bool.false_ne_true hl

theorem goChange_run (s : State) (g : GoWait) (hg : g.proving = false) (hp : s.pair.en = false) (hl : s.aon.shLatch = false) :
    s.goChange g = (s.setMode { s.mode with goWait := none }).enterRun 0 := by
  simp only [State.goChange, hg, Bool.false_eq_true, if_false]
  rw [if_neg (by rintro ⟨h, -⟩; exact absurd (hp.symm.trans h) Bool.false_ne_true)]
  have hto : (s.pair.en && s.pair.actIn) = false := by rw [hp]; rfl
  show State.enterGo (s.setMode { s.mode with goWait := none }) (s.pair.en && s.pair.actIn) = _
  rw [hto]
  exact (if_neg (by exact ne_true_of_eq_false hl)).trans (if_neg Bool.false_ne_true)

theorem goChange_sideB (s : State) (g : GoWait) (hg : g.proving = false) (hp : s.pair.en = true) (hb : s.board.sideB = true)
    (ha : s.pair.actIn = false) : s.goChange g = s.setMode { s.mode with goWait := none, sideBWait := some s.now } := by
  simp only [State.goChange, hg, Bool.false_eq_true, if_false]
  have hto : ¬ (s.pair.en && s.pair.actIn) = true := by rw [ha, Bool.and_false]; exact Bool.false_ne_true
  exact if_pos ⟨hp, hb, hto⟩

theorem goChange_proving (s : State) (g : GoWait) (hg : g.proving = true) (hp : s.pair.en = false) :
    s.goChange g = ((s.setMode { s.mode with goWait := none }).modeTo .proving 0).startRecs := by
  simp only [State.goChange, hg, if_true]
  refine if_neg ?_
  rintro ⟨h, -⟩
  rw [State.startRecs_pair, State.modeTo_pair] at h
  exact absurd (hp.symm.trans h) Bool.false_ne_true

theorem modeTo_reports (s : State) (m : Mode) (c : Nat) (h : s.mode.mode ≠ m) : (s.modeTo m c).mode.mode = m ∧
    (s.modeTo m c).mode.prev = s.mode.mode ∧ raises .modeState 0 [s.mode.mode.code, m.code, c] s (s.modeTo m c) := by
  unfold State.modeTo
  rw [if_neg h]
  split <;> exact ⟨congrArg ModeUnit.mode (State.emit_mode ..), congrArg ModeUnit.prev (State.emit_mode ..), raises_emit_self _ _ _ _ _ rfl⟩

/-- Settles O53: the commands act through `acceptGo`, `deviceReset`, `goChange` and `modeTo`, each taken at its branch. -/
theorem modeCommandsTakeEffect : Obligations.ModeCommandsTakeEffect := by
  intro s a
  obtain ⟨-, hm, hc, -⟩ := s.deviceReset_clears .software
  refine ⟨fun f hl hw hf hx => ⟨_, congrArg (fun u : State => u.mode.goWait) (acceptGo_waits s false f hl hw hf hx), rfl, rfl, rfl,
    (congrArg (fun u : State => u.mode.mode) (acceptGo_waits s false f hl hw hf hx) :)⟩, rfl, ⟨hm, hc⟩, goChange_run s, goChange_sideB s,
    fun g hg hp _ => goChange_proving s g hg hp, modeTo_reports s⟩

end Sys2Proof.Machine
end

section
/-! Requests of one change admitted (R37, R38): what the change lays, what it does at once, and the answer. -/

namespace Sys2Proof.Machine

open Sys2Proof.Safety

/-- The configuration dirty. -/
def Rest.dirtied (x : Rest) : Rest := { x with glb := { x.glb with dirty := true } }

/-- The configuration dirty, or not where the change judges no configuration. -/
def Rest.marked (x : Rest) (c : Change) : Rest := if Change.bare c then x else x.dirtied

/-- A generation committed after the sequence number of `w`, in the half that is not `active`. -/
def Rest.committed (x : Rest) (w : WinTable) (active : Bool) : Rest := { x with genSeq := w.seq + 1, active := !active, open_ := false }

/-- One more place taken in the order of acceptance. -/
def Rest.accepted (x : Rest) : Rest := { x with adm := { x.adm with pos := x.adm.pos + 1 } }

/-- What laying one change of a request accepted now leaves, before the pools are fitted. -/
def State.laid (s : State) (c : Change) : State := (Laid.change s.acceptTime { s := s } c).s

theorem State.lay_one_rest (s : State) (r : Request) (c : Change) (hc : r.changes = [c]) (hb : r.blob = none) (hs : r.stored = false) :
    (s.lay s.acceptTime r).s.rest = (s.laid c).rest := by
  unfold State.lay
  simp only [hc, hb, hs, Option.isSome_none, Bool.or_false, Bool.false_eq_true, if_false, List.foldl_cons, List.foldl_nil]
  split
  · rfl
  · exact State.fitPools_rest _

/-- An admitted request of one change: the state `Y` with the change laid, in which it acts, and the state `V` that is answered. -/
theorem admitted_one (u : State) (r : Request) (c : Change) (hc : r.changes = [c]) (hb : r.blob = none) (hs : r.stored = false)
    (hr : Request.resets r = false) : ∃ (Y V : State) (res : Nat), admitted u r = V.answer r 0 res ∧
      V.rest = (Y.act u.acceptTime r.received c).rest.accepted ∧
      (Y.rest = (u.laid c).rest.marked c ∨ Y.rest = ((u.laid c).rest.marked c).committed (u.lay u.acceptTime r).s.win (u.laid c).win.active) ∧
      (Request.gen r = true → Y.rest = ((u.laid c).rest.marked c).committed (u.lay u.acceptTime r).s.win (u.laid c).win.active) := by
  obtain ⟨Y, V, res, hV, hrest, l, X, rfl, rfl, hY⟩ := admitted_before u r hb hr
  have hX : ({ (u.lay u.acceptTime r).s.rest with
      glb := { (u.lay u.acceptTime r).s.glb with
        dirty := if r.changes.all Change.bare && !r.stored then (u.lay u.acceptTime r).s.glb.dirty else true } } : Rest) =
      (u.laid c).rest.marked c := by
    have hl := State.lay_one_rest u r c hc hb hs
    have hg : (u.lay u.acceptTime r).s.glb = (u.laid c).glb := congrArg Rest.glb hl
    rw [hl, hg, hc, hs]
    unfold Rest.marked
    simp only [List.all_cons, List.all_nil, Bool.and_true, Bool.not_false]
    cases Change.bare c <;> rfl
  have ha : (u.lay u.acceptTime r).s.win.active = (u.laid c).win.active := congrArg Rest.active (State.lay_one_rest u r c hc hb hs)
  rw [hX, ha] at hY
  rw [hc] at hrest
  exact ⟨Y, V, res, hV, hrest, hY⟩

/-! ## The answer -/

@[simp] theorem State.complete_adm (s : State) (n id status reason result : Nat) :
    (State.complete s n id status reason result).adm = s.adm :=
  (congrArg State.adm (State.complete_outside { Mask.full with adm := false } s n id status reason result
    (by simp [Mask.full])) :)
@[simp] theorem State.sendPair_adm (s : State) (m : PairMsg) : (State.sendPair s m).adm = s.adm :=
  (congrArg State.adm (State.sendPair_outside { Mask.full with adm := false } s m (by simp [Mask.full])) :)

/-- A completion writes, of what `State.rest` holds, the instances alone. -/
theorem State.complete_rest (s : State) (n id status reason result : Nat) :
    (s.complete n id status reason result).rest = { s.rest with inst := (s.complete n id status reason result).rest.inst } :=
  (congrArg (fun v : State => ({ v.rest with inst := (s.complete n id status reason result).rest.inst } : Rest))
    (State.complete_outside { regs := true, sent := true, insts := true } s n id status reason result
      ⟨rfl, rfl, rfl⟩) :)

/-- What an answer may write of what `State.rest` holds: the dictionary, the window registers and the instances. -/
theorem State.tell_rest (s : State) (who : Asker) (reason result : Nat) : ∃ d x y i,
    (s.tell who reason result).rest = { s.rest with dict := d, result := x, done := y, inst := i } := by
  cases who with
  | work n id => exact ⟨_, _, _, _, State.complete_rest s n id _ reason result⟩
  | partner k => exact ⟨_, _, _, _, State.sendPair_rest s _⟩
  | _ => exact ⟨_, _, _, _, rfl⟩

theorem State.answer_rest (s : State) (r : Request) (reason result : Nat) : ∃ d x y i,
    (s.answer r reason result).rest = { s.rest with dict := d, result := x, done := y, inst := i } := by
  unfold State.answer
  split
  · obtain ⟨d, x, y, i, h⟩ := State.tell_rest _ r.by_ reason result
    exact ⟨d, x, y, i, h⟩
  · exact State.tell_rest s r.by_ reason result

theorem State.answer_adm (s : State) (r : Request) (reason result : Nat) : (s.answer r reason result).adm = s.adm := by
  unfold State.answer
  split <;> cases r.by_ <;> simp [State.tell, State.setResult]

/-- The answer to a request of no session is the asker's alone. -/
theorem State.answer_tell (s : State) (r : Request) (reason result : Nat) (h : Asker.session r.by_ = none) :
    s.answer r reason result = s.tell r.by_ reason result := by
  unfold State.answer
  simp only [h]

/-- A command that places a request of one change: admitted, `P` holds of the answer in whatever state the change has acted. Neither
laying the change nor its effect places a request. -/
theorem admits_one (i : Instr) (s u : State) (r : Request) (c : Change) (P : State → Prop) (hx : exec i s = .next (u.place r))
    (hc : r.changes = [c]) (hb : r.blob = none) (hs : r.stored = false) (hr : Request.resets r = false)
    (hl : (u.laid c).adm.queue = u.adm.queue)
    (ha : ∀ Y : State, Y.adm.queue = [] → (Y.act u.acceptTime r.received c).adm.queue = [])
    (hP : atOnce u r → admissible u r → ∀ (Y V : State) (res : Nat), V.rest = (Y.act u.acceptTime r.received c).rest.accepted →
      (Y.rest = (u.laid c).rest.marked c ∨ Y.rest = ((u.laid c).rest.marked c).committed (u.lay u.acceptTime r).s.win (u.laid c).win.active) →
      (Request.gen r = true → Y.rest = ((u.laid c).rest.marked c).committed (u.lay u.acceptTime r).s.win (u.laid c).win.active) →
      P (V.answer r 0 res)) : admits i s u r P := by
  obtain ⟨Y, V, res, hV, hrest, hY, hg⟩ := admitted_one u r c hc hb hs hr
  have hmark : ((u.laid c).rest.marked c).adm = (u.laid c).rest.adm := by
    unfold Rest.marked
    split <;> rfl
  have hqY : Y.adm.queue = u.adm.queue := by
    refine Eq.trans ?_ ((congrArg Admitted.queue hmark).trans hl)
    rcases hY with h | h <;> exact (congrArg (fun x : Rest => x.adm.queue) h :)
  have hqV : V.adm.queue = (Y.act u.acceptTime r.received c).adm.queue := (congrArg (fun x : Rest => x.adm.queue) hrest :)
  refine admits_of i s u r P (fun _ _ => hx) (fun h _ => ?_) fun h ho => hV ▸ hP h ho Y V res hrest hY hg
  obtain ⟨-, -, -, -, hq, -⟩ := h
  rw [hV, State.answer_adm]
  exact hqV.trans (ha Y (hqY.trans hq))

end Sys2Proof.Machine
end

section
/-! Performance counters selected and the tally (R436, R441 to R443). -/

namespace Sys2Proof.Machine

open Sys2Proof.Safety

/-! ## The counters' own time leaves every register but their overflow flags -/

section
variable (K : Nat → Prop) (hK : ∀ u, K (Reg.pmcOvf u))
include hK

theorem State.syncUnit_offRegs (s : State) (u : Nat) : offRegs K (s.syncUnit u).regs = offRegs K s.regs := by
  have hhead : ∀ h, offRegs K (s.syncHead h).regs = offRegs K s.regs := fun h => by
    unfold State.syncHead
    dsimp only
    split <;> split <;> split <;> simp [hK]
  have hdma : offRegs K s.syncDma.regs = offRegs K s.regs := by
    unfold State.syncDma
    split
    · simp [hK]
    · dsimp only
      split <;> simp [hK]
  unfold State.syncUnit
  split
  · exact State.slotsTo_offRegs K s _ _ _ (hK _)
  · split
    · exact State.syncEngine_offRegs K s _ (hK _)
    · split
      · exact State.slotsTo_offRegs K s _ _ _ (hK _)
      · split
        · exact hhead _
        · exact hdma

end

/-! ## The edges' grid -/

theorem tallyFrom_on_grid (origin period a : Nat) (hp : 0 < period) : origin ≤ tallyFrom origin period a ∧ a ≤ tallyFrom origin period a ∧
    (tallyFrom origin period a - origin) % (period * 1000) = 0 := by
  unfold tallyFrom
  split
  · exact ⟨Nat.le_refl _, ‹_›, by simp⟩
  · have hceil : a - origin ≤ ceilDiv (a - origin) (period * 1000) * (period * 1000) := by
      have h := Nat.lt_div_mul_add (a := a - origin + period * 1000 - 1) (b := period * 1000) (by omega)
      unfold ceilDiv
      omega
    refine ⟨Nat.le_add_right _ _, by omega, ?_⟩
    rw [Nat.add_sub_cancel_left, Nat.mul_mod_left]

theorem act_tallyStart (a rx origin period pages : Nat) (s : State) (hp : 0 < period) :
    (State.act a rx s (.tallyStart origin period pages)).prot.tally.running = true ∧
      origin ≤ (State.act a rx s (.tallyStart origin period pages)).prot.tally.next ∧
      a ≤ (State.act a rx s (.tallyStart origin period pages)).prot.tally.next ∧
      ((State.act a rx s (.tallyStart origin period pages)).prot.tally.next - origin) % (period * 1000) = 0 :=
  ⟨rfl, tallyFrom_on_grid origin period a hp⟩

theorem le_tallyFrom (origin period a : Nat) : origin ≤ tallyFrom origin period a := by
  unfold tallyFrom
  split
  · exact Nat.le_refl _
  · exact Nat.le_add_right _ _

/-! ## Starting -/

/-- A tally start lays the ring's pages alone. -/
theorem laid_tallyStart (s : State) (origin period pages : Nat) : ∃ l, (s.laid (.tallyStart origin period pages)).rest =
    { s.rest with adm := { s.rest.adm with tally := l } } := by
  unfold State.laid Laid.change Laid.tally
  dsimp only
  split
  · exact ⟨_, rfl⟩
  · exact ⟨s.adm.tally, rfl⟩

theorem tallyStart_admits (t : Nat) (s : State) : admits (.tallyStart t) s ((s.at t).setReg 0x90004 0)
    { by_ := .tallyRegs, received := (s.at t).now, changes := [.tallyStart (s.reg Reg.tallyOriginLo + s.reg Reg.tallyOriginHi * 2 ^ 32)
      (s.reg Reg.tallyPeriod) (s.reg Reg.tallyRingPages)] }
    (fun w => w.reg 0x90004 = 2 ^ 31 ∧ w.prot.tally.running = true ∧ w.prot.tally.period = s.reg Reg.tallyPeriod ∧
      w.prot.tally.origin = s.reg Reg.tallyOriginLo + s.reg Reg.tallyOriginHi * 2 ^ 32 ∧ w.prot.tally.seq = 0 ∧
      w.prot.tally.origin ≤ w.prot.tally.next) := by
  obtain ⟨l, hl⟩ := laid_tallyStart ((s.at t).setReg 0x90004 0) (s.reg Reg.tallyOriginLo + s.reg Reg.tallyOriginHi * 2 ^ 32)
    (s.reg Reg.tallyPeriod) (s.reg Reg.tallyRingPages)
  refine admits_one _ _ _ _ _ _ rfl rfl rfl rfl rfl (congrArg (fun x : Rest => x.adm.queue) hl :) (fun _ h => h)
    fun _ _ Y V res hrest _ _ => ?_
  have htally : V.prot.tally = (Y.act ((s.at t).setReg 0x90004 0).acceptTime (s.at t).now (.tallyStart (s.reg Reg.tallyOriginLo + s.reg Reg.tallyOriginHi * 2 ^ 32)
      (s.reg Reg.tallyPeriod) (s.reg Reg.tallyRingPages))).prot.tally := (congrArg Rest.tally hrest :)
  refine ⟨(State.setReg_self _ _ _).trans (Nat.zero_add _), ?_⟩
  show V.prot.tally.running = true ∧ V.prot.tally.period = _ ∧ V.prot.tally.origin = _ ∧ V.prot.tally.seq = 0 ∧
    V.prot.tally.origin ≤ V.prot.tally.next
  rw [htally]
  exact ⟨rfl, rfl, rfl, rfl, le_tallyFrom _ _ _⟩

/-! ## An edge -/

/-- The counters brought to now: the tally, its ring and its read index stand. -/
theorem syncAll_tally (s : State) : ((List.range 39).foldl State.syncUnit s).prot = s.prot ∧
    ((List.range 39).foldl State.syncUnit s).adm = s.adm ∧ ((List.range 39).foldl State.syncUnit s).dram = s.dram ∧
    ((List.range 39).foldl State.syncUnit s).reg Reg.tallyRd = s.reg Reg.tallyRd := by
  refine ⟨foldl_same State.prot State.syncUnit State.syncUnit_prot _ s, foldl_same State.adm State.syncUnit State.syncUnit_adm _ s,
    foldl_same State.dram State.syncUnit State.syncUnit_dram _ s, ?_⟩
  refine reg_of_offRegs (K := fun a => ∃ u, a = Reg.pmcOvf u)
    (offRegs_foldl _ _ (State.syncUnit_offRegs _ fun u => ⟨u, rfl⟩) _ _) _ ?_
  rintro ⟨u, h⟩
  simp only [Reg.tallyRd, Reg.pmcOvf] at h
  omega

/-- Of an edge that is due, the branch is chosen by the room left in the ring. -/
theorem tallyEdge_due (t : Nat) (s : State) (hr : s.prot.tally.running = true) (hn : s.prot.tally.next ≤ (s.at t).now)
    (ho : (s.at t).latchOwed s.prot.tally.next = false) :
    (unread s.prot.tally.written (s.reg Reg.tallyRd) < s.tallyRoom → gives (.tallyEdge t) s (fun w => w.prot.tally =
      { s.prot.tally with next := s.prot.tally.next + s.prot.tally.period * 1000, seq := (s.prot.tally.seq + 1) % 2 ^ 32,
                          written := (s.prot.tally.written + 1) % 2 ^ 32, prev := s.prot.tally.next, lost := 0 })) ∧
    (s.tallyRoom ≤ unread s.prot.tally.written (s.reg Reg.tallyRd) → gives (.tallyEdge t) s (fun w => w.dram = s.dram ∧ ∃ e,
      w.prot.tally = { s.prot.tally with next := s.prot.tally.next + s.prot.tally.period * 1000, seq := (s.prot.tally.seq + 1) % 2 ^ 32,
                                         lost := s.prot.tally.lost + 1, lostEvt := e })) := by
  have hgo : (s.at t).prot.tally.running = true ∧ (s.at t).prot.tally.next ≤ (s.at t).now ∧
      ¬ (s.at t).latchOwed (s.at t).prot.tally.next = true := ⟨hr, hn, ne_true_of_eq_false ho⟩
  obtain ⟨-, hadm, hdram, hreg⟩ := syncAll_tally (s.at t)
  have hroom : ((List.range 39).foldl State.syncUnit (s.at t)).tallyRoom = s.tallyRoom :=
    congrArg (fun x : Admitted => x.tally.length * 2097152 / 24576) hadm
  refine ⟨fun h => ?_, fun h => ?_⟩
  · show ∃ w, execTallyEdge t s = .next w ∧ _
    unfold execTallyEdge
    dsimp only
    rw [if_pos hgo]
    generalize (List.range 39).foldl State.syncUnit (s.at t) = v at hdram hreg hroom ⊢
    rw [if_pos (by rw [hreg, hroom]; exact h)]
    exact ⟨_, rfl, rfl⟩
  · show ∃ w, execTallyEdge t s = .next w ∧ _
    unfold execTallyEdge
    dsimp only
    rw [if_pos hgo]
    generalize (List.range 39).foldl State.syncUnit (s.at t) = v at hdram hreg hroom ⊢
    rw [if_neg (by rw [hreg, hroom]; exact Nat.not_lt.mpr h)]
    refine ⟨_, rfl, ?_⟩
    exact ⟨(ite_keeps State.dram (State.emit_dram _ _ _ _)).trans hdram, _,
      ite_keeps (fun u : State => u.prot.tally) (congrArg Prot.tally (State.emit_prot _ _ _ _))⟩

/-- Settles O59: a start goes through admission, an edge through the room of its ring, the rest is read off. -/
theorem countersAndTally : Obligations.CountersAndTally := by
  intro t s
  refine ⟨fun u i v => ?_, tallyStart_admits t s, fun a rx o p _ hp => act_tallyStart a rx o p _ s hp, ?_, fun hr hn ho => ⟨fun h => ?_, fun h => ?_⟩⟩
  · exact gives_of_next rfl ⟨State.setReg_self _ _ _, Tab.get_set_self _ _ _ _⟩
  · exact gives_of_next rfl ⟨rfl, rfl, (State.setReg_self _ _ _).trans (Nat.zero_add _)⟩
  · obtain ⟨w, hx, hw⟩ := (tallyEdge_due t s hr hn ho).1 h
    refine ⟨w, hx, ?_⟩
    dsimp only
    rw [hw]
    exact ⟨rfl, rfl, rfl, rfl, rfl⟩
  · obtain ⟨w, hx, hd, e, hw⟩ := (tallyEdge_due t s hr hn ho).2 h
    refine ⟨w, hx, ?_⟩
    dsimp only
    rw [hw]
    exact ⟨rfl, rfl, rfl, rfl, hd⟩

end Sys2Proof.Machine
end

section
/-! What fitting the pools to an admitted configuration may change (R45, R145, R182, R280): contexts, sheets, recordings, surfaces, the
retention ring, and what an abandoned picture in work leaves. -/

namespace Sys2Proof.Machine

section
variable (M : Mask) (hM : M.mode ∧ M.regs ∧ M.ctxs ∧ M.cores ∧ M.slots ∧ M.progs ∧ M.sheets ∧ M.surfs ∧ M.recs ∧ M.adm)
include hM

theorem Fit.ctxBufs_outside (f : Fit) (n : Nat) (d : Decl) : (f.ctxBufs n d).s.outside M = f.s.outside M := by
  unfold Fit.ctxBufs
  extract_lets c need got
  clear_value got
  split
  · simp [hM]
  · split
    · rfl
    · split <;> rfl

theorem Fit.ctxPackets_outside (f : Fit) (n : Nat) (d : Decl) : (f.ctxPackets n d).s.outside M = f.s.outside M := by
  unfold Fit.ctxPackets
  dsimp only
  split <;> simp [hM]

theorem Fit.ctx_outside (grow : Bool) (f : Fit) (n : Nat) : (Fit.ctx grow f n).s.outside M = f.s.outside M := by
  unfold Fit.ctx
  dsimp only
  split
  · split <;> simp [hM]
  · split
    · rfl
    · rw [Fit.ctxPackets_outside M hM, Fit.ctxBufs_outside M hM]

theorem Fit.sheet_outside (grow : Bool) (f : Fit) (n : Nat) : (Fit.sheet grow f n).s.outside M = f.s.outside M := by
  unfold Fit.sheet
  dsimp only
  split
  · split <;> simp [hM]
  · split
    · rfl
    · split <;> simp [hM]

theorem Fit.recording_outside (grow : Bool) (f : Fit) (r : Nat) : (Fit.recording grow f r).s.outside M = f.s.outside M := by
  have hset : ∀ (s : State) (x : Rec), (s.setRecording r x).outside M = s.outside M := fun s x =>
    State.setRecording_outside M s r x (by simp [hM])
  unfold Fit.recording
  extract_lets x
  split
  · split
    · rfl
    · split
      · dsimp only
        split
        · exact (hset _ _).trans (hset _ _)
        · rfl
      · rfl
  · split
    · rfl
    · exact hset _ _

theorem Fit.surf_outside (grow : Bool) (f : Fit) (n : Nat) : (Fit.surf grow f n).s.outside M = f.s.outside M := by
  unfold Fit.surf
  dsimp only
  split
  · split
    · simp [hM]
    · split <;> rfl
  · rfl

theorem Fit.retention_outside (grow : Bool) (f : Fit) : (f.retention grow).s.outside M = f.s.outside M := by
  unfold Fit.retention
  dsimp only
  split
  · rfl
  · split <;> simp [State.outside, hM]

theorem State.fitPass_outside (s : State) (grow : Bool) : (s.fitPass grow).s.outside M = s.outside M := by
  have hfold : ∀ {β : Type} (g : Fit → β → Fit), (∀ x b, (g x b).s.outside M = x.s.outside M) → ∀ (l : List β) (x : Fit),
      (l.foldl g x).s.outside M = x.s.outside M := fun g h l x => foldl_same (fun x : Fit => x.s.outside M) g h l x
  unfold State.fitPass
  dsimp only
  rw [hfold _ (Fit.surf_outside M hM grow), Fit.retention_outside M hM, hfold _ (Fit.recording_outside M hM grow),
    hfold _ (Fit.sheet_outside M hM grow), hfold _ (Fit.ctx_outside M hM grow)]

theorem State.fitPools_outside (s : State) : s.fitPools.s.outside M = s.outside M := by
  unfold State.fitPools
  rw [State.fitPass_outside M hM, State.fitPass_outside M hM]

end

theorem State.fitPools_win (s : State) : s.fitPools.s.win = s.win :=
  (congrArg State.win (State.fitPools_outside { Mask.full with win := false } (by simp [Mask.full]) s) :)

theorem State.lay_one_win (s : State) (r : Request) (c : Change) (hc : r.changes = [c]) (hb : r.blob = none) (hs : r.stored = false) :
    (s.lay s.acceptTime r).s.win = (s.laid c).win := by
  unfold State.lay
  simp only [hc, hb, hs, Option.isSome_none, Bool.or_false, Bool.false_eq_true, if_false, List.foldl_cons, List.foldl_nil]
  split
  · rfl
  · exact State.fitPools_win _

end Sys2Proof.Machine
end

section
/-! What a change of an admitted request does at once leaves the admitted configuration, the queue of requests and GLB (R37, R38): only
a device reset clears them. -/

namespace Sys2Proof.Machine

/-- Every part of the state but GLB and the admitted configuration with its queue. -/
def Mask.effects : Mask := { Mask.full with glb := false, adm := false }

theorem effects_foldl {β : Type} (f : State → β → State) (h : ∀ s b, (f s b).outside Mask.effects = s.outside Mask.effects) (l : List β) (s : State) :
    (l.foldl f s).outside Mask.effects = s.outside Mask.effects := outside_foldl Mask.effects f h l s

/-- A choice between two states alike another is alike it. -/
theorem effects_ite {c : Prop} [Decidable c] {x y s : State} (hx : x.outside Mask.effects = s.outside Mask.effects)
    (hy : y.outside Mask.effects = s.outside Mask.effects) : (if c then x else y).outside Mask.effects = s.outside Mask.effects := by
  split
  · exact hx
  · exact hy

/-! ## Modes -/

theorem State.modeTo_effects (s : State) (m : Mode) (c : Nat) : (s.modeTo m c).outside Mask.effects = s.outside Mask.effects :=
  State.modeTo_outside Mask.effects s m c (by simp [Mask.effects, Mask.full])

theorem State.startRecs_effects (s : State) : s.startRecs.outside Mask.effects = s.outside Mask.effects :=
  State.startRecs_outside Mask.effects s (by simp [Mask.effects, Mask.full])

theorem State.pairTo_effects (s : State) (x : PairState) : (s.pairTo x).outside Mask.effects = s.outside Mask.effects :=
  State.pairTo_outside Mask.effects s x (by simp [Mask.effects, Mask.full])

theorem State.pairJoin_effects (s : State) : s.pairJoin.outside Mask.effects = s.outside Mask.effects :=
  State.pairJoin_outside Mask.effects s (by simp [Mask.effects, Mask.full])

theorem State.joinAsShadow_effects (s : State) : s.joinAsShadow.outside Mask.effects = s.outside Mask.effects :=
  (State.pairJoin_effects _).trans (State.pairTo_effects s .unpaired)

theorem State.enterRun_effects (s : State) (c : Nat) : (s.enterRun c).outside Mask.effects = s.outside Mask.effects :=
  State.enterRun_outside Mask.effects s c (by simp [Mask.effects, Mask.full])

theorem State.enterShadow_effects (s : State) (c : Nat) : (s.enterShadow c).outside Mask.effects = s.outside Mask.effects := by
  have h : (s.modeTo .shadow c).dropActOut.startRecs.outside Mask.effects = s.outside Mask.effects :=
    (State.startRecs_effects _).trans (State.modeTo_effects s .shadow c)
  exact h

theorem State.presentSafeHold_effects (s : State) (on : Bool) (a : Nat) :
    (s.presentSafeHold on a).outside Mask.effects = s.outside Mask.effects := by
  unfold State.presentSafeHold
  refine (effects_foldl _ (fun y h => ?_) _ _).trans rfl
  exact effects_ite rfl rfl

theorem State.latchedHold_effects (s : State) (p : Mode) : (s.latchedHold p).outside Mask.effects = s.outside Mask.effects := by
  unfold State.latchedHold
  exact (State.startRecs_effects _).trans ((State.presentSafeHold_effects _ _ _).trans (State.modeTo_effects s .safeHold _))

theorem State.enterSafeHold_effects (s : State) (c : ShCause) (a : Nat) :
    (s.enterSafeHold c a).outside Mask.effects = s.outside Mask.effects := by
  unfold State.enterSafeHold
  refine effects_ite ?_ (effects_ite rfl rfl)
  exact (State.presentSafeHold_effects _ _ _).trans (State.modeTo_effects s .safeHold _)

theorem State.raiseActOut_effects (s : State) : s.raiseActOut.outside Mask.effects = s.outside Mask.effects := by
  unfold State.raiseActOut
  exact effects_ite rfl rfl

theorem State.leaveSafeHold_effects (s : State) (a : Nat) : (s.leaveSafeHold a).outside Mask.effects = s.outside Mask.effects := by
  unfold State.leaveSafeHold
  refine effects_ite ?_ rfl
  refine (State.presentSafeHold_effects _ _ _).trans ((effects_ite (State.raiseActOut_effects _) rfl).trans ?_)
  refine effects_ite ((State.startRecs_effects _).trans (State.modeTo_effects _ _ _)) ?_
  dsimp only
  split
  · exact State.enterRun_effects _ _
  · exact State.enterShadow_effects _ _
  · exact State.modeTo_effects _ _ _

theorem State.provePair_effects (s : State) : s.provePair.outside Mask.effects = s.outside Mask.effects := by
  unfold State.provePair
  refine effects_ite ?_ rfl
  exact effects_ite (State.joinAsShadow_effects _) (State.pairTo_effects _ _)

theorem State.enterGo_effects (s : State) (b : Bool) : (s.enterGo b).outside Mask.effects = s.outside Mask.effects := by
  unfold State.enterGo
  exact effects_ite (State.latchedHold_effects _ _)
    (effects_ite ((State.joinAsShadow_effects _).trans (State.enterShadow_effects _ _)) (State.enterRun_effects _ _))

theorem State.goChange_effects (s : State) (w : GoWait) : (s.goChange w).outside Mask.effects = s.outside Mask.effects := by
  unfold State.goChange
  refine effects_ite ?_ (effects_ite rfl (State.enterGo_effects _ _))
  exact (State.provePair_effects _).trans ((State.startRecs_effects _).trans (State.modeTo_effects _ _ _))

theorem State.acceptGo_effects (s : State) (b : Bool) : (s.acceptGo b).outside Mask.effects = s.outside Mask.effects := by
  unfold State.acceptGo State.tryGo
  exact effects_ite (State.goChange_effects _ _) rfl

theorem State.sleep_effects (s : State) : s.sleep.outside Mask.effects = s.outside Mask.effects := by
  have hquiet : s.quiet.outside Mask.effects = s.outside Mask.effects := by
    unfold State.quiet
    rw [effects_foldl _ fun v l => State.laneTo_outside Mask.effects v l .off (by simp [Mask.effects, Mask.full]),
      effects_foldl (fun (v : State) r => v.recStop r) fun _ _ => rfl,
      effects_foldl _ fun v h => State.untrain_outside Mask.effects v h (by simp [Mask.effects, Mask.full])]
    rfl
  exact (State.lowerRail_outside Mask.effects _ (by simp [Mask.effects, Mask.full])).trans hquiet

/-- A mode command but RESET. -/
theorem State.actMode_effects (s : State) (a : Nat) (m : ModeCmd) (h : m ≠ .reset) :
    (s.actMode a m).outside Mask.effects = s.outside Mask.effects := by
  cases m with
  | go => exact State.acceptGo_effects _ _
  | goProving => exact State.acceptGo_effects _ _
  | safeHold => exact State.enterSafeHold_effects _ _ _
  | leaveSafeHold => exact effects_ite ((State.joinAsShadow_effects _).trans (State.leaveSafeHold_effects _ _)) (State.leaveSafeHold_effects _ _)
  | sleep => exact State.sleep_effects _
  | reset => exact absurd rfl h

/-! ## The other changes -/

theorem State.actPair_effects (s : State) (a op : Nat) : (s.actPair a op).outside Mask.effects = s.outside Mask.effects := by
  unfold State.actPair
  refine effects_ite (State.pairJoin_effects s) (effects_ite (State.pairTo_effects _ _) (effects_ite ?_ rfl))
  exact State.sendPair_outside Mask.effects _ _ (by simp [Mask.effects, Mask.full])

theorem State.domWrite_effects (s : State) (d : Fin 2) (x : Nat) : (s.domWrite d x).outside Mask.effects = s.outside Mask.effects := by
  have hlose : ∀ y : State, (y.loseDomain d).outside Mask.effects = y.outside Mask.effects := fun y =>
    State.loseDomain_outside Mask.effects y d (by simp [Mask.effects, Mask.full])
  unfold State.domWrite
  refine effects_ite ?_ ?_ <;> exact (effects_ite (hlose _) rfl).trans (effects_ite rfl rfl)

theorem State.actPlain_effects (s : State) (i sub v : Nat) : (s.actPlain i sub v).outside Mask.effects = s.outside Mask.effects := by
  unfold State.actPlain
  refine effects_ite (effects_ite rfl (effects_ite rfl (effects_ite rfl rfl))) (effects_ite (effects_ite (State.domWrite_effects _ _ _) rfl)
    (effects_ite (effects_ite rfl ?_) (effects_ite rfl rfl)))
  unfold State.beginStore State.setArea
  exact effects_ite rfl rfl

theorem State.act_effects (a rx : Nat) (s : State) (c : Change) (h : ∀ key, c ≠ .mode .reset key)
    (hi : ∀ n op, c ≠ .inst n op) : (State.act a rx s c).outside Mask.effects = s.outside Mask.effects := by
  cases c with
  | inst n op => exact absurd rfl (hi n op)
  | plain i sub v => exact State.actPlain_effects s i sub v
  | map n v p k => exact State.runDma_outside Mask.effects _ (by simp [Mask.effects, Mask.full])
  | surfDestroy n k =>
    refine (State.dropSurf_outside Mask.effects _ k (by simp [Mask.effects, Mask.full])).trans ?_
    exact effects_foldl _ (fun v w => State.failWork_outside Mask.effects v _ w (by simp [Mask.effects, Mask.full])) _ s
  | blazeSet n k x y w h p => exact State.resetChecker_outside Mask.effects s _ (by simp [Mask.effects, Mask.full])
  | mode m key => exact State.actMode_effects s a m fun e => h key (e ▸ rfl)
  | pairOp op => exact State.actPair_effects s a op
  | safety w => cases w <;> rfl
  | _ => rfl

end Sys2Proof.Machine
end

section
/-! What laying a change leaves (R37): GLB and the queue of requests. -/

namespace Sys2Proof.Machine

/-- GLB and the queue of requests. -/
def State.config (s : State) : Glb × List Request := (s.glb, s.adm.queue)

theorem State.config_of_effects {s w : State} (h : w.outside Mask.effects = s.outside Mask.effects) : w.config = s.config :=
  (congrArg State.config h :)

theorem State.config_of_rest {s w : State} (h : w.rest = s.rest) : w.config = s.config :=
  (congrArg (fun x : Rest => (x.glb, x.adm.queue)) h :)

@[simp] theorem Laid.bad_s (l : Laid) (b : Bool) (c d : Nat) : (l.bad b c d).s = l.s := rfl
@[simp] theorem Laid.put_s (l : Laid) (s : State) : (l.put s).s = s := rfl

@[simp] theorem Laid.generation_config (l : Laid) (e : List (Nat × BitVec 512)) : (l.generation e).s.config = l.s.config := by
  unfold Laid.generation
  split <;> rfl

theorem State.config_foldl {β : Type} (f : State → β → State) (h : ∀ s b, (f s b).config = s.config) (l : List β) (s : State) :
    (l.foldl f s).config = s.config := foldl_same State.config f h l s

theorem State.config_ite {c : Prop} [Decidable c] {x y s : State} (hx : x.config = s.config) (hy : y.config = s.config) :
    (if c then x else y).config = s.config := by
  split
  · exact hx
  · exact hy

theorem Laid.context_config (l : Laid) (n : Nat) (x : Settings) : (l.context n x).s.config = l.s.config := rfl

theorem Laid.apply_config (l : Laid) (i : Nat) (x : Settings) : (l.apply i x).s.config = l.s.config := by
  unfold Laid.apply
  split
  · rfl
  · dsimp only
    split <;> rfl

theorem Laid.stop_config (l : Laid) (i : Nat) : (l.stop i).s.config = l.s.config := by
  unfold Laid.stop
  dsimp only
  split <;> rfl

theorem Laid.prepare_config (l : Laid) (k : Nat) (bs : List (Nat × Nat)) (g : Option (List (Nat × BitVec 512)))
    (ds : List (Nat × Settings)) : (l.prepare k bs g ds).s.config = l.s.config := by
  have h : (if (l.s.salvo k).prepared = true then l.s.dropSalvo k (fun n => l.s.inSalvo (some k) n || bs.any (fun b => b.1 == n))
      else l.s).config = l.s.config := State.config_ite rfl rfl
  exact h

theorem Laid.commit_config (l : Laid) (k c a : Nat) : (l.commit k c a).s.config = l.s.config := by
  unfold Laid.commit
  split
  · have h : (if (l.s.salvo k).hasGen = true then { (l.s.setSalvo k { l.s.salvo k with
        commitAt := some (if c = 0 ∨ c < a then ceilDiv a 1000000 * 1000000 else c) }) with win := { l.s.win with salvo := true } }
      else l.s.setSalvo k { l.s.salvo k with commitAt := some (if c = 0 ∨ c < a then ceilDiv a 1000000 * 1000000 else c) }).config =
        l.s.config := State.config_ite rfl rfl
    exact h
  · rfl

theorem Laid.cancel_config (l : Laid) (k : Nat) : (l.cancel k).s.config = l.s.config := by
  unfold Laid.cancel
  split <;> rfl

theorem Laid.winBatch_config (l : Laid) (o : Option Nat) (e : List (Nat × BitVec 512)) : (l.winBatch o e).s.config = l.s.config := by
  cases o <;> rfl

theorem Laid.inst_config (l : Laid) (n : Nat) (op : InstOp) : (l.inst n op).s.config = l.s.config := by
  cases op with
  | reset squash clear =>
    cases clear
    · rfl
    · exact Laid.generation_config _ _
  | change g => exact Laid.generation_config _ _
  | destroy => exact Laid.generation_config _ _
  | restore p m b =>
    exact State.config_foldl (fun (s : State) v => s.setSurf v.index (restoredSurf n v)) (fun _ _ => rfl) b.surfs _
  | _ => rfl

theorem Laid.surfCreate_config (l : Laid) (n f w h r : Nat) : (l.surfCreate n f w h r).s.config = l.s.config := by
  unfold Laid.surfCreate
  dsimp only
  split <;> rfl

theorem Laid.tally_config (l : Laid) (p n : Nat) : (l.tally p n).s.config = l.s.config := by
  unfold Laid.tally
  dsimp only
  split <;> rfl

/-- No change that is laid places a request or writes GLB. -/
theorem Laid.change_config (a : Nat) (l : Laid) (c : Change) : (Laid.change a l c).s.config = l.s.config := by
  cases c with
  | apply i x => exact l.apply_config i x
  | stop i => exact l.stop_config i
  | prepare k bs g ds => exact l.prepare_config k bs g ds
  | commit k t => exact l.commit_config k t a
  | cancel k => exact l.cancel_config k
  | winBatch o e => exact l.winBatch_config o e
  | inst n op => exact l.inst_config n op
  | surfCreate n f w h r => exact l.surfCreate_config n f w h r
  | tallyStart o p n => exact l.tally_config p n
  | plain i sub v =>
    unfold Laid.change
    dsimp only
    split <;> rfl
  | ceiling x y gb =>
    unfold Laid.change
    dsimp only
    split <;> rfl
  | surfDestroy n k => exact State.config_ite rfl rfl
  | blazeSet n k x y w h p => exact State.config_ite rfl rfl
  | _ => rfl

theorem State.laid_queue (s : State) (c : Change) : (s.laid c).adm.queue = s.adm.queue :=
  congrArg Prod.snd (Laid.change_config s.acceptTime { s := s } c)

theorem State.laid_glb (s : State) (c : Change) : (s.laid c).glb = s.glb := congrArg Prod.fst (Laid.change_config s.acceptTime { s := s } c)

end Sys2Proof.Machine
end

section
/-! The queue served, settings blobs read and applied, ECC zones, a window generation committed, a salvo switched (R37, R38, R44, R46, R144,
R205). -/

namespace Sys2Proof.Machine

open Sys2Proof.Safety

/-- As `admits_one`, of a change that is neither an operation on an instance nor the reset. -/
theorem admits_change (i : Instr) (s u : State) (r : Request) (c : Change) (P : State → Prop) (hx : exec i s = .next (u.place r))
    (hc : r.changes = [c]) (hb : r.blob = none) (hs : r.stored = false) (hn : ∀ key, c ≠ .mode .reset key) (hi : ∀ n op, c ≠ .inst n op)
    (hP : atOnce u r → admissible u r → ∀ (Y V : State) (res : Nat), V.rest = (Y.act u.acceptTime r.received c).rest.accepted →
      (Y.rest = (u.laid c).rest.marked c ∨ Y.rest = ((u.laid c).rest.marked c).committed (u.lay u.acceptTime r).s.win (u.laid c).win.active) →
      (Request.gen r = true → Y.rest = ((u.laid c).rest.marked c).committed (u.lay u.acceptTime r).s.win (u.laid c).win.active) →
      P (V.answer r 0 res)) : admits i s u r P := by
  have hr : Request.resets r = false := by
    unfold Request.resets
    rw [hc]
    simp only [List.any_cons, List.any_nil, Bool.or_false]
  refine admits_one i s u r c P hx hc hb hs hr (u.laid_queue c) (fun Y h => ?_) hP
  exact (congrArg Prod.snd (State.config_of_effects (Y.act_effects u.acceptTime r.received c hn hi))).trans h

/-! ## ECC zones -/

theorem eccZonesWrite_admits (t : Nat) (v : BitVec 32) (s : State) (hup : s.up = true) (hl : s.locked = false) :
    admits (.eccZonesWrite t v) s ((s.at t).setReg 0x54 0) { by_ := .eccRegs, received := (s.at t).now, changes := [.eccZones v] }
      (fun w => w.reg 0x54 = 2 ^ 31 ∧ w.adm.ecc = s.eccValue v ∧ w.glb.dirty = true) := by
  have hx : exec (.eccZonesWrite t v) s = .next (((s.at t).setReg 0x54 0).place
      { by_ := .eccRegs, received := (s.at t).now, changes := [.eccZones v] }) := by
    refine (if_neg (by rw [show (s.at t).up = true from hup]; exact Bool.false_ne_true)).trans (if_neg ?_)
    rw [show (s.at t).locked = false from hl]
    exact Bool.false_ne_true
  refine admits_change _ _ _ _ _ _ hx rfl rfl rfl (fun _ h => by cases h) (fun _ _ h => by cases h) fun _ _ Y V res hV hY _ => ?_
  have hY' : Y.adm.ecc = s.eccValue v ∧ Y.glb.dirty = true := by
    rcases hY with h | h <;> exact ⟨(congrArg (fun x : Rest => x.adm.ecc) h :), (congrArg (fun x : Rest => x.glb.dirty) h :)⟩
  refine ⟨(State.setReg_self _ _ _).trans (Nat.zero_add _), ?_, ?_⟩
  · exact (congrArg (fun x : Rest => x.adm.ecc) hV :).trans hY'.1
  · exact (congrArg (fun x : Rest => x.glb.dirty) hV :).trans hY'.2

/-- Serving a queue that holds one request, judged at once, which fails a check. -/
theorem State.serveQueue_refused (u : State) (r : Request) (n : Nat) (h : atOnce u r) (ha : ¬ admissible u r) (hg : Request.gen r = false) :
    State.serveQueue { u with adm := { u.adm with queue := [r] } } (n + 1) =
      (({ u with adm := { u.adm with pos := u.adm.pos + 1 } } : State).answer r (reasonCode (firstReason (u.lay u.acceptTime r).why)) 0).serveQueue n := by
  obtain ⟨_, _, hp, hs, hq, _, _, hm, hr⟩ := h
  have hm' : State.mayJudge { u with adm := { u.adm with queue := [r] } } r = true := hm
  have hb : State.blocked { u with adm := { u.adm with queue := [r] } } r = false := by
    unfold State.blocked
    have : (!({ u with adm := { u.adm with queue := [r] } } : State).win.ready) = false := by simpa using hr
    rw [this]; rfl
  have hu : ({ u with adm := { u.adm with queue := [] } } : State) = u := by rw [← hq]
  have hf : u.judgeFirst r = ({ u with adm := { u.adm with pos := u.adm.pos + 1 } } : State).answer r
      (reasonCode (firstReason (u.lay u.acceptTime r).why)) 0 := by
    have hne : ¬ reasonCode (firstReason (u.lay u.acceptTime r).why) = 0 := ha
    unfold State.judgeFirst State.judge
    simp only [hne, hp, hs, hg, if_false, Bool.false_eq_true, and_false, false_and, or_false]
  conv => lhs; unfold State.serveQueue
  simp only [List.find?_cons, hm', hb]
  simp only [List.erase_cons_head, hu, Bool.false_eq_true, if_false]
  rw [hf]

theorem admissionRequestJudge_ecc (t : Nat) (s : State) (v : BitVec 32) (r : Request) (u : State) (hq : s.adm.queue = [r])
    (hby : r.by_ = .eccRegs) (hc : r.changes = [.eccZones v]) (hb : r.blob = none) (hs : r.stored = false)
    (hu : u = { s.at t with adm := { s.adm with queue := [] } }) (h : atOnce u r) :
    (admissible u r → gives (.admissionRequestJudge t) s (fun w => w = admitted u r ∧ w.reg 0x54 = 2 ^ 31 ∧
      w.adm.ecc = s.eccValue v ∧ w.adm.queue = [])) ∧
    (¬ admissible u r → gives (.admissionRequestJudge t) s (fun w => w.adm.ecc = s.adm.ecc ∧ w.adm.queue = [] ∧
      w.reg 0x54 = reasonCode (firstReason (u.lay u.acceptTime r).why) + 2 ^ 31)) := by
  have hs' : s.at t = { u with adm := { u.adm with queue := [r] } } := by rw [hu, ← hq]; rfl
  obtain ⟨hup, -, -, -, huq, huf, huw, -, -⟩ := id h
  have hrun : (s.at t).runQueue = State.serveQueue { u with adm := { u.adm with queue := [r] } } 5 := by
    have hup' : State.up { u with adm := { u.adm with queue := [r] } } = true := hup
    rw [hs']
    unfold State.runQueue
    rw [if_pos hup', State.refuseForwarded_none { u with adm := { u.adm with queue := [r] } } huf,
      State.applyWaiting_none { u with adm := { u.adm with queue := [r] } } huw]
    rfl
  refine ⟨fun ha => ?_, fun ha => ?_⟩
  · have hr : Request.resets r = false := by
      unfold Request.resets
      rw [hc]
      rfl
    obtain ⟨Y, V, res, hV, hrest, hY, -⟩ := admitted_one u r _ hc hb hs hr
    have hans : admitted u r = V.setResult 0x54 0 := by
      rw [hV, State.answer_tell _ _ _ _ (by rw [hby]; rfl), hby]
      rfl
    have hYa : Y.adm.queue = [] ∧ Y.adm.ecc = s.eccValue v := by
      have hlaid : (u.laid (.eccZones v)).adm.queue = [] ∧ (u.laid (.eccZones v)).adm.ecc = s.eccValue v := by rw [hu]; exact ⟨rfl, rfl⟩
      rcases hY with h | h <;>
        exact ⟨(congrArg (fun x : Rest => x.adm.queue) h :).trans hlaid.1, (congrArg (fun x : Rest => x.adm.ecc) h :).trans hlaid.2⟩
    have hVa : V.adm.queue = [] ∧ V.adm.ecc = s.eccValue v :=
      ⟨(congrArg (fun x : Rest => x.adm.queue) hrest :).trans hYa.1, (congrArg (fun x : Rest => x.adm.ecc) hrest :).trans hYa.2⟩
    refine ⟨_, rfl, ?_⟩
    show (s.at t).runQueue = _ ∧ _
    rw [hrun, State.serveQueue_admitted u r 4 h ha, State.serveQueue_none _ 4 (by rw [hans]; exact hVa.1), hans]
    exact ⟨rfl, (State.setReg_self _ _ _).trans (Nat.zero_add _), hVa.2, hVa.1⟩
  · have hg : Request.gen r = false := by
      unfold Request.gen
      rw [hc]
      rfl
    have hans : ({ u with adm := { u.adm with pos := u.adm.pos + 1 } } : State).answer r (reasonCode (firstReason (u.lay u.acceptTime r).why)) 0 =
        State.setResult { u with adm := { u.adm with pos := u.adm.pos + 1 } } 0x54 (reasonCode (firstReason (u.lay u.acceptTime r).why)) := by
      rw [State.answer_tell _ _ _ _ (by rw [hby]; rfl), hby]
      rfl
    have hserve := State.serveQueue_none (State.setResult { u with adm := { u.adm with pos := u.adm.pos + 1 } } 0x54
      (reasonCode (firstReason (u.lay u.acceptTime r).why))) 4 huq
    refine ⟨_, rfl, ?_⟩
    show (s.at t).runQueue.adm.ecc = _ ∧ (s.at t).runQueue.adm.queue = [] ∧ (s.at t).runQueue.reg 0x54 = _
    rw [hrun, State.serveQueue_refused u r 4 h ha hg, hans, hserve]
    exact ⟨by rw [hu]; rfl, huq, State.setReg_self _ _ _⟩

/-! ## A window generation -/

theorem winGenCommit_admits (t : Nat) (s : State) (hup : s.up = true) (ho : s.win.open_ = true) (hq : s.adm.queue = []) :
    admits (.winGenCommit t) s { s.at t with win := { s.win with done := false } }
      { by_ := .winRegs, received := (s.at t).now, changes := [.winCommit] }
      (fun w => w.win.done = true ∧ w.win.result = 0 ∧ w.win.open_ = false ∧ w.win.active = !s.win.active ∧
        w.win.genSeq = s.win.seq + 1) := by
  have hx : exec (.winGenCommit t) s = .next (State.place { s.at t with win := { s.win with done := false } }
      { by_ := .winRegs, received := (s.at t).now, changes := [.winCommit] }) := by
    refine (if_neg (by rw [show (s.at t).up = true from hup]; exact Bool.false_ne_true)).trans (if_pos ⟨ho, ?_⟩)
    rw [show (s.at t).adm.queue = [] from hq]
    exact Bool.false_ne_true
  refine admits_change _ _ _ _ _ _ hx rfl rfl rfl (fun _ h => by cases h) (fun _ _ h => by cases h) fun _ _ Y V res hV _ hg => ?_
  have h := hg rfl
  rw [State.lay_one_win _ _ _ rfl rfl rfl] at h
  refine ⟨rfl, rfl, ?_, ?_, ?_⟩
  · exact (congrArg Rest.open_ hV :).trans (congrArg Rest.open_ h :)
  · exact (congrArg Rest.active hV :).trans (congrArg Rest.active h :)
  · exact (congrArg Rest.genSeq hV :).trans (congrArg Rest.genSeq h :)

/-! ## A salvo's instant -/

theorem State.salvos_of_rest {w : State} {x : Rest} (h : w.rest = x) : w.salvos = x.salvos := congrArg Rest.salvos h

theorem State.salvoGeneration_adm (s : State) (a : Nat) (l : List (Nat × BitVec 512)) : (s.salvoGeneration a l).rest.adm = s.rest.adm ∧
    (s.salvoGeneration a l).salvos = s.salvos := by
  unfold State.salvoGeneration
  split
  · have h := State.acceptGeneration_rest (s.writeShadow l) a
    exact ⟨(congrArg Rest.adm h :), State.salvos_of_rest h⟩
  · exact ⟨rfl, rfl⟩

/-- Salvo `k` switched, in the configurations that wait and in the flag of the window generations too. -/
def State.salvoSwitched (s : State) (k : Nat) : State :=
  let sw := switchObjs (s.inSalvo (some k)) (s.salvo k).bindings
  { s.switched k with
    adm := { (s.switched k).adm with
      waiting := (s.switched k).adm.waiting.map (fun (p : Nat × List Nat × List Nat × Tab Obj) => (p.1, p.2.1, p.2.2.1, sw p.2.2.2)) },
    win := { (s.switched k).win with salvo := (s.switched k).salvos.any (fun p => p.2.commitAt.isSome && p.2.hasGen) } }

/-- The switch put in force at `c`: pools, units, and the checkers of the channels named. -/
def State.salvoLive (s : State) (c : Nat) (live : Tab Obj) (bs : List (Nat × Nat)) : State :=
  bs.foldl (fun (s : State) b => s.resetChecker (.ch b.2)) ((s.fitPools.s).goLive c [] [] live)

theorem execSalvoSwitch_due (t : Nat) (k : Fin 8) (c : Nat) (s : State) (hk : (s.salvo k.val).commitAt = some c) (hn : c ≤ (s.at t).now) :
    exec (.salvoSwitch t k) s = .next (if (s.salvo k.val).hasGen
      then (((s.at t).salvoSwitched k.val).salvoLive c (switchObjs (s.inSalvo (some k.val)) (s.salvo k.val).bindings s.adm.live)
        (s.salvo k.val).bindings).salvoGeneration c (s.salvo k.val).gen
      else ((s.at t).salvoSwitched k.val).salvoLive c (switchObjs (s.inSalvo (some k.val)) (s.salvo k.val).bindings s.adm.live)
        (s.salvo k.val).bindings) := by
  have hk' : ((s.at t).salvo k.val).commitAt = some c := hk
  show execSalvoSwitch t k s = _
  unfold execSalvoSwitch
  simp only [hk', if_pos hn]
  rfl

/-- What follows the switch of the objects leaves them, the windows and the salvos. -/
theorem State.salvoLive_rest (s : State) (c : Nat) (live : Tab Obj) (bs : List (Nat × Nat)) : (s.salvoLive c live bs).rest = s.rest :=
  (rest_foldl (fun (s : State) (b : Nat × Nat) => s.resetChecker (.ch b.2)) (fun v b => State.resetChecker_rest v (.ch b.2)) _ _).trans
    ((State.goLive_rest ..).trans (State.fitPools_rest s))

theorem salvoSwitch_due (t : Nat) (k : Fin 8) (c : Nat) (s : State) (hk : (s.salvo k.val).commitAt = some c) (hn : c ≤ (s.at t).now) :
    gives (.salvoSwitch t k) s (fun w => w.adm.objs = (s.switched k.val).adm.objs ∧ w.adm.wins = (s.switched k.val).adm.wins ∧
      (w.salvo k.val).prepared = false ∧ (w.salvo k.val).commitAt = none) := by
  refine gives_of_next (execSalvoSwitch_due t k c s hk hn) ?_
  have hlive := State.salvoLive_rest ((s.at t).salvoSwitched k.val) c
    (switchObjs (s.inSalvo (some k.val)) (s.salvo k.val).bindings s.adm.live) (s.salvo k.val).bindings
  generalize State.salvoLive _ _ _ _ = v at hlive ⊢
  have hw : ∃ w, w = (if (s.salvo k.val).hasGen then v.salvoGeneration c (s.salvo k.val).gen else v) ∧ w.rest.adm = v.rest.adm ∧
      w.salvos = v.salvos := by
    refine ⟨_, rfl, ?_⟩
    split
    · exact State.salvoGeneration_adm v c _
    · exact ⟨rfl, rfl⟩
  obtain ⟨w, hw, hadm, hsalvos⟩ := hw
  rw [← hw]
  have ha := hadm.trans (congrArg Rest.adm hlive :)
  have hs := hsalvos.trans (congrArg Rest.salvos hlive :)
  have hsalvo : w.salvo k.val = {} := by
    unfold State.salvo
    rw [hs]
    exact Tab.get_set_self _ _ _ _
  exact ⟨(congrArg Admitted.objs ha :), (congrArg Admitted.wins ha :), congrArg Salvo.prepared hsalvo, congrArg Salvo.commitAt hsalvo⟩

/-! ## A settings blob -/

/-- A change that is neither the reset nor an operation on an instance: of what it does at once GLB and the queue know nothing. -/
def Change.quiet : Change → Prop
  | .mode .reset _ | .inst _ _ => False
  | _ => True

theorem Change.quiet_ne {c : Change} (h : Change.quiet c) : (∀ key, c ≠ .mode .reset key) ∧ ∀ n op, c ≠ .inst n op :=
  ⟨fun _ e => by subst e; exact h, fun _ _ e => by subst e; exact h⟩

theorem actionChanges_quiet (x : Session) (o : Option Nat) (i v : Nat) : ∀ c ∈ (actionChanges x o i v).getD [], Change.quiet c := by
  intro c hc
  unfold actionChanges at hc
  dsimp only at hc
  repeat' split at hc
  all_goals simp only [Option.getD_some, Option.getD_none, List.mem_singleton, List.not_mem_nil] at hc
  all_goals
    subst hc
    trivial

theorem recordChanges_quiet (rs : List (Nat × Nat × List (BitVec 8))) : ∀ c ∈ recordChanges rs, Change.quiet c := by
  intro c hc
  unfold recordChanges at hc
  dsimp only at hc
  rw [List.mem_append, List.mem_append] at hc
  rcases hc with (hc | hc) | hc
  · obtain ⟨r, -, hr⟩ := List.mem_flatMap.mp hc
    split at hr
    · rw [List.mem_singleton.mp hr]
      trivial
    split at hr
    · rw [List.mem_singleton.mp hr]
      split <;> trivial
    split at hr
    · split at hr
      · cases hr
      · rw [List.mem_singleton.mp hr]
        trivial
    split at hr
    · cases hr
    · rw [List.mem_singleton.mp hr]
      trivial
  · obtain ⟨i, -, hi⟩ := List.mem_flatMap.mp hc
    exact actionChanges_quiet _ _ _ _ c hi
  · split at hc
    · cases hc
    · split at hc
      · cases hc
      · rw [List.mem_singleton.mp hc]
        trivial

theorem blobRequest_quiet (s : State) (who : Asker) (room : Nat) (l : List (BitVec 8)) : ∀ c ∈ (s.blobRequest who room l).changes, Change.quiet c := by
  have h : ∀ (b : Bool) (rs : List (Nat × Nat × List (BitVec 8))), ∀ c ∈ (if b then recordChanges rs else []), Change.quiet c := by
    intro b rs c hc
    cases b
    · cases hc
    · exact recordChanges_quiet rs c hc
  exact h _ _

theorem State.act_foldl_config (a rx : Nat) (cs : List Change) (s : State) (h : ∀ c ∈ cs, Change.quiet c) :
    (cs.foldl (State.act a rx) s).config = s.config := by
  induction cs generalizing s with
  | nil => rfl
  | cons c cs ih =>
    obtain ⟨hn, hi⟩ := Change.quiet_ne (h c List.mem_cons_self)
    exact (ih _ fun d hd => h d (List.mem_cons_of_mem c hd)).trans (State.config_of_effects (s.act_effects a rx c hn hi))

theorem Laid.foldl_config (a : Nat) (cs : List Change) (l : Laid) : (cs.foldl (Laid.change a) l).s.config = l.s.config :=
  foldl_same (fun x : Laid => x.s.config) (Laid.change a) (Laid.change_config a) cs l

/-- Laying a request leaves GLB and the queue. -/
theorem State.lay_config (s : State) (a : Nat) (r : Request) : (s.lay a r).s.config = s.config := by
  have hl : (r.changes.foldl (Laid.change a) { s := if r.blob.isSome || r.stored then s.defaults else s }).s.config = s.config :=
    (Laid.foldl_config a r.changes _).trans (State.config_ite rfl rfl)
  unfold State.lay
  dsimp only
  split
  · exact hl
  · exact (State.config_of_rest (State.fitPools_rest _)).trans hl

theorem State.config_of_rest_eq {w : State} {x : Rest} (h : w.rest = x) : w.config = (x.glb, x.adm.queue) :=
  congrArg (fun x : Rest => (x.glb, x.adm.queue)) h

/-- A blob accepted: GLB says so, and the queue stands. -/
theorem State.accept_blob_config (s : State) (a : Nat) (r : Request) (l : Laid) (f : BlobFacts) (hb : r.blob = some f)
    (hq : ∀ c ∈ r.changes, Change.quiet c) : ∃ m, (s.accept a r l).config =
      ({ l.s.glb with blobApplied := true, dirty := false, signed := f.signed, cfgHash := m }, l.s.adm.queue) := by
  unfold State.accept
  extract_lets new old fresh p0 new' cfg a0 s1 s2 s3
  have hc : cfg = true := by simp [cfg, hb]
  have h1 : ∃ m, s1.config = ({ l.s.glb with blobApplied := true, dirty := false, signed := f.signed, cfgHash := m }, l.s.adm.queue) := by
    simp only [s1, hc, if_true, State.configured, hb]
    exact ⟨_, rfl⟩
  obtain ⟨m, h1⟩ := h1
  have h2 : s2.config = s1.config := by
    refine State.config_ite ?_ rfl
    exact State.config_of_rest_eq (State.commitGen_rest s1 (s.genTime a r))
  have h3 : s3.config = s2.config := by
    refine State.config_ite ?_ rfl
    unfold State.plainDefaults
    exact State.config_of_effects ((State.domWrite_effects _ _ _).trans (State.domWrite_effects _ _ _))
  refine ⟨m, ?_⟩
  exact (State.config_of_rest (State.applyWaiting_rest _)).trans ((State.act_foldl_config a r.received r.changes s3 hq).trans
    (h3.trans (h2.trans h1)))

theorem Request.resets_of_quiet {r : Request} (hq : ∀ c ∈ r.changes, Change.quiet c) : Request.resets r = false := by
  unfold Request.resets
  refine List.any_eq_false.mpr fun c hc => ?_
  have h := hq c hc
  split
  · exact absurd h id
  · exact Bool.false_ne_true

theorem admitted_blob (u : State) (r : Request) (f : BlobFacts) (hb : r.blob = some f) (hq : ∀ c ∈ r.changes, Change.quiet c) :
    ∃ (V : State) (res : Nat) (m : Tab (BitVec 32)), admitted u r = V.answer r 0 res ∧
      V.config = ({ u.glb with blobApplied := true, dirty := false, signed := f.signed, cfgHash := m }, u.adm.queue) := by
  have hlay := u.lay_config u.acceptTime r
  obtain ⟨m, hm⟩ := u.accept_blob_config u.acceptTime r (u.lay u.acceptTime r) f hb hq
  rw [show (u.lay u.acceptTime r).s.glb = u.glb from congrArg Prod.fst hlay,
    show (u.lay u.acceptTime r).s.adm.queue = u.adm.queue from congrArg Prod.snd hlay] at hm
  unfold admitted
  simp only [Request.resets_of_quiet hq, Bool.false_eq_true, if_false]
  refine ⟨_, _, m, rfl, ?_⟩
  rw [← hm]
  refine State.config_ite ((State.config_of_rest (State.sendPair_rest _ _)).trans ?_) rfl
  rfl

theorem blobReadComplete_admits (t : Nat) (data : List (BitVec 8)) (s u : State) (hup : s.up = true) (hb : s.glb.blobReading = true)
    (hu : u = { s.at t with glb := { s.glb with blobReading := false } }) :
    admits (.blobReadComplete t data) s u (u.blobRequest .blobRegs (s.reg Reg.glbBlobLen) data)
      (fun w => w.reg 0x80 = 2 ^ 31 ∧ w.glb.blobReading = false ∧ w.glb.blobApplied = true ∧ w.glb.dirty = false ∧
        w.glb.signed = bit (fieldAt data 0x11 1) 0) := by
  have hx : exec (.blobReadComplete t data) s = .next (u.place (u.blobRequest .blobRegs (s.reg Reg.glbBlobLen) data)) := by
    rw [hu]
    exact if_pos ⟨hup, hb⟩
  obtain ⟨V, res, m, hV, hconf⟩ := admitted_blob u _ _ rfl (blobRequest_quiet u .blobRegs (s.reg Reg.glbBlobLen) data)
  have hans : admitted u (u.blobRequest .blobRegs (s.reg Reg.glbBlobLen) data) = V.setResult 0x80 0 := by
    rw [hV, State.answer_tell _ _ _ _ rfl]
    rfl
  refine admits_of _ _ _ _ _ (fun _ _ => hx) (fun h _ => ?_) fun _ _ => ?_
  · obtain ⟨-, -, -, -, hq, -⟩ := h
    rw [hans]
    exact (congrArg Prod.snd hconf :).trans hq
  · have hglb : V.glb = _ := congrArg Prod.fst hconf
    have hread : u.glb.blobReading = false := by rw [hu]
    rw [hans]
    refine ⟨(State.setReg_self _ _ _).trans (Nat.zero_add _), ?_⟩
    show V.glb.blobReading = false ∧ V.glb.blobApplied = true ∧ V.glb.dirty = false ∧ V.glb.signed = _
    rw [hglb]
    exact ⟨hread, rfl, rfl, rfl⟩

/-- Settles O51: each request goes through its admission; the salvo's switch is followed by effects that leave what it wrote. -/
theorem globalRequestsArePlaced : Obligations.GlobalRequestsArePlaced := by
  intro t s
  refine ⟨gives_of_next rfl rfl, fun v r u hq hby hc hb hs _ hu h => admissionRequestJudge_ecc t s v r u hq hby hc hb hs hu h, fun hup hr => ?_,
    fun data u hup hb hu => blobReadComplete_admits t data s u hup hb hu, fun v hup hl => eccZonesWrite_admits t v s hup hl,
    fun hup ho hq => winGenCommit_admits t s hup ho hq, fun k c hk hn => salvoSwitch_due t k c s hk hn⟩
  refine gives_of_next (if_pos ⟨hup, ?_⟩) ⟨rfl, State.setReg_self _ _ _⟩
  rw [show (s.at t).glb.blobReading = false from hr]
  exact Bool.false_ne_true

end Sys2Proof.Machine
end

section
/-! What ending an instance's work leaves of its instance (R320, R326, R335): all but its orders, rings, vectors and page groups. -/

namespace Sys2Proof

/-- An instance without its orders, rings, vectors, page groups and answers. -/
def Inst.life (i : Inst) : Inst :=
  { i with works := [], cq := {}, evq := {}, vecPend := 0, groups := [], nextGroup := 0, result := 0, done := false, mmuResult := 0, mmuDone := false }

end Sys2Proof

namespace Sys2Proof.Machine

/-! ## Transfers and commits that end: what `State.rest` holds -/

theorem rest_of_counts {s w : State} (h : CountsOnly s w) : w.rest = s.rest := by
  rw [h]
  rfl

theorem State.syncDma_rest (s : State) : s.syncDma.rest = s.rest := rest_of_counts s.syncDma_counts

theorem State.runDma_rest (s : State) : s.runDma.rest = s.rest := by
  unfold State.runDma
  split
  · rfl
  · exact s.syncDma_rest

theorem State.freeDma_rest (s : State) (n id : Nat) : (s.freeDma n id).rest = s.rest := by
  unfold State.freeDma
  split
  · exact (State.runDma_rest _).trans ((State.endWork_rest s.syncDma _ _).trans s.syncDma_rest)
  · rfl

theorem State.endCommit_rest (s : State) (w : Work) (k : Nat) (hold ok : Bool) : (s.endCommit w k hold ok).rest = s.rest := by
  unfold State.endCommit
  dsimp only
  rw [State.joinSource_rest]
  refine (ite_keeps State.rest ?_).trans ?_
  · rw [State.sendPair_rest, State.sendManifest_rest]
  · rw [State.setSurf_rest, State.becomeEligible_rest, State.setFrame_rest, State.writeStands_rest]

theorem State.failCommit_rest (s : State) (n : Nat) (w : Work) (k : Nat) (hold : Bool) : (s.failCommit n w k hold).rest = s.rest := by
  unfold State.failCommit
  dsimp only
  split
  · exact State.endCommit_rest ..
  · split
    · split
      · exact (State.endCommit_rest ..).trans (State.setSurf_rest ..)
      · exact State.setSurf_rest ..
    · rfl

/-! ## The life of an instance -/

theorem life_of_rest {s w : State} (h : w.rest = s.rest) (m : Nat) : (w.inst m).life = (s.inst m).life :=
  congrArg (fun x : Rest => (x.inst m).life) h

/-- Writing an instance with its life as it was. -/
theorem State.setInst_life (s : State) (n m : Nat) (x : Inst) (h : x.life = (s.inst n).life) : ((s.setInst n x).inst m).life = (s.inst m).life := by
  by_cases hm : m = n
  · subst hm
    rw [State.setInst_self, h]
  · exact congrArg Inst.life (Tab.get_set_other _ _ _ _ _ _ hm)

theorem State.signalVec_life (s : State) (n v m : Nat) : ((s.signalVec n v).inst m).life = (s.inst m).life := life_of_rest (s.signalVec_rest n v) m

theorem State.cqSignalled_life (s : State) (n m : Nat) :
    (((s.setInst n { s.inst n with cq := { (s.inst n).cq with signalled := true } }).signalVec n (s.inst n).cq.vec).inst m).life =
      (s.inst m).life :=
  (State.signalVec_life _ n _ m).trans (s.setInst_life n m _ rfl)

theorem State.cqSignal_life (s : State) (n m : Nat) : ((s.cqSignal n).inst m).life = (s.inst m).life := by
  unfold State.cqSignal
  dsimp only
  split
  · exact s.cqSignalled_life n m
  · rfl

theorem State.complete_life (s : State) (n id status reason result m : Nat) :
    ((s.complete n id status reason result).inst m).life = (s.inst m).life := by
  unfold State.complete
  split
  · rfl
  · dsimp only
    refine (ite_keeps (fun v : State => (v.inst m).life) ((State.cqSignalled_life _ n m).trans (State.cqSignal_life _ n m).symm)).trans
      ((State.cqSignal_life _ n m).trans ?_)
    rw [State.send_inst]
    split <;> exact s.setInst_life n m _ rfl

theorem State.squashWork_life (s : State) (n : Nat) (w : Work) (m : Nat) : ((s.squashWork n w).inst m).life = (s.inst m).life := by
  unfold State.squashWork
  rw [State.complete_life]
  refine (life_of_rest ?_ m).trans (life_of_rest (s.freeDma_rest n w.id) m)
  split
  · exact (State.pmc_rest ..).trans (State.failCommit_rest ..)
  · exact State.failCommit_rest ..
  · exact State.pmc_rest ..
  · rfl

theorem State.squash_life (s : State) (n m : Nat) : ((s.squash n).inst m).life = (s.inst m).life := by
  unfold State.squash
  refine (State.setInst_life _ n m _ ?_).trans ?_
  · rfl
  exact foldl_same (fun v : State => (v.inst m).life) (fun v w => v.squashWork n w) (fun v w => v.squashWork_life n w m) _ _

/-! ## The queue of requests under a squash -/

@[simp] theorem State.squashWork_adm (s : State) (n : Nat) (w : Work) : (State.squashWork s n w).adm = s.adm :=
  (congrArg State.adm (State.squashWork_outside { Mask.full with adm := false } s n w (by simp [Mask.full])) :)
@[simp] theorem State.instTo_adm (s : State) (n : Nat) (x : InstState) : (State.instTo s n x).adm = s.adm :=
  (congrArg State.adm (State.instTo_outside { Mask.full with adm := false } s n x (by simp [Mask.full])) :)

theorem State.squash_queue (s : State) (n : Nat) (h : s.adm.queue = []) : (s.squash n).adm.queue = [] := by
  unfold State.squash
  have hf := foldl_same State.adm (fun (v : State) w => v.squashWork n w) (fun v w => v.squashWork_adm n w)
  refine (congrArg Admitted.queue (hf _ _)).trans ?_
  show s.adm.queue.filter _ = []
  rw [h]
  rfl

/-- A reset as it begins: the instance's life, and the queue. -/
theorem State.beginReset_life (s : State) (n : Nat) (squash clear destroy : Bool) : ((s.beginReset n squash clear destroy).inst n).life =
    { (s.inst n).life with
      draining := true, freezing := false, saving := none, restoring := none, resetClear := clear, destroying := destroy, drainStart := s.now,
      state := .resetting } := by
  have hfirst : ∀ c d, ((s.beginReset n false c d).inst n).life = { (s.inst n).life with
      draining := true, freezing := false, saving := none, restoring := none, resetClear := c, destroying := d, drainStart := s.now,
      state := .resetting } := fun c d => by
    obtain ⟨e, v, h⟩ := beginReset_inst s n c d
    rw [h]
    rfl
  cases squash
  · exact hfirst clear destroy
  · exact (State.squash_life (s.beginReset n false clear destroy) n n).trans (hfirst clear destroy)

theorem State.beginReset_queue (s : State) (n : Nat) (squash clear destroy : Bool) (h : s.adm.queue = []) :
    (s.beginReset n squash clear destroy).adm.queue = [] := by
  have hfirst : (s.beginReset n false clear destroy).adm.queue = [] := (congrArg Admitted.queue (State.instTo_adm _ n .resetting)).trans h
  cases squash
  · exact hfirst
  · exact State.squash_queue (s.beginReset n false clear destroy) n hfirst

end Sys2Proof.Machine
end

section
/-! Operations on instances and their page maps, placed and admitted (R319 to R322, R332, R336 to R341). -/

namespace Sys2Proof.Machine

open Sys2Proof.Safety

/-- No operation that is laid changes what waits for a change epoch. -/
theorem State.laid_inst_changes (u : State) (n m : Nat) (op : InstOp) : ((u.laid (.inst n op)).inst m).changes = (u.inst m).changes := by
  have hgen : ∀ (l : Laid) (e : List (Nat × BitVec 512)), ((l.generation e).s.inst m).changes = (l.s.inst m).changes := fun l e => by
    unfold Laid.generation
    split <;> rfl
  have hset : ∀ (v : State) (x : Inst), x.changes = (v.inst n).changes → ((v.setInst n x).inst m).changes = (v.inst m).changes := fun v x h => by
    by_cases hm : m = n
    · subst hm
      rw [State.setInst_self, h]
    · exact congrArg Inst.changes (Tab.get_set_other _ _ _ _ _ _ hm)
  cases op with
  | reset squash clear =>
    cases clear
    · rfl
    · exact hgen _ _
  | change g => exact hgen _ _
  | destroy => exact hgen _ _
  | restore p q b =>
    refine (hset _ _ ?_).trans ?_
    · rfl
    exact foldl_same (fun v : State => (v.inst m).changes) (fun (v : State) x => v.setSurf x.index (restoredSurf n x)) (fun _ _ => rfl) b.surfs _
  | thaw => exact hset u _ rfl
  | _ => rfl

theorem State.actInst_queue (s : State) (a n : Nat) (op : InstOp) (h : s.adm.queue = []) : (s.actInst a n op).adm.queue = [] := by
  cases op with
  | reset squash clear => exact s.beginReset_queue n squash clear false h
  | destroy => exact s.beginReset_queue n true true true h
  | restore p m b => exact (congrArg Admitted.queue (State.instTo_adm _ n .restoring)).trans h
  | _ => exact h

/-- An instance after a request of one change, before the answer, up to its rings and vectors: as the change leaves it, from the state
`Y` in which it is laid. -/
theorem admits_inst (i : Instr) (n : Nat) (s u : State) (r : Request) (c : Change) (P : State → Prop) (hx : exec i s = .next (u.place r))
    (hc : r.changes = [c]) (hb : r.blob = none) (hs : r.stored = false) (hr : Request.resets r = false)
    (ha : ∀ Y : State, Y.adm.queue = [] → (Y.act u.acceptTime r.received c).adm.queue = [])
    (hP : ∀ (Y V : State) (res : Nat), (V.inst n).life = ((Y.act u.acceptTime r.received c).inst n).life →
      (Y.inst n).life = ((u.laid c).inst n).life → P (V.answer r 0 res)) : admits i s u r P := by
  refine admits_one i s u r c P hx hc hb hs hr (u.laid_queue c) ha fun _ _ Y V res hV hY _ => hP Y V res ?_ ?_
  · exact (congrArg (fun x : Rest => (x.inst n).life) hV :)
  · have hmark : ((u.laid c).rest.marked c).inst = (u.laid c).rest.inst := by
      unfold Rest.marked
      split <;> rfl
    have hinst : Y.rest.inst = (u.laid c).rest.inst := by
      refine Eq.trans ?_ hmark
      rcases hY with h | h <;> exact (congrArg Rest.inst h :)
    exact (congrArg (fun f : Nat → Inst => (f n).life) hinst :)

/-- An operation of the instance registers admitted: DONE with result 0, and the life that the operation makes of the instance. -/
theorem instOp_admits (i : Instr) (n : Nat) (s u : State) (op : InstOp) (P : Inst → Prop)
    (hx : exec i s = .next (u.place { by_ := .instRegs n, received := u.now, changes := [.inst n op] }))
    (hP : ∀ Y : State, (Y.inst n).changes = (u.inst n).changes → P ((Y.actInst u.acceptTime n op).inst n).life) :
    admits i s u { by_ := .instRegs n, received := u.now, changes := [.inst n op] }
      (fun w => (w.inst n).done = true ∧ (w.inst n).result = 0 ∧ P (w.inst n).life) := by
  refine admits_inst i n s u _ _ _ hx rfl rfl rfl rfl (fun Y h => Y.actInst_queue _ n op h) fun Y V res hV hY => ?_
  have hans : (V.answer { by_ := .instRegs n, received := u.now, changes := [.inst n op] } 0 res).inst n =
      { V.inst n with result := 0, done := true } := State.setInst_self V n _
  have hp := hP Y ((congrArg Inst.changes hY :).trans (u.laid_inst_changes n n op))
  rw [hans]
  exact ⟨rfl, rfl, hV ▸ hp⟩

/-- An operation placed through its registers. -/
theorem State.instOp_place (s : State) (n : Nat) (op : InstOp) (h : s.up = true) : s.instOp n op =
    (s.setInst n { s.inst n with done := false, staged := [] }).place
      { by_ := .instRegs n, received := (s.setInst n { s.inst n with done := false, staged := [] }).now, changes := [.inst n op] } :=
  if_pos h

/-! ## Page maps -/

/-- Entering `k` pages one after another from VPN `v`. -/
theorem pages_entered (v p k : Nat) (t : Tab Nat) (j : Nat) (hj : j < k) :
    Tab.get 0 ((List.range k).foldl (fun (t : Tab Nat) x => Tab.set 0 t (v + x) (p + x + 1)) t) (v + j) = p + j + 1 := by
  induction k with
  | zero => exact absurd hj (Nat.not_lt_zero j)
  | succ k ih =>
    rw [List.range_succ, List.foldl_append]
    by_cases hjk : j = k
    · subst hjk
      exact Tab.get_set_self _ _ _ _
    · refine (Tab.get_set_other _ _ _ _ _ _ (by omega)).trans (ih (by omega))

theorem State.wakePages_life (s : State) (n : Nat) : ((s.wakePages n).inst n).life = (s.inst n).life := by
  unfold State.wakePages
  refine (life_of_rest (State.runDma_rest _) n).trans ?_
  exact State.setInst_life s n n _ rfl

theorem mmuMap_admits (t : Nat) (n : Fin 32) (s v : State) (hup : s.up = true)
    (hv : v = (s.at t).setInst n.val { s.inst n.val with mmuDone := false }) : admits (.mmuMap t n) s v
      { by_ := .mmuRegs n.val, received := v.now, changes := [.map n.val (s.reg (Reg.mmuVpn n.val)) (s.reg (Reg.mmuPpn n.val)) (s.reg (Reg.mmuCount n.val))] }
      (fun w => (w.inst n.val).mmuDone = true ∧ (w.inst n.val).mmuResult = 0 ∧ ∀ k, k < s.reg (Reg.mmuCount n.val) →
        Tab.get 0 (w.inst n.val).pages (s.reg (Reg.mmuVpn n.val) + k) = s.reg (Reg.mmuPpn n.val) + k + 1) := by
  refine admits_inst _ n.val s v _ _ _ (by rw [hv]; exact if_pos hup) rfl rfl rfl rfl (fun Y h => ?_) fun Y V res hV hY => ?_
  · exact (congrArg Prod.snd (State.config_of_effects (Y.act_effects _ _ _ (fun _ h => by cases h) fun _ _ h => by cases h))).trans h
  · have hans : (V.answer { by_ := .mmuRegs n.val, received := v.now, changes := [.map n.val (s.reg (Reg.mmuVpn n.val))
        (s.reg (Reg.mmuPpn n.val)) (s.reg (Reg.mmuCount n.val))] } 0 res).inst n.val =
        { V.inst n.val with mmuResult := 0, mmuDone := true } := State.setInst_self V n.val _
    have hentered : ((v.laid (.map n.val (s.reg (Reg.mmuVpn n.val)) (s.reg (Reg.mmuPpn n.val)) (s.reg (Reg.mmuCount n.val)))).inst n.val).pages =
        _ := congrArg Inst.pages (State.setInst_self v n.val _)
    have hpages : (V.inst n.val).pages = _ :=
      (congrArg Inst.pages (hV.trans ((Y.wakePages_life n.val).trans hY)) :).trans hentered
    rw [hans]
    refine ⟨rfl, rfl, fun k hk => ?_⟩
    show Tab.get 0 (V.inst n.val).pages _ = _
    rw [hpages]
    exact pages_entered _ _ _ _ k hk

theorem mmuRevoke_admits (t : Nat) (n : Fin 32) (s v : State) (hup : s.up = true)
    (hv : v = (s.at t).setInst n.val { s.inst n.val with mmuDone := false }) : admits (.mmuRevoke t n) s v
      { by_ := .mmuRegs n.val, received := v.now, changes := [.revoke n.val (s.reg (Reg.mmuVpn n.val)) (s.reg (Reg.mmuCount n.val))] }
      (fun w => (w.inst n.val).mmuDone = true ∧ (w.inst n.val).mmuResult = 0 ∧
        ∃ e, (w.inst n.val).changes = (s.inst n.val).changes ++ [(.revoke (s.reg (Reg.mmuVpn n.val)) (s.reg (Reg.mmuCount n.val)), e)]) := by
  refine admits_inst _ n.val s v _ _ _ (by rw [hv]; exact if_pos hup) rfl rfl rfl rfl (fun Y h => h) fun Y V res hV hY => ?_
  have hans : (V.answer { by_ := .mmuRegs n.val, received := v.now, changes := [.revoke n.val (s.reg (Reg.mmuVpn n.val))
      (s.reg (Reg.mmuCount n.val))] } 0 res).inst n.val = { V.inst n.val with mmuResult := 0, mmuDone := true } := State.setInst_self V n.val _
  have hold : (Y.inst n.val).changes = (s.inst n.val).changes := by
    refine (congrArg Inst.changes hY :).trans ?_
    show (v.inst n.val).changes = _
    rw [hv, State.setInst_self]
  have hnew : (V.inst n.val).changes = (Y.inst n.val).changes ++ _ :=
    (congrArg Inst.changes hV :).trans (congrArg Inst.changes (State.setInst_self Y n.val _))
  rw [hans]
  refine ⟨rfl, rfl, Y.changeEpoch v.acceptTime (Y.inst n.val).grants, ?_⟩
  rw [← hold]
  exact hnew

/-- Settles O44: each operation through `instOp_admits`, at what it writes of the instance's life. -/
theorem instanceOperationsArePlaced : Obligations.InstanceOperationsArePlaced := by
  intro t n s u v hup hu hv
  have hchanges : (u.inst n.val).changes = (s.inst n.val).changes := by
    rw [hu, State.setInst_self]
  have hplace : ∀ op, .next ((s.at t).instOp n.val op) = (.next (u.place { by_ := .instRegs n.val, received := u.now, changes := [.inst n.val op] }) :
      Host.Outcome State Fault Refusal) := fun op => by
    rw [hu]
    exact congrArg _ ((s.at t).instOp_place n.val op hup)
  have hlater : ∀ (i : Instr) (op : InstOp) (c : PendingChange), exec i s = .next ((s.at t).instOp n.val op) →
      (∀ Y : State, ∃ e, Y.actInst u.acceptTime n.val op =
        Y.setInst n.val { Y.inst n.val with changes := (Y.inst n.val).changes ++ [(c, e)] }) →
      admits i s u { by_ := .instRegs n.val, received := u.now, changes := [.inst n.val op] }
        (fun w => (w.inst n.val).done = true ∧ (w.inst n.val).result = 0 ∧
          ∃ e, (w.inst n.val).changes = (s.inst n.val).changes ++ [(c, e)]) := fun i op c hx hact =>
    instOp_admits i n.val s u op (fun x => ∃ e, x.changes = (s.inst n.val).changes ++ [(c, e)]) (hx.trans (hplace op)) fun Y hY => by
      obtain ⟨e, he⟩ := hact Y
      refine ⟨e, ?_⟩
      rw [he, State.setInst_self]
      exact congrArg (· ++ _) (hY.trans hchanges)
  refine ⟨hlater _ _ _ rfl fun Y => ⟨_, rfl⟩, hlater _ _ _ rfl fun Y => ⟨_, rfl⟩, fun squash clear => ?_, hlater _ _ _ rfl fun Y => ⟨_, rfl⟩,
    fun need => ?_, fun bytes b c hc => ?_, hlater _ _ _ rfl fun Y => ⟨_, rfl⟩, ?_, mmuMap_admits t n s v hup hv, mmuRevoke_admits t n s v hup hv⟩
  · refine instOp_admits (.instReset t n squash clear) n.val s u (.reset squash clear) (fun x => x.state = .resetting ∧ x.draining = true)
      (hplace _) fun Y _ => ?_
    have h := Y.beginReset_life n.val squash clear false
    exact ⟨(congrArg Inst.state h :), (congrArg Inst.draining h :)⟩
  · refine instOp_admits (.instSave t n need) n.val s u _ (fun x => x.saving = some need) (hplace _) fun Y _ => ?_
    exact (congrArg Inst.saving (State.setInst_self Y n.val _) :)
  · rw [hc]
    refine instOp_admits (.instRestore t n ⟨bytes, b⟩) n.val s u _ (fun x => x.state = .restoring ∧ x.restoring = some _) (hplace _) fun Y _ => ?_
    obtain ⟨e, m, h⟩ := State.instTo_inst _ n.val .restoring
    exact ⟨(congrArg Inst.state h :), (congrArg Inst.restoring h :).trans (congrArg Inst.restoring (State.setInst_self _ n.val _))⟩
  · refine instOp_admits (.instDestroy t n) n.val s u .destroy (fun x => x.state = .resetting ∧ x.destroying = true) (hplace _) fun Y _ => ?_
    have h := Y.beginReset_life n.val true true true
    exact ⟨(congrArg Inst.state h :), (congrArg Inst.destroying h :)⟩

end Sys2Proof.Machine
end

section
/-! ACTION writes of objects, windows and salvos, placed and admitted (R143 to R146, R203, R374). -/

namespace Sys2Proof.Machine

open Sys2Proof.Safety

/-! ## An admissible request fails no check -/

theorem classOrder_pos : ∀ c ∈ classOrder, 0 < c := by decide

theorem reasonCode_ne_zero {l : List Reason} {c d : Nat} (hc : c ∈ classOrder) (h : (c, d) ∈ l) : reasonCode (firstReason l) ≠ 0 := by
  have hsome : (firstReason l).isSome = true := by
    unfold firstReason
    rw [List.findSome?_isSome_iff]
    refine ⟨c, hc, ?_⟩
    have hmem : d ∈ (l.filter (fun r => r.1 == c)).map Prod.snd := List.mem_map.mpr ⟨(c, d), List.mem_filter.mpr ⟨h, beq_self_eq_true c⟩, rfl⟩
    split
    · next he =>
      rw [he] at hmem
      cases hmem
    · rfl
  obtain ⟨⟨c', d'⟩, hr⟩ := Option.isSome_iff_exists.mp hsome
  have hc' : 0 < c' := by
    unfold firstReason at hr
    obtain ⟨b, hb, hbr⟩ := List.exists_of_findSome?_eq_some hr
    split at hbr
    · cases hbr
    · simp only [Option.some.injEq, Prod.mk.injEq] at hbr
      exact hbr.1 ▸ classOrder_pos b hb
  rw [hr]
  show c' * 256 + d' ≠ 0
  omega

/-- An admissible request of one change: the change finds no reason of a class against it. -/
theorem no_reason {u : State} {r : Request} {c : Change} (hc : r.changes = [c]) (hb : r.blob = none) (hs : r.stored = false)
    (h : admissible u r) {k d : Nat} (hk : k ∈ classOrder) : (k, d) ∉ (Laid.change u.acceptTime { s := u } c).why := by
  intro hmem
  refine reasonCode_ne_zero (d := d) hk ?_ h
  unfold State.lay
  simp only [hc, hb, hs, Option.isSome_none, Bool.or_false, Bool.false_eq_true, if_false, List.foldl_cons, List.foldl_nil]
  split
  · exact List.mem_append_right _ hmem
  · exact List.mem_append_left _ (List.mem_append_left _ (List.mem_append_left _ (List.mem_append_right _ hmem)))

/-! ## A change written by ACTION -/

/-- A change that only the admitted configuration knows: nothing is done at once. -/
def Change.laidOnly : Change → Prop
  | .apply _ _ | .stop _ | .prepare _ _ _ _ | .commit _ _ | .cancel _ | .winBatch _ _ => True
  | _ => False

theorem act_laidOnly {c : Change} (h : Change.laidOnly c) (a rx : Nat) (s : State) : s.act a rx c = s := by
  cases c with
  | apply | stop | prepare | commit | cancel | winBatch => rfl
  | _ => exact absurd h id

theorem Rest.marked_parts (x : Rest) (c : Change) : (x.marked c).adm = x.adm ∧ (x.marked c).salvos = x.salvos ∧
    (x.marked c).active = x.active ∧ (x.marked c).inst = x.inst ∧ (x.marked c).safe = x.safe := by
  unfold Rest.marked
  split <;> exact ⟨rfl, rfl, rfl, rfl, rfl⟩

/-- An ACTION write of one change admitted: `P` of what was laid, and of the generation committed. -/
theorem action_admits (i : Instr) (t : Nat) (s u : State) (p : DictPort) (idx : Nat) (v : List (BitVec 8)) (c : Change) (P : State → Prop)
    (hi : exec i s = .next ((s.at t).portWrite p idx (actionSub idx) v)) (hu : u = opened (s.at t) p)
    (hw : writable s p idx (actionSub idx) v) (hk : (objKind idx).isSome ∨ idx = 0x5100)
    (hc : actionChanges (s.session (DictPort.session p)) (DictPort.obo p) idx (leNat v) = some [c]) (hl : Change.laidOnly c)
    (hP : admissible u (portRequest u p idx (actionSub idx) [c]) → ∀ w : State, w.adm.objs = (u.laid c).adm.objs →
      w.salvos = (u.laid c).salvos → (Request.gen (portRequest u p idx (actionSub idx) [c]) = true →
        w.win.active = !(u.laid c).win.active ∧ w.win.genSeq = (u.laid c).win.seq + 1) → P w) :
    admits i s u (portRequest u p idx (actionSub idx) [c]) P := by
  have hsame : actionChanges ((opened (s.at t) p).session (DictPort.session p)) (DictPort.obo p) idx (leNat v) = some [c] := by
    rw [← hc]
    unfold opened
    rw [State.session_setSession_self]
    rfl
  have hx : exec i s = .next (u.place (portRequest u p idx (actionSub idx) [c])) := by
    rw [hi, hu, portWrite_action s t p idx v [c] hw hk hsame]
  have hn : ∀ key, c ≠ .mode .reset key := fun key e => by subst e; exact hl
  have hin : ∀ n op, c ≠ .inst n op := fun n op e => by subst e; exact hl
  refine admits_change i s u _ c P hx rfl rfl rfl hn hin fun _ ho Y V res hV hY hg => ?_
  rw [act_laidOnly hl] at hV
  obtain ⟨hadm, hsalvos, -, -, -⟩ := (u.laid c).rest.marked_parts c
  obtain ⟨d, x, y, f, hans⟩ := V.answer_rest (portRequest u p idx (actionSub idx) [c]) 0 res
  generalize V.answer (portRequest u p idx (actionSub idx) [c]) 0 res = w at hans ⊢
  have hYa : Y.adm.objs = (u.laid c).adm.objs ∧ Y.salvos = (u.laid c).salvos := by
    rcases hY with h | h <;> exact ⟨(congrArg (fun x : Rest => x.adm.objs) h :).trans (congrArg Admitted.objs hadm :),
      (congrArg Rest.salvos h :).trans hsalvos⟩
  refine hP ho w ?_ ?_ fun hgen => ?_
  · exact (congrArg (fun x : Rest => x.adm.objs) hans :).trans ((congrArg (fun x : Rest => x.adm.objs) hV :).trans hYa.1)
  · exact (congrArg Rest.salvos hans :).trans ((congrArg Rest.salvos hV :).trans hYa.2)
  · have h := hg hgen
    rw [State.lay_one_win _ _ _ rfl rfl rfl] at h
    exact ⟨(congrArg Rest.active hans :).trans ((congrArg Rest.active hV :).trans (congrArg Rest.active h :)),
      (congrArg Rest.genSeq hans :).trans ((congrArg Rest.genSeq hV :).trans (congrArg Rest.genSeq h :))⟩

/-! ## What each change lays -/

theorem ite_ne {α : Type} {c : Prop} [Decidable c] {a b x : α} (ha : a ≠ x) (hb : b ≠ x) : (if c then a else b) ≠ x := by
  split
  · exact ha
  · exact hb

/-- Only the index of a context is of its kind. -/
theorem objKind_ctx {i n : Nat} (h : objKind i = some (.ctx n)) : i = 0x4100 + n := by
  by_cases hi : 0x4100 ≤ i ∧ i < 0x41A0
  · unfold objKind at h
    rw [if_neg (by omega), if_pos hi] at h
    simp only [Option.some.injEq, ObjKind.ctx.injEq] at h
    omega
  · unfold objKind at h
    rw [if_neg hi] at h
    refine absurd h ?_
    iterate 11 refine ite_ne (fun e => by cases e) ?_
    exact fun e => by cases e

theorem objKind_salvo (k : Fin 8) : objKind (0x4200 + k.val) = some (.salvo k.val) := by
  have hk := k.isLt
  unfold objKind
  rw [if_neg (by omega), if_neg (by omega), if_pos (by omega), Nat.add_sub_cancel_left]

theorem laid_apply_set (u : State) (i : Nat) (x : Settings) (k : ObjKind) (hk : objKind i = some k) :
    ((u.laid (.apply i x)).obj i).set = overlay (u.obj i).set x := by
  show ((Laid.apply { s := u } i x).s.obj i).set = _
  unfold Laid.apply
  simp only [hk]
  cases k with
  | ctx n =>
    rw [objKind_ctx hk]
    exact congrArg Obj.set (Tab.get_set_self _ _ _ _)
  | _ => exact congrArg Obj.set (Tab.get_set_self _ _ _ _)

/-- A context released does not come on, and the others stand. -/
theorem releaseObj_off (keep : Bool) (objs : Tab Obj) (n i : Nat) (h : (Tab.get {} objs i : Obj).on = false) :
    (Tab.get {} (releaseObj keep objs n) i : Obj).on = false := by
  by_cases hi : i = 0x4100 + n
  · subst hi
    unfold releaseObj setCh
    cases keep
    · exact congrArg Obj.on (Tab.get_set_self _ _ _ _)
    · exact (congrArg Obj.on (Tab.get_set_self _ _ _ _)).trans h
  · unfold releaseObj setCh
    cases keep <;> exact (congrArg Obj.on (Tab.get_set_other _ _ _ _ _ _ hi)).trans h

theorem laid_stop_off (u : State) (i : Nat) : ((u.laid (.stop i)).obj i).on = false := by
  have h0 : (Tab.get {} (u.setObj i {}).adm.objs i : Obj).on = false := congrArg Obj.on (Tab.get_set_self _ _ _ _)
  show ((Laid.stop { s := u } i).s.obj i).on = false
  unfold Laid.stop
  dsimp only
  split
  · next c _ =>
    have hfold : ∀ (l : List Nat) (t : Tab Obj), (Tab.get {} t i : Obj).on = false →
        (Tab.get {} (l.foldl (fun t m => releaseObj ((u.setObj i {}).inSalvo none m) t m) t) i : Obj).on = false := fun l => by
      induction l with
      | nil => exact fun _ h => h
      | cons m l ih => exact fun t h => ih _ (releaseObj_off _ t m i h)
    exact hfold _ _ h0
  · exact h0
  · exact h0

theorem laid_prepare_salvo (u : State) (k : Nat) (bs : List (Nat × Nat)) (g : Option (List (Nat × BitVec 512))) (ds : List (Nat × Settings)) :
    Tab.get {} (u.laid (.prepare k bs g ds)).salvos k = ({ prepared := true, bindings := bs, gen := g.getD [], hasGen := g.isSome } : Salvo) :=
  Tab.get_set_self _ _ _ _

/-- A commit that passes its check has an instant, not before the acceptance. -/
theorem laid_commit_salvo (u : State) (k c : Nat) (h : (cMode, 0x44) ∉ (Laid.change u.acceptTime { s := u } (.commit k c)).why) :
    ∃ x, (Tab.get {} (u.laid (.commit k c)).salvos k : Salvo).commitAt = some x ∧ u.acceptTime ≤ x := by
  have hprep : u.isPrepared k = true := by
    refine Classical.byContradiction fun hno => ?_
    refine h ?_
    show _ ∈ (Laid.commit { s := u } k c u.acceptTime).why
    unfold Laid.commit
    rw [if_neg hno]
    exact List.mem_append_right _ (List.mem_singleton.mpr rfl)
  have hinstant : u.acceptTime ≤ if c = 0 ∨ c < u.acceptTime then ceilDiv u.acceptTime 1000000 * 1000000 else c := by
    split
    · have hceil := Nat.lt_div_mul_add (a := u.acceptTime + 1000000 - 1) (b := 1000000) (by omega)
      unfold ceilDiv
      omega
    · omega
  refine ⟨_, ?_, hinstant⟩
  show (Tab.get {} (Laid.commit { s := u } k c u.acceptTime).s.salvos k : Salvo).commitAt = _
  unfold Laid.commit
  rw [if_pos hprep]
  dsimp only [Laid.bad_s, Laid.put_s, State.startListed]
  split <;> exact congrArg Salvo.commitAt (Tab.get_set_self _ _ _ _)

theorem laid_cancel_salvo (u : State) (k : Nat) (h : (cMode, 0x44) ∉ (Laid.change u.acceptTime { s := u } (.cancel k)).why) :
    (Tab.get {} (u.laid (.cancel k)).salvos k : Salvo).prepared = false := by
  have hprep : u.isPrepared k = true := by
    refine Classical.byContradiction fun hno => ?_
    refine h ?_
    show _ ∈ (Laid.cancel { s := u } k).why
    unfold Laid.cancel
    rw [if_neg hno]
    exact List.mem_append_right _ (List.mem_singleton.mpr rfl)
  show (Tab.get {} (Laid.cancel { s := u } k).s.salvos k : Salvo).prepared = false
  unfold Laid.cancel
  rw [if_pos hprep]
  exact congrArg Salvo.prepared (Tab.get_set_self _ _ _ _)

/-! ## The commands -/

theorem actionSub_object {i : Nat} {k : ObjKind} (h : objKind i = some k) : actionSub i = 0x40 := by
  refine if_neg fun e => ?_
  rw [e, show objKind 0x5100 = none by decide] at h
  cases h

theorem actionChanges_object (x : Session) (o : Option Nat) (i : Nat) (k : ObjKind) (h : objKind i = some k) (hk : ∀ n, k ≠ .salvo n) :
    actionChanges x o i 1 = some [.apply i (Tab.get [] x.objs i)] ∧ actionChanges x o i 2 = some [.stop i] := by
  have hi : i ≠ 0x5100 := fun e => by
    rw [e, show objKind 0x5100 = none by decide] at h
    cases h
  unfold actionChanges
  simp only [if_neg hi, h]
  cases k with
  | salvo n => exact absurd rfl (hk n)
  | _ => exact ⟨rfl, rfl⟩

theorem actionChanges_salvo (x : Session) (o : Option Nat) (k : Fin 8) :
    actionChanges x o (0x4200 + k.val) 1 = some [.prepare k.val (bytePairs (Tab.get [] (Tab.get [] x.objs (0x4200 + k.val)) 1))
      (if stagedWins x = [] then none else some (stagedWins x)) (stagedDecls x)] ∧
    actionChanges x o (0x4200 + k.val) 2 = some [.commit k.val (leNat (Tab.get [] (Tab.get [] x.objs (0x4200 + k.val)) 2))] ∧
    actionChanges x o (0x4200 + k.val) 3 = some [.cancel k.val] := by
  have hk := k.isLt
  have hi : ¬ 0x4200 + k.val = 0x5100 := by omega
  unfold actionChanges
  simp only [if_neg hi, objKind_salvo]
  exact ⟨rfl, rfl, rfl⟩

/-- Settles O46: each ACTION write places one change through `action_admits`; its effect is what that change lays. -/
theorem objectActionsArePlaced : Obligations.ObjectActionsArePlaced := by
  intro t p s u x hu hx
  have hobj : ∀ i, (u.obj i).set = (s.obj i).set := fun i => by rw [hu]; rfl
  have hwin : u.win = s.win := by rw [hu]; rfl
  have hsub : ∀ k : Fin 8, 0x40 = actionSub (0x4200 + k.val) := fun k => (actionSub_object (objKind_salvo k)).symm
  refine ⟨fun idx k hk hns hw => ?_, fun idx k hk hns hw => ?_, fun hw => ?_, fun k hw => ?_, fun k hw => ?_, fun k hw => ?_⟩
  · rw [← actionSub_object hk] at hw ⊢
    refine action_admits _ t s u p idx.toNat [1] _ _ rfl hu hw (.inl (hk ▸ rfl)) ?_ trivial fun _ w ho _ _ => ?_
    · rw [← hx]
      exact (actionChanges_object x _ _ k hk hns).1
    · refine (congrArg (fun o => (Tab.get {} o idx.toNat : Obj).set) ho).trans ((laid_apply_set u _ _ k hk).trans ?_)
      rw [hobj]
  · rw [← actionSub_object hk] at hw ⊢
    refine action_admits _ t s u p idx.toNat [2] _ _ rfl hu hw (.inl (hk ▸ rfl)) ?_ trivial fun _ w ho _ _ => ?_
    · rw [← hx]
      exact (actionChanges_object x _ _ k hk hns).2
    · exact (congrArg (fun o => (Tab.get {} o idx.toNat : Obj).on) ho).trans (laid_stop_off u _)
  · refine action_admits (.windowBatchCommit t p) t s u p 0x5100 [1] _ _ rfl hu hw (.inr rfl) ?_ trivial fun _ w _ _ hg => ?_
    · rw [← hx]
      rfl
    · obtain ⟨ha, hs⟩ := hg rfl
      have hlaid : ∀ o e, (u.laid (.winBatch o e)).win = u.win := fun o e => by cases o <;> rfl
      rw [hlaid, hwin] at ha hs
      exact ⟨ha, hs⟩
  · rw [hsub] at hw ⊢
    refine action_admits (.salvoPrepare t p k) t s u p _ [1] _ _ (by rw [← hsub]; rfl) hu hw (.inl (objKind_salvo k ▸ rfl)) ?_ trivial fun _ w _ hs _ => ?_
    · rw [← hx]
      exact (actionChanges_salvo x _ k).1
    · have h := (congrArg (fun o => (Tab.get {} o k.val : Salvo)) hs).trans (laid_prepare_salvo u _ _ _ _)
      exact ⟨congrArg Salvo.prepared h, congrArg Salvo.commitAt h, congrArg Salvo.bindings h⟩
  · rw [hsub] at hw ⊢
    refine action_admits (.salvoCommit t p k) t s u p _ [2] _ _ (by rw [← hsub]; rfl) hu hw (.inl (objKind_salvo k ▸ rfl)) ?_ trivial fun ha w _ hs _ => ?_
    · rw [← hx]
      exact (actionChanges_salvo x _ k).2.1
    · obtain ⟨c, hc, hle⟩ := laid_commit_salvo u k.val _ (no_reason rfl rfl rfl ha (by decide))
      exact ⟨c, (congrArg (fun o => (Tab.get {} o k.val : Salvo).commitAt) hs).trans hc, hle⟩
  · rw [hsub] at hw ⊢
    refine action_admits (.salvoCancel t p k) t s u p _ [3] _ _ (by rw [← hsub]; rfl) hu hw (.inl (objKind_salvo k ▸ rfl)) ?_ trivial fun ha w _ hs _ => ?_
    · rw [← hx]
      exact (actionChanges_salvo x _ k).2.2
    · exact (congrArg (fun o => (Tab.get {} o k.val : Salvo).prepared) hs).trans
        (laid_cancel_salvo u k.val (no_reason rfl rfl rfl ha (by decide)))

end Sys2Proof.Machine
end

section
/-! Requests to the safety partition, placed and admitted (R222, R223, R384, R385). -/

namespace Sys2Proof.Machine

open Sys2Proof.Safety

@[simp] theorem State.sendPair_console (s : State) (m : PairMsg) : (State.sendPair s m).console = s.console :=
  (congrArg State.console (State.sendPair_outside { Mask.full with console := false } s m (by simp [Mask.full])) :)
@[simp] theorem State.complete_console (s : State) (n id status reason result : Nat) :
    (State.complete s n id status reason result).console = s.console :=
  (congrArg State.console (State.complete_outside { Mask.full with console := false } s n id status reason result
    (by simp [Mask.full])) :)
@[simp] theorem State.sendPair_dict (s : State) (m : PairMsg) : (State.sendPair s m).dict = s.dict :=
  (congrArg State.dict (State.sendPair_outside { Mask.full with dict := false } s m (by simp [Mask.full])) :)
@[simp] theorem State.complete_dict (s : State) (n id status reason result : Nat) :
    (State.complete s n id status reason result).dict = s.dict :=
  (congrArg State.dict (State.complete_outside { Mask.full with dict := false } s n id status reason result
    (by simp [Mask.full])) :)

/-- What an answer leaves of the console, and of the alarm requests in the dictionary. -/
theorem State.answer_requests (s : State) (r : Request) (reason result : Nat) : (s.answer r reason result).console = s.console ∧
    (s.answer r reason result).dict.requests = s.dict.requests := by
  have htell : ∀ v : State, (v.tell r.by_ reason result).console = v.console ∧ (v.tell r.by_ reason result).dict.requests = v.dict.requests := by
    intro v
    cases r.by_ with
    | work n id => exact ⟨State.complete_console .., congrArg Dict.requests (State.complete_dict ..)⟩
    | partner k => exact ⟨State.sendPair_console .., congrArg Dict.requests (State.sendPair_dict ..)⟩
    | _ => exact ⟨rfl, rfl⟩
  unfold State.answer
  split
  · obtain ⟨hc, hd⟩ := htell _
    refine ⟨hc, hd.trans ?_⟩
    dsimp only
    split <;> rfl
  · exact htell s

/-- A request of one write to the safety partition admitted: the partition as the write makes it, at the instant of receipt. -/
theorem admitted_safety (u : State) (r : Request) (x : SafetyWrite) (hc : r.changes = [.safety x]) (hb : r.blob = none) (hs : r.stored = false)
    (hw : u.adm.waiting = []) : (admitted u r).safe = (u.safetyApply r.received x).safe ∧
      (admitted u r).console = (u.safetyApply r.received x).console ∧
      (admitted u r).dict.requests = (u.safetyApply r.received x).dict.requests := by
  have hl : (u.lay u.acceptTime r).s = u := by
    unfold State.lay
    simp only [hc, hb, hs, Option.isSome_none, Bool.or_false, Bool.false_eq_true, if_false, List.foldl_cons, List.foldl_nil]
    rfl
  have haccept : u.accept u.acceptTime r (u.lay u.acceptTime r) = u.safetyApply r.received x := by
    rw [State.accept_bare u u.acceptTime r _ hl hb hs (by rw [hc]; rfl) (by unfold Request.gen; rw [hc]; rfl), hc]
    refine State.applyWaiting_none (u.safetyApply r.received x) ?_
    exact (congrArg (fun v : State => v.adm.waiting)
      (State.act_effects u.acceptTime r.received u (.safety x) (fun _ h => by cases h) fun _ _ h => by cases h) :).trans hw
  have hr : Request.resets r = false := by
    unfold Request.resets
    rw [hc]
    rfl
  unfold admitted
  simp only [hr, haccept, Bool.false_eq_true, if_false]
  obtain ⟨d, y, z, f, h⟩ := State.answer_rest _ r 0 _
  obtain ⟨hcon, hreq⟩ := State.answer_requests _ r 0 _
  refine ⟨(congrArg Rest.safe h :).trans ?_, hcon.trans ?_, hreq.trans ?_⟩
  · exact (ite_keeps State.safe (congrArg Rest.safe (State.sendPair_rest _ _) :)).trans rfl
  · exact (ite_keeps State.console (State.sendPair_console _ _)).trans rfl
  · exact (ite_keeps (fun v : State => v.dict.requests) (congrArg Dict.requests (State.sendPair_dict _ _))).trans rfl

/-- A dictionary write that asks the safety partition. -/
theorem safetyWrite_admits (i : Instr) (t : Nat) (s u : State) (p : DictPort) (idx sub : Nat) (v : List (BitVec 8)) (x : SafetyWrite)
    (P : State → Prop) (hi : exec i s = .next ((s.at t).portWrite p idx sub v)) (hu : u = opened (s.at t) p) (hw : writable s p idx sub v)
    (hk : objKind idx = none) (h5100 : idx ≠ 0x5100) (h6000 : 0x6000 ≤ idx ∧ idx < 0x7000)
    (hask : u.safeWrite p idx sub v = u.dictRequest p idx sub [.safety x])
    (hP : ∀ w : State, w.safe = (u.safetyApply u.now x).safe → w.console = (u.safetyApply u.now x).console →
      w.dict.requests = (u.safetyApply u.now x).dict.requests → P w) : admitsSafety i s u (portRequest u p idx sub [.safety x]) P := by
  intro hup hf hwait ha
  refine ⟨admitted u (portRequest u p idx sub [.safety x]), ?_, rfl, ?_⟩
  · have h2030 : idx ≠ 0x2030 := by omega
    rw [hi, portWrite_safety s t p idx sub v hw hk h5100 h6000, ← hu, hask]
    unfold State.dictRequest
    rw [if_neg h2030]
    exact congrArg Host.Outcome.next (State.place_safety u _ hup hf rfl rfl ha)
  · obtain ⟨h1, h2, h3⟩ := admitted_safety u (portRequest u p idx sub [.safety x]) x rfl rfl rfl hwait
    exact hP _ h1 h2 h3

/-- Rows of one length. -/
theorem length_flatMap_rows {α β : Type} (f : α → List β) (n : Nat) (h : ∀ a, (f a).length = n) (l : List α) :
    (l.flatMap f).length = l.length * n := by
  induction l with
  | nil => exact (Nat.zero_mul n).symm
  | cons a l ih => rw [List.flatMap_cons, List.length_append, h, ih, List.length_cons, Nat.succ_mul, Nat.add_comm]

theorem stagedCells_length (x : Session) : (stagedCells x).length = safeVal x 0x6002 4 * safeVal x 0x6002 5 := by
  unfold stagedCells
  rw [length_flatMap_rows _ (safeVal x 0x6002 4) (fun _ => by rw [List.length_map, List.length_range]), List.length_range, Nat.mul_comm]

theorem fieldCells_length (hs : List Nat) (cs : List (Nat × Nat × Bool × Nat × Nat)) (f : Nat → Nat × Nat × Bool × Nat × Nat → Nat × Nat × Nat × BitVec 16) :
    (hs.flatMap (fun h => cs.map (f h))).length = hs.length * cs.length :=
  length_flatMap_rows _ cs.length (fun h => List.length_map (f h)) hs

theorem leNat_leBytes_two (v : BitVec 16) : leNat (leBytes 2 v.toNat) = v.toNat := by
  have h := v.isLt
  simp only [leBytes, leNat, BitVec.toNat_ofNat]
  omega

/-- Settles O47: each write asks the safety partition for what its session and data spell; admitted, it waits there. -/
theorem safetyRequestsArePlaced : Obligations.SafetyRequestsArePlaced := by
  intro t p s u x hu hx
  have hsess : (u.session (DictPort.session p)).safe = x.safe := by
    rw [hu, hx]
    unfold opened
    rw [State.session_setSession_self]
    rfl
  have hval : ∀ i j, safeVal (u.session (DictPort.session p)) i j = safeVal x i j := fun i j => by
    unfold safeVal
    rw [hsess]
  have hcells : stagedCells (u.session (DictPort.session p)) = stagedCells x := by
    unfold stagedCells
    simp only [hval]
  have hsafe : u.safe = s.safe := by rw [hu]; rfl
  refine ⟨fun data hw => ?_, fun data pal hw hpal => ?_, fun hw => ⟨?_, stagedCells_length x⟩, fun q v hw hz => ?_⟩
  · refine safetyWrite_admits (.glyphBitmapRequest t p data) t s u p 0x6000 2 data _ _ rfl hu hw (by decide) (by decide) (by decide) ?_
      fun w h _ _ => ?_
    · unfold State.safeWrite
      simp only [hval]
      rfl
    · rw [h, ← hsafe]
      exact ⟨_, rfl, rfl, rfl, rfl, rfl, rfl, List.flatMap_eq_nil_iff.mpr fun _ _ => rfl⟩
  · refine safetyWrite_admits (.paletteEntriesRequest t p data) t s u p 0x6001 3 data _ _ rfl hu hw (by decide) (by decide) (by decide) ?_
      fun w h _ _ => ?_
    · unfold State.safeWrite
      simp only [hval, ← hpal]
      rfl
    · rw [h, ← hsafe]
      refine ⟨_, rfl, rfl, rfl, rfl, rfl, ?_⟩
      exact List.flatMap_eq_nil_iff.mpr fun _ _ => rfl
  · refine safetyWrite_admits (.cellFillRequest t p) t s u p 0x6002 0x10 [1] _ _ rfl hu hw (by decide) (by decide) (by decide) ?_
      fun w h _ _ => ?_
    · unfold State.safeWrite
      simp only [hval, hcells]
      rfl
    · rw [h, ← hsafe]
      exact ⟨_, rfl, rfl, rfl, fieldCells_length _ _ _⟩
  · refine safetyWrite_admits (.alarmRequestWrite t p q v) t s u p 0x6020 (q.val + 1) (leBytes 2 v.toNat) _ _ rfl hu hw (by decide) (by decide)
      (by decide) ?_ fun w _ hc hd => ?_
    · unfold State.safeWrite
      dsimp only
      rw [leNat_leBytes_two, if_neg (by omega), if_neg (by omega), if_neg (by omega), if_neg (by omega), if_pos rfl,
        if_neg (not_not_intro hz), Nat.add_sub_cancel]
    · have hconsole : u.console = s.console := by rw [hu]; rfl
      rw [hc, hd, ← hconsole]
      refine ⟨rfl, (Tab.get_set_self _ _ _ _).trans ?_⟩
      exact BitVec.ofNat_toNat _ _ |>.trans (BitVec.setWidth_eq v)

end Sys2Proof.Machine
end

section
/-! The mode commands and the pair's operations, placed and admitted; a GO that waits (R66, R290, R294, R313, R413 to R418, R421). -/

namespace Sys2Proof.Machine

open Sys2Proof.Safety

/-! ## A bare change admitted -/

@[simp] theorem State.sendPair_mode (s : State) (m : PairMsg) : (State.sendPair s m).mode = s.mode :=
  (congrArg State.mode (State.sendPair_outside { Mask.full with mode := false } s m (by simp [Mask.full])) :)
@[simp] theorem State.sendPair_aon (s : State) (m : PairMsg) : (State.sendPair s m).aon = s.aon :=
  (congrArg State.aon (State.sendPair_outside { Mask.full with aon := false } s m (by simp [Mask.full])) :)

/-- A mode command or an operation on the pair, other than the reset, where nothing waits to take effect: it acts on the state as it is,
and the answer follows, after a message to the partner perhaps. -/
theorem admitted_effect (u : State) (r : Request) (c : Change) (hc : r.changes = [c]) (hb : r.blob = none) (hs : r.stored = false)
    (hbare : Change.bare c = true) (hl : (u.laid c) = u) (hn : ∀ key, c ≠ .mode .reset key) (hi : ∀ n op, c ≠ .inst n op)
    (hw : u.adm.waiting = []) : ∃ (V : State) (res : Nat), admitted u r = V.answer r 0 res ∧ V.adm.queue = u.adm.queue ∧
      V.mode = (u.act u.acceptTime r.received c).mode ∧ V.aon = (u.act u.acceptTime r.received c).aon ∧
      V.pair = (u.act u.acceptTime r.received c).pair := by
  have hlay : (u.lay u.acceptTime r).s = u := by
    unfold State.lay
    simp only [hc, hb, hs, Option.isSome_none, Bool.or_false, Bool.false_eq_true, if_false, List.foldl_cons, List.foldl_nil, List.all_cons,
      List.all_nil, Bool.and_true, hbare, Option.isNone_none, Bool.not_false, if_true]
    exact hl
  have hgen : Request.gen r = false := by
    unfold Request.gen
    rw [hc]
    cases c with
    | winCommit => cases hbare
    | winBatch o e => cases hbare
    | _ => rfl
  have heff := u.act_effects u.acceptTime r.received c hn hi
  have haccept : u.accept u.acceptTime r (u.lay u.acceptTime r) = u.act u.acceptTime r.received c := by
    rw [State.accept_bare u u.acceptTime r _ hlay hb hs (by rw [hc]; simp [hbare]) hgen, hc]
    refine State.applyWaiting_none (u.act u.acceptTime r.received c) ?_
    exact (congrArg (fun v : State => v.adm.waiting) heff :).trans hw
  have hr : Request.resets r = false := by
    unfold Request.resets
    rw [hc]
    simp only [List.any_cons, List.any_nil, Bool.or_false]
  unfold admitted
  simp only [hr, haccept, Bool.false_eq_true, if_false]
  refine ⟨_, _, rfl, ?_, ?_, ?_, ?_⟩
  · exact (ite_keeps (fun v : State => v.adm.queue) (congrArg Admitted.queue (State.sendPair_adm _ _))).trans
      (congrArg (fun v : State => v.adm.queue) heff :)
  · exact (ite_keeps State.mode (State.sendPair_mode _ _)).trans rfl
  · exact (ite_keeps State.aon (State.sendPair_aon _ _)).trans rfl
  · exact (ite_keeps State.pair (State.sendPair_pair _ _)).trans rfl

/-- A request of one bare change that no check of its own refuses is admissible. -/
theorem admissible_bare {u : State} {r : Request} {c : Change} (hc : r.changes = [c]) (hb : r.blob = none) (hs : r.stored = false)
    (ho : r.obo = none) (hbare : Change.bare c = true) (hwhy : (Laid.change u.acceptTime { s := u } c).why = []) : admissible u r := by
  unfold admissible State.lay
  simp only [hc, hb, hs, ho, Option.isSome_none, Bool.or_false, Bool.false_eq_true, if_false, List.foldl_cons, List.foldl_nil, List.all_cons,
      List.all_nil, Bool.and_true, hbare, Option.isNone_none, Bool.not_false, if_true, Option.bind_none, hwhy]
  rfl

/-- A request judged at once and admissible: the command ends in the admitted state. -/
theorem place_bare {u : State} {r : Request} {c : Change} (hc : r.changes = [c]) (hb : r.blob = none) (hs : r.stored = false)
    (ho : r.obo = none) (hbare : Change.bare c = true) (hl : (u.laid c) = u) (hn : ∀ key, c ≠ .mode .reset key) (hi : ∀ n op, c ≠ .inst n op)
    (hwhy : (Laid.change u.acceptTime { s := u } c).why = []) (h : atOnce u r) : ∃ (V : State) (res : Nat), u.place r = V.answer r 0 res ∧
      V.mode = (u.act u.acceptTime r.received c).mode ∧ V.aon = (u.act u.acceptTime r.received c).aon ∧
      V.pair = (u.act u.acceptTime r.received c).pair := by
  have ha := admissible_bare (u := u) hc hb hs ho hbare hwhy
  obtain ⟨-, -, -, -, hq, -, hw, -, -⟩ := id h
  obtain ⟨V, res, hV, hqV, hm, hn', hp⟩ := admitted_effect u r c hc hb hs hbare hl hn hi hw
  refine ⟨V, res, ?_, hm, hn', hp⟩
  rw [State.place_admitted u r h ha, hV]
  refine State.serveQueue_none (V.answer r 0 res) 4 ?_
  rw [State.answer_adm]
  exact hqV.trans hq

/-- A mode command that passes the checks of R415, judged at once. -/
theorem commands_of (i : Instr) (t : Nat) (s : State) (c : ModeCmd) (key : Nat) (P : State → Prop) (hc : c ≠ .reset) (hup : s.up = true)
    (hx : exec i s = .next ((s.at t).modeCommand c key))
    (hP : s.modeWhy c key = [] → ∀ w : State,
      w.mode = (((s.at t).setReg 0x10008 0).actMode ((s.at t).setReg 0x10008 0).acceptTime c).mode →
      w.aon = (((s.at t).setReg 0x10008 0).actMode ((s.at t).setReg 0x10008 0).acceptTime c).aon → P w) : commands i t s c key P := by
  intro hwhy h
  obtain ⟨V, res, hV, hm, ha, -⟩ := place_bare (u := (s.at t).setReg 0x10008 0) (c := .mode c key) rfl rfl rfl rfl rfl rfl
    (fun k e => hc (by cases e; rfl)) (fun _ _ e => by cases e) hwhy h
  refine ⟨_, hx.trans (congrArg _ (if_pos hup)), ?_⟩
  show State.reg (State.place _ _) _ = _ ∧ P (State.place _ _)
  refine (congrArg (fun w : State => w.reg 0x10008 = 2 ^ 31 ∧ P w) hV).mpr ?_
  exact ⟨(State.setReg_self V 0x10008 _).trans (Nat.zero_add _), hP hwhy _ hm ha⟩

end Sys2Proof.Machine
end

section
/-! What the mode commands make of the mode (R294, R413 to R418, R421). -/

namespace Sys2Proof.Machine

open Sys2Proof.Safety

/-- A change of mode, whatever the mode before. -/
theorem State.modeTo_parts (s : State) (m : Mode) (c : Nat) : (s.modeTo m c).mode.mode = m ∧
    (s.modeTo m c).mode.shCause = s.mode.shCause ∧ (s.modeTo m c).mode.goWait = s.mode.goWait ∧
    (s.modeTo m c).aon = s.aon := by
  by_cases h : s.mode.mode = m
  · rw [State.modeTo_same _ _ _ h]
    exact ⟨h, rfl, rfl, rfl⟩
  · have hr := State.modeTo_rest s m c h
    generalize s.modeTo m c = w at hr ⊢
    exact ⟨(congrArg (fun x : Rest => x.mode.mode) hr :), (congrArg (fun x : Rest => x.mode.shCause) hr :),
      (congrArg (fun x : Rest => x.mode.goWait) hr :), (congrArg Rest.aon hr :)⟩

theorem State.mode_parts_of_rest {w v : State} (h : w.rest = v.rest) : w.mode.mode = v.mode.mode ∧ w.mode.prev = v.mode.prev ∧
    w.mode.shCause = v.mode.shCause ∧ w.mode.goWait = v.mode.goWait ∧ w.mode.railEn = v.mode.railEn ∧ w.aon = v.aon :=
  ⟨(congrArg (fun x : Rest => x.mode.mode) h :), (congrArg (fun x : Rest => x.mode.prev) h :), (congrArg (fun x : Rest => x.mode.shCause) h :),
    (congrArg (fun x : Rest => x.mode.goWait) h :), (congrArg (fun x : Rest => x.mode.railEn) h :), (congrArg Rest.aon h :)⟩

theorem State.modeTo_prev (s : State) (m : Mode) (c : Nat) (h : s.mode.mode ≠ m) : (s.modeTo m c).mode.prev = s.mode.mode := by
  have hr := State.modeTo_rest s m c h
  generalize s.modeTo m c = w at hr ⊢
  exact (congrArg (fun x : Rest => x.mode.prev) hr :)

theorem State.presentSafeHold_parts (s : State) (on : Bool) (a : Nat) : (s.presentSafeHold on a).mode.mode = s.mode.mode ∧
    (s.presentSafeHold on a).mode.prev = s.mode.prev ∧ (s.presentSafeHold on a).mode.shCause = s.mode.shCause ∧
    (s.presentSafeHold on a).mode.goWait = s.mode.goWait ∧ (s.presentSafeHold on a).aon = s.aon := by
  have hr := State.presentSafeHold_rest s on a
  generalize s.presentSafeHold on a = w at hr ⊢
  exact ⟨(congrArg (fun x : Rest => x.mode.mode) hr :), (congrArg (fun x : Rest => x.mode.prev) hr :),
    (congrArg (fun x : Rest => x.mode.shCause) hr :), (congrArg (fun x : Rest => x.mode.goWait) hr :), (congrArg Rest.aon hr :)⟩

/-! ## GO -/

/-- A GO's change to RUN from CONFIGURE. -/
theorem goChange_run_mode (s : State) (g : GoWait) (hg : g.proving = false) (hp : s.pair.en = false) (hl : s.aon.shLatch = false)
    (hm : s.mode.mode = .configure) : (s.goChange g).mode.mode = .run ∧ (s.goChange g).mode.prev = .configure ∧ (s.goChange g).mode.goWait = none := by
  rw [goChange_run s g hg hp hl]
  have hne : (s.setMode { s.mode with goWait := none }).mode.mode ≠ .run := by
    show s.mode.mode ≠ .run
    rw [hm]
    decide
  obtain ⟨h1, h2, -, h4, -, -⟩ := State.mode_parts_of_rest (State.enterRun_rest (s.setMode { s.mode with goWait := none }) 0)
  obtain ⟨k1, -, k3, -⟩ := State.modeTo_parts (s.setMode { s.mode with goWait := none }) .run 0
  exact ⟨h1.trans k1, h2.trans ((State.modeTo_prev _ .run 0 hne).trans hm), h4.trans k3⟩

theorem goChange_proving_mode (s : State) (g : GoWait) (hg : g.proving = true) (hp : s.pair.en = false) (hm : s.mode.mode = .configure) :
    (s.goChange g).mode.mode = .proving ∧ (s.goChange g).mode.prev = .configure ∧ (s.goChange g).mode.goWait = none := by
  rw [goChange_proving s g hg hp]
  have hne : (s.setMode { s.mode with goWait := none }).mode.mode ≠ .proving := by
    show s.mode.mode ≠ .proving
    rw [hm]
    decide
  obtain ⟨h1, h2, -, h4, -, -⟩ := State.mode_parts_of_rest (State.startRecs_rest ((s.setMode { s.mode with goWait := none }).modeTo .proving 0))
  obtain ⟨k1, -, k3, -⟩ := State.modeTo_parts (s.setMode { s.mode with goWait := none }) .proving 0
  exact ⟨h1.trans k1, h2.trans ((State.modeTo_prev _ .proving 0 hne).trans hm), h4.trans k3⟩

/-- A GO's change under the latch: SAFE-HOLD, as if from RUN. -/
theorem goChange_latched_mode (s : State) (g : GoWait) (hg : g.proving = false) (hp : s.pair.en = false) (hl : s.aon.shLatch = true) :
    (s.goChange g).mode.mode = .safeHold ∧ (s.goChange g).mode.prev = .run ∧ (s.goChange g).mode.shCause = .latched := by
  have hgo : s.goChange g = (s.setMode { s.mode with goWait := none }).latchedHold .run := by
    simp only [State.goChange, hg, Bool.false_eq_true, if_false]
    rw [if_neg (by rintro ⟨h, -⟩; exact absurd (hp.symm.trans h) Bool.false_ne_true)]
    have hto : (s.pair.en && s.pair.actIn) = false := by rw [hp]; rfl
    show State.enterGo (s.setMode { s.mode with goWait := none }) (s.pair.en && s.pair.actIn) = _
    rw [hto]
    exact if_pos hl
  rw [hgo]
  unfold State.latchedHold
  dsimp only
  obtain ⟨h1, h2, h3, -, -, -⟩ := State.mode_parts_of_rest (State.startRecs_rest (State.presentSafeHold _ true _))
  obtain ⟨k1, k2, k3, -, -⟩ := State.presentSafeHold_parts _ true _
  obtain ⟨m1, -, -, -⟩ := State.modeTo_parts (s.setMode { s.mode with goWait := none }) .safeHold ShCause.latched.code
  exact ⟨h1.trans (k1.trans m1), h2.trans (k2.trans rfl), h3.trans (k3.trans rfl)⟩

theorem acceptGo_locked (s : State) (b : Bool) (h : s.time.servo = .locked) : ∃ g : GoWait, g.proving = b ∧ s.acceptGo b =
    (s.setMode { s.mode with goWait := some g }).goChange g := by
  unfold State.acceptGo State.tryGo
  exact ⟨_, rfl, if_pos (.inr h)⟩

/-! ## SAFE-HOLD -/

theorem enterSafeHold_mode (s : State) (c : ShCause) (a : Nat) (h : holdable s.mode.mode = true) :
    (s.enterSafeHold c a).mode.mode = .safeHold ∧ (s.enterSafeHold c a).mode.prev = s.mode.mode ∧ (s.enterSafeHold c a).mode.shCause = c ∧
      (s.enterSafeHold c a).aon.shLatch = true := by
  have hne : s.mode.mode ≠ .safeHold := fun e => by
    rw [e] at h
    cases h
  have hx : s.enterSafeHold c a = State.presentSafeHold { s.modeTo .safeHold c.code with
      mode := { (s.modeTo .safeHold c.code).mode with shCause := c },
      aon := { (s.modeTo .safeHold c.code).aon with shLatch := true } } true a := if_pos h
  obtain ⟨k1, k2, k3, -, k5⟩ := State.presentSafeHold_parts { s.modeTo .safeHold c.code with
      mode := { (s.modeTo .safeHold c.code).mode with shCause := c },
      aon := { (s.modeTo .safeHold c.code).aon with shLatch := true } } true a
  obtain ⟨m1, -, -, -⟩ := State.modeTo_parts s .safeHold c.code
  rw [hx]
  exact ⟨k1.trans m1, k2.trans (State.modeTo_prev s .safeHold c.code hne), k3, congrArg Aon.shLatch k5⟩

/-- Leaving SAFE-HOLD begins: no cause, no latch. -/
def State.unheld (s : State) : State := { s with mode := { s.mode with shCause := .none }, aon := { s.aon with shLatch := false } }

/-- The mode returned to: that before, or DEGRADED where a unit is isolated. -/
def State.resumed (s : State) : State :=
  if s.anyIsolated && trialMode s.mode.prev then (s.modeTo .degraded 0).startRecs
  else match s.mode.prev with
    | .run => s.enterRun 0
    | .shadow => s.enterShadow 0
    | m => s.modeTo m 0

theorem State.leaveSafeHold_eq (s : State) (a : Nat) (h : s.mode.mode = .safeHold) : s.leaveSafeHold a =
    (if s.unheld.resumed.mode.mode = .degraded ∧ ¬ s.unheld.resumed.pair.shadow then s.unheld.resumed.raiseActOut
      else s.unheld.resumed).presentSafeHold false a := if_pos h

theorem State.resumed_rest (s : State) : ∃ m, s.resumed.rest = (s.modeTo m 0).rest ∧ (s.anyIsolated = false → m = s.mode.prev) := by
  unfold State.resumed
  split
  · next hiso =>
    refine ⟨.degraded, State.startRecs_rest _, fun hi => ?_⟩
    rw [hi] at hiso
    cases hiso
  · split
    · next hp => exact ⟨.run, State.enterRun_rest _ _, fun _ => hp.symm⟩
    · next hp => exact ⟨.shadow, State.enterShadow_rest _ _, fun _ => hp.symm⟩
    · exact ⟨_, rfl, fun _ => rfl⟩

theorem State.raiseActOut_rest (s : State) : s.raiseActOut.rest = s.rest := by
  unfold State.raiseActOut
  split <;> rfl

theorem leaveSafeHold_mode (s : State) (a : Nat) (h : s.mode.mode = .safeHold) : (s.leaveSafeHold a).aon.shLatch = false ∧
    (s.leaveSafeHold a).mode.shCause = .none ∧ (s.anyIsolated = false → (s.leaveSafeHold a).mode.mode = s.mode.prev) := by
  rw [s.leaveSafeHold_eq a h]
  obtain ⟨m, hv, hm⟩ := s.unheld.resumed_rest
  generalize s.unheld.resumed = v at hv ⊢
  obtain ⟨k1, -, k3, -, k5⟩ := State.presentSafeHold_parts (if v.mode.mode = .degraded ∧ ¬ v.pair.shadow then v.raiseActOut else v) false a
  obtain ⟨h1, -, h3, -, -, h6⟩ := State.mode_parts_of_rest ((ite_keeps State.rest v.raiseActOut_rest).trans hv :
    (if v.mode.mode = .degraded ∧ ¬ v.pair.shadow then v.raiseActOut else v).rest = _)
  obtain ⟨m1, m2, -, m4⟩ := State.modeTo_parts s.unheld m 0
  exact ⟨congrArg Aon.shLatch (k5.trans (h6.trans m4)), k3.trans (h3.trans m2), fun hi => k1.trans (h1.trans (m1.trans (hm hi)))⟩

/-! ## SLEEP -/

theorem State.quiet_rest (s : State) : s.quiet.rest = s.rest := by
  unfold State.quiet
  refine (rest_foldl (fun (v : State) l => v.laneTo l .off) (fun v l => v.laneTo_rest l .off) _ _).trans ?_
  refine (rest_foldl (fun (v : State) r => v.recStop r) (fun _ _ => rfl) _ _).trans ?_
  exact (rest_foldl (fun (v : State) h => v.untrain h) (fun v h => v.untrain_rest h) _ _).trans rfl

/-- With a rail up, lowering takes one of them down. -/
theorem lowerRail_lowers (s : State) (h : s.mode.railEn ≠ 0) : s.lowerRail.mode.downCause = s.mode.downCause ∧
    ∃ i, s.lowerRail.mode.phase = .railDown i ∧ s.mode.railEn.getLsbD i = true ∧ s.lowerRail.mode.railEn.getLsbD i = false := by
  obtain ⟨j, hj⟩ : ∃ j, s.mode.railEn.getLsbD j = true := by
    refine Classical.byContradiction fun hno => ?_
    refine h (BitVec.eq_of_getLsbD_eq fun i _ => ?_)
    rw [show BitVec.getLsbD (0 : BitVec 12) i = false from BitVec.getLsbD_zero]
    exact eq_false_of_ne_true fun hi => hno ⟨i, hi⟩
  have hmem : j ∈ (List.range 12).reverse.filter (fun i => s.mode.railEn.getLsbD i) :=
    List.mem_filter.mpr ⟨List.mem_reverse.mpr (List.mem_range.mpr (BitVec.lt_of_getLsbD hj)), hj⟩
  obtain ⟨i, hi⟩ : ∃ i, ((List.range 12).reverse.filter (fun i => s.mode.railEn.getLsbD i)).head? = some i :=
    Option.isSome_iff_exists.mp (List.isSome_head?.mpr (List.ne_nil_of_mem hmem))
  have hon : s.mode.railEn.getLsbD i = true := (List.mem_filter.mp (List.mem_of_head? hi)).2
  unfold State.lowerRail
  simp only [hi]
  refine ⟨rfl, i, rfl, hon, ?_⟩
  show (s.mode.railEn &&& ~~~ BitVec.ofNat 12 (2 ^ i)).getLsbD i = false
  have hlt : i < 12 := BitVec.lt_of_getLsbD hon
  rw [BitVec.getLsbD_and, BitVec.getLsbD_not, BitVec.getLsbD_ofNat, Nat.testBit_two_pow_self]
  simp [hlt]

end Sys2Proof.Machine
end

section
/-! The obligation on the mode commands and the pair's operations (R66, R290, R294, R413 to R418, R421). -/

namespace Sys2Proof.Machine

open Sys2Proof.Safety

theorem chk_eq_nil {b : Bool} {c d : Nat} (h : chk b c d = []) : b = false := by
  cases b with
  | false => rfl
  | true => cases h

/-- What the checks of R415 give of a command that they let pass. -/
theorem modeWhy_go {s : State} {key : Nat} (h : s.modeWhy .go key = []) : s.mode.mode = .configure := by
  obtain ⟨h1, -⟩ := List.append_eq_nil_iff.mp h
  simpa using chk_eq_nil h1

theorem modeWhy_goProving {s : State} {key : Nat} (h : s.modeWhy .goProving key = []) : s.mode.mode = .configure := by
  obtain ⟨h1, -⟩ := List.append_eq_nil_iff.mp h
  obtain ⟨-, h2⟩ := List.append_eq_nil_iff.mp h1
  simpa using chk_eq_nil h2

theorem modeWhy_safeHold {s : State} {key : Nat} (h : s.modeWhy .safeHold key = []) : holdable s.mode.mode = true := by
  simpa using chk_eq_nil (b := !holdable s.mode.mode) h

theorem modeWhy_leaveSafeHold {s : State} {key : Nat} (h : s.modeWhy .leaveSafeHold key = []) : s.mode.mode = .safeHold := by
  obtain ⟨-, h2⟩ := List.append_eq_nil_iff.mp h
  simpa using chk_eq_nil h2

theorem modeWhy_key {s : State} {key : Nat} (h : s.modeWhy .reset key = []) : key = 0x5AFE := by
  simpa using chk_eq_nil h

/-! ## A GO that waits -/

theorem State.at_time_firstEnabled (s : State) (t : Nat) : (s.at t).time.firstEnabled = s.time.firstEnabled := by rw [s.at_time t]

theorem State.goChange_quiet (s : State) (w : GoWait) (h : quietQueue s) : quietQueue (s.goChange w) := by
  have hadm : (s.goChange w).adm = s.adm := (congrArg State.adm (s.goChange_effects w) :)
  unfold quietQueue
  rw [hadm]
  exact h

theorem State.tryGo_some (s : State) (w : GoWait) (h : s.mode.goWait = some w) (hgo : w.expired = true ∨ s.time.servo = .locked) :
    s.tryGo = s.goChange w := by
  unfold State.tryGo
  simp only [h]
  exact if_pos hgo

theorem lockWaitExpire_over (t : Nat) (s : State) (w : GoWait) (a : Nat) (hw : s.mode.goWait = some w) (hf : s.time.firstEnabled = some a)
    (hn : a + s.lockWait ≤ (s.at t).time.lct) : exec (.lockWaitExpire t) s = .next (State.runQueue
      (State.goChange ((s.at t).setMode { s.mode with goWait := some { w with expired := true } }) { w with expired := true })) := by
  have hw' : (s.at t).mode.goWait = some w := hw
  have hf' : (s.at t).time.firstEnabled = some a := (s.at_time_firstEnabled t).trans hf
  show execLockWaitExpire t s = _
  unfold execLockWaitExpire
  simp only [hw', hf']
  refine (if_pos hn).trans ?_
  rw [State.tryGo_some _ { w with expired := true } rfl (.inl rfl)]
  rfl

/-- What a waiting GO's change leaves where nothing waits in the queue and no pair is made: the mode it was given. -/
theorem goChange_ends (s : State) (w : GoWait) (hq : quietQueue s) (hp : s.pair.en = false) (hm : s.mode.mode = .configure) :
    (w.proving = true → (s.goChange w).runQueue.mode.mode = .proving ∧ (s.goChange w).runQueue.mode.goWait = none) ∧
    (w.proving = false → s.aon.shLatch = false → (s.goChange w).runQueue.mode.mode = .run ∧ (s.goChange w).runQueue.mode.goWait = none) ∧
    (w.proving = false → s.aon.shLatch = true → (s.goChange w).runQueue.mode.mode = .safeHold ∧ (s.goChange w).runQueue.mode.prev = .run ∧
      (s.goChange w).runQueue.mode.shCause = .latched) := by
  rw [State.runQueue_quiet _ (s.goChange_quiet w hq)]
  refine ⟨fun hg => ?_, fun hg hl => ?_, fun hg hl => goChange_latched_mode s w hg hp hl⟩
  · obtain ⟨h1, -, h3⟩ := goChange_proving_mode s w hg hp hm
    exact ⟨h1, h3⟩
  · obtain ⟨h1, -, h3⟩ := goChange_run_mode s w hg hp hl hm
    exact ⟨h1, h3⟩

theorem lockWaitExpire_ends (t : Nat) (s : State) (w : GoWait) (a : Nat) (hw : s.mode.goWait = some w) (hf : s.time.firstEnabled = some a)
    (hn : a + s.lockWait ≤ (s.at t).time.lct) (hq : quietQueue s) (hp : s.pair.en = false) (hm : s.mode.mode = .configure) :
    (w.proving = true → gives (.lockWaitExpire t) s (fun x => x.mode.mode = .proving ∧ x.mode.goWait = none)) ∧
    (w.proving = false → s.aon.shLatch = false → gives (.lockWaitExpire t) s (fun x => x.mode.mode = .run ∧ x.mode.goWait = none)) ∧
    (w.proving = false → s.aon.shLatch = true →
      gives (.lockWaitExpire t) s (fun x => x.mode.mode = .safeHold ∧ x.mode.prev = .run ∧ x.mode.shCause = .latched)) := by
  have hx := lockWaitExpire_over t s w a hw hf hn
  obtain ⟨h1, h2, h3⟩ := goChange_ends ((s.at t).setMode { s.mode with goWait := some { w with expired := true } }) { w with expired := true }
    hq hp hm
  exact ⟨fun hg => gives_of_next hx (h1 hg), fun hg hl => gives_of_next hx (h2 hg hl), fun hg hl => gives_of_next hx (h3 hg hl)⟩

theorem goModeChange_ends (t : Nat) (s : State) (w : GoWait) (hw : s.mode.goWait = some w) (hgo : w.expired = true ∨ s.time.servo = .locked) :
    gives (.goModeChange t) s (fun x => x = ((s.at t).goChange w).runQueue) ∧
    (quietQueue s → s.pair.en = false → s.mode.mode = .configure →
      (w.proving = true → gives (.goModeChange t) s (fun x => x.mode.mode = .proving ∧ x.mode.goWait = none)) ∧
      (w.proving = false → s.aon.shLatch = false → gives (.goModeChange t) s (fun x => x.mode.mode = .run ∧ x.mode.goWait = none))) := by
  have hx : exec (.goModeChange t) s = .next ((s.at t).goChange w).runQueue :=
    congrArg (fun v : State => Host.Outcome.next v.runQueue) (State.tryGo_some (s.at t) w hw (hgo.imp_right fun h => (s.at_time_servo t).trans h))
  refine ⟨gives_of_next hx rfl, fun hq hp hm => ?_⟩
  obtain ⟨h1, h2, -⟩ := goChange_ends (s.at t) w hq hp hm
  exact ⟨fun hg => gives_of_next hx (h1 hg), fun hg hl => gives_of_next hx (h2 hg hl)⟩

/-! ## The commands -/

@[simp] theorem State.pairJoin_aon (s : State) : (State.pairJoin s).aon = s.aon :=
  (congrArg State.aon (State.pairJoin_outside { Mask.full with aon := false } s (by simp [Mask.full])) :)
@[simp] theorem State.pairTo_aon (s : State) (x : PairState) : (State.pairTo s x).aon = s.aon :=
  (congrArg State.aon (State.pairTo_outside { Mask.full with aon := false } s x (by simp [Mask.full])) :)

theorem go_commands (t : Nat) (s : State) (hup : s.up = true) (hs : s.time.servo = .locked) (hp : s.pair.en = false) (hl : s.aon.shLatch = false) :
    commands (.go t) t s .go 0 (fun w => w.mode.mode = .run ∧ w.mode.prev = .configure ∧ w.mode.goWait = none) := by
  refine commands_of _ t s .go 0 _ (by decide) hup rfl fun hwhy w hm _ => ?_
  obtain ⟨g, hg, hgo⟩ := acceptGo_locked ((s.at t).setReg 0x10008 0) false ((s.at_time_servo t).trans hs)
  rw [hm]
  show (State.acceptGo _ false).mode.mode = _ ∧ (State.acceptGo _ false).mode.prev = _ ∧ (State.acceptGo _ false).mode.goWait = _
  rw [hgo]
  exact goChange_run_mode _ g hg hp hl (modeWhy_go (s := s) hwhy)

theorem goProving_commands (t : Nat) (s : State) (hup : s.up = true) (hs : s.time.servo = .locked) (hp : s.pair.en = false) :
    commands (.goProving t) t s .goProving 0 (fun w => w.mode.mode = .proving ∧ w.mode.prev = .configure ∧ w.mode.goWait = none) := by
  refine commands_of _ t s .goProving 0 _ (by decide) hup rfl fun hwhy w hm _ => ?_
  obtain ⟨g, hg, hgo⟩ := acceptGo_locked ((s.at t).setReg 0x10008 0) true ((s.at_time_servo t).trans hs)
  rw [hm]
  show (State.acceptGo _ true).mode.mode = _ ∧ (State.acceptGo _ true).mode.prev = _ ∧ (State.acceptGo _ true).mode.goWait = _
  rw [hgo]
  exact goChange_proving_mode _ g hg hp (modeWhy_goProving (s := s) hwhy)

theorem go_commands_waits (t : Nat) (s : State) (f : Nat) (hup : s.up = true) (hs : s.time.servo ≠ .locked) (hw : s.lockWait ≠ 0)
    (hf : s.time.firstEnabled = some f) (hn : (s.at t).time.lct < f + s.lockWait) :
    commands (.go t) t s .go 0 (fun w => w.mode.mode = .configure ∧
      w.mode.goWait = some { proving := false, acceptedAt := (s.at t).now, expired := false }) := by
  refine commands_of _ t s .go 0 _ (by decide) hup rfl fun hwhy w hm _ => ?_
  have hlock : ((s.at t).setReg 0x10008 0).lockWait = s.lockWait :=
    congrArg (· * 1000000000) (State.setReg_reg_other (s.at t) 0x10008 Reg.timeLockWait 0 (by decide))
  have hwait := acceptGo_waits ((s.at t).setReg 0x10008 0) false f (fun e => hs ((s.at_time_servo t).symm.trans e)) (by rw [hlock]; exact hw)
    ((s.at_time_firstEnabled t).trans hf) (by rw [hlock]; exact hn)
  rw [hm]
  show (State.acceptGo _ false).mode.mode = _ ∧ (State.acceptGo _ false).mode.goWait = _
  rw [hwait]
  exact ⟨modeWhy_go (s := s) hwhy, rfl⟩

theorem sleep_commands (t : Nat) (s : State) (key : BitVec 16) (hup : s.up = true) (hr : s.mode.railEn ≠ 0) :
    commands (.sleep t key) t s .sleep key.toNat (fun w => w.mode.downCause = none ∧
      ∃ i, w.mode.phase = .railDown i ∧ s.mode.railEn.getLsbD i = true ∧ w.mode.railEn.getLsbD i = false) := by
  refine commands_of _ t s .sleep _ _ (by decide) hup rfl fun _ w hm _ => ?_
  rw [hm]
  have hq := State.quiet_rest ((s.at t).setReg 0x10008 0)
  obtain ⟨-, -, -, -, hrail, -⟩ := State.mode_parts_of_rest hq
  show (State.sleep _).mode.downCause = none ∧ ∃ i, (State.sleep _).mode.phase = _ ∧ _ ∧ (State.sleep _).mode.railEn.getLsbD i = false
  unfold State.sleep
  dsimp only
  generalize State.quiet _ = v at hrail ⊢
  obtain ⟨hd, i, h1, h2, h3⟩ := lowerRail_lowers (v.setMode { v.mode with downCause := none, failReport := none, retries := 0, wakeLatched := 0 })
    (by show v.mode.railEn ≠ 0; rw [hrail]; exact hr)
  exact ⟨hd, i, h1, (congrArg (fun x : BitVec 12 => x.getLsbD i) hrail).symm.trans h2, h3⟩

theorem leaveSafeHold_commands (t : Nat) (s : State) (hup : s.up = true) :
    commands (.leaveSafeHold t) t s .leaveSafeHold 0 (fun w => w.aon.shLatch = false ∧ w.mode.shCause = .none ∧
      (s.anyIsolated = false → w.mode.mode = s.mode.prev)) := by
  refine commands_of _ t s .leaveSafeHold 0 _ (by decide) hup rfl fun hwhy w hm ha => ?_
  have hleave := leaveSafeHold_mode ((s.at t).setReg 0x10008 0) ((s.at t).setReg 0x10008 0).acceptTime (modeWhy_leaveSafeHold (s := s) hwhy)
  rw [hm, ha]
  show (State.actMode _ _ .leaveSafeHold).aon.shLatch = false ∧ (State.actMode _ _ .leaveSafeHold).mode.shCause = _ ∧
    (_ → (State.actMode _ _ .leaveSafeHold).mode.mode = _)
  unfold State.actMode
  dsimp only
  generalize State.leaveSafeHold _ _ = v at hleave ⊢
  have hmode := ite_keeps (c := v.mode.mode = .shadow ∧ v.pair.en = true ∧ v.pair.state = .alone) State.mode v.joinAsShadow_mode
  have haon : (if v.mode.mode = .shadow ∧ v.pair.en = true ∧ v.pair.state = .alone then v.joinAsShadow else v).aon = v.aon :=
    ite_keeps State.aon ((State.pairJoin_aon _).trans (State.pairTo_aon _ _))
  rw [hmode, haon]
  exact hleave

theorem reset_gives (t : Nat) (s : State) (key : BitVec 16) (hup : s.up = true) (hk : key = 0x5AFE)
    (h : atOnce ((s.at t).setReg 0x10008 0) { by_ := .modeRegs, received := (s.at t).now, changes := [.mode .reset key.toNat] }) :
    gives (.reset t key) s (fun w => w.mode.phase = .boot ∧ w.mode.mode = .configure ∧ w.aon.resetCause = .software ∧
      w.ctxs = [] ∧ w.heads = [] ∧ w.regs = [] ∧ w.dram = []) := by
  generalize hu : (s.at t).setReg 0x10008 0 = u at h
  generalize hr : ({ by_ := .modeRegs, received := (s.at t).now, changes := [.mode .reset key.toNat] } : Request) = r at h
  have hlay : (u.lay u.acceptTime r).s = u := by rw [← hr]; rfl
  have ha : admissible u r := by
    refine admissible_bare (c := .mode .reset key.toNat) (by rw [← hr]) (by rw [← hr]) (by rw [← hr]) (by rw [← hr]) rfl ?_
    rw [hk]
    rfl
  have haccept : admitted u r = u.deviceReset .software := by
    unfold admitted
    have hres : Request.resets r = true := by rw [← hr]; rfl
    simp only [hres, if_true]
    rw [State.accept_bare u u.acceptTime r _ hlay (by rw [← hr]) (by rw [← hr]) (by rw [← hr]; rfl) (by rw [← hr]; rfl), ← hr]
    exact State.applyWaiting_none (u.deviceReset .software) rfl
  have hx : exec (.reset t key) s = .next (u.deviceReset .software) := by
    have hplace : exec (.reset t key) s = .next (u.place r) := by
      rw [← hu, ← hr]
      exact congrArg Host.Outcome.next (if_pos hup)
    rw [hplace, State.place_admitted u r h ha, haccept]
    exact congrArg Host.Outcome.next (State.serveQueue_none (u.deviceReset .software) 4 rfl)
  obtain ⟨h1, h2, h3, h4, h5, h6, h7, -, -⟩ := u.deviceReset_clears .software
  exact gives_of_next hx ⟨h1, h2, h3, h4, h5, h6, h7⟩

/-! ## The pair's operations -/

/-- An operation on the pair that its check lets pass, judged at once. -/
theorem pairCommand_gives (i : Instr) (t op : Nat) (s : State) (r : Request) (P : State → Prop) (hup : s.up = true)
    (hx : exec i s = .next ((s.at t).pairCommand op)) (hr : r = { by_ := .device, received := (s.at t).now, changes := [.pairOp op] })
    (h : atOnce (s.at t) r) (hok : (op == 3 && !(s.pairActive && s.pair.state == .paired)) = false)
    (hP : ∀ w : State, w.pair = ((s.at t).actPair (s.at t).acceptTime op).pair → P w) : gives i s P := by
  rw [hr] at h
  have hwhy : (Laid.change (s.at t).acceptTime { s := s.at t } (.pairOp op)).why = [] := by
    show [] ++ chk (op == 3 && !(s.pairActive && s.pair.state == .paired)) cMode 0x82 = []
    rw [hok]
    rfl
  obtain ⟨V, res, hV, -, -, hp⟩ := place_bare (u := s.at t) (c := .pairOp op) rfl rfl rfl rfl rfl rfl (fun _ e => by cases e)
    (fun _ _ e => by cases e) hwhy h
  refine gives_of_next (hx.trans (congrArg Host.Outcome.next ((if_pos hup).trans hV))) (hP _ ?_)
  exact hp

theorem pairJoin_asks (s : State) (he : s.pair.en = true) (ho : s.pair.actOut = false) (ha : s.pair.actIn = true) (hst : s.pair.state = .alone)
    (hup : s.pairUp = true) (hw : s.partnerW128 = true) : s.pairJoin.pair = { s.pair with retryAt := none, joinAsked := true } := by
  have hgo : (s.pair.en && !s.pair.actOut && (s.pair.actIn || (s.pair.shadow && s.bothProving)) &&
      (s.pair.state == .alone || s.pair.state == .unpaired || s.pair.state == .yielded)) = true := by
    rw [he, ho, ha, hst]
    rfl
  unfold State.pairJoin
  dsimp only
  rw [if_pos hgo]
  refine (congrArg State.pair (if_pos ?_)).trans (State.sendPair_pair _ _)
  exact (Bool.and_eq_true _ _).mpr ⟨hup, hw⟩

theorem pairLeave_alone (s : State) : s.pairLeave.pair.state = .alone ∧ s.pairLeave.pair.joinAsked = false ∧ s.pairLeave.pair.switching = false := by
  unfold State.pairLeave State.pairTo
  dsimp only
  split
  · next h => exact ⟨h, rfl, rfl⟩
  · rw [State.emit_pair]
    exact ⟨rfl, rfl, rfl⟩

/-- Settles O52: the mode commands through `commands_of`, the pair's operations through `pairCommand_gives`, a waiting GO through its change. -/
theorem modeAndPairCommandsArePlaced : Obligations.ModeAndPairCommandsArePlaced := by
  intro t s hup
  refine ⟨fun hs hp hl => go_commands t s hup hs hp hl, fun f hs hw hf hn => go_commands_waits t s f hup hs hw hf hn,
    fun hs hp => goProving_commands t s hup hs hp, ?_, leaveSafeHold_commands t s hup, fun key hr => sleep_commands t s key hup hr,
    fun key hk h => reset_gives t s key hup hk h, fun r hr h he ho ha hst hpu hw => ?_, fun r hr h => ?_, fun r hr h ha hst => ?_,
    fun w a hw hf hn => ⟨gives_of_next (lockWaitExpire_over t s w a hw hf hn) rfl, fun hq hp hm => lockWaitExpire_ends t s w a hw hf hn hq hp hm⟩,
    fun w hw hgo => goModeChange_ends t s w hw hgo⟩
  · refine commands_of _ t s .safeHold 0 _ (by decide) hup rfl fun hwhy w hm ha => ?_
    rw [hm, ha]
    exact enterSafeHold_mode ((s.at t).setReg 0x10008 0) .operator _ (modeWhy_safeHold (s := s) hwhy)
  · refine pairCommand_gives _ t 1 s r _ hup rfl hr h rfl fun w hw' => ?_
    have hpair := hw'.trans (pairJoin_asks (s.at t) he ho ha hst hpu hw)
    rw [hpair]
    exact ⟨rfl, rfl, hst⟩
  · refine pairCommand_gives _ t 2 s r _ hup rfl hr h rfl fun w hw' => ?_
    rw [hw']
    exact pairLeave_alone (s.at t)
  · have hok : ((3 : Nat) == 3 && !(s.pairActive && s.pair.state == .paired)) = false := by
      rw [ha, hst]
      rfl
    refine pairCommand_gives _ t 3 s r _ hup rfl hr h hok fun w hw' => ?_
    have hpair := hw'.trans (State.sendPair_pair { s.at t with pair := { (s.at t).pair with switching := true } } _)
    rw [hpair]
    exact ⟨rfl, hst⟩

end Sys2Proof.Machine
end

section
/-! A batch of windows whose bytes a host fault has kept from being read (R333). -/

namespace Sys2Proof.Machine

open Sys2Proof.Safety

@[simp] theorem State.failWork_win (s : State) (n : Nat) (w : Work) : (s.failWork n w).win = s.win :=
  (congrArg State.win (State.failWork_outside { Mask.full with win := false } s n w (by simp [Mask.full])) :)

/-- An order to change windows whose bytes are lost fails: it places no request, and no generation is committed. -/
theorem winBatch_lost (t : Nat) (n : Fin 32) (id : Nat) (s : State) (w : Work) (e : List (Nat × BitVec 512))
    (hw : (s.at t).startable n.val id = some w) (ho : w.order.op = .winBatch e) (hl : w.order.lost = true) :
    exec (.winBatch t n id) s = .next ((s.at t).failWork n.val w) := by
  show execWinBatch t n id s = _
  unfold execWinBatch
  simp only [hw, ho, hl, if_true]

/-- An order of no windows, its bytes lost. -/
def lostBatch : Work :=
  { id := 0, queue := 0, acceptedAt := 0, order := { op := .winBatch [], fence := false, irq := false, tag := 0, lost := true } }

/-- The order waits in instance 0 of a device that is up and has loaded its settings. -/
def lostBatchWaits : State :=
  { State.reset with
    mode := { State.reset.mode with phase := .up }, dict := { State.reset.dict with loaded := true }, insts := [(0, { works := [lostBatch] })] }

/-- The request it would have placed. -/
def lostBatchRequest : Request := { by_ := .work 0 0, received := 0, changes := [.winBatch (some 0) []] }

/-- The order queued. -/
def lostBatchQueued : State := (lostBatchWaits.at 0).setWork 0 { lostBatch with stage := .queued }

theorem lostBatch_atOnce : atOnce lostBatchQueued lostBatchRequest := ⟨rfl, rfl, rfl, rfl, rfl, rfl, rfl, rfl, rfl⟩

theorem lostBatch_admissible : admissible lostBatchQueued lostBatchRequest := by
  unfold admissible
  decide +kernel

/-- Refutes O42: a WIN_BATCH whose bytes a host fault kept from being read fails, where the statement has its windows committed. -/
theorem not_workRequestsArePlaced : ¬ Obligations.WorkRequestsArePlaced := by
  intro h
  obtain ⟨-, -, hbatch, -, -⟩ := h 0 0 0 lostBatch lostBatchWaits lostBatchQueued rfl rfl
  obtain ⟨z, hz, -, -, hactive, -⟩ := hbatch [] rfl lostBatch_atOnce lostBatch_admissible
  have hfail := winBatch_lost 0 0 0 lostBatchWaits lostBatch [] rfl rfl rfl
  obtain rfl : (lostBatchWaits.at 0).failWork 0 lostBatch = z := by simpa [hfail] using hz
  rw [State.failWork_win] at hactive
  exact absurd hactive (by decide)

end Sys2Proof.Machine
end

section
/-! A prefetch that drops the lines kept for an earlier frame of its window counts them (R264). -/

namespace Sys2Proof.Machine

open Sys2Proof.Safety

/-- The descriptor of an enabled window of head 0 that shows channel 0. -/
def channelWindow : Desc := 1

/-- Frames 0 and 1 of context 0. -/
def newerFrame : FrameRef := ⟨.ctx 0, 1⟩
def olderFrame : FrameRef := ⟨.ctx 0, 0⟩

/-- Head 0 runs; it has prefetched the older frame of window 0, and the newer one has been released to it. -/
def stalePrefetch : State :=
  { State.reset with
    win := { State.reset.win with genA := [(0, channelWindow)] },
    heads := [(0, { state := .run, released := [((Source.ch 0).key, some newerFrame)], prefetch := [⟨0, olderFrame, channelWindow⟩] })] }

/-- A prefetch without a fault, at prefetch time of a running head's own window with a candidate, fetches its lines. -/
theorem prefetchStart_fetches (t : Nat) (h : Fin 16) (k : Fin 8192) (n : Nat) (s : State) (d : Desc) (r : FrameRef)
    (hrun : ((s.at t).head h.val).state = .run) (hd : Tab.get 0 ((s.at t).win.gen ((s.at t).head h.val).gen) k.val = d)
    (hmine : (Desc.en d && !Desc.isTile d && Desc.tgt d == h.val) = true) (htime : (s.at t).prefetchTime h.val = true)
    (hok : ((s.at t).head h.val).specFaults.contains k.val = false) (hr : (s.at t).candidate h.val (Desc.source d) = some r) :
    exec (.prefetchStart t h k ⟨n, none⟩) s = .next ((s.at t).prefetchLines h.val k.val d r n) := by
  subst hd
  have hfree : ¬ ((s.at t).head h.val).specFaults.contains k.val = true := fun hc => Bool.false_ne_true (hok.symm.trans hc)
  show execPrefetchStart t h k ⟨n, none⟩ s = _
  unfold execPrefetchStart
  refine (if_pos ⟨hrun, hmine, htime, hfree⟩).trans ?_
  simp only [hr]

/-- The window is the head's own, it is prefetch time, and the newer frame is the candidate: its lines replace those of the older. -/
theorem stalePrefetch_starts :
    exec (.prefetchStart 0 0 0 ⟨0, none⟩) stalePrefetch = .next ((stalePrefetch.at 0).prefetchLines 0 0 channelWindow newerFrame 0) :=
  prefetchStart_fetches 0 0 0 0 stalePrefetch channelWindow newerFrame rfl rfl (by decide +kernel) (by decide +kernel) (by decide +kernel)
    (by decide +kernel)

/-- The drop is counted in the head's counter 5. -/
theorem stalePrefetch_counted :
    ((stalePrefetch.at 0).prefetchLines 0 0 channelWindow newerFrame 0).reg (Reg.headCount 0 5) ≠ stalePrefetch.reg (Reg.headCount 0 5) := by
  decide +kernel

/-- Counter 5 of head 0 is no register of the performance counters. -/
theorem headCount_ne_pmcOvf (u : Nat) : Reg.headCount 0 5 ≠ Reg.pmcOvf u := by
  unfold Reg.headCount Reg.pmcOvf
  omega

/-- Refutes O12: PREFETCH_START counts the prefetches it drops in the head's counter 5, which its clause does not name. -/
theorem not_commandsLeaveOtherRegisters : ¬ Obligations.CommandsLeaveOtherRegisters := by
  intro h
  obtain ⟨-, -, -, -, -, -, -, -, -, -, -, -, -, -, -, -, -, -, hprefetch, -⟩ := h 0 stalePrefetch
  exact stalePrefetch_counted
    (hprefetch 0 0 ⟨0, none⟩ _ stalePrefetch_starts (Reg.headCount 0 5) (by decide) (by decide) (by decide) headCount_ne_pmcOvf)

end Sys2Proof.Machine
end

section
/-! What a command of one unit leaves: its fellows of the kind. An operation on unit `n` leaves unit `k` where `k ≠ n`; the commands on it
follow branch by branch. -/

namespace Sys2Proof.Machine

open Sys2Proof.Safety

/-- What a command answers, if it answers a next state, has the property. -/
def Answers (P : State → Prop) : Host.Outcome State Fault Refusal → Prop
  | .next w => P w
  | _ => True

@[simp] theorem answers_next (P : State → Prop) (w : State) : Answers P (.next w) ↔ P w := Iff.rfl

theorem leaves_of_answers {i : Instr} {s : State} {P : State → Prop} (h : Answers P (exec i s)) : leaves i s P :=
  fun _ hw => (congrArg (Answers P) hw).mp h

section Touch



@[simp] theorem State.setTouch_touch_other (s : State) (p k : Nat) (x : Touch) (h : k ≠ p) : (s.setTouch p x).touch k = s.touch k :=
  Tab.get_set_other _ _ _ _ _ _ h
@[simp] theorem State.emit_touch (s : State) (e : EvKind) (i : Nat) (l : List Int) (k : Nat) : (s.emit e i l).touch k = s.touch k := by
  simp [State.touch]
@[simp] theorem State.emitAt_touch (s : State) (e : EvKind) (i n : Nat) (l : List Int) (k : Nat) :
    (s.emitAt e i n l).touch k = s.touch k := by simp [State.touch]
@[simp] theorem State.send_touch (s : State) (o : Out) (k : Nat) : (s.send o).touch k = s.touch k := rfl
@[simp] theorem State.count_touch (s : State) (a n k : Nat) : (s.count a n).touch k = s.touch k := rfl
@[simp] theorem State.at_touch (s : State) (t k : Nat) : (s.at t).touch k = s.touch k := rfl

@[simp] theorem State.touchSync_other (s : State) (p k : Nat) (h : k ≠ p) : (s.touchSync p).touch k = s.touch k := by
  unfold State.touchSync
  dsimp only
  repeat' split
  all_goals simp [h]

@[simp] theorem State.touchTest_other (s : State) (p k : Nat) (m x : List (Nat × Nat)) (h : k ≠ p) :
    (s.touchTest p m x).touch k = s.touch k := by
  unfold State.touchTest
  dsimp only
  rw [foldl_same (fun u : State => u.touch k) _ (fun u q => by simp), foldl_same (fun u : State => u.touch k) _ (fun u q => by simp)]
  exact State.setTouch_touch_other _ _ _ _ h

@[simp] theorem State.touchStart_other (s : State) (p k : Nat) (h : k ≠ p) : (s.touchStart p).touch k = s.touch k := by
  unfold State.touchStart
  dsimp only
  rw [foldl_same (fun u : State => u.touch k) _ (fun u q => by simp), foldl_same (fun u : State => u.touch k) _ (fun u q => by simp)]
  exact State.setTouch_touch_other _ _ _ _ h

@[simp] theorem State.touchLift_other (s : State) (p k : Nat) (b : Bool) (h : k ≠ p) : (s.touchLift p b).touch k = s.touch k := by
  unfold State.touchLift
  dsimp only
  split
  all_goals
    rw [foldl_same (fun u : State => u.touch k) _ (fun u q => by simp)]
    exact State.setTouch_touch_other _ _ _ _ h

@[simp] theorem State.touchTrack_other (s : State) (p k : Nat) (b : Bool) (h : k ≠ p) : (s.touchTrack p b).touch k = s.touch k := by
  unfold State.touchTrack
  dsimp only
  repeat' split
  all_goals simp [h]

@[simp] theorem State.touchReport_other (s : State) (p e k : Nat) (x : ScanKind) (cs : List Contact) (h : k ≠ p) :
    (s.touchReport p e x cs).touch k = s.touch k := by
  have hset : ∀ (u : State) (y : Touch), (u.setTouch p y).touch k = u.touch k := fun u y => State.setTouch_touch_other u p k y h
  have hlost : ∀ c : Prop, ∀ _ : Decidable c, ∀ u v : State, u.touch k = s.touch k → v.touch k = s.touch k →
      (if c then u else v).touch k = s.touch k := by
    intro c _ u v hu hv
    split <;> assumption
  refine hlost _ _ _ _ rfl (hlost _ _ _ _ (hset s _) (hlost _ _ _ _ ?_ rfl))
  exact (State.emit_touch _ _ _ _ _).trans (hset _ _)

@[simp] theorem State.touchEvaluate_other (s : State) (p e k : Nat) (x : ScanKind) (h : k ≠ p) :
    (s.touchEvaluate p e x).touch k = s.touch k := by
  unfold State.touchEvaluate
  dsimp only
  repeat' split
  all_goals simp [h]

@[simp] theorem State.fireRules_touch (s : State) (k edge p : Nat) : (s.fireRules k edge).touch p = s.touch p := rfl

@[simp] theorem State.keyTo_touch (s : State) (k e : Nat) (x : KeyState) (ev : EvKind) (n p : Nat) :
    (s.keyTo k e x ev n).touch p = s.touch p :=
  (State.fireRules_touch _ k n p).trans (by simp [State.setKey_touch])

@[simp] theorem State.keyDebounce_touch (s : State) (k e : Nat) (d : Int) (p : Nat) : (s.keyDebounce k e d).touch p = s.touch p := by
  unfold State.keyDebounce
  dsimp only
  repeat' split
  all_goals simp [State.setKey_touch]

@[simp] theorem State.keyTest_touch (s : State) (p k e raw : Nat) (b : Bool) (j : Nat) : (s.keyTest p k e raw b).touch j = s.touch j := by
  unfold State.keyTest
  dsimp only
  split <;> simp [State.setKey_touch]

@[simp] theorem State.keyMeasure_touch (s : State) (p k e raw : Nat) (b : Bool) (j : Nat) :
    (s.keyMeasure p k e raw b).touch j = s.touch j := by
  unfold State.keyMeasure
  dsimp only
  repeat' split
  all_goals simp [State.setKey_touch]

/-- A command of touch port `p` leaves the other port. -/
def LeavesPorts (p : Nat) (s w : State) : Prop := ∀ k, k ≠ p → w.touch k = s.touch k

theorem touchScanStart_fellows (t : Nat) (p : Fin 2) (s : State) : leaves (.touchScanStart t p) s (LeavesPorts p.val s) := by
  apply leaves_of_answers
  show Answers _ (execTouchScanStart t p s)
  unfold execTouchScanStart
  dsimp only
  repeat' split
  all_goals simp +contextual [LeavesPorts]

theorem touchScanComplete_fellows (t : Nat) (p : Fin 2) (nodes lines : List (Nat × Nat)) (s : State) :
    leaves (.touchScanComplete t p nodes lines) s (LeavesPorts p.val s) := by
  apply leaves_of_answers
  show Answers _ (execTouchScanComplete t p nodes lines s)
  unfold execTouchScanComplete
  dsimp only
  repeat' split
  all_goals simp +contextual [LeavesPorts]

theorem keyGroupEnd_fellows (t : Nat) (p : Fin 2) (raws : List (Nat × Nat)) (s : State) :
    leaves (.keyGroupEnd t p raws) s (LeavesPorts p.val s) := by
  apply leaves_of_answers
  show Answers _ (execKeyGroupEnd t p raws s)
  unfold execKeyGroupEnd
  dsimp only
  split
  · exact fun _ _ => rfl
  · split
    · exact fun _ _ => rfl
    · refine fun k _ => foldl_same (fun u : State => u.touch k) _ (fun u r => ?_) _ _
      split <;> simp

theorem touchRebase_fellows (t : Nat) (p : Fin 2) (s : State) : leaves (.touchRebase t p) s (LeavesPorts p.val s) := by
  apply leaves_of_answers
  show Answers _ (execTouchRebase t p s)
  unfold execTouchRebase
  dsimp only
  split
  · refine fun k hk => (foldl_setKey_touch _ _ _ k).trans ?_
    exact State.setTouch_touch_other _ _ _ _ hk
  · exact fun _ _ => rfl

end Touch

section Time



/-- A command of transmit queue `n` leaves the queues of the other ports. -/
def LeavesQueues (n : Nat) (s w : State) : Prop :=
  ∀ k, k ≠ n → (Tab.get {} w.time.txq k : TxQueue) = Tab.get {} s.time.txq k

/-- A command of time-triggered output `n` leaves the other outputs. -/
def LeavesOutputs (n : Nat) (s w : State) : Prop := ∀ k, k ≠ n → w.tto k = s.tto k

/-- A command of capture input `n` leaves the other inputs. -/
def LeavesInputs (n : Nat) (s w : State) : Prop := ∀ k, k ≠ n → w.tci k = s.tci k

@[simp] theorem State.at_tto (s : State) (t k : Nat) : (s.at t).tto k = s.tto k := by simp [State.tto]
@[simp] theorem State.at_tci (s : State) (t k : Nat) : (s.at t).tci k = s.tci k := by simp [State.tci]
@[simp] theorem State.setReg_tto (s : State) (a v k : Nat) : (s.setReg a v).tto k = s.tto k := rfl
@[simp] theorem State.emit_tto (s : State) (e : EvKind) (i : Nat) (l : List Int) (k : Nat) : (s.emit e i l).tto k = s.tto k := by
  simp [State.tto]
@[simp] theorem State.emit_tci (s : State) (e : EvKind) (i : Nat) (l : List Int) (k : Nat) : (s.emit e i l).tci k = s.tci k := by
  simp [State.tci]
@[simp] theorem State.count_tci (s : State) (a n k : Nat) : (s.count a n).tci k = s.tci k := rfl

@[simp] theorem State.pushTxq_other (s : State) (n k : Nat) (e : TxEntry) (h : k ≠ n) :
    (Tab.get {} (s.pushTxq n e).time.txq k : TxQueue) = Tab.get {} s.time.txq k := by
  unfold State.pushTxq
  dsimp only
  split
  · exact Tab.get_set_other _ _ _ _ _ _ h
  · simp

@[simp] theorem State.armTto_other (s : State) (n k : Nat) (b : BitVec 64) (h : k ≠ n) : (s.armTto n b).tto k = s.tto k := by
  unfold State.armTto
  dsimp only
  repeat' split
  all_goals simp [State.setTto_other, h]

@[simp] theorem State.ttoEdge_other (s : State) (n k : Nat) (h : k ≠ n) : (s.ttoEdge n).tto k = s.tto k := by
  unfold State.ttoEdge
  dsimp only
  repeat' split
  all_goals simp [State.setTto_other, h]

@[simp] theorem State.tciLoss_tci (s : State) (n o k : Nat) : (s.tciLoss n o).tci k = s.tci k := by
  unfold State.tciLoss
  dsimp only
  split <;> simp

theorem delayReqSend_fellows (t : Nat) (port : Fin 4) (d : Fin 2) (seq tag : BitVec 16) (s : State) :
    leaves (.delayReqSend t port d seq tag) s (LeavesQueues port.val s) := by
  apply leaves_of_answers
  show Answers _ (execDelayReqSend t port d seq tag s)
  unfold execDelayReqSend
  dsimp only
  split
  · simp [LeavesQueues]
  · intro k hk
    refine (State.pushTxq_other _ _ _ _ hk).trans ?_
    show Tab.get {} (TimeUnit.setDom (s.at t).time d _).txq k = _
    simp

theorem txqPop_fellows (t : Nat) (port : Fin 4) (s : State) : leaves (.txqPop t port) s (LeavesQueues port.val s) := by
  apply leaves_of_answers
  intro k hk
  exact (Tab.get_set_other _ _ _ _ _ _ hk).trans (by simp)

theorem ltbEpochCommit_fellows (t : Nat) (n : Fin 4) (hi : BitVec 32) (s : State) : leaves (.ltbEpochCommit t n hi) s fun w =>
    ∀ k, k ≠ n.val → Tab.get 0 w.time.ltbEpoch k = Tab.get 0 s.time.ltbEpoch k := by
  apply leaves_of_answers
  intro k hk
  exact (Tab.get_set_other _ _ _ _ _ _ hk).trans (by simp)

theorem ttoArm_fellows (t : Nat) (n : Fin 8) (hi : BitVec 32) (s : State) : leaves (.ttoArm t n hi) s (LeavesOutputs n.val s) := by
  apply leaves_of_answers
  intro k hk
  exact (State.armTto_other _ _ _ _ hk).trans (by simp)

theorem ttoCtrlWrite_fellows (t : Nat) (n : Fin 8) (v : BitVec 32) (s : State) :
    leaves (.ttoCtrlWrite t n v) s (LeavesOutputs n.val s) := by
  apply leaves_of_answers
  intro k hk
  exact (State.setTto_other _ _ _ _ hk).trans (by simp)

theorem ttoEdge_fellows (t : Nat) (n : Fin 8) (s : State) : leaves (.ttoEdge t n) s (LeavesOutputs n.val s) := by
  apply leaves_of_answers
  intro k hk
  exact (State.ttoEdge_other _ _ _ hk).trans (by simp)

theorem tciEdge_fellows (t : Nat) (n : Fin 5) (rising : Bool) (s : State) : leaves (.tciEdge t n rising) s (LeavesInputs n.val s) := by
  apply leaves_of_answers
  show Answers _ (execTciEdge t n rising s)
  unfold execTciEdge
  dsimp only
  repeat' split
  all_goals simp +contextual [LeavesInputs, State.setTci_other]

theorem tciStampPop_fellows (t : Nat) (n : Fin 5) (s : State) : leaves (.tciStampPop t n) s (LeavesInputs n.val s) := by
  apply leaves_of_answers
  intro k hk
  exact (State.setTci_other _ _ _ _ hk).trans (by simp)

end Time

end Sys2Proof.Machine
end

section
/-! What a command of one context, channel or head leaves: the others of the kind. -/

namespace Sys2Proof.Machine

open Sys2Proof.Safety

/-- What a change keeps is kept where the change is made only unless a condition holds. -/
theorem unless_keeps {α : Type} (p : State → α) {c : Prop} [Decidable c] {u v : State} (h : p v = p u) :
    p (if c then u else v) = p u := by
  split
  · rfl
  · exact h

section Ingest




/-- A command of context `n` leaves the others. -/
def LeavesContexts (n : Nat) (s w : State) : Prop := ∀ k, k ≠ n → w.ctx k = s.ctx k

@[simp] theorem State.chanTo_other (s : State) (n k : Nat) (x : ChState) (h : k ≠ n) : (s.chanTo n x).chan k = s.chan k := by
  unfold State.chanTo
  dsimp only
  repeat' split
  all_goals simp [State.setChan_other, h]

theorem pathDownTimeout_fellows (t : Nat) (n : Fin 160) (p : Fin 2) (s : State) :
    leaves (.pathDownTimeout t n p) s (LeavesContexts n.val s) := by
  apply leaves_of_answers
  show Answers _ (execPathDownTimeout t n p s)
  unfold execPathDownTimeout
  dsimp only
  repeat' split
  all_goals simp +contextual [LeavesContexts, State.setCtx_other]

theorem channelSilence_fellows (t : Nat) (ch : Fin 128) (s : State) : leaves (.channelSilence t ch) s fun w =>
    ∀ k, k ≠ ch.val → w.chan k = s.chan k := by
  apply leaves_of_answers
  show Answers _ (execChannelSilence t ch s)
  unfold execChannelSilence
  dsimp only
  repeat' split
  all_goals simp +contextual

theorem rtcpSrRx_fellows (t : Nat) (n : Fin 160) (ntp : BitVec 64) (rtp : BitVec 32) (s : State) :
    leaves (.rtcpSrRx t n ntp rtp) s (LeavesContexts n.val s) := by
  apply leaves_of_answers
  show Answers _ (execRtcpSrRx t n ntp rtp s)
  unfold execRtcpSrRx
  dsimp only
  split
  all_goals simp +contextual [LeavesContexts, State.setCtx_other]

theorem srAgeExpire_fellows (t : Nat) (n : Fin 160) (s : State) : leaves (.srAgeExpire t n) s (LeavesContexts n.val s) := by
  apply leaves_of_answers
  show Answers _ (execSrAgeExpire t n s)
  unfold execSrAgeExpire
  dsimp only
  repeat' split
  all_goals simp +contextual [LeavesContexts, State.setCtx_other]

end Ingest

section Heads

@[simp] theorem State.mpuLatch_heads (s : State) (a : Access) (c : MpuCause) : (State.mpuLatch s a c).heads = s.heads :=
  (congrArg State.heads (State.mpuLatch_outside { Mask.full with heads := false } s a c (by simp [Mask.full])) :)
@[simp] theorem State.mpuLatch_head (s : State) (a : Access) (c : MpuCause) (i : Nat) :
    (State.mpuLatch s a c).head i = s.head i := by
  simp [State.head]
@[simp] theorem State.draw_heads (s : State) (n bytes : Nat) : (State.draw s n bytes).heads = s.heads :=
  (congrArg State.heads (State.draw_outside { Mask.full with heads := false } s n bytes (by simp [Mask.full])) :)
@[simp] theorem State.draw_head (s : State) (n bytes : Nat) (i : Nat) : (State.draw s n bytes).head i = s.head i := by
  simp [State.head]
@[simp] theorem State.drawUrgent_heads (s : State) (n bytes : Nat) : ((State.drawUrgent s n bytes).1).heads = s.heads :=
  (congrArg State.heads (State.drawUrgent_outside { Mask.full with heads := false } s n bytes (by simp [Mask.full])) :)
@[simp] theorem State.drawUrgent_head (s : State) (n bytes : Nat) (i : Nat) :
    ((State.drawUrgent s n bytes).1).head i = s.head i := by
  simp [State.head]

/-- A command of head `n` leaves the others. -/
def LeavesHeads (n : Nat) (s w : State) : Prop := ∀ k, k ≠ n → w.head k = s.head k

@[simp] theorem State.applyDue_head (s : State) (h e k : Nat) : (s.applyDue h e).head k = s.head k := by
  simp [State.applyDue]
  rfl

@[simp] theorem State.prefetchLines_other (s : State) (h k w : Nat) (d : Desc) (r : FrameRef) (n : Nat) (hk : k ≠ h) :
    (s.prefetchLines h w d r n).head k = s.head k := by simp [State.prefetchLines, State.setHead_other, hk]

@[simp] theorem State.specFault_other (s : State) (h k w : Nat) (hk : k ≠ h) : (s.specFault h w).head k = s.head k := by
  simp [State.specFault, State.setHead_other, hk]

@[simp] theorem State.countOverrun_other (s : State) (h i n k : Nat) (hk : k ≠ h) : (s.countOverrun h i n).head k = s.head k := by
  simp [State.countOverrun, State.setHead_other, hk]

@[simp] theorem State.fetched_other (s : State) (h l i n k : Nat) (hk : k ≠ h) : (s.fetched h l i n).head k = s.head k := by
  unfold State.fetched
  dsimp only
  repeat' split
  all_goals simp [hk]

@[simp] theorem State.fetchLine_other (s : State) (h p k : Nat) (l : Bool × Nat × Nat) (hk : k ≠ h) :
    (s.fetchLine h p l).head k = s.head k := by
  unfold State.fetchLine
  dsimp only
  repeat' split
  all_goals simp [State.setHead_other, hk]

@[simp] theorem State.untrain_other (s : State) (h k : Nat) (hk : k ≠ h) : (s.untrain h).head k = s.head k := by
  unfold State.untrain
  dsimp only
  split <;> simp [State.setHead_other, hk]

@[simp] theorem State.checkSink_other (s : State) (h k : Nat) (c : HeadCfg) (hk : k ≠ h) : (s.checkSink h c).head k = s.head k := by
  unfold State.checkSink
  dsimp only
  repeat' split
  all_goals simp [State.setHead_other, hk]

@[simp] theorem State.askTraining_other (s : State) (h k : Nat) (hk : k ≠ h) : (s.askTraining h).head k = s.head k := by
  unfold State.askTraining
  dsimp only
  repeat' split
  all_goals simp [State.setHead_other, hk]

@[simp] theorem State.enableStream_other (s : State) (h k : Nat) (hk : k ≠ h) : (s.enableStream h).head k = s.head k := by
  unfold State.enableStream
  dsimp only
  split <;> simp [State.setHead_other, hk]

@[simp] theorem State.linkUp_other (s : State) (h r l k : Nat) (hk : k ≠ h) : (s.linkUp h r l).head k = s.head k := by
  simp [State.linkUp, State.setHead_other, hk]

@[simp] theorem State.trainFail_other (s : State) (h k : Nat) (hk : k ≠ h) : (s.trainFail h).head k = s.head k := by
  unfold State.trainFail
  dsimp only
  repeat' split
  all_goals simp [State.setHead_other, hk]

theorem bgColorWrite_fellows (t : Nat) (h : Fin 16) (v : BitVec 32) (s : State) : leaves (.bgColorWrite t h v) s (LeavesHeads h.val s) :=
  leaves_of_answers fun _ hk => State.setHead_other _ _ _ _ hk

theorem safelightApply_fellows (t : Nat) (h : Fin 16) (s : State) : leaves (.safelightApply t h) s (LeavesHeads h.val s) :=
  leaves_of_answers fun _ hk => (State.setHead_other _ _ _ _ hk).trans (State.applyDue_head _ _ _ _)

theorem prefetchStart_fellows (t : Nat) (h : Fin 16) (w : Fin 8192) (p : PrefetchRun) (s : State) :
    leaves (.prefetchStart t h w p) s (LeavesHeads h.val s) := by
  apply leaves_of_answers
  show Answers _ (execPrefetchStart t h w p s)
  unfold execPrefetchStart
  dsimp only
  repeat' split
  all_goals simp +contextual [LeavesHeads]

theorem fetchLevelChange_fellows (t : Nat) (h : Fin 16) (pipe : Fin 8) (lines : List (Bool × Nat × Nat)) (spans : List (Nat × Nat))
    (s : State) : leaves (.fetchLevelChange t h pipe lines spans) s (LeavesHeads h.val s) := by
  refine leaves_of_answers fun k hk => (State.setHead_other _ _ _ _ hk).trans ?_
  refine (unless_keeps (fun u : State => u.head k) (foldl_same (fun u : State => u.head k) _ (fun u l => ?_) _ _)).trans ?_
  · exact State.fetchLine_other _ _ _ _ _ hk
  · refine (unless_keeps (fun u : State => u.head k) (foldl_same (fun u : State => u.head k) _ (fun u q => ?_) _ _)).trans
      (State.syncHead_head _ _ _)
    exact State.fetched_other _ _ _ _ _ _ hk

theorem hpdPresent_fellows (t : Nat) (h : Fin 16) (r : SinkRead) (s : State) : leaves (.hpdPresent t h r) s (LeavesHeads h.val s) := by
  apply leaves_of_answers
  show Answers _ (execHpdPresent t h r s)
  unfold execHpdPresent
  dsimp only
  repeat' split
  all_goals simp +contextual [LeavesHeads, State.setHead_other]

theorem hpdGone_fellows (t : Nat) (h : Fin 16) (s : State) : leaves (.hpdGone t h) s (LeavesHeads h.val s) := by
  apply leaves_of_answers
  show Answers _ (execHpdGone t h s)
  unfold execHpdGone
  dsimp only
  split
  all_goals simp +contextual [LeavesHeads, State.setHead_other]

theorem irqHpd_fellows (t : Nat) (h : Fin 16) (ok : Bool) (s : State) : leaves (.irqHpd t h ok) s (LeavesHeads h.val s) := by
  apply leaves_of_answers
  show Answers _ (execIrqHpd t h ok s)
  unfold execIrqHpd
  dsimp only
  repeat' split
  all_goals simp +contextual [LeavesHeads, State.setHead_other]

theorem linkTrainingAttempt_fellows (t : Nat) (h : Fin 16) (s : State) : leaves (.linkTrainingAttempt t h) s (LeavesHeads h.val s) := by
  apply leaves_of_answers
  show Answers _ (execLinkTrainingAttempt t h s)
  unfold execLinkTrainingAttempt
  dsimp only
  split
  · intro k hk
    cases ((s.at t).head h.val).link.tries.head? <;> split <;> simp [State.setHead_other, hk]
  · simp [LeavesHeads]

theorem linkTrainingDone_fellows (t : Nat) (h : Fin 16) (ok : Bool) (s : State) :
    leaves (.linkTrainingDone t h ok) s (LeavesHeads h.val s) := by
  apply leaves_of_answers
  show Answers _ (execLinkTrainingDone t h ok s)
  unfold execLinkTrainingDone
  dsimp only
  repeat' split
  all_goals simp +contextual [LeavesHeads]

theorem linkRetry_fellows (t : Nat) (h : Fin 16) (s : State) : leaves (.linkRetry t h) s (LeavesHeads h.val s) := by
  apply leaves_of_answers
  show Answers _ (execLinkRetry t h s)
  unfold execLinkRetry
  dsimp only
  split
  all_goals simp +contextual [LeavesHeads]

theorem safeHoldApply_fellows (t : Nat) (h : Fin 16) (s : State) : leaves (.safeHoldApply t h) s (LeavesHeads h.val s) := by
  apply leaves_of_answers
  show Answers _ (execSafeHoldApply t h s)
  unfold execSafeHoldApply
  dsimp only
  repeat' split
  all_goals simp +contextual [LeavesHeads, State.setHead_other]

end Heads

end Sys2Proof.Machine
end

section
/-! What a command of one recording, instance, CAN node, update source or injector leaves: the others of the kind. -/

namespace Sys2Proof.Machine

open Sys2Proof.Safety

section Units


@[simp] theorem State.sendRtp_recs (s : State) (c : RecCfg) (seq : BitVec 16) (ts : BitVec 32) (z0 : List (List Byte)) :
    (State.sendRtp s c seq ts z0).recs = s.recs :=
  (congrArg State.recs (State.sendRtp_outside { Mask.full with recs := false } s c seq ts z0 (by simp [Mask.full])) :)



/-- A command of recording `n` leaves the others. -/
def LeavesRecordings (n : Nat) (s w : State) : Prop := ∀ k, k ≠ n → w.recording k = s.recording k

/-- A command of instance `n` leaves the others. -/
def LeavesInstances (n : Nat) (s w : State) : Prop := ∀ k, k ≠ n → w.inst k = s.inst k

/-- A command of CAN node `n` leaves the others. -/
def LeavesNodes (n : Nat) (s w : State) : Prop := ∀ k, k ≠ n → w.canNode k = s.canNode k

/-- A command of update source `n` leaves the others. -/
def LeavesSources (n : Nat) (s w : State) : Prop := ∀ k, k ≠ n → w.updSource k = s.updSource k

theorem State.setRecording_other (s : State) (n k : Nat) (x : Rec) (h : k ≠ n) : (s.setRecording n x).recording k = s.recording k :=
  Tab.get_set_other _ _ _ _ _ _ h
theorem State.setCan_other (s : State) (n k : Nat) (x : CanNode) (h : k ≠ n) : (s.setCan n x).canNode k = s.canNode k :=
  Tab.get_set_other _ _ _ _ _ _ h
theorem State.setUpdSource_other (s : State) (n k : Nat) (x : UpdSource) (h : k ≠ n) :
    (s.setUpdSource n x).updSource k = s.updSource k := Tab.get_set_other _ _ _ _ _ _ h
theorem State.setInjector_other (s : State) (n k : Nat) (x : Injector) (h : k ≠ n) :
    (s.setInjector n x).injector k = s.injector k := Tab.get_set_other _ _ _ _ _ _ h

@[simp] theorem State.at_recording (s : State) (t k : Nat) : (s.at t).recording k = s.recording k := rfl
@[simp] theorem State.sendRtp_recording (s : State) (c : RecCfg) (q : BitVec 16) (x : BitVec 32) (l : List (List Byte)) (k : Nat) :
    (s.sendRtp c q x l).recording k = s.recording k := by simp [State.recording]
@[simp] theorem State.send_canNode (s : State) (o : Out) (k : Nat) : (s.send o).canNode k = s.canNode k := rfl

@[simp] theorem State.signalVec_other (s : State) (n v k : Nat) (h : k ≠ n) : (s.signalVec n v).inst k = s.inst k := by
  unfold State.signalVec
  dsimp only
  repeat' split
  all_goals simp [State.setInst_other, h]

@[simp] theorem State.cqSignal_other (s : State) (n k : Nat) (h : k ≠ n) : (s.cqSignal n).inst k = s.inst k := by
  unfold State.cqSignal
  dsimp only
  split <;> simp [State.setInst_other, h]

@[simp] theorem State.complete_other (s : State) (n id st r v k : Nat) (h : k ≠ n) : (s.complete n id st r v).inst k = s.inst k := by
  unfold State.complete
  split
  · rfl
  · dsimp only
    split <;> split <;> simp [State.setInst_other, h]

@[simp] theorem State.nmtReset_other (s : State) (n k : Nat) (h : k ≠ n) : (s.nmtReset n).canNode k = s.canNode k := by
  unfold State.nmtReset State.autostart
  dsimp only
  split <;> simp [State.setCan_other, h]

theorem bsRdWrite_fellows (t : Nat) (r : Fin 16) (hi : BitVec 32) (s : State) : leaves (.bsRdWrite t r hi) s (LeavesRecordings r.val s) :=
  leaves_of_answers fun _ hk => State.setRecording_other _ _ _ _ hk

theorem recRtpTransmit_fellows (t : Nat) (r : Fin 16) (packets bytes : Nat) (s : State) :
    leaves (.recRtpTransmit t r packets bytes) s (LeavesRecordings r.val s) := by
  apply leaves_of_answers
  show Answers _ (execRecRtpTransmit t r packets bytes s)
  unfold execRecRtpTransmit
  dsimp only
  repeat' split
  all_goals simp +contextual [LeavesRecordings, State.setRecording_other]

theorem saveComplete_fellows (t : Nat) (n : Fin 32) (s : State) : leaves (.saveComplete t n) s (LeavesInstances n.val s) := by
  apply leaves_of_answers
  show Answers _ (execSaveComplete t n s)
  unfold execSaveComplete
  dsimp only
  split
  all_goals simp +contextual [LeavesInstances, State.setInst_other]

theorem nop_fellows (t : Nat) (n : Fin 32) (id : Nat) (s : State) : leaves (.nop t n id) s (LeavesInstances n.val s) := by
  apply leaves_of_answers
  show Answers _ (execNop t n id s)
  unfold execNop
  dsimp only
  repeat' split
  all_goals simp +contextual [LeavesInstances]

theorem badOp_fellows (t : Nat) (n : Fin 32) (id : Nat) (s : State) : leaves (.badOp t n id) s (LeavesInstances n.val s) := by
  apply leaves_of_answers
  show Answers _ (execBadOp t n id s)
  unfold execBadOp
  dsimp only
  repeat' split
  all_goals simp +contextual [LeavesInstances]

theorem vectorHoldExpire_fellows (t : Nat) (n : Fin 32) (ev : Bool) (s : State) :
    leaves (.vectorHoldExpire t n ev) s (LeavesInstances n.val s) := by
  apply leaves_of_answers
  show Answers _ (execVectorHoldExpire t n ev s)
  unfold execVectorHoldExpire
  dsimp only
  repeat' split
  all_goals simp +contextual [LeavesInstances, State.setInst_other]

theorem nmtStart_fellows (t : Nat) (n : Fin 2) (s : State) : leaves (.nmtStart t n) s (LeavesNodes n.val s) := by
  apply leaves_of_answers
  show Answers _ (execNmtStart t n s)
  unfold execNmtStart
  dsimp only
  split
  all_goals simp +contextual [LeavesNodes, State.setCan_other, State.at_canNode]

theorem nmtStop_fellows (t : Nat) (n : Fin 2) (s : State) : leaves (.nmtStop t n) s (LeavesNodes n.val s) := by
  apply leaves_of_answers
  show Answers _ (execNmtStop t n s)
  unfold execNmtStop
  dsimp only
  split
  all_goals simp +contextual [LeavesNodes, State.setCan_other, State.at_canNode]

/-- Both NMT resets are the node's reset where the node is up. -/
theorem nmtResets_fellows (t n : Nat) (s : State) :
    Answers (LeavesNodes n s) (if (s.at t).nodeUp n then .next ((s.at t).nmtReset n) else .next (s.at t)) := by
  split
  all_goals simp +contextual [LeavesNodes, State.at_canNode]

theorem heartbeatSend_fellows (t : Nat) (n : Fin 2) (s : State) : leaves (.heartbeatSend t n) s (LeavesNodes n.val s) := by
  apply leaves_of_answers
  show Answers _ (execHeartbeatSend t n s)
  unfold execHeartbeatSend
  dsimp only
  split
  all_goals simp +contextual [LeavesNodes, State.setCan_other, State.at_canNode]

theorem tpdoTransmit_fellows (t : Nat) (n : Fin 2) (k : Fin 3) (s : State) : leaves (.tpdoTransmit t n k) s (LeavesNodes n.val s) := by
  apply leaves_of_answers
  show Answers _ (execTpdoTransmit t n k s)
  unfold execTpdoTransmit
  dsimp only
  split
  all_goals simp +contextual [LeavesNodes, State.setCan_other, State.at_canNode]

theorem busOffEntry_fellows (t : Nat) (n : Fin 2) (s : State) : leaves (.busOffEntry t n) s (LeavesNodes n.val s) := by
  apply leaves_of_answers
  show Answers _ (execBusOffEntry t n s)
  unfold execBusOffEntry
  dsimp only
  split
  all_goals simp +contextual [LeavesNodes, State.setCan_other, State.at_canNode, State.emit_canNode]

theorem busOffRecovery_fellows (t : Nat) (n : Fin 2) (s : State) : leaves (.busOffRecovery t n) s (LeavesNodes n.val s) := by
  apply leaves_of_answers
  show Answers _ (execBusOffRecovery t n s)
  unfold execBusOffRecovery
  dsimp only
  split
  all_goals simp +contextual [LeavesNodes, State.setCan_other, State.at_canNode, State.emit_canNode]

theorem lssConfigureNodeId_fellows (t : Nat) (n : Fin 2) (id : BitVec 8) (s : State) :
    leaves (.lssConfigureNodeId t n id) s (LeavesNodes n.val s) := by
  apply leaves_of_answers
  show Answers _ (execLssConfigureNodeId t n id s)
  unfold execLssConfigureNodeId
  dsimp only
  repeat' split
  all_goals simp +contextual [LeavesNodes, State.setCan_other, State.at_canNode, State.emit_canNode]

theorem lssConfigureBitTiming_fellows (t : Nat) (n : Fin 2) (nominal data : BitVec 8) (s : State) :
    leaves (.lssConfigureBitTiming t n nominal data) s (LeavesNodes n.val s) := by
  apply leaves_of_answers
  show Answers _ (execLssConfigureBitTiming t n nominal data s)
  unfold execLssConfigureBitTiming
  dsimp only
  repeat' split
  all_goals simp +contextual [LeavesNodes, State.setCan_other, State.at_canNode]

theorem State.updAbort_other (s : State) (n k : Nat) (h : k ≠ n) : (s.updAbort n).updSource k = s.updSource k := by
  unfold State.updAbort
  split
  · exact (State.setUpdSource_other _ _ _ _ h).trans (State.endClaim_updSource _ _ _)
  · rfl

theorem updBegin_fellows (t : Nat) (s : State) : leaves (.updBegin t) s (LeavesSources 1 s) := by
  apply leaves_of_answers
  show Answers _ (execUpdBegin t s)
  unfold execUpdBegin
  dsimp only
  split
  · exact fun k hk => (State.setUpdSource_other _ _ _ _ hk).trans (State.endClaim_updSource _ _ _)
  · exact fun _ _ => rfl

theorem updAbort_fellows (t : Nat) (k : Fin 13) (s : State) : leaves (.updAbort t k) s (LeavesSources k.val s) := by
  apply leaves_of_answers
  show Answers _ (execUpdAbort t k s)
  unfold execUpdAbort
  dsimp only
  split
  · exact fun j hj => State.updAbort_other _ _ _ hj
  · exact fun _ _ => rfl

theorem injectorArm_fellows (t : Nat) (n : Fin 16) (v : BitVec 32) (s : State) : leaves (.injectorArm t n v) s fun w =>
    ∀ k, k ≠ n.val → w.injector k = s.injector k := by
  apply leaves_of_answers
  show Answers _ (execInjectorArm t n v s)
  unfold execInjectorArm
  dsimp only
  split
  · split
    · intro k hk
      exact unless_keeps (fun u : State => u.injector k) (State.setInjector_other _ _ _ _ hk)
    · exact fun k hk => State.setInjector_other _ _ _ _ hk
  · exact fun _ _ => rfl

end Units

/-- Settles O13: each command reads and writes its own unit alone, the rest of what it does lies in other parts of the state. -/
theorem commandsLeaveTheirFellows : Obligations.CommandsLeaveTheirFellows := by
  intro t s
  exact ⟨fun p => touchScanStart_fellows t p s, fun port d seq tag => delayReqSend_fellows t port d seq tag s,
    fun port => txqPop_fellows t port s, fun n hi => ltbEpochCommit_fellows t n hi s, fun n hi => ttoArm_fellows t n hi s,
    fun n v => ttoCtrlWrite_fellows t n v s, fun n => ttoEdge_fellows t n s, fun n rising => tciEdge_fellows t n rising s,
    fun n => tciStampPop_fellows t n s, fun n p => pathDownTimeout_fellows t n p s, fun ch => channelSilence_fellows t ch s,
    fun n ntp rtp => rtcpSrRx_fellows t n ntp rtp s, fun n => srAgeExpire_fellows t n s, fun h v => bgColorWrite_fellows t h v s,
    fun h => safelightApply_fellows t h s, fun h w p => prefetchStart_fellows t h w p s,
    fun h pipe lines spans => fetchLevelChange_fellows t h pipe lines spans s, fun h r => hpdPresent_fellows t h r s,
    fun h => hpdGone_fellows t h s, fun h ok => irqHpd_fellows t h ok s, fun h => linkTrainingAttempt_fellows t h s,
    fun h ok => linkTrainingDone_fellows t h ok s, fun h => linkRetry_fellows t h s, fun r hi => bsRdWrite_fellows t r hi s,
    fun r packets bytes => recRtpTransmit_fellows t r packets bytes s, fun n => saveComplete_fellows t n s,
    fun n id => nop_fellows t n id s, fun n id => badOp_fellows t n id s, fun n ev => vectorHoldExpire_fellows t n ev s,
    fun p nodes lines => touchScanComplete_fellows t p nodes lines s, fun p raws => keyGroupEnd_fellows t p raws s,
    fun p => touchRebase_fellows t p s, fun n => nmtStart_fellows t n s, fun n => nmtStop_fellows t n s,
    fun n => leaves_of_answers (nmtResets_fellows t n s), fun n => leaves_of_answers (nmtResets_fellows t n s),
    fun n => heartbeatSend_fellows t n s, fun n k => tpdoTransmit_fellows t n k s, fun n => busOffEntry_fellows t n s,
    fun n => busOffRecovery_fellows t n s, fun n id => lssConfigureNodeId_fellows t n id s,
    fun n nominal data => lssConfigureBitTiming_fellows t n nominal data s, updBegin_fellows t s, fun k => updAbort_fellows t k s,
    fun h => safeHoldApply_fellows t h s, fun n v => injectorArm_fellows t n v s⟩

end Sys2Proof.Machine
end

section
/-! The events grow: an operation that raises events appends them to those raised before. -/

namespace Sys2Proof.Machine

open Sys2Proof.Safety

@[simp] theorem State.modFrame_events (s : State) (r : FrameRef) (f : Frame → Frame) : (State.modFrame s r f).events = s.events :=
  (congrArg State.events (State.modFrame_outside { Mask.full with events := false } s r f (by simp [Mask.full])) :)
@[simp] theorem State.sheetMarks_events (s : State) (n : Nat) (refs : List FrameRef) :
    (State.sheetMarks s n refs).events = s.events :=
  (congrArg State.events (State.sheetMarks_outside { Mask.full with events := false } s n refs (by simp [Mask.full])) :)
@[simp] theorem State.setRecording_events (s : State) (r : Nat) (x : Rec) : (State.setRecording s r x).events = s.events :=
  (congrArg State.events (State.setRecording_outside { Mask.full with events := false } s r x (by simp [Mask.full])) :)
@[simp] theorem State.setRecCore_events (s : State) (k : Nat) (x : RecCore) : (State.setRecCore s k x).events = s.events :=
  (congrArg State.events (State.setRecCore_outside { Mask.full with events := false } s k x (by simp [Mask.full])) :)
@[simp] theorem State.settleAll_events (s : State) : (State.settleAll s).events = s.events :=
  (congrArg State.events (State.settleAll_outside { Mask.full with events := false } s (by simp [Mask.full])) :)
@[simp] theorem State.finishSwitch_events (s : State) : (State.finishSwitch s).events = s.events :=
  (congrArg State.events (State.finishSwitch_outside { Mask.full with events := false } s (by simp [Mask.full])) :)
@[simp] theorem State.dropViews_events (s : State) (g : Bool) (h : Nat) (tgt : Desc → Bool) :
    (State.dropViews s g h tgt).events = s.events :=
  (congrArg State.events (State.dropViews_outside { Mask.full with events := false } s g h tgt (by simp [Mask.full])) :)
@[simp] theorem State.entryApplied_events (s : State) (m : Manifest) : (State.entryApplied s m).events = s.events :=
  (congrArg State.events (State.entryApplied_outside { Mask.full with events := false } s m (by simp [Mask.full])) :)
@[simp] theorem State.sendAction_events (s : State) (ctx op code : Nat) : (State.sendAction s ctx op code).events = s.events :=
  (congrArg State.events (State.sendAction_outside { Mask.full with events := false } s ctx op code (by simp [Mask.full])) :)
@[simp] theorem State.countInvalid_events (s : State) (n k : Nat) : (State.countInvalid s n k).events = s.events :=
  (congrArg State.events (State.countInvalid_outside { Mask.full with events := false } s n k (by simp [Mask.full])) :)
@[simp] theorem State.setFrame_events (s : State) (r : FrameRef) (f : Frame) : (State.setFrame s r f).events = s.events :=
  (congrArg State.events (State.setFrame_outside { Mask.full with events := false } s r f (by simp [Mask.full])) :)
@[simp] theorem State.setChecker_events (s : State) (src : Source) (x : BlazeState) :
    (State.setChecker s src x).events = s.events :=
  (congrArg State.events (State.setChecker_outside { Mask.full with events := false } s src x (by simp [Mask.full])) :)
@[simp] theorem State.sendManifest_events (s : State) (m : Manifest) : (State.sendManifest s m).events = s.events :=
  (congrArg State.events (State.sendManifest_outside { Mask.full with events := false } s m (by simp [Mask.full])) :)
@[simp] theorem State.joinSource_events (s : State) (k : Nat) : (State.joinSource s k).events = s.events :=
  (congrArg State.events (State.joinSource_outside { Mask.full with events := false } s k (by simp [Mask.full])) :)
@[simp] theorem State.settlePending_events (s : State) (src : Source) (r : FrameRef) :
    (State.settlePending s src r).events = s.events :=
  (congrArg State.events (State.settlePending_outside { Mask.full with events := false } s src r (by simp [Mask.full])) :)
@[simp] theorem State.prerollEligible_events (s : State) (c : Nat) (r : FrameRef) :
    (State.prerollEligible s c r).events = s.events :=
  (congrArg State.events (State.prerollEligible_outside { Mask.full with events := false } s c r (by simp [Mask.full])) :)
@[simp] theorem State.switchSheet_events (s : State) (n : Nat) : (State.switchSheet s n).events = s.events :=
  (congrArg State.events (State.switchSheet_outside { Mask.full with events := false } s n (by simp [Mask.full])) :)
@[simp] theorem State.resetChecker_events (s : State) (src : Source) : (State.resetChecker s src).events = s.events :=
  (congrArg State.events (State.resetChecker_outside { Mask.full with events := false } s src (by simp [Mask.full])) :)
@[simp] theorem State.reportPath_events (s : State) (p : PathCfg) : (State.reportPath s p).events = s.events :=
  (congrArg State.events (State.reportPath_outside { Mask.full with events := false } s p (by simp [Mask.full])) :)
@[simp] theorem State.sendIdent_events (s : State) (l : Nat) : (State.sendIdent s l).events = s.events :=
  (congrArg State.events (State.sendIdent_outside { Mask.full with events := false } s l (by simp [Mask.full])) :)
@[simp] theorem State.forgetSource_events (s : State) (src : Source) : (State.forgetSource s src).events = s.events :=
  (congrArg State.events (State.forgetSource_outside { Mask.full with events := false } s src (by simp [Mask.full])) :)
@[simp] theorem State.notePeak_events (s : State) : (State.notePeak s).events = s.events :=
  (congrArg State.events (State.notePeak_outside { Mask.full with events := false } s (by simp [Mask.full])) :)
@[simp] theorem State.waitEngine_events (s : State) (e : Nat) : (State.waitEngine s e).events = s.events :=
  (congrArg State.events (State.waitEngine_outside { Mask.full with events := false } s e (by simp [Mask.full])) :)
@[simp] theorem State.setComposing_events (s : State) (n : Nat) (c : Composing) : (State.setComposing s n c).events = s.events :=
  (congrArg State.events (State.setComposing_outside { Mask.full with events := false } s n c (by simp [Mask.full])) :)

section

variable {E : List Event} {s : State}

@[simp] theorem State.emit_grows (k : EvKind) (i : Nat) (p : List Int) (h : E <+: s.events) : E <+: (s.emit k i p).events :=
  h.trans (State.emit_prefix k i p (List.prefix_refl _))

theorem ite_grows {c : Prop} [Decidable c] {u w : State} (hu : E <+: u.events) (hw : E <+: w.events) :
    E <+: (if c then u else w).events := by
  split <;> assumption

/-- An operation repeated over a list. -/
theorem foldl_grows {β : Type} {f : State → β → State} (h : ∀ u b, E <+: u.events → E <+: (f u b).events) (l : List β) (hs : E <+: s.events) :
    E <+: (l.foldl f s).events := by
  induction l generalizing s with
  | nil => exact hs
  | cons b l ih => exact ih (h s b hs)

@[simp] theorem State.laneTo_grows (l : Nat) (x : LaneState) (h : E <+: s.events) : E <+: (s.laneTo l x).events := h.trans (s.laneTo_prefix l x)

@[simp] theorem State.pairTo_grows (x : PairState) (h : E <+: s.events) : E <+: (s.pairTo x).events := h.trans (s.pairTo_prefix x)

@[simp] theorem State.headTo_grows (n : Nat) (x : HeadState) (h : E <+: s.events) : E <+: (s.headTo n x).events := by
  unfold State.headTo
  dsimp only
  split <;> simp [h]

@[simp] theorem State.ctxTo_grows (n : Nat) (x : CtxState) (h : E <+: s.events) : E <+: (s.ctxTo n x).events := by
  unfold State.ctxTo
  dsimp only
  split <;> simp [h]

@[simp] theorem State.chanTo_grows (n : Nat) (x : ChState) (h : E <+: s.events) : E <+: (s.chanTo n x).events := by
  unfold State.chanTo
  dsimp only
  repeat' split
  all_goals simp [h]

@[simp] theorem State.modeTo_grows (m : Mode) (c : Nat) (h : E <+: s.events) : E <+: (s.modeTo m c).events := by
  unfold State.modeTo
  dsimp only
  repeat' split
  all_goals simp [h]

end

section Heads

variable {E : List Event} {s : State}

@[simp] theorem State.stopRaster_grows (n : Nat) (h : E <+: s.events) : E <+: (s.stopRaster n).events := by
  unfold State.stopRaster
  rw [State.settleAll_events]
  refine foldl_grows (fun u p hu => State.emit_grows _ _ _ hu) _ ?_
  rw [State.syncedPorts_events, State.setHead_events, foldl_same State.events _ (fun u r => by simp)]
  simpa using h

@[simp] theorem State.switchHead_grows (n : Nat) (h : E <+: s.events) : E <+: (s.switchHead n).events := by
  simp [State.switchHead, h]

@[simp] theorem State.settleHead_grows (n : Nat) (h : E <+: s.events) : E <+: (s.settleHead n).events := by
  unfold State.settleHead
  split <;> simp [h]

@[simp] theorem State.checkSink_grows (n : Nat) (c : HeadCfg) (h : E <+: s.events) : E <+: (s.checkSink n c).events :=
  h.trans (s.checkSink_prefix n c)

@[simp] theorem State.askTraining_grows (n : Nat) (h : E <+: s.events) : E <+: (s.askTraining n).events :=
  h.trans (s.askTraining_prefix n)

theorem State.stopHead_grows (n : Nat) (h : E <+: s.events) : E <+: (s.stopHead n).events := by
  refine State.settleHead_grows n (State.headTo_grows n .isolated ?_)
  rw [State.dropToken_events, State.untrain_events]
  exact ite_grows (State.stopRaster_grows n h) h

theorem State.liveHead_grows (a : Nat) (objs : Tab Obj) (n : Nat) (h : E <+: s.events) : E <+: (s.liveHead a objs n).events := by
  unfold State.liveHead
  dsimp only
  split
  · repeat' split
    all_goals simp [h]
  · refine ite_grows h (State.checkSink_grows n _ ?_)
    cases (s.head n).state <;> simp [h]

end Heads

section Sources

variable {E : List Event} {s : State}

@[simp] theorem State.ctxResync_grows (n : Nat) (h : E <+: s.events) : E <+: (s.ctxResync n).events := by
  unfold State.ctxResync
  dsimp only
  split <;> simp [h]

@[simp] theorem State.takeSsrc_grows (n : Nat) (q : Option (BitVec 32)) (h : E <+: s.events) : E <+: (s.takeSsrc n q).events := by
  simp [State.takeSsrc, h]

@[simp] theorem State.ctxFault_grows (n : Nat) (x : CtxFault) (h : E <+: s.events) : E <+: (s.ctxFault n x).events := by
  unfold State.ctxFault
  refine ite_grows ?_ h
  dsimp only
  split
  · refine State.chanTo_grows _ _ (State.emit_grows _ _ _ (State.ctxTo_grows _ _ ?_))
    simpa using h
  · refine State.emit_grows _ _ _ (State.ctxTo_grows _ _ ?_)
    simpa using h

@[simp] theorem State.applyAction_grows (m : Manifest) (h : E <+: s.events) : E <+: (s.applyAction m).events := by
  unfold State.applyAction
  dsimp only
  split <;> simp [h]

theorem State.runActions_grows (n k : Nat) (h : E <+: s.events) : E <+: (s.runActions n k).events := by
  induction k generalizing s with
  | zero => exact h
  | succ k ih =>
    unfold State.runActions
    repeat' split
    · exact ih (State.applyAction_grows _ (by simpa using h))
    · exact h
    · exact h

@[simp] theorem State.gapBegin_grows (k : Nat) (h : E <+: s.events) : E <+: (s.gapBegin k).events := by
  unfold State.gapBegin
  dsimp only
  repeat' split
  all_goals simp [h]

@[simp] theorem State.gapEnd_grows (k : Nat) (h : E <+: s.events) : E <+: (s.gapEnd k).events := by
  unfold State.gapEnd
  dsimp only
  repeat' split
  all_goals simp [h]

@[simp] theorem State.captImplausible_grows (ch a c : Nat) (h : E <+: s.events) : E <+: (s.captImplausible ch a c).events := by
  unfold State.captImplausible
  dsimp only
  repeat' split
  all_goals simp [h]

@[simp] theorem State.verdictEvent_grows (src : Source) (v w : BlazeVerdict) (a : BitVec 40) (h : E <+: s.events) :
    E <+: (s.verdictEvent src v w a).events := by
  unfold State.verdictEvent
  dsimp only
  repeat' split
  all_goals simp [h]

@[simp] theorem State.blazeTag_grows (src : Source) (a : BitVec 40) (h : E <+: s.events) : E <+: (s.blazeTag src a).events := by
  simp [State.blazeTag, h]

@[simp] theorem State.blazeHash_grows (src : Source) (a : BitVec 40) (q : BitVec 16) (x : BitVec 32) (h : E <+: s.events) :
    E <+: (s.blazeHash src a q x).events := by
  unfold State.blazeHash
  split <;> simp [h]

theorem State.writeTag_grows (w : Writer) (r : FrameRef) (v : BlazeVerdict) (p : Nat × Bool × Nat) (h : E <+: s.events) :
    E <+: (s.writeTag w r v p).events := by
  unfold State.writeTag
  cases w.src with
  | ch n => exact ite_grows (State.captImplausible_grows _ _ _ (by simpa using h)) (by simpa using h)
  | surf n => simpa using h
  | sheet n => simpa using h

@[simp] theorem State.writeTags_grows (w : Writer) (r : FrameRef) (v : BlazeVerdict) (l : List (Nat × Bool × Nat)) (h : E <+: s.events) :
    E <+: (s.writeTags w r v l).events := foldl_grows (fun _ p hu => State.writeTag_grows w r v p hu) l h

@[simp] theorem State.missFor_grows (src : Source) (h : E <+: s.events) : E <+: (s.missFor src).events := by
  cases src <;> simp [State.missFor, h]

end Sources

end Sys2Proof.Machine
end

section
/-! The events grow, continued: pictures and captures, lanes and bonds, changes going live, isolation. -/

namespace Sys2Proof.Machine

open Sys2Proof.Safety

section Captures

variable {E : List Event} {s : State}

theorem State.writeStands_grows (w : Writer) (r : FrameRef) (l : List (Nat × Bool × Nat)) (h : E <+: s.events) :
    E <+: (s.writeStands w r l).events := by
  have hset : ∀ u : State, ∀ f : Frame, E <+: u.events → E <+: (u.setFrame r f).events := fun u f hu => by simpa using hu
  have htag : ∀ u : State, ∀ c : Prop, ∀ _ : Decidable c, ∀ a, E <+: u.events → E <+: (if c then u else u.blazeTag w.src a).events :=
    fun u c _ a hu => ite_grows hu (State.blazeTag_grows _ _ hu)
  unfold State.writeStands
  refine ite_grows (State.writeTags_grows _ _ _ _ (hset _ _ h)) ?_
  have hearly : ∀ c : Prop, ∀ _ : Decidable c, ∀ a v q, E <+: ((if c then s else s.blazeTag w.src a).writeTags w r v q).events :=
    fun c _ a v q => State.writeTags_grows _ _ _ _ (htag s c _ a h)
  refine ite_grows (State.writeTags_grows _ _ _ _ (htag _ _ _ _ (hset _ _ (ite_grows ?_ ?_)))) (hset _ _ ?_)
  · exact hearly _ _ _ _ _
  · exact State.blazeHash_grows _ _ _ _ (hset _ _ (htag _ _ _ _ (hearly _ _ _ _ _)))
  · exact hearly _ _ _ _ _

theorem State.tagGroup_grows (n : Nat) (o : OpenFrame) (g : Nat) (err : Bool) (a : Nat) (h : E <+: s.events) :
    E <+: (s.tagGroup n o g err a).events := by
  unfold State.tagGroup
  rw [State.countInvalid_events]
  exact State.writeStands_grows _ _ _ h

theorem State.makeEligible_grows (src : Source) (r : FrameRef) (h : E <+: s.events) : E <+: (s.makeEligible src r).events := by
  have hmiss : ∀ (f : Frame) (c : Prop) (_ : Decidable c),
      E <+: (if c then (s.setFrame r f).missFor src else s.setFrame r f).events := fun f c _ =>
    ite_grows (State.missFor_grows src (by simpa using h)) (by simpa using h)
  have hcount : ∀ (u : State) (n i : Nat) (c : Prop) (_ : Decidable c), E <+: u.events → E <+: (if c then u.chCount n i 1 else u).events :=
    fun u n i c _ hu => ite_grows (by simpa using hu) hu
  cases src with
  | ch n =>
    refine State.chanTo_grows _ _ ?_
    rw [State.setChan_events]
    refine hcount _ _ _ _ _ (hcount _ _ _ _ _ ?_)
    rw [State.chCount_events]
    exact hmiss _ _ _
  | surf n => exact hmiss _ _ _
  | sheet n => exact hmiss _ _ _

theorem State.becomeEligible_grows (src : Source) (r : FrameRef) (h : E <+: s.events) : E <+: (s.becomeEligible src r).events := by
  unfold State.becomeEligible
  rw [State.settlePending_events]
  exact State.makeEligible_grows src r h

theorem State.ctxEligible_grows (n : Nat) (r : FrameRef) (h : E <+: s.events) : E <+: (s.ctxEligible n r).events := by
  unfold State.ctxEligible
  split
  · exact State.becomeEligible_grows _ r h
  · simpa using h

theorem State.finishCapture_grows (n : Nat) (o : OpenFrame) (h : E <+: s.events) : E <+: (s.finishCapture n o).events := by
  refine State.ctxEligible_grows n _ ?_
  rw [State.setCtx_events]
  have hsent : ∀ m : Manifest, E <+: (s.sendManifest m).events := fun m => by simpa using h
  have hheld : ∀ (u : State) (c : Prop) (_ : Decidable c), E <+: u.events → E <+: (if c then (u.gapEnd n).joinSource n else u).events :=
    fun u c _ hu => ite_grows (by simpa using State.gapEnd_grows n hu) hu
  refine hheld _ _ _ ?_
  rw [State.modFrame_events]
  split
  · exact ite_grows (by simpa using h) (hsent _)
  · exact hsent _

theorem State.applyCapture_grows (n : Nat) (o : OpenFrame) (m : Manifest) (h : E <+: s.events) : E <+: (s.applyCapture n o m).events := by
  refine State.finishCapture_grows n _ ?_
  rw [State.entryApplied_events]
  refine foldl_grows (fun u g hu => State.tagGroup_grows _ _ _ _ _ (ite_grows (State.gapBegin_grows n hu) hu)) _ ?_
  simpa using h

theorem State.closeCapture_grows (n : Nat) (h : E <+: s.events) : E <+: (s.closeCapture n).events := by
  unfold State.closeCapture
  split
  · exact h
  · refine ite_grows (by simpa using h) (ite_grows ?_ ?_)
    · split
      · exact State.runActions_grows _ _ (State.applyCapture_grows _ _ _ (by simpa using h))
      · simpa using h
    · refine State.finishCapture_grows _ _ ?_
      rw [State.setCtx_events]
      exact foldl_grows (fun u g hu => ite_grows hu (State.tagGroup_grows _ _ _ _ _ hu)) _ h

end Captures

section Lanes

variable {E : List Event} {s : State}

theorem State.unpair_grows (h : E <+: s.events) : E <+: s.unpair.events := ite_grows (State.pairTo_grows _ h) h

theorem State.leaveUp_grows (l : Nat) (role : BondRole) (h : E <+: s.events) : E <+: (s.leaveUp l role).events := by
  have hclosed : E <+: ((s.bondCtxs l).foldl (fun s n =>
      let s := s.closeCapture n
      if (s.ctx n).state = .decode then s.ctxTo n .sync else s) s).events :=
    foldl_grows (fun u n hu => ite_grows (State.ctxTo_grows _ _ (State.closeCapture_grows n hu)) (State.closeCapture_grows n hu)) _ h
  exact ite_grows (State.unpair_grows hclosed) hclosed

theorem State.bondTo_grows (l : Nat) (x : Nat → LaneState) (h : E <+: s.events) : E <+: (s.bondTo l x).events := by
  have hlanes : E <+: ((s.bondLanes l).foldl (fun s k =>
      let z := s.lane k
      if z.state = .off ∨ z.state = x k then s
      else ((s.setLane k { z with txEidle := false, rxEidle := false, wakeAsked := false, deepAsked := false }).laneTo k (x k)).dropToken
        .lane k) s).events :=
    foldl_grows (fun u k hu => ite_grows hu (by rw [State.dropToken_events]; exact State.laneTo_grows _ _ (by simpa using hu))) _ h
  exact ite_grows (State.leaveUp_grows _ _ hlanes) hlanes

@[simp] theorem State.trainLane_grows (l : Nat) (h : E <+: s.events) : E <+: (s.trainLane l).events := by
  unfold State.trainLane
  rw [State.sendIdent_events]
  exact State.laneTo_grows _ _ (by simpa using h)

theorem State.disableBond_grows (l : Nat) (b : BondCfg) (h : E <+: s.events) : E <+: (s.disableBond l b).events :=
  foldl_grows (fun u k hu => by simpa using hu) _ (State.bondTo_grows l _ h)

theorem State.enableBond_grows (l : Nat) (b : BondCfg) (h : E <+: s.events) : E <+: (s.enableBond l b).events := by
  have hen : ∀ g : State → Nat → Lane, E <+: ((bondLaneList l b).foldl (fun s k => s.setLane k (g s k)) s).events :=
    fun g => foldl_grows (fun u k hu => by simpa using hu) _ h
  exact ite_grows (hen _) (foldl_grows (fun u k hu => State.trainLane_grows k hu) _
    (foldl_grows (fun u k hu => State.laneTo_grows k _ hu) _ (hen _)))

theorem State.liveBonds_grows (objs : Tab Obj) (h : E <+: s.events) : E <+: (s.liveBonds objs).events :=
  foldl_grows (fun u p hu => State.enableBond_grows _ _ hu) _ (foldl_grows (fun u p hu => State.disableBond_grows _ _ hu) _ h)

end Lanes

end Sys2Proof.Machine
end

section
/-! The events grow, continued: what goes live, what is shed, engines, isolation. -/

namespace Sys2Proof.Machine

open Sys2Proof.Safety



section Live

variable {E : List Event} {s : State}

@[simp] theorem State.dropBuffers_events (s : State) (n : Nat) : (s.dropBuffers n).events = s.events :=
  foldl_same State.events _ (fun _ _ => State.modFrame_events _ _ _) _ _

@[simp] theorem State.feedCtx_events (s : State) (objs : Tab Obj) (n : Nat) : (s.feedCtx objs n).events = s.events := rfl

theorem State.startCtx_grows (n : Nat) (d : Decl) (h : E <+: s.events) : E <+: (s.startCtx n d).events := by
  refine State.ctxTo_grows _ _ ?_
  split
  · rw [State.resetChecker_events]
    exact State.ctxTo_grows _ _ h
  · exact State.ctxTo_grows _ _ h

theorem State.liveCtx_grows (touched : List Nat) (objs : Tab Obj) (n : Nat) (h : E <+: s.events) :
    E <+: (s.liveCtx touched objs n).events := by
  unfold State.liveCtx
  split
  · next d _ =>
    have hstart := State.startCtx_grows (s := if (s.ctx n).state = .idle then s else (s.dropWork n).dropBuffers n) n d
      (ite_grows h (by simpa using h))
    cases d with
    | net x => simpa using hstart
    | lusko x => exact hstart
  · exact h

theorem State.feedChan_events (s : State) (c : Nat) (n : Option Nat) : (s.feedChan c n).events = s.events := by
  unfold State.feedChan
  dsimp only
  split <;> simp

theorem State.setChanCfg_events (s : State) (objs : Tab Obj) (c : Nat) : (s.setChanCfg objs c).events = s.events := by
  unfold State.setChanCfg
  dsimp only
  split <;> simp

theorem State.wastePreroll_events (s : State) (n : Nat) : (s.wastePreroll n).events = s.events := by
  unfold State.wastePreroll
  rw [State.setCtx_events]
  exact foldl_same State.events _ (fun u p => State.setSlots_events u _ _) _ _

theorem State.stopCtx_grows (n : Nat) (h : E <+: s.events) : E <+: (s.stopCtx n).events :=
  ite_grows h (State.ctxTo_grows _ _ (by simpa using h))

theorem State.liveStop_grows (cancelled : List Nat) (objs : Tab Obj) (n : Nat) (h : E <+: s.events) :
    E <+: (s.liveStop cancelled objs n).events :=
  ite_grows h (State.stopCtx_grows n (ite_grows (by rwa [State.wastePreroll_events]) h))

theorem State.chanStart_grows (c : Nat) (h : E <+: s.events) : E <+: (s.chanStart c).events := by
  unfold State.chanStart
  repeat' split
  all_goals exact State.chanTo_grows _ _ h

theorem State.liveIngest_grows (touched cancelled : List Nat) (objs : Tab Obj) (h : E <+: s.events) :
    E <+: (s.liveIngest touched cancelled objs).events := by
  unfold State.liveIngest
  rw [State.settleAll_events]
  refine foldl_grows (fun u c hu => State.chanStart_grows c hu) _ (foldl_grows (fun u n hu => State.liveStop_grows _ _ n hu) _ ?_)
  rw [foldl_same State.events _ (fun u c => State.setChanCfg_events u objs c), foldl_same State.events _ (fun u c => State.feedChan_events u c _),
    foldl_same State.events _ (fun u n => State.feedCtx_events u objs n)]
  exact foldl_grows (fun u n hu => State.liveCtx_grows _ _ n hu) _ h

theorem State.freeIf_events (u : State) (k n : Nat) : (if (u.engine k).sheet = some n then u.freeEngine k else u).events = u.events :=
  (ite_keeps State.events (State.freeEngine_events _ _))

theorem State.liveSheet_events (s : State) (objs : Tab Obj) (n : Nat) : (s.liveSheet objs n).events = s.events := by
  have hfree : ([0, 1].foldl (fun s k => if (s.engine k).sheet = some n then s.freeEngine k else s) s).events = s.events :=
    foldl_same State.events _ (fun u k => State.freeIf_events u k n) _ _
  unfold State.liveSheet
  dsimp only
  generalize [0, 1].foldl (fun s k => if (s.engine k).sheet = some n then s.freeEngine k else s) s = u at hfree ⊢
  repeat' split
  all_goals simp [hfree]

theorem State.recStop_events (s : State) (r : Nat) : (s.recStop r).events = s.events := rfl

theorem State.liveRec_events (s : State) (old objs : Tab Obj) (r : Nat) : (s.liveRec old objs r).events = s.events := by
  unfold State.liveRec
  dsimp only
  repeat' split
  all_goals simp [State.recStop_events]

theorem State.reseat_events (s : State) (n : Nat) : (s.reseat n).events = s.events := by
  unfold State.reseat
  split <;> rfl

theorem State.livePacking_events (s : State) (objs : Tab Obj) : (s.livePacking objs).events = s.events := by
  have hseat : ∀ u : State, ((keys s.ctxs).foldl State.reseat u).events = u.events :=
    fun u => foldl_same State.events _ State.reseat_events _ _
  have hrec : ∀ (u : State) (l : List Nat) (g : State → Nat → Rec), (l.foldl (fun s r => s.setRecording r (g s r)) u).events = u.events :=
    fun u l g => foldl_same State.events _ (fun v r => State.setRecording_events v r _) _ _
  unfold State.livePacking
  dsimp only
  repeat' split
  all_goals simp [hseat, hrec]

theorem State.liveConsole_events (s : State) (objs : Tab Obj) : (s.liveConsole objs).events = s.events := by
  have htouch : ∀ (u : State) p, (u.liveTouch objs p).events = u.events := fun u p => by unfold State.liveTouch; dsimp only; split <;> rfl
  have hkey : ∀ (u : State) k, (u.liveKey objs k).events = u.events := fun u k => by unfold State.liveKey; dsimp only; split <;> rfl
  unfold State.liveConsole
  dsimp only
  rw [foldl_same State.events _ hkey, foldl_same State.events _ htouch]

theorem State.livePair_grows (objs : Tab Obj) (h : E <+: s.events) : E <+: (s.livePair objs).events := by
  unfold State.livePair
  exact ite_grows (State.pairTo_grows _ h) (ite_grows (State.pairTo_grows _ h) h)

theorem State.goLive_grows (a : Nat) (touched cancelled : List Nat) (objs : Tab Obj) (h : E <+: s.events) :
    E <+: (s.goLive a touched cancelled objs).events := by
  unfold State.goLive
  dsimp only
  rw [State.notePeak_events]
  refine State.livePair_grows _ ?_
  rw [State.liveConsole_events, State.livePacking_events, foldl_same State.events _ (fun u r => State.liveRec_events u _ _ r),
    foldl_same State.events _ (fun u n => State.liveSheet_events u _ n)]
  exact foldl_grows (fun u n hu => State.liveHead_grows _ _ n hu) _ (State.liveBonds_grows _ (State.liveIngest_grows _ _ _ h))

end Live

section Isolation

variable {E : List Event} {s : State}

theorem State.finishSheet_grows (n : Nat) (c : Composing) (h : E <+: s.events) : E <+: (s.finishSheet n c).events := by
  unfold State.finishSheet
  dsimp only
  rw [State.pmc_events, State.pmc_events]
  exact State.becomeEligible_grows _ _ (by simpa using h)

theorem State.startEngine_grows (e k : Nat) (h : E <+: s.events) : E <+: (s.startEngine e k).events := by
  induction k generalizing s with
  | zero => exact h
  | succ k ih =>
    unfold State.startEngine
    refine ite_grows h ?_
    split
    · simpa using h
    · refine ite_grows (by simpa using h) ?_
      dsimp only
      split
      · exact ih (State.finishSheet_grows _ _ (by simpa using h))
      · simpa using h

theorem State.shedCtxs_grows (k : Nat) (h : E <+: s.events) : E <+: (s.shedCtxs k).1.events := by
  induction k generalizing s with
  | zero => exact h
  | succ k ih =>
    unfold State.shedCtxs
    split
    · exact h
    · split
      · exact h
      · exact ih (State.emit_grows _ _ _ h)

theorem State.shedRecs_grows (k : Nat) (h : E <+: s.events) : E <+: (s.shedRecs k).1.events := by
  induction k generalizing s with
  | zero => exact h
  | succ k ih =>
    unfold State.shedRecs
    split
    · exact h
    · split
      · exact h
      · exact ih (State.emit_grows _ _ _ h)

theorem State.settleSheet_events (s : State) (n : Nat) : (s.settleSheet n).events = s.events := by
  unfold State.settleSheet
  split <;> simp

theorem State.shedSheets_grows (k : Nat) (h : E <+: s.events) : E <+: (s.shedSheets k).events := by
  induction k generalizing s with
  | zero => exact h
  | succ k ih =>
    unfold State.shedSheets
    refine ite_grows h ?_
    split
    · exact h
    · refine ih (State.emit_grows _ _ _ ?_)
      rw [State.settleSheet_events, State.sheetMarks_events, State.setSheet_events, foldl_same State.events _ (fun u c => State.modFrame_events u _ _),
        foldl_same State.events _ (fun u e => State.freeIf_events u e _)]
      exact h

theorem State.stopDec_events (s : State) (k : Nat) : (s.stopDec k).events = s.events := by
  unfold State.stopDec
  simp only [State.setCore_events, State.dropToken_events, State.endWork_events, State.syncCore_events]
  refine foldl_same State.events _ (fun u n => ?_) _ _
  unfold State.unseat
  split <;> simp

theorem State.stopEngine_events (s : State) (e : Nat) : (s.stopEngine e).events = s.events := by
  unfold State.stopEngine
  simp only [State.dropToken_events, State.setEngine_events]
  refine (foldl_same State.events _ (fun u n => ?_) _ _).trans (State.freeEngine_events _ _)
  rw [State.sheetMarks_events, State.setSheet_events, foldl_same State.events _ (fun v c => State.modFrame_events v _ _)]

theorem State.stopRecCore_events (s : State) (k : Nat) : (s.stopRecCore k).events = s.events := by
  unfold State.stopRecCore
  rw [State.setRecCore_events]
  refine (foldl_same State.events _ (fun u q => ?_) _ _).trans (by simp)
  dsimp only
  split <;> simp

theorem State.stopUnit_grows (u : IsoUnit) (h : E <+: s.events) : E <+: (s.stopUnit u).events := by
  cases u with
  | dec k => exact (State.stopDec_events s _).symm ▸ h
  | sheet e => exact (State.stopEngine_events s _).symm ▸ h
  | rec_ k => exact (State.stopRecCore_events s _).symm ▸ h
  | head n => exact State.stopHead_grows _ h
  | lane l => exact State.bondTo_grows _ _ h
  | eth p => exact h

theorem State.fitPools_events (s : State) : s.fitPools.s.events = s.events :=
  (congrArg State.events (State.fitPools_outside { Mask.full with events := false } (by simp [Mask.full]) s) :)

theorem State.repack_grows (h : E <+: s.events) : E <+: s.repack.events := by
  unfold State.repack
  dsimp only
  refine foldl_grows (fun u e hu => State.startEngine_grows e 33 hu) _ (foldl_grows (fun u n hu => ?_) _ (State.goLive_grows _ _ _ _ ?_))
  · split
    · simpa using hu
    · exact hu
  · rw [State.fitPools_events]
    exact State.shedRecs_grows _ (State.shedSheets_grows _ (State.shedCtxs_grows _ h))

theorem State.markIsolated_events (s : State) (u : IsoUnit) : (s.markIsolated u).events = s.events := by cases u <;> rfl

/-- Isolation appends ISOLATE with the unit's kind and index to the events raised before (R419). -/
theorem State.isolate_raises (v : State) (u : IsoUnit) (hv : s.events = v.events) (h : s.isolated u = false) :
    raises .modeIsolate 0 [(IsoUnit.name u).1, (IsoUnit.name u).2] v (s.isolate u) := by
  have hstop : s.events <+: ((s.markIsolated u).stopUnit u).events :=
    State.stopUnit_grows u ((State.markIsolated_events s u).symm ▸ List.prefix_refl _)
  have hemit : raises .modeIsolate 0 [(IsoUnit.name u).1, (IsoUnit.name u).2] v
      (((s.markIsolated u).stopUnit u).emit .modeIsolate 0 [(IsoUnit.name u).1, (IsoUnit.name u).2]) := by
    obtain ⟨l, hl⟩ := hstop
    exact raises_emit _ _ _ _ _ ⟨l, by rw [← hl, hv]⟩
  have hpack := State.repack_grows (List.prefix_refl (((s.markIsolated u).stopUnit u).emit .modeIsolate 0
    [(IsoUnit.name u).1, (IsoUnit.name u).2]).events)
  unfold State.isolate
  rw [if_neg (by rw [h]; decide)]
  exact raises_of_prefix hemit (ite_grows (State.modeTo_grows _ _ hpack) hpack)

end Isolation

end Sys2Proof.Machine
end

section
/-! The isolated units: only isolation marks a unit, and nothing that follows it takes the mark away (R419). -/

namespace Sys2Proof

/-- The marks of the isolated units. -/
def ModeUnit.isolations (m : ModeUnit) : BitVec 32 × BitVec 16 × BitVec 32 := (m.isoCore, m.isoHead, m.isoLane)

end Sys2Proof

namespace Sys2Proof.Machine

open Sys2Proof.Safety

theorem mode_of_outside {w u : State} (h : w.outside { Mask.full with mode := false } = u.outside { Mask.full with mode := false }) :
    w.mode = u.mode := (congrArg State.mode h :)

@[simp] theorem State.stopRaster_mode (s : State) (n : Nat) : (s.stopRaster n).mode = s.mode :=
  mode_of_outside (State.stopRaster_outside _ s n (by simp [Mask.full]))

@[simp] theorem State.modFrame_mode (s : State) (r : FrameRef) (f : Frame → Frame) : (State.modFrame s r f).mode = s.mode :=
  (congrArg State.mode (State.modFrame_outside { Mask.full with mode := false } s r f (by simp [Mask.full])) :)
@[simp] theorem State.sheetMarks_mode (s : State) (n : Nat) (refs : List FrameRef) : (State.sheetMarks s n refs).mode = s.mode :=
  (congrArg State.mode (State.sheetMarks_outside { Mask.full with mode := false } s n refs (by simp [Mask.full])) :)
@[simp] theorem State.setRecording_mode (s : State) (r : Nat) (x : Rec) : (State.setRecording s r x).mode = s.mode :=
  (congrArg State.mode (State.setRecording_outside { Mask.full with mode := false } s r x (by simp [Mask.full])) :)
@[simp] theorem State.setRecCore_mode (s : State) (k : Nat) (x : RecCore) : (State.setRecCore s k x).mode = s.mode :=
  (congrArg State.mode (State.setRecCore_outside { Mask.full with mode := false } s k x (by simp [Mask.full])) :)
@[simp] theorem State.headTo_mode (s : State) (h : Nat) (st : HeadState) : (State.headTo s h st).mode = s.mode :=
  (congrArg State.mode (State.headTo_outside { Mask.full with mode := false } s h st (by simp [Mask.full])) :)
@[simp] theorem State.untrain_mode (s : State) (h : Nat) : (State.untrain s h).mode = s.mode :=
  (congrArg State.mode (State.untrain_outside { Mask.full with mode := false } s h (by simp [Mask.full])) :)
@[simp] theorem State.settleHead_mode (s : State) (h : Nat) : (State.settleHead s h).mode = s.mode :=
  (congrArg State.mode (State.settleHead_outside { Mask.full with mode := false } s h (by simp [Mask.full])) :)
@[simp] theorem State.laneTo_mode (s : State) (l : Nat) (x : LaneState) : (State.laneTo s l x).mode = s.mode :=
  (congrArg State.mode (State.laneTo_outside { Mask.full with mode := false } s l x (by simp [Mask.full])) :)
@[simp] theorem State.entryApplied_mode (s : State) (m : Manifest) : (State.entryApplied s m).mode = s.mode :=
  (congrArg State.mode (State.entryApplied_outside { Mask.full with mode := false } s m (by simp [Mask.full])) :)
@[simp] theorem State.ctxResync_mode (s : State) (n : Nat) : (State.ctxResync s n).mode = s.mode :=
  (congrArg State.mode (State.ctxResync_outside { Mask.full with mode := false } s n (by simp [Mask.full])) :)
@[simp] theorem State.takeSsrc_mode (s : State) (n : Nat) (q : Option (BitVec 32)) : (State.takeSsrc s n q).mode = s.mode :=
  (congrArg State.mode (State.takeSsrc_outside { Mask.full with mode := false } s n q (by simp [Mask.full])) :)
@[simp] theorem State.sendAction_mode (s : State) (ctx op code : Nat) : (State.sendAction s ctx op code).mode = s.mode :=
  (congrArg State.mode (State.sendAction_outside { Mask.full with mode := false } s ctx op code (by simp [Mask.full])) :)
@[simp] theorem State.ctxTo_mode (s : State) (n : Nat) (x : CtxState) : (State.ctxTo s n x).mode = s.mode :=
  (congrArg State.mode (State.ctxTo_outside { Mask.full with mode := false } s n x (by simp [Mask.full])) :)
@[simp] theorem State.chanTo_mode (s : State) (ch : Nat) (x : ChState) : (State.chanTo s ch x).mode = s.mode :=
  (congrArg State.mode (State.chanTo_outside { Mask.full with mode := false } s ch x (by simp [Mask.full])) :)
@[simp] theorem State.applyCapture_mode (s : State) (n : Nat) (o : OpenFrame) (m : Manifest) :
    (State.applyCapture s n o m).mode = s.mode :=
  (congrArg State.mode (State.applyCapture_outside { Mask.full with mode := false } s n o m (by simp [Mask.full])) :)
@[simp] theorem State.tagGroup_mode (s : State) (n : Nat) (o : OpenFrame) (g : Nat) (err : Bool) (arrv : Nat) :
    (State.tagGroup s n o g err arrv).mode = s.mode :=
  (congrArg State.mode (State.tagGroup_outside { Mask.full with mode := false } s n o g err arrv (by simp [Mask.full])) :)
@[simp] theorem State.finishCapture_mode (s : State) (n : Nat) (o : OpenFrame) : (State.finishCapture s n o).mode = s.mode :=
  (congrArg State.mode (State.finishCapture_outside { Mask.full with mode := false } s n o (by simp [Mask.full])) :)
@[simp] theorem State.unpair_mode (s : State) : (State.unpair s).mode = s.mode :=
  (congrArg State.mode (State.unpair_outside { Mask.full with mode := false } s (by simp [Mask.full])) :)
@[simp] theorem State.finishSwitch_mode (s : State) : (State.finishSwitch s).mode = s.mode :=
  (congrArg State.mode (State.finishSwitch_outside { Mask.full with mode := false } s (by simp [Mask.full])) :)
@[simp] theorem State.switchSheet_mode (s : State) (n : Nat) : (State.switchSheet s n).mode = s.mode :=
  (congrArg State.mode (State.switchSheet_outside { Mask.full with mode := false } s n (by simp [Mask.full])) :)
@[simp] theorem State.resetChecker_mode (s : State) (src : Source) : (State.resetChecker s src).mode = s.mode :=
  (congrArg State.mode (State.resetChecker_outside { Mask.full with mode := false } s src (by simp [Mask.full])) :)
@[simp] theorem State.reportPath_mode (s : State) (p : PathCfg) : (State.reportPath s p).mode = s.mode :=
  (congrArg State.mode (State.reportPath_outside { Mask.full with mode := false } s p (by simp [Mask.full])) :)
@[simp] theorem State.chanStart_mode (s : State) (ch : Nat) : (State.chanStart s ch).mode = s.mode :=
  (congrArg State.mode (State.chanStart_outside { Mask.full with mode := false } s ch (by simp [Mask.full])) :)
@[simp] theorem State.settleAll_mode (s : State) : (State.settleAll s).mode = s.mode :=
  (congrArg State.mode (State.settleAll_outside { Mask.full with mode := false } s (by simp [Mask.full])) :)
@[simp] theorem State.trainLane_mode (s : State) (l : Nat) : (State.trainLane s l).mode = s.mode :=
  (congrArg State.mode (State.trainLane_outside { Mask.full with mode := false } s l (by simp [Mask.full])) :)
@[simp] theorem State.checkSink_mode (s : State) (h : Nat) (c : HeadCfg) : (State.checkSink s h c).mode = s.mode :=
  (congrArg State.mode (State.checkSink_outside { Mask.full with mode := false } s h c (by simp [Mask.full])) :)
@[simp] theorem State.forgetSource_mode (s : State) (src : Source) : (State.forgetSource s src).mode = s.mode :=
  (congrArg State.mode (State.forgetSource_outside { Mask.full with mode := false } s src (by simp [Mask.full])) :)
@[simp] theorem State.waitEngine_mode (s : State) (e : Nat) : (State.waitEngine s e).mode = s.mode :=
  (congrArg State.mode (State.waitEngine_outside { Mask.full with mode := false } s e (by simp [Mask.full])) :)
@[simp] theorem State.setComposing_mode (s : State) (n : Nat) (c : Composing) : (State.setComposing s n c).mode = s.mode :=
  (congrArg State.mode (State.setComposing_outside { Mask.full with mode := false } s n c (by simp [Mask.full])) :)
@[simp] theorem State.finishSheet_mode (s : State) (n : Nat) (c : Composing) : (State.finishSheet s n c).mode = s.mode :=
  (congrArg State.mode (State.finishSheet_outside { Mask.full with mode := false } s n c (by simp [Mask.full])) :)

section Work

@[simp] theorem State.dropToken_isolations (s : State) (h : TokenHolder) (u : Nat) :
    (s.dropToken h u).mode.isolations = s.mode.isolations := rfl

@[simp] theorem State.askToken_isolations (s : State) (h : TokenHolder) (u : Nat) :
    (s.askToken h u).mode.isolations = s.mode.isolations := by
  unfold State.askToken
  dsimp only
  split <;> rfl

/-- An operation repeated over a list. -/
theorem foldl_isolations {β : Type} (f : State → β → State) (h : ∀ u b, (f u b).mode.isolations = u.mode.isolations) (l : List β) (s : State) :
    (l.foldl f s).mode.isolations = s.mode.isolations := foldl_same (fun u : State => u.mode.isolations) f h l s

theorem ite_isolations {c : Prop} [Decidable c] {u w : State} {m : ModeUnit} (hu : u.mode.isolations = m.isolations)
    (hw : w.mode.isolations = m.isolations) : (if c then u else w).mode.isolations = m.isolations := by
  split <;> assumption

@[simp] theorem State.freeCore_isolations (s : State) (n k : Nat) : (s.freeCore n k).mode.isolations = s.mode.isolations := by
  unfold State.freeCore
  dsimp only
  repeat' split
  all_goals simp

@[simp] theorem State.dropWork_isolations (s : State) (n : Nat) : (s.dropWork n).mode.isolations = s.mode.isolations := by
  unfold State.dropWork
  dsimp only
  rw [foldl_isolations _ (fun u k => by simp), State.setCtx_mode, foldl_isolations _ (fun u k => State.freeCore_isolations u n k),
    foldl_isolations _ (fun u b => by simp)]

@[simp] theorem State.freeEngine_isolations (s : State) (e : Nat) : (s.freeEngine e).mode.isolations = s.mode.isolations := by
  unfold State.freeEngine
  dsimp only
  split <;> simp

@[simp] theorem State.ctxFault_isolations (s : State) (n : Nat) (x : CtxFault) : (s.ctxFault n x).mode.isolations = s.mode.isolations := by
  unfold State.ctxFault
  dsimp only
  repeat' split
  all_goals simp

@[simp] theorem State.applyAction_isolations (s : State) (m : Manifest) : (s.applyAction m).mode.isolations = s.mode.isolations := by
  unfold State.applyAction
  dsimp only
  split <;> simp

theorem State.runActions_isolations (s : State) (n k : Nat) : (s.runActions n k).mode.isolations = s.mode.isolations := by
  induction k generalizing s with
  | zero => rfl
  | succ k ih =>
    unfold State.runActions
    repeat' split
    · rw [ih]
      simp
    · rfl
    · rfl

@[simp] theorem State.closeCapture_isolations (s : State) (n : Nat) : (s.closeCapture n).mode.isolations = s.mode.isolations := by
  unfold State.closeCapture
  split
  · rfl
  · refine ite_isolations (by simp) (ite_isolations ?_ ?_)
    · split
      · rw [State.runActions_isolations]
        simp
      · simp
    · rw [State.finishCapture_mode, State.setCtx_mode]
      exact foldl_isolations _ (fun u g => ite_isolations rfl (by simp)) _ _

theorem State.bondTo_isolations (s : State) (l : Nat) (x : Nat → LaneState) : (s.bondTo l x).mode.isolations = s.mode.isolations := by
  have hleave : ∀ (u : State) (f : Nat) (r : BondRole), (u.leaveUp f r).mode.isolations = u.mode.isolations := by
    intro u f r
    have hclosed : ((u.bondCtxs f).foldl (fun s n =>
        let s := s.closeCapture n
        if (s.ctx n).state = .decode then s.ctxTo n .sync else s) u).mode.isolations = u.mode.isolations :=
      foldl_isolations _ (fun v n => ite_isolations (by simp) (by simp)) _ _
    exact ite_isolations (by rw [State.unpair_mode, hclosed]) hclosed
  have hlanes : ((s.bondLanes l).foldl (fun s k =>
      let z := s.lane k
      if z.state = .off ∨ z.state = x k then s
      else ((s.setLane k { z with txEidle := false, rxEidle := false, wakeAsked := false, deepAsked := false }).laneTo k (x k)).dropToken
        .lane k) s).mode.isolations = s.mode.isolations := foldl_isolations _ (fun u k => ite_isolations rfl (by simp)) _ _
  exact ite_isolations ((hleave _ _ _).trans hlanes) hlanes

end Work

section Live

@[simp] theorem State.dropBuffers_mode (s : State) (n : Nat) : (s.dropBuffers n).mode = s.mode :=
  foldl_same State.mode _ (fun _ _ => State.modFrame_mode _ _ _) _ _

@[simp] theorem State.startCtx_mode (s : State) (n : Nat) (d : Decl) : (s.startCtx n d).mode = s.mode := by
  unfold State.startCtx
  rw [State.ctxTo_mode]
  split
  · rw [State.resetChecker_mode]
    exact State.ctxTo_mode _ _ _
  · exact State.ctxTo_mode _ _ _

theorem State.liveCtx_isolations (s : State) (touched : List Nat) (objs : Tab Obj) (n : Nat) :
    (s.liveCtx touched objs n).mode.isolations = s.mode.isolations := by
  have hidle : (if (s.ctx n).state = .idle then s else (s.dropWork n).dropBuffers n).mode.isolations = s.mode.isolations :=
    ite_isolations rfl (by simp)
  unfold State.liveCtx
  split
  · dsimp only
    split <;> simp [hidle]
  · rfl

theorem State.feedCtx_mode (s : State) (objs : Tab Obj) (n : Nat) : (s.feedCtx objs n).mode = s.mode := rfl

theorem State.feedChan_mode (s : State) (c : Nat) (n : Option Nat) : (s.feedChan c n).mode = s.mode := by
  unfold State.feedChan
  dsimp only
  split <;> simp

theorem State.setChanCfg_mode (s : State) (objs : Tab Obj) (c : Nat) : (s.setChanCfg objs c).mode = s.mode := by
  unfold State.setChanCfg
  dsimp only
  split <;> simp

theorem State.wastePreroll_mode (s : State) (n : Nat) : (s.wastePreroll n).mode = s.mode := by
  unfold State.wastePreroll
  rw [State.setCtx_mode]
  exact foldl_same State.mode _ (fun u p => State.setSlots_mode u _ _) _ _

theorem State.liveStop_isolations (s : State) (cancelled : List Nat) (objs : Tab Obj) (n : Nat) :
    (s.liveStop cancelled objs n).mode.isolations = s.mode.isolations := by
  have hstop : ∀ u : State, (u.stopCtx n).mode.isolations = u.mode.isolations := fun u => ite_isolations rfl (by simp)
  exact ite_isolations rfl ((hstop _).trans (ite_isolations (by rw [State.wastePreroll_mode]) rfl))

theorem State.liveIngest_isolations (s : State) (touched cancelled : List Nat) (objs : Tab Obj) :
    (s.liveIngest touched cancelled objs).mode.isolations = s.mode.isolations := by
  unfold State.liveIngest
  dsimp only
  rw [State.settleAll_mode, foldl_same State.mode _ (fun u c => State.chanStart_mode u c),
    foldl_isolations _ (fun u n => State.liveStop_isolations u cancelled objs n), foldl_same State.mode _ (fun u c => State.setChanCfg_mode u objs c),
    foldl_same State.mode _ (fun u c => State.feedChan_mode u c _), foldl_same State.mode _ (fun u n => State.feedCtx_mode u objs n),
    foldl_isolations _ (fun u n => State.liveCtx_isolations u touched objs n)]

theorem State.liveBonds_isolations (s : State) (objs : Tab Obj) : (s.liveBonds objs).mode.isolations = s.mode.isolations := by
  have hoff : ∀ (u : State) (l : Nat) (b : BondCfg), (u.disableBond l b).mode.isolations = u.mode.isolations := fun u l b =>
    (foldl_isolations _ (fun v k => by simp) _ _).trans (State.bondTo_isolations u l _)
  have hon : ∀ (u : State) (l : Nat) (b : BondCfg), (u.enableBond l b).mode.isolations = u.mode.isolations := by
    intro u l b
    have hen : ∀ g : State → Nat → Lane, ((bondLaneList l b).foldl (fun s k => s.setLane k (g s k)) u).mode.isolations = u.mode.isolations :=
      fun g => foldl_isolations _ (fun v k => by simp) _ _
    exact ite_isolations (hen _) ((foldl_isolations _ (fun v k => by simp) _ _).trans
      ((foldl_isolations _ (fun v k => by simp) _ _).trans (hen _)))
  exact (foldl_isolations _ (fun u p => hon u _ _) _ _).trans (foldl_isolations _ (fun u p => hoff u _ _) _ _)

@[simp] theorem State.askTraining_isolations (s : State) (n : Nat) : (s.askTraining n).mode.isolations = s.mode.isolations := by
  unfold State.askTraining
  dsimp only
  repeat' split
  all_goals simp

theorem State.liveHead_isolations (s : State) (a : Nat) (objs : Tab Obj) (n : Nat) :
    (s.liveHead a objs n).mode.isolations = s.mode.isolations := by
  unfold State.liveHead
  dsimp only
  split
  · repeat' split
    all_goals simp
  · refine ite_isolations rfl ?_
    rw [State.checkSink_mode]
    cases (s.head n).state <;> simp

theorem State.liveSheet_isolations (s : State) (objs : Tab Obj) (n : Nat) : (s.liveSheet objs n).mode.isolations = s.mode.isolations := by
  have hfree : ([0, 1].foldl (fun s k => if (s.engine k).sheet = some n then s.freeEngine k else s) s).mode.isolations = s.mode.isolations :=
    foldl_isolations _ (fun u k => ite_isolations (by simp) rfl) _ _
  unfold State.liveSheet
  dsimp only
  generalize [0, 1].foldl (fun s k => if (s.engine k).sheet = some n then s.freeEngine k else s) s = u at hfree ⊢
  repeat' split
  all_goals simp [hfree]

end Live

end Sys2Proof.Machine
end

section
/-! An isolated unit stays isolated through what its isolation does: the unit stops, what no longer fits is shed (R419). -/

namespace Sys2Proof.Machine

open Sys2Proof.Safety

section Live

theorem State.recStart_isolations (s : State) (r : Nat) : (s.recStart r).mode.isolations = s.mode.isolations := by
  unfold State.recStart
  dsimp only
  rw [foldl_isolations _ (fun u k => by rw [State.restRec_mode]), State.setReg_mode, State.setRecording_mode]
  refine foldl_isolations _ (fun u k => ?_) _ _
  repeat' split
  all_goals simp

theorem State.liveRec_isolations (s : State) (old objs : Tab Obj) (r : Nat) : (s.liveRec old objs r).mode.isolations = s.mode.isolations := by
  have hstop : ∀ u : State, (u.recStop r).mode = u.mode := fun _ => rfl
  unfold State.liveRec
  dsimp only
  repeat' split
  all_goals simp [State.recStart_isolations, hstop]

theorem State.livePacking_mode (s : State) (objs : Tab Obj) : (s.livePacking objs).mode = s.mode := by
  have hseat : ∀ u : State, ((keys s.ctxs).foldl State.reseat u).mode = u.mode :=
    fun u => foldl_same State.mode _ (fun v n => by unfold State.reseat; split <;> rfl) _ _
  have hrec : ∀ (u : State) (l : List Nat) (g : State → Nat → Rec), (l.foldl (fun s r => s.setRecording r (g s r)) u).mode = u.mode :=
    fun u l g => foldl_same State.mode _ (fun v r => State.setRecording_mode v r _) _ _
  unfold State.livePacking
  dsimp only
  repeat' split
  all_goals simp [hseat, hrec]

theorem State.liveConsole_mode (s : State) (objs : Tab Obj) : (s.liveConsole objs).mode = s.mode := by
  have htouch : ∀ (u : State) p, (u.liveTouch objs p).mode = u.mode := fun u p => by unfold State.liveTouch; dsimp only; split <;> rfl
  have hkey : ∀ (u : State) k, (u.liveKey objs k).mode = u.mode := fun u k => by unfold State.liveKey; dsimp only; split <;> rfl
  unfold State.liveConsole
  dsimp only
  rw [foldl_same State.mode _ hkey, foldl_same State.mode _ htouch]

theorem State.livePair_mode (s : State) (objs : Tab Obj) : (s.livePair objs).mode = s.mode := by
  unfold State.livePair State.pairLeave
  dsimp only
  repeat' split
  all_goals simp

theorem State.goLive_isolations (s : State) (a : Nat) (touched cancelled : List Nat) (objs : Tab Obj) :
    (s.goLive a touched cancelled objs).mode.isolations = s.mode.isolations := by
  have hpeak : ∀ u : State, u.notePeak.mode.isolations = u.mode.isolations := fun _ => rfl
  unfold State.goLive
  dsimp only
  rw [hpeak, State.livePair_mode, State.liveConsole_mode, State.livePacking_mode, foldl_isolations _ (fun u r => State.liveRec_isolations u _ _ r),
    foldl_isolations _ (fun u n => State.liveSheet_isolations u _ n), foldl_isolations _ (fun u n => State.liveHead_isolations u _ _ n),
    State.liveBonds_isolations, State.liveIngest_isolations]

end Live

section Pools

theorem State.dropPicture_isolations (s : State) (n : Nat) : (s.dropPicture n).mode.isolations = s.mode.isolations := by
  unfold State.dropPicture
  split
  · dsimp only
    rw [foldl_isolations _ (fun u k => by rw [State.restCore_mode]), State.setCtx_mode, foldl_isolations _ (fun u k => State.freeCore_isolations u n k),
      State.modFrame_mode]
  · rfl

theorem Fit.ctxBufs_isolations (f : Fit) (n : Nat) (d : Decl) : (f.ctxBufs n d).s.mode.isolations = f.s.mode.isolations := by
  unfold Fit.ctxBufs
  extract_lets c need got
  clear_value got
  split
  · exact ite_isolations (State.dropPicture_isolations _ _) rfl
  · split
    · rfl
    · split <;> rfl

theorem Fit.ctx_isolations (grow : Bool) (f : Fit) (n : Nat) : (Fit.ctx grow f n).s.mode.isolations = f.s.mode.isolations := by
  have hpackets : ∀ (g : Fit) (d : Decl), (g.ctxPackets n d).s.mode = g.s.mode := by
    intro g d
    unfold Fit.ctxPackets
    dsimp only
    split <;> rfl
  unfold Fit.ctx
  dsimp only
  split
  · split <;> rfl
  · split
    · rfl
    · rw [hpackets, Fit.ctxBufs_isolations]

theorem Fit.sheet_mode (grow : Bool) (f : Fit) (n : Nat) : (Fit.sheet grow f n).s.mode = f.s.mode := by
  unfold Fit.sheet
  dsimp only
  split
  · split <;> rfl
  · split
    · rfl
    · split <;> rfl

theorem Fit.recording_mode (grow : Bool) (f : Fit) (r : Nat) : (Fit.recording grow f r).s.mode = f.s.mode := by
  unfold Fit.recording
  extract_lets x
  split
  · split
    · rfl
    · split
      · dsimp only
        split <;> rfl
      · rfl
  · split <;> rfl

theorem Fit.surf_mode (grow : Bool) (f : Fit) (n : Nat) : (Fit.surf grow f n).s.mode = f.s.mode := by
  unfold Fit.surf
  dsimp only
  split
  · split
    · rfl
    · split <;> rfl
  · rfl

theorem Fit.retention_mode (grow : Bool) (f : Fit) : (f.retention grow).s.mode = f.s.mode := by
  unfold Fit.retention
  dsimp only
  split
  · rfl
  · split <;> rfl

theorem State.fitPass_isolations (s : State) (grow : Bool) : (s.fitPass grow).s.mode.isolations = s.mode.isolations := by
  have hfold : ∀ {β : Type} (g : Fit → β → Fit), (∀ x b, (g x b).s.mode.isolations = x.s.mode.isolations) → ∀ (l : List β) (x : Fit),
      (l.foldl g x).s.mode.isolations = x.s.mode.isolations := fun g h l x => foldl_same (fun x : Fit => x.s.mode.isolations) g h l x
  unfold State.fitPass
  dsimp only
  rw [hfold _ (fun f n => by rw [Fit.surf_mode]), Fit.retention_mode, hfold _ (fun f n => by rw [Fit.recording_mode]),
    hfold _ (fun f n => by rw [Fit.sheet_mode]), hfold _ (Fit.ctx_isolations grow)]

end Pools

section Isolation

theorem State.startEngine_isolations (s : State) (e k : Nat) : (s.startEngine e k).mode.isolations = s.mode.isolations := by
  induction k generalizing s with
  | zero => rfl
  | succ k ih =>
    unfold State.startEngine
    refine ite_isolations rfl ?_
    split
    · simp
    · refine ite_isolations (by simp) ?_
      dsimp only
      split
      · rw [ih]
        simp
      · simp

theorem State.shedCtxs_mode (s : State) (k : Nat) : (s.shedCtxs k).1.mode = s.mode := by
  induction k generalizing s with
  | zero => rfl
  | succ k ih =>
    unfold State.shedCtxs
    split
    · rfl
    · split
      · rfl
      · exact (ih _).trans (State.emit_mode _ _ _ _)

theorem State.shedRecs_mode (s : State) (k : Nat) : (s.shedRecs k).1.mode = s.mode := by
  induction k generalizing s with
  | zero => rfl
  | succ k ih =>
    unfold State.shedRecs
    split
    · rfl
    · split
      · rfl
      · exact (ih _).trans (State.emit_mode _ _ _ _)

theorem State.settleSheet_mode (s : State) (n : Nat) : (s.settleSheet n).mode = s.mode := by
  unfold State.settleSheet
  split <;> simp

theorem State.shedSheets_isolations (s : State) (k : Nat) : (s.shedSheets k).mode.isolations = s.mode.isolations := by
  induction k generalizing s with
  | zero => rfl
  | succ k ih =>
    unfold State.shedSheets
    refine ite_isolations rfl ?_
    split
    · rfl
    · dsimp only
      rw [ih, State.emit_mode, State.settleSheet_mode, State.sheetMarks_mode, State.setSheet_mode,
        foldl_same State.mode _ (fun u c => State.modFrame_mode u _ _)]
      exact foldl_isolations _ (fun u e => ite_isolations (by simp) rfl) _ _

theorem State.stopUnit_isolations (s : State) (u : IsoUnit) : (s.stopUnit u).mode.isolations = s.mode.isolations := by
  cases u with
  | dec k =>
    show (s.stopDec k.val).mode.isolations = _
    unfold State.stopDec
    simp only [State.setCore_mode, State.dropToken_isolations, State.endWork_mode, State.syncCore_mode]
    refine foldl_isolations _ (fun u n => ?_) _ _
    unfold State.unseat
    split <;> simp
  | sheet e =>
    show (s.stopEngine e.val).mode.isolations = _
    unfold State.stopEngine
    simp only [State.dropToken_isolations, State.setEngine_mode]
    refine (foldl_isolations _ (fun u n => ?_) _ _).trans (State.freeEngine_isolations _ _)
    rw [State.sheetMarks_mode, State.setSheet_mode, foldl_same State.mode _ (fun v c => State.modFrame_mode v _ _)]
  | rec_ k =>
    show (s.stopRecCore k.val).mode.isolations = _
    unfold State.stopRecCore
    rw [State.setRecCore_mode]
    refine (foldl_isolations _ (fun u q => ?_) _ _).trans (by simp)
    dsimp only
    split <;> simp
  | head n =>
    show (s.stopHead n.val).mode.isolations = _
    unfold State.stopHead
    simp only [State.settleHead_mode, State.headTo_mode, State.dropToken_isolations, State.untrain_mode]
    exact ite_isolations (by simp) rfl
  | lane l => exact State.bondTo_isolations _ _ _
  | eth p => rfl

theorem State.fitPools_isolations (s : State) : s.fitPools.s.mode.isolations = s.mode.isolations := by
  unfold State.fitPools
  rw [State.fitPass_isolations, State.fitPass_isolations]

theorem State.repack_isolations (s : State) : s.repack.mode.isolations = s.mode.isolations := by
  have hengine : ∀ u e, (State.runEngine u e).mode.isolations = u.mode.isolations := fun u e => State.startEngine_isolations u e 33
  unfold State.repack
  dsimp only
  rw [foldl_isolations _ hengine, foldl_isolations _ (fun u n => by split <;> simp), State.goLive_isolations, State.fitPools_isolations,
    State.shedRecs_mode, State.shedSheets_isolations, State.shedCtxs_mode]

theorem State.modeTo_isolations (s : State) (m : Mode) (c : Nat) : (s.modeTo m c).mode.isolations = s.mode.isolations := by
  unfold State.modeTo
  dsimp only
  repeat' split
  all_goals simp [ModeUnit.isolations]

theorem State.isolated_of_isolations {s w : State} (h : w.mode.isolations = s.mode.isolations) (u : IsoUnit) :
    w.isolated u = s.isolated u := by
  obtain ⟨hcore, hrest⟩ := Prod.mk.inj h
  obtain ⟨hhead, hlane⟩ := Prod.mk.inj hrest
  cases u <;> simp only [State.isolated, hcore, hhead, hlane]

theorem getLsbD_orBit (w i : Nat) (x : BitVec w) (h : i < w) : (x ||| BitVec.ofNat w (2 ^ i)).getLsbD i = true := by
  rw [BitVec.getLsbD_or, BitVec.getLsbD_ofNat, Nat.testBit_two_pow_self]
  simp [h]

theorem State.markIsolated_isolated (s : State) (u : IsoUnit) : (s.markIsolated u).isolated u = true := by
  cases u with
  | dec k => exact getLsbD_orBit 32 _ _ (by omega)
  | sheet e => exact getLsbD_orBit 32 _ _ (by omega)
  | rec_ k => exact getLsbD_orBit 32 _ _ (by omega)
  | head n => exact getLsbD_orBit 16 _ _ n.isLt
  | lane l => exact getLsbD_orBit 32 _ _ (by omega)
  | eth p => exact getLsbD_orBit 32 _ _ (by omega)

/-- An isolated unit is isolated: it was, or its mark outlives the rest of its isolation. -/
theorem State.isolate_isolated (s : State) (u : IsoUnit) : (s.isolate u).isolated u = true := by
  unfold State.isolate
  split
  · assumption
  · have hkept : ((((s.markIsolated u).stopUnit u).emit .modeIsolate 0 [(IsoUnit.name u).1, (IsoUnit.name u).2]).repack).mode.isolations =
        (s.markIsolated u).mode.isolations := by
      rw [State.repack_isolations, State.emit_mode, State.stopUnit_isolations]
    exact (State.isolated_of_isolations (ite_isolations ((State.modeTo_isolations _ _ _).trans hkept) hkept) u).trans
      (State.markIsolated_isolated s u)

end Isolation

end Sys2Proof.Machine
end

section
/-! Function-level reset, memory errors, self-tests and the health report (R318, R419, R445 to R448). -/

namespace Sys2Proof.Machine

open Sys2Proof.Safety

@[simp] theorem State.updAbort_mode (s : State) (k : Nat) : (State.updAbort s k).mode = s.mode :=
  (congrArg State.mode (State.updAbort_outside { Mask.full with mode := false } s k (by simp [Mask.full])) :)
@[simp] theorem State.setResult_mode (s : State) (off reason : Nat) : (State.setResult s off reason).mode = s.mode :=
  (congrArg State.mode (State.setResult_outside { Mask.full with mode := false } s off reason (by simp [Mask.full])) :)
@[simp] theorem State.sendPairBytes_prot (s : State) (m : PairMsg) (payload : List Byte) :
    (State.sendPairBytes s m payload).prot = s.prot :=
  (congrArg State.prot (State.sendPairBytes_outside { Mask.full with prot := false } s m payload (by simp [Mask.full])) :)

section Reset

theorem State.flrInst_mode (s : State) (n : Nat) : (s.flrInst n).mode = s.mode :=
  mode_of_outside (State.flrInst_outside _ s n (by simp [Mask.full]))

theorem State.flr_mode (s : State) : s.flr.mode = s.mode := by
  have hinst : ((keys s.insts).foldl (fun s n => s.flrInst n) s).mode = s.mode := foldl_same State.mode _ State.flrInst_mode _ _
  have hupd : (((keys s.insts).foldl (fun s n => s.flrInst n) s).updAbort 1).mode = s.mode := by rw [State.updAbort_mode, hinst]
  exact (ite_keeps State.mode (State.setResult_mode _ _ _)).trans hupd

theorem State.updAbort_status (s : State) (k : Nat) : ((s.updAbort k).updSource k).status ≠ 1 := by
  have hself : ∀ (u : State) (x : UpdSource), (u.setUpdSource k x).updSource k = x := fun _ _ => Tab.get_set_self _ _ _ _
  unfold State.updAbort
  split
  · rw [hself]
    show (13 : Nat) ≠ 1
    decide
  · assumption

theorem State.flr_updSource (s : State) : (s.flr.updSource 1).status ≠ 1 := by
  have hresult : ∀ (u : State) (c : Prop) (_ : Decidable c) (o v : Nat), (if c then u.setResult o v else u).updSource 1 = u.updSource 1 :=
    fun u c _ o v => ite_keeps (fun u : State => u.updSource 1) rfl
  have habort := State.updAbort_status ((keys s.insts).foldl (fun s n => s.flrInst n) s) 1
  rw [← hresult _ (((keys s.insts).foldl (fun s n => s.flrInst n) s).updAbort 1).glb.blobReading _ 0x80 (reasonCode (some (cBlob, 1)))] at habort
  exact habort

/-- The three causes of a function-level reset of a device that is up do the same (R318). -/
theorem flr_takesEffect (t : Nat) (s : State) (hp : s.mode.phase = .up) : ∀ c ∈ [Instr.functionLevelReset t, .pcieLinkDown t, .d3hotEntry t],
    gives c s (fun w => w = (s.at t).flr ∧ w.glb.blobReading = false ∧ w.dict.mbxBusy = false ∧ w.dict.mbxDone = false ∧
      (w.updSource 1).status ≠ 1 ∧ (∀ p ∈ w.regs, flrReg p.1 = false) ∧ w.mode.phase = .up) := by
  have hreset : (if (s.at t).mode.phase = .up then Host.Outcome.next (s.at t).flr else .next (s.at t) : Host.Outcome State Fault Refusal) =
      .next (s.at t).flr := if_pos hp
  have hregs : ∀ p ∈ (s.at t).flr.regs, flrReg p.1 = false := fun p h => by simpa using (List.mem_filter.mp h).2
  have hphase : (s.at t).flr.mode.phase = .up := by rw [State.flr_mode]; exact hp
  intro c hc
  have hx : exec c s = .next (s.at t).flr := by
    simp only [List.mem_cons, List.not_mem_nil, or_false] at hc
    rcases hc with rfl | rfl | rfl <;> exact hreset
  exact gives_of_next hx ⟨rfl, rfl, rfl, rfl, State.flr_updSource _, hregs, hphase⟩

end Reset

section Memory

theorem uncorrectableError_up (t : Nat) (x : EccSite) (s : State) (hu : s.up = true) : exec (.uncorrectableError t x) s =
    (let u := (s.at t).setHealth { s.prot.health with eccUe := s.prot.health.eccUe + 1 }
     match x with
     | .dram z => .next (if z = 0 then u.ownSafeHold .memory else u)
     | .sram => .next u
     | .unit i => .next (u.isolate i)) := by
  have hup : (!(s.at t).up) = false := by rw [show (s.at t).up = true from hu]; rfl
  exact if_neg (by rw [hup]; decide)

/-- A memory error in a mode that can be held enters SAFE-HOLD by MEMORY, the partner told or not. -/
theorem State.ownSafeHold_mode (s : State) (h : holdable s.mode.mode = true) : (s.ownSafeHold .memory).mode.mode = .safeHold ∧
    (s.ownSafeHold .memory).mode.shCause = .memory ∧ (s.ownSafeHold .memory).aon.shLatch = true := by
  unfold State.ownSafeHold
  split
  · obtain ⟨hmode, -, hcause, hlatch⟩ := enterSafeHold_mode (s.sendPair (.control (.safeHold s.now))) .memory
      (s.now + s.pair.cmdLead * 1000) (by rw [State.sendPair_mode]; exact h)
    exact ⟨hmode, hcause, hlatch⟩
  · obtain ⟨hmode, -, hcause, hlatch⟩ := enterSafeHold_mode s .memory s.now h
    exact ⟨hmode, hcause, hlatch⟩

/-- The state at the instant, the error counted. -/
def State.errorCounted (s : State) (t : Nat) : State := (s.at t).setHealth { s.prot.health with eccUe := s.prot.health.eccUe + 1 }

theorem State.errorCounted_isolated (s : State) (t : Nat) (u : IsoUnit) : (s.errorCounted t).isolated u = s.isolated u := by
  cases u <;> rfl

theorem memoryErrors_takeEffect (t : Nat) (s : State) (hu : s.up = true) :
    gives (.uncorrectableError t .sram) s (fun w => w.prot.health.eccUe = s.prot.health.eccUe + 1 ∧ w.mode = s.mode) ∧
      (∀ u : IsoUnit, gives (.uncorrectableError t (.unit u)) s (fun w => w = State.isolate (s.errorCounted t) u ∧
        w.isolated u = true ∧ (s.isolated u = false → raises .modeIsolate 0 [(IsoUnit.name u).1, (IsoUnit.name u).2] s w))) ∧
      (holdable s.mode.mode = true → gives (.uncorrectableError t (.dram 0)) s (fun w =>
        w.mode.mode = .safeHold ∧ w.mode.shCause = .memory ∧ w.aon.shLatch = true)) := by
  refine ⟨gives_of_next (uncorrectableError_up t .sram s hu) ⟨rfl, rfl⟩, fun u => ?_, fun h => ?_⟩
  · refine gives_of_next (uncorrectableError_up t (.unit u) s hu) ⟨rfl, State.isolate_isolated _ _, fun h => ?_⟩
    exact State.isolate_raises (s := s.errorCounted t) s u rfl ((State.errorCounted_isolated s t u).trans h)
  · exact gives_of_next (uncorrectableError_up t (.dram 0) s hu) (State.ownSafeHold_mode (s.errorCounted t) h)

end Memory

section Tests

/-- A unit that was not pending and fails is pending, with SELFTEST_FAIL for it and 0 (R445). -/
theorem State.testFailed_first (s v : State) (u : Nat) (he : s.events = v.events) (h : s.prot.health.pending.contains u = false) :
    (s.testFailed u).prot.health.pending = u :: s.prot.health.pending ∧ raises .modeSelftestFail 0 [(u : Int), 0] v (s.testFailed u) := by
  have hx : s.testFailed u = (s.setHealth { s.prot.health with pending := u :: s.prot.health.pending }).emit .modeSelftestFail 0 [u, 0] := by
    unfold State.testFailed
    simp only [h, Bool.false_eq_true, if_false, Bool.not_false, if_true]
  rw [hx, State.emit_prot]
  exact ⟨rfl, raises_emit_self _ _ _ _ _ he⟩

theorem selftestRun_due (t : Nat) (u : Fin 42) (s : State) (hu : s.up = true) (ht : s.testable u.val = true) (hi : s.testIdle u.val = true)
    (pass : Bool) (hp : s.prot.health.pending.contains u.val = false) : exec (.selftestRun t u pass) s =
    .next (if pass then (s.at t).testRan u.val else ((s.at t).testRan u.val).testFailed u.val) := by
  refine (if_pos ⟨hu, ht, hi⟩).trans ?_
  have hpend : ((s.at t).testRan u.val).prot.health.pending.contains u.val = false := hp
  cases pass with
  | true => simp only [hpend, Bool.not_true, Bool.false_eq_true, if_false, if_true]
  | false => rfl

theorem selftestRun_takesEffect (t : Nat) (s : State) (u : Fin 42) (hu : s.up = true) (ht : s.testable u.val = true)
    (hi : s.testIdle u.val = true) (hp : s.prot.health.pending.contains u.val = false) :
    gives (.selftestRun t u true) s (fun w => Tab.get 0 w.prot.health.lastRun u.val = (s.at t).now ∧
        w.prot.health.pending = s.prot.health.pending) ∧
      gives (.selftestRun t u false) s (fun w => w.prot.health.pending = u.val :: s.prot.health.pending ∧
        raises .modeSelftestFail 0 [u.val, 0] s w) := by
  refine ⟨gives_of_next (selftestRun_due t u s hu ht hi true hp) ⟨Tab.get_set_self _ _ _ _, rfl⟩,
    gives_of_next (selftestRun_due t u s hu ht hi false hp) ?_⟩
  exact State.testFailed_first ((s.at t).testRan u.val) s u.val rfl hp

theorem selftestStarved_takesEffect (t : Nat) (s : State) (u : Fin 41) (hu : s.up = true) (ht : s.testable u.val = true)
    (hs : s.prot.health.starved.contains u.val = false)
    (hlate : max (Tab.get 0 s.prot.health.lastRun u.val) s.prot.health.bootAt + 10 * s.testPeriod u.val ≤ (s.at t).now) :
    gives (.selftestStarved t u) s (fun w => w.prot.health.starved = u.val :: s.prot.health.starved ∧
      raises .modeSelftestFail 0 [u.val, 1] s w) := by
  have hnew : ¬ s.prot.health.starved.contains u.val = true := fun h => Bool.false_ne_true (hs.symm.trans h)
  refine gives_of_next (if_pos ⟨hu, ht, hnew, hlate⟩) ?_
  rw [State.emit_prot]
  exact ⟨rfl, raises_emit_self _ _ _ _ _ rfl⟩

theorem pllMonitorFail_takesEffect (t : Nat) (s : State) (hu : s.up = true) (hp : s.prot.health.pending.contains 41 = false) :
    gives (.pllMonitorFail t) s (fun w => w.prot.health.pending = 41 :: s.prot.health.pending ∧
      raises .modeSelftestFail 0 [41, 0] s w) :=
  gives_of_next (if_pos hu) (State.testFailed_first (s.at t) s 41 rfl hp)

theorem healthReport_takesEffect (t : Nat) (s : State) (temp : BitVec 16) (ce : Nat) (hu : s.up = true) :
    gives (.healthReport t temp ce) s (fun w => w.prot.health.seq = s.prot.health.seq + 1 ∧
      w.prot.health.report = withCrc ((s.at t).reportBody temp ce) ∧
      w.prot.health.faults = BitVec.ofNat 32 ((s.at t).faultBits temp) ∧ w.prot.health.eccUe = 0) := by
  have hup : ¬ (!(s.at t).up) = true := by rw [show (s.at t).up = true from hu]; decide
  refine gives_of_next (if_neg hup) ?_
  dsimp only
  split
  · rw [State.sendPairBytes_prot]
    exact ⟨rfl, rfl, rfl, rfl⟩
  · rw [State.emit_prot, State.sendPairBytes_prot]
    exact ⟨rfl, rfl, rfl, rfl⟩

end Tests

/-- Settles O38: each command's answer is read off its branch; isolation keeps the events and the marks through all that it stops and sheds. -/
theorem healthAndResets : Obligations.HealthAndResets := by
  intro t s
  exact ⟨flr_takesEffect t s, memoryErrors_takeEffect t s, fun u => selftestRun_takesEffect t s u,
    fun u => selftestStarved_takesEffect t s u, pllMonitorFail_takesEffect t s,
    fun temp ce => healthReport_takesEffect t s temp ce⟩

end Sys2Proof.Machine
end
